-- ==== Sys2Proof/Word.lean ====
section
/-!
DEFINITION. The plain words of the model: bytes and attribute words, the two ports, and the keyed list that every
sparse table of the drive is held in. Widths that the spec treats as bits are bit vectors; counts, times, energies and
identifiers are natural numbers.
-/

namespace Sys2Proof

/-- A byte of a key, a value, a frame or a string. -/
abbrev Byte := BitVec 8

/-- A 64-bit attribute word (ch. 00, "Field maps and attributes"). -/
abbrev Word64 := BitVec 64

/-- A sparse table: a list of keyed entries. `AMap.set` and `AMap.del` keep at most one entry per key. -/
abbrev AMap (κ α : Type) := List (κ × α)

namespace AMap

variable {κ α : Type} [DecidableEq κ]

/-- The entry under a key, if the table lists one. -/
def find (m : AMap κ α) (k : κ) : Option α :=
  match m with
  | [] => none
  | (k', v) :: rest => if k' = k then some v else AMap.find rest k

/-- The entry under a key, or a stated default. -/
def getD (m : AMap κ α) (k : κ) (d : α) : α := (AMap.find m k).getD d

/-- The table without a key. -/
def del (m : AMap κ α) (k : κ) : AMap κ α :=
  match m with
  | [] => []
  | (k', v) :: rest => if k' = k then AMap.del rest k else (k', v) :: AMap.del rest k

/-- The table with one key set. -/
def set (m : AMap κ α) (k : κ) (v : α) : AMap κ α := (k, v) :: AMap.del m k

/-- Change the entry under a key, when there is one. -/
def modify (m : AMap κ α) (k : κ) (f : α → α) : AMap κ α :=
  match AMap.find m k with
  | none => m
  | some v => AMap.set m k (f v)

/-- The keys a table lists. -/
def keys (m : AMap κ α) : List κ := m.map Prod.fst

/-- No key twice. -/
def NoDup (m : AMap κ α) : Prop := (AMap.keys m).Nodup

@[simp] theorem find_nil (k : κ) : AMap.find ([] : AMap κ α) k = none := rfl

theorem find_del_same (m : AMap κ α) (k : κ) : AMap.find (AMap.del m k) k = none := by
  induction m with
  | nil => rfl
  | cons p rest ih =>
    obtain ⟨k', v⟩ := p
    by_cases h : k' = k
    · simp [AMap.del, h, ih]
    · simp [AMap.del, AMap.find, h, ih]

theorem find_del_other (m : AMap κ α) {k j : κ} (hj : j ≠ k) :
    AMap.find (AMap.del m k) j = AMap.find m j := by
  induction m with
  | nil => rfl
  | cons p rest ih =>
    obtain ⟨k', v⟩ := p
    by_cases h : k' = k
    · subst h
      simp [AMap.del, AMap.find, ih, hj.symm]
    · by_cases h2 : k' = j
      · subst h2
        simp [AMap.del, AMap.find, h]
      · simp [AMap.del, AMap.find, h, h2, ih]

@[simp] theorem find_set_same (m : AMap κ α) (k : κ) (v : α) : AMap.find (AMap.set m k v) k = some v := by
  simp [AMap.set, AMap.find]

theorem find_set_other (m : AMap κ α) {k j : κ} (v : α) (hj : j ≠ k) :
    AMap.find (AMap.set m k v) j = AMap.find m j := by
  simp [AMap.set, AMap.find, hj.symm, find_del_other m hj]

@[simp] theorem getD_set_same (m : AMap κ α) (k : κ) (v d : α) : AMap.getD (AMap.set m k v) k d = v := by
  simp [AMap.getD]

theorem getD_set_other (m : AMap κ α) {k j : κ} (v d : α) (hj : j ≠ k) :
    AMap.getD (AMap.set m k v) j d = AMap.getD m j d := by
  simp [AMap.getD, find_set_other m v hj]

theorem keys_del (m : AMap κ α) (k : κ) : AMap.keys (AMap.del m k) = (AMap.keys m).filter (fun j => j ≠ k) := by
  induction m with
  | nil => rfl
  | cons p rest ih =>
    obtain ⟨k', v⟩ := p
    by_cases h : k' = k
    · simpa [AMap.del, AMap.keys, h] using ih
    · simpa [AMap.del, AMap.keys, h] using ih

theorem NoDup_del {m : AMap κ α} (h : AMap.NoDup m) (k : κ) : AMap.NoDup (AMap.del m k) := by
  unfold AMap.NoDup at *
  rw [keys_del]
  exact h.filter _

theorem NoDup_set {m : AMap κ α} (h : AMap.NoDup m) (k : κ) (v : α) : AMap.NoDup (AMap.set m k v) := by
  have h' := NoDup_del h k
  unfold AMap.NoDup at *
  simp only [AMap.set, AMap.keys, List.map_cons, List.nodup_cons] at *
  refine ⟨?_, h'⟩
  have := keys_del m k
  simp only [AMap.keys] at this
  rw [this]
  simp

end AMap

/-- The two network ports (ch. 07). -/
inductive PortId
  | p0 | p1
deriving DecidableEq, Repr

/-- The other port. -/
def PortId.other : PortId → PortId
  | .p0 => .p1
  | .p1 => .p0

/-- The port's number. -/
def PortId.num : PortId → Nat
  | .p0 => 0
  | .p1 => 1

/-- One value for each of the two ports. -/
structure Duo (α : Type) where
  /-- Port 0's. -/
  a : α
  /-- Port 1's. -/
  b : α
deriving DecidableEq, Repr

namespace Duo

variable {α : Type}

/-- The value of one port. -/
def get (d : Duo α) : PortId → α
  | .p0 => d.a
  | .p1 => d.b

/-- Replace the value of one port. -/
def put (d : Duo α) (p : PortId) (v : α) : Duo α :=
  match p with
  | .p0 => { d with a := v }
  | .p1 => { d with b := v }

/-- Change the value of one port. -/
def upd (d : Duo α) (p : PortId) (f : α → α) : Duo α := d.put p (f (d.get p))

@[simp] theorem get_put_same (d : Duo α) (p : PortId) (v : α) : (d.put p v).get p = v := by cases p <;> rfl

@[simp] theorem get_put_other (d : Duo α) (p : PortId) (v : α) : (d.put p v).get p.other = d.get p.other := by
  cases p <;> rfl

end Duo

/-- The islands of the Lokar controller (ch. 04, Islands table). -/
inductive Island
  | svc | pwr | core | dram | net0 | net1 | proto | sched | index | arc | parity
  | media (channel : Fin 16)
deriving DecidableEq, Repr

/-- The island identifier (ch. 04, Islands table; R29: 0x0B to 0x0F are unassigned). -/
def Island.id : Island → Nat
  | .svc => 0x00 | .pwr => 0x01 | .core => 0x02 | .dram => 0x03 | .net0 => 0x04 | .net1 => 0x05
  | .proto => 0x06 | .sched => 0x07 | .index => 0x08 | .arc => 0x09 | .parity => 0x0A
  | .media c => 0x10 + c.val

/-- The island an identifier names, if it is assigned (R158). -/
def Island.ofId (n : Nat) : Option Island :=
  match n with
  | 0x00 => some .svc | 0x01 => some .pwr | 0x02 => some .core | 0x03 => some .dram
  | 0x04 => some .net0 | 0x05 => some .net1 | 0x06 => some .proto | 0x07 => some .sched
  | 0x08 => some .index | 0x09 => some .arc | 0x0A => some .parity
  | n => if h : 0x10 ≤ n ∧ n < 0x20 then some (.media ⟨n - 0x10, by omega⟩) else none

/-- The NET island of a port. -/
def PortId.island : PortId → Island
  | .p0 => .net0
  | .p1 => .net1

/-- Every MEDIA island. -/
def Island.allMedia : List Island := (List.finRange 16).map Island.media

/-- Every island, in identifier order. -/
def Island.all : List Island :=
  [.svc, .pwr, .core, .dram, .net0, .net1, .proto, .sched, .index, .arc, .parity] ++ Island.allMedia

/-- A fault of these is handled under R153 or R155 (ch. 04, Islands table, column Essential). -/
def Island.essential : Island → Bool
  | .svc | .pwr | .core | .dram => true
  | _ => false

/-- Divide and round up. -/
def ceilDiv (a b : Nat) : Nat := (a + (b - 1)) / b

/-- Insert into a list kept in ascending order of a key. -/
def insertBy {α : Type} (lt : α → α → Bool) (x : α) : List α → List α
  | [] => [x]
  | y :: ys => if lt x y then x :: y :: ys else y :: insertBy lt x ys

/-- Sort by insertion (stable on equal keys is not needed by any rule). -/
def sortBy {α : Type} (lt : α → α → Bool) : List α → List α
  | [] => []
  | x :: xs => insertBy lt x (sortBy lt xs)

/-- Byte strings in ascending order, a proper start of a string before the string. -/
def bytesLt : List Byte → List Byte → Bool
  | [], [] => false
  | [], _ :: _ => true
  | _ :: _, [] => false
  | x :: xs, y :: ys => if x.toNat < y.toNat then true else if x.toNat > y.toNat then false else bytesLt xs ys

/-- The largest of a list of numbers, 0 for none. -/
def listMax (l : List Nat) : Nat := l.foldl max 0

/-- The sum of a list of numbers. -/
def listSum (l : List Nat) : Nat := l.foldl (· + ·) 0

end Sys2Proof
end

