-- ==== Sys2Proof/Names.lean ====
section
/-!
DEFINITION. The names of the drive that its commands, attributes, events and answers carry: port counters, attributes,
commit groups, event codes, console error names, operation statuses. Their numbers are assigned by the spec's reference
chapter (ch. 20) and by chapter 10; the functions that map a name to its number stand in Sys2Proof/Machine/Attrs.lean
and Sys2Proof/Machine/Events.lean.
-/

namespace Sys2Proof

/-- A port counter (ch. 20, Port counter codes table; ch. 07, Port counters table). -/
inductive Ctr
  | rxOctets | rxFrames | rxUnicast | rxMulticast | rxBroadcast | rxVlanTagged | rxPause | rxPfc | rxSize64
  | rxSize65_127 | rxSize128_255 | rxSize256_511 | rxSize512_1023 | rxSize1024_1518 | rxSize1519_2047
  | rxSize2048_4095 | rxSize4096_9216 | rxFcsErr | rxRunt | rxFragment | rxSymbolErr | rxFilterMiss | rxStandby
  | rxVlanUnknown | rxTypeDrop | rxBufDrop | txOctets | txFrames | txUnicast | txMulticast | txBroadcast
  | txVlanTagged | txSize64 | txSize65_127 | txSize128_255 | txSize256_511 | txSize512_1023 | txSize1024_1518
  | txSize1519_2047 | txSize2048_4095 | txSize4096_9216 | txQ0 | txQ1 | txQ2 | txQ3 | txQ4 | txQ5 | txQ6 | txQ7
  | txPausedQuanta | txDiscard
deriving DecidableEq, Repr

/-- The counters of the protocol engine, in the order of R422. -/
inductive ProtoCtr
  | badFrame | resync | resyncBytes | resyncFail | timeoutClose | authFail | kv1Refused | hbDropped
  | oversizeP0 | oversizeP1
deriving DecidableEq, Repr

/-- The health counters, in the order of the Health counters table (ch. 14). -/
inductive HealthCtr
  | pagesRebuilt | pagesLost | refreshes | halfErased | shredBands | feedLosses | changeovers | powerFails
  | levelChanges | thermalHalts | holdupWeak | lidOpens | presenceFaults
deriving DecidableEq, Repr

/-- The Arcade's counters, in code order (ch. 20, ARC.STAT). -/
inductive ArcCtr
  | searches | steps | falseHits | scrubFixes | entriesLost | moves | pairedWrites
deriving DecidableEq, Repr

/-- A stall's number. -/
abbrev StallNo := Fin 128

/-- Every assigned attribute (ch. 20, Attribute map). -/
inductive Attr
  | isl (i : Island)
  | bayStatus | bayCfg | startStatus | startAlt
  | fwStatus | fwVersionA | fwVersionB | gateVersion | parcelId
  | lcStatus | testStatus | testUnusable
  | feedStatus | policy | holdupStatus | holdupLast | thermalStatus | eccCorrected
  | kvCfg | kv1SrcHi (k : Fin 64) | kv1SrcLo (k : Fin 64) | kv1SrcCtrl (k : Fin 64) | protoStat (c : ProtoCtr)
  | schedOps (s : StallNo) | schedRd (s : StallNo) | schedWr (s : StallNo) | schedBf (s : StallNo)
  | schedWeight (s : StallNo)
  | arcBankCfg (b : Fin 16) | arcBankStatus (b : Fin 16) | arcStatus | arcStat (c : ArcCtr)
  | cfgSequence | bondCfg | bondStatus | vlanCfg
  | vlanKCfg (k : Fin 8) | vlanStallsLo (k : Fin 8) | vlanStallsHi (k : Fin 8)
  | ifCfg (k : Fin 9) | ifV4 (k : Fin 9) | ifV4gw (k : Fin 9) | ifV6Hi (k : Fin 9) | ifV6Lo (k : Fin 9)
  | ifV6gwHi (k : Fin 9) | ifV6gwLo (k : Fin 9)
  | routeCfg | lldpName (k : Fin 8) | timeCfg | ntpHi (k : Fin 4) | ntpLo (k : Fin 4)
  | timeStatus | timeWall | timeLedger
  | mediaStatus | mediaLostLo | mediaLostHi
  | healthWear | healthBlocks | healthTemp (m : Fin 14) | healthHoldup (m : Fin 64) | healthCtr (c : HealthCtr)
  | gcStatus | retCfg
  | rowCfg | rowStatus | rowEpoch | rowLeader | rowNeighbour | mirrorMark | mirrorHeld | rowBeaconBad | rowMsgBad
  | fwCfg | resLive | resLiveMax
  | stallState (s : StallNo) | stallHost (s : StallNo) | stallLateDiscard (s : StallNo) | stallAborted (s : StallNo)
  | quotaBytes (s : StallNo) | quotaHold (s : StallNo) | quotaObjects (s : StallNo) | quotaTags (s : StallNo)
  | retention (s : StallNo) | meterCfg (s : StallNo)
  | meterStored (s : StallNo) | meterWritten (s : StallNo) | meterRead (s : StallNo) | meterOps (s : StallNo)
  | meterShredded (s : StallNo) | rowten (s : StallNo)
  | phyCfg (p : PortId) | phyStatus (p : PortId) | macAddr (p : PortId) | macCfg (p : PortId) | macDiag (p : PortId)
  | macFilter (p : PortId) (f : Fin 16) | hwstat (p : PortId) (c : Ctr) | hwFold (p : PortId)
  | stat (p : PortId) (c : Ctr) | wakeCfg (p : PortId)
  | wakeCtrl (p : PortId) (k : Fin 4) | wakeMask (p : PortId) (k : Fin 4)
  | wakeData (p : PortId) (j : Fin 8) (k : Fin 4)
deriving DecidableEq, Repr

/-- The commit groups (ch. 20, Commit groups table). -/
inductive Group
  | pwrPolicy | bond | vlan (k : Fin 8) | ifc (k : Fin 9) | lldpName | time
  | wakep (p : PortId) (k : Fin 4) | kv1Src (k : Fin 64)
  | quota (s : StallNo) | ret (s : StallNo) | sched (s : StallNo) | arcBank (b : Fin 16) | row
deriving DecidableEq, Repr

/-- The events (ch. 20, Event codes table), one line per block of 256 codes. -/
inductive Ev
  | presenceOpen | presenceClosed | presenceFault | lidOpen | lidClosed | lineFault | lineRecovered
  | feedLost | feedRestored | feedChangeover | levelChange | holdupWeak | holdupRestored | cellFault | coldGate
  | coldOpen | thermalThrottle | thermalHalt | powerFail
  | islandFault | handshakeTimeout | islandDead | essentialFault | gatehouseReset | dramUncorrectable
  | fuseMirrorFixed
  | stepFail | stepAlternative | startSlotChange | fullscanBegin | fullscanDone | startHotHold | startReady
  | ledgerStateRebuilt | safeMode | startCleared | arcadeEmpty
  | mgmtAuthFail | mgmtSessionClosed | wardenEnrolled | wardenRemoved
  | linkUp | linkDown | linkDownshift | bondFailover | lagNoPartner | lagSpeedMismatch | counterHalf
  | counterSaturated | foldError | statsCleared | pauseStorm | dormantEnter | wake
  | addrDuplicate | addrLost | addrLimit | addrRefused | timeSource | clockStep | timeStepRefused | ledgerGap
  | kvAuthFail | kvAuthLockout | kvResync | kvResyncFail | kv1Refused | kv1Enabled | kv1Disabled
  | stallCreated | stallReset | stallRebound | stallRemoved | stallKeyExported | stallCredChanged | mbxDoorbell
  | stallFreezing | stallFrozen | stallThawed | relocateDone | relocateFailed
  | holdPlaced | holdReleased | meterSaturated | meterPeriodClosed
  | mapEntryBad | logResync | shelterReplayed | shelterMoved | pageRebuilt | pageLost | dieLost | rebuildStalled
  | rebuildDone
  | gcState | wearLevelMove | blockRefreshed | patrolRelocate | patrolLate | blockRetired | sparesExhausted
  | halfEraseFound | eraseRingInvalid | shredResumed | lifeThreshold
  | softFalseHit | arcEntryLost | arcScrubFix | arcGrantChanged | arcRebuildDone
  | rowJoined | rowLeader | rowMemberAdded | rowMemberRemoved | rowFull | rowSerialConflict | mirrorLagging
  | mirrorCurrent | mirrorRefused | mirrorRestoreDone
  | parcelBegun | parcelComplete | parcelExpired | svnEnd | fwStaged | fwTrialFailed | fwFallback | fwConfirmed
  | fwImageBad | fwRecovery | svnBurned | fuseBurnFail | gateUpdated | gateFallback | fwRelayStopped
  | lcTransitionBegin | lcChanged | lcTransitionAbandoned | lcFuseFail | selftestBegin | selftestEnd
  | islandUnusable | islandRestored | islandRevived
deriving DecidableEq, Repr

/-- Severity (ch. 20, Severity encoding table). -/
inductive Sev
  | info | warn | fault
deriving DecidableEq, Repr

/-- The names an `err` answer carries (R248: the Console error names table, the commit-rule names of the Commit groups
table, and the condition names of the Life-cycle transitions table). -/
inductive ErrName
  | lineTooLong | badChar | noTag | crc | crcMissing
  | unknownCommand | badArg | dupArg | missingArg | badValue | range
  | readOnly | mixedAccess | noSuchAttr | islandAbsent | noSuchIsland | noShadow | mode | safeMode | halting
  | slotUsed | fpEnrolled | noSuchWarden | noWake | noCapture | sourceActive | listFull
  | stallState | relocating | held | stallFrozen | relocateRefused
  | blobInvalid | blobMismatch
  | noParcel | notComplete | parcelBusy | pieceHash | pieceTimeout | gateFailed
  | badParcel | svnEnd | incompatible | versionDown | svnLow
  | lifecycle | serial | jsvc | essential | inService
  -- commit rules (R172)
  | vidDuplicate | addrInvalid | addrOverlap | groupsFull | badName | maskEmpty | addrDuplicate
  | holdAboveBytes | retDefaultAboveMax | burstSmall
  | widthNotEmpty | quarterNotEmpty | widthMixed | fixedBank | noRowKey
  -- conditions of the Life-cycle transitions table (R784)
  | allPass | returnsLeft | svnLeft
deriving DecidableEq, Repr

/-- Why a command is `denied`, in the order of R247. -/
inductive Denial
  | role | lidLock | presence
deriving DecidableEq, Repr

/-- Operation statuses (ch. 10, Status encoding table, R489), in number order from 0x0000. -/
inductive Status
  | ok | notReady | notFound | exists_ | versionMismatch | versionEnd | tooLarge | quota | tryLater
  | staleGeneration | duplicateUnknown | noSuchTicket | unavailable | denied | badFrame | partial_ | lockTimeout
  | frozen | invalid
deriving DecidableEq, Repr

end Sys2Proof
end

