-- ==== Sys2Proof/Syntax.lean ====
section
/-!
DEFINITION. The commands of the block: one constructor per row of the table of operations and events, with what the
environment supplies as operands: the arguments of a console line, a received frame, what a sensor or a peer reports.
-/

namespace Sys2Proof

/-! ### The consoles (ch. 06) -/

/-- A Fimor session (ch. 06, Fimor channels table). -/
inductive SessId
  | jcon | usb | mgmt (k : Fin 8)
deriving DecidableEq, Repr

/-- The line a console command stands in: its session, its tag in machine mode (R238), and its characters, from which the
model makes the checks of R233. A command that comes without its text (the empty list) has passed the checks of its form. -/
structure Line where
  /-- The session that sent it. -/
  sess : SessId
  /-- The tag, in machine mode. -/
  tag : Option Nat := none
  /-- The line's characters without tag, CRC suffix and terminator. -/
  text : List Byte := []
deriving DecidableEq, Repr

/-- How `get` shows an attribute (R253). -/
inductive GetForm
  | plain | raw | shadow
deriving DecidableEq, Repr

/-- What one `set` line assigns (R254): named fields of one attribute, or the whole attribute. A value of the wrong form
is `none` (BAD_VALUE). `others` holds when some assignment names a field of another attribute. -/
structure Assign where
  /-- Field assignments; empty for a whole-attribute set. -/
  fields : List (String × Option Int) := []
  /-- The value of a whole-attribute set. -/
  whole : Option (Option Int) := none
  /-- The line also names fields of another attribute. -/
  others : Bool := false
deriving DecidableEq, Repr

/-! ### Power, start and housing (ch. 02 to 05) -/

/-- What the real-time clock shows when the gatehouse reads it (R361): a wall time, and whether the oscillator stopped. -/
structure RtcReading where
  /-- Wall microseconds shown. -/
  wall : Nat
  /-- The oscillator-stop flag. -/
  stopped : Bool
deriving DecidableEq, Repr

/-- Why an orderly halt begins (R45, R108, R134, R316). -/
inductive HaltReason
  | halt | thermal | restart | starvation | dormant
deriving DecidableEq, Repr

/-- Cause of an island's last fault (ch. 04, Fault cause encoding). -/
inductive FaultCause
  | none_ | clock | voltage | handshakeTimeout | selftestFail | startStepFail | watchdog
deriving DecidableEq, Repr

/-- The region of DRAM that an uncorrectable error hits (R161). -/
inductive DramRegion
  | cache | map | blockTable | index | writeBuffer | firmware
deriving DecidableEq, Repr

/-- A key of a stall: the stall and the key's bytes. -/
structure ObjKey where
  /-- The stall. -/
  stall : StallNo
  /-- The key's bytes, 1 to 255. -/
  key : List Byte
deriving DecidableEq, Repr

/-- A reading of the four presence channels and the two bay inputs (ch. 02): a contact that is closed reads true. -/
structure BayPins where
  /-- Steward button, normally-open channel, closed. -/
  btnA : Bool := false
  /-- Steward button, normally-closed channel, closed. -/
  btnB : Bool := true
  /-- Lid reed, normally-open channel, closed (magnet present). -/
  lidA : Bool := true
  /-- Lid reed, normally-closed channel, closed (magnet absent). -/
  lidB : Bool := false
  /-- J-SVC jumper fitted. -/
  jsvc : Bool := false
  /-- VBUS present. -/
  usb : Bool := false
  /-- RXD of J-CON reads low. -/
  rxdLow : Bool := false
deriving DecidableEq, Repr

/-! ### Ports, addresses and time (ch. 07, 08) -/

/-- An IP address, 128 bits; an IPv4 address is ::ffff:a.b.c.d (R853). -/
abbrev IpAddr := BitVec 128

/-- A MAC address, 48 bits, the first octet in [47:40]. -/
abbrev MacAddr := BitVec 48

/-- An IP interface: 0 to 7 for VLAN0 to VLAN7, 8 for the untagged network (ch. 08, Interfaces table). -/
abbrev IfNo := Fin 9

/-- What the comparison of a position's array with its check copy and record finds (R676 to R678, R680). -/
inductive ArcCheck
  | agree
  | disagree
  | uncorrectable
deriving DecidableEq, Repr

/-- A GET or HEAD request whose header and key stand in a frame that still arrives (R298): what PROTO starts from before
the frame's FCS and the request's trailer have verified. -/
structure SpecReq where
  /-- The connection and channel it came on. -/
  conn : Nat
  /-- Channel. -/
  chan : Nat := 0
  /-- The request is a HEAD. -/
  head : Bool := false
  /-- The key's bytes. -/
  key : List Byte
  /-- Offset and length of the value it asks for, as GET gives them (R449). -/
  range : Nat × Nat := (0, 0)
  /-- What the hot-key directory's search meets at the position it hits (R676, R692). -/
  check : ArcCheck := .agree
deriving DecidableEq, Repr

/-- A received frame as the MAC sees it (R288, R289). -/
structure EthFrame where
  /-- Length from the destination address to the FCS. -/
  len : Nat
  /-- The PHY reported a coding error. -/
  symbolErr : Bool := false
  /-- Destination address. -/
  dst : MacAddr
  /-- Outer TPID when the frame carries a tag. -/
  tpid : Option Nat := none
  /-- VID of the tag. -/
  vid : Nat := 0
  /-- The frame's bytes from its first on, as far as a check, the capture or a wake detector needs them. -/
  bytes : List Byte := []
  /-- The GET and HEAD requests whose header and key it brings, as PROTO parses them while it arrives (R298). -/
  gets : List SpecReq := []
  /-- Bytes PROTO has taken out of the port's receive buffer since the last frame (R288, R820). -/
  taken : Nat := 4194304
  /-- It carries a fragment of an IP packet (R345). -/
  fragment : Bool := false
deriving DecidableEq, Repr

/-- The kinds of destination the counters separate. -/
inductive CastKind
  | unicast | multicast | broadcast
deriving DecidableEq, Repr

/-- What an LACPDU tells of its sender (R278): partner system and whether the partner is in sync, collecting and
distributing on this link. -/
structure Lacpdu where
  /-- Partner system identifier. -/
  system : MacAddr
  /-- The partner aggregates this link with the drive and is Collecting and Distributing. -/
  inSync : Bool
deriving DecidableEq, Repr

/-- A DHCPv4 message to the client (R336). -/
inductive Dhcp4
  | offer (addr server : IpAddr)
  | ack (addr server gw : IpAddr) (maskLen lease t1 t2 : Nat) (ntp : List IpAddr)
  | nak
deriving DecidableEq, Repr

/-- A DHCPv6 message to the client (R337). -/
inductive Dhcp6
  | advertise (server : List Byte)
  | reply (addr : Option IpAddr) (preferred valid t1 t2 : Nat) (ntp : List IpAddr)
deriving DecidableEq, Repr

/-- A prefix of a Router Advertisement. -/
structure RaPrefix where
  /-- The /64 prefix, with interface bits zero. -/
  net : IpAddr
  /-- The A flag. -/
  auto : Bool
  /-- Valid lifetime, seconds. -/
  valid : Nat
deriving DecidableEq, Repr

/-- A Router Advertisement (R337, R341). -/
structure RouterAdv where
  /-- The router's address. -/
  router : IpAddr
  /-- Router lifetime, seconds; 0 when it is no default router. -/
  lifetime : Nat
  /-- The M flag. -/
  managed : Bool
  /-- The O flag. -/
  other : Bool
  /-- The MTU option. -/
  mtu : Option Nat
  /-- The prefixes. -/
  prefixes : List RaPrefix
deriving DecidableEq, Repr

/-- A received LLDPDU (R347). -/
structure LldpPdu where
  /-- The PDU is well formed. -/
  wellFormed : Bool
  /-- Chassis ID. -/
  chassis : List Byte
  /-- Port ID. -/
  portId : List Byte
  /-- System Name. -/
  sysName : List Byte
  /-- Port VLAN ID. -/
  pvid : Nat
  /-- Time To Live, seconds. -/
  ttl : Nat
  /-- PSE allocated value of the Power via MDI TLV, 0.1 W. -/
  alloc : Option Nat
deriving DecidableEq, Repr

/-- The addresses of a packet that arrives: where it comes from, and which address of the drive it was sent to (R330). -/
structure Ends where
  /-- The sender's address. -/
  src : IpAddr
  /-- The address it was sent to. -/
  dst : IpAddr
  /-- The sender's port, 0 where its protocol has none. -/
  sport : Nat := 0
deriving DecidableEq, Repr

/-- What arrives at a port without a listener, and that port (R346). -/
inductive ClosedProto
  | tcp (dport : Nat)
  | udp (dport : Nat)
deriving DecidableEq, Repr

/-- What the end of a flush tells: how long it took, and which of its pages failed to program (R124, R607). -/
structure FlushEnd where
  /-- Duration [µs]. -/
  duration : Nat
  /-- The places in the shelter of the pages that failed. -/
  fails : List Nat
deriving DecidableEq, Repr

/-- Who waited for a handshake, and on which work item (R149). -/
structure Requester where
  /-- The requesting island. -/
  island : Island
  /-- Its work item; none where the hand-shake served no operation. -/
  item : Option Nat
deriving DecidableEq, Repr

/-- An Announce message of PTP (R349): the grandmaster, and whether it is the best by IEEE 1588's algorithm. -/
structure PtpAnnounce where
  /-- Grandmaster identity. -/
  master : Nat
  /-- Best of the masters heard, by IEEE 1588. -/
  best : Bool
  /-- Steps removed plus one, reported as the stratum. -/
  stratum : Nat
  /-- Its domain. -/
  domain : Nat := 0
  /-- The interface it came by. -/
  ifc : IfNo := 8
  /-- Its transport, in the codes of PTP_TRANSPORT. -/
  transport : Nat := 0
  /-- Its announce interval, microseconds. -/
  interval : Nat := 2000000
deriving DecidableEq, Repr

/-- An NTP response (R350, R351). -/
structure NtpReply where
  /-- Offset measured, microseconds, signed. -/
  offset : Int
  /-- Root distance, microseconds. -/
  dist : Nat
  /-- Stratum. -/
  stratum : Nat
deriving DecidableEq, Repr

/-- A wall time given on the console (R357): its form and the fraction's number of digits are checked by the model. -/
structure UtcArg where
  /-- The form is <YYYY-MM-DDThh:mm:ss[.f...]Z>. -/
  wellFormed : Bool
  /-- Whole seconds, as wall microseconds. -/
  micros : Nat
  /-- Digits of the fraction, most significant first. -/
  fraction : List Nat
deriving DecidableEq, Repr

/-- Arguments of `mode` (ch. 06, System commands table). -/
inductive ModeArg
  | report
  | typed
  | machine (crc : Bool)
deriving DecidableEq, Repr

/-! ### The key-value protocol and the operations (ch. 09 to 12) -/

/-- Protocol generations (ch. 09). -/
inductive Gen
  | kv1 | kv2 | kv3
deriving DecidableEq, Repr

/-- The operations of the wire protocol (ch. 09, Opcode encoding), in code order from 0x01. -/
inductive OpCode
  | put | get | head | delete | list | cas | mputBegin | mputPart | mputCommit | mputAbort | txn | tag | find
  | fetch | flush | discard | shred | stat | heartbeat | mbxSend | mbxRecv
deriving DecidableEq, Repr

/-- A frame whose sync, header CRC, length and end mark have verified (Frame checks table, checks 1, 2, 4 and 5): its
header fields as numbers, its sections, and what the remaining byte-level checks found. A KV1 frame is held in the same
fields (R383): its FLAGS bits 0 to 3 stand where bits 48 to 51 of W3 stand, as bits 0 to 3 here. -/
structure Frame where
  /-- W0.GEN; 1 for a KV1 frame. -/
  gen : Nat
  /-- KIND code. -/
  kind : Nat := 1
  /-- OPCODE code. -/
  opcode : Nat
  /-- CHANNEL. -/
  channel : Nat := 0
  /-- REQUEST_ID. -/
  reqId : Nat
  /-- STALL. -/
  stall : StallNo := 0
  /-- Some bit of W2[39] or W2[63:51] is 1. -/
  reserved : Bool := false
  /-- KEY_LEN. -/
  keyLen : Nat := 0
  /-- TAG_COUNT. -/
  tagCount : Nat := 0
  /-- DATA_LEN. -/
  dataLen : Nat := 0
  /-- GENERATION. -/
  generation : Nat := 0
  /-- STATUS. -/
  status : Nat := 0
  /-- FLAGS, W3[63:48]. -/
  flags : Nat := 0
  /-- VERSION. -/
  version : Nat := 0
  /-- INCARNATION. -/
  incarnation : Nat := 0
  /-- ARG. -/
  arg : Nat := 0
  /-- DETAIL. -/
  detail : Nat := 0
  /-- Key section, without padding. -/
  key : List Byte := []
  /-- Tag section. -/
  tags : List Word64 := []
  /-- Data section, without padding. -/
  data : List Byte := []
  /-- PCRC verifies (check 6). -/
  pcrcOk : Bool := true
  /-- Every padding byte is 0. -/
  paddingOk : Bool := true
deriving DecidableEq, Repr

/-- A cipher suite a TLS client offers (R223). -/
inductive TlsSuite
  | aes256GcmSha384 | aes128GcmSha256 | other (code : Nat)
deriving DecidableEq, Repr

/-- A key-exchange group a TLS client offers (R223). -/
inductive TlsGroup
  | secp384r1 | x25519 | other (code : Nat)
deriving DecidableEq, Repr

/-- What a TLS client offers in its hello (R223, R401). -/
structure TlsClient where
  /-- It offers TLS 1.3. -/
  tls13 : Bool := true
  /-- Its cipher suites, in its order of preference. -/
  suites : List TlsSuite := [.aes256GcmSha384]
  /-- Its groups, in its order of preference. -/
  groups : List TlsGroup := [.x25519]
  /-- Its certificate is within its validity dates by wall time (R224). -/
  validDates : Bool := true
deriving DecidableEq, Repr

/-- How a TLS handshake on a data port ends (R401 to R403): what the client offered. -/
inductive TlsAuth
  | none_                                  -- KV2 over TLS: no client credential
  | psk (stall : StallNo) (slot : Nat) (proved : Bool)
  | cert (fp : List Byte) (validDates : Bool)
  | ticket (id : Nat)                      -- resumption with a ticket the drive issued
deriving DecidableEq, Repr

/-- The outcome of a TLS 1.3 handshake as the record layer reports it. -/
structure TlsResult where
  /-- The record layer's own checks passed: signatures and Finished. Early data is rejected and never read. -/
  ok : Bool
  /-- The client's offer. -/
  client : TlsClient := {}
  /-- The ALPN offered matches the port, or none was offered (R401). -/
  alpnOk : Bool
  /-- The client credential. -/
  auth : TlsAuth
deriving DecidableEq, Repr

/-- A time limit of the Connection timing table that expires (R389). -/
inductive ConnLimit
  | tls | hello | auth | idle
deriving DecidableEq, Repr

/-- Value of `stall cred set` (R506). -/
inductive CredArg
  | secret (b : List Byte)
  | fp (b : List Byte)
deriving DecidableEq, Repr

/-! ### Starts and self-tests (ch. 05, 18) -/

/-- Result of an island's test (ch. 18, Run encodings, RESULT), from code 0x01. -/
inductive TestResult
  | pass | fail | notRun | aborted | skipped
deriving DecidableEq, Repr

/-- Part of a test (ch. 18, Run encodings, PART), from code 0x00. -/
inductive TestPart
  | none_ | sram | array | logic | dramPattern | loopback | gateCheck | limits | budget
deriving DecidableEq, Repr

/-- What the test engine measures on one island (ch. 18, Island record table). -/
structure TestOutcome where
  /-- The island. -/
  island : Island
  /-- RESULT. -/
  result : TestResult
  /-- PART. -/
  part : TestPart
  /-- JUNCTION, °C. -/
  junction : Int := 25
  /-- FREQ_DEV, 0.01 %. -/
  freqDev : Int := 0
  /-- VOLT_DEV, 0.1 %. -/
  voltDev : Int := 0
  /-- DETAIL. -/
  detail : Nat := 0
  /-- DURATION, ms. -/
  duration : Nat := 0
deriving DecidableEq, Repr

/-- A flash block: channel, target, block number of the die (ch. 13). -/
structure BlockId where
  /-- Channel. -/
  channel : Fin 16
  /-- Target. -/
  target : Fin 8
  /-- Block of the die. -/
  block : Fin 8192
deriving DecidableEq, Repr

/-- What the raw reading of one sampled page at S13 finds (ch. 14): the greatest number of zero bits in any KiB, and the page's header
bytes. -/
structure PageSample where
  /-- Zero bits of the worst KiB. -/
  zeros : Nat
  /-- The 64 bytes of the header. -/
  header : List Byte
deriving DecidableEq, Repr

/-- The checks of a log record (R596): SYNC, HCRC, its own position, LEN, TYPE, PCRC. -/
inductive RecFault
  | sync | hcrc | lsn | len | type | pcrc
deriving DecidableEq, Repr

/-- What a start step finds when it completes (ch. 05, Start steps table). -/
inductive StepData
  | plain (step : Nat)
  /-- S02: the ledger checkpoints, by SEQ, the step records, by REC_SEQ, and the event records of FRAM, by SEQ, that S03 will
  find invalid (R210, R368, R850). -/
  | s02 (badCkpts badRecs badEvents : List Nat)
  /-- S03: the pins, whether the fuse mirror agrees (R163), which copies of the start-state block have a valid CRC
  (R209), the fuses that do not burn (R759), and the test runs, by RUN_SEQ, and island records that fail their CRC or carry a
  reserved code (R800). -/
  | s03 (pins : BayPins) (mirrorAgrees blockA blockB : Bool) (fuseFail badRuns : List Nat) (badTests : List (Nat × Island))
  /-- S04: which images verify. -/
  | s04 (aOk bOk recoveryOk : Bool)
  /-- S07: inline results, and the islands whose firmware fails to load. -/
  | s07 (results : List TestOutcome) (loadFailed : List Island)
  /-- S08: whether a gatehouse update was run, and whether the new version reported (R765). -/
  | s08 (update : Option Bool)
  /-- S09: channels that fail training. -/
  | s09 (failed : List (Fin 16))
  /-- S10: page-map entries with VALID 0 and a PPN, as LPN and entry (R581), and the log records, by LSN, that fail a check
  as they are read (R596). -/
  | s10 (mapBad : List (Nat × Nat)) (bad : List (Nat × RecFault))
  /-- S12: keys whose version cannot be replayed. -/
  | s12 (unreplayable : List ObjKey)
  /-- S13: the sampled blocks that are not blank on every page, with what each sampled page shows (R640), and the ring's records,
  by SEQ, that fail their CRC or MARK or carry a reserved code (R639). -/
  | s13 (samples : List (BlockId × List PageSample)) (badRing : List Nat)
  /-- S15: banks whose part of the image fails its CRC (R694). -/
  | s15 (emptyBanks : List (Fin 16))
  /-- S16: the flash readings. -/
  | s16 (flashMin flashMax : Int)
deriving DecidableEq, Repr

/-- The step whose findings these are. -/
def stepOf : StepData → Nat
  | .plain n => n
  | .s02 _ _ _ => 2
  | .s03 _ _ _ _ _ _ _ => 3
  | .s04 _ _ _ => 4
  | .s07 _ _ => 7
  | .s08 _ => 8
  | .s09 _ => 9
  | .s10 _ _ => 10
  | .s12 _ => 12
  | .s13 _ _ => 13
  | .s15 _ => 15
  | .s16 _ _ => 16

/-! ### Media (ch. 13, 14) -/

/-- What an array read of a page finds (R588, R612, R633): corrected within the patrol margin, beyond it, uncorrectable
with the rest of its stripe readable, or with a second page of the stripe unreadable. -/
inductive ReadOutcome
  | good | marginal | uncorrectable | stripeLost
deriving DecidableEq, Repr

/-- Why a die is declared failed (R637). -/
inductive DieCause
  | reset | identity | blocksRetired
deriving DecidableEq, Repr

/-- Causes of a block's retirement (ch. 14, Block failure table). -/
inductive RetireCause
  | eraseFail | programFail | rebuiltTwice
deriving DecidableEq, Repr

/-! ### The Arcade (ch. 15) -/

/-- Priority modes of a search (R667). -/
inductive ArcMode
  | position | explicit
deriving DecidableEq, Repr

/-- The owner filter of a search. -/
inductive OwnerFilter
  | any | drive | stall (s : StallNo)
deriving DecidableEq, Repr

/-- A search of the Arcade (ch. 15, Searches). -/
structure ArcSpec where
  /-- Search words, 1 to 4. -/
  words : List Word64
  /-- Global search mask. -/
  g : Word64
  /-- Bank mask, as the list of selected banks. -/
  banks : List (Fin 16)
  /-- Priority mode. -/
  mode : ArcMode
  /-- Owner filter. -/
  owner : OwnerFilter
deriving DecidableEq, Repr

/-- What runs: an immediate search, a stepped search, or a step of a held cursor. -/
inductive ArcReq
  | immediate (spec : ArcSpec)
  | stepped (spec : ArcSpec)
  | step (cursor : Fin 16)
deriving DecidableEq, Repr

/-! ### The row (ch. 16), relocation (ch. 11) and relay (ch. 17) -/

/-- A beacon that the network delivers (ch. 16, Beacon table): its checked parts as findings, the rest as fields. -/
structure Beacon where
  /-- MARK, FORMAT and the reserved fields are as the table states. -/
  wellFormed : Bool := true
  /-- Address of the sender. -/
  src : IpAddr := 0
  /-- ROW_ID. -/
  rowId : Nat
  /-- The MAC verifies under the drive's beacon key. -/
  macOk : Bool := true
  /-- LEADER. -/
  leader : Bool
  /-- JOINING. -/
  joining : Bool
  /-- SERIAL. -/
  serial : Nat
  /-- EPOCH. -/
  epoch : Nat
  /-- SEQ. -/
  seq : Nat
  /-- POSITION. -/
  position : Nat
  /-- STATE, the code. -/
  state : Nat
  /-- MEMBERS, in order. -/
  members : List Nat
deriving DecidableEq, Repr

/-- STATUS of an ACK (ch. 16, Row message header). -/
inductive AckStatus
  | ok | tryLater | refused
deriving DecidableEq, Repr

/-- Header of a received row message (ch. 16, Row message header table). -/
structure RowHdr where
  /-- Serial of the sender, known from its DTLS association. -/
  peer : Nat
  /-- MSG_ID. -/
  msgId : Nat
  /-- REF_ID. -/
  refId : Nat := 0
  /-- EPOCH. -/
  epoch : Nat := 0
deriving DecidableEq, Repr

/-- Status a member reports in FIND_END (R720). -/
inductive FindEnd
  | answered | partial_ | failed
deriving DecidableEq, Repr

/-- A record of a ticket or a LIST page (ch. 10, Object record). -/
structure ObjRecord where
  /-- Key. -/
  key : List Byte
  /-- Tags. -/
  tags : List Word64
  /-- HELD. -/
  held : Bool
  /-- MARKED. -/
  marked : Bool
  /-- VALUE_LEN. -/
  valueLen : Nat
  /-- VERSION. -/
  version : Nat
  /-- INCARNATION. -/
  incarnation : Nat
  /-- SERIAL. -/
  serial : Nat
  /-- EPOCH. -/
  epoch : Nat
deriving DecidableEq, Repr

/-- A request for a row search (R719). -/
structure FindReqMsg where
  /-- ROWTEN. -/
  rowten : Nat
  /-- Search words. -/
  words : List Word64
  /-- G. -/
  g : Word64
  /-- E0. -/
  e0 : Nat
  /-- Deadline left, microseconds. -/
  deadline : Nat
deriving DecidableEq, Repr

/-- Payload of MIRROR_PUT (R727). -/
structure MirrorObj where
  /-- Origin serial. -/
  origin : Nat
  /-- Stall and key on the origin. -/
  key : ObjKey
  /-- Tags. -/
  tags : List Word64
  /-- Value. -/
  value : List Byte
  /-- Version. -/
  version : Nat
  /-- Hold. -/
  held : Bool
  /-- WSEQ on the origin. -/
  wseq : Nat
  /-- Remaining retention, microseconds. -/
  remaining : Nat
deriving DecidableEq, Repr

/-- An object on its way to a relocation target (R533). -/
structure RelocObj where
  /-- Key. -/
  key : List Byte
  /-- Value. -/
  value : List Byte
  /-- Tags. -/
  tags : List Word64
  /-- Version. -/
  version : Nat
  /-- Hold. -/
  held : Bool
  /-- Remaining retention, microseconds. -/
  remaining : Nat
deriving DecidableEq, Repr

/-- Why a relocation fails (R536). -/
inductive RelocFail
  | targetLeft | quota | space | noConfirm | cancelled | powerFail
deriving DecidableEq, Repr

/-- A mailbox message (R520). -/
structure Msg where
  /-- Sequence number. -/
  seq : Nat
  /-- TYPE. -/
  type : Nat
  /-- Ledger time of sending. -/
  ltime : Nat
  /-- Body, 1 to 256 bytes. -/
  body : List Byte
deriving DecidableEq, Repr

/-- What a relocation source sends after the freeze (R534 step 2): configuration, bucket levels, mailbox. -/
structure RelocState where
  /-- Configuration: attribute numbers and values. -/
  config : List (Nat × Word64)
  /-- Levels of OPS, RD, WR and BF. -/
  levels : List Int
  /-- TO_WARDEN and its next sequence number. -/
  toWarden : List Msg × Nat
  /-- TO_TENANT and its next sequence number. -/
  toTenant : List Msg × Nat
  /-- The host tag. -/
  host : Nat
deriving DecidableEq, Repr

/-- Relocation messages, TYPE 0x0030 to 0x003F (R532 to R536); the spec names their contents, not their codes. -/
inductive RelocMsg
  /-- The source asks whether stall `dest` may be taken. -/
  | offer (peer : Nat) (stall dest : StallNo)
  /-- An object, or an object changed since its copy. -/
  | obj (peer : Nat) (dest : StallNo) (o : RelocObj)
  /-- A key removed since its copy. -/
  | removed (peer : Nat) (dest : StallNo) (key : List Byte)
  /-- Step 2 of cutover: the rest. -/
  | cutover (peer : Nat) (dest : StallNo) (st : RelocState)
  /-- The target's acknowledgement of one object: accepted, or COLD, or refused for quota or space. -/
  | objAck (peer : Nat) (stall : StallNo) (key : List Byte) (status : AckStatus) (cause : Option RelocFail)
  /-- Step 3: the target confirms. -/
  | confirm (peer : Nat) (stall : StallNo)
  /-- The other side gives the relocation up. -/
  | fail (peer : Nat) (stall : StallNo) (cause : RelocFail)
deriving DecidableEq, Repr

/-- Payload of RELAY_OFFER (ch. 17, Relay message encoding). -/
structure RelayOffer where
  /-- PARCEL_ID. -/
  parcel : Nat
  /-- VERSION. -/
  version : Nat
  /-- SVN. -/
  svn : Nat
  /-- PIECES. -/
  pieces : Nat
  /-- ORIGIN. -/
  origin : Nat
  /-- SOURCE. -/
  source : Nat
  /-- SHA-384 of piece 0. -/
  hash0 : List Byte
deriving DecidableEq, Repr

/-- Relay status codes (ch. 17), from 0x01. -/
inductive RelayStat
  | confirmed | failed | skipped | refused
deriving DecidableEq, Repr

/-! ### Firmware parcels (ch. 17) -/

/-- A parcel's manifest as its fields, with the two findings of R739 that need all of its bytes. -/
structure Manifest where
  /-- MAGIC, as a text. -/
  magic : String
  /-- FORMAT. -/
  format : Nat
  /-- Every reserved field and bit is 0. -/
  reservedZero : Bool
  /-- The boot ROM holds the key named by KEY_ID, and SIGNATURE verifies under it. -/
  signed : Bool
  /-- COMPONENTS: offset and length of MAIN, MICRO and GATE. -/
  components : List (Nat × Nat)
  /-- VARIANTS. -/
  variants : Nat
  /-- COMP. -/
  comp : Nat
  /-- PIECES. -/
  pieces : Nat
  /-- SVN. -/
  svn : Nat
  /-- ORDER. -/
  order : Nat
  /-- PARCEL_ID. -/
  id : Nat
  /-- VERSION. -/
  version : Nat
  /-- GATE_VERSION. -/
  gateVersion : Nat
  /-- LENGTH. -/
  length : Nat
  /-- FROM_MIN. -/
  fromMin : Nat
  /-- GATE_MIN. -/
  gateMin : Nat
  /-- GATE_MAX. -/
  gateMax : Nat
  /-- MAIN_MIN. -/
  mainMin : Nat
  /-- MAIN_MAX. -/
  mainMax : Nat
  /-- META_WRITE. -/
  metaWrite : Nat
  /-- META_READ_MIN. -/
  metaReadMin : Nat
deriving DecidableEq, Repr

/-- A block of a parcel piece: piece 0 as its manifest, a later piece by whether its hash equals its HASHES entry. -/
inductive PieceData
  | manifest (m : Manifest) (hash : List Byte)
  | piece (hashOk : Bool)
deriving DecidableEq, Repr

/-- How a parcel install's checks on the stored bytes end (R749, steps 2 and 4). -/
structure InstallResult where
  /-- Every piece hash recomputed equals its entry (step 2). -/
  hashesOk : Bool := true
  /-- The slot reads back as its manifest (step 4). -/
  slotOk : Bool := true
  /-- A power-fail or a restart interrupts step 4 before it ends (R751). -/
  cut : Bool := false
deriving DecidableEq, Repr

/-! ### Life cycle (ch. 18) -/

/-- Life-cycle states (ch. 18), in code order. -/
inductive LifeState
  | blank | foundry | field | returned | retired
deriving DecidableEq, Repr

/-- The local search that has finished: that of a ticket, or one served for another drive (R689, R720). -/
inductive FindRun
  /-- The ticket. -/
  | ticket (n : Nat)
  /-- The coordinator and the MSG_ID of its FIND_REQ. -/
  | served (peer msgId : Nat)
deriving DecidableEq, Repr

/-- The commands: one constructor per row of the table of operations and events. -/
inductive Instr
  /-- DETECTION_VOLTAGE (R193). -/
  | detectionVoltage (port : PortId) (rtc : RtcReading)
  /-- PORT_POWER_ON (R94). -/
  | portPowerOn (port : PortId) (classEvents : Nat)
  /-- START_BEGIN (R184). -/
  | startBegin (rtc : RtcReading)
  /-- START_STEP_COMPLETE (R182). -/
  | startStepComplete (d : StepData)
  /-- START_STEP_FAIL (R185). -/
  | startStepFail (step : Nat) (detail : Nat)
  /-- START_STEP_TIMEOUT (R185). -/
  | startStepTimeout (step : Nat) (d : StepData)
  /-- S17_COMPLETE (R204). -/
  | s17Complete (energy0 energy1 : Bool)
  /-- ORDERLY_HALT (R44). -/
  | orderlyHalt (reason : HaltReason)
  /-- HALT_FLUSH_DONE (R790). -/
  | haltFlushDone (fuseOk : Bool)
  /-- SELFTEST_ISLAND_DONE (R796). -/
  | selftestIslandDone (r : TestOutcome)
  /-- SELFTEST_LIMIT_LEFT (R795). -/
  | selftestLimitLeft (r : TestOutcome)
  /-- HALT (R256). -/
  | halt (l : Line)
  /-- REBOOT (R250). -/
  | reboot (l : Line)
  /-- FLUSH_COMPLETE (R125). -/
  | flushComplete (e : FlushEnd)
  /-- FEED_LOST (R101). -/
  | feedLost (port : PortId) (energy vBank : Nat)
  /-- FEED_RESTORED (R100). -/
  | feedRestored (port : PortId) (classEvents : Nat)
  /-- PLANNED_CHANGEOVER (R99). -/
  | plannedChangeover (energy : Nat)
  /-- LLDP_TRANSMIT (R103). -/
  | lldpTransmit (port : PortId)
  /-- LLDP_ALLOCATION (R104). -/
  | lldpAllocation (port : PortId) (alloc : Nat)
  /-- HOLDUP_MEASURE (R139). -/
  | holdupMeasure (l : Line)
  /-- HOLDUP_MEASURE_DONE (R120). -/
  | holdupMeasureDone (e vBank : Nat)
  /-- HOLDUP_CHARGE_TIMEOUT (R123). -/
  | holdupChargeTimeout (vBank : Nat)
  /-- CELL_FAULT (R117). -/
  | cellFault (cell : Fin 12) (deviation : Int)
  /-- COLD_GATE (R128). -/
  | coldGate (flashMin : Int)
  /-- COLD_OPEN (R128). -/
  | coldOpen (flashMin : Int)
  /-- HEATER_SWITCH (R130). -/
  | heaterSwitch (flashMin : Int)
  /-- THERMAL_THROTTLE (R133). -/
  | thermalThrottle (flashMax : Int)
  /-- POWER_SHOW (R138). -/
  | powerShow (l : Line)
  /-- ISLAND_FAULT (R144). -/
  | islandFault (j : Island) (cause : FaultCause) (freqDev voltDev : Int)
  /-- WATCHDOG_EXPIRY (R153). -/
  | watchdogExpiry (j : Island)
  /-- ISLAND_GATE (R151). -/
  | islandGate (j : Island)
  /-- ISLAND_WAKE (R148). -/
  | islandWake (j : Island)
  /-- DRAM_CORRECTED (R160). -/
  | dramCorrected (n : Nat)
  /-- DRAM_UNCORRECTABLE (R161). -/
  | dramUncorrectable (region : DramRegion) (keys : List ObjKey)
  /-- ISLAND_SHOW (R158). -/
  | islandShow (l : Line) (id : Option Nat)
  /-- ATTR_GET (R253). -/
  | attrGet (l : Line) (num : Nat) (field : Option String) (form : GetForm)
  /-- ATTR_SET (R254). -/
  | attrSet (l : Line) (num : Nat) (asg : Assign)
  /-- COMMIT_GROUP (R172). -/
  | commitGroup (l : Line) (g : Option Group)
  /-- DISCARD_GROUP (R170). -/
  | discardGroup (l : Line) (g : Option Group)
  /-- BAY_CFG_WRITE (R89). -/
  | bayCfgWrite (l : Line) (asg : Assign)
  /-- TAMPER_CLEAR (R86). -/
  | tamperClear (l : Line) (asg : Assign)
  /-- POLICY_PREFER_WRITE (R137). -/
  | policyPreferWrite (l : Line) (value : Option Int)
  /-- NET_PHY_CFG_WRITE (R873). -/
  | netPhyCfgWrite (l : Line) (port : PortId) (asg : Assign)
  /-- MAX_FRAME_WRITE (R292). -/
  | maxFrameWrite (l : Line) (port : PortId) (value : Option Int)
  /-- KV_CFG_WRITE (R373). -/
  | kvCfgWrite (l : Line) (asg : Assign)
  /-- ROUTE_CFG_WRITE (R332). -/
  | routeCfgWrite (l : Line) (asg : Assign)
  /-- METER_KIND_WRITE (R566). -/
  | meterKindWrite (l : Line) (stall : StallNo) (value : Option Int)
  /-- USB_SEND_BREAK (R84). -/
  | usbSendBreak (ms : Nat)
  /-- JSVC_CHANGE (R60). -/
  | jsvcChange (fitted : Bool)
  /-- BUTTON_RELEASE (R68). -/
  | buttonRelease (hold : Nat)
  /-- BUTTON_DISCREPANCY (R67). -/
  | buttonDiscrepancy (bothClosed : Bool)
  /-- LID_DISCREPANCY (R71). -/
  | lidDiscrepancy (bothClosed : Bool)
  /-- PRESENCE_CLOSE (R90). -/
  | presenceClose (l : Line)
  /-- JCON_ATTENTION (R80). -/
  | jconAttention (ms : Nat)
  /-- LED_LOCATE (R65). -/
  | ledLocate (l : Line) (time : Option Int)
  /-- BAY_SHOW (R90). -/
  | bayShow (l : Line)
  /-- CONSOLE_CHAR (R235). -/
  | consoleChar (sess : SessId) (c : Byte)
  /-- CONSOLE_BAD_LINE (R229). -/
  | consoleBadLine (sess : SessId) (text : List Byte)
  /-- UNKNOWN_COMMAND (R856). -/
  | unknownCommand (l : Line)
  /-- HELP (R250). -/
  | help (l : Line) (word : Option String)
  /-- MODE (R251). -/
  | mode (l : Line) (m : ModeArg)
  /-- WHO (R252). -/
  | who (l : Line)
  /-- LOG (R854). -/
  | log (l : Line) (count since : Option Int) (name : Option Ev)
  /-- LOG_FOLLOW (R244). -/
  | logFollow (l : Line) (on : Bool)
  /-- MGMT_CONNECT (R224). -/
  | mgmtConnect (ifc : IfNo) (localAddr : IpAddr) (fp : List Byte) (client : TlsClient) (addr : IpAddr)
  /-- MGMT_IDLE_TIMEOUT (R226). -/
  | mgmtIdleTimeout (k : Fin 8)
  /-- MGMT_SESSION_CLOSE (R222). -/
  | mgmtSessionClose (k : Fin 8)
  /-- WARDEN_ENROL (R257). -/
  | wardenEnrol (l : Line) (slot : Int) (fp : List Byte) (name : Option String)
  /-- WARDEN_REMOVE (R258). -/
  | wardenRemove (l : Line) (slot : Int)
  /-- WARDEN_SHOW (R259). -/
  | wardenShow (l : Line)
  /-- START_SHOW (R216). -/
  | startShow (l : Line)
  /-- LEDGER_SHOW (R216). -/
  | ledgerShow (l : Line) (start : Option Nat)
  /-- START_CLEAR (R215). -/
  | startClear (l : Line)
  /-- LINK_UP (R271). -/
  | linkUp (port : PortId) (speed : Nat) (snr : Int)
  /-- LINK_DOWN (R271). -/
  | linkDown (port : PortId)
  /-- LACPDU_RECEIVE (R278). -/
  | lacpduReceive (port : PortId) (pdu : Lacpdu)
  /-- LACPDU_TRANSMIT (R278). -/
  | lacpduTransmit (port : PortId)
  /-- FRAME_RECEIVE (R288). -/
  | frameReceive (port : PortId) (f : EthFrame)
  /-- FRAME_FCS_RESULT (R299). -/
  | frameFcsResult (port : PortId) (good : Bool)
  /-- PAUSE_FRAME (R310). -/
  | pauseFrame (port : PortId) (quanta : Nat)
  /-- PFC_FRAME (R311). -/
  | pfcFrame (port : PortId) (quanta : List (Fin 8 × Nat))
  /-- PAUSE_EXPIRY (R310). -/
  | pauseExpiry (port : PortId) (q : Fin 8)
  /-- PAUSE_STORM (R313). -/
  | pauseStorm (port : PortId)
  /-- PAUSE_STORM_END (R313). -/
  | pauseStormEnd (port : PortId)
  /-- PORT_SHOW (R306). -/
  | portShow (l : Line) (port : Option PortId)
  /-- PORT_STATS (R303). -/
  | portStats (l : Line) (port : Option PortId) (raw : Bool)
  /-- PORT_STATS_CLEAR (R304). -/
  | portStatsClear (l : Line) (port : PortId)
  /-- PORT_CAPTURE_READ (R297). -/
  | portCaptureRead (l : Line) (port : PortId) (count : Option Nat)
  /-- DORMANT_ENTER (R316). -/
  | dormantEnter (l : Line)
  /-- WAKE (R321). -/
  | wake (port : PortId) (f : EthFrame)
  /-- DHCPV4_RECEIVE (R336). -/
  | dhcpv4Receive (ifc : IfNo) (m : Dhcp4)
  /-- DHCP_RETRANSMIT (R336). -/
  | dhcpRetransmit (ifc : IfNo)
  /-- DHCPV6_RECEIVE (R337). -/
  | dhcpv6Receive (ifc : IfNo) (m : Dhcp6)
  /-- ROUTER_ADVERTISEMENT (R337). -/
  | routerAdvertisement (ifc : IfNo) (ra : RouterAdv)
  /-- RA_TIMEOUT (R337). -/
  | raTimeout (ifc : IfNo)
  /-- ADDR_PROBE_DONE (R339). -/
  | addrProbeDone (ifc : IfNo) (addr : IpAddr)
  /-- ADDR_DUPLICATE (R340). -/
  | addrDuplicate (ifc : IfNo) (addr : IpAddr)
  /-- ADDR_RETRY (R340). -/
  | addrRetry (ifc : IfNo) (addr : IpAddr)
  /-- ADDR_LOST (R341). -/
  | addrLost (ifc : IfNo) (addr : IpAddr)
  /-- NEIGHBOUR_SOLICIT (R343). -/
  | neighbourSolicit (ifc : IfNo) (target sender : IpAddr) (mac : MacAddr)
  /-- ICMP_ECHO (R344). -/
  | icmpEcho (port : PortId) (ifc : IfNo) (ends : Ends) (len : Nat) (fragment : Bool)
  /-- NET_SHOW (R332). -/
  | netShow (l : Line) (ifc : Option Int)
  /-- NET_STATS (R345). -/
  | netStats (l : Line)
  /-- NET_LLDP (R347). -/
  | netLldp (l : Line) (port : Option PortId)
  /-- NET_RENEW (R342). -/
  | netRenew (l : Line) (ifc : Option Int)
  /-- LLDP_RECEIVE (R347). -/
  | lldpReceive (port : PortId) (pdu : LldpPdu)
  /-- PTP_ANNOUNCE (R349). -/
  | ptpAnnounce (a : PtpAnnounce)
  /-- PTP_MESSAGE (R349). -/
  | ptpMessage (offset : Int)
  /-- NTP_POLL (R350). -/
  | ntpPoll (server : IpAddr)
  /-- NTP_RESPONSE (R351). -/
  | ntpResponse (server : IpAddr) (r : NtpReply)
  /-- TIME_SET (R357). -/
  | timeSet (l : Line) (t : UtcArg)
  /-- TIME_ACCEPT (R357). -/
  | timeAccept (l : Line)
  /-- TIME_SHOW (R357). -/
  | timeShow (l : Line)
  /-- DATA_CONNECT (R391). -/
  | dataConnect (gen : Gen) (port : PortId) (ifc : IfNo) (peer localAddr : IpAddr) (firstByte : Byte)
  /-- KV1_CONNECT (R420). -/
  | kv1Connect (port : PortId) (ifc : IfNo) (peer localAddr : IpAddr)
  /-- TLS_HANDSHAKE (R401). -/
  | tlsHandshake (conn : Nat) (r : TlsResult)
  /-- CONNECTION_TIMEOUT (R389). -/
  | connectionTimeout (conn : Nat) (limit : ConnLimit)
  /-- CONNECTION_CLOSE (R407). -/
  | connectionClose (conn : Nat)
  /-- HELLO (R395). -/
  | hello (conn : Nat) (f : Frame)
  /-- AUTH (R399). -/
  | auth (conn : Nat) (f : Frame)
  /-- AUTH_DENY_DELAY (R399). -/
  | authDenyDelay (conn : Nat)
  /-- AUTH_LOCKOUT_EXPIRY (R400). -/
  | authLockoutExpiry (addr : IpAddr)
  /-- CHANNEL_OPEN (R408). -/
  | channelOpen (conn : Nat) (f : Frame)
  /-- CHANNEL_CLOSE (R409). -/
  | channelClose (conn : Nat) (f : Frame)
  /-- FRAME_LOST_ALIGNMENT (R416). -/
  | frameLostAlignment (conn : Nat) (bytes : List Byte)
  /-- RESYNC_DATA (R416). -/
  | resyncData (conn : Nat) (bytes : List Byte)
  /-- RESYNC_TIMEOUT (R418). -/
  | resyncTimeout (conn : Nat)
  /-- KV1_HEARTBEAT (R413). -/
  | kv1Heartbeat (port : PortId) (ifc : IfNo) (ends : Ends) (datagram : List Byte)
  /-- HEARTBEAT (R412). -/
  | heartbeat (conn : Nat) (f : Frame)
  /-- PUT (R441). -/
  | put (conn : Nat) (f : Frame)
  /-- GET (R449). -/
  | get (conn : Nat) (f : Frame)
  /-- HEAD (R450). -/
  | head (conn : Nat) (f : Frame)
  /-- DELETE (R444). -/
  | delete (conn : Nat) (f : Frame)
  /-- LIST (R451). -/
  | list (conn : Nat) (f : Frame)
  /-- CAS (R442). -/
  | cas (conn : Nat) (f : Frame)
  /-- MPUT_BEGIN (R454). -/
  | mputBegin (conn : Nat) (f : Frame)
  /-- MPUT_PART (R455). -/
  | mputPart (conn : Nat) (f : Frame)
  /-- MPUT_COMMIT (R457). -/
  | mputCommit (conn : Nat) (f : Frame)
  /-- MPUT_ABORT (R458). -/
  | mputAbort (conn : Nat) (f : Frame)
  /-- UPLOAD_EXPIRY (R458). -/
  | uploadExpiry (handle : Nat)
  /-- TXN (R459). -/
  | txn (conn : Nat) (f : Frame)
  /-- TXN_LOCKS_TAKEN (R461). -/
  | txnLocksTaken (op : Nat)
  /-- LOCK_TIMEOUT (R460). -/
  | lockTimeout (op : Nat)
  /-- TAG (R464). -/
  | tag (conn : Nat) (f : Frame)
  /-- FIND (R466). -/
  | find (conn : Nat) (f : Frame)
  /-- FIND_DONE (R689). -/
  | findDone (run : FindRun)
  /-- FETCH (R470). -/
  | fetch (conn : Nat) (f : Frame)
  /-- TICKET_EXPIRY (R473). -/
  | ticketExpiry (ticket : Nat)
  /-- FLUSH (R482). -/
  | flush (conn : Nat) (f : Frame)
  /-- DISCARD (R476). -/
  | discard (conn : Nat) (f : Frame)
  /-- SHRED (R477). -/
  | shred (conn : Nat) (f : Frame)
  /-- STAT (R484). -/
  | stat (conn : Nat) (f : Frame)
  /-- MBX_SEND (R522). -/
  | mbxSend (conn : Nat) (f : Frame)
  /-- MBX_RECV (R521). -/
  | mbxRecv (conn : Nat) (f : Frame)
  /-- OBJECT_EXPIRY (R551). -/
  | objectExpiry (k : ObjKey)
  /-- BUCKET_REFILL (R539). -/
  | bucketRefill (stall : StallNo) (elapsed : Nat)
  /-- OPERATION_COMPLETE (R447). -/
  | operationComplete (op : Nat)
  /-- KV_SHOW (R372). -/
  | kvShow (l : Line)
  /-- KV_STATS (R422). -/
  | kvStats (l : Line)
  /-- KV_CONNS (R405). -/
  | kvConns (l : Line) (stall : Option Int)
  /-- KV1_ENABLE (R372). -/
  | kv1Enable (l : Line)
  /-- KV1_DISABLE (R373). -/
  | kv1Disable (l : Line)
  /-- KV1_ALLOW (R419). -/
  | kv1Allow (l : Line) (addr : IpAddr) (stall : Int)
  /-- KV1_DENY (R419). -/
  | kv1Deny (l : Line) (addr : IpAddr)
  /-- KV1_SHOW (R419). -/
  | kv1Show (l : Line)
  /-- STALL_SHOW (R511). -/
  | stallShow (l : Line) (stall : Option Int)
  /-- STALL_CREATE (R502). -/
  | stallCreate (l : Line) (stall : Int) (host : Option Nat)
  /-- STALL_RESET (R513). -/
  | stallReset (l : Line) (stall : Int)
  /-- STALL_REBIND (R513). -/
  | stallRebind (l : Line) (stall : Int) (host : Nat)
  /-- DRAIN_END (R514). -/
  | drainEnd (stall : StallNo)
  /-- STALL_REMOVE (R517). -/
  | stallRemove (l : Line) (stall : Int) (force : Bool)
  /-- STALL_REMOVAL_DONE (R518). -/
  | stallRemovalDone (stall : StallNo)
  /-- STALL_FREEZE (R527). -/
  | stallFreeze (l : Line) (stall : Int)
  /-- FREEZE_DRAIN_END (R527). -/
  | freezeDrainEnd (stall : StallNo)
  /-- STALL_BLOB_READ (R528). -/
  | stallBlobRead (l : Line) (stall off len : Int)
  /-- STALL_BLOB_LOAD (R530). -/
  | stallBlobLoad (l : Line) (stall off : Int) (hex : List Byte)
  /-- STALL_THAW (R531). -/
  | stallThaw (l : Line) (stall : Int) (host : Nat)
  /-- STALL_RELOCATE (R532). -/
  | stallRelocate (l : Line) (stall : Int) (to_ : Nat) (dest : Int) (rate : Option Int) (accepted : Bool)
  /-- RELOCATE_CUTOVER (R534). -/
  | relocateCutover (stall : StallNo)
  /-- RELOCATE_DONE (R534). -/
  | relocateDone (stall : StallNo)
  /-- RELOCATE_FAILED (R536). -/
  | relocateFailed (stall : StallNo) (cause : RelocFail)
  /-- STALL_RELOCATE_CANCEL (R536). -/
  | stallRelocateCancel (l : Line) (stall : Int)
  /-- STALL_ADOPT (R500). -/
  | stallAdopt (l : Line) (stall : Int) (warden : Option Int)
  /-- STALL_KEY_EXPORT (R504). -/
  | stallKeyExport (l : Line) (stall : Int) (kek : List Byte)
  /-- STALL_CRED_SHOW (R506). -/
  | stallCredShow (l : Line) (stall : Int)
  /-- STALL_CRED_NEW (R506). -/
  | stallCredNew (l : Line) (stall slot : Int)
  /-- STALL_CRED_SET (R506). -/
  | stallCredSet (l : Line) (stall slot : Int) (value : CredArg)
  /-- STALL_CRED_CLEAR (R507). -/
  | stallCredClear (l : Line) (stall slot : Int)
  /-- MBX_COMPOSE (R525). -/
  | mbxCompose (l : Line) (off : Int) (bytes : List Byte)
  /-- MBX_WARDEN_SEND (R525). -/
  | mbxWardenSend (l : Line) (stall type len : Int)
  /-- MBX_WARDEN_RECV (R525). -/
  | mbxWardenRecv (l : Line) (stall : Int) (from_ : Nat)
  /-- MBX_SHOW (R525). -/
  | mbxShow (l : Line) (stall : Int)
  /-- MBX_DOORBELL (R523). -/
  | mbxDoorbell (conn : Nat)
  /-- METER_SHOW (R565). -/
  | meterShow (l : Line) (stall : Int)
  /-- METER_RECORDS (R569). -/
  | meterRecords (l : Line) (stall : Int) (from_ : Option Nat) (count : Option Int) (raw : Bool)
  /-- PACKED_PAGE_TIMEOUT (R587). -/
  | packedPageTimeout (stall : StallNo) (bin : Nat)
  /-- FLASH_PROGRAM_DONE (R479). -/
  | flashProgramDone (index : Nat)
  /-- FLASH_READ_DONE (R588). -/
  | flashReadDone (lpn : Nat) (r : ReadOutcome)
  /-- MEDIA_SHOW (R613). -/
  | mediaShow (l : Line)
  /-- BAND_SHOW (R580). -/
  | bandShow (l : Line) (band : Int)
  /-- PROGRAM_FAIL (R635). -/
  | programFail (index : Nat) (b : BlockId)
  /-- SHRED_DONE (R645). -/
  | shredDone (ticket : Nat)
  /-- HEALTH_SHOW (R650). -/
  | healthShow (l : Line)
  /-- HEALTH_TEMP (R651). -/
  | healthTemp (l : Line)
  /-- HEALTH_HOLDUP (R652). -/
  | healthHoldup (l : Line) (count : Option Int)
  /-- ARCADE_SHOW (R668). -/
  | arcadeShow (l : Line)
  /-- ARCADE_BANK_SHOW (R682). -/
  | arcadeBankShow (l : Line) (bank : Int)
  /-- ARCADE_GRANT (R683). -/
  | arcadeGrant (l : Line) (bank quarter : Int) (stall : Option Int)
  /-- BEACON_RECEIVE (R703). -/
  | beaconReceive (b : Beacon)
  /-- MEMBER_TIMEOUT (R707). -/
  | memberTimeout (serial : Nat)
  /-- ROW_LEAVE (R707). -/
  | rowLeave (h : RowHdr)
  /-- ROW_ACK (R715). -/
  | rowAck (h : RowHdr) (status : AckStatus)
  /-- FIND_REQ (R720). -/
  | findReq (h : RowHdr) (m : FindReqMsg)
  /-- FIND_PAGE (R722). -/
  | findPage (h : RowHdr) (records : List ObjRecord)
  /-- FIND_END (R722). -/
  | findEnd (h : RowHdr) (status : FindEnd)
  /-- ROW_FIND_DEADLINE (R722). -/
  | rowFindDeadline (ticket : Nat)
  /-- MIRROR_PUT (R727). -/
  | mirrorPut (h : RowHdr) (o : MirrorObj)
  /-- MIRROR_UPDATE (R728). -/
  | mirrorUpdate (h : RowHdr) (origin : Nat) (k : ObjKey) (held : Bool)
  /-- MIRROR_REMOVE (R728). -/
  | mirrorRemove (h : RowHdr) (origin : Nat) (k : ObjKey) (erase : Bool)
  /-- MIRROR_SHOW (R730). -/
  | mirrorShow (l : Line)
  /-- MIRROR_DROP (R733). -/
  | mirrorDrop (l : Line) (origin : Nat)
  /-- MIRROR_RESTORE (R734). -/
  | mirrorRestore (l : Line) (origin : Nat) (ostall stall : Int)
  /-- MIRROR_RESTORE_DONE (R734). -/
  | mirrorRestoreDone (stall : StallNo)
  /-- ROW_SHOW (R713). -/
  | rowShow (l : Line)
  /-- ROW_MEMBERS (R705). -/
  | rowMembers (l : Line)
  /-- ROW_KEY_NEW (R701). -/
  | rowKeyNew (l : Line)
  /-- ROW_KEY_SET (R701). -/
  | rowKeySet (l : Line) (secret : List Byte)
  /-- PARCEL_PIECE (R745). -/
  | parcelPiece (l : Line) (n len : Int) (d : PieceData)
  /-- PIECE_TIMEOUT (R744). -/
  | pieceTimeout (l : Line)
  /-- PARCEL_SHOW (R748). -/
  | parcelShow (l : Line)
  /-- PARCEL_INSTALL (R749). -/
  | parcelInstall (l : Line) (relay later : Bool) (r : InstallResult)
  /-- PARCEL_ABANDON (R748). -/
  | parcelAbandon (l : Line)
  /-- FW_SHOW (R752). -/
  | fwShow (l : Line)
  /-- CONFIG_EXPORT (R773). -/
  | configExport (l : Line)
  /-- TRIAL_CONFIRM (R755). -/
  | trialConfirm (fuseFail : List Nat)
  /-- GATE_UPDATE_DONE (R762). -/
  | gateUpdateDone (reported slotOk : Bool)
  /-- LIFECYCLE_SHOW (R784). -/
  | lifecycleShow (l : Line)
  /-- LIFECYCLE_SET (R787). -/
  | lifecycleSet (l : Line) (target : Option LifeState) (serial : Nat)
  /-- TEST_SHOW (R810). -/
  | testShow (l : Line)
  /-- TEST_RESULTS (R875). -/
  | testResults (l : Line) (run : Option Nat) (island : Option Nat) (raw : Bool)
  /-- TEST_RUN (R810). -/
  | testRun (l : Line) (island : Nat) (parts : List TestPart) (loop : Int)
  /-- ISLAND_REVIVE (R807). -/
  | islandRevive (l : Line) (id : Nat)
  /-- RES_SHOW (R827). -/
  | resShow (l : Line)
  /-- FRAME_SENT (R305). -/
  | frameSent (port : PortId)
  /-- HANDSHAKE_TIMEOUT (R149). -/
  | handshakeTimeout (silent : Island) (requester : Requester)
  /-- DRAM_REBUILD_DONE (R161). -/
  | dramRebuildDone (region : DramRegion)
  /-- HWSTAT_FOLD (R302). -/
  | hwstatFold (port : PortId) (index amount : Nat)
  /-- EVENT_LINE_WINDOW_END (R245). -/
  | eventLineWindowEnd (sess : SessId)
  /-- LINK_DOWNSHIFT (R270). -/
  | linkDownshift (port : PortId) (speed : Nat)
  /-- LAG_NO_PARTNER (R281). -/
  | lagNoPartner (port : PortId)
  /-- COUNTER_HALF (R301). -/
  | counterHalf (port : PortId) (c : Ctr)
  /-- COUNTER_FOLD (R303). -/
  | counterFold (port : PortId) (c : Ctr)
  /-- COUNTER_SATURATED (R301). -/
  | counterSaturated (port : PortId) (c : Ctr)
  /-- ICMP_PACKET_TOO_BIG (R344). -/
  | icmpPacketTooBig (dst : IpAddr) (mtu : Nat)
  /-- CLOSED_PORT_PACKET (R346). -/
  | closedPortPacket (port : PortId) (ifc : IfNo) (ends : Ends) (proto : ClosedProto)
  /-- LLDP_NEIGHBOUR_EXPIRY (R347). -/
  | lldpNeighbourExpiry (port : PortId) (chassis portId : List Byte)
  /-- TLS_RECORD_FAIL (R404). -/
  | tlsRecordFail (conn : Nat)
  /-- DISCARD_TICKET_DONE (R476). -/
  | discardTicketDone (ticket : Nat)
  /-- RELOCATE_MESSAGE (R533). -/
  | relocateMessage (h : RowHdr) (m : RelocMsg)
  /-- CHECKPOINT_SEGMENT (R599). -/
  | checkpointSegment (segment : Nat) (index : Bool)
  /-- BED_BIN_END (R592). -/
  | bedBinEnd (band : Nat)
  /-- DIE_FAILED (R637). -/
  | dieFailed (channel : Fin 16) (target : Fin 8) (cause : DieCause)
  /-- SHELTER_MOVED (R611). -/
  | shelterMoved (second : Bool)
  /-- GC_LOAD_WINDOW (R623). -/
  | gcLoadWindow (hostLoad : Nat)
  /-- GC_BAND_FREED (R622). -/
  | gcBandFreed (band : Nat)
  /-- ERASE_DONE (R638). -/
  | eraseDone (b : BlockId) (ok : Bool)
  /-- PATROL_READ (R632). -/
  | patrolRead (b : BlockId) (stripe : Nat) (r : ReadOutcome) (bits : Nat)
  /-- SHRED_SCAN (R645). -/
  | shredScan (ticket : Nat)
  /-- ARC_SEARCH (R668). -/
  | arcSearch (req : ArcReq) (found : List (Nat × ArcCheck))
  /-- ARC_CURSOR_FREE (R669). -/
  | arcCursorFree (cursor : Fin 16)
  /-- ARC_SCRUB_UNIT (R680). -/
  | arcScrubUnit (found : ArcCheck)
  /-- ARC_REBUILD (R694). -/
  | arcRebuild (bank : Fin 16)
  /-- ROW_RETRANSMIT (R715). -/
  | rowRetransmit (peer msgId : Nat)
  /-- FIND_CANCEL (R735). -/
  | findCancel (h : RowHdr)
  /-- MIRROR_COPY_EXPIRY (R727). -/
  | mirrorCopyExpiry (origin : Nat) (k : ObjKey)
  /-- RELAY_OFFER (R770). -/
  | relayOffer (h : RowHdr) (o : RelayOffer) (r : InstallResult)
  /-- PIECE_REQ (R770). -/
  | pieceReq (h : RowHdr) (parcel n : Nat)
  /-- RELAY_PIECE (R770). -/
  | relayPiece (h : RowHdr) (n : Nat) (d : PieceData) (r : InstallResult)
  /-- RELAY_STATUS (R772). -/
  | relayStatus (h : RowHdr) (parcel reporter : Nat) (st : RelayStat)
  /-- ZERO_WINDOW_TIMEOUT (R821). -/
  | zeroWindowTimeout (conn : Nat)
  /-- CELL_RETURN (R117). -/
  | cellReturn (cell : Fin 12)
  /-- RELOCATE_COPY (R533). -/
  | relocateCopy (stall : StallNo)
  /-- LEAD_SELECT (R97). -/
  | leadSelect
  /-- S01_BUDGET_MET (R194). -/
  | s01BudgetMet
  /-- START_HOT_HOLD (R203). -/
  | startHotHold
  /-- S17_LINK_RETRY (R204). -/
  | s17LinkRetry
  /-- HALT_DRAIN_END (R44). -/
  | haltDrainEnd
  /-- POWER_FAIL (R124). -/
  | powerFail
  /-- LEVEL_UP (R111). -/
  | levelUp
  /-- STARVED_TIMEOUT (R108). -/
  | starvedTimeout
  /-- HOLDUP_PERIODIC (R115). -/
  | holdupPeriodic
  /-- HOLDUP_DISCHARGE_START (R116). -/
  | holdupDischargeStart
  /-- BANK_RECHARGED (R116). -/
  | bankRecharged
  /-- CAP_ADMISSION (R119). -/
  | capAdmission
  /-- REFERENCE_CLOCK_LOSS (R145). -/
  | referenceClockLoss
  /-- GATEHOUSE_WATCHDOG (R154). -/
  | gatehouseWatchdog
  /-- GATEHOUSE_RESET (R155). -/
  | gatehouseReset
  /-- GATEHOUSE_RESET_TIMEOUT (R155). -/
  | gatehouseResetTimeout
  /-- DRAM_SCRUB (R160). -/
  | dramScrub
  /-- USB_ATTACH (R59). -/
  | usbAttach
  /-- USB_DETACH (R59). -/
  | usbDetach
  /-- USB_SET_LINE_CODING (R84). -/
  | usbSetLineCoding
  /-- BUTTON_PRESS (R66). -/
  | buttonPress
  /-- BUTTON_STUCK (R68). -/
  | buttonStuck
  /-- BUTTON_LOCKOUT_CLEAR (R68). -/
  | buttonLockoutClear
  /-- LID_OPEN (R72). -/
  | lidOpen
  /-- LID_CLOSED (R72). -/
  | lidClosed
  /-- PRESENCE_EXPIRY (R78). -/
  | presenceExpiry
  /-- JCON_FRAMING_ERROR (R80). -/
  | jconFramingError
  /-- JCON_SHORT_BREAK (R80). -/
  | jconShortBreak
  /-- LINE_FAULT (R80). -/
  | lineFault
  /-- LINE_RECOVERED (R82). -/
  | lineRecovered
  /-- LOCATE_EXPIRY (R65). -/
  | locateExpiry
  /-- BOND_REVERT (R277). -/
  | bondRevert
  /-- PTP_ANNOUNCE_TIMEOUT (R349). -/
  | ptpAnnounceTimeout
  /-- TIME_STEP_REFUSED (R355). -/
  | timeStepRefused
  /-- RTC_WRITE (R360). -/
  | rtcWrite
  /-- LEDGER_CHECKPOINT (R363). -/
  | ledgerCheckpoint
  /-- SCHED_DISPATCH (R542). -/
  | schedDispatch
  /-- METER_TICK (R566). -/
  | meterTick
  /-- LOG_PROGRAM (R602). -/
  | logProgram
  /-- REBUILD_BAND (R613). -/
  | rebuildBand
  /-- GC_RECLAIM_TIMER (R623). -/
  | gcReclaimTimer
  /-- WEAR_LEVEL_MOVE (R628). -/
  | wearLevelMove
  /-- BLOCK_REFRESHED (R630). -/
  | blockRefreshed
  /-- HEALTH_TEMP_TICK (R651). -/
  | healthTempTick
  /-- ARC_INSERT (R673). -/
  | arcInsert
  /-- ARC_INVALIDATE (R674). -/
  | arcInvalidate
  /-- ARC_SCRUB_PASS (R681). -/
  | arcScrubPass
  /-- BEACON_SEND (R702). -/
  | beaconSend
  /-- LEADER_TIMEOUT (R710). -/
  | leaderTimeout
  /-- MIRROR_RETRY (R729). -/
  | mirrorRetry
  /-- MIRROR_SEND (R726). -/
  | mirrorSend
  /-- MIRROR_CATCHUP (R732). -/
  | mirrorCatchup
  /-- PARCEL_EXPIRY (R748). -/
  | parcelExpiry
  /-- TRIAL_WINDOW_END (R755). -/
  | trialWindowEnd
  /-- EVENT_LOG_COPY (R850). -/
  | eventLogCopy
deriving DecidableEq, Repr

end Sys2Proof
end

