-- ==== Sys2Proof/Machine/Attrs.lean ====
section
/-!
DEFINITION. The attribute space (ch. 04, 20): the number of each attribute, its fields with their bits, access, range and
factory value, the commit groups and their members, and the marks of the Attribute map.
-/

namespace Sys2Proof.Machine

open Sys2Proof

/-! ### Codes -/

/-- Port counter codes (ch. 20, Port counter codes table). -/
def ctrCode : Ctr → Nat
  | .rxOctets => 0x00 | .rxFrames => 0x01 | .rxUnicast => 0x02 | .rxMulticast => 0x03 | .rxBroadcast => 0x04
  | .rxVlanTagged => 0x05 | .rxPause => 0x06 | .rxPfc => 0x07 | .rxSize64 => 0x08 | .rxSize65_127 => 0x09
  | .rxSize128_255 => 0x0A | .rxSize256_511 => 0x0B | .rxSize512_1023 => 0x0C | .rxSize1024_1518 => 0x0D
  | .rxSize1519_2047 => 0x0E | .rxSize2048_4095 => 0x0F | .rxSize4096_9216 => 0x10 | .rxFcsErr => 0x11
  | .rxRunt => 0x12 | .rxFragment => 0x13 | .rxSymbolErr => 0x14 | .rxFilterMiss => 0x15 | .rxStandby => 0x16
  | .rxVlanUnknown => 0x17 | .rxTypeDrop => 0x18 | .rxBufDrop => 0x19 | .txOctets => 0x20 | .txFrames => 0x21
  | .txUnicast => 0x22 | .txMulticast => 0x23 | .txBroadcast => 0x24 | .txVlanTagged => 0x25 | .txSize64 => 0x26
  | .txSize65_127 => 0x27 | .txSize128_255 => 0x28 | .txSize256_511 => 0x29 | .txSize512_1023 => 0x2A
  | .txSize1024_1518 => 0x2B | .txSize1519_2047 => 0x2C | .txSize2048_4095 => 0x2D | .txSize4096_9216 => 0x2E
  | .txQ0 => 0x2F | .txQ1 => 0x30 | .txQ2 => 0x31 | .txQ3 => 0x32 | .txQ4 => 0x33 | .txQ5 => 0x34 | .txQ6 => 0x35
  | .txQ7 => 0x36 | .txPausedQuanta => 0x37 | .txDiscard => 0x38

/-- Every port counter, in code order. -/
def allCtrs : List Ctr :=
  [.rxOctets, .rxFrames, .rxUnicast, .rxMulticast, .rxBroadcast, .rxVlanTagged, .rxPause, .rxPfc, .rxSize64,
    .rxSize65_127, .rxSize128_255, .rxSize256_511, .rxSize512_1023, .rxSize1024_1518, .rxSize1519_2047,
    .rxSize2048_4095, .rxSize4096_9216, .rxFcsErr, .rxRunt, .rxFragment, .rxSymbolErr, .rxFilterMiss, .rxStandby,
    .rxVlanUnknown, .rxTypeDrop, .rxBufDrop]
  ++ [.txOctets, .txFrames, .txUnicast, .txMulticast, .txBroadcast, .txVlanTagged, .txSize64, .txSize65_127,
    .txSize128_255, .txSize256_511, .txSize512_1023, .txSize1024_1518, .txSize1519_2047, .txSize2048_4095,
    .txSize4096_9216, .txQ0, .txQ1, .txQ2, .txQ3, .txQ4, .txQ5, .txQ6, .txQ7, .txPausedQuanta, .txDiscard]

/-- The counter with a code, if the code is assigned. -/
def ctrOfCode (n : Nat) : Option Ctr := allCtrs.find? (fun c => ctrCode c == n)

/-- Order of R422. -/
def protoCtrs : List ProtoCtr :=
  [.badFrame, .resync, .resyncBytes, .resyncFail, .timeoutClose, .authFail, .kv1Refused, .hbDropped, .oversizeP0,
    .oversizeP1]

/-- Order of the Health counters table. -/
def healthCtrs : List HealthCtr :=
  [.pagesRebuilt, .pagesLost, .refreshes, .halfErased, .shredBands, .feedLosses, .changeovers, .powerFails,
    .levelChanges, .thermalHalts, .holdupWeak, .lidOpens, .presenceFaults]

/-- Order of ARC.STAT. -/
def arcCtrs : List ArcCtr := [.searches, .steps, .falseHits, .scrubFixes, .entriesLost, .moves, .pairedWrites]

/-- The place of an element in a list that holds it. -/
def indexIn {α : Type} [DecidableEq α] (x : α) (l : List α) : Nat := l.findIdx (fun y => decide (y = x))

/-- NET island number of a port in attribute numbers. -/
def netBase (p : PortId) : Nat := match p with | .p0 => 0x04000000 | .p1 => 0x05000000

/-- The attribute's number (R164, R844; ch. 20, Attribute map). -/
def attrNum : Attr → Nat
  | .isl i => 0x00010000 + i.id
  | .bayStatus => 0x00020100 | .bayCfg => 0x00020200
  | .startStatus => 0x00030100 | .startAlt => 0x00030200
  | .fwStatus => 0x00040100 | .fwVersionA => 0x00040200 | .fwVersionB => 0x00040300 | .gateVersion => 0x00040400
  | .parcelId => 0x00040500
  | .lcStatus => 0x00050100 | .testStatus => 0x00060100 | .testUnusable => 0x00060200
  | .feedStatus => 0x01010100 | .policy => 0x01020100 | .holdupStatus => 0x01030100 | .holdupLast => 0x01030200
  | .thermalStatus => 0x01040100 | .eccCorrected => 0x03010100
  | .kvCfg => 0x06010100
  | .kv1SrcHi k => 0x06020100 + k.val | .kv1SrcLo k => 0x06020200 + k.val | .kv1SrcCtrl k => 0x06020300 + k.val
  | .protoStat c => 0x06030000 + indexIn c protoCtrs
  | .schedOps s => 0x07010100 + s.val | .schedRd s => 0x07010200 + s.val | .schedWr s => 0x07010300 + s.val
  | .schedBf s => 0x07010400 + s.val | .schedWeight s => 0x07010500 + s.val
  | .arcBankCfg b => 0x09010100 + b.val | .arcBankStatus b => 0x09010200 + b.val | .arcStatus => 0x09020100
  | .arcStat c => 0x09030000 + indexIn c arcCtrs
  | .cfgSequence => 0x02010100 | .bondCfg => 0x02020100 | .bondStatus => 0x02020200 | .vlanCfg => 0x02030100
  | .vlanKCfg k => 0x02040100 + k.val | .vlanStallsLo k => 0x02040200 + k.val | .vlanStallsHi k => 0x02040300 + k.val
  | .ifCfg k => 0x02050100 + k.val | .ifV4 k => 0x02050200 + k.val | .ifV4gw k => 0x02050300 + k.val
  | .ifV6Hi k => 0x02050400 + k.val | .ifV6Lo k => 0x02050500 + k.val | .ifV6gwHi k => 0x02050600 + k.val
  | .ifV6gwLo k => 0x02050700 + k.val
  | .routeCfg => 0x02060100 | .lldpName k => 0x02070100 + k.val
  | .timeCfg => 0x02080100 | .ntpHi k => 0x02080200 + k.val | .ntpLo k => 0x02080300 + k.val
  | .timeStatus => 0x02080400 | .timeWall => 0x02080500 | .timeLedger => 0x02080600
  | .mediaStatus => 0x02090100 | .mediaLostLo => 0x02090200 | .mediaLostHi => 0x02090300
  | .healthWear => 0x020A0100 | .healthBlocks => 0x020A0200 | .healthTemp m => 0x020A0300 + m.val
  | .healthHoldup m => 0x020A0400 + m.val | .healthCtr c => 0x020A0500 + indexIn c healthCtrs
  | .gcStatus => 0x020B0100 | .retCfg => 0x020C0100
  | .rowCfg => 0x020D0100 | .rowStatus => 0x020D0200 | .rowEpoch => 0x020D0300 | .rowLeader => 0x020D0400
  | .rowNeighbour => 0x020D0500 | .mirrorMark => 0x020D0600 | .mirrorHeld => 0x020D0700
  | .rowBeaconBad => 0x020D0800 | .rowMsgBad => 0x020D0900
  | .fwCfg => 0x020E0100 | .resLive => 0x020F0100 | .resLiveMax => 0x020F0200
  | .stallState s => 0x02100100 + s.val | .stallHost s => 0x02100200 + s.val
  | .stallLateDiscard s => 0x02100300 + s.val | .stallAborted s => 0x02100400 + s.val
  | .quotaBytes s => 0x02100500 + s.val | .quotaHold s => 0x02100600 + s.val | .quotaObjects s => 0x02100700 + s.val
  | .quotaTags s => 0x02100800 + s.val | .retention s => 0x02100900 + s.val | .meterCfg s => 0x02100A00 + s.val
  | .meterStored s => 0x02100B00 + s.val | .meterWritten s => 0x02100C00 + s.val | .meterRead s => 0x02100D00 + s.val
  | .meterOps s => 0x02100E00 + s.val | .meterShredded s => 0x02100F00 + s.val | .rowten s => 0x02101000 + s.val
  | .phyCfg p => netBase p + 0x010100 | .phyStatus p => netBase p + 0x010200
  | .macAddr p => netBase p + 0x020100 | .macCfg p => netBase p + 0x020200 | .macDiag p => netBase p + 0x020300
  | .macFilter p f => netBase p + 0x020400 + f.val
  | .hwstat p c => netBase p + 0x030000 + ctrCode c | .hwFold p => netBase p + 0x0300FF
  | .stat p c => netBase p + 0x040000 + ctrCode c
  | .wakeCfg p => netBase p + 0x050100 | .wakeCtrl p k => netBase p + 0x050200 + k.val
  | .wakeMask p k => netBase p + 0x050300 + k.val | .wakeData p j k => netBase p + 0x051000 + 0x0100 * j.val + k.val

/-- An instance number below a bound. -/
def inst (n bound : Nat) : Option (Fin bound) := if h : n < bound then some ⟨n, h⟩ else none

/-- An element of a list by its place. -/
def nth? {α : Type} (l : List α) (n : Nat) : Option α := l[n]?

/-- An attribute of a NET island by group, member and instance. -/
def netAttr (p : PortId) (g m i : Nat) : Option Attr :=
  match g, m with
  | 0x01, 0x01 => if i = 0 then some (.phyCfg p) else none
  | 0x01, 0x02 => if i = 0 then some (.phyStatus p) else none
  | 0x02, 0x01 => if i = 0 then some (.macAddr p) else none
  | 0x02, 0x02 => if i = 0 then some (.macCfg p) else none
  | 0x02, 0x03 => if i = 0 then some (.macDiag p) else none
  | 0x02, 0x04 => (inst i 16).map (.macFilter p)
  | 0x03, 0x00 => if i = 0xFF then some (.hwFold p) else (ctrOfCode i).map (.hwstat p)
  | 0x04, 0x00 => (ctrOfCode i).map (.stat p)
  | 0x05, 0x01 => if i = 0 then some (.wakeCfg p) else none
  | 0x05, 0x02 => (inst i 4).map (.wakeCtrl p)
  | 0x05, 0x03 => (inst i 4).map (.wakeMask p)
  | 0x05, m => if m < 0x10 then none
      else (inst (m - 0x10) 8).bind (fun j => (inst i 4).map (fun k => .wakeData p j k))
  | _, _ => none

/-- An attribute of CORE by group, member and instance. -/
def coreAttr (g m i : Nat) : Option Attr :=
  let one (a : Attr) : Option Attr := if i = 0 then some a else none
  match g with
  | 0x01 => if m = 0x01 then one .cfgSequence else none
  | 0x02 => if m = 0x01 then one .bondCfg else if m = 0x02 then one .bondStatus else none
  | 0x03 => if m = 0x01 then one .vlanCfg else none
  | 0x04 => (inst i 8).bind (fun k =>
      match m with | 0x01 => some (.vlanKCfg k) | 0x02 => some (.vlanStallsLo k) | 0x03 => some (.vlanStallsHi k)
                   | _ => none)
  | 0x05 => (inst i 9).bind (fun k =>
      match m with | 0x01 => some (.ifCfg k) | 0x02 => some (.ifV4 k) | 0x03 => some (.ifV4gw k)
                   | 0x04 => some (.ifV6Hi k) | 0x05 => some (.ifV6Lo k) | 0x06 => some (.ifV6gwHi k)
                   | 0x07 => some (.ifV6gwLo k) | _ => none)
  | 0x06 => if m = 0x01 then one .routeCfg else none
  | 0x07 => if m = 0x01 then (inst i 8).map .lldpName else none
  | 0x08 => match m with
      | 0x01 => one .timeCfg | 0x02 => (inst i 4).map .ntpHi | 0x03 => (inst i 4).map .ntpLo
      | 0x04 => one .timeStatus | 0x05 => one .timeWall | 0x06 => one .timeLedger | _ => none
  | 0x09 => match m with
      | 0x01 => one .mediaStatus | 0x02 => one .mediaLostLo | 0x03 => one .mediaLostHi | _ => none
  | 0x0A => match m with
      | 0x01 => one .healthWear | 0x02 => one .healthBlocks | 0x03 => (inst i 14).map .healthTemp
      | 0x04 => (inst i 64).map .healthHoldup | 0x05 => (nth? healthCtrs i).map .healthCtr | _ => none
  | 0x0B => if m = 0x01 then one .gcStatus else none
  | 0x0C => if m = 0x01 then one .retCfg else none
  | 0x0D => match m with
      | 0x01 => one .rowCfg | 0x02 => one .rowStatus | 0x03 => one .rowEpoch | 0x04 => one .rowLeader
      | 0x05 => one .rowNeighbour | 0x06 => one .mirrorMark | 0x07 => one .mirrorHeld | 0x08 => one .rowBeaconBad
      | 0x09 => one .rowMsgBad | _ => none
  | 0x0E => if m = 0x01 then one .fwCfg else none
  | 0x0F => match m with | 0x01 => one .resLive | 0x02 => one .resLiveMax | _ => none
  | 0x10 => (inst i 128).bind (fun s =>
      match m with
      | 0x01 => some (.stallState s) | 0x02 => some (.stallHost s) | 0x03 => some (.stallLateDiscard s)
      | 0x04 => some (.stallAborted s) | 0x05 => some (.quotaBytes s) | 0x06 => some (.quotaHold s)
      | 0x07 => some (.quotaObjects s) | 0x08 => some (.quotaTags s) | 0x09 => some (.retention s)
      | 0x0A => some (.meterCfg s) | 0x0B => some (.meterStored s) | 0x0C => some (.meterWritten s)
      | 0x0D => some (.meterRead s) | 0x0E => some (.meterOps s) | 0x0F => some (.meterShredded s)
      | 0x10 => some (.rowten s) | _ => none)
  | _ => none

/-- An attribute of SVC by group, member and instance. -/
def svcAttr (g m i : Nat) : Option Attr :=
  let one (a : Attr) : Option Attr := if i = 0 then some a else none
  match g with
  | 0x01 => if m = 0x00 then (Island.ofId i).map .isl else none
  | 0x02 => match m with | 0x01 => one .bayStatus | 0x02 => one .bayCfg | _ => none
  | 0x03 => match m with | 0x01 => one .startStatus | 0x02 => one .startAlt | _ => none
  | 0x04 => match m with
      | 0x01 => one .fwStatus | 0x02 => one .fwVersionA | 0x03 => one .fwVersionB | 0x04 => one .gateVersion
      | 0x05 => one .parcelId | _ => none
  | 0x05 => if m = 0x01 then one .lcStatus else none
  | 0x06 => match m with | 0x01 => one .testStatus | 0x02 => one .testUnusable | _ => none
  | _ => none

/-- An attribute of PWR, DRAM, PROTO, SCHED or ARC by island, group, member and instance. -/
def smallAttr (isl g m i : Nat) : Option Attr :=
  let one (a : Attr) : Option Attr := if i = 0 then some a else none
  match isl with
  | 0x01 => match g, m with
      | 0x01, 0x01 => one .feedStatus | 0x02, 0x01 => one .policy | 0x03, 0x01 => one .holdupStatus
      | 0x03, 0x02 => one .holdupLast | 0x04, 0x01 => one .thermalStatus | _, _ => none
  | 0x03 => match g, m with | 0x01, 0x01 => one .eccCorrected | _, _ => none
  | 0x06 => match g, m with
      | 0x01, 0x01 => one .kvCfg | 0x02, 0x01 => (inst i 64).map .kv1SrcHi | 0x02, 0x02 => (inst i 64).map .kv1SrcLo
      | 0x02, 0x03 => (inst i 64).map .kv1SrcCtrl | 0x03, 0x00 => (nth? protoCtrs i).map .protoStat | _, _ => none
  | 0x07 => match g, m with
      | 0x01, 0x01 => (inst i 128).map .schedOps | 0x01, 0x02 => (inst i 128).map .schedRd
      | 0x01, 0x03 => (inst i 128).map .schedWr | 0x01, 0x04 => (inst i 128).map .schedBf
      | 0x01, 0x05 => (inst i 128).map .schedWeight | _, _ => none
  | 0x09 => match g, m with
      | 0x01, 0x01 => (inst i 16).map .arcBankCfg | 0x01, 0x02 => (inst i 16).map .arcBankStatus
      | 0x02, 0x01 => one .arcStatus | 0x03, 0x00 => (nth? arcCtrs i).map .arcStat | _, _ => none
  | _ => none

/-- The attribute a number names, if it is assigned (R165, R844). -/
def attrOfNum (n : Nat) : Option Attr :=
  let isl := n / 0x1000000
  let g := n / 0x10000 % 0x100
  let m := n / 0x100 % 0x100
  let i := n % 0x100
  match isl with
  | 0x00 => svcAttr g m i
  | 0x02 => coreAttr g m i
  | 0x04 => netAttr .p0 g m i
  | 0x05 => netAttr .p1 g m i
  | isl => smallAttr isl g m i

/-! ### Fields -/

/-- Access codes (ch. 00, Field maps and attributes). -/
inductive Access
  | ro | rw | rwc | w1c | wo
deriving DecidableEq, Repr

/-- One field of an attribute. -/
structure FieldDesc where
  /-- Its name. -/
  name : String
  /-- Highest bit. -/
  hi : Nat
  /-- Lowest bit. -/
  lo : Nat
  /-- Access. -/
  acc : Access
  /-- Reset from configuration (cfg). -/
  cfg : Bool
  /-- Accepted values, as inclusive intervals; empty for all. -/
  range : List (Nat × Nat) := []
  /-- Factory value. -/
  factory : Nat := 0
  /-- Signed. -/
  signed : Bool := false
deriving DecidableEq, Repr

/-- Width of a field. -/
def fieldWidth (f : FieldDesc) : Nat := f.hi - f.lo + 1

/-- A field's value in a word. -/
def fieldGet (f : FieldDesc) (w : Word64) : Nat := w.toNat / 2 ^ f.lo % 2 ^ (fieldWidth f)

/-- A word with one field replaced. -/
def fieldPut (f : FieldDesc) (w : Word64) (v : Nat) : Word64 :=
  BitVec.ofNat 64 (w.toNat - fieldGet f w * 2 ^ f.lo + v % 2 ^ (fieldWidth f) * 2 ^ f.lo)

/-- A value lies in a field's width and stated range (R168). -/
def fieldOk (f : FieldDesc) (v : Nat) : Bool :=
  decide (v < 2 ^ (fieldWidth f)) && (f.range.isEmpty || f.range.any (fun r => decide (r.1 ≤ v) && decide (v ≤ r.2)))

/-- A field that reads only. -/
def ro (name : String) (hi lo : Nat) : FieldDesc := { name, hi, lo, acc := .ro, cfg := false }

/-- A signed field that reads only. -/
def roS (name : String) (hi lo : Nat) : FieldDesc := { name, hi, lo, acc := .ro, cfg := false, signed := true }

/-- A field that reads only and resets from configuration. -/
def roC (name : String) (hi lo : Nat) : FieldDesc := { name, hi, lo, acc := .ro, cfg := true }

/-- A field written at once, from configuration. -/
def rw_ (name : String) (hi lo : Nat) (range : List (Nat × Nat)) (factory : Nat) : FieldDesc :=
  { name, hi, lo, acc := .rw, cfg := true, range, factory }

/-- A field written through its commit group, from configuration. -/
def rwc (name : String) (hi lo : Nat) (range : List (Nat × Nat)) (factory : Nat) : FieldDesc :=
  { name, hi, lo, acc := .rwc, cfg := true, range, factory }

/-- A quarter's field of ARC.BANKb.CFG (ch. 15). -/
def quarterField (b : Fin 16) (name : String) (hi lo : Nat) : FieldDesc :=
  if b.val < 4 then roC name hi lo else rwc name hi lo [] 0

/-- The fields of each attribute: the field maps of ch. 02 to 18, and VALUE under R871 where there is no map. -/
def attrFields : Attr → List FieldDesc
  | .isl _ => [ro "ID" 63 56, roS "JUNCTION" 55 48, ro "CAUSE" 47 40, ro "FAULTS" 39 32, roS "FREQ_DEV" 31 16,
      roS "VOLT_DEV" 15 8, ro "STATE" 3 0]
  | .bayStatus => [ro "PRESENCE_LEFT" 47 32, { name := "FAULT_SEEN", hi := 17, lo := 17, acc := .w1c, cfg := false },
      { name := "TAMPER", hi := 16, lo := 16, acc := .w1c, cfg := true }, ro "PRESENCE_OPEN" 11 11,
      ro "USB_ATTACHED" 10 10, ro "JCON_LINE_FAULT" 9 9, ro "JSVC" 8 8, ro "LID_FAULT" 7 7, ro "LID" 6 6,
      ro "LID_B" 5 5, ro "LID_A" 4 4, ro "BTN_LOCKOUT" 3 3, ro "BTN" 2 2, ro "BTN_B" 1 1, ro "BTN_A" 0 0]
  | .bayCfg => [rw_ "LID_LOCK" 15 15 [] 0, rw_ "JCON_BAUD" 11 8 [(0, 7)] 4, rw_ "WINDOW_MIN" 5 0 [(1, 30)] 10]
  | .startStatus => [ro "START_NO" 63 32, ro "SAFE_CAUSE" 31 24, ro "SCAN_PCT" 23 16, ro "FAILED_STARTS" 15 12,
      ro "SAFE" 11 11, ro "FULLSCAN" 10 10, ro "TRIAL" 9 9, ro "ALT" 8 8, ro "STEP" 7 0]
  | .startAlt => [ro "STEPS" 23 0]
  | .fwStatus => [ro "COUNTER" 63 56, roC "BURN_TARGET" 55 48, roC "SLOT_B" 39 36, roC "SLOT_A" 35 32,
      roC "PARCEL" 19 16, roC "TRIAL_FAILS" 9 8, ro "GATE_SLOT" 2 2, ro "RUNNING" 1 0]
  | .fwVersionA | .fwVersionB | .gateVersion | .parcelId => [roC "VALUE" 63 0]
  | .lcStatus => [roC "INTENT" 31 28, ro "RETURNS_LEFT" 15 12, ro "LC_COUNT" 11 8, ro "TEST_OPEN" 4 4, ro "STATE" 3 0]
  | .testStatus => [roC "RUN_SEQ" 63 32, ro "ISLAND" 31 24, ro "ENGINE" 23 20, ro "ELAPSED" 15 8]
  | .testUnusable => [roC "VALUE" 31 0]
  | .feedStatus => [ro "LEVEL" 49 48, ro "BUDGET" 47 32, ro "LLDP_ALLOC" 31 16, ro "P1" 15 8, ro "P0" 7 0]
  | .policy => [rw_ "PREFER" 40 40 [] 0, rwc "LEVEL_MAX" 33 32 [] 0, rwc "DIRTY_CAP" 8 0 [(0, 256)] 256]
  | .holdupStatus => [ro "E_MEAS" 63 48, ro "E_AVAIL" 47 32, ro "CAP" 31 23, ro "DIRTY" 22 14, ro "CELL_FAULT" 3 3,
      ro "MEASURING" 2 2, ro "WEAK" 1 1, ro "WT" 0 0]
  | .holdupLast => [roC "VALUE" 63 0]
  | .thermalStatus => [roS "FLASH_MAX" 63 48, roS "FLASH_MIN" 47 32, ro "HEATER" 4 4, ro "COLD_GATE" 3 3,
      ro "TSTATE" 2 0]
  | .eccCorrected => [ro "VALUE" 63 0]
  | .kvCfg => [rw_ "KV3_EN" 2 2 [] 1, rw_ "KV2_EN" 1 1 [] 1, rw_ "KV1_EN" 0 0 [] 0]
  | .kv1SrcHi _ | .kv1SrcLo _ => [rwc "VALUE" 63 0 [] 0]
  | .kv1SrcCtrl _ => [rwc "ENABLE" 63 63 [] 0, rwc "STALL" 6 0 [] 0]
  | .protoStat _ => [ro "VALUE" 63 0]
  | .schedOps _ | .schedRd _ | .schedWr _ => [rwc "RATE" 63 32 [] 0, rwc "BURST" 31 0 [] 0]
  | .schedBf _ => [rwc "RATE" 63 32 [] 25000000, rwc "BURST" 31 0 [] 8388608]
  | .schedWeight _ => [rwc "WEIGHT" 6 0 [(1, 64)] 8]
  | .arcBankCfg b => [quarterField b "Q3" 63 56, quarterField b "Q2" 55 48, quarterField b "Q1" 47 40,
      quarterField b "Q0" 39 32,
      if b.val < 4 then { roC "WIDTH" 1 0 with factory := if b.val = 2 then 1 else if b.val = 3 then 2 else 0 }
      else rwc "WIDTH" 1 0 [(0, 2)] 0]
  | .arcBankStatus _ => [ro "ENTRIES" 63 48, ro "REBUILDING" 32 32, ro "FALSE_HITS" 31 16, ro "SCRUB_FIXES" 15 0]
  | .arcStatus => [ro "QUEUE" 63 55, ro "CURSORS" 54 50, ro "SCRUB_AGE" 31 0]
  | .arcStat _ => [ro "VALUE" 63 0]
  | .cfgSequence => [roC "VALUE" 63 0]
  | .bondCfg => [rwc "MODE" 5 4 [(0, 1)] 0, rwc "PRIMARY" 3 3 [] 0, rwc "REVERT" 2 2 [] 0, rwc "LACP_FAST" 1 1 [] 1]
  | .bondStatus => [ro "P1_LACP" 7 6, ro "P0_LACP" 5 4, ro "ACTIVE" 1 0]
  | .vlanCfg => [rw_ "UNTAGGED" 0 0 [] 1]
  | .vlanKCfg _ => [rwc "ENABLE" 63 63 [] 0, rwc "VID" 11 0 [(1, 4094)] 1]
  | .vlanStallsLo _ | .vlanStallsHi _ => [rwc "VALUE" 63 0 [] 0]
  | .ifCfg _ => [rwc "V6_PREFIX" 63 56 [(1, 128)] 64, rwc "V4_PREFIX" 55 48 [(1, 31)] 24,
      rwc "SERVICES" 35 32 [] 0b1110, rwc "V6_MODE" 6 4 [(0, 3)] 1, rwc "V4_MODE" 1 0 [(0, 2)] 1]
  | .ifV4 _ | .ifV4gw _ => [rwc "VALUE" 31 0 [] 0]
  | .ifV6Hi _ | .ifV6Lo _ | .ifV6gwHi _ | .ifV6gwLo _ => [rwc "VALUE" 63 0 [] 0]
  | .routeCfg => [rw_ "DEF4" 11 8 [(0, 8), (15, 15)] 8, rw_ "DEF6" 3 0 [(0, 8), (15, 15)] 8]
  | .lldpName _ => [rwc "VALUE" 63 0 [] 0]
  | .timeCfg => [rwc "STEP_LIMIT" 63 32 [] 3600, rwc "PTP_DOMAIN" 31 24 [(0, 127)] 0, rwc "PTP_IF" 23 20 [(0, 8)] 8,
      rwc "PTP_TRANSPORT" 19 18 [(0, 2)] 0, rwc "PTP_EN" 17 17 [] 0, rwc "NTP_EN" 16 16 [] 1,
      rwc "NTP_DHCP" 15 15 [] 1]
  | .ntpHi _ | .ntpLo _ => [rwc "VALUE" 63 0 [] 0]
  | .timeStatus => [roS "OFFSET" 63 32, ro "STRATUM" 23 16, ro "DISAGREE" 7 7, ro "RTC_VALID" 6 6,
      roC "EVER_SET" 5 5, ro "WSTATE" 2 0]
  | .timeWall | .timeLedger => [ro "VALUE" 63 0]
  | .mediaStatus => [roC "SHELTER_A" 63 48, roC "SHELTER_B" 47 32, ro "REBUILD_PCT" 31 24, roC "DIES_LOST" 23 16,
      ro "OPEN_BEDS" 15 8, roC "SPILL" 2 2, roC "DEGRADED" 1 1, ro "REBUILD" 0 0]
  | .mediaLostLo | .mediaLostHi => [roC "VALUE" 63 0]
  | .healthWear => [roC "ECOUNT_MAX" 63 48, roC "ECOUNT_AVG" 47 32, roC "ECOUNT_MIN" 31 16, roC "LIFE_USED" 15 8]
  | .healthBlocks => [roC "SPARES_MFG" 63 48, roC "SPARES_LEFT" 47 32, roC "GROWN_BAD" 31 16, roC "FACTORY_BAD" 15 0]
  | .healthTemp _ => [roC "MINUTES" 31 0]
  | .healthHoldup _ => [roC "LTIME_S" 63 24, roC "CAUSE" 23 20, roC "E_MEAS" 15 0]
  | .healthCtr _ => [roC "VALUE" 63 0]
  | .gcStatus => [roC "FREE_BANDS" 63 48, ro "HOST_SHARE" 39 32, roC "PATROL_OLDEST" 31 16, ro "BG" 2 2,
      roC "GC_STATE" 1 0]
  | .retCfg => [rw_ "BIN_HOURS" 4 0 [(1, 24)] 6]
  | .rowCfg => [rwc "ROW_ID" 63 48 [] 0, rwc "POSITION" 47 40 [] 128, rwc "ROW_IF" 39 36 [(0, 8)] 8,
      rwc "MIRROR" 35 35 [] 1, rwc "MIRROR_CAP" 31 16 [(0, 8192)] 1024, rwc "MIRROR_RATE" 15 0 [(1, 1000)] 50]
  | .rowStatus => [ro "MEMBERS" 63 56, ro "ORDER" 55 48, ro "SEARCHES" 47 40, ro "QUEUE" 39 8, ro "ROW_STATE" 3 2,
      ro "MIRROR_STATE" 1 0]
  | .rowEpoch | .mirrorMark | .mirrorHeld => [roC "VALUE" 63 0]
  | .rowLeader | .rowNeighbour | .rowBeaconBad | .rowMsgBad => [ro "VALUE" 63 0]
  | .fwCfg => [rw_ "TRICKLE_RATE" 63 48 [(1, 65535)] 2000, rw_ "RELAY_RATE" 47 32 [(1, 65535)] 5000,
      rw_ "RELAY_ACCEPT" 0 0 [] 1]
  | .resLive | .resLiveMax => [roC "VALUE" 63 0]
  | .stallState _ => [roC "GENERATION" 63 32, roC "OWNER" 27 24, ro "RELOCATING" 8 8, roC "STATE" 3 0]
  | .stallHost _ | .stallLateDiscard _ | .stallAborted _ => [roC "VALUE" 63 0]
  | .quotaBytes _ | .quotaHold _ => [rwc "LIMIT" 63 0 [(0, 26000000000000)] 0]
  | .quotaObjects _ => [rwc "LIMIT" 31 0 [(0, 268435456)] 0]
  | .quotaTags _ => [rwc "LIMIT" 31 0 [(0, 98304)] 0]
  | .retention _ => [rwc "DEFAULT" 63 32 [(60, 315360000)] 2592000, rwc "MAX" 31 0 [(3600, 315360000)] 7776000]
  | .meterCfg _ => [rw_ "KIND" 1 0 [(0, 2)] 2]
  | .meterStored _ | .meterWritten _ | .meterRead _ | .meterOps _ | .meterShredded _ => [roC "VALUE" 63 0]
  | .rowten _ => [rw_ "VALUE" 31 0 [] 0]
  | .phyCfg _ => [rw_ "ENABLE" 8 8 [] 1, rw_ "ADV" 4 0 [(1, 31)] 31]
  | .phyStatus _ => [roS "SNR_MARGIN" 63 48, ro "DOWNSHIFTS" 47 40, ro "RETRAINS" 39 32, ro "LINK" 7 7,
      ro "ENERGY" 6 6, ro "SPEED" 2 0]
  | .macAddr _ => [ro "ADDRESS" 47 0]
  | .macCfg _ => [rw_ "MAX_FRAME" 29 16 [(1518, 9216)] 1518, rw_ "PFC_IGNORE" 3 3 [] 0, rw_ "PAUSE_IGNORE" 2 2 [] 0,
      rw_ "BCAST" 1 1 [] 1]
  | .macDiag _ => [{ name := "CAPTURE", hi := 5, lo := 5, acc := .rw, cfg := false },
      { name := "PROMISC", hi := 4, lo := 4, acc := .rw, cfg := false }]
  | .macFilter _ f =>
      if f.val < 12 then [ro "ENABLE" 63 63, ro "MULTICAST" 62 62, ro "ADDRESS" 47 0]
      else [rw_ "ENABLE" 63 63 [] 0, rw_ "MULTICAST" 62 62 [] 0, rw_ "ADDRESS" 47 0 [] 0]
  | .hwstat _ _ => [{ name := "SAT", hi := 32, lo := 32, acc := .w1c, cfg := false }, ro "COUNT" 31 0]
  | .hwFold _ => [{ name := "INDEX", hi := 47, lo := 32, acc := .wo, cfg := false },
      { name := "AMOUNT", hi := 31, lo := 0, acc := .wo, cfg := false }]
  | .stat _ _ => [ro "VALUE" 63 0]
  | .wakeCfg _ => [rw_ "MAGIC" 4 4 [] 0, rw_ "PATTERNS" 3 0 [] 0]
  | .wakeCtrl _ _ => [rwc "OFFSET" 15 8 [(0, 191)] 0, rwc "LENGTH" 6 0 [(1, 64)] 1]
  | .wakeMask _ _ | .wakeData _ _ _ => [rwc "VALUE" 63 0 [] 0]

/-- A field of an attribute by name. -/
def attrField? (a : Attr) (name : String) : Option FieldDesc := (attrFields a).find? (fun f => f.name == name)

/-- The word of an attribute that holds its factory values. -/
def attrFactory (a : Attr) : Word64 := (attrFields a).foldl (fun w f => fieldPut f w f.factory) 0

/-- Every non-reserved field resets from cfg (R167's exception). -/
def attrAllCfg (a : Attr) : Bool := (attrFields a).all (fun f => f.cfg)

/-- The island that acts on an attribute (R164). -/
def attrIsland (a : Attr) : Option Island := Island.ofId ((attrNum a) / 0x1000000)

/-- The commit group of an attribute (ch. 20, Commit groups table). -/
def attrGroup : Attr → Option Group
  | .policy => some .pwrPolicy
  | .bondCfg => some .bond
  | .vlanKCfg k | .vlanStallsLo k | .vlanStallsHi k => some (.vlan k)
  | .ifCfg k | .ifV4 k | .ifV4gw k | .ifV6Hi k | .ifV6Lo k | .ifV6gwHi k | .ifV6gwLo k => some (.ifc k)
  | .lldpName _ => some .lldpName
  | .timeCfg | .ntpHi _ | .ntpLo _ => some .time
  | .wakeCtrl p k | .wakeMask p k | .wakeData p _ k => some (.wakep p k)
  | .kv1SrcHi k | .kv1SrcLo k | .kv1SrcCtrl k => some (.kv1Src k)
  | .quotaBytes s | .quotaHold s | .quotaObjects s | .quotaTags s => some (.quota s)
  | .retention s => some (.ret s)
  | .schedOps s | .schedRd s | .schedWr s | .schedBf s | .schedWeight s => some (.sched s)
  | .arcBankCfg b => some (.arcBank b)
  | .rowCfg => some .row
  | _ => none

/-- The members of a commit group, in ascending number (ch. 20, Commit groups table). -/
def groupAttrs : Group → List Attr
  | .pwrPolicy => [.policy]
  | .bond => [.bondCfg]
  | .vlan k => [.vlanKCfg k, .vlanStallsLo k, .vlanStallsHi k]
  | .ifc k => [.ifCfg k, .ifV4 k, .ifV4gw k, .ifV6Hi k, .ifV6Lo k, .ifV6gwHi k, .ifV6gwLo k]
  | .lldpName => (List.finRange 8).map .lldpName
  | .time => .timeCfg :: ((List.finRange 4).map .ntpHi ++ (List.finRange 4).map .ntpLo)
  | .wakep p k => [.wakeCtrl p k, .wakeMask p k] ++ (List.finRange 8).map (fun j => .wakeData p j k)
  | .kv1Src k => [.kv1SrcHi k, .kv1SrcLo k, .kv1SrcCtrl k]
  | .quota s => [.quotaBytes s, .quotaHold s, .quotaObjects s, .quotaTags s]
  | .ret s => [.retention s]
  | .sched s => [.schedOps s, .schedRd s, .schedWr s, .schedBf s, .schedWeight s]
  | .arcBank b => [.arcBankCfg b]
  | .row => [.rowCfg]

/-- The start step that restores a group (ch. 20, Commit groups table). -/
def groupStep : Group → Nat
  | .pwrPolicy | .time | .wakep _ _ => 3
  | _ => 10

/-- The start step that restores an attribute's stored value (R162). -/
def restoreStep (a : Attr) : Nat :=
  match (attrGroup a) with
  | some g => groupStep g
  | none => match (attrNum a) / 0x1000000 with
    | 0x00 | 0x01 | 0x04 | 0x05 => 3
    | _ => 10

/-- A group whose writes and discards need presence (R250; ch. 20, Commit groups table). -/
def groupPrivileged : Group → Bool
  | .pwrPolicy | .bond | .time | .kv1Src _ | .row => true
  | _ => false

/-- Mark P of the Attribute map (R848). -/
def attrPriv : Attr → Bool
  | .bayCfg | .policy | .kvCfg | .retCfg | .fwCfg | .phyCfg _ | .macDiag _ => true
  | a => match (attrGroup a) with | some g => groupPrivileged g | none => false

/-- Mark S: the stall whose owner may change the attribute (R499). -/
def attrStall? : Attr → Option StallNo
  | .quotaBytes s | .quotaHold s | .quotaObjects s | .quotaTags s | .retention s | .meterCfg s | .rowten s
  | .schedOps s | .schedRd s | .schedWr s | .schedBf s | .schedWeight s => some s
  | _ => none

/-- Mark X: exported by `config export` (R773, R849). -/
def attrExported : Attr → Bool
  | .bayCfg | .policy | .kvCfg | .kv1SrcHi _ | .kv1SrcLo _ | .kv1SrcCtrl _ | .schedOps _ | .schedRd _ | .schedWr _
  | .schedBf _ | .schedWeight _ | .bondCfg | .vlanCfg | .vlanKCfg _ | .vlanStallsLo _ | .vlanStallsHi _ | .ifCfg _
  | .ifV4 _ | .ifV4gw _ | .ifV6Hi _ | .ifV6Lo _ | .ifV6gwHi _ | .ifV6gwLo _ | .routeCfg | .lldpName _ | .timeCfg
  | .ntpHi _ | .ntpLo _ | .retCfg | .rowCfg | .fwCfg | .quotaBytes _ | .quotaHold _ | .quotaObjects _ | .quotaTags _
  | .retention _ | .meterCfg _ | .rowten _ | .phyCfg _ | .macCfg _ | .wakeCfg _ | .wakeCtrl _ _ | .wakeMask _ _
  | .wakeData _ _ _ => true
  | .macFilter _ f => decide (12 ≤ f.val)
  | .arcBankCfg b => decide (4 ≤ b.val)
  | _ => false

/-- Every attribute that belongs to no stall and is exported, in ascending number (R849). -/
def exportAttrs : List Attr :=
  [.bayCfg, .policy, .bondCfg, .vlanCfg]
  ++ (List.finRange 8).map .vlanKCfg ++ (List.finRange 8).map .vlanStallsLo ++ (List.finRange 8).map .vlanStallsHi
  ++ (List.finRange 9).map .ifCfg ++ (List.finRange 9).map .ifV4 ++ (List.finRange 9).map .ifV4gw
  ++ (List.finRange 9).map .ifV6Hi ++ (List.finRange 9).map .ifV6Lo ++ (List.finRange 9).map .ifV6gwHi
  ++ (List.finRange 9).map .ifV6gwLo ++ [.routeCfg] ++ (List.finRange 8).map .lldpName ++ [.timeCfg]
  ++ (List.finRange 4).map .ntpHi ++ (List.finRange 4).map .ntpLo ++ [.retCfg, .rowCfg, .fwCfg]
  ++ [PortId.p0, PortId.p1].flatMap (fun p =>
      [.phyCfg p, .macCfg p] ++ ((List.finRange 16).filter (fun f => decide (12 ≤ f.val))).map (.macFilter p)
      ++ [.wakeCfg p] ++ (List.finRange 4).map (.wakeCtrl p) ++ (List.finRange 4).map (.wakeMask p)
      ++ (List.finRange 8).flatMap (fun j => (List.finRange 4).map (.wakeData p j)))
  ++ [.kvCfg] ++ (List.finRange 64).map .kv1SrcHi ++ (List.finRange 64).map .kv1SrcLo
  ++ (List.finRange 64).map .kv1SrcCtrl
  ++ ((List.finRange 16).filter (fun b => decide (4 ≤ b.val))).map .arcBankCfg

/-- The exported attributes of one stall, in ascending number. -/
def stallExportAttrs (s : StallNo) : List Attr :=
  [.quotaBytes s, .quotaHold s, .quotaObjects s, .quotaTags s, .retention s, .meterCfg s, .rowten s, .schedOps s,
    .schedRd s, .schedWr s, .schedBf s, .schedWeight s]

/-! ### Fields and numbers -/

/-- A named field of a given word; 0 for a name the map does not have. -/
def attrFieldOf (a : Attr) (w : Word64) (name : String) : Nat :=
  match attrField? a name with
  | none => 0
  | some f => fieldGet f w

/-- A bit of a word as a Bool. -/
def bit (w : Word64) (i : Nat) : Bool := w.toNat.testBit i

/-- A Bool as a number. -/
def b2n (b : Bool) : Nat := if b then 1 else 0

/-- A signed number in a field of `n` bits, two's complement, saturating. -/
def signedField (n : Nat) (v : Int) : Nat :=
  let hi : Int := 2 ^ (n - 1) - 1
  let lo : Int := -(2 ^ (n - 1))
  let c := if v > hi then hi else if v < lo then lo else v
  (if c < 0 then (c + 2 ^ n).toNat else c.toNat)

/-- A number limited to a maximum. -/
def sat (v mx : Nat) : Nat := if v > mx then mx else v

end Sys2Proof.Machine
end

