-- ==== Sys2Proof/Machine/State.lean ====
section
/-!
DEFINITION. The state of the drive: every register, queue, buffer, counter, mode and pin the spec gives the block, as
plain data, and the queue of the commands that wait. The bracket at the end of a field's docstring names the rule or
the field map that gives it and its value at reset; a field of a record that is created at run time has none.
-/

namespace Sys2Proof.Machine

open Sys2Proof

/-! ### The event log (ch. 20) and what leaves the drive -/

/-- One event record (ch. 20, Event record table; MARK, CRC and SEVERITY follow from the rest). -/
structure EventRec where
  /-- CODE. -/
  ev : Ev
  /-- SEVERITY. -/
  sev : Sev
  /-- FLAGS[0], AT_START. -/
  atStart : Bool
  /-- FLAGS[1], CARRIED. -/
  carried : Bool
  /-- SEQ, from 1. -/
  seq : Nat
  /-- LTIME, ledger microseconds. -/
  ltime : Nat
  /-- WALL, wall microseconds; 0 when wall time was UNSET. -/
  wall : Nat
  /-- ISLAND (R872). -/
  island : Nat
  /-- STALL, if any. -/
  stall : Option Nat
  /-- PORT, if any. -/
  port : Option PortId
  /-- REASON, 0 for none. -/
  reason : Nat
  /-- The detail words D0 to D3 that are used, in order. -/
  details : List Int
deriving DecidableEq, Repr

/-- A value a console answer reports: a number, an attribute word, a name, a quoted string, a byte string, a field in its
encoding table's code form (R10, R253): hexadecimal or binary, with the digits its width requires. -/
inductive Val
  | num (n : Int)
  | word (w : Word64)
  | name (s : String)
  | str (s : String)
  | bytes (b : List Byte)
  | hex (width n : Nat)
  | bin (width n : Nat)
deriving DecidableEq, Repr

/-- The answer to a console command (ch. 06, Status words table), as structured data: each line of an `ok` answer is a
list of key and value pairs; a pair whose key is empty is a bare word. -/
inductive Reply
  | ok (lines : List (List (String × Val)))
  | err (n : ErrName)
  | busy
  | busySessions
  | denied (d : Denial)
deriving DecidableEq, Repr
/-- The event log: the FRAM ring and the metadata bed's copy (R850), newest first. -/
structure EventLog where
  /-- FRAM ring, newest first, at most 2,048 records. [R850; reset: empty, R851's next SEQ is then 1] -/
  ring : List EventRec := []
  /-- Records held in the metadata bed, newest first, at most 262,144. [R850; reset: empty] -/
  bed : List EventRec := []
  /-- The next SEQ. [R851; reset 1: SEQ counts from 1] -/
  nextSeq : Nat := 1
  /-- Records of the ring not yet copied. [R850; reset 0] -/
  waiting : Nat := 0
  /-- Events the gatehouse raised before S03, newest first, at most 64, with the start's elapsed time. [R852; reset: empty] -/
  carried : List EventRec := []
deriving DecidableEq, Repr

/-! ### Housing and service bay (ch. 02) -/

/-- The steward button (ch. 02, Steward-button state table). -/
inductive Button
  | waitRelease | released | pressed | lockout
deriving DecidableEq, Repr

/-- The lid seal (ch. 02, Lid-seal state table). -/
inductive Lid
  | closed | open_ | fault
deriving DecidableEq, Repr

/-- The service bay. -/
structure Bay where
  /-- Steward button state. [R68; reset WAIT_RELEASE, entered at S03] -/
  button : Button := .waitRelease
  /-- Filtered button state, 1 = pressed (SVC.BAY.STATUS.BTN). [R66; reset 0] -/
  btn : Bool := false
  /-- Raw reading: button channel A reads pressed (BTN_A). [R66; reset hw: DESIGN CHOICE 0, log 3] -/
  btnA : Bool := false
  /-- Raw reading: button channel B reads pressed (BTN_B). [R66; reset hw: DESIGN CHOICE 0, log 3] -/
  btnB : Bool := false
  /-- Lid seal state. [R74; reset CLOSED] -/
  lid : Lid := .closed
  /-- A filtered lid state has been reached since S03. [R74; reset 0] -/
  lidDecided : Bool := false
  /-- Raw reading: lid channel A reads open (LID_A). [R70; reset hw: DESIGN CHOICE 0, log 3] -/
  lidA : Bool := false
  /-- Raw reading: lid channel B reads open (LID_B). [R70; reset hw: DESIGN CHOICE 0, log 3] -/
  lidB : Bool := false
  /-- J-SVC jumper fitted. [R60; reset hw: DESIGN CHOICE 0, log 3] -/
  jsvc : Bool := false
  /-- VBUS present, USB attached. [R59; reset hw: DESIGN CHOICE 0, log 3] -/
  usb : Bool := false
  /-- The presence window's end, in ledger microseconds; none when closed. [R77, R78; reset: closed] -/
  window : Option Nat := none
  /-- The mark in FRAM that a window is open. [R78; reset 0] -/
  windowMark : Bool := false
  /-- SVC.BAY.STATUS.FAULT_SEEN. [field map SVC.BAY.STATUS; reset 0] -/
  faultSeen : Bool := false
  /-- SVC.BAY.STATUS.TAMPER, held in the ledger. [field map SVC.BAY.STATUS; reset cfg: DESIGN CHOICE 0, log 2] -/
  tamper : Bool := false
  /-- LINE_FAULT active on J-CON. [R80; reset 0] -/
  lineFault : Bool := false
  /-- Framing errors counted. [R80; reset: DESIGN CHOICE 0, log 3] -/
  framingErrors : Nat := 0
  /-- Short breaks counted. [R80; reset: DESIGN CHOICE 0, log 3] -/
  shortBreaks : Nat := 0
  /-- Locate's end, in ledger microseconds. [R65; reset: not active] -/
  locate : Option Nat := none
  /-- The JCON_BAUD rate code in force on the line. [R89; reset 0x4, the factory value] -/
  baudNow : Nat := 4
  /-- When the NET LED last went dark for a frame (LED state table, NET priority 5), ledger microseconds. [R63; reset: none] -/
  netBlinkAt : Option Nat := none
  /-- When the S01 lamp test began. [R64; reset: not running] -/
  lampTest : Option Nat := none
deriving DecidableEq, Repr

/-! ### Power, hold-up and temperature (ch. 03) -/

/-- The power levels (ch. 03, Power levels table). -/
inductive Level
  | l0 | l1 | l2 | l3
deriving DecidableEq, Repr

/-- What an energy measurement is doing (R115, R116). -/
inductive Measuring
  | idle | draining | discharging | recharging
deriving DecidableEq, Repr

/-- The thermal states (ch. 03, Thermal states table). -/
inductive Thermal
  | normal | throttle1 | throttle2 | halt
deriving DecidableEq, Repr

/-- One port's powered-device interface. -/
structure Feed where
  /-- The port carries power. [field map PWR.FEED.STATUS; reset hw: 0, the drive is unpowered] -/
  powered : Bool := false
  /-- Detection voltage is present. [R193; reset 0: the drive is unpowered] -/
  detect : Bool := false
  /-- PSE_TYPE code, 0 to 4. [R94; reset 0x0, port not powered] -/
  pseType : Nat := 0
  /-- The port's last LLDP allocation, 0.1 W; none when void. [R95; reset: none received] -/
  alloc : Option Nat := none
  /-- An LLDPDU has been seen since the port was powered. [field map PWR.FEED.STATUS, LLDP_SEEN; reset 0] -/
  lldpSeen : Bool := false
  /-- STARVED mark in the gatehouse flash. [R108; reset: DESIGN CHOICE 0, log 2] -/
  starved : Bool := false
  /-- The allocation the next LLDPDU echoes. [R105; reset 0] -/
  echo : Nat := 0
  /-- The last allocation that has arrived during a gatehouse update. [R763; reset: none] -/
  late : Option Nat := none
deriving DecidableEq, Repr

/-- The gatehouse: feeds, hold-up bank and temperature. -/
structure Power where
  /-- The two powered-device interfaces. [R94] -/
  feeds : Duo Feed := ⟨{}, {}⟩
  /-- The lead port, once S01 has selected it. [R97; reset: none] -/
  lead : Option PortId := none
  /-- Present power level. [R111; reset hw: DESIGN CHOICE L3, log 3] -/
  level : Level := .l3
  /-- When the level last changed, ledger microseconds. [R111; reset 0] -/
  levelAt : Nat := 0
  /-- The budget has not met 12 W since this ledger time. [R108; reset: none] -/
  starvingSince : Option Nat := none
  /-- Since when the budget has met a lower-numbered level than the present one. [R111; reset: none] -/
  upSince : Option Nat := none
  /-- Since when the standby feed has permitted a higher level than the lead. [R99; reset: none] -/
  standbySince : Option Nat := none
  /-- Last measured E, 10 mJ. [R115; reset hw: DESIGN CHOICE 0, log 3] -/
  eMeas : Nat := 0
  /-- Present bank voltage, mV. [R118; reset hw: DESIGN CHOICE 0 (bank empty), log 3] -/
  vBank : Nat := 0
  /-- The bank has been fully charged since the last measurement. [R139; reset 0] -/
  charged : Bool := false
  /-- Measurement in progress. [R115, R116; reset idle] -/
  measuring : Measuring := .idle
  /-- Cells that differ from the mean by more than 0.3 V. [R117; reset: none] -/
  cells : List (Fin 12) := []
  /-- Write-through until a measurement completes, after a CELL_FAULT. [R117; reset 0] -/
  cellWt : Bool := false
  /-- A measurement that a further cell asked for starts once the present one is over. [R117; reset 0] -/
  measAgain : Bool := false
  /-- HOLDUP_WEAK active. [R120, R123; reset 0] -/
  weak : Bool := false
  /-- Ledger time of the last completed measurement (PWR.HOLDUP.LAST). [field map PWR.HOLDUP.STATUS; reset cfg: DESIGN CHOICE 0, log 2] -/
  lastMeas : Nat := 0
  /-- Highest flash reading, 0.1 °C, signed. [field map PWR.THERMAL.STATUS; reset hw: DESIGN CHOICE 250, log 3] -/
  flashMax : Int := 250
  /-- Lowest flash reading, 0.1 °C, signed. [field map PWR.THERMAL.STATUS; reset hw: DESIGN CHOICE 250, log 3] -/
  flashMin : Int := 250
  /-- Heater on. [R130; reset 0] -/
  heater : Bool := false
  /-- Dummy die activity warms the array. [R130; reset 0] -/
  dummy : Bool := false
  /-- Writes gated by cold. [R128; reset 0] -/
  coldGate : Bool := false
  /-- Thermal state. [R133; reset NORMAL] -/
  thermal : Thermal := .normal
  /-- The gatehouse's copy of PWR.POLICY; none when it holds no valid copy. [R137; reset: none, so factory values] -/
  policyCopy : Option Word64 := none
deriving DecidableEq, Repr

/-! ### Islands and memories (ch. 04) -/

/-- Island states (ch. 04, Island state encoding). -/
inductive IslState
  | run | gated | off | isolated | dead
deriving DecidableEq, Repr

/-- One island's status. -/
structure IslRec where
  /-- State. [R151; reset OFF: the drive is unpowered] -/
  state : IslState := .off
  /-- Cause of the last fault or DEAD entry. [field map SVC.ISL; reset 0x00] -/
  cause : FaultCause := .none_
  /-- Faults since start, saturating at 255. [field map SVC.ISL; reset 0x00] -/
  faults : Nat := 0
  /-- Clock deviation, 0.01 %, signed. [field map SVC.ISL; reset hw: DESIGN CHOICE 0, log 3] -/
  freqDev : Int := 0
  /-- Supply deviation, 0.1 %, signed. [field map SVC.ISL; reset hw: DESIGN CHOICE 0, log 3] -/
  voltDev : Int := 0
  /-- Junction temperature, °C, signed. [field map SVC.ISL; reset hw: DESIGN CHOICE 25, log 3] -/
  junction : Int := 25
  /-- Ledger times of the last handshake timeouts of this island, newest first. [R149; reset: none] -/
  timeouts : List Nat := []
  /-- The DEAD mark the ledger keeps, with its cause. [R152; reset: none] -/
  deadMark : Option FaultCause := none
  /-- Ledger time at which the DEAD mark was set. [R754; reset: no mark] -/
  markAt : Nat := 0
  /-- Held unusable from the start onward (ch. 18). [R803; reset 0] -/
  unusable : Bool := false
  /-- Revived: the next start tests it inline. [R807; reset 0] -/
  revived : Bool := false
  /-- Left out of the present start (R876). [R876; reset 0] -/
  leftOut : Bool := false
deriving DecidableEq, Repr

/-- The islands, the gatehouse MCU and DRAM. -/
structure Islands where
  /-- Status of each island; an unlisted island is OFF. [R151; reset: all OFF] -/
  recs : AMap Island IslRec := []
  /-- Ledger times of PWR's faults, newest first. [R155; reset: none] -/
  gateFaults : List Nat := []
  /-- The gatehouse MCU is being reset since this ledger time, with the cause. [R154; reset: no] -/
  gateReset : Option (Nat × FaultCause) := none
  /-- DRAM.ECC.CORRECTED. [R160; reset 0] -/
  eccCorrected : Nat := 0
  /-- When the last background scrub of DRAM ended. [R160; reset 0] -/
  scrubAt : Nat := 0
  /-- Parts of the page map, block table or key index being rebuilt, with the keys they affect. [R161; reset: none] -/
  rebuilding : List (DramRegion × List ObjKey) := []
  /-- FRAM's fuse mirror agrees with the fuses. [R163; reset: agrees] -/
  mirrorGood : Bool := true
deriving DecidableEq, Repr

/-- A pending shadow of a commit group (R169 to R171). -/
structure Shadow where
  /-- The session that holds it. -/
  holder : SessId
  /-- That session's number among all of the drive's: a later session under the same name is another one. -/
  inst : Nat
  /-- The written fields: attribute, field name, value, oldest first. -/
  written : List (Attr × String × Nat)
deriving DecidableEq, Repr

/-- The configuration store and the commit groups (ch. 04). -/
structure Cfg where
  /-- Stored and active values of the attributes restored from configuration; an unlisted one holds its factory value. [R162; reset: factory values] -/
  store : AMap Attr Word64 := []
  /-- Pending shadows. [R169; reset: none] -/
  shadows : AMap Group Shadow := []
  /-- CORE.CFG.SEQUENCE. [R173; reset 1 at manufacture] -/
  sequence : Nat := 1
  /-- Values of groups from before a commit that operations in flight still use: group, sequence of the commit, the old values. [R175; reset: none] -/
  earlier : List (Group × Nat × List (Attr × Word64)) := []
deriving DecidableEq, Repr

/-! ### The start and the boot ledger (ch. 05) -/

/-- Step results (ch. 05, Step result encoding), in code order. -/
inductive StepResult
  | ok | okAlt | degraded | fail | timeout | skipped | aborted | interrupted | foundOpen
deriving DecidableEq, Repr

/-- Record kinds (ch. 05, Record kind encoding), in code order. -/
inductive RecKind
  | start | begun | done | safe | clear
deriving DecidableEq, Repr

/-- Safe-mode causes (ch. 05, Safe-mode cause encoding). -/
inductive SafeCause
  | none_ | failedStarts | essentialDead | fuseRead | noImage
deriving DecidableEq, Repr

/-- A step record (ch. 05, Step record table; MARK and CRC follow from the rest). -/
structure StepRec where
  /-- START_NO. -/
  startNo : Nat
  /-- LTIME. -/
  ltime : Nat
  /-- STEP: 0 start header, 1 to 24, 25 safe mode. -/
  step : Nat
  /-- KIND. -/
  kind : RecKind
  /-- RESULT. -/
  result : StepResult
  /-- FCOUNT. -/
  fcount : Nat
  /-- DETAIL. -/
  detail : Nat
  /-- REC_SEQ, modulo 2^32. -/
  recSeq : Nat
deriving DecidableEq, Repr

/-- The start-state block (ch. 05, Start-state block table). -/
structure StartBlock where
  /-- UPDATE_SEQ. [Start-state block; width 64; reset: DESIGN CHOICE 0, log 2] -/
  updateSeq : Nat := 0
  /-- START_NO. [Start-state block; width 32; reset: 0 before the first start, numbers count from 1 at manufacture] -/
  startNo : Nat := 0
  /-- FAILED_STARTS, saturating at 15. [Start-state block; width 8; reset 0: DESIGN CHOICE, log 2] -/
  failedStarts : Nat := 0
  /-- SAFE_CAUSE. [Start-state block; width 8; reset 0x00 none] -/
  safeCause : SafeCause := .none_
  /-- STEP_FAILS, per step 1 to 24; an unlisted step has 0. [R188; reset 0: DESIGN CHOICE, log 2] -/
  stepFails : AMap Nat Nat := []
  /-- CHAN_FAILS, per channel; an unlisted channel has 0. [R191; reset 0: DESIGN CHOICE, log 2] -/
  chanFails : AMap (Fin 16) Nat := []
  /-- PORT_FAILS. [R191; reset 0: DESIGN CHOICE, log 2] -/
  portFails : Duo Nat := ⟨0, 0⟩
  /-- KEPT: steps whose alternative is kept. [R190; reset: none] -/
  kept : List Nat := []
  /-- CHAN_KEPT. [R191; reset: none] -/
  chanKept : List (Fin 16) := []
  /-- PORT_KEPT. [R191; reset: none] -/
  portKept : Duo Bool := ⟨false, false⟩
  /-- KEPT_VERSION. [R190; width 64; reset: DESIGN CHOICE 0, log 2] -/
  keptVersion : Nat := 0
deriving DecidableEq, Repr

/-- A record of S01 or S02 in the gatehouse's data area (R193). -/
structure GateRec where
  /-- The start's number. -/
  startNo : Nat
  /-- 1 or 2. -/
  step : Nat
  /-- BEGUN or DONE. -/
  kind : RecKind
  /-- The result of a DONE record. -/
  result : StepResult
  /-- Time since that start's S01, microseconds. -/
  elapsed : Nat
  /-- The RTC reading at that S01. -/
  rtc : RtcReading
  /-- It has been copied to the ring and is still to be counted when S03 ends. -/
  copied : Bool := false
deriving DecidableEq, Repr

/-- Causes of a flush (R124, R153). -/
inductive FlushCause
  | powerFail | essentialFault
deriving DecidableEq, Repr

/-- The flush record in the FRAM ledger (ch. 03, Power-fail flush table step 6). -/
structure FlushRec where
  /-- The cause. -/
  cause : FlushCause
  /-- The start it fell in. -/
  startNo : Nat
  /-- REC_SEQ of the newest step record when it was written. -/
  afterRec : Nat
  /-- Bytes flushed. -/
  bytes : Nat
  /-- E_avail at step 1, 10 mJ. -/
  eAvail : Nat
  /-- Duration, microseconds. -/
  duration : Nat
  /-- End time, ledger microseconds. -/
  endAt : Nat
  /-- Its POWER_FAIL event has been logged (R853's Event codes table: logged at the next S03). -/
  logged : Bool
deriving DecidableEq, Repr

/-- The boot ledger and the start in progress. -/
structure Boot where
  /-- The start-state block in use. [R209] -/
  blk : StartBlock := {}
  /-- Copies 0 and 1 in FRAM. [R209; reset: both as the block in use] -/
  copies : Duo StartBlock := ⟨{}, {}⟩
  /-- The ring of step records, newest first, at most 2,016. [R211; reset: empty] -/
  ring : List StepRec := []
  /-- The next REC_SEQ, modulo 2^32. [Step record; width 32; reset: DESIGN CHOICE 0, log 2] -/
  recSeq : Nat := 0
  /-- The last start number the gatehouse issued. [R193; reset 0: numbers count from 1 at manufacture] -/
  gateStartNo : Nat := 0
  /-- The ledger START_NO that SVC last reported to the gatehouse. [R193; reset 0] -/
  gateReported : Nat := 0
  /-- S01 and S02 records in the gatehouse's data area, oldest first. [R193; reset: none] -/
  gateRecs : List GateRec := []
  /-- The last flush record. [R124; reset: none] -/
  flushRec : Option FlushRec := none
  /-- Step code of the newest BEGUN record of this start; 0 before S01. [field map SVC.START.STATUS; reset 0x00] -/
  step : Nat := 0
  /-- The background step of a full-scan rebuild. [R199; reset: none] -/
  scan : Option Nat := none
  /-- SCAN_PCT. [R201; reset 0x00] -/
  scanPct : Nat := 0
  /-- When the full scan began. [R201; reset: none] -/
  scanAt : Option Nat := none
  /-- SVC.START.ALT: steps on their alternative in this start. [field map SVC.START.ALT; reset 0] -/
  alt : List Nat := []
  /-- Channels on their alternative in this start. [R191; reset: none] -/
  chanAlt : List (Fin 16) := []
  /-- Ports on their alternative in this start. [R191, R204; reset: none] -/
  portAlt : Duo Bool := ⟨false, false⟩
  /-- Ledger time of the present S01. [R365; reset 0] -/
  s01At : Nat := 0
  /-- What R365 added to ledger time across the last outage, not yet metered. [R561; reset 0] -/
  outage : Nat := 0
  /-- RTC reading at the present S01. [R193; reset: DESIGN CHOICE, log 3] -/
  s01Rtc : RtcReading := ⟨0, true⟩
  /-- When the first port was powered in S01. [R97; reset: none] -/
  firstPower : Option Nat := none
  /-- When the first port had link in S17. [R204; reset: none] -/
  s17Link : Option Nat := none
  /-- The hot hold of S16 lasts since this time. [R203; reset: no] -/
  hotHold : Option Nat := none
  /-- Every restored group's step has completed up to this step of this start: the highest step done. [R178; reset 0] -/
  doneStep : Nat := 0
  /-- The restart pending is of a drive that did not lose power. [R195; reset 0] -/
  warm : Bool := false
  /-- The open step of the foreground; 0 while S23 waits for the scan. [R199; reset 0] -/
  fg : Nat := 0
  /-- Open steps during which an island was marked DEAD: they end DEGRADED. [R220; reset: none] -/
  degr : List Nat := []
  /-- The last end of a run was an orderly halt or an entry into Dormant. [R631; reset 1: the factory halted it] -/
  orderly : Bool := true
  /-- The flush that runs: bytes, E_avail at its step 1, and whether SVC ran when it began. [R124, R127; reset: none] -/
  flushing : Nat × Nat × Bool := (0, 0, false)
deriving DecidableEq, Repr

/-! ### The console (ch. 06) -/

/-- What takes effect once an answer has been sent (R251, R89, R256, R749, R744). -/
inductive After
  | mode (machine crc : Bool)
  | baud (code : Nat)
  | halt (r : HaltReason)
  | restart
  | close
deriving DecidableEq, Repr

/-- An accepted command of a session and its answer once it has one (R242). -/
structure Slot where
  /-- The slot's number in the session. -/
  id : Nat
  /-- The command's tag. -/
  tag : Option Nat
  /-- The answer, when it is ready. -/
  reply : Option Reply
  /-- What takes effect once the answer has been sent. -/
  after : Option After := none
deriving DecidableEq, Repr

/-- A Fimor session. -/
structure Session where
  /-- Its number among all sessions since the drive was made. [model's own] -/
  serial : Nat := 0
  /-- Machine mode. [R222; reset: typed on a console; machine on a management session] -/
  machine : Bool := false
  /-- CRC on. [R222; reset 0] -/
  crc : Bool := false
  /-- Event lines on. [R227; reset: DESIGN CHOICE off, log 3] -/
  follow : Bool := false
  /-- The partial line, in order. [R227, R235; reset: empty] -/
  partialLine : List Byte := []
  /-- The line has run past 255 characters; characters are discarded to the terminator. [R229; reset 0] -/
  overlong : Bool := false
  /-- The last byte was CR. [R228; reset 0] -/
  lastCr : Bool := false
  /-- A terminated line waits for its command to be taken. [R228; reset: none] -/
  lineReady : Option (List Byte) := none
  /-- Characters typed while a command runs, oldest first. [R237; reset: empty] -/
  typeahead : List Byte := []
  /-- Characters discarded beyond the type-ahead limit. [R237; reset: DESIGN CHOICE 0, log 3] -/
  typeDropped : Nat := 0
  /-- Accepted commands without an answer, oldest first. [R242; reset: none] -/
  slots : List Slot := []
  /-- The next slot number. [model's own] -/
  nextSlot : Nat := 0
  /-- When the present event-line window opened. [R245; reset: none] -/
  evWindow : Option Nat := none
  /-- Event lines sent in the window. [R245; reset 0] -/
  evSent : Nat := 0
  /-- Event lines dropped in the window. [R245; reset 0] -/
  evDropped : Nat := 0
  /-- When a line was last received. [R226; reset: when the session opened] -/
  lastRx : Nat := 0
  /-- Warden slot of a management session. [R224; reset: none] -/
  warden : Option (Fin 4) := none
  /-- Start of the session, in wall time; 0 while wall time is UNSET. [R252] -/
  startWall : Nat := 0
  /-- The session closes once its accepted commands are answered (R258). [R258; reset 0] -/
  closing : Bool := false
  /-- Address of the peer. -/
  peer : IpAddr := 0
  /-- The drive's own address of a management session. -/
  local_ : IpAddr := 0
  /-- Interface of a management session. -/
  ifc : IfNo := 8
  /-- Maximum segment size basis of a management session: MAX_FRAME when it opened. [R292] -/
  mss : Nat := 1518
  /-- Cipher suite, group and certificate of a management session's TLS connection. [R223] -/
  tls : Option (TlsSuite × TlsGroup × List Byte) := none
deriving DecidableEq, Repr

/-- An enrolled warden (R257). -/
structure Warden where
  /-- SHA-256 fingerprint of the certificate, 32 bytes. -/
  fp : List Byte
  /-- Name, if given. -/
  name : Option String
deriving DecidableEq, Repr

/-- The consoles and the wardens. -/
structure Console where
  /-- Open sessions. [R222; reset: none, the drive is unpowered] -/
  sessions : AMap SessId Session := []
  /-- Enrolled wardens by slot. [R257; reset: none enrolled] -/
  wardens : AMap (Fin 4) Warden := []
  /-- Number of the next session. [model's own; reset 0] -/
  nextSerial : Nat := 0
deriving DecidableEq, Repr

/-! ### What the ports send -/

/-- A response or event frame the drive sends, as its fields. -/
structure Resp where
  /-- KIND: 2 RESPONSE, 4 HELLO_ACK, 5 AUTH, 6 EVENT, 7 CHANNEL. -/
  kind : Nat := 2
  /-- OPCODE. -/
  opcode : Nat := 0
  /-- CHANNEL. -/
  channel : Nat := 0
  /-- REQUEST_ID. -/
  reqId : Nat := 0
  /-- STALL. -/
  stall : StallNo := 0
  /-- GENERATION. -/
  generation : Nat := 0
  /-- STATUS. -/
  status : Status := .ok
  /-- DETAIL[15:0], reason or event field. -/
  reason : Nat := 0
  /-- DETAIL[31:16]. -/
  detailHi : Nat := 0
  /-- THROTTLED. -/
  throttled : Bool := false
  /-- PERSISTED. -/
  persisted : Bool := false
  /-- VERSION. -/
  version : Nat := 0
  /-- INCARNATION. -/
  incarnation : Nat := 0
  /-- ARG. -/
  arg : Nat := 0
  /-- Tags. -/
  tags : List Word64 := []
  /-- Data. -/
  data : List Byte := []
deriving DecidableEq, Repr

/-- The payload of a row message the drive sends. -/
inductive RowBody
  | ack (status : AckStatus)
  | leave
  | findReq (m : FindReqMsg)
  | findPage (records : List ObjRecord)
  | findEnd (status : FindEnd)
  | findCancel
  | mirrorPut (o : MirrorObj)
  | mirrorUpdate (origin : Nat) (k : ObjKey) (held : Bool)
  | mirrorRemove (origin : Nat) (k : ObjKey) (erase : Bool)
  | reloc (m : RelocMsg)
  | relayOffer (o : RelayOffer)
  | pieceReq (parcel n : Nat)
  | relayPiece (parcel n len : Nat)
  | relayStatus (parcel reporter : Nat) (st : RelayStat)
deriving DecidableEq, Repr

/-- A row message of the drive's own. -/
structure RowMsg where
  /-- The peer's serial. -/
  peer : Nat
  /-- MSG_ID. -/
  msgId : Nat
  /-- REF_ID. -/
  refId : Nat := 0
  /-- EPOCH. -/
  epoch : Nat
  /-- TYPE, STATUS and payload. -/
  body : RowBody
  /-- Which of the consecutive messages that carry the payload it is (R716). -/
  part : Nat := 0
  /-- How many messages carry the payload (R716). -/
  parts : Nat := 1
deriving DecidableEq, Repr

/-- What a TCP connection sends: a response or event frame, the alert that ends its TLS session, or a NewSessionTicket. -/
inductive SendItem
  | resp (r : Resp)
  | alert
  | ticket (n : Nat)
deriving DecidableEq, Repr

/-- What the DHCPv4 client sends of itself (R336): client identifier (option 61), host name (option 12) and the options it
requests. -/
structure Dhcp4Client where
  /-- Type 0x01 and the Port 0 address. -/
  clientId : List Nat
  /-- The LLDP system name. -/
  host : List Nat
  /-- Options 1, 3, 42, 51, 54, 58 and 59. -/
  requests : List Nat
deriving DecidableEq, Repr

/-- What the DHCPv6 client sends of itself (R337): the DUID-LL's link-layer address, the number of IA_NA, the options it
requests. -/
structure Dhcp6Client where
  /-- The Port 0 address. -/
  duid : MacAddr
  /-- IA_NA options. -/
  iaNa : Nat
  /-- Option 56. -/
  requests : List Nat
deriving DecidableEq, Repr

/-- An LLDPDU of the drive (ch. 08, TLVs sent; ch. 03, LLDP power exchange table). -/
structure LldpOut where
  /-- Chassis ID: the Port 0 address. -/
  chassis : MacAddr
  /-- Port ID: the sending port's address. -/
  portId : MacAddr
  /-- Time To Live, seconds. -/
  ttl : Nat
  /-- Port Description: `Port 0` or `Port 1`. -/
  port : PortId
  /-- System Name, as characters. -/
  name : List Nat
  /-- System Capabilities: station only, enabled. -/
  station : Bool := true
  /-- System Description: the variant is W128-32C; the running main-firmware version. -/
  variantC : Bool
  /-- The version after `fw`. -/
  fw : Nat
  /-- Management Address: IPv4, then IPv6. -/
  mgmt : List IpAddr
  /-- MAC/PHY Configuration/Status: auto-negotiation. -/
  autoNeg : Bool := true
  /-- Advertised speeds, as SPEED codes. -/
  speeds : List Nat
  /-- Maximum Frame Size. -/
  maxFrame : Nat
  /-- Power via MDI: the value requested, 0.1 W. -/
  request : Nat
  /-- Power via MDI: the allocation echoed, 0.1 W. -/
  echo : Nat
deriving DecidableEq, Repr

/-- An LACPDU of the drive (R278). -/
structure LacpOut where
  /-- Actor system identifier: the Port 0 address. -/
  system : MacAddr
  /-- System priority. -/
  priority : Nat
  /-- Operational key, the same on both ports. -/
  key : Nat
  /-- The sending port. -/
  port : PortId
  /-- LACP_FAST. -/
  fast : Bool
deriving DecidableEq, Repr

/-- What a port sends as one frame or segment. -/
inductive NetItem
  | resp (conn : Nat) (r : Resp) (k n : Nat)
  | mgmt (serial : Nat)
  | reset (conn : Nat)
  | close (conn : Nat)
  | tlsAlert (conn : Nat)
  | tlsTicket (conn n : Nat)
  | closedReset (ends : Ends) (dport : Nat)
  | mgmtReset (serial : Nat)
  | mgmtClose (serial : Nat)
  | neighbour (ifc : IfNo) (addr : IpAddr) (mac : MacAddr) (asker : Option IpAddr)
  | echoReply (ifc : IfNo) (ends : Ends) (len : Nat)
  | unreachable (ifc : IfNo) (ends : Ends) (dport : Nat)
  | dhcp4Discover (ifc : IfNo) (c : Dhcp4Client)
  | dhcp4Request (ifc : IfNo) (addr : IpAddr) (server : Option IpAddr) (c : Dhcp4Client)
  | dhcp4Decline (ifc : IfNo) (addr : IpAddr)
  | dhcp6Solicit (ifc : IfNo) (c : Dhcp6Client)
  | dhcp6Request (ifc : IfNo) (c : Dhcp6Client)
  | dhcp6Info (ifc : IfNo) (c : Dhcp6Client)
  | dhcp6Release (ifc : IfNo) (addr : IpAddr)
  | probe (ifc : IfNo) (addr : IpAddr)
  | routerSolicit (ifc : IfNo)
  | ntpRequest (server : IpAddr)
  | ptpDelayReq
  | lldp (c : LldpOut)
  | lacp (c : LacpOut)
  | kv1Heartbeat (ends : Ends) (state : Nat)
  | beacon (bytes mac : List Byte)
  | row (m : RowMsg) (identity psk : List Byte)
deriving DecidableEq, Repr

/-- The IEEE 802.1Q tag of a frame (R283, R308). -/
structure VlanTag where
  /-- TPID. -/
  tpid : Nat
  /-- PCP. -/
  pcp : Fin 8
  /-- VID. -/
  vid : Nat
deriving DecidableEq, Repr

/-- The header of an IP packet the drive sends (R279, R308, R330, R331, R344). -/
structure IpHead where
  /-- The interface it leaves on. -/
  ifc : IfNo
  /-- Source address. -/
  src : IpAddr
  /-- Destination address. -/
  dst : IpAddr
  /-- The next hop: the destination on the link, or the interface's default router; none for a group, or without a router. -/
  hop : Option IpAddr
  /-- Source port, 0 where the protocol has none. -/
  sport : Nat
  /-- Destination port, 0 where the protocol has none. -/
  dport : Nat
  /-- DSCP. -/
  dscp : Nat
  /-- DF, of an IPv4 packet. -/
  df : Bool
  /-- The receive window that a TCP segment advertises (R820). -/
  window : Option Nat := none
deriving DecidableEq, Repr

/-- A frame in a transmit queue (R305, R306). -/
structure TxFrame where
  /-- Queue, 0 to 7. -/
  queue : Fin 8
  /-- What it carries. -/
  item : NetItem
  /-- Its length as the counters see it. -/
  bytes : Nat
  /-- Kind of destination. -/
  cast : CastKind := .unicast
  /-- Source MAC address (R273). -/
  src : MacAddr
  /-- Destination MAC address, when it is a group's or the neighbour cache holds it. -/
  dmac : Option MacAddr := none
  /-- Its VLAN tag. -/
  tag : Option VlanTag := none
  /-- Its IP header. -/
  ip : Option IpHead := none
deriving DecidableEq, Repr

/-- It carries a VLAN tag. -/
def TxFrame.tagged (f : TxFrame) : Bool := f.tag.isSome

/-! ### Ports (ch. 07) -/

/-- LACP state of a port (ch. 07, CORE.BOND.STATUS). -/
inductive Lacp
  | notAgg | waiting | distributing | defaulted
deriving DecidableEq, Repr

/-- A hardware counter: COUNT[31:0] and SAT[32] (R301). -/
structure HwCtr where
  /-- COUNT. -/
  count : Nat := 0
  /-- SAT. -/
  sat : Bool := false
deriving DecidableEq, Repr

/-- A record of the capture ring (R297). -/
structure Capture where
  /-- Ledger time. -/
  ltime : Nat
  /-- Length. -/
  len : Nat
  /-- TRUNC. -/
  trunc : Bool
  /-- FCS_BAD. -/
  fcsBad : Bool
  /-- FILTER_MISS. -/
  filterMiss : Bool
  /-- The frame's first 128 bytes. -/
  bytes : List Byte
deriving DecidableEq, Repr

/-- A frame between its headers and its FCS result (R299). -/
structure RxPending where
  /-- The frame. -/
  frame : EthFrame
  /-- The capture record it leaves, when capture is active. -/
  captured : Bool
  /-- It fails check 5 and is kept for capture only (R296). -/
  filterMiss : Bool
  /-- It is marked TRUNC (R290). -/
  trunc : Bool
  /-- It passed checks 1 to 8 and is delivered when its FCS is good. -/
  passed : Bool
deriving DecidableEq, Repr

/-- One network port. -/
structure Port where
  /-- Link up under R271. [field map NETn.PHY.STATUS; reset 0] -/
  link : Bool := false
  /-- SPEED code. [field map NETn.PHY.STATUS; reset 0b000] -/
  speed : Nat := 0
  /-- Energy on the cable. [field map NETn.PHY.STATUS; reset hw: DESIGN CHOICE 0, log 3] -/
  energy : Bool := false
  /-- SNR_MARGIN, 0.1 dB, signed. [field map NETn.PHY.STATUS; reset 0] -/
  snr : Int := 0
  /-- DOWNSHIFTS, saturating at 255. [field map NETn.PHY.STATUS; reset 0x00] -/
  downshifts : Nat := 0
  /-- RETRAINS, saturating at 255. [field map NETn.PHY.STATUS; reset 0x00] -/
  retrains : Nat := 0
  /-- Speeds dropped in the present training attempt, as SPEED codes. [R270; reset: none] -/
  dropped : List Nat := []
  /-- Speeds advertised in the present attempt, as SPEED codes, highest first. [R268; reset: none] -/
  advertised : List Nat := []
  /-- PAUSE and ASM_DIR as auto-negotiation advertises them. [R314; reset: nothing is advertised before the first attempt] -/
  advPause : Bool × Bool := (false, false)
  /-- A training attempt runs. [R270; reset 0] -/
  training : Bool := false
  /-- Since when link has held without a break. [R277; reset: none] -/
  linkSince : Option Nat := none
  /-- LACP state. [R278; reset 0b00] -/
  lacp : Lacp := .notAgg
  /-- LACP partner's system. [R278; reset: none] -/
  lacpPartner : Option MacAddr := none
  /-- Time of the last LACPDU received. [R281; reset: none] -/
  lacpAt : Option Nat := none
  /-- Time of the last LACPDU sent. [R278; reset: none] -/
  lacpTx : Option Nat := none
  /-- Hardware counters; an unlisted one reads 0. [R304; reset 0] -/
  hw : AMap Ctr HwCtr := []
  /-- 64-bit accumulators; an unlisted one reads 0. [R303, R304; reset 0] -/
  acc : AMap Ctr Nat := []
  /-- Counters that have raised COUNTER_HALF and wait for a fold. [R303; reset: none] -/
  half : List Ctr := []
  /-- Transmit queues 7 down to 0 as one list of queued frames in order of queueing. [R305; reset: empty] -/
  tx : List TxFrame := []
  /-- Per queue, the ledger time until which a pause holds it. [R310, R311; reset: none] -/
  paused : AMap (Fin 8) Nat := []
  /-- Since when queue 7 has been held without a break. [R313; reset: none] -/
  q7Since : Option Nat := none
  /-- PAUSE and PFC are ignored until this time after a storm. [R313; reset: none] -/
  stormUntil : Option Nat := none
  /-- The capture ring, newest first. [R297; reset: empty] -/
  capture : List Capture := []
  /-- The frame between headers and FCS. [R299; reset: none] -/
  rx : Option RxPending := none
  /-- Bytes in the receive buffer of 4 MiB. [R288; reset 0] -/
  rxFill : Nat := 0
  /-- NETn.MAC.DIAG.CAPTURE. [R327; reset 0] -/
  capturing : Bool := false
  /-- NETn.MAC.DIAG.PROMISC. [R327; reset 0] -/
  promisc : Bool := false
  /-- Echo answers in the present second: its start and the count. [R344; reset: none] -/
  echoRate : Nat × Nat := (0, 0)
  /-- Port-unreachable answers in the present second. [R344; reset: none] -/
  unreachRate : Nat × Nat := (0, 0)
  /-- LLDPDUs left in the fast start. [ch. 03, LLDP power exchange table; reset 0] -/
  lldpFast : Nat := 0
  /-- The port failed at S17: it stays down until the next start. [R876; reset 0] -/
  heldDown : Bool := false
  /-- The port's wake detector is kept powered (armed at entry into Dormant). [R315, R316; reset 0] -/
  armed : Bool := false
  /-- The destination filter and BCAST as they stood at entry into Dormant. [R318; reset: none] -/
  wakeFilter : List MacAddr × Bool := ([], false)
deriving DecidableEq, Repr

/-- The two ports and what they share. -/
structure Ports where
  /-- The ports. -/
  port : Duo Port := ⟨{}, {}⟩
  /-- The active port in active-backup. [R275; reset: none] -/
  active : Option PortId := none
  /-- No IP frame is sent until this time while the pair restarts. [R323; reset: none] -/
  pairQuiet : Option Nat := none
  /-- Ports still to renegotiate after a change of the link speed ceiling, in order. [R113; reset: none] -/
  renegotiate : List PortId := []
  /-- The port that is being renegotiated and has no link yet: the next waits for it. [R113; reset: none] -/
  renegNow : Option PortId := none
  /-- TCP segments of the management channel and of ended connections that wait: for the 256 KiB of their connection in the
  queues, for earlier ones, or to be sent again after a discard, oldest first. [R276, R307; reset: none] -/
  wait : List TxFrame := []
  /-- The wake cause to log at S03. [R321; reset: none] -/
  wake : Option (PortId × Nat) := none
deriving DecidableEq, Repr

/-! ### Addresses, discovery and time (ch. 08) -/

/-- Where an address comes from. -/
inductive Origin
  | linkLocal | static | dhcp4 | slaac | dhcp6
deriving DecidableEq, Repr

/-- Use of an address. -/
inductive AddrState
  | probing | optimistic | usable | conflict
deriving DecidableEq, Repr

/-- An address of an interface. -/
structure AddrRec where
  /-- The address. -/
  addr : IpAddr
  /-- Prefix length, of the family's own bits. -/
  plen : Nat
  /-- Origin. -/
  origin : Origin
  /-- Use. -/
  state : AddrState
  /-- End of the lease or valid lifetime, ledger microseconds. -/
  until_ : Option Nat
  /-- A conflicted address is retried at this time. -/
  retryAt : Option Nat := none
  /-- When its probe was sent. -/
  probeAt : Nat := 0
deriving DecidableEq, Repr

/-- State of the DHCPv4 client on an interface (RFC 2131 states the drive's rules name). -/
inductive Dhcp4State
  | idle | initReboot | selecting | requesting | bound | renewing
deriving DecidableEq, Repr

/-- State of the DHCPv6 client. -/
inductive Dhcp6State
  | idle | soliciting | requesting | bound
deriving DecidableEq, Repr

/-- One IP interface. -/
structure Ifc where
  /-- Addresses, oldest first. [R335 to R341; reset: none] -/
  addrs : List AddrRec := []
  /-- DHCPv4 client. [R336; reset idle] -/
  d4 : Dhcp4State := .idle
  /-- Present DISCOVER retransmission interval, seconds. [R336; reset 4] -/
  d4Wait : Nat := 4
  /-- When DISCOVER was last sent. [R336; reset 0] -/
  d4At : Nat := 0
  /-- The address a DHCPREQUEST asks for. [R336; reset: none] -/
  d4Offer : Option IpAddr := none
  /-- The DHCPv4 server in use. [R336; reset: none] -/
  d4Server : Option IpAddr := none
  /-- The previous DHCPv4 address, requested first after a restart. [R336; reset: none] -/
  d4Prev : Option IpAddr := none
  /-- Addresses of the previous start, used optimistically when they come again. [R339; reset: none] -/
  prev : List IpAddr := []
  /-- IPv4 default router from DHCP. [R331; reset: none] -/
  gw4 : Option IpAddr := none
  /-- DHCPv6 client. [R337; reset idle] -/
  d6 : Dhcp6State := .idle
  /-- Default routers heard, with the end of their lifetime. [R337; reset: none] -/
  routers : List (IpAddr × Nat) := []
  /-- MTU option in force. [R341; reset: none] -/
  mtu : Option Nat := none
  /-- A Router Advertisement has been heard since link-up. [R337; reset 0] -/
  raSeen : Bool := false
  /-- No global address was offered. [R337; reset 0] -/
  noGlobal : Bool := false
  /-- Prefixes refused under the limit of two, logged once each. [R338; reset: none] -/
  ignored : List IpAddr := []
  /-- NTP servers learned from DHCP. [R350; reset: none] -/
  ntp : List IpAddr := []
  /-- The new lease being acquired under `net renew` keeps the present addresses. [R342; reset 0] -/
  renewing : Bool := false
deriving DecidableEq, Repr

/-- A neighbour cache entry (R343). -/
structure Neigh where
  /-- Interface. -/
  ifc : IfNo
  /-- IP address. -/
  addr : IpAddr
  /-- MAC address, when complete. -/
  mac : Option MacAddr
  /-- Last use. -/
  usedAt : Nat
deriving DecidableEq, Repr

/-- An LLDP neighbour (R347). -/
structure LldpNeigh where
  /-- Chassis ID. -/
  chassis : List Byte
  /-- Port ID. -/
  portId : List Byte
  /-- System Name. -/
  sysName : List Byte
  /-- Port VLAN ID. -/
  pvid : Nat
  /-- Expiry. -/
  until_ : Nat
deriving DecidableEq, Repr

/-- Addresses, discovery and ICMP. -/
structure Net where
  /-- The interfaces; an unlisted one has nothing. [ch. 08, Interfaces table; reset: none] -/
  ifs : AMap IfNo Ifc := []
  /-- Neighbour cache, most recently used first, at most 512. [R343; reset: empty] -/
  neigh : List Neigh := []
  /-- IP_NO_ROUTE. [R331; reset: DESIGN CHOICE 0, log 3] -/
  noRoute : Nat := 0
  /-- IP_FRAG_DROP. [R345; reset: DESIGN CHOICE 0, log 3] -/
  fragDrop : Nat := 0
  /-- LLDP_BAD. [R347; reset: DESIGN CHOICE 0, log 3] -/
  lldpBad : Nat := 0
  /-- LLDP neighbours per port, at most 4. [R347; reset: none] -/
  lldp : Duo (List LldpNeigh) := ⟨[], []⟩
  /-- Path MTU per destination. [R344; reset: none] -/
  pmtu : AMap IpAddr Nat := []
deriving DecidableEq, Repr

/-- Wall-time states (ch. 08, WSTATE encoding), in code order. -/
inductive WState
  | unset | rtc | manual | ntp | ptp | holdover
deriving DecidableEq, Repr

/-- Sources of a step (R354, R853), in REASON order. -/
inductive StepSource
  | ptp | ntp | manual | rtc
deriving DecidableEq, Repr

/-- Kinds of ledger checkpoint (ch. 08, Ledger checkpoint record), in code order. -/
inductive CkptKind
  | periodic | ready | step | halt | flush
deriving DecidableEq, Repr

/-- A ledger checkpoint record (MARK and CRC follow from the rest). -/
structure Ckpt where
  /-- SEQ, modulo 2^32. -/
  seq : Nat
  /-- LTIME. -/
  ltime : Nat
  /-- BOUND. -/
  bound : Nat
  /-- RTC reading. -/
  rtc : Nat
  /-- WALL, 0 when UNSET. -/
  wall : Nat
  /-- KIND. -/
  kind : CkptKind
  /-- WSTATE. -/
  wstate : WState
deriving DecidableEq, Repr

/-- An NTP server the client uses. -/
structure NtpServer where
  /-- Its address. -/
  addr : IpAddr
  /-- The last valid response. -/
  last : Option NtpReply := none
  /-- Polls since the last valid response. -/
  missed : Nat := 0
  /-- Requests left of the opening burst of four. -/
  burst : Nat := 4
  /-- When the next request is due; none before the first. -/
  nextAt : Option Nat := none
deriving DecidableEq, Repr

/-- PTP's view of the grandmaster (R349). -/
structure PtpState where
  /-- The grandmaster heard. -/
  master : Option Nat := none
  /-- Announce intervals it has stayed best. -/
  count : Nat := 0
  /-- It is accepted. -/
  accepted : Bool := false
  /-- Its stratum field. -/
  stratum : Nat := 0
  /-- When its newest Announce came. -/
  lastAt : Nat := 0
  /-- Its announce interval, microseconds. -/
  interval : Nat := 0
deriving DecidableEq, Repr

/-- Both clocks. -/
structure Clock where
  /-- Ledger time, microseconds since manufacture. [ch. 08, Ledger time; R874; reset: DESIGN CHOICE 0, log 2] -/
  ledger : Nat := 0
  /-- Wall time minus ledger time, microseconds; meaningful unless UNSET. [R348; reset 0] -/
  wallOff : Int := 0
  /-- WSTATE. [R361; reset UNSET: the RTC was never written (R874)] -/
  wstate : WState := .unset
  /-- What is still to slew, microseconds, signed. [R353; reset 0] -/
  slew : Int := 0
  /-- Ledger time since the last microsecond slewed. [R353, model's own; reset 0] -/
  slewRest : Nat := 0
  /-- OFFSET, last measured, microseconds. [field map CORE.TIME.STATUS; reset 0] -/
  offset : Int := 0
  /-- STRATUM. [field map CORE.TIME.STATUS; reset 0x00] -/
  stratum : Nat := 0
  /-- DISAGREE. [R355; reset 0] -/
  disagree : Bool := false
  /-- The refused step: source and offset. [R355; reset: none] -/
  refused : Option (StepSource × Int) := none
  /-- When TIME_STEP_REFUSED was last logged. [R355; reset: none] -/
  refusedAt : Option Nat := none
  /-- EVER_SET, in FRAM for life. [R356, R874; reset 0] -/
  everSet : Bool := false
  /-- The RTC was valid when read at S01 (RTC_VALID). [R361; reset hw: 0 (R874)] -/
  rtcValid : Bool := false
  /-- RTC minus ledger time, when the RTC runs written. [R360; reset: not written (R874)] -/
  rtcOff : Option Int := none
  /-- When the RTC was last written. [R360; reset: none] -/
  rtcAt : Option Nat := none
  /-- Checkpoint ring, newest first, at most 64. [R368, R874; reset: one HALT checkpoint] -/
  ckpts : List Ckpt := []
  /-- PTP. [R349; reset: none heard] -/
  ptp : PtpState := {}
  /-- NTP servers in use, in order. [R350; reset: none] -/
  ntp : List NtpServer := []
  /-- The NTP system peer. [R351; reset: none] -/
  ntpPeer : Option IpAddr := none
deriving DecidableEq, Repr

/-! ### The wire protocol (ch. 09) and the operations (ch. 10) -/

/-- An entry of a session's window of admitted request IDs (R485, R486). -/
structure WinEntry where
  /-- REQUEST_ID. -/
  reqId : Nat
  /-- The response, once sent, when its data section was 256 bytes or less. -/
  cached : Option Resp
  /-- The response has been sent. -/
  sent : Bool
deriving DecidableEq, Repr

/-- A request of a session without a sent response, in order of receipt (R448). -/
structure OutReq where
  /-- REQUEST_ID. -/
  reqId : Nat
  /-- The operation, when one was admitted; a repeat waits for it too. -/
  op : Option Nat
  /-- This entry is a repeat under R486. -/
  repeated : Bool := false
  /-- The response, once ready. -/
  resp : Option Resp
  /-- The response is discarded when it is ready (R407, R514). -/
  discard : Bool := false
  /-- The writes the response acknowledges, for its PERSISTED flag (R479). -/
  ws : List Nat := []
deriving DecidableEq, Repr

/-- A session: a KV1 or KV2 connection, or a KV3 channel (ch. 09). -/
structure Chan where
  /-- Channel number. -/
  no : Nat
  /-- Granted limit of outstanding requests. [R393, R408] -/
  maxOut : Nat
  /-- Requests without a sent response, oldest first. [R448; reset: none] -/
  out : List OutReq := []
  /-- The replay window, newest first, at most 4,096. [R485; reset: empty] -/
  window : List WinEntry := []
  /-- A CLOSE waits for the outstanding requests: its REQUEST_ID. [R409; reset: none] -/
  closing : Option Nat := none
  /-- Writes of the session's state-changing operations: operation and write number (R482). -/
  writes : List (Nat × Nat) := []
deriving DecidableEq, Repr

/-- Where a connection stands. -/
inductive ConnStage
  | tls | hello | auth | authDenied | open_ | resync | closed
deriving DecidableEq, Repr

/-- A data connection. -/
structure Conn where
  /-- Protocol generation. -/
  gen : Gen
  /-- Peer address. -/
  peer : IpAddr
  /-- Interface it arrived on. -/
  ifc : IfNo
  /-- Port it arrived on. -/
  port : PortId
  /-- Local address. -/
  local_ : IpAddr
  /-- It runs inside TLS. -/
  tls : Bool := false
  /-- How the client was authenticated in TLS. -/
  tlsAuth : TlsAuth := .none_
  /-- Stage. -/
  stage : ConnStage
  /-- When the stage was entered. -/
  stageAt : Nat
  /-- When the last frame was received. -/
  lastRx : Nat
  /-- The stall bound, once HELLO names it (KV1: from the source entry). -/
  stall : Option StallNo := none
  /-- The generation bound. -/
  generation : Nat := 0
  /-- REQUEST_ID of a refused AUTH whose answer is delayed. [R399] -/
  denied : Nat := 0
  /-- Credential slot used. -/
  slot : Option Nat := none
  /-- CLIENT_NONCE of HELLO. -/
  clientNonce : List Byte := []
  /-- DRIVE_NONCE of HELLO_ACK. -/
  driveNonce : List Byte := []
  /-- SESSION_ID. -/
  sessionId : Nat := 0
  /-- CLIENT_TAG. -/
  clientTag : Nat := 0
  /-- Granted MAX_DATA. -/
  maxData : Nat := 4194304
  /-- Sessions. -/
  chans : List Chan := []
  /-- GOING_AWAY has been sent. [R414; reset 0] -/
  goingAway : Bool := false
  /-- The connection closes once its pending responses are sent (R527 step 6). -/
  ending : Bool := false
  /-- Resynchronisation: bytes received from the byte after the first byte of the failed frame on, not yet passed over. [R416; reset: none] -/
  scan : List Byte := []
  /-- Bytes scanned so far. [R418] -/
  scanned : Nat := 0
  /-- When the resynchronisation began. [R418] -/
  resyncAt : Nat := 0
  /-- The stage resynchronisation interrupted. -/
  stageWas : ConnStage := .open_
  /-- A candidate HEARTBEAT already answered, by its offset in the scan. [R417] -/
  scanHb : Option Nat := none
  /-- When the last doorbell was sent and whether one is due at the end of its 100 ms. [R523] -/
  doorbell : Option Nat × Bool := (none, false)
  /-- What waits for room among the 256 KiB in the MAC queues, each with the number of its next segment. [R307] -/
  txWait : List (SendItem × Nat) := []
  /-- Bytes of this connection in the MAC queues. [R307] -/
  txBytes : Nat := 0
  /-- Frames that wait for payload staging: the window stays closed to what follows (R820). [R820; reset: none] -/
  blocked : List Frame := []
  /-- Maximum segment size basis: MAX_FRAME when it opened. [R292] -/
  mss : Nat := 1518
deriving DecidableEq, Repr

/-- Denials and the lockout of a source address (R400). -/
structure AuthFails where
  /-- Ledger times of the last DENIED answers, newest first. -/
  times : List Nat := []
  /-- Locked out until. -/
  until_ : Option Nat := none
deriving DecidableEq, Repr

/-- The wire protocol's state. -/
structure Proto where
  /-- Data connections by number. [R390; reset: none] -/
  conns : AMap Nat Conn := []
  /-- The next connection number. [model's own] -/
  nextConn : Nat := 0
  /-- The next SESSION_ID, unique for the life of the drive, never 0. [ch. 09, HELLO_ACK record; reset: DESIGN CHOICE 1, log 2] -/
  nextSession : Nat := 1
  /-- PROTO.STAT counters; an unlisted one reads 0. [R422; reset 0] -/
  stats : AMap ProtoCtr Nat := []
  /-- AUTH denials and lockouts per source address. [R400; reset: none] -/
  fails : AMap IpAddr AuthFails := []
  /-- When KV1_REFUSED was last logged per address. [R420; reset: none] -/
  kv1Logged : AMap IpAddr Nat := []
  /-- The listeners are open (S22 done). [R372, R206; reset 0] -/
  listening : Bool := false
  /-- Tickets issued, by number: generation, client identity, end of validity. [R401; reset: none] -/
  tickets : AMap Nat (Gen × TlsAuth × Nat) := []
  /-- The next ticket's number. [model's own] -/
  nextTicket : Nat := 0
deriving DecidableEq, Repr

/-- Where the data of an object version stands. -/
inductive Avail
  | ok           -- readable
  | lost         -- LOST_VERSION: its write-buffer line was lost (R161)
  | media        -- MEDIA: a page of it was lost (R612)
  | notReplayed  -- NOT_REPLAYED: S12 could not replay it
deriving DecidableEq, Repr

/-- An object: the present version of a key (ch. 10). -/
structure Obj where
  /-- The value. -/
  value : List Byte
  /-- The tags, 0 to 4. -/
  tags : List Word64
  /-- VERSION. -/
  version : Nat
  /-- INCARNATION. -/
  incarnation : Nat
  /-- EXPIRY, ledger microseconds. -/
  expiry : Nat
  /-- Evidence hold. -/
  held : Bool := false
  /-- Expiry bin (R553). -/
  bin : Nat := 0
  /-- The bin's end, ledger microseconds. -/
  binEnd : Nat := 0
  /-- The write was backfill. -/
  backfill : Bool := false
  /-- Readability. -/
  avail : Avail := .ok
  /-- The logical pages of its record, in order (ch. 13). -/
  lpns : List Nat := []
  /-- Its record stands in a packed page (LOC.PACKED). -/
  packed : Bool := false
  /-- Number of the write, in commit order (drives FLUSH, R482). -/
  wseq : Nat := 0
  /-- Numbers of the part writes whose pages hold the value of a multi-part write. -/
  parts : List Nat := []
deriving DecidableEq, Repr

/-- An open upload (R454). -/
structure Upload where
  /-- The stall's key. -/
  key : ObjKey
  /-- Generation of the stall it belongs to. -/
  generation : Nat
  /-- Tags given at MPUT_BEGIN. -/
  tags : List Word64
  /-- Retention override given at MPUT_BEGIN. -/
  override : Nat
  /-- RET_DEFAULT as it stood at MPUT_BEGIN's admission is not used; R547 uses the commit's. CREATE_ONLY. -/
  createOnly : Bool
  /-- IF_MATCH with the expected pair. -/
  ifMatch : Option (Nat × Nat)
  /-- The parts. -/
  parts : AMap Nat (List Byte) := []
  /-- Per part, its logical pages and the number of its write. -/
  pages : AMap Nat (List Nat × Nat) := []
  /-- Last request naming it. -/
  lastAt : Nat
deriving DecidableEq, Repr

/-- Ticket states (ch. 10, Ticket state encoding), from code 0x01. -/
inductive TicketState
  | running | done | partial_ | shredded | failed
deriving DecidableEq, Repr

/-- What a ticket stands for. -/
inductive TicketKind
  | find | discard | shred
deriving DecidableEq, Repr

/-- A ticket (R468). -/
structure Ticket where
  /-- Stall. -/
  stall : StallNo
  /-- Generation. -/
  generation : Nat
  /-- Kind. -/
  kind : TicketKind
  /-- State. -/
  state : TicketState := .running
  /-- Records of a FIND. -/
  records : List ObjRecord := []
  /-- Summary of a DISCARD or SHRED: objects removed, bytes removed, held objects skipped. -/
  summary : Nat × Nat × Nat := (0, 0, 0)
  /-- TRUNC. -/
  trunc : Bool := false
  /-- HIDDEN. -/
  hidden : Nat := 0
  /-- The failure's reason. -/
  reason : Nat := 0
  /-- Since when it is idle in a final state. -/
  idleSince : Nat := 0
  /-- Estimate of the time to the final state, 100 ms units; none = 0xFFFF. -/
  estimate : Option Nat := none
  /-- The search of a FIND: search words, care mask, key limit of the session's generation, ROW scope. -/
  words : List Word64 := []
  /-- Care mask. -/
  care : Word64 := 0
  /-- Key-length limit of the session's generation (R429). -/
  keyLimit : Nat := 240
  /-- ROW scope. -/
  row : Bool := false
  /-- A FIND's configuration stamp (R174). -/
  seq : Nat := 0
  /-- Keys still to remove (prefix DISCARD) or whose copies are still to erase (SHRED). -/
  todo : List ObjKey := []
deriving DecidableEq, Repr

/-- Why and where an admitted operation waits. -/
inductive OpPhase
  | held          -- received on a stall being drained; admitted when the drain ends (R514)
  | queued        -- in the stall's LIVE or BACKFILL queue (R542)
  | waitLock      -- waits for a lock (R460, R463)
  | waitCap       -- waits for room under the hold-up cap (R119)
  | waitCredit    -- waits for a GC credit in MATCHED (ch. 14)
  | waitArc       -- a tagged write whose entries wait for the Arcade's queue (R672)
  | waitPersist   -- committed; waits for flash (Persisted, write-through, FLUSH)
  | working       -- dispatched; its result is computed and waits for OPERATION_COMPLETE
deriving DecidableEq, Repr

/-- The values of commit groups an operation uses, as they stood at its admission (R174). -/
structure Snapshot where
  /-- CORE.CFG.SEQUENCE. -/
  seq : Nat := 0
  /-- DIRTY_CAP and LEVEL_MAX as PWR.POLICY's word. -/
  policy : Word64 := 0
  /-- RET_DEFAULT and RET_MAX. -/
  retention : Word64 := 0
  /-- BIN_HOURS (not a commit group; R553 takes it at admission). -/
  binHours : Nat := 6
  /-- Quotas: bytes, hold, objects, tags. -/
  quota : List Nat := []
  /-- SCHED.STALLs.OPS, RD, WR, BF. -/
  sched : List Word64 := []
deriving DecidableEq, Repr

/-- An admitted operation. -/
structure Op where
  /-- Connection. -/
  conn : Nat
  /-- Channel. -/
  chan : Nat
  /-- Stall. -/
  stall : StallNo
  /-- Generation it was admitted under. -/
  generation : Nat
  /-- The request. -/
  frame : Frame
  /-- The operation. -/
  code : OpCode
  /-- Configuration stamp. -/
  snap : Snapshot
  /-- Ledger time of admission. -/
  at_ : Nat
  /-- Phase. -/
  phase : OpPhase
  /-- The state the reads of this operation see: the object of its key at admission (R446), when no earlier operation of its session on the key was outstanding. -/
  seen : Option (Option Obj) := none
  /-- E0 and the membership at admission of a row search (R719). -/
  e0 : Nat × List Nat := (0, [])
  /-- It was delayed or slowed (R491). -/
  throttled : Bool := false
  /-- It has passed its commit point. -/
  committed : Bool := false
  /-- The response, once computed. -/
  resp : Option Resp := none
  /-- The answer of a LIST or STAT, taken at admission (R446, R484). -/
  early : Option Resp := none
  /-- Keys the request names, for the order of its session (R448). -/
  keys : List ObjKey := []
  /-- Its payload stands in the shared pool of payload staging (R820). -/
  pooled : Bool := false
  /-- The writes it has made. -/
  ws : List Nat := []
  /-- The entry writes of its new tags are done (R687). -/
  arcDone : Bool := false
  /-- When it requested its first lock (R460). -/
  lockAt : Option Nat := none
  /-- Set when its stall's freeze drain ends before its commit: answered FROZEN. -/
  aborted : Bool := false
deriving DecidableEq, Repr

/-- The operations in the drive and the key space. -/
structure Kv where
  /-- Objects. [ch. 10; reset: none] -/
  objs : AMap ObjKey Obj := []
  /-- Admitted operations by number. [R385; reset: none] -/
  ops : AMap Nat Op := []
  /-- The next operation number. [model's own] -/
  nextOp : Nat := 0
  /-- The incarnation counter: the next incarnation given. [R431; reset: the counter starts at 1] -/
  nextInc : Nat := 1
  /-- The next upload handle. [R454; reset: DESIGN CHOICE 1, log 2; 0 is never issued] -/
  nextHandle : Nat := 1
  /-- Open uploads. [R454; reset: none] -/
  uploads : AMap Nat Upload := []
  /-- Handles of the uploads lost at a power-fail. [R494; reset: none] -/
  lostHandles : List Nat := []
  /-- The next ticket number. [R468; reset: DESIGN CHOICE 1, log 2; 0 is never issued] -/
  nextTicket : Nat := 1
  /-- Tickets. [R468; reset: none] -/
  tickets : AMap Nat Ticket := []
  /-- Tickets removed by idle expiry, per number. [R473; reset: none] -/
  expired : List (StallNo × Nat) := []
  /-- Locks held: fingerprint to operation. [R460; reset: none] -/
  locks : AMap Nat Nat := []
  /-- Number of the next write in commit order. [model's own] -/
  nextWseq : Nat := 1
  /-- Bytes of acknowledged or committed data in the write buffer not yet on flash, per write number. [R118; reset: none] -/
  dirty : List (Nat × Nat) := []
deriving DecidableEq, Repr

/-! ### Stalls, mailboxes and scheduling (ch. 11) -/

/-- Stall states (ch. 11, Stall state encoding), in code order. -/
inductive StallState
  | free | active | draining | freezing | frozen | removing
deriving DecidableEq, Repr

/-- A credential slot that is not EMPTY (ch. 11, Credential slot kinds). -/
inductive Cred
  | secret (b : List Byte)
  | cert (fp : List Byte)
deriving DecidableEq, Repr

/-- A mailbox queue. -/
structure MsgQueue where
  /-- Messages, oldest first, at most 16. [ch. 11, The mailbox; reset: empty] -/
  msgs : List Msg := []
  /-- The next sequence number. [ch. 11; reset 1: counted per queue from 1] -/
  next : Nat := 1
deriving DecidableEq, Repr

/-- Why a stall drains (R514). -/
inductive DrainKind
  | reset | rebind | remove
deriving DecidableEq, Repr

/-- Close causes of a metering period (ch. 12, Close cause encoding), from code 0x1. -/
inductive CloseCause
  | wallEnd | forced | stepForward | timeSet | kindChange | removed
deriving DecidableEq, Repr

/-- The five accumulators of a metering period (ch. 12). -/
structure Accs where
  /-- STORED, KiB s. -/
  stored : Nat := 0
  /-- WRITTEN, bytes. -/
  written : Nat := 0
  /-- READ, bytes. -/
  read : Nat := 0
  /-- OPS. -/
  ops : Nat := 0
  /-- SHREDDED, bytes. -/
  shredded : Nat := 0
deriving DecidableEq, Repr

/-- An open metering period (ch. 12). -/
structure Period where
  /-- SEQ. -/
  seq : Nat
  /-- KIND: 0 DAY, 1 WEEK, 2 MONTH. -/
  kind : Nat
  /-- WALL_START and WALL_END; none when undated. -/
  bounds : Option (Nat × Nat)
  /-- WALL_OPEN, 0 when wall time was UNSET. -/
  wallOpen : Nat
  /-- LTIME_OPEN. -/
  ltimeOpen : Nat
  /-- Accumulators. -/
  acc : Accs := {}
  /-- Remainder of STORED, bytes below 1,024. -/
  rest : Nat := 0
  /-- STEPS, saturating at 65,535. -/
  steps : Nat := 0
  /-- STEPPED_BACK. -/
  steppedBack : Bool := false
  /-- GAP. -/
  gap : Bool := false
  /-- Accumulators that have saturated: 0 STORED to 4 SHREDDED. -/
  saturated : List Nat := []
deriving DecidableEq, Repr

/-- A closed period record (ch. 12). -/
structure PeriodRec where
  /-- The period as it closed. -/
  period : Period
  /-- CAUSE. -/
  cause : CloseCause
  /-- GENERATION. -/
  generation : Nat
  /-- WALL_CLOSE. -/
  wallClose : Nat
  /-- LTIME_CLOSE. -/
  ltimeClose : Nat
  /-- HOST. -/
  host : Nat
deriving DecidableEq, Repr

/-- A frozen stall's state blob (R529), as its fields; its body, tag and signature are opaque functions of them. -/
structure Blob where
  /-- Generation at freeze. -/
  generation : Nat
  /-- FREEZE_SEQ. -/
  freezeSeq : Nat
  /-- Ledger time of step 5. -/
  ltime : Nat
  /-- Wall time of step 5. -/
  wall : Nat
  /-- CONFIG section. -/
  config : List (Nat × Word64)
  /-- Levels of OPS, RD, WR, BF, in operations and bytes, then the deficit. -/
  levels : List Int
  /-- TO_WARDEN. -/
  toWarden : MsgQueue
  /-- TO_TENANT. -/
  toTenant : MsgQueue
  /-- The open period. -/
  meter : Option Period
  /-- TLS resumption key, 32 bytes, and its issue time. -/
  resumption : List Byte × Nat
  /-- The stored bytes. -/
  bytes : List Byte
deriving DecidableEq, Repr

/-- A relocation that runs from or to a stall (R532). -/
structure Relocation where
  /-- The other drive's serial. -/
  peer : Nat
  /-- The other stall. -/
  peerStall : StallNo
  /-- This stall is the source. -/
  source : Bool
  /-- Rate, MB/s. -/
  rate : Nat
  /-- The ledger time before which the rate lets no further object be copied. -/
  nextAt : Nat := 0
  /-- Keys of the stall not yet copied. -/
  toCopy : List ObjKey
  /-- Tracked changes not yet sent: keys changed since they were copied (R533). -/
  changed : List ObjKey := []
  /-- Keys sent and not yet acknowledged by the target. -/
  sent : List ObjKey := []
  /-- Cutover has begun (step 1 of R534). -/
  cutover : Bool := false
  /-- When step 2 of cutover began. -/
  step2At : Option Nat := none
  /-- The console command to answer: session and slot. -/
  slot : Option (SessId × Nat) := none
deriving DecidableEq, Repr

/-- A stall's data key as flash holds it: wrapped under the key of an LC_COUNT (R503, R782). -/
structure WrappedKey where
  /-- Identifier of the data key. -/
  key : Word64
  /-- The LC_COUNT it was wrapped under. -/
  count : Nat
deriving DecidableEq, Repr

/-- One stall. -/
structure Stall where
  /-- State. [R497; reset FREE] -/
  state : StallState := .free
  /-- Generation, 0 = never created. [R512; reset 0] -/
  generation : Nat := 0
  /-- Owner: a warden slot, or none. [R499; reset: none] -/
  owner : Option (Fin 4) := none
  /-- Host tag (CORE.STALLs.HOST). [R502; reset: DESIGN CHOICE 0, log 2] -/
  host : Nat := 0
  /-- Credential slots that are not EMPTY. [R505; reset: all EMPTY] -/
  creds : AMap (Fin 8) Cred := []
  /-- Identifier of the data key that DRAM holds in plain form, none when it holds none. [R503; reset: none] -/
  dataKey : Option Word64 := none
  /-- The wrapped data key on flash. [R503, R782; reset: none] -/
  wrapped : Option WrappedKey := none
  /-- LATE_DISCARD. [R515; reset: DESIGN CHOICE 0, log 2] -/
  lateDiscard : Nat := 0
  /-- ABORTED. [R515; reset: DESIGN CHOICE 0, log 2] -/
  aborted : Nat := 0
  /-- Levels of OPS, RD, WR and BF in millionths. [R539; reset 0] -/
  levels : List Int := [0, 0, 0, 0]
  /-- Deficit of the weighted round-robin, bytes. [R542; reset 0] -/
  deficit : Int := 0
  /-- LIVE queue: operation numbers in admission order. [ch. 11; reset: empty] -/
  live : List Nat := []
  /-- BACKFILL queue. [ch. 11; reset: empty] -/
  backfill : List Nat := []
  /-- TO_WARDEN. [R520; reset: empty] -/
  toWarden : MsgQueue := {}
  /-- TO_TENANT. [R520; reset: empty] -/
  toTenant : MsgQueue := {}
  /-- When MBX_DOORBELL was last logged. [R524; reset: none] -/
  doorbellAt : Option Nat := none
  /-- The drain in progress: kind, its end, the command to answer. [R514; reset: none] -/
  drain : Option (DrainKind × Nat × Option (SessId × Nat)) := none
  /-- The freeze in progress: the end of its drain and the command to answer. [R527; reset: none] -/
  freeze : Option (Nat × Option (SessId × Nat)) := none
  /-- The stored blob. [R527; reset: none] -/
  blob : Option Blob := none
  /-- The load buffer of `stall blob load`. [R530; reset: empty] -/
  loadBuf : AMap Nat Byte := []
  /-- Record of the last freeze: generation and FREEZE_SEQ. [R530; reset: none] -/
  lastFreeze : Option (Nat × Nat) := none
  /-- TLS session-ticket key, 32 bytes, and its issue time; none before a generation issued one. [R529; reset: DESIGN CHOICE none, log 2] -/
  resumption : List Byte × Nat := ([], 0)
  /-- Relocation. [R532; reset: none] -/
  reloc : Option Relocation := none
  /-- Open metering period. [R565; reset: none] -/
  period : Option Period := none
  /-- Closed records, newest first, at most 36. [R569; reset: none] -/
  records : List PeriodRec := []
  /-- The next period SEQ. [R569; reset 1] -/
  nextPeriod : Nat := 1
deriving DecidableEq, Repr

/-- The stalls and the scheduler. -/
structure Stalls where
  /-- Stalls; an unlisted one is FREE and never created. [R497; reset: none created] -/
  tab : AMap StallNo Stall := []
  /-- Active list of the weighted deficit round-robin. [R542; reset: empty] -/
  active : List StallNo := []
  /-- FREEZE_SEQ of the next freeze. [R529; reset 1] -/
  nextFreeze : Nat := 1
  /-- The blobs the drive has signed: what its signature check verifies. [R529, R530; reset: none] -/
  issued : List (StallNo × Blob) := []
  /-- Compose buffers per session. [R525; reset: none] -/
  compose : AMap SessId (List Byte) := []
deriving DecidableEq, Repr

/-! ### Media layout (ch. 13) -/

/-- Band states (ch. 13, Band state encoding), in code order. -/
inductive BandState
  | free | open_ | full | closed | shelter | spill | donor
deriving DecidableEq, Repr

/-- Use of an open band (R590, R593). -/
inductive BedKind
  | host | gc0 | gc1 | meta_
deriving DecidableEq, Repr

/-- Page kinds (ch. 13, Page kind encoding), from code 0x01. -/
inductive PageKind
  | data | packed | parity | log | checkpoint | shelterHead | shelterMeta | shelterData | pad
deriving DecidableEq, Repr

/-- A programmed data page: the fields of its header (ch. 13, Page header) and the record copies on it. BAND and STRIPE
follow from where it stands. -/
structure PageRec where
  /-- KIND. -/
  kind : PageKind
  /-- STALL, none for drive metadata. -/
  stall : Option StallNo := none
  /-- LPN, none for PAD. -/
  lpn : Option Nat := none
  /-- BIN. -/
  bin : Nat := 0
  /-- PSEQ. -/
  pseq : Nat
  /-- LTIME. -/
  ltime : Nat
  /-- INDEX. -/
  index : Nat := 0
  /-- Records with bytes on this page: key and WSEQ. -/
  recs : List (ObjKey × Nat) := []
  /-- Log page: end LSN of its records. Checkpoint page: capture LSN of its segment. -/
  lsn : Nat := 0
  /-- Log page: the stalls of its STALL records (R649). -/
  keys : List StallNo := []
  /-- LAST of FLAGS: the last page of its record. -/
  last : Bool := false
  /-- The page's content as it stands on flash: its 4 data units, encrypted (R589). -/
  units : List (List Byte) := []
deriving DecidableEq, Repr

/-- A band (ch. 13). -/
structure Band where
  /-- STATE. [R580, Band state encoding; reset FREE, or DONOR for the last 64 blocks of each lane group: DESIGN CHOICE, log 5] -/
  state : BandState := .free
  /-- DEGRADED. [R580; reset 0] -/
  degraded : Bool := false
  /-- SHRED_PENDING. [R580; reset 0] -/
  shredPending : Bool := false
  /-- Use of the bed while OPEN. [R590, R593; reset: none] -/
  bed : Option BedKind := none
  /-- Expiry bin. [R590; reset 0] -/
  bin : Nat := 0
  /-- The bin's end, ledger microseconds. [R592; reset 0] -/
  binEnd : Nat := 0
  /-- Absent members, by channel. [R578; reset: none] -/
  absent : List (Fin 16) := []
  /-- Members that were left out of a start while the band was opened, so that they were not erased with it. [R876; reset: none] -/
  away : List (Fin 16) := []
  /-- Members lost while the band was written, each with the first stripe written without it, oldest first. [R613, R635; reset: none] -/
  narrow : List (Fin 16 × Nat) := []
  /-- Substitutions: channel and spare block. [R578; reset: none] -/
  subst : List (Fin 16 × Nat) := []
  /-- Data pages programmed, newest first. [R577; reset: none] -/
  pages : List PageRec := []
  /-- Written in pseudo-SLC mode. [R575; reset 0] -/
  pslc : Bool := false
  /-- The stall-presence mark. [R644; reset: clear] -/
  presence : List StallNo := []
  /-- Ledger time of its first program since the erase. [R632; reset 0] -/
  since : Nat := 0
deriving DecidableEq, Repr

/-- A block's record in the block table (ch. 13, 14). -/
structure Block where
  /-- ECOUNT. [R627; reset 0: DESIGN CHOICE, log 5] -/
  ecount : Nat := 0
  /-- READS, saturating at 0xFFFF_FFFF. [R629; reset 0] -/
  reads : Nat := 0
  /-- PATROL_LAST. [R632; reset 0] -/
  patrolLast : Nat := 0
  /-- Retired. [R635; reset 0] -/
  retired : Bool := false
  /-- Retires when its band is erased, with the cause. [R635; reset: no] -/
  failing : Option RetireCause := none
  /-- Marked for re-erasure. [R640; reset 0] -/
  reErase : Bool := false
  /-- Ledger times of the pages of it rebuilt under R612, newest first. [R635; reset: none] -/
  rebuilt : List Nat := []
deriving DecidableEq, Repr

/-- Records of the metadata log (ch. 13, Record type encoding). -/
inductive LogRec
  /-- Pairs of LPN and entry; with them, the model's own, the WSEQs of the records whose pages they map. -/
  | map (pairs : List (Nat × Option (Nat × Nat))) (ws : List Nat)
  | indexSet (k : ObjKey) (wseq : Nat)
  | indexDel (k : ObjKey) (wseq : Nat)
  | band (n : Nat)
  | ckptSeg (segment : Nat) (index : Bool) (capture : Nat)
  | config
  | counters
  | stall (s : StallNo)
  | meter
  | replayed (flush : Nat)
  | parcel (piece : Nat)
deriving DecidableEq, Repr

/-- A record in the log's byte stream (ch. 13, Log record header). -/
structure LogEntry where
  /-- LSN. -/
  lsn : Nat
  /-- PREV_LSN. -/
  prev : Nat
  /-- Header and payload, bytes. -/
  bytes : Nat
  /-- What it records. -/
  what : LogRec
deriving DecidableEq, Repr

/-- A packed page in the write buffer (R586, R587). -/
structure Pack where
  /-- Its logical page. -/
  lpn : Nat
  /-- The bin's end. -/
  binEnd : Nat
  /-- When its first record entered it. -/
  at_ : Nat
  /-- Bytes used. -/
  used : Nat
  /-- Its records: key and WSEQ. -/
  recs : List (ObjKey × Nat)
deriving DecidableEq, Repr

/-- A program issued to the array and not yet complete. -/
inductive Prog
  /-- One page of a record or a packed page: kind, stall, LPN, bin and its end, index in the record, records. -/
  | page (kind : PageKind) (stall : StallNo) (lpn bin binEnd index : Nat) (recs : List (ObjKey × Nat))
  /-- A batch of staged log records, oldest first. -/
  | log (entries : List LogEntry)
deriving DecidableEq, Repr

/-- What the last flush wrote to the shelter (R605, R606). -/
structure FlushImage where
  /-- Flush number. -/
  number : Nat
  /-- SHELTER_META pages. -/
  metaPages : Nat
  /-- SHELTER_DATA pages: the data programs they stand for. -/
  dataPages : List Prog
  /-- Staged log records saved. -/
  entries : List LogEntry
  /-- The spill band, when used. -/
  spill : Option Nat
  /-- Places whose program failed, skipped in the head page: band and index (R607). -/
  skips : List (Nat × Nat) := []
  /-- Highest PSEQ issued before the flush. -/
  pseq : Nat
deriving DecidableEq, Repr

/-- Whom an array read of a value serves: a dispatched operation, a frame that still arrives (R839), the run-ahead of a
session (R840). -/
inductive ReadFor
  | op (id : Nat)
  | spec (p : PortId) (conn chan : Nat)
  | ahead (conn chan : Nat)
deriving DecidableEq, Repr

/-- A read-ahead buffer (R840). -/
structure Ahead where
  /-- Whom it serves. -/
  who : ReadFor
  /-- Stall and key of what it holds; the buffer keeps the key's fingerprint. -/
  key : ObjKey
  /-- Incarnation and version. -/
  pair : Nat × Nat
  /-- Offset and length. -/
  range : Nat × Nat
  /-- The logical pages read for it. -/
  pages : List Nat
  /-- Its frame's FCS is not known yet (R838). -/
  unverified : Bool
  /-- The configuration sequence stamped at the frame's header (R174). -/
  seq : Nat
deriving DecidableEq, Repr

/-- Checkpoint segments (R599): segment number, index or map, capture LSN, when written. -/
structure Segment where
  /-- Segment number. -/
  no : Nat
  /-- It is a key-index segment. -/
  index : Bool
  /-- Capture LSN. -/
  capture : Nat
  /-- When it was written. -/
  at_ : Nat
deriving DecidableEq, Repr

/-- The high-water marks of a COUNTERS record (R600). -/
structure Marks where
  /-- Incarnation. -/
  inc : Nat := 2 ^ 20 + 1
  /-- WSEQ. -/
  wseq : Nat := 2 ^ 20 + 1
  /-- PSEQ. -/
  pseq : Nat := 2 ^ 20 + 1
  /-- Tickets. -/
  ticket : Nat := 2 ^ 20 + 1
  /-- Upload handles. -/
  handle : Nat := 2 ^ 20 + 1
  /-- Freeze sequence. -/
  freeze : Nat := 2 ^ 20 + 1
deriving DecidableEq, Repr

/-- The flash array, the page map and the metadata log. -/
structure Media where
  /-- Bands; an unlisted one is as manufactured. [ch. 13; reset: bands 0 and 8,192 SHELTER, band 24,576 the metadata bed: DESIGN CHOICE, log 5] -/
  bands : AMap Nat Band := [(0, { state := .shelter, pslc := true }), (8192, { state := .shelter, pslc := true }),
    (24576, { state := .open_, bed := some .meta_, pslc := true })]
  /-- Block table; an unlisted block is as manufactured. [R575; reset: none listed] -/
  blocks : AMap BlockId Block := []
  /-- Page map: LPN to band and index of the data page in the band. [R581; reset: all unmapped] -/
  map : AMap Nat (Nat × Nat) := []
  /-- The next LPN to give. [R583; reset 0: DESIGN CHOICE, log 5] -/
  nextLpn : Nat := 0
  /-- PSEQ of the next program. [R595; reset 1: DESIGN CHOICE, log 5] -/
  pseq : Nat := 1
  /-- Spares used per die and plane. [R578, R636; reset: none] -/
  sparesUsed : AMap (Fin 16 × Fin 8 × Fin 4) Nat := []
  /-- Spare blocks that bands made DONOR in the field gave. [R579; reset: none] -/
  donated : List BlockId := []
  /-- Lost dies. [R613; reset: none] -/
  lost : List (Fin 16 × Fin 8) := []
  /-- Packed pages in the buffer, per stall and bin. [R587; reset: none] -/
  packs : AMap (StallNo × Nat) Pack := []
  /-- Records in the write buffer and the shelter, as bytes, by write number. [R118, R606; reset: none] -/
  buf : AMap Nat (List Byte) := []
  /-- Programs issued, oldest first. [R602; reset: none] -/
  progs : List Prog := []
  /-- Array reads queued for values, oldest first: whom each serves and its logical page. [R112, R823; reset: none] -/
  reads : List (ReadFor × Nat) := []
  /-- Read-ahead buffers. [R839, R840; reset: none] -/
  aheads : List Ahead := []
  /-- Staged log records, newest first. [R602; reset: none] -/
  staged : List LogEntry := []
  /-- Position after the newest log record. [ch. 13; reset 0] -/
  lsn : Nat := 0
  /-- Position of the newest log record. [ch. 13; reset 0] -/
  lastLsn : Nat := 0
  /-- Log records programmed and kept, newest first. [R599; reset: none] -/
  log : List LogEntry := []
  /-- Checkpoint segments. [R599; reset: none] -/
  segs : List Segment := []
  /-- First shelter band. [R604; reset cfg: DESIGN CHOICE 0, log 5] -/
  shelterA : Nat := 0
  /-- Second shelter band. [R604; reset cfg: DESIGN CHOICE 8,192, log 5] -/
  shelterB : Nat := 8192
  /-- The band kept for the spill. [R604; reset: DESIGN CHOICE 16,384, log 5] -/
  spillBand : Nat := 16384
  /-- The replacement shelter band is not yet erased and ready: write-through. [R611; reset 0] -/
  shelterWt : Bool := false
  /-- The flush not yet replayed. [R606, R609; reset: none] -/
  image : Option FlushImage := none
  /-- Number of the next flush. [R606; reset 1: DESIGN CHOICE, log 5] -/
  nextFlush : Nat := 1
  /-- The replay of R610 waits for writes to open. [R610; reset 0] -/
  replayHeld : Bool := false
  /-- A rebuild runs. [R613; reset 0] -/
  rebuild : Bool := false
  /-- DEGRADED bands when the rebuild began. [R613; reset 0] -/
  rebuildTotal : Nat := 0
  /-- Pages lost since the rebuild began. [REBUILD_DONE; reset 0] -/
  rebuildLost : Nat := 0
  /-- The rebuild is stalled. [R615; reset 0] -/
  stalled : Bool := false
  /-- The high-water marks of the newest COUNTERS record. [R600; reset: DESIGN CHOICE 2^20 above each counter's first value, log 2] -/
  marks : Marks := {}
  /-- Metadata format written now. [R767; reset: DESIGN CHOICE 1, log 5] -/
  format : Nat := 1
deriving DecidableEq, Repr

/-! ### Media upkeep and health (ch. 14) -/

/-- GC states (ch. 14), in code order. -/
inductive GcState
  | normal | throttle | matched | refuse
deriving DecidableEq, Repr

/-- Purposes of an erase (ch. 14, Erase purpose encoding), from code 0x01. -/
inductive Purpose
  | gc | shred | key | shelter | reErase | rebuild | wear
deriving DecidableEq, Repr

/-- Kinds of erase record (ch. 14), from code 0x01. -/
inductive EraseKind
  | intent | done | failed
deriving DecidableEq, Repr

/-- A record of the erase-intent ring (ch. 14; MARK and CRC follow from the rest). -/
structure EraseRec where
  /-- SEQ, modulo 2^32. -/
  seq : Nat
  /-- LTIME. -/
  ltime : Nat
  /-- BLOCK. -/
  block : BlockId
  /-- KIND. -/
  kind : EraseKind
  /-- PURPOSE. -/
  purpose : Purpose
  /-- ECOUNT. -/
  ecount : Nat
deriving DecidableEq, Repr

/-- A band whose records have been copied out and whose members are being erased. -/
structure Victim where
  /-- The band. -/
  band : Nat
  /-- The purpose. -/
  purpose : Purpose
  /-- Bytes copied from it (R624's credit). -/
  copied : Nat
  /-- Members whose erase has not reported. -/
  left : List BlockId
deriving DecidableEq, Repr

/-- A SHRED's work (R645). -/
structure ShredJob where
  /-- Its ticket; none for the completion after a power-fail (R648) and for key erasure (R649). -/
  ticket : Option Nat
  /-- The stall. -/
  stall : StallNo
  /-- Keys removed, with the removal's WSEQ. -/
  keys : List (ObjKey × Nat)
  /-- Step 2 has been done. -/
  scanned : Bool := false
  /-- Bands marked, at the ticket's creation or by the work itself, and not yet erased. -/
  bands : List Nat := []
  /-- A copy lies on a lost die (R647). -/
  lostCopy : Bool := false
deriving DecidableEq, Repr

/-- Causes of a measurement of E (R652), from code 0x1. -/
inductive MeasCause
  | start | periodic | command | cellFault
deriving DecidableEq, Repr

/-- Upkeep and health. -/
structure Upkeep where
  /-- GC state. [R624, R625; reset cfg: DESIGN CHOICE NORMAL, F being 65,021, log 5] -/
  gc : GcState := .normal
  /-- Credit in MATCHED, bytes. [R624; reset 0] -/
  credit : Nat := 0
  /-- Background GC runs. [R623; reset 0] -/
  bg : Bool := false
  /-- Consecutive windows under 20 %. [R623; reset 0] -/
  lowWindows : Nat := 0
  /-- Bands being erased. [R622; reset: none] -/
  victims : List Victim := []
  /-- When wear levelling last moved a band. [R628; reset: never] -/
  wearAt : Option Nat := none
  /-- The erase-intent ring, newest first, at most 4,096. [R638; reset: empty] -/
  ring : List EraseRec := []
  /-- SEQ of the next record. [R638; width 32; reset 0: DESIGN CHOICE, log 5] -/
  ringSeq : Nat := 0
  /-- Blocks queued for refresh, oldest first. [R630; reset: none] -/
  refresh : List BlockId := []
  /-- PATROL_LATE has been logged in this start. [R634; reset 0] -/
  patrolLate : Bool := false
  /-- SHRED work. [R645; reset: none] -/
  shreds : List ShredJob := []
  /-- TEMPn minutes; an unlisted bin holds 0. [R651; reset 0: DESIGN CHOICE, log 5] -/
  temps : AMap (Fin 14) Nat := []
  /-- Hold-up history, newest first, at most 64: LTIME_S, cause, E. [R652; reset: empty] -/
  holdup : List (Nat × MeasCause × Nat) := []
  /-- What the running measurement was started for. [R652; reset: none] -/
  measCause : Option MeasCause := none
  /-- Health counters; an unlisted one reads 0. [ch. 14, Health counters table; reset 0: DESIGN CHOICE, log 5] -/
  ctrs : AMap HealthCtr Nat := []
  /-- LIFE_THRESHOLD values logged. [R650; reset: none] -/
  lifeLogged : List Nat := []
  /-- GROWN_BAD. [R635; reset 0: DESIGN CHOICE, log 5] -/
  grownBad : Nat := 0
  /-- Times of the retirements per die, newest first. [R637; reset: none] -/
  retires : AMap (Fin 16 × Fin 8) (List Nat) := []
deriving DecidableEq, Repr

/-! ### The Arcade (ch. 15) -/

/-- An entry with its record (ch. 15, Entry record) and the units of its check copy, equal to its array's: a unit is a
pair of V and M. -/
structure ArcEntry where
  /-- DRIVE. -/
  drive : Bool := false
  /-- OWNER. -/
  owner : StallNo := 0
  /-- PART. -/
  part : Nat := 0
  /-- PRIORITY. -/
  priority : Nat := 0
  /-- RESULT. -/
  result : Nat
  /-- Units: V and M. -/
  units : List (Word64 × Word64)
  /-- The fingerprint kept beside the record in DRAM. -/
  fp : Nat := 0
deriving DecidableEq, Repr

/-- A queued command of ARC. -/
inductive ArcCmd
  /-- Insert entries of a key for an operation: the handle, the parts with their units. -/
  | insert (op : Option Nat) (k : ObjKey) (fp : Nat) (entry : ArcEntry)
  /-- Clear VALID of the entry with an identity. -/
  | invalidate (owner : StallNo) (result part : Nat)
  /-- Rewrite an entry in place, as a single or a paired write (R671, R687). -/
  | rewrite (op : Option Nat) (pos : Nat) (entry : ArcEntry) (pair : Option (Nat × ArcEntry))
deriving DecidableEq, Repr

/-- A cursor held by a stepped search. -/
structure ArcCursor where
  /-- The search. -/
  spec : ArcSpec
  /-- Position of the entry last reported; none before the first. -/
  pos : Option Nat
  /-- Identities already reported (R669). -/
  seen : List (Bool × StallNo × Nat × Nat) := []
deriving DecidableEq, Repr

/-- A verified result (R668). -/
structure ArcResult where
  /-- FIRST or the step's match: position. -/
  first : Option Nat
  /-- MULTI. -/
  multi : Bool
  /-- COUNT. -/
  count : Nat
  /-- The cursor of a stepped search. -/
  cursor : Option (Fin 16)
deriving DecidableEq, Repr

/-- The Arcade. -/
structure Arcade where
  /-- Entries with VALID 1 by position: record, check copy and array, which agree but where a command reports otherwise. [R660 to R665; reset: none] -/
  entries : AMap Nat ArcEntry := []
  /-- The command queue, oldest first, at most 256. [ch. 15; reset: empty] -/
  queue : List ArcCmd := []
  /-- The insertion at the head of the queue once its moves have begun: the moves left, from and to, and the position it writes at. [R670,
  R673; reset: none] -/
  plan : Option (List (Nat × Nat) × Nat) := none
  /-- Commands that wait for a queue place, oldest first. [R672; reset: none] -/
  overflow : List ArcCmd := []
  /-- Cursors held. [R669; reset: none] -/
  cursors : AMap (Fin 16) ArcCursor := []
  /-- Stepped searches that wait for a cursor, oldest first. [R669; reset: none] -/
  waiting : List ArcSpec := []
  /-- The last search's or step's result. [R668; reset: none] -/
  result : Option ArcResult := none
  /-- Next unit of the scrub: bank × 8,192 + unit; none between passes. [R680; reset: none] -/
  scrub : Option Nat := none
  /-- Ledger time of the last completed scrub pass. [R681; reset 0] -/
  scrubAt : Nat := 0
  /-- FALSE_HITS per bank. [ARC.BANKb.STATUS; reset 0] -/
  falseHits : AMap (Fin 16) Nat := []
  /-- SCRUB_FIXES per bank. [ARC.BANKb.STATUS; reset 0] -/
  scrubFixes : AMap (Fin 16) Nat := []
  /-- When SOFT_FALSE_HIT was last logged, per bank. [R677; reset: never] -/
  softAt : AMap (Fin 16) Nat := []
  /-- When ARC_SCRUB_FIX was last logged. [R680; reset: never] -/
  fixAt : Option Nat := none
  /-- Banks being rebuilt. [R694; reset: none] -/
  rebuilding : List (Fin 16) := []
  /-- ARC.STAT counters. [ch. 15; reset 0] -/
  stat : AMap ArcCtr Nat := []
  /-- Keys whose entry is lost and not yet written again. [R678, R679; reset: none] -/
  lost : List ObjKey := []
  /-- Handles of objects with entries. [ch. 15; reset: none] -/
  handles : AMap ObjKey Nat := []
  /-- The hot-key directory of banks 0 and 1, most recently used first: position, fingerprint, cache slot. [R691; reset:
  empty] -/
  dir : List (Nat × Nat × Nat) := []
  /-- The Arcade image: capture WSEQ and the entries of banks 4 to 15. [R693; reset: DESIGN CHOICE the empty image of the factory's halt, log 5] -/
  image : Option (Nat × AMap Nat ArcEntry) := some (1, [])
deriving DecidableEq, Repr

/-! ### The row (ch. 16) -/

/-- ROW_STATE (ch. 16), in code order. -/
inductive RowState
  | none_ | joining | member | leader
deriving DecidableEq, Repr

/-- MIRROR_STATE (ch. 16), in code order. -/
inductive MirrorState
  | idle | current | lagging
deriving DecidableEq, Repr

/-- A member in the drive's view. -/
structure Member where
  /-- SERIAL. -/
  serial : Nat
  /-- POSITION. -/
  position : Nat
  /-- Heartbeat state code of its last beacon. -/
  state : Nat := 0
  /-- When its last beacon was accepted. -/
  at_ : Nat
deriving DecidableEq, Repr

/-- A message that waits for its ACK (R715). -/
structure Unacked where
  /-- The message. -/
  msg : RowMsg
  /-- Sendings so far. -/
  sent : Nat := 1
  /-- When it was last sent. -/
  at_ : Nat
deriving DecidableEq, Repr

/-- Member status of a row report (ch. 16), from code 0x01; `searching` while the search runs. -/
inductive MemberStatus
  | answered | partial_ | failed | timedOut | unreachable | removed | added | searching
deriving DecidableEq, Repr

/-- A row search this drive coordinates (R719). -/
structure RowSearch where
  /-- Its ticket. -/
  ticket : Nat
  /-- E0. -/
  e0 : Nat
  /-- Deadline, ledger time. -/
  deadline : Nat
  /-- The E0 membership in order, and members admitted later: serial, status, records. -/
  members : List (Nat × MemberStatus × List ObjRecord)
  /-- MSG_IDs of the FIND_REQ sent, by serial. -/
  reqs : AMap Nat Nat := []
deriving DecidableEq, Repr

/-- A row search served for another drive (R720). -/
structure ServedSearch where
  /-- The coordinator. -/
  peer : Nat
  /-- MSG_ID of its FIND_REQ. -/
  msgId : Nat
  /-- The request. -/
  req : FindReqMsg
deriving DecidableEq, Repr

/-- An entry of the mirror queue (R726, R728). -/
inductive MirrorItem
  | put (k : ObjKey) (wseq : Nat)
  | update (k : ObjKey) (held : Bool)
  | remove (k : ObjKey) (erase : Bool)
deriving DecidableEq, Repr

/-- An entry of the mirror queue, and an object the catch-up sends. -/
structure MirrorEntry where
  /-- What it sends. -/
  item : MirrorItem
  /-- The catch-up sends it; it takes no place in the queue (R732). -/
  caught : Bool := false
  /-- The neighbour has refused it (R729, R730). -/
  refused : Bool := false
deriving DecidableEq, Repr

/-- A mirror copy kept for another drive (R727). -/
structure MirrorCopy where
  /-- The object as received. -/
  obj : MirrorObj
  /-- Expiry, ledger time. -/
  expiry : Nat
deriving DecidableEq, Repr

/-- A mirror restore in progress (R734). -/
structure Restore where
  /-- Origin. -/
  origin : Nat
  /-- Origin stall. -/
  ostall : StallNo
  /-- Objects restored. -/
  restored : Nat := 0
  /-- Objects skipped. -/
  skipped : Nat := 0
deriving DecidableEq, Repr

/-- The row of drives. -/
structure Row where
  /-- The row key, 32 bytes; none while none is set. [R699, R701; reset: none set] -/
  key : Option (List Byte) := none
  /-- ROW_STATE. [CORE.ROW.STATUS; reset NONE] -/
  state : RowState := .none_
  /-- CORE.ROW.EPOCH. [R705; reset cfg: DESIGN CHOICE 0, log 2] -/
  epoch : Nat := 0
  /-- The highest epoch seen. [R710; reset 0] -/
  seenEpoch : Nat := 0
  /-- The membership in order, the drive itself included. [R705; reset: none] -/
  members : List Member := []
  /-- Last SEQ accepted from each serial since S01. [R703; reset: none] -/
  seqs : AMap Nat Nat := []
  /-- The link-local address the last accepted beacon of each serial came from. [ch. 16, Row identity; reset: none] -/
  addrs : AMap Nat IpAddr := []
  /-- Ledger time of the last leader beacon accepted, or of the beginning of a join. [R710, R712; reset: none] -/
  leaderAt : Option Nat := none
  /-- The drive beacons, S21 to an orderly halt. [R702; reset 0] -/
  beaconing : Bool := false
  /-- When the timer last sent a beacon. [R702; reset: none] -/
  beaconAt : Option Nat := none
  /-- When ROW_SERIAL_CONFLICT was last logged. [R704; reset: never] -/
  conflictAt : Option Nat := none
  /-- When ROW_FULL was last logged per serial. [R706; reset: never] -/
  fullAt : AMap Nat Nat := []
  /-- BEACON_BAD. [ch. 16; reset 0] -/
  beaconBad : Nat := 0
  /-- MSG_BAD. [ch. 16; reset 0] -/
  msgBad : Nat := 0
  /-- The next MSG_ID. [ch. 16; reset 1: DESIGN CHOICE, log 2; never 0] -/
  nextMsg : Nat := 1
  /-- Messages without an ACK, oldest first. [R715; reset: none] -/
  unacked : List Unacked := []
  /-- Messages that wait for one of a peer's 64 slots, oldest first. [R716; reset: none] -/
  waiting : List RowMsg := []
  /-- MSG_IDs acted on, per peer, with the first ACK. [R715; reset: none] -/
  seen : List (Nat × Nat × AckStatus) := []
  /-- Row searches this drive coordinates. [R719; reset: none] -/
  searches : List RowSearch := []
  /-- Row searches served, at most 4. [R720; reset: none] -/
  served : List ServedSearch := []
  /-- Row searches that wait. [R720; reset: none] -/
  servedWait : List ServedSearch := []
  /-- MIRROR_STATE. [ch. 16; reset IDLE] -/
  mirror : MirrorState := .idle
  /-- The earliest ledger time at which MIRROR_RATE lets the next object go. [R726; reset 0] -/
  mirrorAt : Nat := 0
  /-- The mirror queue, oldest first, at most 65,536. [R726; reset: empty] -/
  queue : List MirrorEntry := []
  /-- Entries tried again at the given time. [R729; reset: none] -/
  retry : List (Nat × MirrorEntry) := []
  /-- Entries sent and not acknowledged, by MSG_ID. [R730; reset: none] -/
  sending : AMap Nat MirrorEntry := []
  /-- CORE.ROW.MIRROR.MARK. [R730; reset cfg: DESIGN CHOICE 0, log 2] -/
  mark : Nat := 0
  /-- Serial of the neighbour the mark refers to. [R730; reset: DESIGN CHOICE 0, log 2] -/
  markSerial : Nat := 0
  /-- The highest mirrored WSEQ. [R731; reset 0] -/
  highest : Nat := 0
  /-- Stall the catch-up has reached; 128 when it has covered all. [R732; reset 0] -/
  catchup : Nat := 0
  /-- Mirror copies kept, per origin and key. [R727; reset: none] -/
  copies : AMap (Nat × ObjKey) MirrorCopy := []
  /-- When MIRROR_REFUSED was last logged. [R729; reset: never] -/
  refusedAt : Option Nat := none
  /-- Restores in progress, per local stall. [R734; reset: none] -/
  restores : AMap StallNo Restore := []
deriving DecidableEq, Repr

/-! ### Firmware (ch. 17) -/

/-- Slot states (ch. 17), in code order. -/
inductive FwState
  | empty | staged | trial | good | failed | stale
deriving DecidableEq, Repr

/-- A NOR slot's record. -/
structure FwSlot where
  /-- State. [Slot state encoding; reset cfg: DESIGN CHOICE GOOD for slot A and EMPTY for slot B, log 2] -/
  state : FwState := .empty
  /-- Version. [SVC.FW.VERSION_A, .VERSION_B; reset cfg: DESIGN CHOICE, log 2] -/
  version : Nat := 0
  /-- SVN. [R752; reset cfg: DESIGN CHOICE 0, log 2] -/
  svn : Nat := 0
  /-- Trial failure count. [R753; reset 0] -/
  fails : Nat := 0
  /-- The manifest it was written from. [R749; reset: DESIGN CHOICE none, log 2] -/
  manifest : Option Manifest := none
  /-- Installed with relay=on, or from a relay offer: the ORIGIN. [R769; reset: none] -/
  relayOrigin : Option Nat := none
  /-- The SOURCE of the relay offer it came from. [R772; reset: none] -/
  relaySource : Option Nat := none
  /-- Ledger time of the S04 of its first trial start. [R754; reset: none] -/
  trialFrom : Option Nat := none
deriving DecidableEq, Repr

/-- What runs (SVC.FW.STATUS.RUNNING), in code order. -/
inductive Running
  | a | b | recovery
deriving DecidableEq, Repr

/-- Parcel states (ch. 17), in code order. -/
inductive ParcelState
  | none_ | receiving | complete | installing | installed | stopped
deriving DecidableEq, Repr

/-- The held parcel. -/
structure Parcel where
  /-- State. -/
  state : ParcelState
  /-- Manifest. -/
  manifest : Manifest
  /-- SHA-384 of piece 0. -/
  hash0 : List Byte
  /-- Pieces held. -/
  pieces : List Nat
  /-- When piece 0 was stored. -/
  since : Nat
  /-- When it was installed. -/
  installedAt : Option Nat := none
  /-- When the last piece was accepted. -/
  lastAt : Nat
  /-- Its relay has ended. -/
  relayEnded : Bool := false
deriving DecidableEq, Repr

/-- A gatehouse update in progress (R762) and what follows it. -/
structure GateUpdate where
  /-- The new version. -/
  version : Nat
  /-- It is step 3 of an install (the rest of the install follows), else R764's. -/
  install : Bool
deriving DecidableEq, Repr

/-- An install in progress. -/
structure Install where
  /-- The session and slot to answer; none for a relay. -/
  slot : Option (SessId × Nat)
  /-- relay=on: the ORIGIN. -/
  relay : Option Nat
  /-- The SOURCE of a relayed install. -/
  source : Option Nat
  /-- restart=later. -/
  later : Bool
  /-- The slot reads back as written. -/
  slotOk : Bool
  /-- Step 4 is interrupted: it does not end before the restart (R751). -/
  cut : Bool := false
deriving DecidableEq, Repr

/-- Firmware slots, fuses, parcel and trial. -/
structure Fw where
  /-- Slot A. [R752; reset: DESIGN CHOICE GOOD with the version the drive left the factory with, log 2] -/
  a : FwSlot := { state := .good, version := 1 }
  /-- Slot B. [R752; reset: DESIGN CHOICE EMPTY, log 2] -/
  b : FwSlot := {}
  /-- What runs. [SVC.FW.STATUS; reset hw: slot A] -/
  running : Running := .a
  /-- The slot the previous start ran. [R196; reset: none] -/
  previous : Option Running := none
  /-- Burned SVN fuses, by index 0 to 63. [ch. 17; reset hw: DESIGN CHOICE none, log 2] -/
  fuses : List Nat := []
  /-- BURN_TARGET. [R758; reset cfg: DESIGN CHOICE 0, log 2] -/
  burnTarget : Nat := 0
  /-- Running gatehouse slot. [SVC.FW.STATUS; reset hw: DESIGN CHOICE 0, log 2] -/
  gateSlot : Nat := 0
  /-- Gatehouse versions per slot. [ch. 17; reset cfg: DESIGN CHOICE 1 and 0, log 2] -/
  gateVersions : Nat × Nat := (1, 0)
  /-- The gatehouse image kept as fallback. [R762; reset: DESIGN CHOICE none, log 2] -/
  gateUpdate : Option GateUpdate := none
  /-- An install in progress. [R749; reset: none] -/
  install : Option Install := none
  /-- The held parcel. [ch. 17; reset: none] -/
  parcel : Option Parcel := none
  /-- The offer whose parcel is pulled. [R770; reset: none] -/
  pull : Option RelayOffer := none
  /-- The earliest ledger time at which RELAY_RATE lets the next piece be asked for. [R770; reset 0] -/
  pullAt : Nat := 0
  /-- When the trial window began. [R754; reset: none] -/
  trialAt : Option Nat := none
  /-- The latest watchdog expiry or GATEHOUSE_RESET of this start. [R754; reset: none] -/
  watchdogAt : Option Nat := none
  /-- A data session or a management session has been opened in the window. [R754; reset 0] -/
  sessionSeen : Bool := false
  /-- S11 ended OK or OK_ALT in this start. [R754; reset 0] -/
  s11Ok : Bool := false
  /-- The last trial attempt failed and is to be counted at S04. [R753; reset 0] -/
  attemptFailed : Bool := false
  /-- A RELAY_STATUS to send once the row is joined: SOURCE, parcel, status. [R772; reset: none] -/
  statusDue : Option (Nat × Nat × RelayStat) := none
deriving DecidableEq, Repr

/-! ### Self-test and life cycle (ch. 18) -/

/-- Run causes (ch. 18), from code 0x01. -/
inductive RunCause
  | halt | thermal | restart | dormant | command | inline_
deriving DecidableEq, Repr

/-- Run outcomes (ch. 18), in code order. -/
inductive RunOutcome
  | open_ | complete | cut | powerFail | budget
deriving DecidableEq, Repr

/-- A test run: header and records (ch. 18). -/
structure TestRun where
  /-- RUN_SEQ, modulo 2^32. -/
  seq : Nat
  /-- START_NO. -/
  startNo : Nat
  /-- CAUSE. -/
  cause : RunCause
  /-- OUTCOME. -/
  outcome : RunOutcome
  /-- LC. -/
  lc : LifeState
  /-- LTIME_BEGIN. -/
  began : Nat
  /-- LTIME_END, 0 while OPEN. -/
  ended : Nat
  /-- FW_VERSION. -/
  fw : Nat
  /-- DRAM_WINDOW. -/
  window : Nat
  /-- Island records with the ledger time of each test's end, in order. -/
  recs : List (TestOutcome × Nat)
deriving DecidableEq, Repr

/-- A commanded test in progress. -/
structure TestCmd where
  /-- Session and slot to answer. -/
  slot : SessId × Nat
  /-- Parts. -/
  parts : List TestPart
  /-- Loops left. -/
  loops : Nat
  /-- The island under test. -/
  island : Island
deriving DecidableEq, Repr

/-- The test engine and the life cycle. -/
structure Life where
  /-- LC_COUNT. [R780; reset hw: 2, a FIELD drive as it leaves the factory (R874)] -/
  count : Nat := 2
  /-- RETIRED fuse burned. [R780; reset hw: 0] -/
  retired : Bool := false
  /-- The identity key seed that the transition from BLANK burned; none: the one the drive came with. [R784; reset hw: none] -/
  seed : Option (List Byte) := none
  /-- The intent record: target state. [R787; reset cfg 0xF: none] -/
  intent : Option LifeState := none
  /-- The fuse of the intent reads burned, and steps 5 to 7 are not complete. [R788; reset 0] -/
  burned : Bool := false
  /-- The transition set is still to be applied at S10 and after S24. [R787; reset 0] -/
  clearing : Bool := false
  /-- Run slots, newest first, at most 64. [ch. 18; reset: none] -/
  runs : List TestRun := []
  /-- RUN_SEQ of the next run. [ch. 18; width 32; reset 1: DESIGN CHOICE, log 2] -/
  nextRun : Nat := 1
  /-- DRAM window of the next run, 0 to 47. [R793; reset 0: DESIGN CHOICE, log 2] -/
  window : Nat := 0
  /-- The run in progress is the shutdown set: islands still to test. [R792; reset: none] -/
  shutdown : Option (List Island) := none
  /-- The island under test. [SVC.TEST.STATUS; reset 0xFF: none] -/
  under : Option Island := none
  /-- When its test, or the present pass of it, began. [R795, R796; reset 0] -/
  underAt : Nat := 0
  /-- End of the flush the set follows. [R794; reset 0] -/
  flushEnd : Nat := 0
  /-- The commanded test in progress. [R810; reset: none] -/
  cmd : Option TestCmd := none
  /-- DEAD entries per island, newest first. [R804; reset: none] -/
  deadTimes : AMap Island (List Nat) := []
  /-- A CLEAR record has been written since the newest run (R808). [R808; reset 1] -/
  cleared : Bool := true
deriving DecidableEq, Repr

/-! ### What leaves the drive -/

/-- Unsolicited lines of a console. -/
inductive Notice
  | attention | goingAway (reason hint : Nat) | closing | baud (code : Nat)
deriving DecidableEq, Repr

/-- What leaves the drive, in order. A console's output stands twice: as structured data, and after it as the characters
that a session receives (`text`). -/
inductive Output
  | reply (sess : SessId) (tag : Option Nat) (r : Reply)
  | eventLine (sess : SessId) (e : EventRec)
  | eventsDropped (sess : SessId) (n : Nat)
  | notice (sess : SessId) (n : Notice)
  | busySessions (peer : IpAddr)
  | accessDenied (peer : IpAddr)
  | help (sess : SessId)
  | text (sess : SessId) (t : String)
  | peerText (peer : IpAddr) (t : String)
  | sent (port : PortId) (f : TxFrame)
deriving DecidableEq, Repr

/-! ### The whole drive -/

/-- Where the drive is in its running. -/
inductive Phase
  | off                                            -- both feeds lost, or never powered
  | restarting                                     -- a start is due: S01 comes next
  | starting                                       -- S01 to S23
  | ready                                          -- after S24
  | draining (r : HaltReason)                      -- an orderly halt's first 2 s (R44)
  | flushing (r : HaltReason)                      -- the halt's flush
  | selftest (r : HaltReason)                      -- the shutdown set
  | halted                                         -- R46
  | dormant
  | safe
  | hold                                           -- BLANK or RETIRED (R781)
  | failFlush (c : FlushCause)                     -- a power-fail or R153 flush runs
deriving DecidableEq, Repr

/-- The drive, with the commands that wait for it. -/
structure State where
  /-- Where the drive is in its running. [R36; reset OFF: unpowered] -/
  phase : Phase := .off
  /-- Clocks. -/
  clock : Clock := {}
  /-- Housing and service bay. -/
  bay : Bay := {}
  /-- Power. -/
  power : Power := {}
  /-- Islands and memories. -/
  isl : Islands := {}
  /-- Configuration. -/
  cfg : Cfg := {}
  /-- The start and the boot ledger. -/
  boot : Boot := {}
  /-- Consoles. -/
  con : Console := {}
  /-- Ports. -/
  ports : Ports := {}
  /-- Addresses. -/
  net : Net := {}
  /-- Wire protocol. -/
  proto : Proto := {}
  /-- Operations and the key space. -/
  kv : Kv := {}
  /-- Stalls. -/
  stalls : Stalls := {}
  /-- Flash. -/
  media : Media := {}
  /-- Upkeep and health. -/
  upkeep : Upkeep := {}
  /-- The Arcade. -/
  arc : Arcade := {}
  /-- The row. -/
  row : Row := {}
  /-- Firmware. -/
  fw : Fw := {}
  /-- Self-test and life cycle. -/
  life : Life := {}
  /-- Event log. -/
  log : EventLog := {}
  /-- What has left the drive, newest first. [model's own; reset: nothing] -/
  out : List Output := []
  /-- Free values drawn so far. [model's own, log 1; reset 0: DESIGN CHOICE, log 1] -/
  freeCtr : Nat := 0
  /-- The commands that wait, first in, first out. [the block's queue; reset: empty] -/
  pending : List Instr := []
deriving DecidableEq, Repr

/-- No command of this block ends in a fault: what the spec calls an error is an answer, an event or a state of its own.
The type is closed and empty. -/
inductive Fault
deriving DecidableEq, Repr

/-- Why a command is turned away by the model itself. -/
inductive Refusal
  /-- The row named has no meaning in this model. Raised by `exec` alone; safe: nothing happens. -/
  | notModelled (mnemonic : String)
deriving DecidableEq, Repr

/-- The drive right after reset: without power, as a FIELD drive leaves the factory (R874): one HALT checkpoint, the RTC
never written, the ring of events empty. -/
def State.reset : State :=
  { clock := { ckpts := [{ seq := 0, ltime := 0, bound := 1000, rtc := 0, wall := 0, kind := .halt, wstate := .unset }] } }

end Sys2Proof.Machine
end

