-- ==== Sys2Proof/Machine/Events.lean ====
section
/-!
DEFINITION. The events (ch. 20): code and severity of each, and the island a record names (R872).
-/

namespace Sys2Proof.Machine

open Sys2Proof

/-- Event codes (ch. 20, Event codes table). -/
def evCode : Ev → Nat
  | .presenceOpen => 0x0101 | .presenceClosed => 0x0102 | .presenceFault => 0x0103 | .lidOpen => 0x0104
  | .lidClosed => 0x0105 | .lineFault => 0x0106 | .lineRecovered => 0x0107 | .feedLost => 0x0201
  | .feedRestored => 0x0202 | .feedChangeover => 0x0203 | .levelChange => 0x0204 | .holdupWeak => 0x0205
  | .holdupRestored => 0x0206 | .cellFault => 0x0207 | .coldGate => 0x0208 | .coldOpen => 0x0209
  | .thermalThrottle => 0x020A | .thermalHalt => 0x020B | .powerFail => 0x020C | .islandFault => 0x0301
  | .handshakeTimeout => 0x0302 | .islandDead => 0x0303 | .essentialFault => 0x0304 | .gatehouseReset => 0x0305
  | .dramUncorrectable => 0x0306 | .fuseMirrorFixed => 0x0307 | .stepFail => 0x0401 | .stepAlternative => 0x0402
  | .startSlotChange => 0x0403 | .fullscanBegin => 0x0404 | .fullscanDone => 0x0405 | .startHotHold => 0x0406
  | .startReady => 0x0407 | .ledgerStateRebuilt => 0x0408 | .safeMode => 0x0409 | .startCleared => 0x040A
  | .arcadeEmpty => 0x040B | .mgmtAuthFail => 0x0501 | .mgmtSessionClosed => 0x0502 | .wardenEnrolled => 0x0503
  | .wardenRemoved => 0x0504 | .linkUp => 0x0601 | .linkDown => 0x0602 | .linkDownshift => 0x0603
  | .bondFailover => 0x0604 | .lagNoPartner => 0x0605 | .lagSpeedMismatch => 0x0606 | .counterHalf => 0x0607
  | .counterSaturated => 0x0608 | .foldError => 0x0609 | .statsCleared => 0x060A | .pauseStorm => 0x060B
  | .dormantEnter => 0x060C | .wake => 0x060D | .addrDuplicate => 0x0701 | .addrLost => 0x0702 | .addrLimit => 0x0703
  | .addrRefused => 0x0704 | .timeSource => 0x0705 | .clockStep => 0x0706 | .timeStepRefused => 0x0707
  | .ledgerGap => 0x0708 | .kvAuthFail => 0x0801 | .kvAuthLockout => 0x0802 | .kvResync => 0x0803
  | .kvResyncFail => 0x0804 | .kv1Refused => 0x0805 | .kv1Enabled => 0x0806 | .kv1Disabled => 0x0807
  | .stallCreated => 0x0901 | .stallReset => 0x0902 | .stallRebound => 0x0903 | .stallRemoved => 0x0904
  | .stallKeyExported => 0x0905 | .stallCredChanged => 0x0906 | .mbxDoorbell => 0x0907 | .stallFreezing => 0x0908
  | .stallFrozen => 0x0909 | .stallThawed => 0x090A | .relocateDone => 0x090B | .relocateFailed => 0x090C
  | .holdPlaced => 0x0A01 | .holdReleased => 0x0A02 | .meterSaturated => 0x0A03 | .meterPeriodClosed => 0x0A04
  | .mapEntryBad => 0x0B01 | .logResync => 0x0B02 | .shelterReplayed => 0x0B03 | .shelterMoved => 0x0B04
  | .pageRebuilt => 0x0B05 | .pageLost => 0x0B06 | .dieLost => 0x0B07 | .rebuildStalled => 0x0B08
  | .rebuildDone => 0x0B09 | .gcState => 0x0C01 | .wearLevelMove => 0x0C02 | .blockRefreshed => 0x0C03
  | .patrolRelocate => 0x0C04 | .patrolLate => 0x0C05 | .blockRetired => 0x0C06 | .sparesExhausted => 0x0C07
  | .halfEraseFound => 0x0C08 | .eraseRingInvalid => 0x0C09 | .shredResumed => 0x0C0A | .lifeThreshold => 0x0C0B
  | .softFalseHit => 0x0D01 | .arcEntryLost => 0x0D02 | .arcScrubFix => 0x0D03 | .arcGrantChanged => 0x0D04
  | .arcRebuildDone => 0x0D05 | .rowJoined => 0x0E01 | .rowLeader => 0x0E02 | .rowMemberAdded => 0x0E03
  | .rowMemberRemoved => 0x0E04 | .rowFull => 0x0E05 | .rowSerialConflict => 0x0E06 | .mirrorLagging => 0x0E07
  | .mirrorCurrent => 0x0E08 | .mirrorRefused => 0x0E09 | .mirrorRestoreDone => 0x0E0A | .parcelBegun => 0x0F01
  | .parcelComplete => 0x0F02 | .parcelExpired => 0x0F03 | .svnEnd => 0x0F04 | .fwStaged => 0x0F05
  | .fwTrialFailed => 0x0F06 | .fwFallback => 0x0F07 | .fwConfirmed => 0x0F08 | .fwImageBad => 0x0F09
  | .fwRecovery => 0x0F0A | .svnBurned => 0x0F0B | .fuseBurnFail => 0x0F0C | .gateUpdated => 0x0F0D
  | .gateFallback => 0x0F0E | .fwRelayStopped => 0x0F0F | .lcTransitionBegin => 0x1001 | .lcChanged => 0x1002
  | .lcTransitionAbandoned => 0x1003 | .lcFuseFail => 0x1004 | .selftestBegin => 0x1005 | .selftestEnd => 0x1006
  | .islandUnusable => 0x1007 | .islandRestored => 0x1008 | .islandRevived => 0x1009

/-- Severities (ch. 20, Event codes table). COUNTER_HALF is never recorded; it is given INFO here. -/
def evSev : Ev → Sev
  | .presenceFault | .lidOpen | .lineFault | .feedLost | .feedChangeover | .thermalThrottle | .powerFail
  | .islandFault | .handshakeTimeout | .gatehouseReset | .fuseMirrorFixed | .stepFail | .fullscanBegin
  | .startHotHold | .ledgerStateRebuilt | .arcadeEmpty | .mgmtAuthFail | .linkDown | .linkDownshift
  | .bondFailover | .lagNoPartner | .lagSpeedMismatch | .counterSaturated | .pauseStorm | .addrDuplicate
  | .addrLost | .addrRefused | .clockStep | .timeStepRefused | .ledgerGap | .kvAuthFail | .kvAuthLockout
  | .kvResync | .kvResyncFail | .kv1Refused | .stallKeyExported | .relocateFailed | .meterSaturated
  | .mapEntryBad | .logResync | .shelterMoved | .pageRebuilt | .rebuildStalled | .gcState | .patrolRelocate
  | .patrolLate | .blockRetired | .halfEraseFound | .eraseRingInvalid | .lifeThreshold | .softFalseHit
  | .arcScrubFix | .rowMemberRemoved | .rowFull | .mirrorLagging | .mirrorRefused | .parcelExpired
  | .fwTrialFailed | .fwFallback | .gateFallback | .fwRelayStopped | .lcTransitionBegin | .lcChanged
  | .lcTransitionAbandoned => .warn
  | .holdupWeak | .cellFault | .thermalHalt | .islandDead | .essentialFault | .dramUncorrectable | .safeMode
  | .foldError | .pageLost | .dieLost | .sparesExhausted | .arcEntryLost | .rowSerialConflict | .svnEnd
  | .fwImageBad | .fwRecovery | .fuseBurnFail | .lcFuseFail | .islandUnusable => .fault
  | _ => .info

/-- The island of an event's code block (ch. 20, Event island table; R872). -/
def blockIsland (code : Nat) : Nat :=
  match code / 0x100 with
  | 0x01 | 0x03 | 0x04 | 0x0F | 0x10 => 0x00
  | 0x02 => 0x01
  | 0x08 => 0x06
  | 0x0D => 0x09
  | _ => 0x02

/-- The island a record names (R872): the one the event's details name, the port's NET island, or the block's. -/
def evIsland (e : Ev) (named : Option Island) (port : Option PortId) : Nat :=
  match named with
  | some i => i.id
  | none =>
    match e with
    | .dramUncorrectable => 0x03
    | .gatehouseReset | .gateUpdated | .gateFallback => 0x01
    | e =>
      match port with
      | some p => if evCode e / 0x100 = 0x06 then p.island.id else blockIsland (evCode e)
      | none => blockIsland (evCode e)

end Sys2Proof.Machine
end

