-- ==== Sys2Proof/Machine/Wire.lean ====
section
/-!
DEFINITION. Bytes on the wire: the checksums of R375 and R240, little- and big-endian numbers, the KV2 and KV3 header with
its payload and trailer (R376 to R378), the KV1 frame (R382), and the frames found in a byte stream.
-/

namespace Sys2Proof.Machine

open Sys2Proof

/-! ### Checksums -/

/-- One bit of a reflected CRC-32C register: polynomial 0x1EDC_6F41, reflected 0x82F6_3B78 (R375). -/
def crc32cBit (r : Nat) : Nat := if r % 2 = 1 then (r / 2) ^^^ 0x82F63B78 else r / 2

/-- One byte. -/
def crc32cByte (r : Nat) (b : Byte) : Nat :=
  crc32cBit (crc32cBit (crc32cBit (crc32cBit (crc32cBit (crc32cBit (crc32cBit (crc32cBit (r ^^^ b.toNat))))))))

/-- CRC-32C over bytes (R375). -/
def crc32c (bs : List Byte) : Nat := (bs.foldl crc32cByte 0xFFFFFFFF) ^^^ 0xFFFFFFFF

/-- One bit of a CRC-16/CCITT-FALSE register (R240). -/
def crc16Bit (r : Nat) : Nat := if r / 0x8000 % 2 = 1 then (2 * r % 0x10000) ^^^ 0x1021 else 2 * r % 0x10000

/-- One byte. -/
def crc16Byte (r : Nat) (b : Byte) : Nat :=
  crc16Bit (crc16Bit (crc16Bit (crc16Bit (crc16Bit (crc16Bit (crc16Bit (crc16Bit (r ^^^ (b.toNat * 256)))))))))

/-- CRC-16/CCITT-FALSE over characters (R240). -/
def crc16 (bs : List Byte) : Nat := bs.foldl crc16Byte 0xFFFF

/-! ### Numbers as bytes -/

/-- A number as `n` bytes, little-endian. -/
def leBytes : Nat → Nat → List Byte
  | 0, _ => []
  | n + 1, v => BitVec.ofNat 8 v :: leBytes n (v / 256)

/-- The number little-endian bytes stand for. -/
def leNat : List Byte → Nat
  | [] => 0
  | b :: bs => b.toNat + 256 * leNat bs

/-- A number as `n` bytes, big-endian. -/
def beBytes (n v : Nat) : List Byte := (leBytes n v).reverse

/-- The number big-endian bytes stand for. -/
def beNat (bs : List Byte) : Nat := leNat bs.reverse

/-- A text's bytes. -/
def asciiBytes (t : String) : List Byte := t.toList.map (fun c => BitVec.ofNat 8 c.toNat)

/-- Bytes `i` to `i + n - 1` of a list. -/
def slice (bs : List Byte) (i n : Nat) : List Byte := (bs.drop i).take n

/-- PAD8: a length rounded up to a multiple of 8 (R377). -/
def pad8 (n : Nat) : Nat := (n + 7) / 8 * 8

/-- Bytes padded with zeros to a multiple of 8 (R377). -/
def padBytes (bs : List Byte) : List Byte := bs ++ List.replicate (pad8 bs.length - bs.length) 0

/-- A word from its fields: each value at its lowest bit. -/
def packWord (fs : List (Nat × Nat)) : Word64 :=
  BitVec.ofNat 64 (fs.foldl (fun n f => n + f.2 * 2 ^ f.1) 0)

/-- A word as 8 little-endian bytes. -/
def wordBytes (w : Word64) : List Byte := leBytes 8 w.toNat

/-- The words a tag section holds. -/
def wordsOf : Nat → List Byte → List Word64
  | 0, _ => []
  | n + 1, bs => BitVec.ofNat 64 (leNat (bs.take 8)) :: wordsOf n (bs.drop 8)

/-! ### The KV2 and KV3 frame -/

/-- W0.SYNC. -/
def sync23 : Nat := 0xCA1ED3C5

/-- END_MARK (R378, R382). -/
def endMark : Nat := 0x0E0D5A5A

/-- The fields of a KV2 or KV3 header (ch. 09, KV2 and KV3 header). -/
structure Hdr where
  /-- GEN. -/
  gen : Nat
  /-- KIND. -/
  kind : Nat
  /-- OPCODE. -/
  opcode : Nat
  /-- CHANNEL. -/
  channel : Nat
  /-- REQUEST_ID. -/
  reqId : Nat
  /-- DATA_LEN. -/
  dataLen : Nat
  /-- STALL. -/
  stall : Nat
  /-- KEY_LEN. -/
  keyLen : Nat
  /-- TAG_COUNT. -/
  tagCount : Nat
  /-- W2[39] and W2[63:51] as one number, bit 39 lowest. -/
  reserved : Nat
  /-- GENERATION. -/
  generation : Nat
  /-- STATUS. -/
  status : Nat
  /-- FLAGS. -/
  flags : Nat
  /-- VERSION. -/
  version : Nat
  /-- INCARNATION. -/
  incarnation : Nat
  /-- ARG. -/
  arg : Nat
  /-- DETAIL. -/
  detail : Nat
deriving DecidableEq, Repr

/-- Every field lies within its width. -/
def Hdr.fits (h : Hdr) : Prop :=
  h.gen < 2 ^ 8 ∧ h.kind < 2 ^ 8 ∧ h.opcode < 2 ^ 8 ∧ h.channel < 2 ^ 8 ∧ h.reqId < 2 ^ 64 ∧ h.dataLen < 2 ^ 32 ∧
  h.stall < 2 ^ 7 ∧ h.keyLen < 2 ^ 8 ∧ h.tagCount < 2 ^ 3 ∧ h.reserved < 2 ^ 14 ∧ h.generation < 2 ^ 32 ∧
  h.status < 2 ^ 16 ∧ h.flags < 2 ^ 16 ∧ h.version < 2 ^ 64 ∧ h.incarnation < 2 ^ 64 ∧ h.arg < 2 ^ 64 ∧
  h.detail < 2 ^ 32

/-- W0 to W7 without HCRC, as bytes 0 to 59. -/
def hdrBytes60 (h : Hdr) : List Byte :=
  leBytes 4 sync23 ++ leBytes 1 h.gen ++ leBytes 1 h.kind ++ leBytes 1 h.opcode ++ leBytes 1 h.channel
  ++ leBytes 8 h.reqId
  ++ leBytes 4 h.dataLen ++ leBytes 1 (h.stall + 128 * (h.reserved % 2)) ++ leBytes 1 h.keyLen
  ++ leBytes 2 (h.tagCount + 8 * (h.reserved / 2))
  ++ leBytes 4 h.generation ++ leBytes 2 h.status ++ leBytes 2 h.flags
  ++ leBytes 8 h.version ++ leBytes 8 h.incarnation ++ leBytes 8 h.arg ++ leBytes 4 h.detail

/-- The 64 bytes of a header, HCRC over bytes 0 to 59 included. -/
def hdrBytes (h : Hdr) : List Byte := hdrBytes60 h ++ leBytes 4 (crc32c (hdrBytes60 h))

/-- The header at the front of bytes, when SYNC stands there and HCRC verifies. -/
def hdrOf (bs : List Byte) : Option Hdr :=
  if bs.length < 64 then none
  else if leNat (slice bs 0 4) ≠ sync23 then none
  else if leNat (slice bs 60 4) ≠ crc32c (bs.take 60) then none
  else
    let w22 := leNat (slice bs 22 2)
    some {
      gen := leNat (slice bs 4 1), kind := leNat (slice bs 5 1), opcode := leNat (slice bs 6 1)
      channel := leNat (slice bs 7 1), reqId := leNat (slice bs 8 8), dataLen := leNat (slice bs 16 4)
      stall := leNat (slice bs 20 1) % 128, keyLen := leNat (slice bs 21 1)
      tagCount := w22 % 8, reserved := leNat (slice bs 20 1) / 128 + 2 * (w22 / 8)
      generation := leNat (slice bs 24 4), status := leNat (slice bs 28 2), flags := leNat (slice bs 30 2)
      version := leNat (slice bs 32 8), incarnation := leNat (slice bs 40 8), arg := leNat (slice bs 48 8)
      detail := leNat (slice bs 56 4) }

/-- Payload length (R377). -/
def payloadLen (h : Hdr) : Nat := pad8 h.keyLen + 8 * h.tagCount + pad8 h.dataLen

/-- A stall number from a header field. -/
def stallOf (n : Nat) : StallNo := Fin.ofNat 128 n

/-- The frame at the front of bytes when its header verifies, DATA_LEN is in range and END_MARK stands where the header
implies (checks 1, 2, 4 and 5), with the length it takes. -/
def frameOf23 (bs : List Byte) : Option (Frame × Nat) :=
  match hdrOf bs with
  | none => none
  | some h =>
    let pl := payloadLen h
    let total := 64 + pl + 8
    if h.dataLen > 4194304 then none
    else if bs.length < total then none
    else if leNat (slice bs (64 + pl + 4) 4) ≠ endMark then none
    else
      let payload := slice bs 64 pl
      let key := payload.take h.keyLen
      let rest := payload.drop (pad8 h.keyLen)
      let dat := rest.drop (8 * h.tagCount)
      some ({
        gen := h.gen, kind := h.kind, opcode := h.opcode, channel := h.channel, reqId := h.reqId
        stall := stallOf h.stall, reserved := decide (h.reserved ≠ 0), keyLen := h.keyLen, tagCount := h.tagCount
        dataLen := h.dataLen, generation := h.generation, status := h.status, flags := h.flags, version := h.version
        incarnation := h.incarnation, arg := h.arg, detail := h.detail
        key := key, tags := wordsOf h.tagCount rest, data := dat.take h.dataLen
        pcrcOk := decide (leNat (slice bs (64 + pl) 4) = crc32c payload)
        paddingOk := ((payload.take (pad8 h.keyLen)).drop h.keyLen ++ dat.drop h.dataLen).all (fun b => b == 0) },
        total)

/-! ### The KV1 frame -/

/-- SYNC of a KV1 header. -/
def sync1 : Nat := 0x4B560001

/-- Opcodes whose KV1 payload begins with the 32-byte key: PUT, GET, HEAD, DELETE (R382). -/
def kv1HasKey (kind opcode : Nat) : Bool := decide (kind = 1) && decide (1 ≤ opcode) && decide (opcode ≤ 4)

/-- The KV1 frame at the front of bytes (R382), with the length it takes. -/
def frameOf1 (bs : List Byte) : Option (Frame × Nat) :=
  if bs.length < 32 then none
  else if beNat (slice bs 0 4) ≠ sync1 then none
  else if beNat (slice bs 28 4) ≠ crc32c (bs.take 28) then none
  else
    let kind := beNat (slice bs 4 1)
    let opcode := beNat (slice bs 5 1)
    let dataLen := beNat (slice bs 12 4)
    let keyLen := if kv1HasKey kind opcode then 32 else 0
    let pl := keyLen + dataLen
    let total := 32 + pl + 8
    if dataLen > 4194304 then none
    else if bs.length < total then none
    else if beNat (slice bs (32 + pl + 4) 4) ≠ endMark then none
    else
      let payload := slice bs 32 pl
      some ({
        gen := 1, kind := kind, opcode := opcode, reqId := beNat (slice bs 8 4), keyLen := keyLen
        dataLen := dataLen, status := beNat (slice bs 6 2), flags := beNat (slice bs 24 2)
        version := beNat (slice bs 16 8), detail := beNat (slice bs 26 2)
        key := payload.take keyLen, data := payload.drop keyLen
        pcrcOk := decide (beNat (slice bs (32 + pl) 4) = crc32c payload) },
        total)

/-- The frame at the front of bytes in a generation. -/
def frameAt (g : Gen) (bs : List Byte) : Option (Frame × Nat) :=
  match g with
  | .kv1 => frameOf1 bs
  | _ => frameOf23 bs

/-- The generation's sync value begins the bytes. -/
def syncAt (g : Gen) (bs : List Byte) : Bool :=
  match g with
  | .kv1 => decide (bs.length ≥ 4) && decide (beNat (bs.take 4) = sync1)
  | _ => decide (bs.length ≥ 4) && decide (leNat (bs.take 4) = sync23)

/-- A header begins the bytes whose HCRC verifies: generation fields STALL and GENERATION, and the frame length it
implies. -/
def headAt (g : Gen) (bs : List Byte) : Option (Nat × Nat × Nat) :=
  match g with
  | .kv1 =>
    if bs.length < 32 then none
    else if beNat (slice bs 0 4) ≠ sync1 then none
    else if beNat (slice bs 28 4) ≠ crc32c (bs.take 28) then none
    else
      let kl := if kv1HasKey (beNat (slice bs 4 1)) (beNat (slice bs 5 1)) then 32 else 0
      some (0, 0, 32 + kl + beNat (slice bs 12 4) + 8)
  | _ => (hdrOf bs).map (fun h => (h.stall, h.generation, 64 + payloadLen h + 8))

/-- Opcodes in code order from 0x01 (ch. 09, Opcode encoding). -/
def opCodes : List OpCode :=
  [.put, .get, .head, .delete, .list, .cas, .mputBegin, .mputPart, .mputCommit, .mputAbort, .txn, .tag, .find, .fetch,
    .flush, .discard, .shred, .stat, .heartbeat, .mbxSend, .mbxRecv]

/-- The operation with a code. -/
def opOfCode (n : Nat) : Option OpCode := if n = 0 then none else opCodes[n - 1]?

/-- The code of an operation. -/
def codeOfOp (o : OpCode) : Nat := opCodes.findIdx (fun x => decide (x = o)) + 1

/-- The operations a generation carries over TCP (ch. 09, Opcode encoding; R379). -/
def genCarries (g : Gen) (o : OpCode) : Bool :=
  match g with
  | .kv1 => match o with | .put | .get | .head | .delete | .flush | .stat => true | _ => false
  | .kv2 => match o with | .txn | .mbxSend | .mbxRecv => false | _ => true
  | .kv3 => true

/-- Status numbers (R489). -/
def statusCode : Status → Nat
  | .ok => 0 | .notReady => 1 | .notFound => 2 | .exists_ => 3 | .versionMismatch => 4 | .versionEnd => 5
  | .tooLarge => 6 | .quota => 7 | .tryLater => 8 | .staleGeneration => 9 | .duplicateUnknown => 10
  | .noSuchTicket => 11 | .unavailable => 12 | .denied => 13 | .badFrame => 14 | .partial_ => 15
  | .lockTimeout => 16 | .frozen => 17 | .invalid => 18

/-- The payload of a sent frame: its tags, and its data padded in KV2 and KV3 (R377, R382). -/
def respPayload (g : Gen) (r : Resp) : List Byte :=
  match g with
  | .kv1 => r.data
  | _ => r.tags.flatMap wordBytes ++ padBytes r.data

/-- FLAGS of a sent frame: THROTTLED and PERSISTED, in the place the generation gives them. -/
def respFlags (r : Resp) : Nat := (if r.throttled then 4 else 0) + (if r.persisted then 8 else 0)

/-- The bytes of a response or event frame: header, payload, trailer (R375 to R378, R382). -/
def respBytes (g : Gen) (r : Resp) : List Byte :=
  let p := respPayload g r
  match g with
  | .kv1 =>
    let h := beBytes 4 sync1 ++ beBytes 1 r.kind ++ beBytes 1 r.opcode ++ beBytes 2 (statusCode r.status) ++ beBytes 4 r.reqId
      ++ beBytes 4 r.data.length ++ beBytes 8 r.version ++ beBytes 2 (respFlags r) ++ beBytes 2 r.reason
    h ++ beBytes 4 (crc32c h) ++ p ++ beBytes 4 (crc32c p) ++ beBytes 4 endMark
  | _ =>
    hdrBytes { gen := (match g with | .kv3 => 3 | _ => 2), kind := r.kind, opcode := r.opcode, channel := r.channel, reqId := r.reqId
               dataLen := r.data.length, stall := r.stall.val, keyLen := 0, tagCount := r.tags.length, reserved := 0
               generation := r.generation, status := statusCode r.status, flags := respFlags r, version := r.version
               incarnation := r.incarnation, arg := r.arg, detail := r.reason + 65536 * r.detailHi }
      ++ p ++ leBytes 4 (crc32c p) ++ leBytes 4 endMark

/-- Length of a response or event frame on the wire (R377, R382). -/
def respLen (g : Gen) (r : Resp) : Nat :=
  match g with
  | .kv1 => 32 + r.data.length + 8
  | _ => 64 + 8 * r.tags.length + pad8 r.data.length + 8

end Sys2Proof.Machine
end

