-- ==== Sys2Proof/Machine/Text.lean ====
section
/-!
DEFINITION. The characters of the console (ch. 06, 20): how numbers, names, values, answers and event records are printed in typed
and in machine mode. What the spec's rules and examples do not give of a form is the model's choice (log 51).
-/

namespace Sys2Proof.Machine

open Sys2Proof

/-! ### Numbers (R9 to R12) -/

/-- A hexadecimal digit, upper case. -/
def hexDigit (n : Nat) : Char := if n % 16 < 10 then Char.ofNat (48 + n % 16) else Char.ofNat (55 + n % 16)

/-- The lowest `k` digits of a number in base `b`, the highest first. -/
def digitsOf (b : Nat) : Nat → Nat → List Char
  | 0, _ => []
  | k + 1, n => digitsOf b k (n / b) ++ [hexDigit (n % b)]

/-- Digits in groups of four, counted from the right, when there are five or more (R9). -/
def groupFour (cs : List Char) : List Char :=
  if cs.length < 5 then cs
  else (cs.zipIdx.map (fun c => if 0 < c.2 ∧ (cs.length - c.2) % 4 = 0 then ['_', c.1] else [c.1])).flatten

/-- A hexadecimal value of a field of `w` bits (R9, R10). -/
def hexText (w n : Nat) : String := "0x" ++ String.ofList (groupFour (digitsOf 16 ((w + 3) / 4) n))

/-- A binary value of a field of `w` bits (R10). -/
def binText (w n : Nat) : String := "0b" ++ String.ofList (digitsOf 2 w n)

/-- A decimal number of a fixed number of digits. -/
def decN (k n : Nat) : String := String.ofList (digitsOf 10 k n)

/-- Bytes as hexadecimal digits, lower case as the worked example of ch. 06 shows a fingerprint. -/
def bytesText (bs : List Byte) : String :=
  String.ofList (bs.flatMap (fun b => (digitsOf 16 2 b.toNat).map (fun c => if c.toNat < 58 then c else Char.ofNat (c.toNat + 32))))

/-- The date of a day counted from 1970-01-01, in the Gregorian calendar. -/
def dateOf (day : Nat) : Nat × Nat × Nat :=
  let z := day + 719468
  let e := z % 146097
  let y := (e - e / 1460 + e / 36524 - e / 146096) / 365
  let d := e - (365 * y + y / 4 - y / 100)
  let m := (5 * d + 2) / 153
  let month := if m < 10 then m + 3 else m - 9
  (y + z / 146097 * 400 + (if month ≤ 2 then 1 else 0), month, d - (153 * m + 2) / 5 + 1)

/-- Wall microseconds in ISO 8601 UTC to the millisecond, `-` for 0: wall time was never set (R16, R255). -/
def isoText (us : Nat) : String :=
  if us = 0 then "-"
  else
    let ms := us / 1000
    let t := ms / 1000
    let d := dateOf (t / 86400)
    decN 4 d.1 ++ "-" ++ decN 2 d.2.1 ++ "-" ++ decN 2 d.2.2 ++ "T" ++ decN 2 (t % 86400 / 3600) ++ ":" ++ decN 2 (t % 3600 / 60)
      ++ ":" ++ decN 2 (t % 60) ++ "." ++ decN 3 (ms % 1000) ++ "Z"

/-- An address: an IPv4 address in dotted form, an IPv6 address as eight groups (log 51). -/
def addrText (a : IpAddr) : String :=
  let n := a.toNat
  if n / 2 ^ 32 = 0xFFFF then
    ".".intercalate ((List.range 4).map (fun i => toString (n / 2 ^ (8 * (3 - i)) % 256)))
  else ":".intercalate ((List.range 8).map (fun i => bytesText (beBytes 2 (n / 2 ^ (16 * (7 - i)) % 65536))))

/-! ### Names -/

/-- The name of an event (ch. 20, Event codes table). -/
def evName : Ev → String
  | .presenceOpen => "PRESENCE_OPEN" | .presenceClosed => "PRESENCE_CLOSED" | .presenceFault => "PRESENCE_FAULT"
  | .lidOpen => "LID_OPEN" | .lidClosed => "LID_CLOSED" | .lineFault => "LINE_FAULT" | .lineRecovered => "LINE_RECOVERED"
  | .feedLost => "FEED_LOST" | .feedRestored => "FEED_RESTORED" | .feedChangeover => "FEED_CHANGEOVER"
  | .levelChange => "LEVEL_CHANGE" | .holdupWeak => "HOLDUP_WEAK" | .holdupRestored => "HOLDUP_RESTORED"
  | .cellFault => "CELL_FAULT" | .coldGate => "COLD_GATE" | .coldOpen => "COLD_OPEN"
  | .thermalThrottle => "THERMAL_THROTTLE" | .thermalHalt => "THERMAL_HALT" | .powerFail => "POWER_FAIL"
  | .islandFault => "ISLAND_FAULT" | .handshakeTimeout => "HANDSHAKE_TIMEOUT" | .islandDead => "ISLAND_DEAD"
  | .essentialFault => "ESSENTIAL_FAULT" | .gatehouseReset => "GATEHOUSE_RESET"
  | .dramUncorrectable => "DRAM_UNCORRECTABLE" | .fuseMirrorFixed => "FUSE_MIRROR_FIXED" | .stepFail => "STEP_FAIL"
  | .stepAlternative => "STEP_ALTERNATIVE" | .startSlotChange => "START_SLOT_CHANGE" | .fullscanBegin => "FULLSCAN_BEGIN"
  | .fullscanDone => "FULLSCAN_DONE" | .startHotHold => "START_HOT_HOLD" | .startReady => "START_READY"
  | .ledgerStateRebuilt => "LEDGER_STATE_REBUILT" | .safeMode => "SAFE_MODE" | .startCleared => "START_CLEARED"
  | .arcadeEmpty => "ARCADE_EMPTY" | .mgmtAuthFail => "MGMT_AUTH_FAIL" | .mgmtSessionClosed => "MGMT_SESSION_CLOSED"
  | .wardenEnrolled => "WARDEN_ENROLLED" | .wardenRemoved => "WARDEN_REMOVED" | .linkUp => "LINK_UP"
  | .linkDown => "LINK_DOWN" | .linkDownshift => "LINK_DOWNSHIFT" | .bondFailover => "BOND_FAILOVER"
  | .lagNoPartner => "LAG_NO_PARTNER" | .lagSpeedMismatch => "LAG_SPEED_MISMATCH" | .counterHalf => "COUNTER_HALF"
  | .counterSaturated => "COUNTER_SATURATED" | .foldError => "FOLD_ERROR" | .statsCleared => "STATS_CLEARED"
  | .pauseStorm => "PAUSE_STORM" | .dormantEnter => "DORMANT_ENTER" | .wake => "WAKE" | .addrDuplicate => "ADDR_DUPLICATE"
  | .addrLost => "ADDR_LOST" | .addrLimit => "ADDR_LIMIT" | .addrRefused => "ADDR_REFUSED" | .timeSource => "TIME_SOURCE"
  | .clockStep => "CLOCK_STEP" | .timeStepRefused => "TIME_STEP_REFUSED" | .ledgerGap => "LEDGER_GAP"
  | .kvAuthFail => "KV_AUTH_FAIL" | .kvAuthLockout => "KV_AUTH_LOCKOUT" | .kvResync => "KV_RESYNC"
  | .kvResyncFail => "KV_RESYNC_FAIL" | .kv1Refused => "KV1_REFUSED" | .kv1Enabled => "KV1_ENABLED"
  | .kv1Disabled => "KV1_DISABLED" | .stallCreated => "STALL_CREATED" | .stallReset => "STALL_RESET"
  | .stallRebound => "STALL_REBOUND" | .stallRemoved => "STALL_REMOVED" | .stallKeyExported => "STALL_KEY_EXPORTED"
  | .stallCredChanged => "STALL_CRED_CHANGED" | .mbxDoorbell => "MBX_DOORBELL" | .stallFreezing => "STALL_FREEZING"
  | .stallFrozen => "STALL_FROZEN" | .stallThawed => "STALL_THAWED" | .relocateDone => "RELOCATE_DONE"
  | .relocateFailed => "RELOCATE_FAILED" | .holdPlaced => "HOLD_PLACED" | .holdReleased => "HOLD_RELEASED"
  | .meterSaturated => "METER_SATURATED" | .meterPeriodClosed => "METER_PERIOD_CLOSED" | .mapEntryBad => "MAP_ENTRY_BAD"
  | .logResync => "LOG_RESYNC" | .shelterReplayed => "SHELTER_REPLAYED" | .shelterMoved => "SHELTER_MOVED"
  | .pageRebuilt => "PAGE_REBUILT" | .pageLost => "PAGE_LOST" | .dieLost => "DIE_LOST"
  | .rebuildStalled => "REBUILD_STALLED" | .rebuildDone => "REBUILD_DONE" | .gcState => "GC_STATE"
  | .wearLevelMove => "WEAR_LEVEL_MOVE" | .blockRefreshed => "BLOCK_REFRESHED" | .patrolRelocate => "PATROL_RELOCATE"
  | .patrolLate => "PATROL_LATE" | .blockRetired => "BLOCK_RETIRED" | .sparesExhausted => "SPARES_EXHAUSTED"
  | .halfEraseFound => "HALF_ERASE_FOUND" | .eraseRingInvalid => "ERASE_RING_INVALID" | .shredResumed => "SHRED_RESUMED"
  | .lifeThreshold => "LIFE_THRESHOLD" | .softFalseHit => "SOFT_FALSE_HIT" | .arcEntryLost => "ARC_ENTRY_LOST"
  | .arcScrubFix => "ARC_SCRUB_FIX" | .arcGrantChanged => "ARC_GRANT_CHANGED" | .arcRebuildDone => "ARC_REBUILD_DONE"
  | .rowJoined => "ROW_JOINED" | .rowLeader => "ROW_LEADER" | .rowMemberAdded => "ROW_MEMBER_ADDED"
  | .rowMemberRemoved => "ROW_MEMBER_REMOVED" | .rowFull => "ROW_FULL" | .rowSerialConflict => "ROW_SERIAL_CONFLICT"
  | .mirrorLagging => "MIRROR_LAGGING" | .mirrorCurrent => "MIRROR_CURRENT" | .mirrorRefused => "MIRROR_REFUSED"
  | .mirrorRestoreDone => "MIRROR_RESTORE_DONE" | .parcelBegun => "PARCEL_BEGUN" | .parcelComplete => "PARCEL_COMPLETE"
  | .parcelExpired => "PARCEL_EXPIRED" | .svnEnd => "SVN_END" | .fwStaged => "FW_STAGED"
  | .fwTrialFailed => "FW_TRIAL_FAILED" | .fwFallback => "FW_FALLBACK" | .fwConfirmed => "FW_CONFIRMED"
  | .fwImageBad => "FW_IMAGE_BAD" | .fwRecovery => "FW_RECOVERY" | .svnBurned => "SVN_BURNED"
  | .fuseBurnFail => "FUSE_BURN_FAIL" | .gateUpdated => "GATE_UPDATED" | .gateFallback => "GATE_FALLBACK"
  | .fwRelayStopped => "FW_RELAY_STOPPED" | .lcTransitionBegin => "LC_TRANSITION_BEGIN" | .lcChanged => "LC_CHANGED"
  | .lcTransitionAbandoned => "LC_TRANSITION_ABANDONED" | .lcFuseFail => "LC_FUSE_FAIL"
  | .selftestBegin => "SELFTEST_BEGIN" | .selftestEnd => "SELFTEST_END" | .islandUnusable => "ISLAND_UNUSABLE"
  | .islandRestored => "ISLAND_RESTORED" | .islandRevived => "ISLAND_REVIVED"

/-- The name an `err` answer carries (R248). -/
def errName : ErrName → String
  | .lineTooLong => "LINE_TOO_LONG" | .badChar => "BAD_CHAR" | .noTag => "NO_TAG" | .crc => "CRC"
  | .crcMissing => "CRC_MISSING" | .unknownCommand => "UNKNOWN_COMMAND" | .badArg => "BAD_ARG" | .dupArg => "DUP_ARG"
  | .missingArg => "MISSING_ARG" | .badValue => "BAD_VALUE" | .range => "RANGE" | .readOnly => "READ_ONLY"
  | .mixedAccess => "MIXED_ACCESS" | .noSuchAttr => "NO_SUCH_ATTR" | .islandAbsent => "ISLAND_ABSENT"
  | .noSuchIsland => "NO_SUCH_ISLAND" | .noShadow => "NO_SHADOW" | .mode => "MODE" | .safeMode => "SAFE_MODE"
  | .halting => "HALTING" | .slotUsed => "SLOT_USED" | .fpEnrolled => "FP_ENROLLED" | .noSuchWarden => "NO_SUCH_WARDEN"
  | .noWake => "NO_WAKE" | .noCapture => "NO_CAPTURE" | .sourceActive => "SOURCE_ACTIVE" | .listFull => "LIST_FULL"
  | .stallState => "STALL_STATE" | .relocating => "RELOCATING" | .held => "HELD" | .stallFrozen => "STALL_FROZEN"
  | .relocateRefused => "RELOCATE_REFUSED" | .blobInvalid => "BLOB_INVALID" | .blobMismatch => "BLOB_MISMATCH"
  | .noParcel => "NO_PARCEL" | .notComplete => "NOT_COMPLETE" | .parcelBusy => "PARCEL_BUSY" | .pieceHash => "PIECE_HASH"
  | .pieceTimeout => "PIECE_TIMEOUT" | .gateFailed => "GATE_FAILED" | .badParcel => "BAD_PARCEL" | .svnEnd => "SVN_END"
  | .incompatible => "INCOMPATIBLE" | .versionDown => "VERSION_DOWN" | .svnLow => "SVN_LOW" | .lifecycle => "LIFECYCLE"
  | .serial => "SERIAL" | .jsvc => "JSVC" | .essential => "ESSENTIAL" | .inService => "IN_SERVICE"
  | .vidDuplicate => "VID_DUPLICATE" | .addrInvalid => "ADDR_INVALID" | .addrOverlap => "ADDR_OVERLAP"
  | .groupsFull => "GROUPS_FULL" | .badName => "BAD_NAME" | .maskEmpty => "MASK_EMPTY" | .addrDuplicate => "ADDR_DUPLICATE"
  | .holdAboveBytes => "HOLD_ABOVE_BYTES" | .retDefaultAboveMax => "RET_DEFAULT_ABOVE_MAX" | .burstSmall => "BURST_SMALL"
  | .widthNotEmpty => "WIDTH_NOT_EMPTY" | .quarterNotEmpty => "QUARTER_NOT_EMPTY" | .widthMixed => "WIDTH_MIXED"
  | .fixedBank => "FIXED_BANK" | .noRowKey => "NO_ROW_KEY" | .allPass => "ALL_PASS" | .returnsLeft => "RETURNS_LEFT"
  | .svnLeft => "SVN_LEFT"

/-- The name of a port counter (ch. 07, Port counters table). -/
def ctrName : Ctr → String
  | .rxOctets => "RX_OCTETS" | .rxFrames => "RX_FRAMES" | .rxUnicast => "RX_UNICAST" | .rxMulticast => "RX_MULTICAST"
  | .rxBroadcast => "RX_BROADCAST" | .rxVlanTagged => "RX_VLAN_TAGGED" | .rxPause => "RX_PAUSE" | .rxPfc => "RX_PFC"
  | .rxSize64 => "RX_SIZE_64" | .rxSize65_127 => "RX_SIZE_65_127" | .rxSize128_255 => "RX_SIZE_128_255"
  | .rxSize256_511 => "RX_SIZE_256_511" | .rxSize512_1023 => "RX_SIZE_512_1023" | .rxSize1024_1518 => "RX_SIZE_1024_1518"
  | .rxSize1519_2047 => "RX_SIZE_1519_2047" | .rxSize2048_4095 => "RX_SIZE_2048_4095"
  | .rxSize4096_9216 => "RX_SIZE_4096_9216" | .rxFcsErr => "RX_FCS_ERR" | .rxRunt => "RX_RUNT"
  | .rxFragment => "RX_FRAGMENT" | .rxSymbolErr => "RX_SYMBOL_ERR" | .rxFilterMiss => "RX_FILTER_MISS"
  | .rxStandby => "RX_STANDBY" | .rxVlanUnknown => "RX_VLAN_UNKNOWN" | .rxTypeDrop => "RX_TYPE_DROP"
  | .rxBufDrop => "RX_BUF_DROP" | .txOctets => "TX_OCTETS" | .txFrames => "TX_FRAMES" | .txUnicast => "TX_UNICAST"
  | .txMulticast => "TX_MULTICAST" | .txBroadcast => "TX_BROADCAST" | .txVlanTagged => "TX_VLAN_TAGGED"
  | .txSize64 => "TX_SIZE_64" | .txSize65_127 => "TX_SIZE_65_127" | .txSize128_255 => "TX_SIZE_128_255"
  | .txSize256_511 => "TX_SIZE_256_511" | .txSize512_1023 => "TX_SIZE_512_1023" | .txSize1024_1518 => "TX_SIZE_1024_1518"
  | .txSize1519_2047 => "TX_SIZE_1519_2047" | .txSize2048_4095 => "TX_SIZE_2048_4095"
  | .txSize4096_9216 => "TX_SIZE_4096_9216" | .txQ0 => "TX_Q0" | .txQ1 => "TX_Q1" | .txQ2 => "TX_Q2" | .txQ3 => "TX_Q3"
  | .txQ4 => "TX_Q4" | .txQ5 => "TX_Q5" | .txQ6 => "TX_Q6" | .txQ7 => "TX_Q7" | .txPausedQuanta => "TX_PAUSED_QUANTA"
  | .txDiscard => "TX_DISCARD"

/-- The name of a counter of PROTO.STAT (R422). -/
def protoName : ProtoCtr → String
  | .badFrame => "BAD_FRAME" | .resync => "RESYNC" | .resyncBytes => "RESYNC_BYTES" | .resyncFail => "RESYNC_FAIL"
  | .timeoutClose => "TIMEOUT_CLOSE" | .authFail => "AUTH_FAIL" | .kv1Refused => "KV1_REFUSED" | .hbDropped => "HB_DROPPED"
  | .oversizeP0 => "OVERSIZE_P0" | .oversizeP1 => "OVERSIZE_P1"

/-- The name of a health counter (ch. 14, Health counters table). -/
def healthName : HealthCtr → String
  | .pagesRebuilt => "PAGES_REBUILT" | .pagesLost => "PAGES_LOST" | .refreshes => "REFRESHES"
  | .halfErased => "HALF_ERASED" | .shredBands => "SHRED_BANDS" | .feedLosses => "FEED_LOSSES"
  | .changeovers => "CHANGEOVERS" | .powerFails => "POWER_FAILS" | .levelChanges => "LEVEL_CHANGES"
  | .thermalHalts => "THERMAL_HALTS" | .holdupWeak => "HOLDUP_WEAK" | .lidOpens => "LID_OPENS"
  | .presenceFaults => "PRESENCE_FAULTS"

/-- The name of a counter of ARC.STAT (ch. 20, Attribute map). -/
def arcCtrName : ArcCtr → String
  | .searches => "SEARCHES" | .steps => "STEPS" | .falseHits => "FALSE_HITS" | .scrubFixes => "SCRUB_FIXES"
  | .entriesLost => "ENTRIES_LOST" | .moves => "MOVES" | .pairedWrites => "PAIRED_WRITES"

/-- The name of a refusal for want of permission (R247). -/
def denialName : Denial → String
  | .role => "ROLE" | .lidLock => "LID_LOCK" | .presence => "PRESENCE"

/-- The name of an island (ch. 04, Islands table). -/
def islandName : Island → String
  | .svc => "SVC" | .pwr => "PWR" | .core => "CORE" | .dram => "DRAM" | .net0 => "NET0" | .net1 => "NET1" | .proto => "PROTO"
  | .sched => "SCHED" | .index => "INDEX" | .arc => "ARC" | .parity => "PARITY" | .media c => "MEDIA" ++ toString c.val

/-- The name of the island with an identifier. -/
def islandText (n : Nat) : String := match Island.ofId n with | some i => islandName i | none => hexText 8 n

/-- The name of a session (ch. 06, Fimor channels table). -/
def sessName : SessId → String
  | .jcon => "jcon" | .usb => "usb" | .mgmt k => "mgmt" ++ toString k.val

/-- The NET island of a port in names. -/
def netName (p : PortId) : String := match p with | .p0 => "NET0" | .p1 => "NET1"

/-- The name of an attribute (ch. 20, Attribute map). -/
def attrName : Attr → String
  | .isl i => "SVC.ISL." ++ islandName i
  | .bayStatus => "SVC.BAY.STATUS" | .bayCfg => "SVC.BAY.CFG" | .startStatus => "SVC.START.STATUS" | .startAlt => "SVC.START.ALT"
  | .fwStatus => "SVC.FW.STATUS" | .fwVersionA => "SVC.FW.VERSION_A" | .fwVersionB => "SVC.FW.VERSION_B"
  | .gateVersion => "SVC.FW.GATE_VERSION" | .parcelId => "SVC.FW.PARCEL_ID" | .lcStatus => "SVC.LC.STATUS"
  | .testStatus => "SVC.TEST.STATUS" | .testUnusable => "SVC.TEST.UNUSABLE" | .feedStatus => "PWR.FEED.STATUS"
  | .policy => "PWR.POLICY" | .holdupStatus => "PWR.HOLDUP.STATUS" | .holdupLast => "PWR.HOLDUP.LAST"
  | .thermalStatus => "PWR.THERMAL.STATUS" | .eccCorrected => "DRAM.ECC.CORRECTED" | .kvCfg => "PROTO.KV.CFG"
  | .kv1SrcHi k => "PROTO.KV1.SRC" ++ toString k.val ++ ".HI" | .kv1SrcLo k => "PROTO.KV1.SRC" ++ toString k.val ++ ".LO"
  | .kv1SrcCtrl k => "PROTO.KV1.SRC" ++ toString k.val ++ ".CTRL" | .protoStat c => "PROTO.STAT." ++ protoName c
  | .schedOps s => "SCHED.STALL" ++ toString s.val ++ ".OPS" | .schedRd s => "SCHED.STALL" ++ toString s.val ++ ".RD"
  | .schedWr s => "SCHED.STALL" ++ toString s.val ++ ".WR" | .schedBf s => "SCHED.STALL" ++ toString s.val ++ ".BF"
  | .schedWeight s => "SCHED.STALL" ++ toString s.val ++ ".WEIGHT"
  | .arcBankCfg b => "ARC.BANK" ++ toString b.val ++ ".CFG" | .arcBankStatus b => "ARC.BANK" ++ toString b.val ++ ".STATUS"
  | .arcStatus => "ARC.STATUS" | .arcStat c => "ARC.STAT." ++ arcCtrName c
  | .cfgSequence => "CORE.CFG.SEQUENCE" | .bondCfg => "CORE.BOND.CFG" | .bondStatus => "CORE.BOND.STATUS" | .vlanCfg => "CORE.VLAN.CFG"
  | .vlanKCfg k => "CORE.VLAN" ++ toString k.val ++ ".CFG" | .vlanStallsLo k => "CORE.VLAN" ++ toString k.val ++ ".STALLS_LO"
  | .vlanStallsHi k => "CORE.VLAN" ++ toString k.val ++ ".STALLS_HI"
  | .ifCfg k => "CORE.IF" ++ toString k.val ++ ".CFG" | .ifV4 k => "CORE.IF" ++ toString k.val ++ ".V4"
  | .ifV4gw k => "CORE.IF" ++ toString k.val ++ ".V4GW" | .ifV6Hi k => "CORE.IF" ++ toString k.val ++ ".V6.HI"
  | .ifV6Lo k => "CORE.IF" ++ toString k.val ++ ".V6.LO" | .ifV6gwHi k => "CORE.IF" ++ toString k.val ++ ".V6GW.HI"
  | .ifV6gwLo k => "CORE.IF" ++ toString k.val ++ ".V6GW.LO"
  | .routeCfg => "CORE.ROUTE.CFG" | .lldpName k => "CORE.LLDP.NAME" ++ toString k.val | .timeCfg => "CORE.TIME.CFG"
  | .ntpHi k => "CORE.TIME.NTP" ++ toString k.val ++ ".HI" | .ntpLo k => "CORE.TIME.NTP" ++ toString k.val ++ ".LO"
  | .timeStatus => "CORE.TIME.STATUS" | .timeWall => "CORE.TIME.WALL" | .timeLedger => "CORE.TIME.LEDGER"
  | .mediaStatus => "CORE.MEDIA.STATUS" | .mediaLostLo => "CORE.MEDIA.LOST.LO" | .mediaLostHi => "CORE.MEDIA.LOST.HI"
  | .healthWear => "CORE.HEALTH.WEAR" | .healthBlocks => "CORE.HEALTH.BLOCKS" | .healthTemp m => "CORE.HEALTH.TEMP" ++ toString m.val
  | .healthHoldup m => "CORE.HEALTH.HOLDUP" ++ toString m.val | .healthCtr c => "CORE.HEALTH." ++ healthName c
  | .gcStatus => "CORE.GC.STATUS" | .retCfg => "CORE.RET.CFG" | .rowCfg => "CORE.ROW.CFG" | .rowStatus => "CORE.ROW.STATUS"
  | .rowEpoch => "CORE.ROW.EPOCH" | .rowLeader => "CORE.ROW.LEADER" | .rowNeighbour => "CORE.ROW.NEIGHBOUR"
  | .mirrorMark => "CORE.ROW.MIRROR.MARK" | .mirrorHeld => "CORE.ROW.MIRROR.HELD" | .rowBeaconBad => "CORE.ROW.STAT.BEACON_BAD"
  | .rowMsgBad => "CORE.ROW.STAT.MSG_BAD" | .fwCfg => "CORE.FW.CFG" | .resLive => "CORE.RES.LIVE" | .resLiveMax => "CORE.RES.LIVE_MAX"
  | .stallState s => "CORE.STALL" ++ toString s.val ++ ".STATE" | .stallHost s => "CORE.STALL" ++ toString s.val ++ ".HOST"
  | .stallLateDiscard s => "CORE.STALL" ++ toString s.val ++ ".LATE_DISCARD"
  | .stallAborted s => "CORE.STALL" ++ toString s.val ++ ".ABORTED"
  | .quotaBytes s => "CORE.STALL" ++ toString s.val ++ ".QUOTA_BYTES" | .quotaHold s => "CORE.STALL" ++ toString s.val ++ ".QUOTA_HOLD"
  | .quotaObjects s => "CORE.STALL" ++ toString s.val ++ ".QUOTA_OBJECTS"
  | .quotaTags s => "CORE.STALL" ++ toString s.val ++ ".QUOTA_TAGS" | .retention s => "CORE.STALL" ++ toString s.val ++ ".RETENTION"
  | .meterCfg s => "CORE.STALL" ++ toString s.val ++ ".METER.CFG" | .meterStored s => "CORE.STALL" ++ toString s.val ++ ".METER.STORED"
  | .meterWritten s => "CORE.STALL" ++ toString s.val ++ ".METER.WRITTEN" | .meterRead s => "CORE.STALL" ++ toString s.val ++ ".METER.READ"
  | .meterOps s => "CORE.STALL" ++ toString s.val ++ ".METER.OPS" | .meterShredded s => "CORE.STALL" ++ toString s.val ++ ".METER.SHREDDED"
  | .rowten s => "CORE.STALL" ++ toString s.val ++ ".ROWTEN"
  | .phyCfg p => netName p ++ ".PHY.CFG" | .phyStatus p => netName p ++ ".PHY.STATUS" | .macAddr p => netName p ++ ".MAC.ADDR"
  | .macCfg p => netName p ++ ".MAC.CFG" | .macDiag p => netName p ++ ".MAC.DIAG"
  | .macFilter p f => netName p ++ ".MAC.FILTER" ++ toString f.val | .hwstat p c => netName p ++ ".HWSTAT." ++ ctrName c
  | .hwFold p => netName p ++ ".HWSTAT.FOLD" | .stat p c => netName p ++ ".STAT." ++ ctrName c | .wakeCfg p => netName p ++ ".WAKE.CFG"
  | .wakeCtrl p k => netName p ++ ".WAKEP" ++ toString k.val ++ ".CTRL" | .wakeMask p k => netName p ++ ".WAKEP" ++ toString k.val ++ ".MASK"
  | .wakeData p j k => netName p ++ ".WAKEP" ++ toString k.val ++ ".DATA" ++ toString j.val

/-- The name of a commit group, its instance in decimal (ch. 20, Commit groups table). -/
def groupName : Group → String
  | .pwrPolicy => "PWR_POLICY" | .bond => "BOND" | .vlan k => "VLAN" ++ toString k.val | .ifc k => "IF" ++ toString k.val
  | .lldpName => "LLDP_NAME" | .time => "TIME" | .wakep p k => netName p ++ "_WAKEP" ++ toString k.val
  | .kv1Src k => "KV1_SRC" ++ toString k.val | .quota s => "STALL" ++ toString s.val ++ "_QUOTA"
  | .ret s => "STALL" ++ toString s.val ++ "_RET" | .sched s => "STALL" ++ toString s.val ++ "_SCHED"
  | .arcBank b => "ARC_BANK" ++ toString b.val | .row => "ROW"

/-! ### Fields in code form (R10, R253) -/

/-- How a field with an encoding table is shown: its codes are hexadecimal (true) or binary (false); none for a field without
such a table. -/
def fieldCode (a : Attr) (name : String) : Option Bool :=
  match a, name with
  | .isl _, "STATE" => some true | .isl _, "CAUSE" => some true
  | .bayCfg, "JCON_BAUD" => some true
  | .startStatus, "STEP" => some true | .startStatus, "SAFE_CAUSE" => some true
  | .fwStatus, "SLOT_A" => some true | .fwStatus, "SLOT_B" => some true | .fwStatus, "PARCEL" => some true
  | .lcStatus, "STATE" => some true | .lcStatus, "INTENT" => some true
  | .stallState _, "STATE" => some true
  | .feedStatus, "LEVEL" => some false | .policy, "LEVEL_MAX" => some false | .thermalStatus, "TSTATE" => some false
  | .phyStatus _, "SPEED" => some false | .ifCfg _, "V4_MODE" => some false | .ifCfg _, "V6_MODE" => some false
  | .timeStatus, "WSTATE" => some false | .meterCfg _, "KIND" => some false | .arcBankCfg _, "WIDTH" => some false
  | .rowStatus, "MIRROR_STATE" => some false
  | _, _ => none

/-- A field's value as an answer shows it (R253): signed fields as signed numbers, coded fields in their table's form. -/
def fieldVal (a : Attr) (f : FieldDesc) (v : Nat) : Val :=
  match fieldCode a f.name with
  | some true => .hex (fieldWidth f) v
  | some false => .bin (fieldWidth f) v
  | none => .num (if f.signed ∧ 2 ^ (fieldWidth f - 1) ≤ v then (v : Int) - 2 ^ fieldWidth f else v)

/-! ### Values and answers (R236, R239) -/

/-- The end of a line. -/
def crlf : String := "\r\n"

/-- The prompt (R236). -/
def prompt : String := "w128> "

/-- A value's characters. -/
def valText : Val → String
  | .num n => toString n
  | .word w => hexText 64 w.toNat
  | .name s => s
  | .str s => "\"" ++ s ++ "\""
  | .bytes b => bytesText b
  | .hex w n => hexText w n
  | .bin w n => binText w n

/-- A value with its key. -/
def itemText (x : String × Val) : String := if x.1 = "" then valText x.2 else x.1 ++ "=" ++ valText x.2

/-- The values of a line. -/
def itemsText (l : List (String × Val)) : String := " ".intercalate (l.map itemText)

/-- The lines of an answer as typed mode prints them, without their ends: the status word first, three spaces before each
further line (R236). -/
def replyLines : Reply → List String
  | .ok [] => ["ok"]
  | .ok ([] :: ls) => "ok" :: ls.map (fun l => "   " ++ itemsText l)
  | .ok (l :: ls) => ("ok " ++ itemsText l) :: ls.map (fun l => "   " ++ itemsText l)
  | .err n => ["err " ++ errName n]
  | .busy => ["busy"]
  | .busySessions => ["busy SESSIONS"]
  | .denied d => ["denied " ++ denialName d]

/-- A character as bytes of UTF-8: every character the drive prints lies below U+10000 (log 51). -/
def charBytes (c : Char) : List Byte :=
  let n := c.toNat
  (if n < 0x80 then [n] else if n < 0x800 then [0xC0 + n / 64, 0x80 + n % 64]
    else [0xE0 + n / 4096, 0x80 + n / 64 % 64, 0x80 + n % 64]).map (BitVec.ofNat 8)

/-- Text as bytes. -/
def textBytes (t : String) : List Byte := t.toList.flatMap charBytes

/-- A line of machine mode as it is sent: with its CRC suffix when CRC is on (R241). -/
def machineLine (crc : Bool) (t : String) : String :=
  (if crc then t ++ "*" ++ String.ofList (digitsOf 16 4 (crc16 (textBytes t))) else t) ++ crlf

/-- A tag: `#` and four digits, or `#----` where the line had none (R238). -/
def tagText (tag : Option Nat) : String := match tag with | some n => "#" ++ decN 4 n | none => "#----"

/-- The characters of an answer: in typed mode its lines and the prompt, in machine mode each line under its tag and the closing
line (R236, R238, R239, R241). -/
def replyText (machine crc : Bool) (tag : Option Nat) (r : Reply) : String :=
  if machine then
    String.join ((replyLines r).map (fun t => machineLine crc (tagText tag ++ " " ++ t))) ++ machineLine crc (tagText tag ++ " .")
  else String.join ((replyLines r).map (fun t => t ++ crlf)) ++ prompt

/-! ### Event records (R255, R854) -/

/-- The names of power levels. -/
def levelText (n : Int) : String := "L" ++ toString n

/-- A name by a code from 0, and the code itself where the table has none. -/
def codeName (l : List String) (n : Int) : String := (l[n.toNat]?).getD (toString n)

/-- Thermal states by code (ch. 03, Thermal states table). -/
def tstateNames : List String := ["NORMAL", "THROTTLE1", "THROTTLE2", "HALT"]

/-- Wall-time states by code (ch. 08, WSTATE encoding). -/
def wstateNames : List String := ["UNSET", "RTC", "MANUAL", "NTP", "PTP", "HOLDOVER"]

/-- GC states by code (ch. 14). -/
def gcNames : List String := ["NORMAL", "THROTTLE", "MATCHED", "REFUSE"]

/-- Life-cycle states by code (ch. 18). -/
def lcNames : List String := ["BLANK", "FOUNDRY", "FIELD", "RETURNED", "RETIRED"]

/-- Link modes by SPEED code (ch. 07, Link modes table). -/
def speedNames : List String := ["none", "100BASE-TX", "1000BASE-T", "2.5GBASE-T", "5GBASE-T", "10GBASE-T"]

/-- Fault causes by code (ch. 04). -/
def faultNames : List String := ["none", "CLOCK", "VOLTAGE", "HANDSHAKE_TIMEOUT", "SELFTEST_FAIL", "START_STEP_FAIL", "WATCHDOG"]

/-- Step results by code (ch. 05). -/
def resultNames : List String :=
  ["OK", "OK_ALT", "DEGRADED", "FAIL", "TIMEOUT", "SKIPPED", "ABORTED", "INTERRUPTED", "FOUND_OPEN"]

/-- How a detail word is shown. -/
inductive DetailForm
  | dec                       -- a signed or unsigned number
  | tenthW                    -- 0.1 W, as watts
  | level | tstate | wstate | gcState | lcState | speed | stepResult | ctr
  | iso                       -- wall microseconds
  | hex                       -- 64 bits
deriving DecidableEq, Repr

/-- A detail word's characters. -/
def detailText (f : DetailForm) (n : Int) : String :=
  match f with
  | .dec => toString n
  | .tenthW => toString (n / 10) ++ "." ++ toString (n % 10) ++ "W"
  | .level => levelText n
  | .tstate => codeName tstateNames n
  | .wstate => codeName wstateNames n
  | .gcState => codeName gcNames n
  | .lcState => codeName lcNames n
  | .speed => codeName speedNames n
  | .stepResult => codeName resultNames n
  | .ctr => match ctrOfCode n.toNat with | some c => ctrName c | none => toString n
  | .iso => isoText n.toNat
  | .hex => hexText 64 n.toNat

/-- What a record shows beside its name and REASON: the fields of its context, an address in D0 and D1, and the further detail words
with their names and forms (ch. 20, Event codes table). -/
structure EvForm where
  /-- Its STALL is shown. -/
  stall : Bool := false
  /-- Its PORT is shown. -/
  port : Bool := false
  /-- Its ISLAND is shown. -/
  island : Bool := false
  /-- D0 and D1 hold an address, under this name. -/
  addr : Option String := none
  /-- The detail words in order. -/
  words : List (String × DetailForm) := []
  /-- The names of REASON, from code 1. -/
  reasons : List String := []
deriving DecidableEq, Repr

/-- Step codes S01 to S24 as names. -/
def stepNames : List String := (List.range 24).map (fun i => "S" ++ decN 2 (i + 1))

/-- The form of each event's record (ch. 20, Event codes table). -/
def evForm : Ev → EvForm
  | .presenceOpen => { words := [("length", .dec)] }
  | .presenceClosed => { reasons := ["EXPIRY", "COMMAND", "FAULT", "HALT", "POWER_FAIL", "RESTART"] }
  | .presenceFault => { reasons := ["BUTTON_DISCREPANCY", "STUCK", "LID_DISCREPANCY"] }
  | .feedLost | .feedRestored => { port := true }
  | .feedChangeover => { port := true, reasons := ["LOSS", "PLANNED"], words := [("energy", .dec)] }
  | .levelChange => { words := [("old", .level), ("new", .level), ("budget", .tenthW)] }
  | .holdupWeak => { reasons := ["ENERGY", "NO_CHARGE"], words := [("e_meas", .dec)] }
  | .holdupRestored => { words := [("e_meas", .dec)] }
  | .cellFault => { words := [("cell", .dec), ("deviation", .dec)] }
  | .coldGate | .coldOpen => { words := [("flash_min", .dec)] }
  | .thermalThrottle => { words := [("old", .tstate), ("new", .tstate)] }
  | .thermalHalt | .startHotHold => { words := [("flash_max", .dec)] }
  | .powerFail => { reasons := ["POWER_FAIL", "ESSENTIAL_FAULT"], words := [("bytes", .dec), ("e_avail", .dec), ("duration", .dec)] }
  | .islandFault | .islandDead | .essentialFault => { island := true, reasons := faultNames.drop 1 }
  | .handshakeTimeout => { island := true, words := [("requester", .dec)] }
  | .dramUncorrectable => { stall := true, reasons := ["CACHE", "MAP", "BLOCK_TABLE", "INDEX", "WRITE_BUFFER", "FIRMWARE"],
                            words := [("fingerprint", .hex)] }
  | .stepFail => { reasons := stepNames, words := [("result", .stepResult), ("fcount", .dec), ("detail", .dec)] }
  | .stepAlternative => { reasons := stepNames, words := [("fcount", .dec)] }
  | .startSlotChange => { words := [("slot", .dec)] }
  | .fullscanDone => { words := [("duration", .dec)] }
  | .startReady => { words := [("start", .dec), ("duration", .dec)] }
  | .safeMode => { reasons := ["FAILED_STARTS", "ESSENTIAL_DEAD", "FUSE_READ", "NO_IMAGE"] }
  | .arcadeEmpty => { words := [("banks", .dec)] }
  | .mgmtAuthFail => { addr := some "address", words := [("fingerprint", .hex)] }
  | .mgmtSessionClosed => { reasons := ["IDLE", "PEER", "WARDEN_REMOVED", "HALT", "PIECE_TIMEOUT"],
                            words := [("slot", .dec), ("session", .dec)] }
  | .wardenEnrolled => { words := [("slot", .dec), ("fingerprint", .hex)] }
  | .wardenRemoved => { words := [("slot", .dec)] }
  | .linkUp | .linkDownshift => { port := true, words := [("speed", .speed)] }
  | .linkDown | .bondFailover | .lagNoPartner | .statsCleared | .pauseStorm => { port := true }
  | .lagSpeedMismatch => { words := [("speed0", .speed), ("speed1", .speed)] }
  | .counterHalf | .counterSaturated => { port := true, words := [("counter", .ctr)] }
  | .foldError => { port := true, words := [("index", .dec), ("amount", .dec)] }
  | .dormantEnter => { words := [("armed", .dec)] }
  | .wake => { port := true, reasons := ["MAGIC", "PATTERN0", "PATTERN1", "PATTERN2", "PATTERN3"] }
  | .addrDuplicate | .addrLost | .addrRefused => { addr := some "address", words := [("interface", .dec)] }
  | .addrLimit => { addr := some "prefix", words := [("interface", .dec)] }
  | .timeSource => { words := [("old", .wstate), ("new", .wstate)] }
  | .clockStep => { reasons := ["PTP", "NTP", "MANUAL", "RTC"], words := [("old", .iso), ("new", .iso), ("step", .dec)] }
  | .timeStepRefused => { reasons := ["PTP", "NTP", "MANUAL", "RTC"], words := [("offset", .dec)] }
  | .ledgerGap => { reasons := ["RTC_INVALID", "RTC_BACKWARD", "RING_INVALID"],
                    words := [("ltime", .dec), ("wall", .iso), ("resumed", .dec)] }
  | .kvAuthFail => { stall := true, reasons := ["KV2", "KV3"], addr := some "address" }
  | .kvAuthLockout | .kv1Refused | .rowSerialConflict => { addr := some "address" }
  | .kvResync | .kvResyncFail => { stall := true, addr := some "address", words := [("bytes", .dec)] }
  | .stallCreated => { stall := true, words := [("generation", .dec), ("owner", .dec)] }
  | .stallReset | .stallRebound | .stallRemoved => { stall := true, reasons := ["BEGUN", "DONE"],
                                                     words := [("generation", .dec), ("host", .dec)] }
  | .stallKeyExported | .stallFreezing => { stall := true }
  | .stallCredChanged => { stall := true, words := [("slot", .dec), ("kind", .dec)] }
  | .mbxDoorbell => { stall := true, words := [("waiting", .dec)] }
  | .stallFrozen => { stall := true, words := [("freeze_seq", .dec), ("length", .dec)] }
  | .stallThawed => { stall := true, words := [("generation", .dec)] }
  | .relocateDone => { stall := true, words := [("peer_serial", .dec), ("peer_stall", .dec)] }
  | .relocateFailed => { stall := true, reasons := ["LEFT_ROW", "QUOTA", "SPACE", "NO_CONFIRM", "CANCELLED", "RESTART"],
                         words := [("peer_serial", .dec), ("peer_stall", .dec)] }
  | .holdPlaced | .holdReleased => { stall := true, words := [("fingerprint", .hex), ("version", .dec), ("bytes", .dec)] }
  | .meterSaturated => { stall := true, words := [("accumulator", .dec), ("period", .dec)] }
  | .meterPeriodClosed => { stall := true, words := [("period", .dec)],
                            reasons := ["WALL_END", "FORCED", "STEP_FORWARD", "TIME_SET", "KIND_CHANGE", "REMOVED"] }
  | .mapEntryBad => { words := [("lpn", .dec), ("entry", .dec)] }
  | .logResync => { words := [("bytes", .dec), ("lsn", .dec)] }
  | .shelterReplayed => { words := [("flush", .dec), ("data_pages", .dec), ("spill", .dec)] }
  | .shelterMoved => { words := [("old", .dec), ("new", .dec)] }
  | .pageRebuilt => { words := [("ppn", .dec)] }
  | .pageLost => { words := [("ppn", .dec), ("versions", .dec)] }
  | .dieLost => { island := true, words := [("channel", .dec), ("target", .dec)] }
  | .rebuildDone => { words := [("bands", .dec), ("pages_lost", .dec)] }
  | .gcState => { words := [("old", .gcState), ("new", .gcState), ("free_bands", .dec)] }
  | .wearLevelMove => { words := [("band", .dec)] }
  | .blockRefreshed => { words := [("ppn", .dec), ("reads", .dec)] }
  | .patrolRelocate => { words := [("ppn", .dec), ("bits", .dec)] }
  | .patrolLate => { words := [("blocks", .dec)] }
  | .blockRetired => { reasons := ["ERASE_FAIL", "PROGRAM_FAIL", "REBUILT_TWICE"], words := [("ppn", .dec)] }
  | .sparesExhausted => { words := [("channel", .dec), ("target", .dec), ("plane", .dec)] }
  | .halfEraseFound => { words := [("half_erased", .dec), ("indeterminate", .dec), ("stale", .dec)] }
  | .shredResumed => { words := [("bands", .dec)] }
  | .lifeThreshold => { words := [("life_used", .dec)] }
  | .softFalseHit => { words := [("bank", .dec), ("count", .dec)] }
  | .arcEntryLost => { stall := true, words := [("bank", .dec), ("position", .dec), ("result", .hex)] }
  | .arcScrubFix => { words := [("count", .dec)] }
  | .arcGrantChanged => { words := [("bank", .dec), ("quarter", .dec), ("old", .dec), ("new", .dec)] }
  | .arcRebuildDone => { words := [("bank", .dec)] }
  | .rowJoined => { words := [("epoch", .dec), ("leader", .dec)] }
  | .rowLeader => { words := [("epoch", .dec)] }
  | .rowMemberAdded => { words := [("serial", .dec), ("epoch", .dec)] }
  | .rowMemberRemoved => { reasons := ["TIMEOUT", "LEAVE"], words := [("serial", .dec), ("epoch", .dec)] }
  | .rowFull => { words := [("serial", .dec)] }
  | .mirrorLagging => { reasons := ["QUEUE_FULL", "NEIGHBOUR", "RESTART"], words := [("mark", .dec)] }
  | .mirrorCurrent => { words := [("mark", .dec)] }
  | .mirrorRefused => { words := [("origin", .dec)] }
  | .mirrorRestoreDone => { stall := true, words := [("origin", .dec), ("restored", .dec), ("skipped", .dec)] }
  | .parcelBegun => { words := [("parcel", .hex), ("version", .dec)] }
  | .parcelComplete => { words := [("parcel", .hex)] }
  | .parcelExpired => { words := [("parcel", .hex), ("pieces", .dec)] }
  | .svnEnd => { words := [("svn", .dec)] }
  | .fwStaged | .fwConfirmed => { words := [("slot", .dec), ("version", .dec)] }
  | .fwTrialFailed => { words := [("slot", .dec), ("fails", .dec)] }
  | .fwFallback | .fwImageBad => { words := [("slot", .dec)] }
  | .svnBurned => { words := [("counter", .dec)] }
  | .fuseBurnFail => { words := [("fuse", .dec)] }
  | .gateUpdated => { words := [("version", .dec), ("slot", .dec)] }
  | .gateFallback => { words := [("version", .dec)] }
  | .fwRelayStopped => { reasons := ["CONFIRMED", "FAILED", "SKIPPED", "REFUSED"], words := [("reporter", .dec), ("parcel", .hex)] }
  | .lcTransitionBegin => { words := [("from", .lcState), ("target", .lcState)] }
  | .lcChanged => { words := [("old", .lcState), ("new", .lcState), ("lc_count", .dec)] }
  | .lcTransitionAbandoned | .lcFuseFail => { words := [("target", .lcState)] }
  | .selftestBegin => { reasons := ["HALT", "THERMAL", "RESTART", "DORMANT", "COMMAND", "INLINE"], words := [("run", .dec)] }
  | .selftestEnd => { reasons := ["COMPLETE", "CUT", "POWER_FAIL", "BUDGET"],
                      words := [("run", .dec), ("pass", .dec), ("fail", .dec), ("not_run", .dec)] }
  | .islandUnusable | .islandRestored | .islandRevived => { island := true }
  | .lidOpen | .lidClosed | .lineFault | .lineRecovered | .gatehouseReset | .fuseMirrorFixed | .fullscanBegin
  | .ledgerStateRebuilt | .startCleared | .kv1Enabled | .kv1Disabled | .rebuildStalled | .eraseRingInvalid | .fwRecovery => {}

/-- The values of a record after its event name: REASON by name when it is not 0, then its context, then its details (R854). -/
def recordItems (e : EventRec) : List (String × Val) :=
  let f := evForm e.ev
  let rest := if f.addr.isSome then e.details.drop 2 else e.details
  (if e.reason = 0 then [] else [("reason", .name ((f.reasons[e.reason - 1]?).getD (toString e.reason)))])
    ++ (if f.stall then (match e.stall with | some n => [("stall", .num n)] | none => []) else [])
    ++ (if f.port then (match e.port with | some p => [("port", .num p.num)] | none => []) else [])
    ++ (if f.island then [("island", .name (islandText e.island))] else [])
    ++ (match f.addr, e.details with
      | some n, h :: l :: _ => [(n, .name (addrText (BitVec.ofNat 128 (h.toNat * 2 ^ 64 + l.toNat))))]
      | _, _ => [])
    ++ (f.words.zip rest).map (fun x => (x.1.1, .name (detailText x.1.2 x.2)))

/-- One record as `log` prints it: SEQ, wall time, ledger time, event name, REASON, details (R255, R854). -/
def recordLine (e : EventRec) : List (String × Val) :=
  [("", .num e.seq), ("", .name (isoText e.wall)), ("", .num e.ltime), ("", .name (evName e.ev))] ++ recordItems e

/-- An unsolicited line of a session (R244 to R246): in typed mode it ends the partial line and prints it again after the prompt. -/
def unsolicited (d : Session) (t : String) : String :=
  if d.machine then machineLine d.crc t
  else crlf ++ t ++ crlf ++ prompt ++ String.ofList (d.partialLine.map (fun b => Char.ofNat b.toNat))

/-- An event line (R244). -/
def eventText (e : EventRec) : String := "! " ++ itemsText (recordLine e)

/-- The name of a GOING_AWAY reason (ch. 09, GOING_AWAY reason encoding). -/
def goingName (n : Nat) : String := match n with | 1 => "HALT" | 2 => "THERMAL" | _ => "RESTART"

/-- GOING_AWAY on a management session (R246). -/
def goingText (reason hint : Nat) : String := "! GOING_AWAY reason=" ++ goingName reason ++ " return=" ++ toString hint

/-- The report of dropped event lines (R245). -/
def droppedText (n : Nat) : String := "! DROPPED " ++ toString n

end Sys2Proof.Machine
end

