-- ==== Sys2Proof/Config.lean ====
section
/-!
DEFINITION. What one drive is given at manufacture, and the values the spec leaves open: constants without a body, so
that no proof can see what they are. Fresh values are drawn from the two streams below with the counter that
`State.freeCtr` holds (log 1).
-/

namespace Sys2Proof

/-- A fresh value the spec does not state, 64 bits, by the number of the draw (log 1). -/
opaque Config.freeWord : Nat → BitVec 64

/-- The random-bit generator: byte `i` of draw `n` (log 1). -/
opaque Config.randByte : Nat → Nat → Byte

/-- The drive's serial number (ch. 16, 17). -/
opaque Config.serial : Nat

/-- The drive's variant: true for W128-32C, false for W128-32E (ch. 00). -/
opaque Config.variantC : Bool

/-- The main-firmware version the recovery image counts as in the checks of a parcel (R741, R757; log 1). -/
opaque Config.recoveryVersion : Nat

/-- The MAC address of a port, set at manufacture (ch. 07). -/
opaque Config.macAddr : PortId → BitVec 48

/-- SHA-256 (R428). -/
opaque Config.sha256 : List Byte → List Byte

/-- HMAC-SHA-256: key, message (R398, R399). -/
opaque Config.hmacSha256 : List Byte → List Byte → List Byte

/-- AES key wrap of a data key, named by its identifier, under a key-encryption key (R504). -/
opaque Config.keyWrap : List Byte → Word64 → List Byte

/-- AES-256-GCM: key, nonce, plain text, additional data; the cipher text followed by the 16-byte tag (R529). -/
opaque Config.aesGcm : List Byte → List Byte → List Byte → List Byte → List Byte

/-- A signature with the drive's identity key, ECDSA P-384 over SHA-384: the key's seed and what is signed; r ‖ s, 96 bytes (R529). -/
opaque Config.signP384 : List Byte → List Byte → List Byte

/-- The length of a sent frame whose content's length the spec does not state, by a code of its kind (log 1). -/
opaque Config.itemLen : Nat → Nat

/-- The hash that places a frame on a member of the aggregate (R279): source and destination address, source and destination
port (log 1). -/
opaque Config.pairHash : Nat → Nat → Nat → Nat → Nat

/-- The TCP port a peer opened a data connection from, by the connection's number (log 1). -/
opaque Config.connPort : Nat → Nat

/-- The TCP port a peer opened a management session from, by the session's number (log 1). -/
opaque Config.sessPort : Nat → Nat

/-- The local port of the NTP client towards a server (ch. 08, Service ports: ephemeral; log 1). -/
opaque Config.ntpPort : Nat → Nat

/-- The poll interval of the NTP client after a request, which RFC 5905 lets a client choose between 64 s and 1,024 s (R350; log 1): by
a fresh number. -/
opaque Config.ntpPoll : Nat → Nat

/-- The operational key of LACP, the same on both ports (R278; log 1). -/
opaque Config.lacpKey : Nat

/-- The drive's certificate for TLS, made from the key pair of its identity seed (R223). -/
opaque Config.certificate : List Byte → List Byte

/-- How many records the capture ring of a port holds, whose record length the spec does not state (log 1). -/
opaque Config.captureRecords : Nat

/-- AES-256-XTS over one data unit: key, tweak, unit (R589). -/
opaque Config.aesXts : List Byte → Nat → List Byte → List Byte

/-- HKDF-SHA-384 from a seed with an info string (R589, R782). -/
opaque Config.hkdfSha384 : List Byte → List Byte → List Byte

/-- The seed of the drive's identity key (ch. 17, 18). -/
opaque Config.identitySeed : List Byte

/-- The data key that an identifier stands for (R503). -/
opaque Config.dataKeyOf : Word64 → List Byte

/-- The payload of a log record whose bytes the spec lists by name alone (ch. 13, Record type encoding; log 48): type and
length. -/
opaque Config.logPayload : Nat → Nat → Nat → List Byte

/-- Draw `len` random bytes as draw `n`. -/
def Config.randBytes (n len : Nat) : List Byte := (List.range len).map (Config.randByte n)

end Sys2Proof
end

