-- ==== Sys2Proof/Machine/Base.lean ====
section
/-!
DEFINITION. The plainest operations over the state, on which all others rest: the parts of the state, time and checkpoints, free
values, the conditions of the drive, islands, interfaces, and what leaves the drive.
-/

namespace Sys2Proof.Machine

open Sys2Proof

/-! ### Stored values -/

/-- The active value of an attribute that is kept in the configuration store: stored, or factory (R162). -/
def cfgWord (s : State) (a : Attr) : Word64 := AMap.getD s.cfg.store a (attrFactory a)

/-- A field of a stored attribute. -/
def cfgField (s : State) (a : Attr) (name : String) : Nat :=
  match attrField? a name with
  | none => 0
  | some f => fieldGet f (cfgWord s a)

/-- Store a value. -/
def cfgStore (s : State) (a : Attr) (w : Word64) : State :=
  { s with cfg := { s.cfg with store := AMap.set s.cfg.store a w } }

/-- The state with the values that the commit groups had at a configuration sequence, for an operation stamped with it: what
later commits replaced stands again (R174, R175). -/
def asOf (s : State) (n : Nat) : State :=
  (s.cfg.earlier.filter (fun e => decide (n < e.2.1))).foldl (fun t e => e.2.2.foldl (fun t x => cfgStore t x.1 x.2) t) s

/-! ### Parts of the state -/

/-- Change the clocks. -/
def updClock (s : State) (f : Clock → Clock) : State := { s with clock := f s.clock }
/-- Change the bay. -/
def updBay (s : State) (f : Bay → Bay) : State := { s with bay := f s.bay }
/-- Change the power part. -/
def updPower (s : State) (f : Power → Power) : State := { s with power := f s.power }
/-- Change the islands. -/
def updIsl (s : State) (f : Islands → Islands) : State := { s with isl := f s.isl }
/-- Change the configuration. -/
def updCfg (s : State) (f : Cfg → Cfg) : State := { s with cfg := f s.cfg }
/-- Change the boot part. -/
def updBoot (s : State) (f : Boot → Boot) : State := { s with boot := f s.boot }
/-- Change the consoles. -/
def updCon (s : State) (f : Console → Console) : State := { s with con := f s.con }
/-- Change the ports. -/
def updPorts (s : State) (f : Ports → Ports) : State := { s with ports := f s.ports }
/-- Change the addresses. -/
def updNet (s : State) (f : Net → Net) : State := { s with net := f s.net }
/-- Change the wire protocol. -/
def updProto (s : State) (f : Proto → Proto) : State := { s with proto := f s.proto }
/-- Change the operations. -/
def updKv (s : State) (f : Kv → Kv) : State := { s with kv := f s.kv }
/-- Change the stalls. -/
def updStalls (s : State) (f : Stalls → Stalls) : State := { s with stalls := f s.stalls }
/-- Change the flash part. -/
def updMedia (s : State) (f : Media → Media) : State := { s with media := f s.media }
/-- Change the upkeep part. -/
def updUpkeep (s : State) (f : Upkeep → Upkeep) : State := { s with upkeep := f s.upkeep }
/-- Change the Arcade. -/
def updArc (s : State) (f : Arcade → Arcade) : State := { s with arc := f s.arc }
/-- Change the row. -/
def updRow (s : State) (f : Row → Row) : State := { s with row := f s.row }
/-- Change the firmware part. -/
def updFw (s : State) (f : Fw → Fw) : State := { s with fw := f s.fw }
/-- Change the life-cycle part. -/
def updLife (s : State) (f : Life → Life) : State := { s with life := f s.life }
/-- Change the event log. -/
def updLog (s : State) (f : EventLog → EventLog) : State := { s with log := f s.log }
/-- Change one port. -/
def updPort (s : State) (p : PortId) (f : Port → Port) : State :=
  updPorts s (fun d => { d with port := d.port.upd p f })
/-- Change one stall; an unlisted one is FREE. -/
def updStall (s : State) (n : StallNo) (f : Stall → Stall) : State :=
  updStalls s (fun d => { d with tab := AMap.set d.tab n (f (AMap.getD d.tab n {})) })
/-- One stall. -/
def getStall (s : State) (n : StallNo) : Stall := AMap.getD s.stalls.tab n {}
/-- One port. -/
def getPort (s : State) (p : PortId) : Port := s.ports.port.get p
/-- Set the phase. -/
def setPhase (s : State) (p : Phase) : State := { s with phase := p }

/-! ### Time and ledger checkpoints (ch. 08) -/

/-- Ledger time. -/
def now (s : State) : Nat := s.clock.ledger

/-- A second in ledger time. -/
def sec : Nat := 1000000

/-- An hour in ledger time. -/
def hour : Nat := 3600 * sec

/-- A day in ledger time. -/
def day : Nat := 24 * hour

/-- The RTC's present reading, 0 when it was never written. -/
def rtcAtLedger (c : Clock) : Nat := match c.rtcOff with | none => 0 | some o => ((c.ledger : Int) + o).toNat

/-- Wall time of a clock in microseconds, 0 when it is UNSET (R348). -/
def wallOf (c : Clock) : Nat := if c.wstate = .unset then 0 else ((c.ledger : Int) + c.wallOff).toNat

/-- BOUND of a checkpoint (R364). -/
def ckptBound (k : CkptKind) (t : Nat) : Nat :=
  match k with
  | .periodic | .ready | .step => t + 31 * sec
  | .halt | .flush => t + 1000

/-- Append a checkpoint of a kind to the ring of 64 (R363, R368). -/
def writeCkpt (c : Clock) (k : CkptKind) : Clock :=
  { c with ckpts := ({ seq := (match c.ckpts with | [] => 0 | x :: _ => (x.seq + 1) % 2 ^ 32), ltime := c.ledger,
                       bound := ckptBound k c.ledger, rtc := rtcAtLedger c, wall := wallOf c, kind := k,
                       wstate := c.wstate } :: c.ckpts).take 64 }

/-- The BOUND of the newest checkpoint. -/
def newestBound (c : Clock) : Nat := match c.ckpts with | [] => 0 | x :: _ => x.bound

/-- The slew of a clock over a length of ledger time: at most 500 ppm of it is taken off what is left to slew (R353). -/
def slewOver (c : Clock) (d : Nat) : Clock :=
  let steps := (c.slewRest + d) / 2000
  let left := c.slew.natAbs
  let m : Int := (Nat.min steps left : Nat)
  let m := if c.slew < 0 then -m else m
  { c with wallOff := c.wallOff + m, slew := c.slew - m, slewRest := (c.slewRest + d) % 2000 }

/-- A clock moved on to a ledger time, never back (R362). While SVC runs, where that lies beyond the newest checkpoint's
BOUND, the PERIODIC checkpoint that had to come first is written with it, so that R364 holds. -/
def moveClock (svc : Bool) (c : Clock) (t : Nat) : Clock :=
  let c := slewOver c (t - c.ledger)
  let c := { c with ledger := Nat.max c.ledger t }
  if ! svc || decide (c.ledger ≤ newestBound c) then c else writeCkpt c .periodic

/-- SVC runs: S03 has begun, so that events go to FRAM (R852). -/
def svcRuns (s : State) : Bool :=
  match s.phase with
  | .off | .restarting | .dormant | .failFlush _ => false
  | .starting => decide (3 ≤ s.boot.step)
  | _ => true

/-- Ledger time moves to a moment, never back; without power it stands still. -/
def advanceTo (s : State) (t : Nat) : State :=
  match s.phase with
  | .off => s
  | _ => { s with clock := moveClock (svcRuns s) s.clock t }

/-- Ledger time moves on by a length. -/
def advanceBy (s : State) (d : Nat) : State := advanceTo s (now s + d)

/-- One microsecond of ledger time passes. -/
def tick (s : State) : State := advanceBy s 1

/-- Write a ledger checkpoint of a kind (R363). -/
def checkpoint (s : State) (k : CkptKind) : State := updClock s (fun c => writeCkpt c k)

/-- The RTC's present reading, 0 when it was never written. -/
def rtcNow (s : State) : Nat := rtcAtLedger s.clock

/-- Write the RTC with the present wall time, unless it is UNSET (R360). -/
def writeRtc (s : State) : State :=
  updClock s (fun c => if c.wstate = .unset then c else { c with rtcOff := some c.wallOff, rtcAt := some c.ledger })

/-- Wall time in microseconds, 0 when it is UNSET (R348). -/
def wallNow (s : State) : Nat := wallOf s.clock

/-- A time has come: an optional deadline lies at or before now. -/
def due (s : State) (t : Option Nat) : Bool := match t with | none => false | some t => decide (t ≤ now s)

/-! ### Free values (log 1) -/

/-- Draw a fresh 64-bit value. -/
def freshWord (s : State) : Word64 × State := (Config.freeWord s.freeCtr, { s with freeCtr := s.freeCtr + 1 })

/-- Draw `n` fresh bytes. -/
def freshBytes (s : State) (n : Nat) : List Byte × State :=
  (Config.randBytes s.freeCtr n, { s with freeCtr := s.freeCtr + 1 })

/-- The identity key seed (R782, R784). -/
def seedOf (s : State) : List Byte := s.life.seed.getD Config.identitySeed

/-! ### Conditions of the drive -/

/-- A start is under way: S01 to S23. -/
def starting (s : State) : Bool := decide (s.phase = .starting)

/-- S03 has completed in this start, so that SVC serves the consoles (R260). -/
def svcUp (s : State) : Bool :=
  match s.phase with
  | .off | .restarting => false
  | .starting => decide (3 ≤ s.boot.doneStep)
  | .dormant => false
  | .failFlush _ => false
  | _ => true

/-- An orderly halt is under way (R44 to R46): drain, flush, self-test. -/
def halting (s : State) : Bool := match s.phase with | .draining _ | .flushing _ | .selftest _ => true | _ => false

/-- The drive runs as normal: READY, or in the steps of a start. -/
def running (s : State) : Bool := match s.phase with | .starting | .ready => true | _ => false

/-- Data operations are admitted (R208). -/
def ready (s : State) : Bool := decide (s.phase = .ready)

/-- The drive is powered. -/
def powered (s : State) : Bool := match s.phase with | .off => false | _ => true

/-- A step still waits for the background rebuild to reach its end: S11 to S15 of a full scan (R199). -/
def scanOwes (s : State) (n : Nat) : Bool :=
  match s.boot.scan with
  | some k => decide (k ≤ n) && decide (n ≤ 15)
  | none => false

/-- A step of the present start has completed, or the drive is past the start. -/
def stepDone (s : State) (n : Nat) : Bool :=
  match s.phase with
  | .starting => decide (n ≤ s.boot.doneStep) && ! scanOwes s n
  | .off | .restarting | .safe | .hold => false
  | _ => true

/-- Where the foreground of a start stands: its open step, or S23 while that waits for the scan (R199, R200). -/
def fgStep (s : State) : Nat := if s.boot.fg = 0 then 23 else s.boot.fg

/-! ### Islands -/

/-- An island's record; an unlisted one is OFF. -/
def getIsl (s : State) (i : Island) : IslRec := AMap.getD s.isl.recs i {}

/-- An island's state. -/
def islState (s : State) (i : Island) : IslState := (getIsl s i).state

/-- Change an island's record. -/
def updIslRec (s : State) (i : Island) (f : IslRec → IslRec) : State :=
  updIsl s (fun d => { d with recs := AMap.set d.recs i (f (AMap.getD d.recs i {})) })

/-- The island works: RUN, or GATED and woken on use (R148). -/
def islUp (s : State) (i : Island) : Bool := match islState s i with | .run | .gated => true | _ => false

/-- Work offered to a GATED island wakes it (R148). -/
def wakeIsl (s : State) (i : Island) : State :=
  if islState s i = .gated then updIslRec s i (fun d => { d with state := .run }) else s

/-! ### Interfaces -/

/-- An interface exists: its VLAN is enabled, or the untagged network is accepted (ch. 08, Interfaces table). -/
def ifExists (s : State) (k : IfNo) : Bool :=
  if h : k.val < 8 then decide (cfgField s (.vlanKCfg ⟨k.val, h⟩) "ENABLE" = 1) else decide (cfgField s .vlanCfg "UNTAGGED" = 1)

/-- A service is on at an interface: SERVICES bit 0 KV1, 1 KV2, 2 KV3, 3 management (R372). -/
def serviceOn (s : State) (k : IfNo) (bit : Nat) : Bool :=
  ifExists s k && (cfgField s (.ifCfg k) "SERVICES").testBit bit

/-! ### What leaves the drive -/

/-- Emit an output. -/
def emit (s : State) (o : Output) : State := { s with out := o :: s.out }

/-- Emit several, in order. -/
def emitAll (s : State) (os : List Output) : State := os.foldl emit s

/-- A session by name. -/
def getSess (s : State) (x : SessId) : Option Session := AMap.find s.con.sessions x

/-- Change an open session. -/
def updSess (s : State) (x : SessId) (f : Session → Session) : State :=
  updCon s (fun d => { d with sessions := AMap.modify d.sessions x f })

end Sys2Proof.Machine
end

