-- ==== Sys2Proof/Machine/TxOps.lean ====
section
/-!
DEFINITION. What the ports send (ch. 07, 08): the addresses and routes of the interfaces, the pair, the flow and the headers of a
packet, the transmit queues, and the TCP segments that wait for them.
-/

namespace Sys2Proof.Machine

open Sys2Proof

/-! ### Interfaces and addresses (R335, R339) -/

/-- Every interface. -/
def allIfs : List IfNo := List.finRange 9

/-- One interface; an unlisted one has nothing. -/
def getIfc (s : State) (k : IfNo) : Ifc := AMap.getD s.net.ifs k {}

/-- Change one interface. -/
def updIfc (s : State) (k : IfNo) (f : Ifc → Ifc) : State :=
  updNet s (fun d => { d with ifs := AMap.set d.ifs k (f (AMap.getD d.ifs k {})) })

/-- V4_MODE: 0 OFF, 1 DHCP, 2 STATIC. -/
def v4Mode (s : State) (k : IfNo) : Nat := cfgField s (.ifCfg k) "V4_MODE"

/-- V6_MODE: 0 LINK_LOCAL, 1 AUTO, 2 DHCPV6, 3 STATIC. -/
def v6Mode (s : State) (k : IfNo) : Nat := cfgField s (.ifCfg k) "V6_MODE"

/-- An IPv4 address, written as ::ffff:a.b.c.d (R853). -/
def isV4 (a : IpAddr) : Bool := decide (a.toNat / 2 ^ 32 = 0xFFFF)

/-- An IPv4 address as ::ffff:a.b.c.d (R853). -/
def ipv4Of (n : Nat) : IpAddr := BitVec.ofNat 128 (0xFFFF * 2 ^ 32 + n % 2 ^ 32)

/-- The modified EUI-64 interface identifier of a MAC address (R335). -/
def eui64 (m : MacAddr) : Nat :=
  let n := m.toNat
  let hi := n / 2 ^ 24
  let lo := n % 2 ^ 24
  (hi ^^^ 0x020000) * 2 ^ 40 + 0xFFFE * 2 ^ 24 + lo

/-- The link-local address of every interface (R335). -/
def linkLocal : IpAddr := BitVec.ofNat 128 (0xFE80 * 2 ^ 112 + eui64 (Config.macAddr .p0))

/-- The SLAAC address on a /64 (R335). -/
def slaacAddr (net : IpAddr) : IpAddr :=
  BitVec.ofNat 128 (net.toNat / 2 ^ 64 * 2 ^ 64 + eui64 (Config.macAddr .p0))

/-- The address is in use: detected free of conflict, or used optimistically (R339). -/
def addrUsable (a : AddrRec) : Bool := decide (a.state = .usable ∨ a.state = .optimistic)

/-- The addresses an interface uses. -/
def ifAddrs (s : State) (k : IfNo) : List AddrRec := (getIfc s k).addrs.filter addrUsable

/-- An address the drive uses on an interface. -/
def ownAddr (s : State) (k : IfNo) (a : IpAddr) : Bool := (ifAddrs s k).any (fun r => decide (r.addr = a))

/-- The usable addresses of the drive, with their interfaces. -/
def usableAddrs (s : State) : List (IfNo × AddrRec) :=
  s.net.ifs.flatMap (fun x => (x.2.addrs.filter addrUsable).map (fun a => (x.1, a)))

/-- Bits of an address below its network part. -/
def hostBits (v4 : Bool) (plen : Nat) : Nat := (if v4 then 32 else 128) - plen

/-- Two addresses lie in one subnet of a given length of the family's own bits. -/
def sameNet (a b : IpAddr) (plen : Nat) : Bool :=
  decide (isV4 a = isV4 b) && decide (a.toNat / 2 ^ hostBits (isV4 a) plen = b.toNat / 2 ^ hostBits (isV4 a) plen)

/-- A link-local IPv6 address. -/
def isLinkLocal (a : IpAddr) : Bool := decide (a.toNat / 2 ^ 118 = 0x3FA)

/-- The global IPv6 addresses an interface holds (R338). -/
def globalV6 (s : State) (k : IfNo) : List AddrRec :=
  (getIfc s k).addrs.filter (fun r => ! isV4 r.addr && decide (r.origin ≠ .linkLocal))

/-! ### Routes (R331, R332) -/

/-- The default router of an interface for a family (R331, R332). -/
def defRouter (s : State) (k : IfNo) (v4 : Bool) : Option IpAddr :=
  if v4 then
    if v4Mode s k = 2 then
      let g := cfgField s (.ifV4gw k) "VALUE"
      if g = 0 then none else some (ipv4Of g)
    else if v4Mode s k = 1 then (getIfc s k).gw4 else none
  else if v6Mode s k = 3 then
    let g := cfgField s (.ifV6gwHi k) "VALUE" * 2 ^ 64 + cfgField s (.ifV6gwLo k) "VALUE"
    if g = 0 then none else some (BitVec.ofNat 128 g)
  else ((getIfc s k).routers.find? (fun r => decide (now s < r.2))).map (fun r => r.1)

/-- The interface DEF4 or DEF6 names, when it exists and has a default router; none otherwise (R331, R332). -/
def defIf (s : State) (v4 : Bool) : Option IfNo :=
  let n := cfgField s .routeCfg (if v4 then "DEF4" else "DEF6")
  if h : n < 9 then
    let k : IfNo := ⟨n, h⟩
    if ifExists s k && (defRouter s k v4).isSome then some k else none
  else none

/-- The destination lies on the link of an interface. -/
def onLink (s : State) (k : IfNo) (dst : IpAddr) : Bool :=
  isLinkLocal dst || (ifAddrs s k).any (fun r => sameNet r.addr dst r.plen)

/-- The interface traffic the drive originates leaves by: the one whose subnet holds the destination, else the default
(R331). -/
def routeOf (s : State) (dst : IpAddr) : Option IfNo :=
  match allIfs.find? (fun k => ifExists s k && (ifAddrs s k).any (fun r => sameNet r.addr dst r.plen)) with
  | some k => some k
  | none => defIf s (isV4 dst)

/-! ### Groups and neighbours (R294, R343) -/

/-- A multicast MAC address of an IPv6 group's low 32 bits. -/
def mac6 (n : Nat) : MacAddr := BitVec.ofNat 48 (0x3333 * 2 ^ 32 + n)

/-- The Ethernet address of a broadcast or group address; none for one host's. -/
def groupMac (a : IpAddr) : Option MacAddr :=
  if isV4 a then
    let n := a.toNat % 2 ^ 32
    if n = 0xFFFFFFFF then some (BitVec.allOnes 48)
    else if n / 2 ^ 28 = 14 then some (BitVec.ofNat 48 (0x01005E * 2 ^ 24 + n % 2 ^ 23)) else none
  else if a.toNat / 2 ^ 120 = 0xFF then some (mac6 (a.toNat % 2 ^ 32)) else none

/-- Kind of a destination. -/
def castIp (a : IpAddr) : CastKind :=
  match groupMac a with
  | none => .unicast
  | some m => if m = BitVec.allOnes 48 then .broadcast else .multicast

/-- ff02::, a link-scope group by its low bits. -/
def linkGroup (n : Nat) : IpAddr := BitVec.ofNat 128 (0xFF02 * 2 ^ 112 + n)

/-- The solicited-node group of an address. -/
def solicitedNode (a : IpAddr) : IpAddr := linkGroup (0x1FF000000 + a.toNat % 2 ^ 24)

/-- The next hop of a packet: none for a group, the destination on the link, else the interface's default router (R331). -/
def hopOf (s : State) (k : IfNo) (dst : IpAddr) : Option IpAddr :=
  if (groupMac dst).isSome then none
  else if onLink s k dst then some dst else defRouter s k (isV4 dst)

/-- The neighbour cache's entry of an address. -/
def neighMac (s : State) (k : IfNo) (a : IpAddr) : Option MacAddr :=
  (s.net.neigh.find? (fun n => decide (n.ifc = k) && decide (n.addr = a))).bind (fun n => n.mac)

/-- A neighbour is used: its entry moves to the front (R343). -/
def useNeigh (s : State) (k : IfNo) (a : Option IpAddr) : State :=
  match a.bind (fun a => s.net.neigh.find? (fun n => decide (n.ifc = k) && decide (n.addr = a))) with
  | none => s
  | some n => updNet s (fun d => { d with neigh := { n with usedAt := s.clock.ledger } :: d.neigh.erase n })

/-! ### The pair (R273 to R282) -/

/-- CORE.BOND.CFG.MODE asks for the aggregate. -/
def aggMode (s : State) : Bool := decide (cfgField s .bondCfg "MODE" = 1)

/-- The port can carry frames: link up, its NET island working. -/
def portUp (s : State) (p : PortId) : Bool := (getPort s p).link && islUp s p.island

/-- The port's LACP state is Collecting and Distributing. -/
def distributing (s : State) (p : PortId) : Bool := portUp s p && decide ((getPort s p).lacp = .distributing)

/-- A member that carries traffic: of two members at different speeds only the faster does (R282). -/
def carries (s : State) (p : PortId) : Bool :=
  distributing s p
    && (! distributing s p.other || decide ((getPort s p.other).speed ≤ (getPort s p).speed))

/-- The pair runs as an aggregate now; with no distributing member the active-backup rules hold (R281). -/
def aggNow (s : State) : Bool := aggMode s && (distributing s .p0 || distributing s .p1)

/-- The pair restarts: no IP frame is sent (R323). -/
def pairQuiet (s : State) : Bool := ! (due s s.ports.pairQuiet || s.ports.pairQuiet.isNone)

/-- The port IP frames leave by, for a hash of the flow (R274, R279); none while the pair restarts (R323). -/
def ipPort (s : State) (h : Nat) : Option PortId :=
  if pairQuiet s then none
  else if aggNow s then
    match carries s .p0, carries s .p1 with
    | true, true => some (if h % 2 = 0 then .p0 else .p1)
    | true, false => some .p0
    | false, true => some .p1
    | false, false => none
  else
    match s.ports.active with
    | some p => if portUp s p then some p else none
    | none => none

/-- The port frames without an IP header leave by (R274, R279). -/
def plainPort (s : State) : Option PortId :=
  if aggNow s then (if carries s .p0 then some .p0 else if carries s .p1 then some .p1 else none)
  else ipPort s 0

/-- Frames received on a port are for a side that carries no traffic (check 6, R274, R282). -/
def standbyRx (s : State) (p : PortId) : Bool :=
  if aggNow s then ! carries s p else decide (s.ports.active ≠ some p)

/-- The pair's traffic leaves by this port. -/
def portInUse (s : State) (p : PortId) : Bool := portUp s p && ! standbyRx s p

/-! ### Frames (R273, R283, R289, R291, R308) -/

/-- The frame limit of a port (R289). -/
def frameLimit (s : State) (p : PortId) (tagged : Bool) : Nat :=
  cfgField s (.macCfg p) "MAX_FRAME" + (if tagged then 4 else 0)

/-- A frame length between the minimum of 64 and a limit (R291). -/
def fitLen (limit n : Nat) : Nat := Nat.max 64 (Nat.min limit n)

/-- Frames of an interface carry a tag (R283). -/
def ifTagged (i : IfNo) : Bool := decide (i.val < 8)

/-- The tag of a frame of an interface in a queue: TPID 0x8100, the queue's number as PCP, the VLAN's VID (R283, R308). -/
def tagOf (s : State) (i : IfNo) (q : Fin 8) : Option VlanTag :=
  if h : i.val < 8 then some { tpid := 0x8100, pcp := q, vid := cfgField s (.vlanKCfg ⟨i.val, h⟩) "VID" } else none

/-- Bytes a tag adds. -/
def tagLen (i : IfNo) : Nat := if ifTagged i then 4 else 0

/-- Put a frame at the end of its queue, when the port can carry it. -/
def enqueue (s : State) (p : PortId) (f : TxFrame) : State :=
  if portUp s p then updPort s p (fun d => { d with tx := d.tx ++ [f] }) else s

/-- Where a packet comes from and goes to. -/
structure Flow where
  /-- The interface it leaves on. -/
  ifc : IfNo
  /-- Source address. -/
  src : IpAddr
  /-- Destination address. -/
  dst : IpAddr
  /-- Source port. -/
  sport : Nat := 0
  /-- Destination port. -/
  dport : Nat := 0
deriving DecidableEq, Repr

/-- The header of a packet in a queue: class selector CSq (R308), DF in IPv4 (R344). -/
def ipHead (s : State) (fl : Flow) (q : Fin 8) : IpHead :=
  { ifc := fl.ifc, src := fl.src, dst := fl.dst, hop := hopOf s fl.ifc fl.dst, sport := fl.sport, dport := fl.dport
    dscp := 8 * q.val, df := isV4 fl.dst }

/-- The hash that places a packet (R279). -/
def headHash (h : IpHead) : Nat := Config.pairHash h.src.toNat h.dst.toNat h.sport h.dport

/-! ### Receive windows (R820) -/

/-- Payload staging of a data connection from its accept. -/
def baseGrant : Nat := 262144

/-- Payload bytes of an operation that staging still holds: until it commits or aborts. -/
def stagedBy (o : Op) : Nat := if o.committed || o.resp.isSome then 0 else o.frame.dataLen

/-- Bytes of a connection's base grant in use. -/
def baseUsed (s : State) (i : Nat) : Nat :=
  listSum ((s.kv.ops.filter (fun x => decide (x.2.conn = i) && ! x.2.pooled)).map (fun x => stagedBy x.2))

/-- A connection's free staging: the largest TCP receive window that the drive advertises on it. -/
def rxWindow (s : State) (i : Nat) : Nat := baseGrant - baseUsed s i

/-- The staging area of the management channel and row transport. -/
def mgmtStaging : Nat := 16777216

/-- The receive window that a segment advertises: its data connection's free staging; of a management session its own area's. -/
def windowOf (s : State) : NetItem → Option Nat
  | .resp i _ _ _ | .close i | .tlsAlert i | .tlsTicket i _ => some (rxWindow s i)
  | .mgmt _ | .mgmtClose _ => some mgmtStaging
  | _ => none

/-- A packet's frame of a given length: from the Port 0 address (R273), to the group's address or the next hop's. -/
def ipFrame (s : State) (fl : Flow) (q : Fin 8) (it : NetItem) (len : Nat) : TxFrame :=
  let h := ipHead s fl q
  { queue := q, item := it, bytes := len, cast := castIp fl.dst, src := Config.macAddr .p0
    dmac := match groupMac fl.dst with | some m => some m | none => h.hop.bind (neighMac s fl.ifc)
    tag := tagOf s fl.ifc q, ip := some { h with window := windowOf s it } }

/-- A frame's length on a port. -/
def fitFrame (s : State) (p : PortId) (f : TxFrame) : TxFrame := { f with bytes := fitLen (frameLimit s p f.tagged) f.bytes }

/-- Send a packet on the pair. -/
def sendFlow (s : State) (fl : Flow) (q : Fin 8) (it : NetItem) (len : Nat) : State :=
  let f := ipFrame s fl q it len
  match f.ip with
  | none => s
  | some h =>
    match ipPort s (headHash h) with
    | none => s
    | some p => enqueue (useNeigh s fl.ifc h.hop) p (fitFrame s p f)

/-! ### Connections -/

/-- Connection `i`. -/
def getConn (s : State) (i : Nat) : Option Conn := AMap.find s.proto.conns i

/-- Change a connection. -/
def updConn (s : State) (i : Nat) (f : Conn → Conn) : State :=
  updProto s (fun d => { d with conns := AMap.modify d.conns i f })

/-- The service port of a generation (ch. 08, Service ports). -/
def genPort : Gen → Nat
  | .kv1 => 7131 | .kv2 => 7132 | .kv3 => 7133

/-- The flow of a connection, from the address it was opened to (R330). -/
def connFlow (i : Nat) (c : Conn) : Flow :=
  { ifc := c.ifc, src := c.local_, dst := c.peer, sport := genPort c.gen, dport := Config.connPort i }

/-- The flow of a management session. -/
def sessFlow (d : Session) : Flow :=
  { ifc := d.ifc, src := d.local_, dst := d.peer, sport := 7135, dport := Config.sessPort d.serial }

/-- Header bytes of a TCP segment's frame: Ethernet header, IP header, TCP header, FCS (log 8). -/
def tcpHead (peer : IpAddr) : Nat := 14 + (if isV4 peer then 20 else 40) + 20 + 4

/-! ### Source addresses and flows (R330) -/

/-- The address of an interface that a packet to a destination comes from: the family's, the link-local one for a destination on
the link scope. -/
def srcOf (s : State) (k : IfNo) (dst : IpAddr) : Option IpAddr :=
  let scope := isLinkLocal dst || decide (dst.toNat / 2 ^ 112 = 0xFF02)
  let l := (ifAddrs s k).filter (fun r => decide (isV4 r.addr = isV4 dst))
  if isV4 dst then (l.head?).map (fun r => r.addr)
  else if scope then (l.find? (fun r => decide (r.origin = .linkLocal))).map (fun r => r.addr)
  else match l.find? (fun r => decide (r.origin ≠ .linkLocal)) with
    | some r => some r.addr
    | none => (l.head?).map (fun r => r.addr)

/-- The link-local address of an interface, once it is in use. -/
def srcLocal (s : State) (k : IfNo) : Option IpAddr := srcOf s k (linkGroup 1)

/-- 255.255.255.255. -/
def bcast4 : IpAddr := ipv4Of 0xFFFFFFFF

/-- The PTP group of the configured transport, when it is an IP address (R349). -/
def ptpIp (s : State) : Option IpAddr :=
  match cfgField s .timeCfg "PTP_TRANSPORT" with
  | 0 => some (ipv4Of 0xE0000181)
  | 1 => some (BitVec.ofNat 128 (0xFF0E * 2 ^ 112 + 0x181))
  | _ => none

/-- The PTP group's Ethernet address (R294, R349). -/
def ptpGroup (s : State) : MacAddr :=
  match ptpIp s with
  | some a => (groupMac a).getD 0
  | none => 0x011B19000000

/-- The row beacon group ff02::c1ed (R33, R702). -/
def rowGroup : IpAddr := linkGroup 0xC1ED

/-- The flow of an item on an interface; none where the interface holds no address it could come from, so that it is not sent
(R330). -/
def itemFlow (s : State) (i : IfNo) (it : NetItem) : Option Flow :=
  let from_ (src : Option IpAddr) (dst : IpAddr) (sport dport : Nat) : Option Flow :=
    src.map (fun a => { ifc := i, src := a, dst := dst, sport := sport, dport := dport })
  match it with
  | .resp j _ _ _ | .reset j | .close j | .tlsAlert j | .tlsTicket j _ => (getConn s j).map (connFlow j)
  | .mgmt k | .mgmtReset k | .mgmtClose k =>
    (s.con.sessions.find? (fun x => decide (x.2.serial = k))).map (fun x => sessFlow x.2)
  | .closedReset e dport => from_ (some e.dst) e.src dport e.sport
  | .unreachable _ e _ => from_ (some e.dst) e.src 0 0
  | .echoReply _ e _ => from_ (some e.dst) e.src 0 0
  | .neighbour _ a _ asker => from_ (some a) (match asker with | some x => if x = 0 then linkGroup 1 else x | none => linkGroup 1) 0 0
  | .probe _ a => from_ (some 0) (solicitedNode a) 0 0
  | .routerSolicit _ => from_ (some ((srcLocal s i).getD 0)) (linkGroup 2) 0 0
  | .dhcp4Discover _ _ | .dhcp4Decline _ _ => from_ (some (ipv4Of 0)) bcast4 68 67
  | .dhcp4Request _ a server _ =>
    match (getIfc s i).d4, server with
    | .renewing, some x => if ownAddr s i a then from_ (some a) x 68 67 else from_ (some (ipv4Of 0)) bcast4 68 67
    | _, _ => from_ (some (ipv4Of 0)) bcast4 68 67
  | .dhcp6Solicit _ _ | .dhcp6Request _ _ | .dhcp6Info _ _ | .dhcp6Release _ _ =>
    from_ (srcLocal s i) (linkGroup 0x10002) 546 547
  | .ntpRequest x => from_ (srcOf s i x) x (Config.ntpPort x.toNat) 123
  | .ptpDelayReq => (ptpIp s).bind (fun a => from_ (srcOf s i a) a 319 319)
  | .kv1Heartbeat e _ => from_ (some e.dst) e.src 7131 e.sport
  | .beacon .. => from_ (srcLocal s i) rowGroup 7134 7134
  | .row m _ _ => (AMap.find s.row.addrs m.peer).bind (fun a => from_ (srcLocal s i) a 7134 7134)
  | .lldp _ | .lacp _ => none

/-- The length of an item's frame: an echo answer is as long as its request, a KV1 heartbeat answer's datagram has 40 bytes; others
the spec does not give (log 1). -/
def itemBytes (i : IfNo) (it : NetItem) (code : Nat) : Nat :=
  match it with
  | .echoReply _ _ len => len + 18 + tagLen i
  | .kv1Heartbeat e _ => 18 + (if isV4 e.src then 20 else 40) + 8 + 40 + tagLen i
  | _ => Config.itemLen code

/-- Send an item of an interface on the pair. -/
def sendIp (s : State) (i : IfNo) (q : Fin 8) (it : NetItem) (code : Nat) : State :=
  match itemFlow s i it with
  | none => s
  | some fl => sendFlow s fl q it (itemBytes i it code)

/-- Where a frame without an IP header goes: ARP to all or to the asker, PTP to its group. -/
def plainDst (s : State) (i : IfNo) : NetItem → Option MacAddr
  | .neighbour _ _ _ (some x) => neighMac s i x
  | .ptpDelayReq => some (ptpGroup s)
  | _ => some (BitVec.allOnes 48)

/-- Send a frame without an IP header of an interface. -/
def sendPlain (s : State) (i : IfNo) (q : Fin 8) (it : NetItem) (code : Nat) (cast : CastKind) : State :=
  match plainPort s with
  | none => s
  | some p => enqueue s p (fitFrame s p { queue := q, item := it, bytes := Config.itemLen code, cast := cast
                                          src := Config.macAddr .p0, dmac := plainDst s i it, tag := tagOf s i q })

/-- The group of a link protocol. -/
def linkDst : NetItem → MacAddr
  | .lacp _ => 0x0180C2000002
  | _ => 0x0180C200000E

/-- Send a link protocol's frame on one port, untagged and from that port's own address (R273). -/
def sendLink (s : State) (p : PortId) (it : NetItem) (code : Nat) : State :=
  enqueue s p (fitFrame s p { queue := 7, item := it, bytes := Config.itemLen code, cast := .multicast
                              src := Config.macAddr p, dmac := some (linkDst it) })

/-- Send an item the drive originates; without a route it is not sent and counts in IP_NO_ROUTE (R331). -/
def originate (s : State) (dst : IpAddr) (q : Fin 8) (it : NetItem) (code : Nat) : State :=
  match routeOf s dst with
  | some k => sendIp s k q it code
  | none => updNet s (fun d => { d with noRoute := d.noRoute + 1 })

/-! ### The order of a TCP connection's segments (R307) -/

/-- The TCP connection of an item: a management session's by its number, a data connection's by its own. A reset is no part of the
stream. -/
def tcpOf : NetItem → Option (Bool × Nat)
  | .resp i _ _ _ | .close i | .tlsAlert i | .tlsTicket i _ => some (false, i)
  | .mgmt k | .mgmtClose k => some (true, k)
  | _ => none

/-- A port's queues hold segments of a connection elsewhere than in queue `q` of port `p`. -/
def otherQueue (s : State) (x : Bool × Nat) (q : Fin 8) (p : PortId) : Bool :=
  [PortId.p0, PortId.p1].any (fun r => (getPort s r).tx.any (fun f =>
    decide (tcpOf f.item = some x) && (decide (f.queue ≠ q) || decide (r ≠ p))))

/-- Payload bytes of a frame. -/
def framePayload (f : TxFrame) : Nat := match f.ip with | some h => f.bytes - tcpHead h.dst - tagLen h.ifc | none => 0

/-- Payload bytes of a connection in the queues. -/
def queuedBytes (s : State) (x : Bool × Nat) : Nat :=
  listSum ([PortId.p0, PortId.p1].map (fun r =>
    listSum (((getPort s r).tx.filter (fun f => decide (tcpOf f.item = some x))).map framePayload)))

/-- Release a waiting segment if R307 lets it go: no earlier one waits, 256 KiB at most in the queues, no earlier segment in
another queue. -/
def releaseSeg (a : State × List TxFrame) (f : TxFrame) : State × List TxFrame :=
  match f.ip, tcpOf f.item with
  | some h, some x =>
    match ipPort a.1 (headHash h) with
    | none => (a.1, a.2 ++ [f])
    | some p =>
      if a.2.any (fun g => decide (tcpOf g.item = some x)) || decide (262144 < queuedBytes a.1 x + framePayload f)
          || otherQueue a.1 x f.queue p then (a.1, a.2 ++ [f])
      else (enqueue (useNeigh a.1 h.ifc h.hop) p (fitFrame a.1 p f), a.2)
  | _, _ => a

/-- Release the segments that wait, in their order. -/
def releaseWait (s : State) : State :=
  let r := s.ports.wait.foldl releaseSeg (updPorts s (fun d => { d with wait := [] }), [])
  updPorts r.1 (fun d => { d with wait := r.2 })

/-- Put a segment behind those that wait. -/
def waitSeg (s : State) (f : TxFrame) : State := releaseWait (updPorts s (fun d => { d with wait := d.wait ++ [f] }))

/-- Payload of a full segment for a segment size basis (R291, R292). -/
def payloadOf (mss : Nat) (peer : IpAddr) : Nat := Nat.max 1 (mss - tcpHead peer)

/-- The segment size basis of a management session, within the path MTU (R292, R344). -/
def sessMss (s : State) (d : Session) : Nat :=
  match AMap.find s.net.pmtu d.peer with | none => d.mss | some m => Nat.min d.mss (m + 18)

/-- The segments of a text on a management session. -/
def textSegs (s : State) (d : Session) (q : Fin 8) (len : Nat) : List TxFrame :=
  let n := payloadOf (sessMss s d) d.peer
  (List.range (Nat.max 1 (ceilDiv len n))).map (fun k =>
    ipFrame s (sessFlow d) q (.mgmt d.serial) (tcpHead d.peer + tagLen d.ifc + Nat.min n (len - k * n)))

/-- Characters leave for a session: on a management session in segments of a queue (R306). -/
def putText (s : State) (x : SessId) (q : Fin 8) (t : String) : State :=
  let s := emit s (.text x t)
  match x, getSess s x with
  | .mgmt _, some d => releaseWait (updPorts s (fun c => { c with wait := c.wait ++ textSegs s d q t.utf8ByteSize }))
  | _, _ => s

/-! ### A member that stops carrying (R280) -/

/-- A link protocol's frame: it belongs to its port. -/
def ofLink : NetItem → Bool
  | .lldp _ | .lacp _ => true
  | _ => false

/-- The MAC may send a frame on a port now: a port outside the pair's traffic sends link protocols alone (R274, R278, R282), and
no IP frame goes while the pair restarts (R323). -/
def sendable (s : State) (p : PortId) (f : TxFrame) : Bool :=
  ofLink f.item || (! standbyRx s p && ! (f.ip.isSome && pairQuiet s))

/-- Frames queued on a port that no longer carries the pair's traffic move to the one that does (R280). -/
def movePort (s : State) (p : PortId) : State :=
  if portInUse s p.other && ! portInUse s p then
    let fs := (getPort s p).tx.filter (fun f => ! ofLink f.item)
    let s := updPort s p (fun d => { d with tx := d.tx.filter (fun f => ofLink f.item) })
    fs.foldl (fun s f => enqueue s p.other (fitFrame s p.other f)) s
  else s

/-- Both ports. -/
def moveFrames (s : State) : State := movePort (movePort s .p0) .p1

end Sys2Proof.Machine
end

