-- ==== Sys2Proof/Machine/Ops.lean ====
section
/-!
DEFINITION. The event log with its lines on the consoles, the staging of the metadata log, the boot ledger's records and the
presence window.
-/

namespace Sys2Proof.Machine

open Sys2Proof

/-! ### The event log -/

/-- What an event's record names beside its code. -/
structure EvArgs where
  /-- The island named by its details. -/
  island : Option Island := none
  /-- STALL. -/
  stall : Option Nat := none
  /-- PORT. -/
  port : Option PortId := none
  /-- REASON. -/
  reason : Nat := 0
  /-- D words. -/
  details : List Int := []
  /-- AT_START, where a rule says so (R74, R83). -/
  atStart : Bool := false
deriving DecidableEq, Repr

/-- The health counter an event adds to (ch. 14, Health counters table). -/
def evHealth : Ev → Option HealthCtr
  | .pageRebuilt => some .pagesRebuilt
  | .pageLost => some .pagesLost
  | .blockRefreshed | .patrolRelocate => some .refreshes
  | .feedLost => some .feedLosses
  | .feedChangeover => some .changeovers
  | .levelChange => some .levelChanges
  | .thermalHalt => some .thermalHalts
  | .holdupWeak => some .holdupWeak
  | .lidOpen => some .lidOpens
  | .presenceFault => some .presenceFaults
  | _ => none

/-- Add to a health counter, saturating at 64 bits. -/
def addHealth (s : State) (c : HealthCtr) (n : Nat) : State :=
  updUpkeep s (fun u => { u with ctrs := AMap.set u.ctrs c (sat (AMap.getD u.ctrs c 0 + n) (2 ^ 64 - 1)) })

/-- The metadata bed takes copies of event records: from S10 on, in no state of R850's list; while writes are gated by cold no
program is made (R128). -/
def bedWritable (s : State) : Bool :=
  match s.phase with
  | .starting => decide (10 ≤ s.boot.doneStep) && ! s.power.coldGate
  | .ready | .draining _ => ! s.power.coldGate
  | .flushing _ => true
  | _ => false

/-- Copy the waiting records to the metadata bed (R850). -/
def copyLog (s : State) : State :=
  if bedWritable s then
    updLog s (fun l => { l with bed := (l.ring.take l.waiting ++ l.bed).take 262144, waiting := 0 })
  else s

/-- An unsolicited line of a session (R244 to R246). -/
def putLine (s : State) (x : SessId) (q : Fin 8) (t : String) : State :=
  match getSess s x with
  | none => s
  | some d => putText s x q (unsolicited d t)

/-- An event line of a session, as a record and as characters. -/
def putEvent (s : State) (x : SessId) (e : EventRec) : State := putLine (emit s (.eventLine x e)) x 5 (eventText e)

/-- The window of event lines of a session has closed: what it dropped is reported (R245). -/
def closeEvWindow (s : State) (x : SessId) : State :=
  match getSess s x with
  | none => s
  | some d =>
    let s := if 0 < d.evDropped then putLine (emit s (.eventsDropped x d.evDropped)) x 5 (droppedText d.evDropped) else s
    updSess s x (fun d => { d with evWindow := none, evSent := 0, evDropped := 0 })

/-- Offer an event line to one session: 50 in a window of 1 s, the rest dropped (R244, R245). -/
def eventLine (e : EventRec) (s : State) (x : SessId) : State :=
  match getSess s x with
  | none => s
  | some d =>
    if ¬ d.follow then s
    else
      let s := match d.evWindow with | some t => if t + sec ≤ now s then closeEvWindow s x else s | none => s
      let d := (getSess s x).getD d
      match d.evWindow with
      | none => putEvent (updSess s x (fun d => { d with evWindow := some s.clock.ledger, evSent := 1, evDropped := 0 })) x e
      | some _ =>
        if d.evSent < 50 then putEvent (updSess s x (fun d => { d with evSent := d.evSent + 1 })) x e
        else updSess s x (fun d => { d with evDropped := d.evDropped + 1 })

/-- Append a record to the FRAM ring under the next SEQ (R850, R851), and send it as event lines (R244). -/
def putRecord (s : State) (e : EventRec) : State :=
  let e := { e with seq := s.log.nextSeq }
  let s := updLog s (fun l => { l with ring := (e :: l.ring).take 2048, nextSeq := l.nextSeq + 1,
                                       waiting := Nat.min (l.waiting + 1) 2048 })
  let s := if 1024 ≤ s.log.waiting then copyLog s else s
  (AMap.keys s.con.sessions).foldl (eventLine e) s

/-- The record of an event raised now. -/
def mkRecord (s : State) (ev : Ev) (a : EvArgs) : EventRec :=
  { ev := ev, sev := evSev ev, atStart := a.atStart, carried := false, seq := 0, ltime := now s, wall := wallNow s
    island := evIsland ev a.island a.port, stall := a.stall, port := a.port, reason := a.reason, details := a.details }

/-- Log an event: in FRAM once SVC runs, in the gatehouse's buffer of the 64 newest before S03 (R850, R852); COUNTER_HALF
is never recorded (R854). -/
def logEv (s : State) (ev : Ev) (a : EvArgs := {}) : State :=
  if ev = .counterHalf then s
  else
    let s := match evHealth ev with | some c => addHealth s c 1 | none => s
    let e := mkRecord s ev a
    if svcRuns s then putRecord s e
    else updLog s (fun l => { l with carried := ({ e with carried := true } :: l.carried).take 64 })

/-! ### The metadata log (ch. 13) -/

/-- Length of a log record: a 32-byte header and a payload padded to 8 bytes. -/
def logLen : LogRec → Nat
  | .map ps _ => 32 + 8 * ps.length
  | .indexSet _ _ => 32 + 48
  | .indexDel _ _ => 32 + 32
  | .band _ => 32 + 32
  | .ckptSeg _ _ _ => 32 + 32
  | .config => 32 + 64
  | .counters => 32 + 48
  | .stall _ => 32 + 64
  | .meter => 32 + 128
  | .replayed _ => 32 + 8
  | .parcel _ => 32 + 16

/-- Bytes of staged log records. -/
def stagedBytes (s : State) : Nat := listSum (s.media.staged.map (fun e => e.bytes))

/-- Issue a program. -/
def issue (s : State) (p : Prog) : State := updMedia s (fun m => { m with progs := m.progs ++ [p] })

/-- Issue the staged log records as one program (R602). -/
def issueLog (s : State) : State :=
  if s.media.staged.isEmpty then s
  else issue (updMedia s (fun m => { m with staged := [] })) (.log s.media.staged.reverse)

/-- Put a record behind the staged ones. -/
def putLog (s : State) (r : LogRec) : State :=
  updMedia s (fun m => { m with
    staged := { lsn := m.lsn, prev := m.lastLsn, bytes := logLen r, what := r } :: m.staged
    lsn := m.lsn + logLen r, lastLsn := m.lsn })

/-- Some counter comes near its mark: the margin, half of the 2^20, is the model's (DESIGN CHOICE, log 2). -/
def marksDue (s : State) : Bool :=
  let m := s.media.marks
  [(s.kv.nextInc, m.inc), (s.kv.nextWseq, m.wseq), (s.media.pseq, m.pseq), (s.kv.nextTicket, m.ticket),
    (s.kv.nextHandle, m.handle), (s.stalls.nextFreeze, m.freeze)].any (fun x => decide (x.2 ≤ x.1 + 2 ^ 19))

/-- A new COUNTERS record before any counter reaches its mark: every mark 2^20 above its counter (R600). -/
def renewMarks (s : State) : State :=
  if marksDue s then
    putLog (updMedia s (fun d => { d with marks :=
      { inc := s.kv.nextInc + 2 ^ 20, wseq := s.kv.nextWseq + 2 ^ 20, pseq := d.pseq + 2 ^ 20, ticket := s.kv.nextTicket + 2 ^ 20
        handle := s.kv.nextHandle + 2 ^ 20, freeze := s.stalls.nextFreeze + 2 ^ 20 } })) .counters
  else s

/-- Stage a record of the metadata log, with a COUNTERS record when one is due; 4 MiB of staged records are programmed (R600,
R602). -/
def stageLog (s : State) (r : LogRec) : State :=
  let s := renewMarks (putLog s r)
  if 4194304 ≤ stagedBytes s then issueLog s else s

/-! ### The boot ledger (ch. 05) -/

/-- Code of a step result (ch. 05, Step result encoding). -/
def resultCode : StepResult → Nat
  | .ok => 0 | .okAlt => 1 | .degraded => 2 | .fail => 3 | .timeout => 4 | .skipped => 5 | .aborted => 6
  | .interrupted => 7 | .foundOpen => 8

/-- A step's failure count. -/
def stepFails (s : State) (n : Nat) : Nat := AMap.getD s.boot.blk.stepFails n 0

/-- The failure count that the records of a step carry: for S09 and S17 the highest of the units (R191). -/
def stepCount (s : State) (n : Nat) : Nat :=
  match n with
  | 9 => listMax (s.boot.blk.chanFails.map (fun x => x.2))
  | 17 => Nat.max s.boot.blk.portFails.a s.boot.blk.portFails.b
  | n => stepFails s n

/-- Append a step record to the ring of 2,016 (R211). -/
def putStep (s : State) (startNo step : Nat) (k : RecKind) (r : StepResult) (fcount detail : Nat) : State :=
  updBoot s (fun b => { b with
    ring := ({ startNo := startNo, ltime := s.clock.ledger, step := step, kind := k, result := r, fcount := fcount,
               detail := detail, recSeq := b.recSeq } :: b.ring).take 2016
    recSeq := (b.recSeq + 1) % 2 ^ 32 })

/-- Write the start-state block: the copies alternately, the one not written last first, UPDATE_SEQ raised (R209). -/
def writeBlock (s : State) (f : StartBlock → StartBlock) : State :=
  updBoot s (fun b =>
    let blk := { f b.blk with updateSeq := b.blk.updateSeq + 1 }
    { b with blk := blk, copies := if blk.updateSeq % 2 = 0 then { b.copies with a := blk } else { b.copies with b := blk } })

/-! ### The presence window (ch. 02) -/

/-- Causes of a closing (ch. 20, PRESENCE_CLOSED), in REASON order. -/
inductive CloseWhy
  | expiry | command | fault | halt | powerFail | restart
deriving DecidableEq, Repr

/-- REASON of PRESENCE_CLOSED. -/
def closeCode : CloseWhy → Nat
  | .expiry => 1 | .command => 2 | .fault => 3 | .halt => 4 | .powerFail => 5 | .restart => 6

/-- The window is open (R76). -/
def windowOpen (s : State) : Bool := match s.bay.window with | none => false | some t => decide (now s < t)

/-- Close an open window and log it (R78). -/
def closeWindow (s : State) (why : CloseWhy) : State :=
  match s.bay.window with
  | none => s
  | some _ => logEv (updBay s (fun b => { b with window := none, windowMark := false })) .presenceClosed
      { reason := closeCode why }

/-- Causes of a presence fault (ch. 20, PRESENCE_FAULT), in REASON order. -/
inductive FaultWhy
  | buttonDiscrepancy | stuck | lidDiscrepancy
deriving DecidableEq, Repr

/-- REASON of PRESENCE_FAULT. -/
def faultCode : FaultWhy → Nat
  | .buttonDiscrepancy => 1 | .stuck => 2 | .lidDiscrepancy => 3

/-- A presence fault: FAULT_SEEN, the event, and the closing of an open window (R78, SVC.BAY.STATUS). -/
def presenceFault (s : State) (why : FaultWhy) (atStart : Bool) : State :=
  closeWindow (logEv (updBay s (fun b => { b with faultSeen := true })) .presenceFault
    { reason := faultCode why, atStart := atStart }) .fault

/-- An address as detail words D0 and D1 (R853). -/
def addrWords (a : IpAddr) : List Int := [((a.toNat / 2 ^ 64 : Nat) : Int), ((a.toNat % 2 ^ 64 : Nat) : Int)]

/-- The first 8 bytes of a fingerprint as a detail word. -/
def fpWord (fp : List Byte) : Int := ((fp.take 8).foldl (fun n b => 256 * n + b.toNat) 0 : Nat)

end Sys2Proof.Machine
end

