-- ==== Sys2Proof/Machine/PortOps.lean ====
section
/-!
DEFINITION. Operations on the two ports (ch. 07): speeds, the pair, the counters, the transmit queues, the segments of a
connection's responses, failover.
-/

namespace Sys2Proof.Machine

open Sys2Proof

/-! ### Counters -/

/-- A hardware counter of a port. -/
def hwCtr (s : State) (p : PortId) (c : Ctr) : HwCtr := AMap.getD (getPort s p).hw c {}

/-- A counter that moves to a count: COUNTER_HALF when bit 31 turns 1, and at the top SAT and COUNTER_SATURATED (R301). -/
def setCount (s : State) (p : PortId) (c : Ctr) (n : Nat) : State :=
  let h := hwCtr s p c
  let top := decide (n > 0xFFFFFFFF)
  let half := decide (h.count < 0x80000000) && decide (0x80000000 ≤ n)
  let s := updPort s p (fun d => { d with
    hw := AMap.set d.hw c { count := Nat.min n 0xFFFFFFFF, sat := h.sat || top }
    half := if half && ¬ d.half.contains c then c :: d.half else d.half })
  if top && ¬ h.sat then logEv s .counterSaturated { port := some p, details := [ctrCode c] } else s

/-- Count events on a port's counter. -/
def countHw (s : State) (p : PortId) (c : Ctr) (n : Nat) : State :=
  if n = 0 then s else setCount s p c ((hwCtr s p c).count + n)

/-- The 64-bit value of a counter (R303). -/
def statValue (s : State) (p : PortId) (c : Ctr) : Nat :=
  AMap.getD (getPort s p).acc c 0 + (hwCtr s p c).count

/-- Receive size bin of a length (R300). -/
def rxBin (len : Nat) : Ctr :=
  if len ≤ 64 then .rxSize64 else if len ≤ 127 then .rxSize65_127 else if len ≤ 255 then .rxSize128_255
  else if len ≤ 511 then .rxSize256_511 else if len ≤ 1023 then .rxSize512_1023
  else if len ≤ 1518 then .rxSize1024_1518 else if len ≤ 2047 then .rxSize1519_2047
  else if len ≤ 4095 then .rxSize2048_4095 else .rxSize4096_9216

/-- Transmit size bin of a length (R300). -/
def txBin (len : Nat) : Ctr :=
  if len ≤ 64 then .txSize64 else if len ≤ 127 then .txSize65_127 else if len ≤ 255 then .txSize128_255
  else if len ≤ 511 then .txSize256_511 else if len ≤ 1023 then .txSize512_1023
  else if len ≤ 1518 then .txSize1024_1518 else if len ≤ 2047 then .txSize1519_2047
  else if len ≤ 4095 then .txSize2048_4095 else .txSize4096_9216

/-- Counter of frames sent from a queue. -/
def txQueueCtr (q : Fin 8) : Ctr :=
  match q with
  | 0 => .txQ0 | 1 => .txQ1 | 2 => .txQ2 | 3 => .txQ3 | 4 => .txQ4 | 5 => .txQ5 | 6 => .txQ6 | 7 => .txQ7

/-! ### Levels, policy and THROTTLED -/

/-- Code of a level (ch. 03, Power levels table). -/
def levelCode : Level → Nat
  | .l0 => 0 | .l1 => 1 | .l2 => 2 | .l3 => 3

/-- The level with a code. -/
def levelOfCode (n : Nat) : Level := match n with | 0 => .l0 | 1 => .l1 | 2 => .l2 | _ => .l3

/-- The committed PWR.POLICY in use: the gatehouse's copy, or the factory values, until S03 has completed (R137). -/
def policyNow (s : State) : Word64 :=
  if stepDone s 3 || decide (s.phase = .safe) || decide (s.phase = .hold) then cfgWord s .policy
  else s.power.policyCopy.getD (attrFactory .policy)

/-- A field of a policy word. -/
def policyField (w : Word64) (name : String) : Nat :=
  match attrField? .policy name with | none => 0 | some f => fieldGet f w

/-- LEVEL_MAX. -/
def levelMax (s : State) : Level := levelOfCode (policyField (policyNow s) "LEVEL_MAX")

/-- THROTTLED for the level and the thermal state (R114, R133). -/
def powerThrottled (s : State) : Bool :=
  decide (levelCode (levelMax s) < levelCode s.power.level)
    || (match s.power.thermal with | .throttle1 | .throttle2 => true | _ => false)

/-- A port's LLDP allocation becomes void: its feed is lost or its link goes down (R95). -/
def voidAlloc (s : State) (p : PortId) : State :=
  updPower s (fun d => { d with feeds := d.feeds.upd p (fun f => { f with alloc := none, late := none, echo := 0 }) })

/-- Both ports' allocations become void. -/
def voidAllocs (s : State) : State := voidAlloc (voidAlloc s .p0) .p1

/-! ### Speeds -/

/-- Highest SPEED code a level permits (ch. 03, Power levels table; ch. 07, Link modes table). -/
def levelSpeed (l : Level) : Nat := match l with | .l0 | .l1 => 5 | .l2 => 3 | .l3 => 2

/-- Line rate of a SPEED code in Mbit/s (ch. 07, Link modes table). -/
def speedMbit (c : Nat) : Nat :=
  match c with | 1 => 100 | 2 => 1000 | 3 => 2500 | 4 => 5000 | 5 => 10000 | _ => 0

/-- The advertised SPEED codes, highest first (R268). -/
def advSpeeds (s : State) (p : PortId) : List Nat :=
  [5, 4, 3, 2, 1].filter (fun c =>
    (cfgField s (.phyCfg p) "ADV").testBit (c - 1) && decide (c ≤ levelSpeed s.power.level)
    && (! s.boot.portAlt.get p || decide (c ≤ 3)))

/-- Links are live from S17 of a start until they are held down in a halt (R38, R44). -/
def linksLive (s : State) : Bool :=
  match s.phase with
  | .starting => decide (17 ≤ fgStep s)
  | .ready | .draining _ => true
  | _ => false

/-- A new training attempt begins with the full advertisement (R270), PAUSE and ASM_DIR as 1 (R314); a port that failed at S17
stays down (R876). -/
def train (s : State) (p : PortId) : State :=
  if (getPort s p).heldDown then s
  else updPort s p (fun d => { d with training := true, dropped := [], advertised := advSpeeds s p, advPause := (true, true) })

/-! ### LLDP (ch. 08, TLVs sent) -/

/-- Entry figure of a level, 0.1 W: its draw ceiling (ch. 03, Power levels table). -/
def levelEntry : Level → Nat
  | .l0 => 620 | .l1 => 440 | .l2 => 250 | .l3 => 120

/-- The power the drive requests: the ceiling of LEVEL_MAX, or 12.0 W while it starves (R106, R108). -/
def requested (s : State) : Nat := if s.power.starvingSince.isSome then 120 else levelEntry (levelMax s)

/-- The characters of CORE.LLDP.NAME0 to NAME7, NUL-padded. -/
def lldpBytes (s : State) : List Nat :=
  (List.finRange 8).flatMap (fun k => (List.range 8).map (fun i => (cfgWord s (.lldpName k)).toNat / 2 ^ (8 * i) % 256))

/-- The System Name: the configured characters, or `w128-` and the serial number. -/
def sysName (s : State) : List Nat :=
  let n := (lldpBytes s).takeWhile (fun b => decide (b ≠ 0))
  if (lldpBytes s).all (fun b => decide (b = 0)) then ("w128-" ++ toString Config.serial).toList.map Char.toNat else n

/-- The running main-firmware version. -/
def mainVersion (s : State) : Nat :=
  match s.fw.running with | .a => s.fw.a.version | .b => s.fw.b.version | .recovery => Config.recoveryVersion

/-- The Management Address TLVs: the first IPv4 address of DEF4's interface and the first global IPv6 address of DEF6's; a family
without such an interface is left out (R332). -/
def mgmtAddrs (s : State) : List IpAddr :=
  let first (v4 : Bool) : List IpAddr := match defIf s v4 with
    | none => []
    | some k => (((ifAddrs s k).find? (fun r => decide (isV4 r.addr = v4) && decide (r.origin ≠ .linkLocal))).map (fun r => r.addr)).toList
  first true ++ first false

/-- An LLDPDU of a port with a Time To Live. -/
def lldpPdu (s : State) (p : PortId) (ttl : Nat) : NetItem :=
  .lldp { chassis := Config.macAddr .p0, portId := Config.macAddr p, ttl := ttl, port := p, name := sysName s
          variantC := Config.variantC, fw := mainVersion s, mgmt := mgmtAddrs s, speeds := (getPort s p).advertised
          maxFrame := cfgField s (.macCfg p) "MAX_FRAME" + 4, request := requested s, echo := (s.power.feeds.get p).echo }

/-! ### Connections' segments (R307) -/

/-- A GET's response that carries part of a value: ARG holds the value's length (R306, R449). -/
def partOfValue (r : Resp) : Bool := decide (r.data.length < r.arg)

/-- The queue of a response or event frame (R306). -/
def respQueue (r : Resp) : Fin 8 :=
  if r.kind = 6 then (if r.opcode = 1 then 7 else 4)
  else if r.kind = 2 ∧ r.opcode = 0x13 then 7
  else if r.kind = 2 ∧ r.opcode = 0x02 ∧ r.data.length > 0 then (if r.data.length ≤ 16384 ∧ ¬ partOfValue r then 3 else 0)
  else if r.kind = 2 ∧ r.opcode = 0x0D then 3
  else if r.kind = 2 ∧ (r.opcode = 0x0E ∨ r.opcode = 0x05) then 1
  else 4

/-- Payload a full segment of a connection carries (R291, R292). -/
def segPayload (c : Conn) : Nat := payloadOf c.mss c.peer

/-- The queue of what a connection sends. -/
def sendQueue : SendItem → Fin 8
  | .resp r => respQueue r
  | .alert | .ticket _ => 4

/-- Bytes of what a connection sends; those of an alert and of a ticket are not stated (log 1). -/
def sendLen (g : Gen) : SendItem → Nat
  | .resp r => respLen g r
  | .alert => Config.itemLen 6
  | .ticket _ => Config.itemLen 24

/-- Segments it takes. -/
def segCount (c : Conn) (x : SendItem) : Nat := Nat.max 1 (ceilDiv (sendLen c.gen x) (segPayload c))

/-- Bytes of it in its segment `k`. -/
def segBytes (c : Conn) (x : SendItem) (k : Nat) : Nat :=
  Nat.min (segPayload c) (sendLen c.gen x - k * segPayload c)

/-- The item of its segment `k`. -/
def segItem (c : Conn) (i : Nat) (x : SendItem) (k : Nat) : NetItem :=
  match x with
  | .resp r => .resp i r k (segCount c x)
  | .alert => .tlsAlert i
  | .ticket n => .tlsTicket i n

/-- The bytes of the stream that its segment `k` carries; those of an alert and of a ticket are not stated (log 1). -/
def segStream (c : Conn) (x : SendItem) (k : Nat) : List Byte :=
  match x with
  | .resp r => ((respBytes c.gen r).drop (k * segPayload c)).take (segBytes c x k)
  | .alert | .ticket _ => []

/-- What a segment in a queue carries, with its number. -/
def segOf : NetItem → Option (Nat × SendItem × Nat)
  | .resp i r k _ => some (i, .resp r, k)
  | .tlsAlert i => some (i, .alert, 0)
  | .tlsTicket i n => some (i, .ticket n, 0)
  | _ => none

/-- Release one segment of a connection to the MAC, if R307 lets it go: 256 KiB at most in the queues, and no earlier
segment in another queue. -/
def releaseOne (s : State) (i : Nat) : Option State :=
  match getConn s i with
  | none => none
  | some c =>
    match c.txWait with
    | [] => none
    | (r, k) :: rest =>
      let q := sendQueue r
      let n := segBytes c r k
      let f := ipFrame s (connFlow i c) q (segItem c i r k) (tcpHead c.peer + n + tagLen c.ifc)
      match ipPort s (headHash (ipHead s (connFlow i c) q)) with
      | none => none
      | some p =>
        if c.txBytes + n > 262144 ∨ otherQueue s (false, i) q p then none
        else
          let wait := if k + 1 < segCount c r then (r, k + 1) :: rest else rest
          let s := useNeigh s c.ifc (hopOf s c.ifc c.peer)
          some (enqueue (updConn s i (fun c => { c with txWait := wait, txBytes := c.txBytes + n })) p (fitFrame s p f))

/-- Release as many segments as R307 lets go, up to a bound of steps. -/
def releaseN : Nat → State → Nat → State
  | 0, s, _ => s
  | n + 1, s, i => match releaseOne s i with | none => s | some s' => releaseN n s' i

/-- Release a connection's waiting segments. 256 KiB hold at most 4,500 segments of the smallest frame limit. -/
def release (s : State) (i : Nat) : State := releaseN 4500 s i

/-- A connection with nothing in flight takes a smaller path MTU into its segment size (R344). -/
def fitPath (s : State) (c : Conn) : Conn :=
  match AMap.find s.net.pmtu c.peer with
  | none => c
  | some m => if c.txWait.isEmpty ∧ c.txBytes = 0 then { c with mss := Nat.min c.mss (m + 18) } else c

/-- A frame as first sent: a RESPONSE carries THROTTLED while the level or the temperature throttles (R114, R133). -/
def flagged (s : State) (r : Resp) : Resp :=
  if r.kind = 2 then { r with throttled := r.throttled || powerThrottled s } else r

/-- Send a response or event frame on a connection. -/
def sendResp (s : State) (i : Nat) (r : Resp) : State :=
  release (updConn s i (fun c => { fitPath s c with txWait := c.txWait ++ [(.resp r, 0)] })) i

/-- Put a discarded segment back at the front of what its connection still has to send: TCP sends it again (R276). A data
connection's stands with the connection, a management session's and a closing one with what waits. -/
def unsend (s : State) (f : TxFrame) : State :=
  match segOf f.item with
  | some (i, r, k) =>
    updConn s i (fun c =>
      { c with txBytes := c.txBytes - segBytes c r k,
               txWait := (match c.txWait with
                 | (r', k') :: rest => if r' = r ∧ k < k' then (r, k) :: rest else (r, k) :: (r', k') :: rest
                 | [] => [(r, k)]) })
  | none => if (tcpOf f.item).isSome then updPorts s (fun d => { d with wait := f :: d.wait }) else s

/-- Discard a port's queued frames and count them in TX_DISCARD (R276, R326). -/
def discardTx (s : State) (p : PortId) : State :=
  let fs := (getPort s p).tx
  let s := countHw s p .txDiscard fs.length
  fs.reverse.foldl unsend (updPort s p (fun d => { d with tx := [] }))

/-- Release what every connection still has to send. -/
def releaseAll (s : State) : State := releaseWait ((AMap.keys s.proto.conns).foldl release s)

/-! ### The end of a connection (R407) -/

/-- A read or a buffer serves a session of a connection. -/
def readsFor (i : Nat) (w : ReadFor) : Bool :=
  match w with | .op _ => false | .spec _ c _ => decide (c = i) | .ahead c _ => decide (c = i)

/-- The requests of a connection that a draining stall holds are not admitted yet: they go with their connection, and so do its
read-ahead buffers. -/
def dropHeld (s : State) (i : Nat) : State :=
  let s := updMedia s (fun m => { m with aheads := m.aheads.filter (fun a => ! readsFor i a.who)
                                         reads := m.reads.filter (fun r => ! readsFor i r.1) })
  updKv s (fun d => { d with ops := d.ops.filter (fun o => ! (decide (o.2.conn = i) && decide (o.2.phase = .held))) })

/-- Reset a TCP connection on its flow. -/
def sendReset (s : State) (i : Nat) (c : Conn) : State := sendFlow s (connFlow i c) 4 (.reset i) (Config.itemLen 6)

/-- Send a connection's closing segment, behind every earlier one (R307). -/
def sendClose (s : State) (i : Nat) (c : Conn) : State :=
  waitSeg s (ipFrame s (connFlow i c) 4 (.close i) (Config.itemLen 6))

/-- The alert that ends a TLS session goes out behind what the connection still has to send (R404). -/
def sendAlert (s : State) (i : Nat) : State := release (updConn s i (fun c => { c with txWait := c.txWait ++ [(.alert, 0)] })) i

/-- What is queued of a TCP connection, and what waits, goes with it. -/
def dropSegs (s : State) (x : Bool × Nat) : State :=
  let keep (f : TxFrame) : Bool := decide (tcpOf f.item ≠ some x)
  let s := [PortId.p0, PortId.p1].foldl (fun s p => updPort s p (fun d => { d with tx := d.tx.filter keep })) s
  updPorts s (fun d => { d with wait := d.wait.filter keep })

/-- Reset a connection: its sessions end, what it still had to send goes, admitted requests run on (R407). -/
def resetConn (s : State) (i : Nat) : State :=
  match getConn s i with
  | none => s
  | some c => sendReset (dropSegs (dropHeld (updProto s (fun d => { d with conns := AMap.del d.conns i })) i) (false, i)) i c

/-- A closed connection whose last segment has been sent goes. -/
def endClosed (s : State) (i : Nat) : State :=
  match getConn s i with
  | none => s
  | some c =>
    if c.stage = .closed ∧ c.txWait.isEmpty ∧ c.txBytes = 0 then
      sendClose (updProto s (fun d => { d with conns := AMap.del d.conns i })) i c
    else s

/-- Close a connection once what it has to send is sent: its sessions end at once (R407). -/
def closeConn (s : State) (i : Nat) : State :=
  match getConn s i with
  | none => s
  | some _ =>
    endClosed (dropHeld (updConn s i (fun c => { c with stage := .closed, chans := [], scan := [] })) i) i

/-- Connections that are not closed. -/
def liveConns (s : State) : List (Nat × Conn) := s.proto.conns.filter (fun c => decide (c.2.stage ≠ .closed))

/-- Reset every connection of a kind. -/
def resetWhere (s : State) (f : Conn → Bool) : State :=
  ((liveConns s).filter (fun c => f c.2)).foldl (fun s c => resetConn s c.1) s

/-! ### Failover -/

/-- Gratuitous ARP and unsolicited Neighbour Advertisement for every address, twice (R276). -/
def announce (s : State) : State :=
  let one (s : State) : State := (usableAddrs s).foldl (fun s x =>
    let it := NetItem.neighbour x.1 x.2.addr (Config.macAddr .p0) none
    if isV4 x.2.addr then sendPlain s x.1 6 it 1 .broadcast else sendIp s x.1 6 it 2) s
  one (one s)

/-- Make a port the active one: what was queued on the old one is discarded and sent again by TCP (R276). -/
def failoverTo (s : State) (p : PortId) : State :=
  let s := match s.ports.active with
    | some q => if q = p then s else discardTx s q
    | none => s
  let s := announce (updPorts s (fun d => { d with active := some p }))
  releaseAll (logEv (moveFrames s) .bondFailover { port := some p })

/-- A port has lost its link: its allocation is void (R95), what was queued is discarded, and the other port takes over
where the rules say (R276, R280, R325). -/
def portLost (s : State) (p : PortId) : State :=
  let wasActive := decide (s.ports.active = some p)
  let s := updPort (voidAlloc s p) p (fun d => { d with
    link := false, speed := 0, snr := 0, linkSince := none, lacp := .notAgg, lacpPartner := none, lacpAt := none
    rx := none, paused := [], q7Since := none })
  if wasActive then
    if portUp s p.other && ! aggNow s then failoverTo s p.other
    else
      let s := discardTx s p
      let s := if aggNow s then updPorts s (fun d => { d with active := some p.other })
               else updPorts s (fun d => { d with active := none })
      releaseAll s
  else releaseAll (discardTx s p)

/-- Both members of the aggregate have link at different speeds: logged (R282). -/
def speedMismatch (s : State) : State :=
  let a := getPort s .p0
  let b := getPort s .p1
  if aggMode s ∧ a.link ∧ b.link ∧ a.speed ≠ b.speed then
    logEv s .lagSpeedMismatch { details := [(a.speed : Int), (b.speed : Int)] }
  else s

/-- A port's part in the pair has changed: frames follow (R280), and what waited goes on. -/
def settlePair (s : State) : State := releaseAll (moveFrames s)

/-- A port that has link takes its place in the pair when none is active; until S17 has ended the primary port takes it
from the other (R275). -/
def portGained (s : State) (p : PortId) : State :=
  let primary := decide (cfgField s .bondCfg "PRIMARY" = p.num)
  let s := match s.ports.active with
    | none => updPorts s (fun d => { d with active := some p })
    | some q =>
      if ! portUp s q || (primary && starting s && decide (s.boot.doneStep < 17)) then
        updPorts s (fun d => { d with active := some p })
      else s
  settlePair s

/-! ### The NET LED (R63) -/

/-- Both ports are configured, and one alone has link. -/
def oneDown (s : State) : Bool :=
  decide (cfgField s (.phyCfg .p0) "ENABLE" = 1) && decide (cfgField s (.phyCfg .p1) "ENABLE" = 1)
    && ((getPort s .p0).link != (getPort s .p1).link)

/-- An address of the drive is in conflict (R340). -/
def conflictNow (s : State) : Bool := s.net.ifs.any (fun x => x.2.addrs.any (fun r => decide (r.state = .conflict)))

/-- NET is off in Dormant (R317). -/
def netDark (s : State) : Bool := decide (s.phase = .dormant)

/-- NET shows green steady, apart from its blinks. -/
def netGreen (s : State) : Bool :=
  ((getPort s .p0).link || (getPort s .p1).link) && ! conflictNow s && ! oneDown s && ! (usableAddrs s).isEmpty

/-- A frame with FCS good was received or sent: NET goes off for 50 ms when it has been lit green for 50 ms. -/
def noteBlink (s : State) : State :=
  let t := s.clock.ledger
  let old (at_ : Option Nat) (us : Nat) : Bool := match at_ with | some a => decide (a + us ≤ t) | none => true
  if netGreen s && old s.bay.netBlinkAt 100000 && old (getPort s .p0).linkSince 50000 && old (getPort s .p1).linkSince 50000
  then updBay s (fun b => { b with netBlinkAt := some t })
  else s

/-- Both links are taken down and held (R38, R44): every frame still queued is discarded. -/
def holdLinks (s : State) : State :=
  [PortId.p0, PortId.p1].foldl (fun s p =>
    updPort (discardTx s p) p (fun d => { d with link := false, speed := 0, snr := 0, linkSince := none, training := false,
                                                 lacp := .notAgg, lacpPartner := none, lacpAt := none, rx := none,
                                                 paused := [], q7Since := none }))
    (updPorts (voidAllocs s) (fun d => { d with active := none, renegotiate := [], renegNow := none, pairQuiet := none }))

/-- A port loses link while the drive runs: LINK_DOWN, RETRAINS, and what the loss brings (R271, R272, R325). -/
def linkLoss (s : State) (p : PortId) : State :=
  portLost (updPort (logEv s .linkDown { port := some p }) p (fun d => { d with retrains := sat (d.retrains + 1) 255 })) p

/-- The next port of a renegotiation retrains: its link goes down and it advertises what the level permits. It waits while
the port before it has no link again (R113). -/
def renegotiateNext (s : State) : State :=
  match s.ports.renegNow, s.ports.renegotiate with
  | some _, _ => s
  | none, [] => s
  | none, p :: rest =>
    let had := (getPort s p).link
    let s := updPorts s (fun d => { d with renegotiate := rest, renegNow := if had then some p else none })
    train (if had then linkLoss s p else s) p

/-- A port has link again, or can no longer come up: the renegotiation goes on (R113). -/
def renegotiated (s : State) (p : PortId) : State :=
  renegotiateNext (if s.ports.renegNow = some p then updPorts s (fun d => { d with renegNow := none }) else s)

end Sys2Proof.Machine
end

