-- ==== Sys2Proof/Machine/HaltOps.lean ====
section
/-!
DEFINITION. Row messages on their way out (R715, R716), and the beginning of an orderly halt (R44, R45, R414, R714), which
the consoles, the power part and the firmware part all start.
-/

namespace Sys2Proof.Machine

open Sys2Proof

/-! ### Row messages -/

/-- The queue of a row message (ch. 16, Message type encoding). -/
def rowQueue : RowBody → Fin 8
  | .ack _ | .leave => 7
  | _ => 2

/-- A message waits for an ACK: every one but an ACK (R715). -/
def needsAck : RowBody → Bool
  | .ack _ => false
  | _ => true

/-- The interface of row traffic. -/
def rowIf (s : State) : IfNo := Fin.ofNat 9 (cfgField s .rowCfg "ROW_IF")

/-- A key derived from the row key, with an info string and the row ID (R701). -/
def rowSubkey (s : State) (info : String) : List Byte :=
  Config.hkdfSha384 (s.row.key.getD []) (asciiBytes info ++ leBytes 2 (cfgField s .rowCfg "ROW_ID"))

/-- The key of beacons. -/
def beaconKey (s : State) : List Byte := rowSubkey s "row-beacon"

/-- The key of the row transport. -/
def transportKey (s : State) : List Byte := rowSubkey s "row-dtls"

/-- The PSK identity of the row transport (ch. 16, Row transport). -/
def pskIdentity (s : State) : List Byte := asciiBytes "row" ++ [0] ++ leBytes 2 (cfgField s .rowCfg "ROW_ID")

/-- Put a row message on the wire, in the association of the row's PSK. -/
def rowWire (s : State) (m : RowMsg) : State :=
  sendIp s (rowIf s) (rowQueue m.body) (.row m (pskIdentity s) (transportKey s)) 3

/-- The payload length of a row message; the layouts that the spec leaves open count their data (log 52). -/
def bodyLen : RowBody → Nat
  | .mirrorPut o => o.key.key.length + 8 * o.tags.length + o.value.length
  | .reloc (.obj _ _ o) => o.key.length + 8 * o.tags.length + o.value.length
  | .reloc (.cutover _ _ st) => 8 * st.config.length + 8 * st.levels.length
      + listSum ((st.toWarden.1 ++ st.toTenant.1).map (fun m => m.body.length))
  | .relayPiece _ _ len => len
  | _ => 0

/-- How many messages carry a payload (R716). -/
def msgParts (b : RowBody) : Nat := Nat.max 1 (ceilDiv (bodyLen b) 8192)

/-- Messages to a peer without an ACK. -/
def unackedOf (s : State) (peer : Nat) : Nat := (s.row.unacked.filter (fun u => decide (u.msg.peer = peer))).length

/-- Send a message, or let it wait while 64 of the peer's are unacknowledged (R716). -/
def rowPost (s : State) (m : RowMsg) : State :=
  if needsAck m.body then
    if unackedOf s m.peer < 64 then
      rowWire (updRow s (fun d => { d with unacked := d.unacked ++ [{ msg := m, at_ := s.clock.ledger }] })) m
    else updRow s (fun d => { d with waiting := d.waiting ++ [m] })
  else rowWire s m

/-- Send one of the messages that carry a payload; its MSG_ID is the next of the drive's life. -/
def rowPart (peer refId : Nat) (body : RowBody) (s : State) (i : Nat) : State :=
  let m : RowMsg := { peer := peer, msgId := s.row.nextMsg, refId := refId, epoch := s.row.epoch, body := body, part := i
                      parts := msgParts body }
  rowPost (updRow s (fun d => { d with nextMsg := d.nextMsg + 1 })) m

/-- Send a payload of the drive's own to a peer, in consecutive messages of at most 8,192 bytes (R716). -/
def rowSend (s : State) (peer : Nat) (body : RowBody) (refId : Nat := 0) : State :=
  (List.range (msgParts body)).foldl (rowPart peer refId body) s

/-- The MSG_ID of the first of the messages that carry a payload. -/
def groupId (m : RowMsg) : Nat := m.msgId - m.part

/-- The leader's serial: the first of the membership. -/
def leaderOf (s : State) : Option Nat := (s.row.members.head?).map (fun m => m.serial)

/-- The member after a serial in the membership, wrapping. -/
def successorOf (s : State) (x : Nat) : Option Nat :=
  let ms := s.row.members.map (fun m => m.serial)
  match ms.dropWhile (fun y => decide (y ≠ x)) with
  | _ :: y :: _ => some y
  | [_] => match ms with | y :: _ => if y = x then none else some y | [] => none
  | [] => none

/-- LEAVE at the beginning of a leave: to the leader, or from the leader to the next member (R714). -/
def sendLeave (s : State) : State :=
  match s.row.state with
  | .member => match leaderOf s with | some l => rowSend s l .leave | none => s
  | .leader => match successorOf s Config.serial with | some n => rowSend s n .leave | none => s
  | _ => s

/-! ### GOING_AWAY -/

/-- The reason code (ch. 09, GOING_AWAY reason encoding) and the return hint in seconds (R45, R108, R316). -/
def goingCode : HaltReason → Nat × Nat
  | .halt => (1, 0)
  | .thermal => (2, 0)
  | .restart => (3, 40)
  | .starvation => (3, 0)
  | .dormant => (1, 0)

/-- The connection has an open session. -/
def sessionOpen (c : Conn) : Bool := match c.stage with | .open_ | .resync => true | _ => false

/-- GOING_AWAY on one connection, once (R414). -/
def goConn (r : HaltReason) (s : State) (i : Nat) : State :=
  match getConn s i with
  | none => s
  | some c =>
    if sessionOpen c && ! c.goingAway then
      let (code, hint) := goingCode r
      let ev : Resp :=
        match c.gen with
        | .kv1 => { kind := 6, opcode := 1, reason := code + 256 * Nat.min hint 255 }
        | _ => { kind := 6, opcode := 1, stall := c.stall.getD 0, generation := c.generation, reason := code, detailHi := hint }
      sendResp (updConn s i (fun c => { c with goingAway := true })) i ev
    else s

/-- GOING_AWAY on every data session and every management session (R44 step 1, R246). -/
def sendGoingAway (s : State) (r : HaltReason) : State :=
  let s := (AMap.keys s.proto.conns).foldl (goConn r) s
  let (code, hint) := goingCode r
  (AMap.keys s.con.sessions).foldl (fun s x =>
    match x with
    | .mgmt _ => putLine (emit s (.notice x (.goingAway code hint))) x 7 (goingText code hint)
    | _ => s) s

/-! ### The beginning of an orderly halt -/

/-- Record a gatehouse step of the present start, with the time since its S01. -/
def putGate (s : State) (n : Nat) (k : RecKind) (r : StepResult) : State :=
  updBoot s (fun b => { b with gateRecs := b.gateRecs ++ [{ startNo := b.gateStartNo, step := n, kind := k, result := r
                                                            elapsed := s.clock.ledger - b.s01At, rtc := b.s01Rtc }] })

/-- The open steps of a start that SVC runs: the foreground's, and the scan's (R199). -/
def openSteps (s : State) : List Nat :=
  match s.phase with
  | .starting => ([s.boot.fg] ++ s.boot.scan.toList).filter (fun n => decide (3 ≤ n))
  | _ => []

/-- End the open steps of a start as ABORTED (R218); S01 and S02 in the gatehouse's records. -/
def abortStep (s : State) : State :=
  let s := (openSteps s).foldl (fun s n =>
    putStep s s.boot.gateStartNo n .done .aborted (stepCount s n) 0) s
  if starting s ∧ (s.boot.fg = 1 ∨ s.boot.fg = 2) then putGate s s.boot.fg .done .aborted else s

/-- The last LLDPDU of a port before a halt, with Time To Live 0 (ch. 08, LLDP content table). -/
def lastLldp (s : State) (p : PortId) : State :=
  sendLink s p (lldpPdu s p 0) 4

/-- An orderly halt begins (R44): the window closes, GOING_AWAY goes out, beacons stop with LEAVE, admission stops. A halt
that is already under way, or a drive that is not running or held, takes no second one. -/
def beginHalt (s : State) (r : HaltReason) : State :=
  if running s || decide (s.phase = .hold) then
    let s := closeWindow (abortStep s) .halt
    let s := sendGoingAway s r
    let s := updRow (sendLeave s) (fun d => { d with beaconing := false })
    let s := lastLldp (lastLldp s .p0) .p1
    setPhase s (.draining r)
  else s

/-- The sessions, connections and links go without notice (R38, R47). -/
def cutOff (s : State) : State :=
  let s := updCon s (fun c => { c with sessions := [] })
  let s := updStalls s (fun c => { c with compose := [] })
  let s := updProto s (fun d => { d with conns := [], listening := false })
  let s := updRow s (fun d => { d with beaconing := false })
  [PortId.p0, PortId.p1].foldl (fun s p => updPort s p (fun d => { d with
    link := false, speed := 0, snr := 0, linkSince := none, training := false, tx := [], rx := none, lacp := .notAgg
    lacpPartner := none, lacpAt := none, paused := [], q7Since := none }))
    (updPorts (voidAllocs s) (fun d => { d with active := none, renegotiate := [], renegNow := none, pairQuiet := none,
                                                   wait := [] }))

/-- The drive restarts at once from S01 under R184: the next start begins with START_BEGIN. An open window closes; its mark
in FRAM stays for the record that S03 writes (R78). With a lead still connected, power has not been lost (R195). -/
def restartNow (s : State) : State :=
  let warm := s.power.lead.isSome || (starting s && s.boot.warm)
  let s := updBay s (fun b => { b with window := none })
  updBoot (setPhase (cutOff s) .restarting) (fun b => { b with warm := warm, fg := 0, scan := none })

end Sys2Proof.Machine
end

