-- ==== Sys2Proof/Machine/Lex.lean ====
section
/-!
DEFINITION. The characters a console line is made of (R228 to R232, R238, R240), its words, and the form of every command: what the
first checks of a line, and the check of its values, look at (R233).
-/

namespace Sys2Proof.Machine

open Sys2Proof

/-! ### Characters, tag and suffix -/

/-- A space, or HT, which is treated as one (R230). -/
def isSpace (b : Byte) : Bool := decide (b.toNat = 0x20) || decide (b.toNat = 0x09)

/-- An editing character of typed mode, which machine mode ignores (R230, R235). -/
def isEditing (b : Byte) : Bool := decide (b.toNat = 0x08) || decide (b.toNat = 0x7F) || decide (b.toNat = 0x15)

/-- A character that stands in a line (R230): printable, or HT. -/
def isLineChar (b : Byte) : Bool := (decide (0x20 ≤ b.toNat) && decide (b.toNat ≤ 0x7E)) || decide (b.toNat = 0x09)

/-- A character a line accepts (R230): one that stands in it, or an editing character. -/
def lineCharOk (b : Byte) : Bool := isLineChar b || isEditing b

/-- A decimal digit. -/
def isDigit (b : Byte) : Bool := decide (0x30 ≤ b.toNat) && decide (b.toNat ≤ 0x39)

/-- The value of a hexadecimal digit, in either case (R232). -/
def hexVal (b : Byte) : Option Nat :=
  let n := b.toNat
  if 0x30 ≤ n ∧ n ≤ 0x39 then some (n - 0x30)
  else if 0x41 ≤ n ∧ n ≤ 0x46 then some (n - 0x41 + 10)
  else if 0x61 ≤ n ∧ n ≤ 0x66 then some (n - 0x61 + 10)
  else none

/-- The tag of a machine-mode line: `#`, four decimal digits, a space (R238). -/
def lineTag (t : List Byte) : Option Nat :=
  match t with
  | h :: a :: b :: c :: d :: sp :: _ =>
    if decide (h.toNat = 0x23) && isSpace sp && [a, b, c, d].all isDigit then
      some ([a, b, c, d].foldl (fun n x => 10 * n + (x.toNat - 0x30)) 0)
    else none
  | _ => none

/-- The CRC suffix of a line: `*` and four hexadecimal digits at its end, with no space before the `*` (R240). -/
def lineSuffix (t : List Byte) : Option Nat :=
  match t.reverse with
  | d :: c :: b :: a :: star :: rest =>
    if decide (star.toNat = 0x2A) && ! ((rest.head?.map isSpace).getD false) then
      match hexVal a, hexVal b, hexVal c, hexVal d with
      | some a, some b, some c, some d => some (((a * 16 + b) * 16 + c) * 16 + d)
      | _, _, _, _ => none
    else none
  | _ => none

/-- What is wrong with a line before its words are read (R229, R230, R238, R240, R241), for a session's mode and CRC setting. Where
several hold, the spec gives no order; the model takes the first of LINE_TOO_LONG, BAD_CHAR, NO_TAG, CRC (log 46). -/
def lineFaultOf (machine crc : Bool) (t : List Byte) : Option ErrName :=
  if 255 < t.length then some .lineTooLong
  else if t.any (fun b => ! lineCharOk b) then some .badChar
  else if ! machine then none
  else if (lineTag t).isNone then some .noTag
  else match lineSuffix t with
    | some c => if crc16 (t.take (t.length - 5)) = c then none else some .crc
    | none => if crc then some .crcMissing else none

/-- A line without what machine mode adds: its tag, and its CRC suffix. -/
def lineBody (machine : Bool) (t : List Byte) : List Byte :=
  if machine then
    let u := if (lineSuffix t).isSome then t.take (t.length - 5) else t
    if (lineTag u).isSome then u.drop 6 else u
  else t

/-! ### Words (R231, Lexical elements table) -/

/-- Put a finished word before the words after it; an empty one is none. -/
def putWord (cur : List Byte) (ws : List String) : List String :=
  if cur.isEmpty then ws else String.ofList (cur.reverse.map (fun b => Char.ofNat b.toNat)) :: ws

/-- Words, from the characters left, the word under way (its last character first), and whether a string is open. -/
def splitWords : Bool → List Byte → List Byte → List String
  | _, cur, [] => putWord cur []
  | true, cur, c :: cs => splitWords (decide (c.toNat ≠ 0x22)) (c :: cur) cs
  | false, cur, c :: cs =>
    if c.toNat = 0x3B then putWord cur []
    else if isSpace c then putWord cur (splitWords false [] cs)
    else splitWords (decide (c.toNat = 0x22)) (c :: cur) cs

/-- The words of a line: separated by spaces, up to a comment (R231). -/
def lineWords (t : List Byte) : List String := splitWords false [] t

/-- A line that executes nothing and gets no answer: no words are left in it (R231). -/
def lineBlank (machine : Bool) (t : List Byte) : Bool := t.all lineCharOk && (lineWords (lineBody machine t)).isEmpty

/-! ### Operands -/

/-- A lower-case letter. -/
def isLower (c : Char) : Bool := decide ('a' ≤ c) && decide (c ≤ 'z')

/-- A word that is a flag: `-` and a keyword. -/
def isFlag (w : String) : Bool := match w.toList with | '-' :: c :: _ => isLower c | _ => false

/-- The key and the value of an argument, or the target and the value of a field assignment. -/
def keyValue (w : String) : Option (String × String) :=
  let cs := w.toList
  let k := cs.takeWhile (fun c => decide (c ≠ '='))
  if k.length < cs.length then some (String.ofList k, String.ofList (cs.drop (k.length + 1))) else none

/-- A word that is neither a flag nor an argument. -/
def isPlain (w : String) : Bool := ! isFlag w && (keyValue w).isNone

/-- The forms a value may have (Lexical elements table). -/
inductive ValueForm
  | num                                  -- a decimal, hexadecimal or binary value
  | numOr (w : String)                   -- one of these, or a word
  | word (ws : List String)
  | digits (lo hi : Nat)                 -- hexadecimal digits, even in number
  | str
  | addr
  | utc
  | any                                  -- a name of another table, which the operand shows
deriving DecidableEq, Repr

/-- Digits of a base, `_` allowed between them, from 1 up to a number of digits. -/
def digitRun (ok : Char → Bool) (hi : Nat) (cs : List Char) : Bool :=
  let n := (cs.filter ok).length
  cs.all (fun c => ok c || c == '_') && decide (1 ≤ n) && decide (n ≤ hi)
    && decide (cs.head? ≠ some '_') && decide (cs.getLast? ≠ some '_')
    && ! (cs.zip (cs.drop 1)).any (fun x => x.1 == '_' && x.2 == '_')

/-- A hexadecimal digit. -/
def isHexChar (c : Char) : Bool := c.isDigit || (decide ('a' ≤ c) && decide (c ≤ 'f')) || (decide ('A' ≤ c) && decide (c ≤ 'F'))

/-- A decimal, hexadecimal or binary value. -/
def isNumber (v : String) : Bool :=
  let dec (cs : List Char) := cs.all Char.isDigit && decide (1 ≤ cs.length) && decide (cs.length ≤ 20)
  match v.toList with
  | '0' :: 'x' :: cs => digitRun isHexChar 16 cs
  | '0' :: 'b' :: cs => digitRun (fun c => c == '0' || c == '1') 64 cs
  | '-' :: cs => dec cs
  | cs => dec cs

/-- A time `YYYY-MM-DDThh:mm:ss[.f…]Z` (R357). -/
def isUtc (v : String) : Bool :=
  let cs := v.toList
  let shape := (cs.take 19).map (fun c => if c.isDigit then 'd' else c)
  let frac := (cs.drop 19).dropLast
  decide (String.ofList shape = "dddd-dd-ddTdd:dd:dd") && decide (cs.getLast? = some 'Z') && decide (20 ≤ cs.length)
    && (frac.isEmpty || (decide (frac.head? = some '.') && decide (2 ≤ frac.length) && (frac.drop 1).all Char.isDigit))

/-- A value has a form. -/
def formOk (f : ValueForm) (v : String) : Bool :=
  let cs := v.toList
  match f with
  | .num => isNumber v
  | .numOr w => isNumber v || v == w
  | .word ws => ws.contains v
  | .digits lo hi => cs.all isHexChar && decide (lo ≤ cs.length) && decide (cs.length ≤ hi) && decide (cs.length % 2 = 0)
  | .str =>
    decide (2 ≤ cs.length) && decide (cs.length ≤ 66) && decide (cs.head? = some '"') && decide (cs.getLast? = some '"')
      && ((cs.drop 1).dropLast).all (fun c => decide (c ≠ '"') && decide (c ≠ '\\'))
  | .addr => cs.all (fun c => isHexChar c || c == '.' || c == ':') && cs.any (fun c => c == '.' || c == ':')
  | .utc => isUtc v
  | .any => ! cs.isEmpty

/-! ### The commands -/

/-- What the command index states of a command, and the role check's result. -/
structure CmdInfo where
  /-- Accepted in safe mode (mark A). -/
  safe : Bool := false
  /-- In safe mode and during a halt from J-CON and USB only. -/
  consolesSafe : Bool := false
  /-- Accepted while the recovery image runs, beside mark A (R757). -/
  recovery : Bool := false
  /-- Accepted during the BLANK or RETIRED hold (R781). -/
  hold : Bool := false
  /-- Accepted during the BLANK hold only (R781). -/
  blank : Bool := false
  /-- Privileged (mark P). -/
  priv : Bool := false
  /-- On J-CON and USB only (mark C). -/
  consoles : Bool := false
  /-- The role check passes (R499, R683). -/
  role : Bool := true
  /-- In machine mode only (mark M). -/
  machineOnly : Bool := false
deriving DecidableEq, Repr

/-- An argument of a command's syntax. -/
structure KeyForm where
  /-- Its key. -/
  key : String
  /-- Its value as the syntax writes it. -/
  shown : String
  /-- The form of its value. -/
  form : ValueForm
  /-- It must be given. -/
  need : Bool := true
deriving DecidableEq, Repr

/-- What stands in a command beside flags and arguments. -/
inductive BareForm
  | none
  | word                                 -- `help` takes at most one word
  | target                               -- `get` takes one
  | assigns                              -- `set` takes field assignments
deriving DecidableEq, Repr

/-- One form of a command. -/
structure CmdForm where
  /-- The command as the Fimor commands table names it (ch. 20). -/
  name : String
  /-- A further word of this form. -/
  sub : String := ""
  /-- Flags, of which a line gives at most one. -/
  flags : List String := []
  /-- Arguments. -/
  keys : List KeyForm := []
  /-- What else it takes. -/
  bare : BareForm := .none
  /-- The marks of the table. -/
  info : CmdInfo := {}
deriving DecidableEq, Repr

/-- The words of a form. -/
def formWords (f : CmdForm) : List String := f.name.splitOn " " ++ (if f.sub = "" then [] else [f.sub])

/-- `stall=<n>`. -/
def kStall : KeyForm := { key := "stall", shown := "<n>", form := .num }

/-- A number. -/
def kNum (k : String) (t : String := "<n>") : KeyForm := { key := k, shown := t, form := .num }

/-- An argument that may be left out. -/
def opt (k : KeyForm) : KeyForm := { k with need := false }

/-- Hexadecimal digits. -/
def kDigits (k : String) (lo hi : Nat) : KeyForm :=
  { key := k, shown := "<" ++ (if lo = hi then toString lo else toString lo ++ "..." ++ toString hi) ++ " hexadecimal digits>",
    form := .digits lo hi }

/-- A name. -/
def kName (k t : String) : KeyForm := { key := k, shown := t, form := .any }

/-- `on` or `off`, and the like. -/
def kWord (k : String) (ws : List String) : KeyForm := { key := k, shown := "|".intercalate ws, form := .word ws }

/-- Marks A and those commands of it that the BLANK and RETIRED hold takes. -/
def markA : CmdInfo := { safe := true, hold := true }

/-- Mark P. -/
def markP : CmdInfo := { priv := true }

/-- A, on the consoles only in safe mode. -/
def markConsoles : CmdInfo := { safe := true, consolesSafe := true }

/-- Commands of the system, the housing, power, islands and the start (ch. 02 to 06). -/
def systemForms : List CmdForm :=
  [{ name := "help", bare := .word, info := markA }, { name := "who", info := markA },
    { name := "log", info := markA, keys := [opt (kNum "count"), opt (kNum "since" "<seq>"), opt (kName "name" "<EVENT>")] },
    { name := "log", info := markA, keys := [kWord "follow" ["on", "off"]] },
    { name := "mode" }, { name := "mode", sub := "typed" },
    { name := "mode", sub := "machine", keys := [opt (kWord "crc" ["on", "off"])] },
    { name := "get", flags := ["-shadow", "-raw"], bare := .target }, { name := "set", bare := .assigns },
    { name := "commit", keys := [kName "group" "<GROUP>"] }, { name := "discard", keys := [kName "group" "<GROUP>"] },
    { name := "halt" }, { name := "reboot", info := markA }]
  ++ [{ name := "warden enrol", info := markP,
        keys := [kNum "slot" "<0...3>", kDigits "fp" 64 64, opt { key := "name", shown := "<string>", form := .str }] },
    { name := "warden remove", info := markP, keys := [kNum "slot"] }, { name := "warden show" },
    { name := "bay show", info := markA }, { name := "led locate", info := markA, keys := [opt (kNum "time" "<s>")] },
    { name := "presence close", info := markA }, { name := "power show", info := markA }, { name := "holdup measure" },
    { name := "island show", info := markA, keys := [opt (kNum "id" "<ID>")] },
    { name := "start show", info := { safe := true } },
    { name := "ledger show", info := { safe := true }, keys := [opt (kNum "start")] },
    { name := "start clear", info := { safe := true, priv := true } }]

/-- Commands of the ports, the network, time and the wire protocol (ch. 07 to 09). -/
def netForms : List CmdForm :=
  [{ name := "port show", keys := [opt (kNum "port")] }, { name := "port stats", keys := [opt (kNum "port")], flags := ["-raw"] },
    { name := "port stats clear", keys := [kNum "port"] },
    { name := "port capture read", keys := [kNum "port", opt (kNum "count" "<1...100>")] }, { name := "dormant enter" },
    { name := "net show", keys := [opt (kNum "if" "<k>")] }, { name := "net stats" }, { name := "net lldp", keys := [opt (kNum "port")] },
    { name := "net renew", keys := [opt (kNum "if" "<k>")] }, { name := "time show" },
    { name := "time set", info := markP, keys := [{ key := "utc", shown := "<YYYY-MM-DDThh:mm:ss[.f...]Z>", form := .utc }] },
    { name := "time accept", info := markP }]
  ++ [{ name := "kv show" }, { name := "kv stats" }, { name := "kv conns", keys := [opt kStall] }, { name := "kv1 show" },
    { name := "kv1 disable" }, { name := "kv1 enable", info := markP },
    { name := "kv1 allow", info := markP, keys := [{ key := "addr", shown := "<ip>", form := .addr }, kStall] },
    { name := "kv1 deny", info := markP, keys := [{ key := "addr", shown := "<ip>", form := .addr }] }]

/-- Commands of the stalls, retention and metering (ch. 11, 12). -/
def stallForms : List CmdForm :=
  [{ name := "stall show", keys := [opt kStall] }, { name := "stall cred show", keys := [kStall] }, { name := "mbx show", keys := [kStall] },
    { name := "mbx recv", keys := [kStall, kNum "from" "<seq>"] },
    { name := "stall create", keys := [kStall, opt (kNum "host" "<value>")] }, { name := "stall reset", keys := [kStall] },
    { name := "stall rebind", keys := [kStall, kNum "host" "<value>"] }, { name := "stall freeze", keys := [kStall] },
    { name := "stall thaw", keys := [kStall, kNum "host" "<value>"] },
    { name := "stall blob read", keys := [kStall, kNum "off" "<o>", kNum "len" "<1...1,024>"] },
    { name := "stall blob load", keys := [kStall, kNum "off" "<0...65,535>", kDigits "hex" 2 128] },
    { name := "stall relocate", keys := [kStall, kNum "to" "<serial>", kNum "dest" "<m>", opt (kNum "rate" "<1...1,000>")] },
    { name := "stall relocate cancel", keys := [kStall] }]
  ++ [{ name := "stall cred new", keys := [kStall, kNum "slot" "<k>"] },
    { name := "stall cred set", keys := [kStall, kNum "slot" "<k>", kDigits "secret" 64 64] },
    { name := "stall cred set", keys := [kStall, kNum "slot" "<k>", kDigits "fp" 64 64] },
    { name := "stall cred clear", keys := [kStall, kNum "slot" "<k>"] },
    { name := "mbx compose", keys := [kNum "off" "<0...255>", kDigits "hex" 2 128] },
    { name := "mbx compose", keys := [kNum "off", { key := "text", shown := "\"<string>\"", form := .str }] },
    { name := "mbx send", keys := [kStall, kNum "type" "<0...255>", kNum "len" "<1...256>"] },
    { name := "stall remove", keys := [kStall], flags := ["-force"] },
    { name := "stall adopt", info := markP, keys := [kStall, { key := "warden", shown := "<0...3|none>", form := .numOr "none" }] },
    { name := "stall key export", info := markP, keys := [kStall, kDigits "kek" 64 64] },
    { name := "meter show", keys := [kStall] },
    { name := "meter records", flags := ["-raw"], keys := [kStall, opt (kNum "from" "<seq>"), opt (kNum "count" "<1...36>")] }]

/-- Commands of media, health, the Arcade, the row, firmware, self-test and contention (ch. 13 to 19). -/
def mediaForms : List CmdForm :=
  [{ name := "media show" }, { name := "band show", keys := [kNum "band"] }, { name := "health show" }, { name := "health temp" },
    { name := "health holdup", keys := [opt (kNum "count" "<1...64>")] }, { name := "arcade show" },
    { name := "arcade bank show", keys := [kNum "bank" "<0...15>"] },
    { name := "arcade grant", keys := [kNum "bank" "<4...15>", kNum "quarter" "<0...3>",
        { key := "stall", shown := "<0...127|none>", form := .numOr "none" }] },
    { name := "row show" }, { name := "row members" }, { name := "mirror show" }, { name := "row key new", info := markP },
    { name := "row key set", info := markP, keys := [kDigits "secret" 64 64] },
    { name := "mirror drop", info := markP, keys := [kNum "origin" "<serial>"] },
    { name := "mirror restore", keys := [kNum "origin" "<serial>", kNum "ostall", kNum "stall" "<m>"] }]
  ++ [{ name := "fw show", info := { recovery := true } }, { name := "parcel show", info := markConsoles },
    { name := "parcel install", info := markConsoles,
      keys := [opt (kWord "relay" ["on", "off"]), opt (kWord "restart" ["now", "later"])] },
    { name := "parcel abandon", info := markConsoles },
    { name := "parcel piece", info := { safe := true, consolesSafe := true, machineOnly := true },
      keys := [kNum "n" "<0...1,023>", kNum "len" "<1...65,536>"] },
    { name := "config export" }, { name := "lifecycle show", info := { hold := true } }, { name := "test show", info := { hold := true } },
    { name := "test results", info := { hold := true }, flags := ["-raw"], keys := [opt (kNum "run" "<seq>"), opt (kNum "island" "<ID>")] },
    { name := "lifecycle set", info := { blank := true, priv := true, consoles := true },
      keys := [kName "state" "<name>", kNum "serial" "<serial>"] },
    { name := "test run", info := { blank := true, priv := true, consoles := true },
      keys := [kNum "island" "<ID>", opt (kName "parts" "<part>,..."), opt (kNum "loop" "<1...1,000>")] },
    { name := "island revive", info := markP, keys := [kNum "id" "<ID>"] }, { name := "res show" }]

/-- Every form of every command. -/
def cmdForms : List CmdForm := systemForms ++ netForms ++ stallForms ++ mediaForms

/-- The syntax of a form, as `help` gives it. -/
def syntaxText (f : CmdForm) : String :=
  " ".intercalate (formWords f ++ (if f.flags.isEmpty then [] else ["[" ++ "|".intercalate f.flags ++ "]"])
    ++ (match f.bare with | .none => [] | .word => ["[<word>]"] | .target => ["<ATTR>[.<FIELD>]"] | .assigns => ["<ATTR>[.<FIELD>]=<v>..."])
    ++ f.keys.map (fun k => let t := k.key ++ "=" ++ k.shown; if k.need then t else "[" ++ t ++ "]"))

/-! ### The checks of a line (R233) -/

/-- The forms that the first words of a line name: those of the most words. -/
def formsOf (ws : List String) : List CmdForm :=
  let hits := cmdForms.filter (fun f => (formWords f).isPrefixOf (ws.takeWhile isPlain))
  let most := hits.foldl (fun n f => Nat.max n (formWords f).length) 0
  hits.filter (fun f => decide ((formWords f).length = most))

/-- Nothing stands twice. -/
def noRepeat : List String → Bool
  | [] => true
  | x :: xs => ! xs.contains x && noRepeat xs

/-- A target of a field assignment, which begins with an upper-case letter or a digit. -/
def isTarget (k : String) : Bool := match k.toList with | c :: _ => c.isUpper || c.isDigit | [] => false

/-- Checks 1 to 4 of a line's words against one form. -/
def formErr (ws : List String) (f : CmdForm) : Option ErrName :=
  let rest := ws.drop (formWords f).length
  let args := rest.filterMap keyValue
  let bare := (rest.filter isPlain).length
  let room := match f.bare with | .word | .target => 1 | _ => 0
  let keyOk (k : String) := if f.bare = .assigns then isTarget k else f.keys.any (fun x => x.key == k)
  if room < bare then some .unknownCommand
  else if (rest.filter isFlag).any (fun w => ! f.flags.contains w) || decide (1 < (rest.filter isFlag).length)
      || args.any (fun a => ! keyOk a.1) then some .badArg
  else if ! noRepeat (args.map (fun a => a.1)) then some .dupArg
  else if f.keys.any (fun k => k.need && ! args.any (fun a => a.1 == k.key)) || (decide (f.bare = .assigns) && args.isEmpty)
      || (decide (f.bare = .target) && decide (bare = 0)) then some .missingArg
  else none

/-- The form a line's words have: the first of the command's forms whose checks pass, else the first one. -/
def lineForm (ws : List String) : Option CmdForm :=
  let fs := formsOf ws
  match fs.find? (fun f => (formErr ws f).isNone) with
  | some f => some f
  | none => fs.head?

/-- Checks 1 to 4 of a line (R233). -/
def wordsErr (t : List Byte) : Option ErrName :=
  let ws := lineWords t
  match lineForm ws with
  | none => some .unknownCommand
  | some f => formErr ws f

/-- Check 7 of a line: every value has the form of its key (R233). -/
def valuesOk (t : List Byte) : Bool :=
  let ws := lineWords t
  match lineForm ws with
  | none => true
  | some f =>
    (ws.filterMap keyValue).all (fun a =>
      match f.keys.find? (fun k => k.key == a.1) with
      | some k => formOk k.form a.2
      | none => decide (f.bare ≠ .assigns) || isNumber a.2)

end Sys2Proof.Machine
end

