-- ==== Sys2Proof/Machine/Operands.lean ====
section
/-!
DEFINITION. The operand forms of the console (ch. 06): characters and lines, the checks a command passes before it acts and
their order, the answers and the places they wait in, and the assignments of a `set`.
-/

namespace Sys2Proof.Machine

open Sys2Proof

/-! ### Life-cycle state (R780) -/

/-- The state the fuses decode to. -/
def lcStateOf (count : Nat) (retired : Bool) : LifeState :=
  if retired then .retired
  else if count = 0 then .blank else if count = 1 then .foundry
  else if count % 2 = 0 then .field else .returned

/-- The drive's life-cycle state. -/
def lcState (s : State) : LifeState := lcStateOf s.life.count s.life.retired

/-! ### Characters (R228 to R237) -/

/-- A management session. -/
def isMgmt : SessId → Bool
  | .mgmt _ => true
  | _ => false

/-- Take one character into a session's line, with what typed mode echoes (R228 to R231, R235): a terminator ends the line, typed mode
edits it, machine mode ignores the editing characters, the 256th character makes it overlong. A line left without words executes
nothing: typed mode prints the prompt again. `^U` ends an overlong line too, and a terminator is echoed as CR LF (log 46). -/
def takeChar (d : Session) (c : Byte) : Session × String :=
  let n := c.toNat
  let typed (t : String) : String := if d.machine then "" else t
  if n = 0x0A ∧ d.lastCr then ({ d with lastCr := false }, "")
  else if n = 0x0D ∨ n = 0x0A then
    let blank := ! d.overlong && lineBlank d.machine d.partialLine
    ({ d with lastCr := decide (n = 0x0D), lineReady := if blank then none else some d.partialLine, partialLine := [], overlong := false },
      typed (if blank then crlf ++ prompt else crlf))
  else
    let d := { d with lastCr := false }
    if isEditing c then
      if d.machine then (d, "")
      else if n = 0x15 then ({ d with partialLine := [], overlong := false }, "^U" ++ crlf ++ prompt)
      else if d.overlong ∨ d.partialLine.isEmpty then (d, "")
      else ({ d with partialLine := d.partialLine.dropLast }, String.ofList [Char.ofNat 8, ' ', Char.ofNat 8])
    else if d.overlong then (d, "")
    else if 255 ≤ d.partialLine.length then ({ d with overlong := true }, "")
    else ({ d with partialLine := d.partialLine ++ [c] }, typed (if isLineChar c then String.ofList [Char.ofNat n] else ""))

/-- A character arrives: while a command runs in typed mode it is kept, up to 255, and beyond that discarded and counted
(R237). -/
def feedChar (d : Session) (c : Byte) : Session × String :=
  if ¬ d.machine ∧ ¬ d.slots.isEmpty then
    (if d.typeahead.length < 255 then { d with typeahead := d.typeahead ++ [c] } else { d with typeDropped := d.typeDropped + 1 }, "")
  else takeChar d c

/-- Once no command runs, the characters typed meanwhile are taken up to the end of a line, with their echo (R237). -/
def takeAhead : List Byte → Session → Session × String
  | [], d => ({ d with typeahead := [] }, "")
  | c :: cs, d =>
    let r := takeChar d c
    if r.1.lineReady.isSome then ({ r.1 with typeahead := cs }, r.2)
    else
      let t := takeAhead cs r.1
      (t.1, r.2 ++ t.2)

/-- Characters sent on a session, if any. -/
def putEcho (s : State) (x : SessId) (t : String) : State := if t = "" then s else putText s x 5 t

/-! ### Answers (R239, R242) -/

/-- A management session ends, with the reason logged: 1 IDLE, 2 PEER, 3 WARDEN_REMOVED, 4 HALT, 5 PIECE_TIMEOUT
(MGMT_SESSION_CLOSED). Its compose buffer goes with it; its shadows stay (R171). -/
def endMgmt (s : State) (k : Fin 8) (reason : Nat) : State :=
  match getSess s (.mgmt k) with
  | none => s
  | some d =>
    let s := updCon s (fun c => { c with sessions := AMap.del c.sessions (.mgmt k) })
    let s := updStalls s (fun c => { c with compose := AMap.del c.compose (.mgmt k) })
    logEv s .mgmtSessionClosed
      { reason := reason, details := [match d.warden with | some w => (w.val : Int) | none => 0, (k.val : Int)] }

/-- Close a management session: its last segments go out, then the closing one. -/
def closeMgmt (s : State) (k : Fin 8) (reason : Nat) : State :=
  match getSess s (.mgmt k) with
  | none => s
  | some d => waitSeg (endMgmt s k reason) (ipFrame s (sessFlow d) 5 (.mgmtClose d.serial) (Config.itemLen 7))

/-- What takes effect once an answer has been sent; `mode typed` is followed by the prompt (R251). -/
def runAfter (s : State) (x : SessId) : Option After → State
  | none => s
  | some (.mode m c) =>
    let was := ((getSess s x).map (fun d => d.machine)).getD false
    let s := updSess s x (fun d => { d with machine := m, crc := c })
    if was ∧ ¬ m then putText s x 5 prompt else s
  | some (.baud c) => updBay s (fun b => { b with baudNow := c })
  | some (.halt r) => beginHalt s r
  | some .restart => restartNow s
  | some .close => match x with | .mgmt k => closeMgmt s k 3 | _ => s

/-- Put out an answer in the session's form, as data and as characters: under its tag in machine mode, before the prompt in typed
mode (R81, R236, R239, R241). -/
def putReply (s : State) (x : SessId) (tag : Option Nat) (r : Reply) : State :=
  match getSess s x with
  | none => s
  | some d => putText (emit s (.reply x (if d.machine then tag else none) r)) x 5 (replyText d.machine d.crc tag r)

/-- Send an answer, after which what it announces takes effect. -/
def sendAnswer (s : State) (x : SessId) (tag : Option Nat) (r : Reply) (a : Option After) : State :=
  runAfter (putReply s x tag r) x a

/-- Send the answers at the head of a session's line of accepted commands, in order (R242), up to a bound of steps; then what was
typed meanwhile is taken and echoed (R237). -/
def flushN : Nat → State → SessId → State
  | 0, s, _ => s
  | n + 1, s, x =>
    match getSess s x with
    | none => s
    | some d =>
      match d.slots with
      | { id := _, tag := t, reply := some r, after := a } :: rest =>
        flushN n (sendAnswer (updSess s x (fun d => { d with slots := rest })) x t r a) x
      | [] =>
        let s := if d.closing then (match x with | .mgmt k => closeMgmt s k 3 | _ => s) else s
        if d.lineReady.isSome then s
        else putEcho (updSess s x (fun d => (takeAhead d.typeahead d).1)) x (takeAhead d.typeahead d).2
      | _ => s

/-- Send what is ready; a session holds at most four commands. -/
def flushSlots (s : State) (x : SessId) : State := flushN 6 s x

/-- Answer a command now, behind the answers still owed (R242). -/
def answer (s : State) (x : SessId) (tag : Option Nat) (r : Reply) (a : Option After := none) : State :=
  match getSess s x with
  | none => s
  | some d =>
    if d.slots.isEmpty then flushSlots (sendAnswer s x tag r a) x
    else updSess s x (fun d => { d with slots := d.slots ++ [{ id := d.nextSlot, tag := tag, reply := some r, after := a }],
                                        nextSlot := d.nextSlot + 1 })

/-- Answer a command that waited. -/
def answerSlot (s : State) (w : Option (SessId × Nat)) (r : Reply) (a : Option After := none) : State :=
  match w with
  | none => s
  | some (x, n) =>
    flushSlots (updSess s x (fun d => { d with
      slots := d.slots.map (fun t => if t.id = n then { t with reply := some r, after := a } else t) })) x

/-! ### TLS (R223, R401) -/

/-- The cipher suites the drive offers, in its order of preference (R223; the order is the model's choice, log 43). -/
def tlsSuites : List TlsSuite := [.aes256GcmSha384, .aes128GcmSha256]

/-- The groups it offers (R223; their order, log 43). -/
def tlsGroups : List TlsGroup := [.secp384r1, .x25519]

/-- What the drive agrees with a client: TLS 1.3 only, the first suite and the first group of its own that the client offers (R223,
R401). -/
def tlsAgreed (c : TlsClient) : Option (TlsSuite × TlsGroup) :=
  if c.tls13 then
    match tlsSuites.find? (fun x => c.suites.contains x), tlsGroups.find? (fun x => c.groups.contains x) with
    | some x, some g => some (x, g)
    | _, _ => none
  else none

/-- The certificate the drive presents, derived from its identity key (R223). -/
def ownCertificate (s : State) : List Byte := Config.certificate (seedOf s)

/-! ### The checks of a command (R233, R247, R261, R262, R781) -/

/-- The command is one of those that safe mode and a halt accept. -/
def inSafeList (s : State) (l : Line) (i : CmdInfo) : Bool :=
  (i.safe && (! i.consolesSafe || ! isMgmt l.sess)) || (i.recovery && decide (s.fw.running = .recovery))

/-- The characters of a command's line: those its sender gives, else the line typed on the session. -/
def lineText (d : Session) (l : Line) : List Byte :=
  if l.text.isEmpty then lineBody d.machine (d.lineReady.getD []) else l.text

/-- The first failed check of the line in the order of R233: its words, then attribute and access, then value form, then range. `bad`
is what its operands fail; a line of no characters is not looked into. -/
def lineRefusal (t : List Byte) (bad : Option ErrName) : Option ErrName :=
  if t.isEmpty then bad
  else match wordsErr t with
  | some e => some e
  | none =>
    match bad with
    | none | some .range => if valuesOk t then bad else some .badValue
    | some e => some e

/-- The lid is open for every rule that depends on it (R73). -/
def lidOpenNow (s : State) : Bool := decide (s.bay.lid ≠ .closed)

/-- The permission checks in their order: ROLE, LID_LOCK, PRESENCE (R75, R247, R249). -/
def denial (s : State) (l : Line) (i : CmdInfo) : Option Denial :=
  if ! i.role || (i.consoles && isMgmt l.sess) then some .role
  else if i.priv && isMgmt l.sess && decide (cfgField s .bayCfg "LID_LOCK" = 1) && lidOpenNow s then some .lidLock
  else if i.priv && ! windowOpen s then some .presence
  else none

/-- Why a command is refused before it acts, in the order of the checks. R233 does not place `err MODE` of a machine-only command: it
stands after the line checks and before ROLE (log 10). -/
def refusal (s : State) (d : Session) (l : Line) (i : CmdInfo) (bad : Option ErrName) : Option Reply :=
  if decide (s.phase = .safe) && ! inSafeList s l i then some (.err .safeMode)
  else match lineRefusal (lineText d l) bad with
  | some e => some (.err e)
  | none =>
    if i.machineOnly && ! d.machine then some (.err .mode)
    else match denial s l i with
    | some x => some (.denied x)
    | none =>
      if decide (s.phase = .hold) && ! (i.hold || (i.blank && decide (lcState s = .blank))) then some (.err .lifecycle)
      else if (halting s || decide (s.phase = .halted)) && ! inSafeList s l i then some (.err .halting)
      else none

/-- How a command ends: answered now, with what takes effect after the answer, or answered later. -/
inductive Run
  | say (s : State) (r : Reply) (a : Option After)
  | wait (s : State)

/-- The consoles pause while SVC is under test (R797). -/
def consolesPaused (s : State) : Bool := decide (s.life.under = some .svc)

/-- Run a console command: its session must be open, and J-CON not in LINE_FAULT (R80); in machine mode its line carries a tag (R238); a
fifth unanswered command is answered `busy` (R242); the checks come first; then its body runs, given the number of the slot its answer
would wait in. -/
def runCmd (s : State) (l : Line) (i : CmdInfo) (bad : Option ErrName) (body : State → Nat → Run) : State :=
  match getSess s l.sess with
  | none => s
  | some d =>
    if d.closing || (decide (l.sess = .jcon) && s.bay.lineFault) || (! isMgmt l.sess && consolesPaused s) then s
    else
      let s := updSess s l.sess (fun d => { d with lastRx := s.clock.ledger, lineReady := none })
      if d.machine ∧ l.tag = none then putReply s l.sess none (.err .noTag)
      else if 4 ≤ d.slots.length then putReply s l.sess l.tag .busy
      else match refusal s d l i bad with
      | some r => answer s l.sess l.tag r
      | none =>
        match body s d.nextSlot with
        | .say s r a => answer s l.sess l.tag r a
        | .wait s => updSess s l.sess (fun d => { d with
            slots := d.slots ++ [{ id := d.nextSlot, tag := l.tag, reply := none }], nextSlot := d.nextSlot + 1 })

/-- A command that reads: one answer, no change. -/
def showCmd (s : State) (l : Line) (i : CmdInfo) (bad : Option ErrName) (r : State → Reply) : State :=
  runCmd s l i bad (fun s _ => .say s (r s) none)

/-- The plain `ok`. -/
def okReply : Reply := .ok []

/-- An answer of one line of named values. -/
def okLine (l : List (String × Val)) : Reply := .ok [l]

/-- A number as a value of an answer. -/
def vn (n : Nat) : Val := .num n

/-- A Bool as a value of an answer. -/
def vb (b : Bool) : Val := .num (if b then 1 else 0)

/-- RANGE unless a number lies between two bounds. -/
def rangeErr (n lo hi : Int) : Option ErrName := if lo ≤ n ∧ n ≤ hi then none else some .range

/-- The first of several failures. -/
def firstErr : List (Option ErrName) → Option ErrName
  | [] => none
  | some e :: _ => some e
  | none :: es => firstErr es

/-- A stall number given on the console. -/
def stallErr (n : Int) : Option ErrName := rangeErr n 0 127

/-- The stall a checked number names. -/
def stallArg (n : Int) : StallNo := Fin.ofNat 128 n.toNat

/-- The warden of a session, none on a console. -/
def sessWarden (s : State) (x : SessId) : Option (Fin 4) := (getSess s x).bind (fun d => d.warden)

/-- R499: a console, or the management session of the stall's owner. -/
def stallRole (s : State) (x : SessId) (n : StallNo) : Bool :=
  if isMgmt x then
    match sessWarden s x, (getStall s n).owner with
    | some w, some o => decide (w = o)
    | _, _ => false
  else true

/-! ### The assignments of a `set` (R233, R234, R254) -/

/-- A value fits a field: its width, its sign, its stated range (R168, R234). -/
def valueErr (f : FieldDesc) (v : Int) : Option ErrName :=
  if v < 0 then
    if f.signed ∧ -(2 ^ (fieldWidth f - 1)) ≤ v then none else some .range
  else if fieldOk f v.toNat then none else some .range

/-- A field's stored form of a value. -/
def fieldBits (f : FieldDesc) (v : Int) : Nat := (v % (2 ^ (fieldWidth f) : Int)).toNat

/-- A field that goes to a shadow. -/
def isRwc (f : FieldDesc) : Bool := decide (f.acc = .rwc)

/-- A field that a `set` may not write: RO, and WO, which only firmware writes (R302). -/
def isReadOnly (f : FieldDesc) : Bool := decide (f.acc = .ro) || decide (f.acc = .wo)

/-- What a `set` line assigns: fields with their values, or why the line is refused (checks 3 and 5 to 8 of R233). -/
def assignments (a : Attr) (g : Assign) : Except ErrName (List (FieldDesc × Int)) :=
  if ! noRepeat (g.fields.map (fun x => x.1)) then .error .dupArg
  else match g.whole with
  | some v =>
    let fs := attrFields a
    if fs.any isReadOnly then .error .readOnly
    else if fs.any (fun f => decide (f.acc ≠ .rw)) then .error .mixedAccess
    else match v with
      | none => .error .badValue
      | some n =>
        if n < 0 ∨ 2 ^ 64 ≤ n then .error .range
        else
          let ws := fs.map (fun f => (f, ((fieldGet f (BitVec.ofNat 64 n.toNat) : Nat) : Int)))
          match ws.findSome? (fun w => valueErr w.1 w.2) with
          | some e => .error e
          | none => .ok ws
  | none =>
    let fs := g.fields.map (fun x => (attrField? a x.1, x.2))
    if fs.any (fun x => x.1.isNone) then .error .noSuchAttr
    else
      let ds := fs.filterMap (fun x => x.1.map (fun f => (f, x.2)))
      if ds.any (fun x => isReadOnly x.1) then .error .readOnly
      else if g.others || (ds.any (fun x => isRwc x.1) && ds.any (fun x => ! isRwc x.1)) then .error .mixedAccess
      else if ds.any (fun x => x.2.isNone) then .error .badValue
      else
        let ws := ds.filterMap (fun x => x.2.map (fun v => (x.1, v)))
        match ws.findSome? (fun w => valueErr w.1 w.2) with
        | some e => .error e
        | none => .ok ws

/-- The word with its assigned fields replaced; a 1 written to a W1C field clears it. -/
def applyFields (w : Word64) (ws : List (FieldDesc × Int)) : Word64 :=
  ws.foldl (fun w x => match x.1.acc with
    | .w1c => fieldPut x.1 w (fieldGet x.1 w - Nat.min (fieldGet x.1 w) (fieldBits x.1 x.2))
    | _ => fieldPut x.1 w (fieldBits x.1 x.2)) w

/-- The cross-check of a filter entry: MULTICAST equals ADDRESS[40] (R295). -/
def filterErr (a : Attr) (w : Word64) : Option ErrName :=
  match a with
  | .macFilter _ _ => if bit w 62 = bit w 40 then none else some .badValue
  | _ => none

end Sys2Proof.Machine
end

