-- ==== Sys2Proof/Machine/PowerOps.lean ====
section
/-!
DEFINITION. Operations on feeds, levels, the hold-up bank and temperature (ch. 03). Powers are in 0.1 W, rounded down
(R94); energies in 10 mJ; voltages in mV; temperatures in 0.1 °C.
-/

namespace Sys2Proof.Machine

open Sys2Proof

/-! ### Budgets and levels -/

/-- PSE_TYPE of a number of class events (ch. 03, Hardware-class budget table). -/
def pseTypeOf (events : Nat) : Nat :=
  match events with | 0 => 0 | 1 => 1 | 2 | 3 => 2 | 4 => 3 | _ => 4

/-- Hardware-class budget of a PSE_TYPE (R94). -/
def hwBudget (t : Nat) : Nat := match t with | 1 => 129 | 2 => 255 | 3 => 510 | 4 => 713 | _ => 0

/-- One port's feed. -/
def getFeed (s : State) (p : PortId) : Feed := s.power.feeds.get p

/-- Change one port's feed. -/
def updFeed (s : State) (p : PortId) (f : Feed → Feed) : State :=
  updPower s (fun d => { d with feeds := d.feeds.upd p f })

/-- The budget a port would give as the lead (R95). -/
def budgetOf (s : State) (p : PortId) : Nat :=
  let f := getFeed s p
  if ¬ f.powered then 0
  else
    let b := hwBudget f.pseType
    let b := match f.alloc with | none => b | some a => Nat.min b a
    Nat.min b (levelEntry (levelMax s))

/-- The budget (R95); 0 while no lead is selected. -/
def budget (s : State) : Nat := match s.power.lead with | none => 0 | some p => budgetOf s p

/-- The lowest-numbered level a budget meets; L3 below every entry figure (R108, R111). -/
def levelFor (b : Nat) : Level :=
  if 620 ≤ b then .l0 else if 440 ≤ b then .l1 else if 250 ≤ b then .l2 else .l3

/-- The drive's ports retrain for a new link speed ceiling: ports without link at once, ports with link one at a time, the
lead-feed port first; a port that is being renegotiated trains again, and the other goes on waiting for it (R113). -/
def renegotiateAll (s : State) : State :=
  if ¬ linksLive s then s
  else
    let lead := s.power.lead.getD .p0
    let ps := [lead, lead.other].filter (fun p => islUp s p.island)
    let s := (ps.filter (fun p => ! (getPort s p).link)).foldl train s
    let linked := ps.filter (fun p => (getPort s p).link)
    renegotiateNext (updPorts s (fun d => { d with renegotiate := linked }))

/-- The most the drive draws from the lead feed, 0.1 W: 12 W during S01 and S02, then the level's ceiling (R96, R110). -/
def drawCeiling (s : State) : Nat :=
  if starting s ∧ s.boot.fg ≤ 2 then 120 else levelEntry s.power.level

/-- The 15 W heater may run: at L0 and L1, within the draw ceiling (R96, R130). -/
def heaterAllowed (s : State) : Bool :=
  (decide (s.power.level = .l0) || decide (s.power.level = .l1)) && decide (150 ≤ drawCeiling s)

/-- The heater after a lowest reading: on below −15.0 °C, off from −10.0 °C, off where it may not run (R130, R132). -/
def heaterFor (s : State) (mn : Int) : Bool :=
  heaterAllowed s && (decide (mn < -150) || (s.power.heater && decide (mn < -100)))

/-- Dummy die activity runs while writes are gated by cold, at L0 and L1 (R130). -/
def dummyFor (d : Power) : Bool := d.coldGate && (decide (d.level = .l0) || decide (d.level = .l1))

/-- The level changes: LEVEL_CHANGE, the heater off at L2 and L3 (R132), the ports renegotiated when the ceiling moves. -/
def setLevel (s : State) (l : Level) : State :=
  let old := s.power.level
  if l = old then s
  else
    let s := updPower s (fun d => { d with level := l, levelAt := s.clock.ledger, upSince := none,
                                           heater := d.heater && decide (l = .l0 ∨ l = .l1)
                                           dummy := dummyFor { d with level := l } })
    let s := logEv s .levelChange { details := [levelCode old, levelCode l, budget s] }
    if levelSpeed l = levelSpeed old then s else renegotiateAll s

/-- What the budget permits from now on: a higher level is remembered with the time (R111); below 12 W the drive starves
(R108), though not while S01 waits for a budget (R194). -/
def noteBudget (s : State) : State :=
  let b := budget s
  let t := s.clock.ledger
  let starve := decide (b < 120) && ! (starting s && decide (s.boot.fg = 1))
  let up := decide (levelCode (levelFor b) < levelCode s.power.level)
  updPower s (fun d => { d with upSince := if up then some (d.upSince.getD t) else none
                                starvingSince := if starve then some (d.starvingSince.getD t) else none })

/-- Apply the budget: down at once, and note what it permits (R111). -/
def applyBudget (s : State) : State :=
  match s.power.lead with
  | none => s
  | some _ =>
    let l := levelFor (budget s)
    noteBudget (if levelCode s.power.level < levelCode l then setLevel s l else s)

/-- Causes of a changeover, in REASON order of FEED_CHANGEOVER. -/
inductive Changeover
  | loss | planned
deriving DecidableEq, Repr

/-- Whether the standby feed permits a higher level than the lead, and since when (R99). -/
def noteStandby (s : State) : State :=
  match s.power.lead with
  | none => s
  | some p =>
    if 120 ≤ budgetOf s p.other ∧ levelCode (levelFor (budgetOf s p.other)) < levelCode (levelFor (budgetOf s p)) then
      updPower s (fun d => { d with standbySince := some (d.standbySince.getD s.clock.ledger) })
    else updPower s (fun d => { d with standbySince := none })

/-- The lead changes to a port: FEED_CHANGEOVER with cause and energy (R103), then the new budget applies (R102). -/
def changeLead (s : State) (p : PortId) (why : Changeover) (energy : Nat) : State :=
  let s := updPower s (fun d => { d with lead := some p, standbySince := none })
  let s := logEv s .feedChangeover
    { port := some p, reason := (match why with | .loss => 1 | .planned => 2), details := [(energy : Int)] }
  noteStandby (applyBudget s)

/-- Budgets may have moved: a lead below 12 W changes over at once to a standby that permits a level (R99, R108), else the
budget applies. -/
def rebudget (s : State) : State :=
  match s.power.lead with
  | none => s
  | some p =>
    if budgetOf s p < 120 ∧ 120 ≤ budgetOf s p.other then changeLead s p.other .planned 0
    else noteStandby (applyBudget s)

/-- A port is powered with a number of class events (R94, R97, R100, R103, R109): its STARVED mark clears; before the lead is
selected the first such moment is noted, after it the port becomes the standby. -/
def powerPort (s : State) (p : PortId) (classEvents : Nat) : State :=
  if ! powered s || (getFeed s p).powered then s
  else
    let s := updFeed s p (fun f => { f with powered := true, detect := true, pseType := pseTypeOf classEvents,
                                            alloc := none, late := none, echo := 0, lldpSeen := false, starved := false })
    match s.power.lead with
    | none => if starting s then updBoot s (fun b => { b with firstPower := some (b.firstPower.getD s.clock.ledger) }) else s
    | some _ => rebudget (logEv s .feedRestored { port := some p })

/-! ### The hold-up bank -/

/-- E_avail (R118). -/
def eAvail (s : State) : Nat :=
  let v := s.power.vBank
  if v ≤ 10800 then 0
  else Nat.min 0xFFFF (s.power.eMeas * (v * v - 10800 * 10800) / (30000 * 30000 - 10800 * 10800))

/-- The cap in MiB from an energy and DIRTY_CAP (R118); never negative. -/
def capOf (e dirtyCap : Nat) : Nat := Nat.min 256 (Nat.min ((e - 1600) / 20) dirtyCap)

/-- The energy the cap is computed from: 5 J less around a measurement (R116). -/
def capEnergy (s : State) : Nat := if s.power.measuring = .idle then eAvail s else eAvail s - 500

/-- The cap for a DIRTY_CAP, in MiB. -/
def capWith (s : State) (dirtyCap : Nat) : Nat := capOf (capEnergy s) dirtyCap

/-- DIRTY_CAP in force. -/
def dirtyCap (s : State) : Nat := policyField (policyNow s) "DIRTY_CAP"

/-- The present cap in MiB. -/
def cap (s : State) : Nat := capWith s (dirtyCap s)

/-- Dirty data in bytes. -/
def dirtyBytes (s : State) : Nat := listSum (s.kv.dirty.map (fun x => x.2))

/-- A MiB. -/
def mib : Nat := 1048576

/-- A buffered write of a size fits under the cap of a policy (R119). -/
def capFits (s : State) (policy : Word64) (size : Nat) : Bool :=
  decide (dirtyBytes s + size ≤ capWith s (policyField policy "DIRTY_CAP") * mib)

/-- Write-through under a policy: HOLDUP_WEAK, a cell fault, DIRTY_CAP below 32, or no shelter (R117, R120, R121, R611). -/
def writeThroughFor (s : State) (policy : Word64) : Bool :=
  s.power.weak || s.power.cellWt || decide (policyField policy "DIRTY_CAP" < 32) || s.media.shelterWt

/-- Write-through now. -/
def writeThrough (s : State) : Bool := writeThroughFor s (policyNow s)

/-- A measurement has ended with an energy: the history and the schedule; write-through of a cell fault ends unless a further
cell asked for another one (R115, R117, R652). -/
def recordE (s : State) (e : Nat) : State :=
  let cause := s.upkeep.measCause.getD .periodic
  let s := updPower s (fun d => { d with eMeas := Nat.min e 0xFFFF, lastMeas := s.clock.ledger
                                         cellWt := d.cellWt && d.measAgain })
  updUpkeep s (fun u => { u with
    holdup := ((s.clock.ledger / sec, cause, Nat.min e 0xFFFF) :: u.holdup).take 64
    measCause := none })

/-- Enter or leave write-through by the energy measured (R120). -/
def judgeE (s : State) : State :=
  let e := s.power.eMeas
  if e < 2240 then
    if s.power.weak then s
    else logEv (updPower s (fun d => { d with weak := true })) .holdupWeak { reason := 1, details := [(e : Int)] }
  else if s.power.weak ∧ 2400 ≤ e then
    logEv (updPower s (fun d => { d with weak := false })) .holdupRestored { details := [(e : Int)] }
  else s

/-- The bank is fully charged: it has reached 30.0 V since the last measurement and loss of power, and still holds it. -/
def fullyCharged (s : State) : Bool := s.power.charged && decide (30000 ≤ s.power.vBank)

/-- A cell's fault asks for a measurement at once (R115, R117): it begins when the bank is full, after the one that is
under way. -/
def measureCell (s : State) : State :=
  match s.power.measuring with
  | .discharging | .recharging => updPower s (fun d => { d with measAgain := true })
  | .idle | .draining =>
    let full := fullyCharged s
    updUpkeep (updPower s (fun d => { d with measuring := if full then .discharging else .draining }))
      (fun u => { u with measCause := some .cellFault })

/-- A measurement is asked for: the cap is lowered and the drive waits for dirty data to fall (R116); the discharge starts
with HOLDUP_DISCHARGE_START. -/
def askMeasure (s : State) (c : MeasCause) : State :=
  let s := updUpkeep s (fun u => { u with measCause := some c })
  updPower s (fun d => { d with measuring := .draining })

/-! ### Temperature -/

/-- Code of a thermal state (ch. 03, Thermal states table). -/
def thermalCode : Thermal → Nat
  | .normal => 0 | .throttle1 => 1 | .throttle2 => 2 | .halt => 3

/-- The state a reading gives from a state (ch. 03, Thermal states table; R133). HALT is left only by a start. -/
def thermalNext (t : Thermal) (mx : Int) : Thermal :=
  if t = .halt then .halt
  else if 950 ≤ mx then .halt
  else if 900 ≤ mx then .throttle2
  else if 850 ≤ mx then (if t = .throttle2 ∧ 870 ≤ mx then .throttle2 else .throttle1)
  else if 820 ≤ mx then (match t with | .normal => .normal | .throttle2 => .throttle1 | t => t)
  else .normal

/-- Writes are gated by cold, or were held back from opening at S24. -/
def coldNow (s : State) : Bool := s.power.coldGate

end Sys2Proof.Machine
end

