-- ==== Sys2Proof/Machine/Bay.lean ====
section
/-!
DEFINITION. The service bay (ch. 02): the USB console's attachment, J-SVC, the steward button, the lid seal, the presence
window, the lines of J-CON, locate, and SVC.BAY.STATUS.
-/

namespace Sys2Proof.Machine

open Sys2Proof

/-- SVC samples the bay: from S03 onward, in every later state and in safe mode, not in Dormant. -/
def sampling (s : State) : Bool := svcRuns s

/-! ### SVC.BAY.STATUS -/

/-- Seconds left in the window; 0 when closed. That a part of a second counts as a whole one is the model's choice (DESIGN
CHOICE, log 46): R90 gives whole seconds and no rounding. -/
def presenceLeft (s : State) : Nat :=
  match s.bay.window with | none => 0 | some t => ceilDiv (t - s.clock.ledger) sec

/-- SVC.BAY.STATUS (ch. 02, field map). -/
def bayStatusWord (s : State) : Word64 :=
  let b := s.bay
  packWord [(32, presenceLeft s), (17, b2n b.faultSeen), (16, b2n b.tamper), (11, b2n (windowOpen s)),
    (10, b2n b.usb), (9, b2n b.lineFault), (8, b2n b.jsvc), (7, b2n (decide (b.lid = .fault))),
    (6, b2n (lidOpenNow s)), (5, b2n b.lidB), (4, b2n b.lidA), (3, b2n (decide (b.button = .lockout))),
    (2, b2n b.btn), (1, b2n b.btnB), (0, b2n b.btnA)]

/-! ### USB and J-SVC -/

/-- Open a session under a name, with the next number among the drive's sessions. -/
def openSess (s : State) (x : SessId) (d : Session) : State :=
  updCon s (fun c => { c with sessions := AMap.set c.sessions x { d with serial := c.nextSerial }, nextSerial := c.nextSerial + 1 })

/-- A new console session: typed, CRC off (R222). -/
def openConsole (s : State) (x : SessId) : State := openSess s x { lastRx := s.clock.ledger, startWall := wallNow s }

/-- End a console session; its compose buffer goes with it. -/
def endConsole (s : State) (x : SessId) : State :=
  updStalls (updCon s (fun c => { c with sessions := AMap.del c.sessions x }))
    (fun c => { c with compose := AMap.del c.compose x })

/-- USB_ATTACH (R59, R222): VBUS rises above 4.0 V; the console exists while the consoles are served. -/
def execUsbAttach (s : State) : Host.Outcome State Fault Refusal :=
  let s' := updBay s (fun b => { b with usb := true })
  .next (if s.bay.usb then s' else if svcUp s then openConsole s' .usb else s')

/-- USB_DETACH (R59): VBUS falls below 3.5 V and the USB session ends with its settings. -/
def execUsbDetach (s : State) : Host.Outcome State Fault Refusal :=
  .next (endConsole (updBay s (fun b => { b with usb := false })) .usb)

/-- The attention signal (R80, R81): the partial line goes, the console returns to typed mode, the prompt is printed. What
was typed ahead while a command runs (R237) is kept: R80 discards the partial line alone, and the spec does not say whether
characters typed ahead are part of it (DESIGN CHOICE, log 46). -/
def attention (s : State) (x : SessId) : State :=
  match getSess s x with
  | none => s
  | some _ => putText (emit (updSess s x (fun d => { d with partialLine := [], overlong := false, lineReady := none,
                                                            machine := false, crc := false })) (.notice x .attention)) x 5 prompt

/-- A length of a low or a break is an attention signal. -/
def attentionLength (ms : Nat) : Bool := decide (250 ≤ ms) && decide (ms ≤ 2000)

/-- USB_SEND_BREAK (R84): 250 to 2,000 ms is an attention signal; every other length is ignored. -/
def execUsbSendBreak (ms : Nat) (s : State) : Host.Outcome State Fault Refusal :=
  .next (if attentionLength ms then attention s .usb else s)

/-- USB_SET_LINE_CODING (R84): accepted, without effect. -/
def execUsbSetLineCoding (s : State) : Host.Outcome State Fault Refusal := .next s

/-- JSVC_CHANGE (R60): the jumper has held its new reading for 20 ms. -/
def execJsvcChange (fitted : Bool) (s : State) : Host.Outcome State Fault Refusal :=
  .next (if sampling s then updBay s (fun b => { b with jsvc := fitted }) else s)

/-! ### The steward button (R66 to R69, R92) -/

/-- Open the presence window, or restart it at full length (R77, R78): the mark goes to FRAM. -/
def openWindow (s : State) : State :=
  let len := 60 * cfgField s .bayCfg "WINDOW_MIN"
  let s := updBay s (fun b => { b with window := some (s.clock.ledger + len * sec), windowMark := true })
  logEv s .presenceOpen { details := [(len : Int)] }

/-- BUTTON_PRESS (R66, R68): the filtered state becomes pressed. -/
def execButtonPress (s : State) : Host.Outcome State Fault Refusal :=
  .next (if sampling s then
      updBay s (fun b => { b with btn := true, btnA := true, btnB := true,
                                  button := if b.button = .released then .pressed else b.button })
    else s)

/-- BUTTON_RELEASE (R66, R68, R92): the filtered state becomes released after a hold of `hold` ms. -/
def execButtonRelease (hold : Nat) (s : State) : Host.Outcome State Fault Refusal :=
  .next (if sampling s then
      let old := s.bay.button
      let s := updBay s (fun b => { b with btn := false, btnA := false, btnB := false })
      match old with
      | .waitRelease => updBay s (fun b => { b with button := .released })
      | .pressed =>
        if 60000 ≤ hold then presenceFault (updBay s (fun b => { b with button := .lockout })) .stuck false
        else
          let s := updBay s (fun b => { b with button := .released })
          if 3000 ≤ hold ∧ ¬ halting s then openWindow s else s
      | _ => s
    else s)

/-- BUTTON_STUCK (R68): 60,000 ms pressed. -/
def execButtonStuck (s : State) : Host.Outcome State Fault Refusal :=
  .next (if sampling s then
      match s.bay.button with
      | .waitRelease | .pressed => presenceFault (updBay s (fun b => { b with button := .lockout })) .stuck false
      | _ => s
    else s)

/-- BUTTON_DISCREPANCY (R67, R68): the 40th consecutive discrepant sample. -/
def execButtonDiscrepancy (bothClosed : Bool) (s : State) : Host.Outcome State Fault Refusal :=
  .next (if sampling s then
      let old := s.bay.button
      let s := updBay s (fun b => { b with btnA := bothClosed, btnB := ! bothClosed, button := .lockout })
      if old = .lockout then s else presenceFault s .buttonDiscrepancy false
    else s)

/-- BUTTON_LOCKOUT_CLEAR (R68): 2,000 consecutive agreed-released samples. -/
def execButtonLockoutClear (s : State) : Host.Outcome State Fault Refusal :=
  .next (if sampling s ∧ s.bay.button = .lockout then
      updBay s (fun b => { b with button := .released, btn := false, btnA := false, btnB := false })
    else s)

/-! ### The lid seal (R70 to R74, R93) -/

/-- LID_OPEN (R72, R74): the filtered state is open; TAMPER is set. -/
def execLidOpen (s : State) : Host.Outcome State Fault Refusal :=
  .next (if sampling s then
      let first := ! s.bay.lidDecided
      let old := s.bay.lid
      let s := updBay s (fun b => { b with lid := .open_, lidDecided := true, lidA := true, lidB := true })
      if old = .open_ then s
      else logEv (updBay s (fun b => { b with tamper := true })) .lidOpen { atStart := first }
    else s)

/-- LID_CLOSED (R72): the filtered state is closed, or FAULT has seen 2,000 agreed-closed samples. -/
def execLidClosed (s : State) : Host.Outcome State Fault Refusal :=
  .next (if sampling s then
      let old := s.bay.lid
      let s := updBay s (fun b => { b with lid := .closed, lidDecided := true, lidA := false, lidB := false })
      if old = .closed then s else logEv s .lidClosed
    else s)

/-- LID_DISCREPANCY (R71, R72, R74): the 100th consecutive discrepant sample. A FAULT reached before any filtered state
counts as the first state reached: a LID_OPEN that follows it carries no at-start flag (DESIGN CHOICE, log 46; R74 does not
say). -/
def execLidDiscrepancy (bothClosed : Bool) (s : State) : Host.Outcome State Fault Refusal :=
  .next (if sampling s then
      let first := ! s.bay.lidDecided
      let old := s.bay.lid
      let s := updBay s (fun b => { b with lidA := ! bothClosed, lidB := bothClosed, lid := .fault, lidDecided := true })
      if old = .fault then s
      else presenceFault (updBay s (fun b => { b with tamper := true })) .lidDiscrepancy first
    else s)

/-! ### The presence window -/

/-- PRESENCE_EXPIRY (R78): the window's time is up. -/
def execPresenceExpiry (s : State) : Host.Outcome State Fault Refusal :=
  .next (match s.bay.window with
    | none => s
    | some t => closeWindow (advanceTo s t) .expiry)

/-- PRESENCE_CLOSE (R78, R90): the command closes the window; it needs no presence. -/
def execPresenceClose (l : Line) (s : State) : Host.Outcome State Fault Refusal :=
  .next (runCmd s l { safe := true, hold := true } none (fun s _ => .say (closeWindow s .command) okReply none))

/-! ### The lines of J-CON (R80 to R83) -/

/-- J-CON is served and its line is not in fault. -/
def jconLive (s : State) : Bool := (getSess s .jcon).isSome && ! s.bay.lineFault

/-- JCON_FRAMING_ERROR (R80): the character is discarded and counted. -/
def execJconFramingError (s : State) : Host.Outcome State Fault Refusal :=
  .next (if jconLive s then updBay s (fun b => { b with framingErrors := b.framingErrors + 1 }) else s)

/-- JCON_SHORT_BREAK (R80): discarded and counted; the partial line is kept. -/
def execJconShortBreak (s : State) : Host.Outcome State Fault Refusal :=
  .next (if jconLive s then updBay s (fun b => { b with shortBreaks := b.shortBreaks + 1 }) else s)

/-- JCON_ATTENTION (R80, R81): a low of 250 to 2,000 ms ends. -/
def execJconAttention (ms : Nat) (s : State) : Host.Outcome State Fault Refusal :=
  .next (if jconLive s && attentionLength ms then attention s .jcon else s)

/-- LINE_FAULT (R80, R83): the 2,001st low sample. As at an attention signal, what was typed ahead is kept (DESIGN CHOICE,
log 46). -/
def lineFaultNow (s : State) (atStart : Bool) : State :=
  if s.bay.lineFault then s
  else
    let s := updBay s (fun b => { b with lineFault := true })
    logEv (updSess s .jcon (fun d => { d with partialLine := [], overlong := false, lineReady := none })) .lineFault
      { atStart := atStart }

/-- LINE_FAULT (R80). -/
def execLineFault (s : State) : Host.Outcome State Fault Refusal :=
  .next (if (getSess s .jcon).isSome then lineFaultNow s false else s)

/-- LINE_RECOVERED (R82): 100 consecutive high samples. -/
def execLineRecovered (s : State) : Host.Outcome State Fault Refusal :=
  .next (if s.bay.lineFault then logEv (updBay s (fun b => { b with lineFault := false })) .lineRecovered else s)

/-! ### Locate and `bay show` -/

/-- LED_LOCATE (R65): 1 to 3,600 s, 600 s by default; 0 stops it. -/
def execLedLocate (l : Line) (time : Option Int) (s : State) : Host.Outcome State Fault Refusal :=
  let t := time.getD 600
  .next (runCmd s l { safe := true, hold := true } (rangeErr t 0 3600) (fun s _ =>
    .say (updBay s (fun b => { b with locate := if t ≤ 0 then none else some (s.clock.ledger + t.toNat * sec) })) okReply none))

/-- LOCATE_EXPIRY (R65). -/
def execLocateExpiry (s : State) : Host.Outcome State Fault Refusal :=
  .next (match s.bay.locate with
    | none => s
    | some t => updBay (advanceTo s t) (fun b => { b with locate := none }))

/-- The fields of a word by name, those with an encoding table in its code form (R253). -/
def wordFields (a : Attr) (w : Word64) : List (String × Val) :=
  (attrFields a).map (fun f => (f.name, fieldVal a f (fieldGet f w)))

/-- A button state as a name. -/
def buttonName : Button → String
  | .waitRelease => "WAIT_RELEASE" | .released => "RELEASED" | .pressed => "PRESSED" | .lockout => "LOCKOUT"

/-- A lid state as a name. -/
def lidName : Lid → String
  | .closed => "CLOSED" | .open_ => "OPEN" | .fault => "FAULT"

/-- The answer of BAY_SHOW (R90). -/
def bayShowAnswer (s : State) : Reply :=
  .ok [("button", .name (buttonName s.bay.button)) :: ("lid", .name (lidName s.bay.lid)) ::
      wordFields .bayStatus (bayStatusWord s), wordFields .bayCfg (cfgWord s .bayCfg)]

/-- BAY_SHOW (R90): every field of SVC.BAY.STATUS and SVC.BAY.CFG, with the button and lid states by name. -/
def execBayShow (l : Line) (s : State) : Host.Outcome State Fault Refusal :=
  .next (showCmd s l { safe := true, hold := true } none bayShowAnswer)

end Sys2Proof.Machine
end

