-- ==== Sys2Proof/Machine/MeterOps.lean ====
section
/-!
DEFINITION. Presence of objects under expiry and hold, the use of a stall, the calendar of metering periods, the
accumulators and the closing rules (ch. 11, 12).
-/

namespace Sys2Proof.Machine

open Sys2Proof

/-! ### Presence and use -/

/-- An object has not expired at a ledger time, or is held (R551, R556). -/
def presentAt (t : Nat) (o : Obj) : Bool := o.held || decide (t < o.expiry)

/-- The object of a key, unless it has expired (R551). -/
def objOf (s : State) (k : ObjKey) : Option Obj :=
  match AMap.find s.kv.objs k with
  | none => none
  | some o => if presentAt (now s) o then some o else none

/-- The objects of a stall present at a ledger time. -/
def stallObjsAt (s : State) (n : StallNo) (t : Nat) : List (ObjKey × Obj) :=
  s.kv.objs.filter (fun x => decide (x.1.stall = n) && presentAt t x.2)

/-- The present objects of a stall. -/
def stallObjs (s : State) (n : StallNo) : List (ObjKey × Obj) := stallObjsAt s n (now s)

/-- Key and value bytes of an object (R509). -/
def objBytes (x : ObjKey × Obj) : Nat := x.1.key.length + x.2.value.length

/-- Stored part bytes of a stall's open uploads (R456, R509). -/
def uploadBytes (s : State) (n : StallNo) : Nat :=
  listSum (s.kv.uploads.map (fun u =>
    if u.2.key.stall = n then listSum (u.2.parts.map (fun p => p.2.length)) else 0))

/-- Byte-quota use of a stall at a ledger time (R509). -/
def useBytesAt (s : State) (n : StallNo) (t : Nat) : Nat :=
  listSum ((stallObjsAt s n t).map objBytes) + uploadBytes s n

/-- Byte-quota use (R509). -/
def useBytes (s : State) (n : StallNo) : Nat := useBytesAt s n (now s)

/-- Hold-quota use: value bytes of held objects (R509, R555). -/
def useHold (s : State) (n : StallNo) : Nat :=
  listSum ((stallObjs s n).map (fun x => if x.2.held then x.2.value.length else 0))

/-- Object-quota use (R509). -/
def useObjects (s : State) (n : StallNo) : Nat := (stallObjs s n).length

/-! ### The calendar (ch. 12, Period kind encoding) -/

/-- A day in wall microseconds. -/
def wallDay : Nat := 86400 * sec

/-- Year and month, 1 to 12, of a day counted from 1970-01-01, in the Gregorian calendar. -/
def monthOf (d : Nat) : Nat × Nat :=
  let z := d + 719468
  let era := z / 146097
  let doe := z % 146097
  let yoe := (doe - doe / 1460 + doe / 36524 - doe / 146096) / 365
  let doy := doe - (365 * yoe + yoe / 4 - yoe / 100)
  let mp := (5 * doy + 2) / 153
  let m := if mp < 10 then mp + 3 else mp - 9
  (yoe + era * 400 + (if m ≤ 2 then 1 else 0), m)

/-- The day, counted from 1970-01-01, of the first of a month. -/
def monthStart (y m : Nat) : Nat :=
  let y := if m ≤ 2 then y - 1 else y
  let era := y / 400
  let yoe := y % 400
  let doy := (153 * (if 2 < m then m - 3 else m + 9) + 2) / 5
  era * 146097 + (yoe * 365 + yoe / 4 - yoe / 100 + doy) - 719468

/-- The period of a kind that contains a wall time: its boundaries. -/
def periodAt (kind wall : Nat) : Nat × Nat :=
  let d := wall / wallDay
  match kind with
  | 0 => (d * wallDay, (d + 1) * wallDay)
  | 1 => let a := d - (d + 3) % 7
         (a * wallDay, (a + 7) * wallDay)
  | _ => let (y, m) := monthOf d
         let b := if m = 12 then monthStart (y + 1) 1 else monthStart y (m + 1)
         (monthStart y m * wallDay, b * wallDay)

/-- Nominal length of an undated period, microseconds. -/
def nominal (kind : Nat) : Nat := (match kind with | 0 => 86400 | 1 => 604800 | _ => 2592000) * sec

/-- Expected length L of a period. -/
def periodLen (p : Period) : Nat := match p.bounds with | some (_, e) => e - p.wallOpen | none => nominal p.kind

/-! ### Accumulators -/

/-- The five accumulators, in code order. -/
inductive Acc
  | stored | written | read | ops | shredded
deriving DecidableEq, Repr

/-- Code of an accumulator (METER_SATURATED). -/
def accCode : Acc → Nat
  | .stored => 0 | .written => 1 | .read => 2 | .ops => 3 | .shredded => 4

/-- An accumulator's value. -/
def accGet (a : Accs) : Acc → Nat
  | .stored => a.stored | .written => a.written | .read => a.read | .ops => a.ops | .shredded => a.shredded

/-- An accumulator set. -/
def accSet (a : Accs) (w : Acc) (v : Nat) : Accs :=
  match w with
  | .stored => { a with stored := v }
  | .written => { a with written := v }
  | .read => { a with read := v }
  | .ops => { a with ops := v }
  | .shredded => { a with shredded := v }

/-- The top of an accumulator. -/
def accTop : Nat := 0xFFFFFFFFFFFFFFFF

/-- A period with an amount added to an accumulator, which stays at its top (R563). -/
def addAcc (p : Period) (w : Acc) (n : Nat) : Period :=
  let v := Nat.min (accGet p.acc w + n) accTop
  { p with acc := accSet p.acc w v
           saturated := if v = accTop ∧ ¬ p.saturated.contains (accCode w) then accCode w :: p.saturated else p.saturated }

/-- Put a stall's period after an addition, and raise METER_SATURATED for an accumulator newly at its top (R563). -/
def putPeriod (s : State) (n : StallNo) (old new : Period) (w : Acc) : State :=
  let s := updStall s n (fun d => { d with period := some new })
  if new.saturated.length ≠ old.saturated.length then
    logEv s .meterSaturated { stall := some n.val, details := [(accCode w : Int), (new.seq : Int)] }
  else s

/-- Charge an amount to the open period of a stall (R560). -/
def charge (s : State) (n : StallNo) (w : Acc) (amount : Nat) : State :=
  match (getStall s n).period with
  | none => s
  | some p => putPeriod s n p (addAcc p w amount) w

/-- Charge STORED for a use over a number of microseconds: the use divided by 1,024 per second, the remainder carried
(R561). -/
def chargeStored (s : State) (n : StallNo) (use us : Nat) : State :=
  match (getStall s n).period with
  | none => s
  | some p =>
    let total := use * us / sec + p.rest
    putPeriod s n p { addAcc p .stored (total / 1024) with rest := total % 1024 } .stored

/-! ### Periods -/

/-- Word 1 of a period's record (ch. 12, Closed period record); a cause of 0 is that of an open period (R570). -/
def periodWord1 (p : Period) (cause generation : Nat) : Word64 :=
  packWord [(0, p.kind), (4, cause), (8, b2n p.bounds.isNone), (9, b2n p.steppedBack), (10, b2n p.gap),
    (11, b2n (! p.saturated.isEmpty)), (16, p.steps), (32, generation)]

/-- A number as an attribute word. -/
def word (n : Nat) : Word64 := BitVec.ofNat 64 n

/-- KIND of a stall. -/
def kindOf (s : State) (n : StallNo) : Nat := cfgField s (.meterCfg n) "KIND"

/-- Open a period of a stall, after the one just closed if any (R565): undated while wall time is UNSET, else the later of
the period that contains the present wall time and the one that follows the closed one. -/
def openPeriod (s : State) (n : StallNo) (closed : Option Period) : State :=
  let kind := kindOf s n
  let w := wallNow s
  let bounds :=
    if s.clock.wstate = .unset then none
    else
      let a := periodAt kind w
      match closed.bind (fun p => p.bounds) with
      | none => some a
      | some (_, e) => let b := periodAt kind e
                       some (if a.1 < b.1 then b else a)
  updStall s n (fun d => { d with
    period := some { seq := d.nextPeriod, kind := kind, bounds := bounds
                     wallOpen := (match bounds with | none => 0 | some (b, _) => Nat.max b w)
                     ltimeOpen := s.clock.ledger }
    nextPeriod := d.nextPeriod + 1 })

/-- Code of a close cause (ch. 12, Close cause encoding). -/
def causeCode : CloseCause → Nat
  | .wallEnd => 1 | .forced => 2 | .stepForward => 3 | .timeSet => 4 | .kindChange => 5 | .removed => 6

/-- Close the open period of a stall: its record, METER_PERIOD_CLOSED, and the next period unless the stall is removed
(R565, R569). -/
def closePeriod (s : State) (n : StallNo) (why : CloseCause) : State :=
  match (getStall s n).period with
  | none => s
  | some p =>
    let r : PeriodRec := { period := p, cause := why, generation := (getStall s n).generation, wallClose := wallNow s
                           ltimeClose := now s, host := (getStall s n).host }
    let s := updStall s n (fun d => { d with period := none, records := (r :: d.records).take 36 })
    let s := logEv (stageLog s .meter) .meterPeriodClosed
      { stall := some n.val, reason := causeCode why, details := [(p.seq : Int)] }
    match why with
    | .removed => s
    | _ => openPeriod s n (some p)

/-- A wall-time step at which the closing rules are applied. -/
inductive Step
  | none_                       -- no step: a second of ledger time, or a KIND commit
  | first                       -- wall time gets its first value
  | forward
  | backward
deriving DecidableEq, Repr

/-- The cause the Closing rules table gives for an open period, rows 2 to 6 in order (R566, R573); row 1 is the removal's
own. -/
def closeCause? (s : State) (n : StallNo) (p : Period) (st : Step) : Option CloseCause :=
  let w := wallNow s
  let elapsed := now s - p.ltimeOpen
  if kindOf s n ≠ p.kind then some .kindChange
  else match p.bounds with
  | none =>
    if st = .first then some .timeSet
    else if 3 * periodLen p ≤ 2 * elapsed then some .forced else none
  | some (_, e) =>
    if st = .forward ∧ (periodAt p.kind e).2 ≤ w then some .stepForward
    else if e ≤ w ∧ s.clock.wstate ≠ .unset ∧ 9 * periodLen p ≤ 10 * elapsed then some .wallEnd
    else if 3 * periodLen p ≤ 2 * elapsed then some .forced else none

/-- Apply the closing rules to one stall. -/
def closingRules (st : Step) (s : State) (n : StallNo) : State :=
  match (getStall s n).period with
  | none => s
  | some p => match closeCause? s n p st with | none => s | some c => closePeriod s n c

/-- The stalls the drive knows. -/
def stallNos (s : State) : List StallNo := AMap.keys s.stalls.tab

/-- A step has been made: STEPS, STEPPED_BACK and the closing rules in every stall (R566, R567). -/
def meterStep (s : State) (st : Step) : State :=
  let s := updStalls s (fun d => { d with tab := d.tab.map (fun x => (x.1, { x.2 with
    period := x.2.period.map (fun p => { p with steps := sat (p.steps + 1) 65535
                                                steppedBack := p.steppedBack || decide (st = .backward) }) })) })
  (stallNos s).foldl (closingRules st) s

/-- One second of ledger time for one stall: STORED, then the closing rules (R561, R566). -/
def meterSecond (s : State) (n : StallNo) : State :=
  closingRules .none_ (chargeStored s n (useBytes s n) sec) n

/-- CORE meters: at READY and during the first parts of a halt; from S24 on in a start (R561). -/
def metering (s : State) : Bool := match s.phase with | .ready | .draining _ | .flushing _ => true | _ => false

/-- At S24 the outage's use goes to the open periods, then the closing rules apply (R561, R571). -/
def meterAfterStart (s : State) : State :=
  let t := s.boot.s01At - s.boot.outage
  let s := (stallNos s).foldl (fun s n => chargeStored s n (useBytesAt s n t) s.boot.outage) s
  let s := updBoot s (fun b => { b with outage := 0 })
  (stallNos s).foldl (closingRules .none_) s

end Sys2Proof.Machine
end

