-- ==== Sys2Proof/Machine/NetOps.lean ====
section
/-!
DEFINITION. Operations on addresses, routes, neighbours, acquisition and wall time (ch. 08), and the destination filter
(R293, R294).
-/

namespace Sys2Proof.Machine

open Sys2Proof

/-! ### Addresses -/

/-- The static IPv4 address of an interface. -/
def staticV4 (s : State) (k : IfNo) : IpAddr := ipv4Of (cfgField s (.ifV4 k) "VALUE")

/-- The static IPv6 address of an interface. -/
def staticV6 (s : State) (k : IfNo) : IpAddr :=
  BitVec.ofNat 128 (cfgField s (.ifV6Hi k) "VALUE" * 2 ^ 64 + cfgField s (.ifV6Lo k) "VALUE")

/-- The distinct IPv6 solicited-node groups of the drive's addresses, by the address's low 24 bits (R294). -/
def solicitedGroups (s : State) : List Nat :=
  ((allIfs.filter (ifExists s)).flatMap (fun k =>
    ((getIfc s k).addrs.filter (fun r => ! isV4 r.addr)).map (fun r => r.addr.toNat % 2 ^ 24))).eraseDups

/-! ### Neighbours (R343) -/

/-- Evict the least recently used complete entry of a full cache. -/
def evictOne (l : List Neigh) : List Neigh :=
  match l.reverse.find? (fun n => n.mac.isSome) with
  | none => l
  | some x => (l.reverse.erase x).reverse

/-- Learn a neighbour: the entry moves to the front; the cache holds 512. -/
def learn (s : State) (k : IfNo) (a : IpAddr) (m : MacAddr) : State :=
  updNet s (fun d =>
    let rest := d.neigh.filter (fun n => ! (decide (n.ifc = k) && decide (n.addr = a)))
    let rest := if 512 ≤ rest.length then evictOne rest else rest
    { d with neigh := ({ ifc := k, addr := a, mac := some m, usedAt := s.clock.ledger } :: rest).take 512 })

/-! ### The destination filter (R293, R294) -/

/-- The row is in use: a key and a row identifier are set. -/
def rowInUse (s : State) : Bool := s.row.key.isSome && decide (cfgField s .rowCfg "ROW_ID" ≠ 0)

/-- What entry `f` of a port's filter holds: the address of an active entry (ch. 07, Filter entries). -/
def filterEntry (s : State) (p : PortId) (f : Fin 16) : Option MacAddr :=
  let group (i : Nat) : Option MacAddr := (solicitedGroups s)[i]?.map (fun g => mac6 (0xFF000000 + g))
  if f.val = 0 then some (Config.macAddr .p0)
  else if f.val = 1 then (if allIfs.any (ifExists s) then some (mac6 1) else none)
  else if f.val ≤ 5 then group (f.val - 2)
  else if f.val = 6 then (if rowInUse s then some (mac6 0xC1ED) else none)
  else if f.val = 7 then (if cfgField s .timeCfg "PTP_EN" = 1 then some (ptpGroup s) else none)
  else if f.val ≤ 11 then group (f.val - 4)
  else
    let w := cfgWord s (.macFilter p f)
    if bit w 63 then some (BitVec.ofNat 48 w.toNat) else none

/-- A frame's destination passes check 5. -/
def passesFilter (s : State) (p : PortId) (dst : MacAddr) : Bool :=
  (List.finRange 16).any (fun f => decide (filterEntry s p f = some dst))
    || (decide (dst = BitVec.allOnes 48) && decide (cfgField s (.macCfg p) "BCAST" = 1))

/-- The filter as it stands: the addresses of its entries, and BCAST. -/
def filterNow (s : State) (p : PortId) : List MacAddr × Bool :=
  ((List.finRange 16).filterMap (filterEntry s p), decide (cfgField s (.macCfg p) "BCAST" = 1))

/-- A frame's destination passes the filter kept at entry into Dormant (R318). -/
def passesKept (s : State) (p : PortId) (dst : MacAddr) : Bool :=
  let w := (getPort s p).wakeFilter
  w.1.contains dst || (decide (dst = BitVec.allOnes 48) && w.2)

/-! ### Wall time (R348 to R359) -/

/-- Code of a wall-time state (ch. 08, WSTATE encoding). -/
def wstateCode : WState → Nat
  | .unset => 0 | .rtc => 1 | .manual => 2 | .ntp => 3 | .ptp => 4 | .holdover => 5

/-- Code of a step's source (CLOCK_STEP). -/
def sourceCode : StepSource → Nat
  | .ptp => 1 | .ntp => 2 | .manual => 3 | .rtc => 4

/-- The state disciplines wall time. -/
def disciplines (w : WState) : Bool := decide (w = .ntp ∨ w = .ptp)

/-- Set the wall-time state; TIME_SOURCE marks a change of the disciplining source (R348). -/
def setSource (s : State) (w : WState) : State :=
  let old := s.clock.wstate
  let s := updClock s (fun c => { c with wstate := w })
  if old ≠ w ∧ (disciplines old ∨ disciplines w) then
    logEv s .timeSource { details := [(wstateCode old : Int), (wstateCode w : Int)] }
  else s

/-- A step (R354): wall time moves by an offset and the state becomes `w`; the RTC, the STEP checkpoint and CLOCK_STEP
follow in this order, then the metering periods (R566, R567). -/
def stepWall (s : State) (src : StepSource) (w : WState) (offset : Int) : State :=
  let unset := decide (s.clock.wstate = .unset)
  let old := wallNow s
  let s := updClock s (fun c => { c with wallOff := c.wallOff + offset, slew := 0, everSet := true
                                         ntp := c.ntp.map (fun n => { n with
                                           last := n.last.map (fun r => { r with offset := r.offset - offset }) }) })
  let s := setSource s w
  let s := checkpoint (writeRtc s) .step
  let s := logEv s .clockStep { reason := sourceCode src
                                details := [(old : Int), (wallNow s : Int), if unset then 0 else offset] }
  meterStep s (if unset then .first else if offset < 0 then .backward else .forward)

/-- 128 ms (R353). -/
def slewLimit : Nat := 128000

/-- STEP_LIMIT in microseconds; 0 for none. -/
def stepLimit (s : State) : Nat := cfgField s .timeCfg "STEP_LIMIT" * sec

/-- The disciplining source has measured an offset (R353, R355, R356): slew, step, or the refusal of a step. -/
def discipline (s : State) (src : StepSource) (w : WState) (offset : Int) (stratum : Nat) : State :=
  let s := updClock s (fun c => { c with offset := offset, stratum := stratum })
  if s.clock.wstate = .unset then stepWall s src w offset
  else
    let s := setSource s w
    if 0 < stepLimit s ∧ stepLimit s < offset.natAbs then
      let was := s.clock.disagree
      let s := updClock s (fun c => { c with disagree := true, refused := some (src, offset) })
      if was then s
      else logEv (updClock s (fun c => { c with refusedAt := some c.ledger })) .timeStepRefused
        { reason := sourceCode src, details := [offset] }
    else
      let s := updClock s (fun c => { c with disagree := false, refused := none })
      if offset.natAbs ≤ slewLimit then updClock s (fun c => { c with slew := offset })
      else stepWall s src w offset

/-- The lowest of several servers by stratum, then distance. -/
def bestServer : List NtpServer → Option NtpServer
  | [] => none
  | x :: xs =>
    match bestServer xs with
    | none => some x
    | some y =>
      match x.last, y.last with
      | some a, some b =>
        if a.stratum < b.stratum ∨ (a.stratum = b.stratum ∧ a.dist ≤ b.dist) then some x else some y
      | _, _ => some y

/-- A server whose reply may be used: stratum 1 to 15, and fewer than 4 polls since. -/
def ntpCandidate (n : NtpServer) : Bool :=
  match n.last with
  | none => false
  | some r => decide (1 ≤ r.stratum) && decide (r.stratum ≤ 15) && decide (n.missed < 4)

/-- A point lies in a server's interval of correctness. -/
def covers (x : Int) (n : NtpServer) : Bool :=
  match n.last with
  | none => false
  | some r => decide (r.offset - (r.dist : Int) ≤ x) && decide (x ≤ r.offset + (r.dist : Int))

/-- The servers that share the point most servers share. -/
def truechimers (l : List NtpServer) : List NtpServer :=
  let points := l.filterMap (fun n => n.last.map (fun r => r.offset - (r.dist : Int)))
  let sets := points.map (fun x => l.filter (covers x))
  sets.foldl (fun best c => if best.length < c.length then c else best) []

/-- The system peer that selection chooses (R351): with two or more servers answering, the truechimers are a majority. -/
def selectNtp (s : State) : Option NtpServer :=
  let l := s.clock.ntp.filter ntpCandidate
  match l with
  | [] => none
  | [x] => some x
  | _ => let t := truechimers l
         if l.length < 2 * t.length then bestServer t else none

/-- No automatic source is left: HOLDOVER, unless the other one is accepted (R348). -/
def sourceLost (s : State) (w : WState) : State :=
  if s.clock.wstate = w then
    let s := updClock s (fun c => { c with stratum := 0 })
    if w = .ptp ∧ s.clock.ntpPeer.isSome then setSource s .ntp else setSource s .holdover
  else s

/-- PTP is lost (R349). -/
def ptpLost (s : State) : State := sourceLost (updClock s (fun c => { c with ptp := {} })) .ptp

/-- NTP is lost (R351). -/
def ntpLost (s : State) : State := sourceLost (updClock s (fun c => { c with ntpPeer := none })) .ntp

/-- The configured NTP servers in order, 0 meaning unused. -/
def ntpConfigured (s : State) : List IpAddr :=
  ((List.finRange 4).map (fun k =>
    BitVec.ofNat 128 (cfgField s (.ntpHi k) "VALUE" * 2 ^ 64 + cfgField s (.ntpLo k) "VALUE"))).filter
      (fun a => decide (a ≠ 0))

/-- The servers the client uses (R350). -/
def ntpServers (s : State) : List IpAddr :=
  if cfgField s .timeCfg "NTP_EN" = 0 then []
  else match ntpConfigured s with
  | [] => if cfgField s .timeCfg "NTP_DHCP" = 1 then
        ((allIfs.flatMap (fun k => (getIfc s k).ntp)).eraseDups).take 4 else []
  | l => l.eraseDups

/-- The client has started: S20 has begun. -/
def timeClients (s : State) : Bool :=
  match s.phase with | .starting => decide (20 ≤ fgStep s) | .ready | .draining _ => true | _ => false

/-- Bring the list of servers up to date: a server added begins with a burst of four (R350). -/
def refreshNtp (s : State) : State :=
  if ¬ timeClients s then s
  else
    let old := s.clock.ntp
    let l := (ntpServers s).map (fun a => (old.find? (fun n => decide (n.addr = a))).getD { addr := a })
    let s := updClock s (fun c => { c with ntp := l })
    match s.clock.ntpPeer with
    | none => s
    | some p => if l.any (fun n => decide (n.addr = p)) then s
        else match selectNtp s with
          | some n => updClock s (fun c => { c with ntpPeer := some n.addr })
          | none => ntpLost s

/-! ### Acquiring and losing addresses (R333 to R342) -/

/-- Addresses are acquired from S19 on. -/
def acquiring (s : State) : Bool :=
  match s.phase with | .starting => decide (19 ≤ fgStep s) | .ready => true | _ => false

/-- The addresses of the interfaces are kept: from S19 to the end of an orderly halt's drain, not in Dormant (R317, R318). -/
def netRuns (s : State) : Bool := acquiring s || (match s.phase with | .draining _ => true | _ => false)

/-- Reset the management sessions of a kind (R334). -/
def resetMgmt (s : State) (f : Session → Bool) : State :=
  (s.con.sessions.filter (fun x => isMgmt x.1 && f x.2)).foldl (fun s x =>
    match x.1 with
    | .mgmt k => sendFlow (dropSegs (endMgmt s k 0) (true, x.2.serial)) (sessFlow x.2) 5 (.mgmtReset x.2.serial) (Config.itemLen 7)
    | _ => s) s

/-- A time source reached through an interface that has lost its addresses of a family is lost (R369). -/
def lostSource (s : State) (k : IfNo) (v4 : Bool) : State :=
  if (ifAddrs s k).any (fun r => decide (isV4 r.addr = v4)) then s
  else
    let ptp := cfgField s .timeCfg "PTP_TRANSPORT"
    let s := if s.clock.ptp.accepted ∧ cfgField s .timeCfg "PTP_IF" = k.val ∧ ptp = (if v4 then 0 else 1) then ptpLost s
      else s
    match s.clock.ntpPeer with
    | none => s
    | some p => if isV4 p = v4 ∧ routeOf s p = none then ntpLost s else s

/-- Remove an address of an interface: TCP connections on it are reset (R334, R341). -/
def removeAddr (s : State) (k : IfNo) (a : IpAddr) : State :=
  let s := updIfc s k (fun d => { d with addrs := d.addrs.filter (fun r => decide (r.addr ≠ a)) })
  let s := resetWhere s (fun c => decide (c.ifc = k) && decide (c.local_ = a))
  let s := resetMgmt s (fun d => decide (d.ifc = k) && decide (d.local_ = a))
  lostSource s k (isV4 a)

/-- Take up an address: it is probed, or used optimistically when it was in use in the previous start (R339). -/
def addAddr (s : State) (k : IfNo) (r : AddrRec) : State :=
  let st := if (getIfc s k).prev.contains r.addr then AddrState.optimistic else .probing
  let s := updIfc s k (fun d => { d with
    addrs := d.addrs.filter (fun x => decide (x.addr ≠ r.addr)) ++ [{ r with state := st, probeAt := s.clock.ledger }] })
  if isV4 r.addr then sendPlain s k 6 (.probe k r.addr) 8 .broadcast else sendIp s k 6 (.probe k r.addr) 9

/-- What the DHCPv4 client sends of itself (R336). -/
def dhcp4Client (s : State) : Dhcp4Client :=
  { clientId := 1 :: (List.range 6).map (fun i => (Config.macAddr .p0).toNat / 2 ^ (8 * (5 - i)) % 256)
    host := sysName s, requests := [1, 3, 42, 51, 54, 58, 59] }

/-- What the DHCPv6 client sends of itself (R337), with a number of IA_NA. -/
def dhcp6Client (n : Nat) : Dhcp6Client := { duid := Config.macAddr .p0, iaNa := n, requests := [56] }

/-- A DHCPREQUEST goes out for an address: to the server while the lease is renewed, else to all (R336). -/
def request4 (s : State) (k : IfNo) (a : IpAddr) : State :=
  sendIp s k 6 (.dhcp4Request k a (getIfc s k).d4Server (dhcp4Client s)) 11

/-- DISCOVER goes out and its interval starts anew (R336). -/
def discover (s : State) (k : IfNo) (wait : Nat) : State :=
  sendIp (updIfc s k (fun d => { d with d4 := .selecting, d4Wait := wait, d4At := s.clock.ledger, d4Offer := none })) k 6
    (.dhcp4Discover k (dhcp4Client s)) 10

/-- DHCPv4 begins: INIT-REBOOT with the previous address after a restart, else DISCOVER (R336). -/
def startDhcp4 (s : State) (k : IfNo) : State :=
  match (getIfc s k).d4Prev with
  | some a => request4 (updIfc s k (fun d => { d with d4 := .initReboot, d4Offer := some a, d4Server := none, d4Wait := 4,
                                                      d4At := s.clock.ledger })) k a
  | none => discover s k 4

/-- SOLICIT goes out (R337), once the link-local address is in use (R339). -/
def solicit (s : State) (k : IfNo) : State :=
  sendIp (updIfc s k (fun d => { d with d6 := .soliciting })) k 6 (.dhcp6Solicit k (dhcp6Client 1)) 12

/-- A DHCPv6 request for the address goes out (R337). -/
def request6 (s : State) (k : IfNo) : State := sendIp s k 6 (.dhcp6Request k (dhcp6Client 1)) 15

/-- A Router Solicitation goes out (R337). -/
def solicitRouter (s : State) (k : IfNo) : State := sendIp s k 6 (.routerSolicit k) 13

/-- The interface holds an address of an origin and family. -/
def holdsAddr (s : State) (k : IfNo) (o : Origin) (v4 : Bool) : Bool :=
  (getIfc s k).addrs.any (fun r => decide (r.origin = o) && decide (isV4 r.addr = v4))

/-- Begin whatever acquisition an interface's modes ask for and that is not under way (R335 to R337). -/
def beginIf (s : State) (k : IfNo) : State :=
  if ¬ (ifExists s k ∧ acquiring s) then s
  else
    let s := if holdsAddr s k .linkLocal false then s
      else addAddr s k { addr := linkLocal, plen := 64, origin := .linkLocal, state := .probing, until_ := none }
    let s := match v4Mode s k with
      | 1 => if (getIfc s k).d4 = .idle then startDhcp4 s k else s
      | 2 => if holdsAddr s k .static true then s
          else addAddr s k { addr := staticV4 s k, plen := cfgField s (.ifCfg k) "V4_PREFIX", origin := .static
                             state := .probing, until_ := none }
      | _ => s
    match v6Mode s k with
    | 1 => if holdsAddr s k .slaac false ∨ (getIfc s k).d6 ≠ .idle then s
        else solicitRouter (updIfc s k (fun d => { d with noGlobal := false, raSeen := false })) k
    | 2 => if (getIfc s k).d6 = .idle then solicit s k else s
    | 3 => if holdsAddr s k .static false then s
        else addAddr s k { addr := staticV6 s k, plen := cfgField s (.ifCfg k) "V6_PREFIX", origin := .static
                           state := .probing, until_ := none }
    | _ => s

/-- Begin acquisition on every interface. -/
def beginAll (s : State) : State := allIfs.foldl beginIf s

/-- An address the present configuration of its interface still provides (R334). -/
def provided (s : State) (k : IfNo) (r : AddrRec) : Bool :=
  ifExists s k && (match r.origin with
    | .linkLocal => true
    | .dhcp4 => decide (v4Mode s k = 1)
    | .slaac => decide (v6Mode s k = 1)
    | .dhcp6 => decide (v6Mode s k = 1 ∨ v6Mode s k = 2)
    | .static =>
      if isV4 r.addr then decide (v4Mode s k = 2) && decide (r.addr = staticV4 s k)
          && decide (r.plen = cfgField s (.ifCfg k) "V4_PREFIX")
      else decide (v6Mode s k = 3) && decide (r.addr = staticV6 s k) && decide (r.plen = cfgField s (.ifCfg k) "V6_PREFIX"))

/-- SERVICES bit of a generation. -/
def genBit : Gen → Nat
  | .kv1 => 0 | .kv2 => 1 | .kv3 => 2

/-- An interface's configuration has changed: addresses no longer provided go, closed services lose their connections, new
addresses are acquired (R334). -/
def refreshIf (s : State) (k : IfNo) : State :=
  let gone := (getIfc s k).addrs.filter (fun r => ! provided s k r)
  let s := gone.foldl (fun s r => removeAddr s k r.addr) s
  let s := updIfc s k (fun d => { d with
    d4 := if ifExists s k ∧ v4Mode s k = 1 then d.d4 else .idle
    gw4 := if ifExists s k ∧ v4Mode s k = 1 then d.gw4 else none
    d6 := if ifExists s k ∧ (v6Mode s k = 1 ∨ v6Mode s k = 2) then d.d6 else .idle })
  let s := resetWhere s (fun c => decide (c.ifc = k) && ! serviceOn s k (genBit c.gen))
  let s := resetMgmt s (fun d => decide (d.ifc = k) && ! serviceOn s k 3)
  beginIf s k

/-- Bring every interface up to date. -/
def refreshIfs (s : State) : State := allIfs.foldl refreshIf s

/-- The addresses every interface used are remembered for the next start and everything else about it is forgotten. -/
def forgetNet (s : State) : State :=
  updNet s (fun d => { d with
    ifs := d.ifs.map (fun x =>
      let held := (x.2.addrs.filter addrUsable)
      (x.1, { prev := held.map (fun r => r.addr)
              d4Prev := match held.find? (fun r => decide (r.origin = .dhcp4)) with
                | some r => some r.addr | none => x.2.d4Prev }))
    neigh := [], noRoute := 0, fragDrop := 0, lldpBad := 0, lldp := ⟨[], []⟩, pmtu := [] })

/-- Some address of the drive is in conflict (R340, R63). -/
def addrConflict (s : State) : Bool := s.net.ifs.any (fun x => x.2.addrs.any (fun r => decide (r.state = .conflict)))

/-- The MTU of an interface on a port (R291, R341). -/
def ifMtu (s : State) (p : PortId) (k : IfNo) : Nat :=
  Nat.min ((getIfc s k).mtu.getD 9198) (cfgField s (.macCfg p) "MAX_FRAME" - 18)

/-- The smaller of the ports' IP MTUs. -/
def portMtu (s : State) : Nat :=
  Nat.min (cfgField s (.macCfg .p0) "MAX_FRAME") (cfgField s (.macCfg .p1) "MAX_FRAME") - 18

end Sys2Proof.Machine
end

