-- ==== Sys2Proof/Machine/MediaOps.lean ====
section
/-!
DEFINITION. The flash array (ch. 13): bands, members and stripes, free bands and the choice of one, beds, the programs in
flight, the page map, the metadata log, the records of objects, and reconstruction.
-/

namespace Sys2Proof.Machine

open Sys2Proof

/-! ### Fingerprints (R428) -/

/-- A key's fingerprint. -/
def fpOf (k : ObjKey) : Nat := leNat ((Config.sha256 (BitVec.ofNat 8 k.stall.val :: k.key)).take 8)

/-! ### Bands and members (R576 to R579) -/

/-- Block indexes of a lane group that are no DONOR as manufactured (log 5). -/
def bandsPerGroup : Nat := 8128

/-- Lane group of a band. -/
def groupOf (n : Nat) : Fin 8 := Fin.ofNat 8 (n / 8192)

/-- Channels whose die in a lane group is lost (R613). -/
def lostIn (s : State) (t : Fin 8) : List (Fin 16) :=
  (s.media.lost.filter (fun d => decide (d.2 = t))).map (fun d => d.1)

/-- Channels left out of the present start (R876). -/
def leftChans (s : State) : List (Fin 16) := (List.finRange 16).filter (fun c => (getIsl s (.media c)).leftOut)

/-- Reads of a channel's pages are answered by reconstruction: it is left out of the start (R876), or its MEDIA island is
under test (R811). -/
def chanShut (s : State) (c : Fin 16) : Bool := (getIsl s (.media c)).leftOut || decide (islState s (.media c) = .isolated)

/-- Two lists of channels as one without repeats. -/
def joinCh (a b : List (Fin 16)) : List (Fin 16) := a ++ b.filter (fun c => ! a.contains c)

/-- A band as the table holds it. -/
def rawBand (s : State) (n : Nat) : Band :=
  match AMap.find s.media.bands n with
  | some b => b
  | none => if bandsPerGroup ≤ n % 8192 then { state := .donor } else {}

/-- A band as it stands: a FREE band has no member on a lost die (R613), and is a DONOR when more than one member would be
absent (R579). -/
def bandOf (s : State) (n : Nat) : Band :=
  let b := rawBand s n
  if b.state = .free then
    let ab := joinCh b.absent (lostIn s (groupOf n))
    { b with absent := ab, state := if 2 ≤ ab.length then .donor else .free }
  else b

/-- Change a band. -/
def updBand (s : State) (n : Nat) (f : Band → Band) : State :=
  updMedia s (fun m => { m with bands := AMap.set m.bands n (f (bandOf s n)) })

/-- Stripes of a band in its mode (ch. 13, Flash geometry). -/
def stripesOf (b : Band) : Nat := if b.pslc then 512 else 2048

/-- Data pages of a stripe of a band written whole. -/
def stripeWidth (b : Band) : Nat := 15 - b.absent.length

/-- Data pages a band takes (R578, R635). -/
def bandPages (b : Band) : Nat :=
  stripesOf b * stripeWidth b - listSum (b.narrow.map (fun x => stripesOf b - x.2))

/-- Data capacity in QLC mode: 480 MiB, or 448 MiB with one member absent (R578). -/
def bandCapacity (b : Band) : Nat := 2048 * (15 - Nat.min 1 b.absent.length) * 16384

/-- Where the data page of an index stands: stripe, and place among the stripe's data pages. -/
def placeIn : List (Fin 16 × Nat) → Nat → Nat → Nat → Nat × Nat
  | [], p0, w, i => (p0 + i / Nat.max w 1, i % Nat.max w 1)
  | (_, q) :: rest, p0, w, i =>
    if i < (q - p0) * w then (p0 + i / Nat.max w 1, i % Nat.max w 1)
    else placeIn rest q (w - 1) (i - (q - p0) * w)

/-- Stripe and place of a data page. -/
def pagePlace (b : Band) (i : Nat) : Nat × Nat := placeIn b.narrow 0 (stripeWidth b) i

/-- Channels with a member in a stripe. -/
def membersAt (b : Band) (p : Nat) : List (Fin 16) :=
  (List.finRange 16).filter (fun c =>
    ! b.absent.contains c && ! b.narrow.any (fun x => decide (x.1 = c) && decide (x.2 ≤ p)))

/-- Channel of a stripe's parity page: (n + p) mod 16, or the next higher channel with a member (R577). -/
def parityChan (n : Nat) (b : Band) (p : Nat) : Option (Fin 16) :=
  ((List.range 16).map (fun d => (Fin.ofNat 16 (n + p + d)))).find? (fun c => (membersAt b p).contains c)

/-- Channel and stripe of a data page; the data pages of a stripe stand on its other members in ascending order (log 5). -/
def pageChan (n : Nat) (b : Band) (i : Nat) : Option (Fin 16 × Nat) :=
  let (p, k) := pagePlace b i
  (((membersAt b p).filter (fun c => decide (some c ≠ parityChan n b p)))[k]?).map (fun c => (c, p))

/-- The block that is a band's member on a channel (R576, R578). -/
def memberBlock (n : Nat) (b : Band) (c : Fin 16) : BlockId :=
  { channel := c, target := groupOf n
    block := match b.subst.find? (fun x => decide (x.1 = c)) with
      | some (_, k) => Fin.ofNat 8192 k
      | none => Fin.ofNat 8192 n }

/-- A band's member blocks. -/
def memberBlocks (n : Nat) (b : Band) : List BlockId :=
  ((List.finRange 16).filter (fun c => ! b.absent.contains c)).map (memberBlock n b)

/-- The band a block is a member of. -/
def bandOfBlock (s : State) (k : BlockId) : Nat :=
  match s.media.bands.find? (fun x => decide (groupOf x.1 = k.target)
      && x.2.subst.any (fun y => decide (y.1 = k.channel) && decide (y.2 = k.block.val))) with
  | some x => x.1
  | none => 8192 * k.target.val + k.block.val

/-- A block's record. -/
def getBlock (s : State) (k : BlockId) : Block := AMap.getD s.media.blocks k {}

/-- Change a block's record. -/
def updBlock (s : State) (k : BlockId) (f : Block → Block) : State :=
  updMedia s (fun m => { m with blocks := AMap.set m.blocks k (f (AMap.getD m.blocks k {})) })

/-- Physical page number (R574). -/
def ppnOf (k : BlockId) (page : Nat) : Nat :=
  k.channel.val * 2 ^ 27 + k.target.val * 2 ^ 24 + k.block.val * 2 ^ 11 + page % 2048

/-- PPN of a data page of a band. -/
def pagePpn (n : Nat) (b : Band) (i : Nat) : Nat :=
  match pageChan n b i with
  | some (c, p) => ppnOf (memberBlock n b c) p
  | none => 0

/-! ### Free bands (R604, R620, R825) -/

/-- FREE bands of a lane group. -/
def freeIn (s : State) (t : Fin 8) : Nat :=
  if 2 ≤ (lostIn s t).length then 0
  else bandsPerGroup - (s.media.bands.filter (fun x =>
    decide (groupOf x.1 = t) && decide (x.1 % 8192 < bandsPerGroup) && decide ((bandOf s x.1).state ≠ .free))).length

/-- F, the number of FREE bands, the spill band included (R620). -/
def freeBands (s : State) : Nat := listSum ((List.finRange 8).map (freeIn s))

/-- Open bands of a lane group, of any kind. -/
def openIn (s : State) (t : Fin 8) : Nat :=
  (s.media.bands.filter (fun x => decide (groupOf x.1 = t) && decide (x.2.state = .open_))).length

/-- The first block index of a lane group from `k` on that is none of a list. -/
def firstFrom : Nat → List Nat → Nat → Option Nat
  | 0, _, _ => none
  | fuel + 1, l, k => if bandsPerGroup ≤ k then none else if l.contains k then firstFrom fuel l (k + 1) else some k

/-- FREE bands of a lane group that may be taken: those whose wear is known, and the first of the rest, which are all as
manufactured. The spill band is never taken (R825). -/
def freeCandidates (s : State) (t : Fin 8) : List Nat :=
  let seen := (s.media.bands.map (fun x => x.1)).filter (fun n => decide (groupOf n = t)) ++
    (s.media.blocks.filter (fun x => decide (x.1.target = t))).map (fun x => bandOfBlock s x.1) ++ [s.media.spillBand]
  let ks := (seen.filter (fun n => decide (groupOf n = t))).map (fun n => n % 8192)
  let fresh := (firstFrom bandsPerGroup ks 0).map (fun k => 8192 * t.val + k)
  (ks.eraseDups.map (fun k => 8192 * t.val + k) ++ fresh.toList).filter (fun n =>
    decide (n ≠ s.media.spillBand) && decide ((bandOf s n).state = .free))

/-- Mean ECOUNT of a band's members, in 240ths. -/
def meanWear (s : State) (n : Nat) : Nat :=
  let ks := memberBlocks n (bandOf s n)
  listSum (ks.map (fun k => (getBlock s k).ecount)) * 240 / Nat.max ks.length 1

/-- The best of a list of bands by an order; ties to the lowest number. -/
def bestBand (better : Nat → Nat → Bool) : List Nat → Option Nat
  | [] => none
  | n :: rest =>
    match bestBand better rest with
    | none => some n
    | some m => if better n m || (! better m n && decide (n < m)) then some n else some m

/-- The FREE band of lowest or highest mean wear among some (R627). -/
def pickBand (s : State) (high : Bool) (l : List Nat) : Option Nat :=
  bestBand (fun a b => if high then decide (meanWear s b < meanWear s a) else decide (meanWear s a < meanWear s b)) l

/-- The lane group a new band comes from: fewest open bands, then most FREE bands, then lowest (R591); only groups with a
band to give. -/
def chooseGroup (s : State) : Option (Fin 8) :=
  let ts := (List.finRange 8).filter (fun t => ! (freeCandidates s t).isEmpty)
  let better (a b : Fin 8) : Bool :=
    decide (openIn s a < openIn s b) || (decide (openIn s a = openIn s b) && (decide (freeIn s b < freeIn s a)
      || (decide (freeIn s a = freeIn s b) && decide (a.val < b.val))))
  match ts with
  | [] => none
  | t :: rest => some (rest.foldl (fun x y => if better y x then y else x) t)

/-! ### GC states (R624, R625) -/

/-- Code of a GC state. -/
def gcCode : GcState → Nat
  | .normal => 0 | .throttle => 1 | .matched => 2 | .refuse => 3

/-- The state a number of FREE bands permits, by its lower bounds. -/
def gcDown (f : Nat) : GcState :=
  if f < 8 then .refuse else if f < 16 then .matched else if f < 64 then .throttle else .normal

/-- The state a number of FREE bands permits moving up to. -/
def gcUp (f : Nat) : GcState :=
  if f < 12 then .refuse else if f < 20 then .matched else if f < 68 then .throttle else .normal

/-- The state after F has become `f` (R625). -/
def gcNext (g : GcState) (f : Nat) : GcState :=
  if gcCode g < gcCode (gcDown f) then gcDown f
  else if gcCode (gcUp f) < gcCode g then gcUp f
  else g

/-- Take F into the GC state: the change is logged, and MATCHED begins with no credit (R624, R625). -/
def gcRefresh (s : State) : State :=
  let f := freeBands s
  let old := s.upkeep.gc
  let new := gcNext old f
  if new = old then s
  else
    let s := updUpkeep s (fun u => { u with gc := new, credit := if new = .matched then 0 else u.credit })
    logEv s .gcState { details := [gcCode old, gcCode new, f] }

/-- HOST_SHARE (CORE.GC.STATUS). -/
def hostShare (s : State) : Nat :=
  match s.upkeep.gc with
  | .normal => 100
  | .throttle => (2500 + 7500 * (freeBands s - 16) / 48) / 100
  | _ => 0

/-! ### The erase-intent ring (R638, R639) -/

/-- An INTENT record has no DONE or FAILED among the newer ones. -/
def intentOpen (newer : List EraseRec) (r : EraseRec) : Bool :=
  decide (r.kind = .intent) && ! newer.any (fun x => decide (x.block = r.block) && decide (x.kind ≠ .intent))

/-- A ring, oldest first, without its oldest record that is no open INTENT. -/
def dropOldest : List EraseRec → List EraseRec
  | [] => []
  | r :: rest => if intentOpen rest r then r :: dropOldest rest else rest

/-- Append a record to the ring of 4,096 (R638). -/
def eraseRec (s : State) (k : BlockId) (kind : EraseKind) (p : Purpose) : State :=
  let r : EraseRec := { seq := s.upkeep.ringSeq, ltime := s.clock.ledger, block := k, kind := kind, purpose := p
                        ecount := (getBlock s k).ecount }
  updUpkeep s (fun u => { u with
    ring := if u.ring.length < 4096 then r :: u.ring else r :: (dropOldest u.ring.reverse).reverse
    ringSeq := (u.ringSeq + 1) % 2 ^ 32 })

/-- A block has been erased: one more erase, no reads, no mark (R627, R629, R642). -/
def blockErased (s : State) (k : BlockId) : State :=
  updBlock s k (fun b => { b with ecount := b.ecount + 1, reads := 0, reErase := false, rebuilt := [] })

/-- Erase a block whole, from INTENT to DONE. -/
def eraseNow (s : State) (p : Purpose) (k : BlockId) : State :=
  eraseRec (blockErased (eraseRec s k .intent p) k) k .done p

/-- Erase the marked members of a band before it is opened (R627, R642). -/
def eraseMarked (s : State) (n : Nat) : State :=
  ((memberBlocks n (bandOf s n)).filter (fun k => (getBlock s k).reErase && ! (getIsl s (.media k.channel)).leftOut)).foldl (fun s k => eraseNow s .reErase k) s

/-! ### Opening a bed (R590 to R593, R627, R825) -/

/-- The least F at which a user takes a FREE band (R825). -/
def bedFloor (k : BedKind) (rebuild : Bool) : Nat :=
  match k with | .host => 8 | .gc0 | .gc1 => if rebuild then 5 else 4 | .meta_ => 3

/-- Open a FREE band as a bed. -/
def openBand (s : State) (k : BedKind) (bin binEnd : Nat) (rebuild : Bool) : Option (Nat × State) :=
  if freeBands s < bedFloor k rebuild then none
  else match chooseGroup s with
  | none => none
  | some t =>
    match pickBand s (decide (k = .gc0)) (freeCandidates s t) with
    | none => none
    | some n =>
      let s := eraseMarked s n
      let out := leftChans s
      let s := updBand s n (fun b => { b with
        state := .open_, bed := some k, bin := bin, binEnd := binEnd, pages := [], narrow := [],
        pslc := decide (k = .meta_), presence := []
        away := out.filter (fun c => ! b.absent.contains c), absent := joinCh b.absent out })
      some (n, gcRefresh (stageLog s (.band n)))

/-- The open beds of a kind. -/
def beds (s : State) (k : BedKind) : List (Nat × Band) :=
  s.media.bands.filter (fun x => decide (x.2.state = .open_) && decide (x.2.bed = some k))

/-- The open bed of a kind of which there is one, opened when there is none. -/
def bedOf (s : State) (k : BedKind) (rebuild : Bool) : Option (Nat × State) :=
  match beds s k with
  | (n, _) :: _ => some (n, s)
  | [] => openBand s k 0 0 rebuild

/-- Host beds whose bin has not ended (R592). -/
def liveBeds (s : State) : List (Nat × Band) :=
  (beds s .host).filter (fun x => decide (now s < x.2.binEnd))

/-- The bed of a host write (R590); GC bed 1 when no host bed can take it (R826). -/
def hostBed (s : State) (bin binEnd : Nat) : Option (Nat × State) :=
  match (liveBeds s).find? (fun x => decide (x.2.bin = bin)) with
  | some x => some (x.1, s)
  | none =>
    let fresh := if (beds s .host).length < 24 ∧ now s < binEnd then openBand s .host bin binEnd false else none
    match fresh with
    | some r => some r
    | none =>
      let later := (liveBeds s).filter (fun x => decide (bin < x.2.bin))
      let nearest := later.foldl (fun (o : Option (Nat × Band)) x =>
        match o with | none => some x | some y => if x.2.bin < y.2.bin then some x else some y) none
      let latest := (liveBeds s).foldl (fun (o : Option (Nat × Band)) x =>
        match o with | none => some x | some y => if y.2.bin < x.2.bin then some x else some y) none
      match nearest, latest with
      | some x, _ => some (x.1, s)
      | none, some x => some (x.1, s)
      | none, none => bedOf s .gc1 false

/-! ### Programs and the map (R581 to R583, R595, R602) -/

/-- Program a data page into an open band: the next PSEQ, the stall-presence mark (R644), and FULL after the last stripe
(R592). Answers the page's index in the band. -/
def putPage (s : State) (n : Nat) (p : PageRec) : Nat × State :=
  let b := bandOf s n
  let i := b.pages.length
  let p := { p with pseq := s.media.pseq, ltime := s.clock.ledger }
  let s := updMedia s (fun m => { m with pseq := m.pseq + 1 })
  let full := decide (bandPages b ≤ i + 1)
  let s := updBand s n (fun b => { b with
    pages := p :: b.pages
    since := if b.pages.isEmpty then s.clock.ledger else b.since
    presence := match p.stall with
      | some x => if b.presence.contains x then b.presence else x :: b.presence
      | none => b.presence
    state := if full then .full else b.state
    bed := if full then none else b.bed })
  (i, if full then stageLog s (.band n) else s)

/-- A version's record was written by a write, or by the writes of its parts. -/
def ownsRec (o : Obj) (w : Nat) : Bool := decide (o.wseq = w) || o.parts.contains w

/-- A record on flash is referred to: by the present version of its key, or by a stored part of an open upload. -/
def recLive (s : State) (r : ObjKey × Nat) : Bool :=
  (match objOf s r.1 with | some o => ownsRec o r.2 | none => false)
    || s.kv.uploads.any (fun u => decide (u.2.key = r.1) && u.2.pages.any (fun p => decide (p.2.2 = r.2)))

/-- A log record tells of a write. -/
def entryOf (w : Nat) (e : LogEntry) : Bool :=
  match e.what with
  | .map _ ws => ws.contains w
  | .indexSet _ w' => decide (w' = w)
  | .indexDel _ w' => decide (w' = w)
  | _ => false

/-- A program in flight carries a write's data or its log records. -/
def progOf (w : Nat) : Prog → Bool
  | .page _ _ _ _ _ _ recs => recs.any (fun r => decide (r.2 = w))
  | .log es => es.any (entryOf w)

/-- A write's pages are not all programmed. -/
def pagesWait (s : State) (w : Nat) : Bool :=
  s.media.packs.any (fun p => p.2.recs.any (fun r => decide (r.2 = w)))
    || s.media.progs.any (fun p => match p with | .page .. => progOf w p | .log _ => false)
    || (match s.media.image with | some i => i.dataPages.any (progOf w) | none => false)

/-- A write is not Persisted yet (R602): some page of it or some log record of its map and index change is not
programmed. -/
def writeWaits (s : State) (w : Nat) : Bool :=
  pagesWait s w || s.media.staged.any (entryOf w)
    || s.media.progs.any (fun p => match p with | .log es => es.any (entryOf w) | .page .. => false)

/-- Take from the dirty data what has been programmed (R118), and from the write buffer its records. -/
def settleDirty (s : State) (ws : List Nat) : State :=
  let keep (w : Nat) : Bool := ! ws.contains w || pagesWait s w
  updMedia (updKv s (fun d => { d with dirty := d.dirty.filter (fun x => keep x.1) }))
    (fun m => { m with buf := m.buf.filter (fun x => keep x.1) })

/-- Issue the packed page of a stall and bin (R587). -/
def issuePack (s : State) (x : StallNo × Nat) : State :=
  match AMap.find s.media.packs x with
  | none => s
  | some p =>
    issue (updMedia s (fun m => { m with packs := AMap.del m.packs x }))
      (.page .packed x.1 p.lpn x.2 p.binEnd p.recs.length p.recs)

/-- Issue every packed page that holds a write. -/
def issuePacksOf (s : State) (w : Nat) : State :=
  (s.media.packs.filter (fun p => p.2.recs.any (fun r => decide (r.2 = w)))).foldl (fun s p => issuePack s p.1) s

/-- Put pages at the end of the metadata bed, opening bands as they fill. -/
def putMeta (s : State) (p : PageRec) : Nat → State
  | 0 => s
  | k + 1 =>
    match bedOf s .meta_ false with
    | none => s
    | some (n, s) => putMeta (putPage s n p).2 p k

/-! ### What a page holds on flash (R586, R589, ch. 13 Log record header) -/

/-- The 4 data units of a page of content, zero-filled to 16,384 bytes, encrypted under a key: the tweak of unit `u` of
logical page `l` is 4 l + u (R589). -/
def sealPage (key : List Byte) (l : Nat) (content : List Byte) : List (List Byte) :=
  let page := content ++ List.replicate (16384 - content.length) 0
  (List.range 4).map (fun u => Config.aesXts key (4 * l + u) (slice page (4096 * u) 4096))

/-- The key of drive metadata, derived from the identity key's seed (R589). -/
def metaKey (s : State) : List Byte := Config.hkdfSha384 (seedOf s) (asciiBytes "media-meta")

/-- The key that wraps the stalls' data keys under an LC_COUNT (R782). -/
def wrapKey (s : State) (count : Nat) : List Byte :=
  Config.hkdfSha384 (seedOf s) (asciiBytes "stall-wrap" ++ [BitVec.ofNat 8 count])

/-- The bytes of a wrapped data key. -/
def wrappedBytes (s : State) (w : WrappedKey) : List Byte := Config.keyWrap (wrapKey s w.count) w.key

/-- A stall takes a data key: DRAM holds it, and flash holds it wrapped under the present LC_COUNT. -/
def giveKey (s : State) (key : Word64) (d : Stall) : Stall :=
  { d with dataKey := some key, wrapped := some { key := key, count := s.life.count } }

/-- At a start DRAM takes the data key from its wrapped copy, which unwraps only under the LC_COUNT it was wrapped under. -/
def unwrapKey (s : State) (d : Stall) : Stall :=
  { d with dataKey := (d.wrapped.filter (fun w => decide (w.count = s.life.count))).map (fun w => w.key) }

/-- The data key of a stall (R503). -/
def stallKey (s : State) (x : StallNo) : List Byte :=
  match (getStall s x).dataKey with | some k => Config.dataKeyOf k | none => []

/-- The content of the page that a data program carries: a page of one record, or the records of a packed page (R586). -/
def pageContent (s : State) : Prog → List Byte
  | .page k _ _ _ _ index recs =>
    let bs := recs.flatMap (fun r => AMap.getD s.media.buf r.2 [])
    if k = .data then slice bs (16384 * index) 16384 else bs
  | .log _ => []

/-- Code of a page kind (ch. 13, Page kind encoding). -/
def pageKindCode : PageKind → Nat
  | .data => 1 | .packed => 2 | .parity => 3 | .log => 4 | .checkpoint => 5 | .shelterHead => 6 | .shelterMeta => 7
  | .shelterData => 8 | .pad => 9

/-- The 64 bytes of a page's header as it is programmed at a stripe of a band (ch. 13, Page header). FIRST holds of the page of index 0
and of a packed page. The LPN of a page of drive metadata is that of its position in the log (DESIGN CHOICE, log 48). -/
def headerBytes (n stripe : Nat) (pslc : Bool) (p : PageRec) : List Byte :=
  let lpn : Nat := match p.kind with
    | .pad | .parity => 0x7FFFFFFF
    | _ => p.lpn.getD (p.lsn / 16384 % 2 ^ 31)
  let first := decide (p.kind = .packed) || (p.lpn.isSome && decide (p.index = 0))
  let h := leBytes 4 0xBED50A6E ++ leBytes 1 (pageKindCode p.kind) ++ leBytes 1 (match p.stall with | some x => x.val | none => 0xFF)
    ++ leBytes 1 (b2n first + 2 * b2n p.last + 4 * b2n pslc) ++ leBytes 1 0 ++ leBytes 4 lpn ++ leBytes 4 p.bin ++ leBytes 8 p.pseq
    ++ leBytes 8 p.ltime ++ leBytes 4 p.index ++ leBytes 2 n ++ leBytes 2 stripe ++ leBytes 20 0
  h ++ leBytes 4 (crc32c h)

/-- A page carries a valid header: its MARK, its CRC and its KIND are valid (R594). -/
def validHeader (h : List Byte) : Bool :=
  decide (leNat (slice h 0 4) = 0xBED50A6E) && decide (leNat (slice h 60 4) = crc32c (h.take 60))
    && decide (1 ≤ leNat (slice h 4 1)) && decide (leNat (slice h 4 1) ≤ 9)

/-- The page of a data program is the last of its record: always for a packed page. -/
def lastPage (s : State) : Prog → Bool
  | .page k _ _ _ _ index recs =>
    decide (k ≠ .data) || recs.all (fun r => decide ((AMap.getD s.media.buf r.2 []).length ≤ 16384 * (index + 1)))
  | .log _ => false

/-- The encrypted units of the page that a data program writes (R589). -/
def pageUnits (s : State) (p : Prog) : List (List Byte) :=
  match p with
  | .page _ x lpn _ _ _ _ => sealPage (stallKey s x) lpn (pageContent s p)
  | .log _ => []

/-- TYPE of a log record (ch. 13, Record type encoding). A parcel's pieces are kept in CONFIG records (DESIGN CHOICE,
log 48). -/
def logType : LogRec → Nat
  | .map _ _ => 1 | .indexSet _ _ => 2 | .indexDel _ _ => 3 | .band _ => 4 | .ckptSeg _ _ _ => 5 | .config => 6
  | .counters => 7 | .stall _ => 8 | .meter => 9 | .replayed _ => 10 | .parcel _ => 6

/-- The payload of a log record. -/
def logPayload (e : LogEntry) : List Byte := Config.logPayload (logType e.what) e.lsn (e.bytes - 32)

/-- A log record as it stands in the stream: its header and its payload (ch. 13, Log record header). -/
def logBytes (e : LogEntry) : List Byte :=
  let h := leBytes 4 0xA6B1E5C0 ++ leBytes 2 (logType e.what) ++ leBytes 2 (e.bytes - 32) ++ leBytes 8 e.lsn
    ++ leBytes 8 e.prev ++ leBytes 4 (crc32c (logPayload e))
  h ++ leBytes 4 (crc32c h) ++ logPayload e

/-- The stalls of the STALL records among some log records. -/
def entryStalls (es : List LogEntry) : List StallNo :=
  (es.filterMap (fun e => match e.what with | .stall x => some x | _ => none)).eraseDups

/-- Program log records: whole pages in the metadata bed, and the records join the log. -/
def programEntries (s : State) (es : List LogEntry) : State :=
  let n := Nat.max 1 (ceilDiv (listSum (es.map (fun e => e.bytes))) 16384)
  let end_ := listMax (es.map (fun e => e.lsn + e.bytes))
  let s := putMeta s { kind := .log, pseq := 0, ltime := 0, lsn := end_, keys := entryStalls es
                       units := sealPage (metaKey s) (end_ / 16384) (es.flatMap logBytes) } n
  updMedia s (fun m => { m with log := es.reverse ++ m.log })

/-- Program every log record issued or staged, in order. -/
def syncLog (s : State) : State :=
  let logs := s.media.progs.filterMap (fun p => match p with | .log es => some es | .page .. => none)
  let all := logs.flatten ++ s.media.staged.reverse
  if all.isEmpty then s
  else
    programEntries (updMedia s (fun m => { m with
      staged := []
      progs := m.progs.filter (fun p => match p with | .log _ => false | .page .. => true) })) all

/-- A data page or packed page has been programmed: the map entry of its logical page when some record on it is still
referred to (R581, R602). -/
def mapPage (s : State) (lpn n i : Nat) (recs : List (ObjKey × Nat)) : State :=
  if recs.any (recLive s) then
    stageLog (updMedia s (fun m => { m with map := AMap.set m.map lpn (n, i) }))
      (.map [(lpn, some (n, i))] (recs.map (fun r => r.2)))
  else s

/-- Complete one program in flight. -/
def completeProg (s : State) (p : Prog) : State :=
  match p with
  | .log es => programEntries s es
  | .page k x lpn bin binEnd index recs =>
    match hostBed s bin binEnd with
    | none => issue s p
    | some (n, s) =>
      let (i, s) := putPage s n { kind := k, stall := some x, lpn := some lpn, bin := bin, pseq := 0, ltime := 0
                                  index := index, recs := recs, last := lastPage s p, units := pageUnits s p }
      mapPage s lpn n i recs

/-- The list without its `i`th entry. -/
def dropNth {α : Type} (l : List α) (i : Nat) : List α := l.take i ++ l.drop (i + 1)

/-- The writes of a program. -/
def progWrites : Prog → List Nat
  | .page _ _ _ _ _ _ recs => recs.map (fun r => r.2)
  | .log _ => []

/-- The `i`th program in flight completes. -/
def programDone (s : State) (i : Nat) : State :=
  match s.media.progs[i]? with
  | none => s
  | some p =>
    let s := completeProg (updMedia s (fun m => { m with progs := dropNth m.progs i })) p
    settleDirty s (progWrites p)

/-! ### Records of objects (R586, R587) -/

/-- Bytes of a record: header, key, tags, value (ch. 13, Value header). -/
def recordLen (k : ObjKey) (tags value : Nat) : Nat := 64 + pad8 k.key.length + 8 * tags + pad8 value

/-- Bytes of an object's record. -/
def objRecLen (k : ObjKey) (o : Obj) : Nat := recordLen k o.tags.length o.value.length

/-- Logical pages some object or upload refers to. -/
def lpnUsed (s : State) (l : Nat) : Bool :=
  s.kv.objs.any (fun x => x.2.lpns.contains l) || s.kv.uploads.any (fun u => u.2.pages.any (fun p => p.2.1.contains l))

/-- A log record maps or unmaps a logical page. -/
def entryLpn (l : Nat) (e : LogEntry) : Bool :=
  match e.what with | .map ps _ => ps.any (fun p => decide (p.1 = l)) | _ => false

/-- A logical page is not in the free pool: in use, mapped, or its unmapping not yet programmed (R583). -/
def lpnTaken (s : State) (l : Nat) : Bool :=
  lpnUsed s l || (AMap.find s.media.map l).isSome || s.media.packs.any (fun p => decide (p.2.lpn = l))
    || s.media.staged.any (entryLpn l)
    || s.media.progs.any (fun p => match p with
      | .page _ _ l' _ _ _ _ => decide (l' = l) | .log es => es.any (entryLpn l))

/-- Logical pages (R581). -/
def lpnCount : Nat := 1610612736

/-- The first run of `n` free logical pages from a number on, going round once, up to a bound of steps. -/
def findRun (s : State) (n : Nat) : Nat → Nat → Nat
  | 0, a => a
  | fuel + 1, a =>
    if lpnCount < a + n then findRun s n fuel 0
    else match ((List.range n).map (fun i => a + i)).find? (lpnTaken s) with
      | some l => findRun s n fuel (l + 1)
      | none => a

/-- Take consecutive logical pages from the free pool (R583). -/
def takeLpns (s : State) (n : Nat) : List Nat × State :=
  let a := findRun s n (s.media.map.length + s.kv.objs.length + s.kv.uploads.length + 16) s.media.nextLpn
  ((List.range n).map (fun i => a + i), updMedia s (fun m => { m with nextLpn := (a + n) % lpnCount }))

/-- The record of a write as bytes (ch. 13, Value header): header, key, tags, value, each section padded to 8 bytes. -/
def recordImage (k : ObjKey) (o : Obj) (w : Nat) : List Byte :=
  let body := padBytes k.key ++ o.tags.flatMap wordBytes ++ padBytes o.value
  let h := leBytes 8 (fpOf k) ++ leBytes 8 o.version ++ leBytes 8 o.incarnation ++ leBytes 8 o.expiry ++ leBytes 8 w
    ++ leBytes 4 o.value.length ++ leBytes 1 k.key.length ++ leBytes 1 o.tags.length ++ leBytes 2 0
    ++ leBytes 4 (crc32c body) ++ leBytes 8 0
  h ++ leBytes 4 (crc32c h) ++ body

/-- Put the record of a write into the write buffer. -/
def bufferRecord (s : State) (w : Nat) (bs : List Byte) : State :=
  updMedia s (fun m => { m with buf := AMap.set m.buf w bs })

/-- Place the record of a write in the write buffer: a packed page of its stall and bin, or pages of its own, which are
issued at once (R586, R587). Answers its logical pages and whether it is packed. -/
def placeRecord (s : State) (k : ObjKey) (len bin binEnd w : Nat) : (List Nat × Bool) × State :=
  if len ≤ 16384 then
    let x := (k.stall, bin)
    let s := match AMap.find s.media.packs x with
      | some p => if 16384 < p.used + len then issuePack s x else s
      | none => s
    let (l, s) := match AMap.find s.media.packs x with
      | some p => (p.lpn, updMedia s (fun m => { m with
          packs := AMap.set m.packs x { p with used := p.used + len, recs := p.recs ++ [(k, w)] } }))
      | none =>
        let (ls, s) := takeLpns s 1
        let l := ls.headD 0
        (l, updMedia s (fun m => { m with
          packs := AMap.set m.packs x { lpn := l, binEnd := binEnd, at_ := s.clock.ledger, used := len, recs := [(k, w)] } }))
    let s := match AMap.find s.media.packs x with
      | some p => if 16384 ≤ p.used then issuePack s x else s
      | none => s
    (([l], true), s)
  else
    let (ls, s) := takeLpns s (ceilDiv len 16384)
    let s := (ls.zipIdx).foldl (fun s x => issue s (.page .data k.stall x.1 bin binEnd x.2 [(k, w)])) s
    ((ls, false), s)

/-- Unmap the logical pages of a list that nothing refers to any more (R583). -/
def unmap (s : State) (ls : List Nat) : State :=
  let gone := ls.filter (fun l => ! lpnUsed s l && (AMap.find s.media.map l).isSome)
  if gone.isEmpty then s
  else stageLog (updMedia s (fun m => { m with map := m.map.filter (fun x => ! gone.contains x.1) }))
    (.map (gone.map (fun l => (l, none))) [])

/-! ### Live bytes (R620, R827) -/

/-- Bytes of an object's record that lie in its `i`th logical page. -/
def pageShare (len i : Nat) : Nat := Nat.min 16384 (len - 16384 * i)

/-- Live bytes of an object in a band. -/
def objLiveIn (s : State) (n : Nat) (k : ObjKey) (o : Obj) : Nat :=
  let len := objRecLen k o
  listSum ((o.lpns.zipIdx).map (fun x =>
    match AMap.find s.media.map x.1 with
    | some (m, _) => if m = n then pageShare len x.2 else 0
    | none => 0))

/-- The lowest capture LSN of the current segments; 0 while a map segment has never been written (R599). -/
def lowCapture (s : State) : Nat :=
  let cs := s.media.segs.map (fun x => x.capture)
  if (s.media.segs.filter (fun x => ! x.index)).length < 96 then 0
  else cs.foldl Nat.min (cs.headD 0)

/-- A metadata page still needed (R599, R620). -/
def metaLive (s : State) (p : PageRec) : Bool :=
  match p.kind with
  | .log => decide (lowCapture s < p.lsn)
  | .checkpoint => s.media.segs.any (fun x => decide (x.capture = p.lsn))
  | _ => false

/-- Live bytes of a band: those of present records (R620), of stored parts, of metadata pages still needed. -/
def bandLive (s : State) (n : Nat) : Nat :=
  listSum (s.kv.objs.map (fun x => if presentAt (now s) x.2 then objLiveIn s n x.1 x.2 else 0))
    + listSum (s.kv.uploads.map (fun u => listSum (u.2.pages.map (fun p =>
        16384 * (p.2.1.filter (fun l => match AMap.find s.media.map l with
          | some (m, _) => decide (m = n) | none => false)).length))))
    + 16384 * ((bandOf s n).pages.filter (metaLive s)).length

/-- The drive's live bytes: records of present objects, stored parts, mirror copies, live metadata (R827). -/
def liveBytes (s : State) : Nat :=
  listSum (s.kv.objs.map (fun x => if presentAt (now s) x.2 then objRecLen x.1 x.2 else 0))
    + listSum (s.kv.uploads.map (fun u => listSum (u.2.parts.map (fun p => p.2.length))))
    + listSum (s.row.copies.map (fun c =>
        recordLen c.2.obj.key c.2.obj.tags.length c.2.obj.value.length))
    + 16384 * listSum (s.media.bands.map (fun b => (b.2.pages.filter (metaLive s)).length))

/-- Data capacity of every band outside DONOR (R827). -/
def dataCapacity (s : State) : Nat :=
  listSum ((List.finRange 8).map (fun t =>
    let lost := (lostIn s t).length
    let listed := s.media.bands.filter (fun x => decide (groupOf x.1 = t) && decide (x.1 % 8192 < bandsPerGroup))
    let plain := bandsPerGroup - listed.length
    let each := if lost = 0 then 503316480 else if lost = 1 then 469762048 else 0
    plain * each + listSum (listed.map (fun x =>
      let b := bandOf s x.1
      if b.state = .donor then 0 else bandCapacity { b with absent := joinCh b.absent (lostIn s t) }))))

/-- CORE.RES.LIVE_MAX (R827). -/
def liveMax (s : State) : Nat := dataCapacity s - 128 * 503316480

/-- The user capacity (ch. 13, Capacity; R614). -/
def userCapacity (s : State) : Nat := 26000000000000 - 274877906944 * s.media.lost.length

/-- Stored use of all stalls (R511, R614). -/
def storedUse (s : State) : Nat :=
  listSum (s.kv.objs.map (fun x => if presentAt (now s) x.2 then objBytes x else 0))
    + listSum (s.kv.uploads.map (fun u => listSum (u.2.parts.map (fun p => p.2.length))))

/-! ### Relocation of pages (R582, R593, R621) -/

/-- A record goes to GC bed 0: held, or its EXPIRY more than 30 days ahead (R593). -/
def longLived (s : State) (r : ObjKey × Nat) : Bool :=
  match objOf s r.1 with
  | some o => ownsRec o r.2 && (o.held || decide (now s + 30 * day < o.expiry))
  | none => false

/-- Remove the record of an absent object that the key table still lists, with its INDEX_DEL (R621). -/
def dropAbsent (s : State) (r : ObjKey × Nat) : State :=
  match AMap.find s.kv.objs r.1 with
  | some o =>
    if ownsRec o r.2 ∧ ¬ presentAt (now s) o then
      stageLog (updKv s (fun d => { d with objs := AMap.del d.objs r.1 })) (.indexDel r.1 r.2)
    else s
  | none => s

/-- Blocks that reach 100,000 reads are queued for refresh (R630). -/
def addReads (s : State) (k : BlockId) (n : Nat) : State :=
  let old := (getBlock s k).reads
  let s := updBlock s k (fun b => { b with reads := sat (b.reads + n) 0xFFFFFFFF })
  if old < 100000 ∧ 100000 ≤ old + n ∧ ¬ s.upkeep.refresh.contains k then
    updUpkeep s (fun u => { u with refresh := u.refresh ++ [k] })
  else s

/-- One array read of a data page of a band counts on its block (R629). -/
def readPage (s : State) (n i : Nat) : State :=
  let b := bandOf s n
  match pageChan n b i with
  | some (c, _) => addReads s (memberBlock n b c) 1
  | none => s

/-- Copy one mapped data page of a band into a GC bed, as ciphertext, changing its map entry alone (R582); a page none of
whose records is present is unmapped (R621). Answers none when no bed can take it. -/
def copyPage (bed0 rebuild : Bool) (n i : Nat) (p : PageRec) (s : State) : Option State :=
  match p.lpn with
  | none =>
    if metaLive s p then (bedOf s .meta_ false).map (fun x => (putPage x.2 x.1 p).2) else some s
  | some l =>
    if AMap.find s.media.map l ≠ some (n, i) then some s
    else
      let s := p.recs.foldl dropAbsent s
      let live := p.recs.filter (recLive s)
      if live.isEmpty then some (unmap s [l])
      else
        (bedOf s (if bed0 || live.any (longLived s) then .gc0 else .gc1) rebuild).map (fun x =>
          let (j, s) := putPage (readPage x.2 n i) x.1 { p with recs := live }
          stageLog (updMedia s (fun m => { m with map := AMap.set m.map l (x.1, j) }))
            (.map [(l, some (x.1, j))] []))

/-- Copy the mapped pages among some of a band's, in order, and program the MAP records (R582, R656). Answers none when a
bed is wanting, with nothing changed. -/
def copyPages (bed0 rebuild : Bool) (n : Nat) (ps : List (PageRec × Nat)) (s : State) : Option State :=
  (ps.foldl (fun (o : Option State) x => o.bind (copyPage bed0 rebuild n x.2 x.1)) (some s)).map syncLog

/-- The pages of a band with their indexes, oldest first. -/
def pagesOf (b : Band) : List (PageRec × Nat) := b.pages.reverse.zipIdx

/-- Pages of a band that stand on a channel. -/
def pagesOnChan (n : Nat) (b : Band) (c : Fin 16) : List (PageRec × Nat) :=
  (pagesOf b).filter (fun x => match pageChan n b x.2 with | some (d, _) => decide (d = c) | none => false)

/-- Complete the open stripe of an open band with PAD pages (R592, R811). -/
def padStripe (s : State) (n : Nat) : State :=
  let b := bandOf s n
  let w := (membersAt b (pagePlace b b.pages.length).1).length - 1
  let k := (pagePlace b b.pages.length).2
  let pads := if k = 0 then 0 else w - k
  (List.range pads).foldl (fun s _ =>
    if (bandOf s n).state = .open_ then (putPage s n { kind := .pad, pseq := 0, ltime := 0 }).2 else s) s

/-- Close an open band: its open stripe is completed with PAD pages (R592). -/
def closeBand (s : State) (n : Nat) : State :=
  if (bandOf s n).state ≠ .open_ then s
  else
    let s := padStripe s n
    stageLog (updBand s n (fun b => { b with state := if b.state = .full then .full else .closed, bed := none })) (.band n)

/-! ### Lost pages and reconstruction (R588, R612, R629) -/

/-- A page is lost: the versions with a record on it are unavailable with reason MEDIA from now on, and PAGE_LOST is
logged (R612). -/
def pageLost (s : State) (n : Nat) (b : Band) (i : Nat) (recs : List (ObjKey × Nat)) : State :=
  let hit := recs.filter (recLive s)
  let s := updKv s (fun d => { d with objs := d.objs.map (fun x =>
    if hit.any (fun r => decide (r.1 = x.1) && ownsRec x.2 r.2) then (x.1, { x.2 with avail := .media }) else x) })
  let s := updMedia s (fun m => { m with rebuildLost := if m.rebuild then m.rebuildLost + 1 else m.rebuildLost })
  logEv s .pageLost { details := [pagePpn n b i, hit.length] }

/-- A page is rebuilt from its stripe and relocated: the other members' reads count, PAGE_REBUILT is logged, and a second
rebuild of the block within 30 days queues it for refresh and marks it failing (R612, R635). -/
def pageRebuilt (s : State) (n i : Nat) (p : PageRec) : State :=
  let b := bandOf s n
  match pageChan n b i with
  | none => s
  | some (c, st) =>
    let k := memberBlock n b c
    let s := ((membersAt b st).filter (fun d => decide (d ≠ c))).foldl (fun s d => addReads s (memberBlock n b d) 1) s
    let s := logEv s .pageRebuilt { details := [ppnOf k st] }
    let times := ((getBlock s k).rebuilt.filter (fun t => decide (now s < t + 30 * day))).take 1
    let twice := ! times.isEmpty
    let s := updBlock s k (fun d => { d with
      rebuilt := now s :: times, failing := if twice then some .rebuiltTwice else d.failing })
    match copyPages false false n ([(p, i)]) s with
    | none => s
    | some s => if twice then (copyPages false false n (pagesOnChan n b c) s).getD s else s

end Sys2Proof.Machine
end

