-- ==== Sys2Proof/Machine/UpkeepOps.lean ====
section
/-!
DEFINITION. Media upkeep (ch. 13, 14): spares and retirement, the loss of a die, garbage collection, the erase of a band
and its return to FREE, rebuild, refresh, SHRED's physical work, health figures.
-/

namespace Sys2Proof.Machine

open Sys2Proof

/-! ### Spares and retirement (R578, R635, R636) -/

/-- Spare blocks at manufacture: 16 in each plane of each die (log 5). -/
def sparesMfg : Nat := 8192

/-- Spare blocks not yet substituted. -/
def sparesLeft (s : State) : Nat :=
  sparesMfg - listSum (s.media.sparesUsed.map (fun x => x.2)) + s.media.donated.length

/-- Plane of a block. -/
def planeOf (k : BlockId) : Fin 4 := Fin.ofNat 4 k.block.val

/-- A plane of a die has no spare left. -/
def planeEmpty (s : State) (x : Fin 16 × Fin 8 × Fin 4) : Bool :=
  decide (16 ≤ AMap.getD s.media.sparesUsed x 0)
    && ! s.media.donated.any (fun k => decide ((k.channel, k.target, planeOf k) = x))

/-- Take a spare of the same die and plane (R578); the last of a plane raises SPARES_EXHAUSTED (R636). -/
def takeSpare (s : State) (k : BlockId) : Option (Nat × State) :=
  let x := (k.channel, k.target, planeOf k)
  let used := AMap.getD s.media.sparesUsed x 0
  let got : Option (Nat × State) :=
    if used < 16 then
      some (8128 + (planeOf k).val + 4 * used,
        updMedia s (fun m => { m with sparesUsed := AMap.set m.sparesUsed x (used + 1) }))
    else
      match s.media.donated.find? (fun d => decide ((d.channel, d.target, planeOf d) = x)) with
      | some d => some (d.block.val, updMedia s (fun m => { m with donated := m.donated.erase d }))
      | none => none
  got.map (fun r =>
    (r.1, if planeEmpty r.2 x then
        logEv r.2 .sparesExhausted { details := [k.channel.val, k.target.val, (planeOf k).val] }
      else r.2))

/-- REASON of BLOCK_RETIRED. -/
def retireCode : RetireCause → Nat
  | .eraseFail => 1 | .programFail => 2 | .rebuiltTwice => 3

/-- Retire a block (R635). -/
def retireBlock (s : State) (k : BlockId) (c : RetireCause) : State :=
  let s := updBlock s k (fun b => { b with retired := true, failing := none, reErase := false })
  let die := (k.channel, k.target)
  let s := updUpkeep s (fun u => { u with
    grownBad := sat (u.grownBad + 1) 65535
    retires := AMap.set u.retires die (s.clock.ledger :: AMap.getD u.retires die []) })
  logEv s .blockRetired { reason := retireCode c, details := [ppnOf k 0] }

/-- Substitute a spare for a band's member on a channel, or leave the member absent (R578). -/
def substitute (s : State) (n : Nat) (c : Fin 16) : State :=
  let b := bandOf s n
  let k := memberBlock n b c
  let rest := b.subst.filter (fun x => decide (x.1 ≠ c))
  match takeSpare s k with
  | some (spare, s) => updBand s n (fun b => { b with subst := (c, spare) :: rest })
  | none => updBand s n (fun b => { b with subst := rest, absent := joinCh b.absent [c] })

/-- After a band's erase, retire its failing members and replace its retired ones (R635). -/
def mendBand (s : State) (n : Nat) : State :=
  (memberBlocks n (bandOf s n)).foldl (fun s k =>
    let s := match (getBlock s k).failing with | some c => retireBlock s k c | none => s
    if (getBlock s k).retired then substitute s n k.channel else s) s

/-- A FREE band with more than one member absent becomes a DONOR: its good blocks become spares (R579). -/
def donorBand (s : State) (n : Nat) : State :=
  let b := bandOf s n
  if b.state = .donor then
    let good := (memberBlocks n b).filter (fun k => ! (getBlock s k).retired && ! (lostIn s k.target).contains k.channel)
    stageLog (updMedia (updBand s n (fun b => { b with state := .donor })) (fun m => { m with donated := m.donated ++ good }))
      (.band n)
  else s

/-! ### Erasing a band (R622, R638) -/

/-- Begin the erase of every member of a band: the INTENT records (R638). A member on a channel left out of the start is
marked to be erased later (R876). -/
def startErase (s : State) (n : Nat) (p : Purpose) (copied : Nat) : State :=
  let good := (memberBlocks n (bandOf s n)).filter (fun k =>
    ! (getBlock s k).retired && ! (lostIn s k.target).contains k.channel)
  let ks := good.filter (fun k => ! (getIsl s (.media k.channel)).leftOut)
  let s := (good.filter (fun k => (getIsl s (.media k.channel)).leftOut)).foldl (fun s k =>
    updBlock s k (fun b => { b with reErase := true })) s
  let s := ks.foldl (fun s k => eraseRec s k .intent p) s
  updUpkeep s (fun u => { u with victims := u.victims ++ [{ band := n, purpose := p, copied := copied, left := ks }] })

/-- A band is being erased. -/
def erasing (s : State) (n : Nat) : Bool := s.upkeep.victims.any (fun v => decide (v.band = n))

/-- Mapped pages of a band, in bytes. -/
def mappedBytes (s : State) (n : Nat) : Nat :=
  16384 * (s.media.map.filter (fun x => decide (x.2.1 = n))).length

/-- Copy out what is present in a band and begin its erase; with no bed to copy to, nothing changes. -/
def emptyBand (s : State) (n : Nat) (p : Purpose) (bed0 rebuild : Bool) : Option State :=
  let s := closeBand s n
  (copyPages bed0 rebuild n (pagesOf (bandOf s n)) s).map (fun t => startErase t n p (mappedBytes s n))

/-! ### Garbage collection (R620 to R624, R654, R655) -/

/-- Background work on flash runs: the drive is READY or draining, and writes are not gated by cold (R654). -/
def upkeepRuns (s : State) : Bool :=
  (match s.phase with | .ready | .draining _ => true | _ => false) && ! s.power.coldGate

/-- GC may run (R655). -/
def gcRuns (s : State) : Bool :=
  upkeepRuns s && (match s.power.thermal with
    | .normal | .throttle1 => true
    | .throttle2 => decide (freeBands s < 16)
    | .halt => false)

/-- Refresh, patrol, SHRED, rebuild and wear levelling may run (R655). -/
def restRuns (s : State) : Bool :=
  upkeepRuns s && (match s.power.thermal with | .normal | .throttle1 => true | _ => false)

/-- A victim that GC skips while F is 16 or more (R620). -/
def gcSkips (s : State) (b : Band) : Bool :=
  decide (now s < b.binEnd) && decide (b.binEnd ≤ now s + 2 * hour)
    && ! b.pages.any (fun p => p.recs.any (fun r => match objOf s r.1 with
        | some o => o.held && ownsRec o r.2 | none => false))
    && ! b.pages.any (fun p => ! p.recs.isEmpty && decide (p.bin ≠ b.bin))

/-- FULL and CLOSED bands GC may take now. -/
def gcBands (s : State) : List (Nat × Band) :=
  s.media.bands.filter (fun x => decide (x.2.state = .full ∨ x.2.state = .closed) && ! erasing s x.1
    && ! (decide (16 ≤ freeBands s) && gcSkips s x.2))

/-- PSEQ of a band's first page. -/
def firstPseq (b : Band) : Nat := match b.pages.getLast? with | some p => p.pseq | none => 0

/-- The victim with no live bytes, the earliest bin first (R620). -/
def emptyVictim (s : State) : Option Nat :=
  let l := (gcBands s).filter (fun x => decide (bandLive s x.1 = 0))
  (l.foldl (fun (o : Option (Nat × Band)) x => match o with
    | none => some x
    | some y => if x.2.bin < y.2.bin then some x else some y) none).map (fun x => x.1)

/-- GC's victim (R620). -/
def gcVictim (s : State) : Option Nat :=
  match emptyVictim s with
  | some n => some n
  | none =>
    ((gcBands s).foldl (fun (o : Option (Nat × Band)) x => match o with
      | none => some x
      | some y =>
        let a := bandLive s x.1
        let c := bandLive s y.1
        if a < c ∨ (a = c ∧ firstPseq x.2 < firstPseq y.2) then some x else some y) none).map (fun x => x.1)

/-- A band is being erased for GC. -/
def gcBusy (s : State) : Bool := s.upkeep.victims.any (fun v => decide (v.purpose = .gc))

/-- GC takes its next victim: in the background, and always below NORMAL (R623, R624). -/
def gcStep (s : State) : State :=
  if gcRuns s && (s.upkeep.bg || decide (s.upkeep.gc ≠ .normal)) && ! gcBusy s then
    match gcVictim s with
    | some n => (emptyBand s n .gc false false).getD s
    | none => s
  else s

/-! ### SHRED (R643 to R649) -/

/-- Remove a key's records from the write buffer, as zeros, and rebuild the packed pages that held them (R645 step 1). -/
def scrubBuffers (s : State) (k : ObjKey) : State :=
  let keep (rs : List (ObjKey × Nat)) : List (ObjKey × Nat) := rs.filter (fun r => decide (r.1 ≠ k))
  let gone := (s.media.packs.flatMap (fun p => p.2.recs) ++ s.media.progs.flatMap (fun p => match p with
    | .page _ _ _ _ _ _ rs => rs | .log _ => [])).filter (fun r => decide (r.1 = k))
  updMedia s (fun m => { m with
    buf := m.buf.filter (fun x => ! gone.any (fun r => decide (r.2 = x.1)))
    packs := (m.packs.map (fun p => (p.1, { p.2 with recs := keep p.2.recs }))).filter (fun p => ! p.2.recs.isEmpty)
    progs := (m.progs.map (fun p => match p with
      | .page kd x l b e i rs => .page kd x l b e i (keep rs)
      | p => p)).filter (fun p => match p with | .page _ _ _ _ _ _ rs => ! rs.isEmpty | .log _ => true) })

/-- A page holds a copy of a removed object (R645 step 2). -/
def holdsCopy (keys : List (ObjKey × Nat)) (p : PageRec) : Bool :=
  p.recs.any (fun r => keys.any (fun k => decide (k.1 = r.1) && decide (r.2 < k.2)))

/-- Bands outside FREE and DONOR that hold a copy of one of a stall's removed objects. -/
def copyBands (s : State) (x : StallNo) (keys : List (ObjKey × Nat)) : List (Nat × Band) :=
  s.media.bands.filter (fun b => (match b.2.state with | .open_ | .full | .closed => true | _ => false)
    && b.2.presence.contains x && b.2.pages.any (holdsCopy keys))

/-- A copy in a band lies on a lost die (R647). -/
def copyLost (s : State) (keys : List (ObjKey × Nat)) (n : Nat) (b : Band) : Bool :=
  (pagesOf b).any (fun x => holdsCopy keys x.1
    && (match pageChan n b x.2 with | some (c, _) => (lostIn s (groupOf n)).contains c | none => false))

/-- Mark a band SHRED_PENDING, closing it first when it is open (R645 step 3). -/
def markShred (s : State) (n : Nat) : State :=
  stageLog (updBand (closeBand s n) n (fun b => { b with shredPending := true })) (.band n)

/-- The bands marked SHRED_PENDING and not yet being erased. -/
def shredBands (s : State) : List Nat :=
  (s.media.bands.filter (fun x => x.2.shredPending && ! erasing s x.1)).map (fun x => x.1)

/-- A marked band of metadata is erased for its keys, any other for a SHRED. -/
def shredPurpose (b : Band) : Purpose := if b.pslc then .key else .shred

/-- Copy out and erase every marked band that can be (R645 steps 4 and 5). -/
def shredStep (s : State) : State :=
  if restRuns s then
    (shredBands s).foldl (fun s n => (emptyBand s n (shredPurpose (bandOf s n)) false false).getD s) s
  else s

/-- Erase a removed stall's wrapped key: every metadata band with a STALL record of it is marked, its live pages are
copied without that stall's records, and it is erased with PURPOSE KEY (R649). -/
def keyErase (s : State) (x : StallNo) : State :=
  let s := syncLog s
  let hit := (s.media.bands.filter (fun b => b.2.pslc && b.2.pages.any (fun p => p.keys.contains x))).map (fun b => b.1)
  let s := hit.foldl (fun s n =>
    updBand (markShred s n) n (fun b => { b with
      pages := b.pages.map (fun p => { p with keys := p.keys.filter (fun y => decide (y ≠ x)) }) })) s
  shredStep s

/-! ### Die loss and rebuild (R613 to R617, R637) -/

/-- The stripe that begins after the present one. -/
def nextStripe (b : Band) : Nat :=
  let (p, k) := pagePlace b b.pages.length
  if k = 0 then p else p + 1

/-- A band has a member on a channel in some stripe that it has written. -/
def hasMember (b : Band) (c : Fin 16) : Bool := ! b.absent.contains c

/-- Members of a band's stripe that lie on lost dies. -/
def missingAt (s : State) (n : Nat) (b : Band) (p : Nat) : Nat :=
  ((membersAt b p).filter (fun c => (lostIn s (groupOf n)).contains c)).length

/-- A band loses its member on a die: DEGRADED, an open band's further stripes without it, and the pages of stripes with
two members missing are lost (R613, R616). -/
def degradeBand (c : Fin 16) (s : State) (n : Nat) : State :=
  let b := bandOf s n
  if ! hasMember b c then s
  else match b.state with
  | .open_ | .full | .closed =>
    let gone := (pagesOf b).filter (fun x => match x.1.lpn with
      | some l => decide (AMap.find s.media.map l = some (n, x.2)) && decide (missingAt s n b (pagePlace b x.2).1 = 2)
      | none => false)
    let s := gone.foldl (fun s x => pageLost s n b x.2 x.1.recs) s
    let s := updMedia s (fun m => { m with rebuildTotal := if b.degraded then m.rebuildTotal else m.rebuildTotal + 1 })
    stageLog (updBand s n (fun b => { b with
      degraded := true
      narrow := if b.state = .open_ ∧ ¬ b.narrow.any (fun x => decide (x.1 = c)) then b.narrow ++ [(c, nextStripe b)] else b.narrow })) (.band n)
  | _ => s

/-- The beds in use go on without the member of a channel that is left out of the start (R876). -/
def narrowBeds (s : State) (c : Fin 16) : State :=
  ((s.media.bands.filter (fun x => decide (x.2.state = .open_) && hasMember x.2 c && ! x.2.narrow.any (fun y => decide (y.1 = c)))).map
    (fun x => x.1)).foldl (fun s n => updBand s n (fun b => { b with narrow := b.narrow ++ [(c, nextStripe b)] })) s

/-- A die is lost (R613, R614): DIE_LOST, its bands DEGRADED, the rebuild due. -/
def loseDie (s : State) (c : Fin 16) (t : Fin 8) : State :=
  if s.media.lost.contains (c, t) then s
  else
    let s := updMedia s (fun m => { m with
      lost := (c, t) :: m.lost
      rebuildTotal := if m.rebuild then m.rebuildTotal else 0
      rebuildLost := if m.rebuild then m.rebuildLost else 0
      rebuild := true })
    let s := logEv s .dieLost { island := some (.media c), details := [c.val, t.val] }
    let ns := (s.media.bands.map (fun x => x.1)).filter (fun n => decide (groupOf n = t))
    gcRefresh (ns.foldl (degradeBand c) s)

/-- A channel's MEDIA island is DEAD: all 8 dies are lost (R613), and the erases in progress there never report (R157). -/
def loseChannel (s : State) (c : Fin 16) : State :=
  let s := (List.finRange 8).foldl (fun s t => loseDie s c t) s
  updUpkeep s (fun u => { u with victims := u.victims.map (fun v =>
    { v with left := v.left.filter (fun b => decide (b.channel ≠ c)) }) })

/-- DEGRADED bands. -/
def degradedBands (s : State) : List Nat := (s.media.bands.filter (fun x => x.2.degraded)).map (fun x => x.1)

/-- The rebuild's next step: empty and erase a DEGRADED band, stall when no bed can take its pages, end when none is left
(R613, R615). -/
def rebuildStep (s : State) : State :=
  if ! (s.media.rebuild && restRuns s) then s
  else match degradedBands s with
  | [] =>
    logEv (updMedia s (fun m => { m with rebuild := false, stalled := false })) .rebuildDone
      { details := [s.media.rebuildTotal, s.media.rebuildLost] }
  | ns =>
    match ns.find? (fun n => ! erasing s n) with
    | none => s
    | some n =>
      match emptyBand s n .rebuild false true with
      | some s => updMedia s (fun m => { m with stalled := false })
      | none => if s.media.stalled then s else logEv (updMedia s (fun m => { m with stalled := true })) .rebuildStalled

/-- REBUILD_PCT: bands of the rebuild that have been emptied, of all it began with. -/
def rebuildPct (s : State) : Nat :=
  if ! s.media.rebuild ∨ s.media.rebuildTotal = 0 then 0
  else 100 * (s.media.rebuildTotal - (degradedBands s).length) / s.media.rebuildTotal

/-! ### Wear and life (R627, R628, R650) -/

/-- Blocks of the array (ch. 13, Flash geometry). -/
def blockCount : Nat := 1048576

/-- Listed blocks not retired. -/
def liveBlocks (s : State) : List (BlockId × Block) := s.media.blocks.filter (fun x => ! x.2.retired)

/-- Blocks not retired. -/
def unretired (s : State) : Nat := blockCount - (s.media.blocks.filter (fun x => x.2.retired)).length

/-- ECOUNT_MAX. -/
def ecountMax (s : State) : Nat := listMax (s.media.blocks.map (fun x => x.2.ecount))

/-- ECOUNT_AVG. -/
def ecountAvg (s : State) : Nat := listSum ((liveBlocks s).map (fun x => x.2.ecount)) / Nat.max 1 (unretired s)

/-- ECOUNT_MIN: 0 while some block has never been erased. -/
def ecountMin (s : State) : Nat :=
  if (liveBlocks s).length < unretired s then 0
  else ((liveBlocks s).map (fun x => x.2.ecount)).foldl Nat.min (ecountMax s)

/-- LIFE_USED (R650). -/
def lifeUsed (s : State) : Nat :=
  Nat.min 250 (Nat.max (100 * ecountAvg s / 1500) (100 * (sparesMfg - sparesLeft s) / sparesMfg))

/-- LIFE_THRESHOLD when LIFE_USED first reaches 80, 100, 150 and 250 (R650). -/
def lifeCheck (s : State) : State :=
  [80, 100, 150, 250].foldl (fun s th =>
    if th ≤ lifeUsed s ∧ ¬ s.upkeep.lifeLogged.contains th then
      logEv (updUpkeep s (fun u => { u with lifeLogged := th :: u.lifeLogged })) .lifeThreshold { details := [lifeUsed s] }
    else s) s

/-- When a member block of a band was last patrolled, or first programmed (R632). -/
def patrolFrom (s : State) (b : Band) (k : BlockId) : Nat := Nat.max (getBlock s k).patrolLast b.since

/-- A band holds programmed pages that patrol reads (R632). -/
def patrolled (b : Band) : Bool :=
  (match b.state with | .open_ | .full | .closed | .shelter | .spill => true | _ => false) && ! b.pages.isEmpty

/-- Programmed blocks and when each was last read by patrol. -/
def patrolTimes (s : State) : List (BlockId × Nat) :=
  (s.media.bands.filter (fun x => patrolled x.2)).flatMap (fun x =>
    (memberBlocks x.1 x.2).map (fun k => (k, patrolFrom s x.2 k)))

/-- PATROL_OLDEST, hours. -/
def patrolOldest (s : State) : Nat := sat (listMax ((patrolTimes s).map (fun x => now s - x.2)) / hour) 0xFFFF

/-- Blocks past 30 days since their last patrol: PATROL_LATE once per start (R634). -/
def patrolLateCheck (s : State) : State :=
  let late := ((patrolTimes s).filter (fun x => decide (x.2 + 30 * day < now s))).length
  if 0 < late ∧ ¬ s.upkeep.patrolLate then
    logEv (updUpkeep s (fun u => { u with patrolLate := true })) .patrolLate { details := [late] }
  else s

end Sys2Proof.Machine
end

