-- ==== Sys2Proof/Machine/DieOps.lean ====
section
/-!
DEFINITION. The die operations that wait and run (ch. 03, 19): the limit on dies active at once, the places of the MEDIA
channel queues, the order of programs, reads and erases on a channel, and what of it runs now.
-/

namespace Sys2Proof.Machine

open Sys2Proof

/-! ### The limit on active dies (R126, R130, R133, R142) -/

/-- Dies active at once that a level allows (ch. 03, Power levels). -/
def levelDies : Level → Nat
  | .l0 => 128 | .l1 => 64 | .l2 => 32 | .l3 => 8

/-- Dies active at once that a thermal state allows at a level (ch. 03, Thermal states). -/
def thermalDies (t : Thermal) (l : Level) : Nat :=
  match t with
  | .normal => levelDies l
  | .throttle1 => Nat.max 8 (levelDies l / 2)
  | .throttle2 | .halt => 8

/-- The limit on active dies: the smallest of what the level, LEVEL_MAX and the thermal state allow (R142). -/
def dieLimit (s : State) : Nat :=
  Nat.min (levelDies s.power.level) (Nat.min (levelDies (levelMax s)) (thermalDies s.power.thermal s.power.level))

/-! ### Die operations and their queues (R112, R823) -/

/-- The owners of a channel queue's places (R823). -/
inductive DieUser
  | host | gc | meta_
deriving DecidableEq, Repr

/-- What a die operation is: a program in flight by its place in `progs`, a queued read by its place in `reads`, the erase of
a block. -/
inductive DieWork
  | prog (i : Nat) | read (i : Nat) | erase (b : BlockId)
deriving DecidableEq, Repr

/-- A die operation. -/
structure DieOp where
  /-- Its die: channel and target. -/
  die : Fin 16 × Fin 8
  /-- Whose places it takes. -/
  user : DieUser
  /-- What it does. -/
  work : DieWork
deriving DecidableEq, Repr

/-- The bed that a program goes to, as it stands once it is open. -/
def progBed (s : State) : Prog → Option (Nat × State)
  | .page _ _ _ bin binEnd _ _ => hostBed s bin binEnd
  | .log _ => bedOf s .meta_ false

/-- The die that programs the `k`th further page of a bed. -/
def bedDie (s : State) (n k : Nat) : Option (Fin 16 × Fin 8) :=
  (pageChan n (bandOf s n) ((bandOf s n).pages.length + k)).map (fun x => (x.1, groupOf n))

/-- Whose places a program takes. -/
def progUser : Prog → DieUser
  | .page .. => .host
  | .log _ => .meta_

/-- The programs of a list from number `i` on as die operations; `seen` are the beds of those before them. One that no bed
can take waits in the write buffer. -/
def progOps (s : State) : List Prog → Nat → List Nat → List DieOp
  | [], _, _ => []
  | p :: ps, i, seen =>
    match progBed s p with
    | none => progOps s ps (i + 1) seen
    | some (n, t) =>
      (match bedDie t n (seen.filter (fun m => decide (m = n))).length with
        | some d => [{ die := d, user := progUser p, work := .prog i }]
        | none => []) ++ progOps s ps (i + 1) (n :: seen)

/-- The die that holds a logical page. -/
def lpnDie (s : State) (l : Nat) : Option (Fin 16 × Fin 8) :=
  match AMap.find s.media.map l with
  | some (n, i) => (pageChan n (bandOf s n) i).map (fun x => (x.1, groupOf n))
  | none => none

/-- The queued reads as die operations. -/
def readOps (s : State) : List DieOp :=
  (s.media.reads.zipIdx).filterMap (fun x =>
    (lpnDie s x.1.2).map (fun d => { die := d, user := .host, work := .read x.2 }))

/-- The erases in progress as die operations (R638). -/
def eraseOps (s : State) : List DieOp :=
  (s.upkeep.victims.flatMap (fun v => v.left)).map (fun b =>
    { die := (b.channel, b.target), user := .gc, work := .erase b })

/-- A log program. -/
def isMetaOp (o : DieOp) : Bool := decide (o.user = .meta_)

/-- The die operations in the order in which a MEDIA sequencer serves them: log programs first (R835); at L3 queued programs
before queued reads (R112), at the other levels reads first (DESIGN CHOICE, log 47); erases last. -/
def dieOrder (s : State) : List DieOp :=
  let ps := progOps s s.media.progs 0 []
  let host := ps.filter (fun o => ! isMetaOp o)
  ps.filter isMetaOp
    ++ (if s.power.level = .l3 then host ++ readOps s else readOps s ++ host)
    ++ eraseOps s

/-- Places of a channel queue that an owner has for a kind of work (R823). Of the 16 pages that the queue's 256 KiB hold, 12
are GC's and the metadata bed's: 4 remain for the host (DEDUCED, log 47). -/
def queuePlaces (u : DieUser) (w : DieWork) : Nat :=
  match u, w with
  | .host, _ => 4
  | .meta_, _ => 4
  | .gc, .erase _ => 2
  | .gc, _ => 8

/-- Two operations take places of the same kind on the same channel. -/
def samePlace (a b : DieOp) : Bool :=
  decide (a.die.1 = b.die.1) && decide (a.user = b.user)
    && decide (queuePlaces a.user a.work = queuePlaces b.user b.work)

/-- The operations that have a place in their channel's queue, of a list in order. -/
def placedOps : List DieOp → List DieOp → List DieOp
  | _, [] => []
  | held, o :: rest =>
    if (held.filter (samePlace o)).length < queuePlaces o.user o.work then o :: placedOps (o :: held) rest
    else placedOps held rest

/-- The operation may begin: its channel's island works and is not under test, and a program or an erase is not held by the
cold gate (R129, R147, R654). -/
def mayStart (s : State) (o : DieOp) : Bool :=
  islUp s (.media o.die.1) && (match o.work with | .read _ => true | _ => ! s.power.coldGate)

/-- The operations that run, of a list in order: one on a die, and no more than the limit. -/
def startDies (limit : Nat) : List DieOp → List DieOp → List DieOp
  | run, [] => run
  | run, o :: rest =>
    if run.length < limit ∧ ¬ run.any (fun x => decide (x.die = o.die)) then startDies limit (o :: run) rest
    else startDies limit run rest

/-- The die operations that run now (R112, R133, R142, R823). -/
def activeOps (s : State) : List DieOp := startDies (dieLimit s) [] ((placedOps [] (dieOrder s)).filter (mayStart s))

/-- Dies that dummy activity keeps busy while writes are gated, within the limit, on blocks that hold no data (R130). -/
def dummyDies (s : State) : Nat := if s.power.dummy then dieLimit s - (activeOps s).length else 0

/-- Dies active now. -/
def activeDies (s : State) : Nat := (activeOps s).length + dummyDies s

/-- A piece of work runs now. -/
def dieRuns (s : State) (w : DieWork) : Bool := (activeOps s).any (fun o => decide (o.work = w))

/-- Work that waits for a die wakes its channel, and programs wake PARITY (R148). -/
def wakeWork (s : State) : State :=
  let s := if s.media.progs.isEmpty then s else wakeIsl s .parity
  (dieOrder s).foldl (fun s o => wakeIsl s (.media o.die.1)) s

/-- The MEDIA queues have a free host place (R833): on some channel fewer than its host places are taken. -/
def hostPlaceFree (s : State) : Bool :=
  let host := ((dieOrder s).filter (fun o => decide (o.user = .host))).map (fun o => o.die.1)
  (List.finRange 16).any (fun c => decide ((host.filter (fun d => decide (d = c))).length < 4))

/-! ### Power-fail (R124 step 3) -/

/-- Programs that have started, by their place in `progs`. -/
def startedProgs (s : State) : List Nat :=
  (activeOps s).filterMap (fun o => match o.work with | .prog i => some i | _ => none)

/-- The programs already started complete (R124 step 3). -/
def completeStarted (s : State) : State :=
  let run := startedProgs s
  let done := (s.media.progs.zipIdx).filter (fun x => run.contains x.2)
  let left := (s.media.progs.zipIdx).filter (fun x => ! run.contains x.2)
  let s := (done.map (fun x => x.1)).foldl completeProg (updMedia s (fun m => { m with progs := left.map (fun x => x.1) }))
  settleDirty s (done.flatMap (fun x => progWrites x.1))

end Sys2Proof.Machine
end

