-- ==== Sys2Proof/Machine/ArcOps.lean ====
section
/-!
DEFINITION. The Arcade (ch. 15): ternary units, entries and their order, searches, the command queue, ordered insertion, the
entries of an object, the candidates of a FIND.
-/

namespace Sys2Proof.Machine

open Sys2Proof

/-! ### Units and matching (R662, R663) -/

/-- All ones. -/
def ones64 : Word64 := BitVec.allOnes 64

/-- A unit of which every bit is NEVER, as V and M. -/
def neverUnit : Word64 × Word64 := (ones64, 0)

/-- A search word matches a unit under G (R662). -/
def unitMatch (g w : Word64) (u : Word64 × Word64) : Bool :=
  decide ((~~~ u.2) &&& u.1 = 0) && decide ((u.1 ^^^ w) &&& u.2 &&& g = 0)

/-- A tag matches a word under G. -/
def tagMatch (g w t : Word64) : Bool := unitMatch g w (t, ones64)

/-- The owner filter of a search passes an entry. -/
def ownerPass (o : OwnerFilter) (e : ArcEntry) : Bool :=
  match o with
  | .any => true
  | .drive => e.drive
  | .stall x => ! e.drive && decide (e.owner = x)

/-- An entry matches a search (R663, R666). -/
def entryMatch (sp : ArcSpec) (pos : Nat) (e : ArcEntry) : Bool :=
  sp.banks.any (fun b => decide (b.val = pos / 8192)) && ownerPass sp.owner e
    && sp.words.all (fun w => e.units.any (unitMatch sp.g w))

/-- An entry's identity (R664). -/
def identOf (e : ArcEntry) : Bool × StallNo × Nat × Nat := (e.drive, e.owner, e.result, e.part)

/-- The order of a search (R667). -/
def arcBefore (m : ArcMode) (a b : Nat × ArcEntry) : Bool :=
  match m with
  | .position => decide (a.1 < b.1)
  | .explicit => decide (b.2.priority < a.2.priority)
      || (decide (a.2.priority = b.2.priority) && decide (a.1 < b.1))

/-- The matching entries in the search's order. -/
def arcHits (s : State) (sp : ArcSpec) : List (Nat × ArcEntry) :=
  sortBy (arcBefore sp.mode) (s.arc.entries.filter (fun x => entryMatch sp x.1 x.2))

/-- One entry of each identity, the first in order (R669). -/
def distinctHits : List (Nat × ArcEntry) → List (Bool × StallNo × Nat × Nat) → List (Nat × ArcEntry)
  | [], _ => []
  | x :: xs, seen => if seen.contains (identOf x.2) then distinctHits xs seen
      else x :: distinctHits xs (identOf x.2 :: seen)

/-- What a search finds, one entry of each identity. -/
def arcFound (s : State) (sp : ArcSpec) : List (Nat × ArcEntry) := distinctHits (arcHits s sp) []

/-- Add to a counter of ARC.STAT. -/
def countArc (s : State) (c : ArcCtr) (n : Nat) : State :=
  updArc s (fun a => { a with stat := AMap.set a.stat c (AMap.getD a.stat c 0 + n) })

/-- The Arcade works. -/
def arcUp (s : State) : Bool := islUp s .arc

/-! ### Grants (R682, R684, R686) -/

/-- Units per entry of a WIDTH code. -/
def widthUnits (code : Nat) : Nat := match code with | 0 => 1 | 1 => 2 | _ => 4

/-- The stall a quarter is granted to. -/
def quarterStall (w : Word64) (q : Nat) : Option StallNo :=
  let v := w.toNat / 2 ^ (32 + 8 * q) % 256
  if 128 ≤ v then some (Fin.ofNat 128 (v % 128)) else none

/-- A stall's quarters: bank and quarter, ascending. -/
def stallQuarters (s : State) (x : StallNo) : List (Fin 16 × Nat) :=
  ((List.finRange 16).flatMap (fun b => (List.range 4).map (fun q => (b, q)))).filter (fun t =>
    decide (quarterStall (cfgWord s (.arcBankCfg t.1)) t.2 = some x))

/-- The width of a stall's quarters. -/
def stallWidth (s : State) (x : StallNo) : Nat :=
  match stallQuarters s x with
  | [] => 1
  | (b, _) :: _ => widthUnits (cfgField s (.arcBankCfg b) "WIDTH")

/-- Entries of a quarter. -/
def quarterEntries (w : Nat) : Nat := 2048 / Nat.max w 1

/-- Entries a stall's quarters hold. -/
def stallEntries (s : State) (x : StallNo) : Nat := (stallQuarters s x).length * quarterEntries (stallWidth s x)

/-- Position of the `i`th place of a stall's range. -/
def rangePos (qs : List (Fin 16 × Nat)) (w i : Nat) : Option Nat :=
  (qs[i / quarterEntries w]?).map (fun t => t.1.val * 8192 + t.2 * 2048 + w * (i % quarterEntries w))

/-- Place of a position in a stall's range. -/
def rangeIdx (qs : List (Fin 16 × Nat)) (w pos : Nat) : Nat :=
  (qs.findIdx (fun t => decide (t.1.val * 8192 + t.2 * 2048 = pos / 2048 * 2048))) * quarterEntries w
    + pos % 2048 / Nat.max w 1

/-! ### Entries of an object (R685 to R688) -/

/-- A tag of a reserved class (ch. 15, Tag class encoding). -/
def tagReserved (t : Word64) : Bool :=
  let c := t.toNat / 2 ^ 48
  decide (c = 0) || (decide (6 ≤ c) && decide (c ≤ 0x7FFF))

/-- A tag of class EVIDENCE. -/
def isEvidence (t : Word64) : Bool := decide (t.toNat / 2 ^ 48 = 1)

/-- Tags that a write may not carry (R685). -/
def badTags (ts : List Word64) : Bool := ts.any tagReserved || decide (ts.eraseDups.length ≠ ts.length)

/-- Entries of a number of tags at a width. -/
def entryCount (k w : Nat) : Nat := ceilDiv k (Nat.max w 1)

/-- The units of one part of a tag set. -/
def partUnits (ts : List Word64) (w p : Nat) : List (Word64 × Word64) :=
  let l := ((ts.drop (p * w)).take w).map (fun t => (t, ones64))
  l ++ List.replicate (w - l.length) neverUnit

/-- The units of every part. -/
def tagParts (ts : List Word64) (w : Nat) : List (List (Word64 × Word64)) :=
  (List.range (entryCount ts.length w)).map (partUnits ts w)

/-- TAG_ENTRIES use of a stall (R686). -/
def useEntries (s : State) (x : StallNo) : Nat :=
  listSum ((stallObjs s x).map (fun o => entryCount o.2.tags.length (stallWidth s x)))

/-- Position of the entry with an identity. -/
def findEntry (s : State) (x : StallNo) (result part : Nat) : Option Nat :=
  (s.arc.entries.find? (fun e => ! e.2.drive && decide (e.2.owner = x) && decide (e.2.result = result)
    && decide (e.2.part = part))).map (fun e => e.1)

/-- The lowest number from `k` on that a list does not hold. -/
def lowestFree : Nat → List Nat → Nat → Nat
  | 0, _, k => k
  | fuel + 1, l, k => if l.contains k then lowestFree fuel l (k + 1) else k

/-- The handle of an object with entries: unique in its stall, never 0. -/
def handleOf (s : State) (k : ObjKey) : Nat × State :=
  match AMap.find s.arc.handles k with
  | some h => (h, s)
  | none =>
    let used := (s.arc.handles.filter (fun x => decide (x.1.stall = k.stall))).map (fun x => x.2)
    let h := lowestFree (used.length + 1) used 1
    (h, updArc s (fun a => { a with handles := AMap.set a.handles k h }))

/-! ### The command queue (R670 to R674) -/

/-- Queue a command; beyond 256 it waits for a place (R672). -/
def pushArc (s : State) (c : ArcCmd) : State :=
  updArc s (fun a => if a.queue.length < 256 ∧ a.overflow.isEmpty then { a with queue := a.queue ++ [c] }
    else { a with overflow := a.overflow ++ [c] })

/-- The head of the queue leaves it; a waiting command takes the place (R672). -/
def popArc (s : State) : State :=
  updArc s (fun a => match a.overflow with
    | [] => { a with queue := a.queue.drop 1 }
    | x :: xs => { a with queue := a.queue.drop 1 ++ [x], overflow := xs })

/-- The operation a command serves. -/
def cmdOp : ArcCmd → Option Nat
  | .insert op _ _ _ => op
  | .rewrite op _ _ _ => op
  | .invalidate _ _ _ => none

/-- Commands of an operation still queued. -/
def arcWaits (s : State) (id : Nat) : Bool :=
  (s.arc.queue ++ s.arc.overflow).any (fun c => decide (cmdOp c = some id))

/-- Queued commands that fail a test leave the queue, and those that wait move up; an insertion whose moves have begun goes on to
its end, since it has an entry in two places. -/
def keepCmds (s : State) (keep : ArcCmd → Bool) : State :=
  updArc s (fun a =>
    let n := if a.plan.isSome then 1 else 0
    let all := a.queue.take n ++ (a.queue.drop n ++ a.overflow).filter keep
    { a with queue := all.take 256, overflow := all.drop 256 })

/-- The commands of an operation leave the queue. -/
def dropCmds (s : State) (id : Nat) : State := keepCmds s (fun c => decide (cmdOp c ≠ some id))

/-- Clear the entry at a position, leaving a hole (R674). -/
def clearAt (s : State) (pos : Nat) : State := updArc s (fun a => { a with entries := AMap.del a.entries pos })

/-- Write an entry at a position. -/
def writeAt (s : State) (pos : Nat) (e : ArcEntry) : State :=
  updArc s (fun a => { a with entries := AMap.set a.entries pos e })

/-- Copy an entry to another position: it then stands at both, until the command's next entry operation overwrites the first; a
cursor that stands on it follows (R670). Where no entry stands, none is left. -/
def moveEntry (s : State) (x y : Nat) : State :=
  match AMap.find s.arc.entries x with
  | none => clearAt s y
  | some e =>
    countArc (updArc s (fun a => { a with
      entries := AMap.set a.entries y e
      cursors := a.cursors.map (fun c => if c.2.pos = some x then (c.1, { c.2 with pos := some y }) else c) })) .moves 1

/-- The order within a stall's range: fingerprint, RESULT, PART. -/
def rangeLt (a b : ArcEntry) : Bool :=
  decide (a.fp < b.fp) || (decide (a.fp = b.fp) && (decide (a.result < b.result)
    || (decide (a.result = b.result) && decide (a.part < b.part))))

/-- The place at which an entry belongs: after the last smaller entry of the range. -/
def insertPlace (s : State) (qs : List (Fin 16 × Nat)) (w : Nat) (e : ArcEntry) : Nat :=
  listMax ((s.arc.entries.filter (fun x => ! x.2.drive && decide (x.2.owner = e.owner) && rangeLt x.2 e)).map
    (fun x => rangeIdx qs w x.1 + 1))

/-- The first hole at or after a place, up to a bound. -/
def holeUp (s : State) (qs : List (Fin 16 × Nat)) (w : Nat) : Nat → Nat → Option Nat
  | 0, _ => none
  | fuel + 1, i =>
    match rangePos qs w i with
    | none => none
    | some pos => if (AMap.find s.arc.entries pos).isNone then some i else holeUp s qs w fuel (i + 1)

/-- The nearest hole before a place. -/
def holeDown (s : State) (qs : List (Fin 16 × Nat)) (w : Nat) : Nat → Option Nat
  | 0 => none
  | i + 1 =>
    match rangePos qs w i with
    | none => none
    | some pos => if (AMap.find s.arc.entries pos).isNone then some i else holeDown s qs w i

/-- The entry operations of an ordered insertion (R673) in the range that the view `v` grants: its moves in order, from and to, and
the position it writes at; none when the range has no hole. -/
def insertPlan (v s : State) (e : ArcEntry) : Option (List (Nat × Nat) × Nat) :=
  let qs := stallQuarters v e.owner
  let w := stallWidth v e.owner
  let total := qs.length * quarterEntries w
  let pos (i : Nat) : Nat := (rangePos qs w i).getD 0
  let p := insertPlace s qs w e
  match holeUp s qs w (total - p) p with
  | some h => some ((List.range (h - p)).map (fun d => (pos (h - 1 - d), pos (h - d))), pos p)
  | none =>
    (holeDown s qs w p).map (fun h =>
      ((List.range (p - 1 - h)).map (fun d => (pos (h + 1 + d), pos (h + d))), pos (p - 1)))

/-- An ordered insertion with all its entry operations. -/
def insertEntry (v s : State) (e : ArcEntry) : Option State :=
  (insertPlan v s e).map (fun pl => writeAt (pl.1.foldl (fun s m => moveEntry s m.1 m.2) s) pl.2 e)

/-- Entries of a stall whose object is absent (R687, R688). -/
def deadEntries (s : State) (x : StallNo) : List Nat :=
  (s.arc.entries.filter (fun e => ! e.2.drive && decide (e.2.owner = x)
    && ! (s.arc.handles.any (fun h => decide (h.1.stall = x) && decide (h.2 = e.2.result)
        && ((objOf s h.1).isSome || (s.arc.queue ++ s.arc.overflow).any (fun c => match c with
            | .insert _ k _ _ => decide (k = h.1) | _ => false)))))).map (fun e => e.1)

/-- Insert, after invalidating the entries of absent objects when the range has no hole (R688). -/
def insertMaking (v s : State) (e : ArcEntry) : Option State :=
  match insertEntry v s e with
  | some s => some s
  | none => insertEntry v ((deadEntries s e.owner).foldl clearAt s) e

/-- The insertion at the head of the queue begins: an entry whose identity stands is written over in place; a range without a hole is
first rid of the entries of absent objects (R687, R688). -/
def planInsert (v s : State) (e : ArcEntry) : Option (State × (List (Nat × Nat) × Nat)) :=
  match findEntry s e.owner e.result e.part with
  | some pos => some (s, ([], pos))
  | none =>
    match insertPlan v s e with
    | some pl => some (s, pl)
    | none =>
      let s := (deadEntries s e.owner).foldl clearAt s
      (insertPlan v s e).map (fun pl => (s, pl))

/-- The commands that bring an object's entries to a tag set: rewrites in place, two changed entries as a paired write,
insertions (R687); `v` is the view of the grants. -/
def planEntries (v s : State) (op : Option Nat) (k : ObjKey) (handle : Nat) (tags : List Word64) : List ArcCmd :=
  let w := stallWidth v k.stall
  let es := (tagParts tags w).zipIdx.map (fun x =>
    ({ owner := k.stall, part := x.2, result := handle, units := x.1, fp := fpOf k } : ArcEntry))
  let have_ := es.filterMap (fun e => (findEntry s k.stall handle e.part).map (fun pos => (pos, e)))
  let changed := have_.filter (fun x => decide (AMap.find s.arc.entries x.1 ≠ some x.2))
  let fresh := es.filter (fun e => (findEntry s k.stall handle e.part).isNone)
  let rw_ := match changed with
    | [a] => [ArcCmd.rewrite op a.1 a.2 none]
    | [a, b] => [.rewrite op a.1 a.2 (some b)]
    | [a, b, c] => [.rewrite op a.1 a.2 (some b), .rewrite op c.1 c.2 none]
    | a :: b :: c :: d :: _ => [.rewrite op a.1 a.2 (some b), .rewrite op c.1 c.2 (some d)]
    | [] => []
  rw_ ++ fresh.map (fun e => ArcCmd.insert op k e.fp e)

/-- After the commit point, invalidate the entries a tag set no longer needs (R687). -/
def dropEntries (s : State) (k : ObjKey) (count : Nat) : State :=
  match AMap.find s.arc.handles k with
  | none => s
  | some h =>
    let ps := (List.range 4).filter (fun p => decide (count ≤ p) && (findEntry s k.stall h p).isSome)
    let s := ps.foldl (fun s p => pushArc s (.invalidate k.stall h p)) s
    if count = 0 then updArc s (fun a => { a with handles := AMap.del a.handles k }) else s

/-- Bring an object's entries back to its present tags, after a write that did not commit, or a lost entry (R678). -/
def restoreEntries (s : State) (k : ObjKey) : State :=
  match objOf s k with
  | some o =>
    if o.tags.isEmpty then dropEntries s k 0
    else
      let (h, s) := handleOf s k
      let s := (planEntries s s none k h o.tags).foldl pushArc s
      dropEntries s k (entryCount o.tags.length (stallWidth s k.stall))
  | none => dropEntries s k 0

/-- Invalidate every entry of a stall at once (R518 step 3). -/
def clearStall (s : State) (x : StallNo) : State :=
  updArc s (fun a => { a with
    entries := a.entries.filter (fun e => e.2.drive || decide (e.2.owner ≠ x))
    handles := a.handles.filter (fun h => decide (h.1.stall ≠ x))
    lost := a.lost.filter (fun k => decide (k.stall ≠ x)) })

/-- The grants as the operation that a command serves sees them (R174). -/
def cmdView (s : State) (c : ArcCmd) : State :=
  match (cmdOp c).bind (AMap.find s.kv.ops) with
  | some o => asOf s o.snap.seq
  | none => s

/-- One entry operation of the insertion at the head of the queue (R670, R673): a move, or the write that ends it. Answers whether it
has ended, and then whether for want of a hole (R688). -/
def stepInsert (s : State) (c : ArcCmd) (e : ArcEntry) : State × Option Bool :=
  match (match s.arc.plan with | some pl => some (s, pl) | none => planInsert (cmdView s c) s e) with
  | none => (s, some true)
  | some (s, (m :: ms, p)) => (updArc (moveEntry s m.1 m.2) (fun a => { a with plan := some (ms, p) }), none)
  | some (s, ([], p)) => (updArc (writeAt s p e) (fun a => { a with plan := none }), some false)

/-- What a command does, with all its entry operations; the flag tells of an insertion without a hole (R688). -/
def runArcCmd (s : State) (c : ArcCmd) : State × Bool :=
  match c with
  | .insert _ _ _ e =>
    match findEntry s e.owner e.result e.part with
    | some pos => (writeAt s pos e, false)
    | none =>
      match insertMaking (cmdView s c) s e with
      | some s => (s, false)
      | none => (s, true)
  | .invalidate x r p =>
    (match findEntry s x r p with | some pos => clearAt s pos | none => s, false)
  | .rewrite _ pos e pair =>
    let pos' (e : ArcEntry) (pos : Nat) : Nat := (findEntry s e.owner e.result e.part).getD pos
    match pair with
    | none => (writeAt s (pos' e pos) e, false)
    | some (p2, e2) => (countArc (writeAt (writeAt s (pos' e pos) e) (pos' e2 p2) e2) .pairedWrites 1, false)

/-- One entry operation of the command at the head of the queue. Answers whether the command has ended, and then whether for want of a
hole. -/
def headOp (s : State) (c : ArcCmd) : State × Option Bool :=
  match c with
  | .insert _ _ _ e => stepInsert s c e
  | c => let (s, b) := runArcCmd s c
         (s, some b)

/-- The position that the next entry operation of a move under way overwrites: its entry stands elsewhere too (R670). -/
def staleAt (a : Arcade) : Option Nat :=
  a.plan.map (fun pl => match pl.1 with | m :: _ => m.2 | [] => pl.2)

/-! ### FIND (R689, R690) -/

/-- Search banks of a stall. -/
def stallBanks (s : State) (x : StallNo) : List (Fin 16) := ((stallQuarters s x).map (fun t => t.1)).eraseDups

/-- Handles of the entries matching some words. -/
def handlesFor (v s : State) (x : StallNo) (ws : List Word64) (g : Word64) : List Nat :=
  ((arcFound s { words := ws, g := g, banks := stallBanks v x, mode := .position, owner := .stall x }).map
    (fun e => e.2.result)).eraseDups

/-- Candidate handles of a FIND; `v` is its view of the grants. -/
def candidates (v s : State) (x : StallNo) (ws : List Word64) (g : Word64) : List Nat :=
  if stallWidth v x = 4 then handlesFor v s x ws g
  else match ws with
    | [] => []
    | w :: rest => (handlesFor v s x [w] g).filter (fun h => rest.all (fun w => (handlesFor v s x [w] g).contains h))

/-- Keys in the order of their fingerprints, then of their bytes (R451). -/
def keyOrder (a b : ObjKey) : Bool :=
  decide (fpOf a < fpOf b) || (decide (fpOf a = fpOf b) && bytesLt a.key b.key)

/-- The present objects among the candidates whose tags match every word, in order. -/
def findObjs (v s : State) (x : StallNo) (ws : List Word64) (g : Word64) : List (ObjKey × Obj) :=
  let hs := candidates v s x ws g
  let ks := (s.arc.handles.filter (fun h => decide (h.1.stall = x) && hs.contains h.2)).map (fun h => h.1)
  ((sortBy keyOrder ks).filterMap (fun k => (objOf s k).map (fun o => (k, o)))).filter (fun t =>
    ws.all (fun w => t.2.tags.any (tagMatch g w)))

/-- The searches and steps a FIND of a stall takes, counted in ARC.STAT. -/
def countFind (v s : State) (x : StallNo) (ws : List Word64) (g : Word64) : State :=
  let n := if stallWidth v x = 4 then 1 else ws.length
  let steps := if stallWidth v x = 4 then (handlesFor v s x ws g).length
    else listSum (ws.map (fun w => (handlesFor v s x [w] g).length))
  countArc (countArc s .searches n) .steps steps

/-- Write the Arcade image: the entries of banks 4 to 15 and the capture WSEQ (R693). -/
def saveArcImage (s : State) : State :=
  updArc s (fun a => { a with image := some (s.kv.nextWseq, a.entries.filter (fun x => decide (4 * 8192 ≤ x.1) && decide (staleAt a ≠ some x.1))) })

/-- A FIND of a stall ends PARTIAL now: an entry of it is lost, or its banks are being rebuilt (R679, R690). -/
def findPartial (v s : State) (x : StallNo) : Bool :=
  s.arc.lost.any (fun k => decide (k.stall = x)) || (stallBanks v x).any (fun b => s.arc.rebuilding.contains b)

end Sys2Proof.Machine
end

