-- ==== Sys2Proof/Machine/KvOps.lean ====
section
/-!
DEFINITION. Sessions and operations (ch. 09, 10, 11): responses in session order, the replay window, quotas and space, the
commit of a write, token buckets, deficit round-robin, and what releases an operation that waits.
-/

namespace Sys2Proof.Machine

open Sys2Proof

/-! ### Responses in session order (R411, R439, R448, R485, R486) -/

/-- A channel of a connection. -/
def getChan (s : State) (i ch : Nat) : Option Chan := (getConn s i).bind (fun c => c.chans.find? (fun x => decide (x.no = ch)))

/-- Change a channel. -/
def updChan (s : State) (i ch : Nat) (f : Chan → Chan) : State :=
  updConn s i (fun c => { c with chans := c.chans.map (fun x => if x.no = ch then f x else x) })

/-- Count on a counter of PROTO.STAT (R422). -/
def countP (s : State) (c : ProtoCtr) (n : Nat) : State :=
  updProto s (fun d => { d with stats := AMap.set d.stats c (AMap.getD d.stats c 0 + n) })

/-- Send a frame on a connection as it stands, counting a BAD_FRAME (R422). -/
def sendSame (s : State) (i : Nat) (r : Resp) : State :=
  sendResp (if r.status = .badFrame then countP s .badFrame 1 else s) i r

/-- Send a fresh frame on a connection, with the flags of this moment. -/
def sendFrame (s : State) (i : Nat) (r : Resp) : State := sendSame s i (flagged s r)

/-- The fields a response takes from its session and request (R439). -/
def stampResp (c : Conn) (ch reqId opcode : Nat) (r : Resp) : Resp :=
  { r with opcode := opcode, channel := ch, reqId := reqId, stall := c.stall.getD 0, generation := c.generation }

/-- A read's response charges READ by its data section when it is sent (ch. 12). -/
def chargeRead (s : State) (r : Resp) : State :=
  if r.kind = 2 ∧ (r.opcode = 0x02 ∨ r.opcode = 0x05 ∨ r.opcode = 0x0E) ∧ 0 < r.data.length then
    charge s r.stall .read r.data.length
  else s

/-- Note in the replay window that a request's response has been sent (R486). -/
def windowSent (w : List WinEntry) (reqId : Nat) (r : Resp) : List WinEntry :=
  w.map (fun e => if e.reqId = reqId ∧ ¬ e.sent then
    { e with sent := true, cached := if r.data.length ≤ 256 then some r else none } else e)

/-- PERSISTED of a response that acknowledges writes: their data is on flash (R479). -/
def persistedNow (s : State) (ws : List Nat) (r : Resp) : Resp :=
  if ws.isEmpty then r else { r with persisted := r.persisted || ws.all (fun w => ! writeWaits s w) }

/-- The session has nothing outstanding: a waiting CLOSE of its channel is answered (R409). -/
def endChan (s : State) (i ch : Nat) : State :=
  match getConn s i, getChan s i ch with
  | some c, some x =>
    match x.closing with
    | some id =>
      if x.out.isEmpty then
        let s := updConn s i (fun c => { c with chans := c.chans.filter (fun y => decide (y.no ≠ ch)) })
        sendFrame s i (stampResp c ch id 2 { kind := 7 })
      else s
    | none => s
  | _, _ => s

/-- A connection that closes once its responses are sent, and owes none, closes (R527 step 6). -/
def endConn (s : State) (i : Nat) : State :=
  match getConn s i with
  | some c => if c.ending ∧ c.chans.all (fun x => x.out.isEmpty) then closeConn s i else s
  | none => s

/-- Send the responses at the head of a session that are ready, in the order of their requests, up to a bound. A repeat sends
the earlier response again, with its flags (R486, R491). -/
def pumpN : Nat → State → Nat → Nat → State
  | 0, s, _, _ => s
  | n + 1, s, i, ch =>
    match getChan s i ch with
    | none => s
    | some x =>
      match x.out with
      | [] => s
      | e :: rest =>
        match e.resp with
        | none => s
        | some r =>
          let r := if e.repeated then r else flagged s (persistedNow s e.ws r)
          let rest := if e.op.isSome then
              rest.map (fun y => if y.repeated ∧ y.reqId = e.reqId ∧ y.resp.isNone then { y with resp := some r } else y)
            else rest
          let s := updChan s i ch (fun x => { x with
            out := rest
            window := if e.op.isSome then windowSent x.window e.reqId r else x.window })
          let s := if e.discard then
              updStall s r.stall (fun d => { d with lateDiscard := d.lateDiscard + 1 })
            else if e.repeated then sendSame s i r
            else chargeRead (sendSame s i r) r
          pumpN n s i ch

/-- Send what is ready in a session. -/
def pump (s : State) (i ch : Nat) : State :=
  match getChan s i ch with
  | none => s
  | some x => endConn (endChan (pumpN (x.out.length + 1) s i ch) i ch) i

/-- Put an answer at the end of a session's order, without admission. -/
def replyInOrder (s : State) (i ch : Nat) (reqId : Nat) (r : Resp) : State :=
  pump (updChan s i ch (fun x => { x with out := x.out ++ [{ reqId := reqId, op := none, resp := some r }] })) i ch

/-! ### Operations -/

/-- The commit groups as an operation sees them (R174). -/
def opView (s : State) (o : Op) : State := asOf s o.snap.seq

/-- An operation in the drive. -/
def getOp (s : State) (id : Nat) : Option Op := AMap.find s.kv.ops id

/-- Change an operation. -/
def updOp (s : State) (id : Nat) (f : Op → Op) : State := updKv s (fun d => { d with ops := AMap.modify d.ops id f })

/-- Release every lock an operation holds. -/
def freeLocks (s : State) (id : Nat) : State :=
  updKv s (fun d => { d with locks := d.locks.filter (fun l => decide (l.2 ≠ id)) })

/-- THROTTLED of a response (R114, R133, R491). -/
def throttledNow (s : State) (o : Op) : Bool := o.throttled || powerThrottled s

/-- An operation leaves the drive: its locks, its place in its stall's queues, and the array reads it waits for. -/
def leaveOp (s : State) (id : Nat) (o : Op) : State :=
  let s := freeLocks (updKv s (fun d => { d with ops := AMap.del d.ops id })) id
  let s := updMedia s (fun m => { m with reads := m.reads.filter (fun r => decide (r.1 ≠ .op id)) })
  updStall s o.stall (fun d => { d with live := d.live.filter (fun x => decide (x ≠ id)),
                                        backfill := d.backfill.filter (fun x => decide (x ≠ id)) })

/-- An operation has ended with an answer: it leaves the drive, its locks go, its response takes its place in its
session's order. -/
def finishOp (s : State) (id : Nat) (r : Resp) : State :=
  match getOp s id with
  | none => s
  | some o =>
    let s := leaveOp s id o
    match getConn s o.conn with
    | none =>
      if o.generation = (getStall s o.stall).generation then s
      else updStall s o.stall (fun d => { d with lateDiscard := d.lateDiscard + 1 })
    | some c =>
      let r := { stampResp c o.chan o.frame.reqId (codeOfOp o.code) r with throttled := throttledNow s o }
      pump (updChan s o.conn o.chan (fun x => { x with
        out := x.out.map (fun e => if e.op = some id then { e with resp := some r, ws := o.ws } else e) })) o.conn o.chan

/-- An operation ends without a response: it was aborted with its generation (R514). -/
def dropOp (s : State) (id : Nat) : State :=
  match getOp s id with
  | none => s
  | some o =>
    let s := leaveOp s id o
    pump (updChan s o.conn o.chan (fun x => { x with out := x.out.filter (fun e => decide (e.op ≠ some id)) })) o.conn o.chan

/-- The result of an operation is known; it is sent when the operation completes. -/
def answerOp (s : State) (id : Nat) (r : Resp) : State := updOp s id (fun o => { o with phase := .working, resp := some r })

/-- An answer with a status and a reason. -/
def fail (st : Status) (reason : Nat) : Resp := { status := st, reason := reason }

/-! ### Reason codes (ch. 09, 10) -/

/-- Reasons with INVALID. -/
inductive Inv
  | version | cursor | parts | scope | txnItems | txnDupKey | options | retention | emptyKey | offset | tags | sections
deriving DecidableEq, Repr

/-- INVALID with a reason (ch. 10, Operation reason encoding). -/
def invalid (r : Inv) : Resp :=
  fail .invalid (match r with
    | .version => 0x1201 | .cursor => 0x1202 | .parts => 0x1203 | .scope => 0x1204 | .txnItems => 0x1205
    | .txnDupKey => 0x1206 | .options => 0x1207 | .retention => 0x1208 | .emptyKey => 0x1209 | .offset => 0x120A
    | .tags => 0x120B | .sections => 0x120C)

/-- UNAVAILABLE of an object by what became of its data. -/
def availErr (o : Obj) : Option Resp :=
  match o.avail with
  | .ok => none
  | .lost => some (fail .unavailable 0x1301)
  | .media => some (fail .unavailable 0x1303)
  | .notReplayed => some (fail .unavailable 0x1304)

/-- UNAVAILABLE, ARCADE_ABSENT (R467). -/
def arcAbsent : Resp := fail .unavailable 0x1302

/-! ### Quotas and space (R445, R509 to R511, R686, R827) -/

/-- A limit as it stood at admission: 0 bytes, 1 hold, 2 objects, 3 tag entries. -/
def limitOf (o : Op) (i : Nat) : Nat := o.snap.quota.getD i 0

/-- A use would rise, and above a limit (R510). -/
def overLimit (use old new limit : Nat) : Bool := decide (old < new) && decide (limit < use - old + new)

/-- Physical bytes of pages that hold no present record: room not yet regained (R643, ch. 12 Collisions table). -/
def deadBytes (s : State) : Nat :=
  16384 * listSum (s.media.bands.map (fun b =>
    if b.2.state = .free ∨ b.2.state = .donor ∨ b.2.pslc then 0
    else ((pagesOf b.2).filter (fun p => match p.1.lpn with
      | some l => decide (AMap.find s.media.map l ≠ some (b.1, p.2)) || ! p.1.recs.any (recLive s)
      | none => false)).length))

/-- Value and key bytes of the mirror copies, which count against the user capacity (ch. 16). -/
def mirrorBytes (s : State) : Nat :=
  listSum (s.row.copies.map (fun c => c.2.obj.key.key.length + c.2.obj.value.length))

/-- Live bytes of the drive once a data write stores a record in place of another, and user capacity (R511, R827). -/
def spaceErr (s : State) (oldRec newRec bytes : Nat) : Option Resp :=
  if (0 < bytes ∧ userCapacity s < storedUse s + mirrorBytes s + deadBytes s + bytes)
      ∨ (oldRec < newRec ∧ liveMax s < liveBytes s - oldRec + newRec) then some (fail .quota 0x1006)
  else none

/-- What a write changes in a stall's uses: old and new figures of bytes, objects and tag entries, upload bytes it
releases, and whether it writes data. -/
structure Change where
  /-- Bytes before and after. -/
  bytes : Nat × Nat
  /-- Objects before and after. -/
  objects : Nat × Nat
  /-- Tag entries before and after. -/
  entries : Nat × Nat
  /-- Record lengths before and after. -/
  recs : Nat × Nat
  /-- Data bytes it writes. -/
  data : Nat
deriving DecidableEq, Repr

/-- No change. -/
def noChange : Change := { bytes := (0, 0), objects := (0, 0), entries := (0, 0), recs := (0, 0), data := 0 }

/-- Two changes together. -/
def addChange (a b : Change) : Change :=
  let p (x y : Nat × Nat) : Nat × Nat := (x.1 + y.1, x.2 + y.2)
  { bytes := p a.bytes b.bytes, objects := p a.objects b.objects, entries := p a.entries b.entries
    recs := p a.recs b.recs, data := a.data + b.data }

/-- The quota checks of a write, in the order of the reason table (R445). -/
def quotaErr (s : State) (o : Op) (c : Change) : Option Resp :=
  let x := o.stall
  if overLimit (useBytes s x) c.bytes.1 c.bytes.2 (limitOf o 0) then some (fail .quota 0x1001)
  else if overLimit (useObjects s x) c.objects.1 c.objects.2 (limitOf o 2) then some (fail .quota 0x1002)
  else if overLimit (useEntries (opView s o) x) c.entries.1 c.entries.2 (Nat.min (limitOf o 3) (stallEntries (opView s o) x)) then
    some (fail .quota 0x1003)
  else if c.objects.1 < c.objects.2 ∧ 268435456 < s.kv.objs.length + (c.objects.2 - c.objects.1) then
    some (fail .quota 0x1005)
  else if 0 < c.data then spaceErr s c.recs.1 c.recs.2 c.data
  else none

/-- What putting a value and tags under a key changes, in a view of the stall's grants. -/
def putChange (s : State) (k : ObjKey) (old : Option Obj) (tags value data : Nat) : Change :=
  let w := stallWidth s k.stall
  let new := k.key.length + value
  { bytes := (match old with | some o => k.key.length + o.value.length | none => 0, new)
    objects := (match old with | some _ => 1 | none => 0, 1)
    entries := (match old with | some o => entryCount o.tags.length w | none => 0, entryCount tags w)
    recs := (match old with | some o => objRecLen k o | none => 0, recordLen k tags value)
    data := data }

/-! ### Waits of a data write (R43, R119, R161, R624) -/

/-- A key's map, block-table or index part is being rebuilt (R161). -/
def rebuildHits (s : State) (ks : List ObjKey) : Bool :=
  s.isl.rebuilding.any (fun r => r.2.any (fun k => ks.contains k))

/-- TRY_LATER of a data write: COLD before FREE_BANDS (R43, R624, R842). -/
def dataWriteErr (s : State) : Option Resp :=
  if coldNow s then some (fail .tryLater 0x0301)
  else if s.upkeep.gc = .refuse then some (fail .tryLater 0x1101)
  else none

/-! ### Commit (R431, R432, R446, R547, R553, R602) -/

/-- A retention in seconds as a move of ledger time. -/
def retentionOf (o : Op) (override : Nat) : Nat :=
  sec * (if override = 0 then attrFieldOf (.retention o.stall) o.snap.retention "DEFAULT" else override)

/-- A bin and its end (R553). -/
def binOf (hours expiry : Nat) : Nat × Nat :=
  let len := Nat.max 1 hours * hour
  (expiry / len, (expiry / len + 1) * len)

/-- The write sequence's next number (WSEQ). -/
def takeWseq (s : State) : Nat × State :=
  (s.kv.nextWseq, updKv s (fun d => { d with nextWseq := d.nextWseq + 1 }))

/-- ROW.CFG.MIRROR, in a view. -/
def mirrorOn (v : State) : Bool := decide (cfgField v .rowCfg "MIRROR" = 1)

/-- Mirroring is on: MIRROR is 1 and the drive has a neighbour. -/
def mirrors (s : State) : Bool := decide (s.row.mirror ≠ .idle)

/-- Entries of the mirror queue: those that wait, those tried again later, those without an ACK (R726, R737). -/
def mirrorDepth (s : State) : Nat :=
  s.row.queue.length + ((s.row.retry.map (fun e => e.2) ++ s.row.sending.map (fun e => e.2)).filter (fun e => ! e.caught)).length

/-- Empty the mirror queue and lag (R731). -/
def mirrorLag (s : State) (reason : Nat) : State :=
  let s := updRow s (fun d => { d with queue := [], retry := [], sending := [], mirror := .lagging, catchup := 0 })
  logEv s .mirrorLagging { reason := reason, details := [(s.row.mark : Int)] }

/-- Put an entry in the mirror queue; a full one is emptied and the drive lags (R726, R731). -/
def mirrorPush (s : State) (it : MirrorItem) : State :=
  if ! mirrors s then s
  else
    let s := if 65536 ≤ mirrorDepth s then mirrorLag s 1 else s
    updRow s (fun d => { d with queue := d.queue ++ [{ item := it }] })

/-- A key changed: a relocation from its stall sends it again (R533). -/
def trackReloc (s : State) (k : ObjKey) : State :=
  match (getStall s k.stall).reloc with
  | some r => if r.source ∧ ¬ r.toCopy.contains k ∧ ¬ r.changed.contains k then
      updStall s k.stall (fun d => { d with reloc := some { r with changed := r.changed ++ [k] } }) else s
  | none => s

/-- The key of an object changed: a relocation from its stall sends it again (R533), and a write that carries EVIDENCE is
mirrored when MIRROR is 1 in the view `v` (R174, R726, R728). -/
def noteWrite (v s : State) (k : ObjKey) (w : Nat) : State :=
  let s := trackReloc s k
  let on := mirrors s && mirrorOn v
  match AMap.find s.kv.objs k with
  | some o => if on && o.tags.any isEvidence then
      mirrorPush (updRow s (fun d => if mirrors s then { d with highest := Nat.max d.highest w } else d)) (.put k w)
    else s
  | none => s

/-- A key was removed: a relocation tells the target (R533), and a mirrored object is removed from the neighbour (R728). -/
def noteRemove (v s : State) (k : ObjKey) (o : Obj) (erase : Bool) : State :=
  let s := trackReloc s k
  if mirrorOn v && o.tags.any isEvidence then mirrorPush s (.remove k erase) else s

/-- The data of a write enters the write buffer and its place in the map: the new present version of the key (R446). -/
def storeVersion (s : State) (k : ObjKey) (o : Obj) (dirty : Nat) : Nat × State :=
  let old := AMap.find s.kv.objs k
  let (w, s) := takeWseq s
  let s := bufferRecord s w (recordImage k o w)
  let ((lpns, packed), s) := placeRecord s k (objRecLen k o) o.bin o.binEnd w
  let s := updKv s (fun d => { d with
    objs := AMap.set d.objs k { o with lpns := lpns, packed := packed, wseq := w }
    dirty := if dirty = 0 then d.dirty else d.dirty ++ [(w, dirty)] })
  let s := stageLog s (.indexSet k w)
  let s := match old with | some x => unmap s x.lpns | none => s
  (w, s)

/-- Remove a key at its commit point: INDEX_DEL, its pages unmapped, its entries invalidated (R446, R476, R687). -/
def removeKey (v s : State) (k : ObjKey) (o : Obj) (erase : Bool) : Nat × State :=
  let (w, s) := takeWseq s
  let s := updKv s (fun d => { d with objs := AMap.del d.objs k })
  let s := stageLog s (.indexDel k w)
  let s := unmap s o.lpns
  (w, noteRemove v (dropEntries s k 0) k o erase)

/-- HOLD_PLACED or HOLD_RELEASED (R558). -/
def logHold (s : State) (k : ObjKey) (o : Obj) (placed : Bool) : State :=
  logEv s (if placed then .holdPlaced else .holdReleased)
    { stall := some k.stall.val, details := [fpOf k, o.version, o.value.length] }

/-- The new present version that a write of a value gives a key: next version, or version 1 with the next incarnation
(R431, R432). -/
def nextVersion (s : State) (k : ObjKey) (value : List Byte) (tags : List Word64) (expiry hours : Nat)
    (backfill : Bool) : Obj × State :=
  let (bin, binEnd) := binOf hours expiry
  match objOf s k with
  | some o => ({ value := value, tags := tags, version := o.version + 1, incarnation := o.incarnation, expiry := expiry
                 bin := bin, binEnd := binEnd, backfill := backfill }, s)
  | none => ({ value := value, tags := tags, version := 1, incarnation := s.kv.nextInc, expiry := expiry
               bin := bin, binEnd := binEnd, backfill := backfill },
      updKv s (fun d => { d with nextInc := d.nextInc + 1 }))

/-- The write of a value under a key, at its commit point: version, EXPIRY, storage, entries no longer needed, WRITTEN,
mirroring. -/
def commitPut (s : State) (o : Op) (k : ObjKey) (value : List Byte) (tags : List Word64) (override : Nat)
    (dirty : Nat) : Obj × Nat × State :=
  let expiry := now s + retentionOf o override
  let (v, s) := nextVersion s k value tags expiry o.snap.binHours (o.frame.flags.testBit 1)
  let (w, s) := storeVersion s k v dirty
  let s := dropEntries s k (entryCount tags.length (stallWidth (opView s o) k.stall))
  let s := charge s k.stall .written (k.key.length + value.length)
  (v, w, noteWrite (opView s o) s k w)

/-- Note a write in its operation and its session (R482). -/
def noteOp (s : State) (id w : Nat) : State :=
  match getOp s id with
  | none => s
  | some o =>
    let s := updOp s id (fun o => { o with ws := o.ws ++ [w], committed := true })
    updChan s o.conn o.chan (fun x => { x with
      writes := x.writes.filter (fun y => writeWaits s y.2) ++ [(id, w)] })

/-- The answer of a committed write: at once, or when it is Persisted, for PERSIST and in write-through (R122, R479). -/
def ackWrite (s : State) (id : Nat) (r : Resp) : State :=
  match getOp s id with
  | none => s
  | some o =>
    if o.frame.flags.testBit 0 || writeThroughFor s o.snap.policy then
      let s := o.ws.foldl issuePacksOf s
      updOp s id (fun o => { o with phase := .waitPersist, resp := some r, committed := true })
    else answerOp (updOp s id (fun o => { o with committed := true })) id r

/-! ### Token buckets and round-robin (R538 to R543, R833) -/

/-- RATE and BURST of a bucket's word. -/
def rateOf (w : Word64) : Nat := w.toNat / 2 ^ 32
/-- BURST of a bucket's word. -/
def burstOf (w : Word64) : Nat := w.toNat % 2 ^ 32

/-- The four bucket words of a stall: OPS, RD, WR, BF. -/
def schedWords (s : State) (x : StallNo) : List Word64 :=
  [cfgWord s (.schedOps x), cfgWord s (.schedRd x), cfgWord s (.schedWr x), cfgWord s (.schedBf x)]

/-- Level of a bucket, in millionths. -/
def levelOf (d : Stall) (i : Nat) : Int := d.levels.getD i 0

/-- A bucket limits an operation: its RATE was not 0 at admission (R174, R843). -/
def limited (o : Op) (i : Nat) : Bool := decide (rateOf (o.snap.sched.getD i 0) ≠ 0)

/-- An operation that is a write or a read for the buckets (R540). -/
def isWriteOp : OpCode → Bool
  | .put | .cas | .mputPart | .txn => true
  | _ => false

/-- The object an operation reads: as it stood at its admission, or now, when an earlier operation of its session had
still to reach its commit point (R446, R448). -/
def seenObj (s : State) (o : Op) (k : ObjKey) : Option Obj := match o.seen with | some x => x | none => objOf s k

/-- Bytes a GET returns (R449). -/
def getLen (o : Op) (c : Conn) (v : Obj) : Nat :=
  let f := o.frame
  if c.gen = .kv1 then v.value.length
  else
    let top := if f.detail = 0 then c.maxData else Nat.min f.detail c.maxData
    Nat.min top (v.value.length - f.arg)

/-- The object an operation's key section names. -/
def opKey (o : Op) : ObjKey := { stall := o.stall, key := o.frame.key }

/-- Bytes of an object's record in a page (ch. 10, Object record). -/
def objRecordLen (r : ObjRecord) : Nat := 40 + pad8 r.key.length + 8 * r.tags.length

/-- How many records from the front of a list fit in a number of bytes beside the page header. -/
def fitCount : Nat → List ObjRecord → Nat
  | _, [] => 0
  | room, r :: rs => if objRecordLen r ≤ room then 1 + fitCount (room - objRecordLen r) rs else 0

/-- Bytes of the records of a list. -/
def recordBytes (rs : List ObjRecord) : Nat := listSum (rs.map objRecordLen)

/-- The byte charge of a write (R50, R540); none for one that the cold gate refuses (R52). -/
def writeCharge (s : State) (o : Op) : Nat × Nat × Nat :=
  if isWriteOp o.code ∧ ¬ coldNow s then
    if o.frame.flags.testBit 1 then (0, 0, o.frame.dataLen) else (0, o.frame.dataLen, 0)
  else (0, 0, 0)

/-- Byte charges of an operation: RD, WR, BF (R540). A write that the cold gate refuses is not charged (R52). -/
def byteCharges (s : State) (o : Op) : Nat × Nat × Nat :=
  match getConn s o.conn with
  | none => writeCharge s o
  | some c =>
    match o.code with
    | .get => (match seenObj s o (opKey o) with | some v => getLen o c v | none => 0, 0, 0)
    | .list => (c.maxData, 0, 0)
    | .fetch =>
      (match AMap.find s.kv.tickets o.frame.arg with
        | some t => if t.state = .running then 0
            else 8 + recordBytes ((t.records.drop o.frame.version).take (fitCount (c.maxData - 8) (t.records.drop o.frame.version)))
        | none => 0, 0, 0)
    | _ => writeCharge s o

/-- Cost of an operation: 4,096 bytes and its byte charges (ch. 11). -/
def opCost (s : State) (o : Op) : Nat := let (a, b, c) := byteCharges s o; 4096 + a + b + c

/-- An operation is admissible (R541). -/
def admissible (s : State) (o : Op) : Bool :=
  let d := getStall s o.stall
  let (rd, wr, bf) := byteCharges s o
  (! limited o 0 || decide (1000000 ≤ levelOf d 0))
    && (rd = 0 || ! limited o 1 || decide (0 ≤ levelOf d 1))
    && (wr = 0 || ! limited o 2 || decide (0 ≤ levelOf d 2))
    && (bf = 0 || ! limited o 3 || decide (0 ≤ levelOf d 3))

/-- Charge a stall's buckets for an operation (R540). -/
def chargeBuckets (s : State) (o : Op) : State :=
  let (rd, wr, bf) := byteCharges s o
  let down (i n : Nat) (l : Int) : Int := if limited o i then l - (1000000 * n : Nat) else l
  updStall s o.stall (fun d => { d with
    levels := [down 0 1 (levelOf d 0), down 1 rd (levelOf d 1), down 2 wr (levelOf d 2), down 3 bf (levelOf d 3)] })

/-- An earlier request of the same session still stands in a queue (R448). -/
def earlierQueued (s : State) (id : Nat) (o : Op) : Bool :=
  s.kv.ops.any (fun x => decide (x.1 < id) && decide (x.2.conn = o.conn) && decide (x.2.chan = o.chan)
    && decide (x.2.phase = .queued))

/-- The first operation of a queue that may be dispatched. -/
def headIn (s : State) (q : List Nat) : Option Nat :=
  q.find? (fun id => match getOp s id with
    | some o => admissible s o && ! earlierQueued s id o
    | none => false)

/-- A stall's head request (ch. 11, Weighted deficit round-robin). -/
def headOf (s : State) (x : StallNo) : Option Nat :=
  match headIn s (getStall s x).live with
  | some id => some id
  | none => headIn s (getStall s x).backfill

/-- Host operations in flight: between dispatch and completion (ch. 19). -/
def inFlight (s : State) : Nat :=
  (s.kv.ops.filter (fun x => decide (x.2.phase ≠ .queued) && decide (x.2.phase ≠ .held))).length

/-- The dispatch limit (R833). -/
def dispatchLimit (s : State) : Nat :=
  let n := match s.power.level with | .l0 => 4096 | .l1 => 2048 | .l2 => 1024 | .l3 => 256
  match s.power.thermal with | .normal => n | .throttle1 => n / 2 | _ => Nat.min n 256

/-- Mark the operations that wait for a bucket as throttled (R541). -/
def markWaiting (s : State) : State :=
  updKv s (fun d => { d with ops := d.ops.map (fun x =>
    if x.2.phase = .queued ∧ ¬ admissible s x.2 then (x.1, { x.2 with throttled := true }) else x) })

/-- Stalls that have become backlogged join the active list; those without a head request leave it with no deficit. -/
def refreshActive (s : State) : State :=
  let busy := (s.stalls.tab.map (fun x => x.1)).filter (fun x => (headOf s x).isSome)
  let gone := s.stalls.active.filter (fun x => ! busy.contains x)
  let s := gone.foldl (fun s x => updStall s x (fun d => { d with deficit := 0 })) s
  updStalls s (fun d => { d with
    active := d.active.filter (fun x => busy.contains x) ++
      (sortBy (fun (a b : StallNo) => decide (a.val < b.val)) busy).filter (fun x => ! d.active.contains x) })

/-! ### Order of a session's operations on a key (R448) and locks (R463) -/

/-- An operation that changes state, for R448 and R482. -/
def changesState : OpCode → Bool
  | .put | .cas | .mputPart | .mputCommit | .txn | .tag | .delete | .discard | .shred => true
  | _ => false

/-- The operation names every key with a start: LIST, and DISCARD and SHRED with PREFIX. -/
def byPrefix (o : Op) : Bool :=
  match o.code with
  | .list => true
  | .discard | .shred => o.frame.flags.testBit 8
  | _ => false

/-- The operation acts on a key. -/
def touches (o : Op) (k : ObjKey) : Bool :=
  o.keys.contains k || (byPrefix o && decide (k.stall = o.stall) && o.frame.key.isPrefixOf k.key)

/-- Two operations of one session act on a common key. -/
def overlap (a b : Op) : Bool :=
  a.keys.any (touches b) || b.keys.any (touches a)
    || (byPrefix a && byPrefix b && (a.frame.key.isPrefixOf b.frame.key || b.frame.key.isPrefixOf a.frame.key))

/-- An earlier operation of the same session that changes one of the same keys has not reached its commit point. -/
def sessionBlocks (s : State) (id : Nat) (o : Op) : Bool :=
  s.kv.ops.any (fun x => decide (x.1 < id) && decide (x.2.conn = o.conn) && decide (x.2.chan = o.chan)
    && changesState x.2.code && ! x.2.committed && x.2.resp.isNone && overlap x.2 o)

/-- A lock of a fingerprint that another operation holds. -/
def lockedByOther (s : State) (id fp : Nat) : Bool :=
  match AMap.find s.kv.locks fp with | some j => decide (j ≠ id) | none => false

/-- Take a lock. -/
def takeLock (s : State) (id fp : Nat) : State := updKv s (fun d => { d with locks := AMap.set d.locks fp id })

/-- An operation waits in a phase. -/
def waitIn (s : State) (id : Nat) (p : OpPhase) (throttled : Bool) : State :=
  updOp s id (fun o => { o with phase := p, throttled := o.throttled || throttled })

/-! ### What a data write waits for before its commit (R119, R624, R687, R818) -/

/-- Take the GC credit of a data write in MATCHED; none when it must wait (R624). -/
def takeCredit (s : State) (n : Nat) : Option State :=
  if s.upkeep.gc = .matched then
    if n ≤ s.upkeep.credit then some (updUpkeep s (fun u => { u with credit := u.credit - n })) else none
  else some s

/-- GC throttles the host (R491). -/
def gcThrottles (s : State) : Bool := match s.upkeep.gc with | .throttle | .matched => true | _ => false

/-- The tag sets a write gives keys, whose entries must be written before its commit point. -/
def entriesReady (s : State) (id : Nat) (o : Op) (sets : List (ObjKey × List Word64)) : Option State :=
  if o.arcDone then some s
  else
    let go (a : State × List ArcCmd) (x : ObjKey × List Word64) : State × List ArcCmd :=
      if x.2.isEmpty then a
      else
        let (h, s) := handleOf a.1 x.1
        (s, a.2 ++ planEntries (opView s o) s (some id) x.1 h x.2)
    let (s, cmds) := sets.foldl go (s, [])
    if cmds.isEmpty then some s else none

/-- Queue the entry writes of an operation (R687). -/
def queueEntries (s : State) (id : Nat) (o : Op) (sets : List (ObjKey × List Word64)) : State :=
  sets.foldl (fun s x =>
    if x.2.isEmpty then s
    else
      let (h, s) := handleOf s x.1
      (planEntries (opView s o) s (some id) x.1 h x.2).foldl pushArc s) s

/-- A write that is acknowledged only once it is Persisted: it adds no dirty data (R119, R122, R479). -/
def direct (s : State) (o : Op) : Bool := o.frame.flags.testBit 0 || writeThroughFor s o.snap.policy

/-- The dirty data of a write of a size. -/
def dirtyOf (s : State) (o : Op) (size : Nat) : Nat := if direct s o then 0 else size

/-- The gates of a write after its checks: the hold-up cap, GC's credit, the Arcade's queue; then its commit. `size` is
what it adds to the dirty data, `data` its DATA_LEN. -/
def gates (s : State) (id : Nat) (o : Op) (isData : Bool) (size data : Nat) (sets : List (ObjKey × List Word64))
    (commit : State → State) : State :=
  if o.arcDone then commit s
  else if 0 < size ∧ ¬ direct s o ∧ ¬ capFits s o.snap.policy size then waitIn s id .waitCap true
  else
    let s := if isData && gcThrottles s then updOp s id (fun o => { o with throttled := true }) else s
    match (if isData then takeCredit s data else some s) with
    | none => waitIn s id .waitCredit true
    | some s =>
      match entriesReady s id o sets with
      | some s => commit s
      | none =>
        let s := sets.foldl (fun s x => takeLock s id (fpOf x.1)) s
        queueEntries (waitIn s id .waitArc false) id o sets

end Sys2Proof.Machine
end

