-- ==== Sys2Proof/Machine/SpecOps.lean ====
section
/-!
DEFINITION. The hot-key directory (ch. 15), speculative work before a frame's trailer and run-ahead (ch. 19): what each
starts, what a GET takes from it, what its cancelling leaves; and the payload staging of the connections.
-/

namespace Sys2Proof.Machine

open Sys2Proof

/-! ### The hot-key directory (R584, R676, R677, R691, R692) -/

/-- Once a second per bank, or once a minute: a moment has passed since the last. -/
def since (s : State) (t : Option Nat) (us : Nat) : Bool := match t with | some t => decide (t + us ≤ now s) | none => true

/-- Bank of a position. -/
def bankOfPos (pos : Nat) : Fin 16 := Fin.ofNat 16 (pos / 8192)

/-- A hit whose array disagrees with its check copy is suppressed and rewritten (R677). -/
def falseHit (s : State) (pos : Nat) : State :=
  let b := bankOfPos pos
  let n := sat (AMap.getD s.arc.falseHits b 0 + 1) 65535
  let s := countArc (updArc s (fun a => { a with falseHits := AMap.set a.falseHits b n })) .falseHits 1
  if since s (AMap.find s.arc.softAt b) sec then
    logEv (updArc s (fun a => { a with softAt := AMap.set a.softAt b s.clock.ledger })) .softFalseHit
      { details := [(b.val : Int), (n : Int)] }
  else s

/-- Entries that banks 0 and 1 hold. -/
def dirSize : Nat := 16384

/-- The directory's entry of a fingerprint. -/
def dirEntry (a : Arcade) (fp : Nat) : Option (Nat × Nat × Nat) := a.dir.find? (fun e => decide (e.2.1 = fp))

/-- A lookup of a key in the directory: a hit becomes the most recently used entry; a miss of a present key, whose bucket
the DRAM cache then holds, enters at the lowest free position, or in place of the entry least recently used (DESIGN CHOICE,
log 49). -/
def dirTouch (a : Arcade) (fp : Nat) (present : Bool) : Arcade :=
  match dirEntry a fp with
  | some e => { a with dir := e :: a.dir.filter (fun x => decide (x ≠ e)) }
  | none =>
    if ! present then a
    else
      let kept := if a.dir.length < dirSize then a.dir else a.dir.dropLast
      let pos := lowestFree dirSize (kept.map (fun e => e.1)) 0
      { a with dir := (pos, fp, pos) :: kept }

/-- INDEX looks a key up: one immediate search of banks 0 and 1, unless ARC is absent (R691). It never changes which key is
found. -/
def noteLookup (s : State) (k : ObjKey) : State :=
  if arcUp s then countArc (updArc s (fun a => dirTouch a (fpOf k) (objOf s k).isSome)) .searches 1 else s

/-! ### Read-ahead buffers (R839, R840) -/

/-- Bytes of an object's record before its value. -/
def valueStart (k : ObjKey) (o : Obj) : Nat := objRecLen k o - pad8 o.value.length

/-- Logical pages on flash that hold the header or a range of an object's value; of a packed record its one page, of a value
written in parts all of them. -/
def readPages (s : State) (k : ObjKey) (o : Obj) (range : Nat × Nat) : List Nat :=
  let a := (valueStart k o + range.1) / 16384
  let b := (valueStart k o + range.1 + range.2 - 1) / 16384
  ((o.lpns.zipIdx.filter (fun x =>
      o.packed || ! o.parts.isEmpty || decide (x.2 = 0) || (decide (a ≤ x.2) && decide (x.2 ≤ b) && decide (0 < range.2)))).map
    (fun x => x.1)).filter (fun l => (AMap.find s.media.map l).isSome)

/-- Queue array reads of logical pages. -/
def queueReads (s : State) (w : ReadFor) (ls : List Nat) : State :=
  updMedia s (fun m => { m with reads := m.reads ++ ls.map (fun l => (w, l)) })

/-- The pair of an object as a buffer carries it. -/
def pairOf (o : Obj) : Nat × Nat := (o.incarnation, o.version)

/-- A buffer serves a session: its connection and channel. -/
def sameSession (conn chan : Nat) (a : Ahead) : Bool :=
  match a.who with
  | .op _ => false
  | .spec _ c h => decide (c = conn) && decide (h = chan)
  | .ahead c h => decide (c = conn) && decide (h = chan)

/-- Discard the buffers that pass a test, with the reads that they still wait for. -/
def dropAheads (s : State) (f : Ahead → Bool) : State :=
  let gone := s.media.aheads.filter f
  updMedia s (fun m => { m with
    aheads := m.aheads.filter (fun a => ! f a)
    reads := m.reads.filter (fun r => ! gone.any (fun a => decide (a.who = r.1) && a.pages.contains r.2)) })

/-- Start a buffer: what it holds and the reads that fill it. -/
def startAhead (s : State) (w : ReadFor) (k : ObjKey) (o : Obj) (range : Nat × Nat) (open_ : Bool) : State :=
  let ls := readPages s k o range
  updMedia (queueReads s w ls) (fun m => { m with
    aheads := m.aheads ++ [{ who := w, key := k, pair := pairOf o, range := range, pages := ls, seq := s.cfg.sequence, unverified := open_ }] })

/-- A GET or a HEAD reads: from a buffer of its session that holds what it asks for at the pair it sees, whose reads become
its own; any other buffer of the key is discarded, and it reads again (R840). -/
def serveAhead (s : State) (id : Nat) (o : Op) (k : ObjKey) (v : Obj) (range : Nat × Nat) : State :=
  let mine (a : Ahead) : Bool := sameSession o.conn o.chan a && decide (a.key = k)
  let fits (a : Ahead) : Bool := mine a && decide (a.pair = pairOf v)
    && decide (a.range.1 ≤ range.1) && decide (range.1 + range.2 ≤ a.range.1 + a.range.2)
  match s.media.aheads.find? fits with
  | some a =>
    dropAheads (updMedia s (fun m => { m with
      aheads := m.aheads.filter (fun x => decide (x ≠ a))
      reads := m.reads.map (fun r => if r.1 = a.who ∧ a.pages.contains r.2 then (.op id, r.2) else r) })) mine
  | none => queueReads (dropAheads s mine) (.op id) (readPages s k v range)

/-- Bytes that the run-ahead of a session holds. -/
def aheadBytes (s : State) (conn chan : Nat) : Nat :=
  listSum ((s.media.aheads.filter (fun a => decide (a.who = .ahead conn chan))).map (fun a => a.range.2))

/-- Run-ahead after a GET that ends before the value does: the bytes that follow, at most 4 MiB a session (R840). The spec does
not say which GET is sequential: every such GET counts as one (DESIGN CHOICE, log 47). -/
def runAhead (s : State) (o : Op) (k : ObjKey) (v : Obj) (range : Nat × Nat) : State :=
  let from_ := range.1 + range.2
  let n := Nat.min (4194304 - aheadBytes s o.conn o.chan) (v.value.length - from_)
  if 0 < n ∧ o.frame.gen ≠ 1 then startAhead s (.ahead o.conn o.chan) k v (from_, n) false else s

/-! ### Before a frame's trailer (R298, R384, R838, R839) -/

/-- Speculative flash reads of a port in flight. -/
def specReads (s : State) (p : PortId) : Nat :=
  (s.media.reads.filter (fun r => match r.1 with | .spec q _ _ => decide (q = p) | _ => false)).length

/-- What PROTO starts for one GET or HEAD whose header has arrived: the directory's search, whose rewrite from a check copy
stands whatever becomes of the frame, and the reads of what it asks for when places remain. -/
def speculate (p : PortId) (s : State) (r : SpecReq) : State :=
  match (getConn s r.conn).bind (fun c => c.stall) with
  | none => s
  | some x =>
    let k : ObjKey := { stall := x, key := r.key }
    let s := match dirEntry s.arc (fpOf k) with
      | some e => if arcUp s && decide (r.check = .disagree) then falseHit s e.1 else s
      | none => s
    match objOf s k with
    | none => s
    | some o =>
      let range := if r.head then (0, 0) else r.range
      if specReads s p + (readPages s k o range).length ≤ 16 then startAhead s (.spec p r.conn r.chan) k o range true else s

/-- A frame fails its FCS: the reads and buffers begun for it go, and with them its configuration stamp (R838, R840). -/
def cancelSpec (s : State) (p : PortId) : State :=
  dropAheads s (fun a => a.unverified && (match a.who with | .spec q _ _ => decide (q = p) | _ => false))

/-- A frame's FCS is good: what was begun for it stays until its trailer. -/
def keepSpec (s : State) (p : PortId) : State :=
  updMedia s (fun m => { m with aheads := m.aheads.map (fun a => match a.who with
    | .spec q _ _ => if q = p then { a with unverified := false } else a
    | _ => a) })

/-- A request frame of a connection fails its trailer: what was begun for it goes. -/
def cancelConnSpec (s : State) (i : Nat) : State :=
  dropAheads s (fun a => match a.who with | .spec _ c _ => decide (c = i) | _ => false)

/-! ### Payload staging (R820) -/

/-- The shared pool: 512 MiB less the 16 MiB of the management channel and row transport, and less the base grants of the data
connections (DEDUCED, log 50). -/
def stagingPool (s : State) : Nat := 536870912 - mgmtStaging - baseGrant * (liveConns s).length

/-- Bytes of the shared pool in use. -/
def poolUsed (s : State) : Nat := listSum ((s.kv.ops.filter (fun x => x.2.pooled)).map (fun x => stagedBy x.2))

/-- A frame with this much data needs the shared pool. -/
def needsPool (s : State) (i len : Nat) : Bool := decide (rxWindow s i < len)

/-- A frame with this much data can be staged: in the base grant, or whole in the pool. -/
def stagingFits (s : State) (i len : Nat) : Bool := ! needsPool s i len || decide (poolUsed s + len ≤ stagingPool s)

/-- Payload bytes in staging. -/
def payloadStaged (s : State) : Nat := listSum (s.kv.ops.map (fun o => stagedBy o.2))

end Sys2Proof.Machine
end

