-- ==== Sys2Proof/Machine/OpOps.lean ====
section
/-!
DEFINITION. What the operations of ch. 10 are made of: object records and pages, the items of a TXN, tickets, the checks
an operation fails by its request alone, and the admission of a request (R385 check 11, R485, R486).
-/

namespace Sys2Proof.Machine

open Sys2Proof

/-! ### Records and pages (ch. 10, Page header and Object record tables) -/

/-- The longest key a session of a generation sees (R429); KV1 sees keys of exactly 32 bytes. -/
def keyLimit (g : Gen) : Nat := match g with | .kv1 => 32 | .kv2 => 64 | .kv3 => 240

/-- The epoch of a record taken now: 0 without a row. -/
def epochNow (s : State) : Nat := if s.row.state = .none_ then 0 else s.row.epoch

/-- The record of an object. -/
def recordOf (s : State) (k : ObjKey) (o : Obj) : ObjRecord :=
  { key := k.key, tags := o.tags, held := o.held, marked := false, valueLen := o.value.length, version := o.version
    incarnation := o.incarnation, serial := Config.serial, epoch := epochNow s }

/-- A record as bytes. A row report is held as a record with an empty key whose tags are the words of its entries. -/
def recordToBytes (r : ObjRecord) : List Byte :=
  leBytes 8 (r.key.length % 256 + 256 * (if r.key.isEmpty then 0 else r.tags.length) + 2048 * b2n r.held + 4096 * b2n r.marked + 2 ^ 32 * r.valueLen)
  ++ leBytes 8 r.version ++ leBytes 8 r.incarnation ++ leBytes 8 r.serial ++ leBytes 8 r.epoch
  ++ padBytes r.key ++ r.tags.flatMap wordBytes

/-- The page header. -/
def pageHeader (hidden : Nat) (trunc last : Bool) (state records : Nat) : List Byte :=
  leBytes 8 (records % 2 ^ 16 + 2 ^ 16 * state + 2 ^ 24 * b2n last + 2 ^ 25 * b2n trunc + 2 ^ 32 * sat hidden 65535)

/-- A page of records. -/
def pageBytes (hidden : Nat) (trunc last : Bool) (state : Nat) (rs : List ObjRecord) : List Byte :=
  pageHeader hidden trunc last state rs.length ++ rs.flatMap recordToBytes

/-- The present objects of a stall whose keys begin with a prefix, in LIST order (R451). -/
def withStart (s : State) (x : StallNo) (start : List Byte) : List (ObjKey × Obj) :=
  sortBy (fun a b => keyOrder a.1 b.1) ((stallObjs s x).filter (fun o => start.isPrefixOf o.1.key))

/-- Runs of keys with one fingerprint, in order. -/
def runsOf : List (ObjKey × Obj) → List (List (ObjKey × Obj))
  | [] => []
  | x :: xs =>
    match runsOf xs with
    | (y :: ys) :: rest => if fpOf y.1 = fpOf x.1 then (x :: y :: ys) :: rest else [x] :: (y :: ys) :: rest
    | rest => [x] :: rest

/-- Whole runs that fit in a number of bytes and records; the first run always (R452). -/
def takeRuns (s : State) : Bool → Nat → Nat → List (List (ObjKey × Obj)) → List (ObjKey × Obj)
  | _, _, _, [] => []
  | first, room, n, r :: rest =>
    let b := recordBytes (r.map (fun x => recordOf s x.1 x.2))
    if first ∨ (b ≤ room ∧ r.length ≤ n) then r ++ takeRuns s false (room - b) (n - r.length) rest else []

/-- The answer of a LIST taken now (R451 to R453). -/
def listAnswer (s : State) (o : Op) (c : Conn) : Resp :=
  let f := o.frame
  let all := withStart s o.stall f.key
  let seen := all.filter (fun x => decide (x.1.key.length ≤ keyLimit c.gen))
  let from_ := if f.flags.testBit 8 then seen.filter (fun x => decide (f.arg < fpOf x.1)) else seen
  let page := takeRuns s true (c.maxData - 8) (if f.detail = 0 then from_.length else f.detail) (runsOf from_)
  { arg := match page.getLast? with | some x => fpOf x.1 | none => f.arg
    data := pageBytes (all.length - seen.length) false (decide (page.length = from_.length)) 0x02
      (page.map (fun x => recordOf s x.1 x.2)) }

/-- Heartbeat state code (ch. 09, Heartbeat state encoding). -/
def hbCode (s : State) : Nat := if ready s then (if coldNow s then 3 else 2) else 1

/-- The answer of a STAT taken now (ch. 10, STAT record). -/
def statAnswer (s : State) (x : StallNo) (g : Gen) : Resp :=
  let w (n : Nat) : List Byte := if g = .kv1 then beBytes 8 n else leBytes 8 n
  let q (a : Attr) : Nat := cfgField s a "LIMIT"
  { data := w (useBytes s x) ++ w (q (.quotaBytes x)) ++ w (useObjects s x + 2 ^ 32 * q (.quotaObjects x))
      ++ w (useEntries s x + 2 ^ 32 * q (.quotaTags x)) ++ w (useHold s x) ++ w (q (.quotaHold x))
      ++ w (lifeUsed s + 256 * levelCode s.power.level + 65536 * hbCode s + 2 ^ 32 * (getStall s x).generation) ++ w 0 }

/-! ### Tickets (R468 to R475) -/

/-- STATE code of a ticket. -/
def ticketCode : TicketState → Nat
  | .running => 1 | .done => 2 | .partial_ => 3 | .shredded => 4 | .failed => 5

/-- Live tickets of a stall. -/
def ticketsOf (s : State) (x : StallNo) : Nat := (s.kv.tickets.filter (fun t => decide (t.2.stall = x))).length

/-- Create a ticket. -/
def newTicket (s : State) (t : Ticket) : Nat × State :=
  (s.kv.nextTicket,
    renewMarks (updKv s (fun d => { d with tickets := AMap.set d.tickets d.nextTicket t, nextTicket := d.nextTicket + 1 })))

/-- Change a ticket. -/
def updTicket (s : State) (n : Nat) (f : Ticket → Ticket) : State :=
  updKv s (fun d => { d with tickets := AMap.modify d.tickets n f })

/-- A ticket reaches a final state (R470, R473). -/
def endTicket (s : State) (n : Nat) (st : TicketState) (reason : Nat) : State :=
  updTicket s n (fun t => { t with state := st, reason := reason, idleSince := now s, estimate := none, todo := [] })

/-- The summary record of a DISCARD or SHRED ticket. -/
def summaryBytes (t : Ticket) : List Byte :=
  leBytes 8 t.summary.1 ++ leBytes 8 t.summary.2.1 ++ leBytes 8 t.summary.2.2 ++ leBytes 8 0

/-- The answer of a FETCH (R470 to R473, R478). -/
def fetchAnswer (s : State) (o : Op) (c : Conn) : Resp :=
  let n := o.frame.arg
  match AMap.find s.kv.tickets n with
  | none => fail .noSuchTicket (if s.kv.expired.contains (o.stall, n) then 0x1601 else 0x1602)
  | some t =>
    if t.stall ≠ o.stall ∨ t.generation ≠ o.generation then fail .noSuchTicket 0x1602
    else if t.state = .running then
      { status := .notReady, arg := n
        detailHi := match t.estimate with | some e => Nat.min e 0xFFFE | none => 0xFFFF }
    else if t.state = .failed then { fail .unavailable t.reason with arg := n }
    else
      let cur := o.frame.version
      let total := if t.kind = .find then t.records.length else 1
      if total < cur then invalid .cursor
      else
        let rs := t.records.drop cur
        let page := rs.take (fitCount (c.maxData - 8) rs)
        let count := if t.kind = .find then page.length else 1 - cur
        { status := if t.state = .partial_ then .partial_ else .ok, version := cur, incarnation := cur + count, arg := n
          data := if t.kind = .find then
              pageBytes t.hidden t.trunc (decide (cur + count = total)) (ticketCode t.state) page
            else pageHeader t.hidden t.trunc true (ticketCode t.state) count ++ (if count = 1 then summaryBytes t else []) }

/-! ### TXN items (ch. 10, TXN item layout) -/

/-- ITEM_OP codes. -/
inductive ItemOp
  | put | delete | cas | check
deriving DecidableEq, Repr

/-- An item of a TXN. -/
structure TxnItem where
  /-- ITEM_OP. -/
  op : ItemOp
  /-- CREATE_ONLY. -/
  createOnly : Bool
  /-- Expected VERSION. -/
  version : Nat
  /-- Expected INCARNATION. -/
  incarnation : Nat
  /-- Retention override. -/
  retention : Nat
  /-- Key. -/
  key : List Byte
  /-- Tags. -/
  tags : List Word64
  /-- Value. -/
  value : List Byte
deriving DecidableEq, Repr

/-- The ITEM_OP with a code. -/
def itemOpOf (n : Nat) : Option ItemOp :=
  match n with | 0x01 => some .put | 0x04 => some .delete | 0x06 => some .cas | 0x20 => some .check | _ => none

/-- The item at the front of bytes, with what follows it. -/
def itemAt (bs : List Byte) : Option (TxnItem × List Byte) :=
  if bs.length < 32 then none
  else
    let w := leNat (slice bs 0 8)
    let kl := w / 2 ^ 8 % 2 ^ 8
    let tc := w / 2 ^ 16 % 2 ^ 3
    let co := w.testBit 19
    let dl := w / 2 ^ 32
    match itemOpOf (w % 2 ^ 8) with
    | none => none
    | some op =>
      if w / 2 ^ 20 % 2 ^ 12 ≠ 0 ∨ kl = 0 ∨ 240 < kl ∨ 4 < tc ∨ (co ∧ op ≠ .put) then none
      else if (op = .delete ∨ op = .check) ∧ (tc ≠ 0 ∨ dl ≠ 0) then none
      else
        let body := bs.drop 32
        let len := pad8 kl + 8 * tc + pad8 dl
        if body.length < len then none
        else
          let val := slice body (pad8 kl + 8 * tc) (pad8 dl)
          if ((body.take (pad8 kl)).drop kl ++ val.drop dl).any (fun b => b ≠ 0) then none
          else some ({ op := op, createOnly := co, version := leNat (slice bs 8 8), incarnation := leNat (slice bs 16 8)
                       retention := leNat (slice bs 24 8), key := body.take kl
                       tags := wordsOf tc (body.drop (pad8 kl)), value := val.take dl }, body.drop len)

/-- The items of a TXN's data section, at most 17 are read; none when they do not fill it exactly. -/
def itemsOf : Nat → List Byte → Option (List TxnItem)
  | _, [] => some []
  | 0, _ => none
  | n + 1, bs => (itemAt bs).bind (fun x => (itemsOf n x.2).map (fun l => x.1 :: l))

/-- The items of a TXN request whose count is its ARG, 1 to 16 (R459). -/
def txnItems (f : Frame) : Option (List TxnItem) :=
  match itemsOf 16 f.data with
  | some l => if l.length = f.arg ∧ 1 ≤ l.length then some l else none
  | none => none

/-- An item writes data (R43, R624). -/
def itemWrites (t : TxnItem) : Bool := match t.op with | .put | .cas => true | _ => false

/-! ### The checks of a request by itself (R434, R436 to R438, R443, R464 to R466, R490) -/

/-- OPT bits an operation has (ch. 10, Request fields by operation). -/
def optMask : OpCode → Nat
  | .put | .list | .discard | .shred => 1
  | .mputBegin => 3
  | .tag => 15
  | _ => 0

/-- The key, tag and data sections an operation uses. -/
def sectionsOf : OpCode → Bool × Bool × Bool
  | .put | .cas => (true, true, true)
  | .get | .head | .delete | .list | .discard | .shred => (true, false, false)
  | .mputBegin | .tag => (true, true, false)
  | .mputPart | .txn | .mbxSend => (false, false, true)
  | .find => (false, true, false)
  | _ => (false, false, false)

/-- OPT bits of a request. -/
def optOf (f : Frame) : Nat := f.flags / 256 % 16

/-- The operation needs a key (R437). -/
def needsKey (o : OpCode) (f : Frame) : Bool :=
  match o with
  | .put | .cas | .get | .head | .delete | .tag | .mputBegin => true
  | .discard | .shred => ! f.flags.testBit 8
  | _ => false

/-- The operation takes an expected pair from VERSION and INCARNATION. -/
def takesPair (o : OpCode) (f : Frame) : Bool :=
  match o with
  | .get | .head | .delete | .cas | .tag => true
  | .mputBegin => f.flags.testBit 9
  | _ => false

/-- A pair that no condition may name (R434). -/
def badPair (v i : Nat) : Bool := decide (v = 2 ^ 64 - 1) || (decide (v = 0) && decide (i ≠ 0))

/-- The operation takes the retention override of ARG. -/
def takesOverride : OpCode → Bool
  | .put | .cas | .mputBegin => true
  | _ => false

/-- RET_MAX as it stood at admission. -/
def retMax (o : Op) : Nat := attrFieldOf (.retention o.stall) o.snap.retention "MAX"

/-- The first failure of a request by itself. -/
def staticErr (s : State) (o : Op) (g : Gen) (maxData : Nat) : Option Resp :=
  let f := o.frame
  let (k, t, d) := sectionsOf o.code
  let opt := optOf f
  if opt &&& optMask o.code ≠ opt ∨ (o.code = .tag ∧ (opt % 4 = 3 ∨ opt / 4 = 3)) then some (invalid .options)
  else if (! k && decide (0 < f.keyLen)) || (! t && decide (0 < f.tagCount)) || (! d && decide (0 < f.dataLen)) then
    some (invalid .sections)
  else if f.keyLen = 0 ∧ needsKey o.code f then some (invalid .emptyKey)
  else if g ≠ .kv1 ∧ takesPair o.code f ∧ badPair f.version f.incarnation then some (invalid .version)
  else if (match o.code with
      | .put | .cas | .mputBegin | .tag => badTags f.tags
      | .find => f.tags.isEmpty
      | _ => false) then some (invalid .tags)
  else if o.code = .find ∧ (2 ≤ f.detail % 4 ∨ (f.detail % 4 = 1 ∧ g = .kv2)) then some (invalid .scope)
  else if takesOverride o.code ∧ retMax o < f.arg then some (invalid .retention)
  else if o.code = .mputPart ∧ (f.detail = 0 ∨ 128 < f.detail) then some (fail .tooLarge 0x1403)
  else if o.code = .mputPart ∧ f.dataLen = 0 then some (invalid .parts)
  else if o.code = .txn ∧ txnItems f = none then some (invalid .txnItems)
  else if o.code = .txn ∧ ! (((txnItems f).getD []).map (fun t => t.key)).Nodup then some (invalid .txnDupKey)
  else if o.code = .mbxSend ∧ f.dataLen = 0 then some (fail .invalid 0)
  else if o.code = .mbxSend ∧ 256 < f.dataLen then some (fail .tooLarge 0x1402)
  else if maxData < f.dataLen then some (fail .tooLarge 0x1401)
  else if (match o.code with | .tag | .find => true | .put | .cas | .mputBegin => ! f.tags.isEmpty | _ => false)
      && ! arcUp s then some arcAbsent
  else none

/-! ### Admission (R174, R385, R485, R486, R540) -/

/-- The configuration stamp of an operation of a stall (R174). -/
def snapshot (s : State) (x : StallNo) : Snapshot :=
  { seq := s.cfg.sequence, policy := cfgWord s .policy, retention := cfgWord s (.retention x)
    binHours := cfgField s .retCfg "BIN_HOURS"
    quota := [cfgField s (.quotaBytes x) "LIMIT", cfgField s (.quotaHold x) "LIMIT", cfgField s (.quotaObjects x) "LIMIT",
      cfgField s (.quotaTags x) "LIMIT"]
    sched := schedWords s x }

/-- Keys a request names. -/
def keysOf (s : State) (x : StallNo) (o : OpCode) (f : Frame) : List ObjKey :=
  match o with
  | .put | .get | .head | .delete | .cas | .tag => [{ stall := x, key := f.key }]
  | .discard | .shred => if f.flags.testBit 8 then [] else [{ stall := x, key := f.key }]
  | .txn => ((txnItems f).getD []).map (fun t => { stall := x, key := t.key })
  | .mputCommit => match AMap.find s.kv.uploads f.arg with | some u => [u.key] | none => []
  | _ => []

/-- The new operation of a request. -/
def newOp (s : State) (i ch : Nat) (c : Conn) (x : StallNo) (code : OpCode) (f : Frame) : Op :=
  { conn := i, chan := ch, stall := x, generation := c.generation, frame := f, code := code, snap := snapshot s x
    at_ := now s, phase := .queued, keys := keysOf s x code f, pooled := needsPool s i f.dataLen
    e0 := if code = .find then (s.row.epoch, s.row.members.map (fun m => m.serial)) else (0, []) }

/-- What a read sees at its admission, unless an earlier operation of its session on its keys has still to commit
(R446, R448); a LIST and a STAT are answered as of then. -/
def seeNow (s : State) (id : Nat) (o : Op) (c : Conn) : Op :=
  match o.code with
  | .get | .head => if sessionBlocks s id o then o else { o with seen := some (objOf s (opKey o)) }
  | .list => if sessionBlocks s id o then o else { o with early := some (listAnswer s o c) }
  | .stat => { o with early := some (statAnswer s o.stall c.gen) }
  | _ => o

/-- Why an admitted request is not passed on to its stall: going away, starting, frozen (R40, R415, R421, R493). -/
def turnedAway (s : State) (c : Conn) (x : StallNo) : Option Resp :=
  if c.goingAway || halting s then some (fail .unavailable 0x0401)
  else if ! ready s then some (fail .notReady 0)
  else match (getStall s x).state with
    | .freezing | .frozen => some (fail .frozen 0)
    | .free | .removing => some (fail .denied 0x0203)
    | _ => none

/-- Put a request into its session's window and order (R448, R485). -/
def noteAdmitted (s : State) (i ch : Nat) (reqId id : Nat) (r : Option Resp) : State :=
  updChan s i ch (fun y => { y with
    out := y.out ++ [{ reqId := reqId, op := some id, resp := r }]
    window := ({ reqId := reqId, cached := none, sent := false } :: y.window).take 4096 })

/-- A repeat of a request in the window is not executed (R486) and counts nowhere (R562). -/
def answerRepeat (s : State) (i ch : Nat) (c : Conn) (f : Frame) (e : WinEntry) : State :=
  if ! e.sent then
    updChan s i ch (fun y => { y with
      out := y.out ++ [{ reqId := f.reqId, op := none, repeated := true, resp := none }] })
  else match e.cached with
    | some r => pump (updChan s i ch (fun y => { y with
        out := y.out ++ [{ reqId := f.reqId, op := none, repeated := true, resp := some r }] })) i ch
    | none => replyInOrder s i ch f.reqId (stampResp c ch f.reqId f.opcode (fail .duplicateUnknown 0))

/-- An operation enters its stall's queue; OPS counts it (ch. 12). -/
def queueOp (s : State) (id : Nat) (o : Op) : State :=
  let s := charge s o.stall .ops 1
  updStall s o.stall (fun d =>
    if isWriteOp o.code ∧ o.frame.flags.testBit 1 then { d with backfill := d.backfill ++ [id] }
    else { d with live := d.live ++ [id] })

/-- Admit a request that passed checks 1 to 11; on a stall being drained it is held (R514). -/
def admitRequest (s : State) (i ch : Nat) (c : Conn) (x : StallNo) (code : OpCode) (f : Frame) : State :=
  match (getChan s i ch).bind (fun y => y.window.find? (fun e => decide (e.reqId = f.reqId))) with
  | some e => answerRepeat s i ch c f e
  | none =>
    let id := s.kv.nextOp
    let s := updKv s (fun d => { d with nextOp := d.nextOp + 1 })
    match turnedAway s c x with
    | some r =>
      pump (noteAdmitted (charge s x .ops 1) i ch f.reqId id (some (stampResp c ch f.reqId f.opcode r))) i ch
    | none =>
      let s := noteAdmitted s i ch f.reqId id none
      let o := newOp s i ch c x code f
      if (getStall s x).state = .draining then
        updKv s (fun d => { d with ops := d.ops ++ [(id, { o with phase := .held })] })
      else
        queueOp (updKv s (fun d => { d with ops := d.ops ++ [(id, seeNow s id o c)] })) id o

/-- The drain of a stall has ended: its held requests are admitted, in order (R514 step 7). -/
def admitHeld (s : State) (id : Nat) : State :=
  match getOp s id with
  | none => s
  | some o =>
    match getConn s o.conn with
    | none => s
    | some c =>
      let o := { o with snap := snapshot s o.stall, at_ := s.clock.ledger, phase := .queued
                        keys := keysOf s o.stall o.code o.frame }
      queueOp (updOp s id (fun _ => seeNow s id o c)) id o

end Sys2Proof.Machine
end

