-- ==== Sys2Proof/Machine/OpExec.lean ====
section
/-!
DEFINITION. What each operation does once it is dispatched (ch. 10): its checks in the order of R490, its waits, its commit
point; and the dispatch of the stalls' queues (R542) and the retry of operations that wait.
-/

namespace Sys2Proof.Machine

open Sys2Proof

/-! ### Checks (R436, R441, R444, R490, R556) -/

/-- The first answer of several checks. -/
def firstResp : List (Option Resp) → Option Resp
  | [] => none
  | some r :: _ => some r
  | none :: rs => firstResp rs

/-- An answer with the present pair of a key. -/
def withPair (cur : Option Obj) (r : Resp) : Resp :=
  match cur with
  | some x => { r with version := x.version, incarnation := x.incarnation }
  | none => r

/-- VERSION_MISMATCH unless the present pair is the expected one; an absent key counts as 0 and 0 (R436). -/
def pairErr (cur : Option Obj) (v i : Nat) : Option Resp :=
  let p : Nat × Nat := match cur with | some x => (x.version, x.incarnation) | none => (0, 0)
  if p = (v, i) then none else some (withPair cur (fail .versionMismatch 0))

/-- The condition of an expected pair; 0 and 0 place none (R436). -/
def condErr (cur : Option Obj) (v i : Nat) : Option Resp := if v = 0 ∧ i = 0 then none else pairErr cur v i

/-- DENIED, HELD, of a held object (R444, R556). -/
def heldErr (cur : Option Obj) : Option Resp :=
  match cur with | some x => if x.held then some (fail .denied 0x1501) else none | none => none

/-- EXISTS of a present key (R441). -/
def existsErr (cur : Option Obj) : Option Resp :=
  match cur with | some _ => some (withPair cur (fail .exists_ 0)) | none => none

/-- VERSION_END (R433). -/
def endErr (cur : Option Obj) : Option Resp :=
  match cur with | some x => if 2 ^ 64 - 2 ≤ x.version then some (fail .versionEnd 0) else none | none => none

/-- The condition of a PUT or CAS (R441, R442). -/
def putCond (cas createOnly : Bool) (cur : Option Obj) (v i : Nat) : Option Resp :=
  if cas then pairErr cur v i else if createOnly then existsErr cur else none

/-- TRY_LATER of an operation on keys; `data` when it writes data (R43, R161, R624). -/
def laterErr (s : State) (data : Bool) (ks : List ObjKey) : Option Resp :=
  firstResp [if data then dataWriteErr s else none, if rebuildHits s ks then some (fail .tryLater 0x1103) else none]

/-! ### Ends of an operation -/

/-- The operation fails: entries written for it are undone, its locks go. -/
def failOp (s : State) (id : Nat) (o : Op) (r : Resp) : State :=
  let s := if o.arcDone then o.keys.foldl restoreEntries s else s
  answerOp (freeLocks s id) id r

/-- The operation has passed its commit point; locks go after it (R462). -/
def committedOp (s : State) (id : Nat) (r : Resp) : State := freeLocks (ackWrite s id r) id

/-- A write to keys waits for the session's earlier operations on them, or for locks of others (R448, R463). -/
def mustWait (s : State) (id : Nat) (o : Op) (ks : List ObjKey) : Bool :=
  sessionBlocks s id o || ks.any (fun k => lockedByOther s id (fpOf k))

/-! ### PUT and CAS (R441, R442) -/

/-- A PUT or a CAS. -/
def runPut (s : State) (id : Nat) (o : Op) : State :=
  let k := opKey o
  let f := o.frame
  let cur := objOf s k
  if mustWait s id o [k] then waitIn s id .waitLock false
  else
    match firstResp [heldErr cur, putCond (decide (o.code = .cas)) (f.flags.testBit 8) cur f.version f.incarnation,
        endErr cur, quotaErr s o (putChange (opView s o) k cur f.tags.length f.dataLen f.dataLen), laterErr s true [k]] with
    | some r => failOp s id o r
    | none =>
      gates s id o true f.dataLen f.dataLen [(k, f.tags)] (fun s =>
        let (v, w, s) := commitPut s o k f.data f.tags f.arg (dirtyOf s o f.dataLen)
        committedOp (noteOp s id w) id { version := v.version, incarnation := v.incarnation })

/-! ### DELETE, DISCARD, SHRED (R444, R476, R477, R646) -/

/-- A DELETE, or a DISCARD of one key. -/
def runDelete (s : State) (id : Nat) (o : Op) : State :=
  let k := opKey o
  let f := o.frame
  let cur := objOf s k
  if mustWait s id o [k] then waitIn s id .waitLock false
  else
    match cur with
    | none => failOp s id o (fail .notFound 0)
    | some x =>
      match firstResp [heldErr cur, if o.code = .delete ∧ f.gen ≠ 1 then condErr cur f.version f.incarnation else none,
          laterErr s false [k]] with
      | some r => failOp s id o r
      | none =>
        let (w, s) := removeKey (opView s o) s k x false
        committedOp (noteOp s id w) id { version := x.version, incarnation := x.incarnation }

/-- The objects a DISCARD with PREFIX or a SHRED names: visible, present, held ones apart. -/
def namedObjs (s : State) (o : Op) (g : Gen) : List (ObjKey × Obj) :=
  if o.frame.flags.testBit 8 then
    (withStart s o.stall o.frame.key).filter (fun x => decide (x.1.key.length ≤ keyLimit g))
  else match objOf s (opKey o) with | some x => [(opKey o, x)] | none => []

/-- Remove one object named by a ticket's operation, at its own commit point. -/
def removeNamed (id : Nat) (v : State) (erase : Bool) (a : State × List (ObjKey × Nat)) (x : ObjKey × Obj) :
    State × List (ObjKey × Nat) :=
  let (w, s) := removeKey v a.1 x.1 x.2 erase
  let s := if erase then scrubBuffers s x.1 else s
  (noteOp s id w, a.2 ++ [(x.1, w)])

/-- A DISCARD with PREFIX, or a SHRED: the removals and the ticket. -/
def runRemoval (s : State) (id : Nat) (o : Op) (g : Gen) : State :=
  let named := namedObjs s o g
  let free := named.filter (fun x => ! x.2.held)
  let shred : Bool := decide (o.code = .shred)
  if mustWait s id o (free.map (fun x => x.1)) then waitIn s id .waitLock false
  else if 64 ≤ ticketsOf s o.stall then failOp s id o (fail .tryLater 0x1102)
  else match laterErr s false (free.map (fun x => x.1)) with
  | some r => failOp s id o r
  | none =>
    let (s, ks) := free.foldl (removeNamed id (opView s o) shred) (s, [])
    let (n, s) := newTicket s { stall := o.stall, generation := o.generation
                                kind := if shred then .shred else .discard
                                summary := (free.length, listSum (free.map objBytes), named.length - free.length)
                                todo := ks.map (fun x => x.1), idleSince := now s }
    let s := if shred then
        let ns := (s.media.bands.filter (fun b => b.2.shredPending && b.2.presence.contains o.stall)).map (fun b => b.1)
        updUpkeep s (fun u => { u with shreds := u.shreds ++ [{ ticket := some n, stall := o.stall, keys := ks, bands := ns }] })
      else s
    committedOp (updOp s id (fun o => { o with committed := true })) id { arg := n }

/-! ### GET, HEAD, LIST, STAT, FETCH -/

/-- A GET (R449, R450, R440), and what it reads (R840). -/
def runGet (s : State) (id : Nat) (o : Op) (c : Conn) : State :=
  let f := o.frame
  if o.seen.isNone && sessionBlocks s id o then waitIn s id .waitLock false
  else
    let cur := seenObj s o (opKey o)
    match cur with
    | none => answerOp s id (fail .notFound 0)
    | some v =>
      match firstResp [if c.gen ≠ .kv1 ∧ v.value.length < f.arg then some (invalid .offset) else none,
          if c.gen = .kv1 ∧ 4194304 < v.value.length then some (fail .tooLarge 0x1402) else none,
          if c.gen = .kv1 then none else condErr cur f.version f.incarnation, availErr v, laterErr s false [opKey o]] with
      | some r => answerOp s id r
      | none =>
        let range := (if c.gen = .kv1 then 0 else f.arg, getLen o c v)
        let s := runAhead (serveAhead s id o (opKey o) v range) o (opKey o) v range
        answerOp s id { version := v.version, incarnation := if c.gen = .kv1 then 0 else v.incarnation
                        arg := if c.gen = .kv1 then 0 else v.value.length
                        tags := if c.gen = .kv1 then [] else v.tags
                        data := slice v.value range.1 range.2 }

/-- A HEAD (R450). -/
def runHead (s : State) (id : Nat) (o : Op) (c : Conn) : State :=
  let f := o.frame
  if o.seen.isNone && sessionBlocks s id o then waitIn s id .waitLock false
  else
    let cur := seenObj s o (opKey o)
    match cur with
    | none => answerOp s id (fail .notFound 0)
    | some v =>
      match firstResp [if c.gen = .kv1 then none else condErr cur f.version f.incarnation, availErr v,
          laterErr s false [opKey o]] with
      | some r => answerOp s id r
      | none =>
        let s := serveAhead s id o (opKey o) v (0, 0)
        answerOp s id { version := v.version, incarnation := if c.gen = .kv1 then 0 else v.incarnation
                        arg := if c.gen = .kv1 then 0 else v.value.length
                        detailHi := if c.gen = .kv1 then 0 else b2n v.held
                        tags := if c.gen = .kv1 then [] else v.tags }

/-- TRY_LATER of a LIST under whose start a key of a part being rebuilt stands (R161). -/
def listLater (s : State) (o : Op) : Option Resp :=
  if o.code = .list then
    laterErr s false ((s.isl.rebuilding.flatMap (fun r => r.2)).filter (fun k =>
      decide (k.stall = o.stall) && o.frame.key.isPrefixOf k.key))
  else none

/-- A LIST or a STAT: as of its admission, or once the session's earlier operations have committed (R446, R448). -/
def runSeen (s : State) (id : Nat) (o : Op) (c : Conn) : State :=
  match o.early with
  | some r => answerOp s id ((listLater s o).getD r)
  | none =>
    if sessionBlocks s id o then waitIn s id .waitLock false else answerOp s id ((listLater s o).getD (listAnswer s o c))

/-- A FETCH restarts the idle time of its ticket (R473). -/
def runFetch (s : State) (id : Nat) (o : Op) (c : Conn) : State :=
  let r := fetchAnswer s o c
  answerOp (if r.status = .noSuchTicket then s else updTicket s o.frame.arg (fun t => { t with idleSince := now s })) id r

/-! ### Multi-part writes (R454 to R458) -/

/-- The open upload a request names, of its stall and generation. -/
def uploadOf (s : State) (o : Op) : Option Upload :=
  match AMap.find s.kv.uploads o.frame.arg with
  | some u => if u.key.stall = o.stall ∧ u.generation = o.generation then some u else none
  | none => none

/-- NO_SUCH_TICKET of an upload: UNKNOWN when it was lost at a power-fail (R458, R494). -/
def noUpload (s : State) (o : Op) : Resp :=
  fail .noSuchTicket (if s.kv.lostHandles.contains o.frame.arg then 0x1602 else 0x1603)

/-- A request names an upload: its 300 s begin again (R458). -/
def touchUpload (s : State) (h : Nat) : State :=
  updKv s (fun d => { d with uploads := AMap.modify d.uploads h (fun u => { u with lastAt := s.clock.ledger }) })

/-- An upload ends: its parts are released (R456). -/
def endUpload (s : State) (h : Nat) : State :=
  match AMap.find s.kv.uploads h with
  | none => s
  | some u =>
    unmap (updKv s (fun d => { d with uploads := AMap.del d.uploads h })) (u.pages.flatMap (fun p => p.2.1))

/-- MPUT_BEGIN. -/
def runBegin (s : State) (id : Nat) (o : Op) : State :=
  let f := o.frame
  if 16 ≤ (s.kv.uploads.filter (fun u => decide (u.2.key.stall = o.stall))).length then
    answerOp s id (fail .tryLater 0x1104)
  else match laterErr s false [opKey o] with
  | some r => answerOp s id r
  | none =>
    let h := s.kv.nextHandle
    let u : Upload := { key := opKey o, generation := o.generation, tags := f.tags, override := f.arg
                        createOnly := f.flags.testBit 8
                        ifMatch := if f.flags.testBit 9 then some (f.version, f.incarnation) else none
                        lastAt := now s }
    answerOp (renewMarks (updKv s (fun d => { d with uploads := AMap.set d.uploads h u, nextHandle := h + 1 }))) id { arg := h }

/-- Bytes of the parts of an upload but one. -/
def otherParts (u : Upload) (n : Nat) : Nat := listSum ((AMap.del u.parts n).map (fun p => p.2.length))

/-- MPUT_PART. -/
def runPart (s : State) (id : Nat) (o : Op) : State :=
  let f := o.frame
  match uploadOf s o with
  | none => failOp s id o (noUpload s o)
  | some u =>
    let s := touchUpload s f.arg
    let old := (AMap.getD u.parts f.detail []).length
    let c : Change := { noChange with bytes := (old, f.dataLen), recs := (recordLen u.key 0 old, recordLen u.key 0 f.dataLen)
                                      data := f.dataLen }
    match firstResp [if 536870912 < otherParts u f.detail + f.dataLen then some (fail .tooLarge 0x1402) else none,
        quotaErr s o c, laterErr s true [u.key]] with
    | some r => failOp s id o r
    | none =>
      gates s id o true f.dataLen f.dataLen [] (fun s =>
        let (bin, binEnd) := binOf o.snap.binHours (now s + retentionOf o u.override)
        let (w, s) := takeWseq s
        let part : Obj := { value := f.data, tags := [], version := 0, incarnation := 0, expiry := 0 }
        let s := bufferRecord s w (recordImage u.key part w)
        let ((lpns, _), s) := placeRecord s u.key (recordLen u.key 0 f.dataLen) bin binEnd w
        let s := updKv s (fun d => { d with
          uploads := AMap.modify d.uploads f.arg (fun u => { u with
            parts := AMap.set u.parts f.detail f.data, pages := AMap.set u.pages f.detail (lpns, w) })
          dirty := if dirtyOf s o f.dataLen = 0 then d.dirty else d.dirty ++ [(w, f.dataLen)] })
        let s := unmap s (match AMap.find u.pages f.detail with | some p => p.1 | none => [])
        committedOp (noteOp s id w) id {})

/-- The parts 1 to `n` of an upload, when these and no others are stored (R457). -/
def allParts (u : Upload) (n : Nat) : Option (List (List Byte)) :=
  if 1 ≤ n ∧ n ≤ 128 ∧ u.parts.all (fun p => decide (p.1 ≤ n)) then
    (List.range n).mapM (fun i => AMap.find u.parts (i + 1))
  else none

/-- MPUT_COMMIT. -/
def runCommit (s : State) (id : Nat) (o : Op) : State :=
  let f := o.frame
  match uploadOf s o with
  | none => failOp s id o (noUpload s o)
  | some u =>
    let s := touchUpload s f.arg
    let k := u.key
    let cur := objOf s k
    if mustWait s id o [k] then waitIn s id .waitLock false
    else match allParts u f.detail with
    | none => failOp s id o (invalid .parts)
    | some ps =>
      let value := ps.flatten
      let c0 := putChange (opView s o) k cur u.tags.length value.length 0
      let c := { c0 with bytes := (c0.bytes.1 + value.length, c0.bytes.2) }
      match firstResp [if ! u.tags.isEmpty && ! arcUp s then some arcAbsent else none, heldErr cur,
          if u.createOnly then existsErr cur else none, (u.ifMatch).bind (fun p => pairErr cur p.1 p.2), endErr cur,
          quotaErr s o c, laterErr s false [k]] with
      | some r => failOp s id o r
      | none =>
        gates s id o false 0 0 [(k, u.tags)] (fun s =>
          let expiry := now s + retentionOf o u.override
          let (v, s) := nextVersion s k value u.tags expiry o.snap.binHours (f.flags.testBit 1)
          let (w, s) := takeWseq s
          let pages := sortBy (fun (a b : Nat × (List Nat × Nat)) => decide (a.1 < b.1)) u.pages
          let s := updKv s (fun d => { d with
            objs := AMap.set d.objs k { v with
              lpns := pages.flatMap (fun p => p.2.1), wseq := w, parts := pages.map (fun p => p.2.2) }
            uploads := AMap.del d.uploads f.arg })
          let s := stageLog s (.indexSet k w)
          let s := match cur with | some x => unmap s x.lpns | none => s
          let s := dropEntries s k (entryCount u.tags.length (stallWidth (opView s o) k.stall))
          let s := noteWrite (opView s o) (charge s k.stall .written (k.key.length + value.length)) k w
          let s := pages.foldl (fun s p => noteOp s id p.2.2) s
          committedOp (noteOp s id w) id { version := v.version, incarnation := v.incarnation })

/-- MPUT_ABORT. -/
def runAbort (s : State) (id : Nat) (o : Op) : State :=
  match uploadOf s o with
  | none => answerOp s id (noUpload s o)
  | some _ => answerOp (endUpload s o.frame.arg) id {}

/-! ### TXN (R459 to R463) -/

/-- The key of an item. -/
def itemKey (o : Op) (t : TxnItem) : ObjKey := { stall := o.stall, key := t.key }

/-- The first failure of an item under the rules of its operation (R461). -/
def itemErr (s : State) (o : Op) (t : TxnItem) : Option Resp :=
  let cur := objOf s (itemKey o t)
  let pair : Option Resp := if badPair t.version t.incarnation then some (invalid .version) else none
  let tags : Option Resp := if badTags t.tags then some (invalid .tags) else none
  let ret : Option Resp := if retMax o < t.retention then some (invalid .retention) else none
  let arc : Option Resp := if ! t.tags.isEmpty && ! arcUp s then some arcAbsent else none
  match t.op with
  | .put => firstResp [tags, ret, arc, heldErr cur, if t.createOnly then existsErr cur else none, endErr cur]
  | .cas => firstResp [pair, tags, ret, arc, heldErr cur, pairErr cur t.version t.incarnation, endErr cur]
  | .delete => firstResp [pair, heldErr cur, if cur.isNone then some (fail .notFound 0) else none,
      condErr cur t.version t.incarnation]
  | .check => firstResp [pair, pairErr cur t.version t.incarnation]

/-- The first item that fails, with its number in DETAIL[31:16]. -/
def itemsErr (s : State) (o : Op) : Nat → List TxnItem → Option Resp
  | _, [] => none
  | n, t :: ts =>
    match itemErr s o t with
    | some r => some { r with detailHi := n, version := 0, incarnation := 0 }
    | none => itemsErr s o (n + 1) ts

/-- What an item changes. -/
def itemChange (s : State) (o : Op) (t : TxnItem) : Change :=
  let k := itemKey o t
  let cur := objOf s k
  match t.op with
  | .put | .cas => putChange (opView s o) k cur t.tags.length t.value.length t.value.length
  | .delete =>
    let c := putChange (opView s o) k cur 0 0 0
    { c with bytes := (c.bytes.1, 0), objects := (c.objects.1, 0), recs := (c.recs.1, 0) }
  | .check => noChange

/-- One item takes effect; the resulting pairs are collected. -/
def commitItem (id : Nat) (o : Op) (a : State × List Byte) (t : TxnItem) : State × List Byte :=
  let k := itemKey o t
  let pair (v i : Nat) : List Byte := leBytes 8 v ++ leBytes 8 i
  match t.op with
  | .put | .cas =>
    let (v, w, s) := commitPut a.1 o k t.value t.tags t.retention (dirtyOf a.1 o t.value.length)
    (noteOp s id w, a.2 ++ pair v.version v.incarnation)
  | .delete =>
    match objOf a.1 k with
    | some x =>
      let (w, s) := removeKey (opView a.1 o) a.1 k x false
      (noteOp s id w, a.2 ++ pair 0 0)
    | none => (a.1, a.2 ++ pair 0 0)
  | .check =>
    (a.1, a.2 ++ (match objOf a.1 k with | some x => pair x.version x.incarnation | none => pair 0 0))

/-- With every lock held: the checks, the quotas against the total, and one commit point (R461, R462). -/
def finishTxn (s : State) (id : Nat) (o : Op) : State :=
  let ts := (txnItems o.frame).getD []
  let total := (ts.map (itemChange s o)).foldl addChange noChange
  let bytes := listSum (ts.map (fun t => if itemWrites t then t.value.length else 0))
  match firstResp [itemsErr s o 1 ts, quotaErr s o total, laterErr s (ts.any itemWrites) o.keys] with
  | some r => failOp s id o r
  | none =>
    gates s id o (ts.any itemWrites) bytes bytes
      ((ts.filter itemWrites).map (fun t => (itemKey o t, t.tags))) (fun s =>
        let (s, out) := ts.foldl (commitItem id o) (s, [])
        committedOp (updOp s id (fun o => { o with committed := true })) id { data := out })

/-- The fingerprints a TXN locks, ascending, each once (R460). -/
def txnFps (o : Op) : List Nat := sortBy (fun a b => decide (a < b)) ((o.keys.map fpOf).dedup)

/-- Take locks in order up to the first that another operation holds. -/
def takeLocks (s : State) (id : Nat) : List Nat → State
  | [] => s
  | fp :: rest => if lockedByOther s id fp then s else takeLocks (takeLock s id fp) id rest

/-- Every lock of the list is held by the operation. -/
def holdsAll (s : State) (id : Nat) (fps : List Nat) : Bool :=
  fps.all (fun fp => decide (AMap.find s.kv.locks fp = some id))

/-- A TXN requests its locks. -/
def lockTxn (s : State) (id : Nat) (o : Op) : State :=
  takeLocks (updOp s id (fun x => { x with phase := .waitLock, lockAt := some (o.lockAt.getD s.clock.ledger) })) id (txnFps o)

/-- A TXN, once dispatched: its locks, and with all of them its checks and commit. -/
def runTxn (s : State) (id : Nat) (o : Op) : State :=
  if o.lockAt.isNone && sessionBlocks s id o then waitIn s id .waitLock false
  else
    let s := lockTxn s id o
    if holdsAll s id (txnFps o) then finishTxn s id ((getOp s id).getD o) else s

/-! ### TAG (R464, R465, R554 to R558) -/

/-- The tags a TAG leaves, in the order the object stores them. -/
def newTags (mode : Nat) (old given : List Word64) : List Word64 :=
  match mode with
  | 0 => given
  | 1 => old ++ given.filter (fun t => ! old.contains t)
  | _ => old.filter (fun t => ! given.contains t)

/-- A change of tags or hold goes on to a relocation target and to the neighbour: an object that now carries EVIDENCE is
mirrored, a mirrored one whose hold changed is updated (R533, R726, R728). -/
def mirrorTag (v s : State) (k : ObjKey) (old new : Obj) (w : Nat) : State :=
  if new.tags.any isEvidence ∧ ¬ old.tags.any isEvidence then noteWrite v s k w
  else
    let s := trackReloc s k
    if mirrorOn v ∧ new.tags.any isEvidence ∧ old.held ≠ new.held then mirrorPush s (.update k new.held) else s

/-- A TAG. -/
def runTag (s : State) (id : Nat) (o : Op) : State :=
  let k := opKey o
  let f := o.frame
  let opt := optOf f
  let hold := opt.testBit 2
  let release := opt.testBit 3
  if mustWait s id o [k] then waitIn s id .waitLock false
  else match objOf s k with
  | none => failOp s id o (fail .notFound 0)
  | some x =>
    let tags := newTags (opt % 4) x.tags f.tags
    let ev := tags.any isEvidence
    let w := stallWidth (opView s o) k.stall
    let c : Change := { noChange with entries := (entryCount x.tags.length w, entryCount tags.length w) }
    match firstResp [if 4 < tags.length ∨ (hold ∧ ¬ ev) then some (invalid .tags) else none,
        if x.held ∧ x.tags.any isEvidence ∧ ¬ ev then some (fail .denied 0x1501) else none,
        condErr (some x) f.version f.incarnation, quotaErr s o c,
        if hold ∧ ¬ x.held ∧ limitOf o 1 < useHold s k.stall + x.value.length then some (fail .quota 0x1004) else none,
        laterErr s false [k]] with
    | some r => failOp s id o r
    | none =>
      gates s id o false 0 0 (if tags = x.tags then [] else [(k, tags)]) (fun s =>
        let held := if hold then true else if release then false else x.held
        let y := { x with tags := tags, held := held }
        let (w', s) := takeWseq s
        let s := updKv s (fun d => { d with objs := AMap.set d.objs k y })
        let s := stageLog s (.indexSet k w')
        let s := dropEntries s k (entryCount tags.length w)
        let s := if held = x.held then s else logHold s k x held
        committedOp (noteOp (mirrorTag (opView s o) s k x y w') id w') id
          { version := x.version, incarnation := x.incarnation, tags := tags })

/-! ### FIND, FLUSH and the mailbox -/

/-- A row search begins: FIND_REQ to every other member of the membership at the FIND's admission that is a member still; E0 and
the deadline count from the admission (R719, R723). -/
def beginRowSearch (s : State) (n : Nat) (o : Op) : State :=
  let d := o.frame.detail / 65536 % 65536
  let deadline := 100000 * (if d = 0 then 50 else Nat.min d 300)
  let here := s.row.members.map (fun m => m.serial)
  let others := o.e0.2.filter (fun x => decide (x ≠ Config.serial) && here.contains x)
  let m : FindReqMsg := { rowten := cfgField (opView s o) (.rowten o.stall) "VALUE", words := o.frame.tags
                          g := BitVec.ofNat 64 o.frame.arg, e0 := o.e0.1, deadline := o.at_ + deadline - s.clock.ledger }
  let step (a : State × AMap Nat Nat) (x : Nat) : State × AMap Nat Nat :=
    (rowSend a.1 x (.findReq m), (x, a.1.row.nextMsg) :: a.2)
  let (s, reqs) := others.foldl step (s, [])
  updRow s (fun r => { r with searches := r.searches ++ [{
    ticket := n, e0 := o.e0.1, deadline := o.at_ + deadline
    members := o.e0.2.map (fun x => (x, if here.contains x then .searching else .removed, []))
      ++ (here.filter (fun x => ! o.e0.2.contains x)).map (fun x => (x, .added, [])), reqs := reqs }] })

/-- A ROW search goes to the row: the stall has a ROWTEN and the drive a ROW_ID (R718). -/
def rowScope (s : State) (o : Op) : Bool :=
  decide (o.frame.detail % 4 = 1) && decide (cfgField (opView s o) (.rowten o.stall) "VALUE" ≠ 0)
    && decide (cfgField (opView s o) .rowCfg "ROW_ID" ≠ 0)

/-- A FIND (R466 to R469). -/
def runFind (s : State) (id : Nat) (o : Op) (g : Gen) : State :=
  if 64 ≤ ticketsOf s o.stall then answerOp s id (fail .tryLater 0x1102)
  else
    let (n, s) := newTicket s { stall := o.stall, generation := o.generation, kind := .find, words := o.frame.tags
                                care := BitVec.ofNat 64 o.frame.arg, keyLimit := keyLimit g
                                row := decide (o.frame.detail % 4 = 1), idleSince := now s
                                seq := o.snap.seq }
    answerOp (if rowScope s o then beginRowSearch s n o else s) id { arg := n }

/-- The writes a FLUSH covers, and whether an operation it covers has still to commit (R482). -/
def flushCovers (s : State) (id : Nat) (o : Op) : List Nat × Bool :=
  let ws : List Nat := match getChan s o.conn o.chan with
    | some x => (x.writes.filter (fun (y : Nat × Nat) => decide (y.1 < id))).map (fun y => y.2)
    | none => []
  (ws.filter (writeWaits s), s.kv.ops.any (fun x => decide (x.1 < id) && decide (x.2.conn = o.conn)
    && decide (x.2.chan = o.chan) && changesState x.2.code && ! x.2.committed && x.2.resp.isNone))

/-- A FLUSH: answered once all it covers is Persisted; TRY_LATER while writes are gated by cold (R482, R483). -/
def runFlush (s : State) (id : Nat) (o : Op) : State :=
  let (ws, open_) := flushCovers s id o
  if ws.isEmpty ∧ ¬ open_ then answerOp s id { persisted := true }
  else if coldNow s ∧ ¬ ws.isEmpty then answerOp s id (fail .tryLater 0x0301)
  else updOp (ws.foldl issuePacksOf s) id (fun o => { o with phase := .waitPersist })

/-- An MBX_DOORBELL of a message for the wardens, at most once per 100 ms per stall (R524). -/
def wardenBell (s : State) (x : StallNo) : State :=
  let d := getStall s x
  let quiet := match d.doorbellAt with | some t => decide (now s < t + 100000) | none => false
  if quiet then s
  else logEv (updStall s x (fun d => { d with doorbellAt := some s.clock.ledger })) .mbxDoorbell
    { stall := some x.val, details := [(d.toWarden.msgs.length : Int)] }

/-- An MBX_SEND (R520, R522, R524). -/
def runMbxSend (s : State) (id : Nat) (o : Op) : State :=
  let q := (getStall s o.stall).toWarden
  if 16 ≤ q.msgs.length then answerOp s id (fail .tryLater 0)
  else
    let m : Msg := { seq := q.next, type := o.frame.arg % 256, ltime := now s, body := o.frame.data }
    let s := updStall s o.stall (fun d => { d with toWarden := { msgs := q.msgs ++ [m], next := q.next + 1 } })
    answerOp (wardenBell (stageLog s (.stall o.stall)) o.stall) id
      { version := q.next, detailHi := 16 - (q.msgs.length + 1) }

/-- An MBX_RECV (R521, R522). -/
def runMbxRecv (s : State) (id : Nat) (o : Op) : State :=
  let q := (getStall s o.stall).toTenant
  let ms := q.msgs.filter (fun m => decide (o.frame.version ≤ m.seq))
  let s := updStall s o.stall (fun d => { d with toTenant := { q with msgs := ms } })
  let s := if ms.length = q.msgs.length then s else stageLog s (.stall o.stall)
  match ms with
  | [] => answerOp s id {}
  | m :: _ => answerOp s id { version := m.seq, incarnation := m.ltime, arg := m.type, detailHi := ms.length, data := m.body }

/-! ### Dispatch (R540 to R542, R833) -/

/-- The connection of an operation, or what is left of it once that has closed (R407). -/
def connOf (s : State) (o : Op) : Conn :=
  (getConn s o.conn).getD
    { gen := if o.frame.gen = 1 then .kv1 else if o.frame.gen = 2 then .kv2 else .kv3, peer := 0, ifc := 8, port := .p0
      local_ := 0, stage := .closed, stageAt := 0, lastRx := 0 }

/-- A dispatched operation runs: the checks of the request by itself, then its own. -/
def runOp (s : State) (id : Nat) : State :=
  match getOp s id with
  | none => s
  | some o =>
    let c := connOf s o
    match if o.arcDone ∨ o.lockAt.isSome then none else staticErr s o c.gen c.maxData with
    | some r => failOp s id o r
    | none =>
      match o.code with
      | .put | .cas => runPut s id o
      | .get => runGet s id o c
      | .head => runHead s id o c
      | .delete => runDelete s id o
      | .list | .stat => runSeen s id o c
      | .mputBegin => runBegin s id o
      | .mputPart => runPart s id o
      | .mputCommit => runCommit s id o
      | .mputAbort => runAbort s id o
      | .txn => runTxn s id o
      | .tag => runTag s id o
      | .find => runFind s id o c.gen
      | .fetch => runFetch s id o c
      | .flush => runFlush s id o
      | .discard => if o.frame.flags.testBit 8 then runRemoval s id o c.gen else runDelete s id o
      | .shred => runRemoval s id o c.gen
      | .heartbeat => s
      | .mbxSend => runMbxSend s id o
      | .mbxRecv => runMbxRecv s id o

/-- A dispatched operation wakes the islands it goes through: INDEX for its keys, ARC for its tags, PARITY for the data it
writes (R148). -/
def wakeFor (s : State) (o : Op) : State :=
  let s := if o.keys.isEmpty then s else wakeIsl s .index
  let s := if o.frame.tags.isEmpty ∧ o.code ≠ .find then s else wakeIsl s .arc
  if isWriteOp o.code then wakeIsl s .parity else s

/-- Dispatch an operation: out of its queue, its buckets charged, and run. -/
def dispatchOp (s : State) (id : Nat) : State :=
  match getOp s id with
  | none => s
  | some o =>
    let s := updStall s o.stall (fun d => { d with live := d.live.filter (fun x => decide (x ≠ id)),
                                                   backfill := d.backfill.filter (fun x => decide (x ≠ id)) })
    let s := o.keys.foldl noteLookup (wakeFor (chargeBuckets s o) o)
    runOp (updOp s id (fun o => { o with phase := .waitLock })) id

/-- The drive can dispatch: below the limit, and the MEDIA queues have a free host place (R833). -/
def canDispatch (s : State) : Bool := ready s && decide (inFlight s < dispatchLimit s) && hostPlaceFree s

/-- The turn of a stall: its head requests as far as its deficit reaches. -/
def serveStall : Nat → State → StallNo → State
  | 0, s, _ => s
  | n + 1, s, x =>
    if ! canDispatch s then s
    else match (headOf s x).bind (fun id => (getOp s id).map (fun o => (id, o))) with
    | none => s
    | some (id, o) =>
      let c : Int := (opCost s o : Nat)
      if c ≤ (getStall s x).deficit then
        serveStall n (dispatchOp (updStall s x (fun d => { d with deficit := d.deficit - c })) id) x
      else s

/-- Weighted deficit round-robin, up to a bound of turns (R542). -/
def schedN : Nat → State → State
  | 0, s => s
  | n + 1, s =>
    let s := refreshActive s
    if ! canDispatch s then s
    else match s.stalls.active with
    | [] => s
    | x :: rest =>
      let s := updStall s x (fun d => { d with deficit := d.deficit + 32768 * cfgField s (.schedWeight x) "WEIGHT" })
      let s := serveStall (s.kv.ops.length + 1) s x
      let s := updStalls s (fun d => { d with
        active := if (headOf s x).isSome then rest ++ [x] else rest })
      schedN n (if (headOf s x).isSome then s else updStall s x (fun d => { d with deficit := 0 }))

/-- The queued operation admitted first. -/
def firstQueued (s : State) : Option Nat :=
  s.kv.ops.foldl (fun (o : Option Nat) x =>
    if x.2.phase = .queued then (match o with | none => some x.1 | some y => some (Nat.min x.1 y)) else o) none

/-- Dispatch in arrival order, the bucket charges recorded and not enforced: CORE's way while SCHED is absent (ch. 18, Cost
of a non-essential island). -/
def arrivalN : Nat → State → State
  | 0, s => s
  | n + 1, s =>
    if ! canDispatch s then s
    else match firstQueued s with
    | none => s
    | some id => arrivalN n (dispatchOp s id)

/-- Serve the backlogged stalls; queued work wakes SCHED. A request of the largest cost needs 258 turns of the smallest
weight. -/
def schedRun (s : State) : State :=
  let s := if s.kv.ops.isEmpty then s else wakeIsl s .sched
  wakeWork (if islUp s .sched then markWaiting (schedN (260 * (s.kv.ops.length + 1)) s) else arrivalN (s.kv.ops.length + 1) s)

/-! ### Retry of what waits -/

/-- A committed write or a FLUSH whose writes are on flash is answered (R479, R482). -/
def retryPersist (s : State) (id : Nat) (o : Op) : State :=
  if o.code = .flush then runFlush s id o
  else if o.ws.all (fun w => ! writeWaits s w) then
    answerOp s id { o.resp.getD {} with persisted := true }
  else s

/-- An operation that waits tries again. -/
def retryOp (s : State) (id : Nat) : State :=
  match getOp s id with
  | none => s
  | some o =>
    match o.phase with
    | .waitLock => if o.code = .txn ∧ o.lockAt.isSome then lockTxn s id o else runOp s id
    | .waitArc => if o.arcDone then runOp s id else s
    | .waitPersist => retryPersist s id o
    | _ => s

/-- Operations that wait in a phase, oldest first. -/
def waitingIn (s : State) (p : OpPhase) : List Nat :=
  sortBy (fun a b => decide (a < b)) ((s.kv.ops.filter (fun x => decide (x.2.phase = p))).map (fun x => x.1))

/-- Every waiting operation tries again, oldest first. -/
def retryPass (s : State) : State :=
  (sortBy (fun a b => decide (a < b)) (s.kv.ops.map (fun x => x.1))).foldl retryOp s

/-- Passes until nothing more can move. -/
def settleN : Nat → State → State
  | 0, s => s
  | n + 1, s => settleN n (retryPass s)

/-- What a release lets go on goes on. -/
def settle (s : State) : State := settleN (s.kv.ops.length) s

/-- Operations that wait in a phase run again, oldest first, and then what they release. -/
def rerun (s : State) (p : OpPhase) : State := settle ((waitingIn s p).foldl runOp s)

end Sys2Proof.Machine
end

