-- ==== Sys2Proof/Machine/ProtoOps.lean ====
section
/-!
DEFINITION. The frame level of the wire protocol (ch. 09): the Frame checks table, HELLO and AUTH, source entries of KV1,
channels, heartbeats, and the loss of alignment with its resynchronisation.
-/

namespace Sys2Proof.Machine

open Sys2Proof

/-! ### Bindings -/

/-- The VLANs a stall is bound to (R286). -/
def stallVlans (s : State) (x : StallNo) : List (Fin 8) :=
  (List.finRange 8).filter (fun k => decide (cfgField s (.vlanKCfg k) "ENABLE" = 1) &&
    bit (cfgWord s (if x.val < 64 then .vlanStallsLo k else .vlanStallsHi k)) (x.val % 64))

/-- A connection on an interface may bind to a stall (R286). -/
def vlanPermits (s : State) (i : IfNo) (x : StallNo) : Bool :=
  let vs := stallVlans s x
  vs.isEmpty || vs.any (fun k => decide (k.val = i.val))

/-- A stall is in use for HELLO (R395, R498). -/
def inUse (s : State) (x : StallNo) : Bool :=
  match (getStall s x).state with | .free | .removing => false | _ => true

/-- A stall counts as frozen for HELLO (R498). -/
def frozenFor (s : State) (x : StallNo) : Bool :=
  match (getStall s x).state with | .freezing | .frozen => true | _ => false

/-- Connections bound to a stall. -/
def boundTo (s : State) (x : StallNo) : Nat := ((liveConns s).filter (fun c => decide (c.2.stall = some x))).length

/-- One more session of a stall would exceed a limit of the Connection limits table (R390). -/
def tooMany (s : State) (x : StallNo) : Bool := decide (1024 < (liveConns s).length) || decide (32 ≤ boundTo s x)

/-- The first enabled source entry of an address (R405). -/
def kv1Entry (s : State) (a : IpAddr) : Option (Fin 64) :=
  (List.finRange 64).find? (fun k => decide (cfgField s (.kv1SrcCtrl k) "ENABLE" = 1)
    && decide (a.toNat = (cfgWord s (.kv1SrcHi k)).toNat * 2 ^ 64 + (cfgWord s (.kv1SrcLo k)).toNat))

/-- The stall of a source entry. -/
def entryStall (s : State) (k : Fin 64) : StallNo := stallOf (cfgField s (.kv1SrcCtrl k) "STALL")

/-- A generation is enabled and its listener on an interface is open (R372). -/
def listens (s : State) (g : Gen) (i : IfNo) : Bool :=
  s.proto.listening && islUp s .proto && decide (cfgField s .kvCfg (match g with | .kv1 => "KV1_EN" | .kv2 => "KV2_EN" | .kv3 => "KV3_EN") = 1)
    && serviceOn s i (genBit g)

/-! ### Authentication failures (R400, R422) -/

/-- The lockout of an address holds. -/
def lockedOut (s : State) (a : IpAddr) : Bool :=
  match (AMap.getD s.proto.fails a {}).until_ with | some t => decide (now s < t) | none => false

/-- A DENIED answer with reason AUTH, or a refused KV3 handshake: counted, logged, and the lockout at the fifth in 60 s. -/
def authFail (s : State) (a : IpAddr) (x : Option Nat) (g : Gen) : State :=
  let s := logEv (countP s .authFail 1) .kvAuthFail
    { stall := x, reason := (match g with | .kv2 => 1 | _ => 2), details := addrWords a }
  let f := AMap.getD s.proto.fails a {}
  let ts := s.clock.ledger :: f.times.filter (fun t => decide (s.clock.ledger < t + 60 * sec))
  let lock : Bool := decide (5 ≤ ts.length) && ! lockedOut s a
  let g' : AuthFails := { times := ts, until_ := if lock then some (s.clock.ledger + 60 * sec) else f.until_ }
  let s := updProto s (fun d => { d with fails := AMap.set d.fails a g' })
  if lock then logEv s .kvAuthLockout { details := addrWords a } else s

/-! ### Heartbeats (R412, R415) -/

/-- Answer a HEARTBEAT of a session at once. -/
def answerHeartbeat (s : State) (i : Nat) (c : Conn) (f : Frame) : State :=
  let r : Resp :=
    if c.goingAway || halting s then fail .unavailable 0x0401
    else if optOf f ≠ 0 then invalid .options
    else if 0 < f.keyLen ∨ 0 < f.tagCount ∨ 0 < f.dataLen then invalid .sections
    else { reason := hbCode s + 256 * levelCode s.power.level }
  sendFrame s i (stampResp c f.channel f.reqId f.opcode r)

/-! ### Frame checks (R374, R379 to R385) -/

/-- GEN of a generation. -/
def genCode : Gen → Nat | .kv1 => 1 | .kv2 => 2 | .kv3 => 3

/-- Kind and opcode of the answer to a failed frame of a kind. -/
def answerKind (f : Frame) : Nat × Nat :=
  match f.kind with
  | 3 => (4, 0)
  | 5 => (5, 2)
  | 7 => (7, f.opcode)
  | _ => (2, f.opcode)

/-- Answer a failed check: in the session's order once the session exists, else at once (R386, R411). -/
def refuseFrame (s : State) (i : Nat) (c : Conn) (f : Frame) (st : Status) (reason : Nat) : State :=
  let (k, o) := answerKind f
  let r := { stampResp c f.channel f.reqId o { kind := k, status := st, reason := reason } with
    stall := c.stall.getD f.stall, generation := if c.stall.isSome then c.generation else f.generation }
  match getChan s i f.channel with
  | some _ => replyInOrder s i f.channel f.reqId r
  | none => sendFrame s i r

/-- A kind a client may send in a generation (ch. 09, KIND encoding). -/
def kindOk (g : Gen) (k : Nat) : Bool :=
  match g with
  | .kv1 => decide (k = 1)
  | .kv2 => decide (k = 1) || decide (k = 3) || decide (k = 5)
  | .kv3 => decide (k = 1) || decide (k = 3) || decide (k = 7)

/-- An opcode its kind and generation carry. -/
def opcodeOk (g : Gen) (f : Frame) : Bool :=
  match f.kind with
  | 1 => match opOfCode f.opcode with | some o => genCarries g o | none => false
  | 3 => decide (f.opcode = 0)
  | 5 => decide (f.opcode = 1)
  | _ => decide (f.opcode = 1) || decide (f.opcode = 2)

/-- A channel number a frame may carry: an open one, or for OPEN one that is not; channel 0 before the session. -/
def channelOk (c : Conn) (f : Frame) : Bool :=
  let open_ : Bool := c.chans.any (fun x => decide (x.no = f.channel) && x.closing.isNone)
  let any : Bool := c.chans.any (fun x => decide (x.no = f.channel))
  if f.kind = 7 ∧ f.opcode = 1 then decide (f.channel < 16) && decide (f.channel ≠ 0) && ! any
  else if f.kind = 7 then open_ && decide (f.channel ≠ 0)
  else if c.chans.isEmpty then decide (f.channel = 0)
  else open_

/-- Reserved FLAGS bits of a request (R380, KV1 header). -/
def flagsReserved (g : Gen) (flags : Nat) : Bool :=
  match g with
  | .kv1 => decide (flags / 4 ≠ 0)
  | _ => decide (flags / 4 % 64 ≠ 0) || decide (flags / 4096 ≠ 0)

/-- Check 7: the first failing field in the order of the Frame checks table, as its reason. -/
def fieldFault (c : Conn) (f : Frame) : Option Nat :=
  if ! kindOk c.gen f.kind then some 0x0107
  else if ! channelOk c f then some 0x0109
  else if ! opcodeOk c.gen f then some 0x0108
  else if flagsReserved c.gen f.flags || decide (f.status ≠ 0) || f.reserved then some 0x0103
  else if c.gen ≠ .kv1 ∧ keyLimit c.gen < f.keyLen then some 0x0104
  else if 5 ≤ f.tagCount then some 0x0105
  else if ! f.paddingOk then some 0x0106
  else if f.reqId = 0 then some 0x010A
  else none

/-! ### HELLO and AUTH (R392 to R399) -/

/-- The strings of the challenge: an ASCII name, then DRIVE_NONCE, CLIENT_NONCE, SESSION_ID, STALL, GENERATION. -/
def challenge (name : List Nat) (c : Conn) : List Byte :=
  name.map (BitVec.ofNat 8) ++ c.driveNonce ++ c.clientNonce ++ leBytes 8 c.sessionId
  ++ leBytes 1 (match c.stall with | some x => x.val | none => 0) ++ leBytes 4 c.generation

/-- `KV2-CLIENT`. -/
def clientName : List Nat := [0x4B, 0x56, 0x32, 0x2D, 0x43, 0x4C, 0x49, 0x45, 0x4E, 0x54]
/-- `KV2-DRIVE`. -/
def driveName : List Nat := [0x4B, 0x56, 0x32, 0x2D, 0x44, 0x52, 0x49, 0x56, 0x45]

/-- Answer HELLO with a status other than OK, and close (R394, R395). -/
def helloFails (s : State) (i : Nat) (f : Frame) (st : Status) (reason gen : Nat) : State :=
  closeConn (sendFrame s i { kind := 4, reqId := f.reqId, stall := f.stall, generation := gen, status := st
                             reason := reason }) i

/-- The record of HELLO_ACK. -/
def helloAck (s : State) (c : Conn) (maxOut : Nat) : List Byte :=
  (if c.gen = .kv2 then c.driveNonce else List.replicate 16 0) ++ leBytes 8 c.sessionId ++ leBytes 2 maxOut
  ++ leBytes 1 (if c.gen = .kv2 then 1 else 16) ++ leBytes 1 (hbCode s) ++ leBytes 4 c.maxData
  ++ leBytes 8 Config.serial ++ List.replicate 24 0

/-- The identity a KV3 client proved in TLS may bind to a stall (R395, R403). -/
def identityFits (s : State) (c : Conn) (x : StallNo) : Bool :=
  match c.tlsAuth with
  | .none_ => false
  | .psk y _ _ => decide (y = x)
  | .cert fp _ => (getStall s x).creds.any (fun k => decide (k.2 = .cert fp))
  | .ticket _ => false

/-- The credential slot of a stall that a TLS identity used. -/
def identitySlot (s : State) (c : Conn) (x : StallNo) : Option Nat :=
  match c.tlsAuth with
  | .none_ => none
  | .psk _ k _ => some k
  | .cert fp _ => ((getStall s x).creds.find? (fun k => decide (k.2 = .cert fp))).map (fun k => k.1.val)
  | .ticket _ => none

/-- A data session has been opened (R754). -/
def noteSession (s : State) : State := updFw s (fun d => { d with sessionSeen := true })

/-- HELLO (R392 to R397). -/
def serveHello (s : State) (i : Nat) (c : Conn) (f : Frame) : State :=
  let d := f.data
  let x := f.stall
  if f.keyLen ≠ 0 ∨ f.tagCount ≠ 0 ∨ f.dataLen ≠ 64 ∨ (slice d 17 1 ++ slice d 32 32).any (fun b => b ≠ 0) then
    helloFails s i f .badFrame 0x0103 f.generation
  else if ! inUse s x then helloFails s i f .denied 0x0203 f.generation
  else if ! vlanPermits s c.ifc x then helloFails s i f .denied 0x0202 f.generation
  else if c.gen = .kv3 ∧ ! identityFits s c x then helloFails s i f .denied 0x0204 f.generation
  else if tooMany s x then helloFails s i f .tryLater 0x0303 f.generation
  else if c.gen = .kv3 ∧ frozenFor s x then helloFails s i f .frozen 0 f.generation
  else if c.gen = .kv3 ∧ f.generation ≠ (getStall s x).generation then
    helloFails s i f .staleGeneration 0 (getStall s x).generation
  else
    let req := leNat (slice d 18 2)
    let maxOut := if req = 0 then 64 else Nat.min req 256
    let maxData := Nat.max 65536 (Nat.min (leNat (slice d 20 4)) 4194304)
    let (nonce, s) := if c.gen = .kv2 then freshBytes s 16 else ([], s)
    let id := s.proto.nextSession
    let s := updProto s (fun p => { p with nextSession := p.nextSession + 1 })
    let c : Conn := { c with
      stage := if c.gen = .kv2 then .auth else .open_
      stageAt := s.clock.ledger, lastRx := s.clock.ledger, stall := some x, generation := f.generation
      slot := if c.gen = .kv2 then some (leNat (slice d 16 1)) else identitySlot s c x
      clientNonce := d.take 16, driveNonce := nonce, sessionId := id, clientTag := leNat (slice d 24 8)
      maxData := maxData, chans := [{ no := 0, maxOut := maxOut }] }
    let s := updConn s i (fun _ => c)
    let s := if c.gen = .kv3 then noteSession s else s
    sendFrame s i { kind := 4, reqId := f.reqId, stall := x, generation := f.generation, data := helloAck s c maxOut }

/-- The secret of the slot a KV2 session named. -/
def sessionSecret (s : State) (c : Conn) : Option (List Byte) :=
  match c.stall, c.slot with
  | some x, some k =>
    if h : k < 8 then
      match AMap.find (getStall s x).creds ⟨k, h⟩ with | some (.secret b) => some b | _ => none
    else none
  | _, _ => none

/-- An AUTH answer. -/
def authResp (c : Conn) (f : Frame) (st : Status) (reason gen : Nat) (data : List Byte) : Resp :=
  { kind := 5, opcode := 2, reqId := f.reqId, stall := c.stall.getD 0, generation := gen, status := st, reason := reason
    data := data }

/-- AUTH of KV2 (R398, R399). -/
def serveAuth (s : State) (i : Nat) (c : Conn) (f : Frame) : State :=
  let x := c.stall.getD 0
  let present := (getStall s x).generation
  if some f.stall ≠ c.stall ∨ f.generation ≠ c.generation then
    sendFrame s i (authResp c f .denied 0x0204 c.generation [])
  else match sessionSecret s c with
  | none => updConn s i (fun c => { c with stage := .authDenied, stageAt := s.clock.ledger, denied := f.reqId })
  | some key =>
    if f.data ≠ Config.hmacSha256 key (challenge clientName c) then
      updConn s i (fun c => { c with stage := .authDenied, stageAt := s.clock.ledger, denied := f.reqId })
    else if frozenFor s x then closeConn (sendFrame s i (authResp c f .frozen 0 c.generation [])) i
    else if c.generation ≠ present then
      closeConn (sendFrame s i (authResp c f .staleGeneration 0 present [])) i
    else
      let s := updConn s i (fun c => { c with stage := .open_, stageAt := s.clock.ledger })
      sendFrame (noteSession s) i
        (authResp c f .ok 0 c.generation (Config.hmacSha256 key (challenge driveName c)))

/-! ### Channels (R408 to R410) -/

/-- OPEN or CLOSE of a channel whose checks have passed. -/
def serveChannel (s : State) (i : Nat) (c : Conn) (f : Frame) : State :=
  if f.opcode = 1 then
    let maxOut := match c.chans.find? (fun x => decide (x.no = 0)) with | some x => x.maxOut | none => 64
    let s := updConn s i (fun c => { c with chans := c.chans ++ [{ no := f.channel, maxOut := maxOut }] })
    sendFrame s i (stampResp c f.channel f.reqId 1 { kind := 7 })
  else pump (updChan s i f.channel (fun x => { x with closing := some f.reqId })) i f.channel

/-! ### A received frame (R385) -/

/-- Checks 9 to 11, then the request. -/
def serveRequest (s : State) (i : Nat) (c : Conn) (f : Frame) : State :=
  let x := c.stall.getD 0
  let present := (getStall s x).generation
  if c.gen ≠ .kv1 ∧ f.stall ≠ x then refuseFrame s i c f .denied 0x0204
  else if c.gen ≠ .kv1 ∧ (f.generation ≠ present ∨ c.generation ≠ present) then refuseFrame s i c f .staleGeneration 0
  else if f.kind = 7 then serveChannel s i c f
  else
    match opOfCode f.opcode, getChan s i f.channel with
    | some .heartbeat, _ => answerHeartbeat s i c f
    | some code, some ch =>
      if ch.maxOut ≤ ch.out.length then refuseFrame s i c f .tryLater 0x0302
      else settle (schedRun (admitRequest s i f.channel c x code f))
    | _, _ => s

/-- A request is served once its payload can be staged; until then its connection's window stays closed to it and to what
follows (R820). -/
def stageRequest (s : State) (i : Nat) (c : Conn) (f : Frame) : State :=
  if c.blocked.isEmpty && stagingFits s i f.dataLen then serveRequest s i c f
  else updConn s i (fun c => { c with blocked := c.blocked ++ [f] })

/-- Frames of a connection that waited for staging are served in order, as far as room has come free. -/
def unblockN : Nat → State → Nat → State
  | 0, s, _ => s
  | n + 1, s, i =>
    match getConn s i with
    | none => s
    | some c =>
      match c.blocked with
      | [] => s
      | f :: rest =>
        if decide (c.stage = .open_) && stagingFits s i f.dataLen then
          unblockN n (serveRequest (updConn s i (fun c => { c with blocked := rest })) i { c with blocked := rest } f) i
        else s

/-- Every connection's waiting frames are tried again, oldest connection first (R820). -/
def unblock (s : State) : State :=
  (s.proto.conns.filter (fun c => ! c.2.blocked.isEmpty)).foldl (fun s c => unblockN c.2.blocked.length s c.1) s

/-- A frame that verified (checks 1, 2, 4, 5): the rest of the Frame checks table. -/
def serveFrame (s : State) (i : Nat) (f : Frame) : State :=
  match getConn s i with
  | none => s
  | some c =>
    match c.stage with
    | .tls | .authDenied | .resync | .closed => s
    | stage =>
      let s := updConn (wakeIsl s .proto) i (fun c => { c with lastRx := s.clock.ledger })
      if f.gen ≠ genCode c.gen then closeConn (refuseFrame s i c f .badFrame 0x010C) i
      else if ! f.pcrcOk then refuseFrame (cancelConnSpec s i) i c f .badFrame 0x0102
      else match fieldFault c f with
      | some r =>
        let s := refuseFrame s i c f .badFrame r
        if f.kind = 3 ∧ r = 0x0103 then closeConn s i else s
      | none =>
        match stage, f.kind with
        | .hello, 3 => serveHello s i c f
        | .auth, 5 => serveAuth s i c f
        | .open_, 3 => refuseFrame s i c f .badFrame 0x0107
        | .open_, 5 => refuseFrame s i c f .badFrame 0x0107
        | .open_, _ => stageRequest s i c f
        | _, _ => closeConn (refuseFrame s i c f .badFrame 0x010B) i

/-! ### Alignment (R416 to R418) -/

/-- Header bytes of a generation. -/
def headLen (g : Gen) : Nat := match g with | .kv1 => 32 | _ => 64

/-- DATA_LEN of the header at the front of bytes. -/
def dataLenAt (g : Gen) (bs : List Byte) : Nat :=
  match g with | .kv1 => beNat (slice bs 12 4) | _ => leNat (slice bs 16 4)

/-- The bytes received so far of a frame fail check 1, 2, 4 or 5. -/
def misaligned (g : Gen) (bs : List Byte) : Bool :=
  if bs.length < 4 then false
  else if ! syncAt g bs then true
  else if bs.length < headLen g then false
  else match headAt g bs with
  | none => true
  | some (_, _, len) =>
    decide (4194304 < dataLenAt g bs) || (decide (len ≤ bs.length) && (frameAt g bs).isNone)

/-- Alignment is lost on a connection: BAD_FRAME, then the scan, or the end of the connection under TLS (R387, R416). -/
def loseAlignment (s : State) (i : Nat) (bs : List Byte) : State :=
  match getConn s i with
  | none => s
  | some c =>
    let s := sendFrame (cancelConnSpec s i) i
      { stall := c.stall.getD 0, generation := c.generation, status := .badFrame, reason := 0x0101 }
    if c.tls then closeConn s i
    else updConn (countP s .resync 1) i (fun c => { c with
      stage := .resync, scan := bs.drop 1, scanned := 0, scanHb := none, resyncAt := s.clock.ledger, stageWas := c.stage })

/-- What the test of a candidate says. -/
inductive ScanStep
  | wait | skip | resume (len : Nat)
deriving DecidableEq, Repr

/-- A header carries the session's STALL and GENERATION (KV2). -/
def sessionHead (c : Conn) (h : Nat × Nat × Nat) : Bool :=
  decide (c.gen = .kv1) || (decide (c.stall = some (stallOf h.1)) && decide (h.2.1 = c.generation))

/-- The tests of the bytes at the scan's position (R416). -/
def scanTest (c : Conn) (bs : List Byte) : ScanStep :=
  if bs.length < 4 then .wait
  else if ! syncAt c.gen bs then .skip
  else if bs.length < headLen c.gen then .wait
  else match headAt c.gen bs with
  | none => .skip
  | some h =>
    if 4194304 < dataLenAt c.gen bs then .skip
    else if bs.length < h.2.2 then .wait
    else match frameAt c.gen bs with
    | none => .skip
    | some (f, len) =>
      if ! f.pcrcOk then .skip
      else if bs.length < len + headLen c.gen then .wait
      else match headAt c.gen (bs.drop len) with
      | none => .skip
      | some h2 => if sessionHead c h && sessionHead c h2 then .resume len else .skip

/-- A candidate that passes its own tests and is a HEARTBEAT request, not answered yet (R417). -/
def scanBeat (c : Conn) : Option Frame :=
  if c.gen = .kv1 ∨ c.scanHb = some c.scanned then none
  else match frameAt c.gen c.scan with
  | some (f, _) => if f.pcrcOk ∧ f.kind = 1 ∧ f.opcode = 0x13 then some f else none
  | none => none

/-- Serve the whole frames at the front of bytes, the first of them not when it was a HEARTBEAT already answered; bytes
that fail begin the next loss of alignment. -/
def serveStream : Nat → State → Nat → Bool → List Byte → State
  | 0, s, _, _, _ => s
  | n + 1, s, i, skip, bs =>
    match getConn s i with
    | none => s
    | some c =>
      if c.stage = .closed then s
      else match frameAt c.gen bs with
      | some (f, len) => serveStream n (if skip then s else serveFrame s i f) i false (bs.drop len)
      | none => if misaligned c.gen bs then loseAlignment s i bs else s

/-- The scan fails at its limit (R418). -/
def scanFails (s : State) (i : Nat) : State :=
  match getConn s i with
  | none => s
  | some c =>
    closeConn (logEv (countP s .resyncFail 1) .kvResyncFail
      { stall := c.stall.map (fun x => x.val), details := addrWords c.peer ++ [(c.scanned : Int)] }) i

/-- The scan goes on over the bytes received, up to a bound of steps (R416 to R418). -/
def scanN : Nat → State → Nat → State
  | 0, s, _ => s
  | n + 1, s, i =>
    match getConn s i with
    | none => s
    | some c =>
      if c.stage ≠ .resync then s
      else if 16777216 ≤ c.scanned then scanFails s i
      else
        let s := match scanBeat c with
          | some f => answerHeartbeat (updConn s i (fun c => { c with scanHb := some c.scanned })) i c f
          | none => s
        match scanTest c c.scan with
        | .wait => s
        | .skip => scanN n (updConn s i (fun c => { c with scan := c.scan.drop 1, scanned := c.scanned + 1 })) i
        | .resume _ =>
          let skipped := c.scanned + 1
          let s := logEv (countP s .resyncBytes skipped) .kvResync
            { stall := c.stall.map (fun x => x.val), details := addrWords c.peer ++ [(skipped : Int)] }
          let hb : Bool := match getConn s i with | some d => decide (d.scanHb = some c.scanned) | none => false
          let s := updConn s i (fun c => { c with
            stage := c.stageWas, scan := [], scanned := 0, scanHb := none, lastRx := s.clock.ledger })
          serveStream (c.scan.length + 1) s i hb c.scan

/-- The peer has closed or reset a connection: its sessions end (R407). -/
def peerGone (s : State) (i : Nat) : State :=
  dropSegs (dropHeld (updProto s (fun d => { d with conns := AMap.del d.conns i })) i) (false, i)

/-! ### Connections -/

/-- A new connection. -/
def newConn (s : State) (g : Gen) (p : PortId) (i : IfNo) (peer own : IpAddr) (st : ConnStage) : Conn :=
  { gen := g, peer := peer, ifc := i, port := p, local_ := own, stage := st, stageAt := s.clock.ledger
    lastRx := s.clock.ledger, mss := cfgField s (.macCfg p) "MAX_FRAME" }

/-- Add a connection. -/
def addConn (s : State) (c : Conn) : State :=
  updProto s (fun d => { d with conns := AMap.set d.conns d.nextConn c, nextConn := d.nextConn + 1 })

/-- A connection that is reset as it is accepted. -/
def resetNew (s : State) (c : Conn) : State := sendReset (updProto s (fun d => { d with nextConn := d.nextConn + 1 })) s.proto.nextConn c

/-- Refuse a KV1 connection: reset, counted, logged at most once per minute per address (R420). -/
def refuseKv1 (s : State) (c : Conn) : State :=
  let a := c.peer
  let s := countP (resetNew s c) .kv1Refused 1
  let quiet := match AMap.find s.proto.kv1Logged a with | some t => decide (now s < t + 60 * sec) | none => false
  if quiet then s
  else logEv (updProto s (fun d => { d with kv1Logged := AMap.set d.kv1Logged a s.clock.ledger })) .kv1Refused
    { details := addrWords a }

/-- A request row takes the frames of its own kind; a frame of no row's kind is answered from any. -/
def rowOfFrame (f : Frame) : Option (Nat × Nat) :=
  match f.kind with
  | 1 => (opOfCode f.opcode).map (fun _ => (1, f.opcode))
  | 3 => some (3, 0)
  | 5 => some (5, 1)
  | 7 => if f.opcode = 1 ∨ f.opcode = 2 then some (7, f.opcode) else none
  | _ => none

/-- Serve a frame that came under a row; one that belongs to another row does nothing. -/
def frameRow (s : State) (kind opcode i : Nat) (f : Frame) : State :=
  match rowOfFrame f with
  | some r => if r = (kind, opcode) then serveFrame s i f else s
  | none => serveFrame s i f

end Sys2Proof.Machine
end

