-- ==== Sys2Proof/Machine/SearchOps.lean ====
section
/-!
DEFINITION. Row searches on the coordinator (R719 to R725): the members' states, the row report, the end of a search, and
the end of a local FIND (R689, R690).
-/

namespace Sys2Proof.Machine

open Sys2Proof

/-- STATUS of a member entry (ch. 16, Member status encoding); `searching` is never reported. -/
def memberCode : MemberStatus → Nat
  | .answered => 1 | .partial_ => 2 | .failed => 3 | .timedOut => 4 | .unreachable => 5 | .removed => 6 | .added => 7
  | .searching => 0

/-- The row report (ch. 16, Row report record). -/
def rowReport (e0 e1 : Nat) (ms : List (Nat × MemberStatus × Nat)) : ObjRecord :=
  { key := [], held := false, marked := false, valueLen := ms.length, version := e0, incarnation := e1, serial := 0
    epoch := 0
    tags := ms.flatMap (fun m => [BitVec.ofNat 64 m.1, BitVec.ofNat 64 (memberCode m.2.1 + 2 ^ 32 * m.2.2)]) }

/-- Change the row search of a ticket. -/
def updSearch (s : State) (n : Nat) (f : RowSearch → RowSearch) : State :=
  updRow s (fun d => { d with searches := d.searches.map (fun x => if x.ticket = n then f x else x) })

/-- The row search of a ticket. -/
def getSearch (s : State) (n : Nat) : Option RowSearch := s.row.searches.find? (fun x => decide (x.ticket = n))

/-- Set a member's status in a search, while it searches. -/
def memberEnds (s : State) (n serial : Nat) (st : MemberStatus) : State :=
  updSearch s n (fun x => { x with members := x.members.map (fun m =>
    if m.1 = serial ∧ m.2.1 = .searching then (m.1, st, m.2.2) else m) })

/-- Records arrive from a member of a search; beyond 65,535 in all they are dropped and TRUNC is set (R725). -/
def takeRecords (s : State) (n serial : Nat) (rs : List ObjRecord) : State :=
  match getSearch s n with
  | none => s
  | some x =>
    let room := 65535 - listSum (x.members.map (fun m => m.2.2.length))
    let s := updSearch s n (fun x => { x with members := x.members.map (fun m =>
      if m.1 = serial then (m.1, m.2.1, m.2.2 ++ rs.take room) else m) })
    if room < rs.length then updTicket s n (fun t => { t with trunc := true }) else s

/-- The records of a search in the order of its members, those of removed members MARKED (R722, R723). -/
def searchRecords (x : RowSearch) : List ObjRecord :=
  x.members.flatMap (fun m => m.2.2.map (fun r => if m.2.1 = .removed then { r with marked := true } else r))

/-- End a row search: FIND_CANCEL to who still searches, the records fixed, the report last (R722 to R725). -/
def endSearch (s : State) (n : Nat) : State :=
  match getSearch s n with
  | none => s
  | some x =>
    let live := x.members.filter (fun m => decide (m.2.1 = .searching) && decide (m.1 ≠ Config.serial))
    let s := live.foldl (fun s m => rowSend s m.1 .findCancel (AMap.getD x.reqs m.1 0)) s
    let x := { x with members := x.members.map (fun m => if m.2.1 = .searching then (m.1, .timedOut, m.2.2) else m) }
    let rs := searchRecords x
    let report := rowReport x.e0 s.row.epoch (x.members.map (fun m => (m.1, m.2.1, m.2.2.length)))
    let whole : Bool := decide (s.row.epoch = x.e0) && x.members.all (fun m => decide (m.2.1 = .answered))
    let s := updRow s (fun d => { d with searches := d.searches.filter (fun y => decide (y.ticket ≠ n)) })
    endTicket (updTicket s n (fun t => { t with records := rs ++ [report] })) n (if whole then .done else .partial_) 0

/-- End a row search once no member of it searches (R722). -/
def endIfDone (s : State) (n : Nat) : State :=
  match getSearch s n with
  | none => s
  | some x => if x.members.all (fun m => decide (m.2.1 ≠ .searching)) then endSearch s n else s

/-- A local FIND has checked its candidates: the ticket ends, or the coordinator's part of a row search does (R689, R690,
R718). -/
def findEnds (s : State) (n : Nat) (t : Ticket) : State :=
  let x := t.stall
  if ! arcUp s then
    endTicket (updRow s (fun d => { d with searches := d.searches.filter (fun y => decide (y.ticket ≠ n)) })) n .failed 0x1302
  else
    let v := asOf s t.seq
    let found := findObjs v s x t.words t.care
    let seen := found.filter (fun o => decide (o.1.key.length ≤ t.keyLimit))
    let rs := seen.map (fun o => recordOf s o.1 o.2)
    let part := findPartial v s x
    let s := updTicket (countFind v s x t.words t.care) n (fun t => { t with hidden := found.length - seen.length })
    match getSearch s n with
    | some _ =>
      endIfDone (memberEnds (takeRecords s n Config.serial rs) n Config.serial (if part then .partial_ else .answered)) n
    | none =>
      let top := if t.row then 65535 else 65536
      let rep := if t.row then
          [rowReport s.row.epoch s.row.epoch [(Config.serial, if part then .partial_ else .answered, Nat.min rs.length top)]]
        else []
      endTicket (updTicket s n (fun t => { t with records := rs.take top ++ rep, trunc := decide (top < rs.length) })) n
        (if part then .partial_ else .done) 0

/-! ### Row searches served for another drive (R720) -/

/-- The stalls a served search covers, ascending. -/
def servedStalls (s : State) (rowten : Nat) : List StallNo :=
  (List.finRange 128).filter (fun x => decide ((getStall s x).state = .active)
    && decide (cfgField s (.rowten x) "VALUE" = rowten))

/-- Records in pages of at most 8,192 bytes (R716). -/
def pagesOfRecords : Nat → List ObjRecord → List (List ObjRecord)
  | 0, _ => []
  | n + 1, rs => if rs.isEmpty then [] else
      let k := Nat.max 1 (fitCount 8192 rs)
      rs.take k :: pagesOfRecords n (rs.drop k)

/-- A served search has finished: its records go out in pages, then FIND_END; the next request that waits is served. -/
def servedEnds (s : State) (v : ServedSearch) : State :=
  let xs := servedStalls s v.req.rowten
  let up := arcUp s
  let rs := if up then xs.flatMap (fun x => (findObjs s s x v.req.words v.req.g).map (fun o => recordOf s o.1 o.2)) else []
  let st : FindEnd := if ! up then .failed else if xs.any (findPartial s s) then .partial_ else .answered
  let s := if up then xs.foldl (fun s x => countFind s s x v.req.words v.req.g) s else s
  let s := (pagesOfRecords (rs.length + 1) rs).foldl (fun s p => rowSend s v.peer (.findPage p) v.msgId) s
  let s := rowSend s v.peer (.findEnd st) v.msgId
  updRow s (fun d =>
    let left := d.served.filter (fun y => decide (y ≠ v))
    { d with served := left ++ d.servedWait.take (4 - left.length), servedWait := d.servedWait.drop (4 - left.length) })

/-- ARC has entered DEAD: its queue, cursors, waiting searches, result and directory go, FINDs that run end FAILED, and
operations that wait for it are answered (R467, R690, R691, R696). -/
def arcDies (s : State) : State :=
  let s := updArc s (fun a => { a with queue := [], plan := none, overflow := [], cursors := [], waiting := [], result := none, dir := [] })
  let run := s.kv.tickets.filter (fun t => decide (t.2.kind = .find) && decide (t.2.state = .running))
  let s := run.foldl (fun s t => findEnds s t.1 t.2) s
  (waitingIn s .waitArc).foldl (fun s id => answerOp (freeLocks s id) id arcAbsent) s

end Sys2Proof.Machine
end

