-- ==== Sys2Proof/Machine/Kv.lean ====
section
/-!
DEFINITION. The commands of the operations (ch. 10) and of the scheduler (ch. 11): each request as a frame, its ends, and
the timers behind uploads, locks, tickets and expiry.
-/

namespace Sys2Proof.Machine

open Sys2Proof

/-- PUT (R441). -/
def execPut (conn : Nat) (f : Frame) (s : State) : Host.Outcome State Fault Refusal := .next (frameRow s 1 0x01 conn f)
/-- GET (R449). -/
def execGet (conn : Nat) (f : Frame) (s : State) : Host.Outcome State Fault Refusal := .next (frameRow s 1 0x02 conn f)
/-- HEAD (R450). -/
def execHead (conn : Nat) (f : Frame) (s : State) : Host.Outcome State Fault Refusal := .next (frameRow s 1 0x03 conn f)
/-- DELETE (R444). -/
def execDelete (conn : Nat) (f : Frame) (s : State) : Host.Outcome State Fault Refusal := .next (frameRow s 1 0x04 conn f)
/-- LIST (R451). -/
def execList (conn : Nat) (f : Frame) (s : State) : Host.Outcome State Fault Refusal := .next (frameRow s 1 0x05 conn f)
/-- CAS (R442). -/
def execCas (conn : Nat) (f : Frame) (s : State) : Host.Outcome State Fault Refusal := .next (frameRow s 1 0x06 conn f)
/-- MPUT_BEGIN (R454). -/
def execMputBegin (conn : Nat) (f : Frame) (s : State) : Host.Outcome State Fault Refusal := .next (frameRow s 1 0x07 conn f)
/-- MPUT_PART (R455). -/
def execMputPart (conn : Nat) (f : Frame) (s : State) : Host.Outcome State Fault Refusal := .next (frameRow s 1 0x08 conn f)
/-- MPUT_COMMIT (R457). -/
def execMputCommit (conn : Nat) (f : Frame) (s : State) : Host.Outcome State Fault Refusal := .next (frameRow s 1 0x09 conn f)
/-- MPUT_ABORT (R458). -/
def execMputAbort (conn : Nat) (f : Frame) (s : State) : Host.Outcome State Fault Refusal := .next (frameRow s 1 0x0A conn f)

/-- UPLOAD_EXPIRY (R458). -/
def execUploadExpiry (handle : Nat) (s : State) : Host.Outcome State Fault Refusal :=
  .next (match AMap.find s.kv.uploads handle with
    | none => s
    | some u => settle (endUpload (advanceTo s (u.lastAt + 300 * sec)) handle))

/-- TXN (R459, R460). -/
def execTxn (conn : Nat) (f : Frame) (s : State) : Host.Outcome State Fault Refusal := .next (frameRow s 1 0x0B conn f)

/-- TXN_LOCKS_TAKEN (R461, R462). -/
def execTxnLocksTaken (op : Nat) (s : State) : Host.Outcome State Fault Refusal :=
  .next (match getOp s op with
    | none => s
    | some o =>
      if o.code = .txn ∧ o.phase = .waitLock ∧ o.lockAt.isSome then
        let s := lockTxn s op o
        if holdsAll s op (txnFps o) then settle (finishTxn s op ((getOp s op).getD o)) else s
      else s)

/-- LOCK_TIMEOUT (R460). -/
def execLockTimeout (op : Nat) (s : State) : Host.Outcome State Fault Refusal :=
  .next (match getOp s op with
    | none => s
    | some o =>
      match o.phase, o.lockAt with
      | .waitLock, some t =>
        if o.code = .txn ∧ ! holdsAll s op (txnFps o) then
          settle (answerOp (freeLocks (advanceTo s (t + 100000)) op) op (fail .lockTimeout 0))
        else s
      | _, _ => s)

/-- TAG (R464). -/
def execTag (conn : Nat) (f : Frame) (s : State) : Host.Outcome State Fault Refusal := .next (frameRow s 1 0x0C conn f)
/-- FIND (R466). -/
def execFind (conn : Nat) (f : Frame) (s : State) : Host.Outcome State Fault Refusal := .next (frameRow s 1 0x0D conn f)

/-- FIND_DONE (R689, R690, R720). -/
def execFindDone (run : FindRun) (s : State) : Host.Outcome State Fault Refusal :=
  .next (match run with
    | .ticket n =>
      match AMap.find s.kv.tickets n with
      | none => s
      | some t => if t.kind = .find ∧ t.state = .running then findEnds s n t else s
    | .served p m =>
      match s.row.served.find? (fun v => decide (v.peer = p) && decide (v.msgId = m)) with
      | none => s
      | some v => servedEnds s v)

/-- FETCH (R470). -/
def execFetch (conn : Nat) (f : Frame) (s : State) : Host.Outcome State Fault Refusal := .next (frameRow s 1 0x0E conn f)

/-- TICKET_EXPIRY (R473). -/
def execTicketExpiry (ticket : Nat) (s : State) : Host.Outcome State Fault Refusal :=
  .next (match AMap.find s.kv.tickets ticket with
    | none => s
    | some t =>
      if t.state = .running then s
      else updKv (advanceTo s (t.idleSince + 60 * sec)) (fun d => { d with
        tickets := AMap.del d.tickets ticket, expired := (t.stall, ticket) :: d.expired }))

/-- FLUSH (R482). -/
def execFlush (conn : Nat) (f : Frame) (s : State) : Host.Outcome State Fault Refusal := .next (frameRow s 1 0x0F conn f)
/-- DISCARD (R476). -/
def execDiscard (conn : Nat) (f : Frame) (s : State) : Host.Outcome State Fault Refusal := .next (frameRow s 1 0x10 conn f)

/-- DISCARD_TICKET_DONE (R476). -/
def execDiscardTicketDone (ticket : Nat) (s : State) : Host.Outcome State Fault Refusal :=
  .next (match AMap.find s.kv.tickets ticket with
    | none => s
    | some t => if t.kind = .discard ∧ t.state = .running then endTicket s ticket .done 0 else s)

/-- SHRED (R477). -/
def execShred (conn : Nat) (f : Frame) (s : State) : Host.Outcome State Fault Refusal := .next (frameRow s 1 0x11 conn f)
/-- STAT (R484). -/
def execStat (conn : Nat) (f : Frame) (s : State) : Host.Outcome State Fault Refusal := .next (frameRow s 1 0x12 conn f)
/-- MBX_SEND (R522). -/
def execMbxSend (conn : Nat) (f : Frame) (s : State) : Host.Outcome State Fault Refusal := .next (frameRow s 1 0x14 conn f)
/-- MBX_RECV (R522). -/
def execMbxRecv (conn : Nat) (f : Frame) (s : State) : Host.Outcome State Fault Refusal := .next (frameRow s 1 0x15 conn f)

/-- OBJECT_EXPIRY (R551): ledger time reaches EXPIRY, from which on the object is absent; its pages are reclaimed later. -/
def execObjectExpiry (k : ObjKey) (s : State) : Host.Outcome State Fault Refusal :=
  .next (match objOf s k with
    | none => s
    | some o => if o.held then s else advanceTo s o.expiry)

/-- SCHED_DISPATCH (R542). -/
def execSchedDispatch (s : State) : Host.Outcome State Fault Refusal := .next (unblock (settle (schedRun s)))

/-- A level after a length of time: it rises at RATE up to BURST (R539). -/
def refilled (w : Word64) (elapsed : Nat) (l : Int) : Int :=
  if rateOf w = 0 then l else max l (min (l + (rateOf w * elapsed : Nat)) (1000000 * burstOf w : Nat))

/-- The word by which a bucket rises: the present one, or while that sets no rate the one stamped on the oldest request that
still waits for it (R174, R843). -/
def refillWord (s : State) (x : StallNo) (i : Nat) (w : Word64) : Word64 :=
  if rateOf w = 0 then
    (((s.kv.ops.filter (fun o => decide (o.2.stall = x) && decide (o.2.phase = .queued) && limited o.2 i)).head?).map
      (fun o => o.2.snap.sched.getD i 0)).getD w
  else w

/-- BUCKET_REFILL (R539): `elapsed` microseconds have passed since the stall's levels last rose. -/
def execBucketRefill (stall : StallNo) (elapsed : Nat) (s : State) : Host.Outcome State Fault Refusal :=
  .next (updStall s stall (fun d => { d with
    levels := (schedWords s stall).zipIdx.map (fun w => refilled (refillWord s stall w.2 w.1) elapsed (levelOf d w.2)) }))

/-- The credit of a LIST at its completion: what it returned less than the page bound it was charged (R540, R542). -/
def listCredit (s : State) (o : Op) : State :=
  match o.code, o.resp with
  | .list, some r =>
    let n := (connOf s o).maxData - r.data.length
    let up (l : Int) : Int :=
      if limited o 1 then
        max l (min (l + (1000000 * n : Nat)) (1000000 * burstOf ((schedWords s o.stall).getD 1 0) : Nat))
      else l
    updStall s o.stall (fun d => { d with
      levels := d.levels.zipIdx.map (fun l => if l.2 = 1 then up l.1 else l.1), deficit := d.deficit + n })
  | _, _ => s

/-- OPERATION_COMPLETE (R447, R448). -/
def execOperationComplete (op : Nat) (s : State) : Host.Outcome State Fault Refusal :=
  .next (match getOp s op with
    | none => s
    | some o =>
      match o.phase, o.resp with
      | .working, some r => unblock (settle (schedRun (finishOp (listCredit s o) op r)))
      | _, _ => s)

/-- The doorbell event of a KV3 connection (R523). -/
def doorbell (s : State) (i : Nat) (c : Conn) : State :=
  let x := c.stall.getD 0
  let d := getStall s x
  sendResp (updConn s i (fun c => { c with doorbell := (some s.clock.ledger, false) })) i
    { kind := 6, opcode := 2, stall := x, generation := c.generation
      reason := d.toTenant.msgs.length + 256 * (16 - d.toWarden.msgs.length) }

/-- A message has entered TO_TENANT: the doorbell now, or at the end of the 100 ms after the last one (R523). -/
def ringTenants (s : State) (x : StallNo) : State :=
  let cs := (liveConns s).filter (fun c => decide (c.2.gen = .kv3) && decide (c.2.stall = some x) && sessionOpen c.2)
  cs.foldl (fun s c =>
    match c.2.doorbell.1 with
    | some t => if now s < t + 100000 then updConn s c.1 (fun c => { c with doorbell := (some t, true) })
        else doorbell s c.1 c.2
    | none => doorbell s c.1 c.2) s

/-- MBX_DOORBELL (R523): the 100 ms after a connection's last doorbell end. -/
def execMbxDoorbell (conn : Nat) (s : State) : Host.Outcome State Fault Refusal :=
  .next (match getConn s conn with
    | none => s
    | some c =>
      match c.doorbell with
      | (some t, true) => doorbell (advanceTo s (t + 100000)) conn c
      | _ => s)

end Sys2Proof.Machine
end

