-- ==== Sys2Proof/Machine/StallOps.lean ====
section
/-!
DEFINITION. What the stall commands share (ch. 11): creation, the generation change and its drain, removal, freeze and
thaw, relocation, credentials and the mailbox.
-/

namespace Sys2Proof.Machine

open Sys2Proof

/-! ### Generations and storage -/

/-- The generation after one: 1 follows the last (ch. 11). -/
def nextGen (g : Nat) : Nat := if g = 0xFFFFFFFF then 1 else g + 1

/-- Bucket levels at BURST, in millionths (R539). -/
def fullLevels (s : State) (x : StallNo) : List Int := (schedWords s x).map (fun w => ((1000000 * burstOf w : Nat) : Int))

/-- A stall's state is stored: a STALL record of the metadata log. -/
def storeStall (s : State) (x : StallNo) : State := stageLog s (.stall x)

/-- A relocation runs from the stall. -/
def relocates (s : State) (x : StallNo) : Bool := match (getStall s x).reloc with | some r => r.source | none => false

/-- A host tag as a detail word. -/
def hostWord (s : State) (x : StallNo) : Int := (getStall s x).host

/-- An event of a generation change: REASON 1 BEGUN, 2 DONE, with generation and host tag. -/
def logChange (s : State) (k : DrainKind) (x : StallNo) (reason : Nat) : State :=
  logEv s (match k with | .reset => .stallReset | .rebind => .stallRebound | .remove => .stallRemoved)
    { stall := some x.val, reason := reason, details := [((getStall s x).generation : Int), hostWord s x] }

/-! ### Creation (R500, R502) -/

/-- Create a FREE stall. -/
def createStall (s : State) (x : StallNo) (host : Nat) (owner : Option (Fin 4)) : State :=
  let (key, s) := freshWord s
  let (ticketKey, s) := freshBytes s 32
  let s := updCfg s (fun d => { d with store := (stallExportAttrs x).foldl (fun m a => AMap.del m a) d.store })
  let lv := fullLevels s x
  let s := updStall s x (fun d => { giveKey s key d with
    state := .active, generation := if d.generation = 0 then 1 else d.generation, owner := owner, host := host
    creds := [], levels := lv, deficit := 0, resumption := (ticketKey, s.clock.ledger) })
  let s := stageLog (storeStall s x) .config
  logEv (openPeriod s x none) .stallCreated
    { stall := some x.val
      details := [((getStall s x).generation : Int), match owner with | some w => (w.val : Int) | none => 15] }

/-! ### Ends of operations, uploads and tickets -/

/-- Operations of a stall without an answer that have not passed their commit point, oldest first. -/
def uncommitted (s : State) (x : StallNo) : List Nat :=
  sortBy (fun a b => decide (a < b)) ((s.kv.ops.filter (fun o =>
    decide (o.2.stall = x) && o.2.resp.isNone && ! o.2.committed)).map (fun o => o.1))

/-- Undo what the entry writes of an operation have done, and take those still queued back. -/
def undoEntries (s : State) (id : Nat) (o : Op) : State :=
  let s := dropCmds s id
  if o.phase = .waitArc ∨ o.arcDone then o.keys.foldl restoreEntries s else s

/-- Count an aborted operation (R515). -/
def countAbort (s : State) (x : StallNo) : State := updStall s x (fun d => { d with aborted := d.aborted + 1 })

/-- Abort an operation of an ended generation: no answer (R514). -/
def abortOld (x : StallNo) (s : State) (id : Nat) : State :=
  match getOp s id with
  | none => s
  | some o => dropOp (countAbort (undoEntries s id o) x) id

/-- Abort an operation with an answer. -/
def abortWith (x : StallNo) (r : Resp) (s : State) (id : Nat) : State :=
  match getOp s id with
  | none => s
  | some o => finishOp (countAbort (undoEntries s id o) x) id r

/-- End every upload of a stall as aborted. -/
def endUploads (s : State) (x : StallNo) : State :=
  ((s.kv.uploads.filter (fun u => decide (u.2.key.stall = x))).map (fun u => u.1)).foldl endUpload s

/-- Remove a stall's tickets of generations other than its present one; their row searches are cancelled (R474). -/
def dropTickets (s : State) (x : StallNo) : State :=
  let g := (getStall s x).generation
  let old := (s.kv.tickets.filter (fun t => decide (t.2.stall = x) && decide (t.2.generation ≠ g))).map (fun t => t.1)
  let s := old.foldl endSearch s
  updKv s (fun d => { d with tickets := d.tickets.filter (fun t => ! old.contains t.1) })

/-! ### The generation change (R406, R514 to R516) -/

/-- What the change does to one connection of the stall: GENERATION_CHANGED and its responses discarded, or a KV1
connection reset. -/
def changeConn (x : StallNo) (s : State) (i : Nat) : State :=
  match getConn s i with
  | none => s
  | some c =>
    match c.gen with
    | .kv1 =>
      let ready := listSum (c.chans.map (fun y => (y.out.filter (fun e => e.resp.isSome)).length))
      resetConn (updStall s x (fun d => { d with lateDiscard := d.lateDiscard + ready })) i
    | _ =>
      if sessionOpen c then
        let s := sendResp s i { kind := 6, opcode := 3, stall := x, generation := c.generation }
        updConn s i (fun c => { c with chans := c.chans.map (fun y => { y with
          out := y.out.map (fun e => { e with discard := true }) }) })
      else s

/-- Connections bound to a stall. -/
def connsOf (s : State) (x : StallNo) : List Nat :=
  ((liveConns s).filter (fun c => decide (c.2.stall = some x))).map (fun c => c.1)

/-- The generation rises by one, and the stall's connections learn of it (R406, R512). -/
def changeGen (s : State) (x : StallNo) : State :=
  (connsOf s x).foldl (changeConn x) (updStall s x (fun d => { d with generation := nextGen d.generation }))

/-- Steps 1 and 2 of a generation change (R514). -/
def startDrain (s : State) (x : StallNo) (k : DrainKind) (host : Option Nat) (slot : Option (SessId × Nat)) : State :=
  let s := updStall s x (fun d => { d with
    state := .draining, host := host.getD d.host, drain := some (k, s.clock.ledger + 200000, slot) })
  let s := updStall s x (fun d => { d with generation := nextGen d.generation })
  let s := logChange (storeStall s x) k x 1
  (connsOf s x).foldl (changeConn x) s

/-- Held requests of a stall, oldest first. -/
def heldOps (s : State) (x : StallNo) : List Nat :=
  sortBy (fun a b => decide (a < b))
    ((s.kv.ops.filter (fun o => decide (o.2.stall = x) && decide (o.2.phase = .held))).map (fun o => o.1))

/-- Commands of the Arcade's queue that serve a stall. -/
def cmdStall : ArcCmd → StallNo
  | .insert _ k _ _ => k.stall
  | .invalidate x _ _ => x
  | .rewrite _ _ e _ => e.owner

/-- R518 steps 1 to 4, and the state REMOVING: the data key goes and its wrapped copies are erased, every object is
unmapped, the entries are invalidated, the mailbox is emptied, the credentials erased, the period closed. -/
def destroyStall (s : State) (x : StallNo) : State :=
  let s := updStall s x (fun d => { d with state := .removing, dataKey := none, wrapped := none, reloc := none, drain := none, freeze := none })
  let s := updUpkeep s (fun u => { u with shreds := u.shreds.filter (fun j => decide (j.stall ≠ x)) })
  let s := keyErase s x
  let s := endUploads s x
  let s := (s.kv.objs.filter (fun o => decide (o.1.stall = x))).foldl (fun s o => (removeKey s s o.1 o.2 true).2) s
  let s := updArc (clearStall s x) (fun a => { a with
    plan := if a.queue.head?.any (fun c => decide (cmdStall c = x)) then none else a.plan })
  let s := keepCmds s (fun c => decide (cmdStall c ≠ x))
  let s := closePeriod s x .removed
  storeStall (updStall s x (fun d => { d with
    creds := [], toWarden := { d.toWarden with msgs := [] }, toTenant := { d.toTenant with msgs := [] }
    blob := none, loadBuf := [], lastFreeze := none, levels := [0, 0, 0, 0], deficit := 0 })) x

/-- R518 step 5: once no erase of its key is left, the stall is FREE. -/
def freeStall (s : State) (x : StallNo) : State :=
  if (getStall s x).state = .removing ∧ s.media.bands.all (fun b => ! (b.2.pslc && b.2.shredPending)) then
    let s := logChange (storeStall (updStall s x (fun d => { d with state := .free })) x) .remove x 2
    updStall s x (fun d => { d with owner := none, host := 0 })
  else s

/-- The end of a drain: what has not committed is aborted, at 200 ms at the latest; tickets, uploads and locks go; the
stall is ACTIVE, or is removed (R514 steps 4 to 7). -/
def endDrain (s : State) (x : StallNo) : State :=
  match (getStall s x).drain with
  | none => s
  | some (k, t, slot) =>
    let held := heldOps s x
    let late := (uncommitted s x).filter (fun id => ! held.contains id)
    let s := if late.isEmpty then s else advanceTo s t
    let s := late.foldl (abortOld x) s
    let s := endUploads (dropTickets s x) x
    let lv := fullLevels s x
    let s := updStall s x (fun d => { d with levels := lv, deficit := 0, drain := none })
    let g := (getStall s x).generation
    match k with
    | .remove =>
      let s := held.foldl (fun s id => finishOp s id (fail .denied 0x0203)) s
      destroyStall (answerSlot s slot (okLine [("generation", vn g), ("", .name "removing")])) x
    | _ =>
      let s := logChange (storeStall (updStall s x (fun d => { d with state := .active })) x) k x 2
      settle (schedRun (answerSlot (held.foldl admitHeld s) slot (okLine [("generation", vn g)])))

/-! ### Freeze (R527 to R529) -/

/-- A stall's stored configuration as the blob's CONFIG section holds it. -/
def stallConfig (s : State) (x : StallNo) : List (Nat × Word64) := (stallExportAttrs x).map (fun a => (attrNum a, cfgWord s a))

/-- A message in the MAILBOX section. -/
def msgBytes (m : Msg) : List Byte :=
  leBytes 8 m.seq ++ leBytes 8 m.ltime ++ leBytes 1 m.type ++ leBytes 2 m.body.length ++ leBytes 5 0 ++ padBytes m.body

/-- A queue in the MAILBOX section: its next sequence, its count, its messages. -/
def queueBytes (q : MsgQueue) : List Byte := leBytes 8 q.next ++ leBytes 8 q.msgs.length ++ q.msgs.flatMap msgBytes

/-- The METERING section: words 0, 1, 2, 3, 4 and 6 of the open period's record and its accumulators, 88 bytes (R570). -/
def meterBytes (generation : Nat) : Option Period → List Byte
  | none => List.replicate 88 0
  | some p =>
    let (a, b) := p.bounds.getD (0, 0)
    [word p.seq, periodWord1 p 0 generation, word a, word b, word p.wallOpen, word p.ltimeOpen, word p.acc.stored,
      word p.acc.written, word p.acc.read, word p.acc.ops, word p.acc.shredded].flatMap wordBytes

/-- A body section: TYPE, LENGTH and its bytes, padded to a multiple of 8. -/
def section_ (type : Nat) (bs : List Byte) : List Byte := leBytes 4 type ++ leBytes 4 bs.length ++ padBytes bs

/-- The sections of a blob's body, in plain (Blob section types). -/
def blobBody (b : Blob) : List Byte :=
  section_ 1 (b.config.flatMap (fun c => leBytes 4 c.1 ++ leBytes 4 0 ++ wordBytes c.2))
    ++ section_ 2 (b.levels.flatMap (fun l => leBytes 8 (signedField 64 l)))
    ++ section_ 3 (queueBytes b.toWarden ++ queueBytes b.toTenant)
    ++ section_ 4 (meterBytes b.generation b.meter)
    ++ section_ 5 (b.resumption.1 ++ leBytes 8 b.resumption.2)

/-- Bytes 0 to 71 of a blob (State blob). -/
def blobHead (x : StallNo) (b : Blob) (nonce : List Byte) : List Byte :=
  asciiBytes "CXSTBLOB" ++ leBytes 2 1 ++ leBytes 1 x.val ++ leBytes 1 0 ++ leBytes 4 b.generation ++ leBytes 8 Config.serial
    ++ leBytes 8 b.freezeSeq ++ leBytes 8 b.ltime ++ leBytes 8 b.wall ++ leBytes 4 (blobBody b).length ++ leBytes 4 0
    ++ nonce ++ leBytes 4 0

/-- Exactly so many bytes. -/
def fitTo (n : Nat) (bs : List Byte) : List Byte := (bs ++ List.replicate n 0).take n

/-- The bytes of a blob: the header, the body encrypted with its tag under the key of `stall-blob` and the stall number, the
signature over all of it (R529). -/
def blobBytes (s : State) (x : StallNo) (b : Blob) (nonce : List Byte) : List Byte :=
  let key := Config.hkdfSha384 (seedOf s) (asciiBytes "stall-blob" ++ leBytes 1 x.val)
  let head := blobHead x b nonce
  let bs := head ++ fitTo ((blobBody b).length + 16) (Config.aesGcm key nonce (blobBody b) head)
  bs ++ fitTo 96 (Config.signP384 (seedOf s) bs)

/-- The blob of a stall, built now under the next freeze sequence, with a fresh nonce (R527 step 4). The levels of its BUCKETS
section are whole operations and bytes. -/
def buildBlob (s : State) (x : StallNo) : Blob × State :=
  let d := getStall s x
  let (nonce, s) := freshBytes s 12
  let b : Blob := { generation := d.generation, freezeSeq := s.stalls.nextFreeze, ltime := now s, wall := wallNow s
                    config := stallConfig s x, levels := d.levels.map (· / 1000000) ++ [d.deficit], toWarden := d.toWarden
                    toTenant := d.toTenant, meter := d.period, resumption := d.resumption, bytes := [] }
  ({ b with bytes := blobBytes s x b nonce },
    updStalls s (fun t => { t with nextFreeze := t.nextFreeze + 1 }))

/-- Steps 1 of a freeze (R527). -/
def startFreeze (s : State) (x : StallNo) (slot : Option (SessId × Nat)) : State :=
  logEv (updStall s x (fun d => { d with state := .freezing, freeze := some (s.clock.ledger + 500000, slot) }))
    .stallFreezing { stall := some x.val }

/-- Steps 2 and 3 of a freeze: the rest is aborted and answered FROZEN, at 500 ms at the latest; uploads and locks end. -/
def drainFrozen (s : State) (x : StallNo) (t : Nat) : State :=
  let late := uncommitted s x
  let s := if late.isEmpty then s else advanceTo s t
  endUploads (late.foldl (abortWith x (fail .frozen 0)) s) x

/-- Step 6 of a freeze: every connection of the stall closes once its responses are sent. -/
def closeConns (s : State) (x : StallNo) : State :=
  (connsOf s x).foldl (fun s i => endConn (updConn s i (fun c => { c with ending := true })) i) s

/-! ### Relocation (R532 to R536, R546) -/

/-- The drive is a member of the present view. -/
def isMember (s : State) (serial : Nat) : Bool := s.row.members.any (fun m => decide (m.serial = serial))

/-- A stall's relocation with a peer, on one side. -/
def relocWith (s : State) (x : StallNo) (peer : Nat) (source : Bool) : Option Relocation :=
  match (getStall s x).reloc with
  | some r => if r.peer = peer ∧ r.source = source then some r else none
  | none => none

/-- Change a stall's relocation. -/
def updReloc (s : State) (x : StallNo) (f : Relocation → Relocation) : State :=
  updStall s x (fun d => { d with reloc := d.reloc.map f })

/-- An object as a relocation carries it. -/
def relocObj (s : State) (k : ObjKey) (o : Obj) : RelocObj :=
  { key := k.key, value := o.value, tags := o.tags, version := o.version, held := o.held, remaining := o.expiry - now s }

/-- Send the present state of a key to the target: the object, or that it is gone; it then waits for the answer. -/
def sendKey (x : StallNo) (s : State) (k : ObjKey) : State :=
  match (getStall s x).reloc with
  | none => s
  | some r =>
    let m : RelocMsg := match objOf s k with
      | some o => .obj Config.serial r.peerStall (relocObj s k o)
      | none => .removed Config.serial r.peerStall k.key
    let s := updReloc s x (fun r => { r with toCopy := r.toCopy.filter (fun y => decide (y ≠ k))
                                             changed := r.changed.filter (fun y => decide (y ≠ k))
                                             sent := if r.sent.contains k then r.sent else r.sent ++ [k] })
    rowSend s r.peer (.reloc m)

/-- Bytes of an object that a relocation sends. -/
def copyBytes (s : State) (k : ObjKey) : Nat := k.key.length + (match objOf s k with | some o => o.value.length | none => 0)

/-- Bytes of the tracked changes not yet sent. -/
def changedBytes (s : State) (r : Relocation) : Nat :=
  listSum (r.changed.map (copyBytes s))

/-- REASON of RELOCATE_FAILED. -/
def relocCode : RelocFail → Nat
  | .targetLeft => 1 | .quota => 2 | .space => 3 | .noConfirm => 4 | .cancelled => 5 | .powerFail => 6

/-- Step 2 of cutover: the remaining changes, the configuration, the levels and the mailbox (R534). -/
def sendCutover (s : State) (x : StallNo) : State :=
  match (getStall s x).reloc with
  | none => s
  | some r =>
    let s := r.changed.foldl (sendKey x) s
    let d := getStall s x
    let st : RelocState := { config := stallConfig s x, levels := d.levels, toWarden := (d.toWarden.msgs, d.toWarden.next)
                             toTenant := (d.toTenant.msgs, d.toTenant.next), host := d.host }
    rowSend (updReloc s x (fun r => { r with step2At := some s.clock.ledger })) r.peer (.reloc (.cutover Config.serial r.peerStall st))

/-- The end of a freeze's drain: the blob and FROZEN are stored together, the mailbox moves into the blob, the
connections close, the command is answered; in a cutover no blob is offered and the rest is sent (R527, R534). -/
def endFreeze (s : State) (x : StallNo) : State :=
  match (getStall s x).freeze with
  | none => s
  | some (t, slot) =>
    let s := drainFrozen s x t
    let (b, s) := buildBlob s x
    let cut : Bool := match (getStall s x).reloc with | some r => r.source && r.cutover | none => false
    let empty (q : MsgQueue) : MsgQueue := { q with msgs := [] }
    let s := updStall s x (fun d => { d with
      state := .frozen, freeze := none, lastFreeze := some (b.generation, b.freezeSeq)
      blob := if cut then none else some b
      toWarden := if cut then d.toWarden else empty d.toWarden
      toTenant := if cut then d.toTenant else empty d.toTenant })
    let s := if cut then s else updStalls s (fun d => { d with issued := (x, b) :: d.issued })
    let s := closeConns (storeStall s x) x
    let s := answerSlot s slot (okLine [("", .name "frozen"), ("seq", vn b.freezeSeq), ("len", vn b.bytes.length)])
    let s := logEv s .stallFrozen { stall := some x.val, details := [(b.freezeSeq : Int), (b.bytes.length : Int)] }
    settle (if cut then sendCutover s x else s)

/-- A relocation from a stall is done: the source removes it under R518 (R534 step 4). -/
def sourceDone (s : State) (x : StallNo) : State :=
  match (getStall s x).reloc with
  | none => s
  | some r =>
    if r.source ∧ r.step2At.isSome ∧ (getStall s x).state = .frozen then
      let s := logEv s .relocateDone { stall := some x.val, details := [(r.peer : Int), (r.peerStall.val : Int)] }
      let s := logChange (changeGen s x) .remove x 1
      destroyStall (dropTickets s x) x
    else s

/-- A relocation fails on this side: the source is ACTIVE as before; the target is emptied and its key erased (R536). -/
def relocFails (s : State) (x : StallNo) (why : RelocFail) : State :=
  match (getStall s x).reloc with
  | none => s
  | some r =>
    let s := logEv s .relocateFailed
      { stall := some x.val, reason := relocCode why, details := [(r.peer : Int), (r.peerStall.val : Int)] }
    if r.source then
      let back (d : Stall) : Stall := { d with
        reloc := none, freeze := none
        state := if r.cutover then (match d.state with | .freezing => .active | .frozen => .active | y => y) else d.state }
      settle (schedRun (storeStall (updStall s x back) x))
    else destroyStall s x

/-- Tell the other side that the relocation is given up. -/
def sendFail (s : State) (x : StallNo) (why : RelocFail) : State :=
  match (getStall s x).reloc with
  | none => s
  | some r => rowSend s r.peer (.reloc (.fail Config.serial r.peerStall why))

/-- The quotas and the room a relocated object needs on the target (R536). -/
def targetErr (s : State) (x : StallNo) (k : ObjKey) (o : RelocObj) : Option RelocFail :=
  let old := AMap.find s.kv.objs k
  let c := putChange s k old o.tags.length o.value.length o.value.length
  let lim (a : Attr) : Nat := cfgField s a "LIMIT"
  let oldHold := match old with | some v => if v.held then v.value.length else 0 | none => 0
  let newHold := if o.held then o.value.length else 0
  if overLimit (useBytes s x) c.bytes.1 c.bytes.2 (lim (.quotaBytes x))
      || overLimit (useHold s x) oldHold newHold (lim (.quotaHold x))
      || overLimit (useObjects s x) c.objects.1 c.objects.2 (lim (.quotaObjects x))
      || overLimit (useEntries s x) c.entries.1 c.entries.2 (Nat.min (lim (.quotaTags x)) (stallEntries s x)) then some .quota
  else if (spaceErr s c.recs.1 c.recs.2 c.data).isSome then some .space
  else none

/-- Store a relocated object: the target's next incarnation, its version and hold kept, its EXPIRY from the remaining
retention (R533). -/
def storeRelocated (s : State) (x : StallNo) (o : RelocObj) : State :=
  let k : ObjKey := { stall := x, key := o.key }
  let expiry := now s + o.remaining
  let (bin, binEnd) := binOf (cfgField s .retCfg "BIN_HOURS") expiry
  let v : Obj := { value := o.value, tags := o.tags, version := o.version, incarnation := s.kv.nextInc, expiry := expiry
                   held := o.held, bin := bin, binEnd := binEnd }
  let s := updKv s (fun d => { d with nextInc := d.nextInc + 1 })
  let (w, s) := storeVersion s k v (if writeThrough s then 0 else o.value.length)
  noteWrite s (restoreEntries s k) k w

/-- An object arrives at the target. -/
def takeObj (s : State) (peer : Nat) (x : StallNo) (o : RelocObj) : State :=
  match relocWith s x peer false with
  | none => s
  | some r =>
    let k : ObjKey := { stall := x, key := o.key }
    let say (st : AckStatus) (why : Option RelocFail) : RowBody := .reloc (.objAck Config.serial r.peerStall o.key st why)
    if (dataWriteErr s).isSome || (! writeThrough s && ! capFits s (policyNow s) o.value.length) then
      rowSend s peer (say .tryLater none)
    else match targetErr s x k o, takeCredit s o.value.length with
    | some why, _ => relocFails (rowSend s peer (say .refused (some why))) x why
    | none, none => rowSend s peer (say .tryLater none)
    | none, some s => rowSend (storeRelocated s x o) peer (say .ok none)

/-- A removal arrives at the target. -/
def takeRemoved (s : State) (peer : Nat) (x : StallNo) (key : List Byte) : State :=
  match relocWith s x peer false with
  | none => s
  | some r =>
    let k : ObjKey := { stall := x, key := key }
    let s := match AMap.find s.kv.objs k with | some o => (removeKey s s k o false).2 | none => s
    rowSend s peer (.reloc (.objAck Config.serial r.peerStall key .ok none))

/-- The rest arrives at the target: configuration, levels, mailbox; the stall is ACTIVE at its own generation plus one, and
its metering starts from 0 (R534 step 3). -/
def takeCutover (s : State) (peer : Nat) (x : StallNo) (st : RelocState) : State :=
  match relocWith s x peer false with
  | none => s
  | some r =>
    let s := ((stallExportAttrs x).zip (st.config.map (fun c => c.2))).foldl (fun s c => cfgStore s c.1 c.2) s
    let full := fullLevels s x
    let s := updStall s x (fun d => { d with
      state := .active, generation := nextGen d.generation, host := st.host, reloc := none
      levels := (st.levels.zip full).map (fun l => min l.1 l.2)
      toWarden := { msgs := st.toWarden.1, next := Nat.max d.toWarden.next st.toWarden.2 }
      toTenant := { msgs := st.toTenant.1, next := Nat.max d.toTenant.next st.toTenant.2 } })
    let s := openPeriod (stageLog (storeStall s x) .config) x none
    let s := rowSend s peer (.reloc (.confirm Config.serial r.peerStall))
    logEv s .relocateDone { stall := some x.val, details := [(peer : Int), (r.peerStall.val : Int)] }

/-- The target's answer to one key: accepted, to be sent again, or refused (R536, R546). -/
def takeAck (s : State) (peer : Nat) (x : StallNo) (key : List Byte) (st : AckStatus) (why : Option RelocFail) : State :=
  match relocWith s x peer true with
  | none => s
  | some _ =>
    let k : ObjKey := { stall := x, key := key }
    match st with
    | .ok => updReloc s x (fun r => { r with sent := r.sent.filter (fun y => decide (y ≠ k)) })
    | .tryLater => updReloc s x (fun r => { r with sent := r.sent.filter (fun y => decide (y ≠ k))
                                                   toCopy := if r.toCopy.contains k then r.toCopy else r.toCopy ++ [k] })
    | .refused => relocFails s x (why.getD .quota)

/-- A relocation is offered: a FREE stall is taken for it, with a data key of its own (R532, R533). -/
def takeOffer (s : State) (peer : Nat) (stall x : StallNo) : State :=
  let d := getStall s x
  if d.state = .free ∧ d.reloc.isNone ∧ isMember s peer then
    let (key, s) := freshWord s
    let s := updStall s x (fun d => { giveKey s key d with
      reloc := some { peer := peer, peerStall := stall, source := false, rate := 0, toCopy := [] } })
    rowSend (storeStall s x) peer (.reloc (.objAck Config.serial stall [] .ok none))
  else rowSend s peer (.reloc (.objAck Config.serial stall [] .refused none))

/-! ### Credentials (R506, R507) -/

/-- Kind of a credential slot. -/
def credCode : Option Cred → Nat
  | none => 0
  | some (.secret _) => 1
  | some (.cert _) => 2

/-- Put a value into a credential slot, or empty it: the stall's connections that authenticated through it are reset. -/
def changeCred (s : State) (x : StallNo) (k : Fin 8) (v : Option Cred) : State :=
  let s := updStall s x (fun d => { d with creds := match v with | some c => AMap.set d.creds k c | none => AMap.del d.creds k })
  let s := resetWhere (storeStall s x) (fun c => decide (c.stall = some x) && decide (c.slot = some k.val))
  logEv s .stallCredChanged { stall := some x.val, details := [(k.val : Int), (credCode v : Int)] }

/-- The drive answers `busy` while the stall is DRAINING (R516). -/
def whileDrained (s : State) (x : StallNo) (f : State → Run) : Run :=
  if (getStall s x).state = .draining then .say s .busy none else f s

/-- An `err` answer. -/
def errRun (s : State) (e : ErrName) : Run := .say s (.err e) none

/-! ### The mailbox on the warden's side (R521, R525) -/

/-- Write bytes into a 256-byte buffer at an offset; bytes beyond its end are not written. -/
def writeBuf (b : List Byte) (off : Nat) (bs : List Byte) : List Byte :=
  let b := b ++ List.replicate (256 - b.length) 0
  (b.take off ++ bs ++ b.drop (off + bs.length)).take 256

/-- Lines of bytes, 32 to a line. -/
def hexLines : Nat → List Byte → List (List (String × Val))
  | 0, _ => []
  | n + 1, bs => if bs.isEmpty then [] else [("hex", .bytes (bs.take 32))] :: hexLines n (bs.drop 32)

/-- A frozen or freezing stall refuses the mailbox (R526). -/
def mailboxShut (s : State) (x : StallNo) : Bool := match (getStall s x).state with | .freezing | .frozen => true | _ => false

end Sys2Proof.Machine
end

