-- ==== Sys2Proof/Machine/Media.lean ====
section
/-!
DEFINITION. The commands of the flash array, the metadata log, garbage collection, patrol, SHRED and health (ch. 13, 14).
-/

namespace Sys2Proof.Machine

open Sys2Proof

/-- Programs and reads of the array run: from S10 on, through an orderly halt's flush. -/
def arrayRuns (s : State) : Bool := bedWritable s

/-! ### Status words -/

/-- CORE.MEDIA.STATUS. -/
def mediaStatusWord (s : State) : Word64 :=
  let m := s.media
  packWord [(48, m.shelterA), (32, m.shelterB), (24, rebuildPct s), (16, m.lost.length), (8, (beds s .host).length),
    (2, b2n (m.bands.any (fun b => decide (b.2.state = .spill)))), (1, b2n (! (degradedBands s).isEmpty)), (0, b2n m.rebuild)]

/-- CORE.MEDIA.LOST.LO or .HI: bit 8 × c + t of a channel's die. -/
def mediaLostWord (s : State) (high : Bool) : Word64 :=
  packWord ((s.media.lost.filter (fun d => decide (8 ≤ d.1.val) == high)).map (fun d => (8 * (d.1.val % 8) + d.2.val, 1)))

/-- CORE.HEALTH.WEAR. -/
def healthWearWord (s : State) : Word64 :=
  packWord [(48, sat (ecountMax s) 65535), (32, sat (ecountAvg s) 65535), (16, sat (ecountMin s) 65535), (8, lifeUsed s)]

/-- CORE.HEALTH.BLOCKS. -/
def healthBlocksWord (s : State) : Word64 :=
  packWord [(48, sparesMfg), (32, sat (sparesLeft s) 65535), (16, s.upkeep.grownBad), (0, 0)]

/-- CORE.GC.STATUS. -/
def gcStatusWord (s : State) : Word64 :=
  packWord [(48, sat (freeBands s) 65535), (32, hostShare s), (16, patrolOldest s), (2, b2n s.upkeep.bg), (0, gcCode s.upkeep.gc)]

/-- CORE.HEALTH.TEMPn. -/
def healthTempWord (s : State) (n : Fin 14) : Word64 := packWord [(0, AMap.getD s.upkeep.temps n 0)]

/-- Code of a cause of a measurement of E. -/
def measCode : MeasCause → Nat | .start => 1 | .periodic => 2 | .command => 3 | .cellFault => 4

/-- CORE.HEALTH.HOLDUPn. -/
def healthHoldupWord (s : State) (n : Fin 64) : Word64 :=
  match s.upkeep.holdup[n.val]? with
  | some (t, c, e) => packWord [(24, t % 2 ^ 40), (20, measCode c), (0, sat e 65535)]
  | none => 0

/-! ### Programs and reads (R587, R588, R602, R629) -/

/-- The array takes programs: it runs, and writes are not gated by cold (R128, R129). -/
def programsRun (s : State) : Bool := arrayRuns s && ! coldNow s

/-- PACKED_PAGE_TIMEOUT (R129, R587). -/
def execPackedPageTimeout (stall : StallNo) (bin : Nat) (s : State) : Host.Outcome State Fault Refusal :=
  .next (if programsRun s then
      match AMap.find s.media.packs (stall, bin) with
      | some p => wakeWork (issuePack (advanceTo s (p.at_ + 10 * sec)) (stall, bin))
      | none => s
    else s)

/-- LOG_PROGRAM (R129, R602). -/
def execLogProgram (s : State) : Host.Outcome State Fault Refusal := .next (if programsRun s then wakeWork (issueLog s) else s)

/-- FLASH_PROGRAM_DONE (R112, R129, R142, R479, R602, R833): the `i`th program in flight, which must have started, completes;
what waited for it goes on, and a place is free for a dispatch. -/
def execFlashProgramDone (i : Nat) (s : State) : Host.Outcome State Fault Refusal :=
  .next (if arrayRuns s && dieRuns s (.prog i) then schedRun (settle (programDone s i)) else s)

/-- What a read of a data page finds is acted on: a page that fails, or lies on a lost die, is rebuilt from its stripe; with
a second page unreadable it is lost (R588, R612, R613). A page of a channel that is left out or under test is read from the
rest of its stripe and stays where it is (R811, R876). -/
def pageRead (s : State) (n i : Nat) (r : ReadOutcome) : State :=
  let b := bandOf s n
  match (b.pages.reverse)[i]? with
  | none => s
  | some p =>
    let dead : Bool := match pageChan n b i with
      | some (c, _) => (lostIn s (groupOf n)).contains c
      | none => false
    let shut : Option (Fin 16 × Nat) := (pageChan n b i).filter (fun x => chanShut s x.1)
    match r with
    | .stripeLost => pageLost s n b i p.recs
    | .uncorrectable => pageRebuilt s n i p
    | _ =>
      if dead then pageRebuilt s n i p
      else match shut with
        | some (c, st) =>
          ((membersAt b st).filter (fun d => decide (d ≠ c))).foldl (fun s d => addReads s (memberBlock n b d) 1) s
        | none => s

/-- The queued read of a logical page that has started; none when it waits. -/
def startedRead (s : State) (lpn : Nat) : Option Nat :=
  (activeOps s).findSome? (fun o => match o.work with
    | .read i => if (s.media.reads[i]?).any (fun x => decide (x.2 = lpn)) then some i else none
    | _ => none)

/-- FLASH_READ_DONE (R112, R588, R612, R629, R839): the read of a logical page completes. A read that waits in its channel's
queue has not begun; a read that no queue holds is one of a value header, which every lookup makes (R584). -/
def execFlashReadDone (lpn : Nat) (r : ReadOutcome) (s : State) : Host.Outcome State Fault Refusal :=
  .next (if arrayRuns s then
      match AMap.find s.media.map lpn with
      | none => s
      | some (n, i) =>
        match startedRead s lpn with
        | some j => schedRun (pageRead (readPage (updMedia s (fun m => { m with reads := dropNth m.reads j })) n i) n i r)
        | none =>
          if s.media.reads.any (fun x => decide (x.2 = lpn)) then s else pageRead (readPage s n i) n i r
    else s)

/-- Segments of the page map and of the key index, 64 MiB each (R581, R599, ch. 13 Key-index entry). -/
def ckptSegments (index : Bool) : Nat := if index then 128 else 96

/-- CHECKPOINT_SEGMENT (R599, R693): a segment is rewritten, its CKPT_SEG record staged, and the log trimmed. -/
def execCheckpointSegment (segment : Nat) (index : Bool) (s : State) : Host.Outcome State Fault Refusal :=
  .next (if arrayRuns s && decide (segment < ckptSegments index) && (bedOf s .meta_ false).isSome then
      let cap := s.media.lsn
      let s := putMeta s { kind := .checkpoint, pseq := 0, ltime := 0, lsn := cap } 4096
      let s := updMedia s (fun m => { m with
        segs := { no := segment, index := index, capture := cap, at_ := s.clock.ledger }
          :: m.segs.filter (fun x => ! (decide (x.no = segment) && decide (x.index = index))) })
      let s := if index then saveArcImage s else s
      let s := stageLog s (.ckptSeg segment index cap)
      let low := lowCapture s
      updMedia s (fun m => { m with log := m.log.filter (fun e => decide (low ≤ e.lsn)) })
    else s)

/-- BED_BIN_END (R592): the bin of a host bed ends. -/
def execBedBinEnd (band : Nat) (s : State) : Host.Outcome State Fault Refusal :=
  let b := bandOf s band
  .next (if arrayRuns s ∧ b.state = .open_ ∧ b.bed = some .host then closeBand (advanceTo s b.binEnd) band else s)

/-! ### Dies, rebuild, shelter (R611 to R616, R637) -/

/-- Retirements of a die within the last 24 h. -/
def retiredToday (s : State) (c : Fin 16) (t : Fin 8) : Nat :=
  ((AMap.getD s.upkeep.retires (c, t) []).filter (fun u => decide (now s < u + day))).length

/-- DIE_FAILED (R613, R637): 64 retirements in 24 h are the model's to count, a failed reset and a wrong identity the
die's to show. -/
def execDieFailed (channel : Fin 16) (target : Fin 8) (cause : DieCause) (s : State) : Host.Outcome State Fault Refusal :=
  .next (if svcRuns s ∧ (cause ≠ .blocksRetired ∨ 64 ≤ retiredToday s channel target) then loseDie s channel target else s)

/-- REBUILD_BAND (R613, R615). -/
def execRebuildBand (s : State) : Host.Outcome State Fault Refusal := .next (rebuildStep s)

/-- The FREE band that becomes a shelter: all 16 members, the lowest mean wear, in a lane group of its own (R604, R611,
R627). -/
def shelterPick (s : State) (keep : Nat) : Option Nat :=
  let ts := (List.finRange 8).filter (fun t => decide (t ≠ groupOf keep) && decide (t ≠ groupOf s.media.spillBand))
  pickBand s false ((ts.flatMap (freeCandidates s)).filter (fun n => (bandOf s n).absent.isEmpty))

/-- SHELTER_MOVED (R611): a shelter band's member has failed; another band is designated, and write-through runs until it
is erased and ready. -/
def execShelterMoved (second : Bool) (s : State) : Host.Outcome State Fault Refusal :=
  .next (if svcRuns s then
      let old := if second then s.media.shelterB else s.media.shelterA
      let keep := if second then s.media.shelterA else s.media.shelterB
      let s := updMedia s (fun m => { m with shelterWt := true })
      match shelterPick s keep with
      | none => s
      | some n =>
        let s := updMedia s (fun m => if second then { m with shelterB := n } else { m with shelterA := n })
        let s := stageLog (updBand s old (fun b => { b with state := .closed })) (.band old)
        let s := stageLog (updBand s n (fun b => { b with state := .shelter, pslc := true, pages := [], presence := [] })) (.band n)
        gcRefresh (logEv (startErase s n .shelter 0) .shelterMoved { details := [(old : Int), (n : Int)] })
    else s)

/-- The lost dies as `media show` and `health show` report them. -/
def lostDies (s : State) : List (List (String × Val)) :=
  s.media.lost.map (fun d => [("channel", vn d.1.val), ("target", vn d.2.val)])

/-- The fields of an attribute's word, as an answer names them. -/
def fieldLine (a : Attr) (w : Word64) : List (String × Val) := (attrFields a).map (fun f => (f.name, vn (fieldGet f w)))

/-- The answer of MEDIA_SHOW (R613, R614). -/
def mediaShowAnswer (s : State) : Reply :=
  .ok ((fieldLine .mediaStatus (mediaStatusWord s) ++ [("capacity", vn (userCapacity s)), ("free_bands", vn (freeBands s))])
    :: lostDies s)

/-- MEDIA_SHOW (R613, R614). -/
def execMediaShow (l : Line) (s : State) : Host.Outcome State Fault Refusal :=
  .next (showCmd s l {} none mediaShowAnswer)

/-- Code of a band state. -/
def bandCode : BandState → Nat
  | .free => 0 | .open_ => 1 | .full => 2 | .closed => 3 | .shelter => 4 | .spill => 5 | .donor => 6

/-- The answer of BAND_SHOW (R580). -/
def bandShowAnswer (band : Int) (s : State) : Reply :=
  let n := band.toNat
  let b := bandOf s n
  let ps := b.pages.map (fun p => p.pseq)
  .ok ([("band", vn n), ("state", vn (bandCode b.state)), ("DEGRADED", vb b.degraded), ("SHRED_PENDING", vb b.shredPending),
      ("group", vn (groupOf n).val), ("bin", vn b.bin), ("stripes", vn (nextStripe b)), ("pseq_first", vn (firstPseq b)),
      ("pseq_last", vn (listMax ps))]
    :: (memberBlocks n b).map (fun k => [("channel", vn k.channel.val), ("block", vn k.block.val),
        ("substituted", vb (b.subst.any (fun x => decide (x.1 = k.channel))))]))

/-- BAND_SHOW (R580). -/
def execBandShow (l : Line) (band : Int) (s : State) : Host.Outcome State Fault Refusal :=
  .next (showCmd s l {} (rangeErr band 0 65535) (bandShowAnswer band))

/-! ### Garbage collection and erases (R622 to R628, R635, R638) -/

/-- Background work takes its next step, once room or time lets it: GC, marked bands, a stalled rebuild. -/
def background (s : State) : State :=
  let s := shredStep (gcStep s)
  if s.media.stalled then rebuildStep s else s

/-- GC_LOAD_WINDOW (R623): a window of 1 s ends with a host load in per cent. -/
def execGcLoadWindow (hostLoad : Nat) (s : State) : Host.Outcome State Fault Refusal :=
  .next (if upkeepRuns s then
      let n := if hostLoad < 20 then s.upkeep.lowWindows + 1 else 0
      let bg := decide (hostLoad < 20) && decide (freeBands s < 256) && (s.upkeep.bg || decide (5 ≤ n))
      background (updUpkeep s (fun u => { u with lowWindows := Nat.min n 5, bg := bg }))
    else s)

/-- GC_RECLAIM_TIMER (R623): below 256 FREE bands, one band without live bytes is reclaimed. -/
def execGcReclaimTimer (s : State) : Host.Outcome State Fault Refusal :=
  .next (if gcRuns s && decide (freeBands s < 256) then
      match emptyVictim s with
      | some n => (emptyBand s n .gc false false).getD s
      | none => s
    else s)

/-- The erase of a band is complete: every member has reported, or lies on a die lost meanwhile. -/
def eraseOver (s : State) (v : Victim) : Bool := v.left.all (fun k => s.media.lost.contains (k.channel, k.target))

/-- The band becomes FREE: flags, pages and mark cleared, failing members retired and replaced, its BAND record programmed
(R580, R622, R635, R644). -/
def freeBand (s : State) (n : Nat) : State :=
  let s := mendBand s n
  let s := updBand s n (fun b => { b with
    state := .free, degraded := false, shredPending := false, bed := none, bin := 0, binEnd := 0, pages := [], narrow := []
    presence := [], pslc := false, since := 0, absent := b.absent.filter (fun c => ! b.away.contains c), away := [] })
  syncLog (stageLog (donorBand s n) (.band n))

/-- What a freed band gives: MATCHED credit, SHRED_BANDS, the SHRED work it served (R624, R644, R645). -/
def creditBand (s : State) (v : Victim) (capacity : Nat) : State :=
  let s := if s.upkeep.gc = .matched ∧ (v.purpose = .gc ∨ v.purpose = .wear) then
      updUpkeep s (fun u => { u with credit := Nat.min 503316480 (u.credit + (capacity - v.copied)) })
    else s
  let s := if v.purpose = .shred ∨ v.purpose = .key then addHealth s .shredBands 1 else s
  updUpkeep s (fun u => { u with shreds := u.shreds.map (fun j => { j with bands := j.bands.filter (fun n => decide (n ≠ v.band)) }) })

/-- GC_BAND_FREED (R622, R624, R625): a band's erases are complete. -/
def execGcBandFreed (band : Nat) (s : State) : Host.Outcome State Fault Refusal :=
  .next (match s.upkeep.victims.find? (fun v => decide (v.band = band)) with
    | none => s
    | some v =>
      if arrayRuns s && eraseOver s v then
        let s := updUpkeep s (fun u => { u with victims := u.victims.filter (fun x => decide (x.band ≠ band)) })
        if v.purpose = .shelter ∧ (bandOf s band).state = .shelter then
          updMedia s (fun m => { m with shelterWt := false })
        else
          let capacity := bandCapacity (bandOf s band)
          let s := creditBand (freeBand s band) v capacity
          rerun (background (lifeCheck (gcRefresh s))) .waitCredit
      else s)

/-- ERASE_DONE (R142, R147, R635, R638, R654): a member's erase, which must have started, reports. -/
def execEraseDone (b : BlockId) (ok : Bool) (s : State) : Host.Outcome State Fault Refusal :=
  .next (match s.upkeep.victims.find? (fun v => v.left.contains b) with
    | none => s
    | some v =>
      if svcRuns s && dieRuns s (.erase b) then
        let s := updUpkeep s (fun u => { u with victims := u.victims.map (fun x =>
          if x.band = v.band then { x with left := x.left.filter (fun k => decide (k ≠ b)) } else x) })
        let s := eraseRec (blockErased s b) b (if ok then .done else .failed) v.purpose
        lifeCheck (if ok then s else retireBlock s b .eraseFail)
      else s)

/-- PROGRAM_FAIL (R635): the page is programmed again in the bed's next stripe, the band goes on without the member, and
the block retires with its band's erase. A band that would lack two members takes no more pages (R578, R579). -/
def execProgramFail (i : Nat) (b : BlockId) (s : State) : Host.Outcome State Fault Refusal :=
  let n := bandOfBlock s b
  let d := bandOf s n
  .next (if arrayRuns s ∧ dieRuns s (.prog i) ∧ d.state = .open_ ∧ (memberBlocks n d).contains b
        ∧ ¬ d.narrow.any (fun x => decide (x.1 = b.channel)) then
      let s := updMedia s (fun m => { m with pseq := m.pseq + 1 })
      let s := updBlock s b (fun k => { k with failing := some .programFail })
      if d.absent.isEmpty ∧ d.narrow.isEmpty then
        stageLog (updBand s n (fun d => { d with narrow := [(b.channel, nextStripe d)] })) (.band n)
      else closeBand s n
    else s)

/-- WEAR_LEVEL_MOVE (R628): at most hourly, and only in NORMAL, the FULL band of the lowest mean ECOUNT, more than 400 below
the highest block, is copied into GC bed 0. -/
def execWearLevelMove (s : State) : Host.Outcome State Fault Refusal :=
  let due : Bool := match s.upkeep.wearAt with | some t => decide (t + hour ≤ now s) | none => true
  .next (if restRuns s && due && decide (s.upkeep.gc = .normal) then
      let full := (s.media.bands.filter (fun x => decide (x.2.state = .full) && ! erasing s x.1)).map (fun x => x.1)
      match pickBand s false (full.filter (fun n => decide (meanWear s n + 400 * 240 < 240 * ecountMax s))) with
      | none => s
      | some n =>
        match emptyBand s n .wear true false with
        | none => s
        | some s => logEv (updUpkeep s (fun u => { u with wearAt := some s.clock.ledger })) .wearLevelMove { details := [(n : Int)] }
    else s)

/-! ### Refresh and patrol (R630 to R634) -/

/-- BLOCK_REFRESHED (R630): the block at the head of the queue has its mapped pages copied. -/
def execBlockRefreshed (s : State) : Host.Outcome State Fault Refusal :=
  .next (match s.upkeep.refresh with
    | [] => s
    | k :: rest =>
      if restRuns s then
        let n := bandOfBlock s k
        let reads := (getBlock s k).reads
        match copyPages false false n (pagesOnChan n (bandOf s n) k.channel) s with
        | none => s
        | some s => logEv (updUpkeep s (fun u => { u with refresh := rest })) .blockRefreshed
            { details := [(ppnOf k 0 : Int), (reads : Int)] }
      else s)

/-- Queue a block for refresh. -/
def queueRefresh (s : State) (k : BlockId) : State :=
  if s.upkeep.refresh.contains k then s else updUpkeep s (fun u => { u with refresh := u.refresh ++ [k] })

/-- The data page of a band at a channel and stripe, by its index. -/
def pageAt (n : Nat) (b : Band) (c : Fin 16) (p : Nat) : Option Nat :=
  ((pagesOf b).find? (fun x => match pageChan n b x.2 with | some (d, q) => decide (d = c) && decide (q = p) | none => false)).map
    (fun x => x.2)

/-- Programmed pages of a band's member that patrol reads: its data pages but for PAD pages, and the parity pages of the stripes that
are complete (R632). -/
def patrolPages (n : Nat) (b : Band) (c : Fin 16) : Nat :=
  ((pagesOnChan n b c).filter (fun x => decide (x.1.kind ≠ .pad))).length
    + ((List.range (pagePlace b b.pages.length).1).filter (fun p => decide (parityChan n b p = some c))).length

/-- A block is past 30 days since its last patrol. -/
def patrolOverdue (s : State) (b : Band) (k : BlockId) : Bool := decide (patrolFrom s b k + 30 * day < now s)

/-- A block may be patrolled now: one past 30 days comes before any other (R634). -/
def patrolTurn (s : State) (b : Band) (k : BlockId) : Bool :=
  patrolOverdue s b k || ! (patrolTimes s).any (fun x => decide (x.2 + 30 * day < now s))

/-- PATROL_READ (R147, R629, R632, R633, R634): patrol reads every programmed page of a block; the outcome and the corrected bits are
those of the worst page, at a stripe. -/
def execPatrolRead (b : BlockId) (stripe : Nat) (r : ReadOutcome) (bits : Nat) (s : State) : Host.Outcome State Fault Refusal :=
  let n := bandOfBlock s b
  let d := bandOf s n
  .next (if restRuns s && islUp s (.media b.channel) && patrolled d && (memberBlocks n d).contains b && patrolTurn s d b then
      let s := patrolLateCheck (wakeIsl s (.media b.channel))
      let s := addReads (updBlock s b (fun k => { k with patrolLast := s.clock.ledger })) b (patrolPages n d b.channel)
      let s := match r, pageAt n d b.channel stripe with
        | .uncorrectable, some i => pageRead s n i r
        | .stripeLost, some i => pageRead s n i r
        | _, _ => s
      if r ≠ .good ∨ 48 < bits then
        logEv (queueRefresh s b) .patrolRelocate { details := [(ppnOf b 0 : Int), (bits : Int)] }
      else s
    else s)

/-! ### SHRED (R645 to R648) -/

/-- SHRED_SCAN (R645 steps 2 to 5): every band that holds a copy is marked, copied out and erased. -/
def execShredScan (ticket : Nat) (s : State) : Host.Outcome State Fault Refusal :=
  .next (match s.upkeep.shreds.find? (fun j => decide (j.ticket = some ticket)) with
    | none => s
    | some j =>
      if restRuns s && ! j.scanned then
        let seen := s.media.bands.filter (fun b => (match b.2.state with | .open_ | .full | .closed => true | _ => false)
          && b.2.presence.contains j.stall)
        let hit := copyBands s j.stall j.keys
        let lost := hit.any (fun b => copyLost s j.keys b.1 b.2)
        let s := seen.foldl (fun s b => (List.range b.2.pages.length).foldl (fun s i => readPage s b.1 i) s) s
        let s := hit.foldl (fun s b => markShred s b.1) s
        let ns := hit.map (fun b => b.1)
        shredStep (updUpkeep s (fun u => { u with shreds := u.shreds.map (fun x =>
          if x.ticket = some ticket then { x with scanned := true, bands := x.bands ++ ns, lostCopy := x.lostCopy || lost } else x) }))
      else s)

/-- SHRED_DONE (R645 step 6, R647): no band of the work is left, and no flush waits for its replay. -/
def execShredDone (ticket : Nat) (s : State) : Host.Outcome State Fault Refusal :=
  .next (match s.upkeep.shreds.find? (fun j => decide (j.ticket = some ticket)) with
    | none => s
    | some j =>
      if j.scanned ∧ j.bands.all (fun n => ! (bandOf s n).shredPending) ∧ s.media.image.isNone then
        let s := updUpkeep s (fun u => { u with shreds := u.shreds.filter (fun x => decide (x.ticket ≠ some ticket)) })
        match AMap.find s.kv.tickets ticket with
        | none => s
        | some t =>
          if j.lostCopy then endTicket s ticket .failed 0x1303
          else charge (endTicket s ticket .shredded 0) j.stall .shredded t.summary.2.1
      else s)

/-! ### Health (R650 to R652) -/

/-- The TEMP bin of a reading in 0.1 °C (R651). -/
def tempBin (t : Int) : Fin 14 :=
  if t < -300 then 0 else if 900 ≤ t then 13 else Fin.ofNat 14 ((t + 400) / 100).toNat

/-- HEALTH_TEMP_TICK (R651, R634): a minute has passed. -/
def execHealthTempTick (s : State) : Host.Outcome State Fault Refusal :=
  .next (if powered s then
      let n := tempBin s.power.flashMax
      let s := updUpkeep s (fun u => { u with temps := AMap.set u.temps n (sat (AMap.getD u.temps n 0 + 1) 0xFFFFFFFF) })
      if arrayRuns s then patrolLateCheck s else s
    else s)

/-- The answer of HEALTH_SHOW (R650). -/
def healthShowAnswer (s : State) : Reply :=
  .ok ([fieldLine .healthWear (healthWearWord s),
      fieldLine .healthBlocks (healthBlocksWord s) ++ [("spare_bands", vn (sparesLeft s / 16))],
      fieldLine .gcStatus (gcStatusWord s)]
    ++ healthCtrs.map (fun c => [("counter", vn (indexIn c healthCtrs)), ("value", vn (AMap.getD s.upkeep.ctrs c 0))])
    ++ lostDies s)

/-- HEALTH_SHOW (R650). -/
def execHealthShow (l : Line) (s : State) : Host.Outcome State Fault Refusal :=
  .next (showCmd s l {} none healthShowAnswer)

/-- The answer of HEALTH_TEMP (R651). -/
def healthTempAnswer (s : State) : Reply :=
  .ok ((List.finRange 14).map (fun n => [("bin", vn n.val), ("tenths", vn (AMap.getD s.upkeep.temps n 0 / 6))]))

/-- HEALTH_TEMP (R651): each bin in tenths of an hour. -/
def execHealthTemp (l : Line) (s : State) : Host.Outcome State Fault Refusal :=
  .next (showCmd s l {} none healthTempAnswer)

/-- The answer of HEALTH_HOLDUP (R652). -/
def healthHoldupAnswer (count : Option Int) (s : State) : Reply :=
  .ok ((s.upkeep.holdup.take (count.getD 16).toNat).map (fun h =>
    [("ltime", vn h.1), ("cause", vn (measCode h.2.1)), ("e", vn h.2.2)]))

/-- HEALTH_HOLDUP (R652): the newest entries, 16 unless told otherwise. -/
def execHealthHoldup (l : Line) (count : Option Int) (s : State) : Host.Outcome State Fault Refusal :=
  .next (showCmd s l {} (rangeErr (count.getD 16) 1 64) (healthHoldupAnswer count))

end Sys2Proof.Machine
end

