-- ==== Sys2Proof/Machine/Arcade.lean ====
section
/-!
DEFINITION. The commands of the Arcade (ch. 15) but for the grant, which is a commit.
-/

namespace Sys2Proof.Machine

open Sys2Proof

/-- Valid entries of a bank. -/
def bankEntries (s : State) (b : Fin 16) : Nat :=
  (s.arc.entries.filter (fun e => decide (bankOfPos e.1 = b))).length + (s.arc.dir.filter (fun e => decide (bankOfPos e.1 = b))).length

/-- ARC.STATUS. -/
def arcStatusWord (s : State) : Word64 :=
  packWord [(55, sat s.arc.queue.length 256), (50, sat s.arc.cursors.length 16),
    (0, sat ((now s - s.arc.scrubAt) / sec) 0xFFFFFFFF)]

/-- ARC.BANKb.STATUS. -/
def arcBankStatusWord (s : State) (b : Fin 16) : Word64 :=
  packWord [(48, bankEntries s b), (32, b2n (s.arc.rebuilding.contains b)), (16, sat (AMap.getD s.arc.falseHits b 0) 65535),
    (0, sat (AMap.getD s.arc.scrubFixes b 0) 65535)]

/-! ### Verify after match (R676 to R678) -/

/-- The key of a handle of a stall. -/
def keyOfHandle (s : State) (x : StallNo) (h : Nat) : Option ObjKey :=
  (s.arc.handles.find? (fun k => decide (k.1.stall = x) && decide (k.2 = h))).map (fun k => k.1)

/-- A check copy or record is beyond correction: the entry is lost, and a tenant object's entries are written again
(R678, R679). -/
def entryLost (s : State) (pos : Nat) : State :=
  match AMap.find s.arc.entries pos with
  | none => s
  | some e =>
    let s := countArc (clearAt s pos) .entriesLost 1
    let s := logEv s .arcEntryLost
      { stall := some (if e.drive then 0xFF else e.owner.val)
        details := [((bankOfPos pos).val : Int), (pos : Int), (e.result : Int)] }
    if e.drive then s
    else match keyOfHandle s e.owner e.result with
      | some k => restoreEntries (updArc s (fun a => { a with lost := if a.lost.contains k then a.lost else k :: a.lost })) k
      | none => s

/-- Every entry of a key's tags stands in the arrays. -/
def entriesWhole (s : State) (k : ObjKey) : Bool :=
  match objOf s k, AMap.find s.arc.handles k with
  | some o, some h => (List.range (entryCount o.tags.length (stallWidth s k.stall))).all (fun p => (findEntry s k.stall h p).isSome)
  | some o, none => o.tags.isEmpty
  | none, _ => true

/-- Keys whose entries stand again are lost no more (R679). -/
def mendLost (s : State) : State := updArc s (fun a => { a with lost := a.lost.filter (fun k => ! entriesWhole s k) })

/-- What the verification of the hits finds. -/
def verifyHits (s : State) (found : List (Nat × ArcCheck)) : State :=
  found.foldl (fun s x => match x.2 with
    | .agree => s
    | .disagree => falseHit s x.1
    | .uncorrectable => entryLost s x.1) s

/-! ### Searches (R667 to R669) -/

/-- The result of a search over what it finds. -/
def resultOf (hits : List (Nat × ArcEntry)) (first : Option Nat) (c : Option (Fin 16)) : ArcResult :=
  { first := first, multi := decide (1 < hits.length), count := sat hits.length 255, cursor := c }

/-- The lowest free cursor. -/
def freeCursor (s : State) : Option (Fin 16) := (List.finRange 16).find? (fun c => (AMap.find s.arc.cursors c).isNone)

/-- A stepped search begins on a cursor, which it holds from its first result on. -/
def beginStepped (s : State) (sp : ArcSpec) (c : Fin 16) : State :=
  let hits := arcFound s sp
  match hits with
  | [] => updArc s (fun a => { a with result := some (resultOf hits none none) })
  | x :: _ => updArc s (fun a => { a with
      cursors := AMap.set a.cursors c { spec := sp, pos := some x.1, seen := [identOf x.2] }
      result := some (resultOf hits (some x.1) (some c)) })

/-- Matching entries after a cursor in its order, not yet reported (R668 to R670). -/
def afterCursor (s : State) (c : ArcCursor) : List (Nat × ArcEntry) :=
  let ok (x : Nat × ArcEntry) : Bool :=
    ! c.seen.contains (identOf x.2) && (match c.pos with
      | none => true
      | some p =>
        match c.spec.mode, AMap.find s.arc.entries p with
        | .position, _ => decide (p < x.1)
        | .explicit, some e => arcBefore .explicit (p, e) x
        | .explicit, none => true)
  (arcHits s c.spec).filter ok

/-- A step of a cursor. -/
def stepCursor (s : State) (c : Fin 16) : State :=
  match AMap.find s.arc.cursors c with
  | none => s
  | some d =>
    let s := countArc s .steps 1
    match afterCursor s d with
    | [] => updArc s (fun a => { a with result := some (resultOf (arcFound s d.spec) none (some c)) })
    | x :: _ => updArc s (fun a => { a with
        cursors := AMap.set a.cursors c { d with pos := some x.1, seen := identOf x.2 :: d.seen }
        result := some (resultOf (arcFound s d.spec) (some x.1) (some c)) })

/-- ARC_SEARCH (R667 to R669, R676): `found` is what the verification of each hit finds. -/
def execArcSearch (req : ArcReq) (found : List (Nat × ArcCheck)) (s : State) : Host.Outcome State Fault Refusal :=
  .next (if arcUp s then
      let s := verifyHits (wakeIsl s .arc) found
      match req with
      | .immediate sp =>
        let hits := arcFound s sp
        updArc (countArc s .searches 1) (fun a => { a with result := some (resultOf hits (hits.head?.map (fun x => x.1)) none) })
      | .stepped sp =>
        let s := countArc s .searches 1
        match freeCursor s with
        | some c => beginStepped s sp c
        | none => updArc s (fun a => { a with waiting := a.waiting ++ [sp] })
      | .step c => stepCursor s c
    else s)

/-- ARC_CURSOR_FREE (R669): a waiting stepped search takes the cursor. -/
def execArcCursorFree (cursor : Fin 16) (s : State) : Host.Outcome State Fault Refusal :=
  .next (if arcUp s ∧ (AMap.find s.arc.cursors cursor).isSome then
      let s := updArc s (fun a => { a with cursors := AMap.del a.cursors cursor })
      match s.arc.waiting with
      | [] => s
      | sp :: rest => beginStepped (updArc s (fun a => { a with waiting := rest })) sp cursor
    else s)

/-! ### The command queue (R670 to R674, R687, R688) -/

/-- After a command of the queue: the operation it served goes on once its entry writes are done; an insertion without a
hole ends it with QUOTA, TAG_ENTRIES. -/
def afterCmd (s : State) (c : ArcCmd) (noHole : Bool) : State :=
  match cmdOp c with
  | none => mendLost s
  | some id =>
    match getOp s id with
    | none => s
    | some o =>
      if noHole then settle (answerOp (freeLocks (undoEntries s id o) id) id (fail .quota 0x1003))
      else if arcWaits s id then s
      else settle (updOp s id (fun o => { o with arcDone := true }))

/-- One entry operation of the command at the head of the queue, when it is of the kind asked for; a command that has ended leaves
the queue (R670). -/
def runQueueHead (s : State) (want : ArcCmd → Bool) : State :=
  match s.arc.queue with
  | [] => s
  | c :: _ =>
    if want c then
      match headOp (wakeIsl s .arc) c with
      | (s, none) => s
      | (s, some noHole) => afterCmd (popArc s) c noHole
    else s

/-- A command that clears an entry. -/
def isInvalidate : ArcCmd → Bool
  | .invalidate _ _ _ => true
  | _ => false

/-- ARC_INSERT (R670, R671, R673, R687): the entry write at the head of the queue runs its next entry operation. -/
def execArcInsert (s : State) : Host.Outcome State Fault Refusal :=
  .next (if arcUp s then runQueueHead s (fun c => ! isInvalidate c) else s)

/-- ARC_INVALIDATE (R674): the invalidation at the head of the queue runs. -/
def execArcInvalidate (s : State) : Host.Outcome State Fault Refusal :=
  .next (if arcUp s then runQueueHead s isInvalidate else s)

/-! ### Scrub and rebuild (R680, R681, R694) -/

/-- ARC_SCRUB_PASS (R681): a pass starts. -/
def execArcScrubPass (s : State) : Host.Outcome State Fault Refusal :=
  .next (if arcUp s ∧ s.arc.scrub.isNone then updArc (wakeIsl s .arc) (fun a => { a with scrub := some 0 }) else s)

/-- The entry that occupies a unit (R660). -/
def entryAtUnit (s : State) (u : Nat) : Option Nat :=
  (s.arc.entries.find? (fun e => decide (e.1 ≤ u) && decide (u < e.1 + e.2.units.length))).map (fun e => e.1)

/-- A unit that disagreed is rewritten from its check copy (R680). -/
def scrubFix (s : State) (u : Nat) : State :=
  let b := bankOfPos u
  let s := countArc (updArc s (fun a => { a with
    scrubFixes := AMap.set a.scrubFixes b (sat (AMap.getD a.scrubFixes b 0 + 1) 65535) })) .scrubFixes 1
  if since s s.arc.fixAt (60 * sec) then
    logEv (updArc s (fun a => { a with fixAt := some s.clock.ledger })) .arcScrubFix
      { details := [((AMap.getD s.arc.stat .scrubFixes 0 : Nat) : Int)] }
  else s

/-- ARC_SCRUB_UNIT (R680, R681): the next unit of the pass is compared. -/
def execArcScrubUnit (found : ArcCheck) (s : State) : Host.Outcome State Fault Refusal :=
  .next (match s.arc.scrub with
    | none => s
    | some u =>
      if arcUp s then
        let s := match found with
          | .agree => s
          | .disagree => scrubFix s u
          | .uncorrectable => match entryAtUnit s u with | some p => entryLost s p | none => s
        if u + 1 < 131072 then updArc s (fun a => { a with scrub := some (u + 1) })
        else updArc s (fun a => { a with scrub := none, scrubAt := s.clock.ledger })
      else s)

/-- Write the entries of an object's tags at once. -/
def rewriteKey (s : State) (k : ObjKey) (o : Obj) : State :=
  if o.tags.isEmpty then s
  else
    let (h, s) := handleOf s k
    (planEntries s s none k h o.tags).foldl (fun s c => (runArcCmd s c).1) s

/-- ARC_REBUILD (R694): the entries of every stall with quarters in a bank are written from its objects. -/
def execArcRebuild (bank : Fin 16) (s : State) : Host.Outcome State Fault Refusal :=
  .next (if arcUp s && s.arc.rebuilding.contains bank && ready s then
      let xs := (List.finRange 128).filter (fun x => (stallBanks s x).contains bank)
      let s := xs.foldl (fun s x => (stallObjs s x).foldl (fun s o => rewriteKey s o.1 o.2) s) (wakeIsl s .arc)
      logEv (updArc s (fun a => { a with rebuilding := a.rebuilding.filter (fun b => decide (b ≠ bank)) })) .arcRebuildDone
        { details := [(bank.val : Int)] }
    else s)

/-! ### The console -/

/-- A quarter as an answer reports it. -/
def quarterLine (s : State) (b : Fin 16) (q : Nat) : List (String × Val) :=
  let lo := b.val * 8192 + q * 2048
  [("quarter", vn q), ("stall", match quarterStall (cfgWord s (.arcBankCfg b)) q with | some x => vn x.val | none => .name "none"),
    ("entries", vn (s.arc.entries.filter (fun e => decide (lo ≤ e.1) && decide (e.1 < lo + 2048))).length)]

/-- The answer of ARCADE_SHOW (R668). -/
def arcadeShowAnswer (s : State) : Reply :=
  .ok ([fieldLine .arcStatus (arcStatusWord s)]
    ++ arcCtrs.map (fun c => [("counter", vn (indexIn c arcCtrs)), ("value", vn (AMap.getD s.arc.stat c 0))])
    ++ (List.finRange 16).map (fun b => [("bank", vn b.val)] ++ fieldLine (.arcBankCfg b) (cfgWord s (.arcBankCfg b))
        ++ fieldLine (.arcBankStatus b) (arcBankStatusWord s b)))

/-- ARCADE_SHOW (R668). -/
def execArcadeShow (l : Line) (s : State) : Host.Outcome State Fault Refusal :=
  .next (showCmd s l {} none arcadeShowAnswer)

/-- The answer of ARCADE_BANK_SHOW (R682). -/
def arcadeBankShowAnswer (bank : Int) (s : State) : Reply :=
  let b : Fin 16 := Fin.ofNat 16 bank.toNat
  .ok (([("bank", vn b.val)] ++ fieldLine (.arcBankCfg b) (cfgWord s (.arcBankCfg b))
      ++ fieldLine (.arcBankStatus b) (arcBankStatusWord s b)) :: (List.range 4).map (quarterLine s b))

/-- ARCADE_BANK_SHOW (R682). -/
def execArcadeBankShow (l : Line) (bank : Int) (s : State) : Host.Outcome State Fault Refusal :=
  .next (showCmd s l {} (rangeErr bank 0 15) (arcadeBankShowAnswer bank))

end Sys2Proof.Machine
end

