-- ==== Sys2Proof/Machine/RowOps.lean ====
section
/-!
DEFINITION. The row of drives (ch. 16): the drive's view of the membership and the epoch, beacons, the receipt of row
messages and their ACKs, the mirror queue and its mark.
-/

namespace Sys2Proof.Machine

open Sys2Proof

/-! ### Order and neighbours (R713) -/

/-- Order keys: POSITION, then SERIAL. -/
def orderLt (a b : Nat × Nat) : Bool := decide (a.1 < b.1) || (decide (a.1 = b.1) && decide (a.2 < b.2))

/-- A member's order key. -/
def memKey (m : Member) : Nat × Nat := (m.position, m.serial)

/-- Members in ascending order key. -/
def sortMembers (ms : List Member) : List Member := sortBy (fun a b => orderLt (memKey a) (memKey b)) ms

/-- The drive's configured POSITION. -/
def ownPos (s : State) : Nat := cfgField s .rowCfg "POSITION"

/-- The drive as a member of its own view. -/
def ownMember (s : State) : Member := { serial := Config.serial, position := ownPos s, state := hbCode s, at_ := now s }

/-- A row ID is set. -/
def rowOn (s : State) : Bool := decide (cfgField s .rowCfg "ROW_ID" ≠ 0)

/-- Row traffic runs: the drive serves, or drains before a halt. -/
def rowRuns (s : State) : Bool := match s.phase with | .starting | .ready | .draining _ => true | _ => false

/-- The neighbour (R713); none in a row of one. -/
def neighbourOf (s : State) : Option Nat := successorOf s Config.serial

/-- The neighbour the drive mirrors to: none when MIRROR or ROW_ID is 0. -/
def mirrorPeer (s : State) : Option Nat :=
  if cfgField s .rowCfg "MIRROR" = 1 ∧ rowOn s then neighbourOf s else none

/-! ### The mirror's state (R730, R731, R732, R737) -/

/-- The WSEQ an entry's ACK is missing for; a refused one counts as answered (R730). -/
def owedWseq (e : MirrorEntry) : Option Nat :=
  match e.item with
  | .put _ w => if e.refused then none else some w
  | _ => none

/-- Every entry not yet done. -/
def mirrorEntries (s : State) : List MirrorEntry :=
  s.row.queue ++ s.row.retry.map (fun e => e.2) ++ s.row.sending.map (fun e => e.2)

/-- Advance the mark, and enter CURRENT once the catch-up has covered every stall and no entry is left (R730, R732). -/
def mirrorSettle (s : State) : State :=
  if s.row.mirror = .idle ∨ (s.row.mirror = .lagging ∧ s.row.catchup < 128) then s
  else
    let owed := (mirrorEntries s).filterMap owedWseq
    let top := match owed with | [] => s.row.highest | w :: ws => ws.foldl Nat.min w - 1
    let s := updRow s (fun d => { d with mark := Nat.max d.mark top })
    if s.row.mirror = .lagging ∧ (mirrorEntries s).isEmpty then
      logEv (updRow s (fun d => { d with mirror := .current })) .mirrorCurrent { details := [(s.row.mark : Int)] }
    else s

/-- A message of the mirror. -/
def isMirrorMsg : RowBody → Bool
  | .mirrorPut _ | .mirrorUpdate _ _ _ | .mirrorRemove _ _ _ => true
  | _ => false

/-- The mirror after a change of the view or of its configuration (R731, R737): entries without an ACK stay queued for a new
neighbour. -/
def refreshMirror (old s : State) : State :=
  let a := mirrorPeer old
  let b := mirrorPeer s
  if a = b ∧ (b = none ∨ s.row.mirror ≠ .idle) then s
  else
    let kept := (s.row.sending.map (fun e => e.2)).filter (fun e => ! e.caught)
    let s := updRow s (fun d => { d with
      queue := if a.isSome then kept else d.queue
      retry := [], sending := [], catchup := 0
      unacked := d.unacked.filter (fun u => ! isMirrorMsg u.msg.body)
      waiting := d.waiting.filter (fun m => ! isMirrorMsg m.body) })
    match b with
    | none => updRow s (fun d => { d with mirror := .idle })
    | some n =>
      let s := updRow s (fun d => if d.markSerial = n then { d with mirror := .lagging }
        else { d with mirror := .lagging, mark := 0, markSerial := n })
      logEv s .mirrorLagging { reason := 2, details := [(s.row.mark : Int)] }

/-! ### The view (R705 to R711, R723, R735, R736) -/

/-- A search after a change of the view: members that left are REMOVED, drives that came are listed as ADDED. -/
def searchAfter (gone come : List Nat) (x : RowSearch) : RowSearch :=
  let ms := x.members.map (fun m => if gone.contains m.1 ∧ m.2.1 ≠ .added then (m.1, .removed, m.2.2) else m)
  let new_ := come.filter (fun c => ! x.members.any (fun m => decide (m.1 = c)))
  { x with members := ms ++ new_.map (fun c => (c, .added, [])) }

/-- Serve the next row searches that wait, four at most at once (R720). -/
def serveNext (s : State) : State :=
  updRow s (fun d => { d with served := d.served ++ d.servedWait.take (4 - d.served.length)
                              servedWait := d.servedWait.drop (4 - d.served.length) })

/-- Take a new view: searches, served searches, and the mirror follow it. -/
def setView (s : State) (ms : List Member) : State :=
  let before := s.row.members.map (fun m => m.serial)
  let after := ms.map (fun m => m.serial)
  let gone := before.filter (fun x => ! after.contains x && decide (x ≠ Config.serial))
  let come := after.filter (fun x => ! before.contains x && decide (x ≠ Config.serial))
  let t := updRow s (fun d => { d with
    members := ms
    searches := d.searches.map (searchAfter gone come)
    served := d.served.filter (fun v => ! gone.contains v.peer)
    servedWait := d.servedWait.filter (fun v => ! gone.contains v.peer) })
  let t := serveNext (refreshMirror s t)
  (t.row.searches.map (fun x => x.ticket)).foldl endIfDone t

/-- A new epoch; it never falls (R705). -/
def setEpoch (s : State) (e : Nat) : State :=
  updRow s (fun d => { d with epoch := Nat.max d.epoch e, seenEpoch := Nat.max d.seenEpoch e })

/-! ### Beacons (R702) -/

/-- The bytes of the drive's beacon before its MAC (ch. 16, Beacon table). -/
def beaconBytes (s : State) : List Byte :=
  let ms := if s.row.state = .leader then s.row.members.map (fun m => m.serial) else []
  let flags := (if s.row.state = .leader then 1 else 0) + (if s.row.state = .joining then 2 else 0)
  leBytes 4 0xC1ED0B0E ++ leBytes 2 (cfgField s .rowCfg "ROW_ID") ++ leBytes 1 1 ++ leBytes 1 flags ++ leBytes 8 Config.serial
    ++ leBytes 8 s.row.epoch ++ leBytes 8 (now s) ++ leBytes 1 (ownPos s) ++ leBytes 1 (hbCode s) ++ leBytes 1 ms.length
    ++ leBytes 5 0 ++ (ms.map (leBytes 8)).flatten

/-- Send a beacon, with its MAC under the beacon key. -/
def sendBeacon (s : State) : State :=
  if s.row.beaconing then
    let bs := beaconBytes s
    sendIp s (rowIf s) 7 (.beacon bs ((Config.hmacSha256 (beaconKey s) bs).take 16)) 3
  else s

/-- The drive leads from now on (R710, R711). -/
def lead (s : State) (epoch : Nat) : State :=
  let s := updRow (setEpoch s epoch) (fun d => { d with state := .leader, leaderAt := none })
  sendBeacon (logEv s .rowLeader { details := [(s.row.epoch : Int)] })

/-- The leader of a row of one, with the stored epoch plus 1 (R712). -/
def leadAlone (s : State) : State :=
  let e := s.row.epoch + 1
  let s := setEpoch s e
  lead (setView s [ownMember s]) e

/-- Leadership passes to the first member when that is another drive (R711). -/
def handOver (s : State) : State :=
  if s.row.state = .leader ∧ leaderOf s ≠ some Config.serial then
    updRow s (fun d => { d with state := .member, leaderAt := some (now s) })
  else s

/-- The leader puts its list in order after a change of a position; no join and no leave (R700). -/
def reorder (s : State) : State :=
  let ms := sortMembers (s.row.members.map (fun m => if m.serial = Config.serial then { m with position := ownPos s } else m))
  if s.row.state = .leader ∧ ms ≠ s.row.members then handOver (sendBeacon (setView s ms)) else s

/-- Codes of the causes of a removal. -/
def leaveCode (leave : Bool) : Nat := if leave then 2 else 1

/-- The leader removes a member (R707). -/
def removeMember (s : State) (serial : Nat) (leave : Bool) : State :=
  let s := setEpoch s (s.row.epoch + 1)
  let s := setView s (s.row.members.filter (fun m => decide (m.serial ≠ serial)))
  sendBeacon (logEv s .rowMemberRemoved { reason := leaveCode leave, details := [(serial : Int), (s.row.epoch : Int)] })

/-- The leader admits a drive, or logs ROW_FULL once a minute per drive (R706). -/
def admitMember (s : State) (b : Beacon) : State :=
  if s.row.members.length < 32 then
    let s := setEpoch s (Nat.max s.row.epoch b.epoch + 1)
    let m : Member := { serial := b.serial, position := b.position, state := b.state, at_ := now s }
    let s := setView s (sortMembers (s.row.members ++ [m]))
    handOver (sendBeacon (logEv s .rowMemberAdded { details := [(b.serial : Int), (s.row.epoch : Int)] }))
  else
    match AMap.find s.row.fullAt b.serial with
    | some t => if now s < t + 60 * sec then s else
        logEv (updRow s (fun d => { d with fullAt := AMap.set d.fullAt b.serial (now s) })) .rowFull { details := [(b.serial : Int)] }
    | none => logEv (updRow s (fun d => { d with fullAt := AMap.set d.fullAt b.serial (now s) })) .rowFull { details := [(b.serial : Int)] }

/-- The RELAY_STATUS owed to a SOURCE goes out once that drive is a member (R772). -/
def sendDue (s : State) : State :=
  match s.fw.statusDue with
  | some (p, parcel, st) =>
    if isMember s p then rowSend (updFw s (fun f => { f with statusDue := none })) p (.relayStatus parcel Config.serial st) else s
  | none => s

/-- The entry of a drive in an adopted list: what the view has of it, else what is known now. -/
def listedMember (s : State) (b : Beacon) (x : Nat) : Member :=
  match s.row.members.find? (fun m => decide (m.serial = x)) with
  | some m => m
  | none => if x = Config.serial then ownMember s
      else { serial := x, position := if x = b.serial then b.position else 0, state := if x = b.serial then b.state else 0, at_ := now s }

/-- Adopt a leader's list and epoch (R709). -/
def adopt (s : State) (b : Beacon) : State :=
  let ms := b.members.map (listedMember s b)
  let inList := b.members.contains Config.serial
  let first := decide (s.row.state = .joining)
  let s := updRow (setEpoch s b.epoch) (fun d => { d with leaderAt := some (now s) })
  let s := setView s ms
  let s := updRow s (fun d => { d with state := if inList then .member else .joining })
  let s := if inList && first then
      logEv s .rowJoined { details := [(s.row.epoch : Int), (b.serial : Int)] } else s
  let s := if inList then sendDue s else s
  if leaderOf s = some Config.serial then lead s s.row.epoch else s

/-- Note the beacon of a drive in its entry of the view. -/
def noteBeacon (s : State) (b : Beacon) : State :=
  updRow s (fun d => { d with
    seqs := AMap.set d.seqs b.serial b.seq, addrs := AMap.set d.addrs b.serial b.src
    seenEpoch := Nat.max d.seenEpoch b.epoch
    members := d.members.map (fun m => if m.serial = b.serial then
      { m with position := b.position, state := b.state, at_ := now s } else m) })

/-- An accepted beacon (R706, R709, R711). -/
def takeBeacon (s : State) (b : Beacon) : State :=
  let s := noteBeacon s b
  if s.row.state = .leader then
    if b.leader ∧ orderLt (b.position, b.serial) (ownPos s, Config.serial) then
      let s := updRow s (fun d => { d with state := .joining, leaderAt := some (now s) })
      if s.row.epoch ≤ b.epoch then adopt s b else s
    else if isMember s b.serial then reorder s
    else admitMember s b
  else if b.leader ∧ s.row.epoch ≤ b.epoch then adopt s b
  else s

/-! ### Joining and leaving (R700, R712, R714) -/

/-- Begin to join: the drive beacons with JOINING set (R712). -/
def beginJoin (s : State) : State :=
  if rowOn s then
    sendBeacon (updRow s (fun d => { d with state := .joining, beaconing := true, leaderAt := some s.clock.ledger
                                            beaconAt := some s.clock.ledger }))
  else updRow s (fun d => { d with state := .none_, beaconing := false })

/-- Leave the row as an orderly leave does; the mirror mark returns to 0 (R700). -/
def leaveRow (s : State) : State :=
  updRow (setView (sendLeave s) []) (fun d => { d with state := .none_, mark := 0, beaconing := false, leaderAt := none })

/-- Leave the row, and join under the present values (R700, R701). -/
def rejoin (s : State) : State := beginJoin (leaveRow s)

/-- The drive has joined a row, or is to join one, in its present run. -/
def rowLive (s : State) : Bool := ready s || s.row.beaconing

/-! ### Messages (R715, R717) -/

/-- A drive this one relocates to or from. -/
def relocPartner (s : State) (p : Nat) : Bool :=
  s.stalls.tab.any (fun x => match x.2.reloc with | some r => decide (r.peer = p) | none => false)

/-- A drive whose messages are accepted (R717). -/
def rowKnows (s : State) (p : Nat) : Bool := isMember s p || relocPartner s p

/-- A message arrives: of an unknown drive it is dropped and counted; a repeat gets its first ACK; otherwise it is acted on
once and acknowledged (R715, R717). -/
def takeRow (s : State) (h : RowHdr) (act : State → State × AckStatus) : State :=
  if ! rowRuns s then s
  else if ! rowKnows s h.peer then updRow s (fun d => { d with msgBad := d.msgBad + 1 })
  else
    match s.row.seen.find? (fun x => decide (x.1 = h.peer) && decide (x.2.1 = h.msgId)) with
    | some x => rowSend s h.peer (.ack x.2.2) h.msgId
    | none =>
      let (s, st) := act (updRow s (fun d => { d with seenEpoch := Nat.max d.seenEpoch h.epoch }))
      rowSend (updRow s (fun d => { d with seen := d.seen ++ [(h.peer, h.msgId, st)] })) h.peer (.ack st) h.msgId

/-- Send the next message that waits for one of a peer's 64 places (R716). -/
def postWaiting (s : State) (peer : Nat) : State :=
  if unackedOf s peer < 64 then
    match s.row.waiting.find? (fun m => decide (m.peer = peer)) with
    | some m => rowPost (updRow s (fun d => { d with waiting := d.waiting.eraseP (fun x => decide (x.peer = peer)) })) m
    | none => s
  else s

/-- A message is no longer without an ACK. -/
def dropUnacked (s : State) (m : RowMsg) : State :=
  postWaiting (updRow s (fun d => { d with unacked := d.unacked.filter (fun u => decide (u.msg ≠ m)) })) m.peer

/-- A message that carries a payload with `m`. -/
def sameGroup (m x : RowMsg) : Bool := decide (x.peer = m.peer) && decide (x.refId = m.refId) && decide (groupId x = groupId m)

/-- A payload is given up with one of its messages: the others no longer go out. -/
def dropGroup (s : State) (m : RowMsg) : State :=
  postWaiting (updRow s (fun d => { d with
    unacked := d.unacked.filter (fun u => ! sameGroup m u.msg)
    waiting := d.waiting.filter (fun x => ! sameGroup m x) })) m.peer

/-- The outcome of a mirror message: done, refused, or to be tried again after 10 s (R729, R730). -/
def mirrorAcked (s : State) (msgId : Nat) (st : AckStatus) : State :=
  match AMap.find s.row.sending msgId with
  | none => s
  | some e =>
    let s := updRow s (fun d => { d with sending := AMap.del d.sending msgId })
    let again (e : MirrorEntry) : State := updRow s (fun d => { d with retry := d.retry ++ [(now s + 10 * sec, e)] })
    mirrorSettle (match st with
      | .ok => s
      | .refused => again { e with refused := true }
      | .tryLater => again e)

/-- A message was given up after 5 sendings: its peer is unreachable for it (R715, R722, R772). -/
def msgFailed (s : State) (m : RowMsg) : State :=
  match m.body with
  | .findReq _ =>
    (s.row.searches.filter (fun x => decide (AMap.find x.reqs m.peer = some m.msgId))).foldl (fun s x =>
      endIfDone (memberEnds s x.ticket m.peer .unreachable) x.ticket) s
  | .relayStatus parcel reporter st =>
    if reporter = Config.serial then updFw s (fun f => { f with statusDue := some (m.peer, parcel, st) }) else s
  | _ =>
    match AMap.find s.row.sending (groupId m) with
    | some e => updRow s (fun d => { d with sending := AMap.del d.sending (groupId m), queue := e :: d.queue })
    | none => s

/-! ### What the mirror sends (R726 to R728) -/

/-- An object as MIRROR_PUT carries it. -/
def mirrorObj (s : State) (k : ObjKey) (o : Obj) : MirrorObj :=
  { origin := Config.serial, key := k, tags := o.tags, value := o.value, version := o.version, held := o.held
    wseq := o.wseq, remaining := o.expiry - now s }

/-- The message of an entry; none when the object it names is gone or carries EVIDENCE no longer. -/
def mirrorBody (s : State) (e : MirrorEntry) : Option RowBody :=
  match e.item with
  | .put k _ =>
    match objOf s k with
    | some o => if o.tags.any isEvidence then some (.mirrorPut (mirrorObj s k o)) else none
    | none => none
  | .update k held => some (.mirrorUpdate Config.serial k held)
  | .remove k erase => some (.mirrorRemove Config.serial k erase)

/-- Send an entry to the neighbour, at MIRROR_RATE at most (R726). -/
def sendMirror (s : State) (e : MirrorEntry) : State :=
  match mirrorPeer s, mirrorBody s e with
  | some n, some b =>
    let s := advanceTo s s.row.mirrorAt
    let rate := Nat.max 1 (cfgField s .rowCfg "MIRROR_RATE")
    let id := s.row.nextMsg
    rowSend (updRow s (fun d => { d with sending := AMap.set d.sending id e
                                         mirrorAt := s.clock.ledger + ceilDiv (bodyLen b) rate })) n b
  | _, _ => s

/-! ### Mirror copies (R727, R729) -/

/-- Bytes of the copies of an origin. -/
def heldBytes (s : State) (origin : Nat) : Nat :=
  listSum ((s.row.copies.filter (fun c => decide (c.1.1 = origin))).map
    (fun c => c.2.obj.key.key.length + c.2.obj.value.length))

/-- A copy fits MIRROR_CAP and the user capacity. -/
def mirrorFits (s : State) (o : MirrorObj) : Bool :=
  let size := o.key.key.length + o.value.length
  let old := match AMap.find s.row.copies (o.origin, o.key) with
    | some c => c.obj.key.key.length + c.obj.value.length | none => 0
  decide (mirrorBytes s - old + size ≤ 1073741824 * cfgField s .rowCfg "MIRROR_CAP")
    && (spaceErr s 0 (recordLen o.key o.tags.length o.value.length) (size - old)).isNone

/-- MIRROR_REFUSED, at most once an hour (R729). -/
def noteRefused (s : State) (origin : Nat) : State :=
  match s.row.refusedAt with
  | some t => if now s < t + hour then s
      else logEv (updRow s (fun d => { d with refusedAt := some (now s) })) .mirrorRefused { details := [(origin : Int)] }
  | none => logEv (updRow s (fun d => { d with refusedAt := some (now s) })) .mirrorRefused { details := [(origin : Int)] }

/-- A copy arrives (R727, R729). -/
def takeCopy (s : State) (o : MirrorObj) : State × AckStatus :=
  if ! mirrorFits s o then (noteRefused s o.origin, .refused)
  else if (dataWriteErr s).isSome then (s, .tryLater)
  else match takeCredit s o.value.length with
  | none => (s, .tryLater)
  | some s =>
    let older : Bool := match AMap.find s.row.copies (o.origin, o.key) with
      | some c => decide (c.obj.wseq < o.wseq) | none => true
    (if older then updRow s (fun d => { d with
        copies := AMap.set d.copies (o.origin, o.key) { obj := o, expiry := now s + o.remaining } }) else s, .ok)

/-- Write one copy into a local stall under the ordinary write rules (R734). -/
def restoreOne (x : StallNo) (s : State) (c : MirrorCopy) : State :=
  let k : ObjKey := { stall := x, key := c.obj.key.key }
  let o : RelocObj := { key := k.key, value := c.obj.value, tags := c.obj.tags, version := c.obj.version
                        held := c.obj.held, remaining := c.expiry - now s }
  let count (f : Restore → Restore) (s : State) : State := updRow s (fun d => { d with restores := AMap.modify d.restores x f })
  let shut : Bool := match objOf s k with | some v => v.held | none => false
  if shut || (targetErr s x k o).isSome then count (fun r => { r with skipped := r.skipped + 1 }) s
  else count (fun r => { r with restored := r.restored + 1 })
    (charge (storeRelocated ((takeCredit s o.value.length).getD s) x o) x .written (k.key.length + o.value.length))

/-! ### Status -/

/-- Code of ROW_STATE. -/
def rowStateCode : RowState → Nat | .none_ => 0 | .joining => 1 | .member => 2 | .leader => 3

/-- Code of MIRROR_STATE. -/
def mirrorCode : MirrorState → Nat | .idle => 0 | .current => 1 | .lagging => 2

/-- CORE.ROW.STATUS. -/
def rowStatusWord (s : State) : Word64 :=
  let r := s.row
  let ms := r.members.map (fun m => m.serial)
  packWord [(56, ms.length), (48, if ms.contains Config.serial then indexIn Config.serial ms else 0), (40, r.served.length),
    (8, Nat.min (mirrorDepth s) 65536), (2, rowStateCode r.state), (0, mirrorCode r.mirror)]

/-- CORE.ROW.LEADER. -/
def rowLeader (s : State) : Nat := (leaderOf s).getD 0

/-- CORE.ROW.NEIGHBOUR. -/
def rowNeighbour (s : State) : Nat := (neighbourOf s).getD 0

end Sys2Proof.Machine
end

