-- ==== Sys2Proof/Machine/FwOps.lean ====
section
/-!
DEFINITION. Firmware (ch. 17): slots, the SVN counter, the checks of a parcel, its pieces, the install, the gatehouse update,
the confirmation of a trial, and the relay along the row.
-/

namespace Sys2Proof.Machine

open Sys2Proof

/-! ### Slots -/

/-- Slot A when the flag is off, slot B when it is on. -/
def fwSlot (s : State) (b : Bool) : FwSlot := if b then s.fw.b else s.fw.a

/-- Change a slot's record. -/
def updSlot (s : State) (b : Bool) (f : FwSlot → FwSlot) : State :=
  updFw s (fun d => if b then { d with b := f d.b } else { d with a := f d.a })

/-- The slot that runs; none while the recovery image does. -/
def runSlot (s : State) : Option Bool := match s.fw.running with | .a => some false | .b => some true | .recovery => none

/-- The slot an install writes: the one that is not running; the recovery image takes A when A is not GOOD (R750, R757). -/
def targetSlot (s : State) : Bool :=
  match runSlot s with
  | some b => ! b
  | none => decide (s.fw.a.state = .good)

/-- The running gatehouse version. -/
def gateVersion (s : State) : Nat := if s.fw.gateSlot = 0 then s.fw.gateVersions.1 else s.fw.gateVersions.2

/-- The manifest of the running slot, when the drive has it. -/
def runManifest (s : State) : Option Manifest := (runSlot s).bind (fun b => (fwSlot s b).manifest)

/-- The SVN counter: the index of the highest burned fuse plus 1 (ch. 17). -/
def svnCounter (s : State) : Nat := listMax (s.fw.fuses.map (fun i => i + 1))

/-- A slot is STAGED or TRIAL (R749, R775). -/
def slotPending (s : State) : Bool :=
  [s.fw.a.state, s.fw.b.state].any (fun x => decide (x = .staged) || decide (x = .trial))

/-- Code of a slot state. -/
def fwCode : FwState → Nat | .empty => 0 | .staged => 1 | .trial => 2 | .good => 3 | .failed => 4 | .stale => 5

/-- Code of a parcel state. -/
def parcelCode : ParcelState → Nat
  | .none_ => 0 | .receiving => 1 | .complete => 2 | .installing => 3 | .installed => 4 | .stopped => 5

/-- Code of what runs. -/
def runningCode : Running → Nat | .a => 0 | .b => 1 | .recovery => 2

/-- State of the held parcel. -/
def parcelState (s : State) : ParcelState := match s.fw.parcel with | some p => p.state | none => .none_

/-- Change the held parcel. -/
def updParcel (s : State) (f : Parcel → Parcel) : State := updFw s (fun d => { d with parcel := d.parcel.map f })

/-- Failures of the TRIAL slot. -/
def trialFails (s : State) : Nat :=
  if s.fw.a.state = .trial then s.fw.a.fails else if s.fw.b.state = .trial then s.fw.b.fails else 0

/-- SVC.FW.STATUS. -/
def fwStatusWord (s : State) : Word64 :=
  packWord [(56, svnCounter s), (48, s.fw.burnTarget), (36, fwCode s.fw.b.state), (32, fwCode s.fw.a.state),
    (16, parcelCode (parcelState s)), (8, trialFails s), (2, s.fw.gateSlot), (0, runningCode s.fw.running)]

/-- SVC.FW.PARCEL_ID: 0 while none is held. -/
def parcelId (s : State) : Nat := match s.fw.parcel with | some p => p.manifest.id | none => 0

/-! ### The checks of a parcel (R739, R741, R761) -/

/-- A value lies in a range. -/
def within (lo hi n : Nat) : Bool := decide (lo ≤ n) && decide (n ≤ hi)

/-- Two COMPONENTS entries have no byte in common. -/
def apart (a b : Nat × Nat) : Bool := decide (a.2 = 0) || decide (b.2 = 0) || decide (a.1 + a.2 ≤ b.1) || decide (b.1 + b.2 ≤ a.1)

/-- The COMPONENTS entries lie within LENGTH and do not overlap; that of an absent component is 0 and 0 (R739). -/
def componentsOk (m : Manifest) : Bool :=
  match m.components with
  | [a, b, c] => [a, b, c].all (fun x => decide (x.1 + x.2 ≤ m.length)) && apart a b && apart a c && apart b c
      && [(0, a), (1, b), (2, c)].all (fun x => m.comp.testBit x.1 || decide (x.2 = (0, 0)))
  | _ => false

/-- R739, and the ranges that the Manifest and Step order tables give. -/
def manifestOk (m : Manifest) : Bool :=
  decide (m.magic = "CXPARCEL") && decide (m.format = 1) && m.reservedZero && m.signed && componentsOk m
    && [3, 4, 7].contains m.comp && within 2 1024 m.pieces && decide (m.length ≤ 67108864)
    && decide (m.pieces = ceilDiv m.length 65536) && decide (m.order ≤ 2) && decide (m.id ≠ 0)

/-- Step order validity (R761). A slot without a manifest on record sets no range. -/
def orderOk (s : State) (m : Manifest) : Bool :=
  let gRun := within m.gateMin m.gateMax (gateVersion s)
  let gNew := within m.gateMin m.gateMax m.gateVersion
  let gSlot := match runManifest s with | some r => within r.gateMin r.gateMax m.gateVersion | none => true
  let mRun := within m.mainMin m.mainMax (mainVersion s)
  let mNew := within m.mainMin m.mainMax m.version
  match m.comp, m.order with
  | 3, 0 => gRun
  | 4, 0 => mRun && gSlot
  | 7, 1 => mRun && mNew && gNew && gSlot
  | 7, 2 => gRun && mNew && gNew
  | _, _ => false

/-- The parcel carries MAIN. -/
def hasMain (m : Manifest) : Bool := m.comp.testBit 0

/-- The parcel carries GATE. -/
def hasGate (m : Manifest) : Bool := m.comp.testBit 2

/-- The metadata format the running firmware writes. -/
def metaFormat (s : State) : Nat := match runManifest s with | some r => r.metaWrite | none => s.media.format

/-- The first failed check (R741). -/
def parcelRefusal (s : State) (m : Manifest) : Option ErrName :=
  if ! manifestOk m then some .badParcel
  else if 64 < m.svn then some .svnEnd
  else if ! m.variants.testBit (b2n Config.variantC) then some .incompatible
  else if hasMain m && ! (decide (m.fromMin ≤ mainVersion s) && decide (m.metaReadMin ≤ metaFormat s)) then some .incompatible
  else if ! orderOk s m then some .incompatible
  else if (hasMain m && decide (m.version < mainVersion s)) || (hasGate m && decide (m.gateVersion < gateVersion s)) then
    some .versionDown
  else if m.svn < svnCounter s then some .svnLow
  else none

/-- SVN_END is logged when a parcel is refused for it (R742). -/
def noteRefusal (s : State) (m : Manifest) (e : ErrName) : State :=
  if e = .svnEnd then logEv s .svnEnd { details := [(m.svn : Int)] } else s

/-! ### Pieces (R745 to R747, R768, R778) -/

/-- SVC writes pieces into the target slot instead of the metadata bands (R747). -/
def piecesToSlot (s : State) : Bool := decide (s.phase = .safe)

/-- A piece enters the store; the last missing one completes the parcel. -/
def keepPiece (s : State) (n : Nat) : State :=
  match s.fw.parcel with
  | none => s
  | some p =>
    let ps := p.pieces ++ [n]
    let whole := decide (p.manifest.pieces ≤ ps.length)
    let s := updParcel s (fun q => { q with pieces := ps, lastAt := now s
                                            state := if whole then .complete else .receiving })
    let s := if piecesToSlot s then s else stageLog s (.parcel n)
    if whole then logEv s .parcelComplete { details := [(p.manifest.id : Int)] } else s

/-- Piece 0 arrives (R742, R745). -/
def takeManifest (s : State) (m : Manifest) (hash : List Byte) : State × Reply :=
  match s.fw.parcel with
  | some p => (s, if p.manifest.id = m.id then okReply else .err .parcelBusy)
  | none =>
    match parcelRefusal s m with
    | some e => (noteRefusal s m e, .err e)
    | none =>
      let p : Parcel := { state := .receiving, manifest := m, hash0 := hash, pieces := [], since := now s, lastAt := now s }
      let s := updFw s (fun d => { d with parcel := some p })
      let s := if piecesToSlot s then updSlot s (targetSlot s) (fun _ => {}) else s
      (keepPiece (logEv s .parcelBegun { details := [(m.id : Int), (m.version : Int)] }) 0, okReply)

/-- A later piece arrives (R745). -/
def takeLater (s : State) (n : Nat) (hashOk : Bool) : State × Reply :=
  match s.fw.parcel with
  | none => (s, .err .noParcel)
  | some p =>
    if p.pieces.contains n then (s, okReply)
    else if p.manifest.pieces ≤ n || ! hashOk then (s, .err .pieceHash)
    else (keepPiece s n, okReply)

/-- A piece arrives by any path. -/
def takePiece (s : State) (n : Nat) (d : PieceData) : State × Reply :=
  match n, d with
  | 0, .manifest m h => takeManifest s m h
  | 0, .piece _ => (s, .err .badParcel)
  | _, .manifest _ _ => takeLater s n false
  | _, .piece ok => takeLater s n ok

/-- The trickle rate turns the piece away (R746). -/
def tooSoon (s : State) (n : Nat) : Bool :=
  match s.fw.parcel with
  | some p => decide (n ≠ 0) && decide ((now s - p.lastAt) * cfgField s .fwCfg "TRICKLE_RATE" < 65536000)
  | none => false

/-! ### Install and the gatehouse (R749, R762) -/

/-- The held parcel is refused at install or its trial failed. -/
def stopParcel (s : State) : State := updParcel s (fun p => { p with state := .stopped })

/-- The serial and status of a relayed install's outcome go to its SOURCE, now or once it is a member (R772). -/
def reportTo (s : State) (source parcel : Nat) (st : RelayStat) : State :=
  sendDue (updFw s (fun f => { f with statusDue := some (source, parcel, st) }))

/-- An install ends without effect; after a failed gatehouse update nothing else changes, so that the parcel is COMPLETE as
before (R749 step 3). -/
def endInstall (s : State) (i : Install) (e : ErrName) : State :=
  let s := updFw s (fun f => { f with install := none })
  let s := if e = .gateFailed then updParcel s (fun p => { p with state := .complete }) else stopParcel s
  let s := match i.source with | some p => reportTo s p (parcelId s) .failed | none => s
  answerSlot s i.slot (.err e)

/-- The name of a slot. -/
def slotName (b : Bool) : Val := .name (if b then "b" else "a")

/-- Steps 4 and 5: the target slot is EMPTY, is written, read back and STAGED; then the halt (R749, R757). An interrupted step 4
leaves it EMPTY (R751). -/
def writeSlot (s : State) (i : Install) (m : Manifest) : State :=
  let t := targetSlot s
  let s := updSlot s t (fun _ => {})
  if i.cut then s
  else if ! i.slotOk then endInstall s i .badParcel
  else
    let s := updSlot s t (fun _ => { state := .staged, version := m.version, svn := m.svn, manifest := some m
                                     relayOrigin := i.relay, relaySource := i.source })
    let s := logEv s .fwStaged { details := [((b2n t : Nat) : Int), (m.version : Int)] }
    let s := updParcel (updFw s (fun f => { f with install := none })) (fun p => { p with state := .installed, installedAt := some (now s) })
    let after : Option After := if i.later ∨ runSlot s = none then none else some (.halt .restart)
    match i.slot with
    | some _ => answerSlot s i.slot (okLine [("", .name "staged"), ("slot", slotName t)]) after
    | none => match after with | some _ => beginHalt s .restart | none => s

/-- A gatehouse update begins (R762). -/
def startGate (s : State) (version : Nat) (install : Bool) : State :=
  updFw s (fun f => { f with gateUpdate := some { version := version, install := install } })

/-- The install after its checks have passed: the gatehouse first where the order asks it, else the slot. -/
def runInstall (s : State) (i : Install) (m : Manifest) : State :=
  let s := updParcel (updFw s (fun f => { f with install := some i })) (fun p => { p with state := .installing })
  if m.order = 1 ∨ m.comp = 4 then startGate s m.gateVersion true else writeSlot s i m

/-- Steps 1 and 2: the refusal, if any, of an install. -/
def installErr (s : State) (r : InstallResult) : Option Reply :=
  match s.fw.parcel with
  | none => some (.err .noParcel)
  | some p =>
    if p.state = .receiving then some (.err .notComplete)
    else if slotPending s || s.fw.install.isSome || s.fw.gateUpdate.isSome then some .busy
    else if ! r.hashesOk then some (.err .pieceHash)
    else (parcelRefusal s p.manifest).map .err

/-- What a refusal at install leaves behind. -/
def refuseInstall (s : State) (e : Reply) : State :=
  match e, s.fw.parcel with
  | .err .noParcel, _ => s
  | .err .notComplete, _ => s
  | .err x, some p => stopParcel (noteRefusal s p.manifest x)
  | _, _ => s

/-- The gatehouse update has ended (R762): the new version runs, or the previous one again. -/
def gateOutcome (s : State) (version : Nat) (reported slotOk : Bool) : State :=
  let other := 1 - s.fw.gateSlot
  let put (v : Nat) (f : Fw) : Fw := { f with gateVersions := if other = 0 then (v, f.gateVersions.2) else (f.gateVersions.1, v) }
  if slotOk then
    let s := updFw s (put version)
    if reported then
      logEv (updFw s (fun f => { f with gateSlot := other })) .gateUpdated
        { details := [(version : Int), (other : Int)] }
    else logEv s .gateFallback { details := [(version : Int)] }
  else logEv (updFw s (put 0)) .gateFallback { details := [(version : Int)] }

/-! ### Fuses (R758 to R760) -/

/-- Slots in some states whose SVN lies below the counter become STALE. -/
def staleIn (s : State) (which : List FwState) : State :=
  let go (x : FwSlot) : FwSlot := if which.contains x.state ∧ x.svn < svnCounter s then { x with state := .stale } else x
  updFw s (fun f => { f with a := go f.a, b := go f.b })

/-- At S04 a GOOD or TRIAL slot whose SVN lies below the counter becomes STALE (R752). -/
def staleSlots (s : State) : State := staleIn s [.good, .trial]

/-- Burn the fuses from the counter up to BURN_TARGET − 1; some do not read burned after 3 attempts;
every slot whose SVN then lies below the counter becomes STALE (R758 to R760). -/
def burnFuses (s : State) (failing : List Nat) : State :=
  let idx := (List.range (s.fw.burnTarget - svnCounter s)).map (fun i => svnCounter s + i)
  let s := idx.foldl (fun s i =>
    if failing.contains i then logEv s .fuseBurnFail { details := [(i : Int)] }
    else updFw s (fun f => { f with fuses := f.fuses ++ [i] })) s
  let s := updIsl s (fun d => { d with mirrorGood := true })
  staleIn (logEv s .svnBurned { details := [(svnCounter s : Int)] }) [.staged, .trial, .good, .failed]

/-! ### Relay (R769 to R772) -/

/-- The offer of a confirmed slot to the neighbour (R769). -/
def offerParcel (s : State) (origin : Nat) (m : Manifest) : State :=
  match neighbourOf s, s.fw.parcel with
  | some n, some p =>
    if n = origin ∨ p.manifest.id ≠ m.id then s
    else rowSend s n (.relayOffer { parcel := m.id, version := m.version, svn := m.svn, pieces := m.pieces, origin := origin
                                    source := Config.serial, hash0 := p.hash0 })
  | _, _ => s

/-- Ask SOURCE for the lowest missing piece, at RELAY_RATE at most (R770 step 4). -/
def askPiece (s : State) (o : RelayOffer) : State :=
  let held := match s.fw.parcel with | some p => p.pieces | none => []
  match (List.range o.pieces).find? (fun n => ! held.contains n) with
  | some n =>
    let s := advanceTo s s.fw.pullAt
    let t := s.clock.ledger + ceilDiv 65536000 (Nat.max 1 (cfgField s .fwCfg "RELAY_RATE"))
    rowSend (updFw s (fun f => { f with pullAt := t })) o.source (.pieceReq o.parcel n)
  | none => s

/-- Every piece is held: the relayed install (R770). -/
def relayInstall (s : State) (o : RelayOffer) (r : InstallResult) : State :=
  let s := updFw s (fun f => { f with pull := none })
  match installErr s r, s.fw.parcel with
  | none, some p =>
    runInstall s { slot := none, relay := some o.origin, source := some o.source, later := false, slotOk := r.slotOk, cut := r.cut } p.manifest
  | some e, _ => reportTo (refuseInstall s e) o.source o.parcel .failed
  | none, none => s

/-- The parcel's relay has ended: it is discarded (R748). -/
def endRelay (s : State) (parcel : Nat) : State :=
  if parcelId s = parcel ∧ s.fw.install.isNone ∧ ! slotPending s then updFw s (fun f => { f with parcel := none })
  else updParcel s (fun p => if p.manifest.id = parcel then { p with relayEnded := true } else p)

/-- Code of a relay status. -/
def relayCode : RelayStat → Nat | .confirmed => 1 | .failed => 2 | .skipped => 3 | .refused => 4

/-! ### Confirmation (R754, R755) -/

/-- An island's DEAD mark predates the first trial start of the running slot (R754). -/
def markPredates (s : State) (i : Island) : Bool :=
  match (runSlot s).bind (fun b => (fwSlot s b).trialFrom) with
  | some f => decide ((getIsl s i).markAt < f)
  | none => false

/-- An island has entered DEAD in this start, apart from those whose DEAD mark predates the slot's first trial start. -/
def newDead (s : State) : Bool :=
  s.life.deadTimes.any (fun x => decide (islState s x.1 = .dead) && x.2.any (fun t => decide (s.boot.s01At ≤ t))
    && ! markPredates s x.1)

/-- The conditions of R754 but for the time. -/
def mayConfirm (s : State) : Bool := s.fw.s11Ok && ! newDead s && s.fw.sessionSeen

/-- The earliest moment at which the slot confirms: 600 s since S23 or the latest watchdog event. -/
def confirmAt (s : State) (t : Nat) : Nat := (match s.fw.watchdogAt with | some w => Nat.max t w | none => t) + 600 * sec

/-- What follows the confirmation of a slot: the metadata format is its own (R755, R758, R764, R767, R769, R772). -/
def confirmSlot (s : State) (b : Bool) (failing : List Nat) : State :=
  let x := fwSlot s b
  let s := updSlot s b (fun y => { y with state := .good, fails := 0 })
  let s := updFw s (fun f => { f with trialAt := none })
  let s := match x.manifest with | some m => updMedia s (fun d => { d with format := m.metaWrite }) | none => s
  let s := logEv s .fwConfirmed { details := [((b2n b : Nat) : Int), (x.version : Int)] }
  let s := if svnCounter s < x.svn then burnFuses (updFw s (fun f => { f with burnTarget := x.svn })) failing else s
  let s := match x.manifest with
    | some m => if m.order = 2 then startGate s m.gateVersion false else s
    | none => s
  let s := match x.relaySource, x.manifest with
    | some p, some m => reportTo s p m.id .confirmed
    | _, _ => s
  match x.relayOrigin, x.manifest with
  | some o, some m =>
    match neighbourOf s with
    | some n => if n = o then endRelay s m.id else offerParcel s o m
    | none => endRelay s m.id
  | _, _ => s

end Sys2Proof.Machine
end

