-- ==== Sys2Proof/Machine/Fimor.lean ====
section
/-!
DEFINITION. The system commands of the Fimor console (ch. 06): characters, bad lines, `help`, `mode`, `who`, `log`, `halt`,
management sessions and wardens.
-/

namespace Sys2Proof.Machine

open Sys2Proof

/-! ### Characters and lines -/

/-- CONSOLE_CHAR (R228 to R230, R235, R237): one character received on a session; typed mode echoes it. -/
def execConsoleChar (x : SessId) (c : Byte) (s : State) : Host.Outcome State Fault Refusal :=
  .next (match getSess s x with
    | none => s
    | some d =>
      if (x = .jcon ∧ s.bay.lineFault) ∨ (¬ isMgmt x ∧ consolesPaused s) then s
      else
        putEcho (updSess s x (fun d => (feedChar d c).1)) x (feedChar d c).2)

/-- CONSOLE_BAD_LINE (R229, R230, R238, R240, R241): the line is answered with its error and executes nothing. -/
def execConsoleBadLine (x : SessId) (text : List Byte) (s : State) : Host.Outcome State Fault Refusal :=
  .next (match getSess s x with
    | none => s
    | some d =>
      if (x = .jcon ∧ s.bay.lineFault) ∨ (¬ isMgmt x ∧ consolesPaused s) then s
      else match lineFaultOf d.machine d.crc text with
      | none => s
      | some e =>
        let s := updSess s x (fun d => { d with lineReady := none, lastRx := s.clock.ledger })
        putReply s x (if d.machine then lineTag text else none) (.err e))

/-- UNKNOWN_COMMAND (R856): the words form no command; in safe mode R262 comes first. -/
def execUnknownCommand (l : Line) (s : State) : Host.Outcome State Fault Refusal :=
  .next (runCmd s { l with text := [] } {} (some .unknownCommand) (fun s _ => .say s (.err .unknownCommand) none))

/-! ### help, mode, who -/

/-- A command without marks. -/
def plainCmd : CmdInfo := {}

/-- A command is available in the drive's present state. -/
def availableNow (s : State) (l : Line) (i : CmdInfo) : Bool :=
  if decide (s.phase = .safe) then inSafeList s l i
  else if decide (s.phase = .hold) then i.hold || (i.blank && decide (lcState s = .blank))
  else if halting s || decide (s.phase = .halted) then inSafeList s l i
  else true

/-- A word stands among the words of a command: the whole name, or its noun or verb. -/
def wordIn (w name : String) : Bool := (name.splitOn " ").contains w || name == w

/-- A command in the list of `help`: its name, with `[P]` when it is privileged (R250). -/
def helpLine (f : CmdForm) : List (String × Val) := [("", .name (if f.info.priv then f.name ++ " [P]" else f.name))]

/-- The answer of HELP (R250): every command available now, or the syntax of each form that a word matches. -/
def helpAnswer (l : Line) (word : Option String) (s : State) : Reply :=
  match word with
  | none => .ok ([] :: ((cmdForms.filter (fun f => availableNow s l f.info)).map helpLine).eraseDups)
  | some w => .ok ([] :: (cmdForms.filter (fun f => wordIn w f.name)).map (fun f => [("", .name (syntaxText f))]))

/-- HELP (R250, System commands table): the commands available in the present state with their marks, or those a noun or
verb matches. -/
def execHelp (l : Line) (word : Option String) (s : State) : Host.Outcome State Fault Refusal :=
  .next (showCmd s l { safe := true, hold := true } none (helpAnswer l word))

/-- A session's mode in words. -/
def modeName (machine : Bool) : String := if machine then "machine" else "typed"

/-- `on` or `off`. -/
def onOff (b : Bool) : String := if b then "on" else "off"

/-- MODE (R251, R227): report, or a setting that takes effect after the answer; typed mode is not for a management
session. -/
def execMode (l : Line) (m : ModeArg) (s : State) : Host.Outcome State Fault Refusal :=
  .next (runCmd s l {} none (fun s _ =>
    match m with
    | .report =>
      match getSess s l.sess with
      | none => .say s okReply none
      | some d =>
        .say s (okLine [("mode", .name (modeName d.machine)), ("crc", .name (onOff d.crc)), ("follow", .name (onOff d.follow))]) none
    | .typed => if isMgmt l.sess then .say s (.err .mode) none else .say s okReply (some (.mode false false))
    | .machine c => .say s okReply (some (.mode true c))))

/-- The groups whose shadow a session holds (R252). -/
def groupsHeld (s : State) (x : SessId) (d : Session) : List Group :=
  (s.cfg.shadows.filter (fun g => decide (g.2.holder = x) && decide (g.2.inst = d.serial))).map (fun g => g.1)

/-- A session's line in `who`. -/
def whoLine (s : State) (self : SessId) (x : SessId × Session) : List (String × Val) :=
  [("", .name (sessName x.1)), ("", .name (modeName x.2.machine))]
  ++ (match x.2.warden with | some w => [("warden", vn w.val)] | none => [])
  ++ [("since", .name (isoText x.2.startWall))]
  ++ (groupsHeld s x.1 x.2).map (fun g => ("shadow", .name (groupName g)))
  ++ (if x.1 = self then [("", .name "self")] else [])

/-- The answer of WHO (R252). -/
def whoAnswer (l : Line) (s : State) : Reply :=
  .ok ([("sessions", vn s.con.sessions.length)] :: s.con.sessions.map (whoLine s l.sess))

/-- WHO (R252): one line per session. -/
def execWho (l : Line) (s : State) : Host.Outcome State Fault Refusal :=
  .next (showCmd s l { safe := true, hold := true } none (whoAnswer l))

/-! ### log -/

/-- Records held, newest first: the FRAM ring, and from S10 on the older ones of the metadata bed (R850). -/
def heldRecords (s : State) : List EventRec :=
  match s.log.ring.getLast? with
  | none => if stepDone s 10 then s.log.bed else []
  | some o => s.log.ring ++ (if stepDone s 10 then s.log.bed.filter (fun e => decide (e.seq < o.seq)) else [])

/-- The records a `log` command lists (R854): without `since` the newest `n` that match, with it the matching ones from
that SEQ on, up to `n`; oldest first. -/
def logLines (s : State) (n : Nat) (since : Option Nat) (ev : Option Ev) : List EventRec :=
  let hits := (heldRecords s).filter (fun e => match ev with | none => true | some x => decide (e.ev = x))
  match since with
  | none => (hits.take n).reverse
  | some q => ((hits.filter (fun e => decide (q ≤ e.seq))).reverse).take n

/-- SEQ values from one asked for up to one below the oldest record held (R854). -/
def logLost (s : State) (since : Option Nat) : Nat :=
  match since with
  | none => 0
  | some q =>
    let oldest := match (heldRecords s).getLast? with | some o => o.seq | none => s.log.nextSeq
    oldest - Nat.max q 1

/-- The answer of LOG (R255, R854). -/
def logAnswer (count : Nat) (since : Option Nat) (name : Option Ev) (s : State) : Reply :=
  let rs := logLines s count since name
  let lost := logLost s since
  .ok (([("", vn rs.length), ("", .name (if rs.length = 1 then "record" else "records"))]
    ++ (if lost = 0 then [] else [("lost", vn lost)])) :: rs.map recordLine)

/-- LOG (R234, R255, R854): count 1 to 200, default 20; SEQ a 64-bit number. -/
def execLog (l : Line) (count since : Option Int) (name : Option Ev) (s : State) : Host.Outcome State Fault Refusal :=
  let n := count.getD 20
  .next (showCmd s l { safe := true, hold := true }
    (firstErr [rangeErr n 1 200, since.bind (fun q => rangeErr q 0 (2 ^ 64 - 1))])
    (logAnswer n.toNat (since.map Int.toNat) name))

/-- LOG_FOLLOW (R244, R227): event lines of this session on or off. -/
def execLogFollow (l : Line) (on : Bool) (s : State) : Host.Outcome State Fault Refusal :=
  .next (runCmd s l { safe := true, hold := true } none (fun s _ =>
    .say (updSess s l.sess (fun d => { d with follow := on })) (okLine [("follow", .name (onOff on))]) none))

/-- EVENT_LINE_WINDOW_END (R245): the window closes 1 s after it opened. -/
def execEventLineWindowEnd (x : SessId) (s : State) : Host.Outcome State Fault Refusal :=
  .next (match getSess s x with
    | none => s
    | some d => match d.evWindow with
      | none => s
      | some t => closeEvWindow (advanceTo s (t + sec)) x)

/-! ### halt -/

/-- HALT (R256): `ok halting` goes out, then the orderly halt begins, reason HALT. -/
def execHalt (l : Line) (s : State) : Host.Outcome State Fault Refusal :=
  .next (runCmd s l {} none (fun s _ => .say s (okLine [("", .name "halting")]) (some (.halt .halt))))

/-! ### Management sessions (R222 to R226) -/

/-- The warden a fingerprint is enrolled as. -/
def wardenOf (s : State) (fp : List Byte) : Option (Fin 4) :=
  (s.con.wardens.find? (fun w => decide (w.2.fp = fp))).map (fun w => w.1)

/-- Open management sessions of a warden. -/
def sessionsOf (s : State) (w : Fin 4) : Nat :=
  (s.con.sessions.filter (fun x => isMgmt x.1 && decide (x.2.warden = some w))).length

/-- The lowest free management session. -/
def freeMgmt (s : State) : Option (Fin 8) :=
  (List.finRange 8).find? (fun k => (getSess s (.mgmt k)).isNone)

/-- The drive takes connections: the listeners are open and no halt is under way. -/
def listening (s : State) : Bool := s.proto.listening && running s

/-- A handshake on TCP 7135 that the drive ends with access_denied (R224). -/
def denyMgmt (s : State) (fp : List Byte) (addr : IpAddr) : State :=
  logEv (emit s (.accessDenied addr)) .mgmtAuthFail { details := addrWords addr ++ [fpWord fp] }

/-- A management session too many is told so, and its connection closes (R225). -/
def turnAway (s : State) (addr : IpAddr) : State :=
  emit (emit s (.busySessions addr)) (.peerText addr (replyText true false none .busySessions))

/-- MGMT_CONNECT (R223 to R225): a TLS handshake on TCP 7135 with what the client offers and its certificate. Without a common
version, suite and group there is no session; R224's alert and event are for the certificate alone. Before the listeners are open the
attempt is answered by a reset (R39), which the packet level shows. -/
def execMgmtConnect (ifc : IfNo) (localAddr : IpAddr) (fp : List Byte) (client : TlsClient) (addr : IpAddr) (s : State) :
    Host.Outcome State Fault Refusal :=
  .next (if ¬ (listening s ∧ serviceOn s ifc 3) then s
    else match tlsAgreed client with
    | none => denyMgmt s fp addr
    | some (suite, group) =>
      match wardenOf s fp with
      | none => denyMgmt s fp addr
      | some w =>
        if ! (client.validDates || ! s.clock.everSet) then denyMgmt s fp addr
        else match freeMgmt s with
        | none => turnAway s addr
        | some k =>
          if 2 ≤ sessionsOf s w then turnAway s addr
          else openSess (updFw s (fun f => { f with sessionSeen := true })) (.mgmt k)
            { machine := true, warden := some w, lastRx := s.clock.ledger, startWall := wallNow s, peer := addr
              local_ := localAddr, ifc := ifc, mss := cfgField s (.macCfg ((ipPort s 0).getD .p0)) "MAX_FRAME", tls := some (suite, group, ownCertificate s) })

/-- MGMT_IDLE_TIMEOUT (R226): 600 s without a received line. -/
def execMgmtIdleTimeout (k : Fin 8) (s : State) : Host.Outcome State Fault Refusal :=
  .next (match getSess s (.mgmt k) with
    | none => s
    | some d => closeMgmt (advanceTo s (d.lastRx + 600 * sec)) k 1)

/-- MGMT_SESSION_CLOSE (Fimor channels table): the peer closes the connection. -/
def execMgmtSessionClose (k : Fin 8) (s : State) : Host.Outcome State Fault Refusal := .next (closeMgmt s k 2)

/-! ### Wardens (R257 to R259) -/

/-- WARDEN_ENROL (R257): an empty slot takes a fingerprint that no other slot holds. -/
def execWardenEnrol (l : Line) (slot : Int) (fp : List Byte) (name : Option String) (s : State) :
    Host.Outcome State Fault Refusal :=
  .next (runCmd s l { priv := true } (rangeErr slot 0 3) (fun s _ =>
    let w : Fin 4 := Fin.ofNat 4 slot.toNat
    if (AMap.find s.con.wardens w).isSome then .say s (.err .slotUsed) none
    else if (wardenOf s fp).isSome then .say s (.err .fpEnrolled) none
    else
      let s := updCon s (fun c => { c with wardens := AMap.set c.wardens w { fp := fp, name := name } })
      .say (logEv s .wardenEnrolled { details := [(w.val : Int), fpWord fp] }) (okLine [("", .name "warden"), ("", vn w.val), ("", .name "enrolled")]) none))

/-- A removed warden's session takes no new command and closes once its accepted ones are answered (R258). -/
def retireSession (w : Fin 4) (self : SessId) (s : State) (x : SessId) : State :=
  match getSess s x with
  | none => s
  | some d =>
    if d.warden = some w then
      if d.slots.isEmpty ∧ x ≠ self then (match x with | .mgmt k => closeMgmt s k 3 | _ => s)
      else updSess s x (fun d => { d with closing := true })
    else s

/-- WARDEN_REMOVE (R258, R501): the slot is emptied, the warden's sessions close, its stalls have no owner. -/
def execWardenRemove (l : Line) (slot : Int) (s : State) : Host.Outcome State Fault Refusal :=
  .next (runCmd s l { priv := true } (rangeErr slot 0 3) (fun s _ =>
    let w : Fin 4 := Fin.ofNat 4 slot.toNat
    if (AMap.find s.con.wardens w).isNone then .say s (.err .noSuchWarden) none
    else
      let s := updCon s (fun c => { c with wardens := AMap.del c.wardens w })
      let s := updStalls s (fun c => { c with
        tab := c.tab.map (fun x => (x.1, if x.2.owner = some w then { x.2 with owner := none } else x.2)) })
      let s := logEv s .wardenRemoved { details := [(w.val : Int)] }
      .say ((AMap.keys s.con.sessions).foldl (retireSession w l.sess) s) okReply none))

/-- A fingerprint as its first and last four hexadecimal digits (R259). -/
def fpEnds (fp : List Byte) : String := bytesText (fp.take 2) ++ "…" ++ bytesText (fp.drop (fp.length - 2))

/-- The answer of WARDEN_SHOW (R259). -/
def wardenShowAnswer (s : State) : Reply :=
  .ok ([("wardens", vn s.con.wardens.length), ("", .name "of"), ("", vn 4)] :: s.con.wardens.map (fun w =>
    [("slot", vn w.1.val)] ++ (match w.2.name with | some n => [("name", .str n)] | none => [])
      ++ [("fp", .name (fpEnds w.2.fp)), ("sessions", vn (sessionsOf s w.1))]))

/-- WARDEN_SHOW (R259): each occupied slot, its name, the ends of its fingerprint, its open sessions. -/
def execWardenShow (l : Line) (s : State) : Host.Outcome State Fault Refusal :=
  .next (showCmd s l {} none wardenShowAnswer)

end Sys2Proof.Machine
end

