-- ==== Sys2Proof/Machine/Power.lean ====
section
/-!
DEFINITION. Feeds, levels, hold-up, cold and heat (ch. 03): the commands, and the status words of the PWR island.
-/

namespace Sys2Proof.Machine

open Sys2Proof

/-! ### Status words -/

/-- A port's byte of PWR.FEED.STATUS. -/
def feedByte (s : State) (p : PortId) : Nat :=
  let f := getFeed s p
  128 * b2n f.powered + 64 * b2n (decide (s.power.lead = some p)) + 32 * b2n f.lldpSeen + 16 * b2n f.starved + f.pseType

/-- The lead port's last allocation, 0 for none. -/
def leadAlloc (s : State) : Nat :=
  match s.power.lead with | none => 0 | some p => ((getFeed s p).alloc).getD 0

/-- PWR.FEED.STATUS. -/
def feedStatusWord (s : State) : Word64 :=
  packWord [(48, levelCode s.power.level), (32, budget s), (16, leadAlloc s), (8, feedByte s .p1), (0, feedByte s .p0)]

/-- PWR.HOLDUP.STATUS; DIRTY is rounded up to MiB. -/
def holdupStatusWord (s : State) : Word64 :=
  packWord [(48, s.power.eMeas), (32, eAvail s), (23, cap s), (14, Nat.min 511 (ceilDiv (dirtyBytes s) mib)),
    (3, b2n (! s.power.cells.isEmpty)), (2, b2n (decide (s.power.measuring ≠ .idle))), (1, b2n s.power.weak),
    (0, b2n (writeThrough s))]

/-- PWR.THERMAL.STATUS. -/
def thermalStatusWord (s : State) : Word64 :=
  packWord [(48, signedField 16 s.power.flashMax), (32, signedField 16 s.power.flashMin), (4, b2n s.power.heater),
    (3, b2n s.power.coldGate), (0, thermalCode s.power.thermal)]

/-- A level as a name (ch. 03, Power levels table). -/
def levelName : Level → String
  | .l0 => "L0" | .l1 => "L1" | .l2 => "L2" | .l3 => "L3"

/-- A thermal state as a name (ch. 03, Thermal states table). -/
def thermalName : Thermal → String
  | .normal => "NORMAL" | .throttle1 => "THROTTLE1" | .throttle2 => "THROTTLE2" | .halt => "HALT"

/-- The answer of POWER_SHOW: every field of the four words, the levels and the state by name (R138). -/
def powerShowAnswer (s : State) : Reply :=
  .ok [("level", .name (levelName s.power.level)) :: wordFields .feedStatus (feedStatusWord s),
    ("level_max", .name (levelName (levelMax s))) :: wordFields .policy (policyNow s),
    wordFields .holdupStatus (holdupStatusWord s),
    ("state", .name (thermalName s.power.thermal)) :: wordFields .thermalStatus (thermalStatusWord s)]

/-- POWER_SHOW (R138). -/
def execPowerShow (l : Line) (s : State) : Host.Outcome State Fault Refusal :=
  .next (showCmd s l { safe := true, hold := true } none powerShowAnswer)

/-! ### Feeds -/

/-- FEED_LOST (R101 to R103, R322): a powered input stays below 40 V for 20 µs; the loss of the lead changes over to a
powered standby, with `energy` drawn from the bank, at most 2 J. -/
def execFeedLost (p : PortId) (energy vBank : Nat) (s : State) : Host.Outcome State Fault Refusal :=
  .next (if ¬ (getFeed s p).powered then s
    else
      let s := updFeed s p (fun f => { f with powered := false, detect := false, pseType := 0, alloc := none, late := none,
                                              lldpSeen := false, echo := 0 })
      let s := logEv s .feedLost { port := some p }
      if s.power.lead = some p then
        let s := updPower s (fun d => { d with vBank := Nat.min d.vBank vBank })
        if (getFeed s p.other).powered then changeLead s p.other .loss (Nat.min energy 200) else s
      else noteStandby s)

/-- FEED_RESTORED (R100, R103, R109): a port is powered again; once a lead is selected it becomes the standby. -/
def execFeedRestored (p : PortId) (classEvents : Nat) (s : State) : Host.Outcome State Fault Refusal :=
  .next (powerPort s p classEvents)

/-- PLANNED_CHANGEOVER (R99): the standby has permitted a higher level for 30 s, or the lead permits none and the standby
does. -/
def execPlannedChangeover (energy : Nat) (s : State) : Host.Outcome State Fault Refusal :=
  .next (match s.power.lead with
    | none => s
    | some p =>
      if budgetOf s p < 120 ∧ 120 ≤ budgetOf s p.other then changeLead s p.other .planned energy
      else match s.power.standbySince with
        | none => s
        | some t => changeLead (advanceTo s (t + 30 * sec)) p.other .planned energy)

/-! ### LLDP power -/

/-- LLDP_TRANSMIT (LLDP power exchange table, R103 to R107): the request and the echo go out on a port. -/
def execLldpTransmit (p : PortId) (s : State) : Host.Outcome State Fault Refusal :=
  .next (sendLink (updPort s p (fun d => { d with lldpFast := d.lldpFast - 1 })) p
    (lldpPdu s p 120) 4)

/-- A PSE allocation for a port (R95, R104, R105). -/
def allocation (s : State) (p : PortId) (alloc : Nat) : State :=
  let s := updFeed s p (fun f => { f with alloc := some alloc, lldpSeen := true })
  let s := rebudget s
  updFeed s p (fun f => { f with echo := alloc })

/-- An allocation arrives: during a gatehouse update it is kept, the newest of a port, until the MCU is back (R763). -/
def takeAllocation (s : State) (p : PortId) (alloc : Nat) : State :=
  if s.fw.gateUpdate.isSome then updFeed s p (fun f => { f with late := some alloc, lldpSeen := true })
  else allocation s p alloc

/-- The MCU is back after a gatehouse update: the allocations that arrived meanwhile are applied (R763). -/
def lateAllocations (s : State) : State :=
  [PortId.p0, PortId.p1].foldl (fun s p =>
    match (getFeed s p).late with
    | some a => allocation (updFeed s p (fun f => { f with late := none })) p a
    | none => s) s

/-! ### Levels -/

/-- LEVEL_UP (R111): the higher level's figure has been met for 30 s, 60 s have passed since the last change, and the bank
is full; the drive moves to the highest level then permitted. -/
def execLevelUp (s : State) : Host.Outcome State Fault Refusal :=
  .next (match s.power.upSince with
    | none => s
    | some t =>
      if fullyCharged s then
        let s := advanceTo s (Nat.max (t + 30 * sec) (s.power.levelAt + 60 * sec))
        noteBudget (setLevel s (levelFor (budget s)))
      else s)

/-- STARVED_TIMEOUT (R108): no allocation of 12 W within 10 s; the port is marked and the drive halts to restart. -/
def execStarvedTimeout (s : State) : Host.Outcome State Fault Refusal :=
  .next (match s.power.starvingSince, s.power.lead with
    | some t, some p =>
      let s := advanceTo s (t + 10 * sec)
      let s := updFeed s p (fun f => { f with starved := true })
      beginHalt (updPower s (fun d => { d with starvingSince := none })) .starvation
    | _, _ => s)

/-! ### The hold-up bank -/

/-- HOLDUP_MEASURE (R116, R139): busy while one runs or before the bank has been full since the last. -/
def execHoldupMeasure (l : Line) (s : State) : Host.Outcome State Fault Refusal :=
  .next (runCmd s l {} none (fun s _ =>
    if s.power.measuring ≠ .idle ∨ ¬ s.power.charged then .say s .busy none
    else .say (askMeasure s .command) (okLine [("", .name "measuring")]) none))

/-- HOLDUP_PERIODIC (R115, R116): 24 h after the last measurement. -/
def execHoldupPeriodic (s : State) : Host.Outcome State Fault Refusal :=
  .next (if powered s ∧ s.power.measuring = .idle then
      askMeasure (advanceTo s (s.power.lastMeas + day)) .periodic
    else s)

/-- HOLDUP_DISCHARGE_START (R116): dirty data has fallen to the lowered cap and the bank is full. -/
def execHoldupDischargeStart (s : State) : Host.Outcome State Fault Refusal :=
  .next (if s.power.measuring = .draining ∧ (dirtyBytes s ≤ cap s * mib ∨ s.upkeep.measCause = some .cellFault)
        ∧ fullyCharged s then
      updPower s (fun d => { d with measuring := .discharging })
    else s)

/-- HOLDUP_MEASURE_DONE (R115, R118, R120): the 2.0 s discharge ends with E and the bank's voltage. -/
def execHoldupMeasureDone (e vBank : Nat) (s : State) : Host.Outcome State Fault Refusal :=
  .next (if s.power.measuring = .discharging then
      let s := recordE s e
      judgeE (updPower s (fun d => { d with vBank := vBank, measuring := .recharging, charged := false }))
    else s)

/-- BANK_RECHARGED (R115 to R117): the bank is back at 30.0 V and the cap at its normal value; a measurement that a cell
asked for begins. -/
def execBankRecharged (s : State) : Host.Outcome State Fault Refusal :=
  .next (
    let s := updPower s (fun d => { d with vBank := 30000, charged := true,
                                           measuring := if d.measuring = .recharging then .idle else d.measuring })
    if s.power.measAgain ∧ s.power.measuring = .idle then measureCell (updPower s (fun d => { d with measAgain := false }))
    else if s.power.measuring = .draining ∧ s.upkeep.measCause = some .cellFault then measureCell s
    else s)

/-- HOLDUP_CHARGE_TIMEOUT (R123): E is recorded as 0, HOLDUP_WEAK with reason NO_CHARGE, write-through. -/
def execHoldupChargeTimeout (vBank : Nat) (s : State) : Host.Outcome State Fault Refusal :=
  .next (if s.power.measuring = .idle then s
    else
      let s := recordE (updPower s (fun d => { d with measAgain := false })) 0
      let was := s.power.weak
      let s := updPower s (fun d => { d with vBank := vBank, measuring := .idle, charged := false, weak := true })
      if was then s else logEv s .holdupWeak { reason := 2, details := [0] })

/-- CELL_FAULT (R115, R117): a cell begins to differ from the mean by more than 0.3 V; write-through until a new measurement
completes, which starts as soon as the bank is full. -/
def execCellFault (cell : Fin 12) (deviation : Int) (s : State) : Host.Outcome State Fault Refusal :=
  .next (if s.power.cells.contains cell then s
    else
      let s := updPower s (fun d => { d with cells := cell :: d.cells, cellWt := true })
      measureCell (logEv s .cellFault { details := [(cell.val : Int), deviation] }))

/-- CELL_RETURN (R117): the cell is back within 0.3 V; write-through stays until a measurement completes. -/
def execCellReturn (cell : Fin 12) (s : State) : Host.Outcome State Fault Refusal :=
  .next (updPower s (fun d => { d with cells := d.cells.filter (fun c => decide (c ≠ cell)) }))

/-! ### Cold and heat -/

/-- COLD_GATE (R128, R129): the lowest reading falls below −20.0 °C and writes are gated. -/
def execColdGate (flashMin : Int) (s : State) : Host.Outcome State Fault Refusal :=
  .next (
    let s := updPower s (fun d => { d with flashMin := flashMin })
    if flashMin < -200 ∧ ¬ s.power.coldGate then
      logEv (updPower s (fun d => { d with coldGate := true, dummy := dummyFor { d with coldGate := true } })) .coldGate { details := [flashMin] }
    else s)

/-- HEATER_SWITCH (R96, R130, R132): on below −15.0 °C, off from −10.0 °C, and always off at L2, at L3 and before S03. -/
def execHeaterSwitch (flashMin : Int) (s : State) : Host.Outcome State Fault Refusal :=
  .next (
    let h := heaterFor s flashMin
    updPower s (fun d => { d with flashMin := flashMin, heater := h, dummy := dummyFor d }))

/-- THERMAL_THROTTLE (R133, R134): the highest reading gives a new state, once; HALT begins an orderly halt. -/
def execThermalThrottle (flashMax : Int) (s : State) : Host.Outcome State Fault Refusal :=
  .next (
    let old := s.power.thermal
    let new := thermalNext old flashMax
    let s := updPower s (fun d => { d with flashMax := flashMax, thermal := new })
    if new = old then s
    else
      let s := logEv s .thermalThrottle { details := [(thermalCode old : Int), (thermalCode new : Int)] }
      if new = .halt then beginHalt (logEv s .thermalHalt { details := [flashMax] }) .thermal else s)

end Sys2Proof.Machine
end

