-- ==== Sys2Proof/Machine/Fw.lean ====
section
/-!
DEFINITION. The commands of firmware parcels and updates (ch. 17).
-/

namespace Sys2Proof.Machine

open Sys2Proof

/-! ### Pieces -/

/-- What the command index says of the parcel commands. -/
def parcelCmd : CmdInfo := { safe := true, consolesSafe := true }

/-- PARCEL_PIECE (R743, R745 to R747): the line and its block have arrived. -/
def execParcelPiece (l : Line) (n len : Int) (d : PieceData) (s : State) : Host.Outcome State Fault Refusal :=
  .next (runCmd s l { parcelCmd with machineOnly := true } (firstErr [rangeErr n 0 1023, rangeErr len 1 65536]) (fun s _ =>
    if (coldNow s && ! piecesToSlot s) || tooSoon s n.toNat then .say s .busy none
    else
      let (s, r) := takePiece s n.toNat d
      .say s r none))

/-- PIECE_TIMEOUT (R744): 60 s after the line its block has not arrived whole. -/
def execPieceTimeout (l : Line) (s : State) : Host.Outcome State Fault Refusal :=
  .next (match getSess s l.sess with
    | none => s
    | some d =>
      let s := advanceTo s (d.lastRx + 60 * sec)
      let s := answer s l.sess l.tag (.err .pieceTimeout)
      match l.sess with
      | .mgmt k => closeMgmt s k 5
      | x => updSess s x (fun d => { d with machine := false, crc := false, partialLine := [], lineReady := none }))

/-- PARCEL_EXPIRY (R748). -/
def execParcelExpiry (s : State) : Host.Outcome State Fault Refusal :=
  .next (match s.fw.parcel with
    | none => s
    | some p =>
      if p.state = .receiving then
        let s := advanceTo s (p.since + 30 * day)
        logEv (updFw s (fun f => { f with parcel := none })) .parcelExpired
          { details := [(p.manifest.id : Int), (p.pieces.length : Int)] }
      else
        match p.installedAt with
        | some t => if s.fw.install.isSome then s else updFw (advanceTo s (t + 30 * day)) (fun f => { f with parcel := none })
        | none => s)

/-- The ranges of the pieces missing. -/
def missingPieces (p : Parcel) : List Nat := (List.range p.manifest.pieces).filter (fun n => ! p.pieces.contains n)

/-- The answer of PARCEL_SHOW. -/
def parcelShowAnswer (s : State) : Reply :=
  match s.fw.parcel with
  | none => okLine [("parcel", vn 0), ("state", vn 0)]
  | some p => .ok ([("parcel", vn p.manifest.id), ("state", vn (parcelCode p.state)), ("version", vn p.manifest.version),
      ("gate_version", vn p.manifest.gateVersion), ("held", vn p.pieces.length), ("age", vn ((now s - p.since) / sec)),
      ("role", .name (if s.fw.pull.isSome then "puller" else if (match s.fw.a.relayOrigin, s.fw.b.relayOrigin with
        | none, none => false | _, _ => true) then "source" else "none"))]
    :: (missingPieces p).map (fun n => [("missing", vn n)]))

/-- PARCEL_SHOW. -/
def execParcelShow (l : Line) (s : State) : Host.Outcome State Fault Refusal :=
  .next (showCmd s l parcelCmd none parcelShowAnswer)

/-! ### Install -/

/-- PARCEL_INSTALL (R749): the checks, then the gatehouse or the slot. -/
def execParcelInstall (l : Line) (relay later : Bool) (r : InstallResult) (s : State) : Host.Outcome State Fault Refusal :=
  .next (runCmd s l parcelCmd none (fun s n =>
    match installErr s r, s.fw.parcel with
    | some e, _ => .say (refuseInstall s e) e none
    | none, none => .say s (.err .noParcel) none
    | none, some p =>
      let i : Install := { slot := some (l.sess, n), relay := if relay then some Config.serial else none, source := none
                           later := later, slotOk := r.slotOk, cut := r.cut }
      let s := updParcel (updFw s (fun f => { f with install := some i })) (fun p => { p with state := .installing })
      if p.manifest.order = 1 ∨ p.manifest.comp = 4 then .wait (runInstall s i p.manifest)
      else
        let t := targetSlot s
        let s := writeSlot s { i with slot := none, later := true } p.manifest
        if r.cut then .wait s
        else if ! r.slotOk then .say s (.err .badParcel) none
        else .say s (okLine [("", .name "staged"), ("slot", slotName t)]) (if later ∨ runSlot s = none then none else some (.halt .restart))))

/-- GATE_UPDATE_DONE (R749 step 3, R762 to R765). -/
def execGateUpdateDone (reported slotOk : Bool) (s : State) : Host.Outcome State Fault Refusal :=
  .next (match s.fw.gateUpdate with
    | none => s
    | some u =>
      let s := gateOutcome (updFw s (fun f => { f with gateUpdate := none })) u.version reported slotOk
      let s := lateAllocations s
      match s.fw.install, s.fw.parcel with
      | some i, some p =>
        if ! u.install then s
        else if ! (reported && slotOk) then endInstall s i .gateFailed
        else if p.manifest.comp = 4 then
          let s := updParcel (updFw s (fun f => { f with install := none }))
            (fun p => { p with state := .installed, installedAt := some s.clock.ledger })
          answerSlot s i.slot (okLine [("gate", vn u.version)])
        else writeSlot s i p.manifest
      | _, _ => s)

/-- PARCEL_ABANDON (R748). -/
def execParcelAbandon (l : Line) (s : State) : Host.Outcome State Fault Refusal :=
  .next (runCmd s l parcelCmd none (fun s _ =>
    match s.fw.parcel with
    | none => .say s (.err .noParcel) none
    | some _ =>
      if s.fw.install.isSome || s.fw.a.state = .trial || s.fw.b.state = .trial then .say s .busy none
      else .say (updFw s (fun f => { f with parcel := none, pull := none })) okReply none))

/-- Seconds left of the trial window. -/
def windowLeft (s : State) : Nat := match s.fw.trialAt with | some t => (t + 1800 * sec - now s) / sec | none => 0

/-- The answer of FW_SHOW. -/
def fwShowAnswer (s : State) : Reply :=
  .ok [fieldLine .fwStatus (fwStatusWord s),
    [("version_a", vn s.fw.a.version), ("svn_a", vn s.fw.a.svn), ("version_b", vn s.fw.b.version), ("svn_b", vn s.fw.b.svn),
      ("gate_version", vn (gateVersion s)), ("window", vn (windowLeft s))]]

/-- FW_SHOW. -/
def execFwShow (l : Line) (s : State) : Host.Outcome State Fault Refusal :=
  .next (showCmd s l { recovery := true } none fwShowAnswer)

/-! ### The trial -/

/-- TRIAL_CONFIRM (R754, R755): the first moment at which the conditions hold, within the window. -/
def execTrialConfirm (fuseFail : List Nat) (s : State) : Host.Outcome State Fault Refusal :=
  .next (match s.fw.trialAt, runSlot s with
    | some t, some b =>
      if mayConfirm s ∧ (fwSlot s b).state = .trial ∧ confirmAt s t ≤ t + 1800 * sec ∧ now s ≤ t + 1800 * sec ∧ running s then
        confirmSlot (advanceTo s (confirmAt s t)) b fuseFail
      else s
    | _, _ => s)

/-- TRIAL_WINDOW_END (R753, R755): without confirmation. -/
def execTrialWindowEnd (s : State) : Host.Outcome State Fault Refusal :=
  .next (match s.fw.trialAt, runSlot s with
    | some t, some b =>
      if (fwSlot s b).state = .trial ∧ running s then
        let s := advanceTo s (t + 1800 * sec)
        beginHalt (updFw s (fun f => { f with trialAt := none, attemptFailed := true })) .restart
      else s
    | _, _ => s)

/-! ### Relay along the row -/

/-- RELAY_OFFER (R770, R771). -/
def execRelayOffer (h : RowHdr) (o : RelayOffer) (r : InstallResult) (s : State) : Host.Outcome State Fault Refusal :=
  .next (takeRow s h (fun s =>
    let say (st : RelayStat) (s : State) : State := rowSend s o.source (.relayStatus o.parcel Config.serial st)
    if cfgField s .fwCfg "RELAY_ACCEPT" = 0 then (say .refused s, .ok)
    else if o.version ≤ mainVersion s then
      let s := say .skipped s
      (match neighbourOf s with
        | some n => if n = o.origin then s else rowSend s n (.relayOffer o)
        | none => s, .ok)
    else if parcelId s ≠ 0 ∧ parcelId s ≠ o.parcel then (say .failed s, .ok)
    else
      let s := updFw s (fun f => { f with pull := some o })
      match s.fw.parcel with
      | some p => if p.state = .receiving then (askPiece s o, .ok) else (relayInstall s o r, .ok)
      | none => (askPiece s o, .ok)))

/-- PIECE_REQ (R768, R770): the piece goes out in messages of 8,192 bytes. -/
def execPieceReq (h : RowHdr) (parcel n : Nat) (s : State) : Host.Outcome State Fault Refusal :=
  .next (takeRow s h (fun s =>
    match s.fw.parcel with
    | none => (s, .refused)
    | some p =>
      if p.manifest.id = parcel ∧ p.pieces.contains n then
        let len := Nat.min 65536 (p.manifest.length - 65536 * n)
        (rowSend s h.peer (.relayPiece parcel n len) h.msgId, .ok)
      else (s, .refused)))

/-- The manifest of piece 0 is the one the offer names (R770). -/
def offeredPiece (o : RelayOffer) (d : PieceData) : Bool :=
  match d with
  | .manifest m hash => decide (hash = o.hash0) && decide (m.id = o.parcel)
  | .piece _ => true

/-- RELAY_PIECE (R745, R768, R770, R778): a whole piece has arrived from SOURCE. -/
def execRelayPiece (h : RowHdr) (n : Nat) (d : PieceData) (r : InstallResult) (s : State) : Host.Outcome State Fault Refusal :=
  .next (takeRow s h (fun s =>
    match s.fw.pull with
    | none => (s, .refused)
    | some o =>
      if o.source ≠ h.peer then (s, .refused)
      else if coldNow s then (askPiece s o, .tryLater)
      else if ! offeredPiece o d then (askPiece s o, .ok)
      else
        let (s, a) := takePiece s n d
        match a with
        | .err .pieceHash => (askPiece s o, .ok)
        | .err _ => (reportTo (updFw s (fun f => { f with pull := none })) o.source o.parcel .failed, .ok)
        | _ =>
          match s.fw.parcel with
          | some p => if p.state = .receiving then (askPiece s o, .ok) else (relayInstall s o r, .ok)
          | none => (s, .ok)))

/-- RELAY_STATUS (R748, R772). -/
def execRelayStatus (h : RowHdr) (parcel reporter : Nat) (st : RelayStat) (s : State) : Host.Outcome State Fault Refusal :=
  .next (takeRow s h (fun s =>
    let s := match st with
      | .failed => logEv s .fwRelayStopped { reason := relayCode st, details := [(reporter : Int), (parcel : Int)] }
      | .refused => logEv s .fwRelayStopped { reason := relayCode st, details := [(reporter : Int), (parcel : Int)] }
      | _ => s
    (match st with | .skipped => s | _ => endRelay s parcel, .ok)))

end Sys2Proof.Machine
end

