-- ==== Sys2Proof/Machine/Meter.lean ====
section
/-!
DEFINITION. The metering commands (ch. 12): the second's tick and the two reports, with the layout of a closed period's
record.
-/

namespace Sys2Proof.Machine

open Sys2Proof

/-- METER_TICK (R561, R566): one second of ledger time passes; STORED accrues in every stall that has a period, and the
closing rules apply; in a start STORED accrues once S10 has restored the periods, and the closing rules wait for S24. -/
def execMeterTick (s : State) : Host.Outcome State Fault Refusal :=
  .next (
    let s := advanceBy s sec
    if metering s then (stallNos s).foldl meterSecond s
    else if starting s && stepDone s 10 then (stallNos s).foldl (fun s n => chargeStored s n (useBytes s n) sec) s
    else s)

/-- The sixteen words of a closed period's record (ch. 12, Closed period record). -/
def recordWords (r : PeriodRec) : List Word64 :=
  let p := r.period
  let (a, b) := p.bounds.getD (0, 0)
  [word p.seq, periodWord1 p (causeCode r.cause) r.generation, word a, word b, word p.wallOpen, word r.wallClose,
    word p.ltimeOpen, word r.ltimeClose, word p.acc.stored, word p.acc.written, word p.acc.read, word p.acc.ops,
    word p.acc.shredded, word r.host, 0, 0]

/-- The fields of an accumulator set by name. -/
def accFields (a : Accs) : List (String × Val) :=
  [("stored", vn a.stored), ("written", vn a.written), ("read", vn a.read), ("ops", vn a.ops),
    ("shredded", vn a.shredded)]

/-- The fields of a period by name. -/
def periodFields (p : Period) : List (String × Val) :=
  let (a, b) := p.bounds.getD (0, 0)
  [("seq", vn p.seq), ("kind", vn p.kind), ("wall_start", vn a), ("wall_end", vn b), ("wall_open", vn p.wallOpen),
    ("ltime_open", vn p.ltimeOpen), ("undated", vb p.bounds.isNone), ("stepped_back", vb p.steppedBack),
    ("gap", vb p.gap), ("saturated", vb (! p.saturated.isEmpty)), ("steps", vn p.steps)] ++ accFields p.acc

/-- The answer of METER_SHOW. -/
def meterShowAnswer (stall : Int) (s : State) : Reply :=
  match (getStall s (stallArg stall)).period with
  | none => okReply
  | some p => okLine (periodFields p ++ [("elapsed", vn (now s - p.ltimeOpen)), ("l", vn (periodLen p))])

/-- METER_SHOW (ch. 12, Metering commands): the open period. -/
def execMeterShow (l : Line) (stall : Int) (s : State) : Host.Outcome State Fault Refusal :=
  .next (showCmd s l {} (stallErr stall) (meterShowAnswer stall))

/-- The answer of METER_RECORDS. -/
def meterRecordsAnswer (stall : Int) (from_ : Option Nat) (count : Option Int) (raw : Bool) (s : State) : Reply :=
  let n := count.getD 36
  let rs := ((getStall s (stallArg stall)).records.reverse.filter
    (fun r => decide (from_.getD 0 ≤ r.period.seq))).take n.toNat
  .ok ([("records", vn rs.length)] :: rs.map (fun r =>
    if raw then (recordWords r).map (fun w => ("word", .word w))
    else periodFields r.period ++ [("cause", vn (causeCode r.cause)), ("generation", vn r.generation),
      ("wall_close", vn r.wallClose), ("ltime_close", vn r.ltimeClose), ("host", vn r.host)]))

/-- METER_RECORDS (ch. 12, Metering commands): closed records from a SEQ on, oldest first, up to a count of 1 to 36, the
greatest by default. -/
def execMeterRecords (l : Line) (stall : Int) (from_ : Option Nat) (count : Option Int) (raw : Bool) (s : State) :
    Host.Outcome State Fault Refusal :=
  let n := count.getD 36
  .next (showCmd s l {} (firstErr [stallErr stall, rangeErr n 1 36]) (meterRecordsAnswer stall from_ count raw))

end Sys2Proof.Machine
end

