-- ==== Sys2Proof/Machine/Row.lean ====
section
/-!
DEFINITION. The commands of the row (ch. 16).
-/

namespace Sys2Proof.Machine

open Sys2Proof

/-! ### Beacons and membership -/

/-- BEACON_SEND (R702): the timer expires. -/
def execBeaconSend (s : State) : Host.Outcome State Fault Refusal :=
  .next (if s.row.beaconing ∧ running s then
      let s := match s.row.beaconAt with | some t => advanceTo s (t + sec) | none => s
      let s := updRow s (fun d => { d with beaconAt := some (now s) })
      let t := reorder s
      if t.row = s.row then sendBeacon s else t
    else s)

/-- A beacon is accepted (R703). -/
def beaconOk (s : State) (b : Beacon) : Bool :=
  b.wellFormed && decide (b.rowId = cfgField s .rowCfg "ROW_ID") && b.macOk && decide (b.serial ≠ Config.serial)
    && (match AMap.find s.row.seqs b.serial with | some q => decide (q < b.seq) | none => true)

/-- ROW_SERIAL_CONFLICT, at most once a minute (R704). -/
def serialConflict (s : State) (b : Beacon) : State :=
  let fresh : Bool := match s.row.conflictAt with | some t => decide (t + 60 * sec ≤ now s) | none => true
  if b.macOk && decide (b.serial = Config.serial) && fresh then
    logEv (updRow s (fun d => { d with conflictAt := some (now s) })) .rowSerialConflict { details := addrWords b.src }
  else s

/-- BEACON_RECEIVE (R703, R704, R706, R709, R711). -/
def execBeaconReceive (b : Beacon) (s : State) : Host.Outcome State Fault Refusal :=
  .next (if s.row.beaconing ∧ running s then
      if beaconOk s b then takeBeacon s b
      else updRow (serialConflict s b) (fun d => { d with beaconBad := d.beaconBad + 1 })
    else s)

/-- MEMBER_TIMEOUT (R707): 5,000 ms after the member's last beacon. -/
def execMemberTimeout (serial : Nat) (s : State) : Host.Outcome State Fault Refusal :=
  .next (if s.row.state = .leader ∧ s.row.beaconing ∧ running s ∧ serial ≠ Config.serial then
      match s.row.members.find? (fun m => decide (m.serial = serial)) with
      | some m => removeMember (advanceTo s (m.at_ + 5 * sec)) serial false
      | none => s
    else s)

/-- LEADER_TIMEOUT (R710, R712): 5,000 ms without a leader beacon. A drive that joins after a commit leads a row of one. -/
def execLeaderTimeout (s : State) : Host.Outcome State Fault Refusal :=
  .next (if s.row.beaconing ∧ running s then
      match s.row.state, s.row.leaderAt with
      | .member, some t =>
        let s := advanceTo s (t + 5 * sec)
        let s := updRow (setView s (s.row.members.drop 1)) (fun d => { d with leaderAt := some (now s) })
        if leaderOf s = some Config.serial then lead s (Nat.max s.row.epoch s.row.seenEpoch + 1) else s
      | .joining, some t => if ready s then leadAlone (advanceTo s (t + 5 * sec)) else s
      | _, _ => s
    else s)

/-- ROW_LEAVE (R707, R714): the leader removes the sender; the next member in order takes over from a leader that leaves. -/
def execRowLeave (h : RowHdr) (s : State) : Host.Outcome State Fault Refusal :=
  .next (takeRow s h (fun s =>
    if s.row.state = .leader ∧ isMember s h.peer then (removeMember s h.peer true, .ok)
    else if s.row.state = .member ∧ leaderOf s = some h.peer ∧ successorOf s h.peer = some Config.serial then
      let s := updRow s (fun d => { d with state := .leader, leaderAt := none })
      let s := removeMember s h.peer true
      (logEv s .rowLeader { details := [(s.row.epoch : Int)] }, .ok)
    else (s, .ok)))

/-! ### ACKs -/

/-- ROW_ACK (R715, R717, R730). The ACK of a payload's last message answers for the payload. -/
def execRowAck (h : RowHdr) (status : AckStatus) (s : State) : Host.Outcome State Fault Refusal :=
  .next (if ! rowRuns s then s
    else if ! rowKnows s h.peer then updRow s (fun d => { d with msgBad := d.msgBad + 1 })
    else
      match s.row.unacked.find? (fun u => decide (u.msg.peer = h.peer) && decide (u.msg.msgId = h.refId)) with
      | some u =>
        let t := dropUnacked s u.msg
        if u.msg.part + 1 = u.msg.parts then mirrorAcked t (groupId u.msg) status else t
      | none => s)

/-- ROW_RETRANSMIT (R715): 200 ms without an ACK. -/
def execRowRetransmit (peer msgId : Nat) (s : State) : Host.Outcome State Fault Refusal :=
  .next (if ! rowRuns s then s
    else
      match s.row.unacked.find? (fun u => decide (u.msg.peer = peer) && decide (u.msg.msgId = msgId)) with
      | none => s
      | some u =>
        let s := advanceTo s (u.at_ + 200000)
        if u.sent < 5 then
          rowWire (updRow s (fun d => { d with unacked := d.unacked.map (fun v =>
            if v.msg = u.msg then { v with sent := v.sent + 1, at_ := now s } else v) })) u.msg
        else msgFailed (dropGroup s u.msg) u.msg)

/-! ### The row search -/

/-- FIND_REQ (R720): served at once, or it waits while four are served. -/
def execFindReq (h : RowHdr) (m : FindReqMsg) (s : State) : Host.Outcome State Fault Refusal :=
  .next (takeRow s h (fun s =>
    (serveNext (updRow s (fun d => { d with servedWait := d.servedWait ++ [{ peer := h.peer, msgId := h.msgId, req := m }] })), .ok)))

/-- The search a reply belongs to. -/
def searchOf (s : State) (h : RowHdr) : Option RowSearch :=
  s.row.searches.find? (fun x => decide (AMap.find x.reqs h.peer = some h.refId))

/-- A member still searches. -/
def searchesStill (x : RowSearch) (serial : Nat) : Bool := x.members.any (fun m => decide (m.1 = serial) && decide (m.2.1 = .searching))

/-- FIND_PAGE (R722, R725). -/
def execFindPage (h : RowHdr) (records : List ObjRecord) (s : State) : Host.Outcome State Fault Refusal :=
  .next (takeRow s h (fun s =>
    match searchOf s h with
    | some x => (if searchesStill x h.peer then takeRecords s x.ticket h.peer records else s, .ok)
    | none => (s, .ok)))

/-- The member status of a FIND_END. -/
def endStatus : FindEnd → MemberStatus
  | .answered => .answered | .partial_ => .partial_ | .failed => .failed

/-- FIND_END (R722). -/
def execFindEnd (h : RowHdr) (status : FindEnd) (s : State) : Host.Outcome State Fault Refusal :=
  .next (takeRow s h (fun s =>
    match searchOf s h with
    | some x => (endIfDone (memberEnds s x.ticket h.peer (endStatus status)) x.ticket, .ok)
    | none => (s, .ok)))

/-- FIND_CANCEL (R722, R735). -/
def execFindCancel (h : RowHdr) (s : State) : Host.Outcome State Fault Refusal :=
  .next (takeRow s h (fun s =>
    let keep (v : ServedSearch) : Bool := ! (decide (v.peer = h.peer) && decide (v.msgId = h.refId))
    (serveNext (updRow s (fun d => { d with served := d.served.filter keep, servedWait := d.servedWait.filter keep })), .ok)))

/-- ROW_FIND_DEADLINE (R722). -/
def execRowFindDeadline (ticket : Nat) (s : State) : Host.Outcome State Fault Refusal :=
  .next (match getSearch s ticket with
    | some x => endSearch (advanceTo s x.deadline) ticket
    | none => s)

/-! ### Mirroring -/

/-- MIRROR_PUT (R727, R729). -/
def execMirrorPut (h : RowHdr) (o : MirrorObj) (s : State) : Host.Outcome State Fault Refusal :=
  .next (takeRow s h (fun s => takeCopy s o))

/-- MIRROR_UPDATE (R728): the copy's hold. -/
def execMirrorUpdate (h : RowHdr) (origin : Nat) (k : ObjKey) (held : Bool) (s : State) : Host.Outcome State Fault Refusal :=
  .next (takeRow s h (fun s =>
    (updRow s (fun d => { d with copies := AMap.modify d.copies (origin, k) (fun c => { c with obj := { c.obj with held := held } }) }), .ok)))

/-- MIRROR_REMOVE (R728): the copy goes. -/
def execMirrorRemove (h : RowHdr) (origin : Nat) (k : ObjKey) (_erase : Bool) (s : State) : Host.Outcome State Fault Refusal :=
  .next (takeRow s h (fun s => (updRow s (fun d => { d with copies := AMap.del d.copies (origin, k) }), .ok)))

/-- MIRROR_RETRY (R729): the entries whose 10 s have passed are sent again. -/
def execMirrorRetry (s : State) : Host.Outcome State Fault Refusal :=
  .next (if ! rowRuns s then s
    else
      match s.row.retry with
      | [] => s
      | (t, _) :: _ =>
        let s := advanceTo s t
        let go := s.row.retry.filter (fun e => decide (e.1 ≤ now s))
        let s := updRow s (fun d => { d with retry := d.retry.filter (fun e => decide (now s < e.1)) })
        mirrorSettle (go.foldl (fun s e => sendMirror s e.2) s))

/-- MIRROR_SEND (R726): the oldest entry goes to the neighbour. -/
def execMirrorSend (s : State) : Host.Outcome State Fault Refusal :=
  .next (if ! rowRuns s ∨ (mirrorPeer s).isNone then s
    else
      match s.row.queue with
      | [] => s
      | e :: rest => mirrorSettle (sendMirror (updRow s (fun d => { d with queue := rest })) e))

/-- What a stall holds for the catch-up: present objects that carry EVIDENCE with a WSEQ above the mark, found by a search
of its banks (R732). -/
def catchupObjs (s : State) (x : StallNo) : List (ObjKey × Obj) :=
  (findObjs s s x [0x0001000000000000] 0xFFFF000000000000).filter (fun o => decide (s.row.mark < o.2.wseq))

/-- MIRROR_CATCHUP (R732): the next stall. -/
def execMirrorCatchup (s : State) : Host.Outcome State Fault Refusal :=
  .next (if s.row.mirror = .lagging ∧ rowRuns s ∧ s.row.catchup < 128 ∧ arcUp s then
      let x := stallOf s.row.catchup
      let os := catchupObjs s x
      let s := countFind s s x [0x0001000000000000] 0xFFFF000000000000
      let s := os.foldl (fun s o => sendMirror
        (updRow s (fun d => { d with highest := Nat.max d.highest o.2.wseq }))
        { item := .put o.1 o.2.wseq, caught := true }) s
      mirrorSettle (updRow s (fun d => { d with catchup := d.catchup + 1 }))
    else mirrorSettle s)

/-- MIRROR_COPY_EXPIRY (R727): a held copy never expires. -/
def execMirrorCopyExpiry (origin : Nat) (k : ObjKey) (s : State) : Host.Outcome State Fault Refusal :=
  .next (match AMap.find s.row.copies (origin, k) with
    | some c => if c.obj.held ∨ ! svcRuns s then s
        else updRow (advanceTo s c.expiry) (fun d => { d with copies := AMap.del d.copies (origin, k) })
    | none => s)

/-- The answer of MIRROR_SHOW (R730). -/
def mirrorShowAnswer (s : State) : Reply :=
  let origins := (s.row.copies.map (fun c => c.1.1)).dedup
  .ok ([[("state", vn (mirrorCode s.row.mirror)), ("mark", vn s.row.mark), ("queue", vn (mirrorDepth s))]]
    ++ origins.map (fun o => [("origin", vn o), ("held", vn (heldBytes s o))])
    ++ s.row.restores.map (fun r => [("stall", vn r.1.val), ("origin", vn r.2.origin),
        ("restored", vn r.2.restored), ("skipped", vn r.2.skipped)]))

/-- MIRROR_SHOW (R730). -/
def execMirrorShow (l : Line) (s : State) : Host.Outcome State Fault Refusal :=
  .next (showCmd s l {} none mirrorShowAnswer)

/-- MIRROR_DROP (R733). -/
def execMirrorDrop (l : Line) (origin : Nat) (s : State) : Host.Outcome State Fault Refusal :=
  .next (runCmd s l { priv := true } none (fun s _ =>
    .say (updRow s (fun d => { d with copies := d.copies.filter (fun c => decide (c.1.1 ≠ origin)) })) okReply none))

/-- MIRROR_RESTORE (R734): it runs in the background. -/
def execMirrorRestore (l : Line) (origin : Nat) (ostall stall : Int) (s : State) : Host.Outcome State Fault Refusal :=
  .next (runCmd s l { role := stallRole s l.sess (stallArg stall) } (firstErr [stallErr ostall, stallErr stall]) (fun s _ =>
    let x := stallArg stall
    whileDrained s x (fun s =>
      if (getStall s x).state ≠ .active then errRun s .stallState
      else if (AMap.find s.row.restores x).isSome then .say s .busy none
      else .say (updRow s (fun d => { d with
        restores := AMap.set d.restores x { origin := origin, ostall := stallArg ostall } })) okReply none)))

/-- MIRROR_RESTORE_DONE (R734): every copy of the origin's stall is written or skipped; while data writes are refused the restore
waits (R837). -/
def execMirrorRestoreDone (stall : StallNo) (s : State) : Host.Outcome State Fault Refusal :=
  .next (match AMap.find s.row.restores stall with
    | none => s
    | some r =>
      if (dataWriteErr s).isSome then s else
      let cs := s.row.copies.filter (fun c => decide (c.1.1 = r.origin) && decide (c.1.2.stall = r.ostall))
      let s := cs.foldl (fun s c => restoreOne stall s c.2) s
      let r := AMap.getD s.row.restores stall r
      logEv (updRow s (fun d => { d with restores := AMap.del d.restores stall })) .mirrorRestoreDone
        { stall := some stall.val, details := [(r.origin : Int), (r.restored : Int), (r.skipped : Int)] })

/-! ### Reports and the row key -/

/-- The answer of ROW_SHOW. -/
def rowShowAnswer (s : State) : Reply :=
  .ok [fieldLine .rowCfg (cfgWord s .rowCfg), fieldLine .rowStatus (rowStatusWord s),
    [("epoch", vn s.row.epoch), ("leader", vn (rowLeader s)), ("neighbour", vn (rowNeighbour s))]]

/-- ROW_SHOW. -/
def execRowShow (l : Line) (s : State) : Host.Outcome State Fault Refusal :=
  .next (showCmd s l {} none rowShowAnswer)

/-- The answer of ROW_MEMBERS. -/
def rowMembersAnswer (s : State) : Reply :=
  .ok (s.row.members.zipIdx.map (fun m =>
    [("order", vn m.2), ("serial", vn m.1.serial), ("position", vn m.1.position), ("state", vn m.1.state),
      ("since", vn (if m.1.serial = Config.serial then 0 else (now s - m.1.at_) / sec))]))

/-- ROW_MEMBERS. -/
def execRowMembers (l : Line) (s : State) : Host.Outcome State Fault Refusal :=
  .next (showCmd s l {} none rowMembersAnswer)

/-- The row key changes and the drive rejoins (R701). -/
def setRowKey (s : State) (key : List Byte) : State :=
  let s := updRow s (fun d => { d with key := some key })
  if rowLive s ∧ running s then rejoin s else s

/-- ROW_KEY_NEW (R701): reported once. -/
def execRowKeyNew (l : Line) (s : State) : Host.Outcome State Fault Refusal :=
  .next (runCmd s l { priv := true } none (fun s _ =>
    let (b, s) := freshBytes s 32
    .say (setRowKey s b) (okLine [("secret", .bytes b)]) none))

/-- ROW_KEY_SET (R701). -/
def execRowKeySet (l : Line) (secret : List Byte) (s : State) : Host.Outcome State Fault Refusal :=
  .next (runCmd s l { priv := true } (if secret.length = 32 then none else some .badValue) (fun s _ =>
    .say (setRowKey s secret) okReply none))

end Sys2Proof.Machine
end

