-- ==== Sys2Proof/Machine/LogOps.lean ====
section
/-!
DEFINITION. What a start reads back from flash and FRAM (ch. 13, 14): the chain of log records and its recovery scan, the
full-scan rebuild of the page map and the key index, the check of the erase-intent ring.
-/

namespace Sys2Proof.Machine

open Sys2Proof

/-! ### The replay of the log (R596 to R598) -/

/-- A record verifies as it is read (R596): the environment names those that fail a check. -/
def verifies (bad : List (Nat × RecFault)) (e : LogEntry) : Bool := ! bad.any (fun x => decide (x.1 = e.lsn))

/-- The records from the lowest capture LSN on, oldest first (R597). -/
def replayList (s : State) : List LogEntry := (s.media.log.filter (fun e => decide (lowCapture s ≤ e.lsn))).reverse

/-- What the replay of a list of records finds. -/
structure Replayed where
  /-- Records replayed, or recovered from the headers of the pages they tell of, oldest first. -/
  kept : List LogEntry := []
  /-- Recovery scans: bytes skipped, LSN resumed at. -/
  scans : List (Nat × Nat) := []
  /-- Records after the end of the log. -/
  lost : List LogEntry := []
deriving DecidableEq, Repr

/-- The first record of a list at which a recovery scan resumes after the record at `g`, with the records before it
(R598). -/
def resumeAt (bad : List (Nat × RecFault)) (g : Nat) : List LogEntry → Option (List LogEntry × LogEntry × List LogEntry)
  | [] => none
  | e :: rest =>
    if verifies bad e && decide (g ≤ e.prev) && decide (e.prev < e.lsn) then some ([], e, rest)
    else (resumeAt bad g rest).map (fun x => (e :: x.1, x.2))

/-- Replay forward from the record after `g`: each record verifies and its PREV_LSN is the LSN of the one before it (R597);
a failure with a verifying record after it is passed over by the recovery scan, one without ends the log (R598). The bound is
the number of records. -/
def walkLog (bad : List (Nat × RecFault)) : Nat → Option Nat → List LogEntry → Replayed
  | 0, _, l => { lost := l }
  | _, _, [] => {}
  | n + 1, g, e :: rest =>
    let chained : Bool := match g with | some g => decide (e.prev = g) | none => true
    if verifies bad e && chained then
      let r := walkLog bad n (some e.lsn) rest
      { r with kept := e :: r.kept }
    else match resumeAt bad (g.getD 0) rest with
    | none => { lost := e :: rest }
    | some (skipped, c, after) =>
      let r := walkLog bad n (some c.lsn) after
      { r with kept := e :: skipped ++ c :: r.kept, scans := (c.lsn - e.lsn, c.lsn) :: r.scans }

/-- A change whose log record lies after the end of the log is not there: the version it set, the mapping it made (log 48). -/
def loseRecord (s : State) (e : LogEntry) : State :=
  match e.what with
  | .indexSet k w =>
    (match AMap.find s.kv.objs k with
      | some o => if o.wseq = w then updKv s (fun d => { d with objs := AMap.del d.objs k }) else s
      | none => s)
  | .map ps _ =>
    updMedia s (fun m => { m with map := m.map.filter (fun x => ! ps.any (fun p => decide (p.1 = x.1 ∧ p.2 = some x.2))) })
  | _ => s

/-- S10's replay of the log: LOG_RESYNC for each recovery scan, and the log ends at the last record of the chain (R597,
R598). -/
def replayChain (s : State) (bad : List (Nat × RecFault)) : State :=
  let l := replayList s
  let r := walkLog bad l.length none l
  let s := r.scans.foldl (fun s x => logEv s .logResync { details := [(x.1 : Int), (x.2 : Int)] }) s
  if r.lost.isEmpty then s
  else
    let s := r.lost.foldl loseRecord s
    let last := r.kept.getLast?
    updMedia s (fun m => { m with
      log := m.log.filter (fun e => ! r.lost.contains e)
      lsn := match last with | some e => e.lsn + e.bytes | none => lowCapture s
      lastLsn := match last with | some e => e.lsn | none => lowCapture s })

/-! ### The full-scan rebuild (R595, R601, R657) -/

/-- Blocks with an INTENT without DONE or FAILED. -/
def openIntents : List EraseRec → List EraseRec → List BlockId
  | _, [] => []
  | newer, r :: rest => (if intentOpen newer r then [r.block] else []) ++ openIntents (r :: newer) rest

/-- The pages that the scan reads: those of every band outside FREE and DONOR, but for blocks that an open INTENT names and
for the flush's own pages, with band and index (R601, R657). -/
def scannedPages (s : State) : List (Nat × Nat × PageRec) :=
  let skip := openIntents [] s.upkeep.ring
  (s.media.bands.filter (fun x => decide (x.2.state ≠ .free) && decide (x.2.state ≠ .donor))).flatMap (fun x =>
    ((pagesOf x.2).filter (fun p =>
      (match p.1.kind with | .data | .packed => true | _ => false)
        && (match pageChan x.1 x.2 p.2 with | some (c, _) => ! skip.contains (memberBlock x.1 x.2 c) | none => false))).map
      (fun p => (x.1, p.2, p.1)))

/-- The copy of each logical page with the highest PSEQ (R595). -/
def newestCopies (ps : List (Nat × Nat × PageRec)) : AMap Nat (Nat × Nat × Nat) :=
  ps.foldl (fun m x => match x.2.2.lpn with
    | none => m
    | some l =>
      match AMap.find m l with
      | some (q, _, _) => if q < x.2.2.pseq then AMap.set m l (x.2.2.pseq, x.1, x.2.1) else m
      | none => AMap.set m l (x.2.2.pseq, x.1, x.2.1)) []

/-- A log record applied to the scanned map: a MAP record sets or removes entries (R601). -/
def applyMapRec (m : AMap Nat (Nat × Nat)) (e : LogEntry) : AMap Nat (Nat × Nat) :=
  match e.what with
  | .map ps _ => ps.foldl (fun m p => match p.2 with | some x => AMap.set m p.1 x | none => AMap.del m p.1) m
  | _ => m

/-- The page map that the scan rebuilds (R601). -/
def scannedMap (s : State) : AMap Nat (Nat × Nat) :=
  (replayList s).foldl applyMapRec ((newestCopies (scannedPages s)).map (fun x => (x.1, x.2.2)))

/-- The highest WSEQ of a key among the records on the scanned pages. -/
def scannedWseq (s : State) (k : ObjKey) : Option Nat :=
  (((scannedPages s).flatMap (fun x => x.2.2.recs)).filter (fun r => decide (r.1 = k))).foldl
    (fun o r => match o with | none => some r.2 | some w => some (Nat.max w r.2)) none

/-- An INDEX_DEL record has removed a key since a write. -/
def deletedAfter (s : State) (k : ObjKey) (w : Nat) : Bool :=
  (replayList s).any (fun e => match e.what with | .indexDel k' w' => decide (k' = k) && decide (w ≤ w') | _ => false)

/-- The scan finds the present version of a key: a record of its write or a later one stands on a scanned page, or its data
waits in the shelter for its replay; and no INDEX_DEL has removed it (R601). -/
def scanFinds (s : State) (k : ObjKey) (o : Obj) : Bool :=
  pagesWait s o.wseq || o.parts.any (pagesWait s)
    || ((match scannedWseq s k with
        | some w => decide (o.wseq ≤ w) || o.parts.any (fun p => decide (p ≤ w))
        | none => false) && ! deletedAfter s k o.wseq)

/-- The page map is the scan's. -/
def takeScannedMap (s : State) : State :=
  let m := scannedMap s
  updMedia s (fun d => { d with map := m })

/-- The key index is the scan's: a key whose records it does not find is not there. -/
def takeScannedIndex (s : State) : State :=
  updKv s (fun d => { d with objs := d.objs.filter (fun x => scanFinds s x.1 x.2) })

/-! ### The check of the erase-intent ring (R639, R641) -/

/-- The SEQ values of a list of records, newest first, count down by one, modulo 2^32. -/
def consecutive : List EraseRec → Bool
  | a :: b :: rest => decide ((b.seq + 1) % 2 ^ 32 = a.seq) && consecutive (b :: rest)
  | _ => true

/-- The records whose failure counts: all but the one after the newest, which a full ring's next record overwrites. -/
def countedRecs (ring : List EraseRec) : List EraseRec := if ring.length < 4096 then ring else ring.dropLast

/-- The ring fails its CRC (R639): a record that counts is invalid, or the valid ones are not consecutive. -/
def ringFails (ring : List EraseRec) (bad : List Nat) : Bool :=
  (countedRecs ring).any (fun r => bad.contains r.seq) || ! consecutive (ring.filter (fun r => ! bad.contains r.seq))

/-- The blocks that S13 takes for half-erased: those of an open INTENT; on the step's alternative every block that a record
whose own CRC verifies names (R640, R641). -/
def halfErased (ring : List EraseRec) (bad : List Nat) (alt : Bool) : List BlockId :=
  let ok := ring.filter (fun r => ! bad.contains r.seq)
  (if alt then ok.map (fun r => r.block) else openIntents [] ok).eraseDups

end Sys2Proof.Machine
end

