-- ==== Sys2Proof/Machine/FlushOps.lean ====
section
/-!
DEFINITION. The flush to the shelter and its replay (ch. 13, R603 to R610), and what the flush of an orderly halt writes.
-/

namespace Sys2Proof.Machine

open Sys2Proof

/-! ### What a flush leaves of the work in the drive -/

/-- The operations go without an answer: nothing more is admitted or completed (R51, R124 step 1, R494). -/
def dropOps (s : State) : State :=
  let s := updKv s (fun d => { d with ops := [], locks := [] })
  updStalls s (fun d => { d with
    active := []
    tab := d.tab.map (fun x => (x.1, { x.2 with live := [], backfill := [] })) })

/-- A program in flight that carries data. -/
def isPageProg : Prog → Bool
  | .page .. => true
  | .log _ => false

/-- Log records issued or staged, oldest first. -/
def loggedWait (s : State) : List LogEntry :=
  (s.media.progs.filterMap (fun p => match p with | .log es => some es | .page .. => none)).flatten ++ s.media.staged.reverse

/-- Open stripes with partial parity in PARITY SRAM (R603). -/
def openParity (s : State) : Nat :=
  (s.media.bands.filter (fun x => decide (x.2.state = .open_) && decide ((pagePlace x.2 x.2.pages.length).2 ≠ 0))).length

/-! ### The shelter (R604 to R607) -/

/-- Program a page of the flush into a shelter or spill band, which keeps its state. -/
def putShelter (s : State) (n : Nat) (p : PageRec) : State :=
  let p := { p with pseq := s.media.pseq, ltime := s.clock.ledger }
  updBand (updMedia s (fun m => { m with pseq := m.pseq + 1 })) n (fun b => { b with
    pages := p :: b.pages
    since := if b.pages.isEmpty then s.clock.ledger else b.since
    presence := match p.stall with
      | some x => if b.presence.contains x then b.presence else x :: b.presence
      | none => b.presence })

/-- Data pages the two shelter bands hold (R604). -/
def shelterPages : Nat := 15360

/-- The band of a page of the flush: the shelter bands in turn, stripe by stripe, then the spill band (R605). -/
def flushBand (s : State) (i : Nat) : Nat :=
  if shelterPages ≤ i then s.media.spillBand
  else if i / 15 % 2 = 0 then s.media.shelterA else s.media.shelterB

/-- The SHELTER_DATA page of a data program (R606). -/
def shelterPage (s : State) (p : Prog) : PageRec :=
  match p with
  | .page _ x lpn bin _ index recs =>
    { kind := .shelterData, stall := some x, lpn := some lpn, bin := bin, pseq := 0, ltime := 0, index := index, recs := recs
      last := lastPage s p, units := pageUnits s p }
  | .log _ => { kind := .shelterMeta, pseq := 0, ltime := 0 }

/-- The pages of a flush in order: the head, the SHELTER_META pages, the SHELTER_DATA pages (R605). -/
def flushPages (s : State) (img : FlushImage) : List PageRec :=
  { kind := .shelterHead, pseq := 0, ltime := 0 }
    :: (List.replicate img.metaPages { kind := .shelterMeta, pseq := 0, ltime := 0 } ++ img.dataPages.map (shelterPage s))

/-- A page of no content. -/
def padPage : PageRec := { kind := .pad, pseq := 0, ltime := 0 }

/-- A page of the flush whose program failed waits for the next page of its die: band, channel, page. -/
abbrev LatePage := Nat × Option (Fin 16) × PageRec

/-- Program the pages of the flush in order, `i` places being taken and `k` pages tried: a page of `fails` leaves its place
without a valid header, is noted as a skip, and goes to the next page of the same die (R605, R607). -/
def putFlush (fails : List Nat) : Nat → Nat → Nat → List PageRec → List LatePage → State × List (Nat × Nat) → State × List (Nat × Nat)
  | 0, _, _, _, _, a => a
  | fuel + 1, i, k, ps, late, (s, skips) =>
    let n := flushBand s i
    let b := bandOf s n
    let c := (pageChan n b b.pages.length).map (fun x => x.1)
    match late.find? (fun x => decide (x.1 = n) && decide (x.2.1 = c)), ps with
    | some x, ps => putFlush fails fuel (i + 1) k ps (late.erase x) (putShelter s n x.2.2, skips)
    | none, p :: rest =>
      if fails.contains k then
        putFlush fails fuel (i + 1) (k + 1) rest (late ++ [(n, c, p)]) (putShelter s n padPage, skips ++ [(n, b.pages.length)])
      else putFlush fails fuel (i + 1) (k + 1) rest late (putShelter s n p, skips)
    | none, [] =>
      if late.isEmpty then (s, skips) else putFlush fails fuel (i + 1) k [] late (putShelter s n padPage, skips)

/-- The pages of the flush stand in the shelter, and in the spill band once both shelter bands are full (R605, R607); nothing
when the flush wrote no content. -/
def writeShelter (s : State) (fails : List Nat) : State :=
  match s.media.image with
  | none => s
  | some img =>
    if s.boot.flushing.1 = 0 then s
    else
      let ps := flushPages s img
      let spill : Option Nat := if shelterPages < ps.length + fails.length then some s.media.spillBand else none
      let s := match spill with
        | some n => updBand s n (fun b => { b with state := .spill, pslc := true })
        | none => s
      let (s, skips) := putFlush fails (ps.length + 64 * (fails.length + 1)) 0 0 ps [] (s, [])
      updMedia s (fun m => { m with image := some { img with spill := spill, skips := skips } })

/-- What the flush writes (R124 steps 3 to 5, R605, R606): the programs already started complete; the staged log records, the
partial parity and the dirty data go to the shelter; nothing while a flush waits for its replay (R609). The bytes written, and
E_avail at step 1, go to the flush record. -/
def saveFlush (s : State) : State :=
  let e := eAvail s
  let s := updBoot s (fun b => { b with flushing := (0, e, svcRuns s) })
  if ! svcRuns s then s else
  let s := completeStarted s
  if s.media.image.isSome then
    updKv (updMedia s (fun m => { m with packs := [], progs := [], staged := [] })) (fun d => { d with dirty := [] })
  else
    let s := (AMap.keys s.media.packs).foldl issuePack s
    let data := s.media.progs.filter isPageProg
    let entries := loggedWait s
    let metaPages := ceilDiv (listSum (entries.map (fun x => x.bytes))) 16384 + openParity s
    let s := updMedia s (fun m => { m with progs := [], staged := [] })
    let s := updKv s (fun d => { d with dirty := [] })
    if data.isEmpty && decide (metaPages = 0) then s
    else
      let count := 1 + metaPages + data.length
      let img : FlushImage := { number := s.media.nextFlush, metaPages := metaPages, dataPages := data, entries := entries
                                spill := none, pseq := s.media.pseq - 1 }
      let s := updMedia s (fun m => { m with image := some img, nextFlush := m.nextFlush + 1 })
      updBoot s (fun b => { b with flushing := (16384 * count, e, true) })

/-- Erase a shelter or spill band after the replay, block by block. -/
def wipeShelter (s : State) (n : Nat) : State :=
  let s := (memberBlocks n (bandOf s n)).foldl (fun s k => eraseNow s .shelter k) s
  updBand s n (fun b => { b with
    pages := [], presence := [], since := 0
    state := if b.state = .spill then .free else b.state
    pslc := b.pslc && decide (b.state ≠ .spill) })

/-- R608, steps 5 to 7: the MAP records and the REPLAYED record are programmed, the shelter is erased, the spill band
returns to FREE, SHELTER_REPLAYED. -/
def endReplay (s : State) (img : FlushImage) : State :=
  let s := syncLog (stageLog (syncLog s) (.replayed img.number))
  let s := ([s.media.shelterA, s.media.shelterB] ++ img.spill.toList).foldl wipeShelter s
  let s := updMedia s (fun m => { m with image := none, replayHeld := false })
  logEv (gcRefresh s) .shelterReplayed
    { details := [(img.number : Int), (img.dataPages.length : Int), if img.spill.isSome then 1 else 0] }

/-- R608, steps 2 and 3: the log records of the flush are appended to the log. -/
def replayLog (s : State) (img : FlushImage) : State :=
  if img.entries.isEmpty then s else programEntries s img.entries

/-- R608, steps 4 to 7: each data page goes to the bed of its bin, versions and WSEQ unchanged. -/
def replayData (s : State) (img : FlushImage) : State := endReplay (img.dataPages.foldl completeProg s) img

/-! ### The flush of an orderly halt -/

/-- The halt's flush (R44, R602, R693, R850): every packed page and log record is programmed, the Arcade image written, the
event log copied. -/
def haltFlush (s : State) : State :=
  let s := (AMap.keys s.media.packs).foldl issuePack s
  let data := s.media.progs.filter isPageProg
  let s := updMedia s (fun m => { m with progs := m.progs.filter (fun p => ! isPageProg p) })
  let s := syncLog (data.foldl completeProg s)
  settleDirty s (s.kv.dirty.map (fun x => x.1))

end Sys2Proof.Machine
end

