-- ==== Sys2Proof/Machine/TestOps.lean ====
section
/-!
DEFINITION. The states of islands as the test engine changes them, its runs (ch. 18): the shutdown set, the records, a
commanded test's end, and what follows an orderly halt.
-/

namespace Sys2Proof.Machine

open Sys2Proof

/-- Code of a cause (ch. 04, Fault cause encoding). -/
def faultCauseCode : FaultCause → Nat
  | .none_ => 0 | .clock => 1 | .voltage => 2 | .handshakeTimeout => 3 | .selftestFail => 4 | .startStepFail => 5
  | .watchdog => 6

/-- Code of a state (ch. 04, Island state encoding). -/
def islCode : IslState → Nat
  | .run => 0 | .gated => 1 | .off => 2 | .isolated => 3 | .dead => 4

/-- Put an island into a state. -/
def setIsl (s : State) (i : Island) (st : IslState) : State := updIslRec s i (fun d => { d with state := st })

/-- Put several islands into a state. -/
def setIsls (s : State) (l : List Island) (st : IslState) : State := l.foldl (fun s i => setIsl s i st) s

/-- Count a fault of an island with its cause (ch. 04, SVC.ISL). -/
def countFault (s : State) (i : Island) (c : FaultCause) : State :=
  updIslRec s i (fun d => { d with faults := sat (d.faults + 1) 255, cause := c })

/-! ### Codes (ch. 18, Run encodings) -/

/-- CAUSE. -/
def runCauseCode : RunCause → Nat
  | .halt => 1 | .thermal => 2 | .restart => 3 | .dormant => 4 | .command => 5 | .inline_ => 6

/-- OUTCOME. -/
def runOutcomeCode : RunOutcome → Nat
  | .open_ => 0 | .complete => 1 | .cut => 2 | .powerFail => 3 | .budget => 4

/-- RESULT. -/
def testResultCode : TestResult → Nat
  | .pass => 1 | .fail => 2 | .notRun => 3 | .aborted => 4 | .skipped => 5

/-- PART. -/
def testPartCode : TestPart → Nat
  | .none_ => 0 | .sram => 1 | .array => 2 | .logic => 3 | .dramPattern => 4 | .loopback => 5 | .gateCheck => 6
  | .limits => 7 | .budget => 8

/-- RESULT as a name. -/
def testResultName : TestResult → String
  | .pass => "PASS" | .fail => "FAIL" | .notRun => "NOT_RUN" | .aborted => "ABORTED" | .skipped => "SKIPPED"

/-- PART as a name. -/
def testPartName : TestPart → String
  | .none_ => "none" | .sram => "SRAM" | .array => "ARRAY" | .logic => "LOGIC" | .dramPattern => "DRAM_PATTERN"
  | .loopback => "LOOPBACK" | .gateCheck => "GATE_CHECK" | .limits => "LIMITS" | .budget => "BUDGET"

/-! ### The Shutdown set table (R792) -/

/-- The order of the set. -/
def testOrder : List Island :=
  [.net0, .net1, .proto, .sched, .index, .arc, .parity] ++ Island.allMedia ++ [.dram, .core, .svc, .pwr]

/-- Parts of an island's test. -/
def partsOf : Island → List TestPart
  | .net0 | .net1 => [.sram, .logic, .loopback]
  | .arc => [.sram, .array, .logic]
  | .media _ => [.sram, .logic, .loopback]
  | .dram => [.logic, .dramPattern]
  | .core => [.logic, .sram]
  | .pwr => [.gateCheck]
  | _ => [.sram, .logic]

/-- Max of an island's test, microseconds. -/
def testMax : Island → Nat
  | .net0 | .net1 => 3000000
  | .proto => 4000000
  | .sched => 1500000
  | .index | .parity | .media _ | .pwr => 2000000
  | .arc => 6000000
  | .dram => 10000000
  | .core => 7000000
  | .svc => 2500000

/-- The limits of R795: clock within ±2 %, supply within ±3 %, junction −20 to +100 °C. -/
def inLimits (d : IslRec) : Bool :=
  decide (d.freqDev.natAbs ≤ 200) && decide (d.voltDev.natAbs ≤ 30) && decide (-20 ≤ d.junction) && decide (d.junction ≤ 100)

/-! ### Runs and records -/

/-- Begin a run with outcome OPEN (R800). -/
def openRun (s : State) (c : RunCause) : State :=
  updLife s (fun d => { d with
    runs := ({ seq := d.nextRun, startNo := s.boot.blk.startNo, cause := c, outcome := .open_, lc := lcState s
               began := s.clock.ledger, ended := 0, fw := mainVersion s, window := d.window, recs := [] } :: d.runs).take 64
    nextRun := (d.nextRun + 1) % 2 ^ 32
    cleared := d.cleared && (match c with | .command | .inline_ => true | _ => false) })

/-- Change the newest run. -/
def updRun (s : State) (f : TestRun → TestRun) : State :=
  updLife s (fun d => { d with runs := match d.runs with | r :: rest => f r :: rest | [] => [] })

/-- The newest run is OPEN. -/
def runOpen (s : State) : Bool := match s.life.runs with | r :: _ => decide (r.outcome = .open_) | [] => false

/-- Write an island record with the ledger time of now. -/
def addTestRec (s : State) (o : TestOutcome) : State :=
  updRun s (fun r => { r with recs := r.recs ++ [(o, s.clock.ledger)] })

/-- Rewrite the header with its outcome. -/
def closeRun (s : State) (o : RunOutcome) : State := updRun s (fun r => { r with outcome := o, ended := s.clock.ledger })

/-- A record of an island that is not tested, or whose test was stopped. -/
def bareRec (s : State) (i : Island) (r : TestResult) (p : TestPart) : TestOutcome :=
  let d := getIsl s i
  { island := i, result := r, part := p, junction := d.junction, freqDev := d.freqDev, voltDev := d.voltDev }

/-- Records with a result in a run. -/
def countRecs (r : TestRun) (x : TestResult) : Nat := (r.recs.filter (fun y => decide (y.1.result = x))).length

/-! ### The end of an orderly halt (R46, R316, R360, R363) -/

/-- Every island but some to OFF, those that are DEAD as they are. -/
def restOff (s : State) (keep : List Island) : State :=
  setIsls s (Island.all.filter (fun i => ! keep.contains i && decide (islState s i ≠ .dead))) .off

/-- Dormant begins: all but the gatehouse OFF, the consoles unpowered, promiscuous and capture modes off, the destination filters kept
as they stand, every armed port trained at 100BASE-TX (R316, R318). -/
def enterDormant (s : State) : State :=
  let w0 := filterNow s .p0
  let w1 := filterNow s .p1
  let s := restOff (cutOff s) [.pwr]
  let s := [PortId.p0, PortId.p1].foldl (fun s p => updPort s p (fun d => { d with
    capturing := false, promisc := false, training := d.armed, advertised := if d.armed then [1] else [], dropped := []
    wakeFilter := if p = .p0 then w0 else w1 })) s
  setPhase s .dormant

/-- The last act of an orderly halt: the HALT checkpoint and the RTC; then halted, restarted or Dormant (R46, R316). -/
def finishHalt (s : State) (r : HaltReason) : State :=
  let s := writeRtc (checkpoint s .halt)
  match r with
  | .halt | .thermal => setPhase (restOff s [.svc, .pwr]) .halted
  | .restart | .starvation => restartNow s
  | .dormant => enterDormant s

/-! ### The shutdown set (R790 to R799) -/

/-- The halt's flush has ended, and what the set's run is called. -/
def haltCause : HaltReason → RunCause
  | .halt => .halt | .thermal => .thermal | .restart | .starvation => .restart | .dormant => .dormant

/-- SELFTEST_END with the newest run's outcome and results (R799). -/
def logSetEnd (s : State) (o : RunOutcome) : State :=
  match s.life.runs with
  | r :: _ => logEv s .selftestEnd { reason := runOutcomeCode o
                                     details := [(r.seq : Int), (countRecs r .pass : Int), (countRecs r .fail : Int),
                                                 (countRecs r .notRun : Int)] }
  | [] => s

/-- The set ends: BUDGET when some island was not begun for time, else COMPLETE; the DRAM window moves on; SELFTEST_END
(R793, R794, R799). -/
def endSet (s : State) : State :=
  match s.phase, s.life.runs with
  | .selftest h, r :: _ =>
    let o : RunOutcome := if r.recs.any (fun x => decide (x.1.part = .budget)) then .budget else .complete
    let s := closeRun s o
    let s := updLife s (fun d => { d with shutdown := none, under := none, window := (d.window + 1) % 48 })
    finishHalt (logSetEnd s o) h
  | _, _ => s

/-- Go on with the islands still to test: those that cannot be tested are recorded, the first that can is isolated; with
none left the set ends (R794, R795, R800, R816). -/
def nextTest : List Island → State → State
  | [], s => endSet (updLife s (fun d => { d with shutdown := some [] }))
  | i :: rest, s =>
    let d := getIsl s i
    if d.unusable || decide (d.state = .dead) || decide (d.state = .off) then
      nextTest rest (addTestRec s (bareRec s i .skipped .none_))
    else if 90 * sec < s.clock.ledger - s.life.flushEnd + testMax i then
      nextTest rest (addTestRec s (bareRec s i .notRun .budget))
    else if ! inLimits d then nextTest rest (addTestRec s (bareRec s i .notRun .limits))
    else
      updLife (setIsl s i .isolated) (fun d => { d with shutdown := some rest, under := some i, underAt := s.clock.ledger })

/-- The shutdown set begins, after the flush of a halt (R790, R799). -/
def startSet (s : State) (h : HaltReason) : State :=
  let s := updLife (openRun s (haltCause h)) (fun d => { d with flushEnd := s.clock.ledger })
  let s := setPhase s (.selftest h)
  let seq : Nat := match s.life.runs with | r :: _ => r.seq | [] => 0
  nextTest testOrder (logEv s .selftestBegin { reason := runCauseCode (haltCause h), details := [(seq : Int)] })

/-! ### Commanded tests (R810 to R812) -/

/-- A commanded test ends with a record: the header, the island's state, the answer. -/
def endCmd (s : State) (c : TestCmd) (o : TestOutcome) (outcome : RunOutcome) : State :=
  let ms := match s.life.runs with | r :: _ => (s.clock.ledger - r.began) / 1000 | [] => 0
  let s := closeRun (addTestRec s { o with duration := ms }) outcome
  let s := updLife s (fun d => { d with cmd := none, under := none })
  answerSlot s (some c.slot) (okLine [("result", .name (testResultName o.result)), ("part", .name (testPartName o.part)),
    ("ms", vn ms)])

/-- The island comes back from isolation; a NET island's port trains again. -/
def leaveTest (s : State) (i : Island) (st : IslState) : State :=
  let s := setIsl s i st
  match i with
  | .net0 => if st = .run ∨ st = .gated then train s .p0 else s
  | .net1 => if st = .run ∨ st = .gated then train s .p1 else s
  | _ => s

/-- The open run of the test engine stops: the island under test is recorded ABORTED (R791, R798, R816). -/
def stopRun (s : State) (o : RunOutcome) : State :=
  if runOpen s then
    let s := match s.life.under with
      | some i => addTestRec s (bareRec s i .aborted .none_)
      | none => s
    updLife (closeRun s o) (fun d => { d with under := none, shutdown := none, cmd := none })
  else s

/-- The island under test enters DEAD for another cause than its test: its record is ABORTED, and the set goes on, or the
commanded test is answered (R816). An island whose test has not begun is recorded when its turn comes. -/
def noteRunDeath (s : State) (i : Island) : State :=
  if s.life.under = some i then
    let o := bareRec s i .aborted .none_
    match s.life.cmd with
    | some c => endCmd s c o .complete
    | none => nextTest (s.life.shutdown.getD []) (updLife (addTestRec s o) (fun d => { d with under := none }))
  else s

end Sys2Proof.Machine
end

