-- ==== Sys2Proof/Machine/IslOps.lean ====
section
/-!
DEFINITION. What an island's fault does (ch. 04, 05, 18): the entry of a non-essential island into DEAD and its cost, the
fault of an essential one, the gatehouse's reset, and the beginning of a flush.
-/

namespace Sys2Proof.Machine

open Sys2Proof

/-- The islands an essential fault's flush or a power-fail gates first (ch. 03, Power-fail flush table, step 2). -/
def gatedFirst : List Island := [.net0, .net1, .proto, .sched, .index, .arc]

/-! ### The beginning of a flush -/

/-- A flush begins (R124 steps 1 and 2, R153): the window closes without a record, the mark in FRAM stays for S03 (R78), the
heater goes off, the dirty data goes to the shelter, NET, PROTO, SCHED, INDEX and ARC are gated, the links drop. -/
def beginFlush (s : State) (c : FlushCause) : State :=
  let kept := match s.phase with | .halted | .selftest _ => true | _ => false
  let s := updBoot (dropOps (saveFlush s)) (fun b => { b with orderly := b.orderly && kept })
  let s := updBay s (fun b => { b with window := none })
  let s := updPower s (fun d => { d with heater := false, dummy := false, measuring := .idle })
  let s := cutOff s
  let s := setIsls s (gatedFirst.filter (islUp s)) .gated
  setPhase s (.failFlush c)

/-! ### Essential islands (R153, R155) -/

/-- The trial of the running slot has failed with this start (R753). -/
def trialAttemptFails (s : State) : State :=
  match runSlot s with
  | some b => if (fwSlot s b).state = .trial then updFw s (fun d => { d with attemptFailed := true }) else s
  | none => s

/-- A fault of an essential island: ESSENTIAL_FAULT, then the flush with that cause (R153). -/
def essentialFault (s : State) (i : Island) (c : FaultCause) : State :=
  let s := logEv s .essentialFault { island := some i, reason := faultCauseCode c }
  beginFlush (if ready s then trialAttemptFails s else s) .essentialFault

/-- A fault of PWR: the gatehouse MCU is reset; the third within 10 min is handled as essential (R154, R155). -/
def gateFault (s : State) (c : FaultCause) : State :=
  let s := logEv (countFault s .pwr c) .islandFault { island := some .pwr, reason := faultCauseCode c }
  let ts := s.clock.ledger :: s.isl.gateFaults.filter (fun t => decide (s.clock.ledger < t + 600 * sec))
  let s := updIsl s (fun d => { d with gateFaults := ts })
  if 3 ≤ ts.length then essentialFault s .pwr c
  else updIsl s (fun d => { d with gateReset := some (s.clock.ledger, c) })

/-! ### DEAD islands (R152, R156, R157, R804) -/

/-- The steps of the start that run now end DEGRADED (R220). -/
def degradeSteps (s : State) : State :=
  if starting s then
    updBoot s (fun b => { b with degr := (([b.fg] ++ b.scan.toList).filter (fun n => decide (n ≠ 0))) ++ b.degr })
  else s

/-- Mark an island UNUSABLE (R804). -/
def markUnusable (s : State) (i : Island) : State :=
  if i.essential || (getIsl s i).unusable then s
  else logEv (updIslRec s i (fun d => { d with unusable := true })) .islandUnusable { island := some i }

/-- SCHED has entered DEAD: its levels, deficits and active list are gone; CORE dispatches in arrival order (ch. 18, Cost of a
non-essential island). -/
def schedDies (s : State) : State :=
  updStalls s (fun d => { d with active := [], tab := d.tab.map (fun x => (x.1, { x.2 with levels := [0, 0, 0, 0], deficit := 0 })) })

/-- What an island's absence costs its subsystem (ch. 18, Cost of a non-essential island). -/
def islandCost (s : State) (i : Island) : State :=
  match i with
  | .media c => loseChannel s c
  | .arc => arcDies s
  | .net0 | .net1 =>
    let p : PortId := if i = .net0 then .p0 else .p1
    rebudget (renegotiated (if (getPort s p).link then linkLoss s p else s) p)
  | .proto => resetWhere s (fun _ => true)
  | .sched => schedDies s
  | _ => s

/-- An island enters DEAD with a cause: ISLAND_DEAD once, the mark and the time kept in the ledger, UNUSABLE at
the third time within 7 days or at a failed test, and then what its absence costs (R156, R804, R858). -/
def deadIsland (s : State) (i : Island) (c : FaultCause) : State :=
  if islState s i = .dead then s
  else
    let s := updIslRec s i (fun d => { d with
      state := .dead, cause := c, deadMark := some c, faults := sat (d.faults + 1) 255
      markAt := if d.deadMark.isSome then d.markAt else s.clock.ledger })
    let s := degradeSteps (logEv s .islandDead { island := some i, reason := faultCauseCode c })
    let ts := s.clock.ledger :: (AMap.getD s.life.deadTimes i []).filter (fun t => decide (s.clock.ledger < t + 7 * day))
    let s := updLife s (fun d => { d with deadTimes := AMap.set d.deadTimes i ts })
    let s := if c = .selftestFail ∨ 3 ≤ ts.length then markUnusable s i else s
    let s := islandCost s i
    if c = .selftestFail then s else noteRunDeath s i

/-- A fault of an island under R144 or R149: ISLAND_FAULT, then what its kind makes of it (R153, R155, R156). -/
def islandFaulted (s : State) (i : Island) (c : FaultCause) : State :=
  if i = .pwr then gateFault s c
  else
    let s := logEv s .islandFault { island := some i, reason := faultCauseCode c }
    if i.essential then essentialFault (countFault s i c) i c else deadIsland s i c

end Sys2Proof.Machine
end

