-- ==== Sys2Proof/Machine/Islands.lean ====
section
/-!
DEFINITION. The commands of the islands and the memories (ch. 04): faults, handshakes, watchdogs, gating, DRAM's errors,
`island show`.
-/

namespace Sys2Proof.Machine

open Sys2Proof

/-! ### Faults (R144, R145, R149, R153 to R155) -/

/-- An island whose fault is acted on: it runs, or is GATED, or is a non-essential one under test (R816). -/
def faultable (s : State) (i : Island) : Bool :=
  islUp s i || (decide (s.life.under = some i) && decide (i.essential = false))

/-- ISLAND_FAULT (R144): a clock outside ±5 %, or a supply outside ±8 %, of an island that runs. -/
def execIslandFault (i : Island) (cause : FaultCause) (freqDev voltDev : Int) (s : State) : Host.Outcome State Fault Refusal :=
  let bad : Bool := match cause with
    | .clock => decide (500 < freqDev.natAbs)
    | .voltage => decide (80 < voltDev.natAbs)
    | _ => false
  .next (if faultable s i && bad then
      islandFaulted (updIslRec s i (fun d => { d with freqDev := freqDev, voltDev := voltDev })) i cause
    else s)

/-- REFERENCE_CLOCK_LOSS (R145, R153): an essential fault of SVC with cause CLOCK, logged as ESSENTIAL_FAULT only. -/
def execReferenceClockLoss (s : State) : Host.Outcome State Fault Refusal :=
  .next (if islUp s .svc then essentialFault (countFault s .svc .clock) .svc .clock else s)

/-- The work item of an operation completes as island absent: one that ARC was to serve is answered ARCADE_ABSENT (R467); the
others go on without the island (ch. 18, Cost of a non-essential island). -/
def itemAbsent (s : State) (silent : Island) (item : Option Nat) : State :=
  match item.bind (fun id => (getOp s id).map (fun o => (id, o))) with
  | some (id, o) =>
    if silent = .arc ∧ (o.phase = .waitArc ∨ o.arcDone) ∧ ¬ o.committed then
      settle (answerOp (freeLocks (undoEntries (dropCmds s id) id o) id) id arcAbsent)
    else s
  | none => s

/-- HANDSHAKE_TIMEOUT (R149): the item completes as island absent; the third of an island within 1 s is its fault. -/
def execHandshakeTimeout (silent : Island) (requester : Requester) (s : State) : Host.Outcome State Fault Refusal :=
  .next (if islUp s silent then
      let s := itemAbsent s silent requester.item
      let s := logEv s .handshakeTimeout { island := some silent, details := [(requester.island.id : Int)] }
      let ts := s.clock.ledger :: (getIsl s silent).timeouts.filter (fun t => decide (s.clock.ledger < t + sec))
      if 3 ≤ ts.length then islandFaulted (updIslRec s silent (fun d => { d with timeouts := [] })) silent .handshakeTimeout
      else updIslRec s silent (fun d => { d with timeouts := ts })
    else s)

/-- Note a watchdog expiry or a gatehouse reset of this start, which restarts the trial window's wait (R754). -/
def noteWatchdog (s : State) : State := updFw s (fun d => { d with watchdogAt := some s.clock.ledger })

/-- WATCHDOG_EXPIRY (R151, R153): a non-essential island enters DEAD; of an essential one, ESSENTIAL_FAULT alone is logged;
PWR's watchdog is the gatehouse's (R154). -/
def execWatchdogExpiry (i : Island) (s : State) : Host.Outcome State Fault Refusal :=
  .next (if faultable s i then
      let s := noteWatchdog s
      if i = .pwr then gateFault s .watchdog
      else if i.essential then essentialFault (countFault s i .watchdog) i .watchdog
      else deadIsland s i .watchdog
    else s)

/-- GATEHOUSE_WATCHDOG (R154): the MCU alone is reset, as a PWR fault with cause WATCHDOG. -/
def execGatehouseWatchdog (s : State) : Host.Outcome State Fault Refusal :=
  .next (if islUp s .pwr then gateFault (noteWatchdog s) .watchdog else s)

/-- GATEHOUSE_RESET (R155): the MCU is back. -/
def execGatehouseReset (s : State) : Host.Outcome State Fault Refusal :=
  .next (match s.isl.gateReset with
    | none => s
    | some _ => logEv (noteWatchdog (updIsl s (fun d => { d with gateReset := none }))) .gatehouseReset)

/-- GATEHOUSE_RESET_TIMEOUT (R155): the MCU is not back within 50 ms. -/
def execGatehouseResetTimeout (s : State) : Host.Outcome State Fault Refusal :=
  .next (match s.isl.gateReset with
    | none => s
    | some (t, c) => essentialFault (updIsl (advanceTo s (t + 50000)) (fun d => { d with gateReset := none })) .pwr c)

/-! ### Gating (R148, R151) -/

/-- The island holds a work item. -/
def hasWork (s : State) (i : Island) : Bool :=
  match i with
  | .net0 => ! (getPort s .p0).tx.isEmpty || (getPort s .p0).rx.isSome
  | .net1 => ! (getPort s .p1).tx.isEmpty || (getPort s .p1).rx.isSome
  | .proto => s.proto.conns.any (fun c => ! c.2.blocked.isEmpty || c.2.chans.any (fun x => ! x.out.isEmpty))
  | .sched => s.kv.ops.any (fun o => decide (o.2.phase = .queued))
  | .index => s.kv.ops.any (fun o => ! o.2.keys.isEmpty && o.2.resp.isNone)
  | .arc => ! s.arc.queue.isEmpty || ! s.arc.waiting.isEmpty || ! s.arc.cursors.isEmpty
  | .parity => ! s.media.progs.isEmpty
  | .media c => (dieOrder s).any (fun o => decide (o.die.1 = c))
  | .svc | .pwr | .core | .dram => true

/-- ISLAND_GATE (R151): no work item for 1 ms; SVC, PWR, CORE and DRAM are never gated. -/
def execIslandGate (i : Island) (s : State) : Host.Outcome State Fault Refusal :=
  .next (if islState s i = .run ∧ i.essential = false ∧ ¬ hasWork s i then setIsl s i .gated else s)

/-- ISLAND_WAKE (R148, R151): a request or firmware brings a GATED island to RUN. -/
def execIslandWake (i : Island) (s : State) : Host.Outcome State Fault Refusal :=
  .next (if islState s i = .gated then setIsl s i .run else s)

/-! ### DRAM (R160, R161) -/

/-- REASON of DRAM_UNCORRECTABLE (ch. 20). -/
def regionCode : DramRegion → Nat
  | .cache => 1 | .map => 2 | .blockTable => 3 | .index => 4 | .writeBuffer => 5 | .firmware => 6

/-- DRAM_CORRECTED (R160). -/
def execDramCorrected (n : Nat) (s : State) : Host.Outcome State Fault Refusal :=
  .next (if islUp s .dram then updIsl s (fun d => { d with eccCorrected := sat (d.eccCorrected + n) (2 ^ 64 - 1) }) else s)

/-- The present version of a key stands in the write buffer: a page of it is not programmed. -/
def inBuffer (s : State) (k : ObjKey) : Bool :=
  match objOf s k with
  | some o => pagesWait s o.wseq || o.parts.any (pagesWait s)
  | none => false

/-- A version held in a lost line of the write buffer: logged with its stall and fingerprint, and unavailable until it is
overwritten or deleted (R161). -/
def loseBuffered (s : State) (k : ObjKey) : State :=
  if inBuffer s k then
    logEv (updKv s (fun d => { d with objs := AMap.modify d.objs k (fun o => { o with avail := .lost }) })) .dramUncorrectable
      { stall := some k.stall.val, reason := regionCode .writeBuffer, details := [(fpOf k : Int)] }
  else s

/-- DRAM_UNCORRECTABLE (R160, R161): the region that holds the error decides; an error in a line of the write buffer that holds
no version is logged alone. The ESSENTIAL_FAULT of an error in the firmware's region carries cause 0x00: the Fault cause
encoding has no code for it (DESIGN CHOICE, log 46). -/
def execDramUncorrectable (region : DramRegion) (keys : List ObjKey) (s : State) : Host.Outcome State Fault Refusal :=
  .next (if islUp s .dram then
      match region with
      | .writeBuffer =>
        if keys.any (inBuffer s) then keys.foldl loseBuffered s
        else logEv s .dramUncorrectable { reason := regionCode .writeBuffer, details := [0] }
      | .firmware =>
        let s := logEv s .dramUncorrectable { reason := regionCode .firmware, details := [0] }
        essentialFault (countFault s .dram .none_) .dram .none_
      | .cache => logEv s .dramUncorrectable { reason := regionCode .cache, details := [0] }
      | r =>
        let s := logEv s .dramUncorrectable { reason := regionCode r, details := [0] }
        updIsl s (fun d => { d with rebuilding := d.rebuilding ++ [(r, keys)] })
    else s)

/-- DRAM_SCRUB (R160): a pass over all 24 GiB has ended. -/
def execDramScrub (s : State) : Host.Outcome State Fault Refusal :=
  .next (if islUp s .dram then updIsl s (fun d => { d with scrubAt := s.clock.ledger }) else s)

/-- The list without its first entry that a test holds for. -/
def dropFirst {α : Type} (f : α → Bool) : List α → List α
  | [] => []
  | x :: xs => if f x then xs else x :: dropFirst f xs

/-- DRAM_REBUILD_DONE (R161): the oldest rebuild of a region completes, and its keys are answered as before. -/
def execDramRebuildDone (region : DramRegion) (s : State) : Host.Outcome State Fault Refusal :=
  .next (updIsl s (fun d => { d with rebuilding := dropFirst (fun x => decide (x.1 = region)) d.rebuilding }))

/-! ### `island show` (R158) -/

/-- SVC.ISL.<island> (ch. 04, field map); an island held unusable reads OFF (R805). -/
def islWord (s : State) (i : Island) : Word64 :=
  let d := getIsl s i
  packWord [(56, i.id), (48, match d.state with | .off | .dead => 0x80 | _ => signedField 8 d.junction),
    (40, faultCauseCode d.cause), (32, d.faults), (16, signedField 16 d.freqDev), (8, signedField 8 d.voltDev), (0, islCode d.state)]

/-- A state as a name. -/
def islName : IslState → String
  | .run => "RUN" | .gated => "GATED" | .off => "OFF" | .isolated => "ISOLATED" | .dead => "DEAD"

/-- A cause as a name. -/
def causeName : FaultCause → String
  | .none_ => "none" | .clock => "CLOCK" | .voltage => "VOLTAGE" | .handshakeTimeout => "HANDSHAKE_TIMEOUT"
  | .selftestFail => "SELFTEST_FAIL" | .startStepFail => "START_STEP_FAIL" | .watchdog => "WATCHDOG"

/-- One island's line. -/
def islLine (s : State) (i : Island) : List (String × Val) :=
  ("state", .name (islName (islState s i))) :: ("cause", .name (causeName (getIsl s i).cause))
    :: wordFields (.isl i) (islWord s i)

/-- The islands an `island` command names: one, or all. -/
def namedIslands (id : Option Nat) : Option (List Island) :=
  match id with
  | none => some Island.all
  | some n => (Island.ofId n).map (fun i => [i])

/-- The answer of ISLAND_SHOW (R158). -/
def islandShowAnswer (id : Option Nat) (s : State) : Reply :=
  .ok (((namedIslands id).getD []).map (islLine s))

/-- ISLAND_SHOW (R158). -/
def execIslandShow (l : Line) (id : Option Nat) (s : State) : Host.Outcome State Fault Refusal :=
  .next (showCmd s l { safe := true, hold := true } (if (namedIslands id).isNone then some .noSuchIsland else none) (islandShowAnswer id))

end Sys2Proof.Machine
end

