-- ==== Sys2Proof/Machine/LifeOps.lean ====
section
/-!
DEFINITION. The life cycle (ch. 18): the transitions and their conditions, the burn, what S03 applies, and the words of
SVC.LC.STATUS, SVC.TEST.STATUS and SVC.TEST.UNUSABLE.
-/

namespace Sys2Proof.Machine

open Sys2Proof

/-- Code of a state (ch. 18, Life-cycle state encoding). -/
def lcCode : LifeState → Nat
  | .blank => 0 | .foundry => 1 | .field => 2 | .returned => 3 | .retired => 4

/-- A state as a name. -/
def lcName : LifeState → String
  | .blank => "BLANK" | .foundry => "FOUNDRY" | .field => "FIELD" | .returned => "RETURNED" | .retired => "RETIRED"

/-! ### Status words -/

/-- Further RETURNED-to-FIELD transitions: one for each count 3, 5, 7, 9 not yet passed (R784). -/
def returnsLeft (s : State) : Nat := if s.life.retired then 0 else Nat.min 4 ((11 - s.life.count) / 2)

/-- `test run` is permitted now: the state, and J-SVC (ch. 18, Test engine access by state). -/
def testOpen (s : State) : Bool :=
  s.bay.jsvc && (match lcState s with | .blank | .foundry | .returned => true | _ => false)

/-- SVC.LC.STATUS. -/
def lcStatusWord (s : State) : Word64 :=
  packWord [(28, match s.life.intent with | some t => lcCode t | none => 0xF), (12, returnsLeft s), (8, s.life.count),
    (4, b2n (testOpen s)), (0, lcCode (lcState s))]

/-- ENGINE of SVC.TEST.STATUS. -/
def engineCode (s : State) : Nat :=
  match s.phase with
  | .selftest _ => 1
  | _ => if s.life.cmd.isSome then 3 else if starting s ∧ s.boot.fg = 7 then 2 else 0

/-- SVC.TEST.STATUS. -/
def testStatusWord (s : State) : Word64 :=
  packWord [(32, match s.life.runs with | r :: _ => r.seq | [] => 0),
    (24, match s.life.under with | some i => i.id | none => 0xFF), (20, engineCode s),
    (8, match s.phase with | .selftest _ => Nat.min 90 ((s.clock.ledger - s.life.flushEnd) / sec) | _ => 0)]

/-- Islands held unusable. -/
def unusableIslands (s : State) : List Island := Island.all.filter (fun i => (getIsl s i).unusable && ! i.essential)

/-- SVC.TEST.UNUSABLE. -/
def unusableWord (s : State) : Word64 := packWord ((unusableIslands s).map (fun i => (i.id, 1)))

/-! ### Transitions (R784 to R788) -/

/-- A run of the shutdown set. -/
def shutdownRun (r : TestRun) : Bool :=
  match r.cause with | .halt | .thermal | .restart | .dormant => true | .command | .inline_ => false

/-- The newest shutdown run. -/
def newestShutdown (s : State) : Option TestRun := s.life.runs.find? shutdownRun

/-- ALL_PASS: the newest shutdown run is COMPLETE and every record in it is PASS. -/
def allPass (s : State) : Bool :=
  match newestShutdown s with
  | some r => decide (r.outcome = .complete) && r.recs.all (fun x => decide (x.1.result = .pass))
  | none => false

/-- Why a transition is refused (ch. 18, Life-cycle transitions table). -/
def transitionErr (s : State) (target : LifeState) : Option ErrName :=
  let fitted : Option ErrName := if s.bay.jsvc then none else some .jsvc
  let pass : Option ErrName := if allPass s then none else some .allPass
  match lcState s, target with
  | .blank, .foundry => fitted
  | .foundry, .field => firstErr [fitted, pass]
  | .field, .returned => none
  | .returned, .field =>
    firstErr [fitted, if s.life.count ≤ 9 then none else some .returnsLeft, pass,
      if svnCounter s < 64 then none else some .svnLeft]
  | .returned, .retired => none
  | _, _ => some .lifecycle

/-- The transition erases the transition set (R786). -/
def erases : LifeState → Bool
  | .field | .returned => true
  | _ => false

/-- The transition from BLANK burns an identity key seed from the random-bit generator (R784). -/
def burnSeed (s : State) (t : LifeState) : State :=
  if t = .foundry then
    let (b, s) := freshBytes s 48
    updLife s (fun d => { d with seed := some b })
  else s

/-- The burn of an intent's fuse (R787 step 4): read back burned or, after 3 attempts, LC_FUSE_FAIL (R788). -/
def burnIntent (s : State) (t : LifeState) (ok : Bool) : State :=
  if ok then
    updLife (burnSeed s t) (fun d => { d with
      count := if t = .retired then d.count else d.count + 1
      retired := d.retired || decide (t = .retired), burned := true })
  else logEv s .lcFuseFail { details := [(lcCode t : Int)] }

/-- The items of the transition set that are no stalls: wardens, the row key and ROW_ID, the KV1 source list and KV1, the
held parcel (R786). -/
def clearSet (s : State) : State :=
  let s := updCon s (fun c => { c with wardens := [] })
  let s := updRow s (fun d => { d with key := none })
  let put (s : State) (a : Attr) (name : String) : State :=
    match attrField? a name with
    | some f => cfgStore s a (fieldPut f (cfgWord s a) 0)
    | none => s
  let s := put (put s .rowCfg "ROW_ID") .kvCfg "KV1_EN"
  let s := (List.finRange 64).foldl (fun s k =>
    cfgStore (cfgStore (cfgStore s (.kv1SrcHi k) (attrFactory (.kv1SrcHi k))) (.kv1SrcLo k) (attrFactory (.kv1SrcLo k)))
      (.kv1SrcCtrl k) (attrFactory (.kv1SrcCtrl k))) s
  updFw s (fun d => { d with parcel := none })

/-- S03 finds an intent: with the fuse burned it applies what is no stall and logs LC_CHANGED; else the intent is discarded
(R787 step 5, R788). -/
def applyIntent (s : State) : State :=
  match s.life.intent with
  | none => s
  | some t =>
    if s.life.burned then
      let old := if t = .retired then lcStateOf s.life.count false else lcStateOf (s.life.count - 1) false
      let s := if erases t then clearSet s else s
      let s := updLife s (fun d => { d with intent := none, burned := false, clearing := d.clearing || erases t })
      logEv s .lcChanged { details := [(lcCode old : Int), (lcCode t : Int), (s.life.count : Int)] }
    else
      logEv (updLife s (fun d => { d with intent := none })) .lcTransitionAbandoned { details := [(lcCode t : Int)] }

end Sys2Proof.Machine
end

