-- ==== Sys2Proof/Machine/Life.lean ====
section
/-!
DEFINITION. The commands of the test engine and the life cycle (ch. 18).
-/

namespace Sys2Proof.Machine

open Sys2Proof

/-! ### The end of an island's test (R795, R796, R804, R810 to R812) -/

/-- Take the engine's last readings of an island. -/
def noteReadings (s : State) (r : TestOutcome) : State :=
  updIslRec s r.island (fun d => { d with junction := r.junction, freqDev := r.freqDev, voltDev := r.voltDev })

/-- An island of the shutdown set is done: its record, its return to RUN or entry into DEAD, the next island. -/
def setIslandDone (s : State) (r : TestOutcome) : State :=
  let s := updLife (addTestRec s r) (fun d => { d with under := none })
  let s := if r.result = .fail then deadIsland s r.island .selftestFail else setIsl s r.island .run
  nextTest (s.life.shutdown.getD []) s

/-- A pass of a commanded test is done: the next pass, or the end; no further loop runs once J-SVC reads not fitted
(R812). -/
def cmdPassDone (s : State) (c : TestCmd) (r : TestOutcome) : State :=
  if r.result = .pass ∧ 1 < c.loops ∧ s.bay.jsvc then
    updLife s (fun d => { d with cmd := some { c with loops := c.loops - 1 }, underAt := s.clock.ledger })
  else
    let cut : Bool := decide (r.result = .pass) && decide (1 < c.loops)
    let s := if r.result = .fail then deadIsland s r.island .selftestFail else leaveTest s r.island .run
    endCmd s c r (if cut then .cut else .complete)

/-- The island's test ends with a result. -/
def testEnds (s : State) (r : TestOutcome) : State :=
  let s := noteReadings (advanceTo s (s.life.underAt + 1000 * r.duration)) r
  match s.life.cmd with
  | some c => cmdPassDone s c r
  | none => setIslandDone s r

/-- SELFTEST_ISLAND_DONE (R796, R800, R804): the island under test passed, or failed in one of its parts. -/
def execSelftestIslandDone (r : TestOutcome) (s : State) : Host.Outcome State Fault Refusal :=
  .next (if s.life.under = some r.island then
      match r.result with
      | .pass => testEnds s { r with part := .none_, detail := 0 }
      | .fail =>
        let parts := match s.life.cmd with | some c => c.parts | none => partsOf r.island
        if parts.contains r.part then testEnds s r else s
      | _ => s
    else s)

/-- SELFTEST_LIMIT_LEFT (R795): the test stops, NOT_RUN with part LIMITS, and the island is re-initialised. -/
def execSelftestLimitLeft (r : TestOutcome) (s : State) : Host.Outcome State Fault Refusal :=
  let out : Bool := ! inLimits { freqDev := r.freqDev, voltDev := r.voltDev, junction := r.junction }
  .next (if s.life.under = some r.island ∧ out then
      testEnds s { r with result := .notRun, part := .limits, detail := 0 }
    else s)

/-! ### `test run` and `island revive` (R789, R807, R810, R811) -/

/-- The check of a `test run` line's values: the island, its parts, the loops. -/
def testArgErr (island : Nat) (parts : List TestPart) (loop : Int) : Option ErrName :=
  match Island.ofId island with
  | none => some .noSuchIsland
  | some i => firstErr [if parts.all (partsOf i).contains then none else some .badValue, rangeErr loop 1 1000]

/-- Why `test run` is refused (R789, R810). -/
def testRefusal (s : State) (i : Island) : Option ErrName :=
  firstErr [match lcState s with | .field | .retired => some .lifecycle | _ => none,
    if s.bay.jsvc then none else some .jsvc,
    if i.essential then some .essential else none,
    match islState s i with | .dead | .isolated => some .islandAbsent | _ => none,
    if s.stalls.tab.all (fun x => decide (x.2.state = .free)) then none else some .inService]

/-- Begin a commanded test: open stripes are completed before PARITY or a MEDIA island is isolated, and the subsystem of the
island does without it (R811). -/
def beginCmd (s : State) (i : Island) (parts : List TestPart) (loops : Nat) (slot : SessId × Nat) : State :=
  let pad : Bool := match i with | .parity | .media _ => true | _ => false
  let s := if pad then
      (s.media.bands.filter (fun b => decide (b.2.state = .open_))).foldl (fun s b => padStripe s b.1) s
    else s
  let s := setIsl s i .isolated
  let s := updLife s (fun d => { d with
    under := some i, underAt := s.clock.ledger
    cmd := some { slot := slot, parts := parts, loops := loops, island := i } })
  match i with
  | .media _ => s
  | _ => islandCost s i

/-- TEST_RUN (R789, R810, R811). -/
def execTestRun (l : Line) (island : Nat) (parts : List TestPart) (loop : Int) (s : State) : Host.Outcome State Fault Refusal :=
  .next (runCmd s l { priv := true, consoles := true, blank := true } (testArgErr island parts loop) (fun s n =>
    let i := (Island.ofId island).getD .svc
    match testRefusal s i with
    | some e => .say s (.err e) none
    | none =>
      if runOpen s then .say s .busy none
      else
        let s := openRun s .command
        if inLimits (getIsl s i) then
          .wait (beginCmd s i (if parts.isEmpty then partsOf i else parts) loop.toNat (l.sess, n))
        else
          .say (closeRun (addTestRec s (bareRec s i .notRun .limits)) .complete)
            (okLine [("result", .name (testResultName .notRun)), ("part", .name (testPartName .limits)), ("ms", vn 0)]) none))

/-- ISLAND_REVIVE (R807). -/
def execIslandRevive (l : Line) (id : Nat) (s : State) : Host.Outcome State Fault Refusal :=
  .next (runCmd s l { priv := true } (if (Island.ofId id).isNone then some .noSuchIsland else none) (fun s _ =>
    let i := (Island.ofId id).getD .svc
    if i.essential then .say s (.err .essential) none
    else
      let s := updIslRec s i (fun d => { d with unusable := false, deadMark := none, revived := true })
      let s := updLife s (fun d => { d with deadTimes := AMap.del d.deadTimes i })
      .say (logEv s .islandRevived { island := some i }) okReply none))

/-! ### `lifecycle` (R784 to R787) -/

/-- The answer of LIFECYCLE_SHOW. -/
def lifecycleShowAnswer (s : State) : Reply :=
  okLine (("state", .name (lcName (lcState s))) :: ("serial", vn Config.serial)
    :: wordFields .lcStatus (lcStatusWord s))

/-- LIFECYCLE_SHOW. -/
def execLifecycleShow (l : Line) (s : State) : Host.Outcome State Fault Refusal :=
  .next (showCmd s l { hold := true } none lifecycleShowAnswer)

/-- LIFECYCLE_SET (R784, R785, R787 steps 1 and 2). -/
def execLifecycleSet (l : Line) (target : Option LifeState) (serial : Nat) (s : State) : Host.Outcome State Fault Refusal :=
  .next (runCmd s l { priv := true, consoles := true, blank := true } (if target.isNone then some .badValue else none) (fun s _ =>
    let t := target.getD .blank
    if serial ≠ Config.serial then .say s (.err .serial) none
    else match transitionErr s t with
    | some e => .say s (.err e) none
    | none =>
      if slotPending s || s.fw.install.isSome then .say s .busy none
      else
        let s := updLife s (fun d => { d with intent := some t, burned := false })
        let s := logEv s .lcTransitionBegin { details := [(lcCode (lcState s) : Int), (lcCode t : Int)] }
        .say s (okLine [("lifecycle", .name (lcName t)), ("", .name "restarting")]) (some (.halt .restart))))

/-! ### `test show` and `test results` (R800, R875) -/

/-- A run's header as a line. -/
def runLine (r : TestRun) : List (String × Val) :=
  [("RUN_SEQ", vn r.seq), ("START_NO", vn r.startNo), ("CAUSE", vn (runCauseCode r.cause)),
    ("OUTCOME", vn (runOutcomeCode r.outcome)), ("COUNT", vn r.recs.length), ("LC", vn (lcCode r.lc)),
    ("LTIME_BEGIN", vn r.began), ("LTIME_END", vn r.ended), ("FW_VERSION", vn r.fw), ("DRAM_WINDOW", vn r.window)]

/-- An island record as a line. -/
def testRecLine (x : TestOutcome × Nat) : List (String × Val) :=
  let o := x.1
  [("ID", vn o.island.id), ("RESULT", .name (testResultName o.result)), ("PART", .name (testPartName o.part)),
    ("JUNCTION", .num o.junction), ("FREQ_DEV", .num o.freqDev), ("VOLT_DEV", .num o.voltDev), ("LTIME", vn x.2),
    ("DETAIL", vn o.detail), ("DURATION", vn o.duration)]

/-- Bytes followed by their CRC-32C. -/
def withCrc (bs : List Byte) : List Byte := bs ++ leBytes 4 (crc32c bs)

/-- The 64 bytes of a run header (ch. 18, Run header). -/
def runBytes (r : TestRun) : List Byte :=
  withCrc (leBytes 4 0x5E1F7E57 ++ leBytes 4 r.seq ++ leBytes 4 r.startNo ++ leBytes 1 (runCauseCode r.cause)
    ++ leBytes 1 (runOutcomeCode r.outcome) ++ leBytes 1 r.recs.length ++ leBytes 1 (lcCode r.lc) ++ leBytes 8 r.began
    ++ leBytes 8 r.ended ++ leBytes 8 r.fw ++ leBytes 4 r.window ++ leBytes 16 0)

/-- The 32 bytes of an island record (ch. 18, Island record). -/
def testRecBytes (x : TestOutcome × Nat) : List Byte :=
  let o := x.1
  withCrc (leBytes 1 o.island.id ++ leBytes 1 (testResultCode o.result) ++ leBytes 1 (testPartCode o.part)
    ++ leBytes 1 (signedField 8 o.junction) ++ leBytes 2 (signedField 16 o.freqDev) ++ leBytes 2 (signedField 16 o.voltDev)
    ++ leBytes 8 x.2 ++ leBytes 8 o.detail ++ leBytes 4 o.duration)

/-- The answer of TEST_SHOW. -/
def testShowAnswer (s : State) : Reply :=
  .ok (wordFields .testStatus (testStatusWord s)
    :: (unusableIslands s).map (fun i => [("unusable", vn i.id)])
    ++ (match s.life.runs with
      | r :: _ => [runLine r ++ [("pass", vn (countRecs r .pass)), ("fail", vn (countRecs r .fail)),
          ("notrun", vn (countRecs r .notRun))]]
      | [] => []))

/-- TEST_SHOW: the status, the unusable islands, the newest run's summary. -/
def execTestShow (l : Line) (s : State) : Host.Outcome State Fault Refusal :=
  .next (showCmd s l { hold := true } none testShowAnswer)

/-- A run's answer: header and records, of one island when asked, as lines or as bytes. -/
def runReply (r : TestRun) (island : Option Nat) (raw : Bool) : Reply :=
  let rs := r.recs.filter (fun x => match island with | some i => decide (x.1.island.id = i) | none => true)
  if raw then .ok ([("header", .bytes (runBytes r))] :: rs.map (fun x => [("record", .bytes (testRecBytes x))]))
  else .ok (runLine r :: rs.map testRecLine)

/-- The oldest and newest RUN_SEQ held (R875). -/
def heldRuns (s : State) : Reply :=
  match s.life.runs, s.life.runs.getLast? with
  | r :: _, some o => okLine [("oldest", vn o.seq), ("newest", vn r.seq)]
  | _, _ => okLine [("runs", vn 0)]

/-- The answer of TEST_RESULTS (R875). -/
def testResultsAnswer (run : Option Nat) (island : Option Nat) (raw : Bool) (s : State) : Reply :=
  let got := match run with | none => s.life.runs.head? | some n => s.life.runs.find? (fun r => decide (r.seq = n))
  match got with
  | some r => runReply r island raw
  | none => heldRuns s

/-- TEST_RESULTS (R875). -/
def execTestResults (l : Line) (run island : Option Nat) (raw : Bool) (s : State) : Host.Outcome State Fault Refusal :=
  let bad : Option ErrName := match island with
    | some i => if (Island.ofId i).isNone then some .noSuchIsland else none
    | none => none
  .next (showCmd s l { hold := true } bad (testResultsAnswer run island raw))

end Sys2Proof.Machine
end

