-- ==== Sys2Proof/Machine/Ports.lean ====
section
/-!
DEFINITION. The two ports (ch. 07): links, the pair, LACP, the receive path, counters, pauses, the transmit queues and the
port commands. DORMANT_ENTER and WAKE stand with the start and the halt.
-/

namespace Sys2Proof.Machine

open Sys2Proof

/-! ### Links -/

/-- LINK_UP (R271, R275): link has held for 50 ms. In Dormant an armed port's link comes up without a record (R317). -/
def execLinkUp (p : PortId) (speed : Nat) (snr : Int) (s : State) : Host.Outcome State Fault Refusal :=
  .next (
    let up (s : State) : State := updPort s p (fun d => { d with
      link := true, speed := speed, energy := true, training := false, linkSince := some s.clock.ledger, lldpFast := 4
      snr := if 3 ≤ speed then snr else 0 })
    if (getPort s p).link then s
    else if s.phase = .dormant then (if (getPort s p).armed ∧ speed = 1 then up s else s)
    else if linksLive s && islUp s p.island && ! (getPort s p).heldDown then
      let s := logEv (up s) .linkUp { port := some p, details := [(speed : Int)] }
      let s := if aggMode s then updPort s p (fun d => { d with lacp := .waiting, lacpAt := none }) else s
      let s := if starting s ∧ s.boot.s17Link = none then updBoot s (fun b => { b with s17Link := some s.clock.ledger })
        else s
      beginAll (rebudget (renegotiated (portGained (speedMismatch s) p) p))
    else s)

/-- LINK_DOWN (R271, R272, R276, R280): the link is lost, the port's allocation is void (R95), and the port retrains. -/
def execLinkDown (p : PortId) (s : State) : Host.Outcome State Fault Refusal :=
  .next (if ¬ (getPort s p).link then s
    else if s.phase = .dormant then updPort s p (fun d => { d with link := false, speed := 0 })
    else
      rebudget (train (linkLoss s p) p))

/-- LINK_DOWNSHIFT (R270): two tries at a speed have failed; it is dropped for the rest of the attempt. -/
def execLinkDownshift (p : PortId) (speed : Nat) (s : State) : Host.Outcome State Fault Refusal :=
  .next (if (getPort s p).training then
      let s := updPort s p (fun d => { d with dropped := speed :: d.dropped
                                              advertised := d.advertised.filter (fun c => decide (c ≠ speed))
                                              downshifts := sat (d.downshifts + 1) 255 })
      logEv s .linkDownshift { port := some p, details := [(speed : Int)] }
    else s)

/-- The primary port (CORE.BOND.CFG.PRIMARY). -/
def primaryPort (s : State) : PortId := if cfgField s .bondCfg "PRIMARY" = 1 then .p1 else .p0

/-- BOND_REVERT (R277): the primary port has held link for 30 s without a break while the other is active. -/
def execBondRevert (s : State) : Host.Outcome State Fault Refusal :=
  .next (
    let p := primaryPort s
    if cfgField s .bondCfg "REVERT" = 1 ∧ ¬ aggNow s ∧ s.ports.active = some p.other ∧ portUp s p then
      match (getPort s p).linkSince with
      | none => s
      | some t => failoverTo (advanceTo s (t + 30 * sec)) p
    else s)

/-! ### LACP (R278 to R282) -/

/-- The partner system another distributing member is aggregated with. -/
def otherPartner (s : State) (p : PortId) : Option MacAddr :=
  if distributing s p.other then (getPort s p.other).lacpPartner else none

/-- LACPDU_RECEIVE (R278, R280, R281): the member's state follows the partner; a second member joins the partner system of
the first. -/
def execLacpduReceive (p : PortId) (pdu : Lacpdu) (s : State) : Host.Outcome State Fault Refusal :=
  .next (if aggMode s && portUp s p then
      let same := match otherPartner s p with | none => true | some m => decide (m = pdu.system)
      let st := if pdu.inSync && same then Lacp.distributing else .waiting
      settlePair (updPort s p (fun d => { d with lacp := st, lacpPartner := some pdu.system
                                                 lacpAt := some s.clock.ledger }))
    else s)

/-- The interval of LACPDUs (R278). -/
def lacpInterval (s : State) : Nat := if cfgField s .bondCfg "LACP_FAST" = 1 then sec else 30 * sec

/-- The drive's LACPDU on a port (R278). -/
def lacpPdu (s : State) (p : PortId) : NetItem :=
  .lacp { system := Config.macAddr .p0, priority := 0x8000, key := Config.lacpKey, port := p
          fast := decide (cfgField s .bondCfg "LACP_FAST" = 1) }

/-- LACPDU_TRANSMIT (R278): the timer of 1 s or 30 s runs out; the first one goes at once. -/
def execLacpduTransmit (p : PortId) (s : State) : Host.Outcome State Fault Refusal :=
  .next (if aggMode s && portUp s p then
      let s := match (getPort s p).lacpTx with | some t => advanceTo s (t + lacpInterval s) | none => s
      sendLink (updPort s p (fun d => { d with lacpTx := some s.clock.ledger })) p (lacpPdu s p) 14
    else s)

/-- LAG_NO_PARTNER (R281): link, and no LACPDU within 3 s. -/
def execLagNoPartner (p : PortId) (s : State) : Host.Outcome State Fault Refusal :=
  .next (if aggMode s && portUp s p && decide ((getPort s p).lacp ≠ .defaulted) then
      let since := match (getPort s p).lacpAt with
        | some t => t | none => ((getPort s p).linkSince).getD (now s)
      let s := updPort (advanceTo s (since + 3 * sec)) p (fun d => { d with lacp := .defaulted, lacpPartner := none })
      portGained (logEv s .lagNoPartner { port := some p }) p
    else s)

/-! ### The receive path (R288 to R299) -/

/-- A destination in 01-80-C2-00-00-00 to 01-80-C2-00-00-0F. -/
def controlDst (m : MacAddr) : Bool := decide (m.toNat / 16 = 0x0180C200000)

/-- The frame carries a tag the MAC reads: TPID 0x8100. -/
def isTagged (f : EthFrame) : Bool := decide (f.tpid = some 0x8100)

/-- An enabled VLAN has this VID. -/
def vlanKnown (s : State) (vid : Nat) : Bool :=
  (List.finRange 8).any (fun k => decide (cfgField s (.vlanKCfg k) "ENABLE" = 1) && decide (cfgField s (.vlanKCfg k) "VID" = vid))

/-- Check 7: the counter of a VLAN drop, if any (R284, R285). -/
def vlanDrop (s : State) (f : EthFrame) : Option Ctr :=
  if f.tpid = some 0x88A8 ∨ f.tpid = some 0x9100 then some .rxTypeDrop
  else if isTagged f && decide (f.vid ≠ 0) then
    (if vlanKnown s f.vid then none else some .rxVlanUnknown)
  else if cfgField s .vlanCfg "UNTAGGED" = 1 then none else some .rxVlanUnknown

/-- Checks 3 to 8 in order: the counter of the first that drops the frame (ch. 07, Receive checks). The control receiver
consumes LACP, LLDP and MAC control without a drop. -/
inductive RxVerdict
  | drop (c : Ctr)
  | consumed
  | pass
deriving DecidableEq, Repr

/-- The verdict of checks 3 to 8. -/
def rxVerdict (s : State) (p : PortId) (f : EthFrame) : RxVerdict :=
  if f.symbolErr then .drop .rxSymbolErr
  else if controlDst f.dst then
    (if f.dst.toNat % 16 = 1 ∨ f.dst.toNat % 16 = 2 ∨ f.dst.toNat % 16 = 14 then .consumed else .drop .rxTypeDrop)
  else if ! passesFilter s p f.dst then .drop .rxFilterMiss
  else if standbyRx s p then .drop .rxStandby
  else match vlanDrop s f with
    | some c => .drop c
    | none => if 4194304 < (getPort s p).rxFill - f.taken + Nat.min f.len (frameLimit s p (isTagged f)) then .drop .rxBufDrop else .pass

/-- FRAME_RECEIVE (R288 to R298, R838, R839): the frame's headers are in. Checks 1 to 8 are made; a policy drop is counted
now; the lookups and reads of what it asks for begin; the capture and the delivery wait for the FCS. -/
def execFrameReceive (p : PortId) (f : EthFrame) (s : State) : Host.Outcome State Fault Refusal :=
  .next (if ¬ portUp s p then s
    else
      let d := getPort s p
      let runt := decide (f.len < 64)
      let long := decide (frameLimit s p (isTagged f) < f.len)
      let v := rxVerdict s p f
      let miss := decide (v = .drop .rxFilterMiss)
      let reaches := match v with
        | .drop .rxSymbolErr => false
        | .drop .rxTypeDrop => ! controlDst f.dst
        | .drop .rxFilterMiss => true
        | .consumed => false
        | _ => true
      let s := wakeIsl s p.island
      let s := if runt then s else match v with | .drop c => countHw s p c 1 | _ => s
      let s := if ! runt && decide (v = .pass) && ! long && islUp s .proto then f.gets.foldl (speculate p) s else s
      updPort s p (fun d => { d with rxFill := d.rxFill - f.taken, rx := some {
        frame := f, captured := ! runt && d.capturing && reaches, filterMiss := miss, trunc := long
        passed := ! runt && decide (v = .pass) } }))

/-- Kind of a destination. -/
def castOf (m : MacAddr) : CastKind :=
  if m = BitVec.allOnes 48 then .broadcast else if m.toNat.testBit 40 then .multicast else .unicast

/-- Count a delivered frame (ch. 07, Port counters). -/
def countDelivered (s : State) (p : PortId) (f : EthFrame) : State :=
  let s := countHw (countHw s p .rxOctets f.len) p .rxFrames 1
  let s := countHw s p (match castOf f.dst with | .unicast => .rxUnicast | .multicast => .rxMulticast
                                                | .broadcast => .rxBroadcast) 1
  if isTagged f && decide (f.vid ≠ 0) then countHw s p .rxVlanTagged 1 else s

/-- PROTO's counter of frames marked TRUNC on a port (R290). -/
def oversizeCtr (p : PortId) : ProtoCtr := match p with | .p0 => .oversizeP0 | .p1 => .oversizeP1

/-- Add to a counter of PROTO.STAT. -/
def countProto (s : State) (c : ProtoCtr) (n : Nat) : State :=
  updProto s (fun d => { d with stats := AMap.set d.stats c (AMap.getD d.stats c 0 + n) })

/-- FRAME_FCS_RESULT (R288, R298, R299, R345, R838): the frame ends; an IP fragment is dropped and counted. A bad FCS leaves RX_FCS_ERR, or RX_FRAGMENT below 64 bytes, and
a capture record, and cancels what was begun for it; a good one delivers what passed every check into the port's buffer. -/
def execFrameFcsResult (p : PortId) (good : Bool) (s : State) : Host.Outcome State Fault Refusal :=
  .next (match (getPort s p).rx with
    | none => s
    | some r =>
      let f := r.frame
      let s := updPort s p (fun d => { d with rx := none })
      let s := if good then keepSpec (noteBlink s) p else cancelSpec s p
      let s := if r.captured && (getPort s p).capturing then
          updPort s p (fun d => { d with capture :=
            ({ ltime := s.clock.ledger, len := f.len, trunc := r.trunc, fcsBad := ! good, filterMiss := r.filterMiss,
               bytes := f.bytes.take 128 } :: d.capture).take Config.captureRecords })
        else s
      if f.len < 64 then countHw s p (if good then .rxRunt else .rxFragment) 1
      else if ! good then (if r.passed then countHw s p .rxFcsErr 1 else s)
      else
        let s := if f.symbolErr then s else countHw s p (rxBin f.len) 1
        if ! r.passed then s
        else
          let s := updPort s p (fun d => { d with rxFill := d.rxFill + Nat.min f.len (frameLimit s p (isTagged f)) })
          if r.trunc then countProto s (oversizeCtr p) 1
          else
            let s := countDelivered s p f
            if f.fragment then updNet s (fun d => { d with fragDrop := d.fragDrop + 1 }) else s)

/-! ### Counters (R301 to R304) -/

/-- COUNTER_HALF (R301): the counter reaches half range. -/
def execCounterHalf (p : PortId) (c : Ctr) (s : State) : Host.Outcome State Fault Refusal :=
  .next (setCount s p c (Nat.max (hwCtr s p c).count 0x80000000))

/-- Fold an amount: the hardware subtracts it in one step and the accumulator takes it; an amount above COUNT is ignored
and raises FOLD_ERROR (R302, R303). -/
def fold (s : State) (p : PortId) (c : Ctr) (amount : Nat) : State :=
  let h := hwCtr s p c
  if h.count < amount then logEv s .foldError { port := some p, details := [(ctrCode c : Int), (amount : Int)] }
  else updPort s p (fun d => { d with
    hw := AMap.set d.hw c { h with count := h.count - amount }
    acc := AMap.set d.acc c (AMap.getD d.acc c 0 + amount)
    half := d.half.filter (fun x => decide (x ≠ c)) })

/-- COUNTER_FOLD (R303): firmware folds what it reads. -/
def execCounterFold (p : PortId) (c : Ctr) (s : State) : Host.Outcome State Fault Refusal :=
  .next (if (getPort s p).half.contains c then fold s p c (hwCtr s p c).count else s)

/-- HWSTAT_FOLD (R302): firmware writes FOLD with an index and an amount. The index of no counter raises FOLD_ERROR, as a reserved
code does (ch. 20, Port counter codes table). -/
def execHwstatFold (p : PortId) (index amount : Nat) (s : State) : Host.Outcome State Fault Refusal :=
  .next (match ctrOfCode index with
    | none => logEv s .foldError { port := some p, details := [(index : Int), (amount : Int)] }
    | some c => fold s p c amount)

/-- COUNTER_SATURATED (R301): a count would pass the top. -/
def execCounterSaturated (p : PortId) (c : Ctr) (s : State) : Host.Outcome State Fault Refusal :=
  .next (setCount s p c 0x100000000)

/-! ### PAUSE and PFC (R310 to R314) -/

/-- Pauses are honoured on a port now (R313). -/
def pausable (s : State) (p : PortId) : Bool :=
  match (getPort s p).stormUntil with | none => true | some t => decide (t ≤ now s)

/-- The time of a number of quanta of 512 bit times at the port's speed, microseconds, rounded up (R310). -/
def quantaTime (s : State) (p : PortId) (q : Nat) : Nat := ceilDiv (512 * q) (Nat.max 1 (speedMbit (getPort s p).speed))

/-- Pause one queue for a number of quanta; 0 resumes it. -/
def pauseQueue (p : PortId) (q : Fin 8) (n : Nat) (s : State) : State :=
  let held := match AMap.find (getPort s p).paused q with | some t => decide (s.clock.ledger ≤ t) | none => false
  updPort s p (fun d =>
    let d := { d with paused := if n = 0 then AMap.del d.paused q
                                else AMap.set d.paused q (s.clock.ledger + quantaTime s p n) }
    if q = 7 then { d with q7Since := if n = 0 then none else some (if held then d.q7Since.getD s.clock.ledger else s.clock.ledger) }
    else d)

/-- PAUSE_FRAME (R310, R312). -/
def execPauseFrame (p : PortId) (quanta : Nat) (s : State) : Host.Outcome State Fault Refusal :=
  .next (if ¬ portUp s p then s
    else
      let s := countHw s p .rxPause 1
      if cfgField s (.macCfg p) "PAUSE_IGNORE" = 1 ∨ ¬ pausable s p then s
      else (List.finRange 8).foldl (fun s q => pauseQueue p q quanta s) (countHw s p .txPausedQuanta quanta))

/-- PFC_FRAME (R311, R312): each enabled class pauses its queue. -/
def execPfcFrame (p : PortId) (quanta : List (Fin 8 × Nat)) (s : State) : Host.Outcome State Fault Refusal :=
  .next (if ¬ portUp s p then s
    else
      let s := countHw s p .rxPfc 1
      if cfgField s (.macCfg p) "PFC_IGNORE" = 1 ∨ ¬ pausable s p then s
      else quanta.foldl (fun s x => pauseQueue p x.1 x.2 (countHw s p .txPausedQuanta x.2)) s)

/-- PAUSE_EXPIRY (R310): the quanta of a queue run out. -/
def execPauseExpiry (p : PortId) (q : Fin 8) (s : State) : Host.Outcome State Fault Refusal :=
  .next (match AMap.find (getPort s p).paused q with
    | none => s
    | some t => pauseQueue p q 0 (advanceTo s t))

/-- PAUSE_STORM (R313): queue 7 has been held for 100 ms without a break. -/
def execPauseStorm (p : PortId) (s : State) : Host.Outcome State Fault Refusal :=
  .next (match (getPort s p).q7Since, AMap.find (getPort s p).paused 7 with
    | some t, some e =>
      if e < t + 100000 then s
      else
      let s := advanceTo s (t + 100000)
      let s := updPort s p (fun d => { d with paused := [], q7Since := none, stormUntil := some (s.clock.ledger + 10 * sec) })
      logEv s .pauseStorm { port := some p }
    | _, _ => s)

/-- PAUSE_STORM_END (R313): pauses are honoured again. -/
def execPauseStormEnd (p : PortId) (s : State) : Host.Outcome State Fault Refusal :=
  .next (match (getPort s p).stormUntil with
    | none => s
    | some t => updPort (advanceTo s t) p (fun d => { d with stormUntil := none }))

/-! ### Sending (R305) -/

/-- A queue of a port is not paused now. -/
def queueRuns (s : State) (d : Port) (q : Fin 8) : Bool :=
  match AMap.find d.paused q with | none => true | some t => decide (t ≤ s.clock.ledger)

/-- Queues from the highest to the lowest. -/
def queuesDown : List (Fin 8) := [7, 6, 5, 4, 3, 2, 1, 0]

/-- The frame the MAC starts next: the oldest of the highest queue that holds one, once that queue is not paused; a lower
queue waits until every higher one is empty (R305, R310, R311). What the port may not send now (R278, R323) is passed over. -/
def nextFrame (s : State) (p : PortId) : Option TxFrame :=
  let d := getPort s p
  match queuesDown.findSome? (fun q => d.tx.find? (fun f => decide (f.queue = q) && sendable s p f)) with
  | none => none
  | some f => if queueRuns s d f.queue then some f else none

/-- Count a sent frame (ch. 07, Port counters). -/
def countSent (s : State) (p : PortId) (f : TxFrame) : State :=
  let s := countHw (countHw s p .txOctets f.bytes) p .txFrames 1
  let s := countHw s p (match f.cast with | .unicast => .txUnicast | .multicast => .txMulticast
                                          | .broadcast => .txBroadcast) 1
  let s := if f.tagged then countHw s p .txVlanTagged 1 else s
  countHw (countHw s p (txBin f.bytes) 1) p (txQueueCtr f.queue) 1

/-- A connection's segment has been sent: the next may follow (R307). -/
def segmentSent (s : State) (f : TxFrame) : State :=
  match segOf f.item with
  | some (i, r, k) =>
    endClosed (release (updConn s i (fun c => { c with txBytes := c.txBytes - segBytes c r k })) i) i
  | none => if (tcpOf f.item).isSome then releaseWait s else s

/-- The MAC of a port sends its next frame to the end (R305). -/
def sendNext (s : State) (p : PortId) : State :=
  if ¬ portUp s p then s
  else match nextFrame s p with
  | none => s
  | some f =>
    let s := updPort s p (fun d => { d with tx := d.tx.erase f })
    noteBlink (segmentSent (countSent (emit s (.sent p f)) p f) f)

/-- FRAME_SENT (R305): the MAC sends its next frame to the end. -/
def execFrameSent (p : PortId) (s : State) : Host.Outcome State Fault Refusal :=
  .next (sendNext (if (getPort s p).tx.isEmpty then s else wakeIsl s p.island) p)

/-! ### Status words -/

/-- NETn.PHY.STATUS. -/
def phyStatusWord (s : State) (p : PortId) : Word64 :=
  let d := getPort s p
  packWord [(48, signedField 16 d.snr), (40, d.downshifts), (32, d.retrains), (7, b2n d.link), (6, b2n d.energy),
    (0, d.speed)]

/-- Code of a port's LACP state. -/
def lacpCode : Lacp → Nat
  | .notAgg => 0 | .waiting => 1 | .distributing => 2 | .defaulted => 3

/-- CORE.BOND.STATUS. -/
def bondStatusWord (s : State) : Word64 :=
  let act :=
    if aggNow s then
      if carries s .p0 && carries s .p1 then 2 else if carries s .p0 then 0 else 1
    else match s.ports.active with | none => 3 | some p => if portUp s p then p.num else 3
  packWord [(6, lacpCode (getPort s .p1).lacp), (4, lacpCode (getPort s .p0).lacp), (0, act)]

/-- NETn.MAC.DIAG. -/
def macDiagWord (s : State) (p : PortId) : Word64 :=
  packWord [(5, b2n (getPort s p).capturing), (4, b2n (getPort s p).promisc)]

/-- NETn.MAC.FILTERf. -/
def filterWord (s : State) (p : PortId) (f : Fin 16) : Word64 :=
  if f.val < 12 then
    match filterEntry s p f with
    | none => 0
    | some m => packWord [(63, 1), (62, b2n (m.toNat.testBit 40)), (0, m.toNat)]
  else cfgWord s (.macFilter p f)

/-- NETn.HWSTAT.<NAME>. -/
def hwstatWord (s : State) (p : PortId) (c : Ctr) : Word64 :=
  packWord [(32, b2n (hwCtr s p c).sat), (0, (hwCtr s p c).count)]

/-! ### Port commands -/

/-- The ports a command names. -/
def portsOf (p : Option PortId) : List PortId := match p with | some p => [p] | none => [.p0, .p1]

/-- The answer of PORT_SHOW. -/
def portShowAnswer (port : Option PortId) (s : State) : Reply :=
  .ok ((portsOf port).map (fun p =>
      ("port", vn p.num) :: (wordFields (.phyCfg p) (cfgWord s (.phyCfg p))
        ++ wordFields (.phyStatus p) (phyStatusWord s p) ++ [("address", vn (Config.macAddr p).toNat)]
        ++ wordFields (.macCfg p) (cfgWord s (.macCfg p)) ++ wordFields (.macDiag p) (macDiagWord s p)))
    ++ [wordFields .bondStatus (bondStatusWord s), wordFields .vlanCfg (cfgWord s .vlanCfg)]
    ++ ((List.finRange 8).map (fun k => ("vlan", vn k.val) :: wordFields (.vlanKCfg k) (cfgWord s (.vlanKCfg k)))))

/-- PORT_SHOW (ch. 07, Port commands). -/
def execPortShow (l : Line) (port : Option PortId) (s : State) : Host.Outcome State Fault Refusal :=
  .next (showCmd s l {} none (portShowAnswer port))

/-- The answer of PORT_STATS (R303). -/
def portStatsAnswer (port : Option PortId) (raw : Bool) (s : State) : Reply :=
  .ok ((portsOf port).map (fun p =>
    ("port", vn p.num) :: allCtrs.map (fun c =>
      ("counter", if raw then .word (hwstatWord s p c) else vn (statValue s p c)))))

/-- PORT_STATS (ch. 07, Port commands; R303). -/
def execPortStats (l : Line) (port : Option PortId) (raw : Bool) (s : State) : Host.Outcome State Fault Refusal :=
  .next (showCmd s l {} none (portStatsAnswer port raw))

/-- PORT_STATS_CLEAR (R304). -/
def execPortStatsClear (l : Line) (port : PortId) (s : State) : Host.Outcome State Fault Refusal :=
  .next (runCmd s l {} none (fun s _ =>
    .say (logEv (updPort s port (fun d => { d with hw := [], acc := [], half := [] })) .statsCleared { port := some port })
      okReply none))

/-- The answer of PORT_CAPTURE_READ (R297). -/
def portCaptureReadAnswer (port : PortId) (count : Option Nat) (s : State) : Reply :=
  let n := count.getD 100
  let d := getPort s port
  if ! d.capturing && d.capture.isEmpty then .err .noCapture
  else .ok ((d.capture.take n).reverse.map (fun r =>
    [("ltime", vn r.ltime), ("len", vn r.len), ("trunc", vb r.trunc), ("fcs_bad", vb r.fcsBad),
      ("filter_miss", vb r.filterMiss), ("bytes", .bytes r.bytes)]))

/-- PORT_CAPTURE_READ (R297): the newest records, oldest first; 1 to 100, the greatest by default. -/
def execPortCaptureRead (l : Line) (port : PortId) (count : Option Nat) (s : State) : Host.Outcome State Fault Refusal :=
  let n := count.getD 100
  .next (showCmd s l {} (rangeErr n 1 100) (portCaptureReadAnswer port count))

end Sys2Proof.Machine
end

