-- ==== Sys2Proof/Machine/Halt.lean ====
section
/-!
DEFINITION. The orderly halt after its beginning (ch. 01, 06, 18), power-fail and the end of a flush (ch. 03), the opening of
writes after cold and admission under the cap (ch. 03), Dormant and its wake (ch. 07), and the copying of the event log
(ch. 19).
-/

namespace Sys2Proof.Machine

open Sys2Proof

/-! ### The orderly halt -/

/-- ORDERLY_HALT (R44): an orderly halt begins for a reason. -/
def execOrderlyHalt (r : HaltReason) (s : State) : Host.Outcome State Fault Refusal := .next (beginHalt s r)

/-- Every command of a session that has no answer yet is answered `err HALTING` (R261). -/
def answerHalting (s : State) (x : SessId) : State :=
  flushSlots (updSess s x (fun d => { d with
    slots := d.slots.map (fun t => if t.reply.isNone then { t with reply := some (.err .halting) } else t) })) x

/-- A commanded test is cut short: the island is initialised again and comes back to RUN (R151). -/
def cutTest (s : State) (o : RunOutcome) : State :=
  match s.life.cmd with
  | some c => setIsl (stopRun s o) c.island .run
  | none => stopRun s o

/-- What stands in a port's transmit queues leaves before its link goes down. -/
def drainTx : Nat → PortId → State → State
  | 0, _, s => s
  | n + 1, p, s => drainTx n p (sendNext s p)

/-- Every connection closes, the queues empty, the links go down and stay down (R44 steps 5 and 6). -/
def closeAll (s : State) : State :=
  let s := (AMap.keys s.proto.conns).foldl closeConn s
  let s := [PortId.p0, PortId.p1].foldl (fun s p => drainTx (getPort s p).tx.length p s) s
  updProto (rebudget (holdLinks s)) (fun d => { d with conns := [], listening := false })

/-- HALT_DRAIN_END (R44, R261): the completions have been delivered, or 2 s have passed. Commands without an answer are
answered `err HALTING`, management sessions close, operations end, connections close, links stay down; the flush begins. -/
def execHaltDrainEnd (s : State) : Host.Outcome State Fault Refusal :=
  .next (match s.phase with
    | .draining r =>
      let s := cutTest s .cut
      let s := (AMap.keys s.con.sessions).foldl answerHalting s
      let s := (List.finRange 8).foldl (fun s k => closeMgmt s k 4) s
      setPhase (dropOps (closeAll s)) (.flushing r)
    | _ => s)

/-- What follows the halt's flush: the burn of a life-cycle transition, or the shutdown set while a feed is present, or the
end of the halt (R787, R790). -/
def afterHaltFlush (s : State) (r : HaltReason) (fuseOk : Bool) : State :=
  let s := updBoot s (fun b => { b with orderly := true })
  match s.life.intent with
  | some t => finishHalt (burnIntent s t fuseOk) .restart
  | none =>
    let fed := (getFeed s .p0).powered || (getFeed s .p1).powered
    match fed, lcState s with
    | false, _ => finishHalt s r
    | true, .blank => finishHalt s r
    | true, .retired => finishHalt s r
    | true, _ => startSet s r

/-- HALT_FLUSH_DONE (R44, R602, R693, R790, R850): the halt's flush has ended. -/
def execHaltFlushDone (fuseOk : Bool) (s : State) : Host.Outcome State Fault Refusal :=
  .next (match s.phase with
    | .flushing r => afterHaltFlush (copyLog (saveArcImage (haltFlush s))) r fuseOk
    | _ => s)

/-- `ok rebooting`. -/
def okRebooting : Reply := okLine [("", .name "rebooting")]

/-- REBOOT (R213, R250, R256, R261, R781, R798): an orderly halt with reason RESTART; in safe mode, in the hold and when
halted the drive restarts at once; during the shutdown set the run is cut first; before the halt's flush has ended `busy`. -/
def execReboot (l : Line) (s : State) : Host.Outcome State Fault Refusal :=
  .next (runCmd s l { safe := true, hold := true } none (fun s _ =>
    match s.phase with
    | .draining _ | .flushing _ => .say s .busy none
    | .selftest _ => .say (writeRtc (checkpoint (logSetEnd (stopRun s .cut) .cut) .halt)) okRebooting (some .restart)
    | .starting | .ready => .say s okRebooting (some (.halt .restart))
    | _ => .say s okRebooting (some .restart)))

/-! ### Power-fail (R124, R125, R127, R322, R791) -/

/-- A feed without power. -/
def deadFeed (f : Feed) : Feed :=
  { f with powered := false, detect := false, pseType := 0, alloc := none, late := none, lldpSeen := false, echo := 0 }

/-- FEED_LOST of a port that was powered (R103). -/
def logFeedLost (s : State) (p : PortId) : State :=
  if (getFeed s p).powered then logEv s .feedLost { port := some p } else s

/-- Both feeds are gone: each powered one is logged as lost, no lead is left, and the bank is no longer full (R101, R103). -/
def dropFeeds (s : State) : State :=
  let s := updBoot (logFeedLost (logFeedLost s .p0) .p1) (fun b => { b with warm := false })
  updPower s (fun d => { d with feeds := ⟨deadFeed d.feeds.a, deadFeed d.feeds.b⟩, lead := none, charged := false
                                standbySince := none, upSince := none, starvingSince := none })

/-- The drive is without power: neither port presents a signature (R37) or draws from its feed. -/
def goOff (s : State) : State :=
  updPower (updBoot (setPhase s .off) (fun b => { b with warm := false, fg := 0, scan := none, firstPower := none }))
    (fun d => { d with feeds := ⟨deadFeed d.feeds.a, deadFeed d.feeds.b⟩, lead := none, charged := false
                       starvingSince := none, upSince := none, standbySince := none })

/-- POWER_FAIL (R124, R125, R322, R791): both inputs stay below 40 V. The flush begins; in Dormant there is nothing to
flush; a flush that runs goes on. -/
def execPowerFail (s : State) : Host.Outcome State Fault Refusal :=
  .next (match s.phase with
    | .off => s
    | .failFlush _ => dropFeeds s
    | .dormant => goOff (dropFeeds s)
    | _ => beginFlush (dropFeeds (stopRun s .powerFail)) .powerFail)

/-- The flush record (R124 step 6, R606). -/
def writeFlushRec (s : State) (c : FlushCause) (duration : Nat) : State :=
  updBoot s (fun b => { b with
    flushRec := some { cause := c, startNo := b.gateStartNo, afterRec := (b.recSeq + 2 ^ 32 - 1) % 2 ^ 32
                       bytes := b.flushing.1, eAvail := b.flushing.2.1, duration := duration, endAt := s.clock.ledger
                       logged := false }
    flushing := (0, 0, false) })

/-- FLUSH_COMPLETE (R124 steps 4 to 6, R125, R127, R153, R360, R363, R607): the flush has taken its duration; its pages stand in
the shelter, those that failed at the next page of their die; its record, the FLUSH checkpoint and the RTC are written; the drive
restarts when a feed is present, else it is off. -/
def execFlushComplete (e : FlushEnd) (s : State) : Host.Outcome State Fault Refusal :=
  .next (match s.phase with
    | .failFlush c =>
      let s := advanceBy (writeShelter s e.fails) e.duration
      let s := if s.boot.flushing.2.2 then writeRtc (checkpoint s .flush) else s
      let s := writeFlushRec s c e.duration
      let s := if c = .powerFail then addHealth s .powerFails 1 else s
      if (getFeed s .p0).powered || (getFeed s .p1).powered then restartNow s else goOff s
    | _ => s)

/-! ### The cap and cold (R119, R128, R610) -/

/-- CAP_ADMISSION (R119): writes that waited for room under the cap are tried again, oldest first. -/
def execCapAdmission (s : State) : Host.Outcome State Fault Refusal := .next (rerun s .waitCap)

/-- COLD_OPEN (R128, R610): the lowest reading has stayed at or above −15.0 °C for 10 s; writes open, and the replay that
waited for it is completed. -/
def execColdOpen (flashMin : Int) (s : State) : Host.Outcome State Fault Refusal :=
  .next (
    let s := updPower s (fun d => { d with flashMin := flashMin })
    if -150 ≤ flashMin ∧ s.power.coldGate then
      let s := logEv (updPower s (fun d => { d with coldGate := false, dummy := false })) .coldOpen { details := [flashMin] }
      match s.media.replayHeld, s.media.image with
      | true, some img => replayData (replayLog s img) img
      | _, _ => s
    else s)

/-! ### Dormant (R315 to R321, R775) -/

/-- A port that `dormant enter` arms (R315). -/
def canArm (s : State) (p : PortId) : Bool := portUp s p && decide (cfgWord s (.wakeCfg p) &&& 0x1F#64 ≠ 0#64)

/-- DORMANT_ENTER (R315, R316, R775): DORMANT_ENTER is logged, the armed ports are noted, and the orderly halt begins. -/
def execDormantEnter (l : Line) (s : State) : Host.Outcome State Fault Refusal :=
  .next (runCmd s l {} none (fun s _ =>
    let a := canArm s .p0
    let b := canArm s .p1
    if ¬ ready s ∨ ¬ (a ∨ b) then .say s (.err .noWake) none
    else if slotPending s then .say s .busy none
    else
      let s := updPort (updPort s .p0 (fun d => { d with armed := a })) .p1 (fun d => { d with armed := b })
      let s := logEv s .dormantEnter { details := [((b2n a + 2 * b2n b : Nat) : Int)] }
      .say s okReply (some (.halt .dormant))))

/-- Some run of a list begins with another list. -/
def hasRun (x : List Byte) : List Byte → Bool
  | [] => x.isEmpty
  | b :: rest => x.isPrefixOf (b :: rest) || hasRun x rest

/-- The run of a magic packet: 6 bytes of 0xFF and 16 times the Port 0 address (R319). -/
def magicRun : List Byte :=
  let m := (List.range 6).map (fun i => BitVec.ofNat 8 ((Config.macAddr .p0).toNat / 256 ^ (5 - i)))
  List.replicate 6 0xFF#8 ++ (List.replicate 16 m).flatten

/-- The frame is a magic packet for the drive (R319). -/
def isMagic (f : EthFrame) : Bool := hasRun magicRun (f.bytes.drop (if f.tpid.isSome then 18 else 14))

/-- Pattern `k` of a port matches a frame (R320). -/
def matchesPattern (s : State) (p : PortId) (k : Fin 4) (f : EthFrame) : Bool :=
  let off := cfgField s (.wakeCtrl p k) "OFFSET"
  let len := cfgField s (.wakeCtrl p k) "LENGTH"
  let mask := cfgWord s (.wakeMask p k)
  let byteOf (i : Nat) : Nat := (cfgWord s (.wakeData p (Fin.ofNat 8 (i / 8)) k)).toNat / 256 ^ (i % 8) % 256
  decide (off + len ≤ f.bytes.length) &&
    (List.range len).all (fun i => ! mask.getLsbD i || (match f.bytes[off + i]? with
      | some b => decide (b.toNat = byteOf i)
      | none => false))

/-- Why a frame wakes the drive: 0 a magic packet, 1 + k pattern k (R319, R320). -/
def wakeCause (s : State) (p : PortId) (f : EthFrame) : Option Nat :=
  if cfgField s (.wakeCfg p) "MAGIC" = 1 ∧ isMagic f then some 0
  else ((List.finRange 4).find? (fun k =>
    (cfgField s (.wakeCfg p) "PATTERNS").testBit k.val && matchesPattern s p k f)).map (fun k => 1 + k.val)

/-- WAKE (R318 to R321): a frame with good FCS at an armed port in Dormant that passes the filter and wakes the drive: it
restarts from S01, and S03 logs the port and the cause. -/
def execWake (p : PortId) (f : EthFrame) (s : State) : Host.Outcome State Fault Refusal :=
  .next (
    if s.phase = .dormant ∧ (getPort s p).armed ∧ passesKept s p f.dst then
      match wakeCause s p f with
      | some c => restartNow (updPorts s (fun d => { d with wake := some (p, c) }))
      | none => s
    else s)

/-- EVENT_LOG_COPY (R850): the waiting event records go to the metadata bed. -/
def execEventLogCopy (s : State) : Host.Outcome State Fault Refusal := .next (copyLog s)

end Sys2Proof.Machine
end

