-- ==== Sys2Proof/Machine/StartOps.lean ====
section
/-!
DEFINITION. Operations on the start (ch. 05): step records and their counts, failure and safe mode, the beginning of S01, the
resume of ledger time, and what S03 examines and restores.
-/

namespace Sys2Proof.Machine

open Sys2Proof

/-! ### Counts and kept marks (R188 to R191) -/

/-- Steps whose alternative is kept (ch. 05, Step alternatives table). -/
def keepSteps : List Nat := [1, 5, 6, 16]

/-- Steps that return to the primary path after their alternative. -/
def primarySteps : List Nat := [10, 11, 12, 13, 14, 15]

/-- Set a step's failure count, when it changes. -/
def setFails (s : State) (n k : Nat) : State :=
  if stepFails s n = k then s else writeBlock s (fun b => { b with stepFails := AMap.set b.stepFails n k })

/-- A step runs its alternative in this start. -/
def onAlt (s : State) (n : Nat) : Bool := s.boot.alt.contains n

/-- The count and the kept mark of a step after a result (R188, R190); S09 and S17 count per unit (R191). -/
def countResult (s : State) (n : Nat) (r : StepResult) : State :=
  if n = 9 ∨ n = 17 then s
  else match r with
  | .ok => setFails s n 0
  | .okAlt =>
    if primarySteps.contains n then setFails s n 0
    else if keepSteps.contains n ∧ ¬ s.boot.blk.kept.contains n then
      let v := mainVersion s
      writeBlock s (fun b => { b with kept := n :: b.kept, keptVersion := v })
    else s
  | .degraded => if onAlt s n ∧ ¬ primarySteps.contains n then s else setFails s n 0
  | .fail | .timeout | .foundOpen => setFails s n (sat (stepFails s n + 1) 15)
  | .skipped | .aborted | .interrupted => s

/-- STEP_FAIL (R192): step, result, failure count, DETAIL. -/
def logStepFail (s : State) (n : Nat) (r : StepResult) (fcount detail : Nat) : State :=
  logEv s .stepFail { reason := n, details := [(resultCode r : Int), (fcount : Int), (detail : Int)] }

/-- One more consecutive failed start, saturating at 15. -/
def countFailedStart (s : State) : State := writeBlock s (fun b => { b with failedStarts := sat (b.failedStarts + 1) 15 })

/-- A failed start at S05 or later counts against the slot on trial that it ran (R753). -/
def failTrial (s : State) (n : Nat) : State := if 5 ≤ n then trialAttemptFails s else s

/-! ### Safe mode (R212) -/

/-- Code of a cause (ch. 05, Safe-mode cause encoding). -/
def safeCode : SafeCause → Nat
  | .none_ => 0 | .failedStarts => 1 | .essentialDead => 2 | .fuseRead => 3 | .noImage => 4

/-- A cause as a name. -/
def safeName : SafeCause → String
  | .none_ => "none" | .failedStarts => "FAILED_STARTS" | .essentialDead => "ESSENTIAL_DEAD" | .fuseRead => "FUSE_READ"
  | .noImage => "NO_IMAGE"

/-- The consoles open: J-CON, and USB while VBUS is present; the rate is the configured one (ch. 05, S03; R89). -/
def openConsoles (s : State) : State :=
  let s := updBay s (fun b => { b with baudNow := cfgField s .bayCfg "JCON_BAUD" })
  let s := if (getSess s .jcon).isSome then s else openConsole s .jcon
  if s.bay.usb ∧ (getSess s .usb).isNone then openConsole s .usb else s

/-- Safe mode and the recovery image: every island but SVC and PWR OFF, links down, no start under way (R48, R757). -/
def standSafe (s : State) : State :=
  let s := rebudget (restOff (holdLinks s) [.svc, .pwr])
  let s := updProto s (fun d => { d with conns := [], listening := false })
  let s := updBoot (setPhase s .safe) (fun b => { b with fg := 0, scan := none, orderly := false })
  openConsoles s

/-- Enter safe mode: SAFE record, SAFE_CAUSE, SAFE_MODE (R212). -/
def enterSafe (s : State) (c : SafeCause) : State :=
  let s := putStep s s.boot.gateStartNo 25 .safe .ok 0 (safeCode c)
  let s := writeBlock s (fun b => { b with safeCause := c })
  standSafe (logEv s .safeMode { reason := safeCode c })

/-! ### Failure of a step (R185, R189) -/

/-- The safe-mode cause a step's failure leads to when its count is 2 or more (ch. 05, Step alternatives table). -/
def safeOf (n : Nat) : Option SafeCause := match n with | 3 => some .fuseRead | 4 => some .noImage | _ => none

/-- A step ends FAIL or TIMEOUT: its record, its count, STEP_FAIL, the failed start; then safe mode, or a restart from S01
(R185, R187, R189). -/
def failStep (s : State) (n : Nat) (r : StepResult) (detail : Nat) : State :=
  let again := decide (2 ≤ stepFails s n)
  let s := countResult s n r
  let s := putStep s s.boot.gateStartNo n .done r (stepFails s n) detail
  let s := failTrial (countFailedStart (logStepFail s n r (stepFails s n) detail)) n
  let s := updBoot s (fun b => { b with orderly := false })
  match again, safeOf n with
  | true, some c => enterSafe s c
  | _, _ => restartNow s

/-! ### Gatehouse steps (R193) -/

/-- Failures of S01 that the gatehouse knows of: the ledger's count, and its own records not yet copied. -/
def gateFails (s : State) : Nat :=
  stepFails s 1 + (s.boot.gateRecs.filter (fun g => decide (g.step = 1) && decide (g.result = .fail))).length

/-! ### What a start begins with -/

/-- An island at the beginning of a start: OFF; an unusable one keeps its last cause (R151, R805). -/
def restIsl (d : IslRec) : IslRec :=
  { d with state := .off, cause := if d.unusable then d.cause else .none_, faults := 0, timeouts := [], leftOut := false }

/-- A stall at the beginning of a start: DRAINING and FREEZING are not stored (R497, R544); queues, levels and buffers begin
anew. -/
def restStall (d : Stall) : Stall :=
  { d with
    state := (match d.state with | .draining => .active | .freezing => .active | x => x)
    dataKey := none, live := [], backfill := [], loadBuf := [], drain := none, freeze := none, deficit := 0, doorbellAt := none }

/-- Consoles, ports, sessions, operations and what DRAM and SRAM held are gone (R159, R494, R497, R697). -/
def loseWork (s : State) : State :=
  let s := cutOff s
  let s := updPorts s (fun d => { d with port := ⟨{ energy := d.port.a.energy }, { energy := d.port.b.energy }⟩ })
  let s := forgetNet s
  let s := updProto s (fun d => { d with stats := [], fails := [], kv1Logged := [], tickets := [] })
  let s := updCfg s (fun d => { d with shadows := [], earlier := [] })
  let s := updKv s (fun d => { d with
    ops := [], locks := [], tickets := [], expired := [], uploads := [], lostHandles := AMap.keys d.uploads ++ d.lostHandles
    dirty := [] })
  let s := updStalls s (fun d => { d with active := [], compose := [], tab := d.tab.map (fun x => (x.1, restStall x.2)) })
  let s := updArc s (fun d => { d with
    entries := [], queue := [], plan := none, overflow := [], cursors := [], waiting := [], result := none, scrub := none
    dir := [], falseHits := [], scrubFixes := [], softAt := [], fixAt := none, rebuilding := [], stat := [], lost := [] })
  updIsl s (fun d => { d with recs := d.recs.map (fun x => (x.1, restIsl x.2)), gateReset := none
                              eccCorrected := 0, scrubAt := s.clock.ledger, rebuilding := [] })

/-- An install that a restart or a power-fail cuts leaves its parcel COMPLETE; a slot that was being written is EMPTY (R751). -/
def cutParcel (p : Parcel) : Parcel := if p.state = .installing then { p with state := .complete } else p

/-- What the media, the row, the firmware and the power part forget; the counters of R600 resume at their marks. -/
def loseRest (s : State) : State :=
  let m := s.media.marks
  let s := updKv s (fun d => { d with
    nextInc := Nat.max d.nextInc m.inc, nextTicket := Nat.max d.nextTicket m.ticket
    nextHandle := Nat.max d.nextHandle m.handle, nextWseq := Nat.max d.nextWseq m.wseq })
  let s := updStalls s (fun d => { d with nextFreeze := Nat.max d.nextFreeze m.freeze })
  let s := updMedia s (fun d => { d with
    pseq := m.pseq, packs := [], progs := [], reads := [], aheads := [], staged := [], replayHeld := false, rebuild := false, stalled := false })
  let s := updMedia s (fun d => { d with buf := d.buf.filter (fun x => pagesWait s x.1) })
  let s := updUpkeep s (fun d => { d with
    credit := 0, bg := false, lowWindows := 0, victims := [], patrolLate := false, shreds := [], measCause := none })
  let s := updRow s (fun d => { d with
    state := .none_, members := [], seqs := [], addrs := [], leaderAt := none, beaconing := false, beaconAt := none, conflictAt := none
    fullAt := [], beaconBad := 0, msgBad := 0, unacked := [], waiting := [], seen := [], searches := [], served := []
    servedWait := [], mirror := .idle, queue := [], retry := [], sending := [], catchup := 0, refusedAt := none
    restores := [] })
  let s := updFw s (fun d => { d with
    gateUpdate := none, install := none, parcel := d.parcel.map cutParcel, pull := none, trialAt := none, watchdogAt := none, sessionSeen := false, s11Ok := false })
  let s := updLife s (fun d => { d with shutdown := none, under := none, cmd := none })
  let warm := s.boot.warm
  let s := updPower s (fun d => { d with
    lead := none, level := if warm then d.level else .l3, starvingSince := none
    upSince := if warm then d.upSince else none, standbySince := none, measuring := .idle, measAgain := false
    weak := false, cells := [], cellWt := false, heater := false, dummy := false, coldGate := false, thermal := .normal })
  updClock s (fun c => { c with slew := 0, slewRest := 0, offset := 0, stratum := 0, disagree := false, refused := none
                                refusedAt := none, ptp := {}, ntp := [], ntpPeer := none })

/-- The RTC as read at the first moment of S01: valid when it was written and has not stopped since (R361). -/
def readRtc (s : State) (r : RtcReading) : State :=
  updClock s (fun c =>
    let ok := c.rtcOff.isSome && ! r.stopped
    let off : Int := (r.wall : Int) - (c.ledger : Int)
    { c with rtcValid := ok, rtcOff := if ok then some off else none, rtcAt := if ok then c.rtcAt else none
             wstate := if ok then .rtc else .unset, wallOff := if ok then off else 0 })

/-- The gatehouse runs its alternative for S01: it boots its other slot, and a kept one stays booted (R189, R190; ch. 05, Step
alternatives table). -/
def gateAlt (s : State) : State :=
  let kept := s.boot.blk.kept.contains 1
  let k := gateFails s
  if kept || decide (2 ≤ k) then
    let s := updBoot s (fun b => { b with alt := [1] })
    let s := if kept then s else updFw s (fun f => { f with gateSlot := 1 - f.gateSlot })
    logEv s .stepAlternative { reason := 1, details := [(k : Int)] }
  else s

/-- S01 begins (R184, R193, R194, R361): the start's number, the RTC, the lamp test, PWR. -/
def beginStart (s : State) (rtc : RtcReading) : State :=
  let s := readRtc (loseRest (loseWork s)) rtc
  let s := updBoot s (fun b => { b with
    gateStartNo := Nat.max b.gateStartNo b.gateReported + 1, s01At := s.clock.ledger, s01Rtc := rtc, step := 1, fg := 1
    scan := none, scanPct := 0, scanAt := none, alt := [], chanAlt := [], portAlt := ⟨false, false⟩, firstPower := none
    s17Link := none, hotHold := none, doneStep := 0, degr := [], flushing := (0, 0, false) })
  let s := setIsl (setPhase s .starting) .pwr .run
  let s := updBay s (fun b => { b with lampTest := some s.clock.ledger, locate := none, netBlinkAt := none, lineFault := false })
  gateAlt (putGate s 1 .begun .ok)

/-! ### Ledger time at S03 (R193, R365 to R367) -/

/-- Ledger time of the moment an S01 began, from its RTC reading, by the newest checkpoint: figure A when it can be used,
never below the BOUND (R365). -/
def s01From (k : Ckpt) (valid : Bool) (r : RtcReading) : Nat :=
  if valid && ! r.stopped && decide (k.rtc ≤ r.wall) then Nat.max (k.ltime + (r.wall - k.rtc)) k.bound else k.bound

/-- Why figure A cannot be used: 1 RTC_INVALID, 2 RTC_BACKWARD (R366). -/
def gapReason (k : Ckpt) (valid : Bool) (r : RtcReading) : Option Nat :=
  if ! valid then some 1 else if r.wall < k.rtc then some 2 else none

/-- The highest LTIME of the boot ledger and the event log. -/
def highestLtime (s : State) : Nat :=
  Nat.max (listMax (s.boot.ring.map (fun r => r.ltime))) (listMax (s.log.ring.map (fun e => e.ltime)))

/-- Append a step record with a ledger time of its own. -/
def putStepAt (s : State) (t startNo step : Nat) (k : RecKind) (r : StepResult) (fcount : Nat) : State :=
  updBoot (putStep s startNo step k r fcount 0) (fun b => { b with
    ring := match b.ring with | x :: xs => { x with ltime := t } :: xs | [] => [] })

/-- The failure count of a gatehouse step after one of its records, from the count before it (R188). -/
def gateCount (n : Nat) (g : GateRec) : Nat :=
  match g.kind, g.result with
  | .done, .ok => 0
  | .done, .fail => sat (n + 1) 15
  | _, _ => n

/-- The failure count of a gatehouse step once the records of it up to a point are counted. -/
def countOver (s : State) (step : Nat) (gs : List GateRec) : Nat :=
  (gs.filter (fun g => decide (g.step = step))).foldl gateCount (stepFails s step)

/-- Copy gatehouse records of one kind of start, in order, none later than the present S01, none out of order; `past` holds
those copied before, newest last (R193). -/
def copyGate (s01 : GateRec → Nat) (limit : Nat) (past : List GateRec) : List GateRec → Nat → State → State
  | [], _, s => s
  | g :: gs, last, s =>
    let t := Nat.max last (Nat.min limit (s01 g + g.elapsed))
    copyGate s01 limit (past ++ [g]) gs t (putStepAt s t g.startNo g.step g.kind g.result (countOver s g.step (past ++ [g])))

/-- The gatehouse's events of before S03, as records of their converted time (R852). -/
def carryEvents (s : State) (was : Nat) : State :=
  let t0 := s.boot.s01At
  let conv (t : Nat) : Nat := if was ≤ t then Nat.min (now s) (t0 + (t - was)) else t0
  let evs := s.log.carried.reverse
  let s := updLog s (fun l => { l with carried := [] })
  evs.foldl (fun s e =>
    let t := conv e.ltime
    putRecord s { e with ltime := t
                         wall := if s.clock.wstate = .unset then 0 else ((t : Int) + s.clock.wallOff).toNat }) s

/-- A time the gatehouse noted since S01, in the ledger time that has resumed; an earlier one stays. -/
def convTime (was t0 t : Nat) : Nat := if was ≤ t then t0 + (t - was) else t

/-- What the gatehouse timed between S01 and S03, in the ledger time that has resumed: the lamp test, the level and its waits,
the measurement, PWR's faults (R64, R111, R115, R155). -/
def convGate (s : State) (was t0 : Nat) : State :=
  let f := convTime was t0
  let s := updBay s (fun b => { b with lampTest := b.lampTest.map f })
  let s := updUpkeep s (fun u => { u with holdup := match u.holdup with
    | x :: xs => (if was ≤ s.power.lastMeas ∧ x.1 = s.power.lastMeas / sec then (f s.power.lastMeas / sec, x.2) else x) :: xs
    | [] => [] })
  let s := updPower s (fun d => { d with
    levelAt := f d.levelAt, lastMeas := f d.lastMeas, upSince := d.upSince.map f, standbySince := d.standbySince.map f
    starvingSince := d.starvingSince.map f })
  updIsl s (fun d => { d with gateFaults := d.gateFaults.map f, gateReset := d.gateReset.map (fun x => (f x.1, x.2))
                              scrubAt := f d.scrubAt })

/-- Ledger time resumes (R365 to R367): the moment of S01, what has passed since, the PERIODIC checkpoint, the gatehouse's
events, LEDGER_GAP. -/
def resumeLedger (s : State) : State :=
  let b := s.boot
  let valid := s.clock.rtcValid
  let was := b.s01At
  let elapsed := s.clock.ledger - was
  let k? := s.clock.ckpts.head?
  let t0 := match k? with | some k => s01From k valid b.s01Rtc | none => highestLtime s + sec
  let gap := match k? with | some k => gapReason k valid b.s01Rtc | none => some 3
  let t := Nat.max s.clock.ledger (t0 + elapsed)
  let t0 := t - elapsed
  let off : Int := (b.s01Rtc.wall : Int) - (t0 : Int)
  let s := updClock s (fun c => { c with ledger := t, rtcOff := c.rtcOff.map (fun _ => off)
                                         wallOff := if valid then off else c.wallOff })
  let s := updBoot s (fun d => { d with
    s01At := t0, outage := d.outage + (match k? with | some k => t0 - k.ltime | none => 0) })
  let s := convGate s was t0
  let s := carryEvents (checkpoint s .periodic) was
  match gap with
  | none => s
  | some r =>
    let s := updStalls s (fun d => { d with tab := d.tab.map (fun x =>
      (x.1, { x.2 with period := x.2.period.map (fun p => { p with gap := true }) })) })
    logEv s .ledgerGap
      { reason := r, details := [(match k? with | some k => (k.ltime : Int) | none => 0),
                                 (match k? with | some k => (k.wall : Int) | none => 0), (t0 : Int)] }

/-- The records that S03 writes before its own (R193): those of earlier starts, the START record, those of the present
S01 and S02. -/
def copyGateRecords (s : State) (k? : Option Ckpt) : State :=
  let n := s.boot.gateStartNo
  let lim := s.boot.s01At
  let time (g : GateRec) : Nat :=
    match k? with | some k => s01From k s.clock.rtcValid g.rtc | none => lim
  let fresh := s.boot.gateRecs.filter (fun g => ! g.copied)
  let old := fresh.filter (fun g => decide (g.startNo ≠ n))
  let s := copyGate time lim [] old 0 s
  let s := putStepAt s lim n 0 .start .ok 0
  let s := copyGate (fun _ => lim) (now s) old (fresh.filter (fun g => decide (g.startNo = n))) lim s
  updBoot s (fun b => { b with gateRecs := b.gateRecs.map (fun g => { g with copied := true }) })

/-! ### What S03 examines (R186 to R188, R209) -/

/-- Count the results of copied gatehouse records; a failed one also counts a failed start (R187, R188, R192). -/
def countGate (s : State) : State :=
  let l := s.boot.gateRecs.filter (fun g => g.copied && decide (g.kind = .done))
  let s := l.foldl (fun s g =>
    let s := countResult s g.step g.result
    if g.result = .fail then countFailedStart (logStepFail s g.step .fail (stepFails s g.step) 0) else s) s
  updBoot s (fun b => { b with gateRecs := b.gateRecs.filter (fun g => ! g.copied) })

/-- A result that fails a start (R187). -/
def failing : StepResult → Bool
  | .fail | .timeout | .foundOpen => true
  | _ => false

/-- Steps of a start with a BEGUN record and no DONE record. -/
def openOf (s : State) (no : Nat) : List Nat :=
  let rs := s.boot.ring.filter (fun r => decide (r.startNo = no))
  let ends := rs.filter (fun r => decide (r.kind = .done))
  ((rs.filter (fun r => decide (r.kind = .begun))).map (fun r => r.step)).reverse.filter
    (fun n => ! ends.any (fun r => decide (r.step = n)))

/-- The previous start's open steps end INTERRUPTED after a power-fail's flush, else FOUND_OPEN (R186, R187, R217, R753). The
previous start is the one whose number is one less, also when it ended before its S03 and wrote no record; an open step of a
start before that one is not closed (DESIGN CHOICE, log 46; R186 does not say). -/
def examine (s : State) : State :=
  let prev := s.boot.gateStartNo - 1
  let cut := match s.boot.flushRec with
    | some f => decide (f.startNo = prev) && decide (f.cause = .powerFail)
    | none => false
  let counted := s.boot.ring.any (fun r => decide (r.startNo = prev) && decide (r.kind = .done) && failing r.result)
  let l := openOf s prev
  let s := l.foldl (fun s n =>
    if cut then putStep s prev n .done .interrupted (stepCount s n) 0
    else
      let s := countResult s n .foundOpen
      let s := putStep s prev n .done .foundOpen (stepCount s n) 0
      failTrial (logStepFail s n .foundOpen (stepCount s n) 0) n) s
  if l.isEmpty || cut || counted then s else countFailedStart s

/-- FAILED_STARTS as the ring tells it: starts with a failing record since the newest S24 or CLEAR. -/
def ringFailed : List StepRec → List Nat → Nat
  | [], seen => seen.length
  | r :: rs, seen =>
    if r.kind = .clear ∨ (r.kind = .done ∧ r.step = 24 ∧ ¬ failing r.result) then seen.length
    else ringFailed rs (if r.kind = .done ∧ failing r.result ∧ ¬ seen.contains r.startNo then r.startNo :: seen else seen)

/-- The records newer than the newest CLEAR, newest first. -/
def sinceClear (l : List StepRec) : List StepRec := l.takeWhile (fun r => decide (r.kind ≠ .clear))

/-- The block rebuilt from the ring: the counts of the newest DONE records, which a CLEAR set to 0, the newest safe-mode cause,
the failed starts (R209, R215). -/
def rebuiltBlock (s : State) : StartBlock :=
  let dones := (sinceClear s.boot.ring).filter (fun r => decide (r.kind = .done))
  let count (n : Nat) : Nat × Nat := (n, match dones.find? (fun r => decide (r.step = n)) with | some r => r.fcount | none => 0)
  let cause := match s.boot.ring.find? (fun r => decide (r.kind = .safe) || decide (r.kind = .clear)) with
    | some r => if r.kind = .clear then SafeCause.none_ else
      (match r.detail with | 1 => SafeCause.failedStarts | 2 => .essentialDead | 3 => .fuseRead | 4 => .noImage | _ => .none_)
    | none => .none_
  { startNo := listMax (s.boot.ring.map (fun r => r.startNo)), failedStarts := sat (ringFailed s.boot.ring []) 15
    safeCause := cause
    stepFails := ((List.range 25).filter (fun n => decide (n ≠ 0) && decide (n ≠ 9) && decide (n ≠ 17))).map count }

/-- The start-state block that S03 uses (R209). -/
def chooseBlock (s : State) (aOk bOk : Bool) : State :=
  let a := s.boot.copies.a
  let b := s.boot.copies.b
  match aOk, bOk with
  | true, true => updBoot s (fun d => { d with blk := if b.updateSeq ≤ a.updateSeq then a else b })
  | true, false => updBoot s (fun d => { d with blk := a })
  | false, true => updBoot s (fun d => { d with blk := b })
  | false, false => logEv (updBoot s (fun d => { d with blk := rebuiltBlock s })) .ledgerStateRebuilt

/-- The present start's number goes into the block and to the gatehouse (R193). -/
def noteStart (s : State) : State :=
  let n := s.boot.gateStartNo
  updBoot (writeBlock s (fun b => { b with startNo := n })) (fun b => { b with gateReported := n })

/-- The flush record's POWER_FAIL event, and the closing of a window that was open (R78; ch. 20, POWER_FAIL). -/
def noteFlush (s : State) : State :=
  let s := match s.boot.flushRec with
    | some f =>
      if f.logged then s
      else logEv (updBoot s (fun b => { b with flushRec := some { f with logged := true } })) .powerFail
        { reason := (match f.cause with | .powerFail => 1 | .essentialFault => 2)
          details := [(f.bytes : Int), (f.eAvail : Int), (f.duration : Int)] }
    | none => s
  s

/-- A window whose mark is still set was closed by the power-fail or by the restart (R78). -/
def noteWindow (s : State) : State :=
  if s.bay.windowMark then
    let why : CloseWhy := match s.boot.flushRec with
      | some f => if f.cause = .powerFail then .powerFail else .restart
      | none => .restart
    logEv (updBay s (fun b => { b with windowMark := false, window := none })) .presenceClosed { reason := closeCode why }
  else s

/-! ### The bay at S03 (R60, R68, R74, R83) -/

/-- S03 begins to sample the bay: the button is in WAIT_RELEASE, the lid in CLOSED with no filtered state reached, the line
counters and FAULT_SEEN are 0 (R68, R74). -/
def restBay (s : State) : State :=
  updBay s (fun b => { b with
    button := .waitRelease, btn := false, lid := .closed, lidDecided := false, faultSeen := false, lineFault := false
    framingErrors := 0, shortBreaks := 0 })

/-- The bay's inputs as SVC reads them at S03. The filtered states follow from later samples (R66, R70), which the commands of
the button and the lid tell. -/
def sampleBay (s : State) (p : BayPins) : State :=
  updBay s (fun b => { b with
    btnA := p.btnA, btnB := ! p.btnB, lidA := ! p.lidA, lidB := p.lidB, jsvc := p.jsvc, usb := p.usb })

end Sys2Proof.Machine
end

