-- ==== Sys2Proof/Machine/StepOps.lean ====
section
/-!
DEFINITION. What each step of a start does when it begins and when it ends (ch. 05, and the chapters that own the steps).
-/

namespace Sys2Proof.Machine

open Sys2Proof

/-! ### The beginning of a step (R189, R199, R210) -/

/-- The step runs its alternative. S04's is not taken while a slot is STAGED: the next start tries that slot (R757). -/
def usesAlt (s : State) (n : Nat) : Bool :=
  match n with
  | 4 => decide (2 ≤ stepFails s 4) && ! [s.fw.a.state, s.fw.b.state].contains .staged
  | 5 | 6 | 16 => decide (2 ≤ stepFails s n) || s.boot.blk.kept.contains n
  | 10 | 11 | 12 | 13 | 14 | 15 => decide (2 ≤ stepFails s n)
  | _ => false

/-- Channels that S09 trains (R805). -/
def trainedChans (s : State) : List (Fin 16) :=
  (List.finRange 16).filter (fun c => ! (getIsl s (.media c)).unusable && decide (islState s (.media c) ≠ .dead))

/-- Ports that S17 brings up (R805, R873). -/
def trainedPorts (s : State) : List PortId := [PortId.p0, PortId.p1].filter (fun p => islUp s p.island)

/-- S09 begins: the channels on their alternative (R189, R191). -/
def beginChans (s : State) : State :=
  let l := (trainedChans s).filter (fun c =>
    s.boot.blk.chanKept.contains c || decide (2 ≤ AMap.getD s.boot.blk.chanFails c 0))
  let s := updBoot s (fun b => { b with chanAlt := l, alt := if l.isEmpty then b.alt else 9 :: b.alt })
  l.foldl (fun s c => logEv s .stepAlternative
    { reason := 9, details := [((AMap.getD s.boot.blk.chanFails c 0 : Nat) : Int)] }) s

/-- S17 begins: the counters start at 0, the ports on their alternative are noted, every port that can come up trains (R189,
R191, R204, R304). -/
def beginPorts (s : State) : State :=
  let alt (p : PortId) : Bool := (trainedPorts s).contains p
    && (s.boot.blk.portKept.get p || decide (2 ≤ s.boot.blk.portFails.get p))
  let l := [PortId.p0, PortId.p1].filter alt
  let s := updBoot s (fun b => { b with portAlt := ⟨alt .p0, alt .p1⟩, alt := if l.isEmpty then b.alt else 17 :: b.alt })
  let s := l.foldl (fun s p => logEv s .stepAlternative
    { reason := 17, details := [((s.boot.blk.portFails.get p : Nat) : Int)] }) s
  let s := [PortId.p0, PortId.p1].foldl (fun s p => updPort s p (fun d => { d with hw := [], acc := [], half := [] })) s
  (trainedPorts s).foldl train s

/-- A step begins: its BEGUN record, its alternative, and what it starts (R189, R205, R210). -/
def beginStep (s : State) (n : Nat) : State :=
  let s := putStep s s.boot.gateStartNo n .begun .ok (stepCount s n) 0
  let s := updBoot s (fun b => { b with step := n })
  let s := if usesAlt s n then
      let k := stepFails s n
      logEv (updBoot s (fun b => { b with alt := n :: b.alt })) .stepAlternative { reason := n, details := [(k : Int)] }
    else s
  match n with
  | 9 => beginChans s
  | 17 => beginPorts s
  | 19 => beginAll s
  | 20 => refreshNtp s
  | 21 => beginJoin s
  | _ => s

/-- The foreground goes to a step. -/
def goFg (s : State) (n : Nat) : State := beginStep (updBoot s (fun b => { b with fg := n })) n

/-- SCAN_PCT as a step of the background rebuild begins: a fifth of the way for each of S11 to S15 that is done (DESIGN CHOICE,
log 48). -/
def scanPctAt (n : Nat) : Nat := 20 * (n - 11)

/-- The background rebuild goes to a step (R199). -/
def goScan (s : State) (n : Nat) : State :=
  beginStep (updBoot s (fun b => { b with scan := some n, scanPct := scanPctAt n })) n

/-- A new checkpoint of every map segment (R202, R599). -/
def checkpointMap (s : State) : State :=
  let at_ := s.clock.ledger
  let lsn := s.media.lsn
  (List.range 96).foldl (fun s i =>
    stageLog (updMedia s (fun m => { m with
      segs := { no := i, index := false, capture := lsn, at_ := at_ }
        :: m.segs.filter (fun x => ! (decide (x.no = i) && ! x.index)) })) (.ckptSeg i false lsn)) s

/-- The full-scan rebuild is complete: a new map checkpoint, FULLSCAN_DONE with its duration; S23 may begin (R200, R202). -/
def endScan (s : State) : State :=
  let ms := (s.clock.ledger - s.boot.scanAt.getD s.clock.ledger) / 1000
  let s := logEv (checkpointMap s) .fullscanDone { details := [(ms : Int)] }
  let s := updBoot s (fun b => { b with scan := none, scanPct := 0 })
  if s.boot.fg = 0 then goFg s 23 else s

/-- S11 takes its alternative: FULLSCAN_BEGIN; it goes on in the background while S16 begins (R199). -/
def beginScan (s : State) : State :=
  let s := logEv (goScan s 11) .fullscanBegin
  goFg (updBoot s (fun b => { b with scanAt := some s.clock.ledger, scanPct := 0 })) 16

/-- What follows a step's DONE record. -/
def nextStep (s : State) (n : Nat) : State :=
  if s.boot.scan = some n then (if n = 15 then endScan s else goScan s (n + 1))
  else match n with
    | 10 => if usesAlt s 11 then beginScan s else goFg s 11
    | 22 => if s.boot.scan.isSome then updBoot s (fun b => { b with fg := 0 }) else goFg s 23
    | n => goFg s (n + 1)

/-! ### The end of a step -/

/-- The result of a step that completed: DEGRADED when an island entered DEAD meanwhile, OK_ALT on its alternative (R188,
R220). -/
def stepResult (s : State) (n : Nat) (r : StepResult) : StepResult :=
  match r with
  | .ok => if s.boot.degr.contains n then .degraded else if onAlt s n then .okAlt else .ok
  | .okAlt | .skipped => if s.boot.degr.contains n then .degraded else r
  | r => r

/-- Write a step's DONE record. -/
def doneRecord (s : State) (n : Nat) (r : StepResult) (detail : Nat) : State :=
  let s := countResult s n r
  let s := putStep s s.boot.gateStartNo n .done r (stepCount s n) detail
  updBoot s (fun b => { b with doneStep := Nat.max b.doneStep n, degr := b.degr.filter (fun x => decide (x ≠ n)) })

/-- A step completes, and the next begins. -/
def endStep (s : State) (n : Nat) (r : StepResult) (detail : Nat) : State := nextStep (doneRecord s n (stepResult s n r) detail) n

/-- A bitmap. -/
def bitmap (l : List Nat) : Nat := listSum (l.eraseDups.map (fun i => 2 ^ i))

/-! ### S01 and S02 (R194, R195) -/

/-- S01 completes and S02 begins: a fully charged bank with a measurement less than 24 h old keeps its E after a restart
without loss of power, else E is measured (R195). -/
def endS01 (s : State) : State :=
  let s := putGate s 1 .done (if onAlt s 1 then .okAlt else .ok)
  let s := updBoot s (fun b => { b with step := 2, fg := 2 })
  let s := putGate s 2 .begun .ok
  if s.boot.warm && fullyCharged s && decide (s.clock.ledger < s.power.lastMeas + 24 * hour) then judgeE s
  else askMeasure s .start

/-- The event records that S03 finds: one whose MARK, CRC, CODE or SEVERITY is invalid is absent, and the next SEQ is one above
the highest valid one of FRAM and the metadata bed (R850, R851). -/
def dropEvents (bad : List Nat) (l : EventLog) : EventLog :=
  let ok (e : EventRec) : Bool := ! bad.contains e.seq
  let ring := l.ring.filter ok
  { l with ring := ring, waiting := ((l.ring.take l.waiting).filter ok).length
           nextSeq := listMax ((ring ++ l.bed).map (fun e => e.seq)) + 1 }

/-- SVC finds the ledger checkpoints, the step records and the event records at S03: one whose CRC or MARK fails or that carries
a reserved code is treated as absent, and the next REC_SEQ follows the newest valid record (R210, R211, R368). -/
def dropInvalid (s : State) (badCkpts badRecs badEvents : List Nat) : State :=
  let s := updLog s (dropEvents badEvents)
  let s := updClock s (fun c => { c with ckpts := c.ckpts.filter (fun k => ! badCkpts.contains k.seq) })
  updBoot s (fun b =>
    let ring := b.ring.filter (fun r => ! badRecs.contains r.recSeq)
    { b with ring := ring, recSeq := match ring with | r :: _ => (r.recSeq + 1) % 2 ^ 32 | [] => b.recSeq })

/-- S02 completes, and S03 begins: SVC runs, finds its records, ledger time resumes, the gatehouse's records are copied (R193,
R211, R365). -/
def endS02 (s : State) (r : StepResult) (badCkpts badRecs badEvents : List Nat) : State :=
  let s := dropInvalid (putGate s 2 .done r) badCkpts badRecs badEvents
  let k? := s.clock.ckpts.head?
  let s := restBay (setIsl (updBoot s (fun b => { b with step := 3, fg := 3 })) .svc .run)
  beginStep (copyGateRecords (resumeLedger s) k?) 3

/-- S02's charge or measurement does not end in time: E = 0, HOLDUP_WEAK (R123, R195). -/
def timeoutS02 (s : State) (badCkpts badRecs badEvents : List Nat) : State :=
  let s := recordE s 0
  let was := s.power.weak
  let s := updPower s (fun d => { d with measuring := .idle, charged := false, weak := true })
  let s := if was then s else logEv s .holdupWeak { reason := 2, details := [0] }
  endS02 s .degraded badCkpts badRecs badEvents

/-! ### S03 -/

/-- What the records of S03 rest on, whatever its result: gatehouse results counted, the previous start examined, the
start's number noted (R186, R188, R193). -/
def settleRecords (s : State) : State := noteStart (examine (countGate s))

/-- The gatehouse's copy of PWR.POLICY follows the FRAM copy (R137). -/
def restorePolicy (s : State) : State :=
  let w := cfgWord s .policy
  if s.power.policyCopy = some w then s else rebudget (updPower s (fun d => { d with policyCopy := some w }))

/-- A run or an island record that fails its CRC or carries a reserved code is treated as absent (R800, Run encodings). -/
def dropBadRuns (s : State) (badRuns : List Nat) (badTests : List (Nat × Island)) : State :=
  let keep (r : TestRun) : TestRun := { r with recs := r.recs.filter (fun x => ! badTests.contains (r.seq, x.1.island)) }
  updLife s (fun d => { d with runs := (d.runs.filter (fun r => ! badRuns.contains r.seq)).map keep })

/-- A run whose header still reads OPEN is treated as POWER_FAIL (R800). -/
def closeOpenRuns (s : State) : State :=
  updLife s (fun d => { d with runs := d.runs.map (fun r => if r.outcome = .open_ then { r with outcome := .powerFail } else r) })

/-- The newest shutdown run records FAIL for an essential island, and no CLEAR record has followed (R808). -/
def essentialFailed (s : State) : Bool :=
  ! s.life.cleared && (match newestShutdown s with
    | some r => r.recs.any (fun x => x.1.island.essential && decide (x.1.result = .fail))
    | none => false)

/-- The wake that began this start (R321). -/
def noteWake (s : State) : State :=
  match s.ports.wake with
  | some (p, c) => logEv (updPorts s (fun d => { d with wake := none })) .wake { port := some p, reason := c + 1 }
  | none => s

/-- What S03 finds and does (ch. 05, S03). -/
def actS03 (s : State) (pins : BayPins) (mirrorAgrees aOk bOk : Bool) (fuseFail badRuns : List Nat)
    (badTests : List (Nat × Island)) : State :=
  let s := settleRecords (chooseBlock s aOk bOk)
  let s := updIsl s (fun d => { d with mirrorGood := true })
  let s := if mirrorAgrees then s else logEv s .fuseMirrorFixed
  let s := noteFlush (noteWindow (restorePolicy (closeOpenRuns (dropBadRuns s badRuns badTests))))
  let s := applyIntent s
  let s := if svnCounter s < s.fw.burnTarget then burnFuses s fuseFail else s
  let s := openConsoles (sampleBay (noteWake s) pins)
  if pins.rxdLow then lineFaultNow s true else s

/-- S03 completes: BLANK and RETIRED hold; safe mode persists for its causes; else S04 (R214, R781, R808). -/
def endS03 (s : State) : State :=
  let s := doneRecord s 3 (stepResult s 3 .ok) 0
  match lcState s with
  | .blank => updBoot (setPhase s .hold) (fun b => { b with fg := 0 })
  | .retired => updBoot (setPhase s .hold) (fun b => { b with fg := 0 })
  | _ =>
    if s.boot.blk.safeCause = .fuseRead then enterSafe s .fuseRead
    else if s.boot.blk.safeCause = .essentialDead ∨ essentialFailed s then enterSafe s .essentialDead
    else nextStep s 3

/-! ### S04 (R196, R752, R753, R756) -/

/-- A slot as a number: 0 A, 1 B. -/
def slotNo (b : Bool) : Nat := b2n b

/-- Count a failed trial attempt against the slot on trial (R753). -/
def countAttempt (s : State) : State :=
  if ! s.fw.attemptFailed then s
  else
    let s := updFw s (fun f => { f with attemptFailed := false })
    match [false, true].find? (fun b => decide ((fwSlot s b).state = .trial)) with
    | none => s
    | some b =>
      let s := updSlot s b (fun x => { x with fails := x.fails + 1 })
      logEv s .fwTrialFailed { details := [(slotNo b : Int), ((fwSlot s b).fails : Int)] }

/-- A STAGED slot goes on trial (R752). -/
def beginTrial (s : State) : State :=
  let now := s.clock.ledger
  [false, true].foldl (fun s b =>
    if (fwSlot s b).state = .staged then updSlot s b (fun x => { x with state := .trial, fails := 0, trialFrom := some now }) else s) s

/-- A slot on trial that has failed three times falls back; SOURCE is told (R752, R772). -/
def fallBack (s : State) : State :=
  [false, true].foldl (fun s b =>
    let x := fwSlot s b
    if x.state = .trial ∧ 3 ≤ x.fails then
      let s := logEv (updSlot s b (fun x => { x with state := .failed })) .fwFallback { details := [(slotNo b : Int)] }
      let s := updParcel s (fun p => if some p.manifest.id = x.manifest.map (fun m => m.id) then { p with state := .stopped } else p)
      match x.relaySource, x.manifest with
      | some p, some m => updFw s (fun f => { f with statusDue := some (p, m.id, .failed) })
      | _, _ => s
    else s) s

/-- The candidate slot (R752). -/
def candidate (s : State) : Option Bool :=
  match [false, true].find? (fun b => decide ((fwSlot s b).state = .trial)) with
  | some b => some b
  | none =>
    match (fwSlot s false).state, (fwSlot s true).state with
    | .good, .good => some (decide ((fwSlot s false).version < (fwSlot s true).version))
    | .good, _ => some false
    | _, .good => some true
    | _, _ => none

/-- The slot S04 selects, and the state with what failed logged (R752). -/
def selectSlot (s : State) (aOk bOk : Bool) : Option Bool × State :=
  let good (b : Bool) : Bool := (if b then bOk else aOk) && decide (svnCounter s ≤ (fwSlot s b).svn)
  match candidate s with
  | none => (none, s)
  | some b =>
    if good b then (some b, s)
    else
      let s := logEv s .fwImageBad { details := [(slotNo b : Int)] }
      if (fwSlot s (! b)).state = .good then
        if good (! b) then (some (! b), s)
        else (none, logEv s .fwImageBad { details := [(slotNo (! b) : Int)] })
      else (none, s)

/-- The selected image runs: a different slot sets the failed-start count to 0, a different version clears the kept marks
(R190, R196); the metadata format follows R767. The failure counts stay: R190 clears the marks alone, so that a count of 2 or
more still selects the alternative (DESIGN CHOICE, log 46). -/
def runImage (s : State) (r : Running) : State :=
  let changed := match s.fw.previous with | some p => decide (p ≠ r) | none => false
  let s := updFw s (fun f => { f with running := r, previous := some r })
  let s := if changed then
      let s := if s.boot.blk.failedStarts = 0 then s else writeBlock s (fun b => { b with failedStarts := 0 })
      logEv s .startSlotChange { details := [(runningCode r : Int)] }
    else s
  let v := mainVersion s
  let blk := s.boot.blk
  let kept := ! blk.kept.isEmpty || ! blk.chanKept.isEmpty || blk.portKept.a || blk.portKept.b
  let s := if kept ∧ blk.keptVersion ≠ v then
      writeBlock s (fun b => { b with kept := [], chanKept := [], portKept := ⟨false, false⟩ })
    else s
  match runSlot s with
  | none => s
  | some b =>
    let m := if (fwSlot s b).state = .trial then (fwSlot s (! b)).manifest else (fwSlot s b).manifest
    match m with
    | some m => updMedia s (fun d => { d with format := m.metaWrite })
    | none => s

/-- S04 with its findings: its alternative runs the recovery image (R756); safe mode while FAILED_STARTS is 3 or more
(R196). -/
def actS04 (s : State) (aOk bOk recoveryOk : Bool) : State :=
  let s := countAttempt s
  if s.boot.blk.safeCause = .noImage then enterSafe (doneRecord s 4 .skipped 0) .noImage
  else if onAlt s 4 then
    if recoveryOk then
      let s := doneRecord (runImage (logEv s .fwRecovery) .recovery) 4 .okAlt 2
      if 3 ≤ s.boot.blk.failedStarts then enterSafe s .failedStarts else standSafe s
    else failStep s 4 .fail 0
  else
    match selectSlot (fallBack (beginTrial s)) aOk bOk with
    | (none, s) => failStep (staleSlots s) 4 .fail 0
    | (some b, s) =>
      let s := doneRecord (runImage (staleSlots s) (if b then .b else .a)) 4 (stepResult s 4 .ok) (slotNo b)
      if 3 ≤ s.boot.blk.failedStarts then enterSafe s .failedStarts else nextStep s 4

/-! ### S07 and S08 (R197, R198, R801 to R806) -/

/-- Islands that S07 loads: all but the essential ones. -/
def loadedIslands : List Island := [.net0, .net1, .proto, .sched, .index, .arc, .parity] ++ Island.allMedia

/-- The port of a NET island is disabled (R801). -/
def portDisabled (s : State) (i : Island) : Bool :=
  match i with
  | .net0 => decide (cfgField s (.phyCfg .p0) "ENABLE" = 0)
  | .net1 => decide (cfgField s (.phyCfg .p1) "ENABLE" = 0)
  | _ => false

/-- The inline test of an island is skipped: a recent shutdown run passed it (R802, R806). -/
def quickPass (s : State) (i : Island) : Bool :=
  (getIsl s i).deadMark.isNone && ! (getIsl s i).revived && (match newestShutdown s with
    | some r => decide (r.startNo + 1 = s.boot.gateStartNo) && decide (s.boot.s01At ≤ r.ended + 30 * day)
        && r.recs.any (fun x => decide (x.1.island = i) && decide (x.1.result = .pass))
    | none => false)

/-- S07 tests the island inline: no recent run passed it, and its supply and clock are within limits (R801, R802, R806). -/
def needsInline (s : State) (i : Island) : Bool := ! quickPass s i && inLimits (getIsl s i)

/-- S07 has an inline run: an island is tested, or recorded NOT_RUN (R801). -/
def inlineRuns (s : State) (failed : List Island) : Bool :=
  loadedIslands.any (fun i => ! (getIsl s i).unusable && ! portDisabled s i && ! failed.contains i && ! quickPass s i)

/-- Bring up one island at S07. -/
def loadIsland (results : List TestOutcome) (failed : List Island) (s : State) (i : Island) : State :=
  let d := getIsl s i
  let skip (s : State) : State := if runOpen s then addTestRec s (bareRec s i .skipped .none_) else s
  if d.unusable || portDisabled s i then skip s
  else if failed.contains i then deadIsland s i .startStepFail
  else match needsInline s i, results.find? (fun o => decide (o.island = i)) with
    | false, _ =>
      if quickPass s i then setIsl s i .run
      else setIsl (addTestRec s (bareRec s i .notRun .limits)) i .run
    | true, none => s
    | true, some o =>
      let s := addTestRec s o
      match o.result with
      | .fail => deadIsland s i .selftestFail
      | .pass =>
        let s := setIsl s i .run
        if d.deadMark.isSome then
          logEv (updIslRec s i (fun d => { d with deadMark := none, cause := .none_ })) .islandRestored { island := some i }
        else s
      | _ => setIsl s i .run

/-- S07 completes only with a result for every island that it has to test inline (R197, R801, R806). -/
def allTested (s : State) (results : List TestOutcome) (failed : List Island) : Bool :=
  loadedIslands.all (fun i => (getIsl s i).unusable || portDisabled s i || failed.contains i || ! needsInline s i
    || results.any (fun o => decide (o.island = i)))

/-- S07: microcode and inline tests; the run they form is COMPLETE. -/
def actS07 (s : State) (results : List TestOutcome) (failed : List Island) : State :=
  if ! allTested s results failed then s else
  let s := if inlineRuns s failed then openRun s .inline_ else s
  let s := loadedIslands.foldl (loadIsland results failed) s
  let s := if runOpen s then closeRun s .complete else s
  let s := updIsl s (fun d => { d with recs := d.recs.map (fun x => (x.1, { x.2 with revived := false })) })
  let dead := loadedIslands.filter (fun i => decide (islState s i = .dead))
  endStep s 7 .ok (bitmap (dead.map (fun i => i.id)))

/-- S08: the gatehouse lies in the main firmware's range, or is updated to lie in it (R765). -/
def actS08 (s : State) (update : Option Bool) : State :=
  match runManifest s with
  | none => endStep s 8 .ok 0
  | some m =>
    if within m.gateMin m.gateMax (gateVersion s) then endStep s 8 .ok 0
    else match update with
      | none => failStep s 8 .fail 0
      | some reported =>
        if hasGate m && within m.mainMin m.mainMax (mainVersion s) then
          let s := gateOutcome s m.gateVersion reported true
          if within m.gateMin m.gateMax (gateVersion s) then endStep s 8 .ok 0 else failStep s 8 .fail 0
        else failStep s 8 .fail 0

/-! ### S09 (R191, R876) -/

/-- One channel at the end of S09. -/
def readEndsOf (failed : List (Fin 16)) (s : State) (c : Fin 16) : State :=
  let alt := s.boot.chanAlt.contains c
  let n := AMap.getD s.boot.blk.chanFails c 0
  let put (s : State) (k : Nat) : State :=
    if k = n then s else writeBlock s (fun b => { b with chanFails := AMap.set b.chanFails c k })
  if failed.contains c then
    if alt then deadIsland (logStepFail s 9 .fail n (bitmap [c.val])) (.media c) .startStepFail
    else
      let k := sat (n + 1) 15
      let s := logStepFail (put s k) 9 .fail k (bitmap [c.val])
      narrowBeds (updIslRec s (.media c) (fun d => { d with state := .off, leftOut := true })) c
  else if alt then
    if s.boot.blk.chanKept.contains c then s
    else
      let v := mainVersion s
      writeBlock s (fun b => { b with chanKept := c :: b.chanKept, keptVersion := v })
  else put s 0

/-- The result of a step of units: DEGRADED when one failed, OK_ALT when one ran its alternative (R191). -/
def unitResult (failed alt : Bool) : StepResult := if failed then .degraded else if alt then .okAlt else .ok

/-- S09 ends. A channel whose MEDIA island was DEAD or unusable before the step is not trained and has no part in the result
(DESIGN CHOICE, log 46): R191 speaks of channels that fail. -/
def actS09 (s : State) (failed : List (Fin 16)) : State :=
  let l := (trainedChans s).filter (fun c => failed.contains c)
  let alt := ! s.boot.chanAlt.isEmpty
  let s := (trainedChans s).foldl (readEndsOf l) s
  let r := if s.boot.degr.contains 9 then .degraded else unitResult (! l.isEmpty) alt
  nextStep (doneRecord s 9 r (bitmap (l.map (fun c => c.val)))) 9

/-! ### S10 to S15 -/

/-- Every programmed block after a start that follows no orderly halt (R631). -/
def addStartReads (s : State) : State :=
  if s.boot.orderly then s
  else
    (s.media.bands.filter (fun x => patrolled x.2)).foldl (fun s x =>
      (memberBlocks x.1 x.2).foldl (fun s k => addReads s k 25000) s) s

/-- The transition set's stalls: every stall that is not FREE is REMOVING, its key gone, its generation changed (R786,
R787). -/
def removeAll (s : State) : State :=
  ((stallNos s).filter (fun x => decide ((getStall s x).state ≠ .free))).foldl (fun s x =>
    let s := updStall s x (fun d => { d with state := .removing, dataKey := none, wrapped := none, generation := nextGen d.generation })
    logChange (storeStall s x) .remove x 1) s

/-- S10 (R162, R503, R581, R596 to R598, R631, R782, R787): the replay of the log, in which the records of `bad` fail a check; the stalls'
buckets begin full. -/
def actS10 (s : State) (mapBad : List (Nat × Nat)) (bad : List (Nat × RecFault)) : State :=
  let s := mapBad.foldl (fun s x => logEv s .mapEntryBad { details := [(x.1 : Int), (x.2 : Int)] }) s
  let s := replayChain s bad
  let s := updBoot (addStartReads s) (fun b => { b with orderly := false })
  let s := if s.life.clearing then removeAll s else s
  let s := (stallNos s).foldl (fun s x =>
    let lv := fullLevels s x
    updStall s x (fun d => { unwrapKey s d with levels := lv })) s
  endStep (renewMarks s) 10 .ok 0

/-- S11 ends, in a full scan with the map that the page headers give (R601); the trial rule asks for OK or OK_ALT (R754). -/
def actS11 (s : State) : State :=
  let s := if s.boot.scan = some 11 then takeScannedMap s else s
  let good := match stepResult s 11 .ok with | .ok | .okAlt => true | _ => false
  endStep (updFw s (fun f => { f with s11Ok := good })) 11 .ok 0

/-- Versions that S12 cannot replay (ch. 05, Step alternatives). -/
def loseVersions (s : State) (ks : List ObjKey) : State :=
  updKv s (fun d => { d with objs := d.objs.map (fun o => if ks.contains o.1 then (o.1, { o.2 with avail := .notReplayed }) else o) })

/-- The replay at S12, or its hold below −20.0 °C (R608, R610). -/
def replayAt (s : State) (lost : List ObjKey) (r : StepResult) : State :=
  match s.media.image with
  | none => endStep s 12 .skipped 0
  | some img =>
    let s := loseVersions s lost
    if s.power.flashMin < -200 then endStep (updMedia s (fun m => { m with replayHeld := true })) 12 r 0
    else endStep (replayData (replayLog s img) img) 12 r 0

/-- S12 (R608). -/
def actS12 (s : State) (lost : List ObjKey) : State :=
  let lost := if onAlt s 12 then lost else []
  replayAt s lost (if lost.isEmpty then .ok else .degraded)

/-- Every key of the shelter's data. -/
def imageKeys (s : State) : List ObjKey :=
  match s.media.image with
  | some img => (img.dataPages.map (fun p => match p with
      | .page _ _ _ _ _ _ recs => recs.map (fun r => r.1)
      | .log _ => [])).flatten
  | none => []

/-- Mark a block for re-erasure; an interrupted erase counts (R640). -/
def markBlock (charge : Bool) (s : State) (k : BlockId) : State :=
  updBlock s k (fun b => { b with reErase := true, ecount := if charge then b.ecount + 1 else b.ecount })

/-- Blocks that S13 samples: the members of FREE, SHELTER and SPILL bands (ch. 14). -/
def examined (s : State) (k : BlockId) : Bool :=
  match (bandOf s (bandOfBlock s k)).state with | .free | .shelter | .spill => true | _ => false

/-- A sampled page is blank: at most 8 zero bits in each KiB (ch. 14). -/
def blankSample (p : PageSample) : Bool := decide (p.zeros ≤ 8)

/-- S13 (R594, R639 to R642): a ring that fails its CRC fails the step, unless its alternative runs. A sampled block with a page that
is not blank is STALE with a valid header among its pages, INDETERMINATE without (S13 classes). -/
def actS13 (s : State) (samples : List (BlockId × List PageSample)) (badRing : List Nat) : State :=
  if ringFails s.upkeep.ring badRing && ! onAlt s 13 then failStep s 13 .fail 0 else
  let half := halfErased s.upkeep.ring badRing (onAlt s 13)
  let dirty := samples.filter (fun x => ! half.contains x.1 && examined s x.1 && ! x.2.all blankSample)
  let named (v : Bool) : List BlockId := ((dirty.filter (fun x => x.2.any (fun p => validHeader p.header) == v)).map (fun x => x.1)).eraseDups
  let indet := named false
  let stale := (named true).filter (fun k => ! indet.contains k)
  let s := if onAlt s 13 then logEv s .eraseRingInvalid else s
  let s := stale.foldl (markBlock false) ((half ++ indet).foldl (markBlock true) s)
  let s := addHealth s .halfErased (half.length + indet.length)
  let s := if half.isEmpty && indet.isEmpty && stale.isEmpty then s
    else logEv s .halfEraseFound { details := [(half.length : Int), (indet.length : Int), (stale.length : Int)] }
  let s := if s.media.replayHeld then s
    else
      let ns := (s.media.bands.filter (fun x => decide (x.2.state = .shelter ∨ x.2.state = .spill))).map (fun x => x.1)
      ns.foldl (fun s n => ((memberBlocks n (bandOf s n)).filter (fun k => (getBlock s k).reErase)).foldl
        (fun s k => eraseNow s .reErase k) s) s
  endStep s 13 .ok 0

/-- S14: the index is there again, in a full scan as the value headers give it (R601); pages of uploads that were lost
return to the pool (R494, R583). -/
def actS14 (s : State) : State :=
  let s := if s.boot.scan = some 14 then takeScannedIndex s else s
  endStep (unmap s (AMap.keys s.media.map)) 14 .ok 0

/-- The entries of an object whose write the image does not cover are written again (R693). -/
def reloadKey (s : State) (k : ObjKey) (o : Obj) : State :=
  let old := match AMap.find s.arc.handles k with
    | some h => (s.arc.entries.filter (fun (e : Nat × ArcEntry) => decide (e.2.owner = k.stall) && decide (e.2.result = h))).map
        (fun (e : Nat × ArcEntry) => e.1)
    | none => []
  rewriteKey (old.foldl clearAt s) k o

/-- S15: the image, but for the affected banks, then what came after it, then a scrub pass (R693, R694). -/
def loadArcade (s : State) (empty : List (Fin 16)) : State :=
  let img : Nat × List (Nat × ArcEntry) := s.arc.image.getD (0, [])
  let capture := img.1
  let entries := img.2
  let s := updArc s (fun a => { a with
    entries := entries.filter (fun e => ! empty.contains (bankOfPos e.1)), stat := [], falseHits := [], scrubFixes := [] })
  let s := (stallNos s).foldl (fun s x => (deadEntries s x).foldl clearAt s) s
  let s := (s.kv.objs.filter (fun o => decide (capture ≤ o.2.wseq))).foldl (fun s o => reloadKey s o.1 o.2) s
  updArc s (fun a => { a with scrub := some 0, rebuilding := empty, stat := [] })

/-- S15 ends. -/
def actS15 (s : State) (empty : List (Fin 16)) : State :=
  if ! arcUp s then endStep s 15 .skipped 0
  else
    let banks := if onAlt s 15 then empty else []
    let s := loadArcade s banks
    let s := if onAlt s 15 then logEv s .arcadeEmpty { details := [((bitmap (banks.map (fun b => b.val)) : Nat) : Int)] } else s
    endStep s 15 .ok 0

/-! ### S16 and S17 (R128, R130, R135, R203, R204) -/

/-- S16: the cold gate and the heater by the readings; the hot hold lasts while the highest is 80.0 °C or more. -/
def actS16 (s : State) (mn mx : Int) : State :=
  let s := updPower s (fun d => { d with flashMin := mn, flashMax := mx })
  let s := if mn < -200 ∧ ¬ s.power.coldGate then
      logEv (updPower s (fun d => { d with coldGate := true })) .coldGate { details := [mn] }
    else s
  let h := heaterFor s mn
  let s := updPower s (fun d => { d with heater := h, dummy := dummyFor d })
  if 800 ≤ mx then
    if s.boot.hotHold.isSome then s
    else
      let t := s.clock.ledger
      logEv (updBoot s (fun b => { b with hotHold := some t })) .startHotHold { details := [mx] }
  else endStep (updBoot s (fun b => { b with hotHold := none })) 16 .ok 0

/-- One port at the end of S17. -/
def endPort (s : State) (p : PortId) : State :=
  let d := getPort s p
  let alt := s.boot.portAlt.get p
  let n := s.boot.blk.portFails.get p
  let put (s : State) (k : Nat) : State :=
    if k = n then s else writeBlock s (fun b => { b with portFails := b.portFails.put p k })
  if d.link then
    if alt then
      if s.boot.blk.portKept.get p then s
      else
        let v := mainVersion s
        writeBlock s (fun b => { b with portKept := b.portKept.put p true, keptVersion := v })
    else put s 0
  else if d.energy then
    let k := if alt then n else sat (n + 1) 15
    updPort (logStepFail (put s k) 17 .fail k (bitmap [p.num])) p (fun d => { d with heldDown := true, training := false })
  else s

/-- S17 completes (R191, R204). -/
def endS17 (s : State) : State :=
  let ps := trainedPorts s
  let failed := ps.filter (fun p => (getPort s p).energy && ! (getPort s p).link)
  let alt := ps.any (fun p => s.boot.portAlt.get p && (getPort s p).link)
  let s := ps.foldl endPort s
  let r := if s.boot.degr.contains 17 then .degraded else unitResult (! failed.isEmpty) alt
  nextStep (doneRecord s 17 r (bitmap (failed.map (fun p => p.num)))) 17

/-- S17 may complete at once: every port with energy has link, and one has, or no NET island works. -/
def linksUp (s : State) : Bool :=
  let ps := trainedPorts s
  ps.isEmpty || (ps.any (fun p => (getPort s p).link) && ps.all (fun p => ! (getPort s p).energy || (getPort s p).link))

/-! ### S21 to S24 -/

/-- S22: the listeners open, the protocol's counters start (R206, R422). -/
def actS22 (s : State) : State := endStep (updProto s (fun d => { d with listening := true, stats := [] })) 22 .ok 0

/-- The slot on trial starts its window (R207). -/
def actS23 (s : State) : State :=
  let trial : Bool := match runSlot s with | some b => decide ((fwSlot s b).state = .trial) | none => false
  if trial then
    let t := s.clock.ledger
    endStep (updFw s (fun f => { f with trialAt := some t })) 23 .ok 0
  else endStep s 23 .skipped 0

/-- The work that goes on after S24: SHRED's marked bands, the rebuild, relocations that fail, the mirror's catch-up, the
life-cycle removals (R544, R617, R648, R731, R787). -/
def afterReady (s : State) : State :=
  let marked := (s.media.bands.filter (fun x => x.2.shredPending)).length
  let s := if marked = 0 then s else logEv s .shredResumed { details := [(marked : Int)] }
  let left := (degradedBands s).length
  let s := if left = 0 then s else updMedia s (fun m => { m with rebuild := true, rebuildTotal := left, rebuildLost := 0 })
  let s := (stallNos s).foldl (fun s x => relocFails s x .powerFail) s
  let s := if s.row.mirror ≠ .idle ∧ s.row.mark < s.row.highest then
      logEv (updRow s (fun d => { d with mirror := .lagging, queue := [], retry := [], sending := [], catchup := 0 }))
        .mirrorLagging { reason := 3, details := [(s.row.mark : Int)] }
    else s
  let s := if s.life.clearing then
      let s := ((stallNos s).filter (fun x => decide ((getStall s x).state = .removing))).foldl destroyStall s
      updLife (updRow s (fun d => { d with copies := [] })) (fun d => { d with clearing := false })
    else s
  gcRefresh s

/-- S24 (R208): the READY checkpoint, the DONE record, the failed-start count 0, READY, START_READY, metering. -/
def actS24 (s : State) : State :=
  let s := checkpoint s .ready
  let ms := (s.clock.ledger - s.boot.s01At) / 1000
  let s := doneRecord s 24 (stepResult s 24 .ok) ms
  let s := if s.boot.blk.failedStarts = 0 then s else writeBlock s (fun b => { b with failedStarts := 0 })
  let s := updBoot (setPhase s .ready) (fun b => { b with fg := 0 })
  let s := logEv s .startReady { details := [(s.boot.gateStartNo : Int), (ms : Int)] }
  afterReady (meterAfterStart s)

end Sys2Proof.Machine
end

