-- ==== Sys2Proof/Machine/Start.lean ====
section
/-!
DEFINITION. The commands of a start: power on a port, the choice of the lead, the steps and their failures, and the ledger on
the console (ch. 05; R94, R97).
-/

namespace Sys2Proof.Machine

open Sys2Proof

/-! ### Power at S01 (R94, R97, R184, R193, R194) -/

/-- DETECTION_VOLTAGE (R193): an unpowered drive begins a new start; a powered one notes the voltage on its other port. -/
def execDetectionVoltage (p : PortId) (rtc : RtcReading) (s : State) : Host.Outcome State Fault Refusal :=
  .next (
    let s := updFeed s p (fun f => { f with detect := true })
    if powered s then s else beginStart s rtc)

/-- PORT_POWER_ON (R94, R97, R103). -/
def execPortPowerOn (p : PortId) (classEvents : Nat) (s : State) : Host.Outcome State Fault Refusal :=
  .next (powerPort s p classEvents)

/-- START_BEGIN (R184): a restart without loss of power begins at S01 with the feeds that are present. -/
def execStartBegin (rtc : RtcReading) (s : State) : Host.Outcome State Fault Refusal :=
  .next (if s.phase = .restarting then
      let s := beginStart s rtc
      let any := (getFeed s .p0).powered || (getFeed s .p1).powered
      updBoot s (fun b => { b with firstPower := if any then some b.s01At else none })
    else s)

/-- The port R97 chooses among the powered ports without the STARVED mark: the higher hardware-class budget, then PREFER. -/
def leadChoice (s : State) : Option PortId :=
  let fit (p : PortId) : Bool := (getFeed s p).powered && ! (getFeed s p).starved
  match fit .p0, fit .p1 with
  | false, false => none
  | true, false => some .p0
  | false, true => some .p1
  | true, true =>
    let a := hwBudget (getFeed s .p0).pseType
    let b := hwBudget (getFeed s .p1).pseType
    if b < a then some .p0
    else if a < b then some .p1
    else if policyField (policyNow s) "PREFER" = 0 then some .p0 else some .p1

/-- The lead is selected. A drive that was without power had no level: its first is the one the budget permits, which is no
level change (DESIGN CHOICE, log 16). A drive that kept its power keeps its level, and R111 applies to the budget. -/
def takeLead (s : State) (p : PortId) : State :=
  let s := updPower s (fun d => { d with lead := some p })
  noteStandby (if s.boot.warm then applyBudget s
    else
      let l := levelFor (budget s)
      noteBudget (updPower s (fun d => { d with level := l, levelAt := s.clock.ledger })))

/-- LEAD_SELECT (R97, R109): 100 ms after the first port was powered; with every powered port marked the drive waits. -/
def execLeadSelect (s : State) : Host.Outcome State Fault Refusal :=
  .next (if starting s ∧ s.boot.fg = 1 ∧ s.power.lead.isNone then
      match s.boot.firstPower with
      | none => s
      | some t =>
        let s := advanceTo s (t + 100000)
        match leadChoice s with
        | none => s
        | some p => takeLead s p
    else s)

/-- S01 may complete: a lead whose budget is at least 12 W (R194). -/
def s01Done (s : State) : Bool := starting s && decide (s.boot.fg = 1) && s.power.lead.isSome && decide (120 ≤ budget s)

/-- S01_BUDGET_MET (R194). -/
def execS01BudgetMet (s : State) : Host.Outcome State Fault Refusal := .next (if s01Done s then endS01 s else s)

/-! ### The steps (R182, R185 to R192) -/

/-- A step is open: it is the foreground's, or the background rebuild's. -/
def stepOpen (s : State) (n : Nat) : Bool := starting s && (decide (s.boot.fg = n) || decide (s.boot.scan = some n)) && decide (n ≠ 0)

/-- S21 ends: without a row ID there was nothing to join (R205). -/
def actS21 (s : State) : State :=
  if ! rowOn s then endStep s 21 .skipped 0
  else match s.row.state with
    | .member => endStep s 21 .ok 0
    | .leader => endStep s 21 .ok 0
    | _ => s

/-- An allocation stands on the lead port (R104). -/
def leadAllocated (s : State) : Bool :=
  match s.power.lead with | none => false | some p => (getFeed s p).alloc.isSome

/-- An interface has what its modes ask for: its IPv4 address, and a global IPv6 address or the offer of none (R342). -/
def ifAcquired (s : State) (k : IfNo) : Bool :=
  (decide (v4Mode s k = 0) || (ifAddrs s k).any (fun r => isV4 r.addr))
    && (decide (v6Mode s k = 0) || (getIfc s k).noGlobal
        || (ifAddrs s k).any (fun r => ! isV4 r.addr && decide (r.origin ≠ .linkLocal)))

/-- Every configured address family has an address (R205, R342). -/
def allAcquired (s : State) : Bool := (allIfs.filter (ifExists s)).all (ifAcquired s)

/-- PTP or NTP is accepted (R352). -/
def sourceAccepted (s : State) : Bool := s.clock.ptp.accepted || s.clock.ntpPeer.isSome

/-- The last action of a step whose completion brings no findings. -/
def plainStep (s : State) (n : Nat) : State :=
  match n with
  | 1 => if s01Done s then endS01 s else s
  | 2 => if s.power.measuring = .idle then endS02 s .ok [] [] [] else s
  | 5 => endStep (setIsl s .core .run) 5 .ok 0
  | 6 => endStep (setIsl s .dram .run) 6 .ok 0
  | 11 => actS11 s
  | 14 => actS14 s
  | 17 => if linksUp s then endS17 s else s
  | 18 => if leadAllocated s then endStep s 18 .ok 0 else s
  | 19 => if allAcquired s then endStep s 19 .ok 0 else s
  | 20 => if sourceAccepted s then endStep s 20 .ok 0 else s
  | 21 => actS21 s
  | 22 => actS22 s
  | 23 => actS23 s
  | 24 => actS24 s
  | _ => s

/-- What a step's completion does. -/
def finishStep (s : State) : StepData → State
  | .plain n => plainStep s n
  | .s02 badCkpts badRecs badEvents => if s.power.measuring = .idle then endS02 s .ok badCkpts badRecs badEvents else s
  | .s03 pins mirror a b fuses badRuns badTests => endS03 (actS03 s pins mirror a b fuses badRuns badTests)
  | .s04 a b r => actS04 s a b r
  | .s07 rs failed => actS07 s rs failed
  | .s08 u => actS08 s u
  | .s09 failed => actS09 s failed
  | .s10 mapBad bad => actS10 s mapBad bad
  | .s12 lost => actS12 s lost
  | .s13 samples badRing => actS13 s samples badRing
  | .s15 banks => actS15 s banks
  | .s16 mn mx => actS16 s mn mx

/-- START_STEP_COMPLETE (R182): the last action of an open step, its DONE record, and the next step's BEGUN record. -/
def execStartStepComplete (d : StepData) (s : State) : Host.Outcome State Fault Refusal :=
  .next (if stepOpen s (stepOf d) then finishStep s d else s)

/-- S01 fails: the gatehouse MCU did not start. Its other slot failing too, no signature is presented (ch. 05, Step
alternatives table). -/
def failS01 (s : State) : State :=
  let again := decide (2 ≤ gateFails s)
  let s := putGate s 1 .done .fail
  if again then goOff s else restartNow s

/-- A failure of a step that ends the start, or, for S12 and S15 on their alternative, does not (R185, R188). -/
def stepFailed (s : State) (n : Nat) (r : StepResult) (detail : Nat) : State :=
  match n with
  | 3 => failStep (noteWindow (settleRecords s)) 3 r detail
  | 12 => if onAlt s 12 then replayAt s (imageKeys s) .degraded else failStep s 12 r detail
  | 15 => if onAlt s 15 then endStep (deadIsland s .arc .startStepFail) 15 .degraded 0 else failStep s 15 r detail
  | n => failStep s n r detail

/-- START_STEP_FAIL (R185): a check of an open step fails. S02 and S18 to S21 never fail; S09 and S17 fail per channel and per
port as they end (R191). -/
def execStartStepFail (n detail : Nat) (s : State) : Host.Outcome State Fault Refusal :=
  .next (if ! stepOpen s n then s
    else match n with
      | 1 => failS01 s
      | 2 | 9 | 17 | 18 | 19 | 20 | 21 => s
      | n => stepFailed s n .fail detail)

/-- Timeout of a step in seconds (ch. 05, Start steps table); none for S01 and S17, whose attempts repeat. -/
def stepSeconds (n : Nat) : Option Nat :=
  match n with
  | 2 => some 36 | 3 => some 1 | 4 => some 5 | 5 => some 2 | 6 => some 10 | 7 => some 15 | 8 => some 120 | 9 => some 8
  | 10 => some 60 | 11 => some 120 | 12 => some 60 | 13 => some 30 | 14 => some 120 | 15 => some 10 | 16 => some 1
  | 18 => some 10 | 19 => some 30 | 20 => some 10 | 21 => some 5 | 22 => some 2 | 23 => some 1 | 24 => some 5
  | _ => none

/-- When the open step began. -/
def begunAt (s : State) (n : Nat) : Nat :=
  if n ≤ 2 then
    match s.boot.gateRecs.reverse.find? (fun g => decide (g.startNo = s.boot.gateStartNo) && decide (g.step = n) && decide (g.kind = .begun)) with
    | some g => s.boot.s01At + g.elapsed
    | none => s.clock.ledger
  else
    match s.boot.ring.find? (fun r => decide (r.startNo = s.boot.gateStartNo) && decide (r.step = n) && decide (r.kind = .begun)) with
    | some r => r.ltime
    | none => s.clock.ledger

/-- The channels a timeout of S09 finds untrained. -/
def untrained : StepData → List (Fin 16)
  | .s09 l => l
  | _ => []

/-- The ledger checkpoints, step records and event records that S03 finds invalid as it begins, by sequence number. -/
def badRecords : StepData → List Nat × List Nat × List Nat
  | .s02 a b c => (a, b, c)
  | _ => ([], [], [])

/-- A step ends for want of time. -/
def timeoutStep (s : State) (n : Nat) (d : StepData) : State :=
  match n with
  | 2 => timeoutS02 s (badRecords d).1 (badRecords d).2.1 (badRecords d).2.2
  | 9 => actS09 s (untrained d)
  | 18 | 19 | 20 => endStep s n .degraded 0
  | 21 =>
    if ! rowOn s then endStep s 21 .skipped 0
    else endStep (match s.row.state with | .joining => leadAlone s | _ => s) 21 .degraded 0
  | n => stepFailed s n .timeout 0

/-- START_STEP_TIMEOUT (R185, R201): the step's time is over. S16 has no timeout while the hot hold lasts; the full-scan rebuild
ends 2,700 s after S11 began. -/
def execStartStepTimeout (n : Nat) (d : StepData) (s : State) : Host.Outcome State Fault Refusal :=
  .next (if starting s ∧ n = 11 ∧ s.boot.scan.isSome then
      failStep (advanceTo s (s.boot.scanAt.getD s.clock.ledger + 2700 * sec)) 11 .timeout 0
    else if ! stepOpen s n || (decide (n = 16) && s.boot.hotHold.isSome) then s
    else match stepSeconds n with
      | none => s
      | some t => timeoutStep (advanceTo s (begunAt s n + t * sec)) n d)

/-- LLDP_ALLOCATION (R104, R105): recorded, applied, and echoed after the reduction; the first on the lead port ends S18. One that
arrives during a gatehouse update is applied once the MCU is back (R763). -/
def execLldpAllocation (p : PortId) (alloc : Nat) (s : State) : Host.Outcome State Fault Refusal :=
  .next (
    let s := if (getFeed s p).powered ∧ (getPort s p).link then
        takeAllocation s p alloc
      else s
    if stepOpen s 18 && (getFeed s p).alloc.isSome && decide (s.power.lead = some p) then endStep s 18 .ok 0 else s)

/-! ### S16 and S17 (R203, R204) -/

/-- START_HOT_HOLD (R203): logged again every 60 s while the hold lasts. -/
def execStartHotHold (s : State) : Host.Outcome State Fault Refusal :=
  .next (match s.boot.hotHold with
    | none => s
    | some t =>
      let s := advanceTo s (t + 60 * sec)
      let at_ := s.clock.ledger
      logEv (updBoot s (fun b => { b with hotHold := some at_ })) .startHotHold { details := [s.power.flashMax] })

/-- S17_LINK_RETRY (R204): while no port has link, training starts again. -/
def execS17LinkRetry (s : State) : Host.Outcome State Fault Refusal :=
  .next (if stepOpen s 17 && ! (getPort s .p0).link && ! (getPort s .p1).link then (trainedPorts s).foldl train s else s)

/-- S17_COMPLETE (R204): 10 s after the first port has link; the ports' energy as detected at that moment. -/
def execS17Complete (energy0 energy1 : Bool) (s : State) : Host.Outcome State Fault Refusal :=
  .next (if ! stepOpen s 17 then s
    else match s.boot.s17Link with
      | none => s
      | some t =>
        let s := advanceTo s (t + 10 * sec)
        let s := updPort s .p0 (fun d => { d with energy := energy0 || d.link })
        endS17 (updPort s .p1 (fun d => { d with energy := energy1 || d.link })))

/-! ### The start on the console (R215, R216) -/

/-- SVC.START.STATUS. -/
def startStatusWord (s : State) : Word64 :=
  let trial : Bool := match runSlot s with | some b => decide ((fwSlot s b).state = .trial) | none => false
  packWord [(32, s.boot.blk.startNo), (24, safeCode s.boot.blk.safeCause), (16, s.boot.scanPct), (12, s.boot.blk.failedStarts),
    (11, b2n (decide (s.phase = .safe) && decide (s.fw.running ≠ .recovery))), (10, b2n s.boot.scan.isSome), (9, b2n trial),
    (8, b2n (! s.boot.alt.isEmpty)), (0, s.boot.step)]

/-- SVC.START.ALT. -/
def startAltWord (s : State) : Word64 := packWord (s.boot.alt.eraseDups.map (fun n => (n - 1, 1)))

/-- A step by name. -/
def stepName (n : Nat) : String :=
  if n = 0 then "START" else if n = 25 then "SAFE" else (if n < 10 then "S0" else "S") ++ toString n

/-- A result by name (ch. 05, Step result encoding). -/
def resultName : StepResult → String
  | .ok => "OK" | .okAlt => "OK_ALT" | .degraded => "DEGRADED" | .fail => "FAIL" | .timeout => "TIMEOUT"
  | .skipped => "SKIPPED" | .aborted => "ABORTED" | .interrupted => "INTERRUPTED" | .foundOpen => "FOUND_OPEN"

/-- A record kind by name. -/
def kindName : RecKind → String
  | .start => "START" | .begun => "BEGUN" | .done => "DONE" | .safe => "SAFE" | .clear => "CLEAR"

/-- The lines of `start show`: the two words, the alternatives in use, and the count and the kept mark of every step, channel
and port (R216). -/
def startLines (s : State) : List (List (String × Val)) :=
  let b := s.boot.blk
  let steps := (List.range 25).filter (fun n => decide (n ≠ 0))
  [wordFields .startStatus (startStatusWord s)
      ++ [("step", .name (stepName s.boot.step)), ("cause", .name (safeName b.safeCause))],
    wordFields .startAlt (startAltWord s)]
    ++ s.boot.alt.eraseDups.map (fun n => [("alternative", .name (stepName n))])
    ++ steps.map (fun n => [("step", .name (stepName n)), ("fails", vn (stepFails s n)), ("kept", vb (b.kept.contains n))])
    ++ (List.finRange 16).map (fun c => [("channel", vn c.val), ("fails", vn (AMap.getD b.chanFails c 0)), ("kept", vb (b.chanKept.contains c))])
    ++ [PortId.p0, PortId.p1].map (fun p =>
      [("port", vn p.num), ("fails", vn (b.portFails.get p)), ("kept", vb (b.portKept.get p))])

/-- The answer of START_SHOW (R216). -/
def startShowAnswer (s : State) : Reply :=
  .ok (startLines s)

/-- START_SHOW (R216). -/
def execStartShow (l : Line) (s : State) : Host.Outcome State Fault Refusal :=
  .next (showCmd s l { safe := true } none startShowAnswer)

/-- A step record as a line. -/
def stepLine (r : StepRec) : List (String × Val) :=
  [("start", vn r.startNo), ("ltime", vn r.ltime), ("step", .name (stepName r.step)), ("kind", .name (kindName r.kind)),
    ("result", .name (resultName r.result)), ("fails", vn r.fcount), ("detail", vn r.detail), ("seq", vn r.recSeq)]

/-- The records a `ledger show` reports, oldest first. -/
def ledgerRecs (s : State) (start : Option Nat) : List StepRec :=
  let n := s.boot.blk.startNo
  (s.boot.ring.filter (fun r => match start with
    | some k => decide (r.startNo = k)
    | none => decide (r.startNo = n) || decide (r.startNo + 1 = n))).reverse

/-- The answer of `ledger show`: the records, or the oldest and newest start numbers that the ring holds (R216, R875). -/
def ledgerReply (s : State) (start : Option Nat) : Reply :=
  match ledgerRecs s start with
  | [] =>
    match s.boot.ring, s.boot.ring.getLast? with
    | r :: _, some o => okLine [("oldest", vn o.startNo), ("newest", vn r.startNo)]
    | _, _ => okLine [("records", vn 0)]
  | l => .ok (l.map stepLine)

/-- The answer of LEDGER_SHOW (R216). -/
def ledgerShowAnswer (start : Option Nat) (s : State) : Reply :=
  ledgerReply s start

/-- LEDGER_SHOW (R216). -/
def execLedgerShow (l : Line) (start : Option Nat) (s : State) : Host.Outcome State Fault Refusal :=
  .next (showCmd s l { safe := true } none (ledgerShowAnswer start))

/-- Every count and kept mark 0, no safe-mode cause (R215). -/
def clearedBlock (b : StartBlock) : StartBlock :=
  { b with failedStarts := 0, safeCause := .none_, stepFails := [], chanFails := [], portFails := ⟨0, 0⟩
           kept := [], chanKept := [], portKept := ⟨false, false⟩ }

/-- START_CLEAR (R215, R808). -/
def execStartClear (l : Line) (s : State) : Host.Outcome State Fault Refusal :=
  .next (runCmd s l { safe := true, priv := true } none (fun s _ =>
    let s := writeBlock s clearedBlock
    let n := s.boot.gateStartNo
    let s := putStep s n 0 .clear .ok 0 0
    let s := updLife s (fun d => { d with cleared := true })
    .say (logEv s .startCleared) okReply none))

end Sys2Proof.Machine
end

