-- ==== Sys2Proof/Machine/Net.lean ====
section
/-!
DEFINITION. Addresses, discovery and neighbours (ch. 08): DHCP, Router Advertisements, duplicate detection, ICMP, LLDP and
the network commands.
-/

namespace Sys2Proof.Machine

open Sys2Proof

/-- The end of a lifetime in seconds from now; 0xFFFF_FFFF is without end. -/
def leaseEnd (s : State) (secs : Nat) : Option Nat := if secs = 0xFFFFFFFF then none else some (now s + secs * sec)

/-- A router address of 0 is none. -/
def routerOf (a : IpAddr) : Option IpAddr := if a.toNat % 2 ^ 32 = 0 then none else some a

/-- Bind a DHCPv4 lease: the same address is renewed, a new one is probed; the present one stays until then (R336, R342). -/
def bind4 (s : State) (k : IfNo) (a server gw : IpAddr) (maskLen lease : Nat) (ntp : List IpAddr) : State :=
  let s := updIfc s k (fun d => { d with d4 := .bound, d4Server := some server, d4Offer := none, d4Prev := some a
                                         gw4 := routerOf gw, ntp := ntp })
  let s := refreshNtp s
  if (getIfc s k).addrs.any (fun r => decide (r.addr = a) && addrUsable r) then
    updIfc s k (fun d => { d with addrs := d.addrs.map (fun r =>
      if r.addr = a then { r with until_ := leaseEnd s lease } else r) })
  else addAddr s k { addr := a, plen := maskLen, origin := .dhcp4, state := .probing, until_ := leaseEnd s lease }

/-- DHCPV4_RECEIVE (R336). -/
def execDhcpv4Receive (k : IfNo) (m : Dhcp4) (s : State) : Host.Outcome State Fault Refusal :=
  .next (if ¬ (netRuns s ∧ ifExists s k ∧ v4Mode s k = 1) then s
    else
      let d := getIfc s k
      match m with
      | .offer a server =>
        if d.d4 = .selecting then
          request4 (updIfc s k (fun d => { d with d4 := .requesting, d4Offer := some a, d4Server := some server })) k a
        else s
      | .ack a server gw mask lease _ _ ntp =>
        match d.d4 with
        | .requesting | .initReboot | .renewing => bind4 s k a server gw mask lease ntp
        | _ => s
      | .nak =>
        match d.d4 with
        | .requesting | .initReboot => discover s k 4
        | .renewing =>
          let old := (d.addrs.filter (fun r => decide (r.origin = .dhcp4))).map (fun r => r.addr)
          discover (old.foldl (fun s a => removeAddr s k a) s) k 4
        | _ => s)

/-- The next DISCOVER interval (R336). -/
def nextWait (w : Nat) : Nat := if 64 ≤ 2 * w then 64 else 2 * w

/-- DHCP_RETRANSMIT (R336, R337): DISCOVER, a request or a renewal is sent again. -/
def execDhcpRetransmit (k : IfNo) (s : State) : Host.Outcome State Fault Refusal :=
  .next (if ¬ (netRuns s ∧ ifExists s k) then s
    else
      let d := getIfc s k
      let s := match d.d4 with
        | .idle => s
        | .selecting => discover (advanceTo s (d.d4At + d.d4Wait * sec)) k (nextWait d.d4Wait)
        | .initReboot => discover s k 4
        | .requesting => (match d.d4Offer with
          | some a => request4 s k a | none => discover s k 4)
        | .bound | .renewing => (match d.d4Prev with
          | some a => request4 (updIfc s k (fun d => { d with d4 := .renewing })) k a
          | none => s)
      match d.d6 with
      | .idle => s
      | .soliciting => solicit s k
      | .requesting | .bound => request6 s k)

/-- An IPv6 address would need a ninth solicited-node group (R338). -/
def ninthGroup (s : State) (a : IpAddr) : Bool :=
  let g := solicitedGroups s
  ! g.contains (a.toNat % 2 ^ 24) && decide (8 ≤ g.length)

/-- An interface's number as a detail word. -/
def ifWord (k : IfNo) : Int := (k.val : Int)

/-- A further prefix or address above the two an interface holds: ignored, logged once (R338). -/
def addrOverLimit (s : State) (k : IfNo) (a : IpAddr) : State :=
  if (getIfc s k).ignored.contains a then s
  else logEv (updIfc s k (fun d => { d with ignored := a :: d.ignored })) .addrLimit { details := addrWords a ++ [ifWord k] }

/-- DHCPV6_RECEIVE (R337, R338). -/
def execDhcpv6Receive (k : IfNo) (m : Dhcp6) (s : State) : Host.Outcome State Fault Refusal :=
  .next (if ¬ (netRuns s ∧ ifExists s k ∧ (v6Mode s k = 1 ∨ v6Mode s k = 2)) then s
    else
      let d := getIfc s k
      match m with
      | .advertise _ =>
        if d.d6 = .soliciting then
          request6 (updIfc s k (fun d => { d with d6 := .requesting })) k
        else s
      | .reply addr _ valid _ _ ntp =>
        let s := refreshNtp (if ntp.isEmpty then s
          else updIfc s k (fun d => { d with ntp := (d.ntp ++ ntp).eraseDups }))
        match d.d6, addr with
        | .idle, _ => s
        | .soliciting, _ => s
        | _, none => updIfc s k (fun d => { d with noGlobal := true })
        | _, some a =>
          let s := updIfc s k (fun d => { d with d6 := .bound })
          if d.addrs.any (fun r => decide (r.addr = a) && addrUsable r) then
            updIfc s k (fun d => { d with addrs := d.addrs.map (fun r =>
              if r.addr = a then { r with until_ := leaseEnd s valid } else r) })
          else if ninthGroup s a then
            logEv (sendIp (updIfc s k (fun d => { d with d6 := .idle })) k 6 (.dhcp6Release k a) 17) .addrRefused
              { details := addrWords a ++ [ifWord k] }
          else if 2 ≤ ((globalV6 s k).filter (fun r => decide (r.origin ≠ .dhcp6))).length then addrOverLimit s k a
          else addAddr s k { addr := a, plen := 128, origin := .dhcp6, state := .probing, until_ := leaseEnd s valid })

/-- One autonomous prefix of a Router Advertisement (R335, R338). -/
def takePrefix (k : IfNo) (s : State) (x : RaPrefix) : State :=
  if ! x.auto || decide (v6Mode s k ≠ 1) then s
  else
    let a := slaacAddr x.net
    if (getIfc s k).addrs.any (fun r => decide (r.addr = a)) then
      updIfc s k (fun d => { d with addrs := d.addrs.map (fun r =>
        if r.addr = a then { r with until_ := leaseEnd s x.valid } else r) })
    else if x.valid = 0 then s
    else if 2 ≤ (globalV6 s k).length then addrOverLimit s k x.net
    else addAddr s k { addr := a, plen := 64, origin := .slaac, state := .probing, until_ := leaseEnd s x.valid }

/-- ROUTER_ADVERTISEMENT (R337, R338, R341). -/
def execRouterAdvertisement (k : IfNo) (ra : RouterAdv) (s : State) : Host.Outcome State Fault Refusal :=
  .next (if ¬ (ifExists s k ∧ acquiring s) then s
    else
      let mode := v6Mode s k
      let mtuOk := match ra.mtu with | none => false | some m => decide (1280 ≤ m) && decide (m ≤ portMtu s)
      let s := updIfc s k (fun d => { d with
        raSeen := true
        routers := (d.routers.filter (fun r => decide (r.1 ≠ ra.router)))
          ++ (if ra.lifetime = 0 then [] else [(ra.router, s.clock.ledger + ra.lifetime * sec)])
        mtu := if mtuOk then ra.mtu else d.mtu })
      let s := ra.prefixes.foldl (takePrefix k) s
      if mode = 2 ∨ (mode = 1 ∧ ra.managed) then
        if (getIfc s k).d6 = .idle then solicit s k else s
      else if mode = 1 then
        let s := if ra.other then sendIp s k 6 (.dhcp6Info k (dhcp6Client 0)) 16 else s
        if ra.prefixes.any (fun x => x.auto) then s else updIfc s k (fun d => { d with noGlobal := true })
      else s)

/-- RA_TIMEOUT (R337): three solicitations and 8 s without an answer mean that no global address is offered. -/
def execRaTimeout (k : IfNo) (s : State) : Host.Outcome State Fault Refusal :=
  .next (if netRuns s ∧ ifExists s k ∧ v6Mode s k = 1 ∧ ¬ (getIfc s k).raSeen then
      updIfc (solicitRouter (solicitRouter s k) k) k (fun d => { d with noGlobal := true })
    else s)

/-! ### Duplicate detection and loss -/

/-- The record of an address on an interface. -/
def addrRec (s : State) (k : IfNo) (a : IpAddr) : Option AddrRec :=
  (getIfc s k).addrs.find? (fun r => decide (r.addr = a))

/-- The record of an address while the interfaces are served; none in Dormant, where nothing is done on the network (R317, R318). -/
def heldRec (s : State) (k : IfNo) (a : IpAddr) : Option AddrRec := if netRuns s then addrRec s k a else none

/-- Set the use of an address. -/
def setAddr (s : State) (k : IfNo) (a : IpAddr) (st : AddrState) (retry : Option Nat) : State :=
  let t := s.clock.ledger
  updIfc s k (fun d => { d with addrs := d.addrs.map (fun r =>
    if r.addr = a then { r with state := st, retryAt := retry, probeAt := t } else r) })

/-- How long a probe waits for a conflict: 200 ms after an ARP probe, 1 s of duplicate address detection (R339). -/
def probeWait (a : IpAddr) : Nat := if isV4 a then 200000 else sec

/-- ADDR_PROBE_DONE (R339, R342): the wait has ended without a conflict; the address is used, and an earlier lease it replaces goes. -/
def execAddrProbeDone (k : IfNo) (a : IpAddr) (s : State) : Host.Outcome State Fault Refusal :=
  .next (match heldRec s k a with
    | none => s
    | some r =>
      if r.state = .probing ∨ r.state = .optimistic then
        let s := advanceTo s (r.probeAt + probeWait a)
        let s := updIfc (setAddr s k a .usable none) k (fun d => { d with renewing := false })
        let s := if r.origin = .linkLocal ∧ (getIfc s k).d6 = .soliciting then solicit s k else s
        if r.origin = .dhcp4 ∨ r.origin = .dhcp6 then
          let old := ((getIfc s k).addrs.filter (fun x => decide (x.origin = r.origin) && decide (x.addr ≠ a))).map
            (fun x => x.addr)
          old.foldl (fun s b => removeAddr s k b) s
        else s
      else s)

/-- ADDR_DUPLICATE (R340): a conflict; the address is not used. -/
def execAddrDuplicate (k : IfNo) (a : IpAddr) (s : State) : Host.Outcome State Fault Refusal :=
  .next (match heldRec s k a with
    | none => s
    | some r =>
      if r.state = .conflict then s
      else
        let retry := match r.origin with | .static | .dhcp6 => some (now s + 60 * sec) | _ => none
        let s := logEv s .addrDuplicate { details := addrWords a ++ [ifWord k] }
        let s := setAddr s k a .conflict retry
        let s := resetWhere s (fun c => decide (c.ifc = k) && decide (c.local_ = a))
        let s := resetMgmt s (fun d => decide (d.ifc = k) && decide (d.local_ = a))
        if r.origin = .dhcp4 then
          discover (updIfc (sendIp s k 6 (.dhcp4Decline k a) 17) k (fun d => { d with d4Prev := none })) k 4
        else s)

/-- ADDR_RETRY (R340): 60 s after the conflict the address is tried again. -/
def execAddrRetry (k : IfNo) (a : IpAddr) (s : State) : Host.Outcome State Fault Refusal :=
  .next (match heldRec s k a with
    | none => s
    | some r => match r.retryAt with
      | none => s
      | some t =>
        let s := setAddr (advanceTo s t) k a .probing none
        if isV4 a then sendPlain s k 6 (.probe k a) 8 .broadcast else sendIp s k 6 (.probe k a) 9)

/-- ADDR_LOST (R341): a lease or lifetime ends; the address goes as under R334 and acquisition begins again. -/
def execAddrLost (k : IfNo) (a : IpAddr) (s : State) : Host.Outcome State Fault Refusal :=
  .next (match heldRec s k a with
    | none => s
    | some r => match r.until_ with
      | none => s
      | some t =>
        let s := logEv (removeAddr (advanceTo s t) k a) .addrLost { details := addrWords a ++ [ifWord k] }
        match r.origin with
        | .dhcp4 => discover s k 4
        | .dhcp6 => solicit s k
        | .slaac => solicitRouter s k
        | _ => s)

/-! ### Neighbours and ICMP -/

/-- NEIGHBOUR_SOLICIT (R343): a request for an own address on the interface is answered from the Port 0 address. -/
def execNeighbourSolicit (k : IfNo) (target sender : IpAddr) (mac : MacAddr) (s : State) :
    Host.Outcome State Fault Refusal :=
  .next (if netRuns s ∧ ownAddr s k target then
      let s := learn s k sender mac
      let it := NetItem.neighbour k target (Config.macAddr .p0) (some sender)
      if isV4 target then sendPlain s k 6 it 1 .unicast else sendIp s k 6 it 2
    else s)

/-- A count within the present second of a rate limit. -/
def rateStep (t : Nat) (r : Nat × Nat) (limit : Nat) : Option (Nat × Nat) :=
  if r.1 + sec ≤ t ∨ r.2 = 0 then some (t, 1) else if r.2 < limit then some (r.1, r.2 + 1) else none

/-- ICMP_ECHO (R344, R345): answered up to the MTU, at most 100 a second per port; a fragment is dropped and counted. -/
def execIcmpEcho (p : PortId) (k : IfNo) (e : Ends) (len : Nat) (fragment : Bool) (s : State) :
    Host.Outcome State Fault Refusal :=
  .next (if ! netRuns s then s
    else if fragment then updNet s (fun d => { d with fragDrop := d.fragDrop + 1 })
    else if ownAddr s k e.dst && decide (len ≤ ifMtu s p k) then
      match rateStep (now s) (getPort s p).echoRate 100 with
      | none => s
      | some r => sendIp (updPort s p (fun d => { d with echoRate := r })) k 6 (.echoReply k e len) 18
    else s)

/-- ICMP_PACKET_TOO_BIG (R344): the path MTU of a destination, never raised by it. -/
def execIcmpPacketTooBig (dst : IpAddr) (mtu : Nat) (s : State) : Host.Outcome State Fault Refusal :=
  .next (
    let m := Nat.max mtu (if isV4 dst then 68 else 1280)
    updNet s (fun d => { d with pmtu := AMap.set d.pmtu dst (Nat.min m (AMap.getD d.pmtu dst 9198)) }))

/-- A service listens on a TCP port of an interface (ch. 08, Service ports). -/
def tcpOpen (s : State) (k : IfNo) (dport : Nat) : Bool :=
  s.proto.listening && (match dport with
    | 7131 => islUp s .proto && decide (cfgField s .kvCfg "KV1_EN" = 1) && serviceOn s k 0
    | 7132 => islUp s .proto && decide (cfgField s .kvCfg "KV2_EN" = 1) && serviceOn s k 1
    | 7133 => islUp s .proto && decide (cfgField s .kvCfg "KV3_EN" = 1) && serviceOn s k 2
    | 7135 => serviceOn s k 3
    | _ => false)

/-- A service listens on a UDP port of an interface (ch. 08, Service ports). -/
def udpOpen (s : State) (k : IfNo) (dport : Nat) : Bool :=
  match dport with
  | 7131 => s.proto.listening && islUp s .proto && decide (cfgField s .kvCfg "KV1_EN" = 1) && serviceOn s k 0
  | 7134 => s.row.beaconing && decide (rowIf s = k)
  | 68 => decide (v4Mode s k = 1)
  | 546 => decide (v6Mode s k = 1 ∨ v6Mode s k = 2)
  | 319 | 320 => decide (cfgField s .timeCfg "PTP_EN" = 1) && decide (cfgField s .timeCfg "PTP_IF" = k.val)
      && decide (cfgField s .timeCfg "PTP_TRANSPORT" < 2)
  | _ => false

/-- CLOSED_PORT_PACKET (R39, R344, R346): a reset, or port unreachable at most 10 a second per port; a UDP heartbeat before
S22 gets no answer (R39). -/
def execClosedPortPacket (p : PortId) (k : IfNo) (e : Ends) (proto : ClosedProto) (s : State) :
    Host.Outcome State Fault Refusal :=
  .next (if ! ownAddr s k e.dst || ! netRuns s then s
    else match proto with
    | .tcp dport => if tcpOpen s k dport then s else sendIp s k 4 (.closedReset e dport) 19
    | .udp dport =>
      if udpOpen s k dport || (decide (dport = 7131) && starting s && ! s.proto.listening) then s
      else match rateStep (now s) (getPort s p).unreachRate 10 with
        | none => s
        | some r => sendIp (updPort s p (fun d => { d with unreachRate := r })) k 6 (.unreachable k e dport) 20)

/-! ### Network commands -/

/-- An interface number given on the console. -/
def ifErr (k : Option Int) : Option ErrName := match k with | none => none | some n => rangeErr n 0 8

/-- The interfaces a command names. -/
def ifsOf (s : State) (k : Option Int) : List IfNo :=
  match k with | none => allIfs.filter (ifExists s) | some n => [Fin.ofNat 9 n.toNat]

/-- An origin's name. -/
def originName : Origin → String
  | .linkLocal => "link-local" | .static => "static" | .dhcp4 => "dhcp4" | .slaac => "slaac" | .dhcp6 => "dhcp6"

/-- An address as a value. -/
def addrVal (a : IpAddr) : Val := .name (addrText a)

/-- The answer of NET_SHOW (R332). -/
def netShowAnswer (ifc : Option Int) (s : State) : Reply :=
  .ok ([("def4", vn (cfgField s .routeCfg "DEF4")), ("def6", vn (cfgField s .routeCfg "DEF6"))] ::
    (ifsOf s ifc).flatMap (fun k =>
      ((getIfc s k).addrs.map (fun r =>
        [("if", vn k.val), ("addr", addrVal r.addr), ("plen", vn r.plen), ("origin", .name (originName r.origin)),
          ("usable", vb (addrUsable r)), ("left", vn (match r.until_ with | none => 0 | some t => (t - now s) / sec))]))
      ++ [[("if", vn k.val), ("gw4", addrVal ((defRouter s k true).getD 0)),
          ("gw6", addrVal ((defRouter s k false).getD 0))]]))

/-- NET_SHOW (R332; ch. 08, Network and time commands). -/
def execNetShow (l : Line) (ifc : Option Int) (s : State) : Host.Outcome State Fault Refusal :=
  .next (showCmd s l {} (ifErr ifc) (netShowAnswer ifc))

/-- The answer of NET_STATS (R345). -/
def netStatsAnswer (s : State) : Reply :=
  okLine [("ip_no_route", vn s.net.noRoute), ("ip_frag_drop", vn s.net.fragDrop), ("lldp_bad", vn s.net.lldpBad),
    ("neighbours", vn s.net.neigh.length)]

/-- NET_STATS (R345; ch. 08, Network and time commands). -/
def execNetStats (l : Line) (s : State) : Host.Outcome State Fault Refusal :=
  .next (showCmd s l {} none netStatsAnswer)

/-- The answer of NET_LLDP (R347). -/
def netLldpAnswer (port : Option PortId) (s : State) : Reply :=
  .ok ((portsOf port).flatMap (fun p => (s.net.lldp.get p).map (fun n =>
    [("port", vn p.num), ("chassis", .bytes n.chassis), ("port_id", .bytes n.portId), ("name", .bytes n.sysName),
      ("pvid", vn n.pvid)])))

/-- NET_LLDP (R347). -/
def execNetLldp (l : Line) (port : Option PortId) (s : State) : Host.Outcome State Fault Refusal :=
  .next (showCmd s l {} none (netLldpAnswer port))

/-- Restart the DHCP clients of an interface; the present addresses stay until new ones are bound (R342). -/
def renewIf (s : State) (k : IfNo) : State :=
  let s := if v4Mode s k = 1 then discover (updIfc s k (fun d => { d with renewing := true })) k 4 else s
  if v6Mode s k = 2 ∨ (v6Mode s k = 1 ∧ (getIfc s k).d6 ≠ .idle) then solicit s k else s

/-- NET_RENEW (R342). -/
def execNetRenew (l : Line) (ifc : Option Int) (s : State) : Host.Outcome State Fault Refusal :=
  .next (runCmd s l {} (ifErr ifc) (fun s _ => .say ((((ifsOf s ifc).filter (ifExists s))).foldl renewIf s) okReply none))

/-! ### LLDP (R347) -/

/-- Put a neighbour among at most four: a fifth replaces the one nearest its expiry (R347). -/
def putNeigh (n : LldpNeigh) (l : List LldpNeigh) : List LldpNeigh :=
  let l := l.filter (fun x => ! (decide (x.chassis = n.chassis) && decide (x.portId = n.portId)))
  if l.length < 4 then n :: l
  else
    let soon := (l.map (fun x => x.until_)).foldl Nat.min ((l.head?.map (fun x => x.until_)).getD 0)
    match l.find? (fun x => decide (x.until_ = soon)) with
    | none => n :: l.take 3
    | some x => n :: l.erase x

/-- LLDP_RECEIVE (R104, R347): the neighbour is kept for its TTL and the power TLV goes to the gatehouse. -/
def execLldpReceive (p : PortId) (pdu : LldpPdu) (s : State) : Host.Outcome State Fault Refusal :=
  .next (if ¬ (getPort s p).link then s
    else if ! pdu.wellFormed then updNet s (fun d => { d with lldpBad := d.lldpBad + 1 })
    else
      let n : LldpNeigh := { chassis := pdu.chassis, portId := pdu.portId, sysName := pdu.sysName, pvid := pdu.pvid
                             until_ := now s + pdu.ttl * sec }
      let put (l : List LldpNeigh) : List LldpNeigh :=
        if pdu.ttl = 0 then l.filter (fun x => ! (decide (x.chassis = n.chassis) && decide (x.portId = n.portId)))
        else putNeigh n l
      let s := updNet s (fun d => { d with lldp := d.lldp.upd p put })
      let s := updFeed s p (fun f => { f with lldpSeen := true })
      match pdu.alloc with
      | none => s
      | some a => if (getFeed s p).powered then takeAllocation s p a else s)

/-- LLDP_NEIGHBOUR_EXPIRY (R347). -/
def execLldpNeighbourExpiry (p : PortId) (chassis portId : List Byte) (s : State) : Host.Outcome State Fault Refusal :=
  .next (match (s.net.lldp.get p).find? (fun n => decide (n.chassis = chassis) && decide (n.portId = portId)) with
    | none => s
    | some n => updNet (advanceTo s n.until_) (fun d => { d with lldp := d.lldp.upd p (fun l => l.erase n) }))

end Sys2Proof.Machine
end

