-- ==== Sys2Proof/Machine/Time.lean ====
section
/-!
DEFINITION. Wall time and the ledger's checkpoints (ch. 08): PTP, NTP, the steps a console asks for, the RTC.
-/

namespace Sys2Proof.Machine

open Sys2Proof

/-! ### PTP (R349) -/

/-- PTP runs. -/
def ptpOn (s : State) : Bool := timeClients s && decide (cfgField s .timeCfg "PTP_EN" = 1)

/-- An Announce is the clock's: on its interface, in its domain, over its transport (R349). -/
def ptpOwn (s : State) (a : PtpAnnounce) : Bool :=
  decide (cfgField s .timeCfg "PTP_IF" = a.ifc.val) && decide (cfgField s .timeCfg "PTP_DOMAIN" = a.domain)
    && decide (cfgField s .timeCfg "PTP_TRANSPORT" = a.transport)

/-- PTP_ANNOUNCE (R349): a grandmaster is accepted after 3 announce intervals in which it stays best. -/
def execPtpAnnounce (a : PtpAnnounce) (s : State) : Host.Outcome State Fault Refusal :=
  .next (if ! (ptpOn s && ptpOwn s a) then s
    else if ! a.best then
      (if s.clock.ptp.master = some a.master then ptpLost s else s)
    else if s.clock.ptp.master = some a.master then
      let n := s.clock.ptp.count + 1
      let s := updClock s (fun c => { c with ptp := { c.ptp with count := n, stratum := a.stratum, lastAt := c.ledger, interval := a.interval
                                                                 accepted := c.ptp.accepted || decide (3 ≤ n) } })
      if s.clock.ptp.accepted ∧ s.clock.wstate ≠ .unset then setSource s .ptp else s
    else
      updClock (ptpLost s) (fun c => { c with
        ptp := { master := some a.master, count := 1, stratum := a.stratum, lastAt := c.ledger, interval := a.interval } }))

/-- PTP_ANNOUNCE_TIMEOUT (R348, R349): 3 announce intervals after the grandmaster's newest Announce. -/
def execPtpAnnounceTimeout (s : State) : Host.Outcome State Fault Refusal :=
  .next (if s.clock.ptp.master.isSome then ptpLost (advanceTo s (s.clock.ptp.lastAt + 3 * s.clock.ptp.interval)) else s)

/-- The interface PTP runs on. -/
def ptpIf (s : State) : IfNo := Fin.ofNat 9 (cfgField s .timeCfg "PTP_IF")

/-- A Delay_Req goes out over the configured transport: the drive measures with the delay request-response mechanism (R349). -/
def sendDelayReq (s : State) : State :=
  if (ptpIp s).isSome then sendIp s (ptpIf s) 6 .ptpDelayReq 23 else sendPlain s (ptpIf s) 6 .ptpDelayReq 23 .multicast

/-- PTP_MESSAGE (R348, R349, R353 to R356): the accepted grandmaster's offset disciplines wall time, and the next delay request
follows. -/
def execPtpMessage (offset : Int) (s : State) : Host.Outcome State Fault Refusal :=
  .next (if ptpOn s && s.clock.ptp.accepted then
      sendDelayReq (discipline s .ptp .ptp offset s.clock.ptp.stratum)
    else s)

/-! ### NTP (R350, R351) -/

/-- When the next request to a server is due: 2 s after each of the opening four, then after an interval of 64 to 1,024 s (R350). -/
def nextPoll (t : Nat) (n : NtpServer) : Nat := if 1 < n.burst then t + 2 * sec else t + (64 + Config.ntpPoll t % 961) * sec

/-- The ledger time at which a server's request is due. -/
def pollDue (s : State) (server : IpAddr) : Nat :=
  ((s.clock.ntp.find? (fun n => decide (n.addr = server))).bind (fun n => n.nextAt)).getD s.clock.ledger

/-- NTP_POLL (R350, R351): the request due goes to a server; the peer that went 4 polls without a valid response is lost when no
other server qualifies. -/
def execNtpPoll (server : IpAddr) (s : State) : Host.Outcome State Fault Refusal :=
  .next (if ! s.clock.ntp.any (fun n => decide (n.addr = server)) then s
    else
      let s := advanceTo s (pollDue s server)
      let s := updClock s (fun c => { c with ntp := c.ntp.map (fun n =>
        if n.addr = server then { n with missed := n.missed + 1, burst := n.burst - 1, nextAt := some (nextPoll c.ledger n) } else n) })
      let s := originate s server 6 (.ntpRequest server) 21
      if s.clock.ntpPeer = some server ∧ s.clock.ntp.any (fun n => decide (n.addr = server) && decide (4 < n.missed)) then
        match selectNtp s with
        | some n => updClock s (fun c => { c with ntpPeer := some n.addr })
        | none => ntpLost s
      else s)

/-- NTP_RESPONSE (R351, R353): selection may accept, keep or lose a system peer; the peer's offset disciplines wall time
while PTP is not accepted (R348). -/
def execNtpResponse (server : IpAddr) (r : NtpReply) (s : State) : Host.Outcome State Fault Refusal :=
  .next (if ! s.clock.ntp.any (fun n => decide (n.addr = server)) then s
    else
      let s := updClock s (fun c => { c with ntp := c.ntp.map (fun n =>
        if n.addr = server then { n with last := some r, missed := 0 } else n) })
      match selectNtp s with
      | none => if s.clock.ntpPeer.isSome then ntpLost s else s
      | some n =>
        let fresh := decide (s.clock.ntpPeer ≠ some n.addr) || decide (n.addr = server)
        let s := updClock s (fun c => { c with ntpPeer := some n.addr })
        match n.last with
        | none => s
        | some x => if fresh && ! s.clock.ptp.accepted then discipline s .ntp .ntp x.offset x.stratum else s)

/-- TIME_STEP_REFUSED (R355): the hourly record while the condition lasts. -/
def execTimeStepRefused (s : State) : Host.Outcome State Fault Refusal :=
  .next (match s.clock.refused, s.clock.refusedAt with
    | some (src, offset), some t =>
      if s.clock.disagree then
        let s := advanceTo s (t + hour)
        logEv (updClock s (fun c => { c with refusedAt := some c.ledger })) .timeStepRefused
          { reason := sourceCode src, details := [offset] }
      else s
    | _, _ => s)

/-! ### Console -/

/-- A decimal fraction of a second in microseconds (R357). -/
def fractionMicros (ds : List Nat) : Nat := (ds ++ List.replicate (6 - ds.length) 0).foldl (fun n d => 10 * n + d) 0

/-- The form of the argument of `time set` (R357). -/
def utcErr (t : UtcArg) : Option ErrName :=
  if t.wellFormed ∧ t.fraction.length ≤ 6 ∧ t.fraction.all (fun d => decide (d ≤ 9)) then none else some .badValue

/-- TIME_SET (R357): a step to the given value; MANUAL. -/
def execTimeSet (l : Line) (t : UtcArg) (s : State) : Host.Outcome State Fault Refusal :=
  .next (runCmd s l { priv := true } (utcErr t) (fun s _ =>
    if disciplines s.clock.wstate then .say s (.err .sourceActive) none
    else
      let target : Int := ((t.micros + fractionMicros t.fraction : Nat) : Int)
      .say (stepWall s .manual .manual (target - ((now s : Int) + s.clock.wallOff))) okReply none))

/-- TIME_ACCEPT (R357): the refused step is applied. -/
def execTimeAccept (l : Line) (s : State) : Host.Outcome State Fault Refusal :=
  .next (runCmd s l { priv := true } none (fun s _ =>
    match s.clock.refused with
    | none => .say s (.err .noShadow) none
    | some (src, offset) =>
      let s := stepWall s src s.clock.wstate offset
      .say (updClock s (fun c => { c with refused := none, disagree := false })) okReply none))

/-- CORE.TIME.STATUS. -/
def timeStatusWord (s : State) : Word64 :=
  let c := s.clock
  packWord [(32, signedField 32 c.offset), (16, c.stratum), (7, b2n c.disagree), (6, b2n c.rtcValid), (5, b2n c.everSet),
    (0, wstateCode c.wstate)]

/-- An offset with its unit, as the worked example of ch. 08 shows it. -/
def offsetText (n : Int) : String := (if 0 ≤ n then "+" else "") ++ toString n ++ "us"

/-- An NTP server's line: the system peer is marked `sel`, another that qualifies `cand`. -/
def ntpLine (s : State) (n : NtpServer) : List (String × Val) :=
  [("", .name "source"), ("ntp", addrVal n.addr)]
    ++ (match n.last with | some r => [("offset", .name (offsetText r.offset))] | none => [])
    ++ (if s.clock.ntpPeer = some n.addr then [("", .name "sel")] else if ntpCandidate n then [("", .name "cand")] else [])

/-- PTP's line, while a grandmaster is heard. -/
def ptpLine (s : State) : List (List (String × Val)) :=
  match s.clock.ptp.master with
  | none => []
  | some m => [[("", .name "source"), ("ptp", .hex 64 m)]
      ++ (if s.clock.wstate = .ptp then [("offset", .name (offsetText s.clock.offset)), ("", .name "sel")] else [])]

/-- The answer of TIME_SHOW (ch. 08, Network and time commands): every field of CORE.TIME.STATUS, both clocks, the sources. -/
def timeShowAnswer (s : State) : Reply :=
  .ok ([("wstate", .name (codeName wstateNames (wstateCode s.clock.wstate))), ("wall", .name (isoText (wallNow s))),
      ("ledger", vn (now s))] ::
    [("offset", .name (offsetText s.clock.offset)), ("stratum", vn s.clock.stratum), ("rtc_valid", vb s.clock.rtcValid),
      ("ever_set", vb s.clock.everSet), ("disagree", vb s.clock.disagree)] ::
    ptpLine s ++ s.clock.ntp.map (ntpLine s))

/-- TIME_SHOW (R357; ch. 08, Network and time commands). -/
def execTimeShow (l : Line) (s : State) : Host.Outcome State Fault Refusal :=
  .next (showCmd s l {} none timeShowAnswer)

/-- RTC_WRITE (R360): every hour while NTP or PTP disciplines. -/
def execRtcWrite (s : State) : Host.Outcome State Fault Refusal :=
  .next (if disciplines s.clock.wstate then
      writeRtc (match s.clock.rtcAt with | none => s | some t => advanceTo s (t + hour))
    else s)

/-- LEDGER_CHECKPOINT (R363): 30 s after the newest checkpoint, in every state in which SVC runs. -/
def execLedgerCheckpoint (s : State) : Host.Outcome State Fault Refusal :=
  .next (if svcRuns s then
      checkpoint (match s.clock.ckpts with | [] => s | c :: _ => advanceTo s (c.ltime + 30 * sec)) .periodic
    else s)

end Sys2Proof.Machine
end

