-- ==== Sys2Proof/Machine/Flags.lean ====
section
/-!
DEFINITION. What can be read of the state: the word of each attribute number (ch. 20, Attribute map; the field maps of ch. 02 to
19), and what the three LEDs show (ch. 02, LED state table).
-/

namespace Sys2Proof.Machine

open Sys2Proof

/-! ### Words -/

/-- Code of a stall's state (ch. 11, Stall state encoding). -/
def stallCode : StallState → Nat
  | .free => 0 | .active => 1 | .draining => 2 | .freezing => 3 | .frozen => 4 | .removing => 5

/-- CORE.STALLs.STATE. -/
def stallStateWord (s : State) (x : StallNo) : Word64 :=
  let d := getStall s x
  packWord [(32, d.generation), (24, match d.owner with | some w => w.val | none => 0xF), (8, b2n d.reloc.isSome), (0, stallCode d.state)]

/-- The accumulators of a stall's open period; 0 without one. -/
def stallAcc (s : State) (x : StallNo) : Accs := match (getStall s x).period with | some p => p.acc | none => {}

/-- Bytes of mirror copies held, of every origin (CORE.ROW.MIRROR.HELD). -/
def heldTotal (s : State) : Nat :=
  listSum (s.row.copies.map (fun c => c.2.obj.key.key.length + c.2.obj.value.length))

/-- The word an attribute reads as. A field that is written only has no value of its own and reads 0. -/
def attrWord (s : State) : Attr → Word64
  | .isl i => islWord s i
  | .bayStatus => bayStatusWord s
  | .startStatus => startStatusWord s | .startAlt => startAltWord s
  | .fwStatus => fwStatusWord s
  | .fwVersionA => word s.fw.a.version | .fwVersionB => word s.fw.b.version
  | .gateVersion => word (gateVersion s) | .parcelId => word (parcelId s)
  | .lcStatus => lcStatusWord s | .testStatus => testStatusWord s | .testUnusable => unusableWord s
  | .feedStatus => feedStatusWord s | .holdupStatus => holdupStatusWord s | .holdupLast => word s.power.lastMeas
  | .thermalStatus => thermalStatusWord s | .eccCorrected => word s.isl.eccCorrected
  | .protoStat c => word (AMap.getD s.proto.stats c 0)
  | .arcBankStatus b => arcBankStatusWord s b | .arcStatus => arcStatusWord s
  | .arcStat c => word (AMap.getD s.arc.stat c 0)
  | .cfgSequence => word s.cfg.sequence
  | .bondStatus => bondStatusWord s
  | .timeStatus => timeStatusWord s | .timeWall => word (wallNow s) | .timeLedger => word (now s)
  | .mediaStatus => mediaStatusWord s | .mediaLostLo => mediaLostWord s false | .mediaLostHi => mediaLostWord s true
  | .healthWear => healthWearWord s | .healthBlocks => healthBlocksWord s | .healthTemp n => healthTempWord s n
  | .healthHoldup n => healthHoldupWord s n | .healthCtr c => word (AMap.getD s.upkeep.ctrs c 0)
  | .gcStatus => gcStatusWord s
  | .rowStatus => rowStatusWord s | .rowEpoch => word s.row.epoch | .rowLeader => word (rowLeader s)
  | .rowNeighbour => word (rowNeighbour s) | .mirrorMark => word s.row.mark | .mirrorHeld => word (heldTotal s)
  | .rowBeaconBad => word s.row.beaconBad | .rowMsgBad => word s.row.msgBad
  | .resLive => word (liveBytes s) | .resLiveMax => word (liveMax s)
  | .stallState x => stallStateWord s x | .stallHost x => word (getStall s x).host
  | .stallLateDiscard x => word (getStall s x).lateDiscard | .stallAborted x => word (getStall s x).aborted
  | .meterStored x => word (stallAcc s x).stored | .meterWritten x => word (stallAcc s x).written
  | .meterRead x => word (stallAcc s x).read | .meterOps x => word (stallAcc s x).ops
  | .meterShredded x => word (stallAcc s x).shredded
  | .phyStatus p => phyStatusWord s p | .macAddr p => word (Config.macAddr p).toNat | .macDiag p => macDiagWord s p
  | .macFilter p f => filterWord s p f | .hwstat p c => hwstatWord s p c | .hwFold _ => 0
  | .stat p c => word (statValue s p c)
  | a => cfgWord s a

/-! ### LEDs (R63, R64) -/

/-- The colours of an LED. -/
inductive Hue
  | green | amber | red
deriving DecidableEq, Repr

/-- What an LED shows (ch. 02, LED state table). -/
inductive Show
  | off
  | steady (c : Hue)
  /-- A blink of a frequency in Hz. -/
  | blink (c : Hue) (hz : Nat)
  | beacon (c : Hue)
  | doubleFlash (c : Hue)
  /-- Locate: red and green alternating at 2 Hz. -/
  | locate
  /-- Green, with amber for 200 ms every 2 s. -/
  | degraded
deriving DecidableEq, Repr

/-- The lamp test's phase: 0 all amber, 1 all green, 2 STATUS red; none when it has ended (R64). -/
def lampPhase (s : State) : Option Nat :=
  match s.bay.lampTest with
  | none => none
  | some t => let p := (s.clock.ledger - t) / 250000; if p < 3 then some p else none

/-- PWR, below the lamp test. -/
def pwrRow (s : State) : Show :=
  if ! powered s then .off
  else if s.phase = .dormant then .beacon .green
  else if starting s ∧ s.boot.fg = 1 ∧ ¬ s01Done s then .beacon .amber
  else if writeThrough s ∨ s.power.weak then .blink .amber 1
  else match s.power.level with
    | .l2 => .steady .amber
    | .l3 => .steady .amber
    | _ => .steady .green

/-- NET, below the lamp test; its blink at a frame is dark for 50 ms. -/
def netRow (s : State) : Show :=
  if netDark s || ! ((getPort s .p0).link || (getPort s .p1).link) then .off
  else if conflictNow s then .blink .amber 4
  else if oneDown s then .blink .amber 1
  else if (usableAddrs s).isEmpty then .steady .amber
  else match s.bay.netBlinkAt with
    | some t => if s.clock.ledger < t + 50000 then .off else .steady .green
    | none => .steady .green

/-- Locate is active: its time has not run out (R65). -/
def locating (s : State) : Bool := match s.bay.locate with | some t => decide (s.clock.ledger < t) | none => false

/-- STATUS, below the lamp test. The holds of BLANK and RETIRED show the safe-mode row (R781), Dormant and an unpowered drive
nothing. During the flush of a power-fail or of R153, and between a restart and its S01, no row of the LED state table holds:
the model shows amber 1 Hz, the row of the start that follows (DESIGN CHOICE, log 46). -/
def statusRow (s : State) : Show :=
  let lockout := decide (s.bay.button = .lockout) || decide (s.bay.lid = .fault) || s.bay.lineFault
  let hurt := Island.all.any (fun i => decide (islState s i = .dead) || (getIsl s i).unusable) || ! s.media.lost.isEmpty
  if ! powered s ∨ s.phase = .dormant then .off
  else if locating s then .locate
  else if s.phase = .safe ∨ s.phase = .hold then .steady .red
  else if halting s then .blink .red 4
  else if s.phase = .halted then .doubleFlash .red
  else if lockout then .blink .red 1
  else if windowOpen s then .blink .green 1
  else if s.boot.scan.isSome then .blink .amber 2
  else if ready s then
    (if s.power.coldGate then .steady .amber else if hurt then .degraded else .steady .green)
  else .blink .amber 1

/-- The PWR LED. -/
def ledPwr (s : State) : Show :=
  match lampPhase s with | some 0 => .steady .amber | some 1 => .steady .green | some _ => .off | none => pwrRow s

/-- The NET LED. -/
def ledNet (s : State) : Show :=
  match lampPhase s with | some 0 => .steady .amber | some 1 => .steady .green | some _ => .off | none => netRow s

/-- The STATUS LED. -/
def ledStatus (s : State) : Show :=
  match lampPhase s with | some 0 => .steady .amber | some 1 => .steady .green | some _ => .steady .red | none => statusRow s

end Sys2Proof.Machine
end

