-- ==== Sys2Proof/Machine/CfgOps.lean ====
section
/-!
DEFINITION. Operations on the attribute space (ch. 04, 06): reach of an attribute, writes that take effect at once, shadows, and
the commit of a group with its rules and its effects.
-/

namespace Sys2Proof.Machine

open Sys2Proof

/-! ### Reach (R150, R167, R177) -/

/-- The state in which an attribute is read or written: a GATED island wakes; none when the island is absent. `stored` tells that
the attribute's values may be taken from the store while the island is OFF. -/
def reachIsl (s : State) (i : Island) (stored : Bool) : Option State :=
  match islState s i with
  | .run => some s
  | .gated => some (setIsl s i .run)
  | .off => if stored then some s else none
  | _ => none

/-- Reach of one attribute (R167). -/
def reach (s : State) (a : Attr) : Option State :=
  match a with
  | .isl _ => some s
  | a => match attrIsland a with | none => some s | some i => reachIsl s i (attrAllCfg a)

/-- Reach of a group: an OFF island takes the values when it next enters RUN (R177). -/
def reachGroup (s : State) (g : Group) : Option State :=
  ((groupAttrs g).map attrIsland).eraseDups.foldl (fun t i =>
    match t, i with
    | some s, some i => reachIsl s i true
    | t, _ => t) (some s)

/-! ### Writes that take effect at once (R254) -/

/-- A field was written with a value other than 0. -/
def wrote (ws : List (FieldDesc × Int)) (name : String) : Bool := ws.any (fun x => x.1.name == name && decide (x.2 ≠ 0))

/-- A field was written. -/
def named (ws : List (FieldDesc × Int)) (name : String) : Bool := ws.any (fun x => x.1.name == name)

/-- W1C of SVC.BAY.STATUS: TAMPER stays while the lid reads open or FAULT (R86). -/
def clearBay (s : State) (ws : List (FieldDesc × Int)) : State :=
  let keep := lidOpenNow s
  updBay s (fun b => { b with faultSeen := b.faultSeen && ! wrote ws "FAULT_SEEN"
                              tamper := b.tamper && (! wrote ws "TAMPER" || keep) })

/-- A write of NETn.PHY.CFG (R873): ENABLE 1 brings an OFF island to RUN and the port trains; ENABLE 0 takes the link down and
the island to OFF. Before S07 the island comes up with the others. -/
def writePhy (s : State) (p : PortId) : State :=
  let i := p.island
  let on := decide (cfgField s (.phyCfg p) "ENABLE" = 1)
  if on then
    if islState s i = .off ∧ stepDone s 7 ∧ ¬ (getIsl s i).unusable then
      let s := setIsl s i .run
      if linksLive s then train s p else s
    else s
  else
    match islState s i with
    | .off | .dead | .isolated => s
    | _ =>
      let s := rebudget (renegotiated (if (getPort s p).link then linkLoss s p else s) p)
      setIsl (updPort s p (fun d => { d with training := false, energy := false })) i .off

/-- A write of PROTO.KV.CFG (R373): a generation that is disabled loses its connections; a change of KV1_EN is logged. -/
def writeKv (old s : State) : State :=
  let on (s : State) (f : String) : Bool := decide (cfgField s .kvCfg f = 1)
  let name : Gen → String := fun g => match g with | .kv1 => "KV1_EN" | .kv2 => "KV2_EN" | .kv3 => "KV3_EN"
  let s := [Gen.kv1, .kv2, .kv3].foldl (fun s g =>
    if on old (name g) && ! on s (name g) then resetWhere s (fun c => decide (c.gen = g)) else s) s
  if on old "KV1_EN" = on s "KV1_EN" then s
  else logEv s (if on s "KV1_EN" then .kv1Enabled else .kv1Disabled)

/-- What a write of RW or W1C fields does, with what takes effect after the answer (R86, R89, R137, R296, R297, R301, R332,
R373, R566, R873). -/
def applyWrite (s : State) (a : Attr) (ws : List (FieldDesc × Int)) : State × Option After :=
  let w := applyFields (attrWord s a) ws
  let stored := if restoreStep a = 10 then stageLog (cfgStore s a w) .config else cfgStore s a w
  match a with
  | .bayStatus => (clearBay s ws, none)
  | .hwstat p c => (if wrote ws "SAT" then updPort s p (fun d => { d with hw := AMap.set d.hw c { hwCtr s p c with sat := false } })
      else s, none)
  | .macDiag p => (updPort s p (fun d => { d with capturing := bit w 5, promisc := bit w 4
                                                  capture := if bit w 5 then d.capture else [] }), none)
  | .bayCfg => (stored, if named ws "JCON_BAUD" then some (.baud (attrFieldOf .bayCfg w "JCON_BAUD")) else none)
  | .policy => (updPower stored (fun d => { d with policyCopy := some w }), none)
  | .phyCfg p => (writePhy stored p, none)
  | .kvCfg => (writeKv s stored, none)
  | .vlanCfg => (refreshIf stored 8, none)
  | .meterCfg x => (closingRules .none_ stored x, none)
  | _ => (stored, none)

/-! ### Shadows (R169 to R171, R178) -/

/-- The pending shadow of a group. -/
def shadowOf (s : State) (g : Group) : Option Shadow := AMap.find s.cfg.shadows g

/-- The number of a session among the drive's. -/
def sessSerial (s : State) (x : SessId) : Nat := ((getSess s x).map (fun d => d.serial)).getD 0

/-- Another session holds the group's shadow, be it one that had the same name before (R170). -/
def heldByOther (s : State) (g : Group) (x : SessId) : Bool :=
  match shadowOf s g with | some h => ! (decide (h.holder = x) && decide (h.inst = sessSerial s x)) | none => false

/-- Writes and commits of the group are answered `busy`: the step that restores it has not completed, or another session holds its
shadow (R170, R178). -/
def groupBusy (s : State) (g : Group) (x : SessId) : Bool := ! stepDone s (groupStep g) || heldByOther s g x

/-- Written fields with more written, the newest value of each field kept. -/
def addWritten (l : List (Attr × String × Nat)) (more : List (Attr × String × Nat)) : List (Attr × String × Nat) :=
  l.filter (fun x => ! more.any (fun y => decide (y.1 = x.1) && y.2.1 == x.2.1)) ++ more

/-- Write fields to a group's shadow. -/
def writeShadow (s : State) (g : Group) (x : SessId) (more : List (Attr × String × Nat)) : State :=
  let old := match shadowOf s g with | some h => h.written | none => []
  let k := sessSerial s x
  updCfg s (fun c => { c with shadows := AMap.set c.shadows g { holder := x, inst := k, written := addWritten old more } })

/-- Drop a group's shadow. -/
def dropShadow (s : State) (g : Group) : State := updCfg s (fun c => { c with shadows := AMap.del c.shadows g })

/-- The word of an attribute that a commit would make active (R173). -/
def pendingWord (s : State) (written : List (Attr × String × Nat)) (a : Attr) : Word64 :=
  (written.filter (fun x => decide (x.1 = a))).foldl (fun w x =>
    match attrField? a x.2.1 with | some f => fieldPut f w x.2.2 | none => w) (cfgWord s a)

/-- The state with a group's new words stored, and nothing else. -/
def storeWords (s : State) (ws : List (Attr × Word64)) : State := ws.foldl (fun s x => cfgStore s x.1 x.2) s

/-! ### Commit rules (R172; ch. 20, Commit groups table) -/

/-- An address a server or source may not have: unspecified, multicast or loopback. -/
def badAddr (n : Nat) : Bool :=
  if n / 2 ^ 32 = 0xFFFF then
    let v := n % 2 ^ 32
    decide (v = 0) || decide (v / 2 ^ 24 = 127) || decide (v / 2 ^ 28 = 0xE)
  else decide (n = 0) || decide (n = 1) || decide (n / 2 ^ 120 = 0xFF)

/-- A static IPv4 address an interface may not have (R333). -/
def badV4 (a plen : Nat) : Bool :=
  let host := 2 ^ (32 - plen)
  badAddr (0xFFFF * 2 ^ 32 + a) || decide (a / 2 ^ 16 = 0xA9FE)
    || (decide (plen < 31) && (decide (a % host = 0) || decide (a % host = host - 1)))

/-- A static IPv6 address an interface may not have (R333). -/
def badV6 (a plen : Nat) : Bool :=
  badAddr a || decide (a / 2 ^ 118 = 0x3FA) || (decide (plen < 127) && decide (a % 2 ^ (128 - plen) = 0))

/-- The IPv4 subnets of an interface: its static one, and those of the addresses it holds. -/
def v4Nets (s : State) (k : IfNo) : List (Nat × Nat) :=
  if ! ifExists s k then []
  else
    (if v4Mode s k = 2 then [(cfgField s (.ifV4 k) "VALUE", cfgField s (.ifCfg k) "V4_PREFIX")] else [])
      ++ ((getIfc s k).addrs.filter (fun r => isV4 r.addr)).map (fun r => (r.addr.toNat % 2 ^ 32, r.plen))

/-- Two IPv4 subnets overlap. -/
def netsOverlap (a b : Nat × Nat) : Bool :=
  let m := 2 ^ (32 - Nat.min a.2 b.2)
  decide (a.1 / m = b.1 / m)

/-- The solicited-node groups after a commit of an interface (R294, R333): those of the addresses held, and of the static address of
every interface, acquired or not. -/
def groupsAfter (s n : State) (k : IfNo) : List Nat :=
  let ifs := allIfs.filter (ifExists n)
  let held := ifs.flatMap (fun j => (getIfc s j).addrs.filter (fun r => decide (j ≠ k) || provided n k r))
  let fixed := (ifs.filter (fun j => decide (v6Mode n j = 3))).map (fun j => (staticV6 n j).toNat % 2 ^ 24)
  let own := (held.filter (fun r : AddrRec => ! isV4 r.addr)).map (fun r : AddrRec => r.addr.toNat % 2 ^ 24)
  (own ++ fixed).eraseDups

/-- Rules of IFk (R333), on the present state and the state with the new values. -/
def ifRule (s n : State) (k : IfNo) : Option ErrName :=
  let v4 := (cfgField n (.ifV4 k) "VALUE", cfgField n (.ifCfg k) "V4_PREFIX")
  if v4Mode n k = 2 ∧ badV4 v4.1 v4.2 then some .addrInvalid
  else if v6Mode n k = 3 ∧ badV6 (staticV6 n k).toNat (cfgField n (.ifCfg k) "V6_PREFIX") then some .addrInvalid
  else if v4Mode n k = 2 ∧ ifExists n k ∧ (allIfs.filter (fun j => decide (j ≠ k))).any (fun j => (v4Nets n j).any (netsOverlap v4)) then
    some .addrOverlap
  else if 8 < (groupsAfter s n k).length then some .groupsFull
  else none

/-- A quarter holds a valid entry, or the running queue command inserts one for its stall (R682, R695, R830). -/
def quarterUsed (s : State) (b : Fin 16) (q : Nat) : Bool :=
  s.arc.entries.any (fun e => decide (e.1 / 8192 = b.val) && decide (e.1 % 8192 / 2048 = q))
    || (match s.arc.queue.head?, quarterStall (cfgWord s (.arcBankCfg b)) q with
      | some (.insert _ k _ _), some x => decide (k.stall = x)
      | _, _ => false)

/-- The quarters of a bank whose grant changes, with the old and the new stall. -/
def grantChanges (s n : State) (b : Fin 16) : List (Nat × Option StallNo × Option StallNo) :=
  ((List.range 4).map (fun q => (q, quarterStall (cfgWord s (.arcBankCfg b)) q, quarterStall (cfgWord n (.arcBankCfg b)) q))).filter
    (fun t => decide (t.2.1 ≠ t.2.2))

/-- A stall holds quarters in banks of different widths. -/
def widthMixed (s : State) : Bool :=
  (List.finRange 128).any (fun x =>
    decide (1 < ((stallQuarters s x).map (fun t => cfgField s (.arcBankCfg t.1) "WIDTH")).eraseDups.length))

/-- Rules of ARC_BANKb (R682). -/
def arcRule (s n : State) (b : Fin 16) : Option ErrName :=
  if cfgField s (.arcBankCfg b) "WIDTH" ≠ cfgField n (.arcBankCfg b) "WIDTH" ∧ (List.range 4).any (quarterUsed s b) then
    some .widthNotEmpty
  else if (grantChanges s n b).any (fun t => quarterUsed s b t.1) then some .quarterNotEmpty
  else if widthMixed n then some .widthMixed
  else none

/-- A bucket whose rate is limited with too small a burst (R538). -/
def burstSmall (s : State) (a : Attr) (least : Nat) : Bool :=
  decide (rateOf (cfgWord s a) ≠ 0) && decide (burstOf (cfgWord s a) < least)

/-- STALL_FROZEN (R528). -/
def frozenRule (s : State) (x : StallNo) : Option ErrName := if (getStall s x).state = .frozen then some .stallFrozen else none

/-- The 128-bit address of a pair of attributes. -/
def pairAddr (s : State) (hi lo : Attr) : Nat := cfgField s hi "VALUE" * 2 ^ 64 + cfgField s lo "VALUE"

/-- The rule that refuses a commit, on the present state and the state with the new values (R172). -/
def commitRule (s n : State) : Group → Option ErrName
  | .vlan k =>
    if cfgField n (.vlanKCfg k) "ENABLE" = 1 ∧ (List.finRange 8).any (fun j => decide (j ≠ k)
        && decide (cfgField n (.vlanKCfg j) "ENABLE" = 1) && decide (cfgField n (.vlanKCfg j) "VID" = cfgField n (.vlanKCfg k) "VID"))
    then some .vidDuplicate else none
  | .ifc k => ifRule s n k
  | .lldpName => if ((lldpBytes n).takeWhile (fun b => decide (b ≠ 0))).all (fun b => decide (0x21 ≤ b) && decide (b ≤ 0x7E)) then none
      else some .badName
  | .time => if (List.finRange 4).any (fun k => let a := pairAddr n (.ntpHi k) (.ntpLo k); decide (a ≠ 0) && badAddr a) then
      some .addrInvalid else none
  | .wakep p k =>
    if (cfgWord n (.wakeMask p k)).toNat % 2 ^ cfgField n (.wakeCtrl p k) "LENGTH" = 0 then some .maskEmpty else none
  | .kv1Src k =>
    let a := pairAddr n (.kv1SrcHi k) (.kv1SrcLo k)
    if cfgField n (.kv1SrcCtrl k) "ENABLE" = 0 then none
    else if badAddr a then some .addrInvalid
    else if (List.finRange 64).any (fun j => decide (j ≠ k) && decide (cfgField n (.kv1SrcCtrl j) "ENABLE" = 1)
        && decide (pairAddr n (.kv1SrcHi j) (.kv1SrcLo j) = a)) then some .addrDuplicate
    else none
  | .quota x =>
    firstErr [if cfgField n (.quotaBytes x) "LIMIT" < cfgField n (.quotaHold x) "LIMIT" then some .holdAboveBytes else none, frozenRule s x]
  | .ret x =>
    firstErr [if cfgField n (.retention x) "MAX" < cfgField n (.retention x) "DEFAULT" then some .retDefaultAboveMax else none,
      frozenRule s x]
  | .sched x =>
    firstErr [if burstSmall n (.schedOps x) 1 || burstSmall n (.schedRd x) 4194304 || burstSmall n (.schedWr x) 4194304
        || burstSmall n (.schedBf x) 4194304 then some .burstSmall else none, frozenRule s x]
  | .arcBank b => if b.val < 4 then some .fixedBank else arcRule s n b
  | .row => if cfgField n .rowCfg "ROW_ID" ≠ 0 ∧ s.row.key.isNone then some .noRowKey else none
  | .pwrPolicy => none
  | .bond => none

/-! ### What a commit does at its commit point -/

/-- BOND (R323): a change of MODE or LACP_FAST restarts the pair. -/
def commitBond (s n : State) : State :=
  let same (f : String) : Bool := decide (cfgField s .bondCfg f = cfgField n .bondCfg f)
  if same "MODE" && same "LACP_FAST" then n
  else
    let agg := aggMode n
    let n := speedMismatch n
    let n := [PortId.p0, PortId.p1].foldl (fun n p => updPort n p (fun d => { d with
      lacp := if agg && d.link then .waiting else .notAgg, lacpPartner := none, lacpAt := none, lacpTx := none })) n
    let pri : PortId := if cfgField n .bondCfg "PRIMARY" = 1 then .p1 else .p0
    let act := if portUp n pri then some pri else if portUp n pri.other then some pri.other else none
    let t := n.clock.ledger
    moveFrames (updPorts n (fun d => { d with active := act, pairQuiet := some (t + 3 * sec) }))

/-- VLANk (R287, R543): the interface follows, and connections whose binding is no longer permitted are reset. -/
def commitVlan (n : State) (k : Fin 8) : State :=
  let n := refreshIf n (Fin.ofNat 9 k.val)
  resetWhere n (fun c => match c.stall with | some x => ! vlanPermits n c.ifc x | none => false)

/-- TIME: the clients follow their servers and their clock domain (R349, R350). -/
def commitTime (s n : State) : State :=
  let same (f : String) : Bool := decide (cfgField s .timeCfg f = cfgField n .timeCfg f)
  let n := if same "PTP_EN" && same "PTP_IF" && same "PTP_DOMAIN" && same "PTP_TRANSPORT" then n
    else if n.clock.ptp.accepted then ptpLost n else updClock n (fun c => { c with ptp := {} })
  refreshNtp n

/-- KV1_SRCk (R419): KV1 connections whose source has lost its entry or changed its stall are reset. -/
def commitKv1 (n : State) : State :=
  resetWhere n (fun c => decide (c.gen = .kv1) && (match kv1Entry n c.peer with
    | some k => decide (c.stall ≠ some (entryStall n k))
    | none => true))

/-- STALLs_SCHED (R538): each level becomes the lower of its present value and its new BURST. -/
def commitSched (n : State) (x : StallNo) : State :=
  let full := fullLevels n x
  updStall n x (fun d => { d with levels := d.levels.zipIdx.map (fun t => min t.1 (full.getD t.2 0)) })

/-- The grant of a quarter in ARC_GRANT_CHANGED: the stall, or 0xFF for none. -/
def grantNum (x : Option StallNo) : Int := match x with | some x => (x.val : Int) | none => 0xFF

/-- ARC_BANKb (R683): every grant that changes is logged. -/
def commitArc (s n : State) (b : Fin 16) : State :=
  (grantChanges s n b).foldl (fun n t =>
    logEv n .arcGrantChanged { details := [(b.val : Int), (t.1 : Int), grantNum t.2.1, grantNum t.2.2] }) n

/-- The commit of ROW moves the drive to another row or interface (R700). -/
def rowMoves (s n : State) : Bool :=
  decide (cfgField s .rowCfg "ROW_ID" ≠ cfgField n .rowCfg "ROW_ID") || decide (cfgField s .rowCfg "ROW_IF" ≠ cfgField n .rowCfg "ROW_IF")

/-- The effect of a commit, from the present state and the state with the new values. -/
def commitEffect (s n : State) : Group → State
  | .pwrPolicy =>
    let w := cfgWord n .policy
    rebudget (updPower n (fun d => { d with policyCopy := some w }))
  | .bond => commitBond s n
  | .vlan k => commitVlan n k
  | .ifc k => refreshIf n k
  | .time => commitTime s n
  | .kv1Src _ => commitKv1 n
  | .sched x => commitSched n x
  | .arcBank b => commitArc s n b
  | .row => if rowMoves s n then (if rowLive s ∧ running s then beginJoin n else n) else refreshMirror s n
  | .lldpName => n
  | .wakep _ _ => n
  | .quota _ => n
  | .ret _ => n

/-- Work stamped before a configuration sequence is in flight: an operation, a FIND that runs, a speculative frame (R175,
R840). -/
def olderWork (s : State) (n : Nat) : Bool :=
  s.kv.ops.any (fun o => decide (o.2.snap.seq < n))
    || s.kv.tickets.any (fun t => decide (t.2.kind = .find) && decide (t.2.state = .running) && decide (t.2.seq < n))
    || s.media.aheads.any (fun a => decide (a.seq < n))

/-- Earlier value sets of a group that operations in flight still use (R175, R832). -/
def earlierSets (s : State) (g : Group) : List (Group × Nat × List (Attr × Word64)) :=
  s.cfg.earlier.filter (fun e => decide (e.1 = g) && olderWork s e.2.1)

/-- The stall a group belongs to. -/
def groupStall? (g : Group) : Option StallNo := match g with | .quota x => some x | .ret x => some x | .sched x => some x | _ => none

/-- The stall of a group is DRAINING (R516). -/
def groupDrains (g : Group) (s : State) : Bool :=
  match groupStall? g with | some x => decide ((getStall s x).state = .draining) | none => false

/-- Make a group's new words active at one point under the next configuration sequence, and store them (R173 to R176). -/
def activate (s : State) (g : Group) (ws : List (Attr × Word64)) : State :=
  let old := (groupAttrs g).map (fun a => (a, cfgWord s a))
  let moves := decide (g = .row) && rowMoves s (storeWords s ws)
  let n := if moves then (if rowLive s ∧ running s then leaveRow s else updRow s (fun d => { d with mark := 0 })) else s
  let n := storeWords n ws
  let n := updCfg n (fun c => { c with
    sequence := c.sequence + 1, earlier := (g, c.sequence + 1, old) :: earlierSets s g ++ c.earlier.filter (fun e => decide (e.1 ≠ g)) })
  let n := if groupStep g = 10 then stageLog n .config else n
  commitEffect s (dropShadow n g) g

/-- Commit written fields of a group, or the answer that refuses it (R167, R172, R177 to R179, R516, R832). -/
def tryCommit (s : State) (g : Group) (x : SessId) (written : List (Attr × String × Nat)) : Except Reply State :=
  match reachGroup s g with
  | none => .error (.err .islandAbsent)
  | some s =>
    if groupBusy s g x || groupDrains g s then .error .busy
    else
      let ws := (groupAttrs g).map (fun a => (a, pendingWord s written a))
      match commitRule s (storeWords s ws) g with
      | some e => .error (.err e)
      | none => if 4 ≤ (earlierSets s g).length then .error .busy else .ok (activate s g ws)

/-- The role check of a commit of ARC_BANKb: on a management session, of the warden that owns every stall whose grant changes
(R683). -/
def arcRole (s : State) (x : SessId) (b : Fin 16) (written : List (Attr × String × Nat)) : Bool :=
  let n := storeWords s [(.arcBankCfg b, pendingWord s written (.arcBankCfg b))]
  (grantChanges s n b).all (fun t =>
    (match t.2.1 with | some y => stallRole s x y | none => true) && (match t.2.2 with | some y => stallRole s x y | none => true))

end Sys2Proof.Machine
end

