-- ==== Sys2Proof/Machine/CfgRows.lean ====
section
/-!
DEFINITION. The commands of the attribute space: `get`, `set`, `commit`, `discard`, the sets that have a row of their own, `kv` and
`kv1`, `arcade grant`, `config export` and `res show` (ch. 04, 06, 09, 15, 17, 19).
-/

namespace Sys2Proof.Machine

open Sys2Proof

/-! ### get (R253) -/

/-- The fields a `get` names: all, or one. -/
def fieldsOf (a : Attr) (field : Option String) : List FieldDesc :=
  match field with
  | none => attrFields a
  | some n => (attrFields a).filter (fun f => f.name == n)

/-- The line of a `get`. -/
def getLine (s : State) (a : Attr) (field : Option String) : List (String × Val) :=
  ("", .name (attrName a)) :: (wordFields a (attrWord s a)).filter (fun x => (fieldsOf a field).any (fun f => f.name == x.1))

/-- The line of a `get -shadow`. -/
def shadowLine (s : State) (a : Attr) (field : Option String) : List (String × Val) :=
  ("", .name (attrName a)) ::
    match (attrGroup a).bind (shadowOf s), (attrFields a).any isRwc with
    | some h, true =>
      ("holder", .name (sessName h.holder))
        :: ((fieldsOf a field).filter isRwc).map (fun f => (f.name, fieldVal a f (fieldGet f (pendingWord s h.written a))))
        ++ [("written", .name (",".intercalate ((h.written.filter (fun x => decide (x.1 = a))).map (fun x => x.2.1))))]
    | _, _ => [("shadow", .name "none")]

/-- The answer of a `get`. -/
def getReply (s : State) (a : Attr) (field : Option String) (form : GetForm) : Reply :=
  match form with
  | .plain => okLine (getLine s a field)
  | .raw => okLine [("", .name (attrName a)), ("", .word (attrWord s a))]
  | .shadow => okLine (shadowLine s a field)

/-- The failed check of a `get`'s target (R165). -/
def targetErr? (num : Nat) (field : Option String) : Option ErrName :=
  match attrOfNum num with
  | none => some .noSuchAttr
  | some a => if (fieldsOf a field).isEmpty then some .noSuchAttr else none

/-- ATTR_GET (R253, R167). -/
def execAttrGet (l : Line) (num : Nat) (field : Option String) (form : GetForm) (s : State) : Host.Outcome State Fault Refusal :=
  .next (runCmd s l {} (targetErr? num field) (fun s _ =>
    match attrOfNum num with
    | none => .say s (.err .noSuchAttr) none
    | some a =>
      match reach s a with
      | none => .say s (.err .islandAbsent) none
      | some s => .say s (getReply s a field form) none))

/-! ### set (R254) -/

/-- What the command index says of a `set` of an attribute: marks P and S (R499, R848). -/
def setInfo (s : State) (l : Line) (a : Attr) : CmdInfo :=
  { priv := attrPriv a, role := match attrStall? a with | some x => stallRole s l.sess x | none => true }

/-- The attribute belongs to a stall that is DRAINING (R516). -/
def attrDrains (s : State) (a : Attr) : Bool :=
  match attrStall? a with | some x => decide ((getStall s x).state = .draining) | none => false

/-- A `set` that has passed its line and permission checks. -/
def setBody (s : State) (x : SessId) (a : Attr) (ws : List (FieldDesc × Int)) : Run :=
  match reach s a with
  | none => .say s (.err .islandAbsent) none
  | some s =>
    match attrGroup a, ws.any (fun w => isRwc w.1) with
    | some g, true =>
      if groupBusy s g x then .say s .busy none
      else
        .say (writeShadow s g x (ws.map (fun w => (a, w.1.name, fieldBits w.1 w.2))))
          (okLine [("", .name "shadow"), ("", .name (groupName g))]) none
    | _, _ =>
      if attrDrains s a then .say s .busy none
      else
        let r := applyWrite s a ws
        .say r.1 okReply r.2

/-- A `set` line on an attribute; the word a filter entry would take is checked with the forms of its values (R295). -/
def setAttr (s : State) (l : Line) (a : Attr) (asg : Assign) : State :=
  let got := assignments a asg
  let bad : Option ErrName := match got with
    | .error e => some e
    | .ok w => filterErr a (applyFields (attrWord s a) w)
  let ws := match got with | .ok w => w | .error _ => []
  runCmd s l (setInfo s l a) bad (fun s _ => setBody s l.sess a ws)

/-- The assignment of one field. -/
def oneField (name : String) (v : Option Int) : Assign := { fields := [(name, v)] }

/-- ATTR_SET (R254). -/
def execAttrSet (l : Line) (num : Nat) (asg : Assign) (s : State) : Host.Outcome State Fault Refusal :=
  .next (match attrOfNum num with
    | none => runCmd s l {} (some .noSuchAttr) (fun s _ => .say s (.err .noSuchAttr) none)
    | some a => setAttr s l a asg)

/-- BAY_CFG_WRITE (R88, R89). -/
def execBayCfgWrite (l : Line) (asg : Assign) (s : State) : Host.Outcome State Fault Refusal := .next (setAttr s l .bayCfg asg)

/-- TAMPER_CLEAR (R86): a W1C write of SVC.BAY.STATUS. -/
def execTamperClear (l : Line) (asg : Assign) (s : State) : Host.Outcome State Fault Refusal := .next (setAttr s l .bayStatus asg)

/-- POLICY_PREFER_WRITE (R137). -/
def execPolicyPreferWrite (l : Line) (value : Option Int) (s : State) : Host.Outcome State Fault Refusal :=
  .next (setAttr s l .policy (oneField "PREFER" value))

/-- NET_PHY_CFG_WRITE (R873). -/
def execNetPhyCfgWrite (l : Line) (port : PortId) (asg : Assign) (s : State) : Host.Outcome State Fault Refusal :=
  .next (setAttr s l (.phyCfg port) asg)

/-- MAX_FRAME_WRITE (R292). -/
def execMaxFrameWrite (l : Line) (port : PortId) (value : Option Int) (s : State) : Host.Outcome State Fault Refusal :=
  .next (setAttr s l (.macCfg port) (oneField "MAX_FRAME" value))

/-- KV_CFG_WRITE (R373). -/
def execKvCfgWrite (l : Line) (asg : Assign) (s : State) : Host.Outcome State Fault Refusal := .next (setAttr s l .kvCfg asg)

/-- ROUTE_CFG_WRITE (R332). -/
def execRouteCfgWrite (l : Line) (asg : Assign) (s : State) : Host.Outcome State Fault Refusal := .next (setAttr s l .routeCfg asg)

/-- METER_KIND_WRITE (R566). -/
def execMeterKindWrite (l : Line) (stall : StallNo) (value : Option Int) (s : State) : Host.Outcome State Fault Refusal :=
  .next (setAttr s l (.meterCfg stall) (oneField "KIND" value))

/-! ### commit and discard (R170, R172, R847) -/

/-- The failed check of a named group (R847). -/
def groupErr (g : Option Group) : Option ErrName := if g.isNone then some .badValue else none

/-- The role check of a commit (R499, R683). -/
def commitRole (s : State) (x : SessId) : Option Group → Bool
  | some (.arcBank b) => match shadowOf s (.arcBank b) with | some h => arcRole s x b h.written | none => true
  | some g => match groupStall? g with | some y => stallRole s x y | none => true
  | none => true

/-- COMMIT_GROUP (R172 to R179): until the step that restores the group has completed the answer is `busy` (R178, R221); banks 0 to 3 are fixed whether or not a shadow could exist (R682). -/
def execCommitGroup (l : Line) (g : Option Group) (s : State) : Host.Outcome State Fault Refusal :=
  .next (runCmd s l { role := commitRole s l.sess g } (groupErr g) (fun s _ =>
    match g with
    | none => .say s (.err .badValue) none
    | some g =>
      if ! stepDone s (groupStep g) then .say s .busy none
      else match shadowOf s g with
      | none => .say s (.err (match g with | .arcBank b => if b.val < 4 then .fixedBank else .noShadow | _ => .noShadow)) none
      | some h =>
        match tryCommit s g l.sess h.written with
        | .error r => .say s r none
        | .ok s => .say s (okLine [("", .name (groupName g)), ("sequence", vn s.cfg.sequence)]) none))

/-- DISCARD_GROUP (R170): from any session. -/
def execDiscardGroup (l : Line) (g : Option Group) (s : State) : Host.Outcome State Fault Refusal :=
  .next (runCmd s l { priv := match g with | some g => groupPrivileged g | none => false } (groupErr g) (fun s _ =>
    match g with
    | none => .say s (.err .badValue) none
    | some g => if (shadowOf s g).isNone then .say s (.err .noShadow) none else .say (dropShadow s g) okReply none))

/-- A command that writes fields of a group and commits them (R423, R683): a refused commit leaves the shadow as it was. -/
def writeAndCommit (s : State) (x : SessId) (g : Group) (more : List (Attr × String × Nat)) (line : List (String × Val)) : Run :=
  let old := match shadowOf s g with | some h => h.written | none => []
  match tryCommit s g x (addWritten old more) with
  | .error r => .say s r none
  | .ok s => .say s (okLine line) none

/-! ### kv and kv1 (R372, R373, R405, R419, R422, R423) -/

/-- A generation by name. -/
def genName : Gen → String | .kv1 => "KV1" | .kv2 => "KV2" | .kv3 => "KV3"

/-- The answer of KV_SHOW (R372). -/
def kvShowAnswer (s : State) : Reply :=
  let gens : List Gen := [.kv1, .kv2, .kv3]
  .ok (wordFields .kvCfg (cfgWord s .kvCfg)
    :: (allIfs.filter (ifExists s)).map (fun k => ("if", vn k.val) :: gens.map (fun g => (genName g, vb (listens s g k))))
    ++ gens.map (fun g => [("gen", .name (genName g)),
        ("connections", vn ((liveConns s).filter (fun c => decide (c.2.gen = g))).length)])
    ++ ((List.finRange 128).filter (fun x => decide (boundTo s x ≠ 0))).map (fun x =>
        [("stall", vn x.val), ("connections", vn (boundTo s x))]))

/-- KV_SHOW (R372): generations, listeners per interface, connections per generation and per stall. -/
def execKvShow (l : Line) (s : State) : Host.Outcome State Fault Refusal :=
  .next (showCmd s l {} none kvShowAnswer)

/-- The answer of KV_STATS (R422). -/
def kvStatsAnswer (s : State) : Reply :=
  okLine (protoCtrs.map (fun c => (protoName c, vn (AMap.getD s.proto.stats c 0))))

/-- KV_STATS (R422). -/
def execKvStats (l : Line) (s : State) : Host.Outcome State Fault Refusal :=
  .next (showCmd s l {} none kvStatsAnswer)

/-- One connection as `kv conns` reports it. -/
def connLine (c : Nat × Conn) : List (String × Val) :=
  [("conn", vn c.1), ("gen", .name (genName c.2.gen)), ("peer", addrVal c.2.peer),
    ("stall", match c.2.stall with | some x => vn x.val | none => .name "-"), ("generation", vn c.2.generation),
    ("channels", vn c.2.chans.length), ("client_tag", vn c.2.clientTag), ("tls", vb c.2.tls)]

/-- The answer of KV_CONNS (R405). -/
def kvConnsAnswer (stall : Option Int) (s : State) : Reply :=
  let cs := (liveConns s).filter (fun c => match stall with | some n => decide (c.2.stall = some (stallArg n)) | none => true)
  .ok ([("connections", vn cs.length)] :: cs.map connLine)

/-- KV_CONNS (R405). -/
def execKvConns (l : Line) (stall : Option Int) (s : State) : Host.Outcome State Fault Refusal :=
  .next (showCmd s l {} (stall.bind stallErr) (kvConnsAnswer stall))

/-- KV1_ENABLE (R372). -/
def execKv1Enable (l : Line) (s : State) : Host.Outcome State Fault Refusal :=
  .next (runCmd s l { priv := true } none (fun s _ => setBody s l.sess .kvCfg [(rw_ "KV1_EN" 0 0 [] 0, 1)]))

/-- KV1_DISABLE (R373); no presence is needed. -/
def execKv1Disable (l : Line) (s : State) : Host.Outcome State Fault Refusal :=
  .next (runCmd s l {} none (fun s _ => setBody s l.sess .kvCfg [(rw_ "KV1_EN" 0 0 [] 0, 0)]))

/-- The fields of a source entry. -/
def srcFields (k : Fin 64) (a enable stall : Nat) : List (Attr × String × Nat) :=
  [(.kv1SrcHi k, "VALUE", a / 2 ^ 64), (.kv1SrcLo k, "VALUE", a % 2 ^ 64), (.kv1SrcCtrl k, "ENABLE", enable),
    (.kv1SrcCtrl k, "STALL", stall)]

/-- KV1_ALLOW (R419, R423): the lowest free source entry. -/
def execKv1Allow (l : Line) (addr : IpAddr) (stall : Int) (s : State) : Host.Outcome State Fault Refusal :=
  .next (runCmd s l { priv := true } (stallErr stall) (fun s _ =>
    match (List.finRange 64).find? (fun k => decide (cfgField s (.kv1SrcCtrl k) "ENABLE" = 0)) with
    | none => .say s (.err .listFull) none
    | some k => writeAndCommit s l.sess (.kv1Src k) (srcFields k addr.toNat 1 (stallArg stall).val) [("entry", vn k.val)]))

/-- KV1_DENY (R419, R423): the entry that holds the address is cleared; an address no entry holds is BAD_VALUE. -/
def execKv1Deny (l : Line) (addr : IpAddr) (s : State) : Host.Outcome State Fault Refusal :=
  .next (runCmd s l { priv := true } (if (kv1Entry s addr).isNone then some .badValue else none) (fun s _ =>
    match kv1Entry s addr with
    | none => .say s (.err .badValue) none
    | some k => writeAndCommit s l.sess (.kv1Src k) (srcFields k 0 0 0) [("entry", vn k.val)]))

/-- The answer of KV1_SHOW (R419). -/
def kv1ShowAnswer (s : State) : Reply :=
  let ks := (List.finRange 64).filter (fun k => decide (cfgField s (.kv1SrcCtrl k) "ENABLE" = 1))
  .ok ([("entries", vn ks.length)] :: ks.map (fun k =>
    [("entry", vn k.val), ("addr", addrVal (BitVec.ofNat 128 (pairAddr s (.kv1SrcHi k) (.kv1SrcLo k)))), ("stall", vn (cfgField s (.kv1SrcCtrl k) "STALL"))]))

/-- KV1_SHOW (R419): the enabled source entries. -/
def execKv1Show (l : Line) (s : State) : Host.Outcome State Fault Refusal :=
  .next (showCmd s l {} none kv1ShowAnswer)

/-! ### arcade grant (R682, R683) -/

/-- The field of a quarter. -/
def quarterName (q : Nat) : String := match q with | 0 => "Q0" | 1 => "Q1" | 2 => "Q2" | _ => "Q3"

/-- The value of a quarter's field. -/
def quarterValue (stall : Option Int) : Nat := match stall with | some n => 128 + (stallArg n).val | none => 0

/-- What `arcade grant` writes. -/
def grantFields (bank quarter : Int) (stall : Option Int) : Fin 16 × List (Attr × String × Nat) :=
  let b : Fin 16 := Fin.ofNat 16 bank.toNat
  (b, [(.arcBankCfg b, quarterName quarter.toNat, quarterValue stall)])

/-- ARCADE_GRANT (R170, R682, R683). -/
def execArcadeGrant (l : Line) (bank quarter : Int) (stall : Option Int) (s : State) : Host.Outcome State Fault Refusal :=
  let (b, fs) := grantFields bank quarter stall
  .next (runCmd s l { role := arcRole s l.sess b fs } (firstErr [rangeErr bank 4 15, rangeErr quarter 0 3, stall.bind stallErr])
    (fun s _ => writeAndCommit s l.sess (.arcBank b) fs []))

/-! ### config export (R773, R849) -/

/-- The `set` line of some fields of an attribute, if there are any. -/
def setLine (s : State) (a : Attr) (f : FieldDesc → Bool) : List (List (String × Val)) :=
  let fs := (attrFields a).filter f
  if fs.isEmpty then []
  else [("", .name "set") :: fs.map (fun d => (attrName a ++ "." ++ d.name, fieldVal a d (fieldGet d (cfgWord s a))))]

/-- The lines of one attribute in ascending order: its RW fields at once; its group, as a whole, at the group's first attribute. -/
def exportLines (s : State) (a : Attr) : List (List (String × Val)) :=
  setLine s a (fun f => decide (f.acc = .rw))
    ++ (match attrGroup a with
      | some g =>
        if (groupAttrs g).head? = some a then
          (groupAttrs g).flatMap (fun b => setLine s b isRwc) ++ [[("", .name "commit"), ("group", .name (groupName g))]]
        else []
      | none => [])

/-- The lines of a stall: its creation, then its fields. -/
def exportStall (s : State) (x : StallNo) : List (List (String × Val)) :=
  [("", .name "stall create"), ("stall", vn x.val), ("host", vn (getStall s x).host)]
    :: (stallExportAttrs x).flatMap (exportLines s)

/-- The answer of CONFIG_EXPORT (R773, R849). -/
def configExportAnswer (s : State) : Reply :=
  let body := exportAttrs.flatMap (exportLines s)
    ++ ((List.finRange 128).filter (fun x => decide ((getStall s x).state ≠ .free))).flatMap (exportStall s)
  .ok ([] :: [("", .name "; caledex-config"), ("serial", vn Config.serial), ("fw", .name (toString (mainVersion s))),
      ("seq", vn s.cfg.sequence)] :: body
    ++ [[("", .name "; end"), ("lines", vn body.length)]])

/-- CONFIG_EXPORT (R773, R849). -/
def execConfigExport (l : Line) (s : State) : Host.Outcome State Fault Refusal :=
  .next (showCmd s l {} none configExportAnswer)

/-! ### res show (R827) -/

/-- Bytes of responses that wait for the wire. -/
def responseStaged (s : State) : Nat :=
  listSum (s.proto.conns.map (fun c => c.2.txBytes + listSum (c.2.txWait.map (fun r => sendLen c.2.gen r.1))))

/-- The answer of RES_SHOW. -/
def resShowAnswer (s : State) : Reply :=
  okLine
    [("live", vn (liveBytes s)), ("live_max", vn (liveMax s)), ("free_bands", vn (freeBands s)), ("gc", vn (gcCode s.upkeep.gc)),
      ("dirty", vn (dirtyBytes s)), ("cap", vn (cap s)), ("log_staging", vn (stagedBytes s)), ("staging", vn (payloadStaged s)),
      ("response_space", vn (responseStaged s)), ("arc_queue", vn s.arc.queue.length), ("in_flight", vn (inFlight s)),
      ("dispatch_limit", vn (dispatchLimit s))]

/-- RES_SHOW (ch. 19). -/
def execResShow (l : Line) (s : State) : Host.Outcome State Fault Refusal :=
  .next (showCmd s l {} none resShowAnswer)

end Sys2Proof.Machine
end

