-- ==== Sys2Proof/Machine/Proto.lean ====
section
/-!
DEFINITION. The commands of the wire protocol (ch. 09): connections, TLS, HELLO, AUTH, channels, alignment, heartbeats.
-/

namespace Sys2Proof.Machine

open Sys2Proof

/-- DATA_CONNECT (R372, R391, R400). -/
def execDataConnect (gen : Gen) (port : PortId) (ifc : IfNo) (peer localAddr : IpAddr) (firstByte : Byte) (s : State) :
    Host.Outcome State Fault Refusal :=
  .next (
    if gen = .kv1 ∨ ! listens s gen ifc then s
    else if lockedOut s peer then resetNew s (newConn s gen port ifc peer localAddr .hello)
    else if gen = .kv3 ∨ firstByte = 0x16 then addConn s { newConn s gen port ifc peer localAddr .tls with tls := true }
    else if firstByte = 0xC5 then addConn s (newConn s gen port ifc peer localAddr .hello)
    else sendClose (updProto s (fun d => { d with nextConn := d.nextConn + 1 })) s.proto.nextConn
      (newConn s gen port ifc peer localAddr .hello))

/-- KV1_CONNECT (R390, R400, R405, R420, R421). -/
def execKv1Connect (port : PortId) (ifc : IfNo) (peer localAddr : IpAddr) (s : State) :
    Host.Outcome State Fault Refusal :=
  .next (
    let c := newConn s .kv1 port ifc peer localAddr .open_
    if ! listens s .kv1 ifc then s
    else if lockedOut s peer then resetNew s c
    else match kv1Entry s peer with
    | none => refuseKv1 s c
    | some k =>
      let x := entryStall s k
      match (getStall s x).state with
      | .active | .draining =>
        if ! vlanPermits s ifc x then refuseKv1 s c
        else if 1024 ≤ (liveConns s).length ∨ 32 ≤ boundTo s x then resetNew s c
        else noteSession (addConn s { c with
          stall := some x, generation := (getStall s x).generation, chans := [{ no := 0, maxOut := 16 }] })
      | _ => refuseKv1 s c)

/-- A KV3 client's credential is accepted (R403, R505). -/
def tlsAccepted (s : State) (r : TlsAuth) : Bool :=
  match r with
  | .none_ => false
  | .psk x k proved =>
    if h : k < 8 then
      proved && (match AMap.find (getStall s x).creds ⟨k, h⟩ with | some (.secret _) => true | _ => false)
    else false
  | .cert fp dates =>
    (dates || ! s.clock.everSet) && s.stalls.tab.any (fun d => d.2.creds.any (fun c => decide (c.2 = .cert fp)))
  | .ticket _ => false

/-- The identity a ticket stands for, while it is valid and of the generation (R401). -/
def ticketAuth (s : State) (g : Gen) (a : TlsAuth) : Option TlsAuth :=
  match a with
  | .ticket n =>
    match AMap.find s.proto.tickets n with
    | some (h, b, t) => if h = g ∧ now s < t then some b else none
    | none => none
  | _ => none

/-- 24 h. -/
def ticketLife : Nat := 24 * hour

/-- The connection's one NewSessionTicket goes out, valid for 24 h (R401). -/
def issueTicket (s : State) (i : Nat) (g : Gen) (a : TlsAuth) : State :=
  let n := s.proto.nextTicket
  let t := s.clock.ledger
  let s := updProto s (fun d => { d with
    tickets := (n, g, a, t + ticketLife) :: d.tickets.filter (fun x => decide (t < x.2.2.2)), nextTicket := n + 1 })
  release (updConn s i (fun c => { c with txWait := c.txWait ++ [(.ticket n, 0)] })) i

/-- TLS_HANDSHAKE (R401 to R403): a ticket of the drive's resumes the identity it was issued for. -/
def execTlsHandshake (conn : Nat) (r : TlsResult) (s : State) : Host.Outcome State Fault Refusal :=
  .next (match getConn s conn with
    | none => s
    | some c =>
      if c.stage ≠ .tls then s
      else if ! r.ok || ! r.alpnOk || (tlsAgreed r.client).isNone then closeConn (sendAlert s conn) conn
      else if c.gen = .kv3 ∧ ! ((ticketAuth s c.gen r.auth).isSome || tlsAccepted s r.auth) then
        let x : Option Nat := match r.auth with | .psk x _ _ => some x.val | _ => none
        closeConn (authFail (sendAlert s conn) c.peer x .kv3) conn
      else
        let a := if c.gen = .kv3 then (ticketAuth s c.gen r.auth).getD r.auth else .none_
        issueTicket (updConn s conn (fun c => { c with stage := .hello, stageAt := s.clock.ledger, tlsAuth := a })) conn c.gen a)

/-- TLS_RECORD_FAIL (R404). -/
def execTlsRecordFail (conn : Nat) (s : State) : Host.Outcome State Fault Refusal :=
  .next (match getConn s conn with
    | none => s
    | some c => if c.tls ∧ c.stage ≠ .closed then closeConn (sendAlert s conn) conn else s)

/-- When a time limit of a connection runs out, if it runs (ch. 09, Connection timing). -/
def limitEnd (c : Conn) (l : ConnLimit) : Option Nat :=
  match l, c.stage with
  | .tls, .tls => some (c.stageAt + 10 * sec)
  | .hello, .hello => some (c.stageAt + 5 * sec)
  | .auth, .auth => some (c.stageAt + 5 * sec)
  | .idle, .open_ => some (c.lastRx + 300 * sec)
  | _, _ => none

/-- CONNECTION_TIMEOUT (R389). -/
def execConnectionTimeout (conn : Nat) (limit : ConnLimit) (s : State) : Host.Outcome State Fault Refusal :=
  .next (match (getConn s conn).bind (fun c => limitEnd c limit) with
    | none => s
    | some t => closeConn (countP (advanceTo s t) .timeoutClose 1) conn)

/-- CONNECTION_CLOSE (R407). -/
def execConnectionClose (conn : Nat) (s : State) : Host.Outcome State Fault Refusal := .next (peerGone s conn)

/-- HELLO (R392). -/
def execHello (conn : Nat) (f : Frame) (s : State) : Host.Outcome State Fault Refusal := .next (frameRow s 3 0 conn f)

/-- AUTH (R398). -/
def execAuth (conn : Nat) (f : Frame) (s : State) : Host.Outcome State Fault Refusal := .next (frameRow s 5 1 conn f)

/-- AUTH_DENY_DELAY (R399, R400). -/
def execAuthDenyDelay (conn : Nat) (s : State) : Host.Outcome State Fault Refusal :=
  .next (match getConn s conn with
    | none => s
    | some c =>
      if c.stage ≠ .authDenied then s
      else
        let s := advanceTo s (c.stageAt + sec)
        let s := sendFrame s conn { kind := 5, opcode := 2, reqId := c.denied, stall := c.stall.getD 0
                                    generation := c.generation, status := .denied, reason := 0x0201 }
        closeConn (authFail s c.peer (c.stall.map (fun x => x.val)) .kv2) conn)

/-- AUTH_LOCKOUT_EXPIRY (R400). -/
def execAuthLockoutExpiry (addr : IpAddr) (s : State) : Host.Outcome State Fault Refusal :=
  .next (match (AMap.getD s.proto.fails addr {}).until_ with
    | none => s
    | some t => updProto (advanceTo s t) (fun d => { d with fails := AMap.del d.fails addr }))

/-- CHANNEL_OPEN (R408). -/
def execChannelOpen (conn : Nat) (f : Frame) (s : State) : Host.Outcome State Fault Refusal := .next (frameRow s 7 1 conn f)

/-- CHANNEL_CLOSE (R409). -/
def execChannelClose (conn : Nat) (f : Frame) (s : State) : Host.Outcome State Fault Refusal := .next (frameRow s 7 2 conn f)

/-- FRAME_LOST_ALIGNMENT (R387, R416): the bytes received from the first byte of the failed frame on. -/
def execFrameLostAlignment (conn : Nat) (bytes : List Byte) (s : State) : Host.Outcome State Fault Refusal :=
  .next (match getConn s conn with
    | none => s
    | some c =>
      match c.stage with
      | .hello | .auth | .open_ =>
        if misaligned c.gen bytes then
          let s := loseAlignment (updConn s conn (fun c => { c with lastRx := s.clock.ledger })) conn bytes
          settle (scanN (bytes.length + 1) s conn)
        else s
      | _ => s)

/-- RESYNC_DATA (R416 to R418). -/
def execResyncData (conn : Nat) (bytes : List Byte) (s : State) : Host.Outcome State Fault Refusal :=
  .next (match getConn s conn with
    | none => s
    | some c =>
      if c.stage ≠ .resync then s
      else
        let s := updConn s conn (fun c => { c with scan := c.scan ++ bytes })
        settle (scanN (c.scan.length + bytes.length + 1) s conn))

/-- RESYNC_TIMEOUT (R418). -/
def execResyncTimeout (conn : Nat) (s : State) : Host.Outcome State Fault Refusal :=
  .next (match getConn s conn with
    | none => s
    | some c => if c.stage ≠ .resync then s else scanFails (advanceTo s (c.resyncAt + 10 * sec)) conn)

/-- The state code a KV1 heartbeat datagram is answered with; none when it is dropped (R413, R421). -/
def kv1Beat (s : State) (peer : IpAddr) (d : List Byte) : Option Nat :=
  if d.length ≠ 40 then none
  else match frameOf1 d, kv1Entry s peer with
  | some (f, _), some k =>
    if f.pcrcOk ∧ f.kind = 1 ∧ f.opcode = 0x13 ∧ f.dataLen = 0 ∧ ! flagsReserved .kv1 f.flags ∧ f.status = 0 ∧ f.reqId ≠ 0
    then match (getStall s (entryStall s k)).state with
      | .active | .draining => some (hbCode s)
      | _ => none
    else none
  | _, _ => none

/-- KV1_HEARTBEAT (R412, R413, R415, R421). -/
def execKv1Heartbeat (_port : PortId) (ifc : IfNo) (e : Ends) (datagram : List Byte) (s : State) :
    Host.Outcome State Fault Refusal :=
  .next (
    if ! listens s .kv1 ifc ∨ halting s then s
    else match kv1Beat s e.src datagram with
    | none => countP s .hbDropped 1
    | some code => sendIp s ifc 7 (.kv1Heartbeat e code) 22)

/-- HEARTBEAT (R412). -/
def execHeartbeat (conn : Nat) (f : Frame) (s : State) : Host.Outcome State Fault Refusal := .next (frameRow s 1 0x13 conn f)

/-- ZERO_WINDOW_TIMEOUT (R821). -/
def execZeroWindowTimeout (conn : Nat) (s : State) : Host.Outcome State Fault Refusal :=
  .next (match getConn s conn with
    | none => s
    | some _ => countP (resetConn s conn) .timeoutClose 1)

end Sys2Proof.Machine
end

