-- ==== Sys2Proof/Machine/Stalls.lean ====
section
/-!
DEFINITION. The commands of the stalls, of the relocation and of the mailbox on the warden's side (ch. 11).
-/

namespace Sys2Proof.Machine

open Sys2Proof

/-- What the command index says of a command that changes a stall (mark S). -/
def changesStall (s : State) (l : Line) (n : Int) : CmdInfo := { role := stallRole s l.sess (stallArg n) }

/-- What the command index says of a privileged command that changes a stall (marks P and S). -/
def changesStallP (s : State) (l : Line) (n : Int) : CmdInfo := { priv := true, role := stallRole s l.sess (stallArg n) }

/-- One stall as `stall show` reports it. -/
def stallLine (s : State) (x : StallNo) : List (String × Val) :=
  let d := getStall s x
  let code : Nat := match d.state with
    | .free => 0 | .active => 1 | .draining => 2 | .freezing => 3 | .frozen => 4 | .removing => 5
  [("stall", vn x.val), ("state", vn code), ("generation", vn d.generation),
    ("owner", match d.owner with | some w => vn w.val | none => .name "none"), ("relocating", vb d.reloc.isSome),
    ("host", vn d.host), ("quota_bytes", .word (cfgWord s (.quotaBytes x))), ("quota_hold", .word (cfgWord s (.quotaHold x))),
    ("quota_objects", .word (cfgWord s (.quotaObjects x))), ("quota_tags", .word (cfgWord s (.quotaTags x))),
    ("use_bytes", vn (useBytes s x)), ("use_hold", vn (useHold s x)), ("use_objects", vn (useObjects s x)),
    ("use_tags", vn (useEntries s x)), ("ops", .word (cfgWord s (.schedOps x))), ("rd", .word (cfgWord s (.schedRd x))),
    ("wr", .word (cfgWord s (.schedWr x))), ("bf", .word (cfgWord s (.schedBf x))),
    ("level_ops", .num (levelOf d 0 / 1000000)), ("level_rd", .num (levelOf d 1 / 1000000)),
    ("level_wr", .num (levelOf d 2 / 1000000)), ("level_bf", .num (levelOf d 3 / 1000000)),
    ("weight", vn (cfgField s (.schedWeight x) "WEIGHT")), ("late_discard", vn d.lateDiscard), ("aborted", vn d.aborted)]

/-- The answer of STALL_SHOW (R511). -/
def stallShowAnswer (stall : Option Int) (s : State) : Reply :=
  let sum := listSum ((List.finRange 128).map (fun x => cfgField s (.quotaBytes x) "LIMIT"))
  .ok ([("quota_sum", vn sum), ("user_capacity", vn (userCapacity s))]
    :: (match stall with | some n => [stallArg n] | none => List.finRange 128).map (stallLine s))

/-- STALL_SHOW (R511). -/
def execStallShow (l : Line) (stall : Option Int) (s : State) : Host.Outcome State Fault Refusal :=
  .next (showCmd s l {} (stall.bind stallErr) (stallShowAnswer stall))

/-- STALL_CREATE (R500, R502). -/
def execStallCreate (l : Line) (stall : Int) (host : Option Nat) (s : State) : Host.Outcome State Fault Refusal :=
  .next (runCmd s l {} (stallErr stall) (fun s _ =>
    let x := stallArg stall
    let d := getStall s x
    match d.state with
    | .removing | .draining => .say s .busy none
    | .free =>
      if d.reloc.isSome then errRun s .relocating
      else
        let s := createStall s x (host.getD 0) (if isMgmt l.sess then sessWarden s l.sess else none)
        .say s (okLine [("generation", vn (getStall s x).generation)]) none
    | _ => errRun s .stallState))

/-- A generation change asked for on the console (R513, R537). -/
def changeCmd (s : State) (l : Line) (stall : Int) (k : DrainKind) (host : Option Nat) : State :=
  runCmd s l (changesStall s l stall) (stallErr stall) (fun s n =>
    let x := stallArg stall
    whileDrained s x (fun s =>
      if relocates s x then errRun s .relocating
      else if (getStall s x).state = .active then .wait (startDrain s x k host (some (l.sess, n)))
      else errRun s .stallState))

/-- STALL_RESET (R513, R514). -/
def execStallReset (l : Line) (stall : Int) (s : State) : Host.Outcome State Fault Refusal :=
  .next (changeCmd s l stall .reset none)

/-- STALL_REBIND (R513, R514). -/
def execStallRebind (l : Line) (stall : Int) (host : Nat) (s : State) : Host.Outcome State Fault Refusal :=
  .next (changeCmd s l stall .rebind (some host))

/-- DRAIN_END (R514). -/
def execDrainEnd (stall : StallNo) (s : State) : Host.Outcome State Fault Refusal := .next (endDrain s stall)

/-- STALL_REMOVE (R517, R518). -/
def execStallRemove (l : Line) (stall : Int) (force : Bool) (s : State) : Host.Outcome State Fault Refusal :=
  .next (runCmd s l { changesStall s l stall with priv := force } (stallErr stall) (fun s n =>
    let x := stallArg stall
    whileDrained s x (fun s =>
      if (getStall s x).state ≠ .active ∧ (getStall s x).state ≠ .frozen then errRun s .stallState
      else if ! force && (stallObjs s x).any (fun o => o.2.held) then errRun s .held
      else
        let s := if relocates s x then relocFails (sendFail s x .cancelled) x .cancelled else s
        .wait (startDrain s x .remove none (some (l.sess, n))))))

/-- STALL_REMOVAL_DONE (R518). -/
def execStallRemovalDone (stall : StallNo) (s : State) : Host.Outcome State Fault Refusal := .next (freeStall s stall)

/-- STALL_FREEZE (R527). -/
def execStallFreeze (l : Line) (stall : Int) (s : State) : Host.Outcome State Fault Refusal :=
  .next (runCmd s l (changesStall s l stall) (stallErr stall) (fun s n =>
    let x := stallArg stall
    whileDrained s x (fun s =>
      if relocates s x then errRun s .relocating
      else if (getStall s x).state = .active then .wait (startFreeze s x (some (l.sess, n)))
      else errRun s .stallState)))

/-- FREEZE_DRAIN_END (R527). -/
def execFreezeDrainEnd (stall : StallNo) (s : State) : Host.Outcome State Fault Refusal := .next (endFreeze s stall)

/-- The answer of STALL_BLOB_READ (R528). -/
def stallBlobReadAnswer (stall : Int) (off : Int) (len : Int) (s : State) : Reply :=
  let d := getStall s (stallArg stall)
  match d.state, d.blob with
  | .frozen, some b => .ok (hexLines 33 ((b.bytes.drop off.toNat).take len.toNat))
  | _, _ => .err .stallState

/-- STALL_BLOB_READ (R528). -/
def execStallBlobRead (l : Line) (stall off len : Int) (s : State) : Host.Outcome State Fault Refusal :=
  .next (showCmd s l {} (firstErr [stallErr stall, rangeErr off 0 65535, rangeErr len 1 1024]) (stallBlobReadAnswer stall off len))

/-- STALL_BLOB_LOAD (R530). -/
def execStallBlobLoad (l : Line) (stall off : Int) (hex : List Byte) (s : State) : Host.Outcome State Fault Refusal :=
  .next (runCmd s l (changesStall s l stall)
    (firstErr [stallErr stall, rangeErr off 0 65535, if hex.length = 0 ∨ 64 < hex.length then some .badValue else none])
    (fun s _ =>
      let x := stallArg stall
      whileDrained s x (fun s =>
        .say (updStall s x (fun d => { d with
          loadBuf := hex.zipIdx.foldl (fun m b => AMap.set m (off.toNat + b.2) b.1) d.loadBuf })) okReply none)))

/-- Bytes of a load buffer; one never written is 0. -/
def bufBytes (m : AMap Nat Byte) (off n : Nat) : List Byte := (List.range n).map (fun i => AMap.getD m (off + i) 0)

/-- The signed blob that a load buffer holds, if it holds one (R530 check 1): as many bytes as BODY_LEN says. SIGNATURE verifies
for what the drive has signed and for nothing else (log 33), and what it has signed carries FORMAT, MAGIC, SERIAL, GCM_TAG and
section types as they must be. -/
def loadedBlob (s : State) (x : StallNo) : Option (StallNo × Blob) :=
  let m := (getStall s x).loadBuf
  let n := 184 + leNat (bufBytes m 48 4)
  if 65536 < n then none
  else
    let bs := bufBytes m 0 n
    s.stalls.issued.find? (fun b => decide (bs = b.2.bytes))

/-- The effect of a thaw (R531). -/
def thawStall (s : State) (x : StallNo) (b : Blob) (host : Nat) : State :=
  let full := fullLevels s x
  let s := updStall s x (fun d => { d with
    levels := (b.levels.zip full).map (fun l => min (l.1 * 1000000) l.2), deficit := b.levels.getD 4 0
    toWarden := b.toWarden, toTenant := b.toTenant, resumption := b.resumption, host := host, blob := none, loadBuf := []
    state := .active })
  let s := storeStall (changeGen s x) x
  logEv s .stallThawed { stall := some x.val, details := [((getStall s x).generation : Int)] }

/-- STALL_THAW (R530, R531). -/
def execStallThaw (l : Line) (stall : Int) (host : Nat) (s : State) : Host.Outcome State Fault Refusal :=
  .next (runCmd s l (changesStall s l stall) (stallErr stall) (fun s _ =>
    let x := stallArg stall
    whileDrained s x (fun s =>
      let d := getStall s x
      match loadedBlob s x with
      | none => errRun s .blobInvalid
      | some (y, b) =>
        if y ≠ x ∨ d.lastFreeze ≠ some (b.generation, b.freezeSeq) ∨ b.config ≠ stallConfig s x then errRun s .blobMismatch
        else if d.state ≠ .frozen then errRun s .stallState
        else
          let s := thawStall s x b host
          .say s (okLine [("generation", vn (getStall s x).generation)]) none)))

/-- STALL_RELOCATE (R532). -/
def execStallRelocate (l : Line) (stall : Int) (to_ : Nat) (dest : Int) (rate : Option Int) (accepted : Bool) (s : State) :
    Host.Outcome State Fault Refusal :=
  .next (runCmd s l (changesStall s l stall) (firstErr [stallErr stall, stallErr dest, rangeErr (rate.getD 100) 1 1000])
    (fun s _ =>
      let x := stallArg stall
      whileDrained s x (fun s =>
        if relocates s x then errRun s .relocating
        else if (getStall s x).state = .active ∧ isMember s to_ ∧ to_ ≠ Config.serial ∧ accepted then
          let s := rowSend s to_ (.reloc (.offer Config.serial x (stallArg dest)))
          let ks := (stallObjs s x).map (fun o => o.1)
          .say (updStall s x (fun d => { d with
            reloc := some { peer := to_, peerStall := stallArg dest, source := true, rate := (rate.getD 100).toNat, toCopy := ks } }))
            okReply none
        else errRun s .relocateRefused)))

/-- RELOCATE_COPY (R532, R533): the next object of the copy phase, or a tracked change, goes to the target, no earlier than the
rate lets it. -/
def execRelocateCopy (stall : StallNo) (s : State) : Host.Outcome State Fault Refusal :=
  .next (match (getStall s stall).reloc with
    | none => s
    | some r =>
      if r.source ∧ ! r.cutover then
        match r.toCopy ++ r.changed with
        | k :: _ =>
          let s := advanceTo s r.nextAt
          let t := s.clock.ledger + ceilDiv (copyBytes s k) (Nat.max 1 r.rate)
          sendKey stall (updReloc s stall (fun r => { r with nextAt := t })) k
        | [] => s
      else s)

/-- RELOCATE_CUTOVER (R534, R546): every object is accepted and at most 256 MiB of changes are unsent. -/
def execRelocateCutover (stall : StallNo) (s : State) : Host.Outcome State Fault Refusal :=
  .next (match (getStall s stall).reloc with
    | none => s
    | some r =>
      if r.source ∧ ! r.cutover ∧ (getStall s stall).state = .active ∧ r.toCopy = [] ∧ r.sent = []
          ∧ changedBytes s r ≤ 268435456 then
        startFreeze (updReloc s stall (fun r => { r with cutover := true })) stall none
      else s)

/-- Who sent a relocation message, and the stall of this drive it concerns. -/
def relocFrom : RelocMsg → Nat × StallNo
  | .offer p _ d => (p, d)
  | .obj p d _ => (p, d)
  | .removed p d _ => (p, d)
  | .cutover p d _ => (p, d)
  | .objAck p x _ _ _ => (p, x)
  | .confirm p x => (p, x)
  | .fail p x _ => (p, x)

/-- RELOCATE_MESSAGE (R533, R534, R715, R717): acted on once, from a member of the view or the drive of a relocation. -/
def execRelocateMessage (h : RowHdr) (m : RelocMsg) (s : State) : Host.Outcome State Fault Refusal :=
  .next (takeRow s h (fun s =>
    let (p, x) := relocFrom m
    let partner : Bool := match (getStall s x).reloc with | some r => decide (r.peer = p) | none => false
    (match m with
      | .offer p y d => takeOffer s p y d
      | .obj p d o => takeObj s p d o
      | .removed p d k => takeRemoved s p d k
      | .cutover p d st => takeCutover s p d st
      | .objAck p x k st why => takeAck s p x k st why
      | .confirm p x => if (relocWith s x p true).isSome then sourceDone s x else s
      | .fail _ x why => if partner then relocFails s x why else s, .ok)))

/-- RELOCATE_DONE (R534): the target has confirmed. -/
def execRelocateDone (stall : StallNo) (s : State) : Host.Outcome State Fault Refusal := .next (sourceDone s stall)

/-- RELOCATE_FAILED (R536, R544): a cause on this side; a confirmation is missing 10 s after step 2 of cutover. -/
def execRelocateFailed (stall : StallNo) (cause : RelocFail) (s : State) : Host.Outcome State Fault Refusal :=
  .next (match (getStall s stall).reloc with
    | none => s
    | some r =>
      match cause, r.step2At with
      | .noConfirm, none => s
      | .noConfirm, some t => relocFails (sendFail (advanceTo s (t + 10 * sec)) stall cause) stall cause
      | _, _ => relocFails (sendFail s stall cause) stall cause)

/-- STALL_RELOCATE_CANCEL (R536): before cutover. -/
def execStallRelocateCancel (l : Line) (stall : Int) (s : State) : Host.Outcome State Fault Refusal :=
  .next (runCmd s l (changesStall s l stall) (stallErr stall) (fun s _ =>
    let x := stallArg stall
    whileDrained s x (fun s =>
      match (getStall s x).reloc with
      | some r =>
        if r.source ∧ ! r.cutover then .say (relocFails (sendFail s x .cancelled) x .cancelled) okReply none
        else errRun s .stallState
      | none => errRun s .stallState)))

/-- STALL_ADOPT (R500). -/
def execStallAdopt (l : Line) (stall : Int) (warden : Option Int) (s : State) : Host.Outcome State Fault Refusal :=
  .next (runCmd s l (changesStallP s l stall) (firstErr [stallErr stall, warden.bind (fun w => rangeErr w 0 3)]) (fun s _ =>
    let x := stallArg stall
    whileDrained s x (fun s =>
      .say (storeStall (updStall s x (fun d => { d with owner := warden.map (fun w => Fin.ofNat 4 w.toNat) })) x)
        okReply none)))

/-- STALL_KEY_EXPORT (R504): the data key wrapped under the given key; a stall without a key has none to give. -/
def execStallKeyExport (l : Line) (stall : Int) (kek : List Byte) (s : State) : Host.Outcome State Fault Refusal :=
  .next (runCmd s l (changesStallP s l stall) (stallErr stall) (fun s _ =>
    let x := stallArg stall
    match (getStall s x).dataKey with
    | none => errRun s .stallState
    | some k => .say (logEv s .stallKeyExported { stall := some x.val }) (okLine [("key", .bytes (Config.keyWrap kek k))]) none))

/-- One slot as `stall cred show` reports it. -/
def credLine (k : Fin 8) (c : Option Cred) : List (String × Val) :=
  let kind : Val := .name (match c with | none => "EMPTY" | some (.secret _) => "SECRET" | some (.cert _) => "CERT")
  match c with
  | some (.cert fp) => [("slot", vn k.val), ("kind", kind), ("first", .bytes (fp.take 2)), ("last", .bytes (fp.drop (fp.length - 2)))]
  | _ => [("slot", vn k.val), ("kind", kind)]

/-- The answer of STALL_CRED_SHOW (R506). -/
def stallCredShowAnswer (stall : Int) (s : State) : Reply :=
  .ok ((List.finRange 8).map (fun k => credLine k (AMap.find (getStall s (stallArg stall)).creds k)))

/-- STALL_CRED_SHOW (R506): each slot's kind; no secret is read back. -/
def execStallCredShow (l : Line) (stall : Int) (s : State) : Host.Outcome State Fault Refusal :=
  .next (showCmd s l {} (stallErr stall) (stallCredShowAnswer stall))

/-- STALL_CRED_NEW (R506): a random secret, reported once. -/
def execStallCredNew (l : Line) (stall slot : Int) (s : State) : Host.Outcome State Fault Refusal :=
  .next (runCmd s l (changesStall s l stall) (firstErr [stallErr stall, rangeErr slot 0 7]) (fun s _ =>
    let x := stallArg stall
    whileDrained s x (fun s =>
      let (b, s) := freshBytes s 32
      .say (changeCred s x (Fin.ofNat 8 slot.toNat) (some (.secret b))) (okLine [("secret", .bytes b)]) none)))

/-- The credential a `stall cred set` gives: 32 bytes either way. -/
def credOf : CredArg → Option Cred
  | .secret b => if b.length = 32 then some (.secret b) else none
  | .fp b => if b.length = 32 then some (.cert b) else none

/-- STALL_CRED_SET (R506). -/
def execStallCredSet (l : Line) (stall slot : Int) (value : CredArg) (s : State) : Host.Outcome State Fault Refusal :=
  .next (runCmd s l (changesStall s l stall)
    (firstErr [if (credOf value).isNone then some .badValue else none, stallErr stall, rangeErr slot 0 7]) (fun s _ =>
      let x := stallArg stall
      whileDrained s x (fun s => .say (changeCred s x (Fin.ofNat 8 slot.toNat) (credOf value)) okReply none)))

/-- STALL_CRED_CLEAR (R506, R507). -/
def execStallCredClear (l : Line) (stall slot : Int) (s : State) : Host.Outcome State Fault Refusal :=
  .next (runCmd s l (changesStall s l stall) (firstErr [stallErr stall, rangeErr slot 0 7]) (fun s _ =>
    let x := stallArg stall
    whileDrained s x (fun s => .say (changeCred s x (Fin.ofNat 8 slot.toNat) none) okReply none)))

/-- MBX_COMPOSE (R525): bytes into the session's buffer. -/
def execMbxCompose (l : Line) (off : Int) (bytes : List Byte) (s : State) : Host.Outcome State Fault Refusal :=
  .next (runCmd s l {} (rangeErr off 0 255) (fun s _ =>
    .say (updStalls s (fun d => { d with
      compose := AMap.set d.compose l.sess (writeBuf (AMap.getD d.compose l.sess []) off.toNat bytes) })) okReply none))

/-- MBX_WARDEN_SEND (R525): the first `len` bytes of the buffer go to TO_TENANT. -/
def execMbxWardenSend (l : Line) (stall type len : Int) (s : State) : Host.Outcome State Fault Refusal :=
  .next (runCmd s l (changesStall s l stall) (firstErr [stallErr stall, rangeErr type 0 255, rangeErr len 1 256]) (fun s _ =>
    let x := stallArg stall
    whileDrained s x (fun s =>
      if mailboxShut s x then errRun s .stallFrozen
      else
        let q := (getStall s x).toTenant
        if 16 ≤ q.msgs.length then .say s .busy none
        else
          let body := (writeBuf (AMap.getD s.stalls.compose l.sess []) 0 []).take len.toNat
          let m : Msg := { seq := q.next, type := type.toNat, ltime := now s, body := body }
          let s := updStall s x (fun d => { d with toTenant := { msgs := q.msgs ++ [m], next := q.next + 1 } })
          let s := updStalls s (fun d => { d with compose := AMap.del d.compose l.sess })
          .say (ringTenants (storeStall s x) x) (okLine [("seq", vn q.next)]) none)))

/-- MBX_WARDEN_RECV (R521, R525): TO_WARDEN from a sequence on. -/
def execMbxWardenRecv (l : Line) (stall : Int) (from_ : Nat) (s : State) : Host.Outcome State Fault Refusal :=
  .next (runCmd s l (changesStall s l stall) (stallErr stall) (fun s _ =>
    let x := stallArg stall
    whileDrained s x (fun s =>
      if mailboxShut s x then errRun s .stallFrozen
      else
        let q := (getStall s x).toWarden
        let ms := q.msgs.filter (fun m => decide (from_ ≤ m.seq))
        let s := if ms.length = q.msgs.length then s else storeStall (updStall s x (fun d => { d with toWarden := { q with msgs := ms } })) x
        match ms with
        | [] => .say s (okLine [("seq", vn 0)]) none
        | m :: _ => .say s (.ok ([("seq", vn m.seq), ("type", vn m.type), ("ltime", vn m.ltime)] :: hexLines 9 m.body)) none)))

/-- The answer of MBX_SHOW (R525). -/
def mbxShowAnswer (stall : Int) (s : State) : Reply :=
  let d := getStall s (stallArg stall)
  let line (n : String) (q : MsgQueue) : List (String × Val) :=
    [("queue", .name n), ("count", vn q.msgs.length), ("first", vn ((q.msgs.map (fun m => m.seq)).headD 0)), ("next", vn q.next)]
  .ok [line "TO_WARDEN" d.toWarden, line "TO_TENANT" d.toTenant]

/-- MBX_SHOW (R525). -/
def execMbxShow (l : Line) (stall : Int) (s : State) : Host.Outcome State Fault Refusal :=
  .next (showCmd s l {} (stallErr stall) (mbxShowAnswer stall))

end Sys2Proof.Machine
end

