-- ==== Sys2Proof/Machine/Dispatch.lean ====
section
/-!
DEFINITION. One arm per command: each a direct call of its meaning.
-/

namespace Sys2Proof.Machine

open Sys2Proof

/-- The effect of a command on everything but the queue. -/
def exec (i : Instr) (s : State) : Host.Outcome State Fault Refusal :=
  match i with
  | .detectionVoltage port rtc => Sys2Proof.Machine.execDetectionVoltage port rtc s
  | .portPowerOn port classEvents => Sys2Proof.Machine.execPortPowerOn port classEvents s
  | .startBegin rtc => Sys2Proof.Machine.execStartBegin rtc s
  | .startStepComplete d => Sys2Proof.Machine.execStartStepComplete d s
  | .startStepFail step detail => Sys2Proof.Machine.execStartStepFail step detail s
  | .startStepTimeout step d => Sys2Proof.Machine.execStartStepTimeout step d s
  | .s17Complete energy0 energy1 => Sys2Proof.Machine.execS17Complete energy0 energy1 s
  | .orderlyHalt reason => Sys2Proof.Machine.execOrderlyHalt reason s
  | .haltFlushDone fuseOk => Sys2Proof.Machine.execHaltFlushDone fuseOk s
  | .selftestIslandDone r => Sys2Proof.Machine.execSelftestIslandDone r s
  | .selftestLimitLeft r => Sys2Proof.Machine.execSelftestLimitLeft r s
  | .halt l => Sys2Proof.Machine.execHalt l s
  | .reboot l => Sys2Proof.Machine.execReboot l s
  | .flushComplete e => Sys2Proof.Machine.execFlushComplete e s
  | .feedLost port energy vBank => Sys2Proof.Machine.execFeedLost port energy vBank s
  | .feedRestored port classEvents => Sys2Proof.Machine.execFeedRestored port classEvents s
  | .plannedChangeover energy => Sys2Proof.Machine.execPlannedChangeover energy s
  | .lldpTransmit port => Sys2Proof.Machine.execLldpTransmit port s
  | .lldpAllocation port alloc => Sys2Proof.Machine.execLldpAllocation port alloc s
  | .holdupMeasure l => Sys2Proof.Machine.execHoldupMeasure l s
  | .holdupMeasureDone e vBank => Sys2Proof.Machine.execHoldupMeasureDone e vBank s
  | .holdupChargeTimeout vBank => Sys2Proof.Machine.execHoldupChargeTimeout vBank s
  | .cellFault cell deviation => Sys2Proof.Machine.execCellFault cell deviation s
  | .coldGate flashMin => Sys2Proof.Machine.execColdGate flashMin s
  | .coldOpen flashMin => Sys2Proof.Machine.execColdOpen flashMin s
  | .heaterSwitch flashMin => Sys2Proof.Machine.execHeaterSwitch flashMin s
  | .thermalThrottle flashMax => Sys2Proof.Machine.execThermalThrottle flashMax s
  | .powerShow l => Sys2Proof.Machine.execPowerShow l s
  | .islandFault j cause freqDev voltDev => Sys2Proof.Machine.execIslandFault j cause freqDev voltDev s
  | .watchdogExpiry j => Sys2Proof.Machine.execWatchdogExpiry j s
  | .islandGate j => Sys2Proof.Machine.execIslandGate j s
  | .islandWake j => Sys2Proof.Machine.execIslandWake j s
  | .dramCorrected n => Sys2Proof.Machine.execDramCorrected n s
  | .dramUncorrectable region keys => Sys2Proof.Machine.execDramUncorrectable region keys s
  | .islandShow l id => Sys2Proof.Machine.execIslandShow l id s
  | .attrGet l num field form => Sys2Proof.Machine.execAttrGet l num field form s
  | .attrSet l num asg => Sys2Proof.Machine.execAttrSet l num asg s
  | .commitGroup l g => Sys2Proof.Machine.execCommitGroup l g s
  | .discardGroup l g => Sys2Proof.Machine.execDiscardGroup l g s
  | .bayCfgWrite l asg => Sys2Proof.Machine.execBayCfgWrite l asg s
  | .tamperClear l asg => Sys2Proof.Machine.execTamperClear l asg s
  | .policyPreferWrite l value => Sys2Proof.Machine.execPolicyPreferWrite l value s
  | .netPhyCfgWrite l port asg => Sys2Proof.Machine.execNetPhyCfgWrite l port asg s
  | .maxFrameWrite l port value => Sys2Proof.Machine.execMaxFrameWrite l port value s
  | .kvCfgWrite l asg => Sys2Proof.Machine.execKvCfgWrite l asg s
  | .routeCfgWrite l asg => Sys2Proof.Machine.execRouteCfgWrite l asg s
  | .meterKindWrite l stall value => Sys2Proof.Machine.execMeterKindWrite l stall value s
  | .usbSendBreak ms => Sys2Proof.Machine.execUsbSendBreak ms s
  | .jsvcChange fitted => Sys2Proof.Machine.execJsvcChange fitted s
  | .buttonRelease hold => Sys2Proof.Machine.execButtonRelease hold s
  | .buttonDiscrepancy bothClosed => Sys2Proof.Machine.execButtonDiscrepancy bothClosed s
  | .lidDiscrepancy bothClosed => Sys2Proof.Machine.execLidDiscrepancy bothClosed s
  | .presenceClose l => Sys2Proof.Machine.execPresenceClose l s
  | .jconAttention ms => Sys2Proof.Machine.execJconAttention ms s
  | .ledLocate l time => Sys2Proof.Machine.execLedLocate l time s
  | .bayShow l => Sys2Proof.Machine.execBayShow l s
  | .consoleChar sess c => Sys2Proof.Machine.execConsoleChar sess c s
  | .consoleBadLine sess text => Sys2Proof.Machine.execConsoleBadLine sess text s
  | .unknownCommand l => Sys2Proof.Machine.execUnknownCommand l s
  | .help l word => Sys2Proof.Machine.execHelp l word s
  | .mode l m => Sys2Proof.Machine.execMode l m s
  | .who l => Sys2Proof.Machine.execWho l s
  | .log l count since name => Sys2Proof.Machine.execLog l count since name s
  | .logFollow l on => Sys2Proof.Machine.execLogFollow l on s
  | .mgmtConnect ifc localAddr fp certValid addr => Sys2Proof.Machine.execMgmtConnect ifc localAddr fp certValid addr s
  | .mgmtIdleTimeout k => Sys2Proof.Machine.execMgmtIdleTimeout k s
  | .mgmtSessionClose k => Sys2Proof.Machine.execMgmtSessionClose k s
  | .wardenEnrol l slot fp name => Sys2Proof.Machine.execWardenEnrol l slot fp name s
  | .wardenRemove l slot => Sys2Proof.Machine.execWardenRemove l slot s
  | .wardenShow l => Sys2Proof.Machine.execWardenShow l s
  | .startShow l => Sys2Proof.Machine.execStartShow l s
  | .ledgerShow l start => Sys2Proof.Machine.execLedgerShow l start s
  | .startClear l => Sys2Proof.Machine.execStartClear l s
  | .linkUp port speed snr => Sys2Proof.Machine.execLinkUp port speed snr s
  | .linkDown port => Sys2Proof.Machine.execLinkDown port s
  | .lacpduReceive port pdu => Sys2Proof.Machine.execLacpduReceive port pdu s
  | .lacpduTransmit port => Sys2Proof.Machine.execLacpduTransmit port s
  | .frameReceive port f => Sys2Proof.Machine.execFrameReceive port f s
  | .frameFcsResult port good => Sys2Proof.Machine.execFrameFcsResult port good s
  | .pauseFrame port quanta => Sys2Proof.Machine.execPauseFrame port quanta s
  | .pfcFrame port quanta => Sys2Proof.Machine.execPfcFrame port quanta s
  | .pauseExpiry port q => Sys2Proof.Machine.execPauseExpiry port q s
  | .pauseStorm port => Sys2Proof.Machine.execPauseStorm port s
  | .pauseStormEnd port => Sys2Proof.Machine.execPauseStormEnd port s
  | .portShow l port => Sys2Proof.Machine.execPortShow l port s
  | .portStats l port raw => Sys2Proof.Machine.execPortStats l port raw s
  | .portStatsClear l port => Sys2Proof.Machine.execPortStatsClear l port s
  | .portCaptureRead l port count => Sys2Proof.Machine.execPortCaptureRead l port count s
  | .dormantEnter l => Sys2Proof.Machine.execDormantEnter l s
  | .wake port f => Sys2Proof.Machine.execWake port f s
  | .dhcpv4Receive ifc m => Sys2Proof.Machine.execDhcpv4Receive ifc m s
  | .dhcpRetransmit ifc => Sys2Proof.Machine.execDhcpRetransmit ifc s
  | .dhcpv6Receive ifc m => Sys2Proof.Machine.execDhcpv6Receive ifc m s
  | .routerAdvertisement ifc ra => Sys2Proof.Machine.execRouterAdvertisement ifc ra s
  | .raTimeout ifc => Sys2Proof.Machine.execRaTimeout ifc s
  | .addrProbeDone ifc addr => Sys2Proof.Machine.execAddrProbeDone ifc addr s
  | .addrDuplicate ifc addr => Sys2Proof.Machine.execAddrDuplicate ifc addr s
  | .addrRetry ifc addr => Sys2Proof.Machine.execAddrRetry ifc addr s
  | .addrLost ifc addr => Sys2Proof.Machine.execAddrLost ifc addr s
  | .neighbourSolicit ifc target sender mac => Sys2Proof.Machine.execNeighbourSolicit ifc target sender mac s
  | .icmpEcho port ifc dst len fragment => Sys2Proof.Machine.execIcmpEcho port ifc dst len fragment s
  | .netShow l ifc => Sys2Proof.Machine.execNetShow l ifc s
  | .netStats l => Sys2Proof.Machine.execNetStats l s
  | .netLldp l port => Sys2Proof.Machine.execNetLldp l port s
  | .netRenew l ifc => Sys2Proof.Machine.execNetRenew l ifc s
  | .lldpReceive port pdu => Sys2Proof.Machine.execLldpReceive port pdu s
  | .ptpAnnounce a => Sys2Proof.Machine.execPtpAnnounce a s
  | .ptpMessage offset => Sys2Proof.Machine.execPtpMessage offset s
  | .ntpPoll server => Sys2Proof.Machine.execNtpPoll server s
  | .ntpResponse server r => Sys2Proof.Machine.execNtpResponse server r s
  | .timeSet l t => Sys2Proof.Machine.execTimeSet l t s
  | .timeAccept l => Sys2Proof.Machine.execTimeAccept l s
  | .timeShow l => Sys2Proof.Machine.execTimeShow l s
  | .dataConnect gen port ifc peer localAddr firstByte => Sys2Proof.Machine.execDataConnect gen port ifc peer localAddr firstByte s
  | .kv1Connect port ifc peer localAddr => Sys2Proof.Machine.execKv1Connect port ifc peer localAddr s
  | .tlsHandshake conn r => Sys2Proof.Machine.execTlsHandshake conn r s
  | .connectionTimeout conn limit => Sys2Proof.Machine.execConnectionTimeout conn limit s
  | .connectionClose conn => Sys2Proof.Machine.execConnectionClose conn s
  | .hello conn f => Sys2Proof.Machine.execHello conn f s
  | .auth conn f => Sys2Proof.Machine.execAuth conn f s
  | .authDenyDelay conn => Sys2Proof.Machine.execAuthDenyDelay conn s
  | .authLockoutExpiry addr => Sys2Proof.Machine.execAuthLockoutExpiry addr s
  | .channelOpen conn f => Sys2Proof.Machine.execChannelOpen conn f s
  | .channelClose conn f => Sys2Proof.Machine.execChannelClose conn f s
  | .frameLostAlignment conn bytes => Sys2Proof.Machine.execFrameLostAlignment conn bytes s
  | .resyncData conn bytes => Sys2Proof.Machine.execResyncData conn bytes s
  | .resyncTimeout conn => Sys2Proof.Machine.execResyncTimeout conn s
  | .kv1Heartbeat port ifc peer datagram => Sys2Proof.Machine.execKv1Heartbeat port ifc peer datagram s
  | .heartbeat conn f => Sys2Proof.Machine.execHeartbeat conn f s
  | .put conn f => Sys2Proof.Machine.execPut conn f s
  | .get conn f => Sys2Proof.Machine.execGet conn f s
  | .head conn f => Sys2Proof.Machine.execHead conn f s
  | .delete conn f => Sys2Proof.Machine.execDelete conn f s
  | .list conn f => Sys2Proof.Machine.execList conn f s
  | .cas conn f => Sys2Proof.Machine.execCas conn f s
  | .mputBegin conn f => Sys2Proof.Machine.execMputBegin conn f s
  | .mputPart conn f => Sys2Proof.Machine.execMputPart conn f s
  | .mputCommit conn f => Sys2Proof.Machine.execMputCommit conn f s
  | .mputAbort conn f => Sys2Proof.Machine.execMputAbort conn f s
  | .uploadExpiry handle => Sys2Proof.Machine.execUploadExpiry handle s
  | .txn conn f => Sys2Proof.Machine.execTxn conn f s
  | .txnLocksTaken op => Sys2Proof.Machine.execTxnLocksTaken op s
  | .lockTimeout op => Sys2Proof.Machine.execLockTimeout op s
  | .tag conn f => Sys2Proof.Machine.execTag conn f s
  | .find conn f => Sys2Proof.Machine.execFind conn f s
  | .findDone run => Sys2Proof.Machine.execFindDone run s
  | .fetch conn f => Sys2Proof.Machine.execFetch conn f s
  | .ticketExpiry ticket => Sys2Proof.Machine.execTicketExpiry ticket s
  | .flush conn f => Sys2Proof.Machine.execFlush conn f s
  | .discard conn f => Sys2Proof.Machine.execDiscard conn f s
  | .shred conn f => Sys2Proof.Machine.execShred conn f s
  | .stat conn f => Sys2Proof.Machine.execStat conn f s
  | .mbxSend conn f => Sys2Proof.Machine.execMbxSend conn f s
  | .mbxRecv conn f => Sys2Proof.Machine.execMbxRecv conn f s
  | .objectExpiry k => Sys2Proof.Machine.execObjectExpiry k s
  | .bucketRefill stall elapsed => Sys2Proof.Machine.execBucketRefill stall elapsed s
  | .operationComplete op => Sys2Proof.Machine.execOperationComplete op s
  | .kvShow l => Sys2Proof.Machine.execKvShow l s
  | .kvStats l => Sys2Proof.Machine.execKvStats l s
  | .kvConns l stall => Sys2Proof.Machine.execKvConns l stall s
  | .kv1Enable l => Sys2Proof.Machine.execKv1Enable l s
  | .kv1Disable l => Sys2Proof.Machine.execKv1Disable l s
  | .kv1Allow l addr stall => Sys2Proof.Machine.execKv1Allow l addr stall s
  | .kv1Deny l addr => Sys2Proof.Machine.execKv1Deny l addr s
  | .kv1Show l => Sys2Proof.Machine.execKv1Show l s
  | .stallShow l stall => Sys2Proof.Machine.execStallShow l stall s
  | .stallCreate l stall host => Sys2Proof.Machine.execStallCreate l stall host s
  | .stallReset l stall => Sys2Proof.Machine.execStallReset l stall s
  | .stallRebind l stall host => Sys2Proof.Machine.execStallRebind l stall host s
  | .drainEnd stall => Sys2Proof.Machine.execDrainEnd stall s
  | .stallRemove l stall force => Sys2Proof.Machine.execStallRemove l stall force s
  | .stallRemovalDone stall => Sys2Proof.Machine.execStallRemovalDone stall s
  | .stallFreeze l stall => Sys2Proof.Machine.execStallFreeze l stall s
  | .freezeDrainEnd stall => Sys2Proof.Machine.execFreezeDrainEnd stall s
  | .stallBlobRead l stall off len => Sys2Proof.Machine.execStallBlobRead l stall off len s
  | .stallBlobLoad l stall off hex => Sys2Proof.Machine.execStallBlobLoad l stall off hex s
  | .stallThaw l stall host => Sys2Proof.Machine.execStallThaw l stall host s
  | .stallRelocate l stall to_ dest rate accepted => Sys2Proof.Machine.execStallRelocate l stall to_ dest rate accepted s
  | .relocateCutover stall => Sys2Proof.Machine.execRelocateCutover stall s
  | .relocateDone stall => Sys2Proof.Machine.execRelocateDone stall s
  | .relocateFailed stall cause => Sys2Proof.Machine.execRelocateFailed stall cause s
  | .stallRelocateCancel l stall => Sys2Proof.Machine.execStallRelocateCancel l stall s
  | .stallAdopt l stall warden => Sys2Proof.Machine.execStallAdopt l stall warden s
  | .stallKeyExport l stall kek => Sys2Proof.Machine.execStallKeyExport l stall kek s
  | .stallCredShow l stall => Sys2Proof.Machine.execStallCredShow l stall s
  | .stallCredNew l stall slot => Sys2Proof.Machine.execStallCredNew l stall slot s
  | .stallCredSet l stall slot value => Sys2Proof.Machine.execStallCredSet l stall slot value s
  | .stallCredClear l stall slot => Sys2Proof.Machine.execStallCredClear l stall slot s
  | .mbxCompose l off bytes => Sys2Proof.Machine.execMbxCompose l off bytes s
  | .mbxWardenSend l stall type len => Sys2Proof.Machine.execMbxWardenSend l stall type len s
  | .mbxWardenRecv l stall from_ => Sys2Proof.Machine.execMbxWardenRecv l stall from_ s
  | .mbxShow l stall => Sys2Proof.Machine.execMbxShow l stall s
  | .mbxDoorbell conn => Sys2Proof.Machine.execMbxDoorbell conn s
  | .meterShow l stall => Sys2Proof.Machine.execMeterShow l stall s
  | .meterRecords l stall from_ count raw => Sys2Proof.Machine.execMeterRecords l stall from_ count raw s
  | .packedPageTimeout stall bin => Sys2Proof.Machine.execPackedPageTimeout stall bin s
  | .flashProgramDone index => Sys2Proof.Machine.execFlashProgramDone index s
  | .flashReadDone lpn r => Sys2Proof.Machine.execFlashReadDone lpn r s
  | .mediaShow l => Sys2Proof.Machine.execMediaShow l s
  | .bandShow l band => Sys2Proof.Machine.execBandShow l band s
  | .programFail index b => Sys2Proof.Machine.execProgramFail index b s
  | .shredDone ticket => Sys2Proof.Machine.execShredDone ticket s
  | .healthShow l => Sys2Proof.Machine.execHealthShow l s
  | .healthTemp l => Sys2Proof.Machine.execHealthTemp l s
  | .healthHoldup l count => Sys2Proof.Machine.execHealthHoldup l count s
  | .arcadeShow l => Sys2Proof.Machine.execArcadeShow l s
  | .arcadeBankShow l bank => Sys2Proof.Machine.execArcadeBankShow l bank s
  | .arcadeGrant l bank quarter stall => Sys2Proof.Machine.execArcadeGrant l bank quarter stall s
  | .beaconReceive b => Sys2Proof.Machine.execBeaconReceive b s
  | .memberTimeout serial => Sys2Proof.Machine.execMemberTimeout serial s
  | .rowLeave h => Sys2Proof.Machine.execRowLeave h s
  | .rowAck h status => Sys2Proof.Machine.execRowAck h status s
  | .findReq h m => Sys2Proof.Machine.execFindReq h m s
  | .findPage h records => Sys2Proof.Machine.execFindPage h records s
  | .findEnd h status => Sys2Proof.Machine.execFindEnd h status s
  | .rowFindDeadline ticket => Sys2Proof.Machine.execRowFindDeadline ticket s
  | .mirrorPut h o => Sys2Proof.Machine.execMirrorPut h o s
  | .mirrorUpdate h origin k held => Sys2Proof.Machine.execMirrorUpdate h origin k held s
  | .mirrorRemove h origin k erase => Sys2Proof.Machine.execMirrorRemove h origin k erase s
  | .mirrorShow l => Sys2Proof.Machine.execMirrorShow l s
  | .mirrorDrop l origin => Sys2Proof.Machine.execMirrorDrop l origin s
  | .mirrorRestore l origin ostall stall => Sys2Proof.Machine.execMirrorRestore l origin ostall stall s
  | .mirrorRestoreDone stall => Sys2Proof.Machine.execMirrorRestoreDone stall s
  | .rowShow l => Sys2Proof.Machine.execRowShow l s
  | .rowMembers l => Sys2Proof.Machine.execRowMembers l s
  | .rowKeyNew l => Sys2Proof.Machine.execRowKeyNew l s
  | .rowKeySet l secret => Sys2Proof.Machine.execRowKeySet l secret s
  | .parcelPiece l n len d => Sys2Proof.Machine.execParcelPiece l n len d s
  | .pieceTimeout l => Sys2Proof.Machine.execPieceTimeout l s
  | .parcelShow l => Sys2Proof.Machine.execParcelShow l s
  | .parcelInstall l relay later r => Sys2Proof.Machine.execParcelInstall l relay later r s
  | .parcelAbandon l => Sys2Proof.Machine.execParcelAbandon l s
  | .fwShow l => Sys2Proof.Machine.execFwShow l s
  | .configExport l => Sys2Proof.Machine.execConfigExport l s
  | .trialConfirm fuseFail => Sys2Proof.Machine.execTrialConfirm fuseFail s
  | .gateUpdateDone reported slotOk => Sys2Proof.Machine.execGateUpdateDone reported slotOk s
  | .lifecycleShow l => Sys2Proof.Machine.execLifecycleShow l s
  | .lifecycleSet l target serial => Sys2Proof.Machine.execLifecycleSet l target serial s
  | .testShow l => Sys2Proof.Machine.execTestShow l s
  | .testResults l run island raw => Sys2Proof.Machine.execTestResults l run island raw s
  | .testRun l island parts loop => Sys2Proof.Machine.execTestRun l island parts loop s
  | .islandRevive l id => Sys2Proof.Machine.execIslandRevive l id s
  | .resShow l => Sys2Proof.Machine.execResShow l s
  | .frameSent port => Sys2Proof.Machine.execFrameSent port s
  | .handshakeTimeout silent requester => Sys2Proof.Machine.execHandshakeTimeout silent requester s
  | .dramRebuildDone region => Sys2Proof.Machine.execDramRebuildDone region s
  | .hwstatFold port index amount => Sys2Proof.Machine.execHwstatFold port index amount s
  | .eventLineWindowEnd sess => Sys2Proof.Machine.execEventLineWindowEnd sess s
  | .linkDownshift port speed => Sys2Proof.Machine.execLinkDownshift port speed s
  | .lagNoPartner port => Sys2Proof.Machine.execLagNoPartner port s
  | .counterHalf port c => Sys2Proof.Machine.execCounterHalf port c s
  | .counterFold port c => Sys2Proof.Machine.execCounterFold port c s
  | .counterSaturated port c => Sys2Proof.Machine.execCounterSaturated port c s
  | .icmpPacketTooBig dst mtu => Sys2Proof.Machine.execIcmpPacketTooBig dst mtu s
  | .closedPortPacket port ifc ends proto => Sys2Proof.Machine.execClosedPortPacket port ifc ends proto s
  | .lldpNeighbourExpiry port chassis portId => Sys2Proof.Machine.execLldpNeighbourExpiry port chassis portId s
  | .tlsRecordFail conn => Sys2Proof.Machine.execTlsRecordFail conn s
  | .discardTicketDone ticket => Sys2Proof.Machine.execDiscardTicketDone ticket s
  | .relocateMessage h m => Sys2Proof.Machine.execRelocateMessage h m s
  | .checkpointSegment segment index => Sys2Proof.Machine.execCheckpointSegment segment index s
  | .bedBinEnd band => Sys2Proof.Machine.execBedBinEnd band s
  | .dieFailed channel target cause => Sys2Proof.Machine.execDieFailed channel target cause s
  | .shelterMoved second => Sys2Proof.Machine.execShelterMoved second s
  | .gcLoadWindow hostLoad => Sys2Proof.Machine.execGcLoadWindow hostLoad s
  | .gcBandFreed band => Sys2Proof.Machine.execGcBandFreed band s
  | .eraseDone b ok => Sys2Proof.Machine.execEraseDone b ok s
  | .patrolRead b stripe r bits => Sys2Proof.Machine.execPatrolRead b stripe r bits s
  | .shredScan ticket => Sys2Proof.Machine.execShredScan ticket s
  | .arcSearch req found => Sys2Proof.Machine.execArcSearch req found s
  | .arcCursorFree cursor => Sys2Proof.Machine.execArcCursorFree cursor s
  | .arcScrubUnit found => Sys2Proof.Machine.execArcScrubUnit found s
  | .arcRebuild bank => Sys2Proof.Machine.execArcRebuild bank s
  | .rowRetransmit peer msgId => Sys2Proof.Machine.execRowRetransmit peer msgId s
  | .findCancel h => Sys2Proof.Machine.execFindCancel h s
  | .mirrorCopyExpiry origin k => Sys2Proof.Machine.execMirrorCopyExpiry origin k s
  | .relayOffer h o r => Sys2Proof.Machine.execRelayOffer h o r s
  | .pieceReq h parcel n => Sys2Proof.Machine.execPieceReq h parcel n s
  | .relayPiece h n d r => Sys2Proof.Machine.execRelayPiece h n d r s
  | .relayStatus h parcel reporter st => Sys2Proof.Machine.execRelayStatus h parcel reporter st s
  | .zeroWindowTimeout conn => Sys2Proof.Machine.execZeroWindowTimeout conn s
  | .cellReturn cell => Sys2Proof.Machine.execCellReturn cell s
  | .relocateCopy stall => Sys2Proof.Machine.execRelocateCopy stall s
  | .leadSelect => Sys2Proof.Machine.execLeadSelect s
  | .s01BudgetMet => Sys2Proof.Machine.execS01BudgetMet s
  | .startHotHold => Sys2Proof.Machine.execStartHotHold s
  | .s17LinkRetry => Sys2Proof.Machine.execS17LinkRetry s
  | .haltDrainEnd => Sys2Proof.Machine.execHaltDrainEnd s
  | .powerFail => Sys2Proof.Machine.execPowerFail s
  | .levelUp => Sys2Proof.Machine.execLevelUp s
  | .starvedTimeout => Sys2Proof.Machine.execStarvedTimeout s
  | .holdupPeriodic => Sys2Proof.Machine.execHoldupPeriodic s
  | .holdupDischargeStart => Sys2Proof.Machine.execHoldupDischargeStart s
  | .bankRecharged => Sys2Proof.Machine.execBankRecharged s
  | .capAdmission => Sys2Proof.Machine.execCapAdmission s
  | .referenceClockLoss => Sys2Proof.Machine.execReferenceClockLoss s
  | .gatehouseWatchdog => Sys2Proof.Machine.execGatehouseWatchdog s
  | .gatehouseReset => Sys2Proof.Machine.execGatehouseReset s
  | .gatehouseResetTimeout => Sys2Proof.Machine.execGatehouseResetTimeout s
  | .dramScrub => Sys2Proof.Machine.execDramScrub s
  | .usbAttach => Sys2Proof.Machine.execUsbAttach s
  | .usbDetach => Sys2Proof.Machine.execUsbDetach s
  | .usbSetLineCoding => Sys2Proof.Machine.execUsbSetLineCoding s
  | .buttonPress => Sys2Proof.Machine.execButtonPress s
  | .buttonStuck => Sys2Proof.Machine.execButtonStuck s
  | .buttonLockoutClear => Sys2Proof.Machine.execButtonLockoutClear s
  | .lidOpen => Sys2Proof.Machine.execLidOpen s
  | .lidClosed => Sys2Proof.Machine.execLidClosed s
  | .presenceExpiry => Sys2Proof.Machine.execPresenceExpiry s
  | .jconFramingError => Sys2Proof.Machine.execJconFramingError s
  | .jconShortBreak => Sys2Proof.Machine.execJconShortBreak s
  | .lineFault => Sys2Proof.Machine.execLineFault s
  | .lineRecovered => Sys2Proof.Machine.execLineRecovered s
  | .locateExpiry => Sys2Proof.Machine.execLocateExpiry s
  | .bondRevert => Sys2Proof.Machine.execBondRevert s
  | .ptpAnnounceTimeout => Sys2Proof.Machine.execPtpAnnounceTimeout s
  | .timeStepRefused => Sys2Proof.Machine.execTimeStepRefused s
  | .rtcWrite => Sys2Proof.Machine.execRtcWrite s
  | .ledgerCheckpoint => Sys2Proof.Machine.execLedgerCheckpoint s
  | .schedDispatch => Sys2Proof.Machine.execSchedDispatch s
  | .meterTick => Sys2Proof.Machine.execMeterTick s
  | .logProgram => Sys2Proof.Machine.execLogProgram s
  | .rebuildBand => Sys2Proof.Machine.execRebuildBand s
  | .gcReclaimTimer => Sys2Proof.Machine.execGcReclaimTimer s
  | .wearLevelMove => Sys2Proof.Machine.execWearLevelMove s
  | .blockRefreshed => Sys2Proof.Machine.execBlockRefreshed s
  | .healthTempTick => Sys2Proof.Machine.execHealthTempTick s
  | .arcInsert => Sys2Proof.Machine.execArcInsert s
  | .arcInvalidate => Sys2Proof.Machine.execArcInvalidate s
  | .arcScrubPass => Sys2Proof.Machine.execArcScrubPass s
  | .beaconSend => Sys2Proof.Machine.execBeaconSend s
  | .leaderTimeout => Sys2Proof.Machine.execLeaderTimeout s
  | .mirrorRetry => Sys2Proof.Machine.execMirrorRetry s
  | .mirrorSend => Sys2Proof.Machine.execMirrorSend s
  | .mirrorCatchup => Sys2Proof.Machine.execMirrorCatchup s
  | .parcelExpiry => Sys2Proof.Machine.execParcelExpiry s
  | .trialWindowEnd => Sys2Proof.Machine.execTrialWindowEnd s
  | .eventLogCopy => Sys2Proof.Machine.execEventLogCopy s

end Sys2Proof.Machine
end

