-- ==== Sys2Proof/Safety.lean ====
section
/-!
DEFINITION. What a safe run is, and the conditions and outcomes the statements speak of: a console line that passes its
checks, an event newly logged.
-/

namespace Sys2Proof

open Machine

/-- A step that answers a next state: neither fault nor refusal. -/
def Runs (o : Host.Outcome State Fault Refusal) : Prop := ∃ t, o = .next t

/-- A state from which the next step runs. -/
def SafeState (s : State) : Prop := Runs (step s)

/-- A session has received a line: its idle time begins anew and no line waits (R233, R241). -/
def heard (s : State) (l : Line) : State :=
  updSess s l.sess (fun d => { d with lastRx := s.clock.ledger, lineReady := none })

/-- An accepted command whose answer comes later takes a place in its session's line (R242). -/
def waits (s : State) (l : Line) : State :=
  updSess s l.sess (fun d => { d with
    slots := d.slots ++ [{ id := d.nextSlot, tag := l.tag, reply := none }], nextSlot := d.nextSlot + 1 })

/-- A command whose line was accepted has run: its answer is given now, or its place in line waits for it (R242). -/
def ran (l : Line) : Run → State
  | .say u r a => answer u l.sess l.tag r a
  | .wait u => waits u l

/-- A console line whose command acts: its session is open and hears it, fewer than four of its commands wait (R242), and
no check of R233, R238, R247, R261, R262 or R781 refuses it. -/
structure Accepts (s : State) (l : Line) (i : CmdInfo) (bad : Option ErrName) (d : Session) : Prop where
  /-- The session is open. -/
  sess : getSess s l.sess = some d
  /-- It is not closing. -/
  open_ : d.closing = false
  /-- J-CON is not in LINE_FAULT (R80). -/
  line : l.sess = .jcon → s.bay.lineFault = false
  /-- The consoles are not paused by a test of SVC (R797). -/
  paused : isMgmt l.sess = true ∨ consolesPaused s = false
  /-- In machine mode it carries a tag (R238). -/
  tag : d.machine = true → l.tag ≠ none
  /-- A place for its answer is free. -/
  place : d.slots.length < 4
  /-- No check refuses it. -/
  passes : refusal (heard s l) d l i bad = none

/-- A connection has received a frame: PROTO is awake (R148), and the connection's idle time begins anew (R389). -/
def received (s : State) (i : Nat) : State := updConn (wakeIsl s .proto) i (fun c => { c with lastRx := s.clock.ledger })

/-- A frame's payload can be staged now, and no earlier frame of its connection waits for staging (R820). -/
structure Staged (s : State) (i : Nat) (f : Frame) (c : Conn) : Prop where
  /-- No frame before it waits. -/
  first : c.blocked = []
  /-- It fits the connection's base grant, or the shared pool. -/
  fits : stagingFits (received s i) i f.dataLen = true

/-- A frame passes the checks of its own bytes and fields on a connection that stands in a stage (R385, checks 3 to 7). -/
structure Passes (s : State) (i : Nat) (f : Frame) (c : Conn) (st : ConnStage) : Prop where
  /-- The connection is there. -/
  conn : getConn s i = some c
  /-- It stands in the stage. -/
  stage : c.stage = st
  /-- The frame is of the connection's generation. -/
  gen : f.gen = genCode c.gen
  /-- Its payload verifies. -/
  payload : f.pcrcOk = true
  /-- No field fails. -/
  fields : fieldFault c f = none

/-- A request frame passes every check of its open session and finds room among its outstanding requests (R385). -/
structure PassesAll (s : State) (i : Nat) (f : Frame) (c : Conn) (code : OpCode) (ch : Chan) : Prop
    extends Passes s i f c .open_ where
  /-- It is a REQUEST. -/
  kind : f.kind = 1
  /-- Its payload is staged. -/
  staged : Staged s i f c
  /-- Of this operation. -/
  code : opOfCode f.opcode = some code
  /-- Check 9: it names the session's stall. -/
  stall : c.gen ≠ .kv1 → f.stall = c.stall.getD 0
  /-- Check 10: it and the session carry the stall's present generation. -/
  generation : c.gen ≠ .kv1 → f.generation = (getStall s (c.stall.getD 0)).generation ∧
    c.generation = (getStall s (c.stall.getD 0)).generation
  /-- Its channel is open. -/
  chan : getChan s i f.channel = some ch
  /-- Check 11: it has room. -/
  room : ch.out.length < ch.maxOut

/-- A new request is admitted: its channel's window does not hold its REQUEST_ID, and its stall takes requests now (R385,
R485, R486, R493, R514). -/
structure Admits (s : State) (i : Nat) (f : Frame) (c : Conn) (code : OpCode) (ch : Chan) : Prop
    extends PassesAll s i f c code ch where
  /-- No repeat. -/
  fresh : ch.window.find? (fun e => decide (e.reqId = f.reqId)) = none
  /-- Nothing turns it away. -/
  taken : turnedAway s c (c.stall.getD 0) = none
  /-- No drain holds it. -/
  active : (getStall s (c.stall.getD 0)).state = .active

/-- The command that a request of an operation arrives as. -/
def requestOf (i : Nat) (f : Frame) : OpCode → Instr
  | .put => .put i f | .get => .get i f | .head => .head i f | .delete => .delete i f | .list => .list i f
  | .cas => .cas i f | .mputBegin => .mputBegin i f | .mputPart => .mputPart i f | .mputCommit => .mputCommit i f
  | .mputAbort => .mputAbort i f | .txn => .txn i f | .tag => .tag i f | .find => .find i f | .fetch => .fetch i f
  | .flush => .flush i f | .discard => .discard i f | .shred => .shred i f | .stat => .stat i f
  | .heartbeat => .heartbeat i f | .mbxSend => .mbxSend i f | .mbxRecv => .mbxRecv i f

/-- The header of a command that is a row message other than an ACK (ch. 16, Row message header). -/
def rowHeader : Instr → Option RowHdr
  | .rowLeave h => some h
  | .findReq h _ => some h
  | .findPage h _ => some h
  | .findEnd h _ => some h
  | .findCancel h => some h
  | .mirrorPut h _ => some h
  | .mirrorUpdate h _ _ _ => some h
  | .mirrorRemove h _ _ _ => some h
  | .relayOffer h _ _ => some h
  | .pieceReq h _ _ => some h
  | .relayPiece h _ _ _ => some h
  | .relayStatus h _ _ _ => some h
  | .relocateMessage h _ => some h
  | _ => none

/-- A row message that is acted on: row traffic runs, the sender is known, and its MSG_ID is new (R715, R717). -/
structure Arrives (s : State) (h : RowHdr) : Prop where
  /-- Row traffic runs. -/
  runs : rowRuns s = true
  /-- The sender is a member, or a partner of a relocation. -/
  known : rowKnows s h.peer = true
  /-- The message is no repeat. -/
  fresh : s.row.seen.find? (fun x => decide (x.1 = h.peer) && decide (x.2.1 = h.msgId)) = none

/-- The epoch of a message is noted among those seen (R710). -/
def noted (s : State) (h : RowHdr) : State := updRow s (fun d => { d with seenEpoch := Nat.max d.seenEpoch h.epoch })

/-- A message has been acted on: its MSG_ID is kept with the status, and the ACK goes out (R715). -/
def acked (s : State) (h : RowHdr) (st : AckStatus) : State :=
  rowSend (updRow s (fun d => { d with seen := d.seen ++ [(h.peer, h.msgId, st)] })) h.peer (.ack st) h.msgId

/-- A command that ends S02, whatever it then finds: S03 begins, where the next SEQ is taken anew from the records held (R851). -/
def endsS02 : Instr → Bool
  | .startStepComplete d => decide (stepOf d = 2)
  | .startStepTimeout n _ => decide (n = 2)
  | _ => false

/-- The record an event raised in a state becomes when SVC logs it: the next SEQ, the present times (R850, R851, R872). -/
def eventOf (s : State) (ev : Ev) (a : EvArgs) : EventRec := { mkRecord s ev a with seq := s.log.nextSeq }

/-- From `s` to `t` one event was logged, and it is this one, under the next SEQ. -/
def Logs (s t : State) (ev : Ev) (a : EvArgs) : Prop :=
  t.log.ring = (eventOf s ev a :: s.log.ring).take 2048 ∧ t.log.nextSeq = s.log.nextSeq + 1

/-! ### What a command may change -/

/-- The parts of the state, but for the queue of commands. -/
inductive Part
  | phase | clock | bay | power | isl | cfg | boot | con | ports | net | proto | kv
  | stalls | media | upkeep | arc | row | fw | life | log | out | freeCtr
deriving DecidableEq, Repr

/-- A part is the same in two states. -/
def Same (s t : State) : Part → Prop
  | .phase => t.phase = s.phase
  | .clock => t.clock = s.clock
  | .bay => t.bay = s.bay
  | .power => t.power = s.power
  | .isl => t.isl = s.isl
  | .cfg => t.cfg = s.cfg
  | .boot => t.boot = s.boot
  | .con => t.con = s.con
  | .ports => t.ports = s.ports
  | .net => t.net = s.net
  | .proto => t.proto = s.proto
  | .kv => t.kv = s.kv
  | .stalls => t.stalls = s.stalls
  | .media => t.media = s.media
  | .upkeep => t.upkeep = s.upkeep
  | .arc => t.arc = s.arc
  | .row => t.row = s.row
  | .fw => t.fw = s.fw
  | .life => t.life = s.life
  | .log => t.log = s.log
  | .out => t.out = s.out
  | .freeCtr => t.freeCtr = s.freeCtr

/-- From `s` to `t` only the parts listed may differ; the queue is the same. -/
def Only (ps : List Part) (s t : State) : Prop := t.pending = s.pending ∧ ∀ p, p ∉ ps → Same s t p

/-! ### What every step keeps -/

/-- The event log as R850 and R851 keep it: its three stores within their sizes, every SEQ below the next one, and the SEQ
of the ring, and of what is not yet copied before what the bed holds, strictly falling from the newest record on. -/
structure LogOk (l : EventLog) : Prop where
  /-- The FRAM ring holds 2,048 records. -/
  ring_le : l.ring.length ≤ 2048
  /-- The metadata bed holds 262,144. -/
  bed_le : l.bed.length ≤ 262144
  /-- The gatehouse's buffer holds 64 (R852). -/
  carried_le : l.carried.length ≤ 64
  /-- No more await copying than the ring holds. -/
  waiting_le : l.waiting ≤ 2048
  /-- No two records of the ring share a SEQ, and the newest has the highest. -/
  falling : (l.ring.map (fun e => e.seq)).Pairwise (fun a b => b < a)
  /-- Nor do the records that await copying and those of the bed. -/
  copied : ((l.ring.take l.waiting ++ l.bed).map (fun e => e.seq)).Pairwise (fun a b => b < a)
  /-- The next SEQ is above all of the ring. -/
  below : ∀ e ∈ l.ring, e.seq < l.nextSeq
  /-- And above all of the bed. -/
  bedBelow : ∀ e ∈ l.bed, e.seq < l.nextSeq

/-- The checkpoint ring (R363, R368): 64 checkpoints at most, none ahead of ledger time, none older than the one after it. -/
structure ClockOk (c : Clock) : Prop where
  /-- The ring holds 64. -/
  ring_le : c.ckpts.length ≤ 64
  /-- Ledger time has reached every checkpoint. -/
  reached : ∀ k ∈ c.ckpts, k.ltime ≤ c.ledger
  /-- Newest first. -/
  ordered : (c.ckpts.map (fun k => k.ltime)).Pairwise (fun a b => b ≤ a)

/-- The boot ledger holds at most 2,016 step records (ch. 05). -/
def BootOk (b : Boot) : Prop := b.ring.length ≤ 2016

/-- The invariant of the drive's FRAM stores. -/
structure StoresOk (s : State) : Prop where
  /-- The event log. -/
  log : LogOk s.log
  /-- The checkpoint ring. -/
  clock : ClockOk s.clock
  /-- The boot ledger. -/
  boot : BootOk s.boot

/-! ### Console commands -/

/-- The line of a command that a session sends. -/
def consoleLine : Instr → Option Line
  | .halt l | .reboot l | .holdupMeasure l | .powerShow l | .islandShow l _ | .attrGet l _ _ _ | .attrSet l _ _
  | .commitGroup l _ | .discardGroup l _ | .bayCfgWrite l _ | .tamperClear l _ | .policyPreferWrite l _
  | .netPhyCfgWrite l _ _ | .maxFrameWrite l _ _ | .kvCfgWrite l _ | .routeCfgWrite l _ | .meterKindWrite l _ _
  | .presenceClose l | .ledLocate l _ | .bayShow l | .unknownCommand l | .help l _ | .mode l _ | .who l
  | .log l _ _ _ | .logFollow l _ | .wardenEnrol l _ _ _ | .wardenRemove l _ | .wardenShow l | .startShow l
  | .ledgerShow l _ | .startClear l | .portShow l _ | .portStats l _ _ | .portStatsClear l _ | .portCaptureRead l _ _
  | .dormantEnter l | .netShow l _ | .netStats l | .netLldp l _ | .netRenew l _ | .timeSet l _ | .timeAccept l
  | .timeShow l | .kvShow l | .kvStats l | .kvConns l _ | .kv1Enable l | .kv1Disable l | .kv1Allow l _ _
  | .kv1Deny l _ | .kv1Show l | .stallShow l _ | .stallCreate l _ _ | .stallReset l _ | .stallRebind l _ _
  | .stallRemove l _ _ | .stallFreeze l _ | .stallBlobRead l _ _ _ | .stallBlobLoad l _ _ _ | .stallThaw l _ _
  | .stallRelocate l _ _ _ _ _ | .stallRelocateCancel l _ | .stallAdopt l _ _ | .stallKeyExport l _ _
  | .stallCredShow l _ | .stallCredNew l _ _ | .stallCredSet l _ _ _ | .stallCredClear l _ _ | .mbxCompose l _ _
  | .mbxWardenSend l _ _ _ | .mbxWardenRecv l _ _ | .mbxShow l _ | .meterShow l _ | .meterRecords l _ _ _ _
  | .mediaShow l | .bandShow l _ | .healthShow l | .healthTemp l | .healthHoldup l _ | .arcadeShow l
  | .arcadeBankShow l _ | .arcadeGrant l _ _ _ | .mirrorShow l | .mirrorDrop l _ | .mirrorRestore l _ _ _
  | .rowShow l | .rowMembers l | .rowKeyNew l | .rowKeySet l _ | .parcelPiece l _ _ _ | .parcelShow l
  | .parcelInstall l _ _ _ | .parcelAbandon l | .fwShow l | .configExport l | .lifecycleShow l | .lifecycleSet l _ _
  | .testShow l | .testResults l _ _ _ | .testRun l _ _ _ | .islandRevive l _ | .resShow l => some l
  | _ => none

/-- The line of a command that is privileged whatever it names (R250, and the Fimor commands table): all but `set`,
`discard`, which depend on what they name. -/
def privilegedLine : Instr → Option Line
  | .wardenEnrol l _ _ _ | .wardenRemove l _ | .startClear l | .timeSet l _ | .timeAccept l | .kv1Enable l
  | .kv1Allow l _ _ | .kv1Deny l _ | .stallAdopt l _ _ | .stallKeyExport l _ _ | .mirrorDrop l _ | .rowKeyNew l
  | .rowKeySet l _ | .lifecycleSet l _ _ | .testRun l _ _ _ | .islandRevive l _ => some l
  | _ => none

end Sys2Proof
end

