-- ==== Sys2Proof/Certificates/Slice0/Obligations.lean ====
section
/-!
DEFINITION. The statements for the provers.
-/

open Sys2Proof Sys2Proof.Machine


/-- While SVC samples, a press moves RELEASED to PRESSED; a release moves WAIT_RELEASE and PRESSED to RELEASED, and
after a hold of 3,000 to 59,999 ms outside a halt it opens the presence window for WINDOW_MIN minutes and logs
PRESENCE_OPEN; 60,000 ms pressed, or 40 discrepant samples, lead to LOCKOUT with a presence fault; 2,000 agreed-released
samples end LOCKOUT. -/
def Obligations.StewardButtonFollowsItsStateTable : Prop :=
  ∀ s, svcRuns s = true →
    (exec .buttonPress s = .next { s with bay := { s.bay with
      btn := true, btnA := true, btnB := true, button := if s.bay.button = .released then .pressed else s.bay.button } }) ∧
    (∀ h, s.bay.button = .waitRelease → exec (.buttonRelease h) s = .next { s with bay := { s.bay with
      btn := false, btnA := false, btnB := false, button := .released } }) ∧
    (∀ h, s.bay.button = .pressed → h < 3000 → exec (.buttonRelease h) s = .next { s with bay := { s.bay with
      btn := false, btnA := false, btnB := false, button := .released } }) ∧
    (∀ h, s.bay.button = .pressed → 3000 ≤ h → h < 60000 → halting s = false →
      exec (.buttonRelease h) s = .next (logEv { s with bay := { s.bay with
        btn := false, btnA := false, btnB := false, button := .released, windowMark := true,
        window := some (s.clock.ledger + 60 * cfgField s .bayCfg "WINDOW_MIN" * 1000000) } }
        .presenceOpen { details := [((60 * cfgField s .bayCfg "WINDOW_MIN" : Nat) : Int)] })) ∧
    (∀ h, s.bay.button = .pressed → 60000 ≤ h → ∃ t, exec (.buttonRelease h) s = .next t ∧
      t.bay.button = .lockout ∧ t.bay.faultSeen = true ∧ t.bay.window = none) ∧
    (s.bay.button = .waitRelease ∨ s.bay.button = .pressed → ∃ t, exec .buttonStuck s = .next t ∧
      t.bay.button = .lockout ∧ t.bay.faultSeen = true ∧ t.bay.window = none) ∧
    (∀ b, ∃ t, exec (.buttonDiscrepancy b) s = .next t ∧ t.bay.button = .lockout ∧
      (s.bay.button ≠ .lockout → t.bay.faultSeen = true ∧ t.bay.window = none)) ∧
    (s.bay.button = .lockout → exec .buttonLockoutClear s = .next { s with bay := { s.bay with
      button := .released, btn := false, btnA := false, btnB := false } })

/-- While SVC samples, a decided opening sets TAMPER and logs LID_OPEN, with AT_START for the first decision; a decided
closing logs LID_CLOSED; 100 discrepant samples lead to FAULT with TAMPER and a presence fault; a repeated decision
changes no state. The window ends at its time with reason 1 and at `presence close` with reason 2; an accepted `presence
close` is answered ok. -/
def Obligations.LidSealAndPresenceWindowFollowTheirTables : Prop :=
  (∀ s, svcRuns s = true → s.bay.lid ≠ .open_ →
    exec .lidOpen s = .next (logEv { s with bay := { s.bay with
      lid := .open_, lidDecided := true, lidA := true, lidB := true, tamper := true } }
      .lidOpen { atStart := !s.bay.lidDecided })) ∧
  (∀ s, svcRuns s = true → s.bay.lid = .open_ →
    exec .lidOpen s = .next { s with bay := { s.bay with lidDecided := true, lidA := true, lidB := true } }) ∧
  (∀ s, svcRuns s = true → s.bay.lid ≠ .closed →
    exec .lidClosed s = .next (logEv { s with bay := { s.bay with
      lid := .closed, lidDecided := true, lidA := false, lidB := false } } .lidClosed {})) ∧
  (∀ s, svcRuns s = true → s.bay.lid = .closed →
    exec .lidClosed s = .next { s with bay := { s.bay with lidDecided := true, lidA := false, lidB := false } }) ∧
  (∀ s b, svcRuns s = true → s.bay.lid ≠ .fault → ∃ t, exec (.lidDiscrepancy b) s = .next t ∧ t.bay.lid = .fault ∧
    t.bay.lidA = !b ∧ t.bay.lidB = b ∧ t.bay.tamper = true ∧ t.bay.faultSeen = true ∧ t.bay.window = none) ∧
  (∀ s w, s.bay.window = some w → exec .presenceExpiry s =
    .next (logEv { advanceTo s w with bay := { s.bay with window := none, windowMark := false } }
      .presenceClosed { reason := 1 })) ∧
  (∀ s l d, Accepts s l { safe := true, hold := true } none d →
    exec (.presenceClose l) s = .next (answer
      (if s.bay.window = none then heard s l
       else logEv { heard s l with bay := { s.bay with window := none, windowMark := false } }
        .presenceClosed { reason := 2 }) l.sess l.tag (.ok []) none))

/-- USB attachment opens the USB console while the consoles are served and detachment ends it with its settings; a break
or low of 250 to 2,000 ms is an attention signal, which empties the partial line, returns the console to typed mode with
CRC off and prints the prompt, any other length is none; SET_LINE_CODING has no effect; J-SVC takes its filtered reading; J-CON counts
framing errors and short breaks, enters LINE_FAULT once and leaves it with LINE_RECOVERED; locate runs for the given
time, 600 s by default, 0 stops it. -/
def Obligations.ConsoleLinesJumperAndLocateActAsTheBayChapterSays : Prop :=
  (∀ s, s.bay.usb = false → svcUp s = true → exec .usbAttach s = .next { s with
    bay := { s.bay with usb := true }
    con := { s.con with
      sessions := AMap.set s.con.sessions .usb { lastRx := s.clock.ledger, startWall := wallNow s, serial := s.con.nextSerial }
      nextSerial := s.con.nextSerial + 1 } }) ∧
  (∀ s, s.bay.usb = true ∨ svcUp s = false → exec .usbAttach s = .next { s with bay := { s.bay with usb := true } }) ∧
  (∀ s, exec .usbDetach s = .next { s with
    bay := { s.bay with usb := false }
    con := { s.con with sessions := AMap.del s.con.sessions .usb }
    stalls := { s.stalls with compose := AMap.del s.stalls.compose .usb } }) ∧
  (∀ s ms d, 250 ≤ ms → ms ≤ 2000 → getSess s .usb = some d → exec (.usbSendBreak ms) s = .next
    (putText (emit (updSess s .usb (fun d => { d with
      partialLine := [], overlong := false, lineReady := none, machine := false, crc := false })) (.notice .usb .attention)) .usb 5 "w128> ")) ∧
  (∀ s ms, ms < 250 ∨ 2000 < ms → exec (.usbSendBreak ms) s = .next s ∧ exec (.jconAttention ms) s = .next s) ∧
  (∀ s, exec .usbSetLineCoding s = .next s) ∧
  (∀ s b, svcRuns s = true → exec (.jsvcChange b) s = .next { s with bay := { s.bay with jsvc := b } }) ∧
  (∀ s d, getSess s .jcon = some d → s.bay.lineFault = false →
    exec .jconFramingError s = .next { s with bay := { s.bay with framingErrors := s.bay.framingErrors + 1 } } ∧
    exec .jconShortBreak s = .next { s with bay := { s.bay with shortBreaks := s.bay.shortBreaks + 1 } } ∧
    exec .lineFault s = .next (logEv (updSess { s with bay := { s.bay with lineFault := true } } .jcon
      (fun d => { d with partialLine := [], overlong := false, lineReady := none })) .lineFault {}) ∧
    ∀ ms, 250 ≤ ms → ms ≤ 2000 → exec (.jconAttention ms) s = .next
      (putText (emit (updSess s .jcon (fun d => { d with
        partialLine := [], overlong := false, lineReady := none, machine := false, crc := false })) (.notice .jcon .attention)) .jcon 5 "w128> ")) ∧
  (∀ s, s.bay.lineFault = true → exec .lineFault s = .next s ∧ exec .jconFramingError s = .next s ∧
    exec .jconShortBreak s = .next s ∧ (∀ ms, exec (.jconAttention ms) s = .next s) ∧
    exec .lineRecovered s = .next (logEv { s with bay := { s.bay with lineFault := false } } .lineRecovered {})) ∧
  (∀ s l d (t : Option Int), 0 ≤ t.getD 600 → t.getD 600 ≤ 3600 → Accepts s l { safe := true, hold := true } none d →
    exec (.ledLocate l t) s = .next (answer { heard s l with bay := { s.bay with
      locate := if t.getD 600 = 0 then none else some (s.clock.ledger + (t.getD 600).toNat * 1000000) } }
      l.sess l.tag (.ok []) none)) ∧
  (∀ s t, s.bay.locate = some t → exec .locateExpiry s =
    .next { advanceTo s t with bay := { s.bay with locate := none } })

/-- The loss of a powered feed is logged; the loss of the lead changes over to a powered standby with at most 2 J, and
without one leaves the drive without a lead that is powered; a feed powered after the lead is chosen is logged
FEED_RESTORED and the budgets apply; an allocation on a powered port with link is recorded, applied and then echoed; a
planned changeover is made at once when the lead permits no level and the standby does, else 30 s after the standby
began to permit a higher level; a rise waits for 30 s of budget, 60 s since the last change and a full bank; starvation
of 10 s marks the port and begins the halt; the lead is chosen 100 ms after the first power; S01 ends when the budget is
met. LLDPDUs carry the requested power and the echo. -/
def Obligations.FeedsAndLevelsMoveAsThePowerChapterSays : Prop :=
  (∀ s p e v, (getFeed s p).powered = false → exec (.feedLost p e v) s = .next s) ∧
  (∀ s p e v, (getFeed s p).powered = true → s.power.lead ≠ some p → exec (.feedLost p e v) s = .next
    (noteStandby (logEv (updFeed s p (fun f =>
      { f with powered := false, detect := false, pseType := 0, alloc := none, late := none, lldpSeen := false, echo := 0 })) .feedLost { port := some p }))) ∧
  (∀ s p e v, (getFeed s p).powered = true → s.power.lead = some p →
    ∃ u, u = updPower (logEv (updFeed s p (fun f =>
      { f with powered := false, detect := false, pseType := 0, alloc := none, late := none, lldpSeen := false, echo := 0 })) .feedLost { port := some p }) (fun d => { d with vBank := Nat.min d.vBank v }) ∧
    exec (.feedLost p e v) s = .next
      (if (getFeed s p.other).powered then changeLead u p.other .loss (Nat.min e 200) else u)) ∧
  (∀ s p n, (getFeed s p).powered = true → exec (.feedRestored p n) s = .next s ∧ exec (.portPowerOn p n) s = .next s) ∧
  (∀ s p n u, powered s = true → (getFeed s p).powered = false →
    u = updFeed s p (fun f =>
      { f with powered := true, detect := true, pseType := pseTypeOf n, alloc := none, late := none, echo := 0, lldpSeen := false, starved := false }) →
    (s.power.lead ≠ none → exec (.feedRestored p n) s = .next (rebudget (logEv u .feedRestored { port := some p }))) ∧
    (s.power.lead = none → starting s = true → exec (.portPowerOn p n) s = .next { u with boot := { s.boot with
      firstPower := some (s.boot.firstPower.getD s.clock.ledger) } })) ∧
  (∀ s p a u, (getFeed s p).powered = true → (getPort s p).link = true → s.fw.gateUpdate = none →
    u = updFeed (rebudget (updFeed s p (fun f => { f with alloc := some a, lldpSeen := true }))) p (fun f => { f with echo := a }) →
    (stepOpen u 18 = false ∨ u.power.lead ≠ some p → exec (.lldpAllocation p a) s = .next u) ∧
    (stepOpen u 18 = true → u.power.lead = some p → (getFeed u p).alloc.isSome = true →
      exec (.lldpAllocation p a) s = .next (endStep u 18 .ok 0))) ∧
  (∀ s p a, (getFeed s p).powered = true → (getPort s p).link = true → s.fw.gateUpdate ≠ none → stepOpen s 18 = false →
    exec (.lldpAllocation p a) s = .next (updFeed s p (fun f => { f with late := some a, lldpSeen := true }))) ∧
  (∀ s p a, (getFeed s p).powered = false ∨ (getPort s p).link = false → stepOpen s 18 = false →
    exec (.lldpAllocation p a) s = .next s) ∧
  (∀ s p, exec (.lldpTransmit p) s = .next (sendLink (updPort s p (fun d => { d with lldpFast := d.lldpFast - 1 })) p
    (lldpPdu s p 120) 4)) ∧
  (∀ s p e, s.power.lead = some p → budgetOf s p < 120 → 120 ≤ budgetOf s p.other →
    exec (.plannedChangeover e) s = .next (changeLead s p.other .planned e)) ∧
  (∀ s p t e, s.power.lead = some p → 120 ≤ budgetOf s p → s.power.standbySince = some t →
    exec (.plannedChangeover e) s = .next (changeLead (advanceTo s (t + 30 * 1000000)) p.other .planned e)) ∧
  (∀ s p w e, ∃ u, changeLead s p w e = noteStandby (applyBudget u) ∧
    u.power = { s.power with lead := some p, standbySince := none }) ∧
  (∀ s t u, s.power.upSince = some t → s.power.charged = true → 30000 ≤ s.power.vBank →
    u = advanceTo s (Nat.max (t + 30 * 1000000) (s.power.levelAt + 60 * 1000000)) →
    exec .levelUp s = .next (noteBudget (setLevel u (levelFor (budget u))))) ∧
  (∀ s, s.power.upSince = none ∨ s.power.charged = false ∨ s.power.vBank < 30000 → exec .levelUp s = .next s) ∧
  (∀ s t p, s.power.starvingSince = some t → s.power.lead = some p → exec .starvedTimeout s = .next
    (beginHalt (updPower (updFeed (advanceTo s (t + 10 * 1000000)) p (fun f => { f with starved := true }))
      (fun d => { d with starvingSince := none })) .starvation)) ∧
  (∀ s t, starting s = true → s.boot.fg = 1 → s.power.lead = none → s.boot.firstPower = some t →
    exec .leadSelect s = .next (match leadChoice (advanceTo s (t + 100000)) with
      | none => advanceTo s (t + 100000)
      | some p => takeLead (advanceTo s (t + 100000)) p)) ∧
  (∀ s p, starting s = true → s.boot.fg = 1 → s.power.lead = some p → 120 ≤ budgetOf s p →
    exec .s01BudgetMet s = .next (endS01 s))

/-- A measurement is asked for by command (busy while one runs or before the bank is full) or 24 h after the last; it
discharges once dirty data is below the lowered cap and the bank is full; its end records E and the bank's voltage and
judges E; a charge timeout records E as 0 and runs write-through with reason NO_CHARGE; a cell fault is logged once and
starts a measurement; writes are gated once below -20.0 °C and open from -15.0 °C, when a replay that waited is done;
the heater follows its thresholds and stays off at L2 and L3; each new thermal state is logged, HALT begins an orderly
halt; admission under the cap is tried again. -/
def Obligations.HoldupColdAndHeatActAsThePowerChapterSays : Prop :=
  (∀ s l d, Accepts s l {} none d → exec (.holdupMeasure l) s = .next
    (if s.power.measuring = .idle ∧ s.power.charged = true
     then answer (askMeasure (heard s l) .command) l.sess l.tag (okLine [("", .name "measuring")]) none
     else answer (heard s l) l.sess l.tag .busy none)) ∧
  (∀ s, powered s = true → s.power.measuring = .idle → exec .holdupPeriodic s = .next
    (askMeasure (advanceTo s (s.power.lastMeas + 24 * 3600 * 1000000)) .periodic)) ∧
  (∀ s c, (askMeasure s c).power = { s.power with measuring := .draining } ∧
    (askMeasure s c).upkeep = { s.upkeep with measCause := some c }) ∧
  (∀ s, s.power.measuring = .draining → dirtyBytes s ≤ cap s * 1048576 ∨ s.upkeep.measCause = some .cellFault →
    s.power.charged = true → 30000 ≤ s.power.vBank →
    exec .holdupDischargeStart s = .next { s with power := { s.power with measuring := .discharging } }) ∧
  (∀ s e v, s.power.measuring = .discharging → exec (.holdupMeasureDone e v) s = .next
    (judgeE (updPower (recordE s e) (fun d => { d with vBank := v, measuring := .recharging, charged := false })))) ∧
  (∀ s e, (recordE s e).power = { s.power with
    eMeas := Nat.min e 65535, lastMeas := s.clock.ledger, cellWt := s.power.cellWt && s.power.measAgain }) ∧
  (∀ s, s.power.eMeas < 2240 → (judgeE s).power = { s.power with weak := true }) ∧
  (∀ s, 2240 ≤ s.power.eMeas → s.power.eMeas < 2400 → judgeE s = s) ∧
  (∀ s, 2400 ≤ s.power.eMeas → (judgeE s).power = { s.power with weak := false }) ∧
  (∀ s u, u = { s with power := { s.power with
        vBank := 30000, charged := true, measuring := if s.power.measuring = .recharging then .idle else s.power.measuring } } →
    (s.power.measAgain = false → s.power.measuring ≠ .draining ∨ s.upkeep.measCause ≠ some .cellFault →
      exec .bankRecharged s = .next u) ∧
    (s.power.measAgain = true → s.power.measuring = .idle ∨ s.power.measuring = .recharging → ∃ t, exec .bankRecharged s = .next t ∧
      t.power = { u.power with measAgain := false, measuring := .discharging } ∧ t.upkeep.measCause = some .cellFault) ∧
    (s.power.measuring = .draining → s.upkeep.measCause = some .cellFault → ∃ t, exec .bankRecharged s = .next t ∧
      t.power = { u.power with measuring := .discharging } ∧ t.upkeep.measCause = some .cellFault)) ∧
  (∀ s v, s.power.measuring ≠ .idle → ∃ t, exec (.holdupChargeTimeout v) s = .next t ∧ t.power = { s.power with
    eMeas := 0, lastMeas := s.clock.ledger, cellWt := false, vBank := v, measuring := .idle, charged := false, weak := true
    measAgain := false }) ∧
  (∀ s c v d, c ∉ s.power.cells → d = { s.power with cells := c :: s.power.cells, cellWt := true } →
    (s.power.measuring = .discharging ∨ s.power.measuring = .recharging → ∃ t, exec (.cellFault c v) s = .next t ∧
      t.power = { d with measAgain := true }) ∧
    (s.power.measuring = .idle ∨ s.power.measuring = .draining → ∃ t, exec (.cellFault c v) s = .next t ∧
      t.power = { d with measuring := if fullyCharged s then .discharging else .draining } ∧
      t.upkeep.measCause = some .cellFault)) ∧
  (∀ s c v, c ∈ s.power.cells → exec (.cellFault c v) s = .next s) ∧
  (∀ s c, exec (.cellReturn c) s = .next { s with power := { s.power with
    cells := s.power.cells.filter (fun x => decide (x ≠ c)) } }) ∧
  (∀ s, exec .capAdmission s = .next (rerun s .waitCap)) ∧
  (∀ s f, f < -200 → s.power.coldGate = false → exec (.coldGate f) s = .next
    (logEv { s with power := { s.power with
        flashMin := f, coldGate := true, dummy := decide (s.power.level = .l0) || decide (s.power.level = .l1) } } .coldGate { details := [f] })) ∧
  (∀ s f, -200 ≤ f ∨ s.power.coldGate = true →
    exec (.coldGate f) s = .next { s with power := { s.power with flashMin := f } }) ∧
  (∀ s f, -150 ≤ f → s.power.coldGate = true → ∃ u, u =
      logEv { s with power := { s.power with flashMin := f, coldGate := false, dummy := false } } .coldOpen { details := [f] } ∧
    exec (.coldOpen f) s = .next (match s.media.replayHeld, s.media.image with
      | true, some img => replayData (replayLog u img) img
      | _, _ => u)) ∧
  (∀ s f, f < -150 ∨ s.power.coldGate = false →
    exec (.coldOpen f) s = .next { s with power := { s.power with flashMin := f } }) ∧
  (∀ s f, exec (.heaterSwitch f) s = .next { s with power := { s.power with
    flashMin := f, heater := heaterFor s f, dummy := s.power.coldGate && (decide (s.power.level = .l0) || decide (s.power.level = .l1)) } }) ∧
  (∀ s f, (s.power.level = .l2 ∨ s.power.level = .l3 ∨ (starting s = true ∧ s.boot.fg ≤ 2) → heaterFor s f = false) ∧
    (s.power.level = .l0 ∨ s.power.level = .l1 → starting s = false ∨ 2 < s.boot.fg →
      heaterFor s f = if f < -150 then true else if -100 ≤ f then false else s.power.heater)) ∧
  (∀ s f, thermalNext s.power.thermal f = s.power.thermal → exec (.thermalThrottle f) s = .next
    { s with power := { s.power with flashMax := f } }) ∧
  (∀ s f x, x = thermalNext s.power.thermal f → x ≠ s.power.thermal →
    ∃ u, u = logEv { s with power := { s.power with flashMax := f, thermal := x } } .thermalThrottle
      { details := [(thermalCode s.power.thermal : Int), (thermalCode x : Int)] } ∧
    exec (.thermalThrottle f) s = .next
      (if x = .halt then beginHalt (logEv u .thermalHalt { details := [f] }) .thermal else u))

/-- A running island outside ±5 % of its clock or ±8 % of its supply faults, inside it nothing happens; the third
handshake timeout of an island within 1 s is its fault; a watchdog expiry kills a non-essential island, flushes for an
essential one, resets the gatehouse for PWR; the gatehouse comes back with GATEHOUSE_RESET or, after 50 ms, as an
essential fault; only a running non-essential island without work is gated, a GATED one wakes; a corrected DRAM error counts, a scrub
pass notes its time, an uncorrectable one acts by its region and its rebuild ends. -/
def Obligations.IslandsFaultGateAndWakeAsTheirChapterSays : Prop :=
  (∀ s i c f v, (getIsl s i).state = .run ∨ (getIsl s i).state = .gated →
    (c = .clock ∧ 500 < f.natAbs ∨ c = .voltage ∧ 80 < v.natAbs →
      exec (.islandFault i c f v) s = .next (islandFaulted (updIslRec s i (fun d => { d with freqDev := f, voltDev := v })) i c)) ∧
    (¬ (c = .clock ∧ 500 < f.natAbs ∨ c = .voltage ∧ 80 < v.natAbs) → exec (.islandFault i c f v) s = .next s)) ∧
  (∀ s i c f v, ((getIsl s i).state = .off ∨ (getIsl s i).state = .dead ∨ (getIsl s i).state = .isolated) →
    s.life.under ≠ some i → exec (.islandFault i c f v) s = .next s ∧ exec (.watchdogExpiry i) s = .next s ∧
      ∀ q, exec (.handshakeTimeout i q) s = .next s) ∧
  (∀ s i q, (getIsl s i).state = .run ∨ (getIsl s i).state = .gated →
    ∃ u ts, u = logEv (itemAbsent s i q.item) .handshakeTimeout { island := some i, details := [(q.island.id : Int)] } ∧
      ts = u.clock.ledger :: (getIsl u i).timeouts.filter (fun t => decide (u.clock.ledger < t + 1000000)) ∧
      exec (.handshakeTimeout i q) s = .next
        (if 3 ≤ ts.length then islandFaulted (updIslRec u i (fun d => { d with timeouts := [] })) i .handshakeTimeout
         else updIslRec u i (fun d => { d with timeouts := ts }))) ∧
  (∀ s i, (getIsl s i).state = .run ∨ (getIsl s i).state = .gated → exec (.watchdogExpiry i) s = .next
    (if i = .pwr then gateFault (noteWatchdog s) .watchdog
     else if i.essential then essentialFault (countFault (noteWatchdog s) i .watchdog) i .watchdog
     else deadIsland (noteWatchdog s) i .watchdog)) ∧
  (∀ s, (getIsl s .pwr).state = .run → exec .gatehouseWatchdog s = .next (gateFault (noteWatchdog s) .watchdog)) ∧
  (∀ s, (getIsl s .svc).state = .run → exec .referenceClockLoss s = .next (essentialFault (countFault s .svc .clock) .svc .clock)) ∧
  (∀ s t c, s.isl.gateReset = some (t, c) →
    exec .gatehouseReset s = .next (logEv (noteWatchdog { s with isl := { s.isl with gateReset := none } }) .gatehouseReset {}) ∧
    exec .gatehouseResetTimeout s = .next
      (essentialFault { advanceTo s (t + 50000) with isl := { s.isl with gateReset := none } } .pwr c)) ∧
  (∀ s, s.isl.gateReset = none → exec .gatehouseReset s = .next s ∧ exec .gatehouseResetTimeout s = .next s) ∧
  (∀ s i, exec (.islandGate i) s = .next
    (if (getIsl s i).state = .run ∧ i.essential = false ∧ hasWork s i = false then setIsl s i .gated else s)) ∧
  (∀ s i, exec (.islandWake i) s = .next (if (getIsl s i).state = .gated then setIsl s i .run else s)) ∧
  (∀ s i x, (getIsl (setIsl s i x) i).state = x) ∧
  (∀ s n, (getIsl s .dram).state = .run →
    exec (.dramCorrected n) s = .next { s with isl := { s.isl with eccCorrected := sat (s.isl.eccCorrected + n) (2 ^ 64 - 1) } } ∧
    exec .dramScrub s = .next { s with isl := { s.isl with scrubAt := s.clock.ledger } } ∧
    ∀ r ks, exec (.dramUncorrectable r ks) s = .next (match r with
      | .writeBuffer => if ks.any (inBuffer s) then ks.foldl loseBuffered s
          else logEv s .dramUncorrectable { reason := 5, details := [0] }
      | .firmware => essentialFault (countFault (logEv s .dramUncorrectable { reason := 6, details := [0] }) .dram .none_) .dram .none_
      | .cache => logEv s .dramUncorrectable { reason := 1, details := [0] }
      | r => { logEv s .dramUncorrectable { reason := regionCode r, details := [0] } with
          isl := { s.isl with rebuilding := s.isl.rebuilding ++ [(r, ks)] } })) ∧
  (∀ s r ks rest, s.isl.rebuilding = (r, ks) :: rest →
    exec (.dramRebuildDone r) s = .next { s with isl := { s.isl with rebuilding := rest } })

/-- Detection voltage on an unpowered drive, and a restart, begin S01. A command about a step acts only while that step
is open in a start. Completion does the step's last action; S05 and S06 bring CORE and DRAM to RUN; S18 ends once the lead
has its allocation, S19 once every configured family has an address, S20 once a time source is accepted. A check that fails at S05 to S08 writes the DONE record with the failure and its detail and restarts the drive; S03
or S04 failing for the third time leads to safe mode; S02, S09 and S17 to S21 never fail. A timeout ends the step at its
limit. The hot hold repeats every 60 s; while no port has link training starts again; S17 ends 10 s after the first
link. `start clear` clears the counts, marks and cause, writes a CLEAR record and logs START_CLEARED. -/
def Obligations.StartStepsBeginEndAndFailAsTheStartChapterSays : Prop :=
  (∀ s p r, s.phase = .off → exec (.detectionVoltage p r) s = .next (beginStart (updFeed s p (fun f => { f with detect := true })) r)) ∧
  (∀ s p r, s.phase ≠ .off → exec (.detectionVoltage p r) s = .next (updFeed s p (fun f => { f with detect := true }))) ∧
  (∀ s r, s.phase = .restarting → ∃ u, u = beginStart s r ∧ exec (.startBegin r) s = .next { u with boot := { u.boot with
    firstPower := if (getFeed u .p0).powered || (getFeed u .p1).powered then some u.boot.s01At else none } }) ∧
  (∀ s r, (beginStart s r).phase = .starting ∧ (beginStart s r).boot.step = 1 ∧ (beginStart s r).boot.fg = 1) ∧
  (∀ s d, s.phase = .starting → s.boot.fg = stepOf d ∨ s.boot.scan = some (stepOf d) → stepOf d ≠ 0 →
    exec (.startStepComplete d) s = .next (finishStep s d)) ∧
  (∀ s d, s.phase ≠ .starting ∨ (s.boot.fg ≠ stepOf d ∧ s.boot.scan ≠ some (stepOf d)) →
    exec (.startStepComplete d) s = .next s) ∧
  (∀ s, finishStep s (.plain 5) = endStep (setIsl s .core .run) 5 .ok 0 ∧
    finishStep s (.plain 6) = endStep (setIsl s .dram .run) 6 .ok 0 ∧
    finishStep s (.plain 18) = (if leadAllocated s then endStep s 18 .ok 0 else s) ∧
    finishStep s (.plain 19) = (if allAcquired s then endStep s 19 .ok 0 else s) ∧
    finishStep s (.plain 20) = (if sourceAccepted s then endStep s 20 .ok 0 else s)) ∧
  (∀ s n x, s.phase = .starting → s.boot.fg = n → 5 ≤ n → n ≤ 8 → exec (.startStepFail n x) s = .next (failStep s n .fail x)) ∧
  (∀ s n x, n = 2 ∨ n = 9 ∨ 17 ≤ n ∧ n ≤ 21 → exec (.startStepFail n x) s = .next s) ∧
  (∀ s n r x, stepFails s n < 2 → (failStep s n r x).phase = .restarting) ∧
  (∀ s n r x, n ≠ 3 → n ≠ 4 → (failStep s n r x).phase = .restarting) ∧
  (∀ s n r x, n = 3 ∨ n = 4 → 2 ≤ stepFails s n → (failStep s n r x).phase = .safe) ∧
  (∀ s n d t, s.phase = .starting → s.boot.fg = n → n ≠ 0 → n ≠ 11 ∨ s.boot.scan = none →
    n ≠ 16 ∨ s.boot.hotHold = none → stepSeconds n = some t →
    exec (.startStepTimeout n d) s = .next (timeoutStep (advanceTo s (begunAt s n + t * 1000000)) n d)) ∧
  (∀ s t, s.boot.hotHold = some t → exec .startHotHold s = .next (logEv { advanceTo s (t + 60 * 1000000) with
    boot := { s.boot with hotHold := some (advanceTo s (t + 60 * 1000000)).clock.ledger } } .startHotHold
    { details := [s.power.flashMax] })) ∧
  (∀ s, s.phase = .starting → s.boot.fg = 17 → (getPort s .p0).link = false → (getPort s .p1).link = false →
    exec .s17LinkRetry s = .next ((trainedPorts s).foldl train s)) ∧
  (∀ s a b t, s.phase = .starting → s.boot.fg = 17 → s.boot.s17Link = some t → exec (.s17Complete a b) s = .next
    (endS17 (updPort (updPort (advanceTo s (t + 10 * 1000000)) .p0 (fun d => { d with energy := a || d.link })) .p1
      (fun d => { d with energy := b || d.link })))) ∧
  (∀ s l d, Accepts s l { safe := true, priv := true } none d → ∃ u, exec (.startClear l) s =
      .next (answer (logEv u .startCleared {}) l.sess l.tag (.ok []) none) ∧
    u.boot.blk.failedStarts = 0 ∧ u.boot.blk.stepFails = [] ∧ u.boot.blk.chanFails = [] ∧ u.boot.blk.kept = [] ∧
    u.boot.blk.safeCause = .none_ ∧ ∃ x, u.boot.ring.head? = some x ∧ x.kind = .clear)

/-- An orderly halt begins only from a start, READY or the hold, and leaves the drive draining for its reason; the
drain's end answers what waits `err HALTING`, closes sessions and connections and leaves the drive flushing; the end of
the flush saves the Arcade image, copies the log and goes on to what follows the halt. `reboot` halts for a restart from
a start or READY, restarts at once when halted, held or in safe mode, and is busy while the halt drains or flushes.
Power-fail in a powered state begins a flush; the flush's end writes its record and restarts with a feed present, else
the drive is off; in Dormant power-fail leaves the drive off. `dormant enter` needs READY and an armed port; a matching
frame at an armed port that passes the filter restarts a Dormant drive. The event log is copied on demand. -/
def Obligations.HaltsFlushesAndDormantRunAsTheirRulesSay : Prop :=
  (∀ s r, exec (.orderlyHalt r) s = .next (beginHalt s r)) ∧
  (∀ s r, s.phase = .starting ∨ s.phase = .ready ∨ s.phase = .hold →
    (beginHalt s r).phase = .draining r ∧ (beginHalt s r).row.beaconing = false) ∧
  (∀ s r, s.phase ≠ .starting → s.phase ≠ .ready → s.phase ≠ .hold → beginHalt s r = s) ∧
  (∀ s r, s.phase = .draining r → ∃ u, exec .haltDrainEnd s = .next (setPhase u (.flushing r)) ∧
    ∃ v, u = dropOps (closeAll v)) ∧
  (∀ s, (∀ r, s.phase ≠ .draining r) → exec .haltDrainEnd s = .next s) ∧
  (∀ s r ok, s.phase = .flushing r → exec (.haltFlushDone ok) s =
    .next (afterHaltFlush (copyLog (saveArcImage (haltFlush s))) r ok)) ∧
  (∀ s r t ok, s.life.intent = some t → afterHaltFlush s r ok =
    finishHalt (burnIntent { s with boot := { s.boot with orderly := true } } t ok) .restart) ∧
  (∀ s r ok, s.life.intent = none → (getFeed s .p0).powered = false → (getFeed s .p1).powered = false →
    afterHaltFlush s r ok = finishHalt { s with boot := { s.boot with orderly := true } } r) ∧
  (∀ s l d, Accepts s l { safe := true, hold := true } none d → exec (.reboot l) s = .next (match s.phase with
    | .draining _ | .flushing _ => answer (heard s l) l.sess l.tag .busy none
    | .selftest _ => answer (writeRtc (checkpoint (logSetEnd (stopRun (heard s l) .cut) .cut) .halt)) l.sess l.tag
        (okLine [("", .name "rebooting")]) (some .restart)
    | .starting | .ready => answer (heard s l) l.sess l.tag (okLine [("", .name "rebooting")]) (some (.halt .restart))
    | _ => answer (heard s l) l.sess l.tag (okLine [("", .name "rebooting")]) (some .restart))) ∧
  (∀ s, s.phase ≠ .off → s.phase ≠ .dormant → (∀ c, s.phase ≠ .failFlush c) → ∃ t, exec .powerFail s = .next t ∧
    t = beginFlush (dropFeeds (stopRun s .powerFail)) .powerFail ∧ t.phase = .failFlush .powerFail) ∧
  (∀ s, s.phase = .dormant → ∃ t, exec .powerFail s = .next t ∧ t.phase = .off ∧ (getFeed t .p0).powered = false ∧
    (getFeed t .p1).powered = false) ∧
  (∀ s c e, s.phase = .failFlush c → ∃ t, exec (.flushComplete e) s = .next t ∧
    t.phase = (if (getFeed s .p0).powered || (getFeed s .p1).powered then .restarting else .off) ∧
    ∃ r, t.boot.flushRec = some r ∧ r.cause = c ∧ r.duration = e.duration ∧ r.startNo = s.boot.gateStartNo) ∧
  (∀ s l d, Accepts s l {} none d → exec (.dormantEnter l) s = .next
    (if s.phase = .ready ∧ (canArm s .p0 ∨ canArm s .p1) then
      (if slotPending s then answer (heard s l) l.sess l.tag .busy none
       else answer (logEv (updPort (updPort (heard s l) .p0 (fun d => { d with armed := canArm s .p0 })) .p1
           (fun d => { d with armed := canArm s .p1 }))
         .dormantEnter { details := [((b2n (canArm s .p0) + 2 * b2n (canArm s .p1) : Nat) : Int)] })
         l.sess l.tag (.ok []) (some (.halt .dormant)))
     else answer (heard s l) l.sess l.tag (.err .noWake) none)) ∧
  (∀ s p f c, s.phase = .dormant → (getPort s p).armed = true → passesKept s p f.dst = true → wakeCause s p f = some c →
    ∃ t, exec (.wake p f) s = .next t ∧ t.phase = .restarting ∧ t.ports.wake = some (p, c)) ∧
  (∀ s p f, s.phase ≠ .dormant ∨ (getPort s p).armed = false ∨ passesKept s p f.dst = false ∨ wakeCause s p f = none →
    exec (.wake p f) s = .next s) ∧
  (∀ s, bedWritable s = true → exec .eventLogCopy s = .next { s with log := { s.log with
    bed := (s.log.ring.take s.log.waiting ++ s.log.bed).take 262144, waiting := 0 } })

/-- The result of an island under test ends its test with the engine's readings: PASS carries no part, FAIL counts with
a part the island has, any other result or island changes nothing; leaving the limits stops the test as NOT_RUN with
part LIMITS. `test run` is refused in its stated order, busy while a run is open, else it opens a commanded run: an
island within limits is isolated and its answer waits, one outside them is recorded NOT_RUN. `island revive` clears the
marks of a non-essential island. `lifecycle set` refuses a wrong serial, a transition that is not allowed, and answers
busy while a slot waits or an install runs; accepted, it notes the intent, logs LC_TRANSITION_BEGIN and restarts. The
state decodes from the fuses with RETIRED first. -/
def Obligations.TestsAndTheLifeCycleActAsChapter18Says : Prop :=
  (∀ s r, s.life.under = some r.island → r.result = .pass →
    exec (.selftestIslandDone r) s = .next (testEnds s { r with part := .none_, detail := 0 })) ∧
  (∀ s r ps, s.life.under = some r.island → r.result = .fail →
    ps = (match s.life.cmd with | some c => c.parts | none => partsOf r.island) →
    (r.part ∈ ps → exec (.selftestIslandDone r) s = .next (testEnds s r)) ∧
    (r.part ∉ ps → exec (.selftestIslandDone r) s = .next s)) ∧
  (∀ s r, s.life.under ≠ some r.island ∨ (r.result ≠ .pass ∧ r.result ≠ .fail) →
    exec (.selftestIslandDone r) s = .next s) ∧
  (∀ s r, s.life.under = some r.island →
    inLimits { freqDev := r.freqDev, voltDev := r.voltDev, junction := r.junction } = false →
    exec (.selftestLimitLeft r) s = .next (testEnds s { r with result := .notRun, part := .limits, detail := 0 })) ∧
  (∀ s r, s.life.under ≠ some r.island ∨ inLimits { freqDev := r.freqDev, voltDev := r.voltDev, junction := r.junction } = true →
    exec (.selftestLimitLeft r) s = .next s) ∧
  (∀ s r, ∃ u, u = noteReadings (advanceTo s (s.life.underAt + 1000 * r.duration)) r ∧
    testEnds s r = (match s.life.cmd with | some c => cmdPassDone u c r | none => setIslandDone u r)) ∧
  (∀ s l d i id ps n, Island.ofId id = some i →
    Accepts s l { priv := true, consoles := true, blank := true } (testArgErr id ps n) d →
    exec (.testRun l id ps n) s = .next (match testRefusal (heard s l) i with
      | some e => answer (heard s l) l.sess l.tag (.err e) none
      | none => if runOpen s then answer (heard s l) l.sess l.tag .busy none
        else if inLimits (getIsl s i) then
          waits (beginCmd (openRun (heard s l) .command) i (if ps.isEmpty then partsOf i else ps) n.toNat
            (l.sess, d.nextSlot)) l
        else answer (closeRun (addTestRec (openRun (heard s l) .command) (bareRec (openRun (heard s l) .command) i .notRun .limits))
            .complete) l.sess l.tag (okLine [("result", .name (testResultName .notRun)), ("part", .name (testPartName .limits)),
              ("ms", .num 0)]) none)) ∧
  (∀ s l d id i, Island.ofId id = some i → Accepts s l { priv := true } none d →
    (i.essential = true → exec (.islandRevive l id) s = .next (answer (heard s l) l.sess l.tag (.err .essential) none)) ∧
    (i.essential = false → ∃ u, exec (.islandRevive l id) s =
      .next (answer (logEv u .islandRevived { island := some i }) l.sess l.tag (.ok []) none) ∧
      (getIsl u i).unusable = false ∧ (getIsl u i).deadMark = none ∧ AMap.find u.life.deadTimes i = none)) ∧
  (∀ s l d t n, Accepts s l { priv := true, consoles := true, blank := true } none d →
    exec (.lifecycleSet l (some t) n) s = .next (
      if n ≠ Config.serial then answer (heard s l) l.sess l.tag (.err .serial) none
      else match transitionErr s t with
        | some e => answer (heard s l) l.sess l.tag (.err e) none
        | none =>
          if slotPending s || s.fw.install.isSome then answer (heard s l) l.sess l.tag .busy none
          else answer (logEv { heard s l with life := { s.life with intent := some t, burned := false } } .lcTransitionBegin
              { details := [(lcCode (lcState s) : Int), (lcCode t : Int)] }) l.sess l.tag
            (okLine [("lifecycle", .name (lcName t)), ("", .name "restarting")]) (some (.halt .restart)))) ∧
  (∀ s, s.life.retired = true → lcState s = .retired) ∧
  (∀ s, s.life.retired = false → lcState s = (if s.life.count = 0 then .blank else if s.life.count = 1 then .foundry
    else if s.life.count % 2 = 0 then .field else .returned))

/-- For a session that is open and hears the line, with fewer than four commands waiting, a line (with its tag in machine
mode) whose words form no command is answered `err UNKNOWN_COMMAND`; in safe mode the answer is `err SAFE_MODE`, whatever else is wrong with the
line. Nothing else changes. -/
def Obligations.UnknownCommandsAreAnsweredSo : Prop :=
  ∀ s l d, getSess s l.sess = some d → d.closing = false → (l.sess = .jcon → s.bay.lineFault = false) →
    isMgmt l.sess = true ∨ consolesPaused s = false → (d.machine = true → l.tag ≠ none) → d.slots.length < 4 →
    d.lineReady = none ∨ lineForm (lineWords (lineBody d.machine (d.lineReady.getD []))) = none →
    exec (.unknownCommand l) s =
      .next (answer (heard s l) l.sess l.tag (.err (if s.phase = .safe then .safeMode else .unknownCommand)) none)

/-- A character on a session that is heard is fed to its line and echoed in typed mode while no command runs; on no
session, or on a session that is deaf, it changes nothing. A line that is too long, holds a bad character, lacks its tag
or fails its CRC is answered with that error and executes nothing; a line without such a fault is none of these
commands. `mode` reports, or changes after its answer, typed mode being refused to a management session; `log follow`
sets following; `halt` answers and then begins the orderly halt; an event window ends 1 s after it began. -/
def Obligations.ConsoleInputModesAndLinesActAsTheConsoleChapterSays : Prop :=
  (∀ s x c, getSess s x = none → exec (.consoleChar x c) s = .next s) ∧
  (∀ s x c, (x = .jcon ∧ s.bay.lineFault = true) ∨ (isMgmt x = false ∧ consolesPaused s = true) →
    exec (.consoleChar x c) s = .next s) ∧
  (∀ s x c d, getSess s x = some d → (x = .jcon → s.bay.lineFault = false) →
    (isMgmt x = true ∨ consolesPaused s = false) → exec (.consoleChar x c) s = .next
      (putEcho (updSess s x (fun d => (feedChar d c).1)) x (feedChar d c).2)) ∧
  (∀ d c, d.machine = true ∨ d.slots ≠ [] → (feedChar d c).2 = "") ∧
  (∀ s x t d, getSess s x = some d → (x = .jcon → s.bay.lineFault = false) →
    (isMgmt x = true ∨ consolesPaused s = false) → exec (.consoleBadLine x t) s =
    .next (match lineFaultOf d.machine d.crc t with
      | none => s
      | some e => putReply (updSess s x (fun d => { d with lineReady := none, lastRx := s.clock.ledger })) x
          (if d.machine then lineTag t else none) (.err e))) ∧
  (∀ m c t, (255 < t.length → lineFaultOf m c t = some .lineTooLong) ∧
    (t.length ≤ 255 → (∃ b ∈ t, lineCharOk b = false) → lineFaultOf m c t = some .badChar) ∧
    (t.length ≤ 255 → (∀ b ∈ t, lineCharOk b = true) → (lineFaultOf false c t = none ∧
      (lineTag t = none → lineFaultOf true c t = some .noTag) ∧
      (lineTag t ≠ none → lineSuffix t = none → lineFaultOf true c t = if c then some .crcMissing else none) ∧
      ∀ v, lineTag t ≠ none → lineSuffix t = some v →
        lineFaultOf true c t = if crc16 (t.take (t.length - 5)) = v then none else some .crc))) ∧
  (∀ s l d, Accepts s l {} none d →
    exec (.mode l .report) s = .next (answer (heard s l) l.sess l.tag
      (okLine [("mode", .name (modeName d.machine)), ("crc", .name (onOff d.crc)), ("follow", .name (onOff d.follow))]) none) ∧
    exec (.mode l .typed) s = .next (if isMgmt l.sess then answer (heard s l) l.sess l.tag (.err .mode) none
      else answer (heard s l) l.sess l.tag (.ok []) (some (.mode false false))) ∧
    (∀ c, exec (.mode l (.machine c)) s = .next (answer (heard s l) l.sess l.tag (.ok []) (some (.mode true c)))) ∧
    exec (.halt l) s = .next (answer (heard s l) l.sess l.tag (okLine [("", .name "halting")]) (some (.halt .halt)))) ∧
  (∀ s x m c d, getSess s x = some d → runAfter s x (some (.mode m c)) =
    (if d.machine = true ∧ m = false then putText (updSess s x (fun d => { d with machine := m, crc := c })) x 5 prompt
     else updSess s x (fun d => { d with machine := m, crc := c }))) ∧
  (∀ s x r, runAfter s x (some (.halt r)) = beginHalt s r) ∧
  (∀ s l d b, Accepts s l { safe := true, hold := true } none d → exec (.logFollow l b) s =
    .next (answer (updSess (heard s l) l.sess (fun d => { d with follow := b })) l.sess l.tag (okLine [("follow", .name (onOff b))]) none)) ∧
  (∀ s x d t, getSess s x = some d → d.evWindow = some t →
    exec (.eventLineWindowEnd x) s = .next (closeEvWindow (advanceTo s (t + 1000000)) x)) ∧
  (∀ s x d, getSess s x = some d → d.evWindow = none → exec (.eventLineWindowEnd x) s = .next s)

/-- A completed handshake of an enrolled certificate opens the lowest free management session in machine mode, unless
none is free or the warden has two, which is answered busy; an unknown fingerprint or an invalid certificate is denied
and logged; while the listeners are closed or the service is off, nothing happens. A session closes when idle for 600 s
or at its peer's close. `warden enrol` fills an empty slot with a fingerprint no slot holds; `warden remove` empties a
slot, takes its stalls' owner away and closes its sessions. -/
def Obligations.ManagementSessionsAndWardensFollowTheirRules : Prop :=
  (∀ s i la fp c a, s.proto.listening = false ∨ running s = false ∨ serviceOn s i 3 = false →
    exec (.mgmtConnect i la fp c a) s = .next s) ∧
  (∀ s i la fp c a, s.proto.listening = true → running s = true → serviceOn s i 3 = true →
    (tlsAgreed c = none ∨ wardenOf s fp = none ∨ (c.validDates = false ∧ s.clock.everSet = true)) →
    exec (.mgmtConnect i la fp c a) s =
      .next (logEv (emit s (.accessDenied a)) .mgmtAuthFail { details := addrWords a ++ [fpWord fp] })) ∧
  (∀ s i la fp c a w x, s.proto.listening = true → running s = true → serviceOn s i 3 = true → tlsAgreed c = some x →
    wardenOf s fp = some w → (c.validDates = true ∨ s.clock.everSet = false) → (freeMgmt s = none ∨ 2 ≤ sessionsOf s w) →
      exec (.mgmtConnect i la fp c a) s = .next (turnAway s a)) ∧
  (∀ s i la fp c a w k x, s.proto.listening = true → running s = true → serviceOn s i 3 = true → tlsAgreed c = some x →
    wardenOf s fp = some w → (c.validDates = true ∨ s.clock.everSet = false) → freeMgmt s = some k → sessionsOf s w < 2 →
      ∃ t d, exec (.mgmtConnect i la fp c a) s = .next t ∧ t.fw = { s.fw with sessionSeen := true } ∧
        getSess t (.mgmt k) = some d ∧ d.machine = true ∧ d.warden = some w ∧ d.lastRx = s.clock.ledger ∧
        d.startWall = wallNow s ∧ d.peer = a ∧ d.local_ = la ∧ d.ifc = i ∧ d.serial = s.con.nextSerial ∧
        d.tls = some (x.1, x.2, ownCertificate s) ∧
        ∀ x, x ≠ .mgmt k → getSess t x = getSess s x) ∧
  (∀ c x, tlsAgreed c = some x → c.tls13 = true ∧ x.1 ∈ c.suites ∧ x.2 ∈ c.groups) ∧
  (∀ s k d, getSess s (.mgmt k) = some d →
    exec (.mgmtIdleTimeout k) s = .next (closeMgmt (advanceTo s (d.lastRx + 600 * 1000000)) k 1)) ∧
  (∀ s k, getSess s (.mgmt k) = none → exec (.mgmtIdleTimeout k) s = .next s ∧ exec (.mgmtSessionClose k) s = .next s) ∧
  (∀ s k, exec (.mgmtSessionClose k) s = .next (closeMgmt s k 2) ∧ ∀ r, getSess (closeMgmt s k r) (.mgmt k) = none) ∧
  (∀ s l d w n fp nm, n = (w.val : Int) → Accepts s l { priv := true } none d →
    (AMap.find s.con.wardens w = none → wardenOf s fp = none → ∃ u, exec (.wardenEnrol l n fp nm) s = .next
      (answer (logEv u .wardenEnrolled { details := [(w.val : Int), fpWord fp] }) l.sess l.tag
        (okLine [("", .name "warden"), ("", vn w.val), ("", .name "enrolled")]) none) ∧ AMap.find u.con.wardens w = some { fp := fp, name := nm }) ∧
    ((AMap.find s.con.wardens w).isSome = true → exec (.wardenEnrol l n fp nm) s = .next
      (answer (heard s l) l.sess l.tag (.err .slotUsed) none)) ∧
    (AMap.find s.con.wardens w = none → (wardenOf s fp).isSome = true → exec (.wardenEnrol l n fp nm) s = .next
      (answer (heard s l) l.sess l.tag (.err .fpEnrolled) none)) ∧
    (AMap.find s.con.wardens w = none → exec (.wardenRemove l n) s = .next
      (answer (heard s l) l.sess l.tag (.err .noSuchWarden) none)) ∧
    ((AMap.find s.con.wardens w).isSome = true → ∃ u v, v = logEv u .wardenRemoved { details := [(w.val : Int)] } ∧
      exec (.wardenRemove l n) s = .next (answer ((AMap.keys v.con.sessions).foldl (retireSession w l.sess) v)
        l.sess l.tag (.ok []) none) ∧ AMap.find u.con.wardens w = none ∧
        ∀ x ∈ u.stalls.tab, x.2.owner ≠ some w))

/-- An accepted `get` answers the attribute's word in the form asked for, once its island is reached, else
ISLAND_ABSENT. An accepted `set`, and each set that has a row of its own, writes RW and W1C fields at once and RWC
fields to the group's shadow of its session; a group that another session holds is busy. `commit` of a group without a
shadow is NO_SHADOW (FIXED_BANK for the fixed Arcade banks), with one it commits or answers why not; `discard` drops the
shadow. `kv1 enable`, `disable`, `allow` and `deny` and `arcade grant` write and commit what they name. -/
def Obligations.AttributeCommandsReadWriteCommitAndDiscard : Prop :=
  (∀ s l d n a f g, attrOfNum n = some a → fieldsOf a f ≠ [] → Accepts s l {} none d → exec (.attrGet l n f g) s = .next
    (match reach (heard s l) a with
      | none => answer (heard s l) l.sess l.tag (.err .islandAbsent) none
      | some u => answer u l.sess l.tag (getReply u a f g) none)) ∧
  (∀ s l d a asg ws, assignments a asg = .ok ws → filterErr a (applyFields (attrWord s a) ws) = none →
    Accepts s l (setInfo s l a) none d → ∃ t, t = ran l (setBody (heard s l) l.sess a ws) ∧
    (∀ n, attrOfNum n = some a → exec (.attrSet l n asg) s = .next t) ∧
    (a = .bayCfg → exec (.bayCfgWrite l asg) s = .next t) ∧ (a = .bayStatus → exec (.tamperClear l asg) s = .next t) ∧
    (∀ p, a = .phyCfg p → exec (.netPhyCfgWrite l p asg) s = .next t) ∧
    (a = .kvCfg → exec (.kvCfgWrite l asg) s = .next t) ∧ (a = .routeCfg → exec (.routeCfgWrite l asg) s = .next t) ∧
    (∀ v, a = .policy → asg = oneField "PREFER" v → exec (.policyPreferWrite l v) s = .next t) ∧
    (∀ p v, a = .macCfg p → asg = oneField "MAX_FRAME" v → exec (.maxFrameWrite l p v) s = .next t) ∧
    (∀ x v, a = .meterCfg x → asg = oneField "KIND" v → exec (.meterKindWrite l x v) s = .next t)) ∧
  (∀ s x a ws u g, reach s a = some u → attrGroup a = some g →
    ws.any (fun w => isRwc w.1) = true → groupBusy u g x = false →
    ∃ t, setBody s x a ws = .say t (okLine [("", .name "shadow"), ("", .name (groupName g))]) none ∧
      ∃ h, shadowOf t g = some h ∧ h.holder = x ∧ ∀ g', g' ≠ g → shadowOf t g' = shadowOf u g') ∧
  (∀ s x a ws u, reach s a = some u →
    ws.any (fun w => isRwc w.1) = false → attrDrains u a = false →
    setBody s x a ws = .say (applyWrite u a ws).1 (.ok []) (applyWrite u a ws).2) ∧
  (∀ s x a ws u g, reach s a = some u → attrGroup a = some g →
    ws.any (fun w => isRwc w.1) = true → groupBusy u g x = true → setBody s x a ws = .say u .busy none) ∧
  (∀ s l d g, Accepts s l { role := commitRole s l.sess (some g) } none d → stepDone s (groupStep g) = false →
    exec (.commitGroup l (some g)) s = .next (answer (heard s l) l.sess l.tag .busy none)) ∧
  (∀ s l d g, Accepts s l { role := commitRole s l.sess (some g) } none d → stepDone s (groupStep g) = true →
    shadowOf s g = none → exec (.commitGroup l (some g)) s = .next (answer (heard s l) l.sess l.tag
      (.err (match g with | .arcBank b => if b.val < 4 then .fixedBank else .noShadow | _ => .noShadow)) none)) ∧
  (∀ s l d g h t, Accepts s l { role := commitRole s l.sess (some g) } none d → stepDone s (groupStep g) = true →
    shadowOf s g = some h → tryCommit (heard s l) g l.sess h.written = .ok t →
    exec (.commitGroup l (some g)) s = .next (answer t l.sess l.tag
      (okLine [("", .name (groupName g)), ("sequence", vn t.cfg.sequence)]) none)) ∧
  (∀ s l d g h r, Accepts s l { role := commitRole s l.sess (some g) } none d → stepDone s (groupStep g) = true →
    shadowOf s g = some h →
    tryCommit (heard s l) g l.sess h.written = .error r →
    exec (.commitGroup l (some g)) s = .next (answer (heard s l) l.sess l.tag r none)) ∧
  (∀ s l d g, Accepts s l { priv := groupPrivileged g } none d →
    (shadowOf s g = none → exec (.discardGroup l (some g)) s = .next (answer (heard s l) l.sess l.tag (.err .noShadow) none)) ∧
    ((shadowOf s g).isSome = true → exec (.discardGroup l (some g)) s =
      .next (answer (dropShadow (heard s l) g) l.sess l.tag (.ok []) none) ∧ shadowOf (dropShadow (heard s l) g) g = none)) ∧
  (∀ s l d, Accepts s l { priv := true } none d → exec (.kv1Enable l) s =
    .next (ran l (setBody (heard s l) l.sess .kvCfg [(rw_ "KV1_EN" 0 0 [] 0, 1)]))) ∧
  (∀ s l d, Accepts s l {} none d → exec (.kv1Disable l) s =
    .next (ran l (setBody (heard s l) l.sess .kvCfg [(rw_ "KV1_EN" 0 0 [] 0, 0)]))) ∧
  (∀ s l d a n, Accepts s l { priv := true } (stallErr n) d → exec (.kv1Allow l a n) s = .next
    (match (List.finRange 64).find? (fun k => decide (cfgField s (.kv1SrcCtrl k) "ENABLE" = 0)) with
      | none => answer (heard s l) l.sess l.tag (.err .listFull) none
      | some k => ran l (writeAndCommit (heard s l) l.sess (.kv1Src k) (srcFields k a.toNat 1 (stallArg n).val)
          [("entry", vn k.val)]))) ∧
  (∀ s l d a, Accepts s l { priv := true } none d → exec (.kv1Deny l a) s = .next
    (match kv1Entry s a with
      | none => answer (heard s l) l.sess l.tag (.err .badValue) none
      | some k => ran l (writeAndCommit (heard s l) l.sess (.kv1Src k) (srcFields k 0 0 0) [("entry", vn k.val)]))) ∧
  (∀ s l d b q x, Accepts s l { role := arcRole s l.sess (grantFields b q x).1 (grantFields b q x).2 }
      (firstErr [rangeErr b 4 15, rangeErr q 0 3, x.bind stallErr]) d →
    exec (.arcadeGrant l b q x) s = .next (ran l (writeAndCommit (heard s l) l.sess (.arcBank (grantFields b q x).1)
      (grantFields b q x).2 [])))

/-- A link that is held becomes LINK_UP with its speed, the aggregate member waits for its partner, the pair gains the
port; a port that already has link, or whose links are held down, does not change; in Dormant only an armed port takes
link, without a record. A lost link is logged, counted, voids the allocation and retrains. A downshift drops a speed for
the attempt. The pair returns to the primary port 30 s after its link returned. LACPDUs move a member to DISTRIBUTING
with the aggregate's partner, else to WAITING; without one for 3 s it is DEFAULTED. -/
def Obligations.LinksThePairAndLacpFollowTheirRules : Prop :=
  (∀ s p v n, (getPort s p).link = true → exec (.linkUp p v n) s = .next s) ∧
  (∀ s p v n, (getPort s p).link = false → s.phase = .dormant → exec (.linkUp p v n) s = .next
    (if (getPort s p).armed ∧ v = 1 then updPort s p (fun d => { d with
      link := true, speed := v, energy := true, training := false, linkSince := some s.clock.ledger, lldpFast := 4
      snr := if 3 ≤ v then n else 0 }) else s)) ∧
  (∀ s p v n, (getPort s p).link = false → s.phase = .ready → islUp s p.island = true → (getPort s p).heldDown = false →
    ∃ u w, u = logEv (updPort s p (fun d =>
      { d with
        link := true, speed := v, energy := true, training := false, linkSince := some s.clock.ledger, lldpFast := 4
        snr := if 3 ≤ v then n else 0 })) .linkUp { port := some p, details := [(v : Int)] } ∧
    w = (if aggMode s then updPort u p (fun d => { d with lacp := .waiting, lacpAt := none }) else u) ∧
    exec (.linkUp p v n) s = .next (beginAll (rebudget (renegotiated (portGained (speedMismatch w) p) p)))) ∧
  (∀ s p v n, (getPort s p).link = false → s.phase ≠ .dormant →
    (linksLive s = false ∨ islUp s p.island = false ∨ (getPort s p).heldDown = true) →
    exec (.linkUp p v n) s = .next s) ∧
  (∀ s p, (getPort s p).link = false → exec (.linkDown p) s = .next s) ∧
  (∀ s p, (getPort s p).link = true → s.phase = .dormant →
    exec (.linkDown p) s = .next (updPort s p (fun d => { d with link := false, speed := 0 }))) ∧
  (∀ s p, (getPort s p).link = true → s.phase ≠ .dormant → ∃ u, u = train (portLost (updPort (logEv s .linkDown { port := some p }) p
      (fun d => { d with retrains := sat (d.retrains + 1) 255 })) p) p ∧
    exec (.linkDown p) s = .next (rebudget u)) ∧
  (∀ s p v, (getPort s p).training = true → exec (.linkDownshift p v) s = .next (logEv (updPort s p (fun d => { d with
      dropped := v :: d.dropped
      advertised := d.advertised.filter (fun c => decide (c ≠ v))
      downshifts := sat (d.downshifts + 1) 255 })) .linkDownshift { port := some p, details := [(v : Int)] })) ∧
  (∀ s p v, (getPort s p).training = false → exec (.linkDownshift p v) s = .next s) ∧
  (∀ s t, cfgField s .bondCfg "REVERT" = 1 → aggNow s = false → s.ports.active = some (primaryPort s).other →
    portUp s (primaryPort s) = true → (getPort s (primaryPort s)).linkSince = some t →
    exec .bondRevert s = .next (failoverTo (advanceTo s (t + 30 * 1000000)) (primaryPort s))) ∧
  (∀ s, cfgField s .bondCfg "REVERT" ≠ 1 ∨ aggNow s = true ∨ s.ports.active = some (primaryPort s) →
    exec .bondRevert s = .next s) ∧
  (∀ s p u, aggMode s = true → portUp s p = true → exec (.lacpduReceive p u) s = .next
    (settlePair (updPort s p (fun d => { d with
      lacp := if u.inSync ∧ (otherPartner s p = none ∨ otherPartner s p = some u.system) then .distributing else .waiting
      lacpPartner := some u.system, lacpAt := some s.clock.ledger })))) ∧
  (∀ s p u, aggMode s = false ∨ portUp s p = false → exec (.lacpduReceive p u) s = .next s) ∧
  (∀ s p u, aggMode s = true → portUp s p = true →
    u = (match (getPort s p).lacpTx with | some t => advanceTo s (t + lacpInterval s) | none => s) →
    exec (.lacpduTransmit p) s = .next
      (sendLink (updPort u p (fun d => { d with lacpTx := some u.clock.ledger })) p (lacpPdu u p) 14)) ∧
  (∀ s p, aggMode s = false ∨ portUp s p = false → exec (.lacpduTransmit p) s = .next s) ∧
  (∀ s p t, aggMode s = true → portUp s p = true → (getPort s p).lacp ≠ .defaulted → (getPort s p).lacpAt = some t →
    exec (.lagNoPartner p) s = .next (portGained (logEv (updPort (advanceTo s (t + 3 * 1000000)) p (fun d => { d with
      lacp := .defaulted, lacpPartner := none })) .lagNoPartner { port := some p }) p))

/-- The headers of a frame at a port with link set its verdict: a drop by a policy is counted at once, except of a runt;
the record of the frame waits for its FCS with what the checks and the capture say. At the FCS result a runt or fragment
is counted, a bad FCS of a frame that passed is RX_FCS_ERR, a good one counts its size and, if it passed, is delivered
and counted or, if too long, marked. A port without link, or without a frame, changes nothing. The MAC sends the frame
that its queues' order picks, emits it, and counts it; none is sent on a port that is down. -/
def Obligations.FramesArePassedCountedAndSentAsChapter7Says : Prop :=
  (∀ s p f, portUp s p = false → exec (.frameReceive p f) s = .next s) ∧
  (∀ s p f, portUp s p = true → ∃ u v r, exec (.frameReceive p f) s = .next (updPort v p (fun d => { d with
      rxFill := d.rxFill - f.taken, rx := some r })) ∧ r.frame = f ∧ r.trunc = decide (frameLimit s p (isTagged f) < f.len) ∧
    r.filterMiss = decide (rxVerdict s p f = .drop .rxFilterMiss) ∧
    r.passed = (decide (64 ≤ f.len) && decide (rxVerdict s p f = .pass)) ∧ (r.captured = true → (getPort s p).capturing = true) ∧
    u = (if 64 ≤ f.len then (match rxVerdict s p f with | .drop c => countHw (wakeIsl s p.island) p c 1 | _ => wakeIsl s p.island)
         else wakeIsl s p.island) ∧
    v = (if r.passed = true ∧ r.trunc = false ∧ islUp u .proto = true then f.gets.foldl (speculate p) u else u)) ∧
  (∀ s p g, (getPort s p).rx = none → exec (.frameFcsResult p g) s = .next s) ∧
  (∀ s p g r, (getPort s p).rx = some r → ∃ u w y x,
      x = (⟨s.clock.ledger, r.frame.len, r.trunc, !g, r.filterMiss, r.frame.bytes.take 128⟩ : Capture) ∧
      w = (if r.frame.symbolErr then u else countHw u p (rxBin r.frame.len) 1) ∧
      y = updPort w p (fun d => { d with rxFill := d.rxFill + Nat.min r.frame.len (frameLimit w p (isTagged r.frame)) }) ∧
      exec (.frameFcsResult p g) s = .next
      (if r.frame.len < 64 then countHw u p (if g then .rxRunt else .rxFragment) 1
       else if g = false then (if r.passed then countHw u p .rxFcsErr 1 else u)
       else if r.passed = false then w
       else if r.trunc then countProto y (oversizeCtr p) 1
       else if r.frame.fragment then updNet (countDelivered y p r.frame) (fun d => { d with fragDrop := d.fragDrop + 1 })
       else countDelivered y p r.frame) ∧
    (getPort u p).rx = none ∧ (getPort u p).hw = (getPort s p).hw ∧ (getPort u p).rxFill = (getPort s p).rxFill ∧
    (getPort u p).capture = if r.captured = true ∧ (getPort s p).capturing = true then (x :: (getPort s p).capture).take Config.captureRecords
      else (getPort s p).capture) ∧
  (∀ s p, (getPort s p).tx = [] → exec (.frameSent p) s = .next s) ∧
  (∀ s p, portUp (wakeIsl s p.island) p = false ∨ nextFrame (wakeIsl s p.island) p = none →
    exec (.frameSent p) s = .next (if (getPort s p).tx = [] then s else wakeIsl s p.island)) ∧
  (∀ s p f u, u = wakeIsl s p.island → portUp u p = true → nextFrame u p = some f →
    exec (.frameSent p) s = .next (noteBlink (segmentSent (countSent
      (emit (updPort u p (fun d => { d with tx := d.tx.erase f })) (.sent p f)) p f) f)))

/-- A fold of an amount that COUNT does not exceed moves exactly that amount to the accumulator in one step; a greater
one is ignored and raises FOLD_ERROR; an index of no counter is ignored. A counter at half range is folded whole, one
that is not is left. The counter is brought to its half range or its top. `port stats clear` clears a port's counters. A
PAUSE or PFC frame on a port with link is counted; unless ignored or in a storm it counts its quanta and holds its
queues; a queue resumes when its quanta run out; 100 ms of pause on queue 7 is a storm, logged, that clears the pauses
for 10 s. -/
def Obligations.CountersFoldAndPausesHoldQueuesAsChapter7Says : Prop :=
  (∀ s p i n c, ctrOfCode i = some c → n ≤ (hwCtr s p c).count → ∃ t, exec (.hwstatFold p i n) s = .next t ∧
    (hwCtr t p c).count = (hwCtr s p c).count - n ∧
    AMap.getD (getPort t p).acc c 0 = AMap.getD (getPort s p).acc c 0 + n ∧ (hwCtr t p c).sat = (hwCtr s p c).sat ∧
    ∀ c', c' ≠ c → hwCtr t p c' = hwCtr s p c') ∧
  (∀ s p i n c, ctrOfCode i = some c → (hwCtr s p c).count < n → exec (.hwstatFold p i n) s =
    .next (logEv s .foldError { port := some p, details := [(ctrCode c : Int), (n : Int)] })) ∧
  (∀ s p i n, ctrOfCode i = none → exec (.hwstatFold p i n) s =
    .next (logEv s .foldError { port := some p, details := [(i : Int), (n : Int)] })) ∧
  (∀ s p c, c ∈ (getPort s p).half → ∃ t, exec (.counterFold p c) s = .next t ∧ (hwCtr t p c).count = 0 ∧
    AMap.getD (getPort t p).acc c 0 = AMap.getD (getPort s p).acc c 0 + (hwCtr s p c).count ∧ c ∉ (getPort t p).half) ∧
  (∀ s p c, c ∉ (getPort s p).half → exec (.counterFold p c) s = .next s) ∧
  (∀ s p c, exec (.counterHalf p c) s = .next (setCount s p c (Nat.max (hwCtr s p c).count 2147483648))) ∧
  (∀ s p c, exec (.counterSaturated p c) s = .next (setCount s p c 4294967296)) ∧
  (∀ s l d p, Accepts s l {} none d → exec (.portStatsClear l p) s = .next (answer (logEv (updPort (heard s l) p
    (fun d => { d with hw := [], acc := [], half := [] })) .statsCleared { port := some p }) l.sess l.tag (.ok []) none)) ∧
  (∀ s p q c, portUp s p = false → exec (.pauseFrame p q) s = .next s ∧ exec (.pfcFrame p c) s = .next s) ∧
  (∀ s p q, portUp s p = true → exec (.pauseFrame p q) s = .next
    (if cfgField (countHw s p .rxPause 1) (.macCfg p) "PAUSE_IGNORE" = 1 ∨ pausable (countHw s p .rxPause 1) p = false
     then countHw s p .rxPause 1
     else (List.finRange 8).foldl (fun s k => pauseQueue p k q s) (countHw (countHw s p .rxPause 1) p .txPausedQuanta q))) ∧
  (∀ s p c, portUp s p = true → exec (.pfcFrame p c) s = .next
    (if cfgField (countHw s p .rxPfc 1) (.macCfg p) "PFC_IGNORE" = 1 ∨ pausable (countHw s p .rxPfc 1) p = false
     then countHw s p .rxPfc 1
     else c.foldl (fun s x => pauseQueue p x.1 x.2 (countHw s p .txPausedQuanta x.2)) (countHw s p .rxPfc 1))) ∧
  (∀ s p q n, AMap.find (getPort (pauseQueue p q n s) p).paused q =
    if n = 0 then none else some (s.clock.ledger + quantaTime s p n)) ∧
  (∀ s p q t, AMap.find (getPort s p).paused q = some t →
    exec (.pauseExpiry p q) s = .next (pauseQueue p q 0 (advanceTo s t))) ∧
  (∀ s p q, AMap.find (getPort s p).paused q = none → exec (.pauseExpiry p q) s = .next s) ∧
  (∀ s p t e, (getPort s p).q7Since = some t → AMap.find (getPort s p).paused 7 = some e → t + 100000 ≤ e →
    exec (.pauseStorm p) s = .next (logEv (updPort (advanceTo s (t + 100000)) p
    (fun d => { d with paused := [], q7Since := none
                       stormUntil := some ((advanceTo s (t + 100000)).clock.ledger + 10 * 1000000) }))
    .pauseStorm { port := some p })) ∧
  (∀ s p t e, (getPort s p).q7Since = none ∨ AMap.find (getPort s p).paused 7 = none ∨
      ((getPort s p).q7Since = some t ∧ AMap.find (getPort s p).paused 7 = some e ∧ e < t + 100000) →
    exec (.pauseStorm p) s = .next s) ∧
  (∀ s p t, (getPort s p).stormUntil = some t → exec (.pauseStormEnd p) s =
    .next (updPort (advanceTo s t) p (fun d => { d with stormUntil := none }))) ∧
  (∀ s p, (getPort s p).stormUntil = none → exec (.pauseStormEnd p) s = .next s)

/-- On an interface that exists with DHCPv4 mode, an offer while selecting is requested; an ACK while requesting,
rebooting or renewing binds the lease; a NAK begins discovery again. On one with DHCPv6 or automatic mode an advertise
while soliciting is requested, and a reply without an address says that no global one is offered. Messages on other
interfaces change nothing. Timers send the pending message again, the DISCOVER interval doubling up to 64 s. A Router
Advertisement notes its router, its MTU if usable, its prefixes and flags; without one, two more solicitations go out
and no global address is offered. `net renew` restarts the clients of its interfaces. -/
def Obligations.DhcpAndRouterAdvertisementsGiveAddressesAsTheirRulesSay : Prop :=
  (∀ s k m, netRuns s = false ∨ ifExists s k = false ∨ v4Mode s k ≠ 1 → exec (.dhcpv4Receive k m) s = .next s) ∧
  (∀ s k a v, netRuns s = true → ifExists s k = true → v4Mode s k = 1 → (getIfc s k).d4 = .selecting →
    exec (.dhcpv4Receive k (.offer a v)) s = .next
      (request4 (updIfc s k (fun d => { d with d4 := .requesting, d4Offer := some a, d4Server := some v })) k a)) ∧
  (∀ s k a v, ifExists s k = true → v4Mode s k = 1 → (getIfc s k).d4 ≠ .selecting →
    exec (.dhcpv4Receive k (.offer a v)) s = .next s) ∧
  (∀ s k a v g m e x y n, netRuns s = true → ifExists s k = true → v4Mode s k = 1 →
    ((getIfc s k).d4 = .requesting ∨ (getIfc s k).d4 = .initReboot ∨ (getIfc s k).d4 = .renewing →
      exec (.dhcpv4Receive k (.ack a v g m e x y n)) s = .next (bind4 s k a v g m e n)) ∧
    ((getIfc s k).d4 = .idle ∨ (getIfc s k).d4 = .selecting ∨ (getIfc s k).d4 = .bound →
      exec (.dhcpv4Receive k (.ack a v g m e x y n)) s = .next s)) ∧
  (∀ s k, netRuns s = true → ifExists s k = true → v4Mode s k = 1 → (getIfc s k).d4 = .requesting ∨ (getIfc s k).d4 = .initReboot →
    exec (.dhcpv4Receive k .nak) s = .next (discover s k 4)) ∧
  (∀ s k m, netRuns s = false ∨ ifExists s k = false ∨ (v6Mode s k ≠ 1 ∧ v6Mode s k ≠ 2) → exec (.dhcpv6Receive k m) s = .next s) ∧
  (∀ s k x, netRuns s = true → ifExists s k = true → v6Mode s k = 1 ∨ v6Mode s k = 2 →
    exec (.dhcpv6Receive k (.advertise x)) s = .next
    (if (getIfc s k).d6 = .soliciting then request6 (updIfc s k (fun d => { d with d6 := .requesting })) k else s)) ∧
  (∀ s k p v x y, netRuns s = true → ifExists s k = true → v6Mode s k = 1 ∨ v6Mode s k = 2 →
    (getIfc s k).d6 = .requesting ∨ (getIfc s k).d6 = .bound →
    exec (.dhcpv6Receive k (.reply none p v x y [])) s =
      .next (updIfc (refreshNtp s) k (fun d => { d with noGlobal := true }))) ∧
  (∀ s k, netRuns s = true → ifExists s k = true → (getIfc s k).d4 = .selecting → (getIfc s k).d6 = .idle → exec (.dhcpRetransmit k) s = .next
    (discover (advanceTo s ((getIfc s k).d4At + (getIfc s k).d4Wait * 1000000)) k
      (if 64 ≤ 2 * (getIfc s k).d4Wait then 64 else 2 * (getIfc s k).d4Wait))) ∧
  (∀ s k, netRuns s = true → ifExists s k = true → (getIfc s k).d4 = .idle → exec (.dhcpRetransmit k) s = .next
    (match (getIfc s k).d6 with | .idle => s | .soliciting => solicit s k | .requesting | .bound => request6 s k)) ∧
  (∀ s k, netRuns s = false ∨ ifExists s k = false → exec (.dhcpRetransmit k) s = .next s) ∧
  (∀ s k ra, ifExists s k = false ∨ acquiring s = false → exec (.routerAdvertisement k ra) s = .next s) ∧
  (∀ s k ra, ifExists s k = true → acquiring s = true → ∃ t u, exec (.routerAdvertisement k ra) s = .next t ∧
    u = updIfc s k (fun d => { d with
      raSeen := true
      routers := (d.routers.filter (fun r => decide (r.1 ≠ ra.router)))
        ++ (if ra.lifetime = 0 then [] else [(ra.router, s.clock.ledger + ra.lifetime * 1000000)])
      mtu := match ra.mtu with | some m => if 1280 ≤ m ∧ m ≤ portMtu s then some m else d.mtu | none => d.mtu }) ∧
    (v6Mode s k = 0 ∨ v6Mode s k = 3 → t = ra.prefixes.foldl (takePrefix k) u)) ∧
  (∀ s k, netRuns s = true → ifExists s k = true → v6Mode s k = 1 → (getIfc s k).raSeen = false →
    exec (.raTimeout k) s = .next
      (updIfc (solicitRouter (solicitRouter s k) k) k (fun d => { d with noGlobal := true }))) ∧
  (∀ s k, netRuns s = false ∨ ifExists s k = false ∨ v6Mode s k ≠ 1 ∨ (getIfc s k).raSeen = true → exec (.raTimeout k) s = .next s) ∧
  (∀ s l d i, Accepts s l {} (ifErr i) d → exec (.netRenew l i) s = .next
    (answer ((((ifsOf s i).filter (ifExists s))).foldl renewIf (heard s l)) l.sess l.tag (.ok []) none))

/-- A probed address becomes usable; a conflict is logged, the address unused and its connections reset, with a retry
after 60 s for a static or DHCPv6 one; the end of a lifetime removes the address and logs ADDR_LOST; an address that is
not held changes nothing. A request for an own address is answered and its sender learned. A fragment of an echo request
is counted and dropped; echoes and unreachables are limited to 100 and 10 a second; a packet-too-big never raises a path
MTU and never lowers it below 68 or 1280. A closed TCP port is answered by a reset. A well-formed LLDPDU is kept for its
TTL, or forgotten with TTL 0, and its allocation applied; a malformed one is counted. -/
def Obligations.AddressesNeighboursAndIcmpActAsTheirRulesSay : Prop :=
  (∀ s k a, heldRec s k a = none → exec (.addrProbeDone k a) s = .next s ∧ exec (.addrDuplicate k a) s = .next s ∧
    exec (.addrRetry k a) s = .next s ∧ exec (.addrLost k a) s = .next s) ∧
  (∀ s k a r u, heldRec s k a = some r → r.state = .probing ∨ r.state = .optimistic → r.origin ≠ .dhcp4 → r.origin ≠ .dhcp6 →
    u = updIfc (setAddr (advanceTo s (r.probeAt + probeWait a)) k a .usable none) k (fun d => { d with renewing := false }) →
    exec (.addrProbeDone k a) s = .next
      (if r.origin = .linkLocal ∧ (getIfc u k).d6 = .soliciting then solicit u k else u)) ∧
  (∀ s k a r, heldRec s k a = some r → r.state ≠ .conflict → r.origin ≠ .dhcp4 → exec (.addrDuplicate k a) s = .next
    (resetMgmt (resetWhere (setAddr (logEv s .addrDuplicate { details := addrWords a ++ [ifWord k] }) k a .conflict
        (if r.origin = .static ∨ r.origin = .dhcp6 then some (s.clock.ledger + 60 * 1000000) else none))
      (fun c => decide (c.ifc = k) && decide (c.local_ = a))) (fun d => decide (d.ifc = k) && decide (d.local_ = a)))) ∧
  (∀ s k a r, heldRec s k a = some r → r.state = .conflict → exec (.addrDuplicate k a) s = .next s) ∧
  (∀ s k a r t, heldRec s k a = some r → r.retryAt = some t → ∃ u, u = setAddr (advanceTo s t) k a .probing none ∧
    exec (.addrRetry k a) s = .next
      (if isV4 a then sendPlain u k 6 (.probe k a) 8 .broadcast else sendIp u k 6 (.probe k a) 9)) ∧
  (∀ s k a r t, heldRec s k a = some r → r.until_ = some t → ∃ u, u = logEv (removeAddr (advanceTo s t) k a) .addrLost
      { details := addrWords a ++ [ifWord k] } ∧
    exec (.addrLost k a) s = .next (match r.origin with
      | .dhcp4 => discover u k 4 | .dhcp6 => solicit u k | .slaac => solicitRouter u k
      | _ => u)) ∧
  (∀ s k t x m, exec (.neighbourSolicit k t x m) s = .next (if netRuns s = true ∧ ownAddr s k t = true then
      (if isV4 t then sendPlain (learn s k x m) k 6 (.neighbour k t (Config.macAddr .p0) (some x)) 1 .unicast
       else sendIp (learn s k x m) k 6 (.neighbour k t (Config.macAddr .p0) (some x)) 2) else s)) ∧
  (∀ s p k e n b, netRuns s = false → exec (.icmpEcho p k e n b) s = .next s) ∧
  (∀ s p k e n, netRuns s = true →
    exec (.icmpEcho p k e n true) s = .next { s with net := { s.net with fragDrop := s.net.fragDrop + 1 } }) ∧
  (∀ s p k e n, netRuns s = true → exec (.icmpEcho p k e n false) s = .next (if ownAddr s k e.dst = true ∧ n ≤ ifMtu s p k then
      (match rateStep (now s) (getPort s p).echoRate 100 with
        | none => s
        | some r => sendIp (updPort s p (fun d => { d with echoRate := r })) k 6 (.echoReply k e n) 18) else s)) ∧
  (∀ t r n, (t < r.1 + 1000000 → n ≤ r.2 → r.2 ≠ 0 → rateStep t r n = none) ∧
    (t < r.1 + 1000000 → r.2 < n → r.2 ≠ 0 → rateStep t r n = some (r.1, r.2 + 1)) ∧
    (r.1 + 1000000 ≤ t → rateStep t r n = some (t, 1))) ∧
  (∀ s a n, ∃ t, exec (.icmpPacketTooBig a n) s = .next t ∧ ∃ m, AMap.find t.net.pmtu a = some m ∧
    m ≤ AMap.getD s.net.pmtu a 9198 ∧ m ≤ Nat.max n (if isV4 a then 68 else 1280) ∧
    ∀ b, b ≠ a → AMap.find t.net.pmtu b = AMap.find s.net.pmtu b) ∧
  (∀ s p k e q, ownAddr s k e.dst = false ∨ netRuns s = false → exec (.closedPortPacket p k e q) s = .next s) ∧
  (∀ s p k e n, ownAddr s k e.dst = true → netRuns s = true → exec (.closedPortPacket p k e (.tcp n)) s =
    .next (if tcpOpen s k n then s else sendIp s k 4 (.closedReset e n) 19)) ∧
  (∀ s p k e n, ownAddr s k e.dst = true → netRuns s = true → exec (.closedPortPacket p k e (.udp n)) s = .next
    (if udpOpen s k n ∨ (n = 7131 ∧ starting s ∧ s.proto.listening = false)
    then s else match rateStep (now s) (getPort s p).unreachRate 10 with
      | none => s
      | some r => sendIp (updPort s p (fun d => { d with unreachRate := r })) k 6 (.unreachable k e n) 20)) ∧
  (∀ s p u, (getPort s p).link = false → exec (.lldpReceive p u) s = .next s) ∧
  (∀ s p u, (getPort s p).link = true → u.wellFormed = false →
    exec (.lldpReceive p u) s = .next { s with net := { s.net with lldpBad := s.net.lldpBad + 1 } }) ∧
  (∀ s p u, (getPort s p).link = true → u.wellFormed = true → ∀ v n, n.chassis = u.chassis → n.portId = u.portId →
    n.sysName = u.sysName → n.pvid = u.pvid → n.until_ = s.clock.ledger + u.ttl * 1000000 → v = updFeed { s with net := { s.net with
      lldp := s.net.lldp.upd p (fun l => if u.ttl = 0 then
        l.filter (fun x => ! (decide (x.chassis = u.chassis) && decide (x.portId = u.portId))) else putNeigh n l) } } p
      (fun f => { f with lldpSeen := true }) →
    exec (.lldpReceive p u) s = .next (match u.alloc with
      | none => v | some a => if (getFeed v p).powered then takeAllocation v p a else v)) ∧
  (∀ s p c i n, (s.net.lldp.get p).find? (fun n => decide (n.chassis = c) && decide (n.portId = i)) = some n →
    exec (.lldpNeighbourExpiry p c i) s =
      .next { advanceTo s n.until_ with net := { s.net with lldp := s.net.lldp.upd p (fun l => l.erase n) } }) ∧
  (∀ s p c i, (s.net.lldp.get p).find? (fun n => decide (n.chassis = c) && decide (n.portId = i)) = none →
    exec (.lldpNeighbourExpiry p c i) s = .next s)

/-- An offset disciplines an unset clock by a step, slews one within 128 ms, is refused above the step limit, and else
steps; a step moves wall time by the offset, writes the RTC and a STEP checkpoint and logs CLOCK_STEP. PTP counts its
grandmaster's intervals, takes a better one anew, loses it at a timeout, and disciplines once accepted; NTP polls its
servers and disciplines by the selected peer while PTP is not accepted; messages of sources that are off change nothing.
A refusal repeats hourly. `time set` steps to its value unless a source disciplines; `time accept` applies the refused
step. The RTC is written hourly, a PERIODIC checkpoint follows 30 s after the newest. -/
def Obligations.TimeSourcesAndStepsActAsChapter8Says : Prop :=
  (∀ s a, ptpOn s = false ∨ ptpOwn s a = false → exec (.ptpAnnounce a) s = .next s) ∧
  (∀ s a, ptpOn s = true → ptpOwn s a = true → a.best = false → exec (.ptpAnnounce a) s =
    .next (if s.clock.ptp.master = some a.master then ptpLost s else s)) ∧
  (∀ s a, ptpOn s = true → ptpOwn s a = true → a.best = true → s.clock.ptp.master ≠ some a.master →
    exec (.ptpAnnounce a) s = .next (updClock (ptpLost s) (fun c => { c with ptp :=
      { master := some a.master, count := 1, stratum := a.stratum, lastAt := c.ledger, interval := a.interval } }))) ∧
  (∀ s a, ptpOn s = true → ptpOwn s a = true → a.best = true → s.clock.ptp.master = some a.master → ∃ u, u = updClock s (fun c => { c with ptp :=
      { c.ptp with count := c.ptp.count + 1, stratum := a.stratum, lastAt := c.ledger, interval := a.interval
                   accepted := c.ptp.accepted || decide (3 ≤ c.ptp.count + 1) } }) ∧
    exec (.ptpAnnounce a) s = .next (if u.clock.ptp.accepted = true ∧ s.clock.wstate ≠ .unset then setSource u .ptp else u)) ∧
  (∀ s, exec .ptpAnnounceTimeout s = .next (if s.clock.ptp.master.isSome
    then ptpLost (advanceTo s (s.clock.ptp.lastAt + 3 * s.clock.ptp.interval)) else s)) ∧
  (∀ s o, exec (.ptpMessage o) s = .next (if ptpOn s = true ∧ s.clock.ptp.accepted = true
    then sendDelayReq (discipline s .ptp .ptp o s.clock.ptp.stratum) else s)) ∧
  (∀ s src w o n, ∃ u, u = updClock s (fun c => { c with offset := o, stratum := n }) ∧
    (s.clock.wstate = .unset → discipline s src w o n = stepWall u src w o) ∧
    (s.clock.wstate ≠ .unset → 0 < stepLimit s → stepLimit s < o.natAbs → ∃ v, discipline s src w o n =
        (if s.clock.disagree = true then v else logEv v .timeStepRefused { reason := sourceCode src, details := [o] }) ∧
      v.clock.disagree = true ∧ v.clock.refused = some (src, o) ∧ v.clock.wallOff = s.clock.wallOff ∧ v.clock.slew = s.clock.slew ∧
      (s.clock.disagree = false → v.clock.refusedAt = some s.clock.ledger)) ∧
    (s.clock.wstate ≠ .unset → stepLimit s = 0 ∨ o.natAbs ≤ stepLimit s → ∃ v,
      v = updClock (setSource u w) (fun c => { c with disagree := false, refused := none }) ∧
      discipline s src w o n = if o.natAbs ≤ 128000 then updClock v (fun c => { c with slew := o }) else stepWall v src w o)) ∧
  (∀ s src w o, ∃ u a t, stepWall s src w o = t ∧ t.clock = u.clock ∧
    t = meterStep (logEv u .clockStep a) (if s.clock.wstate = .unset then .first else if o < 0 then .backward else .forward) ∧
    a.reason = sourceCode src ∧ u.clock.wallOff = s.clock.wallOff + o ∧ u.clock.wstate = w ∧ u.clock.everSet = true ∧
    u.clock.slew = 0 ∧ u.clock.ledger = s.clock.ledger ∧
    (w ≠ .unset → u.clock.rtcAt = some s.clock.ledger ∧ u.clock.rtcOff = some (s.clock.wallOff + o)) ∧
    ∃ c, u.clock.ckpts.head? = some c ∧ c.kind = .step ∧ c.ltime = s.clock.ledger ∧ c.wstate = w) ∧
  (∀ s a r, (∀ n ∈ s.clock.ntp, n.addr ≠ a) → exec (.ntpPoll a) s = .next s ∧ exec (.ntpResponse a r) s = .next s) ∧
  (∀ s a n, n ∈ s.clock.ntp → n.addr = a → ∃ t u, exec (.ntpPoll a) s = .next t ∧
    u = originate (updClock (advanceTo s (pollDue s a)) (fun c => { c with ntp := c.ntp.map (fun n => if n.addr = a
      then { n with missed := n.missed + 1, burst := n.burst - 1, nextAt := some (nextPoll c.ledger n) } else n) }))
        a 6 (.ntpRequest a) 21 ∧ (u.clock.ntpPeer ≠ some a → t = u)) ∧
  (∀ s a r n, n ∈ s.clock.ntp → n.addr = a → ∃ u, u = updClock s (fun c => { c with ntp := c.ntp.map (fun n =>
      if n.addr = a then { n with last := some r, missed := 0 } else n) }) ∧
    (selectNtp u = none → exec (.ntpResponse a r) s = .next (if s.clock.ntpPeer.isSome then ntpLost u else u)) ∧
    (∀ m x, selectNtp u = some m → m.last = some x → (s.clock.ntpPeer ≠ some m.addr ∨ m.addr = a) →
      s.clock.ptp.accepted = false → exec (.ntpResponse a r) s = .next
        (discipline (updClock u (fun c => { c with ntpPeer := some m.addr })) .ntp .ntp x.offset x.stratum))) ∧
  (∀ s src o t, s.clock.refused = some (src, o) → s.clock.refusedAt = some t → s.clock.disagree = true →
    exec .timeStepRefused s = .next (logEv (updClock (advanceTo s (t + 3600 * 1000000))
      (fun c => { c with refusedAt := some c.ledger })) .timeStepRefused { reason := sourceCode src, details := [o] })) ∧
  (∀ s, s.clock.refused = none ∨ s.clock.refusedAt = none ∨ s.clock.disagree = false → exec .timeStepRefused s = .next s) ∧
  (∀ s l d u, Accepts s l { priv := true } (utcErr u) d → exec (.timeSet l u) s = .next
    (if s.clock.wstate = .ntp ∨ s.clock.wstate = .ptp then answer (heard s l) l.sess l.tag (.err .sourceActive) none
     else answer (stepWall (heard s l) .manual .manual (((u.micros + fractionMicros u.fraction : Nat) : Int)
       - ((s.clock.ledger : Int) + s.clock.wallOff))) l.sess l.tag (.ok []) none)) ∧
  (∀ s l d, Accepts s l { priv := true } none d → exec (.timeAccept l) s = .next (match s.clock.refused with
    | none => answer (heard s l) l.sess l.tag (.err .noShadow) none
    | some (src, o) => answer (updClock (stepWall (heard s l) src s.clock.wstate o)
        (fun c => { c with refused := none, disagree := false })) l.sess l.tag (.ok []) none)) ∧
  (∀ s, exec .rtcWrite s = .next (if s.clock.wstate = .ntp ∨ s.clock.wstate = .ptp then
    writeRtc (match s.clock.rtcAt with | none => s | some t => advanceTo s (t + 3600 * 1000000)) else s)) ∧
  (∀ s k r, svcRuns s = true → s.clock.ckpts = k :: r →
    exec .ledgerCheckpoint s = .next (checkpoint (advanceTo s (k.ltime + 30 * 1000000)) .periodic)) ∧
  (∀ s k, ∃ c, (checkpoint s k).clock.ckpts.head? = some c ∧ c.kind = k ∧ c.ltime = s.clock.ledger ∧
    c.wstate = s.clock.wstate ∧ c.bound = if k = .halt ∨ k = .flush then s.clock.ledger + 1000 else s.clock.ledger + 31000000) ∧
  (∀ s, svcRuns s = false → exec .ledgerCheckpoint s = .next s)

/-- A port without a listener takes no connection; a locked-out peer is reset. A KV3 connection begins in TLS, a KV2 one
with TLS or HELLO by its first byte. A KV1 connection binds the stall of its source entry if that is in use and
permitted and no limit is met; else it is refused. TLS that fails ends the connection; one that succeeds waits for
HELLO. A limit that runs out closes the connection and counts. A refused AUTH is answered after 1 s and closes. A
lockout ends. Bytes that verify lose no alignment; lost alignment is scanned for, under TLS it ends the connection;
after 10 s the scan fails. A KV1 heartbeat datagram is answered or counted as dropped. A zero window for its limit
resets. -/
def Obligations.ConnectionsOpenAndEndAsChapter9Says : Prop :=
  (∀ s g p k a b f, listens s g k = false → exec (.dataConnect g p k a b f) s = .next s) ∧
  (∀ s p k a b c, c = newConn s .kv1 p k a b .open_ → exec (.kv1Connect p k a b) s = .next
      (if listens s .kv1 k = false then s else if lockedOut s a then resetNew s c else match kv1Entry s a with
      | none => refuseKv1 s c
      | some e => match (getStall s (entryStall s e)).state with
        | .active | .draining => if vlanPermits s k (entryStall s e) = false then refuseKv1 s c
          else if 1024 ≤ (liveConns s).length ∨ 32 ≤ boundTo s (entryStall s e) then resetNew s c
          else noteSession (addConn s { c with
            stall := some (entryStall s e), generation := (getStall s (entryStall s e)).generation,
            chans := [{ no := 0, maxOut := 16 }] })
        | _ => refuseKv1 s c)) ∧
  (∀ s g p k a b f, g ≠ .kv1 → listens s g k = true →
    (lockedOut s a = true → exec (.dataConnect g p k a b f) s =
      .next (resetNew s (newConn s g p k a b .hello))) ∧
    (lockedOut s a = false → g = .kv3 ∨ f = 0x16 → exec (.dataConnect g p k a b f) s =
      .next (addConn s { newConn s g p k a b .tls with tls := true })) ∧
    (lockedOut s a = false → g = .kv2 → f = 0xC5 → exec (.dataConnect g p k a b f) s =
      .next (addConn s (newConn s g p k a b .hello))) ∧
    (lockedOut s a = false → g = .kv2 → f ≠ 0x16 → f ≠ 0xC5 → exec (.dataConnect g p k a b f) s =
      .next (sendClose (updProto s (fun d => { d with nextConn := d.nextConn + 1 })) s.proto.nextConn
        (newConn s g p k a b .hello)))) ∧
  (∀ s p k a b e, listens s .kv1 k = true → lockedOut s a = false → kv1Entry s a = some e →
    (getStall s (entryStall s e)).state = .active → vlanPermits s k (entryStall s e) = true →
    (liveConns s).length < 1024 → boundTo s (entryStall s e) < 32 → ∃ t c, exec (.kv1Connect p k a b) s = .next t ∧
      getConn t s.proto.nextConn = some c ∧ c.stage = .open_ ∧ c.gen = .kv1 ∧ c.stall = some (entryStall s e) ∧
      c.generation = (getStall s (entryStall s e)).generation ∧ c.peer = a ∧ t.fw.sessionSeen = true) ∧
  (∀ s i c r, getConn s i = some c → (c.stage ≠ .tls → exec (.tlsHandshake i r) s = .next s) ∧
    (c.stage = .tls → r.ok = false ∨ r.alpnOk = false ∨ tlsAgreed r.client = none →
      exec (.tlsHandshake i r) s = .next (closeConn (sendAlert s i) i)) ∧
    (∀ x, c.stage = .tls → r.ok = true → r.alpnOk = true → tlsAgreed r.client = some x →
      c.gen ≠ .kv3 ∨ (ticketAuth s c.gen r.auth).isSome = true ∨ tlsAccepted s r.auth = true →
      ∃ u v a, a = (if c.gen = .kv3 then (ticketAuth s c.gen r.auth).getD r.auth else .none_) ∧
        u = updConn s i (fun c => { c with stage := .hello, stageAt := s.clock.ledger, tlsAuth := a }) ∧
        v = { u with proto := { u.proto with nextTicket := s.proto.nextTicket + 1, tickets :=
          ((s.proto.nextTicket, c.gen, a, s.clock.ledger + 24 * 3600 * 1000000) ::
            s.proto.tickets.filter (fun x => decide (s.clock.ledger < x.2.2.2))) } } ∧
        exec (.tlsHandshake i r) s = .next (release (updConn v i
          (fun c => { c with txWait := c.txWait ++ [(.ticket s.proto.nextTicket, 0)] })) i)) ∧
    (∀ x, c.stage = .tls → r.ok = true → r.alpnOk = true → tlsAgreed r.client = some x → c.gen = .kv3 → r.auth = .none_ →
      exec (.tlsHandshake i r) s = .next (closeConn (authFail (sendAlert s i) c.peer none .kv3) i))) ∧
  (∀ s g n h b t, AMap.find s.proto.tickets n = some (h, b, t) →
    ticketAuth s g (.ticket n) = if h = g ∧ now s < t then some b else none) ∧
  (∀ s i c, getConn s i = some c → exec (.tlsRecordFail i) s = .next
    (if c.tls ∧ c.stage ≠ .closed then closeConn (sendAlert s i) i else s)) ∧
  (∀ s i c, getConn s i = some c →
    (c.stage = .tls → exec (.connectionTimeout i .tls) s =
      .next (closeConn (countP (advanceTo s (c.stageAt + 10000000)) .timeoutClose 1) i)) ∧
    (c.stage = .hello → exec (.connectionTimeout i .hello) s =
      .next (closeConn (countP (advanceTo s (c.stageAt + 5000000)) .timeoutClose 1) i)) ∧
    (c.stage = .auth → exec (.connectionTimeout i .auth) s =
      .next (closeConn (countP (advanceTo s (c.stageAt + 5000000)) .timeoutClose 1) i)) ∧
    (c.stage = .open_ → exec (.connectionTimeout i .idle) s =
      .next (closeConn (countP (advanceTo s (c.lastRx + 300000000)) .timeoutClose 1) i)) ∧
    (c.stage = .closed → ∀ x, exec (.connectionTimeout i x) s = .next s)) ∧
  (∀ s i, exec (.connectionClose i) s = .next (peerGone s i)) ∧
  (∀ s i c, s.proto.conns.NoDup → getConn s i = some c → getConn (peerGone s i) i = none) ∧
  (∀ s i c, getConn s i = some c → exec (.authDenyDelay i) s = .next (if c.stage ≠ .authDenied then s else
    closeConn (authFail (sendFrame (advanceTo s (c.stageAt + 1000000)) i
      { kind := 5, opcode := 2, reqId := c.denied, stall := c.stall.getD 0, generation := c.generation, status := .denied,
        reason := 0x0201 }) c.peer (c.stall.map (fun x => x.val)) .kv2) i)) ∧
  (∀ s a, exec (.authLockoutExpiry a) s = .next (match (AMap.getD s.proto.fails a {}).until_ with
    | none => s | some t => { advanceTo s t with proto := { s.proto with fails := AMap.del s.proto.fails a } })) ∧
  (∀ s i c bs, getConn s i = some c →
    (misaligned c.gen bs = false → exec (.frameLostAlignment i bs) s = .next s) ∧
    (c.stage = .hello ∨ c.stage = .auth ∨ c.stage = .open_ → misaligned c.gen bs = true →
      exec (.frameLostAlignment i bs) s = .next (settle (scanN (bs.length + 1)
        (loseAlignment (updConn s i (fun c => { c with lastRx := s.clock.ledger })) i bs) i))) ∧
    (c.stage = .resync → exec (.resyncData i bs) s = .next (settle (scanN (c.scan.length + bs.length + 1)
      (updConn s i (fun c => { c with scan := c.scan ++ bs })) i))) ∧
    (c.stage = .resync → exec (.resyncTimeout i) s = .next (scanFails (advanceTo s (c.resyncAt + 10000000)) i)) ∧
    (c.stage ≠ .resync → exec (.resyncData i bs) s = .next s ∧ exec (.resyncTimeout i) s = .next s)) ∧
  (∀ s p k e d, listens s .kv1 k = true → halting s = false →
    (kv1Beat s e.src d = none → exec (.kv1Heartbeat p k e d) s = .next (countP s .hbDropped 1)) ∧
    (∀ n, kv1Beat s e.src d = some n → exec (.kv1Heartbeat p k e d) s = .next (sendIp s k 7 (.kv1Heartbeat e n) 22))) ∧
  (∀ s p k e d, listens s .kv1 k = false ∨ halting s = true → exec (.kv1Heartbeat p k e d) s = .next s) ∧
  (∀ s i c, getConn s i = some c → exec (.zeroWindowTimeout i) s = .next (countP (resetConn s i) .timeoutClose 1)) ∧
  (∀ s i, getConn s i = none → exec (.zeroWindowTimeout i) s = .next s ∧ exec (.authDenyDelay i) s = .next s ∧
    (∀ x, exec (.connectionTimeout i x) s = .next s) ∧ (∀ r, exec (.tlsHandshake i r) s = .next s) ∧
    exec (.tlsRecordFail i) s = .next s)

/-- A HELLO whose lengths or reserved bytes are wrong, that names a stall not in use, one its VLAN does not permit, one
with too many sessions, or for KV3 a frozen stall or a stale generation, is refused with its status and closes; an
accepted one binds stall and generation with limits within their ranges, a KV2 session awaiting AUTH with a fresh nonce,
a KV3 session open, and is answered with HELLO_ACK. AUTH with the right proof opens the session and is answered with the
drive's proof; a wrong proof or an empty slot is answered only after its delay; another stall or generation is DENIED.
OPEN adds its channel with the limit of channel 0, CLOSE marks it. A HEARTBEAT is answered at once. A frame of another
row does nothing. -/
def Obligations.HelloAuthAndChannelsAnswerAsTheirRulesSay : Prop :=
  (∀ s i f c, Passes s i f c .hello → f.kind = 3 →
    (f.keyLen ≠ 0 ∨ f.tagCount ≠ 0 ∨ f.dataLen ≠ 64 →
      exec (.hello i f) s = .next (helloFails (received s i) i f .badFrame 0x0103 f.generation)) ∧
    (f.keyLen = 0 → f.tagCount = 0 → f.dataLen = 64 → (slice f.data 17 1 ++ slice f.data 32 32).all (fun b => b == 0) →
      (inUse s f.stall = false → exec (.hello i f) s = .next (helloFails (received s i) i f .denied 0x0203 f.generation)) ∧
      (inUse s f.stall = true → vlanPermits s c.ifc f.stall = false →
        exec (.hello i f) s = .next (helloFails (received s i) i f .denied 0x0202 f.generation)) ∧
      (inUse s f.stall = true → vlanPermits s c.ifc f.stall = true → c.gen = .kv3 → identityFits s c f.stall = false →
        exec (.hello i f) s = .next (helloFails (received s i) i f .denied 0x0204 f.generation)) ∧
      (inUse s f.stall = true → vlanPermits s c.ifc f.stall = true → c.gen = .kv2 ∨ identityFits s c f.stall = true →
        c.gen ≠ .kv1 → tooMany (received s i) f.stall = true →
        exec (.hello i f) s = .next (helloFails (received s i) i f .tryLater 0x0303 f.generation)) ∧
      (inUse s f.stall = true → vlanPermits s c.ifc f.stall = true → c.gen = .kv3 → identityFits s c f.stall = true →
        tooMany (received s i) f.stall = false →
        (frozenFor s f.stall = true →
          exec (.hello i f) s = .next (helloFails (received s i) i f .frozen 0 f.generation)) ∧
        (frozenFor s f.stall = false → f.generation ≠ (getStall s f.stall).generation →
          exec (.hello i f) s =
            .next (helloFails (received s i) i f .staleGeneration 0 (getStall s f.stall).generation))) ∧
      (inUse s f.stall = true → vlanPermits s c.ifc f.stall = true → tooMany (received s i) f.stall = false →
        c.gen = .kv2 ∨ (c.gen = .kv3 ∧ identityFits s c f.stall = true ∧ frozenFor s f.stall = false ∧
          f.generation = (getStall s f.stall).generation) → ∃ u d m, exec (.hello i f) s = .next (sendFrame u i {
            kind := 4, reqId := f.reqId, stall := f.stall, generation := f.generation, data := helloAck u d m }) ∧
          getConn u i = some d ∧ u.proto.nextSession = s.proto.nextSession + 1 ∧ d.sessionId = s.proto.nextSession ∧
          d.stall = some f.stall ∧ d.generation = f.generation ∧ d.clientNonce = f.data.take 16 ∧
          d.chans = [{ no := 0, maxOut := m }] ∧
          m = (if leNat (slice f.data 18 2) = 0 then 64 else Nat.min (leNat (slice f.data 18 2)) 256) ∧
          d.maxData = Nat.max 65536 (Nat.min (leNat (slice f.data 20 4)) 4194304) ∧
          (c.gen = .kv2 → d.stage = .auth ∧ d.slot = some (leNat (slice f.data 16 1)) ∧
            d.driveNonce = Config.randBytes s.freeCtr 16 ∧ u.freeCtr = s.freeCtr + 1) ∧
          (c.gen = .kv3 → d.stage = .open_ ∧ u.fw.sessionSeen = true)))) ∧
  (∀ s i f c, Passes s i f c .auth → f.kind = 5 → f.opcode = 1 →
    (some f.stall ≠ c.stall ∨ f.generation ≠ c.generation → exec (.auth i f) s =
      .next (sendFrame (received s i) i (authResp c f .denied 0x0204 c.generation []))) ∧
    (some f.stall = c.stall → f.generation = c.generation →
      (sessionSecret s c = none ∨ (∃ k, sessionSecret s c = some k ∧ f.data ≠ Config.hmacSha256 k (challenge clientName c)) →
        exec (.auth i f) s = .next (updConn (received s i) i (fun c => { c with
          stage := .authDenied, stageAt := s.clock.ledger, denied := f.reqId }))) ∧
      (∀ k, sessionSecret s c = some k → f.data = Config.hmacSha256 k (challenge clientName c) →
        (frozenFor s f.stall = true → exec (.auth i f) s =
          .next (closeConn (sendFrame (received s i) i (authResp c f .frozen 0 c.generation [])) i)) ∧
        (frozenFor s f.stall = false → c.generation ≠ (getStall s f.stall).generation → exec (.auth i f) s =
          .next (closeConn (sendFrame (received s i) i
            (authResp c f .staleGeneration 0 (getStall s f.stall).generation [])) i)) ∧
        (frozenFor s f.stall = false → c.generation = (getStall s f.stall).generation → ∃ u d,
          exec (.auth i f) s = .next (sendFrame u i
            (authResp c f .ok 0 c.generation (Config.hmacSha256 k (challenge driveName c)))) ∧
          getConn u i = some d ∧ d.stage = .open_ ∧ u.fw.sessionSeen = true)))) ∧
  (∀ s i f c, Passes s i f c .open_ → c.gen = .kv3 → f.kind = 7 → f.stall = c.stall.getD 0 →
    f.generation = (getStall s (c.stall.getD 0)).generation → c.generation = (getStall s (c.stall.getD 0)).generation →
    Staged s i f c →
    (f.opcode = 1 → ∃ m u, exec (.channelOpen i f) s = .next (sendFrame u i (stampResp c f.channel f.reqId 1 { kind := 7 })) ∧
      getConn u i = some { c with lastRx := s.clock.ledger, chans := c.chans ++ [{ no := f.channel, maxOut := m }] } ∧
      ∀ x, c.chans.find? (fun x => decide (x.no = 0)) = some x → m = x.maxOut) ∧
    (f.opcode = 2 → exec (.channelClose i f) s = .next (pump (updChan (received s i) i f.channel
      (fun x => { x with closing := some f.reqId })) i f.channel))) ∧
  (∀ s i f c ch, PassesAll s i f c .heartbeat ch → exec (.heartbeat i f) s = .next (answerHeartbeat (received s i) i c f)) ∧
  (∀ s i f c, c.goingAway = false → halting s = false → optOf f = 0 → f.keyLen = 0 → f.tagCount = 0 → f.dataLen = 0 →
    answerHeartbeat s i c f = sendFrame s i
      (stampResp c f.channel f.reqId f.opcode { reason := hbCode s + 256 * levelCode s.power.level })) ∧
  (∀ s i f r, rowOfFrame f = some r → (r ≠ (3, 0) → exec (.hello i f) s = .next s) ∧
    (r ≠ (5, 1) → exec (.auth i f) s = .next s) ∧ (r ≠ (7, 1) → exec (.channelOpen i f) s = .next s) ∧
    (r ≠ (7, 2) → exec (.channelClose i f) s = .next s) ∧ (r ≠ (1, 0x13) → exec (.heartbeat i f) s = .next s))

/-- A request of each operation that passes every frame check of its open session is admitted, and the queues are
served. A new request takes the next operation number, its place in its session's order and window, a stamp of the
configuration, and its stall's queue: backfill writes apart. A repeat in the window executes nothing: a sent response is
sent again from the cache or answered DUPLICATE_UNKNOWN. A drive that halts or has no data service, and a frozen or
removed stall, turn it away; a stall being drained holds it. Without SCHED the queued operation admitted first runs
next; with it, the head request of the active stall at the front runs while the deficit reaches its cost. Dispatch
charges the buckets and runs the operation. SCHED_DISPATCH serves the queues. -/
def Obligations.RequestsAreAdmittedAndDispatchedAsTheirRulesSay : Prop :=
  (∀ s i f c ch (t : OpCode → State), (∀ code, t code =
      settle (schedRun (admitRequest (received s i) i f.channel c (c.stall.getD 0) code f))) →
    (PassesAll s i f c .put ch → exec (.put i f) s = .next (t .put)) ∧
    (PassesAll s i f c .get ch → exec (.get i f) s = .next (t .get)) ∧
    (PassesAll s i f c .head ch → exec (.head i f) s = .next (t .head)) ∧
    (PassesAll s i f c .delete ch → exec (.delete i f) s = .next (t .delete)) ∧
    (PassesAll s i f c .list ch → exec (.list i f) s = .next (t .list)) ∧
    (PassesAll s i f c .cas ch → exec (.cas i f) s = .next (t .cas)) ∧
    (PassesAll s i f c .mputBegin ch → exec (.mputBegin i f) s = .next (t .mputBegin)) ∧
    (PassesAll s i f c .mputPart ch → exec (.mputPart i f) s = .next (t .mputPart)) ∧
    (PassesAll s i f c .mputCommit ch → exec (.mputCommit i f) s = .next (t .mputCommit)) ∧
    (PassesAll s i f c .mputAbort ch → exec (.mputAbort i f) s = .next (t .mputAbort)) ∧
    (PassesAll s i f c .txn ch → exec (.txn i f) s = .next (t .txn)) ∧
    (PassesAll s i f c .tag ch → exec (.tag i f) s = .next (t .tag)) ∧
    (PassesAll s i f c .find ch → exec (.find i f) s = .next (t .find)) ∧
    (PassesAll s i f c .fetch ch → exec (.fetch i f) s = .next (t .fetch)) ∧
    (PassesAll s i f c .flush ch → exec (.flush i f) s = .next (t .flush)) ∧
    (PassesAll s i f c .discard ch → exec (.discard i f) s = .next (t .discard)) ∧
    (PassesAll s i f c .shred ch → exec (.shred i f) s = .next (t .shred)) ∧
    (PassesAll s i f c .stat ch → exec (.stat i f) s = .next (t .stat)) ∧
    (PassesAll s i f c .mbxSend ch → exec (.mbxSend i f) s = .next (t .mbxSend)) ∧
    (PassesAll s i f c .mbxRecv ch → exec (.mbxRecv i f) s = .next (t .mbxRecv))) ∧
  (∀ s i f c code, Passes s i f c .open_ → f.kind = 1 → opOfCode f.opcode = some code →
    c.blocked ≠ [] ∨ stagingFits (received s i) i f.dataLen = false → exec (requestOf i f code) s =
      .next (updConn (received s i) i (fun c => { c with blocked := c.blocked ++ [f] }))) ∧
  exec .schedDispatch = (fun s => .next (unblock (settle (schedRun s)))) ∧
  (∀ s i f c code ch, Admits s i f c code ch → getOp s s.kv.nextOp = none → ∃ u o,
    admitRequest (received s i) i f.channel c (c.stall.getD 0) code f = queueOp u s.kv.nextOp o ∧ u.kv.nextOp = s.kv.nextOp + 1 ∧
    o.conn = i ∧ o.chan = f.channel ∧ o.stall = c.stall.getD 0 ∧ o.generation = c.generation ∧ o.frame = f ∧ o.code = code ∧
    o.phase = .queued ∧ o.snap = snapshot s (c.stall.getD 0) ∧ u.kv.objs = s.kv.objs ∧
    (getOp u s.kv.nextOp).map (fun x => (x.frame, x.code, x.phase)) = some (f, code, .queued)) ∧
  (∀ s id o, ∃ u, u = charge s o.stall .ops 1 ∧ queueOp s id o = updStall u o.stall (fun d =>
    if isWriteOp o.code ∧ o.frame.flags.testBit 1 then { d with backfill := d.backfill ++ [id] }
    else { d with live := d.live ++ [id] })) ∧
  (∀ s i f c code ch e, PassesAll s i f c code ch → ch.window.find? (fun e => decide (e.reqId = f.reqId)) = some e →
    e.sent = true → admitRequest (received s i) i f.channel c (c.stall.getD 0) code f =
      replyInOrder (charge (received s i) (c.stall.getD 0) .ops 1) i f.channel f.reqId (match e.cached with
        | some r => r | none => stampResp c f.channel f.reqId f.opcode { status := .duplicateUnknown, reason := 0 })) ∧
  (∀ s c x, (c.goingAway = true ∨ halting s = true → turnedAway s c x = some { status := .unavailable, reason := 0x0401 }) ∧
    (c.goingAway = false → halting s = false → ready s = false →
      turnedAway s c x = some { status := .notReady, reason := 0 }) ∧
    (c.goingAway = false → halting s = false → ready s = true →
      ((getStall s x).state = .freezing ∨ (getStall s x).state = .frozen →
        turnedAway s c x = some { status := .frozen, reason := 0 }) ∧
      ((getStall s x).state = .free ∨ (getStall s x).state = .removing →
        turnedAway s c x = some { status := .denied, reason := 0x0203 }) ∧
      ((getStall s x).state = .active ∨ (getStall s x).state = .draining → turnedAway s c x = none))) ∧
  (∀ s id, islUp s .sched = false → canDispatch s = true → firstQueued s = some id →
    schedRun s = wakeWork (arrivalN s.kv.ops.length (dispatchOp s id))) ∧
  (∀ s id o x n, canDispatch s = true → headOf s x = some id → getOp s id = some o →
    (opCost s o : Int) ≤ (getStall s x).deficit → serveStall (n + 1) s x =
      serveStall n (dispatchOp (updStall s x (fun d => { d with deficit := d.deficit - (opCost s o : Int) })) id) x) ∧
  (∀ s id o, getOp s id = some o → ∃ u, dispatchOp s id = runOp u id ∧ getOp u id = some { o with phase := .waitLock } ∧
    u.kv.objs = s.kv.objs ∧ u.clock = s.clock ∧ u.cfg = s.cfg)

/-- A PUT or CAS whose checks pass and that nothing makes wait leaves, under its key, its value and tags with the next
version (1 and the next incarnation for an absent key), its expiry from its retention, and no other key's object
changed; it answers that pair, when its data is on flash if PERSIST or write-through ask so. A DELETE or DISCARD of one
key removes it and no other. A TAG gives the object its new tags and hold and keeps value and version. A DISCARD with
PREFIX or a SHRED removes every visible unheld object it names, no other, and makes one ticket with their number and
bytes. A check that fails is answered and changes no object; an earlier write of the session or a lock makes it wait.
Lock fields, DENIED of held objects and NOT_FOUND are as stated. -/
def Obligations.WritesAndRemovalsCommitAsTheirRulesSay : Prop :=
  (∀ s id o, getOp s id = some o → o.code = .put ∨ o.code = .cas → mustWait s id o [opKey o] = false →
    firstResp [heldErr (objOf s (opKey o)), putCond (decide (o.code = .cas)) (o.frame.flags.testBit 8) (objOf s (opKey o))
      o.frame.version o.frame.incarnation, endErr (objOf s (opKey o)),
      quotaErr s o (putChange (opView s o) (opKey o) (objOf s (opKey o)) o.frame.tags.length o.frame.dataLen o.frame.dataLen),
      laterErr s true [opKey o]] = none →
    (o.arcDone = true ∨ (o.lockAt = none ∧ staticErr s o (connOf s o).gen (connOf s o).maxData = none ∧ o.frame.tags = [] ∧
      (o.frame.dataLen = 0 ∨ direct s o = true ∨ capFits s o.snap.policy o.frame.dataLen = true) ∧ s.upkeep.gc ≠ .matched)) →
    ∃ t y x, runOp s id = t ∧ AMap.find t.kv.objs (opKey o) = some y ∧ y.value = o.frame.data ∧ y.tags = o.frame.tags ∧
      y.expiry = now s + retentionOf o o.frame.arg ∧ y.held = false ∧ y.wseq = s.kv.nextWseq ∧
      (∀ z, objOf s (opKey o) = some z → y.version = z.version + 1 ∧ y.incarnation = z.incarnation) ∧
      (objOf s (opKey o) = none → y.version = 1 ∧ y.incarnation = s.kv.nextInc) ∧
      (∀ j, j ≠ opKey o → AMap.find t.kv.objs j = AMap.find s.kv.objs j) ∧
      getOp t id = some x ∧ x.resp.map (fun r => (r.status, r.version, r.incarnation)) = some (.ok, y.version, y.incarnation) ∧
      (o.frame.flags.testBit 0 = true ∨ s.power.weak = true ∨ s.power.cellWt = true → x.phase = .waitPersist) ∧
      (x.phase = .waitPersist ∨ x.phase = .working)) ∧
  (∀ s id o y, getOp s id = some o → o.code = .delete ∨ (o.code = .discard ∧ o.frame.flags.testBit 8 = false) →
    o.arcDone = true ∨ (o.lockAt = none ∧ staticErr s o (connOf s o).gen (connOf s o).maxData = none) →
    mustWait s id o [opKey o] = false → objOf s (opKey o) = some y → y.held = false → laterErr s false [opKey o] = none →
    o.code = .discard ∨ (o.frame.version = 0 ∧ o.frame.incarnation = 0) ∨
      (o.frame.version = y.version ∧ o.frame.incarnation = y.incarnation) → ∃ t x, runOp s id = t ∧
      AMap.find t.kv.objs (opKey o) = none ∧ (∀ j, j ≠ opKey o → AMap.find t.kv.objs j = AMap.find s.kv.objs j) ∧
      getOp t id = some x ∧ x.resp.map (fun r => (r.status, r.version, r.incarnation)) = some (.ok, y.version, y.incarnation) ∧
      (x.phase = .waitPersist ∨ x.phase = .working)) ∧
  (∀ s id o, getOp s id = some o → o.code = .put ∨ o.code = .cas ∨ o.code = .delete ∨ o.code = .tag →
    o.arcDone = false → o.lockAt = none → staticErr s o (connOf s o).gen (connOf s o).maxData = none →
    (mustWait s id o [opKey o] = true → runOp s id = waitIn s id .waitLock false) ∧
    (mustWait s id o [opKey o] = false → objOf s (opKey o) = none → o.code = .delete ∨ o.code = .tag →
      runOp s id = answerOp (freeLocks s id) id { status := .notFound, reason := 0 }) ∧
    (∀ y, mustWait s id o [opKey o] = false → objOf s (opKey o) = some y → y.held = true → o.code ≠ .tag →
      runOp s id = answerOp (freeLocks s id) id { status := .denied, reason := 0x1501 })) ∧
  (∀ s id o r, getOp s id = some o → o.arcDone = false → o.lockAt = none →
    staticErr s o (connOf s o).gen (connOf s o).maxData = some r → runOp s id = answerOp (freeLocks s id) id r) ∧
  (∀ s id o y, getOp s id = some o → o.code = .tag → mustWait s id o [opKey o] = false → objOf s (opKey o) = some y →
    o.arcDone = true ∨ (o.lockAt = none ∧ staticErr s o (connOf s o).gen (connOf s o).maxData = none ∧
      newTags (optOf o.frame % 4) y.tags o.frame.tags = y.tags) →
    ∀ ts h, ts = newTags (optOf o.frame % 4) y.tags o.frame.tags →
    h = (if (optOf o.frame).testBit 2 then true else if (optOf o.frame).testBit 3 then false else y.held) → ts.length ≤ 4 → y.held = false ∨ ts.any isEvidence = true →
    (optOf o.frame).testBit 2 = false ∨ (ts.any isEvidence = true ∧ useHold s o.stall + y.value.length ≤ limitOf o 1) →
    (o.frame.version = 0 ∧ o.frame.incarnation = 0) ∨ (o.frame.version = y.version ∧ o.frame.incarnation = y.incarnation) →
    quotaErr s o { noChange with entries := (entryCount y.tags.length (stallWidth (opView s o) o.stall),
      entryCount ts.length (stallWidth (opView s o) o.stall)) } = none → laterErr s false [opKey o] = none →
    ∃ t x, runOp s id = t ∧ AMap.find t.kv.objs (opKey o) = some { y with tags := ts, held := h } ∧
      (∀ j, j ≠ opKey o → AMap.find t.kv.objs j = AMap.find s.kv.objs j) ∧ getOp t id = some x ∧
      x.resp.map (fun r => (r.status, r.version, r.incarnation, r.tags)) = some (.ok, y.version, y.incarnation, ts)) ∧
  (∀ s id o g named n, getOp s id = some o → o.code = .shred ∨ (o.code = .discard ∧ o.frame.flags.testBit 8 = true) →
    o.arcDone = true ∨ (o.lockAt = none ∧ staticErr s o (connOf s o).gen (connOf s o).maxData = none) → g = (connOf s o).gen →
    named = (namedObjs s o g).filter (fun x => ! x.2.held) → n = s.kv.nextTicket →
    mustWait s id o (named.map (fun x => x.1)) = false → ticketsOf s o.stall < 64 →
    laterErr s false (named.map (fun x => x.1)) = none → ∃ t k x, runOp s id = t ∧
      (∀ j, (∃ y, (j, y) ∈ named) → AMap.find t.kv.objs j = none) ∧
      (∀ j, (∀ y, (j, y) ∉ named) → AMap.find t.kv.objs j = AMap.find s.kv.objs j) ∧
      t.kv.nextTicket = n + 1 ∧ AMap.find t.kv.tickets n = some k ∧ k.stall = o.stall ∧ k.generation = o.generation ∧
      k.kind = (if o.code = .shred then .shred else .discard) ∧ k.state = .running ∧
      k.summary = (named.length, listSum (named.map objBytes), (namedObjs s o g).length - named.length) ∧
      getOp t id = some x ∧ x.resp.map (fun r => (r.status, r.arg)) = some (.ok, n))

/-- A read of an absent key is NOT_FOUND, of a lost one UNAVAILABLE; a GET of a present object answers its pair, its
length, tags and the bytes from the offset, a HEAD the same without bytes and with its hold; an offset beyond the end is
INVALID, another pair VERSION_MISMATCH. A LIST and a STAT answer what was seen at admission. A FETCH answers its ticket
and restarts its idle time. MPUT_BEGIN opens an upload under the next handle, at most 16 per stall; MPUT_ABORT ends it;
an unknown handle is NO_SUCH_TICKET. A FIND makes one running ticket, at most 64 per stall. A FLUSH with nothing
unpersisted answers at once. MBX_SEND appends to the wardens' mailbox of at most 16, MBX_RECV drops what was received
and answers the oldest. None changes an object. -/
def Obligations.ReadsTicketsAndMailboxesAnswerAsTheirRulesSay : Prop :=
  (∀ s id o c, getOp s id = some o → c = connOf s o → o.arcDone = false → o.lockAt = none →
    staticErr s o c.gen c.maxData = none → o.seen.isSome ∨ sessionBlocks s id o = false →
    (o.code = .get ∨ o.code = .head → seenObj s o (opKey o) = none →
      runOp s id = answerOp s id { status := .notFound, reason := 0 }) ∧
    (∀ v, o.code = .get → c.gen ≠ .kv1 → seenObj s o (opKey o) = some v →
      (v.value.length < o.frame.arg → runOp s id = answerOp s id { status := .invalid, reason := 0x120A }) ∧
      (o.frame.arg ≤ v.value.length → (o.frame.version ≠ 0 ∨ o.frame.incarnation ≠ 0) →
        (o.frame.version ≠ v.version ∨ o.frame.incarnation ≠ v.incarnation) → runOp s id =
          answerOp s id { status := .versionMismatch, reason := 0, version := v.version, incarnation := v.incarnation }) ∧
      (o.frame.arg ≤ v.value.length → (o.frame.version = 0 ∧ o.frame.incarnation = 0) ∨
          (o.frame.version = v.version ∧ o.frame.incarnation = v.incarnation) →
        (v.avail = .lost → runOp s id = answerOp s id { status := .unavailable, reason := 0x1301 }) ∧
        (v.avail = .ok → laterErr s false [opKey o] = none → ∃ u, u = { s with media := u.media } ∧ runOp s id = answerOp u id {
          version := v.version, incarnation := v.incarnation, arg := v.value.length, tags := v.tags,
          data := (v.value.drop o.frame.arg).take (Nat.min (if o.frame.detail = 0 then c.maxData
            else Nat.min o.frame.detail c.maxData) (v.value.length - o.frame.arg)) }))) ∧
    (∀ v, o.code = .get → c.gen = .kv1 → seenObj s o (opKey o) = some v → v.value.length ≤ 4194304 → v.avail = .ok →
      laterErr s false [opKey o] = none → ∃ u, u = { s with media := u.media } ∧
        runOp s id = answerOp u id { version := v.version, data := v.value }) ∧
    (∀ v, o.code = .head → c.gen ≠ .kv1 → seenObj s o (opKey o) = some v → v.avail = .ok →
      laterErr s false [opKey o] = none → (o.frame.version = 0 ∧ o.frame.incarnation = 0) →
      ∃ u, u = { s with media := u.media } ∧ runOp s id = answerOp u id {
        version := v.version, incarnation := v.incarnation, arg := v.value.length, detailHi := b2n v.held, tags := v.tags }) ∧
    (∀ r, o.code = .list ∨ o.code = .stat → o.early = some r → runOp s id = answerOp s id ((listLater s o).getD r)) ∧
    (o.code = .list → o.early = none → sessionBlocks s id o = false →
      runOp s id = answerOp s id ((listLater s o).getD (listAnswer s o c))) ∧
    (o.code ≠ .list ∨ s.isl.rebuilding = [] → listLater s o = none) ∧
    (o.code = .fetch → (fetchAnswer s o c).status ≠ .noSuchTicket → runOp s id =
      answerOp (updTicket s o.frame.arg (fun t => { t with idleSince := now s })) id (fetchAnswer s o c)) ∧
    (o.code = .fetch → AMap.find s.kv.tickets o.frame.arg = none → runOp s id = answerOp s id
      { status := .noSuchTicket, reason := if s.kv.expired.contains (o.stall, o.frame.arg) then 0x1601 else 0x1602 }) ∧
    (∀ t, o.code = .fetch → AMap.find s.kv.tickets o.frame.arg = some t → t.stall = o.stall → t.generation = o.generation →
      t.state = .running → (fetchAnswer s o c).status = .notReady ∧ (fetchAnswer s o c).arg = o.frame.arg) ∧
    (o.code = .mputBegin → 16 ≤ (s.kv.uploads.filter (fun u => decide (u.2.key.stall = o.stall))).length →
      runOp s id = answerOp s id { status := .tryLater, reason := 0x1104 }) ∧
    (o.code = .mputBegin → (s.kv.uploads.filter (fun u => decide (u.2.key.stall = o.stall))).length < 16 →
      laterErr s false [opKey o] = none → ∃ t u x,
      runOp s id = t ∧ AMap.find t.kv.uploads s.kv.nextHandle = some u ∧ t.kv.nextHandle = s.kv.nextHandle + 1 ∧
      u.key = opKey o ∧ u.tags = o.frame.tags ∧ u.parts = [] ∧ t.kv.objs = s.kv.objs ∧
      getOp t id = some x ∧ x.resp.map (fun r => (r.status, r.arg)) = some (.ok, s.kv.nextHandle)) ∧
    (o.code = .mputAbort → uploadOf s o = none → runOp s id = answerOp s id
      { status := .noSuchTicket, reason := if s.kv.lostHandles.contains o.frame.arg then 0x1602 else 0x1603 }) ∧
    (o.code = .mputAbort → uploadOf s o ≠ none → runOp s id = answerOp (endUpload s o.frame.arg) id {} ∧
      AMap.find (endUpload s o.frame.arg).kv.uploads o.frame.arg = none ∧ (endUpload s o.frame.arg).kv.objs = s.kv.objs) ∧
    (o.code = .find → 64 ≤ ticketsOf s o.stall → runOp s id = answerOp s id { status := .tryLater, reason := 0x1102 }) ∧
    (o.code = .find → ticketsOf s o.stall < 64 → rowScope s o = false → ∃ t k x, runOp s id = t ∧
      AMap.find t.kv.tickets s.kv.nextTicket = some k ∧ k.kind = .find ∧ k.state = .running ∧ k.stall = o.stall ∧
      k.words = o.frame.tags ∧ t.kv.nextTicket = s.kv.nextTicket + 1 ∧ t.kv.objs = s.kv.objs ∧
      getOp t id = some x ∧ x.resp.map (fun r => (r.status, r.arg)) = some (.ok, s.kv.nextTicket)) ∧
    (o.code = .flush → flushCovers s id o = ([], false) → runOp s id = answerOp s id { persisted := true }) ∧
    (o.code = .flush → flushCovers s id o ≠ ([], false) → coldNow s = true → (flushCovers s id o).1 ≠ [] →
      runOp s id = answerOp s id { status := .tryLater, reason := 0x0301 }) ∧
    (o.code = .mbxSend → 16 ≤ (getStall s o.stall).toWarden.msgs.length →
      runOp s id = answerOp s id { status := .tryLater, reason := 0 }) ∧
    (∀ q, o.code = .mbxSend → q = (getStall s o.stall).toWarden → q.msgs.length < 16 → ∃ u v, runOp s id = answerOp v id {
        version := q.next, detailHi := 16 - (q.msgs.length + 1) } ∧ v = wardenBell u o.stall ∧ u.kv = s.kv ∧
      (getStall u o.stall).toWarden = { msgs := q.msgs ++ 
        [{ seq := q.next, type := o.frame.arg % 256, ltime := now s, body := o.frame.data }], next := q.next + 1 }) ∧
    (∀ q ms, o.code = .mbxRecv → q = (getStall s o.stall).toTenant → ms = q.msgs.filter (fun m => decide (o.frame.version ≤ m.seq)) →
      ∃ u, (getStall u o.stall).toTenant = { q with msgs := ms } ∧ u.kv = s.kv ∧ (ms = [] → runOp s id = answerOp u id {}) ∧
        ∀ m r, ms = m :: r → runOp s id = answerOp u id 
          { version := m.seq, incarnation := m.ltime, arg := m.type, detailHi := ms.length, data := m.body }))

/-- An open upload ends 300 s after its last request. A TXN that waits for locks takes those that are free and, holding
all, is checked and committed; at 100 ms without them it answers LOCK_TIMEOUT and frees its locks. A FIND or DISCARD
ticket ends only while it runs; a finished ticket goes 60 s after its idle time began and its number is kept as expired.
An unheld object's expiry brings the clock to its EXPIRY, from which on it is absent. An operation with its answer ready
leaves the drive, its locks go and its answer takes its place in its session's order. A refill raises each bucket with a
RATE, or whose RATE was 0 since a request that waits for it was admitted, by that RATE per second up to BURST. A doorbell due is sent at the end of its 100 ms. Numbers that name nothing do
nothing. -/
def Obligations.UploadsLocksTicketsAndBucketsEndAsTheirRulesSay : Prop :=
  (∀ s n u, AMap.find s.kv.uploads n = some u →
    exec (.uploadExpiry n) s = .next (settle (endUpload (advanceTo s (u.lastAt + 300000000)) n))) ∧
  (∀ s n, AMap.find s.kv.uploads n = none → exec (.uploadExpiry n) s = .next s) ∧
  (∀ s n u, AMap.find s.kv.uploads n = some u → AMap.find (endUpload s n).kv.uploads n = none ∧
    (endUpload s n).kv.objs = s.kv.objs) ∧
  (∀ s id o, getOp s id = some o → o.code = .txn → o.phase = .waitLock →
    (o.lockAt = none → exec (.txnLocksTaken id) s = .next s ∧ exec (.lockTimeout id) s = .next s) ∧
    (∀ t, o.lockAt = some t →
      (holdsAll (lockTxn s id o) id (txnFps o) = false → exec (.txnLocksTaken id) s = .next (lockTxn s id o)) ∧
      (holdsAll (lockTxn s id o) id (txnFps o) = true → ∃ x, getOp (lockTxn s id o) id = some x ∧ x.frame = o.frame ∧
        exec (.txnLocksTaken id) s = .next (settle (finishTxn (lockTxn s id o) id x))) ∧
      (holdsAll s id (txnFps o) = true → exec (.lockTimeout id) s = .next s) ∧
      (holdsAll s id (txnFps o) = false → exec (.lockTimeout id) s =
        .next (settle (answerOp (freeLocks (advanceTo s (t + 100000)) id) id { status := .lockTimeout, reason := 0 }))))) ∧
  (∀ s id o, getOp s id = some o → o.phase ≠ .waitLock ∨ o.code ≠ .txn →
    exec (.txnLocksTaken id) s = .next s ∧ exec (.lockTimeout id) s = .next s) ∧
  (∀ s id k i, AMap.find (freeLocks s i).kv.locks k = some id → id ≠ i) ∧
  (∀ s n t, AMap.find s.kv.tickets n = some t →
    exec (.findDone (.ticket n)) s = .next (if t.kind = .find ∧ t.state = .running then findEnds s n t else s) ∧
    exec (.discardTicketDone n) s = .next (if t.kind = .discard ∧ t.state = .running then endTicket s n .done 0 else s) ∧
    (t.state = .running → exec (.ticketExpiry n) s = .next s) ∧
    (t.state ≠ .running → ∃ u, exec (.ticketExpiry n) s = .next u ∧ AMap.find u.kv.tickets n = none ∧
      u.kv.expired = (t.stall, n) :: s.kv.expired ∧ u.clock = (advanceTo s (t.idleSince + 60000000)).clock)) ∧
  (∀ s n, AMap.find s.kv.tickets n = none → exec (.findDone (.ticket n)) s = .next s ∧
    exec (.discardTicketDone n) s = .next s ∧ exec (.ticketExpiry n) s = .next s) ∧
  (∀ s p m, exec (.findDone (.served p m)) s = .next
    (match s.row.served.find? (fun v => decide (v.peer = p) && decide (v.msgId = m)) with
      | none => s | some v => servedEnds s v)) ∧
  (∀ s k o, objOf s k = some o → (o.held = true → exec (.objectExpiry k) s = .next s) ∧
    (o.held = false → exec (.objectExpiry k) s = .next (advanceTo s o.expiry) ∧
      (s.phase ≠ .off → objOf (advanceTo s o.expiry) k = none))) ∧
  (∀ s k, objOf s k = none → exec (.objectExpiry k) s = .next s) ∧
  (∀ s id o r, getOp s id = some o → o.phase = .working → o.resp = some r → exec (.operationComplete id) s =
    .next (unblock (settle (schedRun (finishOp (listCredit s o) id r))))) ∧
  (∀ s id o r, getOp s id = some o → o.phase ≠ .working ∨ (o.resp = none ∧ r = o.resp) →
    exec (.operationComplete id) s = .next s) ∧
  (∀ s id o r c, getOp s id = some o → getConn s o.conn = some c → ∃ u q, finishOp s id r = pump (updChan u o.conn o.chan
      (fun x => { x with out := x.out.map (fun e => if e.op = some id then { e with resp := some q, ws := o.ws } else e) }))
      o.conn o.chan ∧ getOp u id = none ∧ q.status = r.status ∧ q.data = r.data ∧ q.reqId = o.frame.reqId ∧
      q.opcode = codeOfOp o.code ∧ q.channel = o.chan ∧ q.throttled = throttledNow u o) ∧
  (∀ s x e, ∃ t, exec (.bucketRefill x e) s = .next t ∧ (getStall t x).levels =
      (schedWords s x).zipIdx.map (fun w => refilled (refillWord s x w.2 w.1) e (levelOf (getStall s x) w.2)) ∧
    ∀ y, y ≠ x → getStall t y = getStall s y) ∧
  (∀ s x i w, rateOf w ≠ 0 → refillWord s x i w = w) ∧
  (∀ w e l, (rateOf w = 0 → refilled w e l = l) ∧ l ≤ refilled w e l ∧
    (refilled w e l ≤ l + rateOf w * e ∨ refilled w e l = l) ∧
    (l ≤ 1000000 * burstOf w → refilled w e l ≤ 1000000 * burstOf w)) ∧
  (∀ s i c t, getConn s i = some c → (c.doorbell = (some t, true) →
      exec (.mbxDoorbell i) s = .next (doorbell (advanceTo s (t + 100000)) i c)) ∧
    (c.doorbell = (some t, false) ∨ c.doorbell = (none, true) ∨ c.doorbell = (none, false) →
      exec (.mbxDoorbell i) s = .next s))

/-- `stall create` of a FREE stall makes it ACTIVE at generation 1 or its kept one, with its host, a fresh key, no
credentials and full buckets; one that is removed or drained answers busy, else STALL_STATE. While a stall drains, its
commands answer busy. `reset` and `rebind` of an ACTIVE stall begin a drain at the next generation for 200 ms and answer
at its end; `remove` likewise unless held objects stay without force; a freeze begins for 500 ms. The drain's end makes
it ACTIVE with full buckets or destroys it; a removed stall without an erase left is FREE. A thaw needs the stall's
latest blob and configuration and restores its levels and mailbox at the next generation. Owner, key export and
credentials act as stated, in other states STALL_STATE. -/
def Obligations.StallsLiveAsChapter11Says : Prop :=
  (∀ s l d n h x, Accepts s l {} (stallErr n) d → x = stallArg n →
    ((getStall s x).state = .removing ∨ (getStall s x).state = .draining →
      exec (.stallCreate l n h) s = .next (answer (heard s l) l.sess l.tag .busy none)) ∧
    ((getStall s x).state = .active ∨ (getStall s x).state = .freezing ∨ (getStall s x).state = .frozen →
      exec (.stallCreate l n h) s = .next (answer (heard s l) l.sess l.tag (.err .stallState) none)) ∧
    ((getStall s x).state = .free → (getStall s x).reloc = none → ∃ u g, exec (.stallCreate l n h) s =
        .next (answer u l.sess l.tag (okLine [("generation", vn g)]) none) ∧
      g = (if (getStall s x).generation = 0 then 1 else (getStall s x).generation) ∧ (getStall u x).state = .active ∧
      (getStall u x).generation = g ∧ (getStall u x).host = h.getD 0 ∧ (getStall u x).creds = [] ∧
      (getStall u x).dataKey = some (Config.freeWord s.freeCtr) ∧ (getStall u x).deficit = 0)) ∧
  (∀ s l d n x, Accepts s l (changesStall s l n) (stallErr n) d → x = stallArg n → (getStall s x).state = .draining → ∀ t h,
    t = answer (heard s l) l.sess l.tag .busy none → exec (.stallReset l n) s = .next t ∧ exec (.stallRebind l n h) s = .next t ∧
    exec (.stallFreeze l n) s = .next t ∧ exec (.stallThaw l n h) s = .next t ∧ exec (.stallRemove l n false) s = .next t ∧
    exec (.stallRelocateCancel l n) s = .next t) ∧
  (∀ s l d n x, Accepts s l (changesStall s l n) (stallErr n) d → x = stallArg n → (getStall s x).state ≠ .draining →
    (relocates s x = true → ∀ t h, t = answer (heard s l) l.sess l.tag (.err .relocating) none → exec (.stallReset l n) s = .next t ∧
      exec (.stallRebind l n h) s = .next t ∧ exec (.stallFreeze l n) s = .next t) ∧
    (relocates s x = false → (getStall s x).state ≠ .active → ∀ t h, t = answer (heard s l) l.sess l.tag (.err .stallState) none →
      exec (.stallReset l n) s = .next t ∧ exec (.stallRebind l n h) s = .next t ∧ exec (.stallFreeze l n) s = .next t) ∧
    (relocates s x = false → (getStall s x).state = .active → ∀ h,
      exec (.stallReset l n) s = .next (waits (startDrain (heard s l) x .reset none (some (l.sess, d.nextSlot))) l) ∧
      exec (.stallRebind l n h) s = .next (waits (startDrain (heard s l) x .rebind (some h) (some (l.sess, d.nextSlot))) l) ∧
      exec (.stallFreeze l n) s = .next (waits (startFreeze (heard s l) x (some (l.sess, d.nextSlot))) l)) ∧
    (relocates s x = false → (getStall s x).state = .active ∨ (getStall s x).state = .frozen →
      ((stallObjs s x).any (fun o => o.2.held) = true →
        exec (.stallRemove l n false) s = .next (answer (heard s l) l.sess l.tag (.err .held) none)) ∧
      ((stallObjs s x).any (fun o => o.2.held) = false → exec (.stallRemove l n false) s =
        .next (waits (startDrain (heard s l) x .remove none (some (l.sess, d.nextSlot))) l)))) ∧
  (∀ s x k h q, (connsOf s x) = [] → ∃ t, startDrain s x k h q = t ∧ (getStall t x).state = .draining ∧
    (getStall t x).generation = nextGen (getStall s x).generation ∧ (getStall t x).host = h.getD (getStall s x).host ∧
    (getStall t x).drain = some (k, s.clock.ledger + 200000, q)) ∧
  (∀ s x q, (getStall (startFreeze s x q) x).state = .freezing ∧
    (getStall (startFreeze s x q) x).freeze = some (s.clock.ledger + 500000, q)) ∧
  (∀ s x, exec (.drainEnd x) s = .next (endDrain s x) ∧ exec (.freezeDrainEnd x) s = .next (endFreeze s x) ∧
    ((getStall s x).drain = none → endDrain s x = s) ∧ ((getStall s x).freeze = none → endFreeze s x = s)) ∧
  (∀ s x, ((getStall s x).state = .removing → s.media.bands.all (fun b => ! (b.2.pslc && b.2.shredPending)) = true → ∃ t,
      exec (.stallRemovalDone x) s = .next t ∧ (getStall t x).state = .free ∧ (getStall t x).owner = none ∧
      (getStall t x).host = 0) ∧
    ((getStall s x).state ≠ .removing → exec (.stallRemovalDone x) s = .next s)) ∧
  (∀ s l d n h x, Accepts s l (changesStall s l n) (stallErr n) d → x = stallArg n → (getStall s x).state ≠ .draining →
    (loadedBlob s x = none → exec (.stallThaw l n h) s = .next (answer (heard s l) l.sess l.tag (.err .blobInvalid) none)) ∧
    (∀ y b, loadedBlob s x = some (y, b) →
      (y ≠ x ∨ (getStall s x).lastFreeze ≠ some (b.generation, b.freezeSeq) ∨ b.config ≠ stallConfig s x →
        exec (.stallThaw l n h) s = .next (answer (heard s l) l.sess l.tag (.err .blobMismatch) none)) ∧
      (y = x → (getStall s x).lastFreeze = some (b.generation, b.freezeSeq) → b.config = stallConfig s x →
        ((getStall s x).state ≠ .frozen → exec (.stallThaw l n h) s = .next (answer (heard s l) l.sess l.tag (.err .stallState) none)) ∧
        ((getStall s x).state = .frozen → exec (.stallThaw l n h) s = .next (answer (thawStall (heard s l) x b h) l.sess l.tag
          (okLine [("generation", vn (getStall (thawStall (heard s l) x b h) x).generation)]) none))))) ∧
  (∀ s l d n off hex x, Accepts s l (changesStall s l n) (firstErr [stallErr n, rangeErr off 0 65535,
      if hex.length = 0 ∨ 64 < hex.length then some .badValue else none]) d → x = stallArg n → (getStall s x).state ≠ .draining →
    exec (.stallBlobLoad l n off hex) s = .next (answer (updStall (heard s l) x (fun d => { d with
      loadBuf := hex.zipIdx.foldl (fun m b => AMap.set m (off.toNat + b.2) b.1) d.loadBuf })) l.sess l.tag (.ok []) none)) ∧
  (∀ s l d n w x, Accepts s l (changesStallP s l n) (firstErr [stallErr n, w.bind (fun w => rangeErr w 0 3)]) d → x = stallArg n →
    (getStall s x).state ≠ .draining → ∃ u, exec (.stallAdopt l n w) s = .next (answer u l.sess l.tag (.ok []) none) ∧
      (getStall u x).owner = w.map (fun w => Fin.ofNat 4 w.toNat) ∧ ∀ y, y ≠ x → getStall u y = getStall s y) ∧
  (∀ s l d n k x, Accepts s l (changesStallP s l n) (stallErr n) d → x = stallArg n →
    ((getStall s x).dataKey = none → exec (.stallKeyExport l n k) s = .next (answer (heard s l) l.sess l.tag (.err .stallState) none)) ∧
    (∀ e, (getStall s x).dataKey = some e → exec (.stallKeyExport l n k) s =
      .next (answer (logEv (heard s l) .stallKeyExported { stall := some x.val }) l.sess l.tag
        (okLine [("key", .bytes (Config.keyWrap k e))]) none))) ∧
  (∀ s l d n k x, Accepts s l (changesStall s l n) (firstErr [stallErr n, rangeErr k 0 7]) d → x = stallArg n →
    (getStall s x).state ≠ .draining →
    (∃ u, u.freeCtr = s.freeCtr + 1 ∧ exec (.stallCredNew l n k) s = .next (answer
      (changeCred u x (Fin.ofNat 8 k.toNat) (some (.secret (Config.randBytes s.freeCtr 32)))) l.sess l.tag
        (okLine [("secret", .bytes (Config.randBytes s.freeCtr 32))]) none)) ∧
    exec (.stallCredClear l n k) s =
      .next (answer (changeCred (heard s l) x (Fin.ofNat 8 k.toNat) none) l.sess l.tag (.ok []) none)) ∧
  (∀ s l d n k v x, Accepts s l (changesStall s l n)
      (firstErr [if (credOf v).isNone then some .badValue else none, stallErr n, rangeErr k 0 7]) d → x = stallArg n →
    (getStall s x).state ≠ .draining → exec (.stallCredSet l n k v) s =
      .next (answer (changeCred (heard s l) x (Fin.ofNat 8 k.toNat) (credOf v)) l.sess l.tag (.ok []) none)) ∧
  (∀ s x k v, (∀ c, v = some c → AMap.find (getStall (changeCred s x k v) x).creds k = some c) ∧
    (v = none → AMap.find (getStall (changeCred s x k v) x).creds k = none))

/-- A relocation of an ACTIVE stall to an accepting member offers and lists every present object; one that relocates, or
another state or target, is refused. A copy sends the next object or change, no sooner than the rate allows; with all accepted and at most 256 MiB of
changes unsent a cutover freezes the stall. The confirmation removes the source; a cause, or 10 s without confirmation,
fails it; a cancel works before cutover. A target takes messages of its partner only, each once and acknowledged.
Compose writes the session's buffer; a warden's message takes the next sequence in TO_TENANT, 16 at most; a receive
drops what came before. A frozen stall has no mailbox. Each metered second charges STORED and, but while the machine starts,
applies the closing rules, by their stated causes; an accumulator stays at its top. -/
def Obligations.RelocationMailboxAndMeteringActAsTheirChaptersSay : Prop :=
  (∀ s l d n dst dest rate acc x, Accepts s l (changesStall s l n) (firstErr [stallErr n, stallErr dest, rangeErr (rate.getD 100) 1 1000]) d →
    x = stallArg n → (getStall s x).state ≠ .draining →
    (relocates s x = true →
      exec (.stallRelocate l n dst dest rate acc) s = .next (answer (heard s l) l.sess l.tag (.err .relocating) none)) ∧
    (relocates s x = false → (getStall s x).state ≠ .active ∨ isMember s dst = false ∨ dst = Config.serial ∨ acc = false →
      exec (.stallRelocate l n dst dest rate acc) s = .next (answer (heard s l) l.sess l.tag (.err .relocateRefused) none)) ∧
    (relocates s x = false → (getStall s x).state = .active → isMember s dst = true → dst ≠ Config.serial → acc = true →
      ∃ u r, exec (.stallRelocate l n dst dest rate acc) s = .next (answer u l.sess l.tag (.ok []) none) ∧
        (getStall u x).reloc = some r ∧ r.peer = dst ∧ r.peerStall = stallArg dest ∧ r.source = true ∧ r.cutover = false ∧
        r.toCopy.length = (stallObjs s x).length ∧ r.changed = [] ∧ (getStall u x).state = .active)) ∧
  (∀ s x r, (getStall s x).reloc = some r →
    (r.source = false ∨ r.cutover = true ∨ (r.toCopy = [] ∧ r.changed = []) → exec (.relocateCopy x) s = .next s) ∧
    (∀ k ks u, r.source = true → r.cutover = false → r.toCopy ++ r.changed = k :: ks → u = advanceTo s r.nextAt →
      exec (.relocateCopy x) s = .next (sendKey x (updReloc u x (fun r => { r with
        nextAt := u.clock.ledger + ceilDiv (copyBytes u k) (Nat.max 1 r.rate) })) k) ∧ ∃ q, (getStall (sendKey x s k) x).reloc = some q ∧
        k ∉ q.toCopy ∧ k ∉ q.changed ∧ k ∈ q.sent) ∧
    (r.source = true → r.cutover = false → (getStall s x).state = .active → r.toCopy = [] → r.sent = [] →
      (changedBytes s r ≤ 268435456 → exec (.relocateCutover x) s =
        .next (startFreeze (updReloc s x (fun r => { r with cutover := true })) x none)) ∧
      (268435456 < changedBytes s r → exec (.relocateCutover x) s = .next s)) ∧
    (r.toCopy ≠ [] ∨ r.sent ≠ [] ∨ r.source = false → exec (.relocateCutover x) s = .next s) ∧
    (∀ c, c ≠ .noConfirm → exec (.relocateFailed x c) s = .next (relocFails (sendFail s x c) x c)) ∧
    (r.step2At = none → exec (.relocateFailed x .noConfirm) s = .next s) ∧
    (∀ t, r.step2At = some t → exec (.relocateFailed x .noConfirm) s =
      .next (relocFails (sendFail (advanceTo s (t + 10000000)) x .noConfirm) x .noConfirm))) ∧
  (∀ s x, (getStall s x).reloc = none → exec (.relocateCopy x) s = .next s ∧ exec (.relocateCutover x) s = .next s ∧
    exec (.relocateDone x) s = .next s ∧ ∀ c, exec (.relocateFailed x c) s = .next s) ∧
  (∀ s x, exec (.relocateDone x) s = .next (sourceDone s x)) ∧
  (∀ s l d n x, Accepts s l (changesStall s l n) (stallErr n) d → x = stallArg n → (getStall s x).state ≠ .draining →
    (∀ r, (getStall s x).reloc = some r → r.source = true → r.cutover = false → exec (.stallRelocateCancel l n) s =
      .next (answer (relocFails (sendFail (heard s l) x .cancelled) x .cancelled) l.sess l.tag (.ok []) none)) ∧
    ((getStall s x).reloc = none ∨ (∃ r, (getStall s x).reloc = some r ∧ (r.source = false ∨ r.cutover = true)) →
      exec (.stallRelocateCancel l n) s = .next (answer (heard s l) l.sess l.tag (.err .stallState) none))) ∧
  (∀ s h m, rowRuns s = false → exec (.relocateMessage h m) s = .next s) ∧
  (∀ s h m, rowRuns s = true → rowKnows s h.peer = false → exec (.relocateMessage h m) s =
    .next { s with row := { s.row with msgBad := s.row.msgBad + 1 } }) ∧
  (∀ s h m q, rowRuns s = true → rowKnows s h.peer = true →
    s.row.seen.find? (fun x => decide (x.1 = h.peer) && decide (x.2.1 = h.msgId)) = some q →
    exec (.relocateMessage h m) s = .next (rowSend s h.peer (.ack q.2.2) h.msgId)) ∧
  (∀ s h p x y k, rowRuns s = true → rowKnows s h.peer = true →
    s.row.seen.find? (fun x => decide (x.1 = h.peer) && decide (x.2.1 = h.msgId)) = none → relocWith s x p false = none →
    ∀ u, u = { s with row := { s.row with seenEpoch := Nat.max s.row.seenEpoch h.epoch } } →
      exec (.relocateMessage h (.removed p x k)) s = .next (rowSend { u with row := { u.row with
        seen := u.row.seen ++ [(h.peer, h.msgId, .ok)] } } h.peer (.ack .ok) h.msgId) ∧
      exec (.relocateMessage h (.offer p y x)) s = .next (rowSend { takeOffer u p y x with row := { (takeOffer u p y x).row with
        seen := (takeOffer u p y x).row.seen ++ [(h.peer, h.msgId, .ok)] } } h.peer (.ack .ok) h.msgId)) ∧
  (∀ s l d off bs, Accepts s l {} (rangeErr off 0 255) d → ∃ u, exec (.mbxCompose l off bs) s =
    .next (answer u l.sess l.tag (.ok []) none) ∧ u.stalls.tab = s.stalls.tab ∧
      AMap.find u.stalls.compose l.sess = some (writeBuf (AMap.getD s.stalls.compose l.sess []) off.toNat bs)) ∧
  (∀ s l d n ty len x, Accepts s l (changesStall s l n) (firstErr [stallErr n, rangeErr ty 0 255, rangeErr len 1 256]) d →
    x = stallArg n → (getStall s x).state ≠ .draining →
    ((getStall s x).state = .frozen ∨ (getStall s x).state = .freezing → exec (.mbxWardenSend l n ty len) s =
      .next (answer (heard s l) l.sess l.tag (.err .stallFrozen) none)) ∧
    (mailboxShut s x = false → 16 ≤ (getStall s x).toTenant.msgs.length →
      exec (.mbxWardenSend l n ty len) s = .next (answer (heard s l) l.sess l.tag .busy none)) ∧
    (mailboxShut s x = false → (getStall s x).toTenant.msgs.length < 16 → ∃ u, exec (.mbxWardenSend l n ty len) s = .next
        (answer (ringTenants (storeStall u x) x) l.sess l.tag (okLine [("seq", vn (getStall s x).toTenant.next)]) none) ∧
      (getStall u x).toTenant = { msgs := (getStall s x).toTenant.msgs ++ [{ seq := (getStall s x).toTenant.next,
                                                                             type := ty.toNat, ltime := now s,
                                                                             body := (writeBuf (AMap.getD s.stalls.compose
                                                                               l.sess []) 0 []).take len.toNat }],
                                  next := (getStall s x).toTenant.next + 1 })) ∧
  (∀ s l d n f x q, Accepts s l (changesStall s l n) (stallErr n) d → x = stallArg n → (getStall s x).state ≠ .draining →
    mailboxShut s x = false → q = (getStall s x).toWarden → ∃ u, (getStall u x).toWarden =
        { q with msgs := q.msgs.filter (fun m => decide (f ≤ m.seq)) } ∧
      (q.msgs.filter (fun m => decide (f ≤ m.seq)) = [] →
        exec (.mbxWardenRecv l n f) s = .next (answer u l.sess l.tag (okLine [("seq", vn 0)]) none)) ∧
      ∀ m r, q.msgs.filter (fun m => decide (f ≤ m.seq)) = m :: r → exec (.mbxWardenRecv l n f) s = .next (answer u l.sess l.tag
        (.ok ([("seq", vn m.seq), ("type", vn m.type), ("ltime", vn m.ltime)] :: hexLines 9 m.body)) none)) ∧
  (∀ s u, u = advanceBy s 1000000 → exec .meterTick s = .next (if metering u = true then
    (stallNos u).foldl (fun s n => closingRules .none_ (chargeStored s n (useBytes s n) 1000000) n) u
    else if u.phase = .starting ∧ stepDone u 10 = true then
      (stallNos u).foldl (fun s n => chargeStored s n (useBytes s n) 1000000) u else u)) ∧
  (∀ s n use us p, (getStall s n).period = some p → ∃ q, (getStall (chargeStored s n use us) n).period = some q ∧
    q.acc.stored = Nat.min (p.acc.stored + (use * us / 1000000 + p.rest) / 1024) 0xFFFFFFFFFFFFFFFF ∧
    q.rest = (use * us / 1000000 + p.rest) % 1024 ∧ q.acc.written = p.acc.written ∧ q.acc.read = p.acc.read ∧
    q.acc.ops = p.acc.ops ∧ q.acc.shredded = p.acc.shredded ∧ q.seq = p.seq ∧ q.bounds = p.bounds) ∧
  (∀ s n w k, (getStall s n).period = none → charge s n w k = s ∧ chargeStored s n k k = s) ∧
  (∀ s n p st, (kindOf s n ≠ p.kind → closeCause? s n p st = some .kindChange) ∧
    (kindOf s n = p.kind → p.bounds = none → closeCause? s n p .first = some .timeSet) ∧
    (kindOf s n = p.kind → p.bounds = none → st ≠ .first →
      closeCause? s n p st = if 3 * nominal p.kind ≤ 2 * (now s - p.ltimeOpen) then some .forced else none) ∧
    (∀ a b, kindOf s n = p.kind → p.bounds = some (a, b) → wallNow s < b → st ≠ .forward →
      closeCause? s n p st = if 3 * (b - p.wallOpen) ≤ 2 * (now s - p.ltimeOpen) then some .forced else none) ∧
    (∀ a b, kindOf s n = p.kind → p.bounds = some (a, b) → b ≤ wallNow s → st ≠ .forward → s.clock.wstate ≠ .unset →
      9 * (b - p.wallOpen) ≤ 10 * (now s - p.ltimeOpen) → closeCause? s n p st = some .wallEnd))

/-- Of the die operations with a place in their channel's queue at most as many run as the level, LEVEL_MAX and the thermal
state each allow, one on a die; only one that runs completes. While the array runs and no cold gate is set, a packed page is
issued 10 s after its first record and the log's staged records are programmed; the program that completes leaves the list
and what waited goes on, and so does a read; a host bed closes when its bin ends; a segment's
checkpoint records its capture and trims the log. A die fails for its own causes at once, for retired blocks only at 64
in 24 h. A failed shelter band gets another and write-through. An erase that reports leaves its victim, a failed one
retires the block; a band whose erases are complete becomes FREE and gives its credit. A program failure marks the block
and leaves its channel out of the band's later stripes. Background GC begins after five quiet windows below 256 FREE
bands. When the array does not run, nothing of this changes anything. -/
def Obligations.FlashProgramsErasesAndUpkeepActAsTheirRulesSay : Prop :=
  (∀ s, (activeOps s).length ≤ dieLimit s ∧ (activeOps s).Pairwise (fun a b => a.die ≠ b.die) ∧
    dieLimit s ≤ levelDies s.power.level ∧ dieLimit s ≤ levelDies (levelMax s) ∧
    dieLimit s ≤ thermalDies s.power.thermal s.power.level) ∧
  (∀ s x b, arrayRuns s = true → coldNow s = false → (∀ p, AMap.find s.media.packs (x, b) = some p →
      exec (.packedPageTimeout x b) s = .next (wakeWork (issuePack (advanceTo s (p.at_ + 10000000)) (x, b)))) ∧
    (AMap.find s.media.packs (x, b) = none → exec (.packedPageTimeout x b) s = .next s)) ∧
  (∀ s, arrayRuns s = true → coldNow s = false → exec .logProgram s = .next (wakeWork (issueLog s))) ∧
  (∀ s x b, arrayRuns s = false ∨ coldNow s = true →
    exec .logProgram s = .next s ∧ exec (.packedPageTimeout x b) s = .next s) ∧
  (∀ s i, exec (.flashProgramDone i) s =
    .next (if arrayRuns s = true ∧ dieRuns s (.prog i) = true then schedRun (settle (programDone s i)) else s)) ∧
  (∀ s i, s.media.progs[i]? = none → programDone s i = s) ∧
  (∀ s n r, arrayRuns s = true → (AMap.find s.media.map n = none → exec (.flashReadDone n r) s = .next s) ∧
    (∀ b i, AMap.find s.media.map n = some (b, i) →
      (startedRead s n = none → exec (.flashReadDone n r) s = .next
        (if s.media.reads.any (fun x => decide (x.2 = n)) then s else pageRead (readPage s b i) b i r)) ∧
      (∀ j u, startedRead s n = some j → u = { s with media := { s.media with reads := dropNth s.media.reads j } } →
        exec (.flashReadDone n r) s = .next (schedRun (pageRead (readPage u b i) b i r))) ∧
      ∀ p, (bandOf (readPage s b i) b).pages.reverse[i]? = some p →
        pageRead (readPage s b i) b i .stripeLost = pageLost (readPage s b i) b (bandOf (readPage s b i) b) i p.recs ∧
        pageRead (readPage s b i) b i .uncorrectable = pageRebuilt (readPage s b i) b i p)) ∧
  (∀ s n, exec (.bedBinEnd n) s = .next (if arrayRuns s = true ∧ (bandOf s n).state = .open_ ∧ (bandOf s n).bed = some .host
    then closeBand (advanceTo s (bandOf s n).binEnd) n else s)) ∧
  (∀ s n x, arrayRuns s = true → n < (if x then 128 else 96) → (bedOf s .meta_ false).isSome = true → ∃ t, exec (.checkpointSegment n x) s = .next t ∧
    (∃ g, g ∈ t.media.segs ∧ g.no = n ∧ g.index = x ∧ g.capture = s.media.lsn ∧ g.at_ = s.clock.ledger) ∧
    ∀ e ∈ t.media.log, lowCapture t ≤ e.lsn) ∧
  (∀ s n x, arrayRuns s = false ∨ (if x then 128 else 96) ≤ n → exec (.checkpointSegment n x) s = .next s) ∧
  (∀ s c t, svcRuns s = true → exec (.dieFailed c t .reset) s = .next (loseDie s c t) ∧
    exec (.dieFailed c t .identity) s = .next (loseDie s c t) ∧ exec (.dieFailed c t .blocksRetired) s =
      .next (if 64 ≤ ((AMap.getD s.upkeep.retires (c, t) []).filter (fun u => decide (now s < u + 86400000000))).length
        then loseDie s c t else s)) ∧
  (∀ s, exec .rebuildBand s = .next (rebuildStep s)) ∧
  (∀ s x old keep u, svcRuns s = true → old = (if x then s.media.shelterB else s.media.shelterA) →
    keep = (if x then s.media.shelterA else s.media.shelterB) → u = { s with media := { s.media with shelterWt := true } } →
    (shelterPick u keep = none → exec (.shelterMoved x) s = .next u) ∧
    (∀ n, shelterPick u keep = some n → ∃ v, exec (.shelterMoved x) s = .next (gcRefresh (logEv (startErase v n .shelter 0)
        .shelterMoved { details := [(old : Int), (n : Int)] })) ∧
      (if x then v.media.shelterB else v.media.shelterA) = n ∧ v.media.shelterWt = true ∧
      (bandOf v n).state = .shelter ∧ (bandOf v n).pslc = true ∧ (bandOf v n).pages = [])) ∧
  (∀ s x, svcRuns s = false → exec (.shelterMoved x) s = .next s ∧ ∀ c t k, exec (.dieFailed c t k) s = .next s) ∧
  (∀ s n, upkeepRuns s = true → exec (.gcLoadWindow n) s = .next (background { s with upkeep := { s.upkeep with
    lowWindows := Nat.min (if n < 20 then s.upkeep.lowWindows + 1 else 0) 5
    bg := decide (n < 20) && decide (freeBands s < 256) &&
      (s.upkeep.bg || decide (5 ≤ (if n < 20 then s.upkeep.lowWindows + 1 else 0))) } })) ∧
  (∀ s, exec .gcReclaimTimer s = .next (if gcRuns s && decide (freeBands s < 256) then
    match emptyVictim s with | some n => (emptyBand s n .gc false false).getD s | none => s else s)) ∧
  (∀ s n, s.upkeep.victims.find? (fun v => decide (v.band = n)) = none → exec (.gcBandFreed n) s = .next s) ∧
  (∀ s n v, s.upkeep.victims.find? (fun v => decide (v.band = n)) = some v → arrayRuns s = true →
    (eraseOver s v = false → exec (.gcBandFreed n) s = .next s) ∧
    (eraseOver s v = true → ∀ u, u = { s with upkeep := { s.upkeep with
        victims := s.upkeep.victims.filter (fun x => decide (x.band ≠ n)) } } →
      (v.purpose = .shelter → (bandOf s n).state = .shelter →
        exec (.gcBandFreed n) s = .next { u with media := { u.media with shelterWt := false } }) ∧
      (v.purpose ≠ .shelter → exec (.gcBandFreed n) s = .next (rerun (background (lifeCheck (gcRefresh
        (creditBand (freeBand u n) v (bandCapacity (bandOf u n)))))) .waitCredit)))) ∧
  (∀ s b ok, s.upkeep.victims.find? (fun v => v.left.contains b) = none → exec (.eraseDone b ok) s = .next s) ∧
  (∀ s b ok, svcRuns s = false ∨ dieRuns s (.erase b) = false → exec (.eraseDone b ok) s = .next s) ∧
  (∀ s b ok v, s.upkeep.victims.find? (fun v => v.left.contains b) = some v → svcRuns s = true →
    dieRuns s (.erase b) = true → ∃ u,
    u = { s with upkeep := { s.upkeep with victims := s.upkeep.victims.map (fun x =>
      if x.band = v.band then { x with left := x.left.filter (fun k => decide (k ≠ b)) } else x) } } ∧
    exec (.eraseDone b ok) s = .next (if ok then lifeCheck (eraseRec (blockErased u b) b .done v.purpose)
      else lifeCheck (retireBlock (eraseRec (blockErased u b) b .failed v.purpose) b .eraseFail))) ∧
  (∀ s i b, (s.media.progs[i]?) = none ∨ arrayRuns s = false → exec (.programFail i b) s = .next s) ∧
  (∀ s i b n d, n = bandOfBlock s b → d = bandOf s n → arrayRuns s = true → dieRuns s (.prog i) = true →
    d.state = .open_ → (memberBlocks n d).contains b = true → d.narrow = [] → d.absent = [] → ∃ u,
      exec (.programFail i b) s = .next (stageLog (updBand u n (fun d' => { d' with
        narrow := [(b.channel, nextStripe (bandOf u n))] })) (.band n)) ∧ u.media.pseq = s.media.pseq + 1 ∧
      (getBlock u b).failing = some .programFail)

/-- A wear-level move, at most hourly and only in NORMAL, copies the FULL band of lowest mean wear more than 400 below
the highest, logs it and notes the time. The block at the head of the refresh queue has its pages copied, leaves the
queue and is logged. Patrol counts a read of a block, notes its time, and queues it for refresh with an event when the
read was not good or more than 48 bits were corrected. A SHRED's scan, once, marks every band that holds a copy; it is
done when it has scanned, none of its bands is pending and no image waits: its ticket ends SHREDDED and the period is
charged its bytes, or FAILED when a copy lies on a lost die. A minute counts in the bin of the flash temperature: 10 °C
each, 14 in all. -/
def Obligations.WearPatrolShredAndTemperaturesActAsTheirRulesSay : Prop :=
  (∀ s, restRuns s = false ∨ s.upkeep.gc ≠ .normal ∨ (∃ t, s.upkeep.wearAt = some t ∧ now s < t + 3600000000) →
    exec .wearLevelMove s = .next s) ∧
  (∀ s c, restRuns s = true → s.upkeep.gc = .normal → (s.upkeep.wearAt = none ∨ ∃ t, s.upkeep.wearAt = some t ∧ t + 3600000000 ≤ now s) →
    c = ((s.media.bands.filter (fun x => decide (x.2.state = .full) && ! erasing s x.1)).map (fun x => x.1)).filter
      (fun n => decide (meanWear s n + 400 * 240 < 240 * ecountMax s)) →
    (pickBand s false c = none → exec .wearLevelMove s = .next s) ∧
    (∀ n u, pickBand s false c = some n → emptyBand s n .wear true false = some u → exec .wearLevelMove s = .next
      (logEv { u with upkeep := { u.upkeep with wearAt := some u.clock.ledger } } .wearLevelMove { details := [(n : Int)] }))) ∧
  (∀ s, s.upkeep.refresh = [] ∨ restRuns s = false → exec .blockRefreshed s = .next s) ∧
  (∀ s k ks n, s.upkeep.refresh = k :: ks → restRuns s = true → n = bandOfBlock s k →
    (copyPages false false n (pagesOnChan n (bandOf s n) k.channel) s = none → exec .blockRefreshed s = .next s) ∧
    ∀ u, copyPages false false n (pagesOnChan n (bandOf s n) k.channel) s = some u → exec .blockRefreshed s = .next
      (logEv { u with upkeep := { u.upkeep with refresh := ks } } .blockRefreshed
        { details := [(ppnOf k 0 : Int), ((getBlock s k).reads : Int)] })) ∧
  (∀ s b st r n d, d = bandOf s (bandOfBlock s b) → restRuns s = false ∨ islUp s (.media b.channel) = false ∨
      patrolled d = false ∨ (memberBlocks (bandOfBlock s b) d).contains b = false ∨ patrolTurn s d b = false →
    exec (.patrolRead b st r n) s = .next s) ∧
  (∀ s b st n d u v, d = bandOf s (bandOfBlock s b) → restRuns s = true → islUp s (.media b.channel) = true → patrolled d = true →
    (memberBlocks (bandOfBlock s b) d).contains b = true → patrolTurn s d b = true →
    u = patrolLateCheck (wakeIsl s (.media b.channel)) →
    v = addReads (updBlock u b (fun k => { k with patrolLast := u.clock.ledger })) b (patrolPages (bandOfBlock s b) d b.channel) →
    (n ≤ 48 → exec (.patrolRead b st .good n) s = .next v) ∧
    (48 < n → exec (.patrolRead b st .good n) s = .next (logEv (queueRefresh v b) .patrolRelocate
      { details := [(ppnOf b 0 : Int), (n : Int)] })) ∧
    (∀ i, pageAt (bandOfBlock s b) d b.channel st = some i → exec (.patrolRead b st .uncorrectable n) s = .next
      (logEv (queueRefresh (pageRead v (bandOfBlock s b) i .uncorrectable) b) .patrolRelocate
        { details := [(ppnOf b 0 : Int), (n : Int)] }))) ∧
  (∀ s b, b ∈ (queueRefresh s b).upkeep.refresh ∧ (b ∈ s.upkeep.refresh → queueRefresh s b = s)) ∧
  (∀ s n, s.upkeep.shreds.find? (fun j => decide (j.ticket = some n)) = none →
    exec (.shredScan n) s = .next s ∧ exec (.shredDone n) s = .next s) ∧
  (∀ s n j, s.upkeep.shreds.find? (fun j => decide (j.ticket = some n)) = some j →
    (j.scanned = true ∨ restRuns s = false → exec (.shredScan n) s = .next s) ∧
    (j.scanned = false → restRuns s = true → ∃ u v : State,
      exec (.shredScan n) s = .next (shredStep u) ∧ u.upkeep.shreds = v.upkeep.shreds.map (fun x => if x.ticket = some n then { x with
        scanned := true, bands := x.bands ++ (copyBands s j.stall j.keys).map (fun b => b.1)
        lostCopy := x.lostCopy || (copyBands s j.stall j.keys).any (fun b => copyLost s j.keys b.1 b.2) } else x)) ∧
    (j.scanned = false ∨ s.media.image.isSome = true ∨ (∃ b ∈ j.bands, (bandOf s b).shredPending = true) →
      exec (.shredDone n) s = .next s) ∧
    (∀ t u, j.scanned = true → (∀ b ∈ j.bands, (bandOf s b).shredPending = false) → s.media.image = none →
      u = { s with upkeep := { s.upkeep with shreds := s.upkeep.shreds.filter (fun x => decide (x.ticket ≠ some n)) } } →
      AMap.find s.kv.tickets n = some t →
      (j.lostCopy = true → exec (.shredDone n) s = .next (endTicket u n .failed 0x1303)) ∧
      (j.lostCopy = false → exec (.shredDone n) s =
        .next (charge (endTicket u n .shredded 0) j.stall .shredded t.summary.2.1)))) ∧
  (∀ s, powered s = false → exec .healthTempTick s = .next s) ∧
  (∀ s, powered s = true → arrayRuns s = false → exec .healthTempTick s = .next { s with upkeep := { s.upkeep with
    temps := AMap.set s.upkeep.temps (tempBin s.power.flashMax)
      (sat (AMap.getD s.upkeep.temps (tempBin s.power.flashMax) 0 + 1) 0xFFFFFFFF) } }) ∧
  (∀ t : Int, (t < -300 → tempBin t = 0) ∧ (900 ≤ t → tempBin t = 13) ∧
    (-300 ≤ t → t < 900 → (tempBin t).val = ((t + 400) / 100).toNat))

/-- An immediate search, after its hits are verified, counts one search and answers the first hit, whether there are
more and how many, to 255. A stepped search takes the lowest free cursor or waits; a step counts and reports the next
entry not yet reported; a freed cursor goes to the search that waited first. A disagreeing hit is suppressed and
counted, one beyond correction loses its entry. The command at the head of the queue runs when it is of the row's kind,
and what it served goes on once its entry operations are done. A pass of the scrub takes the units in order, a disagreeing unit is rewritten and counted,
and its end notes the time. A rebuild writes the bank's entries from its stalls' objects. An Arcade that is not up does
nothing. -/
def Obligations.ArcadeSearchesQueueAndScrubActAsChapter15Says : Prop :=
  (∀ s r f, arcUp s = false → exec (.arcSearch r f) s = .next s ∧ exec .arcInsert s = .next s ∧
    exec .arcInvalidate s = .next s ∧ exec .arcScrubPass s = .next s ∧ ∀ c b x, exec (.arcScrubUnit c) s = .next s ∧
      exec (.arcRebuild b) s = .next s ∧ exec (.arcCursorFree x) s = .next s) ∧
  (∀ s f sp u, arcUp s = true → u = verifyHits (wakeIsl s .arc) f → ∃ t r, exec (.arcSearch (.immediate sp) f) s = .next t ∧ t.arc.result = some r ∧
    r.first = (arcFound (countArc u .searches 1) sp).head?.map (fun x => x.1) ∧ r.cursor = none ∧
    (r.multi = true ↔ 1 < (arcFound u sp).length) ∧ r.count = Nat.min (arcFound u sp).length 255 ∧
    t.arc.entries = u.arc.entries ∧ t.arc.cursors = u.arc.cursors) ∧
  (∀ s f sp u, arcUp s = true → u = countArc (verifyHits (wakeIsl s .arc) f) .searches 1 → exec (.arcSearch (.stepped sp) f) s = .next
    (match freeCursor u with
      | some c => beginStepped u sp c
      | none => { u with arc := { u.arc with waiting := u.arc.waiting ++ [sp] } })) ∧
  (∀ s c, freeCursor s = some c → AMap.find s.arc.cursors c = none) ∧
  (∀ s f c, arcUp s = true → exec (.arcSearch (.step c) f) s = .next (stepCursor (verifyHits (wakeIsl s .arc) f) c)) ∧
  (∀ s c d, AMap.find s.arc.cursors c = some d →
    (∀ x xs, afterCursor (countArc s .steps 1) d = x :: xs → ∃ e r, AMap.find (stepCursor s c).arc.cursors c = some e ∧
      e.spec = d.spec ∧ e.pos = some x.1 ∧ e.seen = identOf x.2 :: d.seen ∧ (stepCursor s c).arc.result = some r ∧
      r.first = some x.1 ∧ r.cursor = some c ∧ (d.seen.contains (identOf x.2)) = false) ∧
    (afterCursor (countArc s .steps 1) d = [] → ∃ r, (stepCursor s c).arc.result = some r ∧ r.first = none ∧
      (stepCursor s c).arc.cursors = s.arc.cursors)) ∧
  (∀ s c, AMap.find s.arc.cursors c = none → exec (.arcCursorFree c) s = .next s ∧ stepCursor s c = s) ∧
  (∀ s c d, arcUp s = true → AMap.find s.arc.cursors c = some d →
    (s.arc.waiting = [] → ∃ t, exec (.arcCursorFree c) s = .next t ∧ AMap.find t.arc.cursors c = none) ∧
    (∀ sp ws, s.arc.waiting = sp :: ws → exec (.arcCursorFree c) s = .next (beginStepped { s with arc := { s.arc with
      cursors := AMap.del s.arc.cursors c, waiting := ws } } sp c))) ∧
  (∀ s f p, verifyHits s [] = s ∧ verifyHits s ((p, .agree) :: f) = verifyHits s f ∧
    verifyHits s ((p, .disagree) :: f) = verifyHits (falseHit s p) f ∧
    verifyHits s ((p, .uncorrectable) :: f) = verifyHits (entryLost s p) f) ∧
  (∀ s p, AMap.getD (falseHit s p).arc.falseHits (bankOfPos p) 0 = Nat.min (AMap.getD s.arc.falseHits (bankOfPos p) 0 + 1) 65535 ∧
    (falseHit s p).arc.entries = s.arc.entries) ∧
  (∀ s, arcUp s = true → exec .arcInsert s = .next (runQueueHead s (fun c => ! isInvalidate c)) ∧
    exec .arcInvalidate s = .next (runQueueHead s isInvalidate)) ∧
  (∀ s w, (s.arc.queue = [] → runQueueHead s w = s) ∧ (∀ c cs, s.arc.queue = c :: cs → w c = false → runQueueHead s w = s) ∧
    (∀ c cs u, s.arc.queue = c :: cs → w c = true → headOp (wakeIsl s .arc) c = (u, none) → runQueueHead s w = u) ∧
    (∀ c cs u b, s.arc.queue = c :: cs → w c = true → headOp (wakeIsl s .arc) c = (u, some b) →
      runQueueHead s w = afterCmd (popArc u) c b)) ∧
  (∀ s, (s.arc.overflow = [] → (popArc s).arc.queue = s.arc.queue.drop 1) ∧
    (∀ x xs, s.arc.overflow = x :: xs → (popArc s).arc.queue = s.arc.queue.drop 1 ++ [x] ∧ (popArc s).arc.overflow = xs)) ∧
  (∀ s, arcUp s = true → exec .arcScrubPass s =
    .next (if s.arc.scrub = none then updArc (wakeIsl s .arc) (fun a => { a with scrub := some 0 }) else s)) ∧
  (∀ s c, s.arc.scrub = none → exec (.arcScrubUnit c) s = .next s) ∧
  (∀ s u, arcUp s = true → s.arc.scrub = some u →
    (u < 131071 → exec (.arcScrubUnit .agree) s = .next { s with arc := { s.arc with scrub := some (u + 1) } } ∧
      exec (.arcScrubUnit .disagree) s = .next { scrubFix s u with arc := { (scrubFix s u).arc with scrub := some (u + 1) } }) ∧
    (131071 ≤ u → exec (.arcScrubUnit .agree) s =
      .next { s with arc := { s.arc with scrub := none, scrubAt := s.clock.ledger } })) ∧
  (∀ s b, arcUp s = true → s.arc.rebuilding.contains b = true → ready s = true → ∃ u v, u =
      ((List.finRange 128).filter (fun x => (stallBanks s x).contains b)).foldl
        (fun s x => (stallObjs s x).foldl (fun s o => rewriteKey s o.1 o.2) s) (wakeIsl s .arc) ∧
    v = { u with arc := { u.arc with rebuilding := u.arc.rebuilding.filter (fun x => decide (x ≠ b)) } } ∧
    b ∉ v.arc.rebuilding ∧ exec (.arcRebuild b) s = .next (logEv v .arcRebuildDone { details := [(b.val : Int)] })) ∧
  (∀ s b, s.arc.rebuilding.contains b = false ∨ ready s = false → exec (.arcRebuild b) s = .next s)

/-- While row traffic does not run, a message changes nothing. From a drive that is neither a member nor a relocation
partner it is counted in MSG_BAD. A repeat gets its first ACK. A new message is acted on and acknowledged: the leader
removes the sender of LEAVE and raises the epoch by one, and the member after a leader that leaves takes over; a search
request is served, or waits behind four; pages and ends reach the search they answer; a cancel ends what it names; a
mirror copy is refused without space, put off while writes are gated, and stored unless a copy with the same or a higher
WSEQ is kept; an update changes the copy's hold, a removal deletes the copy. -/
def Obligations.RowMessagesAreTakenOnceAndAcknowledged : Prop :=
  (∀ c h s, rowHeader c = some h → rowRuns s = false → exec c s = .next s) ∧
  (∀ c h s, rowHeader c = some h → rowRuns s = true → rowKnows s h.peer = false →
    exec c s = .next { s with row := { s.row with msgBad := s.row.msgBad + 1 } }) ∧
  (∀ c h s q, rowHeader c = some h → rowRuns s = true → rowKnows s h.peer = true →
    s.row.seen.find? (fun x => decide (x.1 = h.peer) && decide (x.2.1 = h.msgId)) = some q →
    exec c s = .next (rowSend s h.peer (.ack q.2.2) h.msgId)) ∧
  (∀ s h, Arrives s h →
    ((s.row.state = .leader ∧ isMember s h.peer = true) ∨ (s.row.state = .member ∧ leaderOf s = some h.peer ∧
        successorOf s h.peer = some Config.serial) →
      ∃ t, exec (.rowLeave h) s = .next (acked t h .ok) ∧ t.row.state = .leader ∧ t.row.epoch = s.row.epoch + 1 ∧
        t.row.members = s.row.members.filter (fun m => decide (m.serial ≠ h.peer))) ∧
    (s.row.state ≠ .leader → leaderOf s ≠ some h.peer ∨ s.row.state ≠ .member → exec (.rowLeave h) s = .next (acked (noted s h) h .ok))) ∧
  (∀ s h m, Arrives s h → ∃ t, exec (.findReq h m) s = .next (acked t h .ok) ∧
    (s.row.served.length < 4 → s.row.servedWait = [] →
      t.row.served = s.row.served ++ [{ peer := h.peer, msgId := h.msgId, req := m }] ∧ t.row.servedWait = []) ∧
    (4 ≤ s.row.served.length → t.row.served = s.row.served ∧
      t.row.servedWait = s.row.servedWait ++ [{ peer := h.peer, msgId := h.msgId, req := m }])) ∧
  (∀ s h rs st, Arrives s h →
    (searchOf s h = none → exec (.findPage h rs) s = .next (acked (noted s h) h .ok) ∧
      exec (.findEnd h st) s = .next (acked (noted s h) h .ok)) ∧
    (∀ x, searchOf s h = some x →
      exec (.findPage h rs) s = .next (acked (if searchesStill x h.peer = true then takeRecords (noted s h) x.ticket h.peer rs
        else noted s h) h .ok) ∧
      exec (.findEnd h st) s =
        .next (acked (endIfDone (memberEnds (noted s h) x.ticket h.peer (endStatus st)) x.ticket) h .ok))) ∧
  (∀ s h, Arrives s h → ∃ t, exec (.findCancel h) s = .next (acked t h .ok) ∧
    t.row.served = (s.row.served.filter (fun v => ! (decide (v.peer = h.peer) && decide (v.msgId = h.refId)))) ++
      (s.row.servedWait.filter (fun v => ! (decide (v.peer = h.peer) && decide (v.msgId = h.refId)))).take
        (4 - (s.row.served.filter (fun v => ! (decide (v.peer = h.peer) && decide (v.msgId = h.refId)))).length)) ∧
  (∀ s h o, Arrives s h →
    (mirrorFits s o = false → exec (.mirrorPut h o) s = .next (acked (noteRefused (noted s h) o.origin) h .refused)) ∧
    (mirrorFits s o = true → (dataWriteErr s).isSome = true → exec (.mirrorPut h o) s = .next (acked (noted s h) h .tryLater)) ∧
    (mirrorFits s o = true → dataWriteErr s = none → takeCredit (noted s h) o.value.length = none →
      exec (.mirrorPut h o) s = .next (acked (noted s h) h .tryLater)) ∧
    (∀ u c, mirrorFits s o = true → dataWriteErr s = none → takeCredit (noted s h) o.value.length = some u →
      AMap.find s.row.copies (o.origin, o.key) = some c → o.wseq ≤ c.obj.wseq →
      exec (.mirrorPut h o) s = .next (acked u h .ok)) ∧
    (mirrorFits s o = true → dataWriteErr s = none → (takeCredit (noted s h) o.value.length).isSome = true →
      (∀ c, AMap.find s.row.copies (o.origin, o.key) = some c → c.obj.wseq < o.wseq) →
      ∃ t, exec (.mirrorPut h o) s = .next (acked t h .ok) ∧
        AMap.find t.row.copies (o.origin, o.key) = some { obj := o, expiry := now s + o.remaining })) ∧
  (∀ s h x k b, Arrives s h → ∃ t u, exec (.mirrorUpdate h x k b) s = .next (acked t h .ok) ∧
    exec (.mirrorRemove h x k b) s = .next (acked u h .ok) ∧
    AMap.find u.row.copies (x, k) = none ∧
    (∀ c, AMap.find s.row.copies (x, k) = some c →
      AMap.find t.row.copies (x, k) = some { c with obj := { c.obj with held := b } }) ∧
    ∀ j, j ≠ (x, k) → AMap.find t.row.copies j = AMap.find s.row.copies j ∧
      AMap.find u.row.copies j = AMap.find s.row.copies j)

/-- A drive that beacons sends a beacon each second; a leader sorts its list first. It accepts a beacon of its row, by a
new SEQ of another serial whose MAC verifies, and counts any other in BEACON_BAD. A leader admits a new drive while it
has fewer than 32 members, at the greater epoch plus 1. It gives way to a leader of lower order key. Another drive
adopts the list and the epoch of a leader beacon of at least its epoch: it leads when it is first, and joins when it is
missing. After 5 s a leader removes a silent member, and a member removes a silent leader, and leads if it is then
first, at the highest epoch seen plus 1. A drive that joins leads alone. A row key set or made new is kept, and a live
drive rejoins. -/
def Obligations.BeaconsKeepTheRowsMembershipAndEpoch : Prop :=
  (∀ s b x, s.row.beaconing = false ∨ running s = false →
    exec .beaconSend s = .next s ∧ exec (.beaconReceive b) s = .next s ∧ exec (.memberTimeout x) s = .next s ∧
    exec .leaderTimeout s = .next s) ∧
  (∀ s u t, s.row.beaconing = true → running s = true →
    (s.row.beaconAt = none → t = s) → (∀ a, s.row.beaconAt = some a → t = advanceTo s (a + 1000000)) →
    u = { t with row := { t.row with beaconAt := some (now t) } } →
    exec .beaconSend s = .next (if (reorder u).row = u.row then sendBeacon u else reorder u) ∧
    (s.row.state ≠ .leader → exec .beaconSend s = .next (sendBeacon u))) ∧
  (∀ s, s.row.beaconing = true → sendBeacon s =
    sendIp s (rowIf s) 7 (.beacon (beaconBytes s) ((Config.hmacSha256 (beaconKey s) (beaconBytes s)).take 16)) 3) ∧
  (∀ s ms, ms = (if s.row.state = .leader then s.row.members.map (fun m => m.serial) else []) →
    (beaconBytes s).take 8 = leBytes 4 0xC1ED0B0E ++ leBytes 2 (cfgField s .rowCfg "ROW_ID") ++
      [1, (if s.row.state = .leader then 1 else if s.row.state = .joining then 2 else 0)] ∧
    (beaconBytes s).drop 8 = leBytes 8 Config.serial ++ leBytes 8 s.row.epoch ++ leBytes 8 (now s) ++
      leBytes 1 (ownPos s) ++ leBytes 1 (hbCode s) ++ leBytes 1 ms.length ++ leBytes 5 0 ++ (ms.map (leBytes 8)).flatten) ∧
  (∀ s b, beaconOk s b = true ↔ b.wellFormed = true ∧ b.rowId = cfgField s .rowCfg "ROW_ID" ∧ b.macOk = true ∧
    b.serial ≠ Config.serial ∧ ∀ q, AMap.find s.row.seqs b.serial = some q → q < b.seq) ∧
  (∀ s b, s.row.beaconing = true → running s = true → beaconOk s b = false →
    ∃ t, exec (.beaconReceive b) s = .next { t with row := { t.row with beaconBad := t.row.beaconBad + 1 } } ∧
      (b.macOk = false ∨ b.serial ≠ Config.serial → t = s) ∧
      (∀ a, s.row.conflictAt = some a → now s < a + 60000000 → t = s) ∧
      (b.macOk = true → b.serial = Config.serial → (∀ a, s.row.conflictAt = some a → a + 60000000 ≤ now s) →
        t = logEv { s with row := { s.row with conflictAt := some (now s) } } .rowSerialConflict { details := addrWords b.src })) ∧
  (∀ s b, s.row.beaconing = true → running s = true → beaconOk s b = true → s.row.state ≠ .leader →
    (b.leader = false ∨ b.epoch < s.row.epoch → exec (.beaconReceive b) s = .next (noteBeacon s b)) ∧
    (b.leader = true → s.row.epoch ≤ b.epoch → ∃ t, exec (.beaconReceive b) s = .next t ∧ t.row.epoch = b.epoch ∧
      t.row.members.map (fun m => m.serial) = b.members ∧
      t.row.state = if b.members.head? = some Config.serial then .leader
        else if b.members.contains Config.serial = true then .member else .joining)) ∧
  (∀ s b, s.row.beaconing = true → running s = true → beaconOk s b = true → s.row.state = .leader →
    (b.leader = true → orderLt (b.position, b.serial) (ownPos s, Config.serial) = true →
      ∃ t, exec (.beaconReceive b) s = .next t ∧ (b.epoch < s.row.epoch → t.row.state = .joining ∧ t.row.epoch = s.row.epoch) ∧
        (s.row.epoch ≤ b.epoch → t.row.epoch = b.epoch ∧ t.row.members.map (fun m => m.serial) = b.members)) ∧
    (b.leader = false ∨ orderLt (b.position, b.serial) (ownPos s, Config.serial) = false →
      (isMember s b.serial = true → exec (.beaconReceive b) s = .next (reorder (noteBeacon s b))) ∧
      (isMember s b.serial = false → s.row.members.length < 32 → ∃ t, exec (.beaconReceive b) s = .next t ∧
        t.row.epoch = Nat.max s.row.epoch b.epoch + 1 ∧
        t.row.members = sortMembers ((noteBeacon s b).row.members ++ [{ serial := b.serial, position := b.position
                                                                        state := b.state, at_ := now s }])) ∧
      (isMember s b.serial = false → 32 ≤ s.row.members.length → ∃ t, exec (.beaconReceive b) s = .next t ∧
        t.row.members = (noteBeacon s b).row.members ∧ t.row.epoch = s.row.epoch))) ∧
  (∀ s x m, s.row.beaconing = true → running s = true → s.row.state = .leader → x ≠ Config.serial →
    s.row.members.find? (fun m => decide (m.serial = x)) = some m → ∃ t, exec (.memberTimeout x) s = .next t ∧
      t.row.epoch = s.row.epoch + 1 ∧ t.row.members = s.row.members.filter (fun m => decide (m.serial ≠ x)) ∧
      t.row.state = .leader) ∧
  (∀ s t, s.row.beaconing = true → running s = true → s.row.leaderAt = some t →
    (s.row.state = .member → ∃ u, exec .leaderTimeout s = .next u ∧ u.row.members = s.row.members.drop 1 ∧
      ((s.row.members.drop 1).head?.map (fun m => m.serial) = some Config.serial →
        u.row.state = .leader ∧ u.row.epoch = Nat.max s.row.epoch s.row.seenEpoch + 1) ∧
      ((s.row.members.drop 1).head?.map (fun m => m.serial) ≠ some Config.serial →
        u.row.state = .member ∧ u.row.epoch = s.row.epoch)) ∧
    (s.row.state = .joining → ready s = true → ∃ u, exec .leaderTimeout s = .next u ∧ u.row.state = .leader ∧
      u.row.epoch = s.row.epoch + 1 ∧ u.row.members.map (fun m => m.serial) = [Config.serial])) ∧
  (∀ s l d, Accepts s l { priv := true } none d → exec (.rowKeyNew l) s = .next
    (answer (setRowKey (freshBytes (heard s l) 32).2 (freshBytes (heard s l) 32).1) l.sess l.tag
      (okLine [("secret", .bytes (freshBytes (heard s l) 32).1)]) none)) ∧
  (∀ s l d k, Accepts s l { priv := true } none d → k.length = 32 →
    exec (.rowKeySet l k) s = .next (answer (setRowKey (heard s l) k) l.sess l.tag (.ok []) none)) ∧
  (∀ s k u, u = { s with row := { s.row with key := some k } } → (rowLive s = false ∨ running s = false → setRowKey s k = u) ∧
    (rowLive s = true → running s = true → setRowKey s k = rejoin u))

/-- An ACK ends the message it names; the entry of a mirror message is then done, or is tried again 10 s later. Without
an ACK a message is sent again, five times at most; then its search member is unreachable, or its entry returns to the
queue. The mark follows the owed entries; with the catch-up done and nothing left LAGGING becomes CURRENT with
MIRROR_CURRENT. The oldest entry is sent, and dropped when its object is gone. The catch-up sends a stall's EVIDENCE
objects above the mark. A copy that is not held goes at its expiry. A drop discards an origin's copies; a restore needs
an ACTIVE stall without another restore, writes or skips every copy, and logs MIRROR_RESTORE_DONE. A search ends at its
deadline. -/
def Obligations.MirroringAndItsAnswersActAsChapter16Says : Prop :=
  (∀ s h st, rowRuns s = false → exec (.rowAck h st) s = .next s) ∧
  (∀ s h st, rowRuns s = true → rowKnows s h.peer = false →
    exec (.rowAck h st) s = .next { s with row := { s.row with msgBad := s.row.msgBad + 1 } }) ∧
  (∀ s h st, rowRuns s = true → rowKnows s h.peer = true →
    (s.row.unacked.find? (fun u => decide (u.msg.peer = h.peer) && decide (u.msg.msgId = h.refId)) = none →
      exec (.rowAck h st) s = .next s) ∧
    (∀ u, s.row.unacked.find? (fun u => decide (u.msg.peer = h.peer) && decide (u.msg.msgId = h.refId)) = some u →
      (∀ m ∈ s.row.waiting, m.peer ≠ u.msg.peer) → ∀ t, t = { s with row := { s.row with
          unacked := s.row.unacked.filter (fun v => decide (v.msg ≠ u.msg)) } } →
      (u.msg.part + 1 ≠ u.msg.parts ∨ AMap.find s.row.sending (groupId u.msg) = none → exec (.rowAck h st) s = .next t) ∧
      (∀ e v, u.msg.part + 1 = u.msg.parts → AMap.find s.row.sending (groupId u.msg) = some e →
        v = { t with row := { t.row with sending := AMap.del s.row.sending (groupId u.msg) } } →
        exec (.rowAck h .ok) s = .next (mirrorSettle v) ∧
        exec (.rowAck h .tryLater) s = .next (mirrorSettle { v with row := { v.row with
          retry := s.row.retry ++ [(now s + 10000000, e)] } }) ∧
        exec (.rowAck h .refused) s = .next (mirrorSettle { v with row := { v.row with
          retry := s.row.retry ++ [(now s + 10000000, { e with refused := true })] } })))) ∧
  (∀ s p i, rowRuns s = false ∨ s.row.unacked.find? (fun u => decide (u.msg.peer = p) && decide (u.msg.msgId = i)) = none →
    exec (.rowRetransmit p i) s = .next s) ∧
  (∀ s p i u t, rowRuns s = true →
    s.row.unacked.find? (fun u => decide (u.msg.peer = p) && decide (u.msg.msgId = i)) = some u → t = advanceTo s (u.at_ + 200000) →
    (u.sent < 5 → exec (.rowRetransmit p i) s = .next (rowWire { t with row := { t.row with
      unacked := t.row.unacked.map (fun v => if v.msg = u.msg then { v with sent := v.sent + 1, at_ := now t } else v) } } u.msg)) ∧
    (5 ≤ u.sent → exec (.rowRetransmit p i) s = .next (msgFailed (dropGroup t u.msg) u.msg))) ∧
  (∀ s m e o, m.body = .mirrorPut o → (AMap.find s.row.sending (groupId m) = none → msgFailed s m = s) ∧
    (AMap.find s.row.sending (groupId m) = some e →
      msgFailed s m = { s with row := { s.row with sending := AMap.del s.row.sending (groupId m), queue := e :: s.row.queue } })) ∧
  (∀ s n, getSearch s n = none → exec (.rowFindDeadline n) s = .next s) ∧
  (∀ s n x, getSearch s n = some x → exec (.rowFindDeadline n) s = .next (endSearch (advanceTo s x.deadline) n)) ∧
  (∀ s, s.row.mirror = .idle ∨ (s.row.mirror = .lagging ∧ s.row.catchup < 128) → mirrorSettle s = s) ∧
  (∀ s, s.row.mirror = .lagging → s.row.catchup = 128 → mirrorEntries s = [] → mirrorSettle s =
    logEv { s with row := { s.row with mark := Nat.max s.row.mark s.row.highest, mirror := .current } } .mirrorCurrent
      { details := [((Nat.max s.row.mark s.row.highest : Nat) : Int)] }) ∧
  (∀ s w ws, s.row.mirror = .current → (mirrorEntries s).filterMap owedWseq = w :: ws →
    mirrorSettle s = { s with row := { s.row with mark := Nat.max s.row.mark (ws.foldl Nat.min w - 1) } }) ∧
  (∀ s, rowRuns s = false ∨ mirrorPeer s = none ∨ s.row.queue = [] → exec .mirrorSend s = .next s) ∧
  (∀ s n e r t, rowRuns s = true → mirrorPeer s = some n → s.row.queue = e :: r → t = { s with row := { s.row with queue := r } } →
    (mirrorBody s e = none → exec .mirrorSend s = .next (mirrorSettle t)) ∧
    (∀ b u, mirrorBody s e = some b → u = advanceTo t s.row.mirrorAt →
      exec .mirrorSend s = .next (mirrorSettle (rowSend { u with row := { u.row with
        sending := AMap.set s.row.sending s.row.nextMsg e
        mirrorAt := u.clock.ledger + ceilDiv (bodyLen b) (Nat.max 1 (cfgField s .rowCfg "MIRROR_RATE")) } } n b)))) ∧
  (∀ s, rowRuns s = false ∨ s.row.retry = [] → exec .mirrorRetry s = .next s) ∧
  (∀ s t e r u, rowRuns s = true → s.row.retry = (t, e) :: r → u = advanceTo s t → exec .mirrorRetry s = .next (mirrorSettle
    ((s.row.retry.filter (fun x => decide (x.1 ≤ now u))).foldl (fun s x => sendMirror s x.2)
      { u with row := { u.row with retry := s.row.retry.filter (fun x => decide (now u < x.1)) } }))) ∧
  (∀ s, s.row.mirror = .lagging → rowRuns s = true → s.row.catchup < 128 → arcUp s = true →
    ∃ t, exec .mirrorCatchup s = .next (mirrorSettle { t with row := { t.row with catchup := t.row.catchup + 1 } }) ∧
      t = (catchupObjs s (stallOf s.row.catchup)).foldl (fun s o => sendMirror { s with row := { s.row with
          highest := Nat.max s.row.highest o.2.wseq } } { item := .put o.1 o.2.wseq, caught := true })
        (countFind s s (stallOf s.row.catchup) [0x0001000000000000] 0xFFFF000000000000)) ∧
  (∀ s, s.row.mirror ≠ .lagging ∨ rowRuns s = false ∨ 128 ≤ s.row.catchup ∨ arcUp s = false →
    exec .mirrorCatchup s = .next (mirrorSettle s)) ∧
  (∀ s i k, (AMap.find s.row.copies (i, k) = none → exec (.mirrorCopyExpiry i k) s = .next s) ∧
    (∀ c, AMap.find s.row.copies (i, k) = some c → c.obj.held = true ∨ svcRuns s = false → exec (.mirrorCopyExpiry i k) s = .next s) ∧
    (∀ c, AMap.find s.row.copies (i, k) = some c → c.obj.held = false → svcRuns s = true → ∃ t,
      exec (.mirrorCopyExpiry i k) s = .next t ∧ AMap.find t.row.copies (i, k) = none ∧
      ∀ j, j ≠ (i, k) → AMap.find t.row.copies j = AMap.find s.row.copies j)) ∧
  (∀ s l d i, Accepts s l { priv := true } none d → exec (.mirrorDrop l i) s =
    .next (answer { heard s l with row := { s.row with copies := s.row.copies.filter (fun c => decide (c.1.1 ≠ i)) } }
      l.sess l.tag (.ok []) none)) ∧
  (∀ s l d i a b x, Accepts s l { role := stallRole s l.sess (stallArg b) } (firstErr [stallErr a, stallErr b]) d →
    x = stallArg b → (getStall s x).state ≠ .draining →
    ((getStall s x).state ≠ .active → exec (.mirrorRestore l i a b) s =
      .next (answer (heard s l) l.sess l.tag (.err .stallState) none)) ∧
    ((getStall s x).state = .active → (AMap.find s.row.restores x).isSome = true → exec (.mirrorRestore l i a b) s =
      .next (answer (heard s l) l.sess l.tag .busy none)) ∧
    ((getStall s x).state = .active → AMap.find s.row.restores x = none → exec (.mirrorRestore l i a b) s =
      .next (answer { heard s l with row := { s.row with
        restores := AMap.set s.row.restores x { origin := i, ostall := stallArg a } } } l.sess l.tag (.ok []) none))) ∧
  (∀ s x, AMap.find s.row.restores x = none → exec (.mirrorRestoreDone x) s = .next s) ∧
  (∀ s x r, AMap.find s.row.restores x = some r → (dataWriteErr s).isSome = true → exec (.mirrorRestoreDone x) s = .next s) ∧
  (∀ s x r, AMap.find s.row.restores x = some r → dataWriteErr s = none → ∃ u t q, exec (.mirrorRestoreDone x) s = .next t ∧
    u = (s.row.copies.filter (fun c => decide (c.1.1 = r.origin) && decide (c.1.2.stall = r.ostall))).foldl
      (fun s c => restoreOne x s c.2) s ∧ q = AMap.getD u.row.restores x r ∧ AMap.find t.row.restores x = none ∧
    t = logEv { u with row := { u.row with restores := AMap.del u.row.restores x } } .mirrorRestoreDone
      { stall := some x.val, details := [(q.origin : Int), (q.restored : Int), (q.skipped : Int)] })

/-- A piece is answered busy while writes are gated by cold outside safe mode, or when it comes sooner than TRICKLE_RATE
allows; piece 0 is exempt from the rate. Piece 0 is refused by the first failed check, turned away while another parcel
is held, and otherwise begins a parcel. A later piece needs that parcel, a number below PIECES and its hash; it is added
once, and the last one completes the parcel. A block 60 s late is answered PIECE_TIMEOUT, and the session closes or
returns to typed mode. An incomplete parcel expires 30 days after piece 0, an installed one 30 days after its install.
An abandon discards the parcel, but not during its install or trial. -/
def Obligations.ParcelsAreTakenAndKeptAsTheirRulesSay : Prop :=
  (∀ s l d n k x i, Accepts s l { parcelCmd with machineOnly := true } (firstErr [rangeErr n 0 1023, rangeErr k 1 65536]) d →
    (coldNow s = true → s.phase ≠ .safe → exec (.parcelPiece l n k x) s = .next (answer (heard s l) l.sess l.tag .busy none)) ∧
    (∀ p, s.fw.parcel = some p → n.toNat ≠ 0 → (now s - p.lastAt) * cfgField s .fwCfg "TRICKLE_RATE" < 65536000 →
      exec (.parcelPiece l n k x) s = .next (answer (heard s l) l.sess l.tag .busy none)) ∧
    (coldNow s = false ∨ s.phase = .safe → tooSoon s n.toNat = false →
      (∀ m h, n.toNat = 0 → x = .manifest m h → s.fw.parcel = none →
        (∀ e, parcelRefusal s m = some e → e ≠ .svnEnd →
          exec (.parcelPiece l n k x) s = .next (answer (heard s l) l.sess l.tag (.err e) none)) ∧
        (parcelRefusal s m = some .svnEnd → exec (.parcelPiece l n k x) s =
          .next (answer (logEv (heard s l) .svnEnd { details := [(m.svn : Int)] }) l.sess l.tag (.err .svnEnd) none)) ∧
        (parcelRefusal s m = none → ∃ u, exec (.parcelPiece l n k x) s = .next (answer u l.sess l.tag (.ok []) none) ∧
          u.fw.parcel = some { state := if m.pieces ≤ 1 then .complete else .receiving, manifest := m, hash0 := h
                               pieces := [0], since := now s, lastAt := now s })) ∧
      (∀ m h p, n.toNat = 0 → x = .manifest m h → s.fw.parcel = some p →
        exec (.parcelPiece l n k x) s = .next (answer (heard s l) l.sess l.tag
          (if p.manifest.id = m.id then .ok [] else .err .parcelBusy) none)) ∧
      (n.toNat = 0 → x = .piece i → exec (.parcelPiece l n k x) s = .next (answer (heard s l) l.sess l.tag (.err .badParcel) none)) ∧
      (n.toNat ≠ 0 → x = .piece i ∨ (i = false ∧ ∃ m h, x = .manifest m h) →
        (s.fw.parcel = none → exec (.parcelPiece l n k x) s = .next (answer (heard s l) l.sess l.tag (.err .noParcel) none)) ∧
        (∀ p, s.fw.parcel = some p → n.toNat ∈ p.pieces →
          exec (.parcelPiece l n k x) s = .next (answer (heard s l) l.sess l.tag (.ok []) none)) ∧
        (∀ p, s.fw.parcel = some p → n.toNat ∉ p.pieces → p.manifest.pieces ≤ n.toNat ∨ i = false →
          exec (.parcelPiece l n k x) s = .next (answer (heard s l) l.sess l.tag (.err .pieceHash) none)) ∧
        (∀ p, s.fw.parcel = some p → n.toNat ∉ p.pieces → n.toNat < p.manifest.pieces → i = true →
          ∃ u, exec (.parcelPiece l n k x) s = .next (answer u l.sess l.tag (.ok []) none) ∧
            u.fw.parcel = some { p with pieces := p.pieces ++ [n.toNat], lastAt := now s
                                        state := if p.manifest.pieces ≤ p.pieces.length + 1 then .complete else .receiving })))) ∧
  (∀ s l, getSess s l.sess = none → exec (.pieceTimeout l) s = .next s) ∧
  (∀ s l d u, getSess s l.sess = some d → u = answer (advanceTo s (d.lastRx + 60000000)) l.sess l.tag (.err .pieceTimeout) none →
    (∀ k, l.sess = .mgmt k → exec (.pieceTimeout l) s = .next (closeMgmt u k 5)) ∧
    (l.sess = .jcon ∨ l.sess = .usb → exec (.pieceTimeout l) s = .next (updSess u l.sess (fun d =>
      { d with machine := false, crc := false, partialLine := [], lineReady := none })))) ∧
  (∀ s, s.fw.parcel = none → exec .parcelExpiry s = .next s) ∧
  (∀ s p, s.fw.parcel = some p →
    (∀ u, p.state = .receiving → u = advanceTo s (p.since + 2592000000000) → exec .parcelExpiry s =
      .next (logEv { u with fw := { u.fw with parcel := none } } .parcelExpired
        { details := [(p.manifest.id : Int), (p.pieces.length : Int)] })) ∧
    (p.state ≠ .receiving → p.installedAt = none ∨ s.fw.install.isSome = true → exec .parcelExpiry s = .next s) ∧
    (∀ t u, p.state ≠ .receiving → p.installedAt = some t → s.fw.install = none → u = advanceTo s (t + 2592000000000) →
      exec .parcelExpiry s = .next { u with fw := { u.fw with parcel := none } })) ∧
  (∀ s l d, Accepts s l parcelCmd none d →
    (s.fw.parcel = none → exec (.parcelAbandon l) s = .next (answer (heard s l) l.sess l.tag (.err .noParcel) none)) ∧
    (∀ p, s.fw.parcel = some p → s.fw.install.isSome = true ∨ s.fw.a.state = .trial ∨ s.fw.b.state = .trial →
      exec (.parcelAbandon l) s = .next (answer (heard s l) l.sess l.tag .busy none)) ∧
    (∀ p, s.fw.parcel = some p → s.fw.install = none → s.fw.a.state ≠ .trial → s.fw.b.state ≠ .trial →
      exec (.parcelAbandon l) s = .next (answer { heard s l with fw := { s.fw with parcel := none, pull := none } }
        l.sess l.tag (.ok []) none)))

/-- An install is refused by its first failed step; it updates the gatehouse first where the order asks it; else it
stages the slot, answers which, and halts for a restart unless told to wait. A gatehouse update that ends runs the new
version, or the old one again. A slot on trial confirms 600 s after the start or the latest watchdog event, within 1800
s, when its conditions hold; otherwise the window's end restarts the drive. Fuses that fail stay unburned. An offer is
refused, skipped, failed or pulled by RELAY_ACCEPT, the running version and the held parcel; a request is served from
held pieces; a piece counts only from the source of the pull; a status ends the relay, and FAILED and REFUSED are
logged. -/
def Obligations.InstallsTrialsAndRelaysActAsChapter17Says : Prop :=
  (∀ s l d y z r, Accepts s l parcelCmd none d →
    (∀ e, installErr s r = some e → exec (.parcelInstall l y z r) s =
      .next (answer (refuseInstall (heard s l) e) l.sess l.tag e none)) ∧
    (∀ p, installErr s r = none → s.fw.parcel = some p → p.manifest.order = 1 ∨ p.manifest.comp = 4 →
      ∃ u, exec (.parcelInstall l y z r) s = .next (waits u l) ∧
        u.fw.gateUpdate = some { version := p.manifest.gateVersion, install := true } ∧
        u.fw.parcel = some { p with state := .installing } ∧ (∃ i, u.fw.install = some i ∧ i.slot = some (l.sess, d.nextSlot)) ∧
        u.fw.a = s.fw.a ∧ u.fw.b = s.fw.b) ∧
    (∀ p, installErr s r = none → s.fw.parcel = some p → p.manifest.order ≠ 1 → p.manifest.comp ≠ 4 → r.cut = true →
      ∃ u, exec (.parcelInstall l y z r) s = .next (waits u l) ∧ fwSlot u (targetSlot s) = {} ∧
        fwSlot u (! targetSlot s) = fwSlot s (! targetSlot s) ∧ u.fw.parcel = some { p with state := .installing } ∧
        u.fw.install.isSome = true) ∧
    (∀ p t, installErr s r = none → s.fw.parcel = some p → p.manifest.order ≠ 1 → p.manifest.comp ≠ 4 → r.cut = false →
      r.slotOk = true → t = targetSlot s → ∃ u, exec (.parcelInstall l y z r) s = .next (answer u l.sess l.tag (okLine [("", .name "staged"), ("slot", slotName t)])
        (if z = true ∨ runSlot s = none then none else some (.halt .restart))) ∧
        fwSlot u t = { state := .staged, version := p.manifest.version, svn := p.manifest.svn, manifest := some p.manifest
                       relayOrigin := if y = true then some Config.serial else none } ∧
        fwSlot u (! t) = fwSlot s (! t) ∧ u.fw.parcel = some { p with state := .installed, installedAt := some (now s) } ∧
        u.fw.install = none) ∧
    (∀ p, installErr s r = none → s.fw.parcel = some p → p.manifest.order ≠ 1 → p.manifest.comp ≠ 4 → r.cut = false →
      r.slotOk = false → ∃ u, exec (.parcelInstall l y z r) s = .next (answer u l.sess l.tag (.err .badParcel) none) ∧
        fwSlot u (targetSlot s) = {} ∧ u.fw.parcel = some { p with state := .stopped } ∧ u.fw.install = none)) ∧
  (∀ s r p, s.fw.parcel = some p →
    (p.state = .receiving → installErr s r = some (.err .notComplete)) ∧
    (p.state ≠ .receiving → slotPending s = true ∨ s.fw.install.isSome = true ∨ s.fw.gateUpdate.isSome = true →
      installErr s r = some .busy)) ∧
  (∀ s v b, (gateOutcome s v true true).fw.gateSlot = 1 - s.fw.gateSlot ∧ (gateOutcome s v b false).fw.gateSlot = s.fw.gateSlot ∧
    (gateOutcome s v false b).fw.gateSlot = s.fw.gateSlot ∧
    (s.fw.gateSlot ≤ 1 → gateVersion (gateOutcome s v true true) = v ∧ gateVersion (gateOutcome s v b false) = gateVersion s ∧
      gateVersion (gateOutcome s v false b) = gateVersion s)) ∧
  (∀ s a b, s.fw.gateUpdate = none → exec (.gateUpdateDone a b) s = .next s) ∧
  (∀ s a b u t, s.fw.gateUpdate = some u → t = lateAllocations (gateOutcome { s with fw := { s.fw with gateUpdate := none } } u.version a b) →
    (u.install = false ∨ s.fw.install = none → exec (.gateUpdateDone a b) s = .next t) ∧
    (∀ i p, u.install = true → s.fw.install = some i → s.fw.parcel = some p →
      (a = false ∨ b = false → exec (.gateUpdateDone a b) s = .next (endInstall t i .gateFailed)) ∧
      (a = true → b = true → p.manifest.comp ≠ 4 → exec (.gateUpdateDone a b) s = .next (writeSlot t i p.manifest)) ∧
      (a = true → b = true → p.manifest.comp = 4 → ∃ v, exec (.gateUpdateDone a b) s =
        .next (answerSlot v i.slot (okLine [("gate", vn u.version)]) none) ∧ v.fw.install = none ∧
          v.fw.parcel = some { p with state := .installed, installedAt := some (now s) }))) ∧
  (∀ s f, (s.fw.trialAt = none ∨ runSlot s = none → exec (.trialConfirm f) s = .next s ∧ exec .trialWindowEnd s = .next s) ∧
    (∀ t b, s.fw.trialAt = some t → runSlot s = some b →
      ((fwSlot s b).state ≠ .trial ∨ running s = false → exec (.trialConfirm f) s = .next s ∧ exec .trialWindowEnd s = .next s) ∧
      (mayConfirm s = false ∨ t + 1800000000 < confirmAt s t ∨ t + 1800000000 < now s → exec (.trialConfirm f) s = .next s) ∧
      (mayConfirm s = true → (fwSlot s b).state = .trial → running s = true → confirmAt s t ≤ t + 1800000000 →
        now s ≤ t + 1800000000 → exec (.trialConfirm f) s = .next (confirmSlot (advanceTo s (confirmAt s t)) b f)) ∧
      (∀ u, (fwSlot s b).state = .trial → running s = true → u = advanceTo s (t + 1800000000) → exec .trialWindowEnd s =
        .next (beginHalt { u with fw := { u.fw with trialAt := none, attemptFailed := true } } .restart)))) ∧
  (∀ s t, (s.fw.watchdogAt = none → confirmAt s t = t + 600000000) ∧
    ∀ w, s.fw.watchdogAt = some w → confirmAt s t = Nat.max t w + 600000000) ∧
  (∀ s f, (burnFuses s f).fw.fuses = s.fw.fuses ++
    (((List.range (s.fw.burnTarget - svnCounter s)).map (fun i => svnCounter s + i)).filter (fun i => ! f.contains i))) ∧
  (∀ s h o r, Arrives s h →
    (cfgField s .fwCfg "RELAY_ACCEPT" = 0 → exec (.relayOffer h o r) s = .next (acked (rowSend (noted s h) o.source
      (.relayStatus o.parcel Config.serial .refused)) h .ok)) ∧
    (∀ u, cfgField s .fwCfg "RELAY_ACCEPT" ≠ 0 → o.version ≤ mainVersion s →
      u = rowSend (noted s h) o.source (.relayStatus o.parcel Config.serial .skipped) →
      (neighbourOf u = none ∨ neighbourOf u = some o.origin → exec (.relayOffer h o r) s = .next (acked u h .ok)) ∧
      (∀ n, neighbourOf u = some n → n ≠ o.origin →
        exec (.relayOffer h o r) s = .next (acked (rowSend u n (.relayOffer o)) h .ok))) ∧
    (cfgField s .fwCfg "RELAY_ACCEPT" ≠ 0 → mainVersion s < o.version → parcelId s ≠ 0 → parcelId s ≠ o.parcel →
      exec (.relayOffer h o r) s = .next (acked (rowSend (noted s h) o.source
        (.relayStatus o.parcel Config.serial .failed)) h .ok)) ∧
    (∀ u, cfgField s .fwCfg "RELAY_ACCEPT" ≠ 0 → mainVersion s < o.version → parcelId s = 0 ∨ parcelId s = o.parcel →
      u = { noted s h with fw := { s.fw with pull := some o } } →
      (s.fw.parcel = none ∨ parcelState s = .receiving → exec (.relayOffer h o r) s = .next (acked (askPiece u o) h .ok)) ∧
      (∀ p, s.fw.parcel = some p → p.state ≠ .receiving →
        exec (.relayOffer h o r) s = .next (acked (relayInstall u o r) h .ok)))) ∧
  (∀ s h id n, Arrives s h →
    (s.fw.parcel = none → exec (.pieceReq h id n) s = .next (acked (noted s h) h .refused)) ∧
    (∀ p, s.fw.parcel = some p → p.manifest.id ≠ id ∨ n ∉ p.pieces →
      exec (.pieceReq h id n) s = .next (acked (noted s h) h .refused)) ∧
    (∀ p, s.fw.parcel = some p → p.manifest.id = id → n ∈ p.pieces → exec (.pieceReq h id n) s =
      .next (acked (rowSend (noted s h) h.peer
        (.relayPiece id n (Nat.min 65536 (p.manifest.length - 65536 * n))) h.msgId) h .ok))) ∧
  (∀ s p b r, msgParts b = 1 → rowSend s p b r = rowPost { s with row := { s.row with nextMsg := s.row.nextMsg + 1 } }
    { peer := p, msgId := s.row.nextMsg, refId := r, epoch := s.row.epoch, body := b, part := 0, parts := 1 }) ∧
  (∀ s p b r, (rowSend s p b r).row.nextMsg = s.row.nextMsg + Nat.max 1 (ceilDiv (bodyLen b) 8192)) ∧
  (∀ s h n x r, Arrives s h →
    (s.fw.pull = none → exec (.relayPiece h n x r) s = .next (acked (noted s h) h .refused)) ∧
    (∀ o, s.fw.pull = some o →
      (o.source ≠ h.peer → exec (.relayPiece h n x r) s = .next (acked (noted s h) h .refused)) ∧
      (o.source = h.peer → coldNow s = true → exec (.relayPiece h n x r) s = .next (acked (askPiece (noted s h) o) h .tryLater)) ∧
      (o.source = h.peer → coldNow s = false →
        (offeredPiece o x = false → exec (.relayPiece h n x r) s = .next (acked (askPiece (noted s h) o) h .ok)) ∧
        (∀ u a, offeredPiece o x = true → takePiece (noted s h) n x = (u, a) →
          (a = .err .pieceHash → exec (.relayPiece h n x r) s = .next (acked (askPiece u o) h .ok)) ∧
          (∀ e, a = .err e → e ≠ .pieceHash → exec (.relayPiece h n x r) s =
            .next (acked (reportTo { u with fw := { u.fw with pull := none } } o.source o.parcel .failed) h .ok)) ∧
          (∀ p, a = .ok [] → u.fw.parcel = some p →
            (p.state = .receiving → exec (.relayPiece h n x r) s = .next (acked (askPiece u o) h .ok)) ∧
            (p.state ≠ .receiving → exec (.relayPiece h n x r) s = .next (acked (relayInstall u o r) h .ok))))))) ∧
  (∀ s h id x, Arrives s h →
    exec (.relayStatus h id x .skipped) s = .next (acked (noted s h) h .ok) ∧
    exec (.relayStatus h id x .confirmed) s = .next (acked (endRelay (noted s h) id) h .ok) ∧
    exec (.relayStatus h id x .failed) s = .next (acked (endRelay (logEv (noted s h) .fwRelayStopped
      { reason := 2, details := [(x : Int), (id : Int)] }) id) h .ok) ∧
    exec (.relayStatus h id x .refused) s = .next (acked (endRelay (logEv (noted s h) .fwRelayStopped
      { reason := 4, details := [(x : Int), (id : Int)] }) id) h .ok))

/-- Each clause names commands of the service bay, power, temperature and the islands and the parts of the state they
may change: every other part, and the queue, is as before in the state that follows. (Finer effects are in the
statements of the commands themselves; a part is one record of State.) -/
def Obligations.BayPowerAndIslandCommandsChangeOnlyTheirParts : Prop :=
  (∀ s t, exec .usbSetLineCoding s = .next t
      → Only [] s t) ∧
  (∀ s t, (∃ a, exec (.jsvcChange a) s = .next t) ∨ exec .buttonPress s = .next t ∨
      exec .buttonLockoutClear s = .next t ∨ exec .jconFramingError s = .next t ∨ exec .jconShortBreak s = .next t
      → Only [.bay] s t) ∧
  (∀ s t, (∃ a, exec (.heaterSwitch a) s = .next t) ∨ (∃ a, exec (.cellReturn a) s = .next t) ∨
      exec .holdupDischargeStart s = .next t
      → Only [.power] s t) ∧
  (∀ s t, (∃ a, exec (.islandGate a) s = .next t) ∨ (∃ a, exec (.islandWake a) s = .next t) ∨
      (∃ a, exec (.dramCorrected a) s = .next t) ∨ (∃ a, exec (.dramRebuildDone a) s = .next t) ∨
      exec .dramScrub s = .next t
      → Only [.isl] s t) ∧
  (∀ s t, (∃ a, exec (.lldpTransmit a) s = .next t)
      → Only [.ports] s t) ∧
  (∀ s t, exec .bankRecharged s = .next t
      → Only [.power, .upkeep] s t) ∧
  (∀ s t, exec .locateExpiry s = .next t
      → Only [.clock, .bay] s t) ∧
  (∀ s t, exec .usbAttach s = .next t
      → Only [.bay, .con] s t) ∧
  (∀ s t, exec .usbDetach s = .next t
      → Only [.bay, .con, .stalls] s t) ∧
  (∀ s t, exec .holdupPeriodic s = .next t
      → Only [.clock, .power, .upkeep] s t) ∧
  (∀ s t, (∃ a, exec (.usbSendBreak a) s = .next t) ∨ (∃ a, exec (.jconAttention a) s = .next t)
      → Only [.con, .ports, .net, .out] s t) ∧
  (∀ s t, (∃ a, exec (.buttonRelease a) s = .next t) ∨ (∃ a, exec (.buttonDiscrepancy a) s = .next t) ∨
      (∃ a, exec (.lidDiscrepancy a) s = .next t) ∨ exec .buttonStuck s = .next t ∨ exec .lidOpen s = .next t ∨
      exec .lidClosed s = .next t ∨ exec .lineFault s = .next t ∨ exec .lineRecovered s = .next t
      → Only [.bay, .con, .ports, .net, .upkeep, .log, .out] s t) ∧
  (∀ s t, (∃ a b, exec (.holdupMeasureDone a b) s = .next t) ∨ (∃ a, exec (.holdupChargeTimeout a) s = .next t) ∨
      (∃ a b, exec (.cellFault a b) s = .next t) ∨ (∃ a, exec (.coldGate a) s = .next t)
      → Only [.power, .con, .ports, .net, .upkeep, .log, .out] s t) ∧
  (∀ s t, (∃ a, exec (.powerShow a) s = .next t) ∨ (∃ a b, exec (.islandShow a b) s = .next t) ∨
      (∃ a, exec (.bayShow a) s = .next t)
      → Only [.con, .ports, .net, .stalls, .upkeep, .log, .out] s t) ∧
  (∀ s t, exec .presenceExpiry s = .next t
      → Only [.clock, .bay, .con, .ports, .net, .upkeep, .log, .out] s t) ∧
  (∀ s t, exec .gatehouseReset s = .next t
      → Only [.isl, .con, .ports, .net, .upkeep, .fw, .log, .out] s t) ∧
  (∀ s t, (∃ a b c, exec (.feedLost a b c) s = .next t)
      → Only [.power, .con, .ports, .net, .proto, .upkeep, .log, .out] s t) ∧
  (∀ s t, (∃ a, exec (.presenceClose a) s = .next t) ∨ (∃ a b, exec (.ledLocate a b) s = .next t)
      → Only [.bay, .con, .ports, .net, .stalls, .upkeep, .log, .out] s t) ∧
  (∀ s t, (∃ a, exec (.holdupMeasure a) s = .next t)
      → Only [.power, .con, .ports, .net, .stalls, .upkeep, .log, .out] s t) ∧
  (∀ s t, (∃ a, exec (.plannedChangeover a) s = .next t) ∨ exec .levelUp s = .next t
      → Only [.clock, .power, .con, .ports, .net, .proto, .upkeep, .log, .out] s t) ∧
  (∀ s t, (∃ a b, exec (.feedRestored a b) s = .next t)
      → Only [.power, .boot, .con, .ports, .net, .proto, .upkeep, .log, .out] s t) ∧
  (∀ s t, (∃ a b, exec (.lldpAllocation a b) s = .next t)
      → Only [.clock, .power, .boot, .con, .ports, .net, .proto, .media, .upkeep, .row, .log, .out] s t) ∧
  (∀ s t, (∃ a, exec (.thermalThrottle a) s = .next t)
      → Only [.phase, .bay, .power, .boot, .con, .ports, .net, .proto, .upkeep, .row, .log, .out] s t) ∧
  (∀ s t, exec .starvedTimeout s = .next t
      → Only [.phase, .clock, .bay, .power, .boot, .con, .ports, .net, .proto, .upkeep, .row, .log, .out] s t) ∧
  (∀ s t, (∃ a b, exec (.dramUncorrectable a b) s = .next t) ∨ exec .referenceClockLoss s = .next t ∨
      exec .gatehouseWatchdog s = .next t
      → Only [.phase, .bay, .power, .isl, .boot, .con, .ports, .net, .proto, .kv, .stalls, .media, .upkeep, .row,
        .fw, .log, .out] s t) ∧
  (∀ s t, exec .gatehouseResetTimeout s = .next t
      → Only [.phase, .clock, .bay, .power, .isl, .boot, .con, .ports, .net, .proto, .kv, .stalls, .media, .upkeep,
        .row, .fw, .log, .out] s t) ∧
  (∀ s t, (∃ a b c d, exec (.islandFault a b c d) s = .next t) ∨ (∃ a, exec (.watchdogExpiry a) s = .next t) ∨
      (∃ a b, exec (.handshakeTimeout a b) s = .next t)
      → Only [.phase, .clock, .bay, .power, .isl, .boot, .con, .ports, .net, .proto, .kv, .stalls, .media, .upkeep,
        .arc, .row, .fw, .life, .log, .out] s t)

/-- Each clause names commands of the start, the halt, the self-test and the life cycle and the parts of the state they
may change: every other part, and the queue, is as before in the state that follows. (Finer effects are in the
statements of the commands themselves; a part is one record of State.) -/
def Obligations.StartHaltAndLifeCommandsChangeOnlyTheirParts : Prop :=
  (∀ s t, exec .s17LinkRetry s = .next t
      → Only [.ports] s t) ∧
  (∀ s t, exec .eventLogCopy s = .next t
      → Only [.log] s t) ∧
  (∀ s t, (∃ a, exec (.startShow a) s = .next t) ∨ (∃ a b, exec (.ledgerShow a b) s = .next t) ∨
      (∃ a, exec (.lifecycleShow a) s = .next t) ∨ (∃ a, exec (.testShow a) s = .next t) ∨
      (∃ a b c d, exec (.testResults a b c d) s = .next t)
      → Only [.con, .ports, .net, .stalls, .upkeep, .log, .out] s t) ∧
  (∀ s t, exec .s01BudgetMet s = .next t
      → Only [.power, .boot, .con, .ports, .net, .upkeep, .log, .out] s t) ∧
  (∀ s t, exec .startHotHold s = .next t
      → Only [.clock, .boot, .con, .ports, .net, .upkeep, .log, .out] s t) ∧
  (∀ s t, (∃ a, exec (.coldOpen a) s = .next t)
      → Only [.power, .con, .ports, .net, .media, .upkeep, .log, .out] s t) ∧
  (∀ s t, exec .leadSelect s = .next t
      → Only [.clock, .power, .con, .ports, .net, .proto, .upkeep, .log, .out] s t) ∧
  (∀ s t, (∃ a b, exec (.wake a b) s = .next t)
      → Only [.phase, .bay, .power, .boot, .con, .ports, .proto, .stalls, .row] s t) ∧
  (∀ s t, (∃ a b, exec (.portPowerOn a b) s = .next t)
      → Only [.power, .boot, .con, .ports, .net, .proto, .upkeep, .log, .out] s t) ∧
  (∀ s t, (∃ a b, exec (.islandRevive a b) s = .next t)
      → Only [.isl, .con, .ports, .net, .stalls, .upkeep, .life, .log, .out] s t) ∧
  (∀ s t, (∃ a, exec (.startClear a) s = .next t)
      → Only [.boot, .con, .ports, .net, .stalls, .upkeep, .life, .log, .out] s t) ∧
  (∀ s t, (∃ a b, exec (.s17Complete a b) s = .next t)
      → Only [.clock, .boot, .con, .ports, .net, .media, .upkeep, .row, .log, .out] s t) ∧
  (∀ s t, (∃ a, exec (.orderlyHalt a) s = .next t)
      → Only [.phase, .bay, .boot, .con, .ports, .net, .proto, .upkeep, .row, .log, .out] s t) ∧
  (∀ s t, (∃ a, exec (.flushComplete a) s = .next t)
      → Only [.phase, .clock, .bay, .power, .boot, .con, .ports, .proto, .stalls, .media, .upkeep, .row] s t) ∧
  (∀ s t, exec .capAdmission s = .next t
      → Only [.con, .ports, .net, .proto, .kv, .stalls, .media, .upkeep, .arc, .row, .log, .out] s t) ∧
  (∀ s t, (∃ a, exec (.dormantEnter a) s = .next t)
      → Only [.phase, .bay, .power, .boot, .con, .ports, .net, .proto, .stalls, .upkeep, .row, .log, .out] s t) ∧
  (∀ s t, (∃ a b c, exec (.lifecycleSet a b c) s = .next t)
      → Only [.phase, .bay, .power, .boot, .con, .ports, .net, .proto, .stalls, .upkeep, .row, .life, .log, .out] s t) ∧
  (∀ s t, (∃ a, exec (.reboot a) s = .next t)
      → Only [.phase, .clock, .bay, .power, .boot, .con, .ports, .net, .proto, .stalls, .upkeep, .row, .life, .log,
        .out] s t) ∧
  (∀ s t, (∃ a b c d, exec (.testRun a b c d) s = .next t)
      → Only [.power, .isl, .con, .ports, .net, .proto, .kv, .stalls, .media, .upkeep, .arc, .row, .life, .log, .out] s t) ∧
  (∀ s t, exec .powerFail s = .next t ∨ exec .haltDrainEnd s = .next t
      → Only [.phase, .bay, .power, .isl, .boot, .con, .ports, .net, .proto, .kv, .stalls, .media, .upkeep, .row,
        .life, .log, .out] s t) ∧
  (∀ s t, (∃ a, exec (.selftestIslandDone a) s = .next t) ∨ (∃ a, exec (.selftestLimitLeft a) s = .next t)
      → Only [.phase, .clock, .bay, .power, .isl, .boot, .con, .ports, .net, .proto, .kv, .stalls, .media, .upkeep,
        .arc, .row, .life, .log, .out] s t) ∧
  (∀ s t, (∃ a, exec (.haltFlushDone a) s = .next t)
      → Only [.phase, .clock, .bay, .power, .isl, .boot, .con, .ports, .net, .proto, .kv, .stalls, .media, .upkeep,
        .arc, .row, .life, .log, .out, .freeCtr] s t) ∧
  (∀ s t, (∃ a b, exec (.startStepFail a b) s = .next t) ∨ (∃ a b, exec (.startStepTimeout a b) s = .next t)
      → Only [.phase, .clock, .bay, .power, .isl, .boot, .con, .ports, .net, .proto, .kv, .stalls, .media, .upkeep,
        .arc, .row, .fw, .life, .log, .out] s t) ∧
  (∀ s t, (∃ a b, exec (.detectionVoltage a b) s = .next t) ∨ (∃ a, exec (.startBegin a) s = .next t) ∨
      (∃ a, exec (.startStepComplete a) s = .next t)
      → Only [.phase, .clock, .bay, .power, .isl, .cfg, .boot, .con, .ports, .net, .proto, .kv, .stalls, .media,
        .upkeep, .arc, .row, .fw, .life, .log, .out] s t)

/-- Each clause names commands of the consoles, the management sessions and the attributes and the parts of the state
they may change: every other part, and the queue, is as before in the state that follows. (Finer effects are in the
statements of the commands themselves; a part is one record of State.) -/
def Obligations.ConsoleAndAttributeCommandsChangeOnlyTheirParts : Prop :=
  (∀ s t, (∃ a b, exec (.consoleChar a b) s = .next t) ∨ (∃ a b, exec (.consoleBadLine a b) s = .next t)
      → Only [.con, .ports, .net, .out] s t) ∧
  (∀ s t, (∃ a, exec (.eventLineWindowEnd a) s = .next t)
      → Only [.clock, .con, .ports, .net, .out] s t) ∧
  (∀ s t, (∃ a, exec (.mgmtSessionClose a) s = .next t) ∨ (∃ a, exec (.unknownCommand a) s = .next t) ∨
      (∃ a b, exec (.help a b) s = .next t) ∨ (∃ a b, exec (.mode a b) s = .next t) ∨
      (∃ a, exec (.who a) s = .next t) ∨ (∃ a b c d, exec (.log a b c d) s = .next t) ∨
      (∃ a b, exec (.logFollow a b) s = .next t) ∨ (∃ a b c d, exec (.wardenEnrol a b c d) s = .next t) ∨
      (∃ a b, exec (.wardenRemove a b) s = .next t) ∨ (∃ a, exec (.wardenShow a) s = .next t) ∨
      (∃ a, exec (.kvShow a) s = .next t) ∨ (∃ a, exec (.kvStats a) s = .next t) ∨
      (∃ a b, exec (.kvConns a b) s = .next t) ∨ (∃ a, exec (.kv1Show a) s = .next t) ∨
      (∃ a, exec (.configExport a) s = .next t) ∨ (∃ a, exec (.resShow a) s = .next t)
      → Only [.con, .ports, .net, .stalls, .upkeep, .log, .out] s t) ∧
  (∀ s t, (∃ a b c d e, exec (.mgmtConnect a b c d e) s = .next t)
      → Only [.con, .ports, .net, .upkeep, .fw, .log, .out] s t) ∧
  (∀ s t, (∃ a, exec (.mgmtIdleTimeout a) s = .next t)
      → Only [.clock, .con, .ports, .net, .stalls, .upkeep, .log, .out] s t) ∧
  (∀ s t, (∃ a b c d, exec (.attrGet a b c d) s = .next t)
      → Only [.isl, .con, .ports, .net, .stalls, .upkeep, .log, .out] s t) ∧
  (∀ s t, (∃ a b, exec (.discardGroup a b) s = .next t)
      → Only [.cfg, .con, .ports, .net, .stalls, .upkeep, .log, .out] s t) ∧
  (∀ s t, (∃ a, exec (.halt a) s = .next t)
      → Only [.phase, .bay, .power, .boot, .con, .ports, .net, .proto, .stalls, .upkeep, .row, .log, .out] s t) ∧
  (∀ s t, (∃ a b c, exec (.attrSet a b c) s = .next t) ∨ (∃ a b, exec (.bayCfgWrite a b) s = .next t) ∨
      (∃ a b, exec (.tamperClear a b) s = .next t) ∨ (∃ a b, exec (.policyPreferWrite a b) s = .next t) ∨
      (∃ a b c, exec (.netPhyCfgWrite a b c) s = .next t) ∨ (∃ a b c, exec (.maxFrameWrite a b c) s = .next t) ∨
      (∃ a b, exec (.kvCfgWrite a b) s = .next t) ∨ (∃ a b, exec (.routeCfgWrite a b) s = .next t) ∨
      (∃ a b c, exec (.meterKindWrite a b c) s = .next t) ∨ (∃ a, exec (.kv1Enable a) s = .next t) ∨
      (∃ a, exec (.kv1Disable a) s = .next t)
      → Only [.clock, .bay, .power, .isl, .cfg, .con, .ports, .net, .proto, .kv, .stalls, .media, .upkeep, .log, .out] s t) ∧
  (∀ s t, (∃ a b, exec (.commitGroup a b) s = .next t) ∨ (∃ a b c, exec (.kv1Allow a b c) s = .next t) ∨
      (∃ a b, exec (.kv1Deny a b) s = .next t) ∨ (∃ a b c d, exec (.arcadeGrant a b c d) s = .next t)
      → Only [.clock, .power, .isl, .cfg, .con, .ports, .net, .proto, .kv, .stalls, .media, .upkeep, .row, .log, .out] s t)

/-- Each clause names commands of the ports, the network and time and the parts of the state they may change: every
other part, and the queue, is as before in the state that follows. (Finer effects are in the statements of the commands
themselves; a part is one record of State.) -/
def Obligations.PortAddressAndTimeCommandsChangeOnlyTheirParts : Prop :=
  (∀ s t, exec .rtcWrite s = .next t ∨ exec .ledgerCheckpoint s = .next t
      → Only [.clock] s t) ∧
  (∀ s t, (∃ a b, exec (.icmpPacketTooBig a b) s = .next t)
      → Only [.net] s t) ∧
  (∀ s t, (∃ a, exec (.lacpduTransmit a) s = .next t) ∨ (∃ a b, exec (.pauseExpiry a b) s = .next t) ∨
      (∃ a, exec (.pauseStormEnd a) s = .next t)
      → Only [.clock, .ports] s t) ∧
  (∀ s t, (∃ a b c d, exec (.closedPortPacket a b c d) s = .next t) ∨ (∃ a, exec (.raTimeout a) s = .next t) ∨
      (∃ a b c d, exec (.neighbourSolicit a b c d) s = .next t) ∨
      (∃ a b c d e, exec (.icmpEcho a b c d e) s = .next t)
      → Only [.ports, .net] s t) ∧
  (∀ s t, (∃ a b c, exec (.lldpNeighbourExpiry a b c) s = .next t)
      → Only [.clock, .net] s t) ∧
  (∀ s t, (∃ a b, exec (.lacpduReceive a b) s = .next t)
      → Only [.ports, .net, .proto] s t) ∧
  (∀ s t, (∃ a, exec (.dhcpRetransmit a) s = .next t) ∨ (∃ a b, exec (.addrRetry a b) s = .next t)
      → Only [.clock, .ports, .net] s t) ∧
  (∀ s t, (∃ a b, exec (.pauseFrame a b) s = .next t) ∨ (∃ a b, exec (.pfcFrame a b) s = .next t) ∨
      (∃ a b c, exec (.hwstatFold a b c) s = .next t) ∨ (∃ a b, exec (.linkDownshift a b) s = .next t) ∨
      (∃ a b, exec (.counterHalf a b) s = .next t) ∨ (∃ a b, exec (.counterFold a b) s = .next t) ∨
      (∃ a b, exec (.counterSaturated a b) s = .next t) ∨ (∃ a b, exec (.routerAdvertisement a b) s = .next t)
      → Only [.con, .ports, .net, .upkeep, .log, .out] s t) ∧
  (∀ s t, (∃ a, exec (.ptpAnnounce a) s = .next t) ∨ exec .ptpAnnounceTimeout s = .next t ∨
      exec .timeStepRefused s = .next t ∨ (∃ a, exec (.pauseStorm a) s = .next t) ∨
      (∃ a b, exec (.dhcpv6Receive a b) s = .next t) ∨ (∃ a, exec (.ntpPoll a) s = .next t)
      → Only [.clock, .con, .ports, .net, .upkeep, .log, .out] s t) ∧
  (∀ s t, (∃ a b, exec (.portShow a b) s = .next t) ∨ (∃ a b c, exec (.portStats a b c) s = .next t) ∨
      (∃ a b, exec (.portStatsClear a b) s = .next t) ∨ (∃ a b c, exec (.portCaptureRead a b c) s = .next t) ∨
      (∃ a b, exec (.netShow a b) s = .next t) ∨ (∃ a, exec (.netStats a) s = .next t) ∨
      (∃ a b, exec (.netLldp a b) s = .next t) ∨ (∃ a, exec (.timeShow a) s = .next t) ∨
      (∃ a b, exec (.netRenew a b) s = .next t)
      → Only [.con, .ports, .net, .stalls, .upkeep, .log, .out] s t) ∧
  (∀ s t, (∃ a, exec (.lagNoPartner a) s = .next t) ∨ exec .bondRevert s = .next t
      → Only [.clock, .con, .ports, .net, .proto, .upkeep, .log, .out] s t) ∧
  (∀ s t, (∃ a, exec (.linkDown a) s = .next t) ∨ (∃ a b, exec (.lldpReceive a b) s = .next t)
      → Only [.power, .con, .ports, .net, .proto, .upkeep, .log, .out] s t) ∧
  (∀ s t, (∃ a b, exec (.frameReceive a b) s = .next t)
      → Only [.isl, .con, .ports, .net, .media, .upkeep, .arc, .log, .out] s t) ∧
  (∀ s t, (∃ a b, exec (.frameFcsResult a b) s = .next t)
      → Only [.bay, .con, .ports, .net, .proto, .media, .upkeep, .log, .out] s t) ∧
  (∀ s t, (∃ a, exec (.frameSent a) s = .next t)
      → Only [.bay, .isl, .con, .ports, .net, .proto, .upkeep, .log, .out] s t) ∧
  (∀ s t, (∃ a, exec (.ptpMessage a) s = .next t) ∨ (∃ a b, exec (.ntpResponse a b) s = .next t) ∨
      (∃ a b, exec (.timeSet a b) s = .next t) ∨ (∃ a, exec (.timeAccept a) s = .next t)
      → Only [.clock, .con, .ports, .net, .stalls, .media, .upkeep, .log, .out] s t) ∧
  (∀ s t, (∃ a b c, exec (.linkUp a b c) s = .next t)
      → Only [.power, .boot, .con, .ports, .net, .proto, .upkeep, .log, .out] s t) ∧
  (∀ s t, (∃ a b, exec (.addrDuplicate a b) s = .next t)
      → Only [.con, .ports, .net, .proto, .kv, .stalls, .media, .upkeep, .log, .out] s t) ∧
  (∀ s t, (∃ a b, exec (.dhcpv4Receive a b) s = .next t) ∨ (∃ a b, exec (.addrProbeDone a b) s = .next t) ∨
      (∃ a b, exec (.addrLost a b) s = .next t)
      → Only [.clock, .con, .ports, .net, .proto, .kv, .stalls, .media, .upkeep, .log, .out] s t)

/-- Each clause names commands of the wire protocol and the operations and the parts of the state they may change: every
other part, and the queue, is as before in the state that follows. (Finer effects are in the statements of the commands
themselves; a part is one record of State.) -/
def Obligations.ProtocolAndOperationCommandsChangeOnlyTheirParts : Prop :=
  (∀ s t, (∃ a, exec (.objectExpiry a) s = .next t)
      → Only [.clock] s t) ∧
  (∀ s t, (∃ a, exec (.discardTicketDone a) s = .next t)
      → Only [.kv] s t) ∧
  (∀ s t, (∃ a b, exec (.bucketRefill a b) s = .next t)
      → Only [.stalls] s t) ∧
  (∀ s t, (∃ a, exec (.authLockoutExpiry a) s = .next t)
      → Only [.clock, .proto] s t) ∧
  (∀ s t, (∃ a, exec (.ticketExpiry a) s = .next t)
      → Only [.clock, .kv] s t) ∧
  (∀ s t, (∃ a b c d e f, exec (.dataConnect a b c d e f) s = .next t) ∨
      (∃ a b c d, exec (.kv1Heartbeat a b c d) s = .next t)
      → Only [.ports, .net, .proto] s t) ∧
  (∀ s t, (∃ a, exec (.mbxDoorbell a) s = .next t)
      → Only [.clock, .ports, .net, .proto] s t) ∧
  (∀ s t, (∃ a, exec (.connectionClose a) s = .next t)
      → Only [.ports, .proto, .kv, .media] s t) ∧
  (∀ s t, (∃ a, exec (.tlsRecordFail a) s = .next t) ∨ (∃ a, exec (.zeroWindowTimeout a) s = .next t)
      → Only [.ports, .net, .proto, .kv, .media] s t) ∧
  (∀ s t, (∃ a, exec (.findDone a) s = .next t)
      → Only [.ports, .net, .kv, .arc, .row] s t) ∧
  (∀ s t, (∃ a b, exec (.connectionTimeout a b) s = .next t)
      → Only [.clock, .ports, .net, .proto, .kv, .media] s t) ∧
  (∀ s t, (∃ a b c d, exec (.kv1Connect a b c d) s = .next t)
      → Only [.con, .ports, .net, .proto, .upkeep, .fw, .log, .out] s t) ∧
  (∀ s t, (∃ a b, exec (.tlsHandshake a b) s = .next t)
      → Only [.con, .ports, .net, .proto, .kv, .media, .upkeep, .log, .out] s t) ∧
  (∀ s t, (∃ a, exec (.authDenyDelay a) s = .next t) ∨ (∃ a, exec (.resyncTimeout a) s = .next t)
      → Only [.clock, .con, .ports, .net, .proto, .kv, .media, .upkeep, .log, .out] s t) ∧
  (∀ s t, (∃ a, exec (.txnLocksTaken a) s = .next t)
      → Only [.con, .ports, .net, .proto, .kv, .stalls, .media, .upkeep, .arc, .row, .log, .out] s t) ∧
  (∀ s t, (∃ a, exec (.operationComplete a) s = .next t) ∨ exec .schedDispatch s = .next t
      → Only [.isl, .con, .ports, .net, .proto, .kv, .stalls, .media, .upkeep, .arc, .row, .log, .out] s t) ∧
  (∀ s t, (∃ a, exec (.uploadExpiry a) s = .next t) ∨ (∃ a, exec (.lockTimeout a) s = .next t)
      → Only [.clock, .con, .ports, .net, .proto, .kv, .stalls, .media, .upkeep, .arc, .row, .log, .out] s t) ∧
  (∀ s t, (∃ a b, exec (.hello a b) s = .next t) ∨ (∃ a b, exec (.auth a b) s = .next t) ∨
      (∃ a b, exec (.channelOpen a b) s = .next t) ∨ (∃ a b, exec (.channelClose a b) s = .next t) ∨
      (∃ a b, exec (.frameLostAlignment a b) s = .next t) ∨ (∃ a b, exec (.resyncData a b) s = .next t) ∨
      (∃ a b, exec (.heartbeat a b) s = .next t) ∨ (∃ a b, exec (.put a b) s = .next t) ∨
      (∃ a b, exec (.get a b) s = .next t) ∨ (∃ a b, exec (.head a b) s = .next t) ∨
      (∃ a b, exec (.delete a b) s = .next t) ∨ (∃ a b, exec (.list a b) s = .next t) ∨
      (∃ a b, exec (.cas a b) s = .next t) ∨ (∃ a b, exec (.mputBegin a b) s = .next t) ∨
      (∃ a b, exec (.mputPart a b) s = .next t) ∨ (∃ a b, exec (.mputCommit a b) s = .next t) ∨
      (∃ a b, exec (.mputAbort a b) s = .next t) ∨ (∃ a b, exec (.txn a b) s = .next t) ∨
      (∃ a b, exec (.tag a b) s = .next t) ∨ (∃ a b, exec (.find a b) s = .next t) ∨
      (∃ a b, exec (.fetch a b) s = .next t) ∨ (∃ a b, exec (.flush a b) s = .next t) ∨
      (∃ a b, exec (.discard a b) s = .next t) ∨ (∃ a b, exec (.shred a b) s = .next t) ∨
      (∃ a b, exec (.stat a b) s = .next t) ∨ (∃ a b, exec (.mbxSend a b) s = .next t) ∨
      (∃ a b, exec (.mbxRecv a b) s = .next t)
      → Only [.isl, .con, .ports, .net, .proto, .kv, .stalls, .media, .upkeep, .arc, .row, .fw, .log, .out, .freeCtr] s t)

/-- Each clause names commands of stalls, mailboxes, relocation and metering and the parts of the state they may change:
every other part, and the queue, is as before in the state that follows. (Finer effects are in the statements of the
commands themselves; a part is one record of State.) -/
def Obligations.StallCommandsChangeOnlyTheirParts : Prop :=
  (∀ s t, (∃ a, exec (.relocateCopy a) s = .next t)
      → Only [.clock, .ports, .net, .stalls, .row] s t) ∧
  (∀ s t, (∃ a, exec (.relocateCutover a) s = .next t) ∨ (∃ a b, exec (.stallShow a b) s = .next t) ∨
      (∃ a b, exec (.stallFreeze a b) s = .next t) ∨ (∃ a b c d, exec (.stallBlobRead a b c d) s = .next t) ∨
      (∃ a b c d, exec (.stallBlobLoad a b c d) s = .next t) ∨ (∃ a b c, exec (.stallKeyExport a b c) s = .next t) ∨
      (∃ a b, exec (.stallCredShow a b) s = .next t) ∨ (∃ a b c, exec (.mbxCompose a b c) s = .next t) ∨
      (∃ a b, exec (.mbxShow a b) s = .next t) ∨ (∃ a b, exec (.meterShow a b) s = .next t) ∨
      (∃ a b c d e, exec (.meterRecords a b c d e) s = .next t)
      → Only [.con, .ports, .net, .stalls, .upkeep, .log, .out] s t) ∧
  (∀ s t, (∃ a, exec (.stallRemovalDone a) s = .next t) ∨ (∃ a b c, exec (.stallAdopt a b c) s = .next t) ∨
      (∃ a b c, exec (.mbxWardenRecv a b c) s = .next t)
      → Only [.con, .ports, .net, .stalls, .media, .upkeep, .log, .out] s t) ∧
  (∀ s t, (∃ a b c d e f, exec (.stallRelocate a b c d e f) s = .next t)
      → Only [.con, .ports, .net, .stalls, .upkeep, .row, .log, .out] s t) ∧
  (∀ s t, exec .meterTick s = .next t
      → Only [.clock, .con, .ports, .net, .stalls, .media, .upkeep, .log, .out] s t) ∧
  (∀ s t, (∃ a b c d, exec (.mbxWardenSend a b c d) s = .next t)
      → Only [.con, .ports, .net, .proto, .stalls, .media, .upkeep, .log, .out] s t) ∧
  (∀ s t, (∃ a b, exec (.stallReset a b) s = .next t) ∨ (∃ a b c, exec (.stallRebind a b c) s = .next t) ∨
      (∃ a b c, exec (.stallThaw a b c) s = .next t) ∨ (∃ a b c d, exec (.stallCredSet a b c d) s = .next t) ∨
      (∃ a b c, exec (.stallCredClear a b c) s = .next t)
      → Only [.con, .ports, .net, .proto, .kv, .stalls, .media, .upkeep, .log, .out] s t) ∧
  (∀ s t, (∃ a b c, exec (.stallCreate a b c) s = .next t)
      → Only [.cfg, .con, .ports, .net, .stalls, .media, .upkeep, .log, .out, .freeCtr] s t) ∧
  (∀ s t, (∃ a b c, exec (.stallCredNew a b c) s = .next t)
      → Only [.con, .ports, .net, .proto, .kv, .stalls, .media, .upkeep, .log, .out, .freeCtr] s t) ∧
  (∀ s t, (∃ a, exec (.relocateDone a) s = .next t)
      → Only [.con, .ports, .net, .proto, .kv, .stalls, .media, .upkeep, .arc, .row, .log, .out] s t) ∧
  (∀ s t, (∃ a b c, exec (.stallRemove a b c) s = .next t) ∨ (∃ a b, exec (.stallRelocateCancel a b) s = .next t)
      → Only [.isl, .con, .ports, .net, .proto, .kv, .stalls, .media, .upkeep, .arc, .row, .log, .out] s t) ∧
  (∀ s t, (∃ a b, exec (.relocateFailed a b) s = .next t)
      → Only [.clock, .isl, .con, .ports, .net, .proto, .kv, .stalls, .media, .upkeep, .arc, .row, .log, .out] s t) ∧
  (∀ s t, (∃ a b, exec (.relocateMessage a b) s = .next t)
      → Only [.isl, .cfg, .con, .ports, .net, .proto, .kv, .stalls, .media, .upkeep, .arc, .row, .log, .out, .freeCtr] s t) ∧
  (∀ s t, (∃ a, exec (.drainEnd a) s = .next t)
      → Only [.phase, .clock, .bay, .power, .isl, .boot, .con, .ports, .net, .proto, .kv, .stalls, .media, .upkeep,
        .arc, .row, .log, .out] s t) ∧
  (∀ s t, (∃ a, exec (.freezeDrainEnd a) s = .next t)
      → Only [.phase, .clock, .bay, .power, .boot, .con, .ports, .net, .proto, .kv, .stalls, .media, .upkeep, .arc,
        .row, .log, .out, .freeCtr] s t)

/-- Each clause names commands of the media, its upkeep and the Arcade and the parts of the state they may change: every
other part, and the queue, is as before in the state that follows. (Finer effects are in the statements of the commands
themselves; a part is one record of State.) -/
def Obligations.MediaAndArcadeCommandsChangeOnlyTheirParts : Prop :=
  (∀ s t, (∃ a b, exec (.programFail a b) s = .next t)
      → Only [.media] s t) ∧
  (∀ s t, (∃ a, exec (.arcCursorFree a) s = .next t)
      → Only [.arc] s t) ∧
  (∀ s t, exec .logProgram s = .next t
      → Only [.isl, .media] s t) ∧
  (∀ s t, exec .arcScrubPass s = .next t
      → Only [.isl, .arc] s t) ∧
  (∀ s t, (∃ a, exec (.bedBinEnd a) s = .next t)
      → Only [.clock, .media] s t) ∧
  (∀ s t, (∃ a b, exec (.packedPageTimeout a b) s = .next t)
      → Only [.clock, .isl, .media] s t) ∧
  (∀ s t, exec .healthTempTick s = .next t
      → Only [.con, .ports, .net, .upkeep, .log, .out] s t) ∧
  (∀ s t, (∃ a, exec (.shelterMoved a) s = .next t) ∨ (∃ a b, exec (.eraseDone a b) s = .next t)
      → Only [.con, .ports, .net, .media, .upkeep, .log, .out] s t) ∧
  (∀ s t, (∃ a, exec (.arcScrubUnit a) s = .next t)
      → Only [.con, .ports, .net, .upkeep, .arc, .log, .out] s t) ∧
  (∀ s t, (∃ a, exec (.mediaShow a) s = .next t) ∨ (∃ a b, exec (.bandShow a b) s = .next t) ∨
      (∃ a, exec (.healthShow a) s = .next t) ∨ (∃ a, exec (.healthTemp a) s = .next t) ∨
      (∃ a b, exec (.healthHoldup a b) s = .next t) ∨ (∃ a, exec (.arcadeShow a) s = .next t) ∨
      (∃ a b, exec (.arcadeBankShow a b) s = .next t)
      → Only [.con, .ports, .net, .stalls, .upkeep, .log, .out] s t) ∧
  (∀ s t, (∃ a b, exec (.arcSearch a b) s = .next t) ∨ (∃ a, exec (.arcRebuild a) s = .next t)
      → Only [.isl, .con, .ports, .net, .upkeep, .arc, .log, .out] s t) ∧
  (∀ s t, (∃ a, exec (.shredDone a) s = .next t)
      → Only [.con, .ports, .net, .kv, .stalls, .upkeep, .log, .out] s t) ∧
  (∀ s t, (∃ a b c, exec (.dieFailed a b c) s = .next t) ∨ (∃ a, exec (.gcLoadWindow a) s = .next t) ∨
      (∃ a, exec (.shredScan a) s = .next t) ∨ exec .rebuildBand s = .next t ∨ exec .gcReclaimTimer s = .next t ∨
      exec .wearLevelMove s = .next t ∨ exec .blockRefreshed s = .next t
      → Only [.con, .ports, .net, .kv, .media, .upkeep, .log, .out] s t) ∧
  (∀ s t, (∃ a b, exec (.checkpointSegment a b) s = .next t)
      → Only [.con, .ports, .net, .media, .upkeep, .arc, .log, .out] s t) ∧
  (∀ s t, (∃ a b c d, exec (.patrolRead a b c d) s = .next t)
      → Only [.isl, .con, .ports, .net, .kv, .media, .upkeep, .log, .out] s t) ∧
  (∀ s t, (∃ a, exec (.gcBandFreed a) s = .next t)
      → Only [.con, .ports, .net, .proto, .kv, .stalls, .media, .upkeep, .arc, .row, .log, .out] s t) ∧
  (∀ s t, (∃ a b, exec (.flashReadDone a b) s = .next t) ∨ (∃ a, exec (.flashProgramDone a) s = .next t) ∨
      exec .arcInsert s = .next t ∨ exec .arcInvalidate s = .next t
      → Only [.isl, .con, .ports, .net, .proto, .kv, .stalls, .media, .upkeep, .arc, .row, .log, .out] s t)

/-- Each clause names commands of the row and firmware and the parts of the state they may change: every other part, and
the queue, is as before in the state that follows. (Finer effects are in the statements of the commands themselves; a
part is one record of State.) -/
def Obligations.RowAndFirmwareCommandsChangeOnlyTheirParts : Prop :=
  (∀ s t, (∃ a b, exec (.mirrorCopyExpiry a b) s = .next t)
      → Only [.clock, .row] s t) ∧
  (∀ s t, (∃ a b, exec (.findReq a b) s = .next t) ∨ (∃ a b c d, exec (.mirrorUpdate a b c d) s = .next t) ∨
      (∃ a b c d, exec (.mirrorRemove a b c d) s = .next t) ∨ (∃ a, exec (.findCancel a) s = .next t) ∨
      (∃ a b c, exec (.pieceReq a b c) s = .next t)
      → Only [.ports, .net, .row] s t) ∧
  (∀ s t, (∃ a b, exec (.findPage a b) s = .next t) ∨ (∃ a b, exec (.findEnd a b) s = .next t)
      → Only [.ports, .net, .kv, .row] s t) ∧
  (∀ s t, (∃ a, exec (.rowFindDeadline a) s = .next t)
      → Only [.clock, .ports, .net, .kv, .row] s t) ∧
  (∀ s t, (∃ a b, exec (.rowRetransmit a b) s = .next t)
      → Only [.clock, .ports, .net, .kv, .row, .fw] s t) ∧
  (∀ s t, (∃ a, exec (.mirrorShow a) s = .next t) ∨ (∃ a, exec (.rowShow a) s = .next t) ∨
      (∃ a, exec (.rowMembers a) s = .next t) ∨ (∃ a, exec (.parcelShow a) s = .next t) ∨
      (∃ a, exec (.fwShow a) s = .next t)
      → Only [.con, .ports, .net, .stalls, .upkeep, .log, .out] s t) ∧
  (∀ s t, (∃ a b, exec (.rowAck a b) s = .next t) ∨ (∃ a b, exec (.mirrorPut a b) s = .next t)
      → Only [.con, .ports, .net, .upkeep, .row, .log, .out] s t) ∧
  (∀ s t, exec .mirrorSend s = .next t ∨ exec .mirrorRetry s = .next t
      → Only [.clock, .con, .ports, .net, .upkeep, .row, .log, .out] s t) ∧
  (∀ s t, exec .parcelExpiry s = .next t
      → Only [.clock, .con, .ports, .net, .upkeep, .fw, .log, .out] s t) ∧
  (∀ s t, (∃ a, exec (.pieceTimeout a) s = .next t)
      → Only [.clock, .con, .ports, .net, .stalls, .upkeep, .log, .out] s t) ∧
  (∀ s t, (∃ a, exec (.rowLeave a) s = .next t)
      → Only [.con, .ports, .net, .kv, .upkeep, .row, .log, .out] s t) ∧
  (∀ s t, (∃ a b, exec (.mirrorDrop a b) s = .next t) ∨ (∃ a b c d, exec (.mirrorRestore a b c d) s = .next t)
      → Only [.con, .ports, .net, .stalls, .upkeep, .row, .log, .out] s t) ∧
  (∀ s t, (∃ a, exec (.parcelAbandon a) s = .next t)
      → Only [.con, .ports, .net, .stalls, .upkeep, .fw, .log, .out] s t) ∧
  (∀ s t, (∃ a b c d, exec (.relayStatus a b c d) s = .next t)
      → Only [.con, .ports, .net, .upkeep, .row, .fw, .log, .out] s t) ∧
  (∀ s t, exec .mirrorCatchup s = .next t
      → Only [.clock, .con, .ports, .net, .upkeep, .arc, .row, .log, .out] s t) ∧
  (∀ s t, (∃ a, exec (.memberTimeout a) s = .next t) ∨ exec .beaconSend s = .next t ∨ exec .leaderTimeout s = .next t
      → Only [.clock, .con, .ports, .net, .kv, .upkeep, .row, .log, .out] s t) ∧
  (∀ s t, (∃ a b, exec (.rowKeySet a b) s = .next t)
      → Only [.con, .ports, .net, .kv, .stalls, .upkeep, .row, .log, .out] s t) ∧
  (∀ s t, (∃ a b c d, exec (.parcelPiece a b c d) s = .next t)
      → Only [.con, .ports, .net, .stalls, .media, .upkeep, .fw, .log, .out] s t) ∧
  (∀ s t, (∃ a, exec (.beaconReceive a) s = .next t)
      → Only [.con, .ports, .net, .kv, .upkeep, .row, .fw, .log, .out] s t) ∧
  (∀ s t, (∃ a, exec (.rowKeyNew a) s = .next t)
      → Only [.con, .ports, .net, .kv, .stalls, .upkeep, .row, .log, .out, .freeCtr] s t) ∧
  (∀ s t, (∃ a, exec (.mirrorRestoreDone a) s = .next t)
      → Only [.con, .ports, .net, .kv, .stalls, .media, .upkeep, .arc, .row, .log, .out] s t) ∧
  (∀ s t, (∃ a, exec (.trialConfirm a) s = .next t)
      → Only [.clock, .isl, .con, .ports, .net, .media, .upkeep, .row, .fw, .log, .out] s t) ∧
  (∀ s t, exec .trialWindowEnd s = .next t
      → Only [.phase, .clock, .bay, .boot, .con, .ports, .net, .proto, .upkeep, .row, .fw, .log, .out] s t) ∧
  (∀ s t, (∃ a b c d, exec (.parcelInstall a b c d) s = .next t) ∨ (∃ a b, exec (.gateUpdateDone a b) s = .next t)
      → Only [.phase, .bay, .power, .boot, .con, .ports, .net, .proto, .stalls, .upkeep, .row, .fw, .log, .out] s t) ∧
  (∀ s t, (∃ a b c, exec (.relayOffer a b c) s = .next t)
      → Only [.phase, .clock, .bay, .power, .boot, .con, .ports, .net, .proto, .stalls, .upkeep, .row, .fw, .log, .out] s t) ∧
  (∀ s t, (∃ a b c d, exec (.relayPiece a b c d) s = .next t)
      → Only [.phase, .clock, .bay, .power, .boot, .con, .ports, .net, .proto, .stalls, .media, .upkeep, .row, .fw,
        .log, .out] s t)

/-- A number names an attribute exactly when it is that attribute's number in the attribute map: no number names two,
and the number of every attribute is read as it. A KV2/KV3 header written from fields that lie within their widths,
whatever bytes follow it, reads back as those fields, every operand at every value, reserved bits included. -/
def Obligations.AttributeNumbersAndFrameHeadersSpellWhatTheyName : Prop :=
  (∀ n a, attrOfNum n = some a ↔ attrNum a = n) ∧
  (∀ h bs, h.fits → hdrOf (hdrBytes h ++ bs) = some h)

/-- Take any state in which the event log holds at most 2048 records in its ring, 262144 in its bed and 64 in the
gatehouse's buffer, its SEQ values strictly fall from the newest record on and lie below the next SEQ (so no two events
share one); the checkpoint ring holds at most 64 checkpoints in order, none ahead of ledger time; and the boot ledger
holds at most 2016 records. Whatever command is at the front of the queue, and when the queue is empty, the state after
the step has the same properties. -/
def Obligations.EveryStepKeepsTheStoresOfTheDrive : Prop :=
  ∀ s t, StoresOk s → step s = .next t → StoresOk t

/-- The invariant that every step keeps holds of the state right after reset. -/
def Obligations.TheStoresAreInOrderAtReset : Prop :=
  StoresOk State.reset

/-- No command stops the drive in any state: each answers a next state, so does an empty queue. In that state ledger
time is no less; everything sent before is still the older part of what was sent; the configuration sequence, the row
epoch, and the next incarnation, ticket, upload handle, write and freeze numbers are no less, and the next event SEQ too
unless the command ends S02, which takes it from the newest valid record of the log;
EVER_SET, a burned fuse, the LC_COUNT and the RETIRED fuse stay burned or set; and the commands that still wait are
those that waited behind the one that ran. -/
def Obligations.EveryCommandRunsAndNothingGoesBack : Prop :=
  (∀ s, SafeState s) ∧
  (∀ s t, step s = .next t → t.pending = s.pending.drop 1 ∧ s.clock.ledger ≤ t.clock.ledger ∧ s.out <:+ t.out ∧
    ((∀ c, s.pending.head? = some c → endsS02 c = false) → s.log.nextSeq ≤ t.log.nextSeq) ∧ s.cfg.sequence ≤ t.cfg.sequence ∧ s.row.epoch ≤ t.row.epoch ∧
    s.kv.nextInc ≤ t.kv.nextInc ∧ s.kv.nextTicket ≤ t.kv.nextTicket ∧ s.kv.nextHandle ≤ t.kv.nextHandle ∧
    s.kv.nextWseq ≤ t.kv.nextWseq ∧ s.stalls.nextFreeze ≤ t.stalls.nextFreeze ∧
    (s.clock.everSet = true → t.clock.everSet = true) ∧ s.fw.fuses ⊆ t.fw.fuses ∧ s.life.count ≤ t.life.count ∧
    (s.life.retired = true → t.life.retired = true))

/-- For every command and state, a step with that command at the front of the queue is exec of it on the state with the
rest of the queue. The command that a word spells would be put at the front of the queue; the command table gives no
bits, so no word spells one and the queue stays. With an empty queue the clock moves on by one microsecond and nothing
else changes while the drive has power, and nothing changes without: the empty-queue tick is the model's own choice (log
4), not a rule of the spec. -/
def Obligations.AStepRunsTheCommandAtTheFrontOfTheQueue : Prop :=
  (∀ (c : Instr) s, step { s with pending := c :: s.pending } = exec c s) ∧
  (∀ (c : Instr) s r, s.pending = c :: r → step s = exec c { s with pending := r }) ∧
  (∀ n w (s : State), decodeTableWord n w = none ∧ s.withFetchWord n w = s) ∧
  (∀ s, s.pending = [] → s.phase = .off → step s = .next s) ∧
  (∀ s, s.pending = [] → s.phase ≠ .off → ∃ t, step s = .next t ∧ t.clock.ledger = s.clock.ledger + 1 ∧ Only [.clock] s t)

/-- A `commit` or a `discard` that names a group not in the Commit groups table, or an instance outside its range (the
command then carries no group), and that no other check refuses, is answered `err BAD_VALUE`, and nothing else happens.
-/
def Obligations.ACommitOrDiscardOfAnUnknownGroupIsBadValue : Prop :=
  ∀ s l d, Accepts s l {} none d →
    exec (.commitGroup l none) s = .next (answer (heard s l) l.sess l.tag (.err .badValue) none) ∧
    exec (.discardGroup l none) s = .next (answer (heard s l) l.sess l.tag (.err .badValue) none)

/-- Whenever the holder of a ROW shadow commits it after the step that restores the group, the committed ROW_ID would
not be zero, and no row key is set, the answer is `err NO_ROW_KEY`; the configuration, the shadow and the row stay as
they are. -/
def Obligations.ARowCommitWithoutARowKeyIsRefused : Prop :=
  ∀ s l d h, Accepts s l {} none d → shadowOf s .row = some h → h.holder = l.sess → h.inst = d.serial → stepDone s (groupStep .row) = true →
    islState s .core = .run → s.row.key = none →
    attrFieldOf .rowCfg (pendingWord s h.written .rowCfg) "ROW_ID" ≠ 0 →
    exec (.commitGroup l (some .row)) s = .next (answer (heard s l) l.sess l.tag (.err .noRowKey) none)

/-- With no measurement running, the cap in MiB equals the greater of 0 and the pseudocode's value, computed exactly:
E_avail is the last measured E times (V_bank squared - 10.8 squared) over (30.0 squared - 10.8 squared), E in joules and
V_bank in volts (the registers hold 10 mJ and 1 mV), and the cap is the least of 256, the floor of (E_avail - 16) times
5, and DIRTY_CAP. -/
def Obligations.TheCapIsThePseudocodesValue : Prop :=
  ∀ s, s.power.measuring = .idle → (cap s : Int) = max 0 (min 256 (min
    (⌊(((s.power.eMeas : Rat) / 100) * (((s.power.vBank : Rat) / 1000) ^ 2 - (108 / 10) ^ 2) / (30 ^ 2 - (108 / 10) ^ 2) - 16) * 5⌋)
    (dirtyCap s : Int)))

/-- While the DIRTY_CAP in force is below 32 the drive runs write-through. Entering it so is no hold-up weakness: the
commit of PWR.POLICY leaves the HOLDUP_WEAK condition as it was, whatever DIRTY_CAP it makes active. -/
def Obligations.ALowDirtyCapRunsWriteThrough : Prop :=
  (∀ s, dirtyCap s < 32 → writeThrough s = true) ∧
  (∀ s n, (commitEffect s n .pwrPolicy).power.weak = n.power.weak)

/-- The attribute CORE.ROW.EPOCH reads the row epoch. The epoch lies with what is stored: the beginning of a start,
which loses the volatile state, keeps it. Over every step of every state, restarts included, it never decreases. -/
def Obligations.TheRowEpochIsStoredAndNeverDecreases : Prop :=
  (∀ s, attrWord s .rowEpoch = BitVec.ofNat 64 s.row.epoch) ∧
  (∀ s, (loseRest (loseWork s)).row.epoch = s.row.epoch) ∧
  (∀ s t, step s = .next t → s.row.epoch ≤ t.row.epoch)

/-- An accepted commit of a group with a pending shadow ends in one of two ways. It is answered ok with the group's name and
the new sequence: every attribute of
the group then holds its active word with the fields written to the shadow replaced, no attribute outside the group has
changed, the group's shadow is gone, the shadows of all other groups stand, and the configuration sequence is one
higher. Or it is answered busy or with a rule's name: no stored word, no shadow and no sequence has changed. A word with
no field written is the active word. -/
def Obligations.ACommitReplacesItsWholeGroupAtOnceOrNothing : Prop :=
  (∀ s l d g h, Accepts s l { role := commitRole s l.sess (some g) } none d → shadowOf s g = some h →
    ∃ t, exec (.commitGroup l (some g)) s = .next t ∧
      (((∃ u, t = answer u l.sess l.tag
          (okLine [("", .name (groupName g)), ("sequence", vn (s.cfg.sequence + 1))]) none) ∧
        (∀ a ∈ groupAttrs g, cfgWord t a = pendingWord s h.written a) ∧
        (∀ a, a ∉ groupAttrs g → cfgWord t a = cfgWord s a) ∧
        shadowOf t g = none ∧ (∀ g', g' ≠ g → shadowOf t g' = shadowOf s g') ∧
        t.cfg.sequence = s.cfg.sequence + 1) ∨
      ((t = answer (heard s l) l.sess l.tag .busy none ∨ ∃ e, t = answer (heard s l) l.sess l.tag (.err e) none) ∧
        t.cfg = s.cfg))) ∧
  (∀ s w a, (∀ x ∈ w, x.1 ≠ a) → pendingWord s w a = cfgWord s a)

/-- At reset the drive is without power; its checkpoint ring holds one HALT checkpoint whose BOUND is 1 ms after its
LTIME (the model's numbers, log 5), the RTC is not written, wall time is UNSET and EVER_SET is 0. The configuration
sequence is 1, every stored attribute reads its factory value, the next event number is 1 and the log is empty. The
button waits for release, no window is open, thermal is NORMAL. No session, connection or ticket exists, no row
membership, epoch 0, the mirror is IDLE, and no command is waiting. -/
def Obligations.TheDriveLeavesTheFactoryAsManufactureEnds : Prop :=
  let s := State.reset
  s.phase = .off ∧ s.pending = [] ∧ s.out = [] ∧
  (∃ c, s.clock.ckpts = [c] ∧ c.kind = .halt ∧ c.bound = c.ltime + 1000) ∧ s.clock.wstate = .unset ∧ s.clock.everSet = false ∧
  s.cfg.sequence = 1 ∧ (∀ a, cfgWord s a = attrFactory a) ∧ s.cfg.shadows = [] ∧
  s.log.nextSeq = 1 ∧ s.log.ring = [] ∧ s.log.bed = [] ∧
  s.bay.button = .waitRelease ∧ s.bay.window = none ∧ s.power.thermal = .normal ∧
  (∀ x, getSess s x = none) ∧ s.proto.conns = [] ∧ s.kv.tickets = [] ∧
  s.row.epoch = 0 ∧ s.row.members = [] ∧ s.row.state = .none_ ∧ s.row.mirror = .idle ∧
  lcState s = .field

/-- On a session that hears it and has a place for its answer, with a tag in machine mode and the presence window closed, each of the commands
that are privileged whatever they name, and a discard of a privileged group, has no effect but the hearing of its line
and an answer that is an error name or a denial. -/
def Obligations.NoPrivilegedCommandActsWhileTheWindowIsClosed : Prop :=
  ∀ s c l d, (privilegedLine c = some l ∨ ∃ g, groupPrivileged g = true ∧ c = .discardGroup l (some g)) →
    windowOpen s = false → getSess s l.sess = some d → d.closing = false → (l.sess = .jcon → s.bay.lineFault = false) →
    (isMgmt l.sess = true ∨ consolesPaused s = false) → (d.machine = true → l.tag ≠ none) → d.slots.length < 4 →
    ∃ r, ((∃ e, r = .err e) ∨ ∃ x, r = .denied x) ∧ exec c s = .next (answer (heard s l) l.sess l.tag r none)

/-- Whatever command a session sends: in machine mode without a tag it is answered NO_TAG and does nothing else; otherwise,
while four commands of the session are accepted and not yet answered, it is answered busy at once and does nothing else. A
command on a session that is not open, is closing, is on J-CON in
LINE_FAULT, or on a console while SVC is under test, changes nothing at all. -/
def Obligations.AFifthWaitingCommandIsBusyAndADeafSessionExecutesNothing : Prop :=
  (∀ s c l d, consoleLine c = some l → getSess s l.sess = some d → d.closing = false →
    (l.sess = .jcon → s.bay.lineFault = false) → (isMgmt l.sess = true ∨ consolesPaused s = false) →
    (d.machine = true → l.tag = none → exec c s = .next (putReply (heard s l) l.sess none (.err .noTag))) ∧
    ((d.machine = true → l.tag ≠ none) → 4 ≤ d.slots.length → exec c s = .next (putReply (heard s l) l.sess l.tag .busy))) ∧
  (∀ s c l, consoleLine c = some l → (∀ d, getSess s l.sess = some d → d.closing = true ∨
      (l.sess = .jcon ∧ s.bay.lineFault = true) ∨ (isMgmt l.sess = false ∧ consolesPaused s = true)) →
    exec c s = .next s)

/-- For each of these commands, when its line is accepted (bayShow, help, who, log, wardenShow, parcelShow, fwShow,
islandShow, lifecycleShow, testShow, testResults, netShow, netStats, netLldp, portShow, portStats, portCaptureRead,
powerShow, mirrorShow, rowShow, rowMembers, startShow, ledgerShow, timeShow), the one change is that its session hears
the line and is answered: the answer is the one the command's answer function reads from the state. -/
def Obligations.ConsoleReadsOfTheMachineAnswerAndChangeNothingElse : Prop :=
  (∀ s l d, Accepts s l { safe := true, hold := true } none d →
    exec (.bayShow l) s = .next (answer (heard s l) l.sess l.tag (bayShowAnswer (heard s l)) none)) ∧
  (∀ s l d (word : Option String), Accepts s l { safe := true, hold := true } none d →
    exec (.help l word) s = .next (answer (heard s l) l.sess l.tag (helpAnswer l word (heard s l)) none)) ∧
  (∀ s l d, Accepts s l { safe := true, hold := true } none d →
    exec (.who l) s = .next (answer (heard s l) l.sess l.tag (whoAnswer l (heard s l)) none)) ∧
  (∀ s l d (count : Option Int) (since : Option Int) (name : Option Ev), Accepts s l { safe := true, hold := true }
      (firstErr [rangeErr (count.getD 20) 1 200, since.bind (fun q => rangeErr q 0 (2 ^ 64 - 1))]) d →
    exec (.log l count since name) s = .next
      (answer (heard s l) l.sess l.tag (logAnswer (count.getD 20).toNat (since.map Int.toNat) name (heard s l)) none)) ∧
  (∀ s l d, Accepts s l {} none d →
    exec (.wardenShow l) s = .next (answer (heard s l) l.sess l.tag (wardenShowAnswer (heard s l)) none)) ∧
  (∀ s l d, Accepts s l parcelCmd none d →
    exec (.parcelShow l) s = .next (answer (heard s l) l.sess l.tag (parcelShowAnswer (heard s l)) none)) ∧
  (∀ s l d, Accepts s l { recovery := true } none d →
    exec (.fwShow l) s = .next (answer (heard s l) l.sess l.tag (fwShowAnswer (heard s l)) none)) ∧
  (∀ s l d (id : Option Nat), Accepts s l { safe := true, hold := true } (if (namedIslands id).isNone then some .noSuchIsland else none) d →
    exec (.islandShow l id) s = .next (answer (heard s l) l.sess l.tag (islandShowAnswer id (heard s l)) none)) ∧
  (∀ s l d, Accepts s l { hold := true } none d →
    exec (.lifecycleShow l) s = .next (answer (heard s l) l.sess l.tag (lifecycleShowAnswer (heard s l)) none)) ∧
  (∀ s l d, Accepts s l { hold := true } none d →
    exec (.testShow l) s = .next (answer (heard s l) l.sess l.tag (testShowAnswer (heard s l)) none)) ∧
  (∀ s l d (run : Option Nat) (island : Option Nat) (raw : Bool), Accepts s l { hold := true }
      (match island with | some i => if (Island.ofId i).isNone then some .noSuchIsland else none | none => none) d →
    exec (.testResults l run island raw) s = .next (answer (heard s l) l.sess l.tag (testResultsAnswer run island raw (heard s l)) none)) ∧
  (∀ s l d (ifc : Option Int), Accepts s l {} (ifErr ifc) d →
    exec (.netShow l ifc) s = .next (answer (heard s l) l.sess l.tag (netShowAnswer ifc (heard s l)) none)) ∧
  (∀ s l d, Accepts s l {} none d →
    exec (.netStats l) s = .next (answer (heard s l) l.sess l.tag (netStatsAnswer (heard s l)) none)) ∧
  (∀ s l d (port : Option PortId), Accepts s l {} none d →
    exec (.netLldp l port) s = .next (answer (heard s l) l.sess l.tag (netLldpAnswer port (heard s l)) none)) ∧
  (∀ s l d (port : Option PortId), Accepts s l {} none d →
    exec (.portShow l port) s = .next (answer (heard s l) l.sess l.tag (portShowAnswer port (heard s l)) none)) ∧
  (∀ s l d (port : Option PortId) (raw : Bool), Accepts s l {} none d →
    exec (.portStats l port raw) s = .next (answer (heard s l) l.sess l.tag (portStatsAnswer port raw (heard s l)) none)) ∧
  (∀ s l d (port : PortId) (count : Option Nat), Accepts s l {} (rangeErr (count.getD 100 : Nat) 1 100) d →
    exec (.portCaptureRead l port count) s = .next (answer (heard s l) l.sess l.tag (portCaptureReadAnswer port count (heard s l)) none)) ∧
  (∀ s l d, Accepts s l { safe := true, hold := true } none d →
    exec (.powerShow l) s = .next (answer (heard s l) l.sess l.tag (powerShowAnswer (heard s l)) none)) ∧
  (∀ s l d, Accepts s l {} none d →
    exec (.mirrorShow l) s = .next (answer (heard s l) l.sess l.tag (mirrorShowAnswer (heard s l)) none)) ∧
  (∀ s l d, Accepts s l {} none d →
    exec (.rowShow l) s = .next (answer (heard s l) l.sess l.tag (rowShowAnswer (heard s l)) none)) ∧
  (∀ s l d, Accepts s l {} none d →
    exec (.rowMembers l) s = .next (answer (heard s l) l.sess l.tag (rowMembersAnswer (heard s l)) none)) ∧
  (∀ s l d, Accepts s l { safe := true } none d →
    exec (.startShow l) s = .next (answer (heard s l) l.sess l.tag (startShowAnswer (heard s l)) none)) ∧
  (∀ s l d (start : Option Nat), Accepts s l { safe := true } none d →
    exec (.ledgerShow l start) s = .next (answer (heard s l) l.sess l.tag (ledgerShowAnswer start (heard s l)) none)) ∧
  (∀ s l d, Accepts s l {} none d →
    exec (.timeShow l) s = .next (answer (heard s l) l.sess l.tag (timeShowAnswer (heard s l)) none))

/-- For each of these commands, when its line is accepted (arcadeShow, arcadeBankShow, kvShow, kvStats, kvConns,
kv1Show, configExport, resShow, mediaShow, bandShow, healthShow, healthTemp, healthHoldup, meterShow, meterRecords,
stallShow, stallBlobRead, stallCredShow, mbxShow), the one change is that its session hears the line and is answered:
the answer is the one the command's answer function reads from the state. -/
def Obligations.ConsoleReadsOfTheDataPartsAnswerAndChangeNothingElse : Prop :=
  (∀ s l d, Accepts s l {} none d →
    exec (.arcadeShow l) s = .next (answer (heard s l) l.sess l.tag (arcadeShowAnswer (heard s l)) none)) ∧
  (∀ s l d (bank : Int), Accepts s l {} (rangeErr bank 0 15) d →
    exec (.arcadeBankShow l bank) s = .next (answer (heard s l) l.sess l.tag (arcadeBankShowAnswer bank (heard s l)) none)) ∧
  (∀ s l d, Accepts s l {} none d →
    exec (.kvShow l) s = .next (answer (heard s l) l.sess l.tag (kvShowAnswer (heard s l)) none)) ∧
  (∀ s l d, Accepts s l {} none d →
    exec (.kvStats l) s = .next (answer (heard s l) l.sess l.tag (kvStatsAnswer (heard s l)) none)) ∧
  (∀ s l d (stall : Option Int), Accepts s l {} (stall.bind stallErr) d →
    exec (.kvConns l stall) s = .next (answer (heard s l) l.sess l.tag (kvConnsAnswer stall (heard s l)) none)) ∧
  (∀ s l d, Accepts s l {} none d →
    exec (.kv1Show l) s = .next (answer (heard s l) l.sess l.tag (kv1ShowAnswer (heard s l)) none)) ∧
  (∀ s l d, Accepts s l {} none d →
    exec (.configExport l) s = .next (answer (heard s l) l.sess l.tag (configExportAnswer (heard s l)) none)) ∧
  (∀ s l d, Accepts s l {} none d →
    exec (.resShow l) s = .next (answer (heard s l) l.sess l.tag (resShowAnswer (heard s l)) none)) ∧
  (∀ s l d, Accepts s l {} none d →
    exec (.mediaShow l) s = .next (answer (heard s l) l.sess l.tag (mediaShowAnswer (heard s l)) none)) ∧
  (∀ s l d (band : Int), Accepts s l {} (rangeErr band 0 65535) d →
    exec (.bandShow l band) s = .next (answer (heard s l) l.sess l.tag (bandShowAnswer band (heard s l)) none)) ∧
  (∀ s l d, Accepts s l {} none d →
    exec (.healthShow l) s = .next (answer (heard s l) l.sess l.tag (healthShowAnswer (heard s l)) none)) ∧
  (∀ s l d, Accepts s l {} none d →
    exec (.healthTemp l) s = .next (answer (heard s l) l.sess l.tag (healthTempAnswer (heard s l)) none)) ∧
  (∀ s l d (count : Option Int), Accepts s l {} (rangeErr (count.getD 16) 1 64) d →
    exec (.healthHoldup l count) s = .next (answer (heard s l) l.sess l.tag (healthHoldupAnswer count (heard s l)) none)) ∧
  (∀ s l d (stall : Int), Accepts s l {} (stallErr stall) d →
    exec (.meterShow l stall) s = .next (answer (heard s l) l.sess l.tag (meterShowAnswer stall (heard s l)) none)) ∧
  (∀ s l d (stall : Int) (from_ : Option Nat) (count : Option Int) (raw : Bool), Accepts s l {} (firstErr [stallErr stall, rangeErr (count.getD 36) 1 36]) d →
    exec (.meterRecords l stall from_ count raw) s = .next (answer (heard s l) l.sess l.tag (meterRecordsAnswer stall from_ count raw (heard s l)) none)) ∧
  (∀ s l d (stall : Option Int), Accepts s l {} (stall.bind stallErr) d →
    exec (.stallShow l stall) s = .next (answer (heard s l) l.sess l.tag (stallShowAnswer stall (heard s l)) none)) ∧
  (∀ s l d (stall : Int) (off : Int) (len : Int), Accepts s l {} (firstErr [stallErr stall, rangeErr off 0 65535, rangeErr len 1 1024]) d →
    exec (.stallBlobRead l stall off len) s = .next (answer (heard s l) l.sess l.tag (stallBlobReadAnswer stall off len (heard s l)) none)) ∧
  (∀ s l d (stall : Int), Accepts s l {} (stallErr stall) d →
    exec (.stallCredShow l stall) s = .next (answer (heard s l) l.sess l.tag (stallCredShowAnswer stall (heard s l)) none)) ∧
  (∀ s l d (stall : Int), Accepts s l {} (stallErr stall) d →
    exec (.mbxShow l stall) s = .next (answer (heard s l) l.sess l.tag (mbxShowAnswer stall (heard s l)) none))

/-- For each time command: the state in which it runs and what wall time, its source and the ledger's ring then hold.
The third interval in which the grandmaster stays best accepts PTP; an Announce of another best clock begins its count;
a timeout ends it, and with no NTP the drive is in HOLDOVER. The first offset of PTP, or of a lone NTP server, sets an
unset clock. A poll counts against its server; the fifth without an answer loses a lone peer. A refused step is logged
again and stays refused; `time accept` applies it. `time set` makes wall time the value given. The RTC takes wall time
while a source disciplines. A PERIODIC checkpoint is bound 31 s ahead. -/
def Obligations.TimeCommandsCompleteAndSetTheClockSo : Prop :=
  (∀ s a, ptpOn s = true → ptpOwn s a = true → a.best = true → s.clock.ptp.master = some a.master → 2 ≤ s.clock.ptp.count →
    ∃ t, exec (.ptpAnnounce a) s = .next t ∧ t.clock.ptp.accepted = true ∧ t.clock.ptp.count = s.clock.ptp.count + 1 ∧
      (s.clock.wstate ≠ .unset → t.clock.wstate = .ptp) ∧ t.clock.wallOff = s.clock.wallOff) ∧
  (∀ s a, ptpOn s = true → ptpOwn s a = true → a.best = true → s.clock.ptp.master ≠ some a.master →
    ∃ t, exec (.ptpAnnounce a) s = .next t ∧ t.clock.ptp.master = some a.master ∧ t.clock.ptp.count = 1 ∧
      t.clock.ptp.accepted = false ∧ t.clock.wallOff = s.clock.wallOff) ∧
  (∀ s m, s.clock.ptp.master = some m → ∃ t, exec .ptpAnnounceTimeout s = .next t ∧ t.clock.ptp.master = none ∧
    t.clock.ptp.accepted = false ∧ (s.clock.wstate = .ptp → t.clock.wstate = if s.clock.ntpPeer.isSome then .ntp else .holdover)) ∧
  (∀ s o, ptpOn s = true → s.clock.ptp.accepted = true → s.clock.wstate = .unset → ∃ t, exec (.ptpMessage o) s = .next t ∧
    t.clock.wstate = .ptp ∧ t.clock.wallOff = s.clock.wallOff + o ∧ t.clock.everSet = true ∧ t.clock.offset = o) ∧
  (∀ s a n, n ∈ s.clock.ntp → n.addr = a → s.clock.ntpPeer ≠ some a → ∃ t, exec (.ntpPoll a) s = .next t ∧
    t.clock.ntp.map (fun m => (m.addr, m.missed, m.burst, m.last)) = s.clock.ntp.map (fun m =>
      if m.addr = a then (m.addr, m.missed + 1, m.burst - 1, m.last) else (m.addr, m.missed, m.burst, m.last)) ∧
    t.clock.wstate = s.clock.wstate) ∧
  (∀ s a n, s.clock.ntp = [n] → n.addr = a → s.clock.ntpPeer = some a → 4 ≤ n.missed → ∃ t, exec (.ntpPoll a) s = .next t ∧
    t.clock.ntpPeer = none ∧ (s.clock.wstate = .ntp → t.clock.wstate = .holdover)) ∧
  (∀ s a n r, s.clock.ntp = [n] → n.addr = a → 1 ≤ r.stratum → r.stratum ≤ 15 → s.clock.ptp.accepted = false →
    s.clock.wstate = .unset → ∃ t, exec (.ntpResponse a r) s = .next t ∧ t.clock.ntpPeer = some a ∧ t.clock.wstate = .ntp ∧
      t.clock.wallOff = s.clock.wallOff + r.offset ∧ t.clock.everSet = true) ∧
  (∀ s x t, s.clock.refused = some x → s.clock.refusedAt = some t → s.clock.disagree = true → ∃ u,
    exec .timeStepRefused s = .next u ∧ u.clock.refused = some x ∧ u.clock.disagree = true ∧
    u.clock.refusedAt = some u.clock.ledger ∧ u.clock.wstate = s.clock.wstate) ∧
  (∀ s l d u, Accepts s l { priv := true } (utcErr u) d → s.clock.wstate ≠ .ntp → s.clock.wstate ≠ .ptp → ∃ t,
    exec (.timeSet l u) s = .next t ∧ t.clock.wstate = .manual ∧ wallNow t = u.micros + fractionMicros u.fraction ∧
    t.clock.ledger = s.clock.ledger ∧ t.clock.rtcAt = some s.clock.ledger) ∧
  (∀ s l d src o, Accepts s l { priv := true } none d → s.clock.refused = some (src, o) → ∃ t,
    exec (.timeAccept l) s = .next t ∧ t.clock.wallOff = s.clock.wallOff + o ∧ t.clock.refused = none ∧
    t.clock.disagree = false ∧ t.clock.wstate = s.clock.wstate) ∧
  (∀ s, s.clock.wstate = .ntp ∨ s.clock.wstate = .ptp → ∃ t, exec .rtcWrite s = .next t ∧
    t.clock.rtcAt = some t.clock.ledger ∧ t.clock.rtcOff = some t.clock.wallOff) ∧
  (∀ s, svcRuns s = true → ∃ t c, exec .ledgerCheckpoint s = .next t ∧ t.clock.ckpts.head? = some c ∧ c.kind = .periodic ∧
    c.ltime = t.clock.ledger ∧ c.bound = t.clock.ledger + 31000000)
end

