-- ==== Sys2Proof/Laws/Changes.lean ====
section
/-!
SUPPORT. What a command may change: `Changes m s t` says that from `s` to `t` only the parts of the state whose bits stand
in the mask `m` differ, that the queue is the same, and that what only goes forward has not gone back: ledger time
(R362), what has left the drive, the next event number (but as S02 ends, where R851 takes it anew: bit 22 of the mask), the free values drawn, incarnations, tickets, upload
handles and write numbers (R431, R468), configuration commits (R173), freeze numbers, the row's epoch
(R705), EVER_SET (R356), the fuses (R758, R780); and that
the event log, the checkpoint ring and the boot ledger are kept as their rules say.
-/

namespace Sys2Proof.Laws

open Sys2Proof Machine

/-- Only the parts in the mask differ, and nothing that only goes forward has gone back. -/
structure Changes (m : Nat) (s t : State) : Prop where
  pending : t.pending = s.pending
  phase : m.testBit 0 = false → t.phase = s.phase
  clock : m.testBit 1 = false → t.clock = s.clock
  bay : m.testBit 2 = false → t.bay = s.bay
  power : m.testBit 3 = false → t.power = s.power
  isl : m.testBit 4 = false → t.isl = s.isl
  cfg : m.testBit 5 = false → t.cfg = s.cfg
  boot : m.testBit 6 = false → t.boot = s.boot
  con : m.testBit 7 = false → t.con = s.con
  ports : m.testBit 8 = false → t.ports = s.ports
  net : m.testBit 9 = false → t.net = s.net
  proto : m.testBit 10 = false → t.proto = s.proto
  kv : m.testBit 11 = false → t.kv = s.kv
  stalls : m.testBit 12 = false → t.stalls = s.stalls
  media : m.testBit 13 = false → t.media = s.media
  upkeep : m.testBit 14 = false → t.upkeep = s.upkeep
  arc : m.testBit 15 = false → t.arc = s.arc
  row : m.testBit 16 = false → t.row = s.row
  fw : m.testBit 17 = false → t.fw = s.fw
  life : m.testBit 18 = false → t.life = s.life
  log : m.testBit 19 = false → t.log = s.log
  out : m.testBit 20 = false → t.out = s.out
  freeCtr : m.testBit 21 = false → t.freeCtr = s.freeCtr
  ledger_le : s.clock.ledger ≤ t.clock.ledger
  out_suffix : s.out <:+ t.out
  free_le : s.freeCtr ≤ t.freeCtr
  seq_le : m.testBit 22 = false → s.log.nextSeq ≤ t.log.nextSeq
  inc_le : s.kv.nextInc ≤ t.kv.nextInc
  ticket_le : s.kv.nextTicket ≤ t.kv.nextTicket
  handle_le : s.kv.nextHandle ≤ t.kv.nextHandle
  wseq_le : s.kv.nextWseq ≤ t.kv.nextWseq
  op_le : s.kv.nextOp ≤ t.kv.nextOp
  conn_le : s.proto.nextConn ≤ t.proto.nextConn
  sequence_le : s.cfg.sequence ≤ t.cfg.sequence
  freeze_le : s.stalls.nextFreeze ≤ t.stalls.nextFreeze
  fuses_sub : s.fw.fuses ⊆ t.fw.fuses
  count_le : s.life.count ≤ t.life.count
  retired_keeps : s.life.retired = true → t.life.retired = true
  epoch_le : s.row.epoch ≤ t.row.epoch
  everSet_keeps : s.clock.everSet = true → t.clock.everSet = true
  logOk : LogOk s.log → LogOk t.log
  clockOk : ClockOk s.clock → ClockOk t.clock
  bootOk : BootOk s.boot → BootOk t.boot

/-! ### The event log, the checkpoint ring, the boot ledger -/

theorem seqs_put {l : EventLog} {e : EventRec} {n : Nat} (h : LogOk l) (k : e.seq = l.nextSeq) (hn : n ≤ l.waiting + 1) :
    ((((e :: l.ring).take n) ++ l.bed).map (fun e => e.seq)).Pairwise (fun a b => b < a) := by
  have big : (((e :: l.ring.take l.waiting) ++ l.bed).map (fun e => e.seq)).Pairwise (fun a b => b < a) := by
    rw [List.cons_append, List.map_cons, List.pairwise_cons]
    refine ⟨?_, h.copied⟩
    intro q hq
    obtain ⟨x, hx, rfl⟩ := List.mem_map.mp hq
    rw [k]
    rcases List.mem_append.mp hx with hx | hx
    · exact h.below x (List.mem_of_mem_take hx)
    · exact h.bedBelow x hx
  refine big.sublist (List.Sublist.map _ (List.Sublist.append ?_ (List.Sublist.refl _)))
  have : (e :: l.ring.take l.waiting) = (e :: l.ring).take (l.waiting + 1) := rfl
  rw [this]
  exact List.take_sublist_take_left hn

/-- A record written under the next SEQ keeps the log (R850, R851). -/
theorem logOk_put {l : EventLog} {e : EventRec} (h : LogOk l) (k : e.seq = l.nextSeq) :
    LogOk { l with ring := (e :: l.ring).take 2048, nextSeq := l.nextSeq + 1, waiting := Nat.min (l.waiting + 1) 2048 } where
  ring_le := List.length_take_le _ _
  bed_le := h.bed_le
  carried_le := h.carried_le
  waiting_le := Nat.min_le_right _ _
  falling := by
    have big : ((e :: l.ring).map (fun e => e.seq)).Pairwise (fun a b => b < a) := by
      rw [List.map_cons, List.pairwise_cons]
      refine ⟨?_, h.falling⟩
      intro q hq
      obtain ⟨x, hx, rfl⟩ := List.mem_map.mp hq
      rw [k]
      exact h.below x hx
    exact big.sublist (List.Sublist.map _ (List.take_sublist _ _))
  copied := by
    show ((((e :: l.ring).take 2048).take (Nat.min (l.waiting + 1) 2048) ++ l.bed).map _).Pairwise _
    rw [List.take_take]
    exact seqs_put h k (Nat.le_trans (Nat.min_le_left _ _) (Nat.min_le_left _ _))
  below := by
    intro x hx
    rcases List.mem_cons.mp (List.mem_of_mem_take hx) with rfl | hx
    · exact k ▸ Nat.lt_succ_self _
    · exact Nat.lt_succ_of_lt (h.below x hx)
  bedBelow := fun x hx => Nat.lt_succ_of_lt (h.bedBelow x hx)

/-- Copying what waits to the metadata bed keeps it (R850). -/
theorem logOk_copy {l : EventLog} (h : LogOk l) :
    LogOk { l with bed := (l.ring.take l.waiting ++ l.bed).take 262144, waiting := 0 } where
  ring_le := h.ring_le
  bed_le := List.length_take_le _ _
  carried_le := h.carried_le
  waiting_le := Nat.zero_le _
  falling := h.falling
  copied := h.copied.sublist (List.Sublist.map _ (List.take_sublist _ _))
  below := h.below
  bedBelow := by
    intro x hx
    rcases List.mem_append.mp (List.mem_of_mem_take hx) with hx | hx
    · exact h.below x (List.mem_of_mem_take hx)
    · exact h.bedBelow x hx

/-- An event of the gatehouse's buffer keeps it (R852). -/
theorem logOk_carry {l : EventLog} {e : EventRec} (h : LogOk l) : LogOk { l with carried := (e :: l.carried).take 64 } where
  ring_le := h.ring_le
  bed_le := h.bed_le
  carried_le := List.length_take_le _ _
  waiting_le := h.waiting_le
  falling := h.falling
  copied := h.copied
  below := h.below
  bedBelow := h.bedBelow

/-- Emptying that buffer keeps it. -/
theorem logOk_uncarry {l : EventLog} (h : LogOk l) : LogOk { l with carried := [] } where
  ring_le := h.ring_le
  bed_le := h.bed_le
  carried_le := Nat.zero_le _
  waiting_le := h.waiting_le
  falling := h.falling
  copied := h.copied
  below := h.below
  bedBelow := h.bedBelow

/-- A clock that has moved on and keeps its checkpoints. -/
theorem clockOk_keep {c d : Clock} (e : d.ckpts = c.ckpts) (l : c.ledger ≤ d.ledger) (h : ClockOk c) : ClockOk d where
  ring_le := e ▸ h.ring_le
  reached := fun k hk => Nat.le_trans (h.reached k (e ▸ hk)) l
  ordered := e ▸ h.ordered

/-- A checkpoint keeps the ring (R363, R368). -/
theorem clockOk_write {c : Clock} (k : CkptKind) (h : ClockOk c) : ClockOk (writeCkpt c k) where
  ring_le := List.length_take_le _ _
  reached := by
    intro x hx
    rcases List.mem_cons.mp (List.mem_of_mem_take hx) with rfl | hx
    · exact Nat.le_refl _
    · exact h.reached x hx
  ordered := by
    unfold writeCkpt
    dsimp only
    refine List.Pairwise.sublist (List.Sublist.map _ (List.take_sublist _ _)) ?_
    rw [List.map_cons, List.pairwise_cons]
    refine ⟨?_, h.ordered⟩
    intro q hq
    obtain ⟨x, hx, rfl⟩ := List.mem_map.mp hq
    exact h.reached x hx

/-- Moving the clock keeps it. -/
theorem clockOk_move {v : Bool} {c : Clock} {t : Nat} (h : ClockOk c) : ClockOk (moveClock v c t) := by
  have k : ClockOk { slewOver c (t - c.ledger) with ledger := Nat.max (slewOver c (t - c.ledger)).ledger t } :=
    clockOk_keep (c := c) rfl (Nat.le_max_left _ _) h
  unfold moveClock
  dsimp only
  split
  · exact k
  · exact clockOk_write _ k

/-- Nothing changes. -/
theorem Changes.refl {m : Nat} {s : State} : Changes m s s := by
  constructor <;> simp

theorem testBit_of_and {a m : Nat} (e : a &&& m = a) {i : Nat} (h : m.testBit i = false) : a.testBit i = false := by
  have := congrArg (fun n => n.testBit i) e
  simp only [Nat.testBit_and, h, Bool.and_false] at this
  exact this.symm

/-- A change within a smaller mask, after another change. -/
theorem Changes.seq {a m : Nat} {s u v : State} (g : Changes a u v) (h : Changes m s u) (e : a &&& m = a) : Changes m s v where
  pending := g.pending.trans h.pending
  phase := fun k => (g.phase (testBit_of_and e k)).trans (h.phase k)
  clock := fun k => (g.clock (testBit_of_and e k)).trans (h.clock k)
  bay := fun k => (g.bay (testBit_of_and e k)).trans (h.bay k)
  power := fun k => (g.power (testBit_of_and e k)).trans (h.power k)
  isl := fun k => (g.isl (testBit_of_and e k)).trans (h.isl k)
  cfg := fun k => (g.cfg (testBit_of_and e k)).trans (h.cfg k)
  boot := fun k => (g.boot (testBit_of_and e k)).trans (h.boot k)
  con := fun k => (g.con (testBit_of_and e k)).trans (h.con k)
  ports := fun k => (g.ports (testBit_of_and e k)).trans (h.ports k)
  net := fun k => (g.net (testBit_of_and e k)).trans (h.net k)
  proto := fun k => (g.proto (testBit_of_and e k)).trans (h.proto k)
  kv := fun k => (g.kv (testBit_of_and e k)).trans (h.kv k)
  stalls := fun k => (g.stalls (testBit_of_and e k)).trans (h.stalls k)
  media := fun k => (g.media (testBit_of_and e k)).trans (h.media k)
  upkeep := fun k => (g.upkeep (testBit_of_and e k)).trans (h.upkeep k)
  arc := fun k => (g.arc (testBit_of_and e k)).trans (h.arc k)
  row := fun k => (g.row (testBit_of_and e k)).trans (h.row k)
  fw := fun k => (g.fw (testBit_of_and e k)).trans (h.fw k)
  life := fun k => (g.life (testBit_of_and e k)).trans (h.life k)
  log := fun k => (g.log (testBit_of_and e k)).trans (h.log k)
  out := fun k => (g.out (testBit_of_and e k)).trans (h.out k)
  freeCtr := fun k => (g.freeCtr (testBit_of_and e k)).trans (h.freeCtr k)
  ledger_le := Nat.le_trans h.ledger_le g.ledger_le
  out_suffix := h.out_suffix.trans g.out_suffix
  free_le := Nat.le_trans h.free_le g.free_le
  seq_le := fun k => Nat.le_trans (h.seq_le k) (g.seq_le (testBit_of_and e k))
  inc_le := Nat.le_trans h.inc_le g.inc_le
  ticket_le := Nat.le_trans h.ticket_le g.ticket_le
  handle_le := Nat.le_trans h.handle_le g.handle_le
  wseq_le := Nat.le_trans h.wseq_le g.wseq_le
  op_le := Nat.le_trans h.op_le g.op_le
  conn_le := Nat.le_trans h.conn_le g.conn_le
  sequence_le := Nat.le_trans h.sequence_le g.sequence_le
  freeze_le := Nat.le_trans h.freeze_le g.freeze_le
  fuses_sub := fun _ x => g.fuses_sub (h.fuses_sub x)
  count_le := Nat.le_trans h.count_le g.count_le
  retired_keeps := fun x => g.retired_keeps (h.retired_keeps x)
  epoch_le := Nat.le_trans h.epoch_le g.epoch_le
  everSet_keeps := fun x => g.everSet_keeps (h.everSet_keeps x)
  logOk := fun x => g.logOk (h.logOk x)
  clockOk := fun x => g.clockOk (h.clockOk x)
  bootOk := fun x => g.bootOk (h.bootOk x)

/-- A change within a smaller mask is one within a larger. -/
theorem Changes.mono {a m : Nat} {u v : State} (g : Changes a u v) (e : a &&& m = a) : Changes m u v := g.seq .refl e

theorem Changes.ite {m : Nat} {s a b : State} {c : Prop} [Decidable c] (h : Changes m s a) (k : Changes m s b) :
    Changes m s (if c then a else b) := by split <;> assumption

theorem Changes.foldl {m : Nat} {s t : State} {A : Type} {g : State → A → State} {xs : List A}
    (k : ∀ u a, Changes m s u → Changes m s (g u a)) (h : Changes m s t) : Changes m s (xs.foldl g t) := by
  induction xs generalizing t with
  | nil => exact h
  | cons a xs ih => exact ih (k t a h)

/-! ### Answers that hold a state -/

theorem Changes.snd {m : Nat} {s u : State} {X : Type} {x : X} {p : X × State} (g : Changes m s p.2) (e : p = (x, u)) :
    Changes m s u := by subst e; exact g

theorem Changes.fst {m : Nat} {s u : State} {X : Type} {x : X} {p : State × X} (g : Changes m s p.1) (e : p = (u, x)) :
    Changes m s u := by subst e; exact g

theorem Changes.third {m : Nat} {s u : State} {X Y : Type} {x : X} {y : Y} {p : X × Y × State} (g : Changes m s p.2.2)
    (e : p = (x, y, u)) : Changes m s u := by subst e; exact g

/-- Every state the answer may hold differs within the mask. -/
def OptChanges (m : Nat) (s : State) (o : Option State) : Prop := ∀ u, o = some u → Changes m s u

theorem OptChanges.none {m : Nat} {s : State} : OptChanges m s .none := fun _ e => nomatch e
theorem OptChanges.some {m : Nat} {s u : State} (h : Changes m s u) : OptChanges m s (.some u) := fun _ e => by cases e; exact h
theorem OptChanges.ite {m : Nat} {s : State} {a b : Option State} {c : Prop} [Decidable c] (h : OptChanges m s a)
    (k : OptChanges m s b) : OptChanges m s (if c then a else b) := by split <;> assumption
theorem OptChanges.seq {a m : Nat} {s u : State} {o : Option State} (g : OptChanges a u o) (h : Changes m s u)
    (e : a &&& m = a) : OptChanges m s o := fun v k => (g v k).seq h e

/-- The same of an answer that holds a state beside something else. -/
def PairChanges {X : Type} (m : Nat) (s : State) (o : Option (X × State)) : Prop := ∀ x u, o = some (x, u) → Changes m s u

theorem Changes.opt {m : Nat} {s u : State} {o : Option State} (g : OptChanges m s o) (e : o = some u) : Changes m s u := g u e

theorem Changes.pair {X : Type} {m : Nat} {s u : State} {x : X} {o : Option (X × State)} (g : PairChanges m s o)
    (e : o = some (x, u)) : Changes m s u := g x u e

theorem PairChanges.none {X : Type} {m : Nat} {s : State} : PairChanges (X := X) m s .none := fun _ _ e => nomatch e
theorem PairChanges.some {X : Type} {m : Nat} {s : State} {p : X × State} (h : Changes m s p.2) : PairChanges m s (.some p) :=
  fun _ _ e => by cases e; exact h
theorem PairChanges.ite {X : Type} {m : Nat} {s : State} {a b : Option (X × State)} {c : Prop} [Decidable c]
    (h : PairChanges m s a) (k : PairChanges m s b) : PairChanges m s (if c then a else b) := by split <;> assumption
theorem PairChanges.seq {X : Type} {a m : Nat} {s u : State} {o : Option (X × State)} (g : PairChanges a u o)
    (h : Changes m s u) (e : a &&& m = a) : PairChanges m s o := fun x v k => (g x v k).seq h e

theorem OptChanges.map {m : Nat} {s : State} {o : Option State} {f : State → State}
    (k : ∀ u, Changes m s u → Changes m s (f u)) (h : OptChanges m s o) : OptChanges m s (o.map f) := by
  cases o with
  | none => exact .none
  | some u => exact .some (k u (h u rfl))
theorem OptChanges.mapPair {X : Type} {m : Nat} {s : State} {o : Option (X × State)} {f : X × State → State}
    (k : ∀ x u, Changes m s u → Changes m s (f (x, u))) (h : PairChanges m s o) : OptChanges m s (o.map f) := by
  cases o with
  | none => exact .none
  | some p => exact .some (k p.1 p.2 (h p.1 p.2 rfl))
theorem PairChanges.mapTo {X Y : Type} {m : Nat} {s : State} {o : Option (X × State)} {f : X × State → Y × State}
    (k : ∀ x u, Changes m s u → Changes m s (f (x, u)).2) (h : PairChanges m s o) : PairChanges m s (o.map f) := by
  cases o with
  | none => exact .none
  | some p => exact .some (k p.1 p.2 (h p.1 p.2 rfl))
theorem OptChanges.mapAny {X : Type} {m : Nat} {s : State} {o : Option X} {f : X → State}
    (k : ∀ x, Changes m s (f x)) : OptChanges m s (o.map f) := by
  cases o with
  | none => exact .none
  | some x => exact .some (k x)
theorem PairChanges.mapAny {X Y : Type} {m : Nat} {s : State} {o : Option X} {f : X → Y × State}
    (k : ∀ x, Changes m s (f x).2) : PairChanges m s (o.map f) := by
  cases o with
  | none => exact .none
  | some x => exact .some (k x)
theorem OptChanges.bindAny {X : Type} {m : Nat} {s : State} {o : Option X} {f : X → Option State}
    (k : ∀ x, OptChanges m s (f x)) : OptChanges m s (o.bind f) := by
  cases o with
  | none => exact .none
  | some x => exact k x
theorem OptChanges.bindPair {X : Type} {m : Nat} {s : State} {o : Option (X × State)} {f : X × State → Option State}
    (k : ∀ x u, Changes m s u → OptChanges m s (f (x, u))) (h : PairChanges m s o) : OptChanges m s (o.bind f) := by
  cases o with
  | none => exact .none
  | some p => exact k p.1 p.2 (h p.1 p.2 rfl)
theorem PairChanges.bindTo {X Y : Type} {m : Nat} {s : State} {o : Option (X × State)} {f : X × State → Option (Y × State)}
    (k : ∀ x u, Changes m s u → PairChanges m s (f (x, u))) (h : PairChanges m s o) : PairChanges m s (o.bind f) := by
  cases o with
  | none => exact .none
  | some p => exact k p.1 p.2 (h p.1 p.2 rfl)
theorem PairChanges.bindAny {X Y : Type} {m : Nat} {s : State} {o : Option X} {f : X → Option (Y × State)}
    (k : ∀ x, PairChanges m s (f x)) : PairChanges m s (o.bind f) := by
  cases o with
  | none => exact .none
  | some x => exact k x
theorem OptChanges.bind {m : Nat} {s : State} {o : Option State} {f : State → Option State}
    (k : ∀ u, Changes m s u → OptChanges m s (f u)) (h : OptChanges m s o) : OptChanges m s (o.bind f) := by
  cases o with
  | none => exact .none
  | some u => exact k u (h u rfl)
theorem OptChanges.foldl {m : Nat} {s : State} {A : Type} {g : Option State → A → Option State} {xs : List A}
    {o : Option State} (k : ∀ o a, OptChanges m s o → OptChanges m s (g o a)) (h : OptChanges m s o) :
    OptChanges m s (xs.foldl g o) := by
  induction xs generalizing o with
  | nil => exact h
  | cons a xs ih => exact ih (k o a h)

theorem Changes.getD {m : Nat} {s d : State} {o : Option State} (h : OptChanges m s o) (k : Changes m s d) :
    Changes m s (o.getD d) := by
  cases o with
  | none => exact k
  | some u => exact h u rfl

theorem Changes.foldlFst {m : Nat} {s : State} {X A : Type} {g : State × X → A → State × X} {xs : List A} {p : State × X}
    (k : ∀ p a, Changes m s p.1 → Changes m s (g p a).1) (h : Changes m s p.1) : Changes m s (xs.foldl g p).1 := by
  induction xs generalizing p with
  | nil => exact h
  | cons a xs ih => exact ih (k p a h)
theorem Changes.foldlSnd {m : Nat} {s : State} {X A : Type} {g : X × State → A → X × State} {xs : List A} {p : X × State}
    (k : ∀ p a, Changes m s p.2 → Changes m s (g p a).2) (h : Changes m s p.2) : Changes m s (xs.foldl g p).2 := by
  induction xs generalizing p with
  | nil => exact h
  | cons a xs ih => exact ih (k p a h)

/-- A command answers a next state, which differs from the present within the mask. -/
def NextChanges (m : Nat) (s : State) (o : Host.Outcome State Fault Refusal) : Prop := ∃ t, o = .next t ∧ Changes m s t

theorem NextChanges.next {m : Nat} {s t : State} (h : Changes m s t) : NextChanges m s (.next t) := ⟨t, rfl, h⟩
theorem NextChanges.ite {m : Nat} {s : State} {a b : Host.Outcome State Fault Refusal} {c : Prop} [Decidable c]
    (h : NextChanges m s a) (k : NextChanges m s b) : NextChanges m s (if c then a else b) := by split <;> assumption

/-! ### The primitives -/

theorem updClock_changes {s : State} {f : Clock → Clock} (h : s.clock.ledger ≤ (f s.clock).ledger ∧ (f s.clock).ckpts = s.clock.ckpts ∧
    (s.clock.everSet = true → (f s.clock).everSet = true)) : Changes 2 s (updClock s f) := by
  constructor <;> simp +decide [updClock, h]
  · exact h.2.2
  · exact clockOk_keep h.2.1 h.1
theorem updBay_changes {s : State} {f : Bay → Bay} : Changes 4 s (updBay s f) := by
  constructor <;> simp +decide [updBay]
theorem updPower_changes {s : State} {f : Power → Power} : Changes 8 s (updPower s f) := by
  constructor <;> simp +decide [updPower]
theorem updIsl_changes {s : State} {f : Islands → Islands} : Changes 16 s (updIsl s f) := by
  constructor <;> simp +decide [updIsl]
theorem updCfg_changes {s : State} {f : Cfg → Cfg} (h : s.cfg.sequence ≤ (f s.cfg).sequence) : Changes 32 s (updCfg s f) := by
  constructor <;> simp +decide [updCfg, h]
theorem updBoot_changes {s : State} {f : Boot → Boot} (h : BootOk s.boot → BootOk (f s.boot)) : Changes 64 s (updBoot s f) := by
  constructor <;> simp +decide [updBoot]
  exact h
theorem updCon_changes {s : State} {f : Console → Console} : Changes 128 s (updCon s f) := by
  constructor <;> simp +decide [updCon]
theorem updPorts_changes {s : State} {f : Ports → Ports} : Changes 256 s (updPorts s f) := by
  constructor <;> simp +decide [updPorts]
theorem updNet_changes {s : State} {f : Net → Net} : Changes 512 s (updNet s f) := by
  constructor <;> simp +decide [updNet]
theorem updProto_changes {s : State} {f : Proto → Proto} (h : s.proto.nextConn ≤ (f s.proto).nextConn) : Changes 1024 s (updProto s f) := by
  constructor <;> simp +decide [updProto, h]
theorem updKv_changes {s : State} {f : Kv → Kv} (h : s.kv.nextInc ≤ (f s.kv).nextInc ∧ s.kv.nextTicket ≤ (f s.kv).nextTicket ∧ s.kv.nextHandle ≤ (f s.kv).nextHandle ∧
      s.kv.nextWseq ≤ (f s.kv).nextWseq ∧ s.kv.nextOp ≤ (f s.kv).nextOp) : Changes 2048 s (updKv s f) := by
  constructor <;> simp +decide [updKv, h]
theorem updStalls_changes {s : State} {f : Stalls → Stalls} (h : s.stalls.nextFreeze ≤ (f s.stalls).nextFreeze) : Changes 4096 s (updStalls s f) := by
  constructor <;> simp +decide [updStalls, h]
theorem updMedia_changes {s : State} {f : Media → Media} : Changes 8192 s (updMedia s f) := by
  constructor <;> simp +decide [updMedia]
theorem updUpkeep_changes {s : State} {f : Upkeep → Upkeep} : Changes 16384 s (updUpkeep s f) := by
  constructor <;> simp +decide [updUpkeep]
theorem updArc_changes {s : State} {f : Arcade → Arcade} : Changes 32768 s (updArc s f) := by
  constructor <;> simp +decide [updArc]
theorem updRow_changes {s : State} {f : Row → Row} (h : s.row.epoch ≤ (f s.row).epoch) : Changes 65536 s (updRow s f) := by
  constructor <;> simp +decide [updRow, h]
theorem updFw_changes {s : State} {f : Fw → Fw} (h : s.fw.fuses ⊆ (f s.fw).fuses) : Changes 131072 s (updFw s f) := by
  constructor <;> simp +decide [updFw, h]
theorem updLife_changes {s : State} {f : Life → Life} (h : s.life.count ≤ (f s.life).count ∧ (s.life.retired = true → (f s.life).retired = true)) : Changes 262144 s (updLife s f) := by
  constructor <;> simp +decide [updLife, h]
  exact h.2
theorem updLog_changes {s : State} {f : EventLog → EventLog} (h : s.log.nextSeq ≤ (f s.log).nextSeq ∧ (LogOk s.log → LogOk (f s.log))) :
    Changes 524288 s (updLog s f) := by
  constructor <;> simp +decide [updLog, h]
  exact h.2

theorem le_listMax {xs : List Nat} {x : Nat} (h : x ∈ xs) : x ≤ listMax xs := by
  have key : ∀ (ys : List Nat) (a : Nat), a ≤ ys.foldl Nat.max a ∧ ∀ y ∈ ys, y ≤ ys.foldl Nat.max a := by
    intro ys
    induction ys with
    | nil => exact fun a => ⟨Nat.le_refl _, fun y hy => nomatch hy⟩
    | cons b ys ih =>
      intro a
      obtain ⟨h1, h2⟩ := ih (Nat.max a b)
      refine ⟨Nat.le_trans (Nat.le_max_left _ _) h1, fun y hy => ?_⟩
      rcases List.mem_cons.mp hy with rfl | hy
      · exact Nat.le_trans (Nat.le_max_right _ _) h1
      · exact h2 y hy
  exact (key xs 0).2 x h

/-- Records that S03 finds invalid leave the log in order, and the next SEQ is above all that are held (R850, R851). -/
theorem logOk_drop {bad : List Nat} {l : EventLog} (h : LogOk l) : LogOk (dropEvents bad l) where
  ring_le := Nat.le_trans (List.length_filter_le _ _) h.ring_le
  bed_le := h.bed_le
  carried_le := h.carried_le
  waiting_le := Nat.le_trans (List.length_filter_le _ _) (Nat.le_trans (List.length_take_le _ _) h.waiting_le)
  falling := h.falling.sublist (List.Sublist.map _ List.filter_sublist)
  copied := by
    refine h.copied.sublist (List.Sublist.map _ (List.Sublist.append ?_ (List.Sublist.refl _)))
    unfold dropEvents
    dsimp only
    have e : ∀ (p : EventRec → Bool) (xs : List EventRec) (n : Nat),
        (xs.filter p).take ((xs.take n).filter p).length = (xs.take n).filter p := by
      intro p xs
      induction xs with
      | nil => intro n; simp
      | cons a xs ih =>
        intro n
        cases n with
        | zero => simp
        | succ n => by_cases hp : p a <;> simp [List.filter_cons, hp, ih]
    rw [e]
    exact List.filter_sublist
  below := fun x hx => Nat.lt_succ_of_le (le_listMax (List.mem_map_of_mem (List.mem_append_left _ hx)))
  bedBelow := fun x hx => Nat.lt_succ_of_le (le_listMax (List.mem_map_of_mem (List.mem_append_right _ hx)))

theorem dropEvents_changes {s : State} {bad : List Nat} : Changes 4718592 s (updLog s (dropEvents bad)) := by
  constructor <;> simp +decide [updLog]
  exact logOk_drop

/-- Checkpoints that S03 finds invalid leave the ring in order (R368). -/
theorem dropCkpts_changes {s : State} {bad : List Nat} :
    Changes 2 s (updClock s (fun c => { c with ckpts := c.ckpts.filter (fun k => ! bad.contains k.seq) })) := by
  constructor <;> simp +decide [updClock]
  intro h
  exact ⟨Nat.le_trans (List.length_filter_le _ _) h.ring_le, fun k hk => h.reached k (List.mem_of_mem_filter hk),
    h.ordered.sublist (List.Sublist.map _ List.filter_sublist)⟩

theorem setPhase_changes {s : State} {p : Phase} : Changes 1 s (setPhase s p) := by constructor <;> simp +decide [setPhase]
theorem emit_changes {s : State} {o : Output} : Changes 1048576 s (emit s o) := by
  constructor <;> simp +decide [emit]
theorem cfgStore_changes {s : State} {a : Attr} {w : Word64} : Changes 32 s (cfgStore s a w) := by
  constructor <;> simp +decide [cfgStore]
theorem freshWord_changes {s : State} : Changes 2097152 s (freshWord s).2 := by constructor <;> simp +decide [freshWord]
theorem freshBytes_changes {s : State} {n : Nat} : Changes 2097152 s (freshBytes s n).2 := by
  constructor <;> simp +decide [freshBytes]

end Sys2Proof.Laws
end

