-- ==== Sys2Proof/Laws/Changes1.lean ====
section
/-!
SUPPORT. What each definition that changes the state may change, one lemma per definition; the mask of a lemma is the union
of the masks of what the definition calls. Of Machine/: Base, TxOps, Ops, PortOps, HaltOps, Operands, PowerOps, MeterOps, NetOps, MediaOps, UpkeepOps, DieOps, ArcOps, KvOps, SpecOps.
-/

namespace Sys2Proof.Laws

open Sys2Proof Machine

set_option linter.unusedVariables false

/-! ### Machine/Base.lean -/

theorem updPort_changes {s : State} {p : PortId} {f : Port → Port} : Changes 256 s (updPort s p f) := by
  unfold updPort
  refine .seq updPorts_changes ?_ (by decide)
  exact .refl

theorem updStall_changes {s : State} {n : StallNo} {f : Stall → Stall} : Changes 4096 s (updStall s n f) := by
  unfold updStall
  refine .seq (updStalls_changes ?_) ?_ (by decide)
  exact Nat.le_refl _
  exact .refl

theorem slewOver_ledger {c : Clock} {d : Nat} : (slewOver c d).ledger = c.ledger := rfl

/-- Ledger time does not go back. -/
theorem moveClock_ledger {v : Bool} {c : Clock} {t : Nat} : (moveClock v c t).ledger = Nat.max c.ledger t := by
  unfold moveClock; dsimp only
  split <;> rfl

theorem moveClock_everSet {v : Bool} {c : Clock} {t : Nat} : (moveClock v c t).everSet = c.everSet := by
  unfold moveClock; dsimp only
  split <;> rfl

theorem advanceTo_changes {s : State} {t : Nat} : Changes 2 s (advanceTo s t) := by
  unfold advanceTo
  split
  · exact .refl
  · constructor <;> simp +decide
    · rw [moveClock_ledger]
      exact Nat.le_max_left _ _
    · rw [moveClock_everSet]; exact id
    · exact clockOk_move

theorem advanceBy_changes {s : State} {d : Nat} : Changes 2 s (advanceBy s d) := by
  unfold advanceBy
  refine .seq advanceTo_changes ?_ (by decide)
  exact .refl

theorem tick_changes {s : State} : Changes 2 s (tick s) := by
  unfold tick
  refine .seq advanceBy_changes ?_ (by decide)
  exact .refl

theorem checkpoint_changes {s : State} {k : CkptKind} : Changes 2 s (checkpoint s k) := by
  constructor <;> simp +decide [checkpoint, updClock, writeCkpt]
  exact clockOk_write k

theorem writeRtc_changes {s : State} : Changes 2 s (writeRtc s) := by
  unfold writeRtc
  refine .seq (updClock_changes ?_) ?_ (by decide)
  (split <;> exact ⟨Nat.le_refl _, rfl, id⟩)
  exact .refl

theorem updIslRec_changes {s : State} {i : Island} {f : IslRec → IslRec} : Changes 16 s (updIslRec s i f) := by
  unfold updIslRec
  refine .seq updIsl_changes ?_ (by decide)
  exact .refl

theorem wakeIsl_changes {s : State} {i : Island} : Changes 16 s (wakeIsl s i) := by
  unfold wakeIsl
  refine .ite ?_ ?_
  refine .seq updIslRec_changes ?_ (by decide)
  exact .refl
  exact .refl

theorem emitAll_changes {s : State} {os : List Output} : Changes 1048576 s (emitAll s os) := by
  unfold emitAll
  refine .foldl (fun u0 a0 h0 => ?_) ?_
  refine .seq emit_changes ?_ (by decide)
  assumption
  exact .refl

theorem updSess_changes {s : State} {x : SessId} {f : Session → Session} : Changes 128 s (updSess s x f) := by
  unfold updSess
  refine .seq updCon_changes ?_ (by decide)
  exact .refl

/-! ### Machine/TxOps.lean -/

theorem updIfc_changes {s : State} {k : IfNo} {f : Ifc → Ifc} : Changes 512 s (updIfc s k f) := by
  unfold updIfc
  refine .seq updNet_changes ?_ (by decide)
  exact .refl

theorem useNeigh_changes {s : State} {k : IfNo} {a : Option IpAddr} : Changes 512 s (useNeigh s k a) := by
  unfold useNeigh
  split
  rename_i _ e0
  exact .refl
  rename_i _ _ e1
  refine .seq updNet_changes ?_ (by decide)
  exact .refl

theorem enqueue_changes {s : State} {p : PortId} {f : TxFrame} : Changes 256 s (enqueue s p f) := by
  unfold enqueue
  refine .ite ?_ ?_
  refine .seq updPort_changes ?_ (by decide)
  exact .refl
  exact .refl

theorem sendFlow_changes {s : State} {fl : Machine.Flow} {q : Fin 8} {it : NetItem} {len : Nat} : Changes 768 s (sendFlow s fl q it len) := by
  unfold sendFlow
  (extract_lets +onlyGivenNames (merge := false) w0; clear_value w0)
  split
  rename_i _ e1
  exact .refl
  rename_i _ _ e2
  split
  rename_i _ _ _ e3
  exact .refl
  rename_i _ _ _ _ e4
  refine .seq enqueue_changes ?_ (by decide)
  refine .seq useNeigh_changes ?_ (by decide)
  exact .refl

theorem updConn_changes {s : State} {i : Nat} {f : Conn → Conn} : Changes 1024 s (updConn s i f) := by
  unfold updConn
  refine .seq (updProto_changes ?_) ?_ (by decide)
  exact Nat.le_refl _
  exact .refl

theorem sendIp_changes {s : State} {i : IfNo} {q : Fin 8} {it : NetItem} {code : Nat} : Changes 768 s (sendIp s i q it code) := by
  unfold sendIp
  split
  rename_i _ e0
  exact .refl
  rename_i _ _ e1
  refine .seq sendFlow_changes ?_ (by decide)
  exact .refl

theorem sendPlain_changes {s : State} {i : IfNo} {q : Fin 8} {it : NetItem} {code : Nat} {cast : CastKind} : Changes 256 s (sendPlain s i q it code cast) := by
  unfold sendPlain
  split
  rename_i _ e0
  exact .refl
  rename_i _ _ e1
  refine .seq enqueue_changes ?_ (by decide)
  exact .refl

theorem sendLink_changes {s : State} {p : PortId} {it : NetItem} {code : Nat} : Changes 256 s (sendLink s p it code) := by
  unfold sendLink
  refine .seq enqueue_changes ?_ (by decide)
  exact .refl

theorem originate_changes {s : State} {dst : IpAddr} {q : Fin 8} {it : NetItem} {code : Nat} : Changes 768 s (originate s dst q it code) := by
  unfold originate
  split
  rename_i _ _ e0
  refine .seq sendIp_changes ?_ (by decide)
  exact .refl
  rename_i _ e1
  refine .seq updNet_changes ?_ (by decide)
  exact .refl

theorem releaseSeg_changes {a : State × List TxFrame} {f : TxFrame} : Changes 768 a.1 (releaseSeg a f).1 := by
  unfold releaseSeg
  split
  rename_i _ _ _ _ e0 e1
  split
  rename_i _ _ _ _ _ e2
  dsimp -zeta only
  exact .refl
  rename_i _ _ _ _ _ _ e3
  split
  rename_i _ _ _ _ _ _ e4
  dsimp -zeta only
  exact .refl
  dsimp -zeta only
  refine .seq enqueue_changes ?_ (by decide)
  refine .seq useNeigh_changes ?_ (by decide)
  exact .refl
  exact .refl

theorem releaseWait_changes {s : State} : Changes 768 s (releaseWait s) := by
  unfold releaseWait
  extract_lets +onlyGivenNames (merge := false) w0
  refine .seq updPorts_changes ?_ (by decide)
  dsimp -zeta only [w0]
  refine .foldlFst (fun u1 a1 h1 => ?_) ?_
  refine .seq releaseSeg_changes ?_ (by decide)
  assumption
  dsimp -zeta only
  refine .seq updPorts_changes ?_ (by decide)
  exact .refl

theorem waitSeg_changes {s : State} {f : TxFrame} : Changes 768 s (waitSeg s f) := by
  unfold waitSeg
  refine .seq releaseWait_changes ?_ (by decide)
  refine .seq updPorts_changes ?_ (by decide)
  exact .refl

theorem putText_changes {s : State} {x : SessId} {q : Fin 8} {t : String} : Changes 1049344 s (putText s x q t) := by
  unfold putText
  (extract_lets +onlyGivenNames (merge := false) u0; suffices h0 : Changes 1049344 s u0; clear_value u0)
  split
  rename_i _ _ _ _ e1
  refine .seq releaseWait_changes ?_ (by decide)
  refine .seq updPorts_changes ?_ (by decide)
  assumption
  assumption
  dsimp -zeta only [u0]
  refine .seq emit_changes ?_ (by decide)
  exact .refl

theorem movePort_changes {s : State} {p : PortId} : Changes 256 s (movePort s p) := by
  unfold movePort
  refine .ite ?_ ?_
  (extract_lets +onlyGivenNames (merge := false) w0; clear_value w0)
  (extract_lets +onlyGivenNames (merge := false) u1; suffices h1 : Changes 256 s u1; clear_value u1)
  refine .foldl (fun u2 a2 h2 => ?_) ?_
  refine .seq enqueue_changes ?_ (by decide)
  assumption
  assumption
  dsimp -zeta only [u1]
  refine .seq updPort_changes ?_ (by decide)
  exact .refl
  exact .refl

theorem moveFrames_changes {s : State} : Changes 256 s (moveFrames s) := by
  unfold moveFrames
  refine .seq movePort_changes ?_ (by decide)
  refine .seq movePort_changes ?_ (by decide)
  exact .refl

/-! ### Machine/Ops.lean -/

theorem addHealth_changes {s : State} {c : HealthCtr} {n : Nat} : Changes 16384 s (addHealth s c n) := by
  unfold addHealth
  refine .seq updUpkeep_changes ?_ (by decide)
  exact .refl

theorem copyLog_changes {s : State} : Changes 524288 s (copyLog s) := by
  unfold copyLog
  refine .ite ?_ ?_
  refine .seq (updLog_changes ?_) ?_ (by decide)
  exact ⟨Nat.le_refl _, logOk_copy⟩
  exact .refl
  exact .refl

theorem putLine_changes {s : State} {x : SessId} {q : Fin 8} {t : String} : Changes 1049344 s (putLine s x q t) := by
  unfold putLine
  split
  rename_i _ e0
  exact .refl
  rename_i _ _ e1
  refine .seq putText_changes ?_ (by decide)
  exact .refl

theorem putEvent_changes {s : State} {x : SessId} {e : EventRec} : Changes 1049344 s (putEvent s x e) := by
  unfold putEvent
  refine .seq putLine_changes ?_ (by decide)
  refine .seq emit_changes ?_ (by decide)
  exact .refl

theorem closeEvWindow_changes {s : State} {x : SessId} : Changes 1049472 s (closeEvWindow s x) := by
  unfold closeEvWindow
  split
  rename_i _ e0
  exact .refl
  rename_i _ _ e1
  (extract_lets +onlyGivenNames (merge := false) u2; suffices h2 : Changes 1049472 s u2; clear_value u2)
  refine .seq updSess_changes ?_ (by decide)
  assumption
  dsimp -zeta only [u2]
  refine .ite ?_ ?_
  refine .seq putLine_changes ?_ (by decide)
  refine .seq emit_changes ?_ (by decide)
  exact .refl
  exact .refl

theorem eventLine_changes {e : EventRec} {s : State} {x : SessId} : Changes 1049472 s (eventLine e s x) := by
  unfold eventLine
  split
  rename_i _ e0
  exact .refl
  rename_i _ _ e1
  refine .ite ?_ ?_
  exact .refl
  (extract_lets +onlyGivenNames (merge := false) u2; suffices h2 : Changes 1049472 s u2; clear_value u2)
  (extract_lets +onlyGivenNames (merge := false) w3; clear_value w3)
  split
  rename_i _ _ _ e4
  refine .seq putEvent_changes ?_ (by decide)
  refine .seq updSess_changes ?_ (by decide)
  assumption
  rename_i _ _ _ _ e5
  refine .ite ?_ ?_
  refine .seq putEvent_changes ?_ (by decide)
  refine .seq updSess_changes ?_ (by decide)
  assumption
  refine .seq updSess_changes ?_ (by decide)
  assumption
  dsimp -zeta only [u2]
  split
  rename_i _ _ _ _ e6
  refine .ite ?_ ?_
  refine .seq closeEvWindow_changes ?_ (by decide)
  exact .refl
  exact .refl
  rename_i _ _ _ e7
  exact .refl

theorem putRecord_changes {s : State} {e : EventRec} : Changes 1573760 s (putRecord s e) := by
  unfold putRecord
  refine .foldl (fun _ _ k => .seq eventLine_changes k (by decide)) ?_
  refine .ite ?_ ?_
  · refine .seq copyLog_changes ?_ (by decide)
    exact .seq (updLog_changes ⟨Nat.le_succ _, fun h => logOk_put h rfl⟩) .refl (by decide)
  · exact .seq (updLog_changes ⟨Nat.le_succ _, fun h => logOk_put h rfl⟩) .refl (by decide)

theorem logEv_changes {s : State} {ev : Ev} {a : EvArgs} : Changes 1590144 s (logEv s ev a) := by
  unfold logEv
  refine .ite ?_ ?_
  exact .refl
  (extract_lets +onlyGivenNames (merge := false) u4; suffices h4 : Changes 1590144 s u4; clear_value u4)
  dsimp only
  refine .ite ?_ ?_
  refine .seq putRecord_changes ?_ (by decide)
  assumption
  refine .seq (updLog_changes ?_) ?_ (by decide)
  exact ⟨Nat.le_refl _, logOk_carry⟩
  assumption
  dsimp only [u4]
  split
  refine .seq addHealth_changes ?_ (by decide)
  exact .refl
  exact .refl

theorem issue_changes {s : State} {p : Prog} : Changes 8192 s (issue s p) := by
  unfold issue
  refine .seq updMedia_changes ?_ (by decide)
  exact .refl

theorem issueLog_changes {s : State} : Changes 8192 s (issueLog s) := by
  unfold issueLog
  refine .ite ?_ ?_
  exact .refl
  refine .seq issue_changes ?_ (by decide)
  refine .seq updMedia_changes ?_ (by decide)
  exact .refl

theorem putLog_changes {s : State} {r : LogRec} : Changes 8192 s (putLog s r) := by
  unfold putLog
  refine .seq updMedia_changes ?_ (by decide)
  exact .refl

theorem renewMarks_changes {s : State} : Changes 8192 s (renewMarks s) := by
  unfold renewMarks
  refine .ite ?_ ?_
  refine .seq putLog_changes ?_ (by decide)
  refine .seq updMedia_changes ?_ (by decide)
  exact .refl
  exact .refl

theorem stageLog_changes {s : State} {r : LogRec} : Changes 8192 s (stageLog s r) := by
  unfold stageLog
  (extract_lets +onlyGivenNames (merge := false) u0; suffices h0 : Changes 8192 s u0; clear_value u0)
  refine .ite ?_ ?_
  refine .seq issueLog_changes ?_ (by decide)
  assumption
  assumption
  dsimp -zeta only [u0]
  refine .seq renewMarks_changes ?_ (by decide)
  refine .seq putLog_changes ?_ (by decide)
  exact .refl

theorem putStep_changes {s : State} {startNo : Nat} {step : Nat} {k : RecKind} {r : StepResult} {fcount : Nat} {detail : Nat} : Changes 64 s (putStep s startNo step k r fcount detail) := by
  unfold putStep
  refine .seq (updBoot_changes ?_) ?_ (by decide)
  exact fun _ => (List.length_take_le _ _ : (List.take 2016 _).length ≤ 2016)
  exact .refl

theorem writeBlock_changes {s : State} {f : StartBlock → StartBlock} : Changes 64 s (writeBlock s f) := by
  unfold writeBlock
  refine .seq (updBoot_changes ?_) ?_ (by decide)
  exact id
  exact .refl

theorem closeWindow_changes {s : State} {why : CloseWhy} : Changes 1590148 s (closeWindow s why) := by
  unfold closeWindow
  split
  rename_i _ e0
  exact .refl
  rename_i _ _ e1
  refine .seq logEv_changes ?_ (by decide)
  refine .seq updBay_changes ?_ (by decide)
  exact .refl

theorem presenceFault_changes {s : State} {why : FaultWhy} {atStart : Bool} : Changes 1590148 s (presenceFault s why atStart) := by
  unfold presenceFault
  refine .seq closeWindow_changes ?_ (by decide)
  refine .seq logEv_changes ?_ (by decide)
  refine .seq updBay_changes ?_ (by decide)
  exact .refl

/-! ### Machine/PortOps.lean -/

theorem setCount_changes {s : State} {p : PortId} {c : Ctr} {n : Nat} : Changes 1590144 s (setCount s p c n) := by
  unfold setCount
  (extract_lets +onlyGivenNames (merge := false) w0; clear_value w0)
  (extract_lets +onlyGivenNames (merge := false) w1; clear_value w1)
  (extract_lets +onlyGivenNames (merge := false) w2; clear_value w2)
  (extract_lets +onlyGivenNames (merge := false) u3; suffices h3 : Changes 1590144 s u3; clear_value u3)
  refine .ite ?_ ?_
  refine .seq logEv_changes ?_ (by decide)
  assumption
  assumption
  dsimp -zeta only [u3]
  refine .seq updPort_changes ?_ (by decide)
  exact .refl

theorem countHw_changes {s : State} {p : PortId} {c : Ctr} {n : Nat} : Changes 1590144 s (countHw s p c n) := by
  unfold countHw
  refine .ite ?_ ?_
  exact .refl
  refine .seq setCount_changes ?_ (by decide)
  exact .refl

theorem voidAlloc_changes {s : State} {p : PortId} : Changes 8 s (voidAlloc s p) := by
  unfold voidAlloc
  refine .seq updPower_changes ?_ (by decide)
  exact .refl

theorem voidAllocs_changes {s : State} : Changes 8 s (voidAllocs s) := by
  unfold voidAllocs
  refine .seq voidAlloc_changes ?_ (by decide)
  refine .seq voidAlloc_changes ?_ (by decide)
  exact .refl

theorem train_changes {s : State} {p : PortId} : Changes 256 s (train s p) := by
  unfold train
  refine .ite ?_ ?_
  exact .refl
  refine .seq updPort_changes ?_ (by decide)
  exact .refl

theorem releaseOne_changes {s : State} {i : Nat} : OptChanges 1792 s (releaseOne s i) := by
  unfold releaseOne
  split
  rename_i _ e0
  exact .none
  rename_i _ _ e1
  split
  rename_i _ _ _ e2
  exact .none
  rename_i _ _ _ _ _ _ e3
  (extract_lets +onlyGivenNames (merge := false) w4; clear_value w4)
  extract_lets +onlyGivenNames (merge := false) w5
  (extract_lets +onlyGivenNames (merge := false) w6; clear_value w6)
  split
  rename_i _ _ _ _ _ _ _ e7
  exact .none
  rename_i _ _ _ _ _ _ _ _ e8
  refine .ite ?_ ?_
  exact .none
  (extract_lets +onlyGivenNames (merge := false) w9; clear_value w9)
  (extract_lets +onlyGivenNames (merge := false) u10; suffices h10 : Changes 1792 s u10; clear_value u10)
  refine .some ?_
  refine .seq enqueue_changes ?_ (by decide)
  refine .seq updConn_changes ?_ (by decide)
  assumption
  dsimp -zeta only [u10]
  refine .seq useNeigh_changes ?_ (by decide)
  exact .refl

theorem releaseN_changes {y0 : Nat} {y1 : State} {y2 : Nat} : Changes 1792 y1 (releaseN y0 y1 y2) := by
  induction y0 generalizing y1 y2
  dsimp -zeta only [releaseN]
  exact .refl
  rename_i m ih
  dsimp -zeta only [releaseN]
  split
  rename_i _ e0
  exact .refl
  rename_i _ u1 e2
  refine .seq ih ?_ (by decide)
  refine Changes.opt ?_ e2
  refine .seq releaseOne_changes ?_ (by decide)
  exact .refl

theorem release_changes {s : State} {i : Nat} : Changes 1792 s (release s i) := by
  unfold release
  refine .seq releaseN_changes ?_ (by decide)
  exact .refl

theorem sendResp_changes {s : State} {i : Nat} {r : Resp} : Changes 1792 s (sendResp s i r) := by
  unfold sendResp
  refine .seq release_changes ?_ (by decide)
  refine .seq updConn_changes ?_ (by decide)
  exact .refl

theorem unsend_changes {s : State} {f : TxFrame} : Changes 1280 s (unsend s f) := by
  unfold unsend
  split
  rename_i _ _ _ _ e0
  refine .seq updConn_changes ?_ (by decide)
  exact .refl
  rename_i _ e1
  refine .ite ?_ ?_
  refine .seq updPorts_changes ?_ (by decide)
  exact .refl
  exact .refl

theorem discardTx_changes {s : State} {p : PortId} : Changes 1591168 s (discardTx s p) := by
  unfold discardTx
  (extract_lets +onlyGivenNames (merge := false) w0; clear_value w0)
  (extract_lets +onlyGivenNames (merge := false) u1; suffices h1 : Changes 1591168 s u1; clear_value u1)
  refine .foldl (fun u2 a2 h2 => ?_) ?_
  refine .seq unsend_changes ?_ (by decide)
  assumption
  refine .seq updPort_changes ?_ (by decide)
  assumption
  dsimp -zeta only [u1]
  refine .seq countHw_changes ?_ (by decide)
  exact .refl

theorem releaseAll_changes {s : State} : Changes 1792 s (releaseAll s) := by
  unfold releaseAll
  refine .seq releaseWait_changes ?_ (by decide)
  refine .foldl (fun u0 a0 h0 => ?_) ?_
  refine .seq release_changes ?_ (by decide)
  assumption
  exact .refl

theorem dropHeld_changes {s : State} {i : Nat} : Changes 10240 s (dropHeld s i) := by
  unfold dropHeld
  (extract_lets +onlyGivenNames (merge := false) u0; suffices h0 : Changes 10240 s u0; clear_value u0)
  refine .seq (updKv_changes ?_) ?_ (by decide)
  exact ⟨Nat.le_refl _, Nat.le_refl _, Nat.le_refl _, Nat.le_refl _, Nat.le_refl _⟩
  assumption
  dsimp -zeta only [u0]
  refine .seq updMedia_changes ?_ (by decide)
  exact .refl

theorem sendReset_changes {s : State} {i : Nat} {c : Conn} : Changes 768 s (sendReset s i c) := by
  unfold sendReset
  refine .seq sendFlow_changes ?_ (by decide)
  exact .refl

theorem sendClose_changes {s : State} {i : Nat} {c : Conn} : Changes 768 s (sendClose s i c) := by
  unfold sendClose
  refine .seq waitSeg_changes ?_ (by decide)
  exact .refl

theorem sendAlert_changes {s : State} {i : Nat} : Changes 1792 s (sendAlert s i) := by
  unfold sendAlert
  refine .seq release_changes ?_ (by decide)
  refine .seq updConn_changes ?_ (by decide)
  exact .refl

theorem dropSegs_changes {s : State} {x : Bool × Nat} : Changes 256 s (dropSegs s x) := by
  unfold dropSegs
  extract_lets +onlyGivenNames (merge := false) w0
  (extract_lets +onlyGivenNames (merge := false) u1; suffices h1 : Changes 256 s u1; clear_value u1)
  refine .seq updPorts_changes ?_ (by decide)
  assumption
  dsimp -zeta only [u1]
  refine .foldl (fun u2 a2 h2 => ?_) ?_
  refine .seq updPort_changes ?_ (by decide)
  assumption
  exact .refl

theorem resetConn_changes {s : State} {i : Nat} : Changes 12032 s (resetConn s i) := by
  unfold resetConn
  split
  rename_i _ e0
  exact .refl
  rename_i _ _ e1
  refine .seq sendReset_changes ?_ (by decide)
  refine .seq dropSegs_changes ?_ (by decide)
  refine .seq dropHeld_changes ?_ (by decide)
  refine .seq (updProto_changes ?_) ?_ (by decide)
  exact Nat.le_refl _
  exact .refl

theorem endClosed_changes {s : State} {i : Nat} : Changes 1792 s (endClosed s i) := by
  unfold endClosed
  split
  rename_i _ e0
  exact .refl
  rename_i _ _ e1
  refine .ite ?_ ?_
  refine .seq sendClose_changes ?_ (by decide)
  refine .seq (updProto_changes ?_) ?_ (by decide)
  exact Nat.le_refl _
  exact .refl
  exact .refl

theorem closeConn_changes {s : State} {i : Nat} : Changes 12032 s (closeConn s i) := by
  unfold closeConn
  split
  rename_i _ e0
  exact .refl
  rename_i _ _ e1
  refine .seq endClosed_changes ?_ (by decide)
  refine .seq dropHeld_changes ?_ (by decide)
  refine .seq updConn_changes ?_ (by decide)
  exact .refl

theorem resetWhere_changes {s : State} {f : Conn → Bool} : Changes 12032 s (resetWhere s f) := by
  unfold resetWhere
  refine .foldl (fun u0 a0 h0 => ?_) ?_
  refine .seq resetConn_changes ?_ (by decide)
  assumption
  exact .refl

theorem announce_changes {s : State} : Changes 768 s (announce s) := by
  unfold announce
  extract_lets +onlyGivenNames (merge := false) w0
  dsimp -zeta only [w0]
  refine .foldl (fun u1 a1 h1 => ?_) ?_
  (extract_lets +onlyGivenNames (merge := false) w2; clear_value w2)
  refine .ite ?_ ?_
  refine .seq sendPlain_changes ?_ (by decide)
  assumption
  refine .seq sendIp_changes ?_ (by decide)
  assumption
  refine .foldl (fun u3 a3 h3 => ?_) ?_
  (extract_lets +onlyGivenNames (merge := false) w4; clear_value w4)
  refine .ite ?_ ?_
  refine .seq sendPlain_changes ?_ (by decide)
  assumption
  refine .seq sendIp_changes ?_ (by decide)
  assumption
  exact .refl

theorem failoverTo_changes {s : State} {p : PortId} : Changes 1591168 s (failoverTo s p) := by
  unfold failoverTo
  (extract_lets +onlyGivenNames (merge := false) u0; suffices h0 : Changes 1591168 s u0; clear_value u0)
  (extract_lets +onlyGivenNames (merge := false) u1; suffices h1 : Changes 1591168 s u1; clear_value u1)
  refine .seq releaseAll_changes ?_ (by decide)
  refine .seq logEv_changes ?_ (by decide)
  refine .seq moveFrames_changes ?_ (by decide)
  assumption
  dsimp -zeta only [u1]
  refine .seq announce_changes ?_ (by decide)
  refine .seq updPorts_changes ?_ (by decide)
  assumption
  dsimp -zeta only [u0]
  split
  rename_i _ _ e2
  refine .ite ?_ ?_
  exact .refl
  refine .seq discardTx_changes ?_ (by decide)
  exact .refl
  rename_i _ e3
  exact .refl

theorem portLost_changes {s : State} {p : PortId} : Changes 1591176 s (portLost s p) := by
  unfold portLost
  (extract_lets +onlyGivenNames (merge := false) w0; clear_value w0)
  (extract_lets +onlyGivenNames (merge := false) u1; suffices h1 : Changes 1591176 s u1; clear_value u1)
  refine .ite ?_ ?_
  refine .ite ?_ ?_
  refine .seq failoverTo_changes ?_ (by decide)
  assumption
  (extract_lets +onlyGivenNames (merge := false) u2; suffices h2 : Changes 1591176 s u2; clear_value u2)
  (extract_lets +onlyGivenNames (merge := false) u3; suffices h3 : Changes 1591176 s u3; clear_value u3)
  refine .seq releaseAll_changes ?_ (by decide)
  assumption
  dsimp -zeta only [u3]
  refine .ite ?_ ?_
  refine .seq updPorts_changes ?_ (by decide)
  assumption
  refine .seq updPorts_changes ?_ (by decide)
  assumption
  dsimp -zeta only [u2]
  refine .seq discardTx_changes ?_ (by decide)
  assumption
  refine .seq releaseAll_changes ?_ (by decide)
  refine .seq discardTx_changes ?_ (by decide)
  assumption
  dsimp -zeta only [u1]
  refine .seq updPort_changes ?_ (by decide)
  refine .seq voidAlloc_changes ?_ (by decide)
  exact .refl

theorem speedMismatch_changes {s : State} : Changes 1590144 s (speedMismatch s) := by
  unfold speedMismatch
  (extract_lets +onlyGivenNames (merge := false) w0; clear_value w0)
  (extract_lets +onlyGivenNames (merge := false) w1; clear_value w1)
  refine .ite ?_ ?_
  refine .seq logEv_changes ?_ (by decide)
  exact .refl
  exact .refl

theorem settlePair_changes {s : State} : Changes 1792 s (settlePair s) := by
  unfold settlePair
  refine .seq releaseAll_changes ?_ (by decide)
  refine .seq moveFrames_changes ?_ (by decide)
  exact .refl

theorem portGained_changes {s : State} {p : PortId} : Changes 1792 s (portGained s p) := by
  unfold portGained
  (extract_lets +onlyGivenNames (merge := false) w0; clear_value w0)
  (extract_lets +onlyGivenNames (merge := false) u1; suffices h1 : Changes 1792 s u1; clear_value u1)
  refine .seq settlePair_changes ?_ (by decide)
  assumption
  dsimp -zeta only [u1]
  split
  rename_i _ e2
  refine .seq updPorts_changes ?_ (by decide)
  exact .refl
  rename_i _ _ e3
  refine .ite ?_ ?_
  refine .seq updPorts_changes ?_ (by decide)
  exact .refl
  exact .refl

theorem noteBlink_changes {s : State} : Changes 4 s (noteBlink s) := by
  unfold noteBlink
  extract_lets +onlyGivenNames (merge := false) w0
  extract_lets +onlyGivenNames (merge := false) w1
  refine .ite ?_ ?_
  refine .seq updBay_changes ?_ (by decide)
  exact .refl
  exact .refl

theorem holdLinks_changes {s : State} : Changes 1591176 s (holdLinks s) := by
  unfold holdLinks
  refine .foldl (fun u0 a0 h0 => ?_) ?_
  refine .seq updPort_changes ?_ (by decide)
  refine .seq discardTx_changes ?_ (by decide)
  assumption
  refine .seq updPorts_changes ?_ (by decide)
  refine .seq voidAllocs_changes ?_ (by decide)
  exact .refl

theorem linkLoss_changes {s : State} {p : PortId} : Changes 1591176 s (linkLoss s p) := by
  unfold linkLoss
  refine .seq portLost_changes ?_ (by decide)
  refine .seq updPort_changes ?_ (by decide)
  refine .seq logEv_changes ?_ (by decide)
  exact .refl

theorem renegotiateNext_changes {s : State} : Changes 1591176 s (renegotiateNext s) := by
  unfold renegotiateNext
  split
  rename_i _ _ _ e0
  exact .refl
  rename_i _ _ e1 e2
  exact .refl
  rename_i _ _ _ _ e3 e4
  (extract_lets +onlyGivenNames (merge := false) w5; clear_value w5)
  (extract_lets +onlyGivenNames (merge := false) u6; suffices h6 : Changes 1591176 s u6; clear_value u6)
  refine .seq train_changes ?_ (by decide)
  refine .ite ?_ ?_
  refine .seq linkLoss_changes ?_ (by decide)
  assumption
  assumption
  dsimp -zeta only [u6]
  refine .seq updPorts_changes ?_ (by decide)
  exact .refl

theorem renegotiated_changes {s : State} {p : PortId} : Changes 1591176 s (renegotiated s p) := by
  unfold renegotiated
  refine .seq renegotiateNext_changes ?_ (by decide)
  refine .ite ?_ ?_
  refine .seq updPorts_changes ?_ (by decide)
  exact .refl
  exact .refl

/-! ### Machine/HaltOps.lean -/

theorem rowWire_changes {s : State} {m : RowMsg} : Changes 768 s (rowWire s m) := by
  unfold rowWire
  refine .seq sendIp_changes ?_ (by decide)
  exact .refl

theorem rowPost_changes {s : State} {m : RowMsg} : Changes 66304 s (rowPost s m) := by
  unfold rowPost
  refine .ite ?_ ?_
  refine .ite ?_ ?_
  refine .seq rowWire_changes ?_ (by decide)
  refine .seq (updRow_changes ?_) ?_ (by decide)
  exact Nat.le_refl _
  exact .refl
  refine .seq (updRow_changes ?_) ?_ (by decide)
  exact Nat.le_refl _
  exact .refl
  refine .seq rowWire_changes ?_ (by decide)
  exact .refl

theorem rowPart_changes {peer : Nat} {refId : Nat} {body : RowBody} {s : State} {i : Nat} : Changes 66304 s (rowPart peer refId body s i) := by
  unfold rowPart
  (extract_lets +onlyGivenNames (merge := false) w0; clear_value w0)
  refine .seq rowPost_changes ?_ (by decide)
  refine .seq (updRow_changes ?_) ?_ (by decide)
  exact Nat.le_refl _
  exact .refl

theorem rowSend_changes {s : State} {peer : Nat} {body : RowBody} {refId : Nat} : Changes 66304 s (rowSend s peer body refId) := by
  unfold rowSend
  refine .foldl (fun u0 a0 h0 => ?_) ?_
  refine .seq rowPart_changes ?_ (by decide)
  assumption
  exact .refl

theorem sendLeave_changes {s : State} : Changes 66304 s (sendLeave s) := by
  unfold sendLeave
  split
  rename_i _ e0
  split
  rename_i _ _ _ e1
  refine .seq rowSend_changes ?_ (by decide)
  exact .refl
  rename_i _ _ e2
  exact .refl
  rename_i _ e3
  split
  rename_i _ _ _ e4
  refine .seq rowSend_changes ?_ (by decide)
  exact .refl
  rename_i _ _ e5
  exact .refl
  exact .refl

theorem goConn_changes {r : HaltReason} {s : State} {i : Nat} : Changes 1792 s (goConn r s i) := by
  unfold goConn
  split
  rename_i _ e0
  exact .refl
  rename_i _ _ e1
  refine .ite ?_ ?_
  split
  rename_i _ _ _ _ _ e2
  (extract_lets +onlyGivenNames (merge := false) w3; clear_value w3)
  refine .seq sendResp_changes ?_ (by decide)
  refine .seq updConn_changes ?_ (by decide)
  exact .refl
  exact .refl

theorem sendGoingAway_changes {s : State} {r : HaltReason} : Changes 1050368 s (sendGoingAway s r) := by
  unfold sendGoingAway
  (extract_lets +onlyGivenNames (merge := false) u0; suffices h0 : Changes 1050368 s u0; clear_value u0)
  split
  rename_i _ _ _ e1
  refine .foldl (fun u2 a2 h2 => ?_) ?_
  split
  refine .seq putLine_changes ?_ (by decide)
  refine .seq emit_changes ?_ (by decide)
  assumption
  assumption
  assumption
  dsimp -zeta only [u0]
  refine .foldl (fun u3 a3 h3 => ?_) ?_
  refine .seq goConn_changes ?_ (by decide)
  assumption
  exact .refl

theorem putGate_changes {s : State} {n : Nat} {k : RecKind} {r : StepResult} : Changes 64 s (putGate s n k r) := by
  unfold putGate
  refine .seq (updBoot_changes ?_) ?_ (by decide)
  exact id
  exact .refl

theorem abortStep_changes {s : State} : Changes 64 s (abortStep s) := by
  unfold abortStep
  (extract_lets +onlyGivenNames (merge := false) u0; suffices h0 : Changes 64 s u0; clear_value u0)
  refine .ite ?_ ?_
  refine .seq putGate_changes ?_ (by decide)
  assumption
  assumption
  dsimp -zeta only [u0]
  refine .foldl (fun u1 a1 h1 => ?_) ?_
  refine .seq putStep_changes ?_ (by decide)
  assumption
  exact .refl

theorem lastLldp_changes {s : State} {p : PortId} : Changes 256 s (lastLldp s p) := by
  unfold lastLldp
  refine .seq sendLink_changes ?_ (by decide)
  exact .refl

theorem beginHalt_changes {s : State} {r : HaltReason} : Changes 1656773 s (beginHalt s r) := by
  unfold beginHalt
  refine .ite ?_ ?_
  (extract_lets +onlyGivenNames (merge := false) u0; suffices h0 : Changes 1656773 s u0; clear_value u0)
  (extract_lets +onlyGivenNames (merge := false) u1; suffices h1 : Changes 1656773 s u1; clear_value u1)
  (extract_lets +onlyGivenNames (merge := false) u2; suffices h2 : Changes 1656773 s u2; clear_value u2)
  (extract_lets +onlyGivenNames (merge := false) u3; suffices h3 : Changes 1656773 s u3; clear_value u3)
  refine .seq setPhase_changes ?_ (by decide)
  assumption
  dsimp -zeta only [u3]
  refine .seq lastLldp_changes ?_ (by decide)
  refine .seq lastLldp_changes ?_ (by decide)
  assumption
  dsimp -zeta only [u2]
  refine .seq (updRow_changes ?_) ?_ (by decide)
  exact Nat.le_refl _
  refine .seq sendLeave_changes ?_ (by decide)
  assumption
  dsimp -zeta only [u1]
  refine .seq sendGoingAway_changes ?_ (by decide)
  assumption
  dsimp -zeta only [u0]
  refine .seq closeWindow_changes ?_ (by decide)
  refine .seq abortStep_changes ?_ (by decide)
  exact .refl
  exact .refl

theorem cutOff_changes {s : State} : Changes 71048 s (cutOff s) := by
  unfold cutOff
  (extract_lets +onlyGivenNames (merge := false) u0; suffices h0 : Changes 71048 s u0; clear_value u0)
  (extract_lets +onlyGivenNames (merge := false) u1; suffices h1 : Changes 71048 s u1; clear_value u1)
  (extract_lets +onlyGivenNames (merge := false) u2; suffices h2 : Changes 71048 s u2; clear_value u2)
  (extract_lets +onlyGivenNames (merge := false) u3; suffices h3 : Changes 71048 s u3; clear_value u3)
  refine .foldl (fun u4 a4 h4 => ?_) ?_
  refine .seq updPort_changes ?_ (by decide)
  assumption
  refine .seq updPorts_changes ?_ (by decide)
  refine .seq voidAllocs_changes ?_ (by decide)
  assumption
  dsimp -zeta only [u3]
  refine .seq (updRow_changes ?_) ?_ (by decide)
  exact Nat.le_refl _
  assumption
  dsimp -zeta only [u2]
  refine .seq (updProto_changes ?_) ?_ (by decide)
  exact Nat.le_refl _
  assumption
  dsimp -zeta only [u1]
  refine .seq (updStalls_changes ?_) ?_ (by decide)
  exact Nat.le_refl _
  assumption
  dsimp -zeta only [u0]
  refine .seq updCon_changes ?_ (by decide)
  exact .refl

theorem restartNow_changes {s : State} : Changes 71117 s (restartNow s) := by
  unfold restartNow
  (extract_lets +onlyGivenNames (merge := false) w0; clear_value w0)
  (extract_lets +onlyGivenNames (merge := false) u1; suffices h1 : Changes 71117 s u1; clear_value u1)
  refine .seq (updBoot_changes ?_) ?_ (by decide)
  exact id
  refine .seq setPhase_changes ?_ (by decide)
  refine .seq cutOff_changes ?_ (by decide)
  assumption
  dsimp -zeta only [u1]
  refine .seq updBay_changes ?_ (by decide)
  exact .refl

/-! ### Machine/Operands.lean -/

theorem putEcho_changes {s : State} {x : SessId} {t : String} : Changes 1049344 s (putEcho s x t) := by
  unfold putEcho
  refine .ite ?_ ?_
  exact .refl
  refine .seq putText_changes ?_ (by decide)
  exact .refl

theorem endMgmt_changes {s : State} {k : Fin 8} {reason : Nat} : Changes 1594240 s (endMgmt s k reason) := by
  unfold endMgmt
  split
  rename_i _ e0
  exact .refl
  rename_i _ _ e1
  (extract_lets +onlyGivenNames (merge := false) u2; suffices h2 : Changes 1594240 s u2; clear_value u2)
  (extract_lets +onlyGivenNames (merge := false) u3; suffices h3 : Changes 1594240 s u3; clear_value u3)
  refine .seq logEv_changes ?_ (by decide)
  assumption
  dsimp -zeta only [u3]
  refine .seq (updStalls_changes ?_) ?_ (by decide)
  exact Nat.le_refl _
  assumption
  dsimp -zeta only [u2]
  refine .seq updCon_changes ?_ (by decide)
  exact .refl

theorem closeMgmt_changes {s : State} {k : Fin 8} {reason : Nat} : Changes 1594240 s (closeMgmt s k reason) := by
  unfold closeMgmt
  split
  rename_i _ e0
  exact .refl
  rename_i _ _ e1
  refine .seq waitSeg_changes ?_ (by decide)
  refine .seq endMgmt_changes ?_ (by decide)
  exact .refl

/-- A mask within a mask within a third. -/
theorem and_trans {a b m : Nat} (h : a &&& b = a) (k : b &&& m = b) : a &&& m = a := by
  rw [← h, Nat.and_assoc, k]

/-- The parts that what follows an answer may change. -/
def afterMask : Option After → Nat
  | none => 0
  | some (.mode _ _) => 1049472
  | some (.baud _) => 4
  | some (.halt _) => 1660877
  | some .restart => 1660877
  | some .close => 1660877

theorem runAfter_changes {s : State} {x : SessId} {a : Option After} : Changes (afterMask a) s (runAfter s x a) := by
  unfold runAfter
  split
  · exact .refl
  · show Changes 1049472 s _
    have h {f : Session → Session} : Changes 1049472 s (updSess s x f) := .seq updSess_changes .refl (by decide)
    dsimp only
    exact .ite (.seq putText_changes h (by decide)) h
  · exact .seq updBay_changes .refl (by simp only [afterMask]; decide)
  · exact .seq beginHalt_changes .refl (by simp only [afterMask]; decide)
  · exact .seq restartNow_changes .refl (by simp only [afterMask]; decide)
  · split
    · exact .seq closeMgmt_changes .refl (by simp only [afterMask]; decide)
    · exact .refl

theorem putReply_changes {s : State} {x : SessId} {tag : Option Nat} {r : Reply} : Changes 1049344 s (putReply s x tag r) := by
  unfold putReply
  split
  rename_i _ e0
  exact .refl
  rename_i _ _ e1
  refine .seq putText_changes ?_ (by decide)
  refine .seq emit_changes ?_ (by decide)
  exact .refl

theorem sendAnswer_changes {s : State} {x : SessId} {tag : Option Nat} {r : Reply} {a : Option After} {m : Nat}
    (e : 1049344 &&& m = 1049344) (k : afterMask a &&& m = afterMask a) : Changes m s (sendAnswer s x tag r a) :=
  .seq runAfter_changes (.seq putReply_changes .refl e) k

theorem afterMask_le {a : Option After} : afterMask a &&& 1660877 = afterMask a := by
  match a with
  | none => decide
  | some (.mode _ _) => simp only [afterMask]; decide
  | some (.baud _) => simp only [afterMask]; decide
  | some (.halt _) => simp only [afterMask]; decide
  | some .restart => simp only [afterMask]; decide
  | some .close => simp only [afterMask]; decide

/-- Sending what is ready may send answers of commands that waited, with what follows them. -/
theorem flushN_changes {n : Nat} {s : State} {x : SessId} : Changes 1660877 s (flushN n s x) := by
  induction n generalizing s with
  | zero => exact .refl
  | succ n ih =>
    unfold flushN
    split
    · exact .refl
    · split
      · refine .seq ih ?_ (by decide)
        refine .seq (sendAnswer_changes (m := 1660877) (by decide) afterMask_le) ?_ (by decide)
        exact .seq updSess_changes .refl (by decide)
      · extract_lets u
        suffices h : Changes 1660877 s u by
          refine .ite h (.seq putEcho_changes (.seq updSess_changes h (by decide)) (by decide))
        dsimp only [u]
        split
        · split
          · exact .seq closeMgmt_changes .refl (by decide)
          · exact .refl
        · exact .refl
      · exact .refl

/-- With no answer owed, nothing more is sent; a session that was closing closes, and what was typed ahead is taken. -/
theorem flushN_empty_changes {n : Nat} {s : State} {x : SessId} {m : Nat} (e : 1594240 &&& m = 1594240)
    (h : ∀ d, getSess s x = some d → d.slots = []) : Changes m s (flushN n s x) := by
  cases n with
  | zero => exact .refl
  | succ n =>
    unfold flushN
    split
    · exact .refl
    · rename_i d hd
      rw [h d hd]
      refine .mono (a := 1594240) ?_ e
      extract_lets u
      suffices h : Changes 1594240 s u by
        refine .ite h (.seq putEcho_changes (.seq updSess_changes h (by decide)) (by decide))
      dsimp only [u]
      split
      · split
        · exact .seq closeMgmt_changes .refl (by decide)
        · exact .refl
      · exact .refl

theorem flushSlots_changes {s : State} {x : SessId} : Changes 1660877 s (flushSlots s x) := by
  unfold flushSlots
  refine .seq flushN_changes ?_ (by decide)
  exact .refl

theorem slots_after {s u : State} {x : SessId} {d : Session} (h : u.con = s.con) (hd : getSess s x = some d)
    (e : d.slots = []) : ∀ b, getSess u x = some b → b.slots = [] := by
  intro b hb
  simp only [getSess, h] at hb
  rw [getSess, hb] at hd
  cases hd
  exact e

theorem find_modify {K V : Type} [DecidableEq K] {m : AMap K V} {k : K} {f : V → V} :
    AMap.find (AMap.modify m k f) k = (AMap.find m k).map f := by
  unfold AMap.modify
  split
  · rename_i h
    simp [h]
  · rename_i v h
    simp [AMap.set, AMap.find, h]

theorem getSess_updSess {s : State} {x : SessId} {f : Session → Session} :
    getSess (updSess s x f) x = (getSess s x).map f := find_modify

/-- The answer itself leaves the consoles as they are. -/
theorem putReply_con {s : State} {x : SessId} {tag : Option Nat} {r : Reply} : (putReply s x tag r).con = s.con :=
  putReply_changes.con (by decide)

/-- Answering changes the console, the port a management answer leaves by, what has left the drive and, when the session
was closing, what its closing changes; beside that only what follows the answer. -/
theorem answer_changes {s : State} {x : SessId} {tag : Option Nat} {r : Reply} {a : Option After} {m : Nat}
    (e : 1594240 &&& m = 1594240) (k : afterMask a &&& m = afterMask a) : Changes m s (answer s x tag r a) := by
  have e2 : (1049344 : Nat) &&& m = 1049344 := and_trans (by decide) e
  have e3 : (128 : Nat) &&& m = 128 := and_trans (by decide) e
  unfold answer
  split
  · exact .refl
  · rename_i d hd
    split
    · rename_i he
      have he : d.slots = [] := by simpa using he
      have key : ∀ {v : State}, Changes m s v → (∀ b, getSess v x = some b → b.slots = []) →
          Changes m s (flushSlots v x) := by
        intro v h1 h2
        unfold flushSlots
        exact .seq (flushN_empty_changes (by rfl) h2) h1 e
      have g := sendAnswer_changes (s := s) (x := x) (tag := tag) (r := r) (a := a) e2 k
      have h0 : ∀ b, getSess (putReply s x tag r) x = some b → b.slots = [] := slots_after putReply_con hd he
      match a, k, g with
      | none, k, g => exact key g h0
      | some (.baud c), k, g => exact key g h0
      | some (.mode mm c), k, g =>
        refine key g ?_
        have hv : ∀ b, getSess (updSess (putReply s x tag r) x (fun d => { d with machine := mm, crc := c })) x = some b →
            b.slots = [] := by
          intro b hb
          rw [getSess_updSess] at hb
          obtain ⟨b', hb', rfl⟩ := Option.map_eq_some_iff.mp hb
          exact h0 b' hb'
        intro b hb
        simp only [sendAnswer, runAfter] at hb
        split at hb
        · refine hv b ?_
          rwa [getSess, putText_changes.con (by decide)] at hb
        · exact hv b hb
      | some (.halt h), k, g => exact .seq flushN_changes g k
      | some .restart, k, g => exact .seq flushN_changes g k
      | some .close, k, g => exact .seq flushN_changes g k
    · exact .seq updSess_changes .refl e3

theorem answerSlot_changes {s : State} {w : Option (SessId × Nat)} {r : Reply} {a : Option After} : Changes 1660877 s (answerSlot s w r a) := by
  unfold answerSlot
  split
  exact .refl
  refine .seq flushSlots_changes ?_ (by decide)
  refine .seq updSess_changes ?_ (by decide)
  exact .refl

/-- How a command's body ends: what it changed by then lies in the mask, and so does what follows its answer. -/
def RunChanges (m : Nat) (s : State) : Run → Prop
  | .say t _ a => Changes m s t ∧ afterMask a &&& m = afterMask a
  | .wait t => Changes m s t

theorem RunChanges.say {m : Nat} {s t : State} {r : Reply} {a : Option After} (h : Changes m s t)
    (k : afterMask a &&& m = afterMask a) : RunChanges m s (.say t r a) := ⟨h, k⟩

theorem RunChanges.say0 {m : Nat} {s t : State} {r : Reply} (h : Changes m s t) : RunChanges m s (.say t r none) :=
  ⟨h, by simp [afterMask]⟩

theorem RunChanges.wait {m : Nat} {s t : State} (h : Changes m s t) : RunChanges m s (.wait t) := h

theorem RunChanges.ite {m : Nat} {s : State} {a b : Run} {c : Prop} [Decidable c] (h : RunChanges m s a)
    (k : RunChanges m s b) : RunChanges m s (if c then a else b) := by split <;> assumption

theorem RunChanges.seq {a m : Nat} {s u : State} {r : Run} (g : RunChanges a u r) (h : Changes m s u) (e : a &&& m = a) :
    RunChanges m s r :=
  match r, g with
  | .say _ _ _, ⟨g, k⟩ => ⟨g.seq h e, and_trans k e⟩
  | .wait _, g => Changes.seq g h e

/-- A console command changes what its body changes and what answering changes. -/
theorem runCmd_changes {s : State} {l : Line} {i : CmdInfo} {bad : Option ErrName} {body : State → Nat → Run} {m : Nat}
    (k : ∀ u n, Changes m s u → RunChanges m s (body u n)) (e : 1594240 &&& m = 1594240) :
    Changes m s (runCmd s l i bad body) := by
  have e3 : (128 : Nat) &&& m = 128 := and_trans (by decide) e
  have e4 : (1049344 : Nat) &&& m = 1049344 := and_trans (by decide) e
  unfold runCmd
  split
  · exact .refl
  · split
    · exact .refl
    · dsimp only
      have h0 : Changes m s (updSess s l.sess (fun d => { d with lastRx := s.clock.ledger, lineReady := none })) :=
        .seq updSess_changes .refl e3
      split
      · exact .seq putReply_changes h0 e4
      · split
        · exact .seq putReply_changes h0 e4
        · split
          · exact .seq (answer_changes e (by simp [afterMask])) h0 (by rw [Nat.and_self])
          · rename_i d _ _ _ _ _ _
            split
            · rename_i heq
              have hb := k _ d.nextSlot h0
              rw [heq] at hb
              exact .seq (answer_changes e hb.2) hb.1 (by rw [Nat.and_self])
            · rename_i heq
              have hb := k _ d.nextSlot h0
              rw [heq] at hb
              exact .seq updSess_changes hb e3

theorem showCmd_changes {s : State} {l : Line} {i : CmdInfo} {bad : Option ErrName} {r : State → Reply} :
    Changes 1594240 s (showCmd s l i bad r) := runCmd_changes (fun _ _ h => .say0 h) (by decide)

/-! ### Machine/PowerOps.lean -/

theorem updFeed_changes {s : State} {p : PortId} {f : Feed → Feed} : Changes 8 s (updFeed s p f) := by
  unfold updFeed
  refine .seq updPower_changes ?_ (by decide)
  exact .refl

theorem renegotiateAll_changes {s : State} : Changes 1591176 s (renegotiateAll s) := by
  unfold renegotiateAll
  refine .ite ?_ ?_
  exact .refl
  (extract_lets +onlyGivenNames (merge := false) w0; clear_value w0)
  (extract_lets +onlyGivenNames (merge := false) w1; clear_value w1)
  (extract_lets +onlyGivenNames (merge := false) u2; suffices h2 : Changes 1591176 s u2; clear_value u2)
  (extract_lets +onlyGivenNames (merge := false) w3; clear_value w3)
  refine .seq renegotiateNext_changes ?_ (by decide)
  refine .seq updPorts_changes ?_ (by decide)
  assumption
  dsimp -zeta only [u2]
  refine .foldl (fun u4 a4 h4 => ?_) ?_
  refine .seq train_changes ?_ (by decide)
  assumption
  exact .refl

theorem setLevel_changes {s : State} {l : Level} : Changes 1591176 s (setLevel s l) := by
  unfold setLevel
  (extract_lets +onlyGivenNames (merge := false) w0; clear_value w0)
  refine .ite ?_ ?_
  exact .refl
  (extract_lets +onlyGivenNames (merge := false) u1; suffices h1 : Changes 1591176 s u1; clear_value u1)
  (extract_lets +onlyGivenNames (merge := false) u2; suffices h2 : Changes 1591176 s u2; clear_value u2)
  refine .ite ?_ ?_
  assumption
  refine .seq renegotiateAll_changes ?_ (by decide)
  assumption
  dsimp -zeta only [u2]
  refine .seq logEv_changes ?_ (by decide)
  assumption
  dsimp -zeta only [u1]
  refine .seq updPower_changes ?_ (by decide)
  exact .refl

theorem noteBudget_changes {s : State} : Changes 8 s (noteBudget s) := by
  unfold noteBudget
  extract_lets +onlyGivenNames (merge := false) w0
  extract_lets +onlyGivenNames (merge := false) w1
  (extract_lets +onlyGivenNames (merge := false) w2; clear_value w2)
  (extract_lets +onlyGivenNames (merge := false) w3; clear_value w3)
  refine .seq updPower_changes ?_ (by decide)
  exact .refl

theorem applyBudget_changes {s : State} : Changes 1591176 s (applyBudget s) := by
  unfold applyBudget
  split
  rename_i _ e0
  exact .refl
  rename_i _ _ e1
  (extract_lets +onlyGivenNames (merge := false) w2; clear_value w2)
  refine .seq noteBudget_changes ?_ (by decide)
  refine .ite ?_ ?_
  refine .seq setLevel_changes ?_ (by decide)
  exact .refl
  exact .refl

theorem noteStandby_changes {s : State} : Changes 8 s (noteStandby s) := by
  unfold noteStandby
  split
  rename_i _ e0
  exact .refl
  rename_i _ _ e1
  refine .ite ?_ ?_
  refine .seq updPower_changes ?_ (by decide)
  exact .refl
  refine .seq updPower_changes ?_ (by decide)
  exact .refl

theorem changeLead_changes {s : State} {p : PortId} {why : Changeover} {energy : Nat} : Changes 1591176 s (changeLead s p why energy) := by
  unfold changeLead
  (extract_lets +onlyGivenNames (merge := false) u0; suffices h0 : Changes 1591176 s u0; clear_value u0)
  (extract_lets +onlyGivenNames (merge := false) u1; suffices h1 : Changes 1591176 s u1; clear_value u1)
  refine .seq noteStandby_changes ?_ (by decide)
  refine .seq applyBudget_changes ?_ (by decide)
  assumption
  dsimp -zeta only [u1]
  refine .seq logEv_changes ?_ (by decide)
  assumption
  dsimp -zeta only [u0]
  refine .seq updPower_changes ?_ (by decide)
  exact .refl

theorem rebudget_changes {s : State} : Changes 1591176 s (rebudget s) := by
  unfold rebudget
  split
  rename_i _ e0
  exact .refl
  rename_i _ _ e1
  refine .ite ?_ ?_
  refine .seq changeLead_changes ?_ (by decide)
  exact .refl
  refine .seq noteStandby_changes ?_ (by decide)
  refine .seq applyBudget_changes ?_ (by decide)
  exact .refl

theorem powerPort_changes {s : State} {p : PortId} {classEvents : Nat} : Changes 1591240 s (powerPort s p classEvents) := by
  unfold powerPort
  refine .ite ?_ ?_
  exact .refl
  (extract_lets +onlyGivenNames (merge := false) u0; suffices h0 : Changes 1591240 s u0; clear_value u0)
  split
  rename_i _ e1
  refine .ite ?_ ?_
  refine .seq (updBoot_changes ?_) ?_ (by decide)
  exact id
  assumption
  assumption
  rename_i _ _ e2
  refine .seq rebudget_changes ?_ (by decide)
  refine .seq logEv_changes ?_ (by decide)
  assumption
  dsimp -zeta only [u0]
  refine .seq updFeed_changes ?_ (by decide)
  exact .refl

theorem recordE_changes {s : State} {e : Nat} : Changes 16392 s (recordE s e) := by
  unfold recordE
  (extract_lets +onlyGivenNames (merge := false) w0; clear_value w0)
  (extract_lets +onlyGivenNames (merge := false) u1; suffices h1 : Changes 16392 s u1; clear_value u1)
  refine .seq updUpkeep_changes ?_ (by decide)
  assumption
  dsimp -zeta only [u1]
  refine .seq updPower_changes ?_ (by decide)
  exact .refl

theorem judgeE_changes {s : State} : Changes 1590152 s (judgeE s) := by
  unfold judgeE
  extract_lets +onlyGivenNames (merge := false) w0
  refine .ite ?_ ?_
  refine .ite ?_ ?_
  exact .refl
  refine .seq logEv_changes ?_ (by decide)
  refine .seq updPower_changes ?_ (by decide)
  exact .refl
  refine .ite ?_ ?_
  refine .seq logEv_changes ?_ (by decide)
  refine .seq updPower_changes ?_ (by decide)
  exact .refl
  exact .refl

theorem measureCell_changes {s : State} : Changes 16392 s (measureCell s) := by
  unfold measureCell
  split
  rename_i _ e0
  refine .seq updPower_changes ?_ (by decide)
  exact .refl
  rename_i _ e1
  refine .seq updPower_changes ?_ (by decide)
  exact .refl
  rename_i _ e2
  (extract_lets +onlyGivenNames (merge := false) w3; clear_value w3)
  refine .seq updUpkeep_changes ?_ (by decide)
  refine .seq updPower_changes ?_ (by decide)
  exact .refl
  rename_i _ e4
  (extract_lets +onlyGivenNames (merge := false) w5; clear_value w5)
  refine .seq updUpkeep_changes ?_ (by decide)
  refine .seq updPower_changes ?_ (by decide)
  exact .refl

theorem askMeasure_changes {s : State} {c : MeasCause} : Changes 16392 s (askMeasure s c) := by
  unfold askMeasure
  (extract_lets +onlyGivenNames (merge := false) u0; suffices h0 : Changes 16392 s u0; clear_value u0)
  refine .seq updPower_changes ?_ (by decide)
  assumption
  dsimp -zeta only [u0]
  refine .seq updUpkeep_changes ?_ (by decide)
  exact .refl

/-! ### Machine/MeterOps.lean -/

theorem putPeriod_changes {s : State} {n : StallNo} {old : Period} {new : Period} {w : Machine.Acc} : Changes 1594240 s (putPeriod s n old new w) := by
  unfold putPeriod
  (extract_lets +onlyGivenNames (merge := false) u0; suffices h0 : Changes 1594240 s u0; clear_value u0)
  refine .ite ?_ ?_
  refine .seq logEv_changes ?_ (by decide)
  assumption
  assumption
  dsimp -zeta only [u0]
  refine .seq updStall_changes ?_ (by decide)
  exact .refl

theorem charge_changes {s : State} {n : StallNo} {w : Machine.Acc} {amount : Nat} : Changes 1594240 s (charge s n w amount) := by
  unfold charge
  split
  rename_i _ e0
  exact .refl
  rename_i _ _ e1
  refine .seq putPeriod_changes ?_ (by decide)
  exact .refl

theorem chargeStored_changes {s : State} {n : StallNo} {use : Nat} {us : Nat} : Changes 1594240 s (chargeStored s n use us) := by
  unfold chargeStored
  split
  rename_i _ e0
  exact .refl
  rename_i _ _ e1
  extract_lets +onlyGivenNames (merge := false) w2
  refine .seq putPeriod_changes ?_ (by decide)
  exact .refl

theorem openPeriod_changes {s : State} {n : StallNo} {closed : Option Period} : Changes 4096 s (openPeriod s n closed) := by
  unfold openPeriod
  extract_lets +onlyGivenNames (merge := false) w0
  extract_lets +onlyGivenNames (merge := false) w1
  (extract_lets +onlyGivenNames (merge := false) w2; clear_value w2)
  (extract_lets +onlyGivenNames (merge := false) w3; clear_value w3)
  refine .seq updStall_changes ?_ (by decide)
  exact .refl

theorem closePeriod_changes {s : State} {n : StallNo} {why : CloseCause} : Changes 1602432 s (closePeriod s n why) := by
  unfold closePeriod
  split
  rename_i _ e0
  exact .refl
  rename_i _ _ e1
  (extract_lets +onlyGivenNames (merge := false) w2; clear_value w2)
  (extract_lets +onlyGivenNames (merge := false) u3; suffices h3 : Changes 1602432 s u3; clear_value u3)
  (extract_lets +onlyGivenNames (merge := false) u4; suffices h4 : Changes 1602432 s u4; clear_value u4)
  split
  assumption
  refine .seq openPeriod_changes ?_ (by decide)
  assumption
  dsimp -zeta only [u4]
  refine .seq logEv_changes ?_ (by decide)
  refine .seq stageLog_changes ?_ (by decide)
  assumption
  dsimp -zeta only [u3]
  refine .seq updStall_changes ?_ (by decide)
  exact .refl

theorem closingRules_changes {st : Step} {s : State} {n : StallNo} : Changes 1602432 s (closingRules st s n) := by
  unfold closingRules
  split
  rename_i _ e0
  exact .refl
  rename_i _ _ e1
  split
  rename_i _ _ _ e2
  exact .refl
  rename_i _ _ _ _ e3
  refine .seq closePeriod_changes ?_ (by decide)
  exact .refl

theorem meterStep_changes {s : State} {st : Step} : Changes 1602432 s (meterStep s st) := by
  unfold meterStep
  (extract_lets +onlyGivenNames (merge := false) u0; suffices h0 : Changes 1602432 s u0; clear_value u0)
  refine .foldl (fun u1 a1 h1 => ?_) ?_
  refine .seq closingRules_changes ?_ (by decide)
  assumption
  assumption
  dsimp -zeta only [u0]
  refine .seq (updStalls_changes ?_) ?_ (by decide)
  exact Nat.le_refl _
  exact .refl

theorem meterSecond_changes {s : State} {n : StallNo} : Changes 1602432 s (meterSecond s n) := by
  unfold meterSecond
  refine .seq closingRules_changes ?_ (by decide)
  refine .seq chargeStored_changes ?_ (by decide)
  exact .refl

theorem meterAfterStart_changes {s : State} : Changes 1602496 s (meterAfterStart s) := by
  unfold meterAfterStart
  extract_lets +onlyGivenNames (merge := false) w0
  (extract_lets +onlyGivenNames (merge := false) u1; suffices h1 : Changes 1602496 s u1; clear_value u1)
  (extract_lets +onlyGivenNames (merge := false) u2; suffices h2 : Changes 1602496 s u2; clear_value u2)
  refine .foldl (fun u3 a3 h3 => ?_) ?_
  refine .seq closingRules_changes ?_ (by decide)
  assumption
  assumption
  dsimp -zeta only [u2]
  refine .seq (updBoot_changes ?_) ?_ (by decide)
  exact id
  assumption
  dsimp -zeta only [u1]
  refine .foldl (fun u4 a4 h4 => ?_) ?_
  refine .seq chargeStored_changes ?_ (by decide)
  assumption
  exact .refl

/-! ### Machine/NetOps.lean -/

theorem learn_changes {s : State} {k : IfNo} {a : IpAddr} {m : MacAddr} : Changes 512 s (learn s k a m) := by
  unfold learn
  refine .seq updNet_changes ?_ (by decide)
  exact .refl

theorem setSource_changes {s : State} {w : WState} : Changes 1590146 s (setSource s w) := by
  unfold setSource
  (extract_lets +onlyGivenNames (merge := false) w0; clear_value w0)
  (extract_lets +onlyGivenNames (merge := false) u1; suffices h1 : Changes 1590146 s u1; clear_value u1)
  refine .ite ?_ ?_
  refine .seq logEv_changes ?_ (by decide)
  assumption
  assumption
  dsimp -zeta only [u1]
  refine .seq (updClock_changes ?_) ?_ (by decide)
  exact ⟨Nat.le_refl _, rfl, id⟩
  exact .refl

theorem stepWall_changes {s : State} {src : StepSource} {w : WState} {offset : Int} : Changes 1602434 s (stepWall s src w offset) := by
  unfold stepWall
  (extract_lets +onlyGivenNames (merge := false) w0; clear_value w0)
  extract_lets +onlyGivenNames (merge := false) w1
  (extract_lets +onlyGivenNames (merge := false) u2; suffices h2 : Changes 1602434 s u2; clear_value u2)
  (extract_lets +onlyGivenNames (merge := false) u3; suffices h3 : Changes 1602434 s u3; clear_value u3)
  (extract_lets +onlyGivenNames (merge := false) u4; suffices h4 : Changes 1602434 s u4; clear_value u4)
  (extract_lets +onlyGivenNames (merge := false) u5; suffices h5 : Changes 1602434 s u5; clear_value u5)
  refine .seq meterStep_changes ?_ (by decide)
  assumption
  dsimp -zeta only [u5]
  refine .seq logEv_changes ?_ (by decide)
  assumption
  dsimp -zeta only [u4]
  refine .seq checkpoint_changes ?_ (by decide)
  refine .seq writeRtc_changes ?_ (by decide)
  assumption
  dsimp -zeta only [u3]
  refine .seq setSource_changes ?_ (by decide)
  assumption
  dsimp -zeta only [u2]
  refine .seq (updClock_changes ?_) ?_ (by decide)
  exact ⟨Nat.le_refl _, rfl, fun _ => rfl⟩
  exact .refl

theorem discipline_changes {s : State} {src : StepSource} {w : WState} {offset : Int} {stratum : Nat} : Changes 1602434 s (discipline s src w offset stratum) := by
  unfold discipline
  (extract_lets +onlyGivenNames (merge := false) u0; suffices h0 : Changes 1602434 s u0; clear_value u0)
  refine .ite ?_ ?_
  refine .seq stepWall_changes ?_ (by decide)
  assumption
  (extract_lets +onlyGivenNames (merge := false) u1; suffices h1 : Changes 1602434 s u1; clear_value u1)
  refine .ite ?_ ?_
  (extract_lets +onlyGivenNames (merge := false) w2; clear_value w2)
  (extract_lets +onlyGivenNames (merge := false) u3; suffices h3 : Changes 1602434 s u3; clear_value u3)
  refine .ite ?_ ?_
  assumption
  refine .seq logEv_changes ?_ (by decide)
  refine .seq (updClock_changes ?_) ?_ (by decide)
  exact ⟨Nat.le_refl _, rfl, id⟩
  assumption
  dsimp -zeta only [u3]
  refine .seq (updClock_changes ?_) ?_ (by decide)
  exact ⟨Nat.le_refl _, rfl, id⟩
  assumption
  (extract_lets +onlyGivenNames (merge := false) u4; suffices h4 : Changes 1602434 s u4; clear_value u4)
  refine .ite ?_ ?_
  refine .seq (updClock_changes ?_) ?_ (by decide)
  exact ⟨Nat.le_refl _, rfl, id⟩
  assumption
  refine .seq stepWall_changes ?_ (by decide)
  assumption
  dsimp -zeta only [u4]
  refine .seq (updClock_changes ?_) ?_ (by decide)
  exact ⟨Nat.le_refl _, rfl, id⟩
  assumption
  dsimp -zeta only [u1]
  refine .seq setSource_changes ?_ (by decide)
  assumption
  dsimp -zeta only [u0]
  refine .seq (updClock_changes ?_) ?_ (by decide)
  exact ⟨Nat.le_refl _, rfl, id⟩
  exact .refl

theorem sourceLost_changes {s : State} {w : WState} : Changes 1590146 s (sourceLost s w) := by
  unfold sourceLost
  refine .ite ?_ ?_
  (extract_lets +onlyGivenNames (merge := false) u0; suffices h0 : Changes 1590146 s u0; clear_value u0)
  refine .ite ?_ ?_
  refine .seq setSource_changes ?_ (by decide)
  assumption
  refine .seq setSource_changes ?_ (by decide)
  assumption
  dsimp -zeta only [u0]
  refine .seq (updClock_changes ?_) ?_ (by decide)
  exact ⟨Nat.le_refl _, rfl, id⟩
  exact .refl
  exact .refl

theorem ptpLost_changes {s : State} : Changes 1590146 s (ptpLost s) := by
  unfold ptpLost
  refine .seq sourceLost_changes ?_ (by decide)
  refine .seq (updClock_changes ?_) ?_ (by decide)
  exact ⟨Nat.le_refl _, rfl, id⟩
  exact .refl

theorem ntpLost_changes {s : State} : Changes 1590146 s (ntpLost s) := by
  unfold ntpLost
  refine .seq sourceLost_changes ?_ (by decide)
  refine .seq (updClock_changes ?_) ?_ (by decide)
  exact ⟨Nat.le_refl _, rfl, id⟩
  exact .refl

theorem refreshNtp_changes {s : State} : Changes 1590146 s (refreshNtp s) := by
  unfold refreshNtp
  refine .ite ?_ ?_
  exact .refl
  (extract_lets +onlyGivenNames (merge := false) w0; clear_value w0)
  (extract_lets +onlyGivenNames (merge := false) w1; clear_value w1)
  (extract_lets +onlyGivenNames (merge := false) u2; suffices h2 : Changes 1590146 s u2; clear_value u2)
  split
  rename_i _ e3
  assumption
  rename_i _ _ e4
  refine .ite ?_ ?_
  assumption
  split
  rename_i _ _ _ _ e5
  refine .seq (updClock_changes ?_) ?_ (by decide)
  exact ⟨Nat.le_refl _, rfl, id⟩
  assumption
  rename_i _ _ _ e6
  refine .seq ntpLost_changes ?_ (by decide)
  assumption
  dsimp -zeta only [u2]
  refine .seq (updClock_changes ?_) ?_ (by decide)
  exact ⟨Nat.le_refl _, rfl, id⟩
  exact .refl

theorem resetMgmt_changes {s : State} {f : Session → Bool} : Changes 1594240 s (resetMgmt s f) := by
  unfold resetMgmt
  refine .foldl (fun u0 a0 h0 => ?_) ?_
  split
  rename_i _ _ e1
  refine .seq sendFlow_changes ?_ (by decide)
  refine .seq dropSegs_changes ?_ (by decide)
  refine .seq endMgmt_changes ?_ (by decide)
  assumption
  assumption
  exact .refl

theorem lostSource_changes {s : State} {k : IfNo} {v4 : Bool} : Changes 1590146 s (lostSource s k v4) := by
  unfold lostSource
  refine .ite ?_ ?_
  exact .refl
  extract_lets +onlyGivenNames (merge := false) w0
  (extract_lets +onlyGivenNames (merge := false) u1; suffices h1 : Changes 1590146 s u1; clear_value u1)
  split
  rename_i _ e2
  assumption
  rename_i _ _ e3
  refine .ite ?_ ?_
  refine .seq ntpLost_changes ?_ (by decide)
  assumption
  assumption
  dsimp -zeta only [u1]
  refine .ite ?_ ?_
  refine .seq ptpLost_changes ?_ (by decide)
  exact .refl
  exact .refl

theorem removeAddr_changes {s : State} {k : IfNo} {a : IpAddr} : Changes 1605506 s (removeAddr s k a) := by
  unfold removeAddr
  (extract_lets +onlyGivenNames (merge := false) u0; suffices h0 : Changes 1605506 s u0; clear_value u0)
  (extract_lets +onlyGivenNames (merge := false) u1; suffices h1 : Changes 1605506 s u1; clear_value u1)
  (extract_lets +onlyGivenNames (merge := false) u2; suffices h2 : Changes 1605506 s u2; clear_value u2)
  refine .seq lostSource_changes ?_ (by decide)
  assumption
  dsimp -zeta only [u2]
  refine .seq resetMgmt_changes ?_ (by decide)
  assumption
  dsimp -zeta only [u1]
  refine .seq resetWhere_changes ?_ (by decide)
  assumption
  dsimp -zeta only [u0]
  refine .seq updIfc_changes ?_ (by decide)
  exact .refl

theorem addAddr_changes {s : State} {k : IfNo} {r : AddrRec} : Changes 768 s (addAddr s k r) := by
  unfold addAddr
  (extract_lets +onlyGivenNames (merge := false) w0; clear_value w0)
  (extract_lets +onlyGivenNames (merge := false) u1; suffices h1 : Changes 768 s u1; clear_value u1)
  refine .ite ?_ ?_
  refine .seq sendPlain_changes ?_ (by decide)
  assumption
  refine .seq sendIp_changes ?_ (by decide)
  assumption
  dsimp -zeta only [u1]
  refine .seq updIfc_changes ?_ (by decide)
  exact .refl

theorem request4_changes {s : State} {k : IfNo} {a : IpAddr} : Changes 768 s (request4 s k a) := by
  unfold request4
  refine .seq sendIp_changes ?_ (by decide)
  exact .refl

theorem discover_changes {s : State} {k : IfNo} {wait : Nat} : Changes 768 s (discover s k wait) := by
  unfold discover
  refine .seq sendIp_changes ?_ (by decide)
  refine .seq updIfc_changes ?_ (by decide)
  exact .refl

theorem startDhcp4_changes {s : State} {k : IfNo} : Changes 768 s (startDhcp4 s k) := by
  unfold startDhcp4
  split
  rename_i _ _ e0
  refine .seq request4_changes ?_ (by decide)
  refine .seq updIfc_changes ?_ (by decide)
  exact .refl
  rename_i _ e1
  refine .seq discover_changes ?_ (by decide)
  exact .refl

theorem solicit_changes {s : State} {k : IfNo} : Changes 768 s (solicit s k) := by
  unfold solicit
  refine .seq sendIp_changes ?_ (by decide)
  refine .seq updIfc_changes ?_ (by decide)
  exact .refl

theorem request6_changes {s : State} {k : IfNo} : Changes 768 s (request6 s k) := by
  unfold request6
  refine .seq sendIp_changes ?_ (by decide)
  exact .refl

theorem solicitRouter_changes {s : State} {k : IfNo} : Changes 768 s (solicitRouter s k) := by
  unfold solicitRouter
  refine .seq sendIp_changes ?_ (by decide)
  exact .refl

theorem beginIf_changes {s : State} {k : IfNo} : Changes 768 s (beginIf s k) := by
  unfold beginIf
  refine .ite ?_ ?_
  exact .refl
  (extract_lets +onlyGivenNames (merge := false) u0; suffices h0 : Changes 768 s u0; clear_value u0)
  (extract_lets +onlyGivenNames (merge := false) u1; suffices h1 : Changes 768 s u1; clear_value u1)
  split
  rename_i _ e2
  refine .ite ?_ ?_
  assumption
  refine .seq solicitRouter_changes ?_ (by decide)
  refine .seq updIfc_changes ?_ (by decide)
  assumption
  rename_i _ e3
  refine .ite ?_ ?_
  refine .seq solicit_changes ?_ (by decide)
  assumption
  assumption
  rename_i _ e4
  refine .ite ?_ ?_
  assumption
  refine .seq addAddr_changes ?_ (by decide)
  assumption
  assumption
  dsimp -zeta only [u1]
  split
  rename_i _ e5
  refine .ite ?_ ?_
  refine .seq startDhcp4_changes ?_ (by decide)
  assumption
  assumption
  rename_i _ e6
  refine .ite ?_ ?_
  assumption
  refine .seq addAddr_changes ?_ (by decide)
  assumption
  assumption
  dsimp -zeta only [u0]
  refine .ite ?_ ?_
  exact .refl
  refine .seq addAddr_changes ?_ (by decide)
  exact .refl

theorem beginAll_changes {s : State} : Changes 768 s (beginAll s) := by
  unfold beginAll
  refine .foldl (fun u0 a0 h0 => ?_) ?_
  refine .seq beginIf_changes ?_ (by decide)
  assumption
  exact .refl

theorem refreshIf_changes {s : State} {k : IfNo} : Changes 1605506 s (refreshIf s k) := by
  unfold refreshIf
  (extract_lets +onlyGivenNames (merge := false) w0; clear_value w0)
  (extract_lets +onlyGivenNames (merge := false) u1; suffices h1 : Changes 1605506 s u1; clear_value u1)
  (extract_lets +onlyGivenNames (merge := false) u2; suffices h2 : Changes 1605506 s u2; clear_value u2)
  (extract_lets +onlyGivenNames (merge := false) u3; suffices h3 : Changes 1605506 s u3; clear_value u3)
  (extract_lets +onlyGivenNames (merge := false) u4; suffices h4 : Changes 1605506 s u4; clear_value u4)
  refine .seq beginIf_changes ?_ (by decide)
  assumption
  dsimp -zeta only [u4]
  refine .seq resetMgmt_changes ?_ (by decide)
  assumption
  dsimp -zeta only [u3]
  refine .seq resetWhere_changes ?_ (by decide)
  assumption
  dsimp -zeta only [u2]
  refine .seq updIfc_changes ?_ (by decide)
  assumption
  dsimp -zeta only [u1]
  refine .foldl (fun u5 a5 h5 => ?_) ?_
  refine .seq removeAddr_changes ?_ (by decide)
  assumption
  exact .refl

theorem refreshIfs_changes {s : State} : Changes 1605506 s (refreshIfs s) := by
  unfold refreshIfs
  refine .foldl (fun u0 a0 h0 => ?_) ?_
  refine .seq refreshIf_changes ?_ (by decide)
  assumption
  exact .refl

theorem forgetNet_changes {s : State} : Changes 512 s (forgetNet s) := by
  unfold forgetNet
  refine .seq updNet_changes ?_ (by decide)
  exact .refl

/-! ### Machine/MediaOps.lean -/

theorem updBand_changes {s : State} {n : Nat} {f : Band → Band} : Changes 8192 s (updBand s n f) := by
  unfold updBand
  refine .seq updMedia_changes ?_ (by decide)
  exact .refl

theorem updBlock_changes {s : State} {k : BlockId} {f : Block → Block} : Changes 8192 s (updBlock s k f) := by
  unfold updBlock
  refine .seq updMedia_changes ?_ (by decide)
  exact .refl

theorem gcRefresh_changes {s : State} : Changes 1590144 s (gcRefresh s) := by
  unfold gcRefresh
  extract_lets +onlyGivenNames (merge := false) w0
  (extract_lets +onlyGivenNames (merge := false) w1; clear_value w1)
  (extract_lets +onlyGivenNames (merge := false) w2; clear_value w2)
  refine .ite ?_ ?_
  exact .refl
  (extract_lets +onlyGivenNames (merge := false) u3; suffices h3 : Changes 1590144 s u3; clear_value u3)
  refine .seq logEv_changes ?_ (by decide)
  assumption
  dsimp -zeta only [u3]
  refine .seq updUpkeep_changes ?_ (by decide)
  exact .refl

theorem eraseRec_changes {s : State} {k : BlockId} {kind : EraseKind} {p : Purpose} : Changes 16384 s (eraseRec s k kind p) := by
  unfold eraseRec
  (extract_lets +onlyGivenNames (merge := false) w0; clear_value w0)
  refine .seq updUpkeep_changes ?_ (by decide)
  exact .refl

theorem blockErased_changes {s : State} {k : BlockId} : Changes 8192 s (blockErased s k) := by
  unfold blockErased
  refine .seq updBlock_changes ?_ (by decide)
  exact .refl

theorem eraseNow_changes {s : State} {p : Purpose} {k : BlockId} : Changes 24576 s (eraseNow s p k) := by
  unfold eraseNow
  refine .seq eraseRec_changes ?_ (by decide)
  refine .seq blockErased_changes ?_ (by decide)
  refine .seq eraseRec_changes ?_ (by decide)
  exact .refl

theorem eraseMarked_changes {s : State} {n : Nat} : Changes 24576 s (eraseMarked s n) := by
  unfold eraseMarked
  refine .foldl (fun u0 a0 h0 => ?_) ?_
  refine .seq eraseNow_changes ?_ (by decide)
  assumption
  exact .refl

theorem openBand_changes {s : State} {k : BedKind} {bin : Nat} {binEnd : Nat} {rebuild : Bool} : PairChanges 1598336 s (openBand s k bin binEnd rebuild) := by
  unfold openBand
  refine .ite ?_ ?_
  exact .none
  split
  rename_i _ e0
  exact .none
  rename_i _ _ e1
  split
  rename_i _ _ _ e2
  exact .none
  rename_i _ _ _ _ e3
  (extract_lets +onlyGivenNames (merge := false) u4; suffices h4 : Changes 1598336 s u4; clear_value u4)
  (extract_lets +onlyGivenNames (merge := false) w5; clear_value w5)
  (extract_lets +onlyGivenNames (merge := false) u6; suffices h6 : Changes 1598336 s u6; clear_value u6)
  refine .some ?_
  dsimp -zeta only
  refine .seq gcRefresh_changes ?_ (by decide)
  refine .seq stageLog_changes ?_ (by decide)
  assumption
  dsimp -zeta only [u6]
  refine .seq updBand_changes ?_ (by decide)
  assumption
  dsimp -zeta only [u4]
  refine .seq eraseMarked_changes ?_ (by decide)
  exact .refl

theorem bedOf_changes {s : State} {k : BedKind} {rebuild : Bool} : PairChanges 1598336 s (bedOf s k rebuild) := by
  unfold bedOf
  split
  rename_i _ _ _ _ e0
  refine .some ?_
  dsimp -zeta only
  exact .refl
  rename_i _ e1
  refine .seq openBand_changes ?_ (by decide)
  exact .refl

theorem hostBed_changes {s : State} {bin binEnd : Nat} : PairChanges 1598336 s (hostBed s bin binEnd) := by
  unfold hostBed
  split
  · exact .some .refl
  · dsimp only
    split
    · rename_i r h
      refine .some ?_
      split at h
      · exact .seq (openBand_changes _ _ h) .refl (by decide)
      · cases h
    · split
      · exact .some .refl
      · exact .some .refl
      · exact .seq bedOf_changes .refl (by decide)

theorem putPage_changes {s : State} {n : Nat} {p : PageRec} : Changes 8192 s (putPage s n p).2 := by
  unfold putPage
  (extract_lets +onlyGivenNames (merge := false) w0; clear_value w0)
  extract_lets +onlyGivenNames (merge := false) w1
  (extract_lets +onlyGivenNames (merge := false) w2; clear_value w2)
  (extract_lets +onlyGivenNames (merge := false) u3; suffices h3 : Changes 8192 s u3; clear_value u3)
  (extract_lets +onlyGivenNames (merge := false) w4; clear_value w4)
  (extract_lets +onlyGivenNames (merge := false) u5; suffices h5 : Changes 8192 s u5; clear_value u5)
  dsimp -zeta only
  refine .ite ?_ ?_
  refine .seq stageLog_changes ?_ (by decide)
  assumption
  assumption
  dsimp -zeta only [u5]
  refine .seq updBand_changes ?_ (by decide)
  assumption
  dsimp -zeta only [u3]
  refine .seq updMedia_changes ?_ (by decide)
  exact .refl

theorem settleDirty_changes {s : State} {ws : List Nat} : Changes 10240 s (settleDirty s ws) := by
  unfold settleDirty
  extract_lets +onlyGivenNames (merge := false) w0
  refine .seq updMedia_changes ?_ (by decide)
  refine .seq (updKv_changes ?_) ?_ (by decide)
  exact ⟨Nat.le_refl _, Nat.le_refl _, Nat.le_refl _, Nat.le_refl _, Nat.le_refl _⟩
  exact .refl

theorem issuePack_changes {s : State} {x : StallNo × Nat} : Changes 8192 s (issuePack s x) := by
  unfold issuePack
  split
  rename_i _ e0
  exact .refl
  rename_i _ _ e1
  refine .seq issue_changes ?_ (by decide)
  refine .seq updMedia_changes ?_ (by decide)
  exact .refl

theorem issuePacksOf_changes {s : State} {w : Nat} : Changes 8192 s (issuePacksOf s w) := by
  unfold issuePacksOf
  refine .foldl (fun u0 a0 h0 => ?_) ?_
  refine .seq issuePack_changes ?_ (by decide)
  assumption
  exact .refl

theorem putMeta_changes {s : State} {p : PageRec} {y2 : Nat} : Changes 1598336 s (putMeta s p y2) := by
  induction y2 generalizing s p
  dsimp -zeta only [putMeta]
  exact .refl
  rename_i m ih
  dsimp -zeta only [putMeta]
  split
  rename_i _ e0
  exact .refl
  rename_i _ _ u1 e2
  refine .seq ih ?_ (by decide)
  refine .seq putPage_changes ?_ (by decide)
  refine Changes.pair ?_ e2
  refine .seq bedOf_changes ?_ (by decide)
  exact .refl

theorem programEntries_changes {s : State} {es : List LogEntry} : Changes 1598336 s (programEntries s es) := by
  unfold programEntries
  extract_lets +onlyGivenNames (merge := false) w0
  extract_lets +onlyGivenNames (merge := false) w1
  (extract_lets +onlyGivenNames (merge := false) u2; suffices h2 : Changes 1598336 s u2; clear_value u2)
  refine .seq updMedia_changes ?_ (by decide)
  assumption
  dsimp -zeta only [u2]
  refine .seq putMeta_changes ?_ (by decide)
  exact .refl

theorem syncLog_changes {s : State} : Changes 1598336 s (syncLog s) := by
  unfold syncLog
  (extract_lets +onlyGivenNames (merge := false) w0; clear_value w0)
  (extract_lets +onlyGivenNames (merge := false) w1; clear_value w1)
  refine .ite ?_ ?_
  exact .refl
  refine .seq programEntries_changes ?_ (by decide)
  refine .seq updMedia_changes ?_ (by decide)
  exact .refl

theorem mapPage_changes {s : State} {lpn : Nat} {n : Nat} {i : Nat} {recs : List (ObjKey × Nat)} : Changes 8192 s (mapPage s lpn n i recs) := by
  unfold mapPage
  refine .ite ?_ ?_
  refine .seq stageLog_changes ?_ (by decide)
  refine .seq updMedia_changes ?_ (by decide)
  exact .refl
  exact .refl

theorem completeProg_changes {s : State} {p : Prog} : Changes 1598336 s (completeProg s p) := by
  unfold completeProg
  split
  refine .seq programEntries_changes ?_ (by decide)
  exact .refl
  split
  rename_i _ _ _ _ _ _ _ _ _ e0
  refine .seq issue_changes ?_ (by decide)
  exact .refl
  rename_i _ _ _ _ _ _ _ _ _ _ u1 e2
  split
  rename_i _ _ _ _ _ _ _ _ _ _ _ _ u3 e4
  refine .seq mapPage_changes ?_ (by decide)
  refine Changes.snd ?_ e4
  refine .seq putPage_changes ?_ (by decide)
  refine Changes.pair ?_ e2
  refine .seq hostBed_changes ?_ (by decide)
  exact .refl

theorem programDone_changes {s : State} {i : Nat} : Changes 1600384 s (programDone s i) := by
  unfold programDone
  split
  rename_i _ e0
  exact .refl
  rename_i _ _ e1
  (extract_lets +onlyGivenNames (merge := false) u2; suffices h2 : Changes 1600384 s u2; clear_value u2)
  refine .seq settleDirty_changes ?_ (by decide)
  assumption
  dsimp -zeta only [u2]
  refine .seq completeProg_changes ?_ (by decide)
  refine .seq updMedia_changes ?_ (by decide)
  exact .refl

theorem takeLpns_changes {s : State} {n : Nat} : Changes 8192 s (takeLpns s n).2 := by
  unfold takeLpns
  extract_lets +onlyGivenNames (merge := false) w0
  dsimp -zeta only
  refine .seq updMedia_changes ?_ (by decide)
  exact .refl

theorem bufferRecord_changes {s : State} {w : Nat} {bs : List Byte} : Changes 8192 s (bufferRecord s w bs) := by
  unfold bufferRecord
  refine .seq updMedia_changes ?_ (by decide)
  exact .refl

theorem placeRecord_changes {s : State} {k : ObjKey} {len : Nat} {bin : Nat} {binEnd : Nat} {w : Nat} : Changes 8192 s (placeRecord s k len bin binEnd w).2 := by
  unfold placeRecord
  split
  (extract_lets +onlyGivenNames (merge := false) w0; clear_value w0)
  (extract_lets +onlyGivenNames (merge := false) u1; suffices h1 : Changes 8192 s u1; clear_value u1)
  split
  rename_i _ _ _ u2 e3
  (extract_lets +onlyGivenNames (merge := false) u4; suffices h4 : Changes 8192 s u4; clear_value u4)
  dsimp -zeta only
  assumption
  dsimp -zeta only [u4]
  split
  rename_i _ _ _ _ _ e5
  refine .ite ?_ ?_
  refine .seq issuePack_changes ?_ (by decide)
  refine Changes.snd ?_ e3
  split
  rename_i _ _ _ _ _ _ _ e6
  dsimp -zeta only
  refine .seq updMedia_changes ?_ (by decide)
  assumption
  rename_i _ _ _ _ _ _ e7
  split
  rename_i _ _ _ _ _ _ _ _ u8 e9
  extract_lets +onlyGivenNames (merge := false) w10
  dsimp -zeta only
  refine .seq updMedia_changes ?_ (by decide)
  refine Changes.snd ?_ e9
  refine .seq takeLpns_changes ?_ (by decide)
  assumption
  refine Changes.snd ?_ e3
  split
  rename_i _ _ _ _ _ _ _ e11
  dsimp -zeta only
  refine .seq updMedia_changes ?_ (by decide)
  assumption
  rename_i _ _ _ _ _ _ e12
  split
  rename_i _ _ _ _ _ _ _ _ u13 e14
  extract_lets +onlyGivenNames (merge := false) w15
  dsimp -zeta only
  refine .seq updMedia_changes ?_ (by decide)
  refine Changes.snd ?_ e14
  refine .seq takeLpns_changes ?_ (by decide)
  assumption
  rename_i _ _ _ _ e16
  refine Changes.snd ?_ e3
  split
  rename_i _ _ _ _ _ _ e17
  dsimp -zeta only
  refine .seq updMedia_changes ?_ (by decide)
  assumption
  rename_i _ _ _ _ _ e18
  split
  rename_i _ _ _ _ _ _ _ u19 e20
  extract_lets +onlyGivenNames (merge := false) w21
  dsimp -zeta only
  refine .seq updMedia_changes ?_ (by decide)
  refine Changes.snd ?_ e20
  refine .seq takeLpns_changes ?_ (by decide)
  assumption
  dsimp -zeta only [u1]
  split
  rename_i _ _ _ e22
  refine .ite ?_ ?_
  refine .seq issuePack_changes ?_ (by decide)
  exact .refl
  exact .refl
  rename_i _ _ e23
  exact .refl
  split
  rename_i _ _ _ u24 e25
  (extract_lets +onlyGivenNames (merge := false) u26; suffices h26 : Changes 8192 s u26; clear_value u26)
  dsimp -zeta only
  assumption
  dsimp -zeta only [u26]
  refine .foldl (fun u27 a27 h27 => ?_) ?_
  refine .seq issue_changes ?_ (by decide)
  assumption
  refine Changes.snd ?_ e25
  refine .seq takeLpns_changes ?_ (by decide)
  exact .refl

theorem unmap_changes {s : State} {ls : List Nat} : Changes 8192 s (unmap s ls) := by
  unfold unmap
  (extract_lets +onlyGivenNames (merge := false) w0; clear_value w0)
  refine .ite ?_ ?_
  exact .refl
  refine .seq stageLog_changes ?_ (by decide)
  refine .seq updMedia_changes ?_ (by decide)
  exact .refl

theorem dropAbsent_changes {s : State} {r : ObjKey × Nat} : Changes 10240 s (dropAbsent s r) := by
  unfold dropAbsent
  split
  rename_i _ _ e0
  refine .ite ?_ ?_
  refine .seq stageLog_changes ?_ (by decide)
  refine .seq (updKv_changes ?_) ?_ (by decide)
  exact ⟨Nat.le_refl _, Nat.le_refl _, Nat.le_refl _, Nat.le_refl _, Nat.le_refl _⟩
  exact .refl
  exact .refl
  rename_i _ e1
  exact .refl

theorem addReads_changes {s : State} {k : BlockId} {n : Nat} : Changes 24576 s (addReads s k n) := by
  unfold addReads
  extract_lets +onlyGivenNames (merge := false) w0
  (extract_lets +onlyGivenNames (merge := false) u1; suffices h1 : Changes 24576 s u1; clear_value u1)
  refine .ite ?_ ?_
  refine .seq updUpkeep_changes ?_ (by decide)
  assumption
  assumption
  dsimp -zeta only [u1]
  refine .seq updBlock_changes ?_ (by decide)
  exact .refl

theorem readPage_changes {s : State} {n : Nat} {i : Nat} : Changes 24576 s (readPage s n i) := by
  unfold readPage
  (extract_lets +onlyGivenNames (merge := false) w0; clear_value w0)
  split
  rename_i _ _ _ e1
  refine .seq addReads_changes ?_ (by decide)
  exact .refl
  rename_i _ e2
  exact .refl

theorem copyPage_changes {bed0 : Bool} {rebuild : Bool} {n : Nat} {i : Nat} {p : PageRec} {s : State} : OptChanges 1600384 s (copyPage bed0 rebuild n i p s) := by
  unfold copyPage
  split
  rename_i _ e0
  refine .ite ?_ ?_
  refine .mapPair (fun x1 u1 h1 => ?_) ?_
  refine .seq putPage_changes ?_ (by decide)
  dsimp -zeta only
  assumption
  refine .seq bedOf_changes ?_ (by decide)
  exact .refl
  refine .some ?_
  exact .refl
  rename_i _ _ e2
  refine .ite ?_ ?_
  refine .some ?_
  exact .refl
  (extract_lets +onlyGivenNames (merge := false) u3; suffices h3 : Changes 1600384 s u3; clear_value u3)
  (extract_lets +onlyGivenNames (merge := false) w4; clear_value w4)
  refine .ite ?_ ?_
  refine .some ?_
  refine .seq unmap_changes ?_ (by decide)
  assumption
  refine .mapPair (fun x5 u5 h5 => ?_) ?_
  split
  rename_i _ _ _ _ u6 e7
  refine .seq stageLog_changes ?_ (by decide)
  refine .seq updMedia_changes ?_ (by decide)
  refine Changes.snd ?_ e7
  refine .seq putPage_changes ?_ (by decide)
  refine .seq readPage_changes ?_ (by decide)
  dsimp -zeta only
  assumption
  refine .seq bedOf_changes ?_ (by decide)
  assumption
  dsimp -zeta only [u3]
  refine .foldl (fun u8 a8 h8 => ?_) ?_
  refine .seq dropAbsent_changes ?_ (by decide)
  assumption
  exact .refl

theorem copyPages_changes {bed0 : Bool} {rebuild : Bool} {n : Nat} {ps : List (PageRec × Nat)} {s : State} : OptChanges 1600384 s (copyPages bed0 rebuild n ps s) := by
  unfold copyPages
  refine .map (fun u0 h0 => ?_) ?_
  refine .seq syncLog_changes ?_ (by decide)
  assumption
  refine .foldl (fun u1 a1 h1 => ?_) ?_
  refine .bind (fun u2 h2 => ?_) ?_
  refine .seq copyPage_changes ?_ (by decide)
  assumption
  assumption
  refine .some ?_
  exact .refl

theorem padStripe_changes {s : State} {n : Nat} : Changes 8192 s (padStripe s n) := by
  unfold padStripe
  (extract_lets +onlyGivenNames (merge := false) w0; clear_value w0)
  extract_lets +onlyGivenNames (merge := false) w1
  extract_lets +onlyGivenNames (merge := false) w2
  extract_lets +onlyGivenNames (merge := false) w3
  refine .foldl (fun u4 a4 h4 => ?_) ?_
  refine .ite ?_ ?_
  refine .seq putPage_changes ?_ (by decide)
  assumption
  assumption
  exact .refl

theorem closeBand_changes {s : State} {n : Nat} : Changes 8192 s (closeBand s n) := by
  unfold closeBand
  refine .ite ?_ ?_
  exact .refl
  (extract_lets +onlyGivenNames (merge := false) u0; suffices h0 : Changes 8192 s u0; clear_value u0)
  refine .seq stageLog_changes ?_ (by decide)
  refine .seq updBand_changes ?_ (by decide)
  assumption
  dsimp -zeta only [u0]
  refine .seq padStripe_changes ?_ (by decide)
  exact .refl

theorem pageLost_changes {s : State} {n : Nat} {b : Band} {i : Nat} {recs : List (ObjKey × Nat)} : Changes 1600384 s (pageLost s n b i recs) := by
  unfold pageLost
  (extract_lets +onlyGivenNames (merge := false) w0; clear_value w0)
  (extract_lets +onlyGivenNames (merge := false) u1; suffices h1 : Changes 1600384 s u1; clear_value u1)
  (extract_lets +onlyGivenNames (merge := false) u2; suffices h2 : Changes 1600384 s u2; clear_value u2)
  refine .seq logEv_changes ?_ (by decide)
  assumption
  dsimp -zeta only [u2]
  refine .seq updMedia_changes ?_ (by decide)
  assumption
  dsimp -zeta only [u1]
  refine .seq (updKv_changes ?_) ?_ (by decide)
  exact ⟨Nat.le_refl _, Nat.le_refl _, Nat.le_refl _, Nat.le_refl _, Nat.le_refl _⟩
  exact .refl

theorem pageRebuilt_changes {s : State} {n : Nat} {i : Nat} {p : PageRec} : Changes 1600384 s (pageRebuilt s n i p) := by
  unfold pageRebuilt
  (extract_lets +onlyGivenNames (merge := false) w0; clear_value w0)
  split
  rename_i _ e1
  exact .refl
  rename_i _ _ _ e2
  (extract_lets +onlyGivenNames (merge := false) w3; clear_value w3)
  (extract_lets +onlyGivenNames (merge := false) u4; suffices h4 : Changes 1600384 s u4; clear_value u4)
  (extract_lets +onlyGivenNames (merge := false) u5; suffices h5 : Changes 1600384 s u5; clear_value u5)
  (extract_lets +onlyGivenNames (merge := false) w6; clear_value w6)
  (extract_lets +onlyGivenNames (merge := false) w7; clear_value w7)
  (extract_lets +onlyGivenNames (merge := false) u8; suffices h8 : Changes 1600384 s u8; clear_value u8)
  split
  rename_i _ _ _ _ e9
  assumption
  rename_i _ _ _ _ u10 e11
  refine .ite ?_ ?_
  refine .getD ?_ ?_
  refine .seq copyPages_changes ?_ (by decide)
  refine Changes.opt ?_ e11
  refine .seq copyPages_changes ?_ (by decide)
  assumption
  refine Changes.opt ?_ e11
  refine .seq copyPages_changes ?_ (by decide)
  assumption
  refine Changes.opt ?_ e11
  refine .seq copyPages_changes ?_ (by decide)
  assumption
  dsimp -zeta only [u8]
  refine .seq updBlock_changes ?_ (by decide)
  assumption
  dsimp -zeta only [u5]
  refine .seq logEv_changes ?_ (by decide)
  assumption
  dsimp -zeta only [u4]
  refine .foldl (fun u12 a12 h12 => ?_) ?_
  refine .seq addReads_changes ?_ (by decide)
  assumption
  exact .refl

/-! ### Machine/UpkeepOps.lean -/

theorem takeSpare_changes {s : State} {k : BlockId} : PairChanges 1598336 s (takeSpare s k) := by
  unfold takeSpare
  (extract_lets +onlyGivenNames (merge := false) w0; clear_value w0)
  extract_lets +onlyGivenNames (merge := false) w1
  extract_lets +onlyGivenNames (merge := false) w2
  refine .mapTo (fun x3 u3 h3 => ?_) ?_
  dsimp -zeta only
  refine .ite ?_ ?_
  refine .seq logEv_changes ?_ (by decide)
  assumption
  assumption
  dsimp -zeta only [w2]
  refine .ite ?_ ?_
  refine .some ?_
  dsimp -zeta only
  refine .seq updMedia_changes ?_ (by decide)
  exact .refl
  split
  rename_i _ _ e4
  refine .some ?_
  dsimp -zeta only
  refine .seq updMedia_changes ?_ (by decide)
  exact .refl
  rename_i _ e5
  exact .none

theorem retireBlock_changes {s : State} {k : BlockId} {c : RetireCause} : Changes 1598336 s (retireBlock s k c) := by
  unfold retireBlock
  (extract_lets +onlyGivenNames (merge := false) u0; suffices h0 : Changes 1598336 s u0; clear_value u0)
  (extract_lets +onlyGivenNames (merge := false) w1; clear_value w1)
  (extract_lets +onlyGivenNames (merge := false) u2; suffices h2 : Changes 1598336 s u2; clear_value u2)
  refine .seq logEv_changes ?_ (by decide)
  assumption
  dsimp -zeta only [u2]
  refine .seq updUpkeep_changes ?_ (by decide)
  assumption
  dsimp -zeta only [u0]
  refine .seq updBlock_changes ?_ (by decide)
  exact .refl

theorem substitute_changes {s : State} {n : Nat} {c : Fin 16} : Changes 1598336 s (substitute s n c) := by
  unfold substitute
  (extract_lets +onlyGivenNames (merge := false) w0; clear_value w0)
  (extract_lets +onlyGivenNames (merge := false) w1; clear_value w1)
  (extract_lets +onlyGivenNames (merge := false) w2; clear_value w2)
  split
  rename_i _ _ u3 e4
  refine .seq updBand_changes ?_ (by decide)
  refine Changes.pair ?_ e4
  refine .seq takeSpare_changes ?_ (by decide)
  exact .refl
  rename_i _ e5
  refine .seq updBand_changes ?_ (by decide)
  exact .refl

theorem mendBand_changes {s : State} {n : Nat} : Changes 1598336 s (mendBand s n) := by
  unfold mendBand
  refine .foldl (fun u0 a0 h0 => ?_) ?_
  (extract_lets +onlyGivenNames (merge := false) u1; suffices h1 : Changes 1598336 s u1; clear_value u1)
  refine .ite ?_ ?_
  refine .seq substitute_changes ?_ (by decide)
  assumption
  assumption
  dsimp -zeta only [u1]
  split
  rename_i _ _ e2
  refine .seq retireBlock_changes ?_ (by decide)
  assumption
  rename_i _ e3
  assumption
  exact .refl

theorem donorBand_changes {s : State} {n : Nat} : Changes 8192 s (donorBand s n) := by
  unfold donorBand
  (extract_lets +onlyGivenNames (merge := false) w0; clear_value w0)
  refine .ite ?_ ?_
  (extract_lets +onlyGivenNames (merge := false) w1; clear_value w1)
  refine .seq stageLog_changes ?_ (by decide)
  refine .seq updMedia_changes ?_ (by decide)
  refine .seq updBand_changes ?_ (by decide)
  exact .refl
  exact .refl

theorem startErase_changes {s : State} {n : Nat} {p : Purpose} {copied : Nat} : Changes 24576 s (startErase s n p copied) := by
  unfold startErase
  (extract_lets +onlyGivenNames (merge := false) w0; clear_value w0)
  (extract_lets +onlyGivenNames (merge := false) w1; clear_value w1)
  (extract_lets +onlyGivenNames (merge := false) u2; suffices h2 : Changes 24576 s u2; clear_value u2)
  (extract_lets +onlyGivenNames (merge := false) u3; suffices h3 : Changes 24576 s u3; clear_value u3)
  refine .seq updUpkeep_changes ?_ (by decide)
  assumption
  dsimp -zeta only [u3]
  refine .foldl (fun u4 a4 h4 => ?_) ?_
  refine .seq eraseRec_changes ?_ (by decide)
  assumption
  assumption
  dsimp -zeta only [u2]
  refine .foldl (fun u5 a5 h5 => ?_) ?_
  refine .seq updBlock_changes ?_ (by decide)
  assumption
  exact .refl

theorem emptyBand_changes {s : State} {n : Nat} {p : Purpose} {bed0 : Bool} {rebuild : Bool} : OptChanges 1600384 s (emptyBand s n p bed0 rebuild) := by
  unfold emptyBand
  (extract_lets +onlyGivenNames (merge := false) u0; suffices h0 : Changes 1600384 s u0; clear_value u0)
  refine .map (fun u1 h1 => ?_) ?_
  refine .seq startErase_changes ?_ (by decide)
  assumption
  refine .seq copyPages_changes ?_ (by decide)
  assumption
  dsimp -zeta only [u0]
  refine .seq closeBand_changes ?_ (by decide)
  exact .refl

theorem gcStep_changes {s : State} : Changes 1600384 s (gcStep s) := by
  unfold gcStep
  refine .ite ?_ ?_
  split
  rename_i _ _ e0
  refine .getD ?_ ?_
  refine .seq emptyBand_changes ?_ (by decide)
  exact .refl
  exact .refl
  rename_i _ e1
  exact .refl
  exact .refl

theorem scrubBuffers_changes {s : State} {k : ObjKey} : Changes 8192 s (scrubBuffers s k) := by
  unfold scrubBuffers
  extract_lets +onlyGivenNames (merge := false) w0
  (extract_lets +onlyGivenNames (merge := false) w1; clear_value w1)
  refine .seq updMedia_changes ?_ (by decide)
  exact .refl

theorem markShred_changes {s : State} {n : Nat} : Changes 8192 s (markShred s n) := by
  unfold markShred
  refine .seq stageLog_changes ?_ (by decide)
  refine .seq updBand_changes ?_ (by decide)
  refine .seq closeBand_changes ?_ (by decide)
  exact .refl

theorem shredStep_changes {s : State} : Changes 1600384 s (shredStep s) := by
  unfold shredStep
  refine .ite ?_ ?_
  refine .foldl (fun u0 a0 h0 => ?_) ?_
  refine .getD ?_ ?_
  refine .seq emptyBand_changes ?_ (by decide)
  assumption
  assumption
  exact .refl
  exact .refl

theorem keyErase_changes {s : State} {x : StallNo} : Changes 1600384 s (keyErase s x) := by
  unfold keyErase
  (extract_lets +onlyGivenNames (merge := false) u0; suffices h0 : Changes 1600384 s u0; clear_value u0)
  (extract_lets +onlyGivenNames (merge := false) w1; clear_value w1)
  (extract_lets +onlyGivenNames (merge := false) u2; suffices h2 : Changes 1600384 s u2; clear_value u2)
  refine .seq shredStep_changes ?_ (by decide)
  assumption
  dsimp -zeta only [u2]
  refine .foldl (fun u3 a3 h3 => ?_) ?_
  refine .seq updBand_changes ?_ (by decide)
  refine .seq markShred_changes ?_ (by decide)
  assumption
  assumption
  dsimp -zeta only [u0]
  refine .seq syncLog_changes ?_ (by decide)
  exact .refl

theorem degradeBand_changes {c : Fin 16} {s : State} {n : Nat} : Changes 1600384 s (degradeBand c s n) := by
  unfold degradeBand
  (extract_lets +onlyGivenNames (merge := false) w0; clear_value w0)
  refine .ite ?_ ?_
  exact .refl
  split
  rename_i _ e1
  (extract_lets +onlyGivenNames (merge := false) w2; clear_value w2)
  (extract_lets +onlyGivenNames (merge := false) u3; suffices h3 : Changes 1600384 s u3; clear_value u3)
  (extract_lets +onlyGivenNames (merge := false) u4; suffices h4 : Changes 1600384 s u4; clear_value u4)
  refine .seq stageLog_changes ?_ (by decide)
  refine .seq updBand_changes ?_ (by decide)
  assumption
  dsimp -zeta only [u4]
  refine .seq updMedia_changes ?_ (by decide)
  assumption
  dsimp -zeta only [u3]
  refine .foldl (fun u5 a5 h5 => ?_) ?_
  refine .seq pageLost_changes ?_ (by decide)
  assumption
  exact .refl
  rename_i _ e6
  (extract_lets +onlyGivenNames (merge := false) w7; clear_value w7)
  (extract_lets +onlyGivenNames (merge := false) u8; suffices h8 : Changes 1600384 s u8; clear_value u8)
  (extract_lets +onlyGivenNames (merge := false) u9; suffices h9 : Changes 1600384 s u9; clear_value u9)
  refine .seq stageLog_changes ?_ (by decide)
  refine .seq updBand_changes ?_ (by decide)
  assumption
  dsimp -zeta only [u9]
  refine .seq updMedia_changes ?_ (by decide)
  assumption
  dsimp -zeta only [u8]
  refine .foldl (fun u10 a10 h10 => ?_) ?_
  refine .seq pageLost_changes ?_ (by decide)
  assumption
  exact .refl
  rename_i _ e11
  (extract_lets +onlyGivenNames (merge := false) w12; clear_value w12)
  (extract_lets +onlyGivenNames (merge := false) u13; suffices h13 : Changes 1600384 s u13; clear_value u13)
  (extract_lets +onlyGivenNames (merge := false) u14; suffices h14 : Changes 1600384 s u14; clear_value u14)
  refine .seq stageLog_changes ?_ (by decide)
  refine .seq updBand_changes ?_ (by decide)
  assumption
  dsimp -zeta only [u14]
  refine .seq updMedia_changes ?_ (by decide)
  assumption
  dsimp -zeta only [u13]
  refine .foldl (fun u15 a15 h15 => ?_) ?_
  refine .seq pageLost_changes ?_ (by decide)
  assumption
  exact .refl
  exact .refl

theorem narrowBeds_changes {s : State} {c : Fin 16} : Changes 8192 s (narrowBeds s c) := by
  unfold narrowBeds
  refine .foldl (fun u0 a0 h0 => ?_) ?_
  refine .seq updBand_changes ?_ (by decide)
  assumption
  exact .refl

theorem loseDie_changes {s : State} {c : Fin 16} {t : Fin 8} : Changes 1600384 s (loseDie s c t) := by
  unfold loseDie
  refine .ite ?_ ?_
  exact .refl
  (extract_lets +onlyGivenNames (merge := false) u0; suffices h0 : Changes 1600384 s u0; clear_value u0)
  (extract_lets +onlyGivenNames (merge := false) u1; suffices h1 : Changes 1600384 s u1; clear_value u1)
  (extract_lets +onlyGivenNames (merge := false) w2; clear_value w2)
  refine .seq gcRefresh_changes ?_ (by decide)
  refine .foldl (fun u3 a3 h3 => ?_) ?_
  refine .seq degradeBand_changes ?_ (by decide)
  assumption
  assumption
  dsimp -zeta only [u1]
  refine .seq logEv_changes ?_ (by decide)
  assumption
  dsimp -zeta only [u0]
  refine .seq updMedia_changes ?_ (by decide)
  exact .refl

theorem loseChannel_changes {s : State} {c : Fin 16} : Changes 1600384 s (loseChannel s c) := by
  unfold loseChannel
  (extract_lets +onlyGivenNames (merge := false) u0; suffices h0 : Changes 1600384 s u0; clear_value u0)
  refine .seq updUpkeep_changes ?_ (by decide)
  assumption
  dsimp -zeta only [u0]
  refine .foldl (fun u1 a1 h1 => ?_) ?_
  refine .seq loseDie_changes ?_ (by decide)
  assumption
  exact .refl

theorem rebuildStep_changes {s : State} : Changes 1600384 s (rebuildStep s) := by
  unfold rebuildStep
  refine .ite ?_ ?_
  exact .refl
  split
  rename_i _ e0
  refine .seq logEv_changes ?_ (by decide)
  refine .seq updMedia_changes ?_ (by decide)
  exact .refl
  split
  rename_i _ _ _ e1
  exact .refl
  rename_i _ _ _ _ e2
  split
  rename_i _ _ _ _ _ u3 e4
  refine .seq updMedia_changes ?_ (by decide)
  refine Changes.opt ?_ e4
  refine .seq emptyBand_changes ?_ (by decide)
  exact .refl
  rename_i _ _ _ _ _ e5
  refine .ite ?_ ?_
  exact .refl
  refine .seq logEv_changes ?_ (by decide)
  refine .seq updMedia_changes ?_ (by decide)
  exact .refl

theorem lifeCheck_changes {s : State} : Changes 1590144 s (lifeCheck s) := by
  unfold lifeCheck
  refine .foldl (fun u0 a0 h0 => ?_) ?_
  refine .ite ?_ ?_
  refine .seq logEv_changes ?_ (by decide)
  refine .seq updUpkeep_changes ?_ (by decide)
  assumption
  assumption
  exact .refl

theorem patrolLateCheck_changes {s : State} : Changes 1590144 s (patrolLateCheck s) := by
  unfold patrolLateCheck
  extract_lets +onlyGivenNames (merge := false) w0
  refine .ite ?_ ?_
  refine .seq logEv_changes ?_ (by decide)
  refine .seq updUpkeep_changes ?_ (by decide)
  exact .refl
  exact .refl

/-! ### Machine/DieOps.lean -/

theorem progBed_changes {s : State} {y1 : Prog} : PairChanges 1598336 s (progBed s y1) := by
  unfold progBed
  split
  refine .seq hostBed_changes ?_ (by decide)
  exact .refl
  refine .seq bedOf_changes ?_ (by decide)
  exact .refl

theorem wakeWork_changes {s : State} : Changes 16 s (wakeWork s) := by
  unfold wakeWork
  (extract_lets +onlyGivenNames (merge := false) u0; suffices h0 : Changes 16 s u0; clear_value u0)
  refine .foldl (fun u1 a1 h1 => ?_) ?_
  refine .seq wakeIsl_changes ?_ (by decide)
  assumption
  assumption
  dsimp -zeta only [u0]
  refine .ite ?_ ?_
  exact .refl
  refine .seq wakeIsl_changes ?_ (by decide)
  exact .refl

theorem completeStarted_changes {s : State} : Changes 1600384 s (completeStarted s) := by
  unfold completeStarted
  (extract_lets +onlyGivenNames (merge := false) w0; clear_value w0)
  (extract_lets +onlyGivenNames (merge := false) w1; clear_value w1)
  (extract_lets +onlyGivenNames (merge := false) w2; clear_value w2)
  (extract_lets +onlyGivenNames (merge := false) u3; suffices h3 : Changes 1600384 s u3; clear_value u3)
  refine .seq settleDirty_changes ?_ (by decide)
  assumption
  dsimp -zeta only [u3]
  refine .foldl (fun u4 a4 h4 => ?_) ?_
  refine .seq completeProg_changes ?_ (by decide)
  assumption
  refine .seq updMedia_changes ?_ (by decide)
  exact .refl

/-! ### Machine/ArcOps.lean -/

theorem countArc_changes {s : State} {c : ArcCtr} {n : Nat} : Changes 32768 s (countArc s c n) := by
  unfold countArc
  refine .seq updArc_changes ?_ (by decide)
  exact .refl

theorem handleOf_changes {s : State} {k : ObjKey} : Changes 32768 s (handleOf s k).2 := by
  unfold handleOf
  split
  rename_i _ _ e0
  dsimp -zeta only
  exact .refl
  rename_i _ e1
  (extract_lets +onlyGivenNames (merge := false) w2; clear_value w2)
  extract_lets +onlyGivenNames (merge := false) w3
  dsimp -zeta only
  refine .seq updArc_changes ?_ (by decide)
  exact .refl

theorem pushArc_changes {s : State} {c : ArcCmd} : Changes 32768 s (pushArc s c) := by
  unfold pushArc
  refine .seq updArc_changes ?_ (by decide)
  exact .refl

theorem popArc_changes {s : State} : Changes 32768 s (popArc s) := by
  unfold popArc
  refine .seq updArc_changes ?_ (by decide)
  exact .refl

theorem keepCmds_changes {s : State} {keep : ArcCmd → Bool} : Changes 32768 s (keepCmds s keep) := by
  unfold keepCmds
  refine .seq updArc_changes ?_ (by decide)
  exact .refl

theorem dropCmds_changes {s : State} {id : Nat} : Changes 32768 s (dropCmds s id) := by
  unfold dropCmds
  refine .seq keepCmds_changes ?_ (by decide)
  exact .refl

theorem clearAt_changes {s : State} {pos : Nat} : Changes 32768 s (clearAt s pos) := by
  unfold clearAt
  refine .seq updArc_changes ?_ (by decide)
  exact .refl

theorem writeAt_changes {s : State} {pos : Nat} {e : ArcEntry} : Changes 32768 s (writeAt s pos e) := by
  unfold writeAt
  refine .seq updArc_changes ?_ (by decide)
  exact .refl

theorem moveEntry_changes {s : State} {x : Nat} {y : Nat} : Changes 32768 s (moveEntry s x y) := by
  unfold moveEntry
  split
  rename_i _ e0
  refine .seq clearAt_changes ?_ (by decide)
  exact .refl
  rename_i _ _ e1
  refine .seq countArc_changes ?_ (by decide)
  refine .seq updArc_changes ?_ (by decide)
  exact .refl

theorem insertEntry_changes {v : State} {s : State} {e : ArcEntry} : OptChanges 32768 s (insertEntry v s e) := by
  unfold insertEntry
  refine .mapAny (fun x0 => ?_)
  refine .seq writeAt_changes ?_ (by decide)
  refine .foldl (fun u1 a1 h1 => ?_) ?_
  refine .seq moveEntry_changes ?_ (by decide)
  assumption
  exact .refl

theorem insertMaking_changes {v : State} {s : State} {e : ArcEntry} : OptChanges 32768 s (insertMaking v s e) := by
  unfold insertMaking
  split
  rename_i _ u0 e1
  refine .some ?_
  refine Changes.opt ?_ e1
  refine .seq insertEntry_changes ?_ (by decide)
  exact .refl
  rename_i _ e2
  refine .seq insertEntry_changes ?_ (by decide)
  refine .foldl (fun u3 a3 h3 => ?_) ?_
  refine .seq clearAt_changes ?_ (by decide)
  assumption
  exact .refl

theorem planInsert_changes {v s : State} {e : ArcEntry} {u : State} {pl : List (Nat × Nat) × Nat}
    (h : planInsert v s e = some (u, pl)) : Changes 32768 s u := by
  have hd : Changes 32768 s ((deadEntries s e.owner).foldl clearAt s) :=
    .foldl (fun _ _ k => .seq clearAt_changes k (by decide)) .refl
  unfold planInsert at h
  split at h
  · cases h; exact .refl
  · split at h
    · cases h; exact .refl
    · obtain ⟨x, -, hx⟩ := Option.map_eq_some_iff.mp h
      cases hx
      exact hd

theorem dropEntries_changes {s : State} {k : ObjKey} {count : Nat} : Changes 32768 s (dropEntries s k count) := by
  unfold dropEntries
  split
  rename_i _ e0
  exact .refl
  rename_i _ _ e1
  (extract_lets +onlyGivenNames (merge := false) w2; clear_value w2)
  (extract_lets +onlyGivenNames (merge := false) u3; suffices h3 : Changes 32768 s u3; clear_value u3)
  refine .ite ?_ ?_
  refine .seq updArc_changes ?_ (by decide)
  assumption
  assumption
  dsimp -zeta only [u3]
  refine .foldl (fun u4 a4 h4 => ?_) ?_
  refine .seq pushArc_changes ?_ (by decide)
  assumption
  exact .refl

theorem restoreEntries_changes {s : State} {k : ObjKey} : Changes 32768 s (restoreEntries s k) := by
  unfold restoreEntries
  split
  rename_i _ _ e0
  refine .ite ?_ ?_
  refine .seq dropEntries_changes ?_ (by decide)
  exact .refl
  split
  rename_i _ _ _ _ u1 e2
  (extract_lets +onlyGivenNames (merge := false) u3; suffices h3 : Changes 32768 s u3; clear_value u3)
  refine .seq dropEntries_changes ?_ (by decide)
  assumption
  dsimp -zeta only [u3]
  refine .foldl (fun u4 a4 h4 => ?_) ?_
  refine .seq pushArc_changes ?_ (by decide)
  assumption
  refine Changes.snd ?_ e2
  refine .seq handleOf_changes ?_ (by decide)
  exact .refl
  rename_i _ e5
  refine .seq dropEntries_changes ?_ (by decide)
  exact .refl

theorem clearStall_changes {s : State} {x : StallNo} : Changes 32768 s (clearStall s x) := by
  unfold clearStall
  refine .seq updArc_changes ?_ (by decide)
  exact .refl

theorem stepInsert_changes {s : State} {c : ArcCmd} {e : ArcEntry} : Changes 32768 s (stepInsert s c e).1 := by
  have key : ∀ {u : State} {pl : List (Nat × Nat) × Nat},
      (match s.arc.plan with | some pl => some (s, pl) | none => planInsert (cmdView s c) s e) = some (u, pl) → Changes 32768 s u := by
    intro u pl h
    split at h
    · cases h; exact .refl
    · exact planInsert_changes h
  unfold stepInsert
  split
  · exact .refl
  · rename_i h; dsimp only
    refine .seq updArc_changes ?_ (by decide)
    exact .seq moveEntry_changes (key h) (by decide)
  · rename_i h; dsimp only
    refine .seq updArc_changes ?_ (by decide)
    exact .seq writeAt_changes (key h) (by decide)

theorem runArcCmd_changes {s : State} {c : ArcCmd} : Changes 32768 s (runArcCmd s c).1 := by
  unfold runArcCmd
  split
  split
  rename_i _ _ _ _ _ _ _ e0
  dsimp -zeta only
  refine .seq writeAt_changes ?_ (by decide)
  exact .refl
  rename_i _ _ _ _ _ _ e1
  split
  rename_i _ _ _ _ _ _ _ u2 e3
  dsimp -zeta only
  refine Changes.opt ?_ e3
  refine .seq insertMaking_changes ?_ (by decide)
  exact .refl
  rename_i _ _ _ _ _ _ _ e4
  dsimp -zeta only
  exact .refl
  dsimp -zeta only
  split
  rename_i _ _ _ _ _ _ e5
  refine .seq clearAt_changes ?_ (by decide)
  exact .refl
  rename_i _ _ _ _ _ e6
  exact .refl
  extract_lets +onlyGivenNames (merge := false) w7
  split
  dsimp -zeta only
  refine .seq writeAt_changes ?_ (by decide)
  exact .refl
  dsimp -zeta only
  refine .seq countArc_changes ?_ (by decide)
  refine .seq writeAt_changes ?_ (by decide)
  refine .seq writeAt_changes ?_ (by decide)
  exact .refl

theorem headOp_changes {s : State} {c : ArcCmd} : Changes 32768 s (headOp s c).1 := by
  unfold headOp
  split
  refine .seq stepInsert_changes ?_ (by decide)
  exact .refl
  split
  rename_i _ _ _ u0 _ e1
  dsimp -zeta only
  refine Changes.fst ?_ e1
  refine .seq runArcCmd_changes ?_ (by decide)
  exact .refl

theorem countFind_changes {v : State} {s : State} {x : StallNo} {ws : List Word64} {g : Word64} : Changes 32768 s (countFind v s x ws g) := by
  unfold countFind
  extract_lets +onlyGivenNames (merge := false) w0
  extract_lets +onlyGivenNames (merge := false) w1
  refine .seq countArc_changes ?_ (by decide)
  refine .seq countArc_changes ?_ (by decide)
  exact .refl

theorem saveArcImage_changes {s : State} : Changes 32768 s (saveArcImage s) := by
  unfold saveArcImage
  refine .seq updArc_changes ?_ (by decide)
  exact .refl

/-! ### Machine/KvOps.lean -/

theorem updChan_changes {s : State} {i : Nat} {ch : Nat} {f : Chan → Chan} : Changes 1024 s (updChan s i ch f) := by
  unfold updChan
  refine .seq updConn_changes ?_ (by decide)
  exact .refl

theorem countP_changes {s : State} {c : ProtoCtr} {n : Nat} : Changes 1024 s (countP s c n) := by
  unfold countP
  refine .seq (updProto_changes ?_) ?_ (by decide)
  exact Nat.le_refl _
  exact .refl

theorem sendSame_changes {s : State} {i : Nat} {r : Resp} : Changes 1792 s (sendSame s i r) := by
  unfold sendSame
  refine .seq sendResp_changes ?_ (by decide)
  refine .ite ?_ ?_
  refine .seq countP_changes ?_ (by decide)
  exact .refl
  exact .refl

theorem sendFrame_changes {s : State} {i : Nat} {r : Resp} : Changes 1792 s (sendFrame s i r) := by
  unfold sendFrame
  refine .seq sendSame_changes ?_ (by decide)
  exact .refl

theorem chargeRead_changes {s : State} {r : Resp} : Changes 1594240 s (chargeRead s r) := by
  unfold chargeRead
  refine .ite ?_ ?_
  refine .seq charge_changes ?_ (by decide)
  exact .refl
  exact .refl

theorem endChan_changes {s : State} {i : Nat} {ch : Nat} : Changes 1792 s (endChan s i ch) := by
  unfold endChan
  split
  rename_i _ _ _ _ e0 e1
  split
  rename_i _ _ _ _ _ _ e2
  refine .ite ?_ ?_
  (extract_lets +onlyGivenNames (merge := false) u3; suffices h3 : Changes 1792 s u3; clear_value u3)
  refine .seq sendFrame_changes ?_ (by decide)
  assumption
  dsimp -zeta only [u3]
  refine .seq updConn_changes ?_ (by decide)
  exact .refl
  exact .refl
  rename_i _ _ _ _ _ e4
  exact .refl
  exact .refl

theorem endConn_changes {s : State} {i : Nat} : Changes 12032 s (endConn s i) := by
  unfold endConn
  split
  rename_i _ _ e0
  refine .ite ?_ ?_
  refine .seq closeConn_changes ?_ (by decide)
  exact .refl
  exact .refl
  rename_i _ e1
  exact .refl

theorem pumpN_changes {y0 : Nat} {y1 : State} {y2 : Nat} {y3 : Nat} : Changes 1595264 y1 (pumpN y0 y1 y2 y3) := by
  induction y0 generalizing y1 y2 y3
  dsimp -zeta only [pumpN]
  exact .refl
  rename_i m ih
  dsimp -zeta only [pumpN]
  split
  rename_i _ e0
  exact .refl
  rename_i _ _ e1
  split
  rename_i _ _ _ e2
  exact .refl
  rename_i _ _ _ _ _ e3
  split
  rename_i _ _ _ _ _ _ e4
  exact .refl
  rename_i _ _ _ _ _ _ _ e5
  (extract_lets +onlyGivenNames (merge := false) w6; clear_value w6)
  (extract_lets +onlyGivenNames (merge := false) w7; clear_value w7)
  (extract_lets +onlyGivenNames (merge := false) u8; suffices h8 : Changes 1595264 y1 u8; clear_value u8)
  (extract_lets +onlyGivenNames (merge := false) u9; suffices h9 : Changes 1595264 y1 u9; clear_value u9)
  refine .seq ih ?_ (by decide)
  assumption
  dsimp -zeta only [u9]
  refine .ite ?_ ?_
  refine .seq updStall_changes ?_ (by decide)
  assumption
  refine .ite ?_ ?_
  refine .seq sendSame_changes ?_ (by decide)
  assumption
  refine .seq chargeRead_changes ?_ (by decide)
  refine .seq sendSame_changes ?_ (by decide)
  assumption
  dsimp -zeta only [u8]
  refine .seq updChan_changes ?_ (by decide)
  exact .refl

theorem pump_changes {s : State} {i : Nat} {ch : Nat} : Changes 1605504 s (pump s i ch) := by
  unfold pump
  split
  rename_i _ e0
  exact .refl
  rename_i _ _ e1
  refine .seq endConn_changes ?_ (by decide)
  refine .seq endChan_changes ?_ (by decide)
  refine .seq pumpN_changes ?_ (by decide)
  exact .refl

theorem replyInOrder_changes {s : State} {i : Nat} {ch : Nat} {reqId : Nat} {r : Resp} : Changes 1605504 s (replyInOrder s i ch reqId r) := by
  unfold replyInOrder
  refine .seq pump_changes ?_ (by decide)
  refine .seq updChan_changes ?_ (by decide)
  exact .refl

theorem updOp_changes {s : State} {id : Nat} {f : Op → Op} : Changes 2048 s (updOp s id f) := by
  unfold updOp
  refine .seq (updKv_changes ?_) ?_ (by decide)
  exact ⟨Nat.le_refl _, Nat.le_refl _, Nat.le_refl _, Nat.le_refl _, Nat.le_refl _⟩
  exact .refl

theorem freeLocks_changes {s : State} {id : Nat} : Changes 2048 s (freeLocks s id) := by
  unfold freeLocks
  refine .seq (updKv_changes ?_) ?_ (by decide)
  exact ⟨Nat.le_refl _, Nat.le_refl _, Nat.le_refl _, Nat.le_refl _, Nat.le_refl _⟩
  exact .refl

theorem leaveOp_changes {s : State} {id : Nat} {o : Op} : Changes 14336 s (leaveOp s id o) := by
  unfold leaveOp
  (extract_lets +onlyGivenNames (merge := false) u0; suffices h0 : Changes 14336 s u0; clear_value u0)
  (extract_lets +onlyGivenNames (merge := false) u1; suffices h1 : Changes 14336 s u1; clear_value u1)
  refine .seq updStall_changes ?_ (by decide)
  assumption
  dsimp -zeta only [u1]
  refine .seq updMedia_changes ?_ (by decide)
  assumption
  dsimp -zeta only [u0]
  refine .seq freeLocks_changes ?_ (by decide)
  refine .seq (updKv_changes ?_) ?_ (by decide)
  exact ⟨Nat.le_refl _, Nat.le_refl _, Nat.le_refl _, Nat.le_refl _, Nat.le_refl _⟩
  exact .refl

theorem finishOp_changes {s : State} {id : Nat} {r : Resp} : Changes 1605504 s (finishOp s id r) := by
  unfold finishOp
  split
  rename_i _ e0
  exact .refl
  rename_i _ _ e1
  (extract_lets +onlyGivenNames (merge := false) u2; suffices h2 : Changes 1605504 s u2; clear_value u2)
  split
  rename_i _ _ _ e3
  refine .ite ?_ ?_
  assumption
  refine .seq updStall_changes ?_ (by decide)
  assumption
  rename_i _ _ _ _ e4
  (extract_lets +onlyGivenNames (merge := false) w5; clear_value w5)
  (extract_lets +onlyGivenNames (merge := false) w6; clear_value w6)
  refine .seq pump_changes ?_ (by decide)
  refine .seq updChan_changes ?_ (by decide)
  assumption
  dsimp -zeta only [u2]
  refine .seq leaveOp_changes ?_ (by decide)
  exact .refl

theorem dropOp_changes {s : State} {id : Nat} : Changes 1605504 s (dropOp s id) := by
  unfold dropOp
  split
  rename_i _ e0
  exact .refl
  rename_i _ _ e1
  (extract_lets +onlyGivenNames (merge := false) u2; suffices h2 : Changes 1605504 s u2; clear_value u2)
  refine .seq pump_changes ?_ (by decide)
  refine .seq updChan_changes ?_ (by decide)
  assumption
  dsimp -zeta only [u2]
  refine .seq leaveOp_changes ?_ (by decide)
  exact .refl

theorem answerOp_changes {s : State} {id : Nat} {r : Resp} : Changes 2048 s (answerOp s id r) := by
  unfold answerOp
  refine .seq updOp_changes ?_ (by decide)
  exact .refl

theorem takeWseq_changes {s : State} : Changes 2048 s (takeWseq s).2 := by
  unfold takeWseq
  dsimp -zeta only
  refine .seq (updKv_changes ?_) ?_ (by decide)
  exact ⟨Nat.le_refl _, Nat.le_refl _, Nat.le_refl _, Nat.le_succ _, Nat.le_refl _⟩
  exact .refl

theorem mirrorLag_changes {s : State} {reason : Nat} : Changes 1655680 s (mirrorLag s reason) := by
  unfold mirrorLag
  (extract_lets +onlyGivenNames (merge := false) u0; suffices h0 : Changes 1655680 s u0; clear_value u0)
  refine .seq logEv_changes ?_ (by decide)
  assumption
  dsimp -zeta only [u0]
  refine .seq (updRow_changes ?_) ?_ (by decide)
  exact Nat.le_refl _
  exact .refl

theorem mirrorPush_changes {s : State} {it : MirrorItem} : Changes 1655680 s (mirrorPush s it) := by
  unfold mirrorPush
  refine .ite ?_ ?_
  exact .refl
  (extract_lets +onlyGivenNames (merge := false) u0; suffices h0 : Changes 1655680 s u0; clear_value u0)
  refine .seq (updRow_changes ?_) ?_ (by decide)
  exact Nat.le_refl _
  assumption
  dsimp -zeta only [u0]
  refine .ite ?_ ?_
  refine .seq mirrorLag_changes ?_ (by decide)
  exact .refl
  exact .refl

theorem trackReloc_changes {s : State} {k : ObjKey} : Changes 4096 s (trackReloc s k) := by
  unfold trackReloc
  split
  rename_i _ _ e0
  refine .ite ?_ ?_
  refine .seq updStall_changes ?_ (by decide)
  exact .refl
  exact .refl
  rename_i _ e1
  exact .refl

theorem noteWrite_changes {v : State} {s : State} {k : ObjKey} {w : Nat} : Changes 1659776 s (noteWrite v s k w) := by
  unfold noteWrite
  (extract_lets +onlyGivenNames (merge := false) u0; suffices h0 : Changes 1659776 s u0; clear_value u0)
  (extract_lets +onlyGivenNames (merge := false) w1; clear_value w1)
  split
  rename_i _ _ e2
  refine .ite ?_ ?_
  refine .seq mirrorPush_changes ?_ (by decide)
  refine .seq (updRow_changes ?_) ?_ (by decide)
  (split <;> exact Nat.le_refl _)
  assumption
  assumption
  rename_i _ e3
  assumption
  dsimp -zeta only [u0]
  refine .seq trackReloc_changes ?_ (by decide)
  exact .refl

theorem noteRemove_changes {v : State} {s : State} {k : ObjKey} {o : Obj} {erase : Bool} : Changes 1659776 s (noteRemove v s k o erase) := by
  unfold noteRemove
  (extract_lets +onlyGivenNames (merge := false) u0; suffices h0 : Changes 1659776 s u0; clear_value u0)
  refine .ite ?_ ?_
  refine .seq mirrorPush_changes ?_ (by decide)
  assumption
  assumption
  dsimp -zeta only [u0]
  refine .seq trackReloc_changes ?_ (by decide)
  exact .refl

theorem storeVersion_changes {s : State} {k : ObjKey} {o : Obj} {dirty : Nat} : Changes 10240 s (storeVersion s k o dirty).2 := by
  unfold storeVersion
  (extract_lets +onlyGivenNames (merge := false) w0; clear_value w0)
  split
  rename_i _ _ u1 e2
  (extract_lets +onlyGivenNames (merge := false) u3; suffices h3 : Changes 10240 s u3; clear_value u3)
  split
  rename_i _ _ _ _ _ u4 e5
  (extract_lets +onlyGivenNames (merge := false) u6; suffices h6 : Changes 10240 s u6; clear_value u6)
  (extract_lets +onlyGivenNames (merge := false) u7; suffices h7 : Changes 10240 s u7; clear_value u7)
  (extract_lets +onlyGivenNames (merge := false) u8; suffices h8 : Changes 10240 s u8; clear_value u8)
  dsimp -zeta only
  assumption
  dsimp -zeta only [u8]
  split
  refine .seq unmap_changes ?_ (by decide)
  assumption
  assumption
  dsimp -zeta only [u7]
  refine .seq stageLog_changes ?_ (by decide)
  assumption
  dsimp -zeta only [u6]
  refine .seq (updKv_changes ?_) ?_ (by decide)
  exact ⟨Nat.le_refl _, Nat.le_refl _, Nat.le_refl _, Nat.le_refl _, Nat.le_refl _⟩
  refine Changes.snd ?_ e5
  refine .seq placeRecord_changes ?_ (by decide)
  assumption
  dsimp -zeta only [u3]
  refine .seq bufferRecord_changes ?_ (by decide)
  refine Changes.snd ?_ e2
  refine .seq takeWseq_changes ?_ (by decide)
  exact .refl

theorem removeKey_changes {v : State} {s : State} {k : ObjKey} {o : Obj} {erase : Bool} : Changes 1702784 s (removeKey v s k o erase).2 := by
  unfold removeKey
  split
  rename_i _ _ u0 e1
  (extract_lets +onlyGivenNames (merge := false) u2; suffices h2 : Changes 1702784 s u2; clear_value u2)
  (extract_lets +onlyGivenNames (merge := false) u3; suffices h3 : Changes 1702784 s u3; clear_value u3)
  (extract_lets +onlyGivenNames (merge := false) u4; suffices h4 : Changes 1702784 s u4; clear_value u4)
  dsimp -zeta only
  refine .seq noteRemove_changes ?_ (by decide)
  refine .seq dropEntries_changes ?_ (by decide)
  assumption
  dsimp -zeta only [u4]
  refine .seq unmap_changes ?_ (by decide)
  assumption
  dsimp -zeta only [u3]
  refine .seq stageLog_changes ?_ (by decide)
  assumption
  dsimp -zeta only [u2]
  refine .seq (updKv_changes ?_) ?_ (by decide)
  exact ⟨Nat.le_refl _, Nat.le_refl _, Nat.le_refl _, Nat.le_refl _, Nat.le_refl _⟩
  refine Changes.snd ?_ e1
  refine .seq takeWseq_changes ?_ (by decide)
  exact .refl

theorem logHold_changes {s : State} {k : ObjKey} {o : Obj} {placed : Bool} : Changes 1590144 s (logHold s k o placed) := by
  unfold logHold
  refine .seq logEv_changes ?_ (by decide)
  exact .refl

theorem nextVersion_changes {s : State} {k : ObjKey} {value : List Byte} {tags : List Word64} {expiry : Nat} {hours : Nat} {backfill : Bool} : Changes 2048 s (nextVersion s k value tags expiry hours backfill).2 := by
  unfold nextVersion
  split
  rename_i _ _ _ e0
  split
  rename_i _ _ _ _ _ e1
  dsimp -zeta only
  exact .refl
  rename_i _ _ _ _ e2
  dsimp -zeta only
  refine .seq (updKv_changes ?_) ?_ (by decide)
  exact ⟨Nat.le_succ _, Nat.le_refl _, Nat.le_refl _, Nat.le_refl _, Nat.le_refl _⟩
  exact .refl

theorem commitPut_changes {s : State} {o : Op} {k : ObjKey} {value : List Byte} {tags : List Word64} {override : Nat} {dirty : Nat} : Changes 1702784 s (commitPut s o k value tags override dirty).2.2 := by
  unfold commitPut
  extract_lets +onlyGivenNames (merge := false) w0
  split
  rename_i _ _ u1 e2
  split
  rename_i _ _ _ _ u3 e4
  (extract_lets +onlyGivenNames (merge := false) u5; suffices h5 : Changes 1702784 s u5; clear_value u5)
  (extract_lets +onlyGivenNames (merge := false) u6; suffices h6 : Changes 1702784 s u6; clear_value u6)
  dsimp -zeta only
  refine .seq noteWrite_changes ?_ (by decide)
  assumption
  dsimp -zeta only [u6]
  refine .seq charge_changes ?_ (by decide)
  assumption
  dsimp -zeta only [u5]
  refine .seq dropEntries_changes ?_ (by decide)
  refine Changes.snd ?_ e4
  refine .seq storeVersion_changes ?_ (by decide)
  refine Changes.snd ?_ e2
  refine .seq nextVersion_changes ?_ (by decide)
  exact .refl

theorem noteOp_changes {s : State} {id : Nat} {w : Nat} : Changes 3072 s (noteOp s id w) := by
  unfold noteOp
  split
  rename_i _ e0
  exact .refl
  rename_i _ _ e1
  (extract_lets +onlyGivenNames (merge := false) u2; suffices h2 : Changes 3072 s u2; clear_value u2)
  refine .seq updChan_changes ?_ (by decide)
  assumption
  dsimp -zeta only [u2]
  refine .seq updOp_changes ?_ (by decide)
  exact .refl

theorem ackWrite_changes {s : State} {id : Nat} {r : Resp} : Changes 10240 s (ackWrite s id r) := by
  unfold ackWrite
  split
  rename_i _ e0
  exact .refl
  rename_i _ _ e1
  refine .ite ?_ ?_
  (extract_lets +onlyGivenNames (merge := false) u2; suffices h2 : Changes 10240 s u2; clear_value u2)
  refine .seq updOp_changes ?_ (by decide)
  assumption
  dsimp -zeta only [u2]
  refine .foldl (fun u3 a3 h3 => ?_) ?_
  refine .seq issuePacksOf_changes ?_ (by decide)
  assumption
  exact .refl
  refine .seq answerOp_changes ?_ (by decide)
  refine .seq updOp_changes ?_ (by decide)
  exact .refl

theorem chargeBuckets_changes {s : State} {o : Op} : Changes 4096 s (chargeBuckets s o) := by
  unfold chargeBuckets
  split
  rename_i _ _ _ _ e0
  extract_lets +onlyGivenNames (merge := false) w1
  refine .seq updStall_changes ?_ (by decide)
  exact .refl

theorem markWaiting_changes {s : State} : Changes 2048 s (markWaiting s) := by
  unfold markWaiting
  refine .seq (updKv_changes ?_) ?_ (by decide)
  exact ⟨Nat.le_refl _, Nat.le_refl _, Nat.le_refl _, Nat.le_refl _, Nat.le_refl _⟩
  exact .refl

theorem refreshActive_changes {s : State} : Changes 4096 s (refreshActive s) := by
  unfold refreshActive
  (extract_lets +onlyGivenNames (merge := false) w0; clear_value w0)
  (extract_lets +onlyGivenNames (merge := false) w1; clear_value w1)
  (extract_lets +onlyGivenNames (merge := false) u2; suffices h2 : Changes 4096 s u2; clear_value u2)
  refine .seq (updStalls_changes ?_) ?_ (by decide)
  exact Nat.le_refl _
  assumption
  dsimp -zeta only [u2]
  refine .foldl (fun u3 a3 h3 => ?_) ?_
  refine .seq updStall_changes ?_ (by decide)
  assumption
  exact .refl

theorem takeLock_changes {s : State} {id : Nat} {fp : Nat} : Changes 2048 s (takeLock s id fp) := by
  unfold takeLock
  refine .seq (updKv_changes ?_) ?_ (by decide)
  exact ⟨Nat.le_refl _, Nat.le_refl _, Nat.le_refl _, Nat.le_refl _, Nat.le_refl _⟩
  exact .refl

theorem waitIn_changes {s : State} {id : Nat} {p : OpPhase} {throttled : Bool} : Changes 2048 s (waitIn s id p throttled) := by
  unfold waitIn
  refine .seq updOp_changes ?_ (by decide)
  exact .refl

theorem takeCredit_changes {s : State} {n : Nat} : OptChanges 16384 s (takeCredit s n) := by
  unfold takeCredit
  refine .ite ?_ ?_
  refine .ite ?_ ?_
  refine .some ?_
  refine .seq updUpkeep_changes ?_ (by decide)
  exact .refl
  exact .none
  refine .some ?_
  exact .refl

theorem entriesReady_changes {s : State} {id : Nat} {o : Op} {sets : List (ObjKey × List Word64)} : OptChanges 32768 s (entriesReady s id o sets) := by
  unfold entriesReady
  refine .ite ?_ ?_
  refine .some ?_
  exact .refl
  extract_lets +onlyGivenNames (merge := false) w0
  split
  rename_i _ u1 _ e2
  refine .ite ?_ ?_
  refine .some ?_
  refine Changes.fst ?_ e2
  refine .foldlFst (fun u3 a3 h3 => ?_) ?_
  dsimp -zeta only [w0]
  split
  rename_i _ _ e4
  assumption
  dsimp -zeta only
  refine .seq handleOf_changes ?_ (by decide)
  assumption
  dsimp -zeta only
  exact .refl
  exact .none

theorem queueEntries_changes {s : State} {id : Nat} {o : Op} {sets : List (ObjKey × List Word64)} : Changes 32768 s (queueEntries s id o sets) := by
  unfold queueEntries
  refine .foldl (fun u0 a0 h0 => ?_) ?_
  refine .ite ?_ ?_
  assumption
  split
  rename_i _ _ u1 e2
  refine .foldl (fun u3 a3 h3 => ?_) ?_
  refine .seq pushArc_changes ?_ (by decide)
  assumption
  refine Changes.snd ?_ e2
  refine .seq handleOf_changes ?_ (by decide)
  assumption
  exact .refl

theorem gates_changes {s0 s : State} {id : Nat} {o : Op} {isData : Bool} {size data : Nat}
    {sets : List (ObjKey × List Word64)} {commit : State → State} {m : Nat} (h : Changes m s0 s)
    (e : 51200 &&& m = 51200) (k : ∀ u, Changes m s0 u → Changes m s0 (commit u)) :
    Changes m s0 (gates s id o isData size data sets commit) := by
  have e1 : (2048 : Nat) &&& m = 2048 := and_trans (by decide) e
  have e2 : (2048 : Nat) &&& m = 2048 := and_trans (by decide) e
  have e3 : (16384 : Nat) &&& m = 16384 := and_trans (by decide) e
  have e4 : (32768 : Nat) &&& m = 32768 := and_trans (by decide) e
  have e5 : (2048 : Nat) &&& m = 2048 := and_trans (by decide) e
  have e6 : (32768 : Nat) &&& m = 32768 := and_trans (by decide) e
  unfold gates
  refine .ite (k _ h) (.ite (.seq waitIn_changes h e1) ?_)
  dsimp only
  have h1 : Changes m s0 (if (isData && gcThrottles s) = true then updOp s id (fun o => { o with throttled := true }) else s) :=
    .ite (.seq updOp_changes h e2) h
  split
  · exact .seq waitIn_changes h1 e1
  · rename_i v hv
    have h2 : Changes m s0 v := by
      split at hv
      · exact .seq (takeCredit_changes _ hv) h1 e3
      · cases hv; exact h1
    split
    · exact k _ (.seq (entriesReady_changes _ ‹_›) h2 e4)
    · refine .seq queueEntries_changes (.seq waitIn_changes (.foldl (fun _ _ h => ?_) h2) e1) e6
      exact .seq takeLock_changes h e5

/-! ### Machine/SpecOps.lean -/

theorem falseHit_changes {s : State} {pos : Nat} : Changes 1622912 s (falseHit s pos) := by
  unfold falseHit
  (extract_lets +onlyGivenNames (merge := false) w0; clear_value w0)
  extract_lets +onlyGivenNames (merge := false) w1
  (extract_lets +onlyGivenNames (merge := false) u2; suffices h2 : Changes 1622912 s u2; clear_value u2)
  refine .ite ?_ ?_
  refine .seq logEv_changes ?_ (by decide)
  refine .seq updArc_changes ?_ (by decide)
  assumption
  assumption
  dsimp -zeta only [u2]
  refine .seq countArc_changes ?_ (by decide)
  refine .seq updArc_changes ?_ (by decide)
  exact .refl

theorem noteLookup_changes {s : State} {k : ObjKey} : Changes 32768 s (noteLookup s k) := by
  unfold noteLookup
  refine .ite ?_ ?_
  refine .seq countArc_changes ?_ (by decide)
  refine .seq updArc_changes ?_ (by decide)
  exact .refl
  exact .refl

theorem queueReads_changes {s : State} {w : ReadFor} {ls : List Nat} : Changes 8192 s (queueReads s w ls) := by
  unfold queueReads
  refine .seq updMedia_changes ?_ (by decide)
  exact .refl

theorem dropAheads_changes {s : State} {f : Ahead → Bool} : Changes 8192 s (dropAheads s f) := by
  unfold dropAheads
  (extract_lets +onlyGivenNames (merge := false) w0; clear_value w0)
  refine .seq updMedia_changes ?_ (by decide)
  exact .refl

theorem startAhead_changes {s : State} {w : ReadFor} {k : ObjKey} {o : Obj} {range : Nat × Nat} {open_ : Bool} : Changes 8192 s (startAhead s w k o range open_) := by
  unfold startAhead
  (extract_lets +onlyGivenNames (merge := false) w0; clear_value w0)
  refine .seq updMedia_changes ?_ (by decide)
  refine .seq queueReads_changes ?_ (by decide)
  exact .refl

theorem serveAhead_changes {s : State} {id : Nat} {o : Op} {k : ObjKey} {v : Obj} {range : Nat × Nat} : Changes 8192 s (serveAhead s id o k v range) := by
  unfold serveAhead
  extract_lets +onlyGivenNames (merge := false) w0
  extract_lets +onlyGivenNames (merge := false) w1
  split
  rename_i _ _ e2
  refine .seq dropAheads_changes ?_ (by decide)
  refine .seq updMedia_changes ?_ (by decide)
  exact .refl
  rename_i _ e3
  refine .seq queueReads_changes ?_ (by decide)
  refine .seq dropAheads_changes ?_ (by decide)
  exact .refl

theorem runAhead_changes {s : State} {o : Op} {k : ObjKey} {v : Obj} {range : Nat × Nat} : Changes 8192 s (runAhead s o k v range) := by
  unfold runAhead
  extract_lets +onlyGivenNames (merge := false) w0
  extract_lets +onlyGivenNames (merge := false) w1
  refine .ite ?_ ?_
  refine .seq startAhead_changes ?_ (by decide)
  exact .refl
  exact .refl

theorem speculate_changes {p : PortId} {s : State} {r : SpecReq} : Changes 1631104 s (speculate p s r) := by
  unfold speculate
  split
  rename_i _ e0
  exact .refl
  rename_i _ _ e1
  (extract_lets +onlyGivenNames (merge := false) w2; clear_value w2)
  (extract_lets +onlyGivenNames (merge := false) u3; suffices h3 : Changes 1631104 s u3; clear_value u3)
  split
  rename_i _ _ _ e4
  assumption
  rename_i _ _ _ _ e5
  (extract_lets +onlyGivenNames (merge := false) w6; clear_value w6)
  refine .ite ?_ ?_
  refine .seq startAhead_changes ?_ (by decide)
  assumption
  assumption
  dsimp -zeta only [u3]
  split
  rename_i _ _ _ _ e7
  refine .ite ?_ ?_
  refine .seq falseHit_changes ?_ (by decide)
  exact .refl
  exact .refl
  rename_i _ _ _ e8
  exact .refl

theorem cancelSpec_changes {s : State} {p : PortId} : Changes 8192 s (cancelSpec s p) := by
  unfold cancelSpec
  refine .seq dropAheads_changes ?_ (by decide)
  exact .refl

theorem keepSpec_changes {s : State} {p : PortId} : Changes 8192 s (keepSpec s p) := by
  unfold keepSpec
  refine .seq updMedia_changes ?_ (by decide)
  exact .refl

theorem cancelConnSpec_changes {s : State} {i : Nat} : Changes 8192 s (cancelConnSpec s i) := by
  unfold cancelConnSpec
  refine .seq dropAheads_changes ?_ (by decide)
  exact .refl

end Sys2Proof.Laws
end

