-- ==== Sys2Proof/Laws/Changes2.lean ====
section
/-!
SUPPORT. What each definition that changes the state may change, one lemma per definition; the mask of a lemma is the union
of the masks of what the definition calls. Of Machine/: OpOps, OpExec, ProtoOps, SearchOps, Kv, StallOps, Bay, Media, Arcade.
-/

namespace Sys2Proof.Laws

open Sys2Proof Machine

set_option linter.unusedVariables false

/-! ### Machine/OpOps.lean -/

theorem newTicket_changes {s : State} {t : Ticket} : Changes 10240 s (newTicket s t).2 := by
  unfold newTicket
  dsimp -zeta only
  refine .seq renewMarks_changes ?_ (by decide)
  refine .seq (updKv_changes ?_) ?_ (by decide)
  exact ⟨Nat.le_refl _, Nat.le_succ _, Nat.le_refl _, Nat.le_refl _, Nat.le_refl _⟩
  exact .refl

theorem updTicket_changes {s : State} {n : Nat} {f : Ticket → Ticket} : Changes 2048 s (updTicket s n f) := by
  unfold updTicket
  refine .seq (updKv_changes ?_) ?_ (by decide)
  exact ⟨Nat.le_refl _, Nat.le_refl _, Nat.le_refl _, Nat.le_refl _, Nat.le_refl _⟩
  exact .refl

theorem endTicket_changes {s : State} {n : Nat} {st : TicketState} {reason : Nat} : Changes 2048 s (endTicket s n st reason) := by
  unfold endTicket
  refine .seq updTicket_changes ?_ (by decide)
  exact .refl

theorem noteAdmitted_changes {s : State} {i : Nat} {ch : Nat} {reqId : Nat} {id : Nat} {r : Option Resp} : Changes 1024 s (noteAdmitted s i ch reqId id r) := by
  unfold noteAdmitted
  refine .seq updChan_changes ?_ (by decide)
  exact .refl

theorem answerRepeat_changes {s : State} {i : Nat} {ch : Nat} {c : Conn} {f : Frame} {e : WinEntry} : Changes 1605504 s (answerRepeat s i ch c f e) := by
  unfold answerRepeat
  refine .ite ?_ ?_
  refine .seq updChan_changes ?_ (by decide)
  exact .refl
  split
  rename_i _ _ e0
  refine .seq pump_changes ?_ (by decide)
  refine .seq updChan_changes ?_ (by decide)
  exact .refl
  rename_i _ e1
  refine .seq replyInOrder_changes ?_ (by decide)
  exact .refl

theorem queueOp_changes {s : State} {id : Nat} {o : Op} : Changes 1594240 s (queueOp s id o) := by
  unfold queueOp
  (extract_lets +onlyGivenNames (merge := false) u0; suffices h0 : Changes 1594240 s u0; clear_value u0)
  refine .seq updStall_changes ?_ (by decide)
  assumption
  dsimp -zeta only [u0]
  refine .seq charge_changes ?_ (by decide)
  exact .refl

theorem admitRequest_changes {s : State} {i : Nat} {ch : Nat} {c : Conn} {x : StallNo} {code : OpCode} {f : Frame} : Changes 1605504 s (admitRequest s i ch c x code f) := by
  unfold admitRequest
  split
  rename_i _ _ e0
  refine .seq answerRepeat_changes ?_ (by decide)
  exact .refl
  rename_i _ e1
  extract_lets +onlyGivenNames (merge := false) w2
  (extract_lets +onlyGivenNames (merge := false) u3; suffices h3 : Changes 1605504 s u3; clear_value u3)
  split
  rename_i _ _ _ e4
  refine .seq pump_changes ?_ (by decide)
  refine .seq noteAdmitted_changes ?_ (by decide)
  refine .seq charge_changes ?_ (by decide)
  assumption
  rename_i _ _ e5
  (extract_lets +onlyGivenNames (merge := false) u6; suffices h6 : Changes 1605504 s u6; clear_value u6)
  (extract_lets +onlyGivenNames (merge := false) w7; clear_value w7)
  refine .ite ?_ ?_
  refine .seq (updKv_changes ?_) ?_ (by decide)
  exact ⟨Nat.le_refl _, Nat.le_refl _, Nat.le_refl _, Nat.le_refl _, Nat.le_refl _⟩
  assumption
  refine .seq queueOp_changes ?_ (by decide)
  refine .seq (updKv_changes ?_) ?_ (by decide)
  exact ⟨Nat.le_refl _, Nat.le_refl _, Nat.le_refl _, Nat.le_refl _, Nat.le_refl _⟩
  assumption
  dsimp -zeta only [u6]
  refine .seq noteAdmitted_changes ?_ (by decide)
  assumption
  dsimp -zeta only [u3]
  refine .seq (updKv_changes ?_) ?_ (by decide)
  exact ⟨Nat.le_refl _, Nat.le_refl _, Nat.le_refl _, Nat.le_refl _, Nat.le_succ _⟩
  exact .refl

theorem admitHeld_changes {s : State} {id : Nat} : Changes 1596288 s (admitHeld s id) := by
  unfold admitHeld
  split
  rename_i _ e0
  exact .refl
  rename_i _ _ e1
  split
  rename_i _ _ _ e2
  exact .refl
  rename_i _ _ _ _ e3
  (extract_lets +onlyGivenNames (merge := false) w4; clear_value w4)
  refine .seq queueOp_changes ?_ (by decide)
  refine .seq updOp_changes ?_ (by decide)
  exact .refl

/-! ### Machine/OpExec.lean -/

theorem failOp_changes {s : State} {id : Nat} {o : Op} {r : Resp} : Changes 34816 s (failOp s id o r) := by
  unfold failOp
  (extract_lets +onlyGivenNames (merge := false) u0; suffices h0 : Changes 34816 s u0; clear_value u0)
  refine .seq answerOp_changes ?_ (by decide)
  refine .seq freeLocks_changes ?_ (by decide)
  assumption
  dsimp -zeta only [u0]
  refine .ite ?_ ?_
  refine .foldl (fun u1 a1 h1 => ?_) ?_
  refine .seq restoreEntries_changes ?_ (by decide)
  assumption
  exact .refl
  exact .refl

theorem committedOp_changes {s : State} {id : Nat} {r : Resp} : Changes 10240 s (committedOp s id r) := by
  unfold committedOp
  refine .seq freeLocks_changes ?_ (by decide)
  refine .seq ackWrite_changes ?_ (by decide)
  exact .refl

theorem runPut_changes {s : State} {id : Nat} {o : Op} : Changes 1703808 s (runPut s id o) := by
  unfold runPut
  (extract_lets +onlyGivenNames (merge := false) w0; clear_value w0)
  (extract_lets +onlyGivenNames (merge := false) w1; clear_value w1)
  (extract_lets +onlyGivenNames (merge := false) w2; clear_value w2)
  refine .ite ?_ ?_
  refine .seq waitIn_changes ?_ (by decide)
  exact .refl
  split
  rename_i _ _ e3
  refine .seq failOp_changes ?_ (by decide)
  exact .refl
  rename_i _ e4
  refine gates_changes ?_ (by decide) (fun u5 h5 => ?_)
  exact .refl
  split
  rename_i _ _ _ _ u6 e7
  refine .seq committedOp_changes ?_ (by decide)
  refine .seq noteOp_changes ?_ (by decide)
  refine Changes.third ?_ e7
  refine .seq commitPut_changes ?_ (by decide)
  assumption

theorem runDelete_changes {s : State} {id : Nat} {o : Op} : Changes 1703808 s (runDelete s id o) := by
  unfold runDelete
  (extract_lets +onlyGivenNames (merge := false) w0; clear_value w0)
  (extract_lets +onlyGivenNames (merge := false) w1; clear_value w1)
  (extract_lets +onlyGivenNames (merge := false) w2; clear_value w2)
  refine .ite ?_ ?_
  refine .seq waitIn_changes ?_ (by decide)
  exact .refl
  split
  refine .seq failOp_changes ?_ (by decide)
  exact .refl
  split
  rename_i _ _ _ _ e3
  refine .seq failOp_changes ?_ (by decide)
  exact .refl
  rename_i _ _ _ e4
  split
  rename_i _ _ _ _ _ u5 e6
  refine .seq committedOp_changes ?_ (by decide)
  refine .seq noteOp_changes ?_ (by decide)
  refine Changes.snd ?_ e6
  refine .seq removeKey_changes ?_ (by decide)
  exact .refl

theorem removeNamed_changes {id : Nat} {v : State} {erase : Bool} {a : State × List (ObjKey × Nat)} {x : ObjKey × Obj} : Changes 1703808 a.1 (removeNamed id v erase a x).1 := by
  unfold removeNamed
  split
  rename_i _ _ u0 e1
  (extract_lets +onlyGivenNames (merge := false) u2; suffices h2 : Changes 1703808 a.1 u2; clear_value u2)
  dsimp -zeta only
  refine .seq noteOp_changes ?_ (by decide)
  assumption
  dsimp -zeta only [u2]
  refine .ite ?_ ?_
  refine .seq scrubBuffers_changes ?_ (by decide)
  refine Changes.snd ?_ e1
  refine .seq removeKey_changes ?_ (by decide)
  exact .refl
  refine Changes.snd ?_ e1
  refine .seq removeKey_changes ?_ (by decide)
  exact .refl

theorem runRemoval_changes {s : State} {id : Nat} {o : Op} {g : Gen} : Changes 1703808 s (runRemoval s id o g) := by
  unfold runRemoval
  (extract_lets +onlyGivenNames (merge := false) w0; clear_value w0)
  (extract_lets +onlyGivenNames (merge := false) w1; clear_value w1)
  (extract_lets +onlyGivenNames (merge := false) w2; clear_value w2)
  refine .ite ?_ ?_
  refine .seq waitIn_changes ?_ (by decide)
  exact .refl
  refine .ite ?_ ?_
  refine .seq failOp_changes ?_ (by decide)
  exact .refl
  split
  rename_i _ _ e3
  refine .seq failOp_changes ?_ (by decide)
  exact .refl
  rename_i _ e4
  split
  rename_i _ _ u5 _ e6
  split
  rename_i _ _ _ _ _ u7 e8
  dsimp only
  refine .seq committedOp_changes ?_ (by decide)
  refine .seq updOp_changes ?_ (by decide)
  refine .ite ?_ ?_
  refine .seq updUpkeep_changes ?_ (by decide)
  refine Changes.snd ?_ e8
  refine .seq newTicket_changes ?_ (by decide)
  refine Changes.fst ?_ e6
  refine .foldlFst (fun u10 a10 h10 => ?_) ?_
  refine .seq removeNamed_changes ?_ (by decide)
  assumption
  dsimp -zeta only
  exact .refl
  refine Changes.snd ?_ e8
  refine .seq newTicket_changes ?_ (by decide)
  refine Changes.fst ?_ e6
  refine .foldlFst (fun u11 a11 h11 => ?_) ?_
  refine .seq removeNamed_changes ?_ (by decide)
  assumption
  dsimp -zeta only
  exact .refl

theorem runGet_changes {s : State} {id : Nat} {o : Op} {c : Conn} : Changes 10240 s (runGet s id o c) := by
  unfold runGet
  (extract_lets +onlyGivenNames (merge := false) w0; clear_value w0)
  refine .ite ?_ ?_
  refine .seq waitIn_changes ?_ (by decide)
  exact .refl
  (extract_lets +onlyGivenNames (merge := false) w1; clear_value w1)
  split
  refine .seq answerOp_changes ?_ (by decide)
  exact .refl
  split
  rename_i _ _ _ _ e2
  refine .seq answerOp_changes ?_ (by decide)
  exact .refl
  rename_i _ _ _ e3
  (extract_lets +onlyGivenNames (merge := false) w4; clear_value w4)
  (extract_lets +onlyGivenNames (merge := false) u5; suffices h5 : Changes 10240 s u5; clear_value u5)
  refine .seq answerOp_changes ?_ (by decide)
  assumption
  dsimp -zeta only [u5]
  refine .seq runAhead_changes ?_ (by decide)
  refine .seq serveAhead_changes ?_ (by decide)
  exact .refl

theorem runHead_changes {s : State} {id : Nat} {o : Op} {c : Conn} : Changes 10240 s (runHead s id o c) := by
  unfold runHead
  (extract_lets +onlyGivenNames (merge := false) w0; clear_value w0)
  refine .ite ?_ ?_
  refine .seq waitIn_changes ?_ (by decide)
  exact .refl
  (extract_lets +onlyGivenNames (merge := false) w1; clear_value w1)
  split
  refine .seq answerOp_changes ?_ (by decide)
  exact .refl
  split
  rename_i _ _ _ _ e2
  refine .seq answerOp_changes ?_ (by decide)
  exact .refl
  rename_i _ _ _ e3
  (extract_lets +onlyGivenNames (merge := false) u4; suffices h4 : Changes 10240 s u4; clear_value u4)
  refine .seq answerOp_changes ?_ (by decide)
  assumption
  dsimp -zeta only [u4]
  refine .seq serveAhead_changes ?_ (by decide)
  exact .refl

theorem runSeen_changes {s : State} {id : Nat} {o : Op} {c : Conn} : Changes 2048 s (runSeen s id o c) := by
  unfold runSeen
  split
  rename_i _ _ e0
  refine .seq answerOp_changes ?_ (by decide)
  exact .refl
  rename_i _ e1
  refine .ite ?_ ?_
  refine .seq waitIn_changes ?_ (by decide)
  exact .refl
  refine .seq answerOp_changes ?_ (by decide)
  exact .refl

theorem runFetch_changes {s : State} {id : Nat} {o : Op} {c : Conn} : Changes 2048 s (runFetch s id o c) := by
  unfold runFetch
  (extract_lets +onlyGivenNames (merge := false) w0; clear_value w0)
  refine .seq answerOp_changes ?_ (by decide)
  refine .ite ?_ ?_
  exact .refl
  refine .seq updTicket_changes ?_ (by decide)
  exact .refl

theorem touchUpload_changes {s : State} {h : Nat} : Changes 2048 s (touchUpload s h) := by
  unfold touchUpload
  refine .seq (updKv_changes ?_) ?_ (by decide)
  exact ⟨Nat.le_refl _, Nat.le_refl _, Nat.le_refl _, Nat.le_refl _, Nat.le_refl _⟩
  exact .refl

theorem endUpload_changes {s : State} {h : Nat} : Changes 10240 s (endUpload s h) := by
  unfold endUpload
  split
  rename_i _ e0
  exact .refl
  rename_i _ _ e1
  refine .seq unmap_changes ?_ (by decide)
  refine .seq (updKv_changes ?_) ?_ (by decide)
  exact ⟨Nat.le_refl _, Nat.le_refl _, Nat.le_refl _, Nat.le_refl _, Nat.le_refl _⟩
  exact .refl

theorem runBegin_changes {s : State} {id : Nat} {o : Op} : Changes 10240 s (runBegin s id o) := by
  unfold runBegin
  (extract_lets +onlyGivenNames (merge := false) w0; clear_value w0)
  refine .ite ?_ ?_
  refine .seq answerOp_changes ?_ (by decide)
  exact .refl
  split
  rename_i _ _ e1
  refine .seq answerOp_changes ?_ (by decide)
  exact .refl
  rename_i _ e2
  extract_lets +onlyGivenNames (merge := false) w3
  (extract_lets +onlyGivenNames (merge := false) w4; clear_value w4)
  refine .seq answerOp_changes ?_ (by decide)
  refine .seq renewMarks_changes ?_ (by decide)
  refine .seq (updKv_changes ?_) ?_ (by decide)
  exact ⟨Nat.le_refl _, Nat.le_refl _, Nat.le_succ _, Nat.le_refl _, Nat.le_refl _⟩
  exact .refl

theorem runPart_changes {s : State} {id : Nat} {o : Op} : Changes 60416 s (runPart s id o) := by
  unfold runPart
  (extract_lets +onlyGivenNames (merge := false) w0; clear_value w0)
  split
  rename_i _ e1
  refine .seq failOp_changes ?_ (by decide)
  exact .refl
  rename_i _ _ e2
  (extract_lets +onlyGivenNames (merge := false) u3; suffices h3 : Changes 60416 s u3; clear_value u3)
  extract_lets +onlyGivenNames (merge := false) w4
  (extract_lets +onlyGivenNames (merge := false) w5; clear_value w5)
  (extract_lets +onlyGivenNames (merge := false) w6; clear_value w6)
  split
  rename_i _ _ _ _ e7
  refine .seq failOp_changes ?_ (by decide)
  assumption
  rename_i _ _ _ e8
  refine gates_changes ?_ (by decide) (fun u9 h9 => ?_)
  assumption
  split
  rename_i _ _ _ _ _ _ e10
  split
  rename_i _ _ _ _ _ _ _ _ u11 e12
  (extract_lets +onlyGivenNames (merge := false) w13; clear_value w13)
  (extract_lets +onlyGivenNames (merge := false) u14; suffices h14 : Changes 60416 s u14; clear_value u14)
  split
  rename_i _ _ _ _ _ _ _ _ _ _ _ u15 e16
  (extract_lets +onlyGivenNames (merge := false) u17; suffices h17 : Changes 60416 s u17; clear_value u17)
  (extract_lets +onlyGivenNames (merge := false) u18; suffices h18 : Changes 60416 s u18; clear_value u18)
  refine .seq committedOp_changes ?_ (by decide)
  refine .seq noteOp_changes ?_ (by decide)
  assumption
  dsimp -zeta only [u18]
  refine .seq unmap_changes ?_ (by decide)
  assumption
  dsimp -zeta only [u17]
  refine .seq (updKv_changes ?_) ?_ (by decide)
  exact ⟨Nat.le_refl _, Nat.le_refl _, Nat.le_refl _, Nat.le_refl _, Nat.le_refl _⟩
  refine Changes.snd ?_ e16
  refine .seq placeRecord_changes ?_ (by decide)
  assumption
  dsimp -zeta only [u14]
  refine .seq bufferRecord_changes ?_ (by decide)
  refine Changes.snd ?_ e12
  refine .seq takeWseq_changes ?_ (by decide)
  assumption
  dsimp -zeta only [u3]
  refine .seq touchUpload_changes ?_ (by decide)
  exact .refl

theorem runCommit_changes {s : State} {id : Nat} {o : Op} : Changes 1703808 s (runCommit s id o) := by
  unfold runCommit
  (extract_lets +onlyGivenNames (merge := false) w0; clear_value w0)
  split
  rename_i _ e1
  refine .seq failOp_changes ?_ (by decide)
  exact .refl
  rename_i _ _ e2
  (extract_lets +onlyGivenNames (merge := false) u3; suffices h3 : Changes 1703808 s u3; clear_value u3)
  (extract_lets +onlyGivenNames (merge := false) w4; clear_value w4)
  (extract_lets +onlyGivenNames (merge := false) w5; clear_value w5)
  refine .ite ?_ ?_
  refine .seq waitIn_changes ?_ (by decide)
  assumption
  split
  rename_i _ _ _ e6
  refine .seq failOp_changes ?_ (by decide)
  assumption
  rename_i _ _ _ _ e7
  (extract_lets +onlyGivenNames (merge := false) w8; clear_value w8)
  (extract_lets +onlyGivenNames (merge := false) w9; clear_value w9)
  (extract_lets +onlyGivenNames (merge := false) w10; clear_value w10)
  split
  rename_i _ _ _ _ _ _ e11
  refine .seq failOp_changes ?_ (by decide)
  assumption
  rename_i _ _ _ _ _ e12
  refine gates_changes ?_ (by decide) (fun u13 h13 => ?_)
  assumption
  extract_lets +onlyGivenNames (merge := false) w14
  split
  rename_i _ _ _ _ _ _ _ u15 e16
  split
  rename_i _ _ _ _ _ _ _ _ _ u17 e18
  (extract_lets +onlyGivenNames (merge := false) w19; clear_value w19)
  (extract_lets +onlyGivenNames (merge := false) u20; suffices h20 : Changes 1703808 s u20; clear_value u20)
  (extract_lets +onlyGivenNames (merge := false) u21; suffices h21 : Changes 1703808 s u21; clear_value u21)
  (extract_lets +onlyGivenNames (merge := false) u22; suffices h22 : Changes 1703808 s u22; clear_value u22)
  (extract_lets +onlyGivenNames (merge := false) u23; suffices h23 : Changes 1703808 s u23; clear_value u23)
  (extract_lets +onlyGivenNames (merge := false) u24; suffices h24 : Changes 1703808 s u24; clear_value u24)
  (extract_lets +onlyGivenNames (merge := false) u25; suffices h25 : Changes 1703808 s u25; clear_value u25)
  refine .seq committedOp_changes ?_ (by decide)
  refine .seq noteOp_changes ?_ (by decide)
  assumption
  dsimp -zeta only [u25]
  refine .foldl (fun u26 a26 h26 => ?_) ?_
  refine .seq noteOp_changes ?_ (by decide)
  assumption
  assumption
  dsimp -zeta only [u24]
  refine .seq noteWrite_changes ?_ (by decide)
  refine .seq charge_changes ?_ (by decide)
  assumption
  dsimp -zeta only [u23]
  refine .seq dropEntries_changes ?_ (by decide)
  assumption
  dsimp -zeta only [u22]
  split
  refine .seq unmap_changes ?_ (by decide)
  assumption
  assumption
  dsimp -zeta only [u21]
  refine .seq stageLog_changes ?_ (by decide)
  assumption
  dsimp -zeta only [u20]
  refine .seq (updKv_changes ?_) ?_ (by decide)
  exact ⟨Nat.le_refl _, Nat.le_refl _, Nat.le_refl _, Nat.le_refl _, Nat.le_refl _⟩
  refine Changes.snd ?_ e18
  refine .seq takeWseq_changes ?_ (by decide)
  refine Changes.snd ?_ e16
  refine .seq nextVersion_changes ?_ (by decide)
  assumption
  dsimp -zeta only [u3]
  refine .seq touchUpload_changes ?_ (by decide)
  exact .refl

theorem runAbort_changes {s : State} {id : Nat} {o : Op} : Changes 10240 s (runAbort s id o) := by
  unfold runAbort
  split
  rename_i _ e0
  refine .seq answerOp_changes ?_ (by decide)
  exact .refl
  rename_i _ _ e1
  refine .seq answerOp_changes ?_ (by decide)
  refine .seq endUpload_changes ?_ (by decide)
  exact .refl

theorem commitItem_changes {id : Nat} {o : Op} {a : State × List Byte} {t : TxnItem} : Changes 1703808 a.1 (commitItem id o a t).1 := by
  unfold commitItem
  (extract_lets +onlyGivenNames (merge := false) w0; clear_value w0)
  extract_lets +onlyGivenNames (merge := false) w1
  split
  rename_i _ e2
  split
  rename_i _ _ _ _ u3 e4
  dsimp -zeta only
  refine .seq noteOp_changes ?_ (by decide)
  refine Changes.third ?_ e4
  refine .seq commitPut_changes ?_ (by decide)
  exact .refl
  rename_i _ e5
  split
  rename_i _ _ _ _ u6 e7
  dsimp -zeta only
  refine .seq noteOp_changes ?_ (by decide)
  refine Changes.third ?_ e7
  refine .seq commitPut_changes ?_ (by decide)
  exact .refl
  rename_i _ e8
  split
  rename_i _ _ _ e9
  split
  rename_i _ _ _ _ _ u10 e11
  dsimp -zeta only
  refine .seq noteOp_changes ?_ (by decide)
  refine Changes.snd ?_ e11
  refine .seq removeKey_changes ?_ (by decide)
  exact .refl
  rename_i _ _ e12
  dsimp -zeta only
  exact .refl
  rename_i _ e13
  dsimp -zeta only
  exact .refl

theorem finishTxn_changes {s : State} {id : Nat} {o : Op} : Changes 1703808 s (finishTxn s id o) := by
  unfold finishTxn
  (extract_lets +onlyGivenNames (merge := false) w0; clear_value w0)
  (extract_lets +onlyGivenNames (merge := false) w1; clear_value w1)
  extract_lets +onlyGivenNames (merge := false) w2
  split
  rename_i _ _ e3
  refine .seq failOp_changes ?_ (by decide)
  exact .refl
  rename_i _ e4
  refine gates_changes ?_ (by decide) (fun u5 h5 => ?_)
  exact .refl
  split
  rename_i _ _ u6 _ e7
  refine .seq committedOp_changes ?_ (by decide)
  refine .seq updOp_changes ?_ (by decide)
  refine Changes.fst ?_ e7
  refine .foldlFst (fun u8 a8 h8 => ?_) ?_
  refine .seq commitItem_changes ?_ (by decide)
  assumption
  dsimp -zeta only
  assumption

theorem takeLocks_changes {s : State} {id : Nat} {y2 : List Nat} : Changes 2048 s (takeLocks s id y2) := by
  induction y2 generalizing s id
  dsimp -zeta only [takeLocks]
  exact .refl
  rename_i a as ih
  dsimp -zeta only [takeLocks]
  refine .ite ?_ ?_
  exact .refl
  refine .seq ih ?_ (by decide)
  refine .seq takeLock_changes ?_ (by decide)
  exact .refl

theorem lockTxn_changes {s : State} {id : Nat} {o : Op} : Changes 2048 s (lockTxn s id o) := by
  unfold lockTxn
  refine .seq takeLocks_changes ?_ (by decide)
  refine .seq updOp_changes ?_ (by decide)
  exact .refl

theorem runTxn_changes {s : State} {id : Nat} {o : Op} : Changes 1703808 s (runTxn s id o) := by
  unfold runTxn
  refine .ite ?_ ?_
  refine .seq waitIn_changes ?_ (by decide)
  exact .refl
  (extract_lets +onlyGivenNames (merge := false) u0; suffices h0 : Changes 1703808 s u0; clear_value u0)
  refine .ite ?_ ?_
  refine .seq finishTxn_changes ?_ (by decide)
  assumption
  assumption
  dsimp -zeta only [u0]
  refine .seq lockTxn_changes ?_ (by decide)
  exact .refl

theorem mirrorTag_changes {v : State} {s : State} {k : ObjKey} {old : Obj} {new : Obj} {w : Nat} : Changes 1659776 s (mirrorTag v s k old new w) := by
  unfold mirrorTag
  refine .ite ?_ ?_
  refine .seq noteWrite_changes ?_ (by decide)
  exact .refl
  (extract_lets +onlyGivenNames (merge := false) u0; suffices h0 : Changes 1659776 s u0; clear_value u0)
  refine .ite ?_ ?_
  refine .seq mirrorPush_changes ?_ (by decide)
  assumption
  assumption
  dsimp -zeta only [u0]
  refine .seq trackReloc_changes ?_ (by decide)
  exact .refl

theorem runTag_changes {s : State} {id : Nat} {o : Op} : Changes 1703808 s (runTag s id o) := by
  unfold runTag
  (extract_lets +onlyGivenNames (merge := false) w0; clear_value w0)
  (extract_lets +onlyGivenNames (merge := false) w1; clear_value w1)
  extract_lets +onlyGivenNames (merge := false) w2
  (extract_lets +onlyGivenNames (merge := false) w3; clear_value w3)
  (extract_lets +onlyGivenNames (merge := false) w4; clear_value w4)
  refine .ite ?_ ?_
  refine .seq waitIn_changes ?_ (by decide)
  exact .refl
  split
  rename_i _ e5
  refine .seq failOp_changes ?_ (by decide)
  exact .refl
  rename_i _ _ e6
  (extract_lets +onlyGivenNames (merge := false) w7; clear_value w7)
  (extract_lets +onlyGivenNames (merge := false) w8; clear_value w8)
  extract_lets +onlyGivenNames (merge := false) w9
  (extract_lets +onlyGivenNames (merge := false) w10; clear_value w10)
  (extract_lets +onlyGivenNames (merge := false) w11; clear_value w11)
  split
  rename_i _ _ _ _ e12
  refine .seq failOp_changes ?_ (by decide)
  exact .refl
  rename_i _ _ _ e13
  refine gates_changes ?_ (by decide) (fun u14 h14 => ?_)
  exact .refl
  (extract_lets +onlyGivenNames (merge := false) w15; clear_value w15)
  (extract_lets +onlyGivenNames (merge := false) w16; clear_value w16)
  split
  rename_i _ _ _ _ _ u17 e18
  (extract_lets +onlyGivenNames (merge := false) u19; suffices h19 : Changes 1703808 s u19; clear_value u19)
  (extract_lets +onlyGivenNames (merge := false) u20; suffices h20 : Changes 1703808 s u20; clear_value u20)
  (extract_lets +onlyGivenNames (merge := false) u21; suffices h21 : Changes 1703808 s u21; clear_value u21)
  (extract_lets +onlyGivenNames (merge := false) u22; suffices h22 : Changes 1703808 s u22; clear_value u22)
  refine .seq committedOp_changes ?_ (by decide)
  refine .seq noteOp_changes ?_ (by decide)
  refine .seq mirrorTag_changes ?_ (by decide)
  assumption
  dsimp -zeta only [u22]
  refine .ite ?_ ?_
  assumption
  refine .seq logHold_changes ?_ (by decide)
  assumption
  dsimp -zeta only [u21]
  refine .seq dropEntries_changes ?_ (by decide)
  assumption
  dsimp -zeta only [u20]
  refine .seq stageLog_changes ?_ (by decide)
  assumption
  dsimp -zeta only [u19]
  refine .seq (updKv_changes ?_) ?_ (by decide)
  exact ⟨Nat.le_refl _, Nat.le_refl _, Nat.le_refl _, Nat.le_refl _, Nat.le_refl _⟩
  refine Changes.snd ?_ e18
  refine .seq takeWseq_changes ?_ (by decide)
  assumption

theorem beginRowSearch_changes {s : State} {n : Nat} {o : Op} : Changes 66304 s (beginRowSearch s n o) := by
  unfold beginRowSearch
  extract_lets +onlyGivenNames (merge := false) w0
  extract_lets +onlyGivenNames (merge := false) w1
  (extract_lets +onlyGivenNames (merge := false) w2; clear_value w2)
  (extract_lets +onlyGivenNames (merge := false) w3; clear_value w3)
  (extract_lets +onlyGivenNames (merge := false) w4; clear_value w4)
  extract_lets +onlyGivenNames (merge := false) w5
  split
  rename_i _ u6 _ e7
  refine .seq (updRow_changes ?_) ?_ (by decide)
  exact Nat.le_refl _
  refine Changes.fst ?_ e7
  refine .foldlFst (fun u8 a8 h8 => ?_) ?_
  dsimp -zeta only [w5]
  refine .seq rowSend_changes ?_ (by decide)
  assumption
  dsimp -zeta only
  exact .refl

theorem runFind_changes {s : State} {id : Nat} {o : Op} {g : Gen} : Changes 76544 s (runFind s id o g) := by
  unfold runFind
  refine .ite ?_ ?_
  refine .seq answerOp_changes ?_ (by decide)
  exact .refl
  split
  rename_i _ _ u0 e1
  refine .seq answerOp_changes ?_ (by decide)
  refine .ite ?_ ?_
  refine .seq beginRowSearch_changes ?_ (by decide)
  refine Changes.snd ?_ e1
  refine .seq newTicket_changes ?_ (by decide)
  exact .refl
  refine Changes.snd ?_ e1
  refine .seq newTicket_changes ?_ (by decide)
  exact .refl

theorem runFlush_changes {s : State} {id : Nat} {o : Op} : Changes 10240 s (runFlush s id o) := by
  unfold runFlush
  split
  rename_i _ _ _ e0
  refine .ite ?_ ?_
  refine .seq answerOp_changes ?_ (by decide)
  exact .refl
  refine .ite ?_ ?_
  refine .seq answerOp_changes ?_ (by decide)
  exact .refl
  refine .seq updOp_changes ?_ (by decide)
  refine .foldl (fun u1 a1 h1 => ?_) ?_
  refine .seq issuePacksOf_changes ?_ (by decide)
  assumption
  exact .refl

theorem wardenBell_changes {s : State} {x : StallNo} : Changes 1594240 s (wardenBell s x) := by
  unfold wardenBell
  (extract_lets +onlyGivenNames (merge := false) w0; clear_value w0)
  (extract_lets +onlyGivenNames (merge := false) w1; clear_value w1)
  refine .ite ?_ ?_
  exact .refl
  refine .seq logEv_changes ?_ (by decide)
  refine .seq updStall_changes ?_ (by decide)
  exact .refl

theorem runMbxSend_changes {s : State} {id : Nat} {o : Op} : Changes 1604480 s (runMbxSend s id o) := by
  unfold runMbxSend
  (extract_lets +onlyGivenNames (merge := false) w0; clear_value w0)
  refine .ite ?_ ?_
  refine .seq answerOp_changes ?_ (by decide)
  exact .refl
  (extract_lets +onlyGivenNames (merge := false) w1; clear_value w1)
  (extract_lets +onlyGivenNames (merge := false) u2; suffices h2 : Changes 1604480 s u2; clear_value u2)
  refine .seq answerOp_changes ?_ (by decide)
  refine .seq wardenBell_changes ?_ (by decide)
  refine .seq stageLog_changes ?_ (by decide)
  assumption
  dsimp -zeta only [u2]
  refine .seq updStall_changes ?_ (by decide)
  exact .refl

theorem runMbxRecv_changes {s : State} {id : Nat} {o : Op} : Changes 14336 s (runMbxRecv s id o) := by
  unfold runMbxRecv
  (extract_lets +onlyGivenNames (merge := false) w0; clear_value w0)
  (extract_lets +onlyGivenNames (merge := false) w1; clear_value w1)
  (extract_lets +onlyGivenNames (merge := false) u2; suffices h2 : Changes 14336 s u2; clear_value u2)
  (extract_lets +onlyGivenNames (merge := false) u3; suffices h3 : Changes 14336 s u3; clear_value u3)
  split
  refine .seq answerOp_changes ?_ (by decide)
  assumption
  refine .seq answerOp_changes ?_ (by decide)
  assumption
  dsimp -zeta only [u3]
  refine .ite ?_ ?_
  assumption
  refine .seq stageLog_changes ?_ (by decide)
  assumption
  dsimp -zeta only [u2]
  refine .seq updStall_changes ?_ (by decide)
  exact .refl

theorem runOp_changes {s : State} {id : Nat} : Changes 1703808 s (runOp s id) := by
  unfold runOp
  split
  rename_i _ e0
  exact .refl
  rename_i _ _ e1
  (extract_lets +onlyGivenNames (merge := false) w2; clear_value w2)
  split
  rename_i _ _ _ _ e3
  refine .seq failOp_changes ?_ (by decide)
  exact .refl
  rename_i _ _ _ e4
  split
  rename_i _ _ _ _ e5
  refine .seq runPut_changes ?_ (by decide)
  exact .refl
  rename_i _ _ _ _ e6
  refine .seq runPut_changes ?_ (by decide)
  exact .refl
  rename_i _ _ _ _ e7
  refine .seq runGet_changes ?_ (by decide)
  exact .refl
  rename_i _ _ _ _ e8
  refine .seq runHead_changes ?_ (by decide)
  exact .refl
  rename_i _ _ _ _ e9
  refine .seq runDelete_changes ?_ (by decide)
  exact .refl
  rename_i _ _ _ _ e10
  refine .seq runSeen_changes ?_ (by decide)
  exact .refl
  rename_i _ _ _ _ e11
  refine .seq runSeen_changes ?_ (by decide)
  exact .refl
  rename_i _ _ _ _ e12
  refine .seq runBegin_changes ?_ (by decide)
  exact .refl
  rename_i _ _ _ _ e13
  refine .seq runPart_changes ?_ (by decide)
  exact .refl
  rename_i _ _ _ _ e14
  refine .seq runCommit_changes ?_ (by decide)
  exact .refl
  rename_i _ _ _ _ e15
  refine .seq runAbort_changes ?_ (by decide)
  exact .refl
  rename_i _ _ _ _ e16
  refine .seq runTxn_changes ?_ (by decide)
  exact .refl
  rename_i _ _ _ _ e17
  refine .seq runTag_changes ?_ (by decide)
  exact .refl
  rename_i _ _ _ _ e18
  refine .seq runFind_changes ?_ (by decide)
  exact .refl
  rename_i _ _ _ _ e19
  refine .seq runFetch_changes ?_ (by decide)
  exact .refl
  rename_i _ _ _ _ e20
  refine .seq runFlush_changes ?_ (by decide)
  exact .refl
  rename_i _ _ _ _ e21
  refine .ite ?_ ?_
  refine .seq runRemoval_changes ?_ (by decide)
  exact .refl
  refine .seq runDelete_changes ?_ (by decide)
  exact .refl
  rename_i _ _ _ _ e22
  refine .seq runRemoval_changes ?_ (by decide)
  exact .refl
  rename_i _ _ _ _ e23
  exact .refl
  rename_i _ _ _ _ e24
  refine .seq runMbxSend_changes ?_ (by decide)
  exact .refl
  rename_i _ _ _ _ e25
  refine .seq runMbxRecv_changes ?_ (by decide)
  exact .refl

theorem wakeFor_changes {s : State} {o : Op} : Changes 16 s (wakeFor s o) := by
  unfold wakeFor
  (extract_lets +onlyGivenNames (merge := false) u0; suffices h0 : Changes 16 s u0; clear_value u0)
  (extract_lets +onlyGivenNames (merge := false) u1; suffices h1 : Changes 16 s u1; clear_value u1)
  refine .ite ?_ ?_
  refine .seq wakeIsl_changes ?_ (by decide)
  assumption
  assumption
  dsimp -zeta only [u1]
  refine .ite ?_ ?_
  assumption
  refine .seq wakeIsl_changes ?_ (by decide)
  assumption
  dsimp -zeta only [u0]
  refine .ite ?_ ?_
  exact .refl
  refine .seq wakeIsl_changes ?_ (by decide)
  exact .refl

theorem dispatchOp_changes {s : State} {id : Nat} : Changes 1703824 s (dispatchOp s id) := by
  unfold dispatchOp
  split
  rename_i _ e0
  exact .refl
  rename_i _ _ e1
  (extract_lets +onlyGivenNames (merge := false) u2; suffices h2 : Changes 1703824 s u2; clear_value u2)
  (extract_lets +onlyGivenNames (merge := false) u3; suffices h3 : Changes 1703824 s u3; clear_value u3)
  refine .seq runOp_changes ?_ (by decide)
  refine .seq updOp_changes ?_ (by decide)
  assumption
  dsimp -zeta only [u3]
  refine .foldl (fun u4 a4 h4 => ?_) ?_
  refine .seq noteLookup_changes ?_ (by decide)
  assumption
  refine .seq wakeFor_changes ?_ (by decide)
  refine .seq chargeBuckets_changes ?_ (by decide)
  assumption
  dsimp -zeta only [u2]
  refine .seq updStall_changes ?_ (by decide)
  exact .refl

theorem serveStall_changes {y0 : Nat} {y1 : State} {y2 : StallNo} : Changes 1703824 y1 (serveStall y0 y1 y2) := by
  induction y0 generalizing y1 y2
  dsimp -zeta only [serveStall]
  exact .refl
  rename_i m ih
  dsimp -zeta only [serveStall]
  refine .ite ?_ ?_
  exact .refl
  split
  rename_i _ e0
  exact .refl
  rename_i _ _ _ e1
  (extract_lets +onlyGivenNames (merge := false) w2; clear_value w2)
  refine .ite ?_ ?_
  refine .seq ih ?_ (by decide)
  refine .seq dispatchOp_changes ?_ (by decide)
  refine .seq updStall_changes ?_ (by decide)
  exact .refl
  exact .refl

theorem schedN_changes {y0 : Nat} {y1 : State} : Changes 1703824 y1 (schedN y0 y1) := by
  induction y0 generalizing y1
  dsimp -zeta only [schedN]
  exact .refl
  rename_i m ih
  dsimp -zeta only [schedN]
  (extract_lets +onlyGivenNames (merge := false) u0; suffices h0 : Changes 1703824 y1 u0; clear_value u0)
  refine .ite ?_ ?_
  assumption
  split
  rename_i _ e1
  assumption
  rename_i _ _ _ e2
  (extract_lets +onlyGivenNames (merge := false) u3; suffices h3 : Changes 1703824 y1 u3; clear_value u3)
  (extract_lets +onlyGivenNames (merge := false) u4; suffices h4 : Changes 1703824 y1 u4; clear_value u4)
  (extract_lets +onlyGivenNames (merge := false) u5; suffices h5 : Changes 1703824 y1 u5; clear_value u5)
  refine .seq ih ?_ (by decide)
  refine .ite ?_ ?_
  assumption
  refine .seq updStall_changes ?_ (by decide)
  assumption
  dsimp -zeta only [u5]
  refine .seq (updStalls_changes ?_) ?_ (by decide)
  exact Nat.le_refl _
  assumption
  dsimp -zeta only [u4]
  refine .seq serveStall_changes ?_ (by decide)
  assumption
  dsimp -zeta only [u3]
  refine .seq updStall_changes ?_ (by decide)
  assumption
  dsimp -zeta only [u0]
  refine .seq refreshActive_changes ?_ (by decide)
  exact .refl

theorem arrivalN_changes {y0 : Nat} {y1 : State} : Changes 1703824 y1 (arrivalN y0 y1) := by
  induction y0 generalizing y1
  dsimp -zeta only [arrivalN]
  exact .refl
  rename_i m ih
  dsimp -zeta only [arrivalN]
  refine .ite ?_ ?_
  exact .refl
  split
  rename_i _ e0
  exact .refl
  rename_i _ _ e1
  refine .seq ih ?_ (by decide)
  refine .seq dispatchOp_changes ?_ (by decide)
  exact .refl

theorem schedRun_changes {s : State} : Changes 1703824 s (schedRun s) := by
  unfold schedRun
  (extract_lets +onlyGivenNames (merge := false) u0; suffices h0 : Changes 1703824 s u0; clear_value u0)
  refine .seq wakeWork_changes ?_ (by decide)
  refine .ite ?_ ?_
  refine .seq markWaiting_changes ?_ (by decide)
  refine .seq schedN_changes ?_ (by decide)
  assumption
  refine .seq arrivalN_changes ?_ (by decide)
  assumption
  dsimp -zeta only [u0]
  refine .ite ?_ ?_
  exact .refl
  refine .seq wakeIsl_changes ?_ (by decide)
  exact .refl

theorem retryPersist_changes {s : State} {id : Nat} {o : Op} : Changes 10240 s (retryPersist s id o) := by
  unfold retryPersist
  refine .ite ?_ ?_
  refine .seq runFlush_changes ?_ (by decide)
  exact .refl
  refine .ite ?_ ?_
  refine .seq answerOp_changes ?_ (by decide)
  exact .refl
  exact .refl

theorem retryOp_changes {s : State} {id : Nat} : Changes 1703808 s (retryOp s id) := by
  unfold retryOp
  split
  rename_i _ e0
  exact .refl
  rename_i _ _ e1
  split
  rename_i _ _ _ e2
  refine .ite ?_ ?_
  refine .seq lockTxn_changes ?_ (by decide)
  exact .refl
  refine .seq runOp_changes ?_ (by decide)
  exact .refl
  rename_i _ _ _ e3
  refine .ite ?_ ?_
  refine .seq runOp_changes ?_ (by decide)
  exact .refl
  exact .refl
  rename_i _ _ _ e4
  refine .seq retryPersist_changes ?_ (by decide)
  exact .refl
  exact .refl

theorem retryPass_changes {s : State} : Changes 1703808 s (retryPass s) := by
  unfold retryPass
  refine .foldl (fun u0 a0 h0 => ?_) ?_
  refine .seq retryOp_changes ?_ (by decide)
  assumption
  exact .refl

theorem settleN_changes {y0 : Nat} {y1 : State} : Changes 1703808 y1 (settleN y0 y1) := by
  induction y0 generalizing y1
  dsimp -zeta only [settleN]
  exact .refl
  rename_i m ih
  dsimp -zeta only [settleN]
  refine .seq ih ?_ (by decide)
  refine .seq retryPass_changes ?_ (by decide)
  exact .refl

theorem settle_changes {s : State} : Changes 1703808 s (settle s) := by
  unfold settle
  refine .seq settleN_changes ?_ (by decide)
  exact .refl

theorem rerun_changes {s : State} {p : OpPhase} : Changes 1703808 s (rerun s p) := by
  unfold rerun
  refine .seq settle_changes ?_ (by decide)
  refine .foldl (fun u0 a0 h0 => ?_) ?_
  refine .seq runOp_changes ?_ (by decide)
  assumption
  exact .refl

/-! ### Machine/ProtoOps.lean -/

theorem authFail_changes {s : State} {a : IpAddr} {x : Option Nat} {g : Gen} : Changes 1591168 s (authFail s a x g) := by
  unfold authFail
  (extract_lets +onlyGivenNames (merge := false) u0; suffices h0 : Changes 1591168 s u0; clear_value u0)
  (extract_lets +onlyGivenNames (merge := false) w1; clear_value w1)
  (extract_lets +onlyGivenNames (merge := false) w2; clear_value w2)
  (extract_lets +onlyGivenNames (merge := false) w3; clear_value w3)
  (extract_lets +onlyGivenNames (merge := false) w4; clear_value w4)
  (extract_lets +onlyGivenNames (merge := false) u5; suffices h5 : Changes 1591168 s u5; clear_value u5)
  refine .ite ?_ ?_
  refine .seq logEv_changes ?_ (by decide)
  assumption
  assumption
  dsimp -zeta only [u5]
  refine .seq (updProto_changes ?_) ?_ (by decide)
  exact Nat.le_refl _
  assumption
  dsimp -zeta only [u0]
  refine .seq logEv_changes ?_ (by decide)
  refine .seq countP_changes ?_ (by decide)
  exact .refl

theorem answerHeartbeat_changes {s : State} {i : Nat} {c : Conn} {f : Frame} : Changes 1792 s (answerHeartbeat s i c f) := by
  unfold answerHeartbeat
  (extract_lets +onlyGivenNames (merge := false) w0; clear_value w0)
  refine .seq sendFrame_changes ?_ (by decide)
  exact .refl

theorem refuseFrame_changes {s : State} {i : Nat} {c : Conn} {f : Frame} {st : Status} {reason : Nat} : Changes 1605504 s (refuseFrame s i c f st reason) := by
  unfold refuseFrame
  split
  rename_i _ _ _ e0
  (extract_lets +onlyGivenNames (merge := false) w1; clear_value w1)
  (extract_lets +onlyGivenNames (merge := false) w2; clear_value w2)
  split
  rename_i _ _ _ _ _ e3
  refine .seq replyInOrder_changes ?_ (by decide)
  exact .refl
  rename_i _ _ _ _ e4
  refine .seq sendFrame_changes ?_ (by decide)
  exact .refl

theorem helloFails_changes {s : State} {i : Nat} {f : Frame} {st : Status} {reason : Nat} {gen : Nat} : Changes 12032 s (helloFails s i f st reason gen) := by
  unfold helloFails
  refine .seq closeConn_changes ?_ (by decide)
  refine .seq sendFrame_changes ?_ (by decide)
  exact .refl

theorem noteSession_changes {s : State} : Changes 131072 s (noteSession s) := by
  unfold noteSession
  refine .seq (updFw_changes ?_) ?_ (by decide)
  exact fun _ h => h
  exact .refl

theorem serveHello_changes {s : State} {i : Nat} {c : Conn} {f : Frame} : Changes 2240256 s (serveHello s i c f) := by
  unfold serveHello
  (extract_lets +onlyGivenNames (merge := false) w0; clear_value w0)
  (extract_lets +onlyGivenNames (merge := false) w1; clear_value w1)
  refine .ite ?_ ?_
  refine .seq helloFails_changes ?_ (by decide)
  exact .refl
  refine .ite ?_ ?_
  refine .seq helloFails_changes ?_ (by decide)
  exact .refl
  refine .ite ?_ ?_
  refine .seq helloFails_changes ?_ (by decide)
  exact .refl
  refine .ite ?_ ?_
  refine .seq helloFails_changes ?_ (by decide)
  exact .refl
  refine .ite ?_ ?_
  refine .seq helloFails_changes ?_ (by decide)
  exact .refl
  refine .ite ?_ ?_
  refine .seq helloFails_changes ?_ (by decide)
  exact .refl
  refine .ite ?_ ?_
  refine .seq helloFails_changes ?_ (by decide)
  exact .refl
  extract_lets +onlyGivenNames (merge := false) w2
  extract_lets +onlyGivenNames (merge := false) w3
  extract_lets +onlyGivenNames (merge := false) w4
  split
  rename_i _ _ u5 e6
  extract_lets +onlyGivenNames (merge := false) w7
  (extract_lets +onlyGivenNames (merge := false) u8; suffices h8 : Changes 2240256 s u8; clear_value u8)
  (extract_lets +onlyGivenNames (merge := false) w9; clear_value w9)
  (extract_lets +onlyGivenNames (merge := false) u10; suffices h10 : Changes 2240256 s u10; clear_value u10)
  (extract_lets +onlyGivenNames (merge := false) u11; suffices h11 : Changes 2240256 s u11; clear_value u11)
  refine .seq sendFrame_changes ?_ (by decide)
  assumption
  dsimp -zeta only [u11]
  refine .ite ?_ ?_
  refine .seq noteSession_changes ?_ (by decide)
  assumption
  assumption
  dsimp -zeta only [u10]
  refine .seq updConn_changes ?_ (by decide)
  assumption
  dsimp -zeta only [u8]
  refine .seq (updProto_changes ?_) ?_ (by decide)
  exact Nat.le_refl _
  refine Changes.snd ?_ e6
  split
  rename_i _ _ e12
  refine .seq freshBytes_changes ?_ (by decide)
  exact .refl
  dsimp -zeta only
  exact .refl

theorem serveAuth_changes {s : State} {i : Nat} {c : Conn} {f : Frame} : Changes 143104 s (serveAuth s i c f) := by
  unfold serveAuth
  (extract_lets +onlyGivenNames (merge := false) w0; clear_value w0)
  extract_lets +onlyGivenNames (merge := false) w1
  refine .ite ?_ ?_
  refine .seq sendFrame_changes ?_ (by decide)
  exact .refl
  split
  rename_i _ e2
  refine .seq updConn_changes ?_ (by decide)
  exact .refl
  rename_i _ _ e3
  refine .ite ?_ ?_
  refine .seq updConn_changes ?_ (by decide)
  exact .refl
  refine .ite ?_ ?_
  refine .seq closeConn_changes ?_ (by decide)
  refine .seq sendFrame_changes ?_ (by decide)
  exact .refl
  refine .ite ?_ ?_
  refine .seq closeConn_changes ?_ (by decide)
  refine .seq sendFrame_changes ?_ (by decide)
  exact .refl
  (extract_lets +onlyGivenNames (merge := false) u4; suffices h4 : Changes 143104 s u4; clear_value u4)
  refine .seq sendFrame_changes ?_ (by decide)
  refine .seq noteSession_changes ?_ (by decide)
  assumption
  dsimp -zeta only [u4]
  refine .seq updConn_changes ?_ (by decide)
  exact .refl

theorem serveChannel_changes {s : State} {i : Nat} {c : Conn} {f : Frame} : Changes 1605504 s (serveChannel s i c f) := by
  unfold serveChannel
  refine .ite ?_ ?_
  extract_lets +onlyGivenNames (merge := false) w0
  (extract_lets +onlyGivenNames (merge := false) u1; suffices h1 : Changes 1605504 s u1; clear_value u1)
  refine .seq sendFrame_changes ?_ (by decide)
  assumption
  dsimp -zeta only [u1]
  refine .seq updConn_changes ?_ (by decide)
  exact .refl
  refine .seq pump_changes ?_ (by decide)
  refine .seq updChan_changes ?_ (by decide)
  exact .refl

theorem serveRequest_changes {s : State} {i : Nat} {c : Conn} {f : Frame} : Changes 1703824 s (serveRequest s i c f) := by
  unfold serveRequest
  (extract_lets +onlyGivenNames (merge := false) w0; clear_value w0)
  extract_lets +onlyGivenNames (merge := false) w1
  refine .ite ?_ ?_
  refine .seq refuseFrame_changes ?_ (by decide)
  exact .refl
  refine .ite ?_ ?_
  refine .seq refuseFrame_changes ?_ (by decide)
  exact .refl
  refine .ite ?_ ?_
  refine .seq serveChannel_changes ?_ (by decide)
  exact .refl
  split
  rename_i _ _ e2
  refine .seq answerHeartbeat_changes ?_ (by decide)
  exact .refl
  rename_i _ _ _ _ _ e3 e4
  refine .ite ?_ ?_
  refine .seq refuseFrame_changes ?_ (by decide)
  exact .refl
  refine .seq settle_changes ?_ (by decide)
  refine .seq schedRun_changes ?_ (by decide)
  refine .seq admitRequest_changes ?_ (by decide)
  exact .refl
  exact .refl

theorem stageRequest_changes {s : State} {i : Nat} {c : Conn} {f : Frame} : Changes 1703824 s (stageRequest s i c f) := by
  unfold stageRequest
  refine .ite ?_ ?_
  refine .seq serveRequest_changes ?_ (by decide)
  exact .refl
  refine .seq updConn_changes ?_ (by decide)
  exact .refl

theorem unblockN_changes {y0 : Nat} {y1 : State} {y2 : Nat} : Changes 1703824 y1 (unblockN y0 y1 y2) := by
  induction y0 generalizing y1 y2
  dsimp -zeta only [unblockN]
  exact .refl
  rename_i m ih
  dsimp -zeta only [unblockN]
  split
  rename_i _ e0
  exact .refl
  rename_i _ _ e1
  split
  rename_i _ _ _ e2
  exact .refl
  rename_i _ _ _ _ _ e3
  refine .ite ?_ ?_
  refine .seq ih ?_ (by decide)
  refine .seq serveRequest_changes ?_ (by decide)
  refine .seq updConn_changes ?_ (by decide)
  exact .refl
  exact .refl

theorem unblock_changes {s : State} : Changes 1703824 s (unblock s) := by
  unfold unblock
  refine .foldl (fun u0 a0 h0 => ?_) ?_
  refine .seq unblockN_changes ?_ (by decide)
  assumption
  exact .refl

theorem serveFrame_changes {s : State} {i : Nat} {f : Frame} : Changes 3932048 s (serveFrame s i f) := by
  unfold serveFrame
  split
  rename_i _ e0
  exact .refl
  rename_i _ _ e1
  split
  rename_i _ _ _ e2
  exact .refl
  rename_i _ _ _ e3
  exact .refl
  rename_i _ _ _ e4
  exact .refl
  rename_i _ _ _ e5
  exact .refl
  (extract_lets +onlyGivenNames (merge := false) u6; suffices h6 : Changes 3932048 s u6; clear_value u6)
  refine .ite ?_ ?_
  refine .seq closeConn_changes ?_ (by decide)
  refine .seq refuseFrame_changes ?_ (by decide)
  assumption
  refine .ite ?_ ?_
  refine .seq refuseFrame_changes ?_ (by decide)
  refine .seq cancelConnSpec_changes ?_ (by decide)
  assumption
  split
  rename_i _ _ _ _ _ _ _ _ _ e7
  (extract_lets +onlyGivenNames (merge := false) u8; suffices h8 : Changes 3932048 s u8; clear_value u8)
  refine .ite ?_ ?_
  refine .seq closeConn_changes ?_ (by decide)
  assumption
  assumption
  dsimp -zeta only [u8]
  refine .seq refuseFrame_changes ?_ (by decide)
  assumption
  rename_i _ _ _ _ _ _ _ _ e9
  split
  rename_i _ _ _ _ _ _ _ _ _ _ e10 e11
  refine .seq serveHello_changes ?_ (by decide)
  assumption
  rename_i _ _ _ _ _ _ _ _ _ _ e12 e13
  refine .seq serveAuth_changes ?_ (by decide)
  assumption
  rename_i _ _ _ _ _ _ _ _ _ _ e14 e15
  refine .seq refuseFrame_changes ?_ (by decide)
  assumption
  rename_i _ _ _ _ _ _ _ _ _ _ e16 e17
  refine .seq refuseFrame_changes ?_ (by decide)
  assumption
  rename_i _ _ _ _ _ _ _ _ _ _ e18 _ _
  refine .seq stageRequest_changes ?_ (by decide)
  assumption
  refine .seq closeConn_changes ?_ (by decide)
  refine .seq refuseFrame_changes ?_ (by decide)
  assumption
  dsimp -zeta only [u6]
  refine .seq updConn_changes ?_ (by decide)
  refine .seq wakeIsl_changes ?_ (by decide)
  exact .refl

theorem loseAlignment_changes {s : State} {i : Nat} {bs : List Byte} : Changes 12032 s (loseAlignment s i bs) := by
  unfold loseAlignment
  split
  rename_i _ e0
  exact .refl
  rename_i _ _ e1
  (extract_lets +onlyGivenNames (merge := false) u2; suffices h2 : Changes 12032 s u2; clear_value u2)
  refine .ite ?_ ?_
  refine .seq closeConn_changes ?_ (by decide)
  assumption
  refine .seq updConn_changes ?_ (by decide)
  refine .seq countP_changes ?_ (by decide)
  assumption
  dsimp -zeta only [u2]
  refine .seq sendFrame_changes ?_ (by decide)
  refine .seq cancelConnSpec_changes ?_ (by decide)
  exact .refl

theorem serveStream_changes {y0 : Nat} {y1 : State} {y2 : Nat} {y3 : Bool} {y4 : List Byte} : Changes 3932048 y1 (serveStream y0 y1 y2 y3 y4) := by
  induction y0 generalizing y1 y2 y3 y4
  dsimp -zeta only [serveStream]
  exact .refl
  rename_i m ih
  dsimp -zeta only [serveStream]
  split
  rename_i _ e0
  exact .refl
  rename_i _ _ e1
  refine .ite ?_ ?_
  exact .refl
  split
  rename_i _ _ _ _ _ e2
  refine .seq ih ?_ (by decide)
  refine .ite ?_ ?_
  exact .refl
  refine .seq serveFrame_changes ?_ (by decide)
  exact .refl
  rename_i _ _ _ e3
  refine .ite ?_ ?_
  refine .seq loseAlignment_changes ?_ (by decide)
  exact .refl
  exact .refl

theorem scanFails_changes {s : State} {i : Nat} : Changes 1601408 s (scanFails s i) := by
  unfold scanFails
  split
  rename_i _ e0
  exact .refl
  rename_i _ _ e1
  refine .seq closeConn_changes ?_ (by decide)
  refine .seq logEv_changes ?_ (by decide)
  refine .seq countP_changes ?_ (by decide)
  exact .refl

theorem scanN_changes {y0 : Nat} {y1 : State} {y2 : Nat} : Changes 3932048 y1 (scanN y0 y1 y2) := by
  induction y0 generalizing y1 y2
  dsimp -zeta only [scanN]
  exact .refl
  rename_i m ih
  dsimp -zeta only [scanN]
  split
  rename_i _ e0
  exact .refl
  rename_i _ _ e1
  refine .ite ?_ ?_
  exact .refl
  refine .ite ?_ ?_
  refine .seq scanFails_changes ?_ (by decide)
  exact .refl
  (extract_lets +onlyGivenNames (merge := false) u2; suffices h2 : Changes 3932048 y1 u2; clear_value u2)
  split
  rename_i _ _ _ e3
  assumption
  rename_i _ _ _ e4
  refine .seq ih ?_ (by decide)
  refine .seq updConn_changes ?_ (by decide)
  assumption
  rename_i _ _ _ _ e5
  extract_lets +onlyGivenNames (merge := false) w6
  (extract_lets +onlyGivenNames (merge := false) u7; suffices h7 : Changes 3932048 y1 u7; clear_value u7)
  (extract_lets +onlyGivenNames (merge := false) w8; clear_value w8)
  (extract_lets +onlyGivenNames (merge := false) u9; suffices h9 : Changes 3932048 y1 u9; clear_value u9)
  refine .seq serveStream_changes ?_ (by decide)
  assumption
  dsimp -zeta only [u9]
  refine .seq updConn_changes ?_ (by decide)
  assumption
  dsimp -zeta only [u7]
  refine .seq logEv_changes ?_ (by decide)
  refine .seq countP_changes ?_ (by decide)
  assumption
  dsimp -zeta only [u2]
  split
  rename_i _ _ _ _ e10
  refine .seq answerHeartbeat_changes ?_ (by decide)
  refine .seq updConn_changes ?_ (by decide)
  exact .refl
  rename_i _ _ _ e11
  exact .refl

theorem peerGone_changes {s : State} {i : Nat} : Changes 11520 s (peerGone s i) := by
  unfold peerGone
  refine .seq dropSegs_changes ?_ (by decide)
  refine .seq dropHeld_changes ?_ (by decide)
  refine .seq (updProto_changes ?_) ?_ (by decide)
  exact Nat.le_refl _
  exact .refl

theorem addConn_changes {s : State} {c : Conn} : Changes 1024 s (addConn s c) := by
  unfold addConn
  refine .seq (updProto_changes ?_) ?_ (by decide)
  exact Nat.le_succ _
  exact .refl

theorem resetNew_changes {s : State} {c : Conn} : Changes 1792 s (resetNew s c) := by
  unfold resetNew
  refine .seq sendReset_changes ?_ (by decide)
  refine .seq (updProto_changes ?_) ?_ (by decide)
  exact Nat.le_succ _
  exact .refl

theorem refuseKv1_changes {s : State} {c : Conn} : Changes 1591168 s (refuseKv1 s c) := by
  unfold refuseKv1
  (extract_lets +onlyGivenNames (merge := false) w0; clear_value w0)
  (extract_lets +onlyGivenNames (merge := false) u1; suffices h1 : Changes 1591168 s u1; clear_value u1)
  (extract_lets +onlyGivenNames (merge := false) w2; clear_value w2)
  refine .ite ?_ ?_
  assumption
  refine .seq logEv_changes ?_ (by decide)
  refine .seq (updProto_changes ?_) ?_ (by decide)
  exact Nat.le_refl _
  assumption
  dsimp -zeta only [u1]
  refine .seq countP_changes ?_ (by decide)
  refine .seq resetNew_changes ?_ (by decide)
  exact .refl

theorem frameRow_changes {s : State} {kind : Nat} {opcode : Nat} {i : Nat} {f : Frame} : Changes 3932048 s (frameRow s kind opcode i f) := by
  unfold frameRow
  split
  rename_i _ _ e0
  refine .ite ?_ ?_
  refine .seq serveFrame_changes ?_ (by decide)
  exact .refl
  exact .refl
  rename_i _ e1
  refine .seq serveFrame_changes ?_ (by decide)
  exact .refl

/-! ### Machine/SearchOps.lean -/

theorem updSearch_changes {s : State} {n : Nat} {f : RowSearch → RowSearch} : Changes 65536 s (updSearch s n f) := by
  unfold updSearch
  refine .seq (updRow_changes ?_) ?_ (by decide)
  exact Nat.le_refl _
  exact .refl

theorem memberEnds_changes {s : State} {n : Nat} {serial : Nat} {st : MemberStatus} : Changes 65536 s (memberEnds s n serial st) := by
  unfold memberEnds
  refine .seq updSearch_changes ?_ (by decide)
  exact .refl

theorem takeRecords_changes {s : State} {n : Nat} {serial : Nat} {rs : List ObjRecord} : Changes 67584 s (takeRecords s n serial rs) := by
  unfold takeRecords
  split
  rename_i _ e0
  exact .refl
  rename_i _ _ e1
  extract_lets +onlyGivenNames (merge := false) w2
  (extract_lets +onlyGivenNames (merge := false) u3; suffices h3 : Changes 67584 s u3; clear_value u3)
  refine .ite ?_ ?_
  refine .seq updTicket_changes ?_ (by decide)
  assumption
  assumption
  dsimp -zeta only [u3]
  refine .seq updSearch_changes ?_ (by decide)
  exact .refl

theorem endSearch_changes {s : State} {n : Nat} : Changes 68352 s (endSearch s n) := by
  unfold endSearch
  split
  rename_i _ e0
  exact .refl
  rename_i _ _ e1
  (extract_lets +onlyGivenNames (merge := false) w2; clear_value w2)
  (extract_lets +onlyGivenNames (merge := false) u3; suffices h3 : Changes 68352 s u3; clear_value u3)
  (extract_lets +onlyGivenNames (merge := false) w4; clear_value w4)
  (extract_lets +onlyGivenNames (merge := false) w5; clear_value w5)
  (extract_lets +onlyGivenNames (merge := false) w6; clear_value w6)
  (extract_lets +onlyGivenNames (merge := false) w7; clear_value w7)
  (extract_lets +onlyGivenNames (merge := false) u8; suffices h8 : Changes 68352 s u8; clear_value u8)
  refine .seq endTicket_changes ?_ (by decide)
  refine .seq updTicket_changes ?_ (by decide)
  assumption
  dsimp -zeta only [u8]
  refine .seq (updRow_changes ?_) ?_ (by decide)
  exact Nat.le_refl _
  assumption
  dsimp -zeta only [u3]
  refine .foldl (fun u9 a9 h9 => ?_) ?_
  refine .seq rowSend_changes ?_ (by decide)
  assumption
  exact .refl

theorem endIfDone_changes {s : State} {n : Nat} : Changes 68352 s (endIfDone s n) := by
  unfold endIfDone
  split
  rename_i _ e0
  exact .refl
  rename_i _ _ e1
  refine .ite ?_ ?_
  refine .seq endSearch_changes ?_ (by decide)
  exact .refl
  exact .refl

theorem findEnds_changes {s : State} {n : Nat} {t : Ticket} : Changes 101120 s (findEnds s n t) := by
  unfold findEnds
  (extract_lets +onlyGivenNames (merge := false) w0; clear_value w0)
  refine .ite ?_ ?_
  refine .seq endTicket_changes ?_ (by decide)
  refine .seq (updRow_changes ?_) ?_ (by decide)
  exact Nat.le_refl _
  exact .refl
  (extract_lets +onlyGivenNames (merge := false) w1; clear_value w1)
  (extract_lets +onlyGivenNames (merge := false) w2; clear_value w2)
  (extract_lets +onlyGivenNames (merge := false) w3; clear_value w3)
  (extract_lets +onlyGivenNames (merge := false) w4; clear_value w4)
  (extract_lets +onlyGivenNames (merge := false) w5; clear_value w5)
  (extract_lets +onlyGivenNames (merge := false) u6; suffices h6 : Changes 101120 s u6; clear_value u6)
  split
  rename_i _ _ e7
  refine .seq endIfDone_changes ?_ (by decide)
  refine .seq memberEnds_changes ?_ (by decide)
  refine .seq takeRecords_changes ?_ (by decide)
  assumption
  rename_i _ e8
  extract_lets +onlyGivenNames (merge := false) w9
  (extract_lets +onlyGivenNames (merge := false) w10; clear_value w10)
  refine .seq endTicket_changes ?_ (by decide)
  refine .seq updTicket_changes ?_ (by decide)
  assumption
  dsimp -zeta only [u6]
  refine .seq updTicket_changes ?_ (by decide)
  refine .seq countFind_changes ?_ (by decide)
  exact .refl

theorem servedEnds_changes {s : State} {v : ServedSearch} : Changes 99072 s (servedEnds s v) := by
  unfold servedEnds
  (extract_lets +onlyGivenNames (merge := false) w0; clear_value w0)
  (extract_lets +onlyGivenNames (merge := false) w1; clear_value w1)
  (extract_lets +onlyGivenNames (merge := false) w2; clear_value w2)
  (extract_lets +onlyGivenNames (merge := false) w3; clear_value w3)
  (extract_lets +onlyGivenNames (merge := false) u4; suffices h4 : Changes 99072 s u4; clear_value u4)
  (extract_lets +onlyGivenNames (merge := false) u5; suffices h5 : Changes 99072 s u5; clear_value u5)
  (extract_lets +onlyGivenNames (merge := false) u6; suffices h6 : Changes 99072 s u6; clear_value u6)
  refine .seq (updRow_changes ?_) ?_ (by decide)
  exact Nat.le_refl _
  assumption
  dsimp -zeta only [u6]
  refine .seq rowSend_changes ?_ (by decide)
  assumption
  dsimp -zeta only [u5]
  refine .foldl (fun u7 a7 h7 => ?_) ?_
  refine .seq rowSend_changes ?_ (by decide)
  assumption
  assumption
  dsimp -zeta only [u4]
  refine .ite ?_ ?_
  refine .foldl (fun u8 a8 h8 => ?_) ?_
  refine .seq countFind_changes ?_ (by decide)
  assumption
  exact .refl
  exact .refl

theorem arcDies_changes {s : State} : Changes 101120 s (arcDies s) := by
  unfold arcDies
  (extract_lets +onlyGivenNames (merge := false) u0; suffices h0 : Changes 101120 s u0; clear_value u0)
  (extract_lets +onlyGivenNames (merge := false) w1; clear_value w1)
  (extract_lets +onlyGivenNames (merge := false) u2; suffices h2 : Changes 101120 s u2; clear_value u2)
  refine .foldl (fun u3 a3 h3 => ?_) ?_
  refine .seq answerOp_changes ?_ (by decide)
  refine .seq freeLocks_changes ?_ (by decide)
  assumption
  assumption
  dsimp -zeta only [u2]
  refine .foldl (fun u4 a4 h4 => ?_) ?_
  refine .seq findEnds_changes ?_ (by decide)
  assumption
  assumption
  dsimp -zeta only [u0]
  refine .seq updArc_changes ?_ (by decide)
  exact .refl

/-! ### Machine/Kv.lean -/

theorem execPut_changes {conn : Nat} {f : Frame} {s : State} : NextChanges 3932048 s (execPut conn f s) := by
  unfold execPut
  refine .next ?_
  refine .seq frameRow_changes ?_ (by decide)
  exact .refl

theorem execGet_changes {conn : Nat} {f : Frame} {s : State} : NextChanges 3932048 s (execGet conn f s) := by
  unfold execGet
  refine .next ?_
  refine .seq frameRow_changes ?_ (by decide)
  exact .refl

theorem execHead_changes {conn : Nat} {f : Frame} {s : State} : NextChanges 3932048 s (execHead conn f s) := by
  unfold execHead
  refine .next ?_
  refine .seq frameRow_changes ?_ (by decide)
  exact .refl

theorem execDelete_changes {conn : Nat} {f : Frame} {s : State} : NextChanges 3932048 s (execDelete conn f s) := by
  unfold execDelete
  refine .next ?_
  refine .seq frameRow_changes ?_ (by decide)
  exact .refl

theorem execList_changes {conn : Nat} {f : Frame} {s : State} : NextChanges 3932048 s (execList conn f s) := by
  unfold execList
  refine .next ?_
  refine .seq frameRow_changes ?_ (by decide)
  exact .refl

theorem execCas_changes {conn : Nat} {f : Frame} {s : State} : NextChanges 3932048 s (execCas conn f s) := by
  unfold execCas
  refine .next ?_
  refine .seq frameRow_changes ?_ (by decide)
  exact .refl

theorem execMputBegin_changes {conn : Nat} {f : Frame} {s : State} : NextChanges 3932048 s (execMputBegin conn f s) := by
  unfold execMputBegin
  refine .next ?_
  refine .seq frameRow_changes ?_ (by decide)
  exact .refl

theorem execMputPart_changes {conn : Nat} {f : Frame} {s : State} : NextChanges 3932048 s (execMputPart conn f s) := by
  unfold execMputPart
  refine .next ?_
  refine .seq frameRow_changes ?_ (by decide)
  exact .refl

theorem execMputCommit_changes {conn : Nat} {f : Frame} {s : State} : NextChanges 3932048 s (execMputCommit conn f s) := by
  unfold execMputCommit
  refine .next ?_
  refine .seq frameRow_changes ?_ (by decide)
  exact .refl

theorem execMputAbort_changes {conn : Nat} {f : Frame} {s : State} : NextChanges 3932048 s (execMputAbort conn f s) := by
  unfold execMputAbort
  refine .next ?_
  refine .seq frameRow_changes ?_ (by decide)
  exact .refl

theorem execUploadExpiry_changes {handle : Nat} {s : State} : NextChanges 1703810 s (execUploadExpiry handle s) := by
  unfold execUploadExpiry
  refine .next ?_
  split
  rename_i _ e0
  exact .refl
  rename_i _ _ e1
  refine .seq settle_changes ?_ (by decide)
  refine .seq endUpload_changes ?_ (by decide)
  refine .seq advanceTo_changes ?_ (by decide)
  exact .refl

theorem execTxn_changes {conn : Nat} {f : Frame} {s : State} : NextChanges 3932048 s (execTxn conn f s) := by
  unfold execTxn
  refine .next ?_
  refine .seq frameRow_changes ?_ (by decide)
  exact .refl

theorem execTxnLocksTaken_changes {op : Nat} {s : State} : NextChanges 1703808 s (execTxnLocksTaken op s) := by
  unfold execTxnLocksTaken
  refine .next ?_
  split
  rename_i _ e0
  exact .refl
  rename_i _ _ e1
  refine .ite ?_ ?_
  (extract_lets +onlyGivenNames (merge := false) u2; suffices h2 : Changes 1703808 s u2; clear_value u2)
  refine .ite ?_ ?_
  refine .seq settle_changes ?_ (by decide)
  refine .seq finishTxn_changes ?_ (by decide)
  assumption
  assumption
  dsimp -zeta only [u2]
  refine .seq lockTxn_changes ?_ (by decide)
  exact .refl
  exact .refl

theorem execLockTimeout_changes {op : Nat} {s : State} : NextChanges 1703810 s (execLockTimeout op s) := by
  unfold execLockTimeout
  refine .next ?_
  split
  rename_i _ e0
  exact .refl
  rename_i _ _ e1
  split
  rename_i _ _ _ _ _ e2 e3
  refine .ite ?_ ?_
  refine .seq settle_changes ?_ (by decide)
  refine .seq answerOp_changes ?_ (by decide)
  refine .seq freeLocks_changes ?_ (by decide)
  refine .seq advanceTo_changes ?_ (by decide)
  exact .refl
  exact .refl
  exact .refl

theorem execTag_changes {conn : Nat} {f : Frame} {s : State} : NextChanges 3932048 s (execTag conn f s) := by
  unfold execTag
  refine .next ?_
  refine .seq frameRow_changes ?_ (by decide)
  exact .refl

theorem execFind_changes {conn : Nat} {f : Frame} {s : State} : NextChanges 3932048 s (execFind conn f s) := by
  unfold execFind
  refine .next ?_
  refine .seq frameRow_changes ?_ (by decide)
  exact .refl

theorem execFindDone_changes {run : FindRun} {s : State} : NextChanges 101120 s (execFindDone run s) := by
  unfold execFindDone
  refine .next ?_
  split
  split
  rename_i _ _ _ e0
  exact .refl
  rename_i _ _ _ _ e1
  refine .ite ?_ ?_
  refine .seq findEnds_changes ?_ (by decide)
  exact .refl
  exact .refl
  split
  rename_i _ _ _ _ e2
  exact .refl
  rename_i _ _ _ _ _ e3
  refine .seq servedEnds_changes ?_ (by decide)
  exact .refl

theorem execFetch_changes {conn : Nat} {f : Frame} {s : State} : NextChanges 3932048 s (execFetch conn f s) := by
  unfold execFetch
  refine .next ?_
  refine .seq frameRow_changes ?_ (by decide)
  exact .refl

theorem execTicketExpiry_changes {ticket : Nat} {s : State} : NextChanges 2050 s (execTicketExpiry ticket s) := by
  unfold execTicketExpiry
  refine .next ?_
  split
  rename_i _ e0
  exact .refl
  rename_i _ _ e1
  refine .ite ?_ ?_
  exact .refl
  refine .seq (updKv_changes ?_) ?_ (by decide)
  exact ⟨Nat.le_refl _, Nat.le_refl _, Nat.le_refl _, Nat.le_refl _, Nat.le_refl _⟩
  refine .seq advanceTo_changes ?_ (by decide)
  exact .refl

theorem execFlush_changes {conn : Nat} {f : Frame} {s : State} : NextChanges 3932048 s (execFlush conn f s) := by
  unfold execFlush
  refine .next ?_
  refine .seq frameRow_changes ?_ (by decide)
  exact .refl

theorem execDiscard_changes {conn : Nat} {f : Frame} {s : State} : NextChanges 3932048 s (execDiscard conn f s) := by
  unfold execDiscard
  refine .next ?_
  refine .seq frameRow_changes ?_ (by decide)
  exact .refl

theorem execDiscardTicketDone_changes {ticket : Nat} {s : State} : NextChanges 2048 s (execDiscardTicketDone ticket s) := by
  unfold execDiscardTicketDone
  refine .next ?_
  split
  rename_i _ e0
  exact .refl
  rename_i _ _ e1
  refine .ite ?_ ?_
  refine .seq endTicket_changes ?_ (by decide)
  exact .refl
  exact .refl

theorem execShred_changes {conn : Nat} {f : Frame} {s : State} : NextChanges 3932048 s (execShred conn f s) := by
  unfold execShred
  refine .next ?_
  refine .seq frameRow_changes ?_ (by decide)
  exact .refl

theorem execStat_changes {conn : Nat} {f : Frame} {s : State} : NextChanges 3932048 s (execStat conn f s) := by
  unfold execStat
  refine .next ?_
  refine .seq frameRow_changes ?_ (by decide)
  exact .refl

theorem execMbxSend_changes {conn : Nat} {f : Frame} {s : State} : NextChanges 3932048 s (execMbxSend conn f s) := by
  unfold execMbxSend
  refine .next ?_
  refine .seq frameRow_changes ?_ (by decide)
  exact .refl

theorem execMbxRecv_changes {conn : Nat} {f : Frame} {s : State} : NextChanges 3932048 s (execMbxRecv conn f s) := by
  unfold execMbxRecv
  refine .next ?_
  refine .seq frameRow_changes ?_ (by decide)
  exact .refl

theorem execObjectExpiry_changes {k : ObjKey} {s : State} : NextChanges 2 s (execObjectExpiry k s) := by
  unfold execObjectExpiry
  refine .next ?_
  split
  rename_i _ e0
  exact .refl
  rename_i _ _ e1
  refine .ite ?_ ?_
  exact .refl
  refine .seq advanceTo_changes ?_ (by decide)
  exact .refl

theorem execSchedDispatch_changes {s : State} : NextChanges 1703824 s (execSchedDispatch s) := by
  unfold execSchedDispatch
  refine .next ?_
  refine .seq unblock_changes ?_ (by decide)
  refine .seq settle_changes ?_ (by decide)
  refine .seq schedRun_changes ?_ (by decide)
  exact .refl

theorem execBucketRefill_changes {stall : StallNo} {elapsed : Nat} {s : State} : NextChanges 4096 s (execBucketRefill stall elapsed s) := by
  unfold execBucketRefill
  refine .next ?_
  refine .seq updStall_changes ?_ (by decide)
  exact .refl

theorem listCredit_changes {s : State} {o : Op} : Changes 4096 s (listCredit s o) := by
  unfold listCredit
  split
  rename_i _ _ _ e0 e1
  extract_lets +onlyGivenNames (merge := false) w2
  extract_lets +onlyGivenNames (merge := false) w3
  refine .seq updStall_changes ?_ (by decide)
  exact .refl
  exact .refl

theorem execOperationComplete_changes {op : Nat} {s : State} : NextChanges 1703824 s (execOperationComplete op s) := by
  unfold execOperationComplete
  refine .next ?_
  split
  rename_i _ e0
  exact .refl
  rename_i _ _ e1
  split
  rename_i _ _ _ _ _ e2 e3
  refine .seq unblock_changes ?_ (by decide)
  refine .seq settle_changes ?_ (by decide)
  refine .seq schedRun_changes ?_ (by decide)
  refine .seq finishOp_changes ?_ (by decide)
  refine .seq listCredit_changes ?_ (by decide)
  exact .refl
  exact .refl

theorem doorbell_changes {s : State} {i : Nat} {c : Conn} : Changes 1792 s (doorbell s i c) := by
  unfold doorbell
  (extract_lets +onlyGivenNames (merge := false) w0; clear_value w0)
  (extract_lets +onlyGivenNames (merge := false) w1; clear_value w1)
  refine .seq sendResp_changes ?_ (by decide)
  refine .seq updConn_changes ?_ (by decide)
  exact .refl

theorem ringTenants_changes {s : State} {x : StallNo} : Changes 1792 s (ringTenants s x) := by
  unfold ringTenants
  (extract_lets +onlyGivenNames (merge := false) w0; clear_value w0)
  refine .foldl (fun u1 a1 h1 => ?_) ?_
  split
  rename_i _ _ e2
  refine .ite ?_ ?_
  refine .seq updConn_changes ?_ (by decide)
  assumption
  refine .seq doorbell_changes ?_ (by decide)
  assumption
  rename_i _ e3
  refine .seq doorbell_changes ?_ (by decide)
  assumption
  exact .refl

theorem execMbxDoorbell_changes {conn : Nat} {s : State} : NextChanges 1794 s (execMbxDoorbell conn s) := by
  unfold execMbxDoorbell
  refine .next ?_
  split
  rename_i _ e0
  exact .refl
  rename_i _ _ e1
  split
  rename_i _ _ _ _ e2
  refine .seq doorbell_changes ?_ (by decide)
  refine .seq advanceTo_changes ?_ (by decide)
  exact .refl
  exact .refl

/-! ### Machine/StallOps.lean -/

theorem storeStall_changes {s : State} {x : StallNo} : Changes 8192 s (storeStall s x) := by
  unfold storeStall
  refine .seq stageLog_changes ?_ (by decide)
  exact .refl

theorem logChange_changes {s : State} {k : DrainKind} {x : StallNo} {reason : Nat} : Changes 1590144 s (logChange s k x reason) := by
  unfold logChange
  refine .seq logEv_changes ?_ (by decide)
  exact .refl

theorem createStall_changes {s : State} {x : StallNo} {host : Nat} {owner : Option (Fin 4)} : Changes 3699616 s (createStall s x host owner) := by
  unfold createStall
  split
  rename_i _ _ u0 e1
  split
  rename_i _ _ _ _ u2 e3
  (extract_lets +onlyGivenNames (merge := false) u4; suffices h4 : Changes 3699616 s u4; clear_value u4)
  (extract_lets +onlyGivenNames (merge := false) w5; clear_value w5)
  (extract_lets +onlyGivenNames (merge := false) u6; suffices h6 : Changes 3699616 s u6; clear_value u6)
  (extract_lets +onlyGivenNames (merge := false) u7; suffices h7 : Changes 3699616 s u7; clear_value u7)
  refine .seq logEv_changes ?_ (by decide)
  refine .seq openPeriod_changes ?_ (by decide)
  assumption
  dsimp -zeta only [u7]
  refine .seq stageLog_changes ?_ (by decide)
  refine .seq storeStall_changes ?_ (by decide)
  assumption
  dsimp -zeta only [u6]
  refine .seq updStall_changes ?_ (by decide)
  assumption
  dsimp -zeta only [u4]
  refine .seq (updCfg_changes ?_) ?_ (by decide)
  exact Nat.le_refl _
  refine Changes.snd ?_ e3
  refine .seq freshBytes_changes ?_ (by decide)
  refine Changes.snd ?_ e1
  refine .seq freshWord_changes ?_ (by decide)
  exact .refl

theorem undoEntries_changes {s : State} {id : Nat} {o : Op} : Changes 32768 s (undoEntries s id o) := by
  unfold undoEntries
  (extract_lets +onlyGivenNames (merge := false) u0; suffices h0 : Changes 32768 s u0; clear_value u0)
  refine .ite ?_ ?_
  refine .foldl (fun u1 a1 h1 => ?_) ?_
  refine .seq restoreEntries_changes ?_ (by decide)
  assumption
  assumption
  assumption
  dsimp -zeta only [u0]
  refine .seq dropCmds_changes ?_ (by decide)
  exact .refl

theorem countAbort_changes {s : State} {x : StallNo} : Changes 4096 s (countAbort s x) := by
  unfold countAbort
  refine .seq updStall_changes ?_ (by decide)
  exact .refl

theorem abortOld_changes {x : StallNo} {s : State} {id : Nat} : Changes 1638272 s (abortOld x s id) := by
  unfold abortOld
  split
  rename_i _ e0
  exact .refl
  rename_i _ _ e1
  refine .seq dropOp_changes ?_ (by decide)
  refine .seq countAbort_changes ?_ (by decide)
  refine .seq undoEntries_changes ?_ (by decide)
  exact .refl

theorem abortWith_changes {x : StallNo} {r : Resp} {s : State} {id : Nat} : Changes 1638272 s (abortWith x r s id) := by
  unfold abortWith
  split
  rename_i _ e0
  exact .refl
  rename_i _ _ e1
  refine .seq finishOp_changes ?_ (by decide)
  refine .seq countAbort_changes ?_ (by decide)
  refine .seq undoEntries_changes ?_ (by decide)
  exact .refl

theorem endUploads_changes {s : State} {x : StallNo} : Changes 10240 s (endUploads s x) := by
  unfold endUploads
  refine .foldl (fun u0 a0 h0 => ?_) ?_
  refine .seq endUpload_changes ?_ (by decide)
  assumption
  exact .refl

theorem dropTickets_changes {s : State} {x : StallNo} : Changes 68352 s (dropTickets s x) := by
  unfold dropTickets
  extract_lets +onlyGivenNames (merge := false) w0
  (extract_lets +onlyGivenNames (merge := false) w1; clear_value w1)
  (extract_lets +onlyGivenNames (merge := false) u2; suffices h2 : Changes 68352 s u2; clear_value u2)
  refine .seq (updKv_changes ?_) ?_ (by decide)
  exact ⟨Nat.le_refl _, Nat.le_refl _, Nat.le_refl _, Nat.le_refl _, Nat.le_refl _⟩
  assumption
  dsimp -zeta only [u2]
  refine .foldl (fun u3 a3 h3 => ?_) ?_
  refine .seq endSearch_changes ?_ (by decide)
  assumption
  exact .refl

theorem changeConn_changes {x : StallNo} {s : State} {i : Nat} : Changes 16128 s (changeConn x s i) := by
  unfold changeConn
  split
  rename_i _ e0
  exact .refl
  rename_i _ _ e1
  split
  rename_i _ _ _ e2
  extract_lets +onlyGivenNames (merge := false) w3
  refine .seq resetConn_changes ?_ (by decide)
  refine .seq updStall_changes ?_ (by decide)
  exact .refl
  refine .ite ?_ ?_
  (extract_lets +onlyGivenNames (merge := false) u4; suffices h4 : Changes 16128 s u4; clear_value u4)
  refine .seq updConn_changes ?_ (by decide)
  assumption
  dsimp -zeta only [u4]
  refine .seq sendResp_changes ?_ (by decide)
  exact .refl
  exact .refl

theorem changeGen_changes {s : State} {x : StallNo} : Changes 16128 s (changeGen s x) := by
  unfold changeGen
  refine .foldl (fun u0 a0 h0 => ?_) ?_
  refine .seq changeConn_changes ?_ (by decide)
  assumption
  refine .seq updStall_changes ?_ (by decide)
  exact .refl

theorem startDrain_changes {s : State} {x : StallNo} {k : DrainKind} {host : Option Nat} {slot : Option (SessId × Nat)} : Changes 1605504 s (startDrain s x k host slot) := by
  unfold startDrain
  (extract_lets +onlyGivenNames (merge := false) u0; suffices h0 : Changes 1605504 s u0; clear_value u0)
  (extract_lets +onlyGivenNames (merge := false) u1; suffices h1 : Changes 1605504 s u1; clear_value u1)
  (extract_lets +onlyGivenNames (merge := false) u2; suffices h2 : Changes 1605504 s u2; clear_value u2)
  refine .foldl (fun u3 a3 h3 => ?_) ?_
  refine .seq changeConn_changes ?_ (by decide)
  assumption
  assumption
  dsimp -zeta only [u2]
  refine .seq logChange_changes ?_ (by decide)
  refine .seq storeStall_changes ?_ (by decide)
  assumption
  dsimp -zeta only [u1]
  refine .seq updStall_changes ?_ (by decide)
  assumption
  dsimp -zeta only [u0]
  refine .seq updStall_changes ?_ (by decide)
  exact .refl

theorem destroyStall_changes {s : State} {x : StallNo} : Changes 1702784 s (destroyStall s x) := by
  unfold destroyStall
  (extract_lets +onlyGivenNames (merge := false) u0; suffices h0 : Changes 1702784 s u0; clear_value u0)
  (extract_lets +onlyGivenNames (merge := false) u1; suffices h1 : Changes 1702784 s u1; clear_value u1)
  (extract_lets +onlyGivenNames (merge := false) u2; suffices h2 : Changes 1702784 s u2; clear_value u2)
  (extract_lets +onlyGivenNames (merge := false) u3; suffices h3 : Changes 1702784 s u3; clear_value u3)
  (extract_lets +onlyGivenNames (merge := false) u4; suffices h4 : Changes 1702784 s u4; clear_value u4)
  (extract_lets +onlyGivenNames (merge := false) u5; suffices h5 : Changes 1702784 s u5; clear_value u5)
  (extract_lets +onlyGivenNames (merge := false) u6; suffices h6 : Changes 1702784 s u6; clear_value u6)
  (extract_lets +onlyGivenNames (merge := false) u7; suffices h7 : Changes 1702784 s u7; clear_value u7)
  refine .seq storeStall_changes ?_ (by decide)
  refine .seq updStall_changes ?_ (by decide)
  assumption
  dsimp -zeta only [u7]
  refine .seq closePeriod_changes ?_ (by decide)
  assumption
  dsimp -zeta only [u6]
  refine .seq keepCmds_changes ?_ (by decide)
  assumption
  dsimp -zeta only [u5]
  refine .seq updArc_changes ?_ (by decide)
  refine .seq clearStall_changes ?_ (by decide)
  assumption
  dsimp -zeta only [u4]
  refine .foldl (fun u8 a8 h8 => ?_) ?_
  refine .seq removeKey_changes ?_ (by decide)
  assumption
  assumption
  dsimp -zeta only [u3]
  refine .seq endUploads_changes ?_ (by decide)
  assumption
  dsimp -zeta only [u2]
  refine .seq keyErase_changes ?_ (by decide)
  assumption
  dsimp -zeta only [u1]
  refine .seq updUpkeep_changes ?_ (by decide)
  assumption
  dsimp -zeta only [u0]
  refine .seq updStall_changes ?_ (by decide)
  exact .refl

theorem freeStall_changes {s : State} {x : StallNo} : Changes 1602432 s (freeStall s x) := by
  unfold freeStall
  refine .ite ?_ ?_
  (extract_lets +onlyGivenNames (merge := false) u0; suffices h0 : Changes 1602432 s u0; clear_value u0)
  refine .seq updStall_changes ?_ (by decide)
  assumption
  dsimp -zeta only [u0]
  refine .seq logChange_changes ?_ (by decide)
  refine .seq storeStall_changes ?_ (by decide)
  refine .seq updStall_changes ?_ (by decide)
  exact .refl
  exact .refl

theorem endDrain_changes {s : State} {x : StallNo} : Changes 1703903 s (endDrain s x) := by
  unfold endDrain
  split
  rename_i _ e0
  exact .refl
  rename_i _ _ _ _ e1
  (extract_lets +onlyGivenNames (merge := false) w2; clear_value w2)
  (extract_lets +onlyGivenNames (merge := false) w3; clear_value w3)
  (extract_lets +onlyGivenNames (merge := false) u4; suffices h4 : Changes 1703903 s u4; clear_value u4)
  (extract_lets +onlyGivenNames (merge := false) u5; suffices h5 : Changes 1703903 s u5; clear_value u5)
  (extract_lets +onlyGivenNames (merge := false) u6; suffices h6 : Changes 1703903 s u6; clear_value u6)
  (extract_lets +onlyGivenNames (merge := false) w7; clear_value w7)
  (extract_lets +onlyGivenNames (merge := false) u8; suffices h8 : Changes 1703903 s u8; clear_value u8)
  extract_lets +onlyGivenNames (merge := false) w9
  split
  (extract_lets +onlyGivenNames (merge := false) u10; suffices h10 : Changes 1703903 s u10; clear_value u10)
  refine .seq destroyStall_changes ?_ (by decide)
  refine .seq answerSlot_changes ?_ (by decide)
  assumption
  dsimp -zeta only [u10]
  refine .foldl (fun u11 a11 h11 => ?_) ?_
  refine .seq finishOp_changes ?_ (by decide)
  assumption
  assumption
  (extract_lets +onlyGivenNames (merge := false) u12; suffices h12 : Changes 1703903 s u12; clear_value u12)
  refine .seq settle_changes ?_ (by decide)
  refine .seq schedRun_changes ?_ (by decide)
  refine .seq answerSlot_changes ?_ (by decide)
  refine .foldl (fun u13 a13 h13 => ?_) ?_
  refine .seq admitHeld_changes ?_ (by decide)
  assumption
  assumption
  dsimp -zeta only [u12]
  refine .seq logChange_changes ?_ (by decide)
  refine .seq storeStall_changes ?_ (by decide)
  refine .seq updStall_changes ?_ (by decide)
  assumption
  dsimp -zeta only [u8]
  refine .seq updStall_changes ?_ (by decide)
  assumption
  dsimp -zeta only [u6]
  refine .seq endUploads_changes ?_ (by decide)
  refine .seq dropTickets_changes ?_ (by decide)
  assumption
  dsimp -zeta only [u5]
  refine .foldl (fun u14 a14 h14 => ?_) ?_
  refine .seq abortOld_changes ?_ (by decide)
  assumption
  assumption
  dsimp -zeta only [u4]
  refine .ite ?_ ?_
  exact .refl
  refine .seq advanceTo_changes ?_ (by decide)
  exact .refl

theorem buildBlob_changes {s : State} {x : StallNo} : Changes 2101248 s (buildBlob s x).2 := by
  unfold buildBlob
  (extract_lets +onlyGivenNames (merge := false) w0; clear_value w0)
  split
  rename_i _ _ u1 e2
  (extract_lets +onlyGivenNames (merge := false) w3; clear_value w3)
  dsimp -zeta only
  refine .seq (updStalls_changes ?_) ?_ (by decide)
  exact Nat.le_succ _
  refine Changes.snd ?_ e2
  refine .seq freshBytes_changes ?_ (by decide)
  exact .refl

theorem startFreeze_changes {s : State} {x : StallNo} {slot : Option (SessId × Nat)} : Changes 1594240 s (startFreeze s x slot) := by
  unfold startFreeze
  refine .seq logEv_changes ?_ (by decide)
  refine .seq updStall_changes ?_ (by decide)
  exact .refl

theorem drainFrozen_changes {s : State} {x : StallNo} {t : Nat} : Changes 1638274 s (drainFrozen s x t) := by
  unfold drainFrozen
  (extract_lets +onlyGivenNames (merge := false) w0; clear_value w0)
  (extract_lets +onlyGivenNames (merge := false) u1; suffices h1 : Changes 1638274 s u1; clear_value u1)
  refine .seq endUploads_changes ?_ (by decide)
  refine .foldl (fun u2 a2 h2 => ?_) ?_
  refine .seq abortWith_changes ?_ (by decide)
  assumption
  assumption
  dsimp -zeta only [u1]
  refine .ite ?_ ?_
  exact .refl
  refine .seq advanceTo_changes ?_ (by decide)
  exact .refl

theorem closeConns_changes {s : State} {x : StallNo} : Changes 12032 s (closeConns s x) := by
  unfold closeConns
  refine .foldl (fun u0 a0 h0 => ?_) ?_
  refine .seq endConn_changes ?_ (by decide)
  refine .seq updConn_changes ?_ (by decide)
  assumption
  exact .refl

theorem updReloc_changes {s : State} {x : StallNo} {f : Relocation → Relocation} : Changes 4096 s (updReloc s x f) := by
  unfold updReloc
  refine .seq updStall_changes ?_ (by decide)
  exact .refl

theorem sendKey_changes {x : StallNo} {s : State} {k : ObjKey} : Changes 70400 s (sendKey x s k) := by
  unfold sendKey
  split
  rename_i _ e0
  exact .refl
  rename_i _ _ e1
  (extract_lets +onlyGivenNames (merge := false) w2; clear_value w2)
  (extract_lets +onlyGivenNames (merge := false) u3; suffices h3 : Changes 70400 s u3; clear_value u3)
  refine .seq rowSend_changes ?_ (by decide)
  assumption
  dsimp -zeta only [u3]
  refine .seq updReloc_changes ?_ (by decide)
  exact .refl

theorem sendCutover_changes {s : State} {x : StallNo} : Changes 70400 s (sendCutover s x) := by
  unfold sendCutover
  split
  rename_i _ e0
  exact .refl
  rename_i _ _ e1
  (extract_lets +onlyGivenNames (merge := false) u2; suffices h2 : Changes 70400 s u2; clear_value u2)
  (extract_lets +onlyGivenNames (merge := false) w3; clear_value w3)
  (extract_lets +onlyGivenNames (merge := false) w4; clear_value w4)
  refine .seq rowSend_changes ?_ (by decide)
  refine .seq updReloc_changes ?_ (by decide)
  assumption
  dsimp -zeta only [u2]
  refine .foldl (fun u5 a5 h5 => ?_) ?_
  refine .seq sendKey_changes ?_ (by decide)
  assumption
  exact .refl

theorem endFreeze_changes {s : State} {x : StallNo} : Changes 3801039 s (endFreeze s x) := by
  unfold endFreeze
  split
  rename_i _ e0
  exact .refl
  rename_i _ _ _ e1
  (extract_lets +onlyGivenNames (merge := false) u2; suffices h2 : Changes 3801039 s u2; clear_value u2)
  split
  rename_i _ _ _ _ _ u3 e4
  (extract_lets +onlyGivenNames (merge := false) w5; clear_value w5)
  extract_lets +onlyGivenNames (merge := false) w6
  (extract_lets +onlyGivenNames (merge := false) u7; suffices h7 : Changes 3801039 s u7; clear_value u7)
  (extract_lets +onlyGivenNames (merge := false) u8; suffices h8 : Changes 3801039 s u8; clear_value u8)
  (extract_lets +onlyGivenNames (merge := false) u9; suffices h9 : Changes 3801039 s u9; clear_value u9)
  (extract_lets +onlyGivenNames (merge := false) u10; suffices h10 : Changes 3801039 s u10; clear_value u10)
  (extract_lets +onlyGivenNames (merge := false) u11; suffices h11 : Changes 3801039 s u11; clear_value u11)
  refine .seq settle_changes ?_ (by decide)
  refine .ite ?_ ?_
  refine .seq sendCutover_changes ?_ (by decide)
  assumption
  assumption
  dsimp -zeta only [u11]
  refine .seq logEv_changes ?_ (by decide)
  assumption
  dsimp -zeta only [u10]
  refine .seq answerSlot_changes ?_ (by decide)
  assumption
  dsimp -zeta only [u9]
  refine .seq closeConns_changes ?_ (by decide)
  refine .seq storeStall_changes ?_ (by decide)
  assumption
  dsimp -zeta only [u8]
  refine .ite ?_ ?_
  assumption
  refine .seq (updStalls_changes ?_) ?_ (by decide)
  exact Nat.le_refl _
  assumption
  dsimp -zeta only [u7]
  refine .seq updStall_changes ?_ (by decide)
  refine Changes.snd ?_ e4
  refine .seq buildBlob_changes ?_ (by decide)
  assumption
  dsimp -zeta only [u2]
  refine .seq drainFrozen_changes ?_ (by decide)
  exact .refl

theorem sourceDone_changes {s : State} {x : StallNo} : Changes 1703808 s (sourceDone s x) := by
  unfold sourceDone
  split
  rename_i _ e0
  exact .refl
  rename_i _ _ e1
  refine .ite ?_ ?_
  (extract_lets +onlyGivenNames (merge := false) u2; suffices h2 : Changes 1703808 s u2; clear_value u2)
  (extract_lets +onlyGivenNames (merge := false) u3; suffices h3 : Changes 1703808 s u3; clear_value u3)
  refine .seq destroyStall_changes ?_ (by decide)
  refine .seq dropTickets_changes ?_ (by decide)
  assumption
  dsimp -zeta only [u3]
  refine .seq logChange_changes ?_ (by decide)
  refine .seq changeGen_changes ?_ (by decide)
  assumption
  dsimp -zeta only [u2]
  refine .seq logEv_changes ?_ (by decide)
  exact .refl
  exact .refl

theorem relocFails_changes {s : State} {x : StallNo} {why : RelocFail} : Changes 1703824 s (relocFails s x why) := by
  unfold relocFails
  split
  rename_i _ e0
  exact .refl
  rename_i _ _ e1
  (extract_lets +onlyGivenNames (merge := false) u2; suffices h2 : Changes 1703824 s u2; clear_value u2)
  refine .ite ?_ ?_
  extract_lets +onlyGivenNames (merge := false) w3
  refine .seq settle_changes ?_ (by decide)
  refine .seq schedRun_changes ?_ (by decide)
  refine .seq storeStall_changes ?_ (by decide)
  refine .seq updStall_changes ?_ (by decide)
  assumption
  refine .seq destroyStall_changes ?_ (by decide)
  assumption
  dsimp -zeta only [u2]
  refine .seq logEv_changes ?_ (by decide)
  exact .refl

theorem sendFail_changes {s : State} {x : StallNo} {why : RelocFail} : Changes 66304 s (sendFail s x why) := by
  unfold sendFail
  split
  rename_i _ e0
  exact .refl
  rename_i _ _ e1
  refine .seq rowSend_changes ?_ (by decide)
  exact .refl

theorem storeRelocated_changes {s : State} {x : StallNo} {o : RelocObj} : Changes 1702784 s (storeRelocated s x o) := by
  unfold storeRelocated
  (extract_lets +onlyGivenNames (merge := false) w0; clear_value w0)
  extract_lets +onlyGivenNames (merge := false) w1
  split
  rename_i _ _ _ e2
  (extract_lets +onlyGivenNames (merge := false) w3; clear_value w3)
  (extract_lets +onlyGivenNames (merge := false) u4; suffices h4 : Changes 1702784 s u4; clear_value u4)
  split
  rename_i _ _ _ _ _ u5 e6
  refine .seq noteWrite_changes ?_ (by decide)
  refine .seq restoreEntries_changes ?_ (by decide)
  refine Changes.snd ?_ e6
  refine .seq storeVersion_changes ?_ (by decide)
  assumption
  dsimp -zeta only [u4]
  refine .seq (updKv_changes ?_) ?_ (by decide)
  exact ⟨Nat.le_succ _, Nat.le_refl _, Nat.le_refl _, Nat.le_refl _, Nat.le_refl _⟩
  exact .refl

theorem takeObj_changes {s : State} {peer : Nat} {x : StallNo} {o : RelocObj} : Changes 1703824 s (takeObj s peer x o) := by
  unfold takeObj
  split
  rename_i _ e0
  exact .refl
  rename_i _ _ e1
  (extract_lets +onlyGivenNames (merge := false) w2; clear_value w2)
  extract_lets +onlyGivenNames (merge := false) w3
  refine .ite ?_ ?_
  refine .seq rowSend_changes ?_ (by decide)
  exact .refl
  split
  rename_i _ _ _ _ _ e4
  refine .seq relocFails_changes ?_ (by decide)
  refine .seq rowSend_changes ?_ (by decide)
  exact .refl
  rename_i _ _ _ _ e5 e6
  refine .seq rowSend_changes ?_ (by decide)
  exact .refl
  rename_i _ _ _ _ u7 e8 e9
  refine .seq rowSend_changes ?_ (by decide)
  refine .seq storeRelocated_changes ?_ (by decide)
  refine Changes.opt ?_ e9
  refine .seq takeCredit_changes ?_ (by decide)
  exact .refl

theorem takeRemoved_changes {s : State} {peer : Nat} {x : StallNo} {key : List Byte} : Changes 1702784 s (takeRemoved s peer x key) := by
  unfold takeRemoved
  split
  rename_i _ e0
  exact .refl
  rename_i _ _ e1
  (extract_lets +onlyGivenNames (merge := false) w2; clear_value w2)
  (extract_lets +onlyGivenNames (merge := false) u3; suffices h3 : Changes 1702784 s u3; clear_value u3)
  refine .seq rowSend_changes ?_ (by decide)
  assumption
  dsimp -zeta only [u3]
  split
  rename_i _ _ _ _ e4
  refine .seq removeKey_changes ?_ (by decide)
  exact .refl
  rename_i _ _ _ e5
  exact .refl

theorem takeCutover_changes {s : State} {peer : Nat} {x : StallNo} {st : RelocState} : Changes 1668000 s (takeCutover s peer x st) := by
  unfold takeCutover
  split
  rename_i _ e0
  exact .refl
  rename_i _ _ e1
  (extract_lets +onlyGivenNames (merge := false) u2; suffices h2 : Changes 1668000 s u2; clear_value u2)
  (extract_lets +onlyGivenNames (merge := false) w3; clear_value w3)
  (extract_lets +onlyGivenNames (merge := false) u4; suffices h4 : Changes 1668000 s u4; clear_value u4)
  (extract_lets +onlyGivenNames (merge := false) u5; suffices h5 : Changes 1668000 s u5; clear_value u5)
  (extract_lets +onlyGivenNames (merge := false) u6; suffices h6 : Changes 1668000 s u6; clear_value u6)
  refine .seq logEv_changes ?_ (by decide)
  assumption
  dsimp -zeta only [u6]
  refine .seq rowSend_changes ?_ (by decide)
  assumption
  dsimp -zeta only [u5]
  refine .seq openPeriod_changes ?_ (by decide)
  refine .seq stageLog_changes ?_ (by decide)
  refine .seq storeStall_changes ?_ (by decide)
  assumption
  dsimp -zeta only [u4]
  refine .seq updStall_changes ?_ (by decide)
  assumption
  dsimp -zeta only [u2]
  refine .foldl (fun u7 a7 h7 => ?_) ?_
  refine .seq cfgStore_changes ?_ (by decide)
  assumption
  exact .refl

theorem takeAck_changes {s : State} {peer : Nat} {x : StallNo} {key : List Byte} {st : AckStatus} {why : Option RelocFail} : Changes 1703824 s (takeAck s peer x key st why) := by
  unfold takeAck
  split
  rename_i _ e0
  exact .refl
  rename_i _ _ e1
  (extract_lets +onlyGivenNames (merge := false) w2; clear_value w2)
  split
  refine .seq updReloc_changes ?_ (by decide)
  exact .refl
  refine .seq updReloc_changes ?_ (by decide)
  exact .refl
  refine .seq relocFails_changes ?_ (by decide)
  exact .refl

theorem takeOffer_changes {s : State} {peer : Nat} {stall : StallNo} {x : StallNo} : Changes 2175744 s (takeOffer s peer stall x) := by
  unfold takeOffer
  (extract_lets +onlyGivenNames (merge := false) w0; clear_value w0)
  refine .ite ?_ ?_
  split
  rename_i _ _ u1 e2
  (extract_lets +onlyGivenNames (merge := false) u3; suffices h3 : Changes 2175744 s u3; clear_value u3)
  refine .seq rowSend_changes ?_ (by decide)
  refine .seq storeStall_changes ?_ (by decide)
  assumption
  dsimp -zeta only [u3]
  refine .seq updStall_changes ?_ (by decide)
  refine Changes.snd ?_ e2
  refine .seq freshWord_changes ?_ (by decide)
  exact .refl
  refine .seq rowSend_changes ?_ (by decide)
  exact .refl

theorem changeCred_changes {s : State} {x : StallNo} {k : Fin 8} {v : Option Cred} : Changes 1605504 s (changeCred s x k v) := by
  unfold changeCred
  (extract_lets +onlyGivenNames (merge := false) u0; suffices h0 : Changes 1605504 s u0; clear_value u0)
  (extract_lets +onlyGivenNames (merge := false) u1; suffices h1 : Changes 1605504 s u1; clear_value u1)
  refine .seq logEv_changes ?_ (by decide)
  assumption
  dsimp -zeta only [u1]
  refine .seq resetWhere_changes ?_ (by decide)
  refine .seq storeStall_changes ?_ (by decide)
  assumption
  dsimp -zeta only [u0]
  refine .seq updStall_changes ?_ (by decide)
  exact .refl

theorem whileDrained_changes {s0 s : State} {x : StallNo} {f : State → Run} {m : Nat} (h : Changes m s0 s)
    (k : ∀ u, Changes m s0 u → RunChanges m s0 (f u)) : RunChanges m s0 (whileDrained s x f) := by
  unfold whileDrained
  exact .ite (.say0 h) (k _ h)

theorem errRun_changes {s : State} {e : ErrName} : RunChanges 0 s (errRun s e) := by
  unfold errRun
  refine .say0 ?_
  exact .refl

/-! ### Machine/Bay.lean -/

theorem openSess_changes {s : State} {x : SessId} {d : Session} : Changes 128 s (openSess s x d) := by
  unfold openSess
  refine .seq updCon_changes ?_ (by decide)
  exact .refl

theorem openConsole_changes {s : State} {x : SessId} : Changes 128 s (openConsole s x) := by
  unfold openConsole
  refine .seq openSess_changes ?_ (by decide)
  exact .refl

theorem endConsole_changes {s : State} {x : SessId} : Changes 4224 s (endConsole s x) := by
  unfold endConsole
  refine .seq (updStalls_changes ?_) ?_ (by decide)
  exact Nat.le_refl _
  refine .seq updCon_changes ?_ (by decide)
  exact .refl

theorem execUsbAttach_changes {s : State} : NextChanges 132 s (execUsbAttach s) := by
  unfold execUsbAttach
  (extract_lets +onlyGivenNames (merge := false) u0; suffices h0 : Changes 132 s u0; clear_value u0)
  refine .next ?_
  refine .ite ?_ ?_
  assumption
  refine .ite ?_ ?_
  refine .seq openConsole_changes ?_ (by decide)
  assumption
  assumption
  dsimp -zeta only [u0]
  refine .seq updBay_changes ?_ (by decide)
  exact .refl

theorem execUsbDetach_changes {s : State} : NextChanges 4228 s (execUsbDetach s) := by
  unfold execUsbDetach
  refine .next ?_
  refine .seq endConsole_changes ?_ (by decide)
  refine .seq updBay_changes ?_ (by decide)
  exact .refl

theorem attention_changes {s : State} {x : SessId} : Changes 1049472 s (attention s x) := by
  unfold attention
  split
  rename_i _ e0
  exact .refl
  rename_i _ _ e1
  refine .seq putText_changes ?_ (by decide)
  refine .seq emit_changes ?_ (by decide)
  refine .seq updSess_changes ?_ (by decide)
  exact .refl

theorem execUsbSendBreak_changes {ms : Nat} {s : State} : NextChanges 1049472 s (execUsbSendBreak ms s) := by
  unfold execUsbSendBreak
  refine .next ?_
  refine .ite ?_ ?_
  refine .seq attention_changes ?_ (by decide)
  exact .refl
  exact .refl

theorem execUsbSetLineCoding_changes {s : State} : NextChanges 0 s (execUsbSetLineCoding s) := by
  unfold execUsbSetLineCoding
  refine .next ?_
  exact .refl

theorem execJsvcChange_changes {fitted : Bool} {s : State} : NextChanges 4 s (execJsvcChange fitted s) := by
  unfold execJsvcChange
  refine .next ?_
  refine .ite ?_ ?_
  refine .seq updBay_changes ?_ (by decide)
  exact .refl
  exact .refl

theorem openWindow_changes {s : State} : Changes 1590148 s (openWindow s) := by
  unfold openWindow
  extract_lets +onlyGivenNames (merge := false) w0
  (extract_lets +onlyGivenNames (merge := false) u1; suffices h1 : Changes 1590148 s u1; clear_value u1)
  refine .seq logEv_changes ?_ (by decide)
  assumption
  dsimp -zeta only [u1]
  refine .seq updBay_changes ?_ (by decide)
  exact .refl

theorem execButtonPress_changes {s : State} : NextChanges 4 s (execButtonPress s) := by
  unfold execButtonPress
  refine .next ?_
  refine .ite ?_ ?_
  refine .seq updBay_changes ?_ (by decide)
  exact .refl
  exact .refl

theorem execButtonRelease_changes {hold : Nat} {s : State} : NextChanges 1590148 s (execButtonRelease hold s) := by
  unfold execButtonRelease
  refine .next ?_
  refine .ite ?_ ?_
  (extract_lets +onlyGivenNames (merge := false) w0; clear_value w0)
  (extract_lets +onlyGivenNames (merge := false) u1; suffices h1 : Changes 1590148 s u1; clear_value u1)
  split
  refine .seq updBay_changes ?_ (by decide)
  assumption
  refine .ite ?_ ?_
  refine .seq presenceFault_changes ?_ (by decide)
  refine .seq updBay_changes ?_ (by decide)
  assumption
  (extract_lets +onlyGivenNames (merge := false) u2; suffices h2 : Changes 1590148 s u2; clear_value u2)
  refine .ite ?_ ?_
  refine .seq openWindow_changes ?_ (by decide)
  assumption
  assumption
  dsimp -zeta only [u2]
  refine .seq updBay_changes ?_ (by decide)
  assumption
  assumption
  dsimp -zeta only [u1]
  refine .seq updBay_changes ?_ (by decide)
  exact .refl
  exact .refl

theorem execButtonStuck_changes {s : State} : NextChanges 1590148 s (execButtonStuck s) := by
  unfold execButtonStuck
  refine .next ?_
  refine .ite ?_ ?_
  split
  rename_i _ e0
  refine .seq presenceFault_changes ?_ (by decide)
  refine .seq updBay_changes ?_ (by decide)
  exact .refl
  rename_i _ e1
  refine .seq presenceFault_changes ?_ (by decide)
  refine .seq updBay_changes ?_ (by decide)
  exact .refl
  exact .refl
  exact .refl

theorem execButtonDiscrepancy_changes {bothClosed : Bool} {s : State} : NextChanges 1590148 s (execButtonDiscrepancy bothClosed s) := by
  unfold execButtonDiscrepancy
  refine .next ?_
  refine .ite ?_ ?_
  (extract_lets +onlyGivenNames (merge := false) w0; clear_value w0)
  (extract_lets +onlyGivenNames (merge := false) u1; suffices h1 : Changes 1590148 s u1; clear_value u1)
  refine .ite ?_ ?_
  assumption
  refine .seq presenceFault_changes ?_ (by decide)
  assumption
  dsimp -zeta only [u1]
  refine .seq updBay_changes ?_ (by decide)
  exact .refl
  exact .refl

theorem execButtonLockoutClear_changes {s : State} : NextChanges 4 s (execButtonLockoutClear s) := by
  unfold execButtonLockoutClear
  refine .next ?_
  refine .ite ?_ ?_
  refine .seq updBay_changes ?_ (by decide)
  exact .refl
  exact .refl

theorem execLidOpen_changes {s : State} : NextChanges 1590148 s (execLidOpen s) := by
  unfold execLidOpen
  refine .next ?_
  refine .ite ?_ ?_
  (extract_lets +onlyGivenNames (merge := false) w0; clear_value w0)
  (extract_lets +onlyGivenNames (merge := false) w1; clear_value w1)
  (extract_lets +onlyGivenNames (merge := false) u2; suffices h2 : Changes 1590148 s u2; clear_value u2)
  refine .ite ?_ ?_
  assumption
  refine .seq logEv_changes ?_ (by decide)
  refine .seq updBay_changes ?_ (by decide)
  assumption
  dsimp -zeta only [u2]
  refine .seq updBay_changes ?_ (by decide)
  exact .refl
  exact .refl

theorem execLidClosed_changes {s : State} : NextChanges 1590148 s (execLidClosed s) := by
  unfold execLidClosed
  refine .next ?_
  refine .ite ?_ ?_
  (extract_lets +onlyGivenNames (merge := false) w0; clear_value w0)
  (extract_lets +onlyGivenNames (merge := false) u1; suffices h1 : Changes 1590148 s u1; clear_value u1)
  refine .ite ?_ ?_
  assumption
  refine .seq logEv_changes ?_ (by decide)
  assumption
  dsimp -zeta only [u1]
  refine .seq updBay_changes ?_ (by decide)
  exact .refl
  exact .refl

theorem execLidDiscrepancy_changes {bothClosed : Bool} {s : State} : NextChanges 1590148 s (execLidDiscrepancy bothClosed s) := by
  unfold execLidDiscrepancy
  refine .next ?_
  refine .ite ?_ ?_
  (extract_lets +onlyGivenNames (merge := false) w0; clear_value w0)
  (extract_lets +onlyGivenNames (merge := false) w1; clear_value w1)
  (extract_lets +onlyGivenNames (merge := false) u2; suffices h2 : Changes 1590148 s u2; clear_value u2)
  refine .ite ?_ ?_
  assumption
  refine .seq presenceFault_changes ?_ (by decide)
  refine .seq updBay_changes ?_ (by decide)
  assumption
  dsimp -zeta only [u2]
  refine .seq updBay_changes ?_ (by decide)
  exact .refl
  exact .refl

theorem execPresenceExpiry_changes {s : State} : NextChanges 1590150 s (execPresenceExpiry s) := by
  unfold execPresenceExpiry
  refine .next ?_
  split
  rename_i _ e0
  exact .refl
  rename_i _ _ e1
  refine .seq closeWindow_changes ?_ (by decide)
  refine .seq advanceTo_changes ?_ (by decide)
  exact .refl

theorem execPresenceClose_changes {l : Line} {s : State} : NextChanges 1594244 s (execPresenceClose l s) := by
  unfold execPresenceClose
  refine .next ?_
  refine runCmd_changes (fun u0 n0 h0 => ?_) (by decide)
  refine .say0 ?_
  refine .seq closeWindow_changes ?_ (by decide)
  assumption

theorem execJconFramingError_changes {s : State} : NextChanges 4 s (execJconFramingError s) := by
  unfold execJconFramingError
  refine .next ?_
  refine .ite ?_ ?_
  refine .seq updBay_changes ?_ (by decide)
  exact .refl
  exact .refl

theorem execJconShortBreak_changes {s : State} : NextChanges 4 s (execJconShortBreak s) := by
  unfold execJconShortBreak
  refine .next ?_
  refine .ite ?_ ?_
  refine .seq updBay_changes ?_ (by decide)
  exact .refl
  exact .refl

theorem execJconAttention_changes {ms : Nat} {s : State} : NextChanges 1049472 s (execJconAttention ms s) := by
  unfold execJconAttention
  refine .next ?_
  refine .ite ?_ ?_
  refine .seq attention_changes ?_ (by decide)
  exact .refl
  exact .refl

theorem lineFaultNow_changes {s : State} {atStart : Bool} : Changes 1590148 s (lineFaultNow s atStart) := by
  unfold lineFaultNow
  refine .ite ?_ ?_
  exact .refl
  (extract_lets +onlyGivenNames (merge := false) u0; suffices h0 : Changes 1590148 s u0; clear_value u0)
  refine .seq logEv_changes ?_ (by decide)
  refine .seq updSess_changes ?_ (by decide)
  assumption
  dsimp -zeta only [u0]
  refine .seq updBay_changes ?_ (by decide)
  exact .refl

theorem execLineFault_changes {s : State} : NextChanges 1590148 s (execLineFault s) := by
  unfold execLineFault
  refine .next ?_
  refine .ite ?_ ?_
  refine .seq lineFaultNow_changes ?_ (by decide)
  exact .refl
  exact .refl

theorem execLineRecovered_changes {s : State} : NextChanges 1590148 s (execLineRecovered s) := by
  unfold execLineRecovered
  refine .next ?_
  refine .ite ?_ ?_
  refine .seq logEv_changes ?_ (by decide)
  refine .seq updBay_changes ?_ (by decide)
  exact .refl
  exact .refl

theorem execLedLocate_changes {l : Line} {time : Option Int} {s : State} : NextChanges 1594244 s (execLedLocate l time s) := by
  unfold execLedLocate
  (extract_lets +onlyGivenNames (merge := false) w0; clear_value w0)
  refine .next ?_
  refine runCmd_changes (fun u1 n1 h1 => ?_) (by decide)
  refine .say0 ?_
  refine .seq updBay_changes ?_ (by decide)
  assumption

theorem execLocateExpiry_changes {s : State} : NextChanges 6 s (execLocateExpiry s) := by
  unfold execLocateExpiry
  refine .next ?_
  split
  rename_i _ e0
  exact .refl
  rename_i _ _ e1
  refine .seq updBay_changes ?_ (by decide)
  refine .seq advanceTo_changes ?_ (by decide)
  exact .refl

theorem execBayShow_changes {l : Line} {s : State} : NextChanges 1594240 s (execBayShow l s) := by
  unfold execBayShow
  refine .next ?_
  refine .seq showCmd_changes ?_ (by decide)
  exact .refl

/-! ### Machine/Media.lean -/

theorem execPackedPageTimeout_changes {stall : StallNo} {bin : Nat} {s : State} : NextChanges 8210 s (execPackedPageTimeout stall bin s) := by
  unfold execPackedPageTimeout
  refine .next ?_
  refine .ite ?_ ?_
  split
  rename_i _ _ e0
  refine .seq wakeWork_changes ?_ (by decide)
  refine .seq issuePack_changes ?_ (by decide)
  refine .seq advanceTo_changes ?_ (by decide)
  exact .refl
  rename_i _ e1
  exact .refl
  exact .refl

theorem execLogProgram_changes {s : State} : NextChanges 8208 s (execLogProgram s) := by
  unfold execLogProgram
  refine .next ?_
  refine .ite ?_ ?_
  refine .seq wakeWork_changes ?_ (by decide)
  refine .seq issueLog_changes ?_ (by decide)
  exact .refl
  exact .refl

theorem execFlashProgramDone_changes {i : Nat} {s : State} : NextChanges 1703824 s (execFlashProgramDone i s) := by
  unfold execFlashProgramDone
  refine .next ?_
  refine .ite ?_ ?_
  refine .seq schedRun_changes ?_ (by decide)
  refine .seq settle_changes ?_ (by decide)
  refine .seq programDone_changes ?_ (by decide)
  exact .refl
  exact .refl

theorem pageRead_changes {s : State} {n : Nat} {i : Nat} {r : ReadOutcome} : Changes 1600384 s (pageRead s n i r) := by
  unfold pageRead
  (extract_lets +onlyGivenNames (merge := false) w0; clear_value w0)
  split
  rename_i _ e1
  exact .refl
  rename_i _ _ e2
  (extract_lets +onlyGivenNames (merge := false) w3; clear_value w3)
  (extract_lets +onlyGivenNames (merge := false) w4; clear_value w4)
  split
  refine .seq pageLost_changes ?_ (by decide)
  exact .refl
  refine .seq pageRebuilt_changes ?_ (by decide)
  exact .refl
  refine .ite ?_ ?_
  refine .seq pageRebuilt_changes ?_ (by decide)
  exact .refl
  split
  refine .foldl (fun u5 a5 h5 => ?_) ?_
  refine .seq addReads_changes ?_ (by decide)
  assumption
  exact .refl
  exact .refl

theorem execFlashReadDone_changes {lpn : Nat} {r : ReadOutcome} {s : State} : NextChanges 1703824 s (execFlashReadDone lpn r s) := by
  unfold execFlashReadDone
  refine .next ?_
  refine .ite ?_ ?_
  split
  rename_i _ e0
  exact .refl
  rename_i _ _ _ e1
  split
  rename_i _ _ _ _ _ e2
  refine .seq schedRun_changes ?_ (by decide)
  refine .seq pageRead_changes ?_ (by decide)
  refine .seq readPage_changes ?_ (by decide)
  refine .seq updMedia_changes ?_ (by decide)
  exact .refl
  rename_i _ _ _ _ e3
  refine .ite ?_ ?_
  exact .refl
  refine .seq pageRead_changes ?_ (by decide)
  refine .seq readPage_changes ?_ (by decide)
  exact .refl
  exact .refl

theorem execCheckpointSegment_changes {segment : Nat} {index : Bool} {s : State} : NextChanges 1631104 s (execCheckpointSegment segment index s) := by
  unfold execCheckpointSegment
  refine .next ?_
  refine .ite ?_ ?_
  extract_lets +onlyGivenNames (merge := false) w0
  (extract_lets +onlyGivenNames (merge := false) u1; suffices h1 : Changes 1631104 s u1; clear_value u1)
  (extract_lets +onlyGivenNames (merge := false) u2; suffices h2 : Changes 1631104 s u2; clear_value u2)
  (extract_lets +onlyGivenNames (merge := false) u3; suffices h3 : Changes 1631104 s u3; clear_value u3)
  (extract_lets +onlyGivenNames (merge := false) u4; suffices h4 : Changes 1631104 s u4; clear_value u4)
  extract_lets +onlyGivenNames (merge := false) w5
  refine .seq updMedia_changes ?_ (by decide)
  assumption
  dsimp -zeta only [u4]
  refine .seq stageLog_changes ?_ (by decide)
  assumption
  dsimp -zeta only [u3]
  refine .ite ?_ ?_
  refine .seq saveArcImage_changes ?_ (by decide)
  assumption
  assumption
  dsimp -zeta only [u2]
  refine .seq updMedia_changes ?_ (by decide)
  assumption
  dsimp -zeta only [u1]
  refine .seq putMeta_changes ?_ (by decide)
  exact .refl
  exact .refl

theorem execBedBinEnd_changes {band : Nat} {s : State} : NextChanges 8194 s (execBedBinEnd band s) := by
  unfold execBedBinEnd
  (extract_lets +onlyGivenNames (merge := false) w0; clear_value w0)
  refine .next ?_
  refine .ite ?_ ?_
  refine .seq closeBand_changes ?_ (by decide)
  refine .seq advanceTo_changes ?_ (by decide)
  exact .refl
  exact .refl

theorem execDieFailed_changes {channel : Fin 16} {target : Fin 8} {cause : DieCause} {s : State} : NextChanges 1600384 s (execDieFailed channel target cause s) := by
  unfold execDieFailed
  refine .next ?_
  refine .ite ?_ ?_
  refine .seq loseDie_changes ?_ (by decide)
  exact .refl
  exact .refl

theorem execRebuildBand_changes {s : State} : NextChanges 1600384 s (execRebuildBand s) := by
  unfold execRebuildBand
  refine .next ?_
  refine .seq rebuildStep_changes ?_ (by decide)
  exact .refl

theorem execShelterMoved_changes {second : Bool} {s : State} : NextChanges 1598336 s (execShelterMoved second s) := by
  unfold execShelterMoved
  refine .next ?_
  refine .ite ?_ ?_
  extract_lets +onlyGivenNames (merge := false) w0
  extract_lets +onlyGivenNames (merge := false) w1
  (extract_lets +onlyGivenNames (merge := false) u2; suffices h2 : Changes 1598336 s u2; clear_value u2)
  split
  rename_i _ e3
  assumption
  rename_i _ _ e4
  (extract_lets +onlyGivenNames (merge := false) u5; suffices h5 : Changes 1598336 s u5; clear_value u5)
  (extract_lets +onlyGivenNames (merge := false) u6; suffices h6 : Changes 1598336 s u6; clear_value u6)
  (extract_lets +onlyGivenNames (merge := false) u7; suffices h7 : Changes 1598336 s u7; clear_value u7)
  refine .seq gcRefresh_changes ?_ (by decide)
  refine .seq logEv_changes ?_ (by decide)
  refine .seq startErase_changes ?_ (by decide)
  assumption
  dsimp -zeta only [u7]
  refine .seq stageLog_changes ?_ (by decide)
  refine .seq updBand_changes ?_ (by decide)
  assumption
  dsimp -zeta only [u6]
  refine .seq stageLog_changes ?_ (by decide)
  refine .seq updBand_changes ?_ (by decide)
  assumption
  dsimp -zeta only [u5]
  refine .seq updMedia_changes ?_ (by decide)
  assumption
  dsimp -zeta only [u2]
  refine .seq updMedia_changes ?_ (by decide)
  exact .refl
  exact .refl

theorem execMediaShow_changes {l : Line} {s : State} : NextChanges 1594240 s (execMediaShow l s) := by
  unfold execMediaShow
  refine .next ?_
  refine .seq showCmd_changes ?_ (by decide)
  exact .refl

theorem execBandShow_changes {l : Line} {band : Int} {s : State} : NextChanges 1594240 s (execBandShow l band s) := by
  unfold execBandShow
  refine .next ?_
  refine .seq showCmd_changes ?_ (by decide)
  exact .refl

theorem background_changes {s : State} : Changes 1600384 s (background s) := by
  unfold background
  (extract_lets +onlyGivenNames (merge := false) u0; suffices h0 : Changes 1600384 s u0; clear_value u0)
  refine .ite ?_ ?_
  refine .seq rebuildStep_changes ?_ (by decide)
  assumption
  assumption
  dsimp -zeta only [u0]
  refine .seq shredStep_changes ?_ (by decide)
  refine .seq gcStep_changes ?_ (by decide)
  exact .refl

theorem execGcLoadWindow_changes {hostLoad : Nat} {s : State} : NextChanges 1600384 s (execGcLoadWindow hostLoad s) := by
  unfold execGcLoadWindow
  refine .next ?_
  refine .ite ?_ ?_
  extract_lets +onlyGivenNames (merge := false) w0
  (extract_lets +onlyGivenNames (merge := false) w1; clear_value w1)
  refine .seq background_changes ?_ (by decide)
  refine .seq updUpkeep_changes ?_ (by decide)
  exact .refl
  exact .refl

theorem execGcReclaimTimer_changes {s : State} : NextChanges 1600384 s (execGcReclaimTimer s) := by
  unfold execGcReclaimTimer
  refine .next ?_
  refine .ite ?_ ?_
  split
  rename_i _ _ e0
  refine .getD ?_ ?_
  refine .seq emptyBand_changes ?_ (by decide)
  exact .refl
  exact .refl
  rename_i _ e1
  exact .refl
  exact .refl

theorem freeBand_changes {s : State} {n : Nat} : Changes 1598336 s (freeBand s n) := by
  unfold freeBand
  (extract_lets +onlyGivenNames (merge := false) u0; suffices h0 : Changes 1598336 s u0; clear_value u0)
  (extract_lets +onlyGivenNames (merge := false) u1; suffices h1 : Changes 1598336 s u1; clear_value u1)
  refine .seq syncLog_changes ?_ (by decide)
  refine .seq stageLog_changes ?_ (by decide)
  refine .seq donorBand_changes ?_ (by decide)
  assumption
  dsimp -zeta only [u1]
  refine .seq updBand_changes ?_ (by decide)
  assumption
  dsimp -zeta only [u0]
  refine .seq mendBand_changes ?_ (by decide)
  exact .refl

theorem creditBand_changes {s : State} {v : Victim} {capacity : Nat} : Changes 16384 s (creditBand s v capacity) := by
  unfold creditBand
  (extract_lets +onlyGivenNames (merge := false) u0; suffices h0 : Changes 16384 s u0; clear_value u0)
  (extract_lets +onlyGivenNames (merge := false) u1; suffices h1 : Changes 16384 s u1; clear_value u1)
  refine .seq updUpkeep_changes ?_ (by decide)
  assumption
  dsimp -zeta only [u1]
  refine .ite ?_ ?_
  refine .seq addHealth_changes ?_ (by decide)
  assumption
  assumption
  dsimp -zeta only [u0]
  refine .ite ?_ ?_
  refine .seq updUpkeep_changes ?_ (by decide)
  exact .refl
  exact .refl

theorem execGcBandFreed_changes {band : Nat} {s : State} : NextChanges 1703808 s (execGcBandFreed band s) := by
  unfold execGcBandFreed
  refine .next ?_
  split
  rename_i _ e0
  exact .refl
  rename_i _ _ e1
  refine .ite ?_ ?_
  (extract_lets +onlyGivenNames (merge := false) u2; suffices h2 : Changes 1703808 s u2; clear_value u2)
  refine .ite ?_ ?_
  refine .seq updMedia_changes ?_ (by decide)
  assumption
  extract_lets +onlyGivenNames (merge := false) w3
  (extract_lets +onlyGivenNames (merge := false) u4; suffices h4 : Changes 1703808 s u4; clear_value u4)
  refine .seq rerun_changes ?_ (by decide)
  refine .seq background_changes ?_ (by decide)
  refine .seq lifeCheck_changes ?_ (by decide)
  refine .seq gcRefresh_changes ?_ (by decide)
  assumption
  dsimp -zeta only [u4]
  refine .seq creditBand_changes ?_ (by decide)
  refine .seq freeBand_changes ?_ (by decide)
  assumption
  dsimp -zeta only [u2]
  refine .seq updUpkeep_changes ?_ (by decide)
  exact .refl
  exact .refl

theorem execEraseDone_changes {b : BlockId} {ok : Bool} {s : State} : NextChanges 1598336 s (execEraseDone b ok s) := by
  unfold execEraseDone
  refine .next ?_
  split
  rename_i _ e0
  exact .refl
  rename_i _ _ e1
  refine .ite ?_ ?_
  (extract_lets +onlyGivenNames (merge := false) u2; suffices h2 : Changes 1598336 s u2; clear_value u2)
  (extract_lets +onlyGivenNames (merge := false) u3; suffices h3 : Changes 1598336 s u3; clear_value u3)
  refine .seq lifeCheck_changes ?_ (by decide)
  refine .ite ?_ ?_
  assumption
  refine .seq retireBlock_changes ?_ (by decide)
  assumption
  dsimp -zeta only [u3]
  refine .seq eraseRec_changes ?_ (by decide)
  refine .seq blockErased_changes ?_ (by decide)
  assumption
  dsimp -zeta only [u2]
  refine .seq updUpkeep_changes ?_ (by decide)
  exact .refl
  exact .refl

theorem execProgramFail_changes {i : Nat} {b : BlockId} {s : State} : NextChanges 8192 s (execProgramFail i b s) := by
  unfold execProgramFail
  extract_lets +onlyGivenNames (merge := false) w0
  (extract_lets +onlyGivenNames (merge := false) w1; clear_value w1)
  refine .next ?_
  refine .ite ?_ ?_
  (extract_lets +onlyGivenNames (merge := false) u2; suffices h2 : Changes 8192 s u2; clear_value u2)
  (extract_lets +onlyGivenNames (merge := false) u3; suffices h3 : Changes 8192 s u3; clear_value u3)
  refine .ite ?_ ?_
  refine .seq stageLog_changes ?_ (by decide)
  refine .seq updBand_changes ?_ (by decide)
  assumption
  refine .seq closeBand_changes ?_ (by decide)
  assumption
  dsimp -zeta only [u3]
  refine .seq updBlock_changes ?_ (by decide)
  assumption
  dsimp -zeta only [u2]
  refine .seq updMedia_changes ?_ (by decide)
  exact .refl
  exact .refl

theorem execWearLevelMove_changes {s : State} : NextChanges 1600384 s (execWearLevelMove s) := by
  unfold execWearLevelMove
  (extract_lets +onlyGivenNames (merge := false) w0; clear_value w0)
  refine .next ?_
  refine .ite ?_ ?_
  (extract_lets +onlyGivenNames (merge := false) w1; clear_value w1)
  split
  rename_i _ e2
  exact .refl
  rename_i _ _ e3
  split
  rename_i _ _ _ e4
  exact .refl
  rename_i _ _ _ u5 e6
  refine .seq logEv_changes ?_ (by decide)
  refine .seq updUpkeep_changes ?_ (by decide)
  refine Changes.opt ?_ e6
  refine .seq emptyBand_changes ?_ (by decide)
  exact .refl
  exact .refl

theorem execBlockRefreshed_changes {s : State} : NextChanges 1600384 s (execBlockRefreshed s) := by
  unfold execBlockRefreshed
  refine .next ?_
  split
  rename_i _ e0
  exact .refl
  rename_i _ _ _ e1
  refine .ite ?_ ?_
  extract_lets +onlyGivenNames (merge := false) w2
  extract_lets +onlyGivenNames (merge := false) w3
  split
  rename_i _ _ _ _ e4
  exact .refl
  rename_i _ _ _ _ u5 e6
  refine .seq logEv_changes ?_ (by decide)
  refine .seq updUpkeep_changes ?_ (by decide)
  refine Changes.opt ?_ e6
  refine .seq copyPages_changes ?_ (by decide)
  exact .refl
  exact .refl

theorem queueRefresh_changes {s : State} {k : BlockId} : Changes 16384 s (queueRefresh s k) := by
  unfold queueRefresh
  refine .ite ?_ ?_
  exact .refl
  refine .seq updUpkeep_changes ?_ (by decide)
  exact .refl

theorem execPatrolRead_changes {b : BlockId} {stripe : Nat} {r : ReadOutcome} {bits : Nat} {s : State} : NextChanges 1600400 s (execPatrolRead b stripe r bits s) := by
  unfold execPatrolRead
  extract_lets +onlyGivenNames (merge := false) w0
  (extract_lets +onlyGivenNames (merge := false) w1; clear_value w1)
  refine .next ?_
  refine .ite ?_ ?_
  (extract_lets +onlyGivenNames (merge := false) u2; suffices h2 : Changes 1600400 s u2; clear_value u2)
  (extract_lets +onlyGivenNames (merge := false) u3; suffices h3 : Changes 1600400 s u3; clear_value u3)
  (extract_lets +onlyGivenNames (merge := false) u4; suffices h4 : Changes 1600400 s u4; clear_value u4)
  refine .ite ?_ ?_
  refine .seq logEv_changes ?_ (by decide)
  refine .seq queueRefresh_changes ?_ (by decide)
  assumption
  assumption
  dsimp -zeta only [u4]
  split
  rename_i _ _ _ e5
  refine .seq pageRead_changes ?_ (by decide)
  assumption
  rename_i _ _ _ e6
  refine .seq pageRead_changes ?_ (by decide)
  assumption
  assumption
  dsimp -zeta only [u3]
  refine .seq addReads_changes ?_ (by decide)
  refine .seq updBlock_changes ?_ (by decide)
  assumption
  dsimp -zeta only [u2]
  refine .seq patrolLateCheck_changes ?_ (by decide)
  refine .seq wakeIsl_changes ?_ (by decide)
  exact .refl
  exact .refl

theorem execShredScan_changes {ticket : Nat} {s : State} : NextChanges 1600384 s (execShredScan ticket s) := by
  unfold execShredScan
  refine .next ?_
  split
  rename_i _ e0
  exact .refl
  rename_i _ _ e1
  refine .ite ?_ ?_
  (extract_lets +onlyGivenNames (merge := false) w2; clear_value w2)
  (extract_lets +onlyGivenNames (merge := false) w3; clear_value w3)
  (extract_lets +onlyGivenNames (merge := false) w4; clear_value w4)
  (extract_lets +onlyGivenNames (merge := false) u5; suffices h5 : Changes 1600384 s u5; clear_value u5)
  (extract_lets +onlyGivenNames (merge := false) u6; suffices h6 : Changes 1600384 s u6; clear_value u6)
  (extract_lets +onlyGivenNames (merge := false) w7; clear_value w7)
  refine .seq shredStep_changes ?_ (by decide)
  refine .seq updUpkeep_changes ?_ (by decide)
  assumption
  dsimp -zeta only [u6]
  refine .foldl (fun u8 a8 h8 => ?_) ?_
  refine .seq markShred_changes ?_ (by decide)
  assumption
  assumption
  dsimp -zeta only [u5]
  refine .foldl (fun u9 a9 h9 => ?_) ?_
  refine .foldl (fun u10 a10 h10 => ?_) ?_
  refine .seq readPage_changes ?_ (by decide)
  assumption
  assumption
  exact .refl
  exact .refl

theorem execShredDone_changes {ticket : Nat} {s : State} : NextChanges 1596288 s (execShredDone ticket s) := by
  unfold execShredDone
  refine .next ?_
  split
  rename_i _ e0
  exact .refl
  rename_i _ _ e1
  refine .ite ?_ ?_
  (extract_lets +onlyGivenNames (merge := false) u2; suffices h2 : Changes 1596288 s u2; clear_value u2)
  split
  rename_i _ _ _ e3
  assumption
  rename_i _ _ _ _ e4
  refine .ite ?_ ?_
  refine .seq endTicket_changes ?_ (by decide)
  assumption
  refine .seq charge_changes ?_ (by decide)
  refine .seq endTicket_changes ?_ (by decide)
  assumption
  dsimp -zeta only [u2]
  refine .seq updUpkeep_changes ?_ (by decide)
  exact .refl
  exact .refl

theorem execHealthTempTick_changes {s : State} : NextChanges 1590144 s (execHealthTempTick s) := by
  unfold execHealthTempTick
  refine .next ?_
  refine .ite ?_ ?_
  (extract_lets +onlyGivenNames (merge := false) w0; clear_value w0)
  (extract_lets +onlyGivenNames (merge := false) u1; suffices h1 : Changes 1590144 s u1; clear_value u1)
  refine .ite ?_ ?_
  refine .seq patrolLateCheck_changes ?_ (by decide)
  assumption
  assumption
  dsimp -zeta only [u1]
  refine .seq updUpkeep_changes ?_ (by decide)
  exact .refl
  exact .refl

theorem execHealthShow_changes {l : Line} {s : State} : NextChanges 1594240 s (execHealthShow l s) := by
  unfold execHealthShow
  refine .next ?_
  refine .seq showCmd_changes ?_ (by decide)
  exact .refl

theorem execHealthTemp_changes {l : Line} {s : State} : NextChanges 1594240 s (execHealthTemp l s) := by
  unfold execHealthTemp
  refine .next ?_
  refine .seq showCmd_changes ?_ (by decide)
  exact .refl

theorem execHealthHoldup_changes {l : Line} {count : Option Int} {s : State} : NextChanges 1594240 s (execHealthHoldup l count s) := by
  unfold execHealthHoldup
  refine .next ?_
  refine .seq showCmd_changes ?_ (by decide)
  exact .refl

/-! ### Machine/Arcade.lean -/

theorem entryLost_changes {s : State} {pos : Nat} : Changes 1622912 s (entryLost s pos) := by
  unfold entryLost
  split
  rename_i _ e0
  exact .refl
  rename_i _ _ e1
  (extract_lets +onlyGivenNames (merge := false) u2; suffices h2 : Changes 1622912 s u2; clear_value u2)
  (extract_lets +onlyGivenNames (merge := false) u3; suffices h3 : Changes 1622912 s u3; clear_value u3)
  refine .ite ?_ ?_
  assumption
  split
  rename_i _ _ _ _ e4
  refine .seq restoreEntries_changes ?_ (by decide)
  refine .seq updArc_changes ?_ (by decide)
  assumption
  rename_i _ _ _ e5
  assumption
  dsimp -zeta only [u3]
  refine .seq logEv_changes ?_ (by decide)
  assumption
  dsimp -zeta only [u2]
  refine .seq countArc_changes ?_ (by decide)
  refine .seq clearAt_changes ?_ (by decide)
  exact .refl

theorem mendLost_changes {s : State} : Changes 32768 s (mendLost s) := by
  unfold mendLost
  refine .seq updArc_changes ?_ (by decide)
  exact .refl

theorem verifyHits_changes {s : State} {found : List (Nat × ArcCheck)} : Changes 1622912 s (verifyHits s found) := by
  unfold verifyHits
  refine .foldl (fun u0 a0 h0 => ?_) ?_
  split
  rename_i _ e1
  assumption
  rename_i _ e2
  refine .seq falseHit_changes ?_ (by decide)
  assumption
  rename_i _ e3
  refine .seq entryLost_changes ?_ (by decide)
  assumption
  exact .refl

theorem beginStepped_changes {s : State} {sp : ArcSpec} {c : Fin 16} : Changes 32768 s (beginStepped s sp c) := by
  unfold beginStepped
  (extract_lets +onlyGivenNames (merge := false) w0; clear_value w0)
  split
  refine .seq updArc_changes ?_ (by decide)
  exact .refl
  refine .seq updArc_changes ?_ (by decide)
  exact .refl

theorem stepCursor_changes {s : State} {c : Fin 16} : Changes 32768 s (stepCursor s c) := by
  unfold stepCursor
  split
  rename_i _ e0
  exact .refl
  rename_i _ _ e1
  (extract_lets +onlyGivenNames (merge := false) u2; suffices h2 : Changes 32768 s u2; clear_value u2)
  split
  rename_i _ _ _ e3
  refine .seq updArc_changes ?_ (by decide)
  assumption
  rename_i _ _ _ _ _ e4
  refine .seq updArc_changes ?_ (by decide)
  assumption
  dsimp -zeta only [u2]
  refine .seq countArc_changes ?_ (by decide)
  exact .refl

theorem execArcSearch_changes {req : ArcReq} {found : List (Nat × ArcCheck)} {s : State} : NextChanges 1622928 s (execArcSearch req found s) := by
  unfold execArcSearch
  refine .next ?_
  refine .ite ?_ ?_
  (extract_lets +onlyGivenNames (merge := false) u0; suffices h0 : Changes 1622928 s u0; clear_value u0)
  split
  (extract_lets +onlyGivenNames (merge := false) w1; clear_value w1)
  refine .seq updArc_changes ?_ (by decide)
  refine .seq countArc_changes ?_ (by decide)
  assumption
  (extract_lets +onlyGivenNames (merge := false) u2; suffices h2 : Changes 1622928 s u2; clear_value u2)
  split
  rename_i _ _ _ _ e3
  refine .seq beginStepped_changes ?_ (by decide)
  assumption
  rename_i _ _ _ e4
  refine .seq updArc_changes ?_ (by decide)
  assumption
  dsimp -zeta only [u2]
  refine .seq countArc_changes ?_ (by decide)
  assumption
  refine .seq stepCursor_changes ?_ (by decide)
  assumption
  dsimp -zeta only [u0]
  refine .seq verifyHits_changes ?_ (by decide)
  refine .seq wakeIsl_changes ?_ (by decide)
  exact .refl
  exact .refl

theorem execArcCursorFree_changes {cursor : Fin 16} {s : State} : NextChanges 32768 s (execArcCursorFree cursor s) := by
  unfold execArcCursorFree
  refine .next ?_
  refine .ite ?_ ?_
  (extract_lets +onlyGivenNames (merge := false) u0; suffices h0 : Changes 32768 s u0; clear_value u0)
  split
  rename_i _ e1
  assumption
  rename_i _ _ _ e2
  refine .seq beginStepped_changes ?_ (by decide)
  refine .seq updArc_changes ?_ (by decide)
  assumption
  dsimp -zeta only [u0]
  refine .seq updArc_changes ?_ (by decide)
  exact .refl
  exact .refl

theorem afterCmd_changes {s : State} {c : ArcCmd} {noHole : Bool} : Changes 1703808 s (afterCmd s c noHole) := by
  unfold afterCmd
  split
  rename_i _ e0
  refine .seq mendLost_changes ?_ (by decide)
  exact .refl
  rename_i _ _ e1
  split
  rename_i _ _ _ e2
  exact .refl
  rename_i _ _ _ _ e3
  refine .ite ?_ ?_
  refine .seq settle_changes ?_ (by decide)
  refine .seq answerOp_changes ?_ (by decide)
  refine .seq freeLocks_changes ?_ (by decide)
  refine .seq undoEntries_changes ?_ (by decide)
  exact .refl
  refine .ite ?_ ?_
  exact .refl
  refine .seq settle_changes ?_ (by decide)
  refine .seq updOp_changes ?_ (by decide)
  exact .refl

theorem runQueueHead_changes {s : State} {want : ArcCmd → Bool} : Changes 1703824 s (runQueueHead s want) := by
  unfold runQueueHead
  split
  rename_i _ e0
  exact .refl
  rename_i _ _ _ e1
  refine .ite ?_ ?_
  split
  rename_i _ _ _ _ u2 e3
  refine Changes.fst ?_ e3
  refine .seq headOp_changes ?_ (by decide)
  refine .seq wakeIsl_changes ?_ (by decide)
  exact .refl
  rename_i _ _ _ _ u4 _ e5
  refine .seq afterCmd_changes ?_ (by decide)
  refine .seq popArc_changes ?_ (by decide)
  refine Changes.fst ?_ e5
  refine .seq headOp_changes ?_ (by decide)
  refine .seq wakeIsl_changes ?_ (by decide)
  exact .refl
  exact .refl

theorem execArcInsert_changes {s : State} : NextChanges 1703824 s (execArcInsert s) := by
  unfold execArcInsert
  refine .next ?_
  refine .ite ?_ ?_
  refine .seq runQueueHead_changes ?_ (by decide)
  exact .refl
  exact .refl

theorem execArcInvalidate_changes {s : State} : NextChanges 1703824 s (execArcInvalidate s) := by
  unfold execArcInvalidate
  refine .next ?_
  refine .ite ?_ ?_
  refine .seq runQueueHead_changes ?_ (by decide)
  exact .refl
  exact .refl

theorem execArcScrubPass_changes {s : State} : NextChanges 32784 s (execArcScrubPass s) := by
  unfold execArcScrubPass
  refine .next ?_
  refine .ite ?_ ?_
  refine .seq updArc_changes ?_ (by decide)
  refine .seq wakeIsl_changes ?_ (by decide)
  exact .refl
  exact .refl

theorem scrubFix_changes {s : State} {u : Nat} : Changes 1622912 s (scrubFix s u) := by
  unfold scrubFix
  (extract_lets +onlyGivenNames (merge := false) w0; clear_value w0)
  (extract_lets +onlyGivenNames (merge := false) u1; suffices h1 : Changes 1622912 s u1; clear_value u1)
  refine .ite ?_ ?_
  refine .seq logEv_changes ?_ (by decide)
  refine .seq updArc_changes ?_ (by decide)
  assumption
  assumption
  dsimp -zeta only [u1]
  refine .seq countArc_changes ?_ (by decide)
  refine .seq updArc_changes ?_ (by decide)
  exact .refl

theorem execArcScrubUnit_changes {found : ArcCheck} {s : State} : NextChanges 1622912 s (execArcScrubUnit found s) := by
  unfold execArcScrubUnit
  refine .next ?_
  split
  rename_i _ e0
  exact .refl
  rename_i _ _ e1
  refine .ite ?_ ?_
  (extract_lets +onlyGivenNames (merge := false) u2; suffices h2 : Changes 1622912 s u2; clear_value u2)
  refine .ite ?_ ?_
  refine .seq updArc_changes ?_ (by decide)
  assumption
  refine .seq updArc_changes ?_ (by decide)
  assumption
  dsimp -zeta only [u2]
  split
  exact .refl
  refine .seq scrubFix_changes ?_ (by decide)
  exact .refl
  split
  rename_i _ _ _ _ _ e3
  refine .seq entryLost_changes ?_ (by decide)
  exact .refl
  rename_i _ _ _ _ e4
  exact .refl
  exact .refl

theorem rewriteKey_changes {s : State} {k : ObjKey} {o : Obj} : Changes 32768 s (rewriteKey s k o) := by
  unfold rewriteKey
  refine .ite ?_ ?_
  exact .refl
  split
  rename_i _ _ u0 e1
  refine .foldl (fun u2 a2 h2 => ?_) ?_
  refine .seq runArcCmd_changes ?_ (by decide)
  assumption
  refine Changes.snd ?_ e1
  refine .seq handleOf_changes ?_ (by decide)
  exact .refl

theorem execArcRebuild_changes {bank : Fin 16} {s : State} : NextChanges 1622928 s (execArcRebuild bank s) := by
  unfold execArcRebuild
  refine .next ?_
  refine .ite ?_ ?_
  (extract_lets +onlyGivenNames (merge := false) w0; clear_value w0)
  (extract_lets +onlyGivenNames (merge := false) u1; suffices h1 : Changes 1622928 s u1; clear_value u1)
  refine .seq logEv_changes ?_ (by decide)
  refine .seq updArc_changes ?_ (by decide)
  assumption
  dsimp -zeta only [u1]
  refine .foldl (fun u2 a2 h2 => ?_) ?_
  refine .foldl (fun u3 a3 h3 => ?_) ?_
  refine .seq rewriteKey_changes ?_ (by decide)
  assumption
  assumption
  refine .seq wakeIsl_changes ?_ (by decide)
  exact .refl
  exact .refl

theorem execArcadeShow_changes {l : Line} {s : State} : NextChanges 1594240 s (execArcadeShow l s) := by
  unfold execArcadeShow
  refine .next ?_
  refine .seq showCmd_changes ?_ (by decide)
  exact .refl

theorem execArcadeBankShow_changes {l : Line} {bank : Int} {s : State} : NextChanges 1594240 s (execArcadeBankShow l bank s) := by
  unfold execArcadeBankShow
  refine .next ?_
  refine .seq showCmd_changes ?_ (by decide)
  exact .refl

end Sys2Proof.Laws
end

