-- ==== Sys2Proof/Laws/Changes3.lean ====
section
/-!
SUPPORT. What each definition that changes the state may change, one lemma per definition; the mask of a lemma is the union
of the masks of what the definition calls. Of Machine/: RowOps, FwOps, FlushOps, TestOps, IslOps, LifeOps, Islands, Life, Fimor.
-/

namespace Sys2Proof.Laws

open Sys2Proof Machine

set_option linter.unusedVariables false

/-! ### Machine/RowOps.lean -/

theorem mirrorSettle_changes {s : State} : Changes 1655680 s (mirrorSettle s) := by
  unfold mirrorSettle
  refine .ite ?_ ?_
  exact .refl
  (extract_lets +onlyGivenNames (merge := false) w0; clear_value w0)
  extract_lets +onlyGivenNames (merge := false) w1
  (extract_lets +onlyGivenNames (merge := false) u2; suffices h2 : Changes 1655680 s u2; clear_value u2)
  refine .ite ?_ ?_
  refine .seq logEv_changes ?_ (by decide)
  refine .seq (updRow_changes ?_) ?_ (by decide)
  exact Nat.le_refl _
  assumption
  assumption
  dsimp -zeta only [u2]
  refine .seq (updRow_changes ?_) ?_ (by decide)
  exact Nat.le_refl _
  exact .refl

theorem refreshMirror_changes {old : State} {s : State} : Changes 1655680 s (refreshMirror old s) := by
  unfold refreshMirror
  (extract_lets +onlyGivenNames (merge := false) w0; clear_value w0)
  (extract_lets +onlyGivenNames (merge := false) w1; clear_value w1)
  refine .ite ?_ ?_
  exact .refl
  (extract_lets +onlyGivenNames (merge := false) w2; clear_value w2)
  (extract_lets +onlyGivenNames (merge := false) u3; suffices h3 : Changes 1655680 s u3; clear_value u3)
  split
  refine .seq (updRow_changes ?_) ?_ (by decide)
  exact Nat.le_refl _
  assumption
  (extract_lets +onlyGivenNames (merge := false) u4; suffices h4 : Changes 1655680 s u4; clear_value u4)
  refine .seq logEv_changes ?_ (by decide)
  assumption
  dsimp -zeta only [u4]
  refine .seq (updRow_changes ?_) ?_ (by decide)
  (split <;> exact Nat.le_refl _)
  assumption
  dsimp -zeta only [u3]
  refine .seq (updRow_changes ?_) ?_ (by decide)
  exact Nat.le_refl _
  exact .refl

theorem serveNext_changes {s : State} : Changes 65536 s (serveNext s) := by
  unfold serveNext
  refine .seq (updRow_changes ?_) ?_ (by decide)
  exact Nat.le_refl _
  exact .refl

theorem setView_changes {s : State} {ms : List Member} : Changes 1657728 s (setView s ms) := by
  unfold setView
  (extract_lets +onlyGivenNames (merge := false) w0; clear_value w0)
  (extract_lets +onlyGivenNames (merge := false) w1; clear_value w1)
  (extract_lets +onlyGivenNames (merge := false) w2; clear_value w2)
  (extract_lets +onlyGivenNames (merge := false) w3; clear_value w3)
  (extract_lets +onlyGivenNames (merge := false) u4; suffices h4 : Changes 1657728 s u4; clear_value u4)
  (extract_lets +onlyGivenNames (merge := false) u5; suffices h5 : Changes 1657728 s u5; clear_value u5)
  refine .foldl (fun u6 a6 h6 => ?_) ?_
  refine .seq endIfDone_changes ?_ (by decide)
  assumption
  assumption
  dsimp -zeta only [u5]
  refine .seq serveNext_changes ?_ (by decide)
  refine .seq refreshMirror_changes ?_ (by decide)
  assumption
  dsimp -zeta only [u4]
  refine .seq (updRow_changes ?_) ?_ (by decide)
  exact Nat.le_refl _
  exact .refl

theorem setEpoch_changes {s : State} {e : Nat} : Changes 65536 s (setEpoch s e) := by
  unfold setEpoch
  refine .seq (updRow_changes ?_) ?_ (by decide)
  exact Nat.le_max_left _ _
  exact .refl

theorem sendBeacon_changes {s : State} : Changes 768 s (sendBeacon s) := by
  unfold sendBeacon
  refine .ite ?_ ?_
  (extract_lets +onlyGivenNames (merge := false) w0; clear_value w0)
  refine .seq sendIp_changes ?_ (by decide)
  exact .refl
  exact .refl

theorem lead_changes {s : State} {epoch : Nat} : Changes 1655680 s (lead s epoch) := by
  unfold lead
  (extract_lets +onlyGivenNames (merge := false) u0; suffices h0 : Changes 1655680 s u0; clear_value u0)
  refine .seq sendBeacon_changes ?_ (by decide)
  refine .seq logEv_changes ?_ (by decide)
  assumption
  dsimp -zeta only [u0]
  refine .seq (updRow_changes ?_) ?_ (by decide)
  exact Nat.le_refl _
  refine .seq setEpoch_changes ?_ (by decide)
  exact .refl

theorem leadAlone_changes {s : State} : Changes 1657728 s (leadAlone s) := by
  unfold leadAlone
  extract_lets +onlyGivenNames (merge := false) w0
  (extract_lets +onlyGivenNames (merge := false) u1; suffices h1 : Changes 1657728 s u1; clear_value u1)
  refine .seq lead_changes ?_ (by decide)
  refine .seq setView_changes ?_ (by decide)
  assumption
  dsimp -zeta only [u1]
  refine .seq setEpoch_changes ?_ (by decide)
  exact .refl

theorem handOver_changes {s : State} : Changes 65536 s (handOver s) := by
  unfold handOver
  refine .ite ?_ ?_
  refine .seq (updRow_changes ?_) ?_ (by decide)
  exact Nat.le_refl _
  exact .refl
  exact .refl

theorem reorder_changes {s : State} : Changes 1657728 s (reorder s) := by
  unfold reorder
  (extract_lets +onlyGivenNames (merge := false) w0; clear_value w0)
  refine .ite ?_ ?_
  refine .seq handOver_changes ?_ (by decide)
  refine .seq sendBeacon_changes ?_ (by decide)
  refine .seq setView_changes ?_ (by decide)
  exact .refl
  exact .refl

theorem removeMember_changes {s : State} {serial : Nat} {leave : Bool} : Changes 1657728 s (removeMember s serial leave) := by
  unfold removeMember
  (extract_lets +onlyGivenNames (merge := false) u0; suffices h0 : Changes 1657728 s u0; clear_value u0)
  (extract_lets +onlyGivenNames (merge := false) u1; suffices h1 : Changes 1657728 s u1; clear_value u1)
  refine .seq sendBeacon_changes ?_ (by decide)
  refine .seq logEv_changes ?_ (by decide)
  assumption
  dsimp -zeta only [u1]
  refine .seq setView_changes ?_ (by decide)
  assumption
  dsimp -zeta only [u0]
  refine .seq setEpoch_changes ?_ (by decide)
  exact .refl

theorem admitMember_changes {s : State} {b : Beacon} : Changes 1657728 s (admitMember s b) := by
  unfold admitMember
  refine .ite ?_ ?_
  (extract_lets +onlyGivenNames (merge := false) u0; suffices h0 : Changes 1657728 s u0; clear_value u0)
  (extract_lets +onlyGivenNames (merge := false) w1; clear_value w1)
  (extract_lets +onlyGivenNames (merge := false) u2; suffices h2 : Changes 1657728 s u2; clear_value u2)
  refine .seq handOver_changes ?_ (by decide)
  refine .seq sendBeacon_changes ?_ (by decide)
  refine .seq logEv_changes ?_ (by decide)
  assumption
  dsimp -zeta only [u2]
  refine .seq setView_changes ?_ (by decide)
  assumption
  dsimp -zeta only [u0]
  refine .seq setEpoch_changes ?_ (by decide)
  exact .refl
  split
  rename_i _ _ e3
  refine .ite ?_ ?_
  exact .refl
  refine .seq logEv_changes ?_ (by decide)
  refine .seq (updRow_changes ?_) ?_ (by decide)
  exact Nat.le_refl _
  exact .refl
  rename_i _ e4
  refine .seq logEv_changes ?_ (by decide)
  refine .seq (updRow_changes ?_) ?_ (by decide)
  exact Nat.le_refl _
  exact .refl

theorem sendDue_changes {s : State} : Changes 197376 s (sendDue s) := by
  unfold sendDue
  split
  rename_i _ _ _ _ e0
  refine .ite ?_ ?_
  refine .seq rowSend_changes ?_ (by decide)
  refine .seq (updFw_changes ?_) ?_ (by decide)
  exact fun _ h => h
  exact .refl
  exact .refl
  rename_i _ e1
  exact .refl

theorem adopt_changes {s : State} {b : Beacon} : Changes 1788800 s (adopt s b) := by
  unfold adopt
  (extract_lets +onlyGivenNames (merge := false) w0; clear_value w0)
  (extract_lets +onlyGivenNames (merge := false) w1; clear_value w1)
  (extract_lets +onlyGivenNames (merge := false) w2; clear_value w2)
  (extract_lets +onlyGivenNames (merge := false) u3; suffices h3 : Changes 1788800 s u3; clear_value u3)
  (extract_lets +onlyGivenNames (merge := false) u4; suffices h4 : Changes 1788800 s u4; clear_value u4)
  (extract_lets +onlyGivenNames (merge := false) u5; suffices h5 : Changes 1788800 s u5; clear_value u5)
  (extract_lets +onlyGivenNames (merge := false) u6; suffices h6 : Changes 1788800 s u6; clear_value u6)
  (extract_lets +onlyGivenNames (merge := false) u7; suffices h7 : Changes 1788800 s u7; clear_value u7)
  refine .ite ?_ ?_
  refine .seq lead_changes ?_ (by decide)
  assumption
  assumption
  dsimp -zeta only [u7]
  refine .ite ?_ ?_
  refine .seq sendDue_changes ?_ (by decide)
  assumption
  assumption
  dsimp -zeta only [u6]
  refine .ite ?_ ?_
  refine .seq logEv_changes ?_ (by decide)
  assumption
  assumption
  dsimp -zeta only [u5]
  refine .seq (updRow_changes ?_) ?_ (by decide)
  exact Nat.le_refl _
  assumption
  dsimp -zeta only [u4]
  refine .seq setView_changes ?_ (by decide)
  assumption
  dsimp -zeta only [u3]
  refine .seq (updRow_changes ?_) ?_ (by decide)
  exact Nat.le_refl _
  refine .seq setEpoch_changes ?_ (by decide)
  exact .refl

theorem noteBeacon_changes {s : State} {b : Beacon} : Changes 65536 s (noteBeacon s b) := by
  unfold noteBeacon
  refine .seq (updRow_changes ?_) ?_ (by decide)
  exact Nat.le_refl _
  exact .refl

theorem takeBeacon_changes {s : State} {b : Beacon} : Changes 1788800 s (takeBeacon s b) := by
  unfold takeBeacon
  (extract_lets +onlyGivenNames (merge := false) u0; suffices h0 : Changes 1788800 s u0; clear_value u0)
  refine .ite ?_ ?_
  refine .ite ?_ ?_
  (extract_lets +onlyGivenNames (merge := false) u1; suffices h1 : Changes 1788800 s u1; clear_value u1)
  refine .ite ?_ ?_
  refine .seq adopt_changes ?_ (by decide)
  assumption
  assumption
  dsimp -zeta only [u1]
  refine .seq (updRow_changes ?_) ?_ (by decide)
  exact Nat.le_refl _
  assumption
  refine .ite ?_ ?_
  refine .seq reorder_changes ?_ (by decide)
  assumption
  refine .seq admitMember_changes ?_ (by decide)
  assumption
  refine .ite ?_ ?_
  refine .seq adopt_changes ?_ (by decide)
  assumption
  assumption
  dsimp -zeta only [u0]
  refine .seq noteBeacon_changes ?_ (by decide)
  exact .refl

theorem beginJoin_changes {s : State} : Changes 66304 s (beginJoin s) := by
  unfold beginJoin
  refine .ite ?_ ?_
  refine .seq sendBeacon_changes ?_ (by decide)
  refine .seq (updRow_changes ?_) ?_ (by decide)
  exact Nat.le_refl _
  exact .refl
  refine .seq (updRow_changes ?_) ?_ (by decide)
  exact Nat.le_refl _
  exact .refl

theorem leaveRow_changes {s : State} : Changes 1657728 s (leaveRow s) := by
  unfold leaveRow
  refine .seq (updRow_changes ?_) ?_ (by decide)
  exact Nat.le_refl _
  refine .seq setView_changes ?_ (by decide)
  refine .seq sendLeave_changes ?_ (by decide)
  exact .refl

theorem rejoin_changes {s : State} : Changes 1657728 s (rejoin s) := by
  unfold rejoin
  refine .seq beginJoin_changes ?_ (by decide)
  refine .seq leaveRow_changes ?_ (by decide)
  exact .refl

theorem takeRow_changes {s0 s : State} {h : RowHdr} {act : State → State × AckStatus} {m : Nat} (g : Changes m s0 s)
    (e : 66304 &&& m = 66304) (k : ∀ u, Changes m s0 u → Changes m s0 (act u).1) : Changes m s0 (takeRow s h act) := by
  have e1 : (65536 : Nat) &&& m = 65536 := and_trans (by decide) e
  unfold takeRow
  refine .ite g (.ite (.seq (updRow_changes (Nat.le_refl _)) g e1) ?_)
  split
  · exact .seq rowSend_changes g e
  · dsimp only
    refine .seq rowSend_changes ?_ e
    refine .seq (updRow_changes (Nat.le_refl _)) ?_ e1
    exact k _ (.seq (updRow_changes (Nat.le_refl _)) g e1)

theorem postWaiting_changes {s : State} {peer : Nat} : Changes 66304 s (postWaiting s peer) := by
  unfold postWaiting
  refine .ite ?_ ?_
  split
  rename_i _ _ e0
  refine .seq rowPost_changes ?_ (by decide)
  refine .seq (updRow_changes ?_) ?_ (by decide)
  exact Nat.le_refl _
  exact .refl
  rename_i _ e1
  exact .refl
  exact .refl

theorem dropUnacked_changes {s : State} {m : RowMsg} : Changes 66304 s (dropUnacked s m) := by
  unfold dropUnacked
  refine .seq postWaiting_changes ?_ (by decide)
  refine .seq (updRow_changes ?_) ?_ (by decide)
  exact Nat.le_refl _
  exact .refl

theorem dropGroup_changes {s : State} {m : RowMsg} : Changes 66304 s (dropGroup s m) := by
  unfold dropGroup
  refine .seq postWaiting_changes ?_ (by decide)
  refine .seq (updRow_changes ?_) ?_ (by decide)
  exact Nat.le_refl _
  exact .refl

theorem mirrorAcked_changes {s : State} {msgId : Nat} {st : AckStatus} : Changes 1655680 s (mirrorAcked s msgId st) := by
  unfold mirrorAcked
  split
  rename_i _ e0
  exact .refl
  rename_i _ _ e1
  (extract_lets +onlyGivenNames (merge := false) u2; suffices h2 : Changes 1655680 s u2; clear_value u2)
  extract_lets +onlyGivenNames (merge := false) w3
  refine .seq mirrorSettle_changes ?_ (by decide)
  split
  assumption
  dsimp -zeta only [w3]
  refine .seq (updRow_changes ?_) ?_ (by decide)
  exact Nat.le_refl _
  assumption
  dsimp -zeta only [w3]
  refine .seq (updRow_changes ?_) ?_ (by decide)
  exact Nat.le_refl _
  assumption
  dsimp -zeta only [u2]
  refine .seq (updRow_changes ?_) ?_ (by decide)
  exact Nat.le_refl _
  exact .refl

theorem msgFailed_changes {s : State} {m : RowMsg} : Changes 199424 s (msgFailed s m) := by
  unfold msgFailed
  split
  rename_i _ _ e0
  refine .foldl (fun u1 a1 h1 => ?_) ?_
  refine .seq endIfDone_changes ?_ (by decide)
  refine .seq memberEnds_changes ?_ (by decide)
  assumption
  exact .refl
  rename_i _ _ _ _ e2
  refine .ite ?_ ?_
  refine .seq (updFw_changes ?_) ?_ (by decide)
  exact fun _ h => h
  exact .refl
  exact .refl
  split
  rename_i _ _ _ _ _ e3
  refine .seq (updRow_changes ?_) ?_ (by decide)
  exact Nat.le_refl _
  exact .refl
  rename_i _ _ _ _ e4
  exact .refl

theorem sendMirror_changes {s : State} {e : MirrorEntry} : Changes 66306 s (sendMirror s e) := by
  unfold sendMirror
  split
  rename_i _ _ _ _ e0 e1
  (extract_lets +onlyGivenNames (merge := false) u2; suffices h2 : Changes 66306 s u2; clear_value u2)
  extract_lets +onlyGivenNames (merge := false) w3
  extract_lets +onlyGivenNames (merge := false) w4
  refine .seq rowSend_changes ?_ (by decide)
  refine .seq (updRow_changes ?_) ?_ (by decide)
  exact Nat.le_refl _
  assumption
  dsimp -zeta only [u2]
  refine .seq advanceTo_changes ?_ (by decide)
  exact .refl
  exact .refl

theorem noteRefused_changes {s : State} {origin : Nat} : Changes 1655680 s (noteRefused s origin) := by
  unfold noteRefused
  split
  rename_i _ _ e0
  refine .ite ?_ ?_
  exact .refl
  refine .seq logEv_changes ?_ (by decide)
  refine .seq (updRow_changes ?_) ?_ (by decide)
  exact Nat.le_refl _
  exact .refl
  rename_i _ e1
  refine .seq logEv_changes ?_ (by decide)
  refine .seq (updRow_changes ?_) ?_ (by decide)
  exact Nat.le_refl _
  exact .refl

theorem takeCopy_changes {s : State} {o : MirrorObj} : Changes 1655680 s (takeCopy s o).1 := by
  unfold takeCopy
  split
  rename_i e0
  dsimp -zeta only
  refine .seq noteRefused_changes ?_ (by decide)
  exact .refl
  split
  rename_i _ e1
  dsimp -zeta only
  exact .refl
  split
  rename_i _ _ _ e2
  dsimp -zeta only
  exact .refl
  rename_i _ _ _ u3 e4
  (extract_lets +onlyGivenNames (merge := false) w5; clear_value w5)
  dsimp -zeta only
  refine .ite ?_ ?_
  refine .seq (updRow_changes ?_) ?_ (by decide)
  exact Nat.le_refl _
  refine Changes.opt ?_ e4
  refine .seq takeCredit_changes ?_ (by decide)
  exact .refl
  refine Changes.opt ?_ e4
  refine .seq takeCredit_changes ?_ (by decide)
  exact .refl

theorem restoreOne_changes {x : StallNo} {s : State} {c : MirrorCopy} : Changes 1702784 s (restoreOne x s c) := by
  unfold restoreOne
  (extract_lets +onlyGivenNames (merge := false) w0; clear_value w0)
  (extract_lets +onlyGivenNames (merge := false) w1; clear_value w1)
  extract_lets +onlyGivenNames (merge := false) w2
  (extract_lets +onlyGivenNames (merge := false) w3; clear_value w3)
  refine .ite ?_ ?_
  dsimp -zeta only [w2]
  refine .seq (updRow_changes ?_) ?_ (by decide)
  exact Nat.le_refl _
  exact .refl
  dsimp -zeta only [w2]
  refine .seq (updRow_changes ?_) ?_ (by decide)
  exact Nat.le_refl _
  refine .seq charge_changes ?_ (by decide)
  refine .seq storeRelocated_changes ?_ (by decide)
  refine .getD ?_ ?_
  refine .seq takeCredit_changes ?_ (by decide)
  exact .refl
  exact .refl

/-! ### Machine/FwOps.lean -/

theorem updSlot_changes {s : State} {b : Bool} {f : FwSlot → FwSlot} : Changes 131072 s (updSlot s b f) := by
  unfold updSlot
  refine .seq (updFw_changes ?_) ?_ (by decide)
  (split <;> exact List.Subset.refl _)
  exact .refl

theorem updParcel_changes {s : State} {f : Parcel → Parcel} : Changes 131072 s (updParcel s f) := by
  unfold updParcel
  refine .seq (updFw_changes ?_) ?_ (by decide)
  exact fun _ h => h
  exact .refl

theorem noteRefusal_changes {s : State} {m : Manifest} {e : ErrName} : Changes 1590144 s (noteRefusal s m e) := by
  unfold noteRefusal
  refine .ite ?_ ?_
  refine .seq logEv_changes ?_ (by decide)
  exact .refl
  exact .refl

theorem keepPiece_changes {s : State} {n : Nat} : Changes 1729408 s (keepPiece s n) := by
  unfold keepPiece
  split
  rename_i _ e0
  exact .refl
  rename_i _ _ e1
  (extract_lets +onlyGivenNames (merge := false) w2; clear_value w2)
  (extract_lets +onlyGivenNames (merge := false) w3; clear_value w3)
  (extract_lets +onlyGivenNames (merge := false) u4; suffices h4 : Changes 1729408 s u4; clear_value u4)
  (extract_lets +onlyGivenNames (merge := false) u5; suffices h5 : Changes 1729408 s u5; clear_value u5)
  refine .ite ?_ ?_
  refine .seq logEv_changes ?_ (by decide)
  assumption
  assumption
  dsimp -zeta only [u5]
  refine .ite ?_ ?_
  assumption
  refine .seq stageLog_changes ?_ (by decide)
  assumption
  dsimp -zeta only [u4]
  refine .seq updParcel_changes ?_ (by decide)
  exact .refl

theorem takeManifest_changes {s : State} {m : Manifest} {hash : List Byte} : Changes 1729408 s (takeManifest s m hash).1 := by
  unfold takeManifest
  split
  rename_i _ _ e0
  dsimp -zeta only
  exact .refl
  rename_i _ e1
  split
  rename_i _ _ _ e2
  dsimp -zeta only
  refine .seq noteRefusal_changes ?_ (by decide)
  exact .refl
  rename_i _ _ e3
  (extract_lets +onlyGivenNames (merge := false) w4; clear_value w4)
  (extract_lets +onlyGivenNames (merge := false) u5; suffices h5 : Changes 1729408 s u5; clear_value u5)
  (extract_lets +onlyGivenNames (merge := false) u6; suffices h6 : Changes 1729408 s u6; clear_value u6)
  dsimp -zeta only
  refine .seq keepPiece_changes ?_ (by decide)
  refine .seq logEv_changes ?_ (by decide)
  assumption
  dsimp -zeta only [u6]
  refine .ite ?_ ?_
  refine .seq updSlot_changes ?_ (by decide)
  assumption
  assumption
  dsimp -zeta only [u5]
  refine .seq (updFw_changes ?_) ?_ (by decide)
  exact fun _ h => h
  exact .refl

theorem takeLater_changes {s : State} {n : Nat} {hashOk : Bool} : Changes 1729408 s (takeLater s n hashOk).1 := by
  unfold takeLater
  split
  rename_i _ e0
  dsimp -zeta only
  exact .refl
  rename_i _ _ e1
  split
  rename_i _ _ e2
  dsimp -zeta only
  exact .refl
  split
  rename_i _ _ _ e3
  dsimp -zeta only
  exact .refl
  dsimp -zeta only
  refine .seq keepPiece_changes ?_ (by decide)
  exact .refl

theorem takePiece_changes {s : State} {n : Nat} {d : PieceData} : Changes 1729408 s (takePiece s n d).1 := by
  unfold takePiece
  split
  refine .seq takeManifest_changes ?_ (by decide)
  exact .refl
  dsimp -zeta only
  exact .refl
  refine .seq takeLater_changes ?_ (by decide)
  exact .refl
  refine .seq takeLater_changes ?_ (by decide)
  exact .refl

theorem stopParcel_changes {s : State} : Changes 131072 s (stopParcel s) := by
  unfold stopParcel
  refine .seq updParcel_changes ?_ (by decide)
  exact .refl

theorem reportTo_changes {s : State} {source : Nat} {parcel : Nat} {st : RelayStat} : Changes 197376 s (reportTo s source parcel st) := by
  unfold reportTo
  refine .seq sendDue_changes ?_ (by decide)
  refine .seq (updFw_changes ?_) ?_ (by decide)
  exact fun _ h => h
  exact .refl

theorem endInstall_changes {s : State} {i : Install} {e : ErrName} : Changes 1791949 s (endInstall s i e) := by
  unfold endInstall
  (extract_lets +onlyGivenNames (merge := false) u0; suffices h0 : Changes 1791949 s u0; clear_value u0)
  (extract_lets +onlyGivenNames (merge := false) u1; suffices h1 : Changes 1791949 s u1; clear_value u1)
  (extract_lets +onlyGivenNames (merge := false) u2; suffices h2 : Changes 1791949 s u2; clear_value u2)
  refine .seq answerSlot_changes ?_ (by decide)
  assumption
  dsimp -zeta only [u2]
  split
  rename_i _ _ e3
  refine .seq reportTo_changes ?_ (by decide)
  assumption
  rename_i _ e4
  assumption
  dsimp -zeta only [u1]
  refine .ite ?_ ?_
  refine .seq updParcel_changes ?_ (by decide)
  assumption
  refine .seq stopParcel_changes ?_ (by decide)
  assumption
  dsimp -zeta only [u0]
  refine .seq (updFw_changes ?_) ?_ (by decide)
  exact fun _ h => h
  exact .refl

theorem writeSlot_changes {s : State} {i : Install} {m : Manifest} : Changes 1791949 s (writeSlot s i m) := by
  unfold writeSlot
  (extract_lets +onlyGivenNames (merge := false) w0; clear_value w0)
  (extract_lets +onlyGivenNames (merge := false) u1; suffices h1 : Changes 1791949 s u1; clear_value u1)
  refine .ite ?_ ?_
  assumption
  refine .ite ?_ ?_
  refine .seq endInstall_changes ?_ (by decide)
  assumption
  (extract_lets +onlyGivenNames (merge := false) u2; suffices h2 : Changes 1791949 s u2; clear_value u2)
  (extract_lets +onlyGivenNames (merge := false) u3; suffices h3 : Changes 1791949 s u3; clear_value u3)
  (extract_lets +onlyGivenNames (merge := false) u4; suffices h4 : Changes 1791949 s u4; clear_value u4)
  (extract_lets +onlyGivenNames (merge := false) w5; clear_value w5)
  split
  rename_i _ _ e6
  refine .seq answerSlot_changes ?_ (by decide)
  assumption
  rename_i _ e7
  split
  refine .seq beginHalt_changes ?_ (by decide)
  assumption
  assumption
  dsimp -zeta only [u4]
  refine .seq updParcel_changes ?_ (by decide)
  refine .seq (updFw_changes ?_) ?_ (by decide)
  exact fun _ h => h
  assumption
  dsimp -zeta only [u3]
  refine .seq logEv_changes ?_ (by decide)
  assumption
  dsimp -zeta only [u2]
  refine .seq updSlot_changes ?_ (by decide)
  assumption
  dsimp -zeta only [u1]
  refine .seq updSlot_changes ?_ (by decide)
  exact .refl

theorem startGate_changes {s : State} {version : Nat} {install : Bool} : Changes 131072 s (startGate s version install) := by
  unfold startGate
  refine .seq (updFw_changes ?_) ?_ (by decide)
  exact fun _ h => h
  exact .refl

theorem runInstall_changes {s : State} {i : Install} {m : Manifest} : Changes 1791949 s (runInstall s i m) := by
  unfold runInstall
  (extract_lets +onlyGivenNames (merge := false) u0; suffices h0 : Changes 1791949 s u0; clear_value u0)
  refine .ite ?_ ?_
  refine .seq startGate_changes ?_ (by decide)
  assumption
  refine .seq writeSlot_changes ?_ (by decide)
  assumption
  dsimp -zeta only [u0]
  refine .seq updParcel_changes ?_ (by decide)
  refine .seq (updFw_changes ?_) ?_ (by decide)
  exact fun _ h => h
  exact .refl

theorem refuseInstall_changes {s : State} {e : Reply} : Changes 1721216 s (refuseInstall s e) := by
  unfold refuseInstall
  split
  exact .refl
  exact .refl
  rename_i _ _ _ _ _ _ e0
  refine .seq stopParcel_changes ?_ (by decide)
  refine .seq noteRefusal_changes ?_ (by decide)
  exact .refl
  exact .refl

theorem gateOutcome_changes {s : State} {version : Nat} {reported : Bool} {slotOk : Bool} : Changes 1721216 s (gateOutcome s version reported slotOk) := by
  unfold gateOutcome
  extract_lets +onlyGivenNames (merge := false) w0
  extract_lets +onlyGivenNames (merge := false) w1
  refine .ite ?_ ?_
  (extract_lets +onlyGivenNames (merge := false) u2; suffices h2 : Changes 1721216 s u2; clear_value u2)
  refine .ite ?_ ?_
  refine .seq logEv_changes ?_ (by decide)
  refine .seq (updFw_changes ?_) ?_ (by decide)
  exact fun _ h => h
  assumption
  refine .seq logEv_changes ?_ (by decide)
  assumption
  dsimp -zeta only [u2]
  refine .seq (updFw_changes ?_) ?_ (by decide)
  exact fun _ h => h
  exact .refl
  refine .seq logEv_changes ?_ (by decide)
  refine .seq (updFw_changes ?_) ?_ (by decide)
  exact fun _ h => h
  exact .refl

theorem staleIn_changes {s : State} {which : List FwState} : Changes 131072 s (staleIn s which) := by
  unfold staleIn
  extract_lets +onlyGivenNames (merge := false) w0
  refine .seq (updFw_changes ?_) ?_ (by decide)
  exact fun _ h => h
  exact .refl

theorem staleSlots_changes {s : State} : Changes 131072 s (staleSlots s) := by
  unfold staleSlots
  refine .seq staleIn_changes ?_ (by decide)
  exact .refl

theorem burnFuses_changes {s : State} {failing : List Nat} : Changes 1721232 s (burnFuses s failing) := by
  unfold burnFuses
  (extract_lets +onlyGivenNames (merge := false) w0; clear_value w0)
  (extract_lets +onlyGivenNames (merge := false) u1; suffices h1 : Changes 1721232 s u1; clear_value u1)
  (extract_lets +onlyGivenNames (merge := false) u2; suffices h2 : Changes 1721232 s u2; clear_value u2)
  refine .seq staleIn_changes ?_ (by decide)
  refine .seq logEv_changes ?_ (by decide)
  assumption
  dsimp -zeta only [u2]
  refine .seq updIsl_changes ?_ (by decide)
  assumption
  dsimp -zeta only [u1]
  refine .foldl (fun u3 a3 h3 => ?_) ?_
  refine .ite ?_ ?_
  refine .seq logEv_changes ?_ (by decide)
  assumption
  refine .seq (updFw_changes ?_) ?_ (by decide)
  exact fun _ x => List.mem_append_left _ x
  assumption
  exact .refl

theorem offerParcel_changes {s : State} {origin : Nat} {m : Manifest} : Changes 66304 s (offerParcel s origin m) := by
  unfold offerParcel
  split
  rename_i _ _ _ _ e0 e1
  refine .ite ?_ ?_
  exact .refl
  refine .seq rowSend_changes ?_ (by decide)
  exact .refl
  exact .refl

theorem askPiece_changes {s : State} {o : RelayOffer} : Changes 197378 s (askPiece s o) := by
  unfold askPiece
  (extract_lets +onlyGivenNames (merge := false) w0; clear_value w0)
  split
  rename_i _ _ e1
  (extract_lets +onlyGivenNames (merge := false) u2; suffices h2 : Changes 197378 s u2; clear_value u2)
  extract_lets +onlyGivenNames (merge := false) w3
  refine .seq rowSend_changes ?_ (by decide)
  refine .seq (updFw_changes ?_) ?_ (by decide)
  exact fun _ h => h
  assumption
  dsimp -zeta only [u2]
  refine .seq advanceTo_changes ?_ (by decide)
  exact .refl
  rename_i _ e4
  exact .refl

theorem relayInstall_changes {s : State} {o : RelayOffer} {r : InstallResult} : Changes 1791949 s (relayInstall s o r) := by
  unfold relayInstall
  (extract_lets +onlyGivenNames (merge := false) u0; suffices h0 : Changes 1791949 s u0; clear_value u0)
  split
  rename_i _ _ _ e1 e2
  refine .seq runInstall_changes ?_ (by decide)
  assumption
  rename_i _ _ _ e3
  refine .seq reportTo_changes ?_ (by decide)
  refine .seq refuseInstall_changes ?_ (by decide)
  assumption
  rename_i _ _ e4 e5
  assumption
  dsimp -zeta only [u0]
  refine .seq (updFw_changes ?_) ?_ (by decide)
  exact fun _ h => h
  exact .refl

theorem endRelay_changes {s : State} {parcel : Nat} : Changes 131072 s (endRelay s parcel) := by
  unfold endRelay
  refine .ite ?_ ?_
  refine .seq (updFw_changes ?_) ?_ (by decide)
  exact fun _ h => h
  exact .refl
  refine .seq updParcel_changes ?_ (by decide)
  exact .refl

theorem confirmSlot_changes {s : State} {b : Bool} {failing : List Nat} : Changes 1794960 s (confirmSlot s b failing) := by
  unfold confirmSlot
  (extract_lets +onlyGivenNames (merge := false) w0; clear_value w0)
  (extract_lets +onlyGivenNames (merge := false) u1; suffices h1 : Changes 1794960 s u1; clear_value u1)
  (extract_lets +onlyGivenNames (merge := false) u2; suffices h2 : Changes 1794960 s u2; clear_value u2)
  (extract_lets +onlyGivenNames (merge := false) u3; suffices h3 : Changes 1794960 s u3; clear_value u3)
  (extract_lets +onlyGivenNames (merge := false) u4; suffices h4 : Changes 1794960 s u4; clear_value u4)
  (extract_lets +onlyGivenNames (merge := false) u5; suffices h5 : Changes 1794960 s u5; clear_value u5)
  (extract_lets +onlyGivenNames (merge := false) u6; suffices h6 : Changes 1794960 s u6; clear_value u6)
  (extract_lets +onlyGivenNames (merge := false) u7; suffices h7 : Changes 1794960 s u7; clear_value u7)
  split
  rename_i _ _ _ _ e8 e9
  split
  rename_i _ _ _ _ _ _ e10
  refine .ite ?_ ?_
  refine .seq endRelay_changes ?_ (by decide)
  assumption
  refine .seq offerParcel_changes ?_ (by decide)
  assumption
  rename_i _ _ _ _ _ e11
  refine .seq endRelay_changes ?_ (by decide)
  assumption
  assumption
  dsimp -zeta only [u7]
  split
  rename_i _ _ _ _ e12 e13
  refine .seq reportTo_changes ?_ (by decide)
  assumption
  assumption
  dsimp -zeta only [u6]
  split
  rename_i _ _ e14
  refine .ite ?_ ?_
  refine .seq startGate_changes ?_ (by decide)
  assumption
  assumption
  rename_i _ e15
  assumption
  dsimp -zeta only [u5]
  refine .ite ?_ ?_
  refine .seq burnFuses_changes ?_ (by decide)
  refine .seq (updFw_changes ?_) ?_ (by decide)
  exact fun _ h => h
  assumption
  assumption
  dsimp -zeta only [u4]
  refine .seq logEv_changes ?_ (by decide)
  assumption
  dsimp -zeta only [u3]
  split
  rename_i _ _ e16
  refine .seq updMedia_changes ?_ (by decide)
  assumption
  rename_i _ e17
  assumption
  dsimp -zeta only [u2]
  refine .seq (updFw_changes ?_) ?_ (by decide)
  exact fun _ h => h
  assumption
  dsimp -zeta only [u1]
  refine .seq updSlot_changes ?_ (by decide)
  exact .refl

/-! ### Machine/FlushOps.lean -/

theorem dropOps_changes {s : State} : Changes 6144 s (dropOps s) := by
  unfold dropOps
  (extract_lets +onlyGivenNames (merge := false) u0; suffices h0 : Changes 6144 s u0; clear_value u0)
  refine .seq (updStalls_changes ?_) ?_ (by decide)
  exact Nat.le_refl _
  assumption
  dsimp -zeta only [u0]
  refine .seq (updKv_changes ?_) ?_ (by decide)
  exact ⟨Nat.le_refl _, Nat.le_refl _, Nat.le_refl _, Nat.le_refl _, Nat.le_refl _⟩
  exact .refl

theorem putShelter_changes {s : State} {n : Nat} {p : PageRec} : Changes 8192 s (putShelter s n p) := by
  unfold putShelter
  (extract_lets +onlyGivenNames (merge := false) w0; clear_value w0)
  refine .seq updBand_changes ?_ (by decide)
  refine .seq updMedia_changes ?_ (by decide)
  exact .refl

theorem putFlush_changes {fails : List Nat} {y1 : Nat} {y2 : Nat} {y3 : Nat} {y4 : List PageRec} {y5 : List LatePage} {y6 : State × List (Nat × Nat)} : Changes 8192 y6.1 (putFlush fails y1 y2 y3 y4 y5 y6).1 := by
  induction y1 generalizing fails y2 y3 y4 y5 y6
  dsimp -zeta only [putFlush]
  exact .refl
  rename_i m ih
  dsimp -zeta only [putFlush]
  extract_lets +onlyGivenNames (merge := false) w0
  (extract_lets +onlyGivenNames (merge := false) w1; clear_value w1)
  (extract_lets +onlyGivenNames (merge := false) w2; clear_value w2)
  split
  rename_i _ _ _ _ e3
  refine .seq ih ?_ (by decide)
  dsimp -zeta only
  refine .seq putShelter_changes ?_ (by decide)
  exact .refl
  rename_i _ _ _ _ e4
  split
  rename_i _ _ _ _ e5
  refine .seq ih ?_ (by decide)
  dsimp -zeta only
  refine .seq putShelter_changes ?_ (by decide)
  exact .refl
  refine .seq ih ?_ (by decide)
  dsimp -zeta only
  refine .seq putShelter_changes ?_ (by decide)
  exact .refl
  rename_i _ _ e6
  split
  rename_i _ _ e7
  dsimp -zeta only
  exact .refl
  refine .seq ih ?_ (by decide)
  dsimp -zeta only
  refine .seq putShelter_changes ?_ (by decide)
  exact .refl

theorem writeShelter_changes {s : State} {fails : List Nat} : Changes 8192 s (writeShelter s fails) := by
  unfold writeShelter
  split
  rename_i _ e0
  exact .refl
  rename_i _ _ e1
  refine .ite ?_ ?_
  exact .refl
  (extract_lets +onlyGivenNames (merge := false) w2; clear_value w2)
  (extract_lets +onlyGivenNames (merge := false) w3; clear_value w3)
  (extract_lets +onlyGivenNames (merge := false) u4; suffices h4 : Changes 8192 s u4; clear_value u4)
  split
  rename_i _ _ _ u5 _ e6
  refine .seq updMedia_changes ?_ (by decide)
  refine Changes.fst ?_ e6
  refine .seq putFlush_changes ?_ (by decide)
  dsimp -zeta only
  assumption
  dsimp -zeta only [u4]
  split
  refine .seq updBand_changes ?_ (by decide)
  exact .refl
  exact .refl

theorem saveFlush_changes {s : State} : Changes 1600448 s (saveFlush s) := by
  unfold saveFlush
  extract_lets +onlyGivenNames (merge := false) w0
  (extract_lets +onlyGivenNames (merge := false) u1; suffices h1 : Changes 1600448 s u1; clear_value u1)
  refine .ite ?_ ?_
  assumption
  (extract_lets +onlyGivenNames (merge := false) u2; suffices h2 : Changes 1600448 s u2; clear_value u2)
  refine .ite ?_ ?_
  refine .seq (updKv_changes ?_) ?_ (by decide)
  exact ⟨Nat.le_refl _, Nat.le_refl _, Nat.le_refl _, Nat.le_refl _, Nat.le_refl _⟩
  refine .seq updMedia_changes ?_ (by decide)
  assumption
  (extract_lets +onlyGivenNames (merge := false) u3; suffices h3 : Changes 1600448 s u3; clear_value u3)
  (extract_lets +onlyGivenNames (merge := false) w4; clear_value w4)
  (extract_lets +onlyGivenNames (merge := false) w5; clear_value w5)
  extract_lets +onlyGivenNames (merge := false) w6
  (extract_lets +onlyGivenNames (merge := false) u7; suffices h7 : Changes 1600448 s u7; clear_value u7)
  (extract_lets +onlyGivenNames (merge := false) u8; suffices h8 : Changes 1600448 s u8; clear_value u8)
  refine .ite ?_ ?_
  assumption
  extract_lets +onlyGivenNames (merge := false) w9
  (extract_lets +onlyGivenNames (merge := false) w10; clear_value w10)
  (extract_lets +onlyGivenNames (merge := false) u11; suffices h11 : Changes 1600448 s u11; clear_value u11)
  refine .seq (updBoot_changes ?_) ?_ (by decide)
  exact id
  assumption
  dsimp -zeta only [u11]
  refine .seq updMedia_changes ?_ (by decide)
  assumption
  dsimp -zeta only [u8]
  refine .seq (updKv_changes ?_) ?_ (by decide)
  exact ⟨Nat.le_refl _, Nat.le_refl _, Nat.le_refl _, Nat.le_refl _, Nat.le_refl _⟩
  assumption
  dsimp -zeta only [u7]
  refine .seq updMedia_changes ?_ (by decide)
  assumption
  dsimp -zeta only [u3]
  refine .foldl (fun u12 a12 h12 => ?_) ?_
  refine .seq issuePack_changes ?_ (by decide)
  assumption
  assumption
  dsimp -zeta only [u2]
  refine .seq completeStarted_changes ?_ (by decide)
  assumption
  dsimp -zeta only [u1]
  refine .seq (updBoot_changes ?_) ?_ (by decide)
  exact id
  exact .refl

theorem wipeShelter_changes {s : State} {n : Nat} : Changes 24576 s (wipeShelter s n) := by
  unfold wipeShelter
  (extract_lets +onlyGivenNames (merge := false) u0; suffices h0 : Changes 24576 s u0; clear_value u0)
  refine .seq updBand_changes ?_ (by decide)
  assumption
  dsimp -zeta only [u0]
  refine .foldl (fun u1 a1 h1 => ?_) ?_
  refine .seq eraseNow_changes ?_ (by decide)
  assumption
  exact .refl

theorem endReplay_changes {s : State} {img : FlushImage} : Changes 1598336 s (endReplay s img) := by
  unfold endReplay
  (extract_lets +onlyGivenNames (merge := false) u0; suffices h0 : Changes 1598336 s u0; clear_value u0)
  (extract_lets +onlyGivenNames (merge := false) u1; suffices h1 : Changes 1598336 s u1; clear_value u1)
  (extract_lets +onlyGivenNames (merge := false) u2; suffices h2 : Changes 1598336 s u2; clear_value u2)
  refine .seq logEv_changes ?_ (by decide)
  refine .seq gcRefresh_changes ?_ (by decide)
  assumption
  dsimp -zeta only [u2]
  refine .seq updMedia_changes ?_ (by decide)
  assumption
  dsimp -zeta only [u1]
  refine .foldl (fun u3 a3 h3 => ?_) ?_
  refine .seq wipeShelter_changes ?_ (by decide)
  assumption
  assumption
  dsimp -zeta only [u0]
  refine .seq syncLog_changes ?_ (by decide)
  refine .seq stageLog_changes ?_ (by decide)
  refine .seq syncLog_changes ?_ (by decide)
  exact .refl

theorem replayLog_changes {s : State} {img : FlushImage} : Changes 1598336 s (replayLog s img) := by
  unfold replayLog
  refine .ite ?_ ?_
  exact .refl
  refine .seq programEntries_changes ?_ (by decide)
  exact .refl

theorem replayData_changes {s : State} {img : FlushImage} : Changes 1598336 s (replayData s img) := by
  unfold replayData
  refine .seq endReplay_changes ?_ (by decide)
  refine .foldl (fun u0 a0 h0 => ?_) ?_
  refine .seq completeProg_changes ?_ (by decide)
  assumption
  exact .refl

theorem haltFlush_changes {s : State} : Changes 1600384 s (haltFlush s) := by
  unfold haltFlush
  (extract_lets +onlyGivenNames (merge := false) u0; suffices h0 : Changes 1600384 s u0; clear_value u0)
  (extract_lets +onlyGivenNames (merge := false) w1; clear_value w1)
  (extract_lets +onlyGivenNames (merge := false) u2; suffices h2 : Changes 1600384 s u2; clear_value u2)
  (extract_lets +onlyGivenNames (merge := false) u3; suffices h3 : Changes 1600384 s u3; clear_value u3)
  refine .seq settleDirty_changes ?_ (by decide)
  assumption
  dsimp -zeta only [u3]
  refine .seq syncLog_changes ?_ (by decide)
  refine .foldl (fun u4 a4 h4 => ?_) ?_
  refine .seq completeProg_changes ?_ (by decide)
  assumption
  assumption
  dsimp -zeta only [u2]
  refine .seq updMedia_changes ?_ (by decide)
  assumption
  dsimp -zeta only [u0]
  refine .foldl (fun u5 a5 h5 => ?_) ?_
  refine .seq issuePack_changes ?_ (by decide)
  assumption
  exact .refl

/-! ### Machine/TestOps.lean -/

theorem setIsl_changes {s : State} {i : Island} {st : IslState} : Changes 16 s (setIsl s i st) := by
  unfold setIsl
  refine .seq updIslRec_changes ?_ (by decide)
  exact .refl

theorem setIsls_changes {s : State} {l : List Island} {st : IslState} : Changes 16 s (setIsls s l st) := by
  unfold setIsls
  refine .foldl (fun u0 a0 h0 => ?_) ?_
  refine .seq setIsl_changes ?_ (by decide)
  assumption
  exact .refl

theorem countFault_changes {s : State} {i : Island} {c : FaultCause} : Changes 16 s (countFault s i c) := by
  unfold countFault
  refine .seq updIslRec_changes ?_ (by decide)
  exact .refl

theorem openRun_changes {s : State} {c : RunCause} : Changes 262144 s (openRun s c) := by
  unfold openRun
  refine .seq (updLife_changes ?_) ?_ (by decide)
  exact ⟨Nat.le_refl _, id⟩
  exact .refl

theorem updRun_changes {s : State} {f : TestRun → TestRun} : Changes 262144 s (updRun s f) := by
  unfold updRun
  refine .seq (updLife_changes ?_) ?_ (by decide)
  exact ⟨Nat.le_refl _, id⟩
  exact .refl

theorem addTestRec_changes {s : State} {o : TestOutcome} : Changes 262144 s (addTestRec s o) := by
  unfold addTestRec
  refine .seq updRun_changes ?_ (by decide)
  exact .refl

theorem closeRun_changes {s : State} {o : RunOutcome} : Changes 262144 s (closeRun s o) := by
  unfold closeRun
  refine .seq updRun_changes ?_ (by decide)
  exact .refl

theorem restOff_changes {s : State} {keep : List Island} : Changes 16 s (restOff s keep) := by
  unfold restOff
  refine .seq setIsls_changes ?_ (by decide)
  exact .refl

theorem enterDormant_changes {s : State} : Changes 71065 s (enterDormant s) := by
  unfold enterDormant
  (extract_lets +onlyGivenNames (merge := false) w0; clear_value w0)
  (extract_lets +onlyGivenNames (merge := false) w1; clear_value w1)
  (extract_lets +onlyGivenNames (merge := false) u2; suffices h2 : Changes 71065 s u2; clear_value u2)
  (extract_lets +onlyGivenNames (merge := false) u3; suffices h3 : Changes 71065 s u3; clear_value u3)
  refine .seq setPhase_changes ?_ (by decide)
  assumption
  dsimp -zeta only [u3]
  refine .foldl (fun u4 a4 h4 => ?_) ?_
  refine .seq updPort_changes ?_ (by decide)
  assumption
  assumption
  dsimp -zeta only [u2]
  refine .seq restOff_changes ?_ (by decide)
  refine .seq cutOff_changes ?_ (by decide)
  exact .refl

theorem finishHalt_changes {s : State} {r : HaltReason} : Changes 71135 s (finishHalt s r) := by
  unfold finishHalt
  (extract_lets +onlyGivenNames (merge := false) u0; suffices h0 : Changes 71135 s u0; clear_value u0)
  split
  refine .seq setPhase_changes ?_ (by decide)
  refine .seq restOff_changes ?_ (by decide)
  assumption
  refine .seq setPhase_changes ?_ (by decide)
  refine .seq restOff_changes ?_ (by decide)
  assumption
  refine .seq restartNow_changes ?_ (by decide)
  assumption
  refine .seq restartNow_changes ?_ (by decide)
  assumption
  refine .seq enterDormant_changes ?_ (by decide)
  assumption
  dsimp -zeta only [u0]
  refine .seq writeRtc_changes ?_ (by decide)
  refine .seq checkpoint_changes ?_ (by decide)
  exact .refl

theorem logSetEnd_changes {s : State} {o : RunOutcome} : Changes 1590144 s (logSetEnd s o) := by
  unfold logSetEnd
  split
  rename_i _ _ _ e0
  refine .seq logEv_changes ?_ (by decide)
  exact .refl
  rename_i _ e1
  exact .refl

theorem endSet_changes {s : State} : Changes 1923039 s (endSet s) := by
  unfold endSet
  split
  rename_i _ _ _ _ _ e0 e1
  (extract_lets +onlyGivenNames (merge := false) w2; clear_value w2)
  (extract_lets +onlyGivenNames (merge := false) u3; suffices h3 : Changes 1923039 s u3; clear_value u3)
  (extract_lets +onlyGivenNames (merge := false) u4; suffices h4 : Changes 1923039 s u4; clear_value u4)
  refine .seq finishHalt_changes ?_ (by decide)
  refine .seq logSetEnd_changes ?_ (by decide)
  assumption
  dsimp -zeta only [u4]
  refine .seq (updLife_changes ?_) ?_ (by decide)
  exact ⟨Nat.le_refl _, id⟩
  assumption
  dsimp -zeta only [u3]
  refine .seq closeRun_changes ?_ (by decide)
  exact .refl
  exact .refl

theorem nextTest_changes {y0 : List Island} {y1 : State} : Changes 1923039 y1 (nextTest y0 y1) := by
  induction y0 generalizing y1
  dsimp -zeta only [nextTest]
  refine .seq endSet_changes ?_ (by decide)
  refine .seq (updLife_changes ?_) ?_ (by decide)
  exact ⟨Nat.le_refl _, id⟩
  exact .refl
  rename_i a as ih
  dsimp -zeta only [nextTest]
  (extract_lets +onlyGivenNames (merge := false) w0; clear_value w0)
  refine .ite ?_ ?_
  refine .seq ih ?_ (by decide)
  refine .seq addTestRec_changes ?_ (by decide)
  exact .refl
  refine .ite ?_ ?_
  refine .seq ih ?_ (by decide)
  refine .seq addTestRec_changes ?_ (by decide)
  exact .refl
  refine .ite ?_ ?_
  refine .seq ih ?_ (by decide)
  refine .seq addTestRec_changes ?_ (by decide)
  exact .refl
  refine .seq (updLife_changes ?_) ?_ (by decide)
  exact ⟨Nat.le_refl _, id⟩
  refine .seq setIsl_changes ?_ (by decide)
  exact .refl

theorem startSet_changes {s : State} {h : HaltReason} : Changes 1923039 s (startSet s h) := by
  unfold startSet
  (extract_lets +onlyGivenNames (merge := false) u0; suffices h0 : Changes 1923039 s u0; clear_value u0)
  (extract_lets +onlyGivenNames (merge := false) u1; suffices h1 : Changes 1923039 s u1; clear_value u1)
  extract_lets +onlyGivenNames (merge := false) w2
  refine .seq nextTest_changes ?_ (by decide)
  refine .seq logEv_changes ?_ (by decide)
  assumption
  dsimp -zeta only [u1]
  refine .seq setPhase_changes ?_ (by decide)
  assumption
  dsimp -zeta only [u0]
  refine .seq (updLife_changes ?_) ?_ (by decide)
  exact ⟨Nat.le_refl _, id⟩
  refine .seq openRun_changes ?_ (by decide)
  exact .refl

theorem endCmd_changes {s : State} {c : TestCmd} {o : TestOutcome} {outcome : RunOutcome} : Changes 1923021 s (endCmd s c o outcome) := by
  unfold endCmd
  extract_lets +onlyGivenNames (merge := false) w0
  (extract_lets +onlyGivenNames (merge := false) u1; suffices h1 : Changes 1923021 s u1; clear_value u1)
  (extract_lets +onlyGivenNames (merge := false) u2; suffices h2 : Changes 1923021 s u2; clear_value u2)
  refine .seq answerSlot_changes ?_ (by decide)
  assumption
  dsimp -zeta only [u2]
  refine .seq (updLife_changes ?_) ?_ (by decide)
  exact ⟨Nat.le_refl _, id⟩
  assumption
  dsimp -zeta only [u1]
  refine .seq closeRun_changes ?_ (by decide)
  refine .seq addTestRec_changes ?_ (by decide)
  exact .refl

theorem leaveTest_changes {s : State} {i : Island} {st : IslState} : Changes 272 s (leaveTest s i st) := by
  unfold leaveTest
  (extract_lets +onlyGivenNames (merge := false) u0; suffices h0 : Changes 272 s u0; clear_value u0)
  split
  refine .ite ?_ ?_
  refine .seq train_changes ?_ (by decide)
  assumption
  assumption
  refine .ite ?_ ?_
  refine .seq train_changes ?_ (by decide)
  assumption
  assumption
  assumption
  dsimp -zeta only [u0]
  refine .seq setIsl_changes ?_ (by decide)
  exact .refl

theorem stopRun_changes {s : State} {o : RunOutcome} : Changes 262144 s (stopRun s o) := by
  unfold stopRun
  refine .ite ?_ ?_
  (extract_lets +onlyGivenNames (merge := false) u0; suffices h0 : Changes 262144 s u0; clear_value u0)
  refine .seq (updLife_changes ?_) ?_ (by decide)
  exact ⟨Nat.le_refl _, id⟩
  refine .seq closeRun_changes ?_ (by decide)
  assumption
  dsimp -zeta only [u0]
  split
  rename_i _ _ e1
  refine .seq addTestRec_changes ?_ (by decide)
  exact .refl
  rename_i _ e2
  exact .refl
  exact .refl

theorem noteRunDeath_changes {s : State} {i : Island} : Changes 1923039 s (noteRunDeath s i) := by
  unfold noteRunDeath
  refine .ite ?_ ?_
  (extract_lets +onlyGivenNames (merge := false) w0; clear_value w0)
  split
  rename_i _ _ e1
  refine .seq endCmd_changes ?_ (by decide)
  exact .refl
  rename_i _ e2
  refine .seq nextTest_changes ?_ (by decide)
  refine .seq (updLife_changes ?_) ?_ (by decide)
  exact ⟨Nat.le_refl _, id⟩
  refine .seq addTestRec_changes ?_ (by decide)
  exact .refl
  exact .refl

/-! ### Machine/IslOps.lean -/

theorem beginFlush_changes {s : State} {c : FlushCause} : Changes 1671133 s (beginFlush s c) := by
  unfold beginFlush
  (extract_lets +onlyGivenNames (merge := false) w0; clear_value w0)
  (extract_lets +onlyGivenNames (merge := false) u1; suffices h1 : Changes 1671133 s u1; clear_value u1)
  (extract_lets +onlyGivenNames (merge := false) u2; suffices h2 : Changes 1671133 s u2; clear_value u2)
  (extract_lets +onlyGivenNames (merge := false) u3; suffices h3 : Changes 1671133 s u3; clear_value u3)
  (extract_lets +onlyGivenNames (merge := false) u4; suffices h4 : Changes 1671133 s u4; clear_value u4)
  (extract_lets +onlyGivenNames (merge := false) u5; suffices h5 : Changes 1671133 s u5; clear_value u5)
  refine .seq setPhase_changes ?_ (by decide)
  assumption
  dsimp -zeta only [u5]
  refine .seq setIsls_changes ?_ (by decide)
  assumption
  dsimp -zeta only [u4]
  refine .seq cutOff_changes ?_ (by decide)
  assumption
  dsimp -zeta only [u3]
  refine .seq updPower_changes ?_ (by decide)
  assumption
  dsimp -zeta only [u2]
  refine .seq updBay_changes ?_ (by decide)
  assumption
  dsimp -zeta only [u1]
  refine .seq (updBoot_changes ?_) ?_ (by decide)
  exact id
  refine .seq dropOps_changes ?_ (by decide)
  refine .seq saveFlush_changes ?_ (by decide)
  exact .refl

theorem trialAttemptFails_changes {s : State} : Changes 131072 s (trialAttemptFails s) := by
  unfold trialAttemptFails
  split
  rename_i _ _ e0
  refine .ite ?_ ?_
  refine .seq (updFw_changes ?_) ?_ (by decide)
  exact fun _ h => h
  exact .refl
  exact .refl
  rename_i _ e1
  exact .refl

theorem essentialFault_changes {s : State} {i : Island} {c : FaultCause} : Changes 1802205 s (essentialFault s i c) := by
  unfold essentialFault
  (extract_lets +onlyGivenNames (merge := false) u0; suffices h0 : Changes 1802205 s u0; clear_value u0)
  refine .seq beginFlush_changes ?_ (by decide)
  refine .ite ?_ ?_
  refine .seq trialAttemptFails_changes ?_ (by decide)
  assumption
  assumption
  dsimp -zeta only [u0]
  refine .seq logEv_changes ?_ (by decide)
  exact .refl

theorem gateFault_changes {s : State} {c : FaultCause} : Changes 1802205 s (gateFault s c) := by
  unfold gateFault
  (extract_lets +onlyGivenNames (merge := false) u0; suffices h0 : Changes 1802205 s u0; clear_value u0)
  (extract_lets +onlyGivenNames (merge := false) w1; clear_value w1)
  (extract_lets +onlyGivenNames (merge := false) u2; suffices h2 : Changes 1802205 s u2; clear_value u2)
  refine .ite ?_ ?_
  refine .seq essentialFault_changes ?_ (by decide)
  assumption
  refine .seq updIsl_changes ?_ (by decide)
  assumption
  dsimp -zeta only [u2]
  refine .seq updIsl_changes ?_ (by decide)
  assumption
  dsimp -zeta only [u0]
  refine .seq logEv_changes ?_ (by decide)
  refine .seq countFault_changes ?_ (by decide)
  exact .refl

theorem degradeSteps_changes {s : State} : Changes 64 s (degradeSteps s) := by
  unfold degradeSteps
  refine .ite ?_ ?_
  refine .seq (updBoot_changes ?_) ?_ (by decide)
  exact id
  exact .refl
  exact .refl

theorem markUnusable_changes {s : State} {i : Island} : Changes 1590160 s (markUnusable s i) := by
  unfold markUnusable
  refine .ite ?_ ?_
  exact .refl
  refine .seq logEv_changes ?_ (by decide)
  refine .seq updIslRec_changes ?_ (by decide)
  exact .refl

theorem schedDies_changes {s : State} : Changes 4096 s (schedDies s) := by
  unfold schedDies
  refine .seq (updStalls_changes ?_) ?_ (by decide)
  exact Nat.le_refl _
  exact .refl

theorem islandCost_changes {s : State} {i : Island} : Changes 1703816 s (islandCost s i) := by
  unfold islandCost
  split
  refine .seq loseChannel_changes ?_ (by decide)
  exact .refl
  refine .seq arcDies_changes ?_ (by decide)
  exact .refl
  (extract_lets +onlyGivenNames (merge := false) w0; clear_value w0)
  refine .seq rebudget_changes ?_ (by decide)
  refine .seq renegotiated_changes ?_ (by decide)
  refine .ite ?_ ?_
  refine .seq linkLoss_changes ?_ (by decide)
  exact .refl
  exact .refl
  (extract_lets +onlyGivenNames (merge := false) w1; clear_value w1)
  refine .seq rebudget_changes ?_ (by decide)
  refine .seq renegotiated_changes ?_ (by decide)
  refine .ite ?_ ?_
  refine .seq linkLoss_changes ?_ (by decide)
  exact .refl
  exact .refl
  refine .seq resetWhere_changes ?_ (by decide)
  exact .refl
  refine .seq schedDies_changes ?_ (by decide)
  exact .refl
  exact .refl

theorem deadIsland_changes {s : State} {i : Island} {c : FaultCause} : Changes 1966047 s (deadIsland s i c) := by
  unfold deadIsland
  refine .ite ?_ ?_
  exact .refl
  (extract_lets +onlyGivenNames (merge := false) u0; suffices h0 : Changes 1966047 s u0; clear_value u0)
  (extract_lets +onlyGivenNames (merge := false) u1; suffices h1 : Changes 1966047 s u1; clear_value u1)
  (extract_lets +onlyGivenNames (merge := false) w2; clear_value w2)
  (extract_lets +onlyGivenNames (merge := false) u3; suffices h3 : Changes 1966047 s u3; clear_value u3)
  (extract_lets +onlyGivenNames (merge := false) u4; suffices h4 : Changes 1966047 s u4; clear_value u4)
  (extract_lets +onlyGivenNames (merge := false) u5; suffices h5 : Changes 1966047 s u5; clear_value u5)
  refine .ite ?_ ?_
  assumption
  refine .seq noteRunDeath_changes ?_ (by decide)
  assumption
  dsimp -zeta only [u5]
  refine .seq islandCost_changes ?_ (by decide)
  assumption
  dsimp -zeta only [u4]
  refine .ite ?_ ?_
  refine .seq markUnusable_changes ?_ (by decide)
  assumption
  assumption
  dsimp -zeta only [u3]
  refine .seq (updLife_changes ?_) ?_ (by decide)
  exact ⟨Nat.le_refl _, id⟩
  assumption
  dsimp -zeta only [u1]
  refine .seq degradeSteps_changes ?_ (by decide)
  refine .seq logEv_changes ?_ (by decide)
  assumption
  dsimp -zeta only [u0]
  refine .seq updIslRec_changes ?_ (by decide)
  exact .refl

theorem islandFaulted_changes {s : State} {i : Island} {c : FaultCause} : Changes 2097119 s (islandFaulted s i c) := by
  unfold islandFaulted
  refine .ite ?_ ?_
  refine .seq gateFault_changes ?_ (by decide)
  exact .refl
  (extract_lets +onlyGivenNames (merge := false) u0; suffices h0 : Changes 2097119 s u0; clear_value u0)
  refine .ite ?_ ?_
  refine .seq essentialFault_changes ?_ (by decide)
  refine .seq countFault_changes ?_ (by decide)
  assumption
  refine .seq deadIsland_changes ?_ (by decide)
  assumption
  dsimp -zeta only [u0]
  refine .seq logEv_changes ?_ (by decide)
  exact .refl

/-! ### Machine/LifeOps.lean -/

theorem burnSeed_changes {s : State} {t : LifeState} : Changes 2359296 s (burnSeed s t) := by
  unfold burnSeed
  refine .ite ?_ ?_
  split
  rename_i _ _ u0 e1
  refine .seq (updLife_changes ?_) ?_ (by decide)
  exact ⟨Nat.le_refl _, id⟩
  refine Changes.snd ?_ e1
  refine .seq freshBytes_changes ?_ (by decide)
  exact .refl
  exact .refl

theorem burnIntent_changes {s : State} {t : LifeState} {ok : Bool} : Changes 3949440 s (burnIntent s t ok) := by
  unfold burnIntent
  refine .ite ?_ ?_
  refine .seq (updLife_changes ?_) ?_ (by decide)
  exact ⟨by dsimp only; split <;> omega, fun hr => by dsimp only; rw [hr]; rfl⟩
  refine .seq burnSeed_changes ?_ (by decide)
  exact .refl
  refine .seq logEv_changes ?_ (by decide)
  exact .refl

theorem clearSet_changes {s : State} : Changes 196768 s (clearSet s) := by
  unfold clearSet
  (extract_lets +onlyGivenNames (merge := false) u0; suffices h0 : Changes 196768 s u0; clear_value u0)
  (extract_lets +onlyGivenNames (merge := false) u1; suffices h1 : Changes 196768 s u1; clear_value u1)
  extract_lets +onlyGivenNames (merge := false) w2
  (extract_lets +onlyGivenNames (merge := false) u3; suffices h3 : Changes 196768 s u3; clear_value u3)
  (extract_lets +onlyGivenNames (merge := false) u4; suffices h4 : Changes 196768 s u4; clear_value u4)
  refine .seq (updFw_changes ?_) ?_ (by decide)
  exact fun _ h => h
  assumption
  dsimp -zeta only [u4]
  refine .foldl (fun u5 a5 h5 => ?_) ?_
  refine .seq cfgStore_changes ?_ (by decide)
  refine .seq cfgStore_changes ?_ (by decide)
  refine .seq cfgStore_changes ?_ (by decide)
  assumption
  assumption
  dsimp -zeta only [u3]
  dsimp -zeta only [w2]
  split
  rename_i _ _ e6
  refine .seq cfgStore_changes ?_ (by decide)
  split
  rename_i _ _ _ _ e7
  refine .seq cfgStore_changes ?_ (by decide)
  assumption
  rename_i _ _ _ e8
  assumption
  rename_i _ e9
  split
  rename_i _ _ _ e10
  refine .seq cfgStore_changes ?_ (by decide)
  assumption
  rename_i _ _ e11
  assumption
  dsimp -zeta only [u1]
  refine .seq (updRow_changes ?_) ?_ (by decide)
  exact Nat.le_refl _
  assumption
  dsimp -zeta only [u0]
  refine .seq updCon_changes ?_ (by decide)
  exact .refl

theorem applyIntent_changes {s : State} : Changes 2048928 s (applyIntent s) := by
  unfold applyIntent
  split
  rename_i _ e0
  exact .refl
  rename_i _ _ e1
  refine .ite ?_ ?_
  (extract_lets +onlyGivenNames (merge := false) w2; clear_value w2)
  (extract_lets +onlyGivenNames (merge := false) u3; suffices h3 : Changes 2048928 s u3; clear_value u3)
  (extract_lets +onlyGivenNames (merge := false) u4; suffices h4 : Changes 2048928 s u4; clear_value u4)
  refine .seq logEv_changes ?_ (by decide)
  assumption
  dsimp -zeta only [u4]
  refine .seq (updLife_changes ?_) ?_ (by decide)
  exact ⟨Nat.le_refl _, id⟩
  assumption
  dsimp -zeta only [u3]
  refine .ite ?_ ?_
  refine .seq clearSet_changes ?_ (by decide)
  exact .refl
  exact .refl
  refine .seq logEv_changes ?_ (by decide)
  refine .seq (updLife_changes ?_) ?_ (by decide)
  exact ⟨Nat.le_refl _, id⟩
  exact .refl

/-! ### Machine/Islands.lean -/

theorem execIslandFault_changes {i : Island} {cause : FaultCause} {freqDev : Int} {voltDev : Int} {s : State} : NextChanges 2097119 s (execIslandFault i cause freqDev voltDev s) := by
  unfold execIslandFault
  (extract_lets +onlyGivenNames (merge := false) w0; clear_value w0)
  refine .next ?_
  refine .ite ?_ ?_
  refine .seq islandFaulted_changes ?_ (by decide)
  refine .seq updIslRec_changes ?_ (by decide)
  exact .refl
  exact .refl

theorem execReferenceClockLoss_changes {s : State} : NextChanges 1802205 s (execReferenceClockLoss s) := by
  unfold execReferenceClockLoss
  refine .next ?_
  refine .ite ?_ ?_
  refine .seq essentialFault_changes ?_ (by decide)
  refine .seq countFault_changes ?_ (by decide)
  exact .refl
  exact .refl

theorem itemAbsent_changes {s : State} {silent : Island} {item : Option Nat} : Changes 1703808 s (itemAbsent s silent item) := by
  unfold itemAbsent
  split
  rename_i _ _ _ e0
  refine .ite ?_ ?_
  refine .seq settle_changes ?_ (by decide)
  refine .seq answerOp_changes ?_ (by decide)
  refine .seq freeLocks_changes ?_ (by decide)
  refine .seq undoEntries_changes ?_ (by decide)
  refine .seq dropCmds_changes ?_ (by decide)
  exact .refl
  exact .refl
  rename_i _ e1
  exact .refl

theorem execHandshakeTimeout_changes {silent : Island} {requester : Requester} {s : State} : NextChanges 2097119 s (execHandshakeTimeout silent requester s) := by
  unfold execHandshakeTimeout
  refine .next ?_
  refine .ite ?_ ?_
  (extract_lets +onlyGivenNames (merge := false) u0; suffices h0 : Changes 2097119 s u0; clear_value u0)
  (extract_lets +onlyGivenNames (merge := false) u1; suffices h1 : Changes 2097119 s u1; clear_value u1)
  (extract_lets +onlyGivenNames (merge := false) w2; clear_value w2)
  refine .ite ?_ ?_
  refine .seq islandFaulted_changes ?_ (by decide)
  refine .seq updIslRec_changes ?_ (by decide)
  assumption
  refine .seq updIslRec_changes ?_ (by decide)
  assumption
  dsimp -zeta only [u1]
  refine .seq logEv_changes ?_ (by decide)
  assumption
  dsimp -zeta only [u0]
  refine .seq itemAbsent_changes ?_ (by decide)
  exact .refl
  exact .refl

theorem noteWatchdog_changes {s : State} : Changes 131072 s (noteWatchdog s) := by
  unfold noteWatchdog
  refine .seq (updFw_changes ?_) ?_ (by decide)
  exact fun _ h => h
  exact .refl

theorem execWatchdogExpiry_changes {i : Island} {s : State} : NextChanges 2097119 s (execWatchdogExpiry i s) := by
  unfold execWatchdogExpiry
  refine .next ?_
  refine .ite ?_ ?_
  (extract_lets +onlyGivenNames (merge := false) u0; suffices h0 : Changes 2097119 s u0; clear_value u0)
  refine .ite ?_ ?_
  refine .seq gateFault_changes ?_ (by decide)
  assumption
  refine .ite ?_ ?_
  refine .seq essentialFault_changes ?_ (by decide)
  refine .seq countFault_changes ?_ (by decide)
  assumption
  refine .seq deadIsland_changes ?_ (by decide)
  assumption
  dsimp -zeta only [u0]
  refine .seq noteWatchdog_changes ?_ (by decide)
  exact .refl
  exact .refl

theorem execGatehouseWatchdog_changes {s : State} : NextChanges 1802205 s (execGatehouseWatchdog s) := by
  unfold execGatehouseWatchdog
  refine .next ?_
  refine .ite ?_ ?_
  refine .seq gateFault_changes ?_ (by decide)
  refine .seq noteWatchdog_changes ?_ (by decide)
  exact .refl
  exact .refl

theorem execGatehouseReset_changes {s : State} : NextChanges 1721232 s (execGatehouseReset s) := by
  unfold execGatehouseReset
  refine .next ?_
  split
  rename_i _ e0
  exact .refl
  rename_i _ _ e1
  refine .seq logEv_changes ?_ (by decide)
  refine .seq noteWatchdog_changes ?_ (by decide)
  refine .seq updIsl_changes ?_ (by decide)
  exact .refl

theorem execGatehouseResetTimeout_changes {s : State} : NextChanges 1802207 s (execGatehouseResetTimeout s) := by
  unfold execGatehouseResetTimeout
  refine .next ?_
  split
  rename_i _ e0
  exact .refl
  rename_i _ _ _ e1
  refine .seq essentialFault_changes ?_ (by decide)
  refine .seq updIsl_changes ?_ (by decide)
  refine .seq advanceTo_changes ?_ (by decide)
  exact .refl

theorem execIslandGate_changes {i : Island} {s : State} : NextChanges 16 s (execIslandGate i s) := by
  unfold execIslandGate
  refine .next ?_
  refine .ite ?_ ?_
  refine .seq setIsl_changes ?_ (by decide)
  exact .refl
  exact .refl

theorem execIslandWake_changes {i : Island} {s : State} : NextChanges 16 s (execIslandWake i s) := by
  unfold execIslandWake
  refine .next ?_
  refine .ite ?_ ?_
  refine .seq setIsl_changes ?_ (by decide)
  exact .refl
  exact .refl

theorem execDramCorrected_changes {n : Nat} {s : State} : NextChanges 16 s (execDramCorrected n s) := by
  unfold execDramCorrected
  refine .next ?_
  refine .ite ?_ ?_
  refine .seq updIsl_changes ?_ (by decide)
  exact .refl
  exact .refl

theorem loseBuffered_changes {s : State} {k : ObjKey} : Changes 1592192 s (loseBuffered s k) := by
  unfold loseBuffered
  refine .ite ?_ ?_
  refine .seq logEv_changes ?_ (by decide)
  refine .seq (updKv_changes ?_) ?_ (by decide)
  exact ⟨Nat.le_refl _, Nat.le_refl _, Nat.le_refl _, Nat.le_refl _, Nat.le_refl _⟩
  exact .refl
  exact .refl

theorem execDramUncorrectable_changes {region : DramRegion} {keys : List ObjKey} {s : State} : NextChanges 1802205 s (execDramUncorrectable region keys s) := by
  unfold execDramUncorrectable
  refine .next ?_
  refine .ite ?_ ?_
  split
  refine .ite ?_ ?_
  refine .foldl (fun u0 a0 h0 => ?_) ?_
  refine .seq loseBuffered_changes ?_ (by decide)
  assumption
  exact .refl
  refine .seq logEv_changes ?_ (by decide)
  exact .refl
  (extract_lets +onlyGivenNames (merge := false) u1; suffices h1 : Changes 1802205 s u1; clear_value u1)
  refine .seq essentialFault_changes ?_ (by decide)
  refine .seq countFault_changes ?_ (by decide)
  assumption
  dsimp -zeta only [u1]
  refine .seq logEv_changes ?_ (by decide)
  exact .refl
  refine .seq logEv_changes ?_ (by decide)
  exact .refl
  (extract_lets +onlyGivenNames (merge := false) u2; suffices h2 : Changes 1802205 s u2; clear_value u2)
  refine .seq updIsl_changes ?_ (by decide)
  assumption
  dsimp -zeta only [u2]
  refine .seq logEv_changes ?_ (by decide)
  exact .refl
  exact .refl

theorem execDramScrub_changes {s : State} : NextChanges 16 s (execDramScrub s) := by
  unfold execDramScrub
  refine .next ?_
  refine .ite ?_ ?_
  refine .seq updIsl_changes ?_ (by decide)
  exact .refl
  exact .refl

theorem execDramRebuildDone_changes {region : DramRegion} {s : State} : NextChanges 16 s (execDramRebuildDone region s) := by
  unfold execDramRebuildDone
  refine .next ?_
  refine .seq updIsl_changes ?_ (by decide)
  exact .refl

theorem execIslandShow_changes {l : Line} {id : Option Nat} {s : State} : NextChanges 1594240 s (execIslandShow l id s) := by
  unfold execIslandShow
  refine .next ?_
  refine .seq showCmd_changes ?_ (by decide)
  exact .refl

/-! ### Machine/Life.lean -/

theorem noteReadings_changes {s : State} {r : TestOutcome} : Changes 16 s (noteReadings s r) := by
  unfold noteReadings
  refine .seq updIslRec_changes ?_ (by decide)
  exact .refl

theorem setIslandDone_changes {s : State} {r : TestOutcome} : Changes 1966047 s (setIslandDone s r) := by
  unfold setIslandDone
  (extract_lets +onlyGivenNames (merge := false) u0; suffices h0 : Changes 1966047 s u0; clear_value u0)
  (extract_lets +onlyGivenNames (merge := false) u1; suffices h1 : Changes 1966047 s u1; clear_value u1)
  refine .seq nextTest_changes ?_ (by decide)
  assumption
  dsimp -zeta only [u1]
  refine .ite ?_ ?_
  refine .seq deadIsland_changes ?_ (by decide)
  assumption
  refine .seq setIsl_changes ?_ (by decide)
  assumption
  dsimp -zeta only [u0]
  refine .seq (updLife_changes ?_) ?_ (by decide)
  exact ⟨Nat.le_refl _, id⟩
  refine .seq addTestRec_changes ?_ (by decide)
  exact .refl

theorem cmdPassDone_changes {s : State} {c : TestCmd} {r : TestOutcome} : Changes 1966047 s (cmdPassDone s c r) := by
  unfold cmdPassDone
  refine .ite ?_ ?_
  refine .seq (updLife_changes ?_) ?_ (by decide)
  exact ⟨Nat.le_refl _, id⟩
  exact .refl
  (extract_lets +onlyGivenNames (merge := false) w0; clear_value w0)
  (extract_lets +onlyGivenNames (merge := false) u1; suffices h1 : Changes 1966047 s u1; clear_value u1)
  refine .seq endCmd_changes ?_ (by decide)
  assumption
  dsimp -zeta only [u1]
  refine .ite ?_ ?_
  refine .seq deadIsland_changes ?_ (by decide)
  exact .refl
  refine .seq leaveTest_changes ?_ (by decide)
  exact .refl

theorem testEnds_changes {s : State} {r : TestOutcome} : Changes 1966047 s (testEnds s r) := by
  unfold testEnds
  (extract_lets +onlyGivenNames (merge := false) u0; suffices h0 : Changes 1966047 s u0; clear_value u0)
  split
  rename_i _ _ e1
  refine .seq cmdPassDone_changes ?_ (by decide)
  assumption
  rename_i _ e2
  refine .seq setIslandDone_changes ?_ (by decide)
  assumption
  dsimp -zeta only [u0]
  refine .seq noteReadings_changes ?_ (by decide)
  refine .seq advanceTo_changes ?_ (by decide)
  exact .refl

theorem execSelftestIslandDone_changes {r : TestOutcome} {s : State} : NextChanges 1966047 s (execSelftestIslandDone r s) := by
  unfold execSelftestIslandDone
  refine .next ?_
  refine .ite ?_ ?_
  split
  rename_i _ e0
  refine .seq testEnds_changes ?_ (by decide)
  exact .refl
  rename_i _ e1
  (extract_lets +onlyGivenNames (merge := false) w2; clear_value w2)
  refine .ite ?_ ?_
  refine .seq testEnds_changes ?_ (by decide)
  exact .refl
  exact .refl
  exact .refl
  exact .refl

theorem execSelftestLimitLeft_changes {r : TestOutcome} {s : State} : NextChanges 1966047 s (execSelftestLimitLeft r s) := by
  unfold execSelftestLimitLeft
  (extract_lets +onlyGivenNames (merge := false) w0; clear_value w0)
  refine .next ?_
  refine .ite ?_ ?_
  refine .seq testEnds_changes ?_ (by decide)
  exact .refl
  exact .refl

theorem beginCmd_changes {s : State} {i : Island} {parts : List TestPart} {loops : Nat} {slot : SessId × Nat} : Changes 1965976 s (beginCmd s i parts loops slot) := by
  unfold beginCmd
  (extract_lets +onlyGivenNames (merge := false) w0; clear_value w0)
  (extract_lets +onlyGivenNames (merge := false) u1; suffices h1 : Changes 1965976 s u1; clear_value u1)
  (extract_lets +onlyGivenNames (merge := false) u2; suffices h2 : Changes 1965976 s u2; clear_value u2)
  (extract_lets +onlyGivenNames (merge := false) u3; suffices h3 : Changes 1965976 s u3; clear_value u3)
  split
  assumption
  refine .seq islandCost_changes ?_ (by decide)
  assumption
  dsimp -zeta only [u3]
  refine .seq (updLife_changes ?_) ?_ (by decide)
  exact ⟨Nat.le_refl _, id⟩
  assumption
  dsimp -zeta only [u2]
  refine .seq setIsl_changes ?_ (by decide)
  assumption
  dsimp -zeta only [u1]
  refine .ite ?_ ?_
  refine .foldl (fun u4 a4 h4 => ?_) ?_
  refine .seq padStripe_changes ?_ (by decide)
  assumption
  exact .refl
  exact .refl

theorem execTestRun_changes {l : Line} {island : Nat} {parts : List TestPart} {loop : Int} {s : State} : NextChanges 1965976 s (execTestRun l island parts loop s) := by
  unfold execTestRun
  refine .next ?_
  refine runCmd_changes (fun u0 n0 h0 => ?_) (by decide)
  (extract_lets +onlyGivenNames (merge := false) w1; clear_value w1)
  split
  rename_i _ _ e2
  refine .say0 ?_
  assumption
  rename_i _ e3
  refine .ite ?_ ?_
  refine .say0 ?_
  assumption
  (extract_lets +onlyGivenNames (merge := false) u4; suffices h4 : Changes 1965976 s u4; clear_value u4)
  refine .ite ?_ ?_
  refine .wait ?_
  refine .seq beginCmd_changes ?_ (by decide)
  assumption
  refine .say0 ?_
  refine .seq closeRun_changes ?_ (by decide)
  refine .seq addTestRec_changes ?_ (by decide)
  assumption
  dsimp -zeta only [u4]
  refine .seq openRun_changes ?_ (by decide)
  assumption

theorem execIslandRevive_changes {l : Line} {id : Nat} {s : State} : NextChanges 1856400 s (execIslandRevive l id s) := by
  unfold execIslandRevive
  refine .next ?_
  refine runCmd_changes (fun u0 n0 h0 => ?_) (by decide)
  (extract_lets +onlyGivenNames (merge := false) w1; clear_value w1)
  refine .ite ?_ ?_
  refine .say0 ?_
  assumption
  (extract_lets +onlyGivenNames (merge := false) u2; suffices h2 : Changes 1856400 s u2; clear_value u2)
  (extract_lets +onlyGivenNames (merge := false) u3; suffices h3 : Changes 1856400 s u3; clear_value u3)
  refine .say0 ?_
  refine .seq logEv_changes ?_ (by decide)
  assumption
  dsimp -zeta only [u3]
  refine .seq (updLife_changes ?_) ?_ (by decide)
  exact ⟨Nat.le_refl _, fun h => h⟩
  assumption
  dsimp -zeta only [u2]
  refine .seq updIslRec_changes ?_ (by decide)
  assumption

theorem execLifecycleShow_changes {l : Line} {s : State} : NextChanges 1594240 s (execLifecycleShow l s) := by
  unfold execLifecycleShow
  refine .next ?_
  refine .seq showCmd_changes ?_ (by decide)
  exact .refl

theorem execLifecycleSet_changes {l : Line} {target : Option LifeState} {serial : Nat} {s : State} : NextChanges 1923021 s (execLifecycleSet l target serial s) := by
  unfold execLifecycleSet
  refine .next ?_
  refine runCmd_changes (fun u0 n0 h0 => ?_) (by decide)
  (extract_lets +onlyGivenNames (merge := false) w1; clear_value w1)
  refine .ite ?_ ?_
  refine .say0 ?_
  assumption
  split
  rename_i _ _ e2
  refine .say0 ?_
  assumption
  rename_i _ e3
  refine .ite ?_ ?_
  refine .say0 ?_
  assumption
  (extract_lets +onlyGivenNames (merge := false) u4; suffices h4 : Changes 1923021 s u4; clear_value u4)
  (extract_lets +onlyGivenNames (merge := false) u5; suffices h5 : Changes 1923021 s u5; clear_value u5)
  refine .say ?_ (by simp only [afterMask]; decide)
  assumption
  dsimp -zeta only [u5]
  refine .seq logEv_changes ?_ (by decide)
  assumption
  dsimp -zeta only [u4]
  refine .seq (updLife_changes ?_) ?_ (by decide)
  exact ⟨Nat.le_refl _, id⟩
  assumption

theorem execTestShow_changes {l : Line} {s : State} : NextChanges 1594240 s (execTestShow l s) := by
  unfold execTestShow
  refine .next ?_
  refine .seq showCmd_changes ?_ (by decide)
  exact .refl

theorem execTestResults_changes {l : Line} {run : Option Nat} {island : Option Nat} {raw : Bool} {s : State} : NextChanges 1594240 s (execTestResults l run island raw s) := by
  unfold execTestResults
  (extract_lets +onlyGivenNames (merge := false) w0; clear_value w0)
  refine .next ?_
  refine .seq showCmd_changes ?_ (by decide)
  exact .refl

/-! ### Machine/Fimor.lean -/

theorem execConsoleChar_changes {x : SessId} {c : Byte} {s : State} : NextChanges 1049472 s (execConsoleChar x c s) := by
  unfold execConsoleChar
  refine .next ?_
  split
  rename_i _ e0
  exact .refl
  rename_i _ _ e1
  refine .ite ?_ ?_
  exact .refl
  refine .seq putEcho_changes ?_ (by decide)
  refine .seq updSess_changes ?_ (by decide)
  exact .refl

theorem execConsoleBadLine_changes {x : SessId} {text : List Byte} {s : State} : NextChanges 1049472 s (execConsoleBadLine x text s) := by
  unfold execConsoleBadLine
  refine .next ?_
  split
  rename_i _ e0
  exact .refl
  rename_i _ _ e1
  refine .ite ?_ ?_
  exact .refl
  split
  rename_i _ _ _ e2
  exact .refl
  rename_i _ _ _ _ e3
  (extract_lets +onlyGivenNames (merge := false) u4; suffices h4 : Changes 1049472 s u4; clear_value u4)
  refine .seq putReply_changes ?_ (by decide)
  assumption
  dsimp -zeta only [u4]
  refine .seq updSess_changes ?_ (by decide)
  exact .refl

theorem execUnknownCommand_changes {l : Line} {s : State} : NextChanges 1594240 s (execUnknownCommand l s) := by
  unfold execUnknownCommand
  refine .next ?_
  refine runCmd_changes (fun u0 n0 h0 => ?_) (by decide)
  refine .say0 ?_
  assumption

theorem execHelp_changes {l : Line} {word : Option String} {s : State} : NextChanges 1594240 s (execHelp l word s) := by
  unfold execHelp
  refine .next ?_
  refine .seq showCmd_changes ?_ (by decide)
  exact .refl

theorem execMode_changes {l : Line} {m : ModeArg} {s : State} : NextChanges 1594240 s (execMode l m s) := by
  unfold execMode
  refine .next ?_
  refine runCmd_changes (fun u0 n0 h0 => ?_) (by decide)
  split
  split
  rename_i _ _ e1
  refine .say0 ?_
  assumption
  rename_i _ _ _ e2
  refine .say0 ?_
  assumption
  refine .ite ?_ ?_
  refine .say0 ?_
  assumption
  refine .say ?_ (by simp only [afterMask]; decide)
  assumption
  refine .say ?_ (by simp only [afterMask]; decide)
  assumption

theorem execWho_changes {l : Line} {s : State} : NextChanges 1594240 s (execWho l s) := by
  unfold execWho
  refine .next ?_
  refine .seq showCmd_changes ?_ (by decide)
  exact .refl

theorem execLog_changes {l : Line} {count : Option Int} {since : Option Int} {name : Option Ev} {s : State} : NextChanges 1594240 s (execLog l count since name s) := by
  unfold execLog
  (extract_lets +onlyGivenNames (merge := false) w0; clear_value w0)
  refine .next ?_
  refine .seq showCmd_changes ?_ (by decide)
  exact .refl

theorem execLogFollow_changes {l : Line} {on : Bool} {s : State} : NextChanges 1594240 s (execLogFollow l on s) := by
  unfold execLogFollow
  refine .next ?_
  refine runCmd_changes (fun u0 n0 h0 => ?_) (by decide)
  refine .say0 ?_
  refine .seq updSess_changes ?_ (by decide)
  assumption

theorem execEventLineWindowEnd_changes {x : SessId} {s : State} : NextChanges 1049474 s (execEventLineWindowEnd x s) := by
  unfold execEventLineWindowEnd
  refine .next ?_
  split
  rename_i _ e0
  exact .refl
  rename_i _ _ e1
  split
  rename_i _ _ _ e2
  exact .refl
  rename_i _ _ _ _ e3
  refine .seq closeEvWindow_changes ?_ (by decide)
  refine .seq advanceTo_changes ?_ (by decide)
  exact .refl

theorem execHalt_changes {l : Line} {s : State} : NextChanges 1660877 s (execHalt l s) := by
  unfold execHalt
  refine .next ?_
  refine runCmd_changes (fun u0 n0 h0 => ?_) (by decide)
  refine .say ?_ (by simp only [afterMask]; decide)
  assumption

theorem denyMgmt_changes {s : State} {fp : List Byte} {addr : IpAddr} : Changes 1590144 s (denyMgmt s fp addr) := by
  unfold denyMgmt
  refine .seq logEv_changes ?_ (by decide)
  refine .seq emit_changes ?_ (by decide)
  exact .refl

theorem turnAway_changes {s : State} {addr : IpAddr} : Changes 1048576 s (turnAway s addr) := by
  unfold turnAway
  refine .seq emit_changes ?_ (by decide)
  refine .seq emit_changes ?_ (by decide)
  exact .refl

theorem execMgmtConnect_changes {ifc : IfNo} {localAddr : IpAddr} {fp : List Byte} {client : TlsClient} {addr : IpAddr} {s : State} : NextChanges 1721216 s (execMgmtConnect ifc localAddr fp client addr s) := by
  unfold execMgmtConnect
  refine .next ?_
  refine .ite ?_ ?_
  exact .refl
  split
  rename_i _ e0
  refine .seq denyMgmt_changes ?_ (by decide)
  exact .refl
  rename_i _ _ _ e1
  split
  rename_i _ _ _ _ e2
  refine .seq denyMgmt_changes ?_ (by decide)
  exact .refl
  rename_i _ _ _ _ _ e3
  refine .ite ?_ ?_
  refine .seq denyMgmt_changes ?_ (by decide)
  exact .refl
  split
  rename_i _ _ _ _ _ _ e4
  refine .seq turnAway_changes ?_ (by decide)
  exact .refl
  rename_i _ _ _ _ _ _ _ e5
  refine .ite ?_ ?_
  refine .seq turnAway_changes ?_ (by decide)
  exact .refl
  refine .seq openSess_changes ?_ (by decide)
  refine .seq (updFw_changes ?_) ?_ (by decide)
  exact fun _ h => h
  exact .refl

theorem execMgmtIdleTimeout_changes {k : Fin 8} {s : State} : NextChanges 1594242 s (execMgmtIdleTimeout k s) := by
  unfold execMgmtIdleTimeout
  refine .next ?_
  split
  rename_i _ e0
  exact .refl
  rename_i _ _ e1
  refine .seq closeMgmt_changes ?_ (by decide)
  refine .seq advanceTo_changes ?_ (by decide)
  exact .refl

theorem execMgmtSessionClose_changes {k : Fin 8} {s : State} : NextChanges 1594240 s (execMgmtSessionClose k s) := by
  unfold execMgmtSessionClose
  refine .next ?_
  refine .seq closeMgmt_changes ?_ (by decide)
  exact .refl

theorem execWardenEnrol_changes {l : Line} {slot : Int} {fp : List Byte} {name : Option String} {s : State} : NextChanges 1594240 s (execWardenEnrol l slot fp name s) := by
  unfold execWardenEnrol
  refine .next ?_
  refine runCmd_changes (fun u0 n0 h0 => ?_) (by decide)
  (extract_lets +onlyGivenNames (merge := false) w1; clear_value w1)
  refine .ite ?_ ?_
  refine .say0 ?_
  assumption
  refine .ite ?_ ?_
  refine .say0 ?_
  assumption
  (extract_lets +onlyGivenNames (merge := false) u2; suffices h2 : Changes 1594240 s u2; clear_value u2)
  refine .say0 ?_
  refine .seq logEv_changes ?_ (by decide)
  assumption
  dsimp -zeta only [u2]
  refine .seq updCon_changes ?_ (by decide)
  assumption

theorem retireSession_changes {w : Fin 4} {self : SessId} {s : State} {x : SessId} : Changes 1594240 s (retireSession w self s x) := by
  unfold retireSession
  split
  rename_i _ e0
  exact .refl
  rename_i _ _ e1
  refine .ite ?_ ?_
  refine .ite ?_ ?_
  split
  refine .seq closeMgmt_changes ?_ (by decide)
  exact .refl
  exact .refl
  refine .seq updSess_changes ?_ (by decide)
  exact .refl
  exact .refl

theorem execWardenRemove_changes {l : Line} {slot : Int} {s : State} : NextChanges 1594240 s (execWardenRemove l slot s) := by
  unfold execWardenRemove
  refine .next ?_
  refine runCmd_changes (fun u0 n0 h0 => ?_) (by decide)
  (extract_lets +onlyGivenNames (merge := false) w1; clear_value w1)
  refine .ite ?_ ?_
  refine .say0 ?_
  assumption
  (extract_lets +onlyGivenNames (merge := false) u2; suffices h2 : Changes 1594240 s u2; clear_value u2)
  (extract_lets +onlyGivenNames (merge := false) u3; suffices h3 : Changes 1594240 s u3; clear_value u3)
  (extract_lets +onlyGivenNames (merge := false) u4; suffices h4 : Changes 1594240 s u4; clear_value u4)
  refine .say0 ?_
  refine .foldl (fun u5 a5 h5 => ?_) ?_
  refine .seq retireSession_changes ?_ (by decide)
  assumption
  assumption
  dsimp -zeta only [u4]
  refine .seq logEv_changes ?_ (by decide)
  assumption
  dsimp -zeta only [u3]
  refine .seq (updStalls_changes ?_) ?_ (by decide)
  exact Nat.le_refl _
  assumption
  dsimp -zeta only [u2]
  refine .seq updCon_changes ?_ (by decide)
  assumption

theorem execWardenShow_changes {l : Line} {s : State} : NextChanges 1594240 s (execWardenShow l s) := by
  unfold execWardenShow
  refine .next ?_
  refine .seq showCmd_changes ?_ (by decide)
  exact .refl

end Sys2Proof.Laws
end

