-- ==== Sys2Proof/Laws/Changes4.lean ====
section
/-!
SUPPORT. What each definition that changes the state may change, one lemma per definition; the mask of a lemma is the union
of the masks of what the definition calls. Of Machine/: Power, Ports, Halt, StartOps, LogOps, StepOps, Start.
-/

namespace Sys2Proof.Laws

open Sys2Proof Machine

set_option linter.unusedVariables false

/-! ### Machine/Power.lean -/

theorem execPowerShow_changes {l : Line} {s : State} : NextChanges 1594240 s (execPowerShow l s) := by
  unfold execPowerShow
  refine .next ?_
  refine .seq showCmd_changes ?_ (by decide)
  exact .refl

theorem execFeedLost_changes {p : PortId} {energy : Nat} {vBank : Nat} {s : State} : NextChanges 1591176 s (execFeedLost p energy vBank s) := by
  unfold execFeedLost
  refine .next ?_
  refine .ite ?_ ?_
  exact .refl
  (extract_lets +onlyGivenNames (merge := false) u0; suffices h0 : Changes 1591176 s u0; clear_value u0)
  (extract_lets +onlyGivenNames (merge := false) u1; suffices h1 : Changes 1591176 s u1; clear_value u1)
  refine .ite ?_ ?_
  (extract_lets +onlyGivenNames (merge := false) u2; suffices h2 : Changes 1591176 s u2; clear_value u2)
  refine .ite ?_ ?_
  refine .seq changeLead_changes ?_ (by decide)
  assumption
  assumption
  dsimp -zeta only [u2]
  refine .seq updPower_changes ?_ (by decide)
  assumption
  refine .seq noteStandby_changes ?_ (by decide)
  assumption
  dsimp -zeta only [u1]
  refine .seq logEv_changes ?_ (by decide)
  assumption
  dsimp -zeta only [u0]
  refine .seq updFeed_changes ?_ (by decide)
  exact .refl

theorem execFeedRestored_changes {p : PortId} {classEvents : Nat} {s : State} : NextChanges 1591240 s (execFeedRestored p classEvents s) := by
  unfold execFeedRestored
  refine .next ?_
  refine .seq powerPort_changes ?_ (by decide)
  exact .refl

theorem execPlannedChangeover_changes {energy : Nat} {s : State} : NextChanges 1591178 s (execPlannedChangeover energy s) := by
  unfold execPlannedChangeover
  refine .next ?_
  split
  rename_i _ e0
  exact .refl
  rename_i _ _ e1
  refine .ite ?_ ?_
  refine .seq changeLead_changes ?_ (by decide)
  exact .refl
  split
  rename_i _ _ _ e2
  exact .refl
  rename_i _ _ _ _ e3
  refine .seq changeLead_changes ?_ (by decide)
  refine .seq advanceTo_changes ?_ (by decide)
  exact .refl

theorem execLldpTransmit_changes {p : PortId} {s : State} : NextChanges 256 s (execLldpTransmit p s) := by
  unfold execLldpTransmit
  refine .next ?_
  refine .seq sendLink_changes ?_ (by decide)
  refine .seq updPort_changes ?_ (by decide)
  exact .refl

theorem allocation_changes {s : State} {p : PortId} {alloc : Nat} : Changes 1591176 s (allocation s p alloc) := by
  unfold allocation
  (extract_lets +onlyGivenNames (merge := false) u0; suffices h0 : Changes 1591176 s u0; clear_value u0)
  (extract_lets +onlyGivenNames (merge := false) u1; suffices h1 : Changes 1591176 s u1; clear_value u1)
  refine .seq updFeed_changes ?_ (by decide)
  assumption
  dsimp -zeta only [u1]
  refine .seq rebudget_changes ?_ (by decide)
  assumption
  dsimp -zeta only [u0]
  refine .seq updFeed_changes ?_ (by decide)
  exact .refl

theorem takeAllocation_changes {s : State} {p : PortId} {alloc : Nat} : Changes 1591176 s (takeAllocation s p alloc) := by
  unfold takeAllocation
  refine .ite ?_ ?_
  refine .seq updFeed_changes ?_ (by decide)
  exact .refl
  refine .seq allocation_changes ?_ (by decide)
  exact .refl

theorem lateAllocations_changes {s : State} : Changes 1591176 s (lateAllocations s) := by
  unfold lateAllocations
  refine .foldl (fun u0 a0 h0 => ?_) ?_
  split
  rename_i _ _ e1
  refine .seq allocation_changes ?_ (by decide)
  refine .seq updFeed_changes ?_ (by decide)
  assumption
  rename_i _ e2
  assumption
  exact .refl

theorem execLevelUp_changes {s : State} : NextChanges 1591178 s (execLevelUp s) := by
  unfold execLevelUp
  refine .next ?_
  split
  rename_i _ e0
  exact .refl
  rename_i _ _ e1
  refine .ite ?_ ?_
  (extract_lets +onlyGivenNames (merge := false) u2; suffices h2 : Changes 1591178 s u2; clear_value u2)
  refine .seq noteBudget_changes ?_ (by decide)
  refine .seq setLevel_changes ?_ (by decide)
  assumption
  dsimp -zeta only [u2]
  refine .seq advanceTo_changes ?_ (by decide)
  exact .refl
  exact .refl

theorem execStarvedTimeout_changes {s : State} : NextChanges 1656783 s (execStarvedTimeout s) := by
  unfold execStarvedTimeout
  refine .next ?_
  split
  rename_i _ _ _ _ e0 e1
  (extract_lets +onlyGivenNames (merge := false) u2; suffices h2 : Changes 1656783 s u2; clear_value u2)
  (extract_lets +onlyGivenNames (merge := false) u3; suffices h3 : Changes 1656783 s u3; clear_value u3)
  refine .seq beginHalt_changes ?_ (by decide)
  refine .seq updPower_changes ?_ (by decide)
  assumption
  dsimp -zeta only [u3]
  refine .seq updFeed_changes ?_ (by decide)
  assumption
  dsimp -zeta only [u2]
  refine .seq advanceTo_changes ?_ (by decide)
  exact .refl
  exact .refl

theorem execHoldupMeasure_changes {l : Line} {s : State} : NextChanges 1594248 s (execHoldupMeasure l s) := by
  unfold execHoldupMeasure
  refine .next ?_
  refine runCmd_changes (fun u0 n0 h0 => ?_) (by decide)
  refine .ite ?_ ?_
  refine .say0 ?_
  assumption
  refine .say0 ?_
  refine .seq askMeasure_changes ?_ (by decide)
  assumption

theorem execHoldupPeriodic_changes {s : State} : NextChanges 16394 s (execHoldupPeriodic s) := by
  unfold execHoldupPeriodic
  refine .next ?_
  refine .ite ?_ ?_
  refine .seq askMeasure_changes ?_ (by decide)
  refine .seq advanceTo_changes ?_ (by decide)
  exact .refl
  exact .refl

theorem execHoldupDischargeStart_changes {s : State} : NextChanges 8 s (execHoldupDischargeStart s) := by
  unfold execHoldupDischargeStart
  refine .next ?_
  refine .ite ?_ ?_
  refine .seq updPower_changes ?_ (by decide)
  exact .refl
  exact .refl

theorem execHoldupMeasureDone_changes {e : Nat} {vBank : Nat} {s : State} : NextChanges 1590152 s (execHoldupMeasureDone e vBank s) := by
  unfold execHoldupMeasureDone
  refine .next ?_
  refine .ite ?_ ?_
  (extract_lets +onlyGivenNames (merge := false) u0; suffices h0 : Changes 1590152 s u0; clear_value u0)
  refine .seq judgeE_changes ?_ (by decide)
  refine .seq updPower_changes ?_ (by decide)
  assumption
  dsimp -zeta only [u0]
  refine .seq recordE_changes ?_ (by decide)
  exact .refl
  exact .refl

theorem execBankRecharged_changes {s : State} : NextChanges 16392 s (execBankRecharged s) := by
  unfold execBankRecharged
  refine .next ?_
  (extract_lets +onlyGivenNames (merge := false) u0; suffices h0 : Changes 16392 s u0; clear_value u0)
  refine .ite ?_ ?_
  refine .seq measureCell_changes ?_ (by decide)
  refine .seq updPower_changes ?_ (by decide)
  assumption
  refine .ite ?_ ?_
  refine .seq measureCell_changes ?_ (by decide)
  assumption
  assumption
  dsimp -zeta only [u0]
  refine .seq updPower_changes ?_ (by decide)
  exact .refl

theorem execHoldupChargeTimeout_changes {vBank : Nat} {s : State} : NextChanges 1590152 s (execHoldupChargeTimeout vBank s) := by
  unfold execHoldupChargeTimeout
  refine .next ?_
  refine .ite ?_ ?_
  exact .refl
  (extract_lets +onlyGivenNames (merge := false) u0; suffices h0 : Changes 1590152 s u0; clear_value u0)
  (extract_lets +onlyGivenNames (merge := false) w1; clear_value w1)
  (extract_lets +onlyGivenNames (merge := false) u2; suffices h2 : Changes 1590152 s u2; clear_value u2)
  refine .ite ?_ ?_
  assumption
  refine .seq logEv_changes ?_ (by decide)
  assumption
  dsimp -zeta only [u2]
  refine .seq updPower_changes ?_ (by decide)
  assumption
  dsimp -zeta only [u0]
  refine .seq recordE_changes ?_ (by decide)
  refine .seq updPower_changes ?_ (by decide)
  exact .refl

theorem execCellFault_changes {cell : Fin 12} {deviation : Int} {s : State} : NextChanges 1590152 s (execCellFault cell deviation s) := by
  unfold execCellFault
  refine .next ?_
  refine .ite ?_ ?_
  exact .refl
  (extract_lets +onlyGivenNames (merge := false) u0; suffices h0 : Changes 1590152 s u0; clear_value u0)
  refine .seq measureCell_changes ?_ (by decide)
  refine .seq logEv_changes ?_ (by decide)
  assumption
  dsimp -zeta only [u0]
  refine .seq updPower_changes ?_ (by decide)
  exact .refl

theorem execCellReturn_changes {cell : Fin 12} {s : State} : NextChanges 8 s (execCellReturn cell s) := by
  unfold execCellReturn
  refine .next ?_
  refine .seq updPower_changes ?_ (by decide)
  exact .refl

theorem execColdGate_changes {flashMin : Int} {s : State} : NextChanges 1590152 s (execColdGate flashMin s) := by
  unfold execColdGate
  refine .next ?_
  (extract_lets +onlyGivenNames (merge := false) u0; suffices h0 : Changes 1590152 s u0; clear_value u0)
  refine .ite ?_ ?_
  refine .seq logEv_changes ?_ (by decide)
  refine .seq updPower_changes ?_ (by decide)
  assumption
  assumption
  dsimp -zeta only [u0]
  refine .seq updPower_changes ?_ (by decide)
  exact .refl

theorem execHeaterSwitch_changes {flashMin : Int} {s : State} : NextChanges 8 s (execHeaterSwitch flashMin s) := by
  unfold execHeaterSwitch
  refine .next ?_
  (extract_lets +onlyGivenNames (merge := false) w0; clear_value w0)
  refine .seq updPower_changes ?_ (by decide)
  exact .refl

theorem execThermalThrottle_changes {flashMax : Int} {s : State} : NextChanges 1656781 s (execThermalThrottle flashMax s) := by
  unfold execThermalThrottle
  refine .next ?_
  (extract_lets +onlyGivenNames (merge := false) w0; clear_value w0)
  (extract_lets +onlyGivenNames (merge := false) w1; clear_value w1)
  (extract_lets +onlyGivenNames (merge := false) u2; suffices h2 : Changes 1656781 s u2; clear_value u2)
  refine .ite ?_ ?_
  assumption
  (extract_lets +onlyGivenNames (merge := false) u3; suffices h3 : Changes 1656781 s u3; clear_value u3)
  refine .ite ?_ ?_
  refine .seq beginHalt_changes ?_ (by decide)
  refine .seq logEv_changes ?_ (by decide)
  assumption
  assumption
  dsimp -zeta only [u3]
  refine .seq logEv_changes ?_ (by decide)
  assumption
  dsimp -zeta only [u2]
  refine .seq updPower_changes ?_ (by decide)
  exact .refl

/-! ### Machine/Ports.lean -/

theorem execLinkUp_changes {p : PortId} {speed : Nat} {snr : Int} {s : State} : NextChanges 1591240 s (execLinkUp p speed snr s) := by
  unfold execLinkUp
  refine .next ?_
  extract_lets +onlyGivenNames (merge := false) w0
  refine .ite ?_ ?_
  exact .refl
  refine .ite ?_ ?_
  refine .ite ?_ ?_
  dsimp -zeta only [w0]
  refine .seq updPort_changes ?_ (by decide)
  exact .refl
  exact .refl
  refine .ite ?_ ?_
  (extract_lets +onlyGivenNames (merge := false) u1; suffices h1 : Changes 1591240 s u1; clear_value u1)
  (extract_lets +onlyGivenNames (merge := false) u2; suffices h2 : Changes 1591240 s u2; clear_value u2)
  (extract_lets +onlyGivenNames (merge := false) u3; suffices h3 : Changes 1591240 s u3; clear_value u3)
  refine .seq beginAll_changes ?_ (by decide)
  refine .seq rebudget_changes ?_ (by decide)
  refine .seq renegotiated_changes ?_ (by decide)
  refine .seq portGained_changes ?_ (by decide)
  refine .seq speedMismatch_changes ?_ (by decide)
  assumption
  dsimp -zeta only [u3]
  refine .ite ?_ ?_
  refine .seq (updBoot_changes ?_) ?_ (by decide)
  exact id
  assumption
  assumption
  dsimp -zeta only [u2]
  refine .ite ?_ ?_
  refine .seq updPort_changes ?_ (by decide)
  assumption
  assumption
  dsimp -zeta only [u1]
  refine .seq logEv_changes ?_ (by decide)
  dsimp -zeta only [w0]
  refine .seq updPort_changes ?_ (by decide)
  exact .refl
  exact .refl

theorem execLinkDown_changes {p : PortId} {s : State} : NextChanges 1591176 s (execLinkDown p s) := by
  unfold execLinkDown
  refine .next ?_
  refine .ite ?_ ?_
  exact .refl
  refine .ite ?_ ?_
  refine .seq updPort_changes ?_ (by decide)
  exact .refl
  refine .seq rebudget_changes ?_ (by decide)
  refine .seq train_changes ?_ (by decide)
  refine .seq linkLoss_changes ?_ (by decide)
  exact .refl

theorem execLinkDownshift_changes {p : PortId} {speed : Nat} {s : State} : NextChanges 1590144 s (execLinkDownshift p speed s) := by
  unfold execLinkDownshift
  refine .next ?_
  refine .ite ?_ ?_
  (extract_lets +onlyGivenNames (merge := false) u0; suffices h0 : Changes 1590144 s u0; clear_value u0)
  refine .seq logEv_changes ?_ (by decide)
  assumption
  dsimp -zeta only [u0]
  refine .seq updPort_changes ?_ (by decide)
  exact .refl
  exact .refl

theorem execBondRevert_changes {s : State} : NextChanges 1591170 s (execBondRevert s) := by
  unfold execBondRevert
  refine .next ?_
  (extract_lets +onlyGivenNames (merge := false) w0; clear_value w0)
  refine .ite ?_ ?_
  split
  rename_i _ e1
  exact .refl
  rename_i _ _ e2
  refine .seq failoverTo_changes ?_ (by decide)
  refine .seq advanceTo_changes ?_ (by decide)
  exact .refl
  exact .refl

theorem execLacpduReceive_changes {p : PortId} {pdu : Lacpdu} {s : State} : NextChanges 1792 s (execLacpduReceive p pdu s) := by
  unfold execLacpduReceive
  refine .next ?_
  refine .ite ?_ ?_
  (extract_lets +onlyGivenNames (merge := false) w0; clear_value w0)
  (extract_lets +onlyGivenNames (merge := false) w1; clear_value w1)
  refine .seq settlePair_changes ?_ (by decide)
  refine .seq updPort_changes ?_ (by decide)
  exact .refl
  exact .refl

theorem execLacpduTransmit_changes {p : PortId} {s : State} : NextChanges 258 s (execLacpduTransmit p s) := by
  unfold execLacpduTransmit
  refine .next ?_
  refine .ite ?_ ?_
  (extract_lets +onlyGivenNames (merge := false) u0; suffices h0 : Changes 258 s u0; clear_value u0)
  refine .seq sendLink_changes ?_ (by decide)
  refine .seq updPort_changes ?_ (by decide)
  assumption
  dsimp -zeta only [u0]
  split
  rename_i _ _ e1
  refine .seq advanceTo_changes ?_ (by decide)
  exact .refl
  rename_i _ e2
  exact .refl
  exact .refl

theorem execLagNoPartner_changes {p : PortId} {s : State} : NextChanges 1591170 s (execLagNoPartner p s) := by
  unfold execLagNoPartner
  refine .next ?_
  refine .ite ?_ ?_
  extract_lets +onlyGivenNames (merge := false) w0
  (extract_lets +onlyGivenNames (merge := false) u1; suffices h1 : Changes 1591170 s u1; clear_value u1)
  refine .seq portGained_changes ?_ (by decide)
  refine .seq logEv_changes ?_ (by decide)
  assumption
  dsimp -zeta only [u1]
  refine .seq updPort_changes ?_ (by decide)
  refine .seq advanceTo_changes ?_ (by decide)
  exact .refl
  exact .refl

theorem execFrameReceive_changes {p : PortId} {f : EthFrame} {s : State} : NextChanges 1631120 s (execFrameReceive p f s) := by
  unfold execFrameReceive
  refine .next ?_
  refine .ite ?_ ?_
  exact .refl
  (extract_lets +onlyGivenNames (merge := false) w0; clear_value w0)
  (extract_lets +onlyGivenNames (merge := false) w1; clear_value w1)
  (extract_lets +onlyGivenNames (merge := false) w2; clear_value w2)
  (extract_lets +onlyGivenNames (merge := false) w3; clear_value w3)
  (extract_lets +onlyGivenNames (merge := false) w4; clear_value w4)
  (extract_lets +onlyGivenNames (merge := false) u5; suffices h5 : Changes 1631120 s u5; clear_value u5)
  (extract_lets +onlyGivenNames (merge := false) u6; suffices h6 : Changes 1631120 s u6; clear_value u6)
  (extract_lets +onlyGivenNames (merge := false) u7; suffices h7 : Changes 1631120 s u7; clear_value u7)
  refine .seq updPort_changes ?_ (by decide)
  assumption
  dsimp -zeta only [u7]
  refine .ite ?_ ?_
  refine .foldl (fun u8 a8 h8 => ?_) ?_
  refine .seq speculate_changes ?_ (by decide)
  assumption
  assumption
  assumption
  dsimp -zeta only [u6]
  refine .ite ?_ ?_
  assumption
  split
  refine .seq countHw_changes ?_ (by decide)
  assumption
  assumption
  dsimp -zeta only [u5]
  refine .seq wakeIsl_changes ?_ (by decide)
  exact .refl

theorem countDelivered_changes {s : State} {p : PortId} {f : EthFrame} : Changes 1590144 s (countDelivered s p f) := by
  unfold countDelivered
  (extract_lets +onlyGivenNames (merge := false) u0; suffices h0 : Changes 1590144 s u0; clear_value u0)
  (extract_lets +onlyGivenNames (merge := false) u1; suffices h1 : Changes 1590144 s u1; clear_value u1)
  refine .ite ?_ ?_
  refine .seq countHw_changes ?_ (by decide)
  assumption
  assumption
  dsimp -zeta only [u1]
  refine .seq countHw_changes ?_ (by decide)
  assumption
  dsimp -zeta only [u0]
  refine .seq countHw_changes ?_ (by decide)
  refine .seq countHw_changes ?_ (by decide)
  exact .refl

theorem countProto_changes {s : State} {c : ProtoCtr} {n : Nat} : Changes 1024 s (countProto s c n) := by
  unfold countProto
  refine .seq (updProto_changes ?_) ?_ (by decide)
  exact Nat.le_refl _
  exact .refl

theorem execFrameFcsResult_changes {p : PortId} {good : Bool} {s : State} : NextChanges 1599364 s (execFrameFcsResult p good s) := by
  unfold execFrameFcsResult
  refine .next ?_
  split
  rename_i _ e0
  exact .refl
  rename_i _ _ e1
  (extract_lets +onlyGivenNames (merge := false) w2; clear_value w2)
  (extract_lets +onlyGivenNames (merge := false) u3; suffices h3 : Changes 1599364 s u3; clear_value u3)
  (extract_lets +onlyGivenNames (merge := false) u4; suffices h4 : Changes 1599364 s u4; clear_value u4)
  (extract_lets +onlyGivenNames (merge := false) u5; suffices h5 : Changes 1599364 s u5; clear_value u5)
  refine .ite ?_ ?_
  refine .seq countHw_changes ?_ (by decide)
  assumption
  refine .ite ?_ ?_
  refine .ite ?_ ?_
  refine .seq countHw_changes ?_ (by decide)
  assumption
  assumption
  (extract_lets +onlyGivenNames (merge := false) u6; suffices h6 : Changes 1599364 s u6; clear_value u6)
  refine .ite ?_ ?_
  assumption
  (extract_lets +onlyGivenNames (merge := false) u7; suffices h7 : Changes 1599364 s u7; clear_value u7)
  refine .ite ?_ ?_
  refine .seq countProto_changes ?_ (by decide)
  assumption
  (extract_lets +onlyGivenNames (merge := false) u8; suffices h8 : Changes 1599364 s u8; clear_value u8)
  refine .ite ?_ ?_
  refine .seq updNet_changes ?_ (by decide)
  assumption
  assumption
  dsimp -zeta only [u8]
  refine .seq countDelivered_changes ?_ (by decide)
  assumption
  dsimp -zeta only [u7]
  refine .seq updPort_changes ?_ (by decide)
  assumption
  dsimp -zeta only [u6]
  refine .ite ?_ ?_
  assumption
  refine .seq countHw_changes ?_ (by decide)
  assumption
  dsimp -zeta only [u5]
  refine .ite ?_ ?_
  refine .seq updPort_changes ?_ (by decide)
  assumption
  assumption
  dsimp -zeta only [u4]
  refine .ite ?_ ?_
  refine .seq keepSpec_changes ?_ (by decide)
  refine .seq noteBlink_changes ?_ (by decide)
  assumption
  refine .seq cancelSpec_changes ?_ (by decide)
  assumption
  dsimp -zeta only [u3]
  refine .seq updPort_changes ?_ (by decide)
  exact .refl

theorem execCounterHalf_changes {p : PortId} {c : Ctr} {s : State} : NextChanges 1590144 s (execCounterHalf p c s) := by
  unfold execCounterHalf
  refine .next ?_
  refine .seq setCount_changes ?_ (by decide)
  exact .refl

theorem fold_changes {s : State} {p : PortId} {c : Ctr} {amount : Nat} : Changes 1590144 s (fold s p c amount) := by
  unfold fold
  (extract_lets +onlyGivenNames (merge := false) w0; clear_value w0)
  refine .ite ?_ ?_
  refine .seq logEv_changes ?_ (by decide)
  exact .refl
  refine .seq updPort_changes ?_ (by decide)
  exact .refl

theorem execCounterFold_changes {p : PortId} {c : Ctr} {s : State} : NextChanges 1590144 s (execCounterFold p c s) := by
  unfold execCounterFold
  refine .next ?_
  refine .ite ?_ ?_
  refine .seq fold_changes ?_ (by decide)
  exact .refl
  exact .refl

theorem execHwstatFold_changes {p : PortId} {index : Nat} {amount : Nat} {s : State} : NextChanges 1590144 s (execHwstatFold p index amount s) := by
  unfold execHwstatFold
  refine .next ?_
  split
  rename_i _ e0
  refine .seq logEv_changes ?_ (by decide)
  exact .refl
  rename_i _ _ e1
  refine .seq fold_changes ?_ (by decide)
  exact .refl

theorem execCounterSaturated_changes {p : PortId} {c : Ctr} {s : State} : NextChanges 1590144 s (execCounterSaturated p c s) := by
  unfold execCounterSaturated
  refine .next ?_
  refine .seq setCount_changes ?_ (by decide)
  exact .refl

theorem pauseQueue_changes {p : PortId} {q : Fin 8} {n : Nat} {s : State} : Changes 256 s (pauseQueue p q n s) := by
  unfold pauseQueue
  (extract_lets +onlyGivenNames (merge := false) w0; clear_value w0)
  refine .seq updPort_changes ?_ (by decide)
  exact .refl

theorem execPauseFrame_changes {p : PortId} {quanta : Nat} {s : State} : NextChanges 1590144 s (execPauseFrame p quanta s) := by
  unfold execPauseFrame
  refine .next ?_
  refine .ite ?_ ?_
  exact .refl
  (extract_lets +onlyGivenNames (merge := false) u0; suffices h0 : Changes 1590144 s u0; clear_value u0)
  refine .ite ?_ ?_
  assumption
  refine .foldl (fun u1 a1 h1 => ?_) ?_
  refine .seq pauseQueue_changes ?_ (by decide)
  assumption
  refine .seq countHw_changes ?_ (by decide)
  assumption
  dsimp -zeta only [u0]
  refine .seq countHw_changes ?_ (by decide)
  exact .refl

theorem execPfcFrame_changes {p : PortId} {quanta : List (Fin 8 × Nat)} {s : State} : NextChanges 1590144 s (execPfcFrame p quanta s) := by
  unfold execPfcFrame
  refine .next ?_
  refine .ite ?_ ?_
  exact .refl
  (extract_lets +onlyGivenNames (merge := false) u0; suffices h0 : Changes 1590144 s u0; clear_value u0)
  refine .ite ?_ ?_
  assumption
  refine .foldl (fun u1 a1 h1 => ?_) ?_
  refine .seq pauseQueue_changes ?_ (by decide)
  refine .seq countHw_changes ?_ (by decide)
  assumption
  assumption
  dsimp -zeta only [u0]
  refine .seq countHw_changes ?_ (by decide)
  exact .refl

theorem execPauseExpiry_changes {p : PortId} {q : Fin 8} {s : State} : NextChanges 258 s (execPauseExpiry p q s) := by
  unfold execPauseExpiry
  refine .next ?_
  split
  rename_i _ e0
  exact .refl
  rename_i _ _ e1
  refine .seq pauseQueue_changes ?_ (by decide)
  refine .seq advanceTo_changes ?_ (by decide)
  exact .refl

theorem execPauseStorm_changes {p : PortId} {s : State} : NextChanges 1590146 s (execPauseStorm p s) := by
  unfold execPauseStorm
  refine .next ?_
  split
  rename_i _ _ _ _ e0 e1
  refine .ite ?_ ?_
  exact .refl
  (extract_lets +onlyGivenNames (merge := false) u2; suffices h2 : Changes 1590146 s u2; clear_value u2)
  (extract_lets +onlyGivenNames (merge := false) u3; suffices h3 : Changes 1590146 s u3; clear_value u3)
  refine .seq logEv_changes ?_ (by decide)
  assumption
  dsimp -zeta only [u3]
  refine .seq updPort_changes ?_ (by decide)
  assumption
  dsimp -zeta only [u2]
  refine .seq advanceTo_changes ?_ (by decide)
  exact .refl
  exact .refl

theorem execPauseStormEnd_changes {p : PortId} {s : State} : NextChanges 258 s (execPauseStormEnd p s) := by
  unfold execPauseStormEnd
  refine .next ?_
  split
  rename_i _ e0
  exact .refl
  rename_i _ _ e1
  refine .seq updPort_changes ?_ (by decide)
  refine .seq advanceTo_changes ?_ (by decide)
  exact .refl

theorem countSent_changes {s : State} {p : PortId} {f : TxFrame} : Changes 1590144 s (countSent s p f) := by
  unfold countSent
  (extract_lets +onlyGivenNames (merge := false) u0; suffices h0 : Changes 1590144 s u0; clear_value u0)
  (extract_lets +onlyGivenNames (merge := false) u1; suffices h1 : Changes 1590144 s u1; clear_value u1)
  (extract_lets +onlyGivenNames (merge := false) u2; suffices h2 : Changes 1590144 s u2; clear_value u2)
  refine .seq countHw_changes ?_ (by decide)
  refine .seq countHw_changes ?_ (by decide)
  assumption
  dsimp -zeta only [u2]
  refine .ite ?_ ?_
  refine .seq countHw_changes ?_ (by decide)
  assumption
  assumption
  dsimp -zeta only [u1]
  refine .seq countHw_changes ?_ (by decide)
  assumption
  dsimp -zeta only [u0]
  refine .seq countHw_changes ?_ (by decide)
  refine .seq countHw_changes ?_ (by decide)
  exact .refl

theorem segmentSent_changes {s : State} {f : TxFrame} : Changes 1792 s (segmentSent s f) := by
  unfold segmentSent
  split
  rename_i _ _ _ _ e0
  refine .seq endClosed_changes ?_ (by decide)
  refine .seq release_changes ?_ (by decide)
  refine .seq updConn_changes ?_ (by decide)
  exact .refl
  rename_i _ e1
  refine .ite ?_ ?_
  refine .seq releaseWait_changes ?_ (by decide)
  exact .refl
  exact .refl

theorem sendNext_changes {s : State} {p : PortId} : Changes 1591172 s (sendNext s p) := by
  unfold sendNext
  refine .ite ?_ ?_
  exact .refl
  split
  rename_i _ e0
  exact .refl
  rename_i _ _ e1
  (extract_lets +onlyGivenNames (merge := false) u2; suffices h2 : Changes 1591172 s u2; clear_value u2)
  refine .seq noteBlink_changes ?_ (by decide)
  refine .seq segmentSent_changes ?_ (by decide)
  refine .seq countSent_changes ?_ (by decide)
  refine .seq emit_changes ?_ (by decide)
  assumption
  dsimp -zeta only [u2]
  refine .seq updPort_changes ?_ (by decide)
  exact .refl

theorem execFrameSent_changes {p : PortId} {s : State} : NextChanges 1591188 s (execFrameSent p s) := by
  unfold execFrameSent
  refine .next ?_
  refine .seq sendNext_changes ?_ (by decide)
  refine .ite ?_ ?_
  exact .refl
  refine .seq wakeIsl_changes ?_ (by decide)
  exact .refl

theorem execPortShow_changes {l : Line} {port : Option PortId} {s : State} : NextChanges 1594240 s (execPortShow l port s) := by
  unfold execPortShow
  refine .next ?_
  refine .seq showCmd_changes ?_ (by decide)
  exact .refl

theorem execPortStats_changes {l : Line} {port : Option PortId} {raw : Bool} {s : State} : NextChanges 1594240 s (execPortStats l port raw s) := by
  unfold execPortStats
  refine .next ?_
  refine .seq showCmd_changes ?_ (by decide)
  exact .refl

theorem execPortStatsClear_changes {l : Line} {port : PortId} {s : State} : NextChanges 1594240 s (execPortStatsClear l port s) := by
  unfold execPortStatsClear
  refine .next ?_
  refine runCmd_changes (fun u0 n0 h0 => ?_) (by decide)
  refine .say0 ?_
  refine .seq logEv_changes ?_ (by decide)
  refine .seq updPort_changes ?_ (by decide)
  assumption

theorem execPortCaptureRead_changes {l : Line} {port : PortId} {count : Option Nat} {s : State} : NextChanges 1594240 s (execPortCaptureRead l port count s) := by
  unfold execPortCaptureRead
  extract_lets +onlyGivenNames (merge := false) w0
  refine .next ?_
  refine .seq showCmd_changes ?_ (by decide)
  exact .refl

/-! ### Machine/Halt.lean -/

theorem execOrderlyHalt_changes {r : HaltReason} {s : State} : NextChanges 1656773 s (execOrderlyHalt r s) := by
  unfold execOrderlyHalt
  refine .next ?_
  refine .seq beginHalt_changes ?_ (by decide)
  exact .refl

theorem answerHalting_changes {s : State} {x : SessId} : Changes 1660877 s (answerHalting s x) := by
  unfold answerHalting
  refine .seq flushSlots_changes ?_ (by decide)
  refine .seq updSess_changes ?_ (by decide)
  exact .refl

theorem cutTest_changes {s : State} {o : RunOutcome} : Changes 262160 s (cutTest s o) := by
  unfold cutTest
  split
  rename_i _ _ e0
  refine .seq setIsl_changes ?_ (by decide)
  refine .seq stopRun_changes ?_ (by decide)
  exact .refl
  rename_i _ e1
  refine .seq stopRun_changes ?_ (by decide)
  exact .refl

theorem drainTx_changes {y0 : Nat} {y1 : PortId} {y2 : State} : Changes 1591172 y2 (drainTx y0 y1 y2) := by
  induction y0 generalizing y1 y2
  dsimp -zeta only [drainTx]
  exact .refl
  rename_i m ih
  dsimp -zeta only [drainTx]
  refine .seq ih ?_ (by decide)
  refine .seq sendNext_changes ?_ (by decide)
  exact .refl

theorem closeAll_changes {s : State} : Changes 1601420 s (closeAll s) := by
  unfold closeAll
  (extract_lets +onlyGivenNames (merge := false) u0; suffices h0 : Changes 1601420 s u0; clear_value u0)
  (extract_lets +onlyGivenNames (merge := false) u1; suffices h1 : Changes 1601420 s u1; clear_value u1)
  refine .seq (updProto_changes ?_) ?_ (by decide)
  exact Nat.le_refl _
  refine .seq rebudget_changes ?_ (by decide)
  refine .seq holdLinks_changes ?_ (by decide)
  assumption
  dsimp -zeta only [u1]
  refine .foldl (fun u2 a2 h2 => ?_) ?_
  refine .seq drainTx_changes ?_ (by decide)
  assumption
  assumption
  dsimp -zeta only [u0]
  refine .foldl (fun u3 a3 h3 => ?_) ?_
  refine .seq closeConn_changes ?_ (by decide)
  assumption
  exact .refl

theorem execHaltDrainEnd_changes {s : State} : NextChanges 1933277 s (execHaltDrainEnd s) := by
  unfold execHaltDrainEnd
  refine .next ?_
  split
  rename_i _ _ e0
  (extract_lets +onlyGivenNames (merge := false) u1; suffices h1 : Changes 1933277 s u1; clear_value u1)
  (extract_lets +onlyGivenNames (merge := false) u2; suffices h2 : Changes 1933277 s u2; clear_value u2)
  (extract_lets +onlyGivenNames (merge := false) u3; suffices h3 : Changes 1933277 s u3; clear_value u3)
  refine .seq setPhase_changes ?_ (by decide)
  refine .seq dropOps_changes ?_ (by decide)
  refine .seq closeAll_changes ?_ (by decide)
  assumption
  dsimp -zeta only [u3]
  refine .foldl (fun u4 a4 h4 => ?_) ?_
  refine .seq closeMgmt_changes ?_ (by decide)
  assumption
  assumption
  dsimp -zeta only [u2]
  refine .foldl (fun u5 a5 h5 => ?_) ?_
  refine .seq answerHalting_changes ?_ (by decide)
  assumption
  assumption
  dsimp -zeta only [u1]
  refine .seq cutTest_changes ?_ (by decide)
  exact .refl
  exact .refl

theorem afterHaltFlush_changes {s : State} {r : HaltReason} {fuseOk : Bool} : Changes 4020191 s (afterHaltFlush s r fuseOk) := by
  unfold afterHaltFlush
  (extract_lets +onlyGivenNames (merge := false) u0; suffices h0 : Changes 4020191 s u0; clear_value u0)
  split
  rename_i _ _ e1
  refine .seq finishHalt_changes ?_ (by decide)
  refine .seq burnIntent_changes ?_ (by decide)
  assumption
  rename_i _ e2
  (extract_lets +onlyGivenNames (merge := false) w3; clear_value w3)
  split
  refine .seq finishHalt_changes ?_ (by decide)
  assumption
  rename_i _ _ _ e4
  refine .seq finishHalt_changes ?_ (by decide)
  assumption
  rename_i _ _ _ e5
  refine .seq finishHalt_changes ?_ (by decide)
  assumption
  refine .seq startSet_changes ?_ (by decide)
  assumption
  dsimp -zeta only [u0]
  refine .seq (updBoot_changes ?_) ?_ (by decide)
  exact id
  exact .refl

theorem execHaltFlushDone_changes {fuseOk : Bool} {s : State} : NextChanges 4063199 s (execHaltFlushDone fuseOk s) := by
  unfold execHaltFlushDone
  refine .next ?_
  split
  rename_i _ _ e0
  refine .seq afterHaltFlush_changes ?_ (by decide)
  refine .seq copyLog_changes ?_ (by decide)
  refine .seq saveArcImage_changes ?_ (by decide)
  refine .seq haltFlush_changes ?_ (by decide)
  exact .refl
  exact .refl

theorem execReboot_changes {l : Line} {s : State} : NextChanges 1923023 s (execReboot l s) := by
  unfold execReboot
  refine .next ?_
  refine runCmd_changes (fun u0 n0 h0 => ?_) (by decide)
  split
  rename_i _ _ e1
  refine .say0 ?_
  assumption
  rename_i _ _ e2
  refine .say0 ?_
  assumption
  rename_i _ _ e3
  refine .say ?_ (by simp only [afterMask]; decide)
  refine .seq writeRtc_changes ?_ (by decide)
  refine .seq checkpoint_changes ?_ (by decide)
  refine .seq logSetEnd_changes ?_ (by decide)
  refine .seq stopRun_changes ?_ (by decide)
  assumption
  rename_i _ e4
  refine .say ?_ (by simp only [afterMask]; decide)
  assumption
  rename_i _ e5
  refine .say ?_ (by simp only [afterMask]; decide)
  assumption
  refine .say ?_ (by simp only [afterMask]; decide)
  assumption

theorem logFeedLost_changes {s : State} {p : PortId} : Changes 1590144 s (logFeedLost s p) := by
  unfold logFeedLost
  refine .ite ?_ ?_
  refine .seq logEv_changes ?_ (by decide)
  exact .refl
  exact .refl

theorem dropFeeds_changes {s : State} : Changes 1590216 s (dropFeeds s) := by
  unfold dropFeeds
  (extract_lets +onlyGivenNames (merge := false) u0; suffices h0 : Changes 1590216 s u0; clear_value u0)
  refine .seq updPower_changes ?_ (by decide)
  assumption
  dsimp -zeta only [u0]
  refine .seq (updBoot_changes ?_) ?_ (by decide)
  exact id
  refine .seq logFeedLost_changes ?_ (by decide)
  refine .seq logFeedLost_changes ?_ (by decide)
  exact .refl

theorem goOff_changes {s : State} : Changes 73 s (goOff s) := by
  unfold goOff
  refine .seq updPower_changes ?_ (by decide)
  refine .seq (updBoot_changes ?_) ?_ (by decide)
  exact id
  refine .seq setPhase_changes ?_ (by decide)
  exact .refl

theorem execPowerFail_changes {s : State} : NextChanges 1933277 s (execPowerFail s) := by
  unfold execPowerFail
  refine .next ?_
  split
  rename_i _ e0
  exact .refl
  rename_i _ _ e1
  refine .seq dropFeeds_changes ?_ (by decide)
  exact .refl
  rename_i _ e2
  refine .seq goOff_changes ?_ (by decide)
  refine .seq dropFeeds_changes ?_ (by decide)
  exact .refl
  refine .seq beginFlush_changes ?_ (by decide)
  refine .seq dropFeeds_changes ?_ (by decide)
  refine .seq stopRun_changes ?_ (by decide)
  exact .refl

theorem writeFlushRec_changes {s : State} {c : FlushCause} {duration : Nat} : Changes 64 s (writeFlushRec s c duration) := by
  unfold writeFlushRec
  refine .seq (updBoot_changes ?_) ?_ (by decide)
  exact id
  exact .refl

theorem execFlushComplete_changes {e : FlushEnd} {s : State} : NextChanges 95695 s (execFlushComplete e s) := by
  unfold execFlushComplete
  refine .next ?_
  split
  rename_i _ _ e0
  (extract_lets +onlyGivenNames (merge := false) u1; suffices h1 : Changes 95695 s u1; clear_value u1)
  (extract_lets +onlyGivenNames (merge := false) u2; suffices h2 : Changes 95695 s u2; clear_value u2)
  (extract_lets +onlyGivenNames (merge := false) u3; suffices h3 : Changes 95695 s u3; clear_value u3)
  (extract_lets +onlyGivenNames (merge := false) u4; suffices h4 : Changes 95695 s u4; clear_value u4)
  refine .ite ?_ ?_
  refine .seq restartNow_changes ?_ (by decide)
  assumption
  refine .seq goOff_changes ?_ (by decide)
  assumption
  dsimp -zeta only [u4]
  refine .ite ?_ ?_
  refine .seq addHealth_changes ?_ (by decide)
  assumption
  assumption
  dsimp -zeta only [u3]
  refine .seq writeFlushRec_changes ?_ (by decide)
  assumption
  dsimp -zeta only [u2]
  refine .ite ?_ ?_
  refine .seq writeRtc_changes ?_ (by decide)
  refine .seq checkpoint_changes ?_ (by decide)
  assumption
  assumption
  dsimp -zeta only [u1]
  refine .seq advanceBy_changes ?_ (by decide)
  refine .seq writeShelter_changes ?_ (by decide)
  exact .refl
  exact .refl

theorem execCapAdmission_changes {s : State} : NextChanges 1703808 s (execCapAdmission s) := by
  unfold execCapAdmission
  refine .next ?_
  refine .seq rerun_changes ?_ (by decide)
  exact .refl

theorem execColdOpen_changes {flashMin : Int} {s : State} : NextChanges 1598344 s (execColdOpen flashMin s) := by
  unfold execColdOpen
  refine .next ?_
  (extract_lets +onlyGivenNames (merge := false) u0; suffices h0 : Changes 1598344 s u0; clear_value u0)
  refine .ite ?_ ?_
  (extract_lets +onlyGivenNames (merge := false) u1; suffices h1 : Changes 1598344 s u1; clear_value u1)
  split
  rename_i _ _ _ e2 e3
  refine .seq replayData_changes ?_ (by decide)
  refine .seq replayLog_changes ?_ (by decide)
  assumption
  assumption
  dsimp -zeta only [u1]
  refine .seq logEv_changes ?_ (by decide)
  refine .seq updPower_changes ?_ (by decide)
  assumption
  assumption
  dsimp -zeta only [u0]
  refine .seq updPower_changes ?_ (by decide)
  exact .refl

theorem execDormantEnter_changes {l : Line} {s : State} : NextChanges 1660877 s (execDormantEnter l s) := by
  unfold execDormantEnter
  refine .next ?_
  refine runCmd_changes (fun u0 n0 h0 => ?_) (by decide)
  (extract_lets +onlyGivenNames (merge := false) w1; clear_value w1)
  (extract_lets +onlyGivenNames (merge := false) w2; clear_value w2)
  refine .ite ?_ ?_
  refine .say0 ?_
  assumption
  refine .ite ?_ ?_
  refine .say0 ?_
  assumption
  (extract_lets +onlyGivenNames (merge := false) u3; suffices h3 : Changes 1660877 s u3; clear_value u3)
  (extract_lets +onlyGivenNames (merge := false) u4; suffices h4 : Changes 1660877 s u4; clear_value u4)
  refine .say ?_ (by simp only [afterMask]; decide)
  assumption
  dsimp -zeta only [u4]
  refine .seq logEv_changes ?_ (by decide)
  assumption
  dsimp -zeta only [u3]
  refine .seq updPort_changes ?_ (by decide)
  refine .seq updPort_changes ?_ (by decide)
  assumption

theorem execWake_changes {p : PortId} {f : EthFrame} {s : State} : NextChanges 71117 s (execWake p f s) := by
  unfold execWake
  refine .next ?_
  refine .ite ?_ ?_
  split
  rename_i _ _ e0
  refine .seq restartNow_changes ?_ (by decide)
  refine .seq updPorts_changes ?_ (by decide)
  exact .refl
  rename_i _ e1
  exact .refl
  exact .refl

theorem execEventLogCopy_changes {s : State} : NextChanges 524288 s (execEventLogCopy s) := by
  unfold execEventLogCopy
  refine .next ?_
  refine .seq copyLog_changes ?_ (by decide)
  exact .refl

/-! ### Machine/StartOps.lean -/

theorem setFails_changes {s : State} {n : Nat} {k : Nat} : Changes 64 s (setFails s n k) := by
  unfold setFails
  refine .ite ?_ ?_
  exact .refl
  refine .seq writeBlock_changes ?_ (by decide)
  exact .refl

theorem countResult_changes {s : State} {n : Nat} {r : StepResult} : Changes 64 s (countResult s n r) := by
  unfold countResult
  refine .ite ?_ ?_
  exact .refl
  split
  refine .seq setFails_changes ?_ (by decide)
  exact .refl
  refine .ite ?_ ?_
  refine .seq setFails_changes ?_ (by decide)
  exact .refl
  refine .ite ?_ ?_
  extract_lets +onlyGivenNames (merge := false) w0
  refine .seq writeBlock_changes ?_ (by decide)
  exact .refl
  exact .refl
  refine .ite ?_ ?_
  exact .refl
  refine .seq setFails_changes ?_ (by decide)
  exact .refl
  refine .seq setFails_changes ?_ (by decide)
  exact .refl
  refine .seq setFails_changes ?_ (by decide)
  exact .refl
  refine .seq setFails_changes ?_ (by decide)
  exact .refl
  exact .refl
  exact .refl
  exact .refl

theorem logStepFail_changes {s : State} {n : Nat} {r : StepResult} {fcount : Nat} {detail : Nat} : Changes 1590144 s (logStepFail s n r fcount detail) := by
  unfold logStepFail
  refine .seq logEv_changes ?_ (by decide)
  exact .refl

theorem countFailedStart_changes {s : State} : Changes 64 s (countFailedStart s) := by
  unfold countFailedStart
  refine .seq writeBlock_changes ?_ (by decide)
  exact .refl

theorem failTrial_changes {s : State} {n : Nat} : Changes 131072 s (failTrial s n) := by
  unfold failTrial
  refine .ite ?_ ?_
  refine .seq trialAttemptFails_changes ?_ (by decide)
  exact .refl
  exact .refl

theorem openConsoles_changes {s : State} : Changes 132 s (openConsoles s) := by
  unfold openConsoles
  (extract_lets +onlyGivenNames (merge := false) u0; suffices h0 : Changes 132 s u0; clear_value u0)
  (extract_lets +onlyGivenNames (merge := false) u1; suffices h1 : Changes 132 s u1; clear_value u1)
  refine .ite ?_ ?_
  refine .seq openConsole_changes ?_ (by decide)
  assumption
  assumption
  dsimp -zeta only [u1]
  refine .ite ?_ ?_
  assumption
  refine .seq openConsole_changes ?_ (by decide)
  assumption
  dsimp -zeta only [u0]
  refine .seq updBay_changes ?_ (by decide)
  exact .refl

theorem standSafe_changes {s : State} : Changes 1591261 s (standSafe s) := by
  unfold standSafe
  (extract_lets +onlyGivenNames (merge := false) u0; suffices h0 : Changes 1591261 s u0; clear_value u0)
  (extract_lets +onlyGivenNames (merge := false) u1; suffices h1 : Changes 1591261 s u1; clear_value u1)
  (extract_lets +onlyGivenNames (merge := false) u2; suffices h2 : Changes 1591261 s u2; clear_value u2)
  refine .seq openConsoles_changes ?_ (by decide)
  assumption
  dsimp -zeta only [u2]
  refine .seq (updBoot_changes ?_) ?_ (by decide)
  exact id
  refine .seq setPhase_changes ?_ (by decide)
  assumption
  dsimp -zeta only [u1]
  refine .seq (updProto_changes ?_) ?_ (by decide)
  exact Nat.le_refl _
  assumption
  dsimp -zeta only [u0]
  refine .seq rebudget_changes ?_ (by decide)
  refine .seq restOff_changes ?_ (by decide)
  refine .seq holdLinks_changes ?_ (by decide)
  exact .refl

theorem enterSafe_changes {s : State} {c : SafeCause} : Changes 1591261 s (enterSafe s c) := by
  unfold enterSafe
  (extract_lets +onlyGivenNames (merge := false) u0; suffices h0 : Changes 1591261 s u0; clear_value u0)
  (extract_lets +onlyGivenNames (merge := false) u1; suffices h1 : Changes 1591261 s u1; clear_value u1)
  refine .seq standSafe_changes ?_ (by decide)
  refine .seq logEv_changes ?_ (by decide)
  assumption
  dsimp -zeta only [u1]
  refine .seq writeBlock_changes ?_ (by decide)
  assumption
  dsimp -zeta only [u0]
  refine .seq putStep_changes ?_ (by decide)
  exact .refl

theorem failStep_changes {s : State} {n : Nat} {r : StepResult} {detail : Nat} : Changes 1791965 s (failStep s n r detail) := by
  unfold failStep
  (extract_lets +onlyGivenNames (merge := false) w0; clear_value w0)
  (extract_lets +onlyGivenNames (merge := false) u1; suffices h1 : Changes 1791965 s u1; clear_value u1)
  (extract_lets +onlyGivenNames (merge := false) u2; suffices h2 : Changes 1791965 s u2; clear_value u2)
  (extract_lets +onlyGivenNames (merge := false) u3; suffices h3 : Changes 1791965 s u3; clear_value u3)
  (extract_lets +onlyGivenNames (merge := false) u4; suffices h4 : Changes 1791965 s u4; clear_value u4)
  split
  rename_i _ _ _ e5
  refine .seq enterSafe_changes ?_ (by decide)
  assumption
  refine .seq restartNow_changes ?_ (by decide)
  assumption
  dsimp -zeta only [u4]
  refine .seq (updBoot_changes ?_) ?_ (by decide)
  exact id
  assumption
  dsimp -zeta only [u3]
  refine .seq failTrial_changes ?_ (by decide)
  refine .seq countFailedStart_changes ?_ (by decide)
  refine .seq logStepFail_changes ?_ (by decide)
  assumption
  dsimp -zeta only [u2]
  refine .seq putStep_changes ?_ (by decide)
  assumption
  dsimp -zeta only [u1]
  refine .seq countResult_changes ?_ (by decide)
  exact .refl

theorem loseWork_changes {s : State} : Changes 106424 s (loseWork s) := by
  unfold loseWork
  (extract_lets +onlyGivenNames (merge := false) u0; suffices h0 : Changes 106424 s u0; clear_value u0)
  (extract_lets +onlyGivenNames (merge := false) u1; suffices h1 : Changes 106424 s u1; clear_value u1)
  (extract_lets +onlyGivenNames (merge := false) u2; suffices h2 : Changes 106424 s u2; clear_value u2)
  (extract_lets +onlyGivenNames (merge := false) u3; suffices h3 : Changes 106424 s u3; clear_value u3)
  (extract_lets +onlyGivenNames (merge := false) u4; suffices h4 : Changes 106424 s u4; clear_value u4)
  (extract_lets +onlyGivenNames (merge := false) u5; suffices h5 : Changes 106424 s u5; clear_value u5)
  (extract_lets +onlyGivenNames (merge := false) u6; suffices h6 : Changes 106424 s u6; clear_value u6)
  (extract_lets +onlyGivenNames (merge := false) u7; suffices h7 : Changes 106424 s u7; clear_value u7)
  refine .seq updIsl_changes ?_ (by decide)
  assumption
  dsimp -zeta only [u7]
  refine .seq updArc_changes ?_ (by decide)
  assumption
  dsimp -zeta only [u6]
  refine .seq (updStalls_changes ?_) ?_ (by decide)
  exact Nat.le_refl _
  assumption
  dsimp -zeta only [u5]
  refine .seq (updKv_changes ?_) ?_ (by decide)
  exact ⟨Nat.le_refl _, Nat.le_refl _, Nat.le_refl _, Nat.le_refl _, Nat.le_refl _⟩
  assumption
  dsimp -zeta only [u4]
  refine .seq (updCfg_changes ?_) ?_ (by decide)
  exact Nat.le_refl _
  assumption
  dsimp -zeta only [u3]
  refine .seq (updProto_changes ?_) ?_ (by decide)
  exact Nat.le_refl _
  assumption
  dsimp -zeta only [u2]
  refine .seq forgetNet_changes ?_ (by decide)
  assumption
  dsimp -zeta only [u1]
  refine .seq updPorts_changes ?_ (by decide)
  assumption
  dsimp -zeta only [u0]
  refine .seq cutOff_changes ?_ (by decide)
  exact .refl

theorem loseRest_changes {s : State} : Changes 489482 s (loseRest s) := by
  unfold loseRest
  (extract_lets +onlyGivenNames (merge := false) w0; clear_value w0)
  (extract_lets +onlyGivenNames (merge := false) u1; suffices h1 : Changes 489482 s u1; clear_value u1)
  (extract_lets +onlyGivenNames (merge := false) u2; suffices h2 : Changes 489482 s u2; clear_value u2)
  (extract_lets +onlyGivenNames (merge := false) u3; suffices h3 : Changes 489482 s u3; clear_value u3)
  (extract_lets +onlyGivenNames (merge := false) u4; suffices h4 : Changes 489482 s u4; clear_value u4)
  (extract_lets +onlyGivenNames (merge := false) u5; suffices h5 : Changes 489482 s u5; clear_value u5)
  (extract_lets +onlyGivenNames (merge := false) u6; suffices h6 : Changes 489482 s u6; clear_value u6)
  (extract_lets +onlyGivenNames (merge := false) u7; suffices h7 : Changes 489482 s u7; clear_value u7)
  (extract_lets +onlyGivenNames (merge := false) u8; suffices h8 : Changes 489482 s u8; clear_value u8)
  (extract_lets +onlyGivenNames (merge := false) w9; clear_value w9)
  (extract_lets +onlyGivenNames (merge := false) u10; suffices h10 : Changes 489482 s u10; clear_value u10)
  refine .seq (updClock_changes ?_) ?_ (by decide)
  exact ⟨Nat.le_refl _, rfl, id⟩
  assumption
  dsimp -zeta only [u10]
  refine .seq updPower_changes ?_ (by decide)
  assumption
  dsimp -zeta only [u8]
  refine .seq (updLife_changes ?_) ?_ (by decide)
  exact ⟨Nat.le_refl _, id⟩
  assumption
  dsimp -zeta only [u7]
  refine .seq (updFw_changes ?_) ?_ (by decide)
  exact fun _ h => h
  assumption
  dsimp -zeta only [u6]
  refine .seq (updRow_changes ?_) ?_ (by decide)
  exact Nat.le_refl _
  assumption
  dsimp -zeta only [u5]
  refine .seq updUpkeep_changes ?_ (by decide)
  assumption
  dsimp -zeta only [u4]
  refine .seq updMedia_changes ?_ (by decide)
  assumption
  dsimp -zeta only [u3]
  refine .seq updMedia_changes ?_ (by decide)
  assumption
  dsimp -zeta only [u2]
  refine .seq (updStalls_changes ?_) ?_ (by decide)
  exact Nat.le_max_left _ _
  assumption
  dsimp -zeta only [u1]
  refine .seq (updKv_changes ?_) ?_ (by decide)
  exact ⟨Nat.le_max_left _ _, Nat.le_max_left _ _, Nat.le_max_left _ _, Nat.le_max_left _ _, Nat.le_refl _⟩
  exact .refl

theorem readRtc_changes {s : State} {r : RtcReading} : Changes 2 s (readRtc s r) := by
  unfold readRtc
  refine .seq (updClock_changes ?_) ?_ (by decide)
  exact ⟨Nat.le_refl _, rfl, id⟩
  exact .refl

theorem gateAlt_changes {s : State} : Changes 1721280 s (gateAlt s) := by
  unfold gateAlt
  (extract_lets +onlyGivenNames (merge := false) w0; clear_value w0)
  extract_lets +onlyGivenNames (merge := false) w1
  refine .ite ?_ ?_
  (extract_lets +onlyGivenNames (merge := false) u2; suffices h2 : Changes 1721280 s u2; clear_value u2)
  (extract_lets +onlyGivenNames (merge := false) u3; suffices h3 : Changes 1721280 s u3; clear_value u3)
  refine .seq logEv_changes ?_ (by decide)
  assumption
  dsimp -zeta only [u3]
  refine .ite ?_ ?_
  assumption
  refine .seq (updFw_changes ?_) ?_ (by decide)
  exact fun _ h => h
  assumption
  dsimp -zeta only [u2]
  refine .seq (updBoot_changes ?_) ?_ (by decide)
  exact id
  exact .refl
  exact .refl

theorem beginStart_changes {s : State} {rtc : RtcReading} : Changes 2097151 s (beginStart s rtc) := by
  unfold beginStart
  (extract_lets +onlyGivenNames (merge := false) u0; suffices h0 : Changes 2097151 s u0; clear_value u0)
  (extract_lets +onlyGivenNames (merge := false) u1; suffices h1 : Changes 2097151 s u1; clear_value u1)
  (extract_lets +onlyGivenNames (merge := false) u2; suffices h2 : Changes 2097151 s u2; clear_value u2)
  (extract_lets +onlyGivenNames (merge := false) u3; suffices h3 : Changes 2097151 s u3; clear_value u3)
  refine .seq gateAlt_changes ?_ (by decide)
  refine .seq putGate_changes ?_ (by decide)
  assumption
  dsimp -zeta only [u3]
  refine .seq updBay_changes ?_ (by decide)
  assumption
  dsimp -zeta only [u2]
  refine .seq setIsl_changes ?_ (by decide)
  refine .seq setPhase_changes ?_ (by decide)
  assumption
  dsimp -zeta only [u1]
  refine .seq (updBoot_changes ?_) ?_ (by decide)
  exact id
  assumption
  dsimp -zeta only [u0]
  refine .seq readRtc_changes ?_ (by decide)
  refine .seq loseRest_changes ?_ (by decide)
  refine .seq loseWork_changes ?_ (by decide)
  exact .refl

theorem putStepAt_changes {s : State} {t : Nat} {startNo : Nat} {step : Nat} {k : RecKind} {r : StepResult} {fcount : Nat} : Changes 64 s (putStepAt s t startNo step k r fcount) := by
  unfold putStepAt
  refine .seq (updBoot_changes ?_) ?_ (by decide)
  exact id
  refine .seq putStep_changes ?_ (by decide)
  exact .refl

theorem copyGate_changes {s01 : GateRec → Nat} {limit : Nat} {past : List GateRec} {y3 : List GateRec} {y4 : Nat} {y5 : State} : Changes 64 y5 (copyGate s01 limit past y3 y4 y5) := by
  induction y3 generalizing s01 limit past y4 y5
  dsimp -zeta only [copyGate]
  exact .refl
  rename_i a as ih
  dsimp -zeta only [copyGate]
  extract_lets +onlyGivenNames (merge := false) w0
  refine .seq ih ?_ (by decide)
  refine .seq putStepAt_changes ?_ (by decide)
  exact .refl

theorem carryEvents_changes {s : State} {was : Nat} : Changes 1573760 s (carryEvents s was) := by
  unfold carryEvents
  extract_lets +onlyGivenNames (merge := false) w0
  extract_lets +onlyGivenNames (merge := false) w1
  (extract_lets +onlyGivenNames (merge := false) w2; clear_value w2)
  (extract_lets +onlyGivenNames (merge := false) u3; suffices h3 : Changes 1573760 s u3; clear_value u3)
  refine .foldl (fun u4 a4 h4 => ?_) ?_
  extract_lets +onlyGivenNames (merge := false) w5
  refine .seq putRecord_changes ?_ (by decide)
  assumption
  assumption
  dsimp -zeta only [u3]
  refine .seq (updLog_changes ?_) ?_ (by decide)
  exact ⟨Nat.le_refl _, logOk_uncarry⟩
  exact .refl

theorem convGate_changes {s : State} {was : Nat} {t0 : Nat} : Changes 16412 s (convGate s was t0) := by
  unfold convGate
  extract_lets +onlyGivenNames (merge := false) w0
  (extract_lets +onlyGivenNames (merge := false) u1; suffices h1 : Changes 16412 s u1; clear_value u1)
  (extract_lets +onlyGivenNames (merge := false) u2; suffices h2 : Changes 16412 s u2; clear_value u2)
  (extract_lets +onlyGivenNames (merge := false) u3; suffices h3 : Changes 16412 s u3; clear_value u3)
  refine .seq updIsl_changes ?_ (by decide)
  assumption
  dsimp -zeta only [u3]
  refine .seq updPower_changes ?_ (by decide)
  assumption
  dsimp -zeta only [u2]
  refine .seq updUpkeep_changes ?_ (by decide)
  assumption
  dsimp -zeta only [u1]
  refine .seq updBay_changes ?_ (by decide)
  exact .refl

theorem resumeLedger_changes {s : State} : Changes 1594334 s (resumeLedger s) := by
  unfold resumeLedger
  (extract_lets +onlyGivenNames (merge := false) w0; clear_value w0)
  (extract_lets +onlyGivenNames (merge := false) w1; clear_value w1)
  extract_lets +onlyGivenNames (merge := false) w2
  extract_lets +onlyGivenNames (merge := false) w3
  (extract_lets +onlyGivenNames (merge := false) w4; clear_value w4)
  extract_lets +onlyGivenNames (merge := false) w5
  (extract_lets +onlyGivenNames (merge := false) w6; clear_value w6)
  extract_lets +onlyGivenNames (merge := false) w7
  extract_lets +onlyGivenNames (merge := false) w8
  (extract_lets +onlyGivenNames (merge := false) w9; clear_value w9)
  (extract_lets +onlyGivenNames (merge := false) u10; suffices h10 : Changes 1594334 s u10; clear_value u10)
  (extract_lets +onlyGivenNames (merge := false) u11; suffices h11 : Changes 1594334 s u11; clear_value u11)
  (extract_lets +onlyGivenNames (merge := false) u12; suffices h12 : Changes 1594334 s u12; clear_value u12)
  (extract_lets +onlyGivenNames (merge := false) u13; suffices h13 : Changes 1594334 s u13; clear_value u13)
  split
  assumption
  (extract_lets +onlyGivenNames (merge := false) u14; suffices h14 : Changes 1594334 s u14; clear_value u14)
  refine .seq logEv_changes ?_ (by decide)
  assumption
  dsimp -zeta only [u14]
  refine .seq (updStalls_changes ?_) ?_ (by decide)
  exact Nat.le_refl _
  assumption
  dsimp -zeta only [u13]
  refine .seq carryEvents_changes ?_ (by decide)
  refine .seq checkpoint_changes ?_ (by decide)
  assumption
  dsimp -zeta only [u12]
  refine .seq convGate_changes ?_ (by decide)
  assumption
  dsimp -zeta only [u11]
  refine .seq (updBoot_changes ?_) ?_ (by decide)
  exact id
  assumption
  dsimp -zeta only [u10]
  refine .seq (updClock_changes ?_) ?_ (by decide)
  exact ⟨Nat.le_max_left _ _, rfl, id⟩
  exact .refl

theorem copyGateRecords_changes {s : State} {k? : Option Ckpt} : Changes 64 s (copyGateRecords s k?) := by
  unfold copyGateRecords
  extract_lets +onlyGivenNames (merge := false) w0
  extract_lets +onlyGivenNames (merge := false) w1
  extract_lets +onlyGivenNames (merge := false) w2
  (extract_lets +onlyGivenNames (merge := false) w3; clear_value w3)
  (extract_lets +onlyGivenNames (merge := false) w4; clear_value w4)
  (extract_lets +onlyGivenNames (merge := false) u5; suffices h5 : Changes 64 s u5; clear_value u5)
  (extract_lets +onlyGivenNames (merge := false) u6; suffices h6 : Changes 64 s u6; clear_value u6)
  (extract_lets +onlyGivenNames (merge := false) u7; suffices h7 : Changes 64 s u7; clear_value u7)
  refine .seq (updBoot_changes ?_) ?_ (by decide)
  exact id
  assumption
  dsimp -zeta only [u7]
  refine .seq copyGate_changes ?_ (by decide)
  assumption
  dsimp -zeta only [u6]
  refine .seq putStepAt_changes ?_ (by decide)
  assumption
  dsimp -zeta only [u5]
  refine .seq copyGate_changes ?_ (by decide)
  exact .refl

theorem countGate_changes {s : State} : Changes 1590208 s (countGate s) := by
  unfold countGate
  (extract_lets +onlyGivenNames (merge := false) w0; clear_value w0)
  (extract_lets +onlyGivenNames (merge := false) u1; suffices h1 : Changes 1590208 s u1; clear_value u1)
  refine .seq (updBoot_changes ?_) ?_ (by decide)
  exact id
  assumption
  dsimp -zeta only [u1]
  refine .foldl (fun u2 a2 h2 => ?_) ?_
  (extract_lets +onlyGivenNames (merge := false) u3; suffices h3 : Changes 1590208 s u3; clear_value u3)
  refine .ite ?_ ?_
  refine .seq countFailedStart_changes ?_ (by decide)
  refine .seq logStepFail_changes ?_ (by decide)
  assumption
  assumption
  dsimp -zeta only [u3]
  refine .seq countResult_changes ?_ (by decide)
  assumption
  exact .refl

theorem examine_changes {s : State} : Changes 1721280 s (examine s) := by
  unfold examine
  extract_lets +onlyGivenNames (merge := false) w0
  (extract_lets +onlyGivenNames (merge := false) w1; clear_value w1)
  (extract_lets +onlyGivenNames (merge := false) w2; clear_value w2)
  (extract_lets +onlyGivenNames (merge := false) w3; clear_value w3)
  (extract_lets +onlyGivenNames (merge := false) u4; suffices h4 : Changes 1721280 s u4; clear_value u4)
  refine .ite ?_ ?_
  assumption
  refine .seq countFailedStart_changes ?_ (by decide)
  assumption
  dsimp -zeta only [u4]
  refine .foldl (fun u5 a5 h5 => ?_) ?_
  refine .ite ?_ ?_
  refine .seq putStep_changes ?_ (by decide)
  assumption
  (extract_lets +onlyGivenNames (merge := false) u6; suffices h6 : Changes 1721280 s u6; clear_value u6)
  (extract_lets +onlyGivenNames (merge := false) u7; suffices h7 : Changes 1721280 s u7; clear_value u7)
  refine .seq failTrial_changes ?_ (by decide)
  refine .seq logStepFail_changes ?_ (by decide)
  assumption
  dsimp -zeta only [u7]
  refine .seq putStep_changes ?_ (by decide)
  assumption
  dsimp -zeta only [u6]
  refine .seq countResult_changes ?_ (by decide)
  assumption
  exact .refl

theorem chooseBlock_changes {s : State} {aOk : Bool} {bOk : Bool} : Changes 1590208 s (chooseBlock s aOk bOk) := by
  unfold chooseBlock
  (extract_lets +onlyGivenNames (merge := false) w0; clear_value w0)
  (extract_lets +onlyGivenNames (merge := false) w1; clear_value w1)
  split
  refine .seq (updBoot_changes ?_) ?_ (by decide)
  exact id
  exact .refl
  refine .seq (updBoot_changes ?_) ?_ (by decide)
  exact id
  exact .refl
  refine .seq (updBoot_changes ?_) ?_ (by decide)
  exact id
  exact .refl
  refine .seq logEv_changes ?_ (by decide)
  refine .seq (updBoot_changes ?_) ?_ (by decide)
  exact id
  exact .refl

theorem noteStart_changes {s : State} : Changes 64 s (noteStart s) := by
  unfold noteStart
  extract_lets +onlyGivenNames (merge := false) w0
  refine .seq (updBoot_changes ?_) ?_ (by decide)
  exact id
  refine .seq writeBlock_changes ?_ (by decide)
  exact .refl

theorem noteFlush_changes {s : State} : Changes 1590208 s (noteFlush s) := by
  unfold noteFlush
  (extract_lets +onlyGivenNames (merge := false) u0; suffices h0 : Changes 1590208 s u0; clear_value u0)
  assumption
  dsimp -zeta only [u0]
  split
  rename_i _ _ e1
  refine .ite ?_ ?_
  exact .refl
  refine .seq logEv_changes ?_ (by decide)
  refine .seq (updBoot_changes ?_) ?_ (by decide)
  exact id
  exact .refl
  rename_i _ e2
  exact .refl

theorem noteWindow_changes {s : State} : Changes 1590148 s (noteWindow s) := by
  unfold noteWindow
  refine .ite ?_ ?_
  (extract_lets +onlyGivenNames (merge := false) w0; clear_value w0)
  refine .seq logEv_changes ?_ (by decide)
  refine .seq updBay_changes ?_ (by decide)
  exact .refl
  exact .refl

theorem restBay_changes {s : State} : Changes 4 s (restBay s) := by
  unfold restBay
  refine .seq updBay_changes ?_ (by decide)
  exact .refl

theorem sampleBay_changes {s : State} {p : BayPins} : Changes 4 s (sampleBay s p) := by
  unfold sampleBay
  refine .seq updBay_changes ?_ (by decide)
  exact .refl

/-! ### Machine/LogOps.lean -/

theorem loseRecord_changes {s : State} {e : LogEntry} : Changes 10240 s (loseRecord s e) := by
  unfold loseRecord
  split
  rename_i _ _ _ e0
  split
  rename_i _ _ _ _ _ e1
  refine .ite ?_ ?_
  refine .seq (updKv_changes ?_) ?_ (by decide)
  exact ⟨Nat.le_refl _, Nat.le_refl _, Nat.le_refl _, Nat.le_refl _, Nat.le_refl _⟩
  exact .refl
  exact .refl
  rename_i _ _ _ _ e2
  exact .refl
  rename_i _ _ _ e3
  refine .seq updMedia_changes ?_ (by decide)
  exact .refl
  exact .refl

theorem replayChain_changes {s : State} {bad : List (Nat × RecFault)} : Changes 1600384 s (replayChain s bad) := by
  unfold replayChain
  (extract_lets +onlyGivenNames (merge := false) w0; clear_value w0)
  (extract_lets +onlyGivenNames (merge := false) w1; clear_value w1)
  (extract_lets +onlyGivenNames (merge := false) u2; suffices h2 : Changes 1600384 s u2; clear_value u2)
  refine .ite ?_ ?_
  assumption
  (extract_lets +onlyGivenNames (merge := false) u3; suffices h3 : Changes 1600384 s u3; clear_value u3)
  (extract_lets +onlyGivenNames (merge := false) w4; clear_value w4)
  refine .seq updMedia_changes ?_ (by decide)
  assumption
  dsimp -zeta only [u3]
  refine .foldl (fun u5 a5 h5 => ?_) ?_
  refine .seq loseRecord_changes ?_ (by decide)
  assumption
  assumption
  dsimp -zeta only [u2]
  refine .foldl (fun u6 a6 h6 => ?_) ?_
  refine .seq logEv_changes ?_ (by decide)
  assumption
  exact .refl

theorem takeScannedMap_changes {s : State} : Changes 8192 s (takeScannedMap s) := by
  unfold takeScannedMap
  (extract_lets +onlyGivenNames (merge := false) w0; clear_value w0)
  refine .seq updMedia_changes ?_ (by decide)
  exact .refl

theorem takeScannedIndex_changes {s : State} : Changes 2048 s (takeScannedIndex s) := by
  unfold takeScannedIndex
  refine .seq (updKv_changes ?_) ?_ (by decide)
  exact ⟨Nat.le_refl _, Nat.le_refl _, Nat.le_refl _, Nat.le_refl _, Nat.le_refl _⟩
  exact .refl

/-! ### Machine/StepOps.lean -/

theorem beginChans_changes {s : State} : Changes 1590208 s (beginChans s) := by
  unfold beginChans
  (extract_lets +onlyGivenNames (merge := false) w0; clear_value w0)
  (extract_lets +onlyGivenNames (merge := false) u1; suffices h1 : Changes 1590208 s u1; clear_value u1)
  refine .foldl (fun u2 a2 h2 => ?_) ?_
  refine .seq logEv_changes ?_ (by decide)
  assumption
  assumption
  dsimp -zeta only [u1]
  refine .seq (updBoot_changes ?_) ?_ (by decide)
  exact id
  exact .refl

theorem beginPorts_changes {s : State} : Changes 1590208 s (beginPorts s) := by
  unfold beginPorts
  extract_lets +onlyGivenNames (merge := false) w0
  (extract_lets +onlyGivenNames (merge := false) w1; clear_value w1)
  (extract_lets +onlyGivenNames (merge := false) u2; suffices h2 : Changes 1590208 s u2; clear_value u2)
  (extract_lets +onlyGivenNames (merge := false) u3; suffices h3 : Changes 1590208 s u3; clear_value u3)
  (extract_lets +onlyGivenNames (merge := false) u4; suffices h4 : Changes 1590208 s u4; clear_value u4)
  refine .foldl (fun u5 a5 h5 => ?_) ?_
  refine .seq train_changes ?_ (by decide)
  assumption
  assumption
  dsimp -zeta only [u4]
  refine .foldl (fun u6 a6 h6 => ?_) ?_
  refine .seq updPort_changes ?_ (by decide)
  assumption
  assumption
  dsimp -zeta only [u3]
  refine .foldl (fun u7 a7 h7 => ?_) ?_
  refine .seq logEv_changes ?_ (by decide)
  assumption
  assumption
  dsimp -zeta only [u2]
  refine .seq (updBoot_changes ?_) ?_ (by decide)
  exact id
  exact .refl

theorem beginStep_changes {s : State} {n : Nat} : Changes 1655746 s (beginStep s n) := by
  unfold beginStep
  (extract_lets +onlyGivenNames (merge := false) u0; suffices h0 : Changes 1655746 s u0; clear_value u0)
  (extract_lets +onlyGivenNames (merge := false) u1; suffices h1 : Changes 1655746 s u1; clear_value u1)
  dsimp only
  split
  refine .seq beginChans_changes ?_ (by decide)
  refine .ite ?_ ?_
  refine .seq logEv_changes ?_ (by decide)
  refine .seq (updBoot_changes ?_) ?_ (by decide)
  exact id
  assumption
  assumption
  refine .seq beginPorts_changes ?_ (by decide)
  refine .ite ?_ ?_
  refine .seq logEv_changes ?_ (by decide)
  refine .seq (updBoot_changes ?_) ?_ (by decide)
  exact id
  assumption
  assumption
  refine .seq beginAll_changes ?_ (by decide)
  refine .ite ?_ ?_
  refine .seq logEv_changes ?_ (by decide)
  refine .seq (updBoot_changes ?_) ?_ (by decide)
  exact id
  assumption
  assumption
  refine .seq refreshNtp_changes ?_ (by decide)
  refine .ite ?_ ?_
  refine .seq logEv_changes ?_ (by decide)
  refine .seq (updBoot_changes ?_) ?_ (by decide)
  exact id
  assumption
  assumption
  refine .seq beginJoin_changes ?_ (by decide)
  refine .ite ?_ ?_
  refine .seq logEv_changes ?_ (by decide)
  refine .seq (updBoot_changes ?_) ?_ (by decide)
  exact id
  assumption
  assumption
  refine .ite ?_ ?_
  refine .seq logEv_changes ?_ (by decide)
  refine .seq (updBoot_changes ?_) ?_ (by decide)
  exact id
  assumption
  assumption
  dsimp -zeta only [u1]
  refine .seq (updBoot_changes ?_) ?_ (by decide)
  exact id
  assumption
  dsimp -zeta only [u0]
  refine .seq putStep_changes ?_ (by decide)
  exact .refl

theorem goFg_changes {s : State} {n : Nat} : Changes 1655746 s (goFg s n) := by
  unfold goFg
  refine .seq beginStep_changes ?_ (by decide)
  refine .seq (updBoot_changes ?_) ?_ (by decide)
  exact id
  exact .refl

theorem goScan_changes {s : State} {n : Nat} : Changes 1655746 s (goScan s n) := by
  unfold goScan
  refine .seq beginStep_changes ?_ (by decide)
  refine .seq (updBoot_changes ?_) ?_ (by decide)
  exact id
  exact .refl

theorem checkpointMap_changes {s : State} : Changes 8192 s (checkpointMap s) := by
  unfold checkpointMap
  extract_lets +onlyGivenNames (merge := false) w0
  extract_lets +onlyGivenNames (merge := false) w1
  refine .foldl (fun u2 a2 h2 => ?_) ?_
  refine .seq stageLog_changes ?_ (by decide)
  refine .seq updMedia_changes ?_ (by decide)
  assumption
  exact .refl

theorem endScan_changes {s : State} : Changes 1663938 s (endScan s) := by
  unfold endScan
  extract_lets +onlyGivenNames (merge := false) w0
  (extract_lets +onlyGivenNames (merge := false) u1; suffices h1 : Changes 1663938 s u1; clear_value u1)
  (extract_lets +onlyGivenNames (merge := false) u2; suffices h2 : Changes 1663938 s u2; clear_value u2)
  refine .ite ?_ ?_
  refine .seq goFg_changes ?_ (by decide)
  assumption
  assumption
  dsimp -zeta only [u2]
  refine .seq (updBoot_changes ?_) ?_ (by decide)
  exact id
  assumption
  dsimp -zeta only [u1]
  refine .seq logEv_changes ?_ (by decide)
  refine .seq checkpointMap_changes ?_ (by decide)
  exact .refl

theorem beginScan_changes {s : State} : Changes 1655746 s (beginScan s) := by
  unfold beginScan
  (extract_lets +onlyGivenNames (merge := false) u0; suffices h0 : Changes 1655746 s u0; clear_value u0)
  refine .seq goFg_changes ?_ (by decide)
  refine .seq (updBoot_changes ?_) ?_ (by decide)
  exact id
  assumption
  dsimp -zeta only [u0]
  refine .seq logEv_changes ?_ (by decide)
  refine .seq goScan_changes ?_ (by decide)
  exact .refl

theorem nextStep_changes {s : State} {n : Nat} : Changes 1663938 s (nextStep s n) := by
  unfold nextStep
  refine .ite ?_ ?_
  refine .ite ?_ ?_
  refine .seq endScan_changes ?_ (by decide)
  exact .refl
  refine .seq goScan_changes ?_ (by decide)
  exact .refl
  split
  refine .ite ?_ ?_
  refine .seq beginScan_changes ?_ (by decide)
  exact .refl
  refine .seq goFg_changes ?_ (by decide)
  exact .refl
  refine .ite ?_ ?_
  refine .seq (updBoot_changes ?_) ?_ (by decide)
  exact id
  exact .refl
  refine .seq goFg_changes ?_ (by decide)
  exact .refl
  refine .seq goFg_changes ?_ (by decide)
  exact .refl

theorem doneRecord_changes {s : State} {n : Nat} {r : StepResult} {detail : Nat} : Changes 64 s (doneRecord s n r detail) := by
  unfold doneRecord
  (extract_lets +onlyGivenNames (merge := false) u0; suffices h0 : Changes 64 s u0; clear_value u0)
  (extract_lets +onlyGivenNames (merge := false) u1; suffices h1 : Changes 64 s u1; clear_value u1)
  refine .seq (updBoot_changes ?_) ?_ (by decide)
  exact id
  assumption
  dsimp -zeta only [u1]
  refine .seq putStep_changes ?_ (by decide)
  assumption
  dsimp -zeta only [u0]
  refine .seq countResult_changes ?_ (by decide)
  exact .refl

theorem endStep_changes {s : State} {n : Nat} {r : StepResult} {detail : Nat} : Changes 1663938 s (endStep s n r detail) := by
  unfold endStep
  refine .seq nextStep_changes ?_ (by decide)
  refine .seq doneRecord_changes ?_ (by decide)
  exact .refl

theorem endS01_changes {s : State} : Changes 1590216 s (endS01 s) := by
  unfold endS01
  (extract_lets +onlyGivenNames (merge := false) u0; suffices h0 : Changes 1590216 s u0; clear_value u0)
  (extract_lets +onlyGivenNames (merge := false) u1; suffices h1 : Changes 1590216 s u1; clear_value u1)
  (extract_lets +onlyGivenNames (merge := false) u2; suffices h2 : Changes 1590216 s u2; clear_value u2)
  refine .ite ?_ ?_
  refine .seq judgeE_changes ?_ (by decide)
  assumption
  refine .seq askMeasure_changes ?_ (by decide)
  assumption
  dsimp -zeta only [u2]
  refine .seq putGate_changes ?_ (by decide)
  assumption
  dsimp -zeta only [u1]
  refine .seq (updBoot_changes ?_) ?_ (by decide)
  exact id
  assumption
  dsimp -zeta only [u0]
  refine .seq putGate_changes ?_ (by decide)
  exact .refl

theorem dropInvalid_changes {s : State} {badCkpts badRecs badEvents : List Nat} :
    Changes 4718658 s (dropInvalid s badCkpts badRecs badEvents) := by
  unfold dropInvalid
  refine .seq (updBoot_changes ?_) ?_ (by decide)
  · exact fun hb => Nat.le_trans (List.length_filter_le _ _) hb
  refine .seq dropCkpts_changes ?_ (by decide)
  refine .seq dropEvents_changes ?_ (by decide)
  exact .refl

theorem endS02_changes {s : State} {r : StepResult} {badCkpts : List Nat} {badRecs : List Nat} {badEvents : List Nat} : Changes 5854174 s (endS02 s r badCkpts badRecs badEvents) := by
  unfold endS02
  (extract_lets +onlyGivenNames (merge := false) u0; suffices h0 : Changes 5854174 s u0; clear_value u0)
  (extract_lets +onlyGivenNames (merge := false) w1; clear_value w1)
  (extract_lets +onlyGivenNames (merge := false) u2; suffices h2 : Changes 5854174 s u2; clear_value u2)
  refine .seq beginStep_changes ?_ (by decide)
  refine .seq copyGateRecords_changes ?_ (by decide)
  refine .seq resumeLedger_changes ?_ (by decide)
  assumption
  dsimp -zeta only [u2]
  refine .seq restBay_changes ?_ (by decide)
  refine .seq setIsl_changes ?_ (by decide)
  refine .seq (updBoot_changes ?_) ?_ (by decide)
  exact id
  assumption
  dsimp -zeta only [u0]
  refine .seq dropInvalid_changes ?_ (by decide)
  refine .seq putGate_changes ?_ (by decide)
  exact .refl

theorem timeoutS02_changes {s : State} {badCkpts : List Nat} {badRecs : List Nat} {badEvents : List Nat} : Changes 5854174 s (timeoutS02 s badCkpts badRecs badEvents) := by
  unfold timeoutS02
  (extract_lets +onlyGivenNames (merge := false) u0; suffices h0 : Changes 5854174 s u0; clear_value u0)
  (extract_lets +onlyGivenNames (merge := false) w1; clear_value w1)
  (extract_lets +onlyGivenNames (merge := false) u2; suffices h2 : Changes 5854174 s u2; clear_value u2)
  (extract_lets +onlyGivenNames (merge := false) u3; suffices h3 : Changes 5854174 s u3; clear_value u3)
  refine .seq endS02_changes ?_ (by decide)
  assumption
  dsimp -zeta only [u3]
  refine .ite ?_ ?_
  assumption
  refine .seq logEv_changes ?_ (by decide)
  assumption
  dsimp -zeta only [u2]
  refine .seq updPower_changes ?_ (by decide)
  assumption
  dsimp -zeta only [u0]
  refine .seq recordE_changes ?_ (by decide)
  exact .refl

theorem settleRecords_changes {s : State} : Changes 1721280 s (settleRecords s) := by
  unfold settleRecords
  refine .seq noteStart_changes ?_ (by decide)
  refine .seq examine_changes ?_ (by decide)
  refine .seq countGate_changes ?_ (by decide)
  exact .refl

theorem restorePolicy_changes {s : State} : Changes 1591176 s (restorePolicy s) := by
  unfold restorePolicy
  (extract_lets +onlyGivenNames (merge := false) w0; clear_value w0)
  refine .ite ?_ ?_
  exact .refl
  refine .seq rebudget_changes ?_ (by decide)
  refine .seq updPower_changes ?_ (by decide)
  exact .refl

theorem dropBadRuns_changes {s : State} {badRuns : List Nat} {badTests : List (Nat × Island)} : Changes 262144 s (dropBadRuns s badRuns badTests) := by
  unfold dropBadRuns
  extract_lets +onlyGivenNames (merge := false) w0
  refine .seq (updLife_changes ?_) ?_ (by decide)
  exact ⟨Nat.le_refl _, id⟩
  exact .refl

theorem closeOpenRuns_changes {s : State} : Changes 262144 s (closeOpenRuns s) := by
  unfold closeOpenRuns
  refine .seq (updLife_changes ?_) ?_ (by decide)
  exact ⟨Nat.le_refl _, id⟩
  exact .refl

theorem noteWake_changes {s : State} : Changes 1590144 s (noteWake s) := by
  unfold noteWake
  split
  rename_i _ _ _ e0
  refine .seq logEv_changes ?_ (by decide)
  refine .seq updPorts_changes ?_ (by decide)
  exact .refl
  rename_i _ e1
  exact .refl

theorem actS03_changes {s : State} {pins : BayPins} {mirrorAgrees : Bool} {aOk : Bool} {bOk : Bool} {fuseFail : List Nat} {badRuns : List Nat} {badTests : List (Nat × Island)} : Changes 2050044 s (actS03 s pins mirrorAgrees aOk bOk fuseFail badRuns badTests) := by
  unfold actS03
  (extract_lets +onlyGivenNames (merge := false) u0; suffices h0 : Changes 2050044 s u0; clear_value u0)
  (extract_lets +onlyGivenNames (merge := false) u1; suffices h1 : Changes 2050044 s u1; clear_value u1)
  (extract_lets +onlyGivenNames (merge := false) u2; suffices h2 : Changes 2050044 s u2; clear_value u2)
  (extract_lets +onlyGivenNames (merge := false) u3; suffices h3 : Changes 2050044 s u3; clear_value u3)
  (extract_lets +onlyGivenNames (merge := false) u4; suffices h4 : Changes 2050044 s u4; clear_value u4)
  (extract_lets +onlyGivenNames (merge := false) u5; suffices h5 : Changes 2050044 s u5; clear_value u5)
  (extract_lets +onlyGivenNames (merge := false) u6; suffices h6 : Changes 2050044 s u6; clear_value u6)
  refine .ite ?_ ?_
  refine .seq lineFaultNow_changes ?_ (by decide)
  assumption
  assumption
  dsimp -zeta only [u6]
  refine .seq openConsoles_changes ?_ (by decide)
  refine .seq sampleBay_changes ?_ (by decide)
  refine .seq noteWake_changes ?_ (by decide)
  assumption
  dsimp -zeta only [u5]
  refine .ite ?_ ?_
  refine .seq burnFuses_changes ?_ (by decide)
  assumption
  assumption
  dsimp -zeta only [u4]
  refine .seq applyIntent_changes ?_ (by decide)
  assumption
  dsimp -zeta only [u3]
  refine .seq noteFlush_changes ?_ (by decide)
  refine .seq noteWindow_changes ?_ (by decide)
  refine .seq restorePolicy_changes ?_ (by decide)
  refine .seq closeOpenRuns_changes ?_ (by decide)
  refine .seq dropBadRuns_changes ?_ (by decide)
  assumption
  dsimp -zeta only [u2]
  refine .ite ?_ ?_
  assumption
  refine .seq logEv_changes ?_ (by decide)
  assumption
  dsimp -zeta only [u1]
  refine .seq updIsl_changes ?_ (by decide)
  assumption
  dsimp -zeta only [u0]
  refine .seq settleRecords_changes ?_ (by decide)
  refine .seq chooseBlock_changes ?_ (by decide)
  exact .refl

theorem endS03_changes {s : State} : Changes 1664991 s (endS03 s) := by
  unfold endS03
  (extract_lets +onlyGivenNames (merge := false) u0; suffices h0 : Changes 1664991 s u0; clear_value u0)
  split
  rename_i _ e1
  refine .seq (updBoot_changes ?_) ?_ (by decide)
  exact id
  refine .seq setPhase_changes ?_ (by decide)
  assumption
  rename_i _ e2
  refine .seq (updBoot_changes ?_) ?_ (by decide)
  exact id
  refine .seq setPhase_changes ?_ (by decide)
  assumption
  refine .ite ?_ ?_
  refine .seq enterSafe_changes ?_ (by decide)
  assumption
  refine .ite ?_ ?_
  refine .seq enterSafe_changes ?_ (by decide)
  assumption
  refine .seq nextStep_changes ?_ (by decide)
  assumption
  dsimp -zeta only [u0]
  refine .seq doneRecord_changes ?_ (by decide)
  exact .refl

theorem countAttempt_changes {s : State} : Changes 1721216 s (countAttempt s) := by
  unfold countAttempt
  refine .ite ?_ ?_
  exact .refl
  (extract_lets +onlyGivenNames (merge := false) u0; suffices h0 : Changes 1721216 s u0; clear_value u0)
  split
  rename_i _ e1
  assumption
  rename_i _ _ e2
  (extract_lets +onlyGivenNames (merge := false) u3; suffices h3 : Changes 1721216 s u3; clear_value u3)
  refine .seq logEv_changes ?_ (by decide)
  assumption
  dsimp -zeta only [u3]
  refine .seq updSlot_changes ?_ (by decide)
  assumption
  dsimp -zeta only [u0]
  refine .seq (updFw_changes ?_) ?_ (by decide)
  exact fun _ h => h
  exact .refl

theorem beginTrial_changes {s : State} : Changes 131072 s (beginTrial s) := by
  unfold beginTrial
  extract_lets +onlyGivenNames (merge := false) w0
  refine .foldl (fun u1 a1 h1 => ?_) ?_
  refine .ite ?_ ?_
  refine .seq updSlot_changes ?_ (by decide)
  assumption
  assumption
  exact .refl

theorem fallBack_changes {s : State} : Changes 1721216 s (fallBack s) := by
  unfold fallBack
  refine .foldl (fun u0 a0 h0 => ?_) ?_
  (extract_lets +onlyGivenNames (merge := false) w1; clear_value w1)
  refine .ite ?_ ?_
  (extract_lets +onlyGivenNames (merge := false) u2; suffices h2 : Changes 1721216 s u2; clear_value u2)
  (extract_lets +onlyGivenNames (merge := false) u3; suffices h3 : Changes 1721216 s u3; clear_value u3)
  split
  rename_i _ _ _ _ e4 e5
  refine .seq (updFw_changes ?_) ?_ (by decide)
  exact fun _ h => h
  assumption
  assumption
  dsimp -zeta only [u3]
  refine .seq updParcel_changes ?_ (by decide)
  assumption
  dsimp -zeta only [u2]
  refine .seq logEv_changes ?_ (by decide)
  refine .seq updSlot_changes ?_ (by decide)
  assumption
  assumption
  exact .refl

theorem selectSlot_changes {s : State} {aOk : Bool} {bOk : Bool} : Changes 1590144 s (selectSlot s aOk bOk).2 := by
  unfold selectSlot
  extract_lets +onlyGivenNames (merge := false) w0
  split
  rename_i _ e1
  dsimp -zeta only
  exact .refl
  rename_i _ _ e2
  split
  rename_i _ _ e3
  dsimp -zeta only
  exact .refl
  (extract_lets +onlyGivenNames (merge := false) u4; suffices h4 : Changes 1590144 s u4; clear_value u4)
  split
  rename_i _ _ _ e5
  split
  rename_i _ _ _ e6
  dsimp -zeta only
  assumption
  dsimp -zeta only
  refine .seq logEv_changes ?_ (by decide)
  assumption
  dsimp -zeta only
  assumption
  dsimp -zeta only [u4]
  refine .seq logEv_changes ?_ (by decide)
  exact .refl

theorem runImage_changes {s : State} {r : Running} : Changes 1729472 s (runImage s r) := by
  unfold runImage
  (extract_lets +onlyGivenNames (merge := false) w0; clear_value w0)
  (extract_lets +onlyGivenNames (merge := false) u1; suffices h1 : Changes 1729472 s u1; clear_value u1)
  (extract_lets +onlyGivenNames (merge := false) u2; suffices h2 : Changes 1729472 s u2; clear_value u2)
  (extract_lets +onlyGivenNames (merge := false) u3; suffices h3 : Changes 1729472 s u3; clear_value u3)
  extract_lets +onlyGivenNames (merge := false) w4
  (extract_lets +onlyGivenNames (merge := false) w5; clear_value w5)
  (extract_lets +onlyGivenNames (merge := false) w6; clear_value w6)
  (extract_lets +onlyGivenNames (merge := false) u7; suffices h7 : Changes 1729472 s u7; clear_value u7)
  split
  rename_i _ e8
  assumption
  rename_i _ _ e9
  (extract_lets +onlyGivenNames (merge := false) w10; clear_value w10)
  split
  refine .seq updMedia_changes ?_ (by decide)
  assumption
  assumption
  dsimp -zeta only [u7]
  refine .ite ?_ ?_
  refine .seq writeBlock_changes ?_ (by decide)
  assumption
  assumption
  dsimp -zeta only [u3]
  refine .ite ?_ ?_
  refine .seq logEv_changes ?_ (by decide)
  assumption
  assumption
  dsimp -zeta only [u2]
  refine .ite ?_ ?_
  assumption
  refine .seq writeBlock_changes ?_ (by decide)
  assumption
  dsimp -zeta only [u1]
  refine .seq (updFw_changes ?_) ?_ (by decide)
  exact fun _ h => h
  exact .refl

theorem actS04_changes {s : State} {aOk : Bool} {bOk : Bool} {recoveryOk : Bool} : Changes 1800159 s (actS04 s aOk bOk recoveryOk) := by
  unfold actS04
  (extract_lets +onlyGivenNames (merge := false) u0; suffices h0 : Changes 1800159 s u0; clear_value u0)
  refine .ite ?_ ?_
  refine .seq enterSafe_changes ?_ (by decide)
  refine .seq doneRecord_changes ?_ (by decide)
  assumption
  refine .ite ?_ ?_
  refine .ite ?_ ?_
  (extract_lets +onlyGivenNames (merge := false) u1; suffices h1 : Changes 1800159 s u1; clear_value u1)
  refine .ite ?_ ?_
  refine .seq enterSafe_changes ?_ (by decide)
  assumption
  refine .seq standSafe_changes ?_ (by decide)
  assumption
  dsimp -zeta only [u1]
  refine .seq doneRecord_changes ?_ (by decide)
  refine .seq runImage_changes ?_ (by decide)
  refine .seq logEv_changes ?_ (by decide)
  assumption
  refine .seq failStep_changes ?_ (by decide)
  assumption
  split
  rename_i _ u2 e3
  refine .seq failStep_changes ?_ (by decide)
  refine .seq staleSlots_changes ?_ (by decide)
  refine Changes.snd ?_ e3
  refine .seq selectSlot_changes ?_ (by decide)
  refine .seq fallBack_changes ?_ (by decide)
  refine .seq beginTrial_changes ?_ (by decide)
  assumption
  rename_i _ _ u4 e5
  (extract_lets +onlyGivenNames (merge := false) u6; suffices h6 : Changes 1800159 s u6; clear_value u6)
  refine .ite ?_ ?_
  refine .seq enterSafe_changes ?_ (by decide)
  assumption
  refine .seq nextStep_changes ?_ (by decide)
  assumption
  dsimp -zeta only [u6]
  refine .seq doneRecord_changes ?_ (by decide)
  refine .seq runImage_changes ?_ (by decide)
  refine .seq staleSlots_changes ?_ (by decide)
  refine Changes.snd ?_ e5
  refine .seq selectSlot_changes ?_ (by decide)
  refine .seq fallBack_changes ?_ (by decide)
  refine .seq beginTrial_changes ?_ (by decide)
  assumption
  dsimp -zeta only [u0]
  refine .seq countAttempt_changes ?_ (by decide)
  exact .refl

theorem loadIsland_changes {results : List TestOutcome} {failed : List Island} {s : State} {i : Island} : Changes 1966047 s (loadIsland results failed s i) := by
  unfold loadIsland
  (extract_lets +onlyGivenNames (merge := false) w0; clear_value w0)
  extract_lets +onlyGivenNames (merge := false) w1
  refine .ite ?_ ?_
  dsimp -zeta only [w1]
  refine .ite ?_ ?_
  refine .seq addTestRec_changes ?_ (by decide)
  exact .refl
  exact .refl
  refine .ite ?_ ?_
  refine .seq deadIsland_changes ?_ (by decide)
  exact .refl
  split
  rename_i _ _ e2
  refine .ite ?_ ?_
  refine .seq setIsl_changes ?_ (by decide)
  exact .refl
  refine .seq setIsl_changes ?_ (by decide)
  refine .seq addTestRec_changes ?_ (by decide)
  exact .refl
  rename_i _ _ e3 e4
  exact .refl
  rename_i _ _ _ e5 e6
  (extract_lets +onlyGivenNames (merge := false) u7; suffices h7 : Changes 1966047 s u7; clear_value u7)
  split
  rename_i _ _ _ _ e8
  refine .seq deadIsland_changes ?_ (by decide)
  assumption
  rename_i _ _ _ _ e9
  (extract_lets +onlyGivenNames (merge := false) u10; suffices h10 : Changes 1966047 s u10; clear_value u10)
  refine .ite ?_ ?_
  refine .seq logEv_changes ?_ (by decide)
  refine .seq updIslRec_changes ?_ (by decide)
  assumption
  assumption
  dsimp -zeta only [u10]
  refine .seq setIsl_changes ?_ (by decide)
  assumption
  refine .seq setIsl_changes ?_ (by decide)
  assumption
  dsimp -zeta only [u7]
  refine .seq addTestRec_changes ?_ (by decide)
  exact .refl

theorem actS07_changes {s : State} {results : List TestOutcome} {failed : List Island} : Changes 1966047 s (actS07 s results failed) := by
  unfold actS07
  refine .ite ?_ ?_
  exact .refl
  (extract_lets +onlyGivenNames (merge := false) u0; suffices h0 : Changes 1966047 s u0; clear_value u0)
  (extract_lets +onlyGivenNames (merge := false) u1; suffices h1 : Changes 1966047 s u1; clear_value u1)
  (extract_lets +onlyGivenNames (merge := false) u2; suffices h2 : Changes 1966047 s u2; clear_value u2)
  (extract_lets +onlyGivenNames (merge := false) u3; suffices h3 : Changes 1966047 s u3; clear_value u3)
  (extract_lets +onlyGivenNames (merge := false) w4; clear_value w4)
  refine .seq endStep_changes ?_ (by decide)
  assumption
  dsimp -zeta only [u3]
  refine .seq updIsl_changes ?_ (by decide)
  assumption
  dsimp -zeta only [u2]
  refine .ite ?_ ?_
  refine .seq closeRun_changes ?_ (by decide)
  assumption
  assumption
  dsimp -zeta only [u1]
  refine .foldl (fun u5 a5 h5 => ?_) ?_
  refine .seq loadIsland_changes ?_ (by decide)
  assumption
  assumption
  dsimp -zeta only [u0]
  refine .ite ?_ ?_
  refine .seq openRun_changes ?_ (by decide)
  exact .refl
  exact .refl

theorem actS08_changes {s : State} {update : Option Bool} : Changes 1800159 s (actS08 s update) := by
  unfold actS08
  split
  rename_i _ e0
  refine .seq endStep_changes ?_ (by decide)
  exact .refl
  rename_i _ _ e1
  refine .ite ?_ ?_
  refine .seq endStep_changes ?_ (by decide)
  exact .refl
  split
  refine .seq failStep_changes ?_ (by decide)
  exact .refl
  refine .ite ?_ ?_
  (extract_lets +onlyGivenNames (merge := false) u2; suffices h2 : Changes 1800159 s u2; clear_value u2)
  refine .ite ?_ ?_
  refine .seq endStep_changes ?_ (by decide)
  assumption
  refine .seq failStep_changes ?_ (by decide)
  assumption
  dsimp -zeta only [u2]
  refine .seq gateOutcome_changes ?_ (by decide)
  exact .refl
  refine .seq failStep_changes ?_ (by decide)
  exact .refl

theorem readEndsOf_changes {failed : List (Fin 16)} {s : State} {c : Fin 16} : Changes 1966047 s (readEndsOf failed s c) := by
  unfold readEndsOf
  (extract_lets +onlyGivenNames (merge := false) w0; clear_value w0)
  extract_lets +onlyGivenNames (merge := false) w1
  extract_lets +onlyGivenNames (merge := false) w2
  refine .ite ?_ ?_
  refine .ite ?_ ?_
  refine .seq deadIsland_changes ?_ (by decide)
  refine .seq logStepFail_changes ?_ (by decide)
  exact .refl
  extract_lets +onlyGivenNames (merge := false) w3
  (extract_lets +onlyGivenNames (merge := false) u4; suffices h4 : Changes 1966047 s u4; clear_value u4)
  refine .seq narrowBeds_changes ?_ (by decide)
  refine .seq updIslRec_changes ?_ (by decide)
  assumption
  dsimp -zeta only [u4]
  refine .seq logStepFail_changes ?_ (by decide)
  dsimp -zeta only [w2]
  refine .ite ?_ ?_
  exact .refl
  refine .seq writeBlock_changes ?_ (by decide)
  exact .refl
  refine .ite ?_ ?_
  refine .ite ?_ ?_
  exact .refl
  extract_lets +onlyGivenNames (merge := false) w5
  refine .seq writeBlock_changes ?_ (by decide)
  exact .refl
  dsimp -zeta only [w2]
  refine .ite ?_ ?_
  exact .refl
  refine .seq writeBlock_changes ?_ (by decide)
  exact .refl

theorem actS09_changes {s : State} {failed : List (Fin 16)} : Changes 1966047 s (actS09 s failed) := by
  unfold actS09
  (extract_lets +onlyGivenNames (merge := false) w0; clear_value w0)
  (extract_lets +onlyGivenNames (merge := false) w1; clear_value w1)
  (extract_lets +onlyGivenNames (merge := false) u2; suffices h2 : Changes 1966047 s u2; clear_value u2)
  (extract_lets +onlyGivenNames (merge := false) w3; clear_value w3)
  refine .seq nextStep_changes ?_ (by decide)
  refine .seq doneRecord_changes ?_ (by decide)
  assumption
  dsimp -zeta only [u2]
  refine .foldl (fun u4 a4 h4 => ?_) ?_
  refine .seq readEndsOf_changes ?_ (by decide)
  assumption
  exact .refl

theorem addStartReads_changes {s : State} : Changes 24576 s (addStartReads s) := by
  unfold addStartReads
  refine .ite ?_ ?_
  exact .refl
  refine .foldl (fun u0 a0 h0 => ?_) ?_
  refine .foldl (fun u1 a1 h1 => ?_) ?_
  refine .seq addReads_changes ?_ (by decide)
  assumption
  assumption
  exact .refl

theorem removeAll_changes {s : State} : Changes 1602432 s (removeAll s) := by
  unfold removeAll
  refine .foldl (fun u0 a0 h0 => ?_) ?_
  (extract_lets +onlyGivenNames (merge := false) u1; suffices h1 : Changes 1602432 s u1; clear_value u1)
  refine .seq logChange_changes ?_ (by decide)
  refine .seq storeStall_changes ?_ (by decide)
  assumption
  dsimp -zeta only [u1]
  refine .seq updStall_changes ?_ (by decide)
  assumption
  exact .refl

theorem actS10_changes {s : State} {mapBad : List (Nat × Nat)} {bad : List (Nat × RecFault)} : Changes 1670082 s (actS10 s mapBad bad) := by
  unfold actS10
  (extract_lets +onlyGivenNames (merge := false) u0; suffices h0 : Changes 1670082 s u0; clear_value u0)
  (extract_lets +onlyGivenNames (merge := false) u1; suffices h1 : Changes 1670082 s u1; clear_value u1)
  (extract_lets +onlyGivenNames (merge := false) u2; suffices h2 : Changes 1670082 s u2; clear_value u2)
  (extract_lets +onlyGivenNames (merge := false) u3; suffices h3 : Changes 1670082 s u3; clear_value u3)
  (extract_lets +onlyGivenNames (merge := false) u4; suffices h4 : Changes 1670082 s u4; clear_value u4)
  refine .seq endStep_changes ?_ (by decide)
  refine .seq renewMarks_changes ?_ (by decide)
  assumption
  dsimp -zeta only [u4]
  refine .foldl (fun u5 a5 h5 => ?_) ?_
  (extract_lets +onlyGivenNames (merge := false) w6; clear_value w6)
  refine .seq updStall_changes ?_ (by decide)
  assumption
  assumption
  dsimp -zeta only [u3]
  refine .ite ?_ ?_
  refine .seq removeAll_changes ?_ (by decide)
  assumption
  assumption
  dsimp -zeta only [u2]
  refine .seq (updBoot_changes ?_) ?_ (by decide)
  exact id
  refine .seq addStartReads_changes ?_ (by decide)
  assumption
  dsimp -zeta only [u1]
  refine .seq replayChain_changes ?_ (by decide)
  assumption
  dsimp -zeta only [u0]
  refine .foldl (fun u7 a7 h7 => ?_) ?_
  refine .seq logEv_changes ?_ (by decide)
  assumption
  exact .refl

theorem actS11_changes {s : State} : Changes 1795010 s (actS11 s) := by
  unfold actS11
  (extract_lets +onlyGivenNames (merge := false) u0; suffices h0 : Changes 1795010 s u0; clear_value u0)
  (extract_lets +onlyGivenNames (merge := false) w1; clear_value w1)
  refine .seq endStep_changes ?_ (by decide)
  refine .seq (updFw_changes ?_) ?_ (by decide)
  exact fun _ h => h
  assumption
  dsimp -zeta only [u0]
  refine .ite ?_ ?_
  refine .seq takeScannedMap_changes ?_ (by decide)
  exact .refl
  exact .refl

theorem loseVersions_changes {s : State} {ks : List ObjKey} : Changes 2048 s (loseVersions s ks) := by
  unfold loseVersions
  refine .seq (updKv_changes ?_) ?_ (by decide)
  exact ⟨Nat.le_refl _, Nat.le_refl _, Nat.le_refl _, Nat.le_refl _, Nat.le_refl _⟩
  exact .refl

theorem replayAt_changes {s : State} {lost : List ObjKey} {r : StepResult} : Changes 1665986 s (replayAt s lost r) := by
  unfold replayAt
  split
  rename_i _ e0
  refine .seq endStep_changes ?_ (by decide)
  exact .refl
  rename_i _ _ e1
  (extract_lets +onlyGivenNames (merge := false) u2; suffices h2 : Changes 1665986 s u2; clear_value u2)
  refine .ite ?_ ?_
  refine .seq endStep_changes ?_ (by decide)
  refine .seq updMedia_changes ?_ (by decide)
  assumption
  refine .seq endStep_changes ?_ (by decide)
  refine .seq replayData_changes ?_ (by decide)
  refine .seq replayLog_changes ?_ (by decide)
  assumption
  dsimp -zeta only [u2]
  refine .seq loseVersions_changes ?_ (by decide)
  exact .refl

theorem actS12_changes {s : State} {lost : List ObjKey} : Changes 1665986 s (actS12 s lost) := by
  unfold actS12
  (extract_lets +onlyGivenNames (merge := false) w0; clear_value w0)
  refine .seq replayAt_changes ?_ (by decide)
  exact .refl

theorem markBlock_changes {charge : Bool} {s : State} {k : BlockId} : Changes 8192 s (markBlock charge s k) := by
  unfold markBlock
  refine .seq updBlock_changes ?_ (by decide)
  exact .refl

theorem actS13_changes {s : State} {samples : List (BlockId × List PageSample)} {badRing : List Nat} : Changes 1800159 s (actS13 s samples badRing) := by
  unfold actS13
  refine .ite ?_ ?_
  refine .seq failStep_changes ?_ (by decide)
  exact .refl
  (extract_lets +onlyGivenNames (merge := false) w0; clear_value w0)
  (extract_lets +onlyGivenNames (merge := false) w1; clear_value w1)
  extract_lets +onlyGivenNames (merge := false) w2
  (extract_lets +onlyGivenNames (merge := false) w3; clear_value w3)
  (extract_lets +onlyGivenNames (merge := false) w4; clear_value w4)
  (extract_lets +onlyGivenNames (merge := false) u5; suffices h5 : Changes 1800159 s u5; clear_value u5)
  (extract_lets +onlyGivenNames (merge := false) u6; suffices h6 : Changes 1800159 s u6; clear_value u6)
  (extract_lets +onlyGivenNames (merge := false) u7; suffices h7 : Changes 1800159 s u7; clear_value u7)
  (extract_lets +onlyGivenNames (merge := false) u8; suffices h8 : Changes 1800159 s u8; clear_value u8)
  dsimp only
  refine .seq endStep_changes ?_ (by decide)
  refine .ite ?_ ?_
  assumption
  refine .foldl (fun u10 a10 h10 => ?_) ?_
  refine .foldl (fun u11 a11 h11 => ?_) ?_
  refine .seq eraseNow_changes ?_ (by decide)
  assumption
  assumption
  assumption
  dsimp -zeta only [u8]
  refine .ite ?_ ?_
  assumption
  refine .seq logEv_changes ?_ (by decide)
  assumption
  dsimp -zeta only [u7]
  refine .seq addHealth_changes ?_ (by decide)
  assumption
  dsimp -zeta only [u6]
  refine .foldl (fun u12 a12 h12 => ?_) ?_
  refine .seq markBlock_changes ?_ (by decide)
  assumption
  refine .foldl (fun u13 a13 h13 => ?_) ?_
  refine .seq markBlock_changes ?_ (by decide)
  assumption
  assumption
  dsimp -zeta only [u5]
  refine .ite ?_ ?_
  refine .seq logEv_changes ?_ (by decide)
  exact .refl
  exact .refl

theorem actS14_changes {s : State} : Changes 1665986 s (actS14 s) := by
  unfold actS14
  (extract_lets +onlyGivenNames (merge := false) u0; suffices h0 : Changes 1665986 s u0; clear_value u0)
  refine .seq endStep_changes ?_ (by decide)
  refine .seq unmap_changes ?_ (by decide)
  assumption
  dsimp -zeta only [u0]
  refine .ite ?_ ?_
  refine .seq takeScannedIndex_changes ?_ (by decide)
  exact .refl
  exact .refl

theorem reloadKey_changes {s : State} {k : ObjKey} {o : Obj} : Changes 32768 s (reloadKey s k o) := by
  unfold reloadKey
  (extract_lets +onlyGivenNames (merge := false) w0; clear_value w0)
  refine .seq rewriteKey_changes ?_ (by decide)
  refine .foldl (fun u1 a1 h1 => ?_) ?_
  refine .seq clearAt_changes ?_ (by decide)
  assumption
  exact .refl

theorem loadArcade_changes {s : State} {empty : List (Fin 16)} : Changes 32768 s (loadArcade s empty) := by
  unfold loadArcade
  (extract_lets +onlyGivenNames (merge := false) w0; clear_value w0)
  extract_lets +onlyGivenNames (merge := false) w1
  (extract_lets +onlyGivenNames (merge := false) w2; clear_value w2)
  (extract_lets +onlyGivenNames (merge := false) u3; suffices h3 : Changes 32768 s u3; clear_value u3)
  (extract_lets +onlyGivenNames (merge := false) u4; suffices h4 : Changes 32768 s u4; clear_value u4)
  (extract_lets +onlyGivenNames (merge := false) u5; suffices h5 : Changes 32768 s u5; clear_value u5)
  refine .seq updArc_changes ?_ (by decide)
  assumption
  dsimp -zeta only [u5]
  refine .foldl (fun u6 a6 h6 => ?_) ?_
  refine .seq reloadKey_changes ?_ (by decide)
  assumption
  assumption
  dsimp -zeta only [u4]
  refine .foldl (fun u7 a7 h7 => ?_) ?_
  refine .foldl (fun u8 a8 h8 => ?_) ?_
  refine .seq clearAt_changes ?_ (by decide)
  assumption
  assumption
  assumption
  dsimp -zeta only [u3]
  refine .seq updArc_changes ?_ (by decide)
  exact .refl

theorem actS15_changes {s : State} {empty : List (Fin 16)} : Changes 1696706 s (actS15 s empty) := by
  unfold actS15
  refine .ite ?_ ?_
  refine .seq endStep_changes ?_ (by decide)
  exact .refl
  (extract_lets +onlyGivenNames (merge := false) w0; clear_value w0)
  (extract_lets +onlyGivenNames (merge := false) u1; suffices h1 : Changes 1696706 s u1; clear_value u1)
  (extract_lets +onlyGivenNames (merge := false) u2; suffices h2 : Changes 1696706 s u2; clear_value u2)
  refine .seq endStep_changes ?_ (by decide)
  assumption
  dsimp -zeta only [u2]
  refine .ite ?_ ?_
  refine .seq logEv_changes ?_ (by decide)
  assumption
  assumption
  dsimp -zeta only [u1]
  refine .seq loadArcade_changes ?_ (by decide)
  exact .refl

theorem actS16_changes {s : State} {mn : Int} {mx : Int} : Changes 1663946 s (actS16 s mn mx) := by
  unfold actS16
  (extract_lets +onlyGivenNames (merge := false) u0; suffices h0 : Changes 1663946 s u0; clear_value u0)
  (extract_lets +onlyGivenNames (merge := false) u1; suffices h1 : Changes 1663946 s u1; clear_value u1)
  (extract_lets +onlyGivenNames (merge := false) w2; clear_value w2)
  (extract_lets +onlyGivenNames (merge := false) u3; suffices h3 : Changes 1663946 s u3; clear_value u3)
  refine .ite ?_ ?_
  refine .ite ?_ ?_
  assumption
  extract_lets +onlyGivenNames (merge := false) w4
  refine .seq logEv_changes ?_ (by decide)
  refine .seq (updBoot_changes ?_) ?_ (by decide)
  exact id
  assumption
  refine .seq endStep_changes ?_ (by decide)
  refine .seq (updBoot_changes ?_) ?_ (by decide)
  exact id
  assumption
  dsimp -zeta only [u3]
  refine .seq updPower_changes ?_ (by decide)
  assumption
  dsimp -zeta only [u1]
  refine .ite ?_ ?_
  refine .seq logEv_changes ?_ (by decide)
  refine .seq updPower_changes ?_ (by decide)
  assumption
  assumption
  dsimp -zeta only [u0]
  refine .seq updPower_changes ?_ (by decide)
  exact .refl

theorem endPort_changes {s : State} {p : PortId} : Changes 1590208 s (endPort s p) := by
  unfold endPort
  (extract_lets +onlyGivenNames (merge := false) w0; clear_value w0)
  (extract_lets +onlyGivenNames (merge := false) w1; clear_value w1)
  extract_lets +onlyGivenNames (merge := false) w2
  extract_lets +onlyGivenNames (merge := false) w3
  refine .ite ?_ ?_
  refine .ite ?_ ?_
  refine .ite ?_ ?_
  exact .refl
  extract_lets +onlyGivenNames (merge := false) w4
  refine .seq writeBlock_changes ?_ (by decide)
  exact .refl
  dsimp -zeta only [w3]
  refine .ite ?_ ?_
  exact .refl
  refine .seq writeBlock_changes ?_ (by decide)
  exact .refl
  refine .ite ?_ ?_
  extract_lets +onlyGivenNames (merge := false) w5
  refine .seq updPort_changes ?_ (by decide)
  refine .seq logStepFail_changes ?_ (by decide)
  dsimp -zeta only [w3]
  refine .ite ?_ ?_
  exact .refl
  refine .seq writeBlock_changes ?_ (by decide)
  exact .refl
  exact .refl

theorem endS17_changes {s : State} : Changes 1663938 s (endS17 s) := by
  unfold endS17
  (extract_lets +onlyGivenNames (merge := false) w0; clear_value w0)
  (extract_lets +onlyGivenNames (merge := false) w1; clear_value w1)
  (extract_lets +onlyGivenNames (merge := false) w2; clear_value w2)
  (extract_lets +onlyGivenNames (merge := false) u3; suffices h3 : Changes 1663938 s u3; clear_value u3)
  (extract_lets +onlyGivenNames (merge := false) w4; clear_value w4)
  refine .seq nextStep_changes ?_ (by decide)
  refine .seq doneRecord_changes ?_ (by decide)
  assumption
  dsimp -zeta only [u3]
  refine .foldl (fun u5 a5 h5 => ?_) ?_
  refine .seq endPort_changes ?_ (by decide)
  assumption
  exact .refl

theorem actS22_changes {s : State} : Changes 1664962 s (actS22 s) := by
  unfold actS22
  refine .seq endStep_changes ?_ (by decide)
  refine .seq (updProto_changes ?_) ?_ (by decide)
  exact Nat.le_refl _
  exact .refl

theorem actS23_changes {s : State} : Changes 1795010 s (actS23 s) := by
  unfold actS23
  (extract_lets +onlyGivenNames (merge := false) w0; clear_value w0)
  refine .ite ?_ ?_
  extract_lets +onlyGivenNames (merge := false) w1
  refine .seq endStep_changes ?_ (by decide)
  refine .seq (updFw_changes ?_) ?_ (by decide)
  exact fun _ h => h
  exact .refl
  refine .seq endStep_changes ?_ (by decide)
  exact .refl

theorem afterReady_changes {s : State} : Changes 1965968 s (afterReady s) := by
  unfold afterReady
  extract_lets +onlyGivenNames (merge := false) w0
  (extract_lets +onlyGivenNames (merge := false) u1; suffices h1 : Changes 1965968 s u1; clear_value u1)
  extract_lets +onlyGivenNames (merge := false) w2
  (extract_lets +onlyGivenNames (merge := false) u3; suffices h3 : Changes 1965968 s u3; clear_value u3)
  (extract_lets +onlyGivenNames (merge := false) u4; suffices h4 : Changes 1965968 s u4; clear_value u4)
  (extract_lets +onlyGivenNames (merge := false) u5; suffices h5 : Changes 1965968 s u5; clear_value u5)
  (extract_lets +onlyGivenNames (merge := false) u6; suffices h6 : Changes 1965968 s u6; clear_value u6)
  (extract_lets +onlyGivenNames (merge := false) u7; suffices h7 : Changes 1965968 s u7; clear_value u7)
  refine .seq gcRefresh_changes ?_ (by decide)
  assumption
  dsimp -zeta only [u7]
  refine .ite ?_ ?_
  refine .seq (updLife_changes ?_) ?_ (by decide)
  exact ⟨Nat.le_refl _, id⟩
  refine .seq (updRow_changes ?_) ?_ (by decide)
  exact Nat.le_refl _
  assumption
  assumption
  dsimp -zeta only [u6]
  refine .foldl (fun u8 a8 h8 => ?_) ?_
  refine .seq destroyStall_changes ?_ (by decide)
  assumption
  assumption
  dsimp -zeta only [u5]
  refine .ite ?_ ?_
  refine .seq logEv_changes ?_ (by decide)
  refine .seq (updRow_changes ?_) ?_ (by decide)
  exact Nat.le_refl _
  assumption
  assumption
  dsimp -zeta only [u4]
  refine .foldl (fun u9 a9 h9 => ?_) ?_
  refine .seq relocFails_changes ?_ (by decide)
  assumption
  assumption
  dsimp -zeta only [u3]
  refine .ite ?_ ?_
  assumption
  refine .seq updMedia_changes ?_ (by decide)
  assumption
  dsimp -zeta only [u1]
  refine .ite ?_ ?_
  exact .refl
  refine .seq logEv_changes ?_ (by decide)
  exact .refl

theorem actS24_changes {s : State} : Changes 1966035 s (actS24 s) := by
  unfold actS24
  (extract_lets +onlyGivenNames (merge := false) u0; suffices h0 : Changes 1966035 s u0; clear_value u0)
  extract_lets +onlyGivenNames (merge := false) w1
  (extract_lets +onlyGivenNames (merge := false) u2; suffices h2 : Changes 1966035 s u2; clear_value u2)
  (extract_lets +onlyGivenNames (merge := false) u3; suffices h3 : Changes 1966035 s u3; clear_value u3)
  (extract_lets +onlyGivenNames (merge := false) u4; suffices h4 : Changes 1966035 s u4; clear_value u4)
  (extract_lets +onlyGivenNames (merge := false) u5; suffices h5 : Changes 1966035 s u5; clear_value u5)
  refine .seq afterReady_changes ?_ (by decide)
  refine .seq meterAfterStart_changes ?_ (by decide)
  assumption
  dsimp -zeta only [u5]
  refine .seq logEv_changes ?_ (by decide)
  assumption
  dsimp -zeta only [u4]
  refine .seq (updBoot_changes ?_) ?_ (by decide)
  exact id
  refine .seq setPhase_changes ?_ (by decide)
  assumption
  dsimp -zeta only [u3]
  refine .ite ?_ ?_
  assumption
  refine .seq writeBlock_changes ?_ (by decide)
  assumption
  dsimp -zeta only [u2]
  refine .seq doneRecord_changes ?_ (by decide)
  assumption
  dsimp -zeta only [u0]
  refine .seq checkpoint_changes ?_ (by decide)
  exact .refl

/-! ### Machine/Start.lean -/

theorem execDetectionVoltage_changes {p : PortId} {rtc : RtcReading} {s : State} : NextChanges 2097151 s (execDetectionVoltage p rtc s) := by
  unfold execDetectionVoltage
  refine .next ?_
  (extract_lets +onlyGivenNames (merge := false) u0; suffices h0 : Changes 2097151 s u0; clear_value u0)
  refine .ite ?_ ?_
  assumption
  refine .seq beginStart_changes ?_ (by decide)
  assumption
  dsimp -zeta only [u0]
  refine .seq updFeed_changes ?_ (by decide)
  exact .refl

theorem execPortPowerOn_changes {p : PortId} {classEvents : Nat} {s : State} : NextChanges 1591240 s (execPortPowerOn p classEvents s) := by
  unfold execPortPowerOn
  refine .next ?_
  refine .seq powerPort_changes ?_ (by decide)
  exact .refl

theorem execStartBegin_changes {rtc : RtcReading} {s : State} : NextChanges 2097151 s (execStartBegin rtc s) := by
  unfold execStartBegin
  refine .next ?_
  refine .ite ?_ ?_
  (extract_lets +onlyGivenNames (merge := false) u0; suffices h0 : Changes 2097151 s u0; clear_value u0)
  (extract_lets +onlyGivenNames (merge := false) w1; clear_value w1)
  refine .seq (updBoot_changes ?_) ?_ (by decide)
  exact id
  assumption
  dsimp -zeta only [u0]
  refine .seq beginStart_changes ?_ (by decide)
  exact .refl
  exact .refl

theorem takeLead_changes {s : State} {p : PortId} : Changes 1591176 s (takeLead s p) := by
  unfold takeLead
  (extract_lets +onlyGivenNames (merge := false) u0; suffices h0 : Changes 1591176 s u0; clear_value u0)
  refine .seq noteStandby_changes ?_ (by decide)
  refine .ite ?_ ?_
  refine .seq applyBudget_changes ?_ (by decide)
  assumption
  (extract_lets +onlyGivenNames (merge := false) w1; clear_value w1)
  refine .seq noteBudget_changes ?_ (by decide)
  refine .seq updPower_changes ?_ (by decide)
  assumption
  dsimp -zeta only [u0]
  refine .seq updPower_changes ?_ (by decide)
  exact .refl

theorem execLeadSelect_changes {s : State} : NextChanges 1591178 s (execLeadSelect s) := by
  unfold execLeadSelect
  refine .next ?_
  refine .ite ?_ ?_
  split
  rename_i _ e0
  exact .refl
  rename_i _ _ e1
  (extract_lets +onlyGivenNames (merge := false) u2; suffices h2 : Changes 1591178 s u2; clear_value u2)
  split
  rename_i _ _ _ e3
  assumption
  rename_i _ _ _ _ e4
  refine .seq takeLead_changes ?_ (by decide)
  assumption
  dsimp -zeta only [u2]
  refine .seq advanceTo_changes ?_ (by decide)
  exact .refl
  exact .refl

theorem execS01BudgetMet_changes {s : State} : NextChanges 1590216 s (execS01BudgetMet s) := by
  unfold execS01BudgetMet
  refine .next ?_
  refine .ite ?_ ?_
  refine .seq endS01_changes ?_ (by decide)
  exact .refl
  exact .refl

theorem actS21_changes {s : State} : Changes 1663938 s (actS21 s) := by
  unfold actS21
  refine .ite ?_ ?_
  refine .seq endStep_changes ?_ (by decide)
  exact .refl
  split
  rename_i _ e0
  refine .seq endStep_changes ?_ (by decide)
  exact .refl
  rename_i _ e1
  refine .seq endStep_changes ?_ (by decide)
  exact .refl
  exact .refl

theorem plainStep_changes {s : State} {n : Nat} : Changes 6291423 s (plainStep s n) := by
  unfold plainStep
  split
  refine .ite ?_ ?_
  refine .seq endS01_changes ?_ (by decide)
  exact .refl
  exact .refl
  refine .ite ?_ ?_
  refine .seq endS02_changes ?_ (by decide)
  exact .refl
  exact .refl
  refine .seq endStep_changes ?_ (by decide)
  refine .seq setIsl_changes ?_ (by decide)
  exact .refl
  refine .seq endStep_changes ?_ (by decide)
  refine .seq setIsl_changes ?_ (by decide)
  exact .refl
  refine .seq actS11_changes ?_ (by decide)
  exact .refl
  refine .seq actS14_changes ?_ (by decide)
  exact .refl
  refine .ite ?_ ?_
  refine .seq endS17_changes ?_ (by decide)
  exact .refl
  exact .refl
  refine .ite ?_ ?_
  refine .seq endStep_changes ?_ (by decide)
  exact .refl
  exact .refl
  refine .ite ?_ ?_
  refine .seq endStep_changes ?_ (by decide)
  exact .refl
  exact .refl
  refine .ite ?_ ?_
  refine .seq endStep_changes ?_ (by decide)
  exact .refl
  exact .refl
  refine .seq actS21_changes ?_ (by decide)
  exact .refl
  refine .seq actS22_changes ?_ (by decide)
  exact .refl
  refine .seq actS23_changes ?_ (by decide)
  exact .refl
  refine .seq actS24_changes ?_ (by decide)
  exact .refl
  exact .refl

theorem finishStep_changes {s : State} {y1 : StepData} : Changes 6291455 s (finishStep s y1) := by
  unfold finishStep
  split
  refine .seq plainStep_changes ?_ (by decide)
  exact .refl
  refine .ite ?_ ?_
  refine .seq endS02_changes ?_ (by decide)
  exact .refl
  exact .refl
  refine .seq endS03_changes ?_ (by decide)
  refine .seq actS03_changes ?_ (by decide)
  exact .refl
  refine .seq actS04_changes ?_ (by decide)
  exact .refl
  refine .seq actS07_changes ?_ (by decide)
  exact .refl
  refine .seq actS08_changes ?_ (by decide)
  exact .refl
  refine .seq actS09_changes ?_ (by decide)
  exact .refl
  refine .seq actS10_changes ?_ (by decide)
  exact .refl
  refine .seq actS12_changes ?_ (by decide)
  exact .refl
  refine .seq actS13_changes ?_ (by decide)
  exact .refl
  refine .seq actS15_changes ?_ (by decide)
  exact .refl
  refine .seq actS16_changes ?_ (by decide)
  exact .refl

theorem execStartStepComplete_changes {d : StepData} {s : State} : NextChanges 6291455 s (execStartStepComplete d s) := by
  unfold execStartStepComplete
  refine .next ?_
  refine .ite ?_ ?_
  refine .seq finishStep_changes ?_ (by decide)
  exact .refl
  exact .refl

theorem failS01_changes {s : State} : Changes 71117 s (failS01 s) := by
  unfold failS01
  (extract_lets +onlyGivenNames (merge := false) w0; clear_value w0)
  (extract_lets +onlyGivenNames (merge := false) u1; suffices h1 : Changes 71117 s u1; clear_value u1)
  refine .ite ?_ ?_
  refine .seq goOff_changes ?_ (by decide)
  assumption
  refine .seq restartNow_changes ?_ (by decide)
  assumption
  dsimp -zeta only [u1]
  refine .seq putGate_changes ?_ (by decide)
  exact .refl

theorem stepFailed_changes {s : State} {n : Nat} {r : StepResult} {detail : Nat} : Changes 2097119 s (stepFailed s n r detail) := by
  unfold stepFailed
  split
  refine .seq failStep_changes ?_ (by decide)
  refine .seq noteWindow_changes ?_ (by decide)
  refine .seq settleRecords_changes ?_ (by decide)
  exact .refl
  refine .ite ?_ ?_
  refine .seq replayAt_changes ?_ (by decide)
  exact .refl
  refine .seq failStep_changes ?_ (by decide)
  exact .refl
  refine .ite ?_ ?_
  refine .seq endStep_changes ?_ (by decide)
  refine .seq deadIsland_changes ?_ (by decide)
  exact .refl
  refine .seq failStep_changes ?_ (by decide)
  exact .refl
  refine .seq failStep_changes ?_ (by decide)
  exact .refl

theorem execStartStepFail_changes {n : Nat} {detail : Nat} {s : State} : NextChanges 2097119 s (execStartStepFail n detail s) := by
  unfold execStartStepFail
  refine .next ?_
  refine .ite ?_ ?_
  exact .refl
  split
  refine .seq failS01_changes ?_ (by decide)
  exact .refl
  exact .refl
  exact .refl
  exact .refl
  exact .refl
  exact .refl
  exact .refl
  exact .refl
  refine .seq stepFailed_changes ?_ (by decide)
  exact .refl

theorem timeoutStep_changes {s : State} {n : Nat} {d : StepData} : Changes 6291423 s (timeoutStep s n d) := by
  unfold timeoutStep
  split
  refine .seq timeoutS02_changes ?_ (by decide)
  exact .refl
  refine .seq actS09_changes ?_ (by decide)
  exact .refl
  refine .seq endStep_changes ?_ (by decide)
  exact .refl
  refine .seq endStep_changes ?_ (by decide)
  exact .refl
  refine .seq endStep_changes ?_ (by decide)
  exact .refl
  refine .ite ?_ ?_
  refine .seq endStep_changes ?_ (by decide)
  exact .refl
  refine .seq endStep_changes ?_ (by decide)
  split
  rename_i _ _ e0
  refine .seq leadAlone_changes ?_ (by decide)
  exact .refl
  exact .refl
  refine .seq stepFailed_changes ?_ (by decide)
  exact .refl

theorem execStartStepTimeout_changes {n : Nat} {d : StepData} {s : State} : NextChanges 6291423 s (execStartStepTimeout n d s) := by
  unfold execStartStepTimeout
  refine .next ?_
  refine .ite ?_ ?_
  refine .seq failStep_changes ?_ (by decide)
  refine .seq advanceTo_changes ?_ (by decide)
  exact .refl
  refine .ite ?_ ?_
  exact .refl
  split
  rename_i _ e0
  exact .refl
  rename_i _ _ e1
  refine .seq timeoutStep_changes ?_ (by decide)
  refine .seq advanceTo_changes ?_ (by decide)
  exact .refl

theorem execLldpAllocation_changes {p : PortId} {alloc : Nat} {s : State} : NextChanges 1664970 s (execLldpAllocation p alloc s) := by
  unfold execLldpAllocation
  refine .next ?_
  (extract_lets +onlyGivenNames (merge := false) u0; suffices h0 : Changes 1664970 s u0; clear_value u0)
  refine .ite ?_ ?_
  refine .seq endStep_changes ?_ (by decide)
  assumption
  assumption
  dsimp -zeta only [u0]
  refine .ite ?_ ?_
  refine .seq takeAllocation_changes ?_ (by decide)
  exact .refl
  exact .refl

theorem execStartHotHold_changes {s : State} : NextChanges 1590210 s (execStartHotHold s) := by
  unfold execStartHotHold
  refine .next ?_
  split
  rename_i _ e0
  exact .refl
  rename_i _ _ e1
  (extract_lets +onlyGivenNames (merge := false) u2; suffices h2 : Changes 1590210 s u2; clear_value u2)
  extract_lets +onlyGivenNames (merge := false) w3
  refine .seq logEv_changes ?_ (by decide)
  refine .seq (updBoot_changes ?_) ?_ (by decide)
  exact id
  assumption
  dsimp -zeta only [u2]
  refine .seq advanceTo_changes ?_ (by decide)
  exact .refl

theorem execS17LinkRetry_changes {s : State} : NextChanges 256 s (execS17LinkRetry s) := by
  unfold execS17LinkRetry
  refine .next ?_
  refine .ite ?_ ?_
  refine .foldl (fun u0 a0 h0 => ?_) ?_
  refine .seq train_changes ?_ (by decide)
  assumption
  exact .refl
  exact .refl

theorem execS17Complete_changes {energy0 : Bool} {energy1 : Bool} {s : State} : NextChanges 1663938 s (execS17Complete energy0 energy1 s) := by
  unfold execS17Complete
  refine .next ?_
  refine .ite ?_ ?_
  exact .refl
  split
  rename_i _ e0
  exact .refl
  rename_i _ _ e1
  (extract_lets +onlyGivenNames (merge := false) u2; suffices h2 : Changes 1663938 s u2; clear_value u2)
  (extract_lets +onlyGivenNames (merge := false) u3; suffices h3 : Changes 1663938 s u3; clear_value u3)
  refine .seq endS17_changes ?_ (by decide)
  refine .seq updPort_changes ?_ (by decide)
  assumption
  dsimp -zeta only [u3]
  refine .seq updPort_changes ?_ (by decide)
  assumption
  dsimp -zeta only [u2]
  refine .seq advanceTo_changes ?_ (by decide)
  exact .refl

theorem execStartShow_changes {l : Line} {s : State} : NextChanges 1594240 s (execStartShow l s) := by
  unfold execStartShow
  refine .next ?_
  refine .seq showCmd_changes ?_ (by decide)
  exact .refl

theorem execLedgerShow_changes {l : Line} {start : Option Nat} {s : State} : NextChanges 1594240 s (execLedgerShow l start s) := by
  unfold execLedgerShow
  refine .next ?_
  refine .seq showCmd_changes ?_ (by decide)
  exact .refl

theorem execStartClear_changes {l : Line} {s : State} : NextChanges 1856448 s (execStartClear l s) := by
  unfold execStartClear
  refine .next ?_
  refine runCmd_changes (fun u0 n0 h0 => ?_) (by decide)
  (extract_lets +onlyGivenNames (merge := false) u1; suffices h1 : Changes 1856448 s u1; clear_value u1)
  extract_lets +onlyGivenNames (merge := false) w2
  (extract_lets +onlyGivenNames (merge := false) u3; suffices h3 : Changes 1856448 s u3; clear_value u3)
  (extract_lets +onlyGivenNames (merge := false) u4; suffices h4 : Changes 1856448 s u4; clear_value u4)
  refine .say0 ?_
  refine .seq logEv_changes ?_ (by decide)
  assumption
  dsimp -zeta only [u4]
  refine .seq (updLife_changes ?_) ?_ (by decide)
  exact ⟨Nat.le_refl _, id⟩
  assumption
  dsimp -zeta only [u3]
  refine .seq putStep_changes ?_ (by decide)
  assumption
  dsimp -zeta only [u1]
  refine .seq writeBlock_changes ?_ (by decide)
  assumption

end Sys2Proof.Laws
end

