-- ==== Sys2Proof/Laws/Changes5.lean ====
section
/-!
SUPPORT. What each definition that changes the state may change, one lemma per definition; the mask of a lemma is the union
of the masks of what the definition calls. Of Machine/: Meter, Net, Time, Row, Fw, CfgOps, CfgRows, Proto, Stalls.
-/

namespace Sys2Proof.Laws

open Sys2Proof Machine

set_option linter.unusedVariables false

/-! ### Machine/Meter.lean -/

theorem execMeterTick_changes {s : State} : NextChanges 1602434 s (execMeterTick s) := by
  unfold execMeterTick
  refine .next ?_
  (extract_lets +onlyGivenNames (merge := false) u0; suffices h0 : Changes 1602434 s u0; clear_value u0)
  refine .ite ?_ ?_
  refine .foldl (fun u1 a1 h1 => ?_) ?_
  refine .seq meterSecond_changes ?_ (by decide)
  assumption
  assumption
  refine .ite ?_ ?_
  refine .foldl (fun u2 a2 h2 => ?_) ?_
  refine .seq chargeStored_changes ?_ (by decide)
  assumption
  assumption
  assumption
  dsimp -zeta only [u0]
  refine .seq advanceBy_changes ?_ (by decide)
  exact .refl

theorem execMeterShow_changes {l : Line} {stall : Int} {s : State} : NextChanges 1594240 s (execMeterShow l stall s) := by
  unfold execMeterShow
  refine .next ?_
  refine .seq showCmd_changes ?_ (by decide)
  exact .refl

theorem execMeterRecords_changes {l : Line} {stall : Int} {from_ : Option Nat} {count : Option Int} {raw : Bool} {s : State} : NextChanges 1594240 s (execMeterRecords l stall from_ count raw s) := by
  unfold execMeterRecords
  (extract_lets +onlyGivenNames (merge := false) w0; clear_value w0)
  refine .next ?_
  refine .seq showCmd_changes ?_ (by decide)
  exact .refl

/-! ### Machine/Net.lean -/

theorem bind4_changes {s : State} {k : IfNo} {a : IpAddr} {server : IpAddr} {gw : IpAddr} {maskLen : Nat} {lease : Nat} {ntp : List IpAddr} : Changes 1590146 s (bind4 s k a server gw maskLen lease ntp) := by
  unfold bind4
  (extract_lets +onlyGivenNames (merge := false) u0; suffices h0 : Changes 1590146 s u0; clear_value u0)
  (extract_lets +onlyGivenNames (merge := false) u1; suffices h1 : Changes 1590146 s u1; clear_value u1)
  refine .ite ?_ ?_
  refine .seq updIfc_changes ?_ (by decide)
  assumption
  refine .seq addAddr_changes ?_ (by decide)
  assumption
  dsimp -zeta only [u1]
  refine .seq refreshNtp_changes ?_ (by decide)
  assumption
  dsimp -zeta only [u0]
  refine .seq updIfc_changes ?_ (by decide)
  exact .refl

theorem execDhcpv4Receive_changes {k : IfNo} {m : Dhcp4} {s : State} : NextChanges 1605506 s (execDhcpv4Receive k m s) := by
  unfold execDhcpv4Receive
  refine .next ?_
  refine .ite ?_ ?_
  exact .refl
  (extract_lets +onlyGivenNames (merge := false) w0; clear_value w0)
  split
  refine .ite ?_ ?_
  refine .seq request4_changes ?_ (by decide)
  refine .seq updIfc_changes ?_ (by decide)
  exact .refl
  exact .refl
  split
  rename_i _ _ _ _ _ _ _ _ _ _ e1
  refine .seq bind4_changes ?_ (by decide)
  exact .refl
  rename_i _ _ _ _ _ _ _ _ _ _ e2
  refine .seq bind4_changes ?_ (by decide)
  exact .refl
  rename_i _ _ _ _ _ _ _ _ _ _ e3
  refine .seq bind4_changes ?_ (by decide)
  exact .refl
  exact .refl
  split
  rename_i _ _ e4
  refine .seq discover_changes ?_ (by decide)
  exact .refl
  rename_i _ _ e5
  refine .seq discover_changes ?_ (by decide)
  exact .refl
  rename_i _ _ e6
  (extract_lets +onlyGivenNames (merge := false) w7; clear_value w7)
  refine .seq discover_changes ?_ (by decide)
  refine .foldl (fun u8 a8 h8 => ?_) ?_
  refine .seq removeAddr_changes ?_ (by decide)
  assumption
  exact .refl
  exact .refl

theorem execDhcpRetransmit_changes {k : IfNo} {s : State} : NextChanges 770 s (execDhcpRetransmit k s) := by
  unfold execDhcpRetransmit
  refine .next ?_
  refine .ite ?_ ?_
  exact .refl
  (extract_lets +onlyGivenNames (merge := false) w0; clear_value w0)
  (extract_lets +onlyGivenNames (merge := false) u1; suffices h1 : Changes 770 s u1; clear_value u1)
  split
  rename_i _ e2
  assumption
  rename_i _ e3
  refine .seq solicit_changes ?_ (by decide)
  assumption
  rename_i _ e4
  refine .seq request6_changes ?_ (by decide)
  assumption
  rename_i _ e5
  refine .seq request6_changes ?_ (by decide)
  assumption
  dsimp -zeta only [u1]
  split
  rename_i _ e6
  exact .refl
  rename_i _ e7
  refine .seq discover_changes ?_ (by decide)
  refine .seq advanceTo_changes ?_ (by decide)
  exact .refl
  rename_i _ e8
  refine .seq discover_changes ?_ (by decide)
  exact .refl
  rename_i _ e9
  split
  rename_i _ _ _ e10
  refine .seq request4_changes ?_ (by decide)
  exact .refl
  rename_i _ _ e11
  refine .seq discover_changes ?_ (by decide)
  exact .refl
  rename_i _ e12
  split
  rename_i _ _ _ e13
  refine .seq request4_changes ?_ (by decide)
  refine .seq updIfc_changes ?_ (by decide)
  exact .refl
  rename_i _ _ e14
  exact .refl
  rename_i _ e15
  split
  rename_i _ _ _ e16
  refine .seq request4_changes ?_ (by decide)
  refine .seq updIfc_changes ?_ (by decide)
  exact .refl
  rename_i _ _ e17
  exact .refl

theorem addrOverLimit_changes {s : State} {k : IfNo} {a : IpAddr} : Changes 1590144 s (addrOverLimit s k a) := by
  unfold addrOverLimit
  refine .ite ?_ ?_
  exact .refl
  refine .seq logEv_changes ?_ (by decide)
  refine .seq updIfc_changes ?_ (by decide)
  exact .refl

theorem execDhcpv6Receive_changes {k : IfNo} {m : Dhcp6} {s : State} : NextChanges 1590146 s (execDhcpv6Receive k m s) := by
  unfold execDhcpv6Receive
  refine .next ?_
  refine .ite ?_ ?_
  exact .refl
  (extract_lets +onlyGivenNames (merge := false) w0; clear_value w0)
  split
  refine .ite ?_ ?_
  refine .seq request6_changes ?_ (by decide)
  refine .seq updIfc_changes ?_ (by decide)
  exact .refl
  exact .refl
  (extract_lets +onlyGivenNames (merge := false) u1; suffices h1 : Changes 1590146 s u1; clear_value u1)
  split
  rename_i _ _ _ _ _ _ _ _ _ e2
  assumption
  rename_i _ _ _ _ _ _ _ _ _ e3
  assumption
  refine .seq updIfc_changes ?_ (by decide)
  assumption
  (extract_lets +onlyGivenNames (merge := false) u4; suffices h4 : Changes 1590146 s u4; clear_value u4)
  refine .ite ?_ ?_
  refine .seq updIfc_changes ?_ (by decide)
  assumption
  refine .ite ?_ ?_
  refine .seq logEv_changes ?_ (by decide)
  refine .seq sendIp_changes ?_ (by decide)
  refine .seq updIfc_changes ?_ (by decide)
  assumption
  refine .ite ?_ ?_
  refine .seq addrOverLimit_changes ?_ (by decide)
  assumption
  refine .seq addAddr_changes ?_ (by decide)
  assumption
  dsimp -zeta only [u4]
  refine .seq updIfc_changes ?_ (by decide)
  assumption
  dsimp -zeta only [u1]
  refine .seq refreshNtp_changes ?_ (by decide)
  refine .ite ?_ ?_
  exact .refl
  refine .seq updIfc_changes ?_ (by decide)
  exact .refl

theorem takePrefix_changes {k : IfNo} {s : State} {x : RaPrefix} : Changes 1590144 s (takePrefix k s x) := by
  unfold takePrefix
  refine .ite ?_ ?_
  exact .refl
  (extract_lets +onlyGivenNames (merge := false) w0; clear_value w0)
  refine .ite ?_ ?_
  refine .seq updIfc_changes ?_ (by decide)
  exact .refl
  refine .ite ?_ ?_
  exact .refl
  refine .ite ?_ ?_
  refine .seq addrOverLimit_changes ?_ (by decide)
  exact .refl
  refine .seq addAddr_changes ?_ (by decide)
  exact .refl

theorem execRouterAdvertisement_changes {k : IfNo} {ra : RouterAdv} {s : State} : NextChanges 1590144 s (execRouterAdvertisement k ra s) := by
  unfold execRouterAdvertisement
  refine .next ?_
  refine .ite ?_ ?_
  exact .refl
  extract_lets +onlyGivenNames (merge := false) w0
  (extract_lets +onlyGivenNames (merge := false) w1; clear_value w1)
  (extract_lets +onlyGivenNames (merge := false) u2; suffices h2 : Changes 1590144 s u2; clear_value u2)
  (extract_lets +onlyGivenNames (merge := false) u3; suffices h3 : Changes 1590144 s u3; clear_value u3)
  refine .ite ?_ ?_
  refine .ite ?_ ?_
  refine .seq solicit_changes ?_ (by decide)
  assumption
  assumption
  refine .ite ?_ ?_
  (extract_lets +onlyGivenNames (merge := false) u4; suffices h4 : Changes 1590144 s u4; clear_value u4)
  refine .ite ?_ ?_
  assumption
  refine .seq updIfc_changes ?_ (by decide)
  assumption
  dsimp -zeta only [u4]
  refine .ite ?_ ?_
  refine .seq sendIp_changes ?_ (by decide)
  assumption
  assumption
  assumption
  dsimp -zeta only [u3]
  refine .foldl (fun u5 a5 h5 => ?_) ?_
  refine .seq takePrefix_changes ?_ (by decide)
  assumption
  assumption
  dsimp -zeta only [u2]
  refine .seq updIfc_changes ?_ (by decide)
  exact .refl

theorem execRaTimeout_changes {k : IfNo} {s : State} : NextChanges 768 s (execRaTimeout k s) := by
  unfold execRaTimeout
  refine .next ?_
  refine .ite ?_ ?_
  refine .seq updIfc_changes ?_ (by decide)
  refine .seq solicitRouter_changes ?_ (by decide)
  refine .seq solicitRouter_changes ?_ (by decide)
  exact .refl
  exact .refl

theorem setAddr_changes {s : State} {k : IfNo} {a : IpAddr} {st : AddrState} {retry : Option Nat} : Changes 512 s (setAddr s k a st retry) := by
  unfold setAddr
  extract_lets +onlyGivenNames (merge := false) w0
  refine .seq updIfc_changes ?_ (by decide)
  exact .refl

theorem execAddrProbeDone_changes {k : IfNo} {a : IpAddr} {s : State} : NextChanges 1605506 s (execAddrProbeDone k a s) := by
  unfold execAddrProbeDone
  refine .next ?_
  split
  rename_i _ e0
  exact .refl
  rename_i _ _ e1
  refine .ite ?_ ?_
  (extract_lets +onlyGivenNames (merge := false) u2; suffices h2 : Changes 1605506 s u2; clear_value u2)
  (extract_lets +onlyGivenNames (merge := false) u3; suffices h3 : Changes 1605506 s u3; clear_value u3)
  (extract_lets +onlyGivenNames (merge := false) u4; suffices h4 : Changes 1605506 s u4; clear_value u4)
  refine .ite ?_ ?_
  (extract_lets +onlyGivenNames (merge := false) w5; clear_value w5)
  refine .foldl (fun u6 a6 h6 => ?_) ?_
  refine .seq removeAddr_changes ?_ (by decide)
  assumption
  assumption
  assumption
  dsimp -zeta only [u4]
  refine .ite ?_ ?_
  refine .seq solicit_changes ?_ (by decide)
  assumption
  assumption
  dsimp -zeta only [u3]
  refine .seq updIfc_changes ?_ (by decide)
  refine .seq setAddr_changes ?_ (by decide)
  assumption
  dsimp -zeta only [u2]
  refine .seq advanceTo_changes ?_ (by decide)
  exact .refl
  exact .refl

theorem execAddrDuplicate_changes {k : IfNo} {a : IpAddr} {s : State} : NextChanges 1605504 s (execAddrDuplicate k a s) := by
  unfold execAddrDuplicate
  refine .next ?_
  split
  rename_i _ e0
  exact .refl
  rename_i _ _ e1
  refine .ite ?_ ?_
  exact .refl
  (extract_lets +onlyGivenNames (merge := false) w2; clear_value w2)
  (extract_lets +onlyGivenNames (merge := false) u3; suffices h3 : Changes 1605504 s u3; clear_value u3)
  (extract_lets +onlyGivenNames (merge := false) u4; suffices h4 : Changes 1605504 s u4; clear_value u4)
  (extract_lets +onlyGivenNames (merge := false) u5; suffices h5 : Changes 1605504 s u5; clear_value u5)
  (extract_lets +onlyGivenNames (merge := false) u6; suffices h6 : Changes 1605504 s u6; clear_value u6)
  refine .ite ?_ ?_
  refine .seq discover_changes ?_ (by decide)
  refine .seq updIfc_changes ?_ (by decide)
  refine .seq sendIp_changes ?_ (by decide)
  assumption
  assumption
  dsimp -zeta only [u6]
  refine .seq resetMgmt_changes ?_ (by decide)
  assumption
  dsimp -zeta only [u5]
  refine .seq resetWhere_changes ?_ (by decide)
  assumption
  dsimp -zeta only [u4]
  refine .seq setAddr_changes ?_ (by decide)
  assumption
  dsimp -zeta only [u3]
  refine .seq logEv_changes ?_ (by decide)
  exact .refl

theorem execAddrRetry_changes {k : IfNo} {a : IpAddr} {s : State} : NextChanges 770 s (execAddrRetry k a s) := by
  unfold execAddrRetry
  refine .next ?_
  split
  rename_i _ e0
  exact .refl
  rename_i _ _ e1
  split
  rename_i _ _ _ e2
  exact .refl
  rename_i _ _ _ _ e3
  (extract_lets +onlyGivenNames (merge := false) u4; suffices h4 : Changes 770 s u4; clear_value u4)
  refine .ite ?_ ?_
  refine .seq sendPlain_changes ?_ (by decide)
  assumption
  refine .seq sendIp_changes ?_ (by decide)
  assumption
  dsimp -zeta only [u4]
  refine .seq setAddr_changes ?_ (by decide)
  refine .seq advanceTo_changes ?_ (by decide)
  exact .refl

theorem execAddrLost_changes {k : IfNo} {a : IpAddr} {s : State} : NextChanges 1605506 s (execAddrLost k a s) := by
  unfold execAddrLost
  refine .next ?_
  split
  rename_i _ e0
  exact .refl
  rename_i _ _ e1
  split
  rename_i _ _ _ e2
  exact .refl
  rename_i _ _ _ _ e3
  (extract_lets +onlyGivenNames (merge := false) u4; suffices h4 : Changes 1605506 s u4; clear_value u4)
  split
  rename_i _ _ _ _ _ e5
  refine .seq discover_changes ?_ (by decide)
  assumption
  rename_i _ _ _ _ _ e6
  refine .seq solicit_changes ?_ (by decide)
  assumption
  rename_i _ _ _ _ _ e7
  refine .seq solicitRouter_changes ?_ (by decide)
  assumption
  assumption
  dsimp -zeta only [u4]
  refine .seq logEv_changes ?_ (by decide)
  refine .seq removeAddr_changes ?_ (by decide)
  refine .seq advanceTo_changes ?_ (by decide)
  exact .refl

theorem execNeighbourSolicit_changes {k : IfNo} {target : IpAddr} {sender : IpAddr} {mac : MacAddr} {s : State} : NextChanges 768 s (execNeighbourSolicit k target sender mac s) := by
  unfold execNeighbourSolicit
  refine .next ?_
  refine .ite ?_ ?_
  (extract_lets +onlyGivenNames (merge := false) u0; suffices h0 : Changes 768 s u0; clear_value u0)
  (extract_lets +onlyGivenNames (merge := false) w1; clear_value w1)
  refine .ite ?_ ?_
  refine .seq sendPlain_changes ?_ (by decide)
  assumption
  refine .seq sendIp_changes ?_ (by decide)
  assumption
  dsimp -zeta only [u0]
  refine .seq learn_changes ?_ (by decide)
  exact .refl
  exact .refl

theorem execIcmpEcho_changes {p : PortId} {k : IfNo} {e : Ends} {len : Nat} {fragment : Bool} {s : State} : NextChanges 768 s (execIcmpEcho p k e len fragment s) := by
  unfold execIcmpEcho
  refine .next ?_
  refine .ite ?_ ?_
  exact .refl
  refine .ite ?_ ?_
  refine .seq updNet_changes ?_ (by decide)
  exact .refl
  refine .ite ?_ ?_
  split
  rename_i _ e0
  exact .refl
  rename_i _ _ e1
  refine .seq sendIp_changes ?_ (by decide)
  refine .seq updPort_changes ?_ (by decide)
  exact .refl
  exact .refl

theorem execIcmpPacketTooBig_changes {dst : IpAddr} {mtu : Nat} {s : State} : NextChanges 512 s (execIcmpPacketTooBig dst mtu s) := by
  unfold execIcmpPacketTooBig
  refine .next ?_
  extract_lets +onlyGivenNames (merge := false) w0
  refine .seq updNet_changes ?_ (by decide)
  exact .refl

theorem execClosedPortPacket_changes {p : PortId} {k : IfNo} {e : Ends} {proto : ClosedProto} {s : State} : NextChanges 768 s (execClosedPortPacket p k e proto s) := by
  unfold execClosedPortPacket
  refine .next ?_
  refine .ite ?_ ?_
  exact .refl
  split
  refine .ite ?_ ?_
  exact .refl
  refine .seq sendIp_changes ?_ (by decide)
  exact .refl
  refine .ite ?_ ?_
  exact .refl
  split
  rename_i _ _ e0
  exact .refl
  rename_i _ _ _ e1
  refine .seq sendIp_changes ?_ (by decide)
  refine .seq updPort_changes ?_ (by decide)
  exact .refl

theorem execNetShow_changes {l : Line} {ifc : Option Int} {s : State} : NextChanges 1594240 s (execNetShow l ifc s) := by
  unfold execNetShow
  refine .next ?_
  refine .seq showCmd_changes ?_ (by decide)
  exact .refl

theorem execNetStats_changes {l : Line} {s : State} : NextChanges 1594240 s (execNetStats l s) := by
  unfold execNetStats
  refine .next ?_
  refine .seq showCmd_changes ?_ (by decide)
  exact .refl

theorem execNetLldp_changes {l : Line} {port : Option PortId} {s : State} : NextChanges 1594240 s (execNetLldp l port s) := by
  unfold execNetLldp
  refine .next ?_
  refine .seq showCmd_changes ?_ (by decide)
  exact .refl

theorem renewIf_changes {s : State} {k : IfNo} : Changes 768 s (renewIf s k) := by
  unfold renewIf
  (extract_lets +onlyGivenNames (merge := false) u0; suffices h0 : Changes 768 s u0; clear_value u0)
  refine .ite ?_ ?_
  refine .seq solicit_changes ?_ (by decide)
  assumption
  assumption
  dsimp -zeta only [u0]
  refine .ite ?_ ?_
  refine .seq discover_changes ?_ (by decide)
  refine .seq updIfc_changes ?_ (by decide)
  exact .refl
  exact .refl

theorem execNetRenew_changes {l : Line} {ifc : Option Int} {s : State} : NextChanges 1594240 s (execNetRenew l ifc s) := by
  unfold execNetRenew
  refine .next ?_
  refine runCmd_changes (fun u0 n0 h0 => ?_) (by decide)
  refine .say0 ?_
  refine .foldl (fun u1 a1 h1 => ?_) ?_
  refine .seq renewIf_changes ?_ (by decide)
  assumption
  assumption

theorem execLldpReceive_changes {p : PortId} {pdu : LldpPdu} {s : State} : NextChanges 1591176 s (execLldpReceive p pdu s) := by
  unfold execLldpReceive
  refine .next ?_
  refine .ite ?_ ?_
  exact .refl
  refine .ite ?_ ?_
  refine .seq updNet_changes ?_ (by decide)
  exact .refl
  (extract_lets +onlyGivenNames (merge := false) w0; clear_value w0)
  extract_lets +onlyGivenNames (merge := false) w1
  (extract_lets +onlyGivenNames (merge := false) u2; suffices h2 : Changes 1591176 s u2; clear_value u2)
  (extract_lets +onlyGivenNames (merge := false) u3; suffices h3 : Changes 1591176 s u3; clear_value u3)
  split
  rename_i _ e4
  assumption
  rename_i _ _ e5
  refine .ite ?_ ?_
  refine .seq takeAllocation_changes ?_ (by decide)
  assumption
  assumption
  dsimp -zeta only [u3]
  refine .seq updFeed_changes ?_ (by decide)
  assumption
  dsimp -zeta only [u2]
  refine .seq updNet_changes ?_ (by decide)
  exact .refl

theorem execLldpNeighbourExpiry_changes {p : PortId} {chassis : List Byte} {portId : List Byte} {s : State} : NextChanges 514 s (execLldpNeighbourExpiry p chassis portId s) := by
  unfold execLldpNeighbourExpiry
  refine .next ?_
  split
  rename_i _ e0
  exact .refl
  rename_i _ _ e1
  refine .seq updNet_changes ?_ (by decide)
  refine .seq advanceTo_changes ?_ (by decide)
  exact .refl

/-! ### Machine/Time.lean -/

theorem execPtpAnnounce_changes {a : PtpAnnounce} {s : State} : NextChanges 1590146 s (execPtpAnnounce a s) := by
  unfold execPtpAnnounce
  refine .next ?_
  refine .ite ?_ ?_
  exact .refl
  refine .ite ?_ ?_
  refine .ite ?_ ?_
  refine .seq ptpLost_changes ?_ (by decide)
  exact .refl
  exact .refl
  refine .ite ?_ ?_
  extract_lets +onlyGivenNames (merge := false) w0
  (extract_lets +onlyGivenNames (merge := false) u1; suffices h1 : Changes 1590146 s u1; clear_value u1)
  refine .ite ?_ ?_
  refine .seq setSource_changes ?_ (by decide)
  assumption
  assumption
  dsimp -zeta only [u1]
  refine .seq (updClock_changes ?_) ?_ (by decide)
  exact ⟨Nat.le_refl _, rfl, id⟩
  exact .refl
  refine .seq (updClock_changes ?_) ?_ (by decide)
  exact ⟨Nat.le_refl _, rfl, id⟩
  refine .seq ptpLost_changes ?_ (by decide)
  exact .refl

theorem execPtpAnnounceTimeout_changes {s : State} : NextChanges 1590146 s (execPtpAnnounceTimeout s) := by
  unfold execPtpAnnounceTimeout
  refine .next ?_
  refine .ite ?_ ?_
  refine .seq ptpLost_changes ?_ (by decide)
  refine .seq advanceTo_changes ?_ (by decide)
  exact .refl
  exact .refl

theorem sendDelayReq_changes {s : State} : Changes 768 s (sendDelayReq s) := by
  unfold sendDelayReq
  refine .ite ?_ ?_
  refine .seq sendIp_changes ?_ (by decide)
  exact .refl
  refine .seq sendPlain_changes ?_ (by decide)
  exact .refl

theorem execPtpMessage_changes {offset : Int} {s : State} : NextChanges 1602434 s (execPtpMessage offset s) := by
  unfold execPtpMessage
  refine .next ?_
  refine .ite ?_ ?_
  refine .seq sendDelayReq_changes ?_ (by decide)
  refine .seq discipline_changes ?_ (by decide)
  exact .refl
  exact .refl

theorem execNtpPoll_changes {server : IpAddr} {s : State} : NextChanges 1590146 s (execNtpPoll server s) := by
  unfold execNtpPoll
  refine .next ?_
  refine .ite ?_ ?_
  exact .refl
  (extract_lets +onlyGivenNames (merge := false) u0; suffices h0 : Changes 1590146 s u0; clear_value u0)
  (extract_lets +onlyGivenNames (merge := false) u1; suffices h1 : Changes 1590146 s u1; clear_value u1)
  (extract_lets +onlyGivenNames (merge := false) u2; suffices h2 : Changes 1590146 s u2; clear_value u2)
  refine .ite ?_ ?_
  split
  rename_i _ _ e3
  refine .seq (updClock_changes ?_) ?_ (by decide)
  exact ⟨Nat.le_refl _, rfl, id⟩
  assumption
  rename_i _ e4
  refine .seq ntpLost_changes ?_ (by decide)
  assumption
  assumption
  dsimp -zeta only [u2]
  refine .seq originate_changes ?_ (by decide)
  assumption
  dsimp -zeta only [u1]
  refine .seq (updClock_changes ?_) ?_ (by decide)
  exact ⟨Nat.le_refl _, rfl, id⟩
  assumption
  dsimp -zeta only [u0]
  refine .seq advanceTo_changes ?_ (by decide)
  exact .refl

theorem execNtpResponse_changes {server : IpAddr} {r : NtpReply} {s : State} : NextChanges 1602434 s (execNtpResponse server r s) := by
  unfold execNtpResponse
  refine .next ?_
  refine .ite ?_ ?_
  exact .refl
  (extract_lets +onlyGivenNames (merge := false) u0; suffices h0 : Changes 1602434 s u0; clear_value u0)
  split
  rename_i _ e1
  refine .ite ?_ ?_
  refine .seq ntpLost_changes ?_ (by decide)
  assumption
  assumption
  rename_i _ _ e2
  (extract_lets +onlyGivenNames (merge := false) w3; clear_value w3)
  (extract_lets +onlyGivenNames (merge := false) u4; suffices h4 : Changes 1602434 s u4; clear_value u4)
  split
  rename_i _ _ _ e5
  assumption
  rename_i _ _ _ _ e6
  refine .ite ?_ ?_
  refine .seq discipline_changes ?_ (by decide)
  assumption
  assumption
  dsimp -zeta only [u4]
  refine .seq (updClock_changes ?_) ?_ (by decide)
  exact ⟨Nat.le_refl _, rfl, id⟩
  assumption
  dsimp -zeta only [u0]
  refine .seq (updClock_changes ?_) ?_ (by decide)
  exact ⟨Nat.le_refl _, rfl, id⟩
  exact .refl

theorem execTimeStepRefused_changes {s : State} : NextChanges 1590146 s (execTimeStepRefused s) := by
  unfold execTimeStepRefused
  refine .next ?_
  split
  rename_i _ _ _ _ _ e0 e1
  refine .ite ?_ ?_
  (extract_lets +onlyGivenNames (merge := false) u2; suffices h2 : Changes 1590146 s u2; clear_value u2)
  refine .seq logEv_changes ?_ (by decide)
  refine .seq (updClock_changes ?_) ?_ (by decide)
  exact ⟨Nat.le_refl _, rfl, id⟩
  assumption
  dsimp -zeta only [u2]
  refine .seq advanceTo_changes ?_ (by decide)
  exact .refl
  exact .refl
  exact .refl

theorem execTimeSet_changes {l : Line} {t : UtcArg} {s : State} : NextChanges 1602434 s (execTimeSet l t s) := by
  unfold execTimeSet
  refine .next ?_
  refine runCmd_changes (fun u0 n0 h0 => ?_) (by decide)
  refine .ite ?_ ?_
  refine .say0 ?_
  assumption
  (extract_lets +onlyGivenNames (merge := false) w1; clear_value w1)
  refine .say0 ?_
  refine .seq stepWall_changes ?_ (by decide)
  assumption

theorem execTimeAccept_changes {l : Line} {s : State} : NextChanges 1602434 s (execTimeAccept l s) := by
  unfold execTimeAccept
  refine .next ?_
  refine runCmd_changes (fun u0 n0 h0 => ?_) (by decide)
  split
  rename_i _ e1
  refine .say0 ?_
  assumption
  rename_i _ _ _ e2
  (extract_lets +onlyGivenNames (merge := false) u3; suffices h3 : Changes 1602434 s u3; clear_value u3)
  refine .say0 ?_
  refine .seq (updClock_changes ?_) ?_ (by decide)
  exact ⟨Nat.le_refl _, rfl, id⟩
  assumption
  dsimp -zeta only [u3]
  refine .seq stepWall_changes ?_ (by decide)
  assumption

theorem execTimeShow_changes {l : Line} {s : State} : NextChanges 1594240 s (execTimeShow l s) := by
  unfold execTimeShow
  refine .next ?_
  refine .seq showCmd_changes ?_ (by decide)
  exact .refl

theorem execRtcWrite_changes {s : State} : NextChanges 2 s (execRtcWrite s) := by
  unfold execRtcWrite
  refine .next ?_
  refine .ite ?_ ?_
  refine .seq writeRtc_changes ?_ (by decide)
  split
  rename_i _ e0
  exact .refl
  rename_i _ _ e1
  refine .seq advanceTo_changes ?_ (by decide)
  exact .refl
  exact .refl

theorem execLedgerCheckpoint_changes {s : State} : NextChanges 2 s (execLedgerCheckpoint s) := by
  unfold execLedgerCheckpoint
  refine .next ?_
  refine .ite ?_ ?_
  refine .seq checkpoint_changes ?_ (by decide)
  split
  rename_i _ e0
  exact .refl
  rename_i _ _ _ e1
  refine .seq advanceTo_changes ?_ (by decide)
  exact .refl
  exact .refl

/-! ### Machine/Row.lean -/

theorem execBeaconSend_changes {s : State} : NextChanges 1657730 s (execBeaconSend s) := by
  unfold execBeaconSend
  refine .next ?_
  refine .ite ?_ ?_
  (extract_lets +onlyGivenNames (merge := false) u0; suffices h0 : Changes 1657730 s u0; clear_value u0)
  (extract_lets +onlyGivenNames (merge := false) u1; suffices h1 : Changes 1657730 s u1; clear_value u1)
  (extract_lets +onlyGivenNames (merge := false) u2; suffices h2 : Changes 1657730 s u2; clear_value u2)
  refine .ite ?_ ?_
  refine .seq sendBeacon_changes ?_ (by decide)
  assumption
  assumption
  dsimp -zeta only [u2]
  refine .seq reorder_changes ?_ (by decide)
  assumption
  dsimp -zeta only [u1]
  refine .seq (updRow_changes ?_) ?_ (by decide)
  exact Nat.le_refl _
  assumption
  dsimp -zeta only [u0]
  split
  rename_i _ _ e3
  refine .seq advanceTo_changes ?_ (by decide)
  exact .refl
  rename_i _ e4
  exact .refl
  exact .refl

theorem serialConflict_changes {s : State} {b : Beacon} : Changes 1655680 s (serialConflict s b) := by
  unfold serialConflict
  (extract_lets +onlyGivenNames (merge := false) w0; clear_value w0)
  refine .ite ?_ ?_
  refine .seq logEv_changes ?_ (by decide)
  refine .seq (updRow_changes ?_) ?_ (by decide)
  exact Nat.le_refl _
  exact .refl
  exact .refl

theorem execBeaconReceive_changes {b : Beacon} {s : State} : NextChanges 1788800 s (execBeaconReceive b s) := by
  unfold execBeaconReceive
  refine .next ?_
  refine .ite ?_ ?_
  refine .ite ?_ ?_
  refine .seq takeBeacon_changes ?_ (by decide)
  exact .refl
  refine .seq (updRow_changes ?_) ?_ (by decide)
  exact Nat.le_refl _
  refine .seq serialConflict_changes ?_ (by decide)
  exact .refl
  exact .refl

theorem execMemberTimeout_changes {serial : Nat} {s : State} : NextChanges 1657730 s (execMemberTimeout serial s) := by
  unfold execMemberTimeout
  refine .next ?_
  refine .ite ?_ ?_
  split
  rename_i _ _ e0
  refine .seq removeMember_changes ?_ (by decide)
  refine .seq advanceTo_changes ?_ (by decide)
  exact .refl
  rename_i _ e1
  exact .refl
  exact .refl

theorem execLeaderTimeout_changes {s : State} : NextChanges 1657730 s (execLeaderTimeout s) := by
  unfold execLeaderTimeout
  refine .next ?_
  refine .ite ?_ ?_
  split
  rename_i _ _ _ e0 e1
  (extract_lets +onlyGivenNames (merge := false) u2; suffices h2 : Changes 1657730 s u2; clear_value u2)
  (extract_lets +onlyGivenNames (merge := false) u3; suffices h3 : Changes 1657730 s u3; clear_value u3)
  refine .ite ?_ ?_
  refine .seq lead_changes ?_ (by decide)
  assumption
  assumption
  dsimp -zeta only [u3]
  refine .seq (updRow_changes ?_) ?_ (by decide)
  exact Nat.le_refl _
  refine .seq setView_changes ?_ (by decide)
  assumption
  dsimp -zeta only [u2]
  refine .seq advanceTo_changes ?_ (by decide)
  exact .refl
  rename_i _ _ _ e4 e5
  refine .ite ?_ ?_
  refine .seq leadAlone_changes ?_ (by decide)
  refine .seq advanceTo_changes ?_ (by decide)
  exact .refl
  exact .refl
  exact .refl
  exact .refl

theorem execRowLeave_changes {h : RowHdr} {s : State} : NextChanges 1657728 s (execRowLeave h s) := by
  unfold execRowLeave
  refine .next ?_
  refine takeRow_changes ?_ (by decide) (fun u0 h0 => ?_)
  exact .refl
  split
  dsimp -zeta only
  refine .seq removeMember_changes ?_ (by decide)
  assumption
  split
  (extract_lets +onlyGivenNames (merge := false) u1; suffices h1 : Changes 1657728 s u1; clear_value u1)
  (extract_lets +onlyGivenNames (merge := false) u2; suffices h2 : Changes 1657728 s u2; clear_value u2)
  dsimp -zeta only
  refine .seq logEv_changes ?_ (by decide)
  assumption
  dsimp -zeta only [u2]
  refine .seq removeMember_changes ?_ (by decide)
  assumption
  dsimp -zeta only [u1]
  refine .seq (updRow_changes ?_) ?_ (by decide)
  exact Nat.le_refl _
  assumption
  dsimp -zeta only
  assumption

theorem execRowAck_changes {h : RowHdr} {status : AckStatus} {s : State} : NextChanges 1655680 s (execRowAck h status s) := by
  unfold execRowAck
  refine .next ?_
  refine .ite ?_ ?_
  exact .refl
  refine .ite ?_ ?_
  refine .seq (updRow_changes ?_) ?_ (by decide)
  exact Nat.le_refl _
  exact .refl
  split
  rename_i _ _ e0
  (extract_lets +onlyGivenNames (merge := false) u1; suffices h1 : Changes 1655680 s u1; clear_value u1)
  refine .ite ?_ ?_
  refine .seq mirrorAcked_changes ?_ (by decide)
  assumption
  assumption
  dsimp -zeta only [u1]
  refine .seq dropUnacked_changes ?_ (by decide)
  exact .refl
  rename_i _ e2
  exact .refl

theorem execRowRetransmit_changes {peer : Nat} {msgId : Nat} {s : State} : NextChanges 199426 s (execRowRetransmit peer msgId s) := by
  unfold execRowRetransmit
  refine .next ?_
  refine .ite ?_ ?_
  exact .refl
  split
  rename_i _ e0
  exact .refl
  rename_i _ _ e1
  (extract_lets +onlyGivenNames (merge := false) u2; suffices h2 : Changes 199426 s u2; clear_value u2)
  refine .ite ?_ ?_
  refine .seq rowWire_changes ?_ (by decide)
  refine .seq (updRow_changes ?_) ?_ (by decide)
  exact Nat.le_refl _
  assumption
  refine .seq msgFailed_changes ?_ (by decide)
  refine .seq dropGroup_changes ?_ (by decide)
  assumption
  dsimp -zeta only [u2]
  refine .seq advanceTo_changes ?_ (by decide)
  exact .refl

theorem execFindReq_changes {h : RowHdr} {m : FindReqMsg} {s : State} : NextChanges 66304 s (execFindReq h m s) := by
  unfold execFindReq
  refine .next ?_
  refine takeRow_changes ?_ (by decide) (fun u0 h0 => ?_)
  exact .refl
  dsimp -zeta only
  refine .seq serveNext_changes ?_ (by decide)
  refine .seq (updRow_changes ?_) ?_ (by decide)
  exact Nat.le_refl _
  assumption

theorem execFindPage_changes {h : RowHdr} {records : List ObjRecord} {s : State} : NextChanges 68352 s (execFindPage h records s) := by
  unfold execFindPage
  refine .next ?_
  refine takeRow_changes ?_ (by decide) (fun u0 h0 => ?_)
  exact .refl
  split
  rename_i _ _ e1
  dsimp -zeta only
  refine .ite ?_ ?_
  refine .seq takeRecords_changes ?_ (by decide)
  assumption
  assumption
  rename_i _ e2
  dsimp -zeta only
  assumption

theorem execFindEnd_changes {h : RowHdr} {status : FindEnd} {s : State} : NextChanges 68352 s (execFindEnd h status s) := by
  unfold execFindEnd
  refine .next ?_
  refine takeRow_changes ?_ (by decide) (fun u0 h0 => ?_)
  exact .refl
  split
  rename_i _ _ e1
  dsimp -zeta only
  refine .seq endIfDone_changes ?_ (by decide)
  refine .seq memberEnds_changes ?_ (by decide)
  assumption
  rename_i _ e2
  dsimp -zeta only
  assumption

theorem execFindCancel_changes {h : RowHdr} {s : State} : NextChanges 66304 s (execFindCancel h s) := by
  unfold execFindCancel
  refine .next ?_
  refine takeRow_changes ?_ (by decide) (fun u0 h0 => ?_)
  exact .refl
  extract_lets +onlyGivenNames (merge := false) w1
  dsimp -zeta only
  refine .seq serveNext_changes ?_ (by decide)
  refine .seq (updRow_changes ?_) ?_ (by decide)
  exact Nat.le_refl _
  assumption

theorem execRowFindDeadline_changes {ticket : Nat} {s : State} : NextChanges 68354 s (execRowFindDeadline ticket s) := by
  unfold execRowFindDeadline
  refine .next ?_
  split
  rename_i _ _ e0
  refine .seq endSearch_changes ?_ (by decide)
  refine .seq advanceTo_changes ?_ (by decide)
  exact .refl
  rename_i _ e1
  exact .refl

theorem execMirrorPut_changes {h : RowHdr} {o : MirrorObj} {s : State} : NextChanges 1655680 s (execMirrorPut h o s) := by
  unfold execMirrorPut
  refine .next ?_
  refine takeRow_changes ?_ (by decide) (fun u0 h0 => ?_)
  exact .refl
  refine .seq takeCopy_changes ?_ (by decide)
  assumption

theorem execMirrorUpdate_changes {h : RowHdr} {origin : Nat} {k : ObjKey} {held : Bool} {s : State} : NextChanges 66304 s (execMirrorUpdate h origin k held s) := by
  unfold execMirrorUpdate
  refine .next ?_
  refine takeRow_changes ?_ (by decide) (fun u0 h0 => ?_)
  exact .refl
  dsimp -zeta only
  refine .seq (updRow_changes ?_) ?_ (by decide)
  exact Nat.le_refl _
  assumption

theorem execMirrorRemove_changes {h : RowHdr} {origin : Nat} {k : ObjKey} {y3 : Bool} {s : State} : NextChanges 66304 s (execMirrorRemove h origin k y3 s) := by
  unfold execMirrorRemove
  refine .next ?_
  refine takeRow_changes ?_ (by decide) (fun u0 h0 => ?_)
  exact .refl
  dsimp -zeta only
  refine .seq (updRow_changes ?_) ?_ (by decide)
  exact Nat.le_refl _
  assumption

theorem execMirrorRetry_changes {s : State} : NextChanges 1655682 s (execMirrorRetry s) := by
  unfold execMirrorRetry
  refine .next ?_
  refine .ite ?_ ?_
  exact .refl
  split
  rename_i _ e0
  exact .refl
  rename_i _ _ _ _ e1
  (extract_lets +onlyGivenNames (merge := false) u2; suffices h2 : Changes 1655682 s u2; clear_value u2)
  (extract_lets +onlyGivenNames (merge := false) w3; clear_value w3)
  (extract_lets +onlyGivenNames (merge := false) u4; suffices h4 : Changes 1655682 s u4; clear_value u4)
  refine .seq mirrorSettle_changes ?_ (by decide)
  refine .foldl (fun u5 a5 h5 => ?_) ?_
  refine .seq sendMirror_changes ?_ (by decide)
  assumption
  assumption
  dsimp -zeta only [u4]
  refine .seq (updRow_changes ?_) ?_ (by decide)
  exact Nat.le_refl _
  assumption
  dsimp -zeta only [u2]
  refine .seq advanceTo_changes ?_ (by decide)
  exact .refl

theorem execMirrorSend_changes {s : State} : NextChanges 1655682 s (execMirrorSend s) := by
  unfold execMirrorSend
  refine .next ?_
  refine .ite ?_ ?_
  exact .refl
  split
  rename_i _ e0
  exact .refl
  rename_i _ _ _ e1
  refine .seq mirrorSettle_changes ?_ (by decide)
  refine .seq sendMirror_changes ?_ (by decide)
  refine .seq (updRow_changes ?_) ?_ (by decide)
  exact Nat.le_refl _
  exact .refl

theorem execMirrorCatchup_changes {s : State} : NextChanges 1688450 s (execMirrorCatchup s) := by
  unfold execMirrorCatchup
  refine .next ?_
  refine .ite ?_ ?_
  (extract_lets +onlyGivenNames (merge := false) w0; clear_value w0)
  (extract_lets +onlyGivenNames (merge := false) w1; clear_value w1)
  (extract_lets +onlyGivenNames (merge := false) u2; suffices h2 : Changes 1688450 s u2; clear_value u2)
  (extract_lets +onlyGivenNames (merge := false) u3; suffices h3 : Changes 1688450 s u3; clear_value u3)
  refine .seq mirrorSettle_changes ?_ (by decide)
  refine .seq (updRow_changes ?_) ?_ (by decide)
  exact Nat.le_refl _
  assumption
  dsimp -zeta only [u3]
  refine .foldl (fun u4 a4 h4 => ?_) ?_
  refine .seq sendMirror_changes ?_ (by decide)
  refine .seq (updRow_changes ?_) ?_ (by decide)
  exact Nat.le_refl _
  assumption
  assumption
  dsimp -zeta only [u2]
  refine .seq countFind_changes ?_ (by decide)
  exact .refl
  refine .seq mirrorSettle_changes ?_ (by decide)
  exact .refl

theorem execMirrorCopyExpiry_changes {origin : Nat} {k : ObjKey} {s : State} : NextChanges 65538 s (execMirrorCopyExpiry origin k s) := by
  unfold execMirrorCopyExpiry
  refine .next ?_
  split
  rename_i _ _ e0
  refine .ite ?_ ?_
  exact .refl
  refine .seq (updRow_changes ?_) ?_ (by decide)
  exact Nat.le_refl _
  refine .seq advanceTo_changes ?_ (by decide)
  exact .refl
  rename_i _ e1
  exact .refl

theorem execMirrorShow_changes {l : Line} {s : State} : NextChanges 1594240 s (execMirrorShow l s) := by
  unfold execMirrorShow
  refine .next ?_
  refine .seq showCmd_changes ?_ (by decide)
  exact .refl

theorem execMirrorDrop_changes {l : Line} {origin : Nat} {s : State} : NextChanges 1659776 s (execMirrorDrop l origin s) := by
  unfold execMirrorDrop
  refine .next ?_
  refine runCmd_changes (fun u0 n0 h0 => ?_) (by decide)
  refine .say0 ?_
  refine .seq (updRow_changes ?_) ?_ (by decide)
  exact Nat.le_refl _
  assumption

theorem execMirrorRestore_changes {l : Line} {origin : Nat} {ostall : Int} {stall : Int} {s : State} : NextChanges 1659776 s (execMirrorRestore l origin ostall stall s) := by
  unfold execMirrorRestore
  refine .next ?_
  refine runCmd_changes (fun u0 n0 h0 => ?_) (by decide)
  (extract_lets +onlyGivenNames (merge := false) w1; clear_value w1)
  refine whileDrained_changes ?_ (fun u2 h2 => ?_)
  assumption
  refine .ite ?_ ?_
  refine .seq errRun_changes ?_ (by decide)
  assumption
  refine .ite ?_ ?_
  refine .say0 ?_
  assumption
  refine .say0 ?_
  refine .seq (updRow_changes ?_) ?_ (by decide)
  exact Nat.le_refl _
  assumption

theorem execMirrorRestoreDone_changes {stall : StallNo} {s : State} : NextChanges 1702784 s (execMirrorRestoreDone stall s) := by
  unfold execMirrorRestoreDone
  refine .next ?_
  split
  rename_i _ e0
  exact .refl
  rename_i _ _ e1
  refine .ite ?_ ?_
  exact .refl
  (extract_lets +onlyGivenNames (merge := false) w2; clear_value w2)
  (extract_lets +onlyGivenNames (merge := false) u3; suffices h3 : Changes 1702784 s u3; clear_value u3)
  (extract_lets +onlyGivenNames (merge := false) w4; clear_value w4)
  refine .seq logEv_changes ?_ (by decide)
  refine .seq (updRow_changes ?_) ?_ (by decide)
  exact Nat.le_refl _
  assumption
  dsimp -zeta only [u3]
  refine .foldl (fun u5 a5 h5 => ?_) ?_
  refine .seq restoreOne_changes ?_ (by decide)
  assumption
  exact .refl

theorem execRowShow_changes {l : Line} {s : State} : NextChanges 1594240 s (execRowShow l s) := by
  unfold execRowShow
  refine .next ?_
  refine .seq showCmd_changes ?_ (by decide)
  exact .refl

theorem execRowMembers_changes {l : Line} {s : State} : NextChanges 1594240 s (execRowMembers l s) := by
  unfold execRowMembers
  refine .next ?_
  refine .seq showCmd_changes ?_ (by decide)
  exact .refl

theorem setRowKey_changes {s : State} {key : List Byte} : Changes 1657728 s (setRowKey s key) := by
  unfold setRowKey
  (extract_lets +onlyGivenNames (merge := false) u0; suffices h0 : Changes 1657728 s u0; clear_value u0)
  refine .ite ?_ ?_
  refine .seq rejoin_changes ?_ (by decide)
  assumption
  assumption
  dsimp -zeta only [u0]
  refine .seq (updRow_changes ?_) ?_ (by decide)
  exact Nat.le_refl _
  exact .refl

theorem execRowKeyNew_changes {l : Line} {s : State} : NextChanges 3758976 s (execRowKeyNew l s) := by
  unfold execRowKeyNew
  refine .next ?_
  refine runCmd_changes (fun u0 n0 h0 => ?_) (by decide)
  split
  rename_i _ _ u1 e2
  refine .say0 ?_
  refine .seq setRowKey_changes ?_ (by decide)
  refine Changes.snd ?_ e2
  refine .seq freshBytes_changes ?_ (by decide)
  assumption

theorem execRowKeySet_changes {l : Line} {secret : List Byte} {s : State} : NextChanges 1661824 s (execRowKeySet l secret s) := by
  unfold execRowKeySet
  refine .next ?_
  refine runCmd_changes (fun u0 n0 h0 => ?_) (by decide)
  refine .say0 ?_
  refine .seq setRowKey_changes ?_ (by decide)
  assumption

/-! ### Machine/Fw.lean -/

theorem execParcelPiece_changes {l : Line} {n : Int} {len : Int} {d : PieceData} {s : State} : NextChanges 1733504 s (execParcelPiece l n len d s) := by
  unfold execParcelPiece
  refine .next ?_
  refine runCmd_changes (fun u0 n0 h0 => ?_) (by decide)
  refine .ite ?_ ?_
  refine .say0 ?_
  assumption
  split
  rename_i _ u1 _ e2
  refine .say0 ?_
  refine Changes.fst ?_ e2
  refine .seq takePiece_changes ?_ (by decide)
  assumption

theorem execPieceTimeout_changes {l : Line} {s : State} : NextChanges 1594242 s (execPieceTimeout l s) := by
  unfold execPieceTimeout
  refine .next ?_
  split
  rename_i _ e0
  exact .refl
  rename_i _ _ e1
  (extract_lets +onlyGivenNames (merge := false) u2; suffices h2 : Changes 1594242 s u2; clear_value u2)
  (extract_lets +onlyGivenNames (merge := false) u3; suffices h3 : Changes 1594242 s u3; clear_value u3)
  split
  rename_i _ _ _ _ e4
  refine .seq closeMgmt_changes ?_ (by decide)
  assumption
  refine .seq updSess_changes ?_ (by decide)
  assumption
  dsimp -zeta only [u3]
  refine .seq (answer_changes (m := 1594240) (by decide) (by first | rfl | (simp only [afterMask]; decide))) ?_ (by decide)
  assumption
  dsimp -zeta only [u2]
  refine .seq advanceTo_changes ?_ (by decide)
  exact .refl

theorem execParcelExpiry_changes {s : State} : NextChanges 1721218 s (execParcelExpiry s) := by
  unfold execParcelExpiry
  refine .next ?_
  split
  rename_i _ e0
  exact .refl
  rename_i _ _ e1
  refine .ite ?_ ?_
  (extract_lets +onlyGivenNames (merge := false) u2; suffices h2 : Changes 1721218 s u2; clear_value u2)
  refine .seq logEv_changes ?_ (by decide)
  refine .seq (updFw_changes ?_) ?_ (by decide)
  exact fun _ h => h
  assumption
  dsimp -zeta only [u2]
  refine .seq advanceTo_changes ?_ (by decide)
  exact .refl
  split
  rename_i _ _ _ _ e3
  refine .ite ?_ ?_
  exact .refl
  refine .seq (updFw_changes ?_) ?_ (by decide)
  exact fun _ h => h
  refine .seq advanceTo_changes ?_ (by decide)
  exact .refl
  rename_i _ _ _ e4
  exact .refl

theorem execParcelShow_changes {l : Line} {s : State} : NextChanges 1594240 s (execParcelShow l s) := by
  unfold execParcelShow
  refine .next ?_
  refine .seq showCmd_changes ?_ (by decide)
  exact .refl

theorem execParcelInstall_changes {l : Line} {relay : Bool} {later : Bool} {r : InstallResult} {s : State} : NextChanges 1791949 s (execParcelInstall l relay later r s) := by
  unfold execParcelInstall
  refine .next ?_
  refine runCmd_changes (fun u0 n0 h0 => ?_) (by decide)
  split
  rename_i _ _ _ e1
  refine .say0 ?_
  refine .seq refuseInstall_changes ?_ (by decide)
  assumption
  rename_i _ _ e2 e3
  refine .say0 ?_
  assumption
  rename_i _ _ _ e4 e5
  (extract_lets +onlyGivenNames (merge := false) w6; clear_value w6)
  (extract_lets +onlyGivenNames (merge := false) u7; suffices h7 : Changes 1791949 s u7; clear_value u7)
  refine .ite ?_ ?_
  refine .wait ?_
  refine .seq runInstall_changes ?_ (by decide)
  assumption
  (extract_lets +onlyGivenNames (merge := false) w8; clear_value w8)
  (extract_lets +onlyGivenNames (merge := false) u9; suffices h9 : Changes 1791949 s u9; clear_value u9)
  refine .ite ?_ ?_
  refine .wait ?_
  assumption
  refine .ite ?_ ?_
  refine .say0 ?_
  assumption
  refine .say ?_ (and_trans afterMask_le (by decide))
  assumption
  dsimp -zeta only [u9]
  refine .seq writeSlot_changes ?_ (by decide)
  assumption
  dsimp -zeta only [u7]
  refine .seq updParcel_changes ?_ (by decide)
  refine .seq (updFw_changes ?_) ?_ (by decide)
  exact fun _ h => h
  assumption

theorem execGateUpdateDone_changes {reported : Bool} {slotOk : Bool} {s : State} : NextChanges 1791949 s (execGateUpdateDone reported slotOk s) := by
  unfold execGateUpdateDone
  refine .next ?_
  split
  rename_i _ e0
  exact .refl
  rename_i _ _ e1
  (extract_lets +onlyGivenNames (merge := false) u2; suffices h2 : Changes 1791949 s u2; clear_value u2)
  (extract_lets +onlyGivenNames (merge := false) u3; suffices h3 : Changes 1791949 s u3; clear_value u3)
  split
  rename_i _ _ _ _ _ _ e4 e5
  refine .ite ?_ ?_
  assumption
  refine .ite ?_ ?_
  refine .seq endInstall_changes ?_ (by decide)
  assumption
  refine .ite ?_ ?_
  (extract_lets +onlyGivenNames (merge := false) u6; suffices h6 : Changes 1791949 s u6; clear_value u6)
  refine .seq answerSlot_changes ?_ (by decide)
  assumption
  dsimp -zeta only [u6]
  refine .seq updParcel_changes ?_ (by decide)
  refine .seq (updFw_changes ?_) ?_ (by decide)
  exact fun _ h => h
  assumption
  refine .seq writeSlot_changes ?_ (by decide)
  assumption
  assumption
  dsimp -zeta only [u3]
  refine .seq lateAllocations_changes ?_ (by decide)
  assumption
  dsimp -zeta only [u2]
  refine .seq gateOutcome_changes ?_ (by decide)
  refine .seq (updFw_changes ?_) ?_ (by decide)
  exact fun _ h => h
  exact .refl

theorem execParcelAbandon_changes {l : Line} {s : State} : NextChanges 1725312 s (execParcelAbandon l s) := by
  unfold execParcelAbandon
  refine .next ?_
  refine runCmd_changes (fun u0 n0 h0 => ?_) (by decide)
  split
  rename_i _ e1
  refine .say0 ?_
  assumption
  rename_i _ _ e2
  refine .ite ?_ ?_
  refine .say0 ?_
  assumption
  refine .say0 ?_
  refine .seq (updFw_changes ?_) ?_ (by decide)
  exact fun _ h => h
  assumption

theorem execFwShow_changes {l : Line} {s : State} : NextChanges 1594240 s (execFwShow l s) := by
  unfold execFwShow
  refine .next ?_
  refine .seq showCmd_changes ?_ (by decide)
  exact .refl

theorem execTrialConfirm_changes {fuseFail : List Nat} {s : State} : NextChanges 1794962 s (execTrialConfirm fuseFail s) := by
  unfold execTrialConfirm
  refine .next ?_
  split
  rename_i _ _ _ _ e0 e1
  refine .ite ?_ ?_
  refine .seq confirmSlot_changes ?_ (by decide)
  refine .seq advanceTo_changes ?_ (by decide)
  exact .refl
  exact .refl
  exact .refl

theorem execTrialWindowEnd_changes {s : State} : NextChanges 1787847 s (execTrialWindowEnd s) := by
  unfold execTrialWindowEnd
  refine .next ?_
  split
  rename_i _ _ _ _ e0 e1
  refine .ite ?_ ?_
  (extract_lets +onlyGivenNames (merge := false) u2; suffices h2 : Changes 1787847 s u2; clear_value u2)
  refine .seq beginHalt_changes ?_ (by decide)
  refine .seq (updFw_changes ?_) ?_ (by decide)
  exact fun _ h => h
  assumption
  dsimp -zeta only [u2]
  refine .seq advanceTo_changes ?_ (by decide)
  exact .refl
  exact .refl
  exact .refl

theorem execRelayOffer_changes {h : RowHdr} {o : RelayOffer} {r : InstallResult} {s : State} : NextChanges 1791951 s (execRelayOffer h o r s) := by
  unfold execRelayOffer
  refine .next ?_
  refine takeRow_changes ?_ (by decide) (fun u0 h0 => ?_)
  exact .refl
  extract_lets +onlyGivenNames (merge := false) w1
  split
  rename_i e2
  dsimp -zeta only
  dsimp -zeta only [w1]
  refine .seq rowSend_changes ?_ (by decide)
  assumption
  split
  (extract_lets +onlyGivenNames (merge := false) u3; suffices h3 : Changes 1791951 s u3; clear_value u3)
  dsimp -zeta only
  split
  rename_i _ _ _ _ e4
  refine .ite ?_ ?_
  assumption
  refine .seq rowSend_changes ?_ (by decide)
  assumption
  rename_i _ _ _ e5
  assumption
  dsimp -zeta only [u3]
  dsimp -zeta only [w1]
  refine .seq rowSend_changes ?_ (by decide)
  assumption
  split
  dsimp -zeta only
  dsimp -zeta only [w1]
  refine .seq rowSend_changes ?_ (by decide)
  assumption
  (extract_lets +onlyGivenNames (merge := false) u6; suffices h6 : Changes 1791951 s u6; clear_value u6)
  split
  rename_i _ _ _ _ _ e7
  split
  rename_i _ _ _ _ _ e8
  dsimp -zeta only
  refine .seq askPiece_changes ?_ (by decide)
  assumption
  dsimp -zeta only
  refine .seq relayInstall_changes ?_ (by decide)
  assumption
  rename_i _ _ _ _ e9
  dsimp -zeta only
  refine .seq askPiece_changes ?_ (by decide)
  assumption
  dsimp -zeta only [u6]
  refine .seq (updFw_changes ?_) ?_ (by decide)
  exact fun _ h => h
  assumption

theorem execPieceReq_changes {h : RowHdr} {parcel : Nat} {n : Nat} {s : State} : NextChanges 66304 s (execPieceReq h parcel n s) := by
  unfold execPieceReq
  refine .next ?_
  refine takeRow_changes ?_ (by decide) (fun u0 h0 => ?_)
  exact .refl
  split
  rename_i _ e1
  dsimp -zeta only
  assumption
  rename_i _ _ e2
  split
  extract_lets +onlyGivenNames (merge := false) w3
  dsimp -zeta only
  refine .seq rowSend_changes ?_ (by decide)
  assumption
  dsimp -zeta only
  assumption

theorem execRelayPiece_changes {h : RowHdr} {n : Nat} {d : PieceData} {r : InstallResult} {s : State} : NextChanges 1800143 s (execRelayPiece h n d r s) := by
  unfold execRelayPiece
  refine .next ?_
  refine takeRow_changes ?_ (by decide) (fun u0 h0 => ?_)
  exact .refl
  split
  rename_i _ e1
  dsimp -zeta only
  assumption
  rename_i _ _ e2
  split
  dsimp -zeta only
  assumption
  split
  rename_i _ _ _ e3
  dsimp -zeta only
  refine .seq askPiece_changes ?_ (by decide)
  assumption
  split
  rename_i _ _ _ _ e4
  dsimp -zeta only
  refine .seq askPiece_changes ?_ (by decide)
  assumption
  split
  rename_i _ _ _ _ _ _ u5 _ e6
  split
  dsimp -zeta only
  refine .seq askPiece_changes ?_ (by decide)
  refine Changes.fst ?_ e6
  refine .seq takePiece_changes ?_ (by decide)
  assumption
  dsimp -zeta only
  refine .seq reportTo_changes ?_ (by decide)
  refine .seq (updFw_changes ?_) ?_ (by decide)
  exact fun _ h => h
  refine Changes.fst ?_ e6
  refine .seq takePiece_changes ?_ (by decide)
  assumption
  split
  rename_i _ _ _ _ _ _ _ _ _ _ _ _ e7
  split
  rename_i _ _ _ _ _ _ _ _ _ _ _ _ e8
  dsimp -zeta only
  refine .seq askPiece_changes ?_ (by decide)
  refine Changes.fst ?_ e6
  refine .seq takePiece_changes ?_ (by decide)
  assumption
  dsimp -zeta only
  refine .seq relayInstall_changes ?_ (by decide)
  refine Changes.fst ?_ e6
  refine .seq takePiece_changes ?_ (by decide)
  assumption
  rename_i _ _ _ _ _ _ _ _ _ _ _ e9
  dsimp -zeta only
  refine Changes.fst ?_ e6
  refine .seq takePiece_changes ?_ (by decide)
  assumption

theorem execRelayStatus_changes {h : RowHdr} {parcel : Nat} {reporter : Nat} {st : RelayStat} {s : State} : NextChanges 1786752 s (execRelayStatus h parcel reporter st s) := by
  unfold execRelayStatus
  refine .next ?_
  refine takeRow_changes ?_ (by decide) (fun u0 h0 => ?_)
  exact .refl
  (extract_lets +onlyGivenNames (merge := false) u1; suffices h1 : Changes 1786752 s u1; clear_value u1)
  dsimp -zeta only
  split
  assumption
  refine .seq endRelay_changes ?_ (by decide)
  assumption
  dsimp -zeta only [u1]
  split
  refine .seq logEv_changes ?_ (by decide)
  assumption
  refine .seq logEv_changes ?_ (by decide)
  assumption
  assumption

/-! ### Machine/CfgOps.lean -/

theorem reachIsl_changes {s : State} {i : Island} {stored : Bool} : OptChanges 16 s (reachIsl s i stored) := by
  unfold reachIsl
  split
  rename_i _ e0
  refine .some ?_
  exact .refl
  rename_i _ e1
  refine .some ?_
  refine .seq setIsl_changes ?_ (by decide)
  exact .refl
  rename_i _ e2
  refine .ite ?_ ?_
  refine .some ?_
  exact .refl
  exact .none
  exact .none

theorem reach_changes {s : State} {a : Attr} : OptChanges 16 s (reach s a) := by
  unfold reach
  split
  refine .some ?_
  exact .refl
  split
  rename_i _ _ _ e0
  refine .some ?_
  exact .refl
  rename_i _ _ _ _ e1
  refine .seq reachIsl_changes ?_ (by decide)
  exact .refl

theorem reachGroup_changes {s : State} {g : Group} : OptChanges 16 s (reachGroup s g) := by
  unfold reachGroup
  refine .foldl (fun o i h => ?_) (.some .refl)
  split
  · exact .seq reachIsl_changes (h _ rfl) (by decide)
  · exact h

theorem clearBay_changes {s : State} {ws : List (FieldDesc × Int)} : Changes 4 s (clearBay s ws) := by
  unfold clearBay
  (extract_lets +onlyGivenNames (merge := false) w0; clear_value w0)
  refine .seq updBay_changes ?_ (by decide)
  exact .refl

theorem writePhy_changes {s : State} {p : PortId} : Changes 1591192 s (writePhy s p) := by
  unfold writePhy
  (extract_lets +onlyGivenNames (merge := false) w0; clear_value w0)
  (extract_lets +onlyGivenNames (merge := false) w1; clear_value w1)
  refine .ite ?_ ?_
  refine .ite ?_ ?_
  (extract_lets +onlyGivenNames (merge := false) u2; suffices h2 : Changes 1591192 s u2; clear_value u2)
  refine .ite ?_ ?_
  refine .seq train_changes ?_ (by decide)
  assumption
  assumption
  dsimp -zeta only [u2]
  refine .seq setIsl_changes ?_ (by decide)
  exact .refl
  exact .refl
  split
  rename_i _ e3
  exact .refl
  rename_i _ e4
  exact .refl
  rename_i _ e5
  exact .refl
  (extract_lets +onlyGivenNames (merge := false) u6; suffices h6 : Changes 1591192 s u6; clear_value u6)
  refine .seq setIsl_changes ?_ (by decide)
  refine .seq updPort_changes ?_ (by decide)
  assumption
  dsimp -zeta only [u6]
  refine .seq rebudget_changes ?_ (by decide)
  refine .seq renegotiated_changes ?_ (by decide)
  refine .ite ?_ ?_
  refine .seq linkLoss_changes ?_ (by decide)
  exact .refl
  exact .refl

theorem writeKv_changes {old : State} {s : State} : Changes 1601408 s (writeKv old s) := by
  unfold writeKv
  extract_lets +onlyGivenNames (merge := false) w0
  extract_lets +onlyGivenNames (merge := false) w1
  (extract_lets +onlyGivenNames (merge := false) u2; suffices h2 : Changes 1601408 s u2; clear_value u2)
  refine .ite ?_ ?_
  assumption
  refine .seq logEv_changes ?_ (by decide)
  assumption
  dsimp -zeta only [u2]
  refine .foldl (fun u3 a3 h3 => ?_) ?_
  refine .ite ?_ ?_
  refine .seq resetWhere_changes ?_ (by decide)
  assumption
  assumption
  exact .refl

theorem applyWrite_changes {s : State} {a : Attr} {ws : List (FieldDesc × Int)} : Changes 1605566 s (applyWrite s a ws).1 := by
  unfold applyWrite
  (extract_lets +onlyGivenNames (merge := false) w0; clear_value w0)
  (extract_lets +onlyGivenNames (merge := false) u1; suffices h1 : Changes 1605566 s u1; clear_value u1)
  split
  dsimp -zeta only
  refine .seq clearBay_changes ?_ (by decide)
  exact .refl
  dsimp -zeta only
  refine .ite ?_ ?_
  refine .seq updPort_changes ?_ (by decide)
  exact .refl
  exact .refl
  dsimp -zeta only
  refine .seq updPort_changes ?_ (by decide)
  exact .refl
  dsimp -zeta only
  assumption
  dsimp -zeta only
  refine .seq updPower_changes ?_ (by decide)
  assumption
  dsimp -zeta only
  refine .seq writePhy_changes ?_ (by decide)
  assumption
  dsimp -zeta only
  refine .seq writeKv_changes ?_ (by decide)
  assumption
  dsimp -zeta only
  refine .seq refreshIf_changes ?_ (by decide)
  assumption
  dsimp -zeta only
  refine .seq closingRules_changes ?_ (by decide)
  assumption
  dsimp -zeta only
  assumption
  dsimp -zeta only [u1]
  refine .ite ?_ ?_
  refine .seq stageLog_changes ?_ (by decide)
  refine .seq cfgStore_changes ?_ (by decide)
  exact .refl
  refine .seq cfgStore_changes ?_ (by decide)
  exact .refl

theorem writeShadow_changes {s : State} {g : Group} {x : SessId} {more : List (Attr × String × Nat)} : Changes 32 s (writeShadow s g x more) := by
  unfold writeShadow
  (extract_lets +onlyGivenNames (merge := false) w0; clear_value w0)
  extract_lets +onlyGivenNames (merge := false) w1
  refine .seq (updCfg_changes ?_) ?_ (by decide)
  exact Nat.le_refl _
  exact .refl

theorem dropShadow_changes {s : State} {g : Group} : Changes 32 s (dropShadow s g) := by
  unfold dropShadow
  refine .seq (updCfg_changes ?_) ?_ (by decide)
  exact Nat.le_refl _
  exact .refl

theorem storeWords_changes {s : State} {ws : List (Attr × Word64)} : Changes 32 s (storeWords s ws) := by
  unfold storeWords
  refine .foldl (fun u0 a0 h0 => ?_) ?_
  refine .seq cfgStore_changes ?_ (by decide)
  assumption
  exact .refl

theorem commitBond_changes {s : State} {n : State} : Changes 1590144 n (commitBond s n) := by
  unfold commitBond
  extract_lets +onlyGivenNames (merge := false) w0
  refine .ite ?_ ?_
  exact .refl
  (extract_lets +onlyGivenNames (merge := false) w1; clear_value w1)
  (extract_lets +onlyGivenNames (merge := false) u2; suffices h2 : Changes 1590144 n u2; clear_value u2)
  (extract_lets +onlyGivenNames (merge := false) u3; suffices h3 : Changes 1590144 n u3; clear_value u3)
  (extract_lets +onlyGivenNames (merge := false) w4; clear_value w4)
  (extract_lets +onlyGivenNames (merge := false) w5; clear_value w5)
  extract_lets +onlyGivenNames (merge := false) w6
  refine .seq moveFrames_changes ?_ (by decide)
  refine .seq updPorts_changes ?_ (by decide)
  assumption
  dsimp -zeta only [u3]
  refine .foldl (fun u7 a7 h7 => ?_) ?_
  refine .seq updPort_changes ?_ (by decide)
  assumption
  assumption
  dsimp -zeta only [u2]
  refine .seq speedMismatch_changes ?_ (by decide)
  exact .refl

theorem commitVlan_changes {n : State} {k : Fin 8} : Changes 1605506 n (commitVlan n k) := by
  unfold commitVlan
  (extract_lets +onlyGivenNames (merge := false) u0; suffices h0 : Changes 1605506 n u0; clear_value u0)
  refine .seq resetWhere_changes ?_ (by decide)
  assumption
  dsimp -zeta only [u0]
  refine .seq refreshIf_changes ?_ (by decide)
  exact .refl

theorem commitTime_changes {s : State} {n : State} : Changes 1590146 n (commitTime s n) := by
  unfold commitTime
  extract_lets +onlyGivenNames (merge := false) w0
  (extract_lets +onlyGivenNames (merge := false) u1; suffices h1 : Changes 1590146 n u1; clear_value u1)
  refine .seq refreshNtp_changes ?_ (by decide)
  assumption
  dsimp -zeta only [u1]
  refine .ite ?_ ?_
  exact .refl
  refine .ite ?_ ?_
  refine .seq ptpLost_changes ?_ (by decide)
  exact .refl
  refine .seq (updClock_changes ?_) ?_ (by decide)
  exact ⟨Nat.le_refl _, rfl, id⟩
  exact .refl

theorem commitKv1_changes {n : State} : Changes 12032 n (commitKv1 n) := by
  unfold commitKv1
  refine .seq resetWhere_changes ?_ (by decide)
  exact .refl

theorem commitSched_changes {n : State} {x : StallNo} : Changes 4096 n (commitSched n x) := by
  unfold commitSched
  (extract_lets +onlyGivenNames (merge := false) w0; clear_value w0)
  refine .seq updStall_changes ?_ (by decide)
  exact .refl

theorem commitArc_changes {s : State} {n : State} {b : Fin 16} : Changes 1590144 n (commitArc s n b) := by
  unfold commitArc
  refine .foldl (fun u0 a0 h0 => ?_) ?_
  refine .seq logEv_changes ?_ (by decide)
  assumption
  exact .refl

theorem commitEffect_changes {s : State} {n : State} {y2 : Group} : Changes 1671050 n (commitEffect s n y2) := by
  unfold commitEffect
  split
  (extract_lets +onlyGivenNames (merge := false) w0; clear_value w0)
  refine .seq rebudget_changes ?_ (by decide)
  refine .seq updPower_changes ?_ (by decide)
  exact .refl
  refine .seq commitBond_changes ?_ (by decide)
  exact .refl
  refine .seq commitVlan_changes ?_ (by decide)
  exact .refl
  refine .seq refreshIf_changes ?_ (by decide)
  exact .refl
  refine .seq commitTime_changes ?_ (by decide)
  exact .refl
  refine .seq commitKv1_changes ?_ (by decide)
  exact .refl
  refine .seq commitSched_changes ?_ (by decide)
  exact .refl
  refine .seq commitArc_changes ?_ (by decide)
  exact .refl
  refine .ite ?_ ?_
  refine .ite ?_ ?_
  refine .seq beginJoin_changes ?_ (by decide)
  exact .refl
  exact .refl
  refine .seq refreshMirror_changes ?_ (by decide)
  exact .refl
  exact .refl
  exact .refl
  exact .refl
  exact .refl

theorem activate_changes {s : State} {g : Group} {ws : List (Attr × Word64)} : Changes 1671082 s (activate s g ws) := by
  unfold activate
  (extract_lets +onlyGivenNames (merge := false) w0; clear_value w0)
  (extract_lets +onlyGivenNames (merge := false) w1; clear_value w1)
  (extract_lets +onlyGivenNames (merge := false) u2; suffices h2 : Changes 1671082 s u2; clear_value u2)
  (extract_lets +onlyGivenNames (merge := false) u3; suffices h3 : Changes 1671082 s u3; clear_value u3)
  (extract_lets +onlyGivenNames (merge := false) u4; suffices h4 : Changes 1671082 s u4; clear_value u4)
  (extract_lets +onlyGivenNames (merge := false) u5; suffices h5 : Changes 1671082 s u5; clear_value u5)
  refine .seq commitEffect_changes ?_ (by decide)
  refine .seq dropShadow_changes ?_ (by decide)
  assumption
  dsimp -zeta only [u5]
  refine .ite ?_ ?_
  refine .seq stageLog_changes ?_ (by decide)
  assumption
  assumption
  dsimp -zeta only [u4]
  refine .seq (updCfg_changes ?_) ?_ (by decide)
  exact Nat.le_succ _
  assumption
  dsimp -zeta only [u3]
  refine .seq storeWords_changes ?_ (by decide)
  assumption
  dsimp -zeta only [u2]
  refine .ite ?_ ?_
  refine .ite ?_ ?_
  refine .seq leaveRow_changes ?_ (by decide)
  exact .refl
  refine .seq (updRow_changes ?_) ?_ (by decide)
  exact Nat.le_refl _
  exact .refl
  exact .refl

theorem tryCommit_changes {s u : State} {g : Group} {x : SessId} {written : List (Attr × String × Nat)}
    (e : tryCommit s g x written = .ok u) : Changes 1671098 s u := by
  unfold tryCommit at e
  split at e
  · cases e
  · rename_i v hv
    split at e
    · cases e
    · dsimp only at e
      split at e
      · cases e
      · split at e
        · cases e
        · cases e
          exact .seq activate_changes (.seq (reachGroup_changes _ hv) .refl (by decide)) (by decide)

/-! ### Machine/CfgRows.lean -/

theorem execAttrGet_changes {l : Line} {num : Nat} {field : Option String} {form : GetForm} {s : State} : NextChanges 1594256 s (execAttrGet l num field form s) := by
  unfold execAttrGet
  refine .next ?_
  refine runCmd_changes (fun u0 n0 h0 => ?_) (by decide)
  split
  rename_i _ e1
  refine .say0 ?_
  assumption
  rename_i _ _ e2
  split
  rename_i _ _ _ e3
  refine .say0 ?_
  assumption
  rename_i _ _ _ u4 e5
  refine .say0 ?_
  refine Changes.opt ?_ e5
  refine .seq reach_changes ?_ (by decide)
  assumption

theorem applyWrite_after {s : State} {a : Attr} {ws : List (FieldDesc × Int)} :
    afterMask (applyWrite s a ws).2 &&& 4 = afterMask (applyWrite s a ws).2 := by
  unfold applyWrite
  split <;> (try dsimp only) <;> (try split) <;> first | exact Nat.zero_and _ | (simp only [afterMask]; decide) | (simp [afterMask]; done) | (split <;> simp [afterMask])

theorem setBody_changes {s : State} {x : SessId} {a : Attr} {ws : List (FieldDesc × Int)} :
    RunChanges 1605566 s (setBody s x a ws) := by
  unfold setBody
  split
  · exact .say0 .refl
  · rename_i u hu
    have hu : Changes 1605566 s u := .seq (reach_changes _ hu) .refl (by decide)
    split
    · refine .ite (.say0 hu) (.say0 ?_)
      exact .seq writeShadow_changes hu (by decide)
    · refine .ite (.say0 hu) (.say ?_ (and_trans applyWrite_after (by decide)))
      exact .seq applyWrite_changes hu (by decide)

theorem setAttr_changes {s : State} {l : Line} {a : Attr} {asg : Assign} : Changes 1605566 s (setAttr s l a asg) := by
  unfold setAttr
  (extract_lets +onlyGivenNames (merge := false) w0; clear_value w0)
  (extract_lets +onlyGivenNames (merge := false) w1; clear_value w1)
  (extract_lets +onlyGivenNames (merge := false) w2; clear_value w2)
  refine runCmd_changes (fun u3 n3 h3 => ?_) (by decide)
  refine .seq setBody_changes ?_ (by decide)
  assumption

theorem execAttrSet_changes {l : Line} {num : Nat} {asg : Assign} {s : State} : NextChanges 1605566 s (execAttrSet l num asg s) := by
  unfold execAttrSet
  refine .next ?_
  split
  rename_i _ e0
  refine runCmd_changes (fun u1 n1 h1 => ?_) (by decide)
  refine .say0 ?_
  assumption
  rename_i _ _ e2
  refine .seq setAttr_changes ?_ (by decide)
  exact .refl

theorem execBayCfgWrite_changes {l : Line} {asg : Assign} {s : State} : NextChanges 1605566 s (execBayCfgWrite l asg s) := by
  unfold execBayCfgWrite
  refine .next ?_
  refine .seq setAttr_changes ?_ (by decide)
  exact .refl

theorem execTamperClear_changes {l : Line} {asg : Assign} {s : State} : NextChanges 1605566 s (execTamperClear l asg s) := by
  unfold execTamperClear
  refine .next ?_
  refine .seq setAttr_changes ?_ (by decide)
  exact .refl

theorem execPolicyPreferWrite_changes {l : Line} {value : Option Int} {s : State} : NextChanges 1605566 s (execPolicyPreferWrite l value s) := by
  unfold execPolicyPreferWrite
  refine .next ?_
  refine .seq setAttr_changes ?_ (by decide)
  exact .refl

theorem execNetPhyCfgWrite_changes {l : Line} {port : PortId} {asg : Assign} {s : State} : NextChanges 1605566 s (execNetPhyCfgWrite l port asg s) := by
  unfold execNetPhyCfgWrite
  refine .next ?_
  refine .seq setAttr_changes ?_ (by decide)
  exact .refl

theorem execMaxFrameWrite_changes {l : Line} {port : PortId} {value : Option Int} {s : State} : NextChanges 1605566 s (execMaxFrameWrite l port value s) := by
  unfold execMaxFrameWrite
  refine .next ?_
  refine .seq setAttr_changes ?_ (by decide)
  exact .refl

theorem execKvCfgWrite_changes {l : Line} {asg : Assign} {s : State} : NextChanges 1605566 s (execKvCfgWrite l asg s) := by
  unfold execKvCfgWrite
  refine .next ?_
  refine .seq setAttr_changes ?_ (by decide)
  exact .refl

theorem execRouteCfgWrite_changes {l : Line} {asg : Assign} {s : State} : NextChanges 1605566 s (execRouteCfgWrite l asg s) := by
  unfold execRouteCfgWrite
  refine .next ?_
  refine .seq setAttr_changes ?_ (by decide)
  exact .refl

theorem execMeterKindWrite_changes {l : Line} {stall : StallNo} {value : Option Int} {s : State} : NextChanges 1605566 s (execMeterKindWrite l stall value s) := by
  unfold execMeterKindWrite
  refine .next ?_
  refine .seq setAttr_changes ?_ (by decide)
  exact .refl

theorem execCommitGroup_changes {l : Line} {g : Option Group} {s : State} : NextChanges 1671098 s (execCommitGroup l g s) := by
  unfold execCommitGroup
  refine .next ?_
  refine runCmd_changes (fun u0 n0 h0 => ?_) (by decide)
  split
  refine .say0 ?_
  assumption
  refine .ite ?_ ?_
  refine .say0 ?_
  assumption
  split
  rename_i _ _ _ e1
  refine .say0 ?_
  assumption
  rename_i _ _ _ _ e2
  split
  rename_i _ _ _ _ _ _ e3
  refine .say0 ?_
  assumption
  rename_i _ _ _ _ _ u4 e5
  refine .say0 ?_
  refine .seq (tryCommit_changes e5) ?_ (by decide)
  assumption

theorem execDiscardGroup_changes {l : Line} {g : Option Group} {s : State} : NextChanges 1594272 s (execDiscardGroup l g s) := by
  unfold execDiscardGroup
  refine .next ?_
  refine runCmd_changes (fun u0 n0 h0 => ?_) (by decide)
  split
  refine .say0 ?_
  assumption
  refine .ite ?_ ?_
  refine .say0 ?_
  assumption
  refine .say0 ?_
  refine .seq dropShadow_changes ?_ (by decide)
  assumption

theorem writeAndCommit_changes {s : State} {x : SessId} {g : Group} {more : List (Attr × String × Nat)} {line : List (String × Val)} : RunChanges 1671098 s (writeAndCommit s x g more line) := by
  unfold writeAndCommit
  (extract_lets +onlyGivenNames (merge := false) w0; clear_value w0)
  split
  rename_i _ _ e1
  refine .say0 ?_
  exact .refl
  rename_i _ u2 e3
  refine .say0 ?_
  refine .seq (tryCommit_changes e3) ?_ (by decide)
  exact .refl

theorem execKvShow_changes {l : Line} {s : State} : NextChanges 1594240 s (execKvShow l s) := by
  unfold execKvShow
  refine .next ?_
  refine .seq showCmd_changes ?_ (by decide)
  exact .refl

theorem execKvStats_changes {l : Line} {s : State} : NextChanges 1594240 s (execKvStats l s) := by
  unfold execKvStats
  refine .next ?_
  refine .seq showCmd_changes ?_ (by decide)
  exact .refl

theorem execKvConns_changes {l : Line} {stall : Option Int} {s : State} : NextChanges 1594240 s (execKvConns l stall s) := by
  unfold execKvConns
  refine .next ?_
  refine .seq showCmd_changes ?_ (by decide)
  exact .refl

theorem execKv1Enable_changes {l : Line} {s : State} : NextChanges 1605566 s (execKv1Enable l s) := by
  unfold execKv1Enable
  refine .next ?_
  refine runCmd_changes (fun u0 n0 h0 => ?_) (by decide)
  refine .seq setBody_changes ?_ (by decide)
  assumption

theorem execKv1Disable_changes {l : Line} {s : State} : NextChanges 1605566 s (execKv1Disable l s) := by
  unfold execKv1Disable
  refine .next ?_
  refine runCmd_changes (fun u0 n0 h0 => ?_) (by decide)
  refine .seq setBody_changes ?_ (by decide)
  assumption

theorem execKv1Allow_changes {l : Line} {addr : IpAddr} {stall : Int} {s : State} : NextChanges 1671098 s (execKv1Allow l addr stall s) := by
  unfold execKv1Allow
  refine .next ?_
  refine runCmd_changes (fun u0 n0 h0 => ?_) (by decide)
  split
  rename_i _ e1
  refine .say0 ?_
  assumption
  rename_i _ _ e2
  refine .seq writeAndCommit_changes ?_ (by decide)
  assumption

theorem execKv1Deny_changes {l : Line} {addr : IpAddr} {s : State} : NextChanges 1671098 s (execKv1Deny l addr s) := by
  unfold execKv1Deny
  refine .next ?_
  refine runCmd_changes (fun u0 n0 h0 => ?_) (by decide)
  split
  rename_i _ e1
  refine .say0 ?_
  assumption
  rename_i _ _ e2
  refine .seq writeAndCommit_changes ?_ (by decide)
  assumption

theorem execKv1Show_changes {l : Line} {s : State} : NextChanges 1594240 s (execKv1Show l s) := by
  unfold execKv1Show
  refine .next ?_
  refine .seq showCmd_changes ?_ (by decide)
  exact .refl

theorem execArcadeGrant_changes {l : Line} {bank : Int} {quarter : Int} {stall : Option Int} {s : State} : NextChanges 1671098 s (execArcadeGrant l bank quarter stall s) := by
  unfold execArcadeGrant
  split
  rename_i _ _ _ e0
  refine .next ?_
  refine runCmd_changes (fun u1 n1 h1 => ?_) (by decide)
  refine .seq writeAndCommit_changes ?_ (by decide)
  assumption

theorem execConfigExport_changes {l : Line} {s : State} : NextChanges 1594240 s (execConfigExport l s) := by
  unfold execConfigExport
  refine .next ?_
  refine .seq showCmd_changes ?_ (by decide)
  exact .refl

theorem execResShow_changes {l : Line} {s : State} : NextChanges 1594240 s (execResShow l s) := by
  unfold execResShow
  refine .next ?_
  refine .seq showCmd_changes ?_ (by decide)
  exact .refl

/-! ### Machine/Proto.lean -/

theorem execDataConnect_changes {gen : Gen} {port : PortId} {ifc : IfNo} {peer : IpAddr} {localAddr : IpAddr} {firstByte : Byte} {s : State} : NextChanges 1792 s (execDataConnect gen port ifc peer localAddr firstByte s) := by
  unfold execDataConnect
  refine .next ?_
  refine .ite ?_ ?_
  exact .refl
  refine .ite ?_ ?_
  refine .seq resetNew_changes ?_ (by decide)
  exact .refl
  refine .ite ?_ ?_
  refine .seq addConn_changes ?_ (by decide)
  exact .refl
  refine .ite ?_ ?_
  refine .seq addConn_changes ?_ (by decide)
  exact .refl
  refine .seq sendClose_changes ?_ (by decide)
  refine .seq (updProto_changes ?_) ?_ (by decide)
  exact Nat.le_succ _
  exact .refl

theorem execKv1Connect_changes {port : PortId} {ifc : IfNo} {peer : IpAddr} {localAddr : IpAddr} {s : State} : NextChanges 1722240 s (execKv1Connect port ifc peer localAddr s) := by
  unfold execKv1Connect
  refine .next ?_
  (extract_lets +onlyGivenNames (merge := false) w0; clear_value w0)
  refine .ite ?_ ?_
  exact .refl
  refine .ite ?_ ?_
  refine .seq resetNew_changes ?_ (by decide)
  exact .refl
  split
  rename_i _ e1
  refine .seq refuseKv1_changes ?_ (by decide)
  exact .refl
  rename_i _ _ e2
  (extract_lets +onlyGivenNames (merge := false) w3; clear_value w3)
  split
  rename_i _ _ _ e4
  refine .ite ?_ ?_
  refine .seq refuseKv1_changes ?_ (by decide)
  exact .refl
  refine .ite ?_ ?_
  refine .seq resetNew_changes ?_ (by decide)
  exact .refl
  refine .seq noteSession_changes ?_ (by decide)
  refine .seq addConn_changes ?_ (by decide)
  exact .refl
  rename_i _ _ _ e5
  refine .ite ?_ ?_
  refine .seq refuseKv1_changes ?_ (by decide)
  exact .refl
  refine .ite ?_ ?_
  refine .seq resetNew_changes ?_ (by decide)
  exact .refl
  refine .seq noteSession_changes ?_ (by decide)
  refine .seq addConn_changes ?_ (by decide)
  exact .refl
  refine .seq refuseKv1_changes ?_ (by decide)
  exact .refl

theorem issueTicket_changes {s : State} {i : Nat} {g : Gen} {a : TlsAuth} : Changes 1792 s (issueTicket s i g a) := by
  unfold issueTicket
  extract_lets +onlyGivenNames (merge := false) w0
  extract_lets +onlyGivenNames (merge := false) w1
  (extract_lets +onlyGivenNames (merge := false) u2; suffices h2 : Changes 1792 s u2; clear_value u2)
  refine .seq release_changes ?_ (by decide)
  refine .seq updConn_changes ?_ (by decide)
  assumption
  dsimp -zeta only [u2]
  refine .seq (updProto_changes ?_) ?_ (by decide)
  exact Nat.le_refl _
  exact .refl

theorem execTlsHandshake_changes {conn : Nat} {r : TlsResult} {s : State} : NextChanges 1601408 s (execTlsHandshake conn r s) := by
  unfold execTlsHandshake
  refine .next ?_
  split
  rename_i _ e0
  exact .refl
  rename_i _ _ e1
  refine .ite ?_ ?_
  exact .refl
  refine .ite ?_ ?_
  refine .seq closeConn_changes ?_ (by decide)
  refine .seq sendAlert_changes ?_ (by decide)
  exact .refl
  refine .ite ?_ ?_
  (extract_lets +onlyGivenNames (merge := false) w2; clear_value w2)
  refine .seq closeConn_changes ?_ (by decide)
  refine .seq authFail_changes ?_ (by decide)
  refine .seq sendAlert_changes ?_ (by decide)
  exact .refl
  (extract_lets +onlyGivenNames (merge := false) w3; clear_value w3)
  refine .seq issueTicket_changes ?_ (by decide)
  refine .seq updConn_changes ?_ (by decide)
  exact .refl

theorem execTlsRecordFail_changes {conn : Nat} {s : State} : NextChanges 12032 s (execTlsRecordFail conn s) := by
  unfold execTlsRecordFail
  refine .next ?_
  split
  rename_i _ e0
  exact .refl
  rename_i _ _ e1
  refine .ite ?_ ?_
  refine .seq closeConn_changes ?_ (by decide)
  refine .seq sendAlert_changes ?_ (by decide)
  exact .refl
  exact .refl

theorem execConnectionTimeout_changes {conn : Nat} {limit : ConnLimit} {s : State} : NextChanges 12034 s (execConnectionTimeout conn limit s) := by
  unfold execConnectionTimeout
  refine .next ?_
  split
  rename_i _ e0
  exact .refl
  rename_i _ _ e1
  refine .seq closeConn_changes ?_ (by decide)
  refine .seq countP_changes ?_ (by decide)
  refine .seq advanceTo_changes ?_ (by decide)
  exact .refl

theorem execConnectionClose_changes {conn : Nat} {s : State} : NextChanges 11520 s (execConnectionClose conn s) := by
  unfold execConnectionClose
  refine .next ?_
  refine .seq peerGone_changes ?_ (by decide)
  exact .refl

theorem execHello_changes {conn : Nat} {f : Frame} {s : State} : NextChanges 3932048 s (execHello conn f s) := by
  unfold execHello
  refine .next ?_
  refine .seq frameRow_changes ?_ (by decide)
  exact .refl

theorem execAuth_changes {conn : Nat} {f : Frame} {s : State} : NextChanges 3932048 s (execAuth conn f s) := by
  unfold execAuth
  refine .next ?_
  refine .seq frameRow_changes ?_ (by decide)
  exact .refl

theorem execAuthDenyDelay_changes {conn : Nat} {s : State} : NextChanges 1601410 s (execAuthDenyDelay conn s) := by
  unfold execAuthDenyDelay
  refine .next ?_
  split
  rename_i _ e0
  exact .refl
  rename_i _ _ e1
  refine .ite ?_ ?_
  exact .refl
  (extract_lets +onlyGivenNames (merge := false) u2; suffices h2 : Changes 1601410 s u2; clear_value u2)
  (extract_lets +onlyGivenNames (merge := false) u3; suffices h3 : Changes 1601410 s u3; clear_value u3)
  refine .seq closeConn_changes ?_ (by decide)
  refine .seq authFail_changes ?_ (by decide)
  assumption
  dsimp -zeta only [u3]
  refine .seq sendFrame_changes ?_ (by decide)
  assumption
  dsimp -zeta only [u2]
  refine .seq advanceTo_changes ?_ (by decide)
  exact .refl

theorem execAuthLockoutExpiry_changes {addr : IpAddr} {s : State} : NextChanges 1026 s (execAuthLockoutExpiry addr s) := by
  unfold execAuthLockoutExpiry
  refine .next ?_
  split
  rename_i _ e0
  exact .refl
  rename_i _ _ e1
  refine .seq (updProto_changes ?_) ?_ (by decide)
  exact Nat.le_refl _
  refine .seq advanceTo_changes ?_ (by decide)
  exact .refl

theorem execChannelOpen_changes {conn : Nat} {f : Frame} {s : State} : NextChanges 3932048 s (execChannelOpen conn f s) := by
  unfold execChannelOpen
  refine .next ?_
  refine .seq frameRow_changes ?_ (by decide)
  exact .refl

theorem execChannelClose_changes {conn : Nat} {f : Frame} {s : State} : NextChanges 3932048 s (execChannelClose conn f s) := by
  unfold execChannelClose
  refine .next ?_
  refine .seq frameRow_changes ?_ (by decide)
  exact .refl

theorem execFrameLostAlignment_changes {conn : Nat} {bytes : List Byte} {s : State} : NextChanges 3932048 s (execFrameLostAlignment conn bytes s) := by
  unfold execFrameLostAlignment
  refine .next ?_
  split
  rename_i _ e0
  exact .refl
  rename_i _ _ e1
  split
  rename_i _ _ _ e2
  refine .ite ?_ ?_
  (extract_lets +onlyGivenNames (merge := false) u3; suffices h3 : Changes 3932048 s u3; clear_value u3)
  refine .seq settle_changes ?_ (by decide)
  refine .seq scanN_changes ?_ (by decide)
  assumption
  dsimp -zeta only [u3]
  refine .seq loseAlignment_changes ?_ (by decide)
  refine .seq updConn_changes ?_ (by decide)
  exact .refl
  exact .refl
  rename_i _ _ _ e4
  refine .ite ?_ ?_
  (extract_lets +onlyGivenNames (merge := false) u5; suffices h5 : Changes 3932048 s u5; clear_value u5)
  refine .seq settle_changes ?_ (by decide)
  refine .seq scanN_changes ?_ (by decide)
  assumption
  dsimp -zeta only [u5]
  refine .seq loseAlignment_changes ?_ (by decide)
  refine .seq updConn_changes ?_ (by decide)
  exact .refl
  exact .refl
  rename_i _ _ _ e6
  refine .ite ?_ ?_
  (extract_lets +onlyGivenNames (merge := false) u7; suffices h7 : Changes 3932048 s u7; clear_value u7)
  refine .seq settle_changes ?_ (by decide)
  refine .seq scanN_changes ?_ (by decide)
  assumption
  dsimp -zeta only [u7]
  refine .seq loseAlignment_changes ?_ (by decide)
  refine .seq updConn_changes ?_ (by decide)
  exact .refl
  exact .refl
  exact .refl

theorem execResyncData_changes {conn : Nat} {bytes : List Byte} {s : State} : NextChanges 3932048 s (execResyncData conn bytes s) := by
  unfold execResyncData
  refine .next ?_
  split
  rename_i _ e0
  exact .refl
  rename_i _ _ e1
  refine .ite ?_ ?_
  exact .refl
  (extract_lets +onlyGivenNames (merge := false) u2; suffices h2 : Changes 3932048 s u2; clear_value u2)
  refine .seq settle_changes ?_ (by decide)
  refine .seq scanN_changes ?_ (by decide)
  assumption
  dsimp -zeta only [u2]
  refine .seq updConn_changes ?_ (by decide)
  exact .refl

theorem execResyncTimeout_changes {conn : Nat} {s : State} : NextChanges 1601410 s (execResyncTimeout conn s) := by
  unfold execResyncTimeout
  refine .next ?_
  split
  rename_i _ e0
  exact .refl
  rename_i _ _ e1
  refine .ite ?_ ?_
  exact .refl
  refine .seq scanFails_changes ?_ (by decide)
  refine .seq advanceTo_changes ?_ (by decide)
  exact .refl

theorem execKv1Heartbeat_changes {y0 : PortId} {ifc : IfNo} {e : Ends} {datagram : List Byte} {s : State} : NextChanges 1792 s (execKv1Heartbeat y0 ifc e datagram s) := by
  unfold execKv1Heartbeat
  refine .next ?_
  refine .ite ?_ ?_
  exact .refl
  split
  rename_i _ e0
  refine .seq countP_changes ?_ (by decide)
  exact .refl
  rename_i _ _ e1
  refine .seq sendIp_changes ?_ (by decide)
  exact .refl

theorem execHeartbeat_changes {conn : Nat} {f : Frame} {s : State} : NextChanges 3932048 s (execHeartbeat conn f s) := by
  unfold execHeartbeat
  refine .next ?_
  refine .seq frameRow_changes ?_ (by decide)
  exact .refl

theorem execZeroWindowTimeout_changes {conn : Nat} {s : State} : NextChanges 12032 s (execZeroWindowTimeout conn s) := by
  unfold execZeroWindowTimeout
  refine .next ?_
  split
  rename_i _ e0
  exact .refl
  rename_i _ _ e1
  refine .seq countP_changes ?_ (by decide)
  refine .seq resetConn_changes ?_ (by decide)
  exact .refl

/-! ### Machine/Stalls.lean -/

theorem execStallShow_changes {l : Line} {stall : Option Int} {s : State} : NextChanges 1594240 s (execStallShow l stall s) := by
  unfold execStallShow
  refine .next ?_
  refine .seq showCmd_changes ?_ (by decide)
  exact .refl

theorem execStallCreate_changes {l : Line} {stall : Int} {host : Option Nat} {s : State} : NextChanges 3699616 s (execStallCreate l stall host s) := by
  unfold execStallCreate
  refine .next ?_
  refine runCmd_changes (fun u0 n0 h0 => ?_) (by decide)
  (extract_lets +onlyGivenNames (merge := false) w1; clear_value w1)
  (extract_lets +onlyGivenNames (merge := false) w2; clear_value w2)
  split
  rename_i _ e3
  refine .say0 ?_
  assumption
  rename_i _ e4
  refine .say0 ?_
  assumption
  rename_i _ e5
  refine .ite ?_ ?_
  refine .seq errRun_changes ?_ (by decide)
  assumption
  (extract_lets +onlyGivenNames (merge := false) u6; suffices h6 : Changes 3699616 s u6; clear_value u6)
  refine .say0 ?_
  assumption
  dsimp -zeta only [u6]
  refine .seq createStall_changes ?_ (by decide)
  assumption
  refine .seq errRun_changes ?_ (by decide)
  assumption

theorem changeCmd_changes {s : State} {l : Line} {stall : Int} {k : DrainKind} {host : Option Nat} : Changes 1605504 s (changeCmd s l stall k host) := by
  unfold changeCmd
  refine runCmd_changes (fun u0 n0 h0 => ?_) (by decide)
  (extract_lets +onlyGivenNames (merge := false) w1; clear_value w1)
  refine whileDrained_changes ?_ (fun u2 h2 => ?_)
  assumption
  refine .ite ?_ ?_
  refine .seq errRun_changes ?_ (by decide)
  assumption
  refine .ite ?_ ?_
  refine .wait ?_
  refine .seq startDrain_changes ?_ (by decide)
  assumption
  refine .seq errRun_changes ?_ (by decide)
  assumption

theorem execStallReset_changes {l : Line} {stall : Int} {s : State} : NextChanges 1605504 s (execStallReset l stall s) := by
  unfold execStallReset
  refine .next ?_
  refine .seq changeCmd_changes ?_ (by decide)
  exact .refl

theorem execStallRebind_changes {l : Line} {stall : Int} {host : Nat} {s : State} : NextChanges 1605504 s (execStallRebind l stall host s) := by
  unfold execStallRebind
  refine .next ?_
  refine .seq changeCmd_changes ?_ (by decide)
  exact .refl

theorem execDrainEnd_changes {stall : StallNo} {s : State} : NextChanges 1703903 s (execDrainEnd stall s) := by
  unfold execDrainEnd
  refine .next ?_
  refine .seq endDrain_changes ?_ (by decide)
  exact .refl

theorem execStallRemove_changes {l : Line} {stall : Int} {force : Bool} {s : State} : NextChanges 1703824 s (execStallRemove l stall force s) := by
  unfold execStallRemove
  refine .next ?_
  refine runCmd_changes (fun u0 n0 h0 => ?_) (by decide)
  (extract_lets +onlyGivenNames (merge := false) w1; clear_value w1)
  refine whileDrained_changes ?_ (fun u2 h2 => ?_)
  assumption
  refine .ite ?_ ?_
  refine .seq errRun_changes ?_ (by decide)
  assumption
  refine .ite ?_ ?_
  refine .seq errRun_changes ?_ (by decide)
  assumption
  (extract_lets +onlyGivenNames (merge := false) u3; suffices h3 : Changes 1703824 s u3; clear_value u3)
  refine .wait ?_
  refine .seq startDrain_changes ?_ (by decide)
  assumption
  dsimp -zeta only [u3]
  refine .ite ?_ ?_
  refine .seq relocFails_changes ?_ (by decide)
  refine .seq sendFail_changes ?_ (by decide)
  assumption
  assumption

theorem execStallRemovalDone_changes {stall : StallNo} {s : State} : NextChanges 1602432 s (execStallRemovalDone stall s) := by
  unfold execStallRemovalDone
  refine .next ?_
  refine .seq freeStall_changes ?_ (by decide)
  exact .refl

theorem execStallFreeze_changes {l : Line} {stall : Int} {s : State} : NextChanges 1594240 s (execStallFreeze l stall s) := by
  unfold execStallFreeze
  refine .next ?_
  refine runCmd_changes (fun u0 n0 h0 => ?_) (by decide)
  (extract_lets +onlyGivenNames (merge := false) w1; clear_value w1)
  refine whileDrained_changes ?_ (fun u2 h2 => ?_)
  assumption
  refine .ite ?_ ?_
  refine .seq errRun_changes ?_ (by decide)
  assumption
  refine .ite ?_ ?_
  refine .wait ?_
  refine .seq startFreeze_changes ?_ (by decide)
  assumption
  refine .seq errRun_changes ?_ (by decide)
  assumption

theorem execFreezeDrainEnd_changes {stall : StallNo} {s : State} : NextChanges 3801039 s (execFreezeDrainEnd stall s) := by
  unfold execFreezeDrainEnd
  refine .next ?_
  refine .seq endFreeze_changes ?_ (by decide)
  exact .refl

theorem execStallBlobRead_changes {l : Line} {stall : Int} {off : Int} {len : Int} {s : State} : NextChanges 1594240 s (execStallBlobRead l stall off len s) := by
  unfold execStallBlobRead
  refine .next ?_
  refine .seq showCmd_changes ?_ (by decide)
  exact .refl

theorem execStallBlobLoad_changes {l : Line} {stall : Int} {off : Int} {hex : List Byte} {s : State} : NextChanges 1594240 s (execStallBlobLoad l stall off hex s) := by
  unfold execStallBlobLoad
  refine .next ?_
  refine runCmd_changes (fun u0 n0 h0 => ?_) (by decide)
  (extract_lets +onlyGivenNames (merge := false) w1; clear_value w1)
  refine whileDrained_changes ?_ (fun u2 h2 => ?_)
  assumption
  refine .say0 ?_
  refine .seq updStall_changes ?_ (by decide)
  assumption

theorem thawStall_changes {s : State} {x : StallNo} {b : Blob} {host : Nat} : Changes 1605504 s (thawStall s x b host) := by
  unfold thawStall
  (extract_lets +onlyGivenNames (merge := false) w0; clear_value w0)
  (extract_lets +onlyGivenNames (merge := false) u1; suffices h1 : Changes 1605504 s u1; clear_value u1)
  (extract_lets +onlyGivenNames (merge := false) u2; suffices h2 : Changes 1605504 s u2; clear_value u2)
  refine .seq logEv_changes ?_ (by decide)
  assumption
  dsimp -zeta only [u2]
  refine .seq storeStall_changes ?_ (by decide)
  refine .seq changeGen_changes ?_ (by decide)
  assumption
  dsimp -zeta only [u1]
  refine .seq updStall_changes ?_ (by decide)
  exact .refl

theorem execStallThaw_changes {l : Line} {stall : Int} {host : Nat} {s : State} : NextChanges 1605504 s (execStallThaw l stall host s) := by
  unfold execStallThaw
  refine .next ?_
  refine runCmd_changes (fun u0 n0 h0 => ?_) (by decide)
  (extract_lets +onlyGivenNames (merge := false) w1; clear_value w1)
  refine whileDrained_changes ?_ (fun u2 h2 => ?_)
  assumption
  (extract_lets +onlyGivenNames (merge := false) w3; clear_value w3)
  split
  rename_i _ e4
  refine .seq errRun_changes ?_ (by decide)
  assumption
  rename_i _ _ _ e5
  refine .ite ?_ ?_
  refine .seq errRun_changes ?_ (by decide)
  assumption
  refine .ite ?_ ?_
  refine .seq errRun_changes ?_ (by decide)
  assumption
  (extract_lets +onlyGivenNames (merge := false) u6; suffices h6 : Changes 1605504 s u6; clear_value u6)
  refine .say0 ?_
  assumption
  dsimp -zeta only [u6]
  refine .seq thawStall_changes ?_ (by decide)
  assumption

theorem execStallRelocate_changes {l : Line} {stall : Int} {to_ : Nat} {dest : Int} {rate : Option Int} {accepted : Bool} {s : State} : NextChanges 1659776 s (execStallRelocate l stall to_ dest rate accepted s) := by
  unfold execStallRelocate
  refine .next ?_
  refine runCmd_changes (fun u0 n0 h0 => ?_) (by decide)
  (extract_lets +onlyGivenNames (merge := false) w1; clear_value w1)
  refine whileDrained_changes ?_ (fun u2 h2 => ?_)
  assumption
  refine .ite ?_ ?_
  refine .seq errRun_changes ?_ (by decide)
  assumption
  refine .ite ?_ ?_
  (extract_lets +onlyGivenNames (merge := false) u3; suffices h3 : Changes 1659776 s u3; clear_value u3)
  (extract_lets +onlyGivenNames (merge := false) w4; clear_value w4)
  refine .say0 ?_
  refine .seq updStall_changes ?_ (by decide)
  assumption
  dsimp -zeta only [u3]
  refine .seq rowSend_changes ?_ (by decide)
  assumption
  refine .seq errRun_changes ?_ (by decide)
  assumption

theorem execRelocateCopy_changes {stall : StallNo} {s : State} : NextChanges 70402 s (execRelocateCopy stall s) := by
  unfold execRelocateCopy
  refine .next ?_
  split
  rename_i _ e0
  exact .refl
  rename_i _ _ e1
  refine .ite ?_ ?_
  split
  rename_i _ _ _ _ _ e2
  (extract_lets +onlyGivenNames (merge := false) u3; suffices h3 : Changes 70402 s u3; clear_value u3)
  extract_lets +onlyGivenNames (merge := false) w4
  refine .seq sendKey_changes ?_ (by decide)
  refine .seq updReloc_changes ?_ (by decide)
  assumption
  dsimp -zeta only [u3]
  refine .seq advanceTo_changes ?_ (by decide)
  exact .refl
  rename_i _ _ _ e5
  exact .refl
  exact .refl

theorem execRelocateCutover_changes {stall : StallNo} {s : State} : NextChanges 1594240 s (execRelocateCutover stall s) := by
  unfold execRelocateCutover
  refine .next ?_
  split
  rename_i _ e0
  exact .refl
  rename_i _ _ e1
  refine .ite ?_ ?_
  refine .seq startFreeze_changes ?_ (by decide)
  refine .seq updReloc_changes ?_ (by decide)
  exact .refl
  exact .refl

theorem execRelocateMessage_changes {h : RowHdr} {m : RelocMsg} {s : State} : NextChanges 3801008 s (execRelocateMessage h m s) := by
  unfold execRelocateMessage
  refine .next ?_
  refine takeRow_changes ?_ (by decide) (fun u0 h0 => ?_)
  exact .refl
  split
  rename_i _ _ _ e1
  (extract_lets +onlyGivenNames (merge := false) w2; clear_value w2)
  dsimp -zeta only
  split
  refine .seq takeOffer_changes ?_ (by decide)
  assumption
  refine .seq takeObj_changes ?_ (by decide)
  assumption
  refine .seq takeRemoved_changes ?_ (by decide)
  assumption
  refine .seq takeCutover_changes ?_ (by decide)
  assumption
  refine .seq takeAck_changes ?_ (by decide)
  assumption
  refine .ite ?_ ?_
  refine .seq sourceDone_changes ?_ (by decide)
  assumption
  assumption
  refine .ite ?_ ?_
  refine .seq relocFails_changes ?_ (by decide)
  assumption
  assumption

theorem execRelocateDone_changes {stall : StallNo} {s : State} : NextChanges 1703808 s (execRelocateDone stall s) := by
  unfold execRelocateDone
  refine .next ?_
  refine .seq sourceDone_changes ?_ (by decide)
  exact .refl

theorem execRelocateFailed_changes {stall : StallNo} {cause : RelocFail} {s : State} : NextChanges 1703826 s (execRelocateFailed stall cause s) := by
  unfold execRelocateFailed
  refine .next ?_
  split
  rename_i _ e0
  exact .refl
  rename_i _ _ e1
  split
  rename_i _ _ _ _ e2
  exact .refl
  rename_i _ _ _ _ _ e3
  refine .seq relocFails_changes ?_ (by decide)
  refine .seq sendFail_changes ?_ (by decide)
  refine .seq advanceTo_changes ?_ (by decide)
  exact .refl
  refine .seq relocFails_changes ?_ (by decide)
  refine .seq sendFail_changes ?_ (by decide)
  exact .refl

theorem execStallRelocateCancel_changes {l : Line} {stall : Int} {s : State} : NextChanges 1703824 s (execStallRelocateCancel l stall s) := by
  unfold execStallRelocateCancel
  refine .next ?_
  refine runCmd_changes (fun u0 n0 h0 => ?_) (by decide)
  (extract_lets +onlyGivenNames (merge := false) w1; clear_value w1)
  refine whileDrained_changes ?_ (fun u2 h2 => ?_)
  assumption
  split
  rename_i _ _ e3
  refine .ite ?_ ?_
  refine .say0 ?_
  refine .seq relocFails_changes ?_ (by decide)
  refine .seq sendFail_changes ?_ (by decide)
  assumption
  refine .seq errRun_changes ?_ (by decide)
  assumption
  rename_i _ e4
  refine .seq errRun_changes ?_ (by decide)
  assumption

theorem execStallAdopt_changes {l : Line} {stall : Int} {warden : Option Int} {s : State} : NextChanges 1602432 s (execStallAdopt l stall warden s) := by
  unfold execStallAdopt
  refine .next ?_
  refine runCmd_changes (fun u0 n0 h0 => ?_) (by decide)
  (extract_lets +onlyGivenNames (merge := false) w1; clear_value w1)
  refine whileDrained_changes ?_ (fun u2 h2 => ?_)
  assumption
  refine .say0 ?_
  refine .seq storeStall_changes ?_ (by decide)
  refine .seq updStall_changes ?_ (by decide)
  assumption

theorem execStallKeyExport_changes {l : Line} {stall : Int} {kek : List Byte} {s : State} : NextChanges 1594240 s (execStallKeyExport l stall kek s) := by
  unfold execStallKeyExport
  refine .next ?_
  refine runCmd_changes (fun u0 n0 h0 => ?_) (by decide)
  (extract_lets +onlyGivenNames (merge := false) w1; clear_value w1)
  split
  rename_i _ e2
  refine .seq errRun_changes ?_ (by decide)
  assumption
  rename_i _ _ e3
  refine .say0 ?_
  refine .seq logEv_changes ?_ (by decide)
  assumption

theorem execStallCredShow_changes {l : Line} {stall : Int} {s : State} : NextChanges 1594240 s (execStallCredShow l stall s) := by
  unfold execStallCredShow
  refine .next ?_
  refine .seq showCmd_changes ?_ (by decide)
  exact .refl

theorem execStallCredNew_changes {l : Line} {stall : Int} {slot : Int} {s : State} : NextChanges 3702656 s (execStallCredNew l stall slot s) := by
  unfold execStallCredNew
  refine .next ?_
  refine runCmd_changes (fun u0 n0 h0 => ?_) (by decide)
  (extract_lets +onlyGivenNames (merge := false) w1; clear_value w1)
  refine whileDrained_changes ?_ (fun u2 h2 => ?_)
  assumption
  split
  rename_i _ _ u3 e4
  refine .say0 ?_
  refine .seq changeCred_changes ?_ (by decide)
  refine Changes.snd ?_ e4
  refine .seq freshBytes_changes ?_ (by decide)
  assumption

theorem execStallCredSet_changes {l : Line} {stall : Int} {slot : Int} {value : CredArg} {s : State} : NextChanges 1605504 s (execStallCredSet l stall slot value s) := by
  unfold execStallCredSet
  refine .next ?_
  refine runCmd_changes (fun u0 n0 h0 => ?_) (by decide)
  (extract_lets +onlyGivenNames (merge := false) w1; clear_value w1)
  refine whileDrained_changes ?_ (fun u2 h2 => ?_)
  assumption
  refine .say0 ?_
  refine .seq changeCred_changes ?_ (by decide)
  assumption

theorem execStallCredClear_changes {l : Line} {stall : Int} {slot : Int} {s : State} : NextChanges 1605504 s (execStallCredClear l stall slot s) := by
  unfold execStallCredClear
  refine .next ?_
  refine runCmd_changes (fun u0 n0 h0 => ?_) (by decide)
  (extract_lets +onlyGivenNames (merge := false) w1; clear_value w1)
  refine whileDrained_changes ?_ (fun u2 h2 => ?_)
  assumption
  refine .say0 ?_
  refine .seq changeCred_changes ?_ (by decide)
  assumption

theorem execMbxCompose_changes {l : Line} {off : Int} {bytes : List Byte} {s : State} : NextChanges 1594240 s (execMbxCompose l off bytes s) := by
  unfold execMbxCompose
  refine .next ?_
  refine runCmd_changes (fun u0 n0 h0 => ?_) (by decide)
  refine .say0 ?_
  refine .seq (updStalls_changes ?_) ?_ (by decide)
  exact Nat.le_refl _
  assumption

theorem execMbxWardenSend_changes {l : Line} {stall : Int} {type : Int} {len : Int} {s : State} : NextChanges 1603456 s (execMbxWardenSend l stall type len s) := by
  unfold execMbxWardenSend
  refine .next ?_
  refine runCmd_changes (fun u0 n0 h0 => ?_) (by decide)
  (extract_lets +onlyGivenNames (merge := false) w1; clear_value w1)
  refine whileDrained_changes ?_ (fun u2 h2 => ?_)
  assumption
  refine .ite ?_ ?_
  refine .seq errRun_changes ?_ (by decide)
  assumption
  (extract_lets +onlyGivenNames (merge := false) w3; clear_value w3)
  refine .ite ?_ ?_
  refine .say0 ?_
  assumption
  (extract_lets +onlyGivenNames (merge := false) w4; clear_value w4)
  (extract_lets +onlyGivenNames (merge := false) w5; clear_value w5)
  (extract_lets +onlyGivenNames (merge := false) u6; suffices h6 : Changes 1603456 s u6; clear_value u6)
  (extract_lets +onlyGivenNames (merge := false) u7; suffices h7 : Changes 1603456 s u7; clear_value u7)
  refine .say0 ?_
  refine .seq ringTenants_changes ?_ (by decide)
  refine .seq storeStall_changes ?_ (by decide)
  assumption
  dsimp -zeta only [u7]
  refine .seq (updStalls_changes ?_) ?_ (by decide)
  exact Nat.le_refl _
  assumption
  dsimp -zeta only [u6]
  refine .seq updStall_changes ?_ (by decide)
  assumption

theorem execMbxWardenRecv_changes {l : Line} {stall : Int} {from_ : Nat} {s : State} : NextChanges 1602432 s (execMbxWardenRecv l stall from_ s) := by
  unfold execMbxWardenRecv
  refine .next ?_
  refine runCmd_changes (fun u0 n0 h0 => ?_) (by decide)
  (extract_lets +onlyGivenNames (merge := false) w1; clear_value w1)
  refine whileDrained_changes ?_ (fun u2 h2 => ?_)
  assumption
  refine .ite ?_ ?_
  refine .seq errRun_changes ?_ (by decide)
  assumption
  (extract_lets +onlyGivenNames (merge := false) w3; clear_value w3)
  (extract_lets +onlyGivenNames (merge := false) w4; clear_value w4)
  (extract_lets +onlyGivenNames (merge := false) u5; suffices h5 : Changes 1602432 s u5; clear_value u5)
  split
  refine .say0 ?_
  assumption
  refine .say0 ?_
  assumption
  dsimp -zeta only [u5]
  refine .ite ?_ ?_
  assumption
  refine .seq storeStall_changes ?_ (by decide)
  refine .seq updStall_changes ?_ (by decide)
  assumption

theorem execMbxShow_changes {l : Line} {stall : Int} {s : State} : NextChanges 1594240 s (execMbxShow l stall s) := by
  unfold execMbxShow
  refine .next ?_
  refine .seq showCmd_changes ?_ (by decide)
  exact .refl

end Sys2Proof.Laws
end

