-- ==== Sys2Proof/Laws/State.lean ====
section
/-!
SUPPORT. One lemma per update of the state: what each of its parts is afterwards; and the tables after a change of one entry.
-/

namespace Sys2Proof.Laws

open Sys2Proof Machine

/-! ### Updates of one part -/

@[simp] theorem updClock_parts (s : State) (f : Clock → Clock) :
    (updClock s f).phase = s.phase ∧ (updClock s f).clock = f s.clock ∧ (updClock s f).bay = s.bay ∧ (updClock s
    f).power = s.power ∧ (updClock s f).isl = s.isl ∧ (updClock s f).cfg = s.cfg ∧ (updClock s f).boot = s.boot ∧
    (updClock s f).con = s.con ∧ (updClock s f).ports = s.ports ∧ (updClock s f).net = s.net ∧ (updClock s f).proto =
    s.proto ∧ (updClock s f).kv = s.kv ∧ (updClock s f).stalls = s.stalls ∧ (updClock s f).media = s.media ∧ (updClock
    s f).upkeep = s.upkeep ∧ (updClock s f).arc = s.arc ∧ (updClock s f).row = s.row ∧ (updClock s f).fw = s.fw ∧
    (updClock s f).life = s.life ∧ (updClock s f).log = s.log ∧ (updClock s f).out = s.out ∧ (updClock s f).freeCtr =
    s.freeCtr ∧ (updClock s f).pending = s.pending :=
  ⟨rfl, rfl, rfl, rfl, rfl, rfl, rfl, rfl, rfl, rfl, rfl, rfl, rfl, rfl, rfl, rfl, rfl, rfl, rfl, rfl, rfl, rfl, rfl⟩

@[simp] theorem updBay_parts (s : State) (f : Bay → Bay) :
    (updBay s f).phase = s.phase ∧ (updBay s f).clock = s.clock ∧ (updBay s f).bay = f s.bay ∧ (updBay s f).power =
    s.power ∧ (updBay s f).isl = s.isl ∧ (updBay s f).cfg = s.cfg ∧ (updBay s f).boot = s.boot ∧ (updBay s f).con =
    s.con ∧ (updBay s f).ports = s.ports ∧ (updBay s f).net = s.net ∧ (updBay s f).proto = s.proto ∧ (updBay s f).kv =
    s.kv ∧ (updBay s f).stalls = s.stalls ∧ (updBay s f).media = s.media ∧ (updBay s f).upkeep = s.upkeep ∧ (updBay s
    f).arc = s.arc ∧ (updBay s f).row = s.row ∧ (updBay s f).fw = s.fw ∧ (updBay s f).life = s.life ∧ (updBay s f).log
    = s.log ∧ (updBay s f).out = s.out ∧ (updBay s f).freeCtr = s.freeCtr ∧ (updBay s f).pending = s.pending :=
  ⟨rfl, rfl, rfl, rfl, rfl, rfl, rfl, rfl, rfl, rfl, rfl, rfl, rfl, rfl, rfl, rfl, rfl, rfl, rfl, rfl, rfl, rfl, rfl⟩

@[simp] theorem updPower_parts (s : State) (f : Power → Power) :
    (updPower s f).phase = s.phase ∧ (updPower s f).clock = s.clock ∧ (updPower s f).bay = s.bay ∧ (updPower s
    f).power = f s.power ∧ (updPower s f).isl = s.isl ∧ (updPower s f).cfg = s.cfg ∧ (updPower s f).boot = s.boot ∧
    (updPower s f).con = s.con ∧ (updPower s f).ports = s.ports ∧ (updPower s f).net = s.net ∧ (updPower s f).proto =
    s.proto ∧ (updPower s f).kv = s.kv ∧ (updPower s f).stalls = s.stalls ∧ (updPower s f).media = s.media ∧ (updPower
    s f).upkeep = s.upkeep ∧ (updPower s f).arc = s.arc ∧ (updPower s f).row = s.row ∧ (updPower s f).fw = s.fw ∧
    (updPower s f).life = s.life ∧ (updPower s f).log = s.log ∧ (updPower s f).out = s.out ∧ (updPower s f).freeCtr =
    s.freeCtr ∧ (updPower s f).pending = s.pending :=
  ⟨rfl, rfl, rfl, rfl, rfl, rfl, rfl, rfl, rfl, rfl, rfl, rfl, rfl, rfl, rfl, rfl, rfl, rfl, rfl, rfl, rfl, rfl, rfl⟩

@[simp] theorem updIsl_parts (s : State) (f : Islands → Islands) :
    (updIsl s f).phase = s.phase ∧ (updIsl s f).clock = s.clock ∧ (updIsl s f).bay = s.bay ∧ (updIsl s f).power =
    s.power ∧ (updIsl s f).isl = f s.isl ∧ (updIsl s f).cfg = s.cfg ∧ (updIsl s f).boot = s.boot ∧ (updIsl s f).con =
    s.con ∧ (updIsl s f).ports = s.ports ∧ (updIsl s f).net = s.net ∧ (updIsl s f).proto = s.proto ∧ (updIsl s f).kv =
    s.kv ∧ (updIsl s f).stalls = s.stalls ∧ (updIsl s f).media = s.media ∧ (updIsl s f).upkeep = s.upkeep ∧ (updIsl s
    f).arc = s.arc ∧ (updIsl s f).row = s.row ∧ (updIsl s f).fw = s.fw ∧ (updIsl s f).life = s.life ∧ (updIsl s f).log
    = s.log ∧ (updIsl s f).out = s.out ∧ (updIsl s f).freeCtr = s.freeCtr ∧ (updIsl s f).pending = s.pending :=
  ⟨rfl, rfl, rfl, rfl, rfl, rfl, rfl, rfl, rfl, rfl, rfl, rfl, rfl, rfl, rfl, rfl, rfl, rfl, rfl, rfl, rfl, rfl, rfl⟩

@[simp] theorem updCfg_parts (s : State) (f : Cfg → Cfg) :
    (updCfg s f).phase = s.phase ∧ (updCfg s f).clock = s.clock ∧ (updCfg s f).bay = s.bay ∧ (updCfg s f).power =
    s.power ∧ (updCfg s f).isl = s.isl ∧ (updCfg s f).cfg = f s.cfg ∧ (updCfg s f).boot = s.boot ∧ (updCfg s f).con =
    s.con ∧ (updCfg s f).ports = s.ports ∧ (updCfg s f).net = s.net ∧ (updCfg s f).proto = s.proto ∧ (updCfg s f).kv =
    s.kv ∧ (updCfg s f).stalls = s.stalls ∧ (updCfg s f).media = s.media ∧ (updCfg s f).upkeep = s.upkeep ∧ (updCfg s
    f).arc = s.arc ∧ (updCfg s f).row = s.row ∧ (updCfg s f).fw = s.fw ∧ (updCfg s f).life = s.life ∧ (updCfg s f).log
    = s.log ∧ (updCfg s f).out = s.out ∧ (updCfg s f).freeCtr = s.freeCtr ∧ (updCfg s f).pending = s.pending :=
  ⟨rfl, rfl, rfl, rfl, rfl, rfl, rfl, rfl, rfl, rfl, rfl, rfl, rfl, rfl, rfl, rfl, rfl, rfl, rfl, rfl, rfl, rfl, rfl⟩

@[simp] theorem updBoot_parts (s : State) (f : Boot → Boot) :
    (updBoot s f).phase = s.phase ∧ (updBoot s f).clock = s.clock ∧ (updBoot s f).bay = s.bay ∧ (updBoot s f).power =
    s.power ∧ (updBoot s f).isl = s.isl ∧ (updBoot s f).cfg = s.cfg ∧ (updBoot s f).boot = f s.boot ∧ (updBoot s
    f).con = s.con ∧ (updBoot s f).ports = s.ports ∧ (updBoot s f).net = s.net ∧ (updBoot s f).proto = s.proto ∧
    (updBoot s f).kv = s.kv ∧ (updBoot s f).stalls = s.stalls ∧ (updBoot s f).media = s.media ∧ (updBoot s f).upkeep =
    s.upkeep ∧ (updBoot s f).arc = s.arc ∧ (updBoot s f).row = s.row ∧ (updBoot s f).fw = s.fw ∧ (updBoot s f).life =
    s.life ∧ (updBoot s f).log = s.log ∧ (updBoot s f).out = s.out ∧ (updBoot s f).freeCtr = s.freeCtr ∧ (updBoot s
    f).pending = s.pending :=
  ⟨rfl, rfl, rfl, rfl, rfl, rfl, rfl, rfl, rfl, rfl, rfl, rfl, rfl, rfl, rfl, rfl, rfl, rfl, rfl, rfl, rfl, rfl, rfl⟩

@[simp] theorem updCon_parts (s : State) (f : Console → Console) :
    (updCon s f).phase = s.phase ∧ (updCon s f).clock = s.clock ∧ (updCon s f).bay = s.bay ∧ (updCon s f).power =
    s.power ∧ (updCon s f).isl = s.isl ∧ (updCon s f).cfg = s.cfg ∧ (updCon s f).boot = s.boot ∧ (updCon s f).con = f
    s.con ∧ (updCon s f).ports = s.ports ∧ (updCon s f).net = s.net ∧ (updCon s f).proto = s.proto ∧ (updCon s f).kv =
    s.kv ∧ (updCon s f).stalls = s.stalls ∧ (updCon s f).media = s.media ∧ (updCon s f).upkeep = s.upkeep ∧ (updCon s
    f).arc = s.arc ∧ (updCon s f).row = s.row ∧ (updCon s f).fw = s.fw ∧ (updCon s f).life = s.life ∧ (updCon s f).log
    = s.log ∧ (updCon s f).out = s.out ∧ (updCon s f).freeCtr = s.freeCtr ∧ (updCon s f).pending = s.pending :=
  ⟨rfl, rfl, rfl, rfl, rfl, rfl, rfl, rfl, rfl, rfl, rfl, rfl, rfl, rfl, rfl, rfl, rfl, rfl, rfl, rfl, rfl, rfl, rfl⟩

@[simp] theorem updPorts_parts (s : State) (f : Ports → Ports) :
    (updPorts s f).phase = s.phase ∧ (updPorts s f).clock = s.clock ∧ (updPorts s f).bay = s.bay ∧ (updPorts s
    f).power = s.power ∧ (updPorts s f).isl = s.isl ∧ (updPorts s f).cfg = s.cfg ∧ (updPorts s f).boot = s.boot ∧
    (updPorts s f).con = s.con ∧ (updPorts s f).ports = f s.ports ∧ (updPorts s f).net = s.net ∧ (updPorts s f).proto
    = s.proto ∧ (updPorts s f).kv = s.kv ∧ (updPorts s f).stalls = s.stalls ∧ (updPorts s f).media = s.media ∧
    (updPorts s f).upkeep = s.upkeep ∧ (updPorts s f).arc = s.arc ∧ (updPorts s f).row = s.row ∧ (updPorts s f).fw =
    s.fw ∧ (updPorts s f).life = s.life ∧ (updPorts s f).log = s.log ∧ (updPorts s f).out = s.out ∧ (updPorts s
    f).freeCtr = s.freeCtr ∧ (updPorts s f).pending = s.pending :=
  ⟨rfl, rfl, rfl, rfl, rfl, rfl, rfl, rfl, rfl, rfl, rfl, rfl, rfl, rfl, rfl, rfl, rfl, rfl, rfl, rfl, rfl, rfl, rfl⟩

@[simp] theorem updNet_parts (s : State) (f : Net → Net) :
    (updNet s f).phase = s.phase ∧ (updNet s f).clock = s.clock ∧ (updNet s f).bay = s.bay ∧ (updNet s f).power =
    s.power ∧ (updNet s f).isl = s.isl ∧ (updNet s f).cfg = s.cfg ∧ (updNet s f).boot = s.boot ∧ (updNet s f).con =
    s.con ∧ (updNet s f).ports = s.ports ∧ (updNet s f).net = f s.net ∧ (updNet s f).proto = s.proto ∧ (updNet s f).kv
    = s.kv ∧ (updNet s f).stalls = s.stalls ∧ (updNet s f).media = s.media ∧ (updNet s f).upkeep = s.upkeep ∧ (updNet
    s f).arc = s.arc ∧ (updNet s f).row = s.row ∧ (updNet s f).fw = s.fw ∧ (updNet s f).life = s.life ∧ (updNet s
    f).log = s.log ∧ (updNet s f).out = s.out ∧ (updNet s f).freeCtr = s.freeCtr ∧ (updNet s f).pending = s.pending :=
  ⟨rfl, rfl, rfl, rfl, rfl, rfl, rfl, rfl, rfl, rfl, rfl, rfl, rfl, rfl, rfl, rfl, rfl, rfl, rfl, rfl, rfl, rfl, rfl⟩

@[simp] theorem updProto_parts (s : State) (f : Proto → Proto) :
    (updProto s f).phase = s.phase ∧ (updProto s f).clock = s.clock ∧ (updProto s f).bay = s.bay ∧ (updProto s
    f).power = s.power ∧ (updProto s f).isl = s.isl ∧ (updProto s f).cfg = s.cfg ∧ (updProto s f).boot = s.boot ∧
    (updProto s f).con = s.con ∧ (updProto s f).ports = s.ports ∧ (updProto s f).net = s.net ∧ (updProto s f).proto =
    f s.proto ∧ (updProto s f).kv = s.kv ∧ (updProto s f).stalls = s.stalls ∧ (updProto s f).media = s.media ∧
    (updProto s f).upkeep = s.upkeep ∧ (updProto s f).arc = s.arc ∧ (updProto s f).row = s.row ∧ (updProto s f).fw =
    s.fw ∧ (updProto s f).life = s.life ∧ (updProto s f).log = s.log ∧ (updProto s f).out = s.out ∧ (updProto s
    f).freeCtr = s.freeCtr ∧ (updProto s f).pending = s.pending :=
  ⟨rfl, rfl, rfl, rfl, rfl, rfl, rfl, rfl, rfl, rfl, rfl, rfl, rfl, rfl, rfl, rfl, rfl, rfl, rfl, rfl, rfl, rfl, rfl⟩

@[simp] theorem updKv_parts (s : State) (f : Kv → Kv) :
    (updKv s f).phase = s.phase ∧ (updKv s f).clock = s.clock ∧ (updKv s f).bay = s.bay ∧ (updKv s f).power = s.power
    ∧ (updKv s f).isl = s.isl ∧ (updKv s f).cfg = s.cfg ∧ (updKv s f).boot = s.boot ∧ (updKv s f).con = s.con ∧ (updKv
    s f).ports = s.ports ∧ (updKv s f).net = s.net ∧ (updKv s f).proto = s.proto ∧ (updKv s f).kv = f s.kv ∧ (updKv s
    f).stalls = s.stalls ∧ (updKv s f).media = s.media ∧ (updKv s f).upkeep = s.upkeep ∧ (updKv s f).arc = s.arc ∧
    (updKv s f).row = s.row ∧ (updKv s f).fw = s.fw ∧ (updKv s f).life = s.life ∧ (updKv s f).log = s.log ∧ (updKv s
    f).out = s.out ∧ (updKv s f).freeCtr = s.freeCtr ∧ (updKv s f).pending = s.pending :=
  ⟨rfl, rfl, rfl, rfl, rfl, rfl, rfl, rfl, rfl, rfl, rfl, rfl, rfl, rfl, rfl, rfl, rfl, rfl, rfl, rfl, rfl, rfl, rfl⟩

@[simp] theorem updStalls_parts (s : State) (f : Stalls → Stalls) :
    (updStalls s f).phase = s.phase ∧ (updStalls s f).clock = s.clock ∧ (updStalls s f).bay = s.bay ∧ (updStalls s
    f).power = s.power ∧ (updStalls s f).isl = s.isl ∧ (updStalls s f).cfg = s.cfg ∧ (updStalls s f).boot = s.boot ∧
    (updStalls s f).con = s.con ∧ (updStalls s f).ports = s.ports ∧ (updStalls s f).net = s.net ∧ (updStalls s
    f).proto = s.proto ∧ (updStalls s f).kv = s.kv ∧ (updStalls s f).stalls = f s.stalls ∧ (updStalls s f).media =
    s.media ∧ (updStalls s f).upkeep = s.upkeep ∧ (updStalls s f).arc = s.arc ∧ (updStalls s f).row = s.row ∧
    (updStalls s f).fw = s.fw ∧ (updStalls s f).life = s.life ∧ (updStalls s f).log = s.log ∧ (updStalls s f).out =
    s.out ∧ (updStalls s f).freeCtr = s.freeCtr ∧ (updStalls s f).pending = s.pending :=
  ⟨rfl, rfl, rfl, rfl, rfl, rfl, rfl, rfl, rfl, rfl, rfl, rfl, rfl, rfl, rfl, rfl, rfl, rfl, rfl, rfl, rfl, rfl, rfl⟩

@[simp] theorem updMedia_parts (s : State) (f : Media → Media) :
    (updMedia s f).phase = s.phase ∧ (updMedia s f).clock = s.clock ∧ (updMedia s f).bay = s.bay ∧ (updMedia s
    f).power = s.power ∧ (updMedia s f).isl = s.isl ∧ (updMedia s f).cfg = s.cfg ∧ (updMedia s f).boot = s.boot ∧
    (updMedia s f).con = s.con ∧ (updMedia s f).ports = s.ports ∧ (updMedia s f).net = s.net ∧ (updMedia s f).proto =
    s.proto ∧ (updMedia s f).kv = s.kv ∧ (updMedia s f).stalls = s.stalls ∧ (updMedia s f).media = f s.media ∧
    (updMedia s f).upkeep = s.upkeep ∧ (updMedia s f).arc = s.arc ∧ (updMedia s f).row = s.row ∧ (updMedia s f).fw =
    s.fw ∧ (updMedia s f).life = s.life ∧ (updMedia s f).log = s.log ∧ (updMedia s f).out = s.out ∧ (updMedia s
    f).freeCtr = s.freeCtr ∧ (updMedia s f).pending = s.pending :=
  ⟨rfl, rfl, rfl, rfl, rfl, rfl, rfl, rfl, rfl, rfl, rfl, rfl, rfl, rfl, rfl, rfl, rfl, rfl, rfl, rfl, rfl, rfl, rfl⟩

@[simp] theorem updUpkeep_parts (s : State) (f : Upkeep → Upkeep) :
    (updUpkeep s f).phase = s.phase ∧ (updUpkeep s f).clock = s.clock ∧ (updUpkeep s f).bay = s.bay ∧ (updUpkeep s
    f).power = s.power ∧ (updUpkeep s f).isl = s.isl ∧ (updUpkeep s f).cfg = s.cfg ∧ (updUpkeep s f).boot = s.boot ∧
    (updUpkeep s f).con = s.con ∧ (updUpkeep s f).ports = s.ports ∧ (updUpkeep s f).net = s.net ∧ (updUpkeep s
    f).proto = s.proto ∧ (updUpkeep s f).kv = s.kv ∧ (updUpkeep s f).stalls = s.stalls ∧ (updUpkeep s f).media =
    s.media ∧ (updUpkeep s f).upkeep = f s.upkeep ∧ (updUpkeep s f).arc = s.arc ∧ (updUpkeep s f).row = s.row ∧
    (updUpkeep s f).fw = s.fw ∧ (updUpkeep s f).life = s.life ∧ (updUpkeep s f).log = s.log ∧ (updUpkeep s f).out =
    s.out ∧ (updUpkeep s f).freeCtr = s.freeCtr ∧ (updUpkeep s f).pending = s.pending :=
  ⟨rfl, rfl, rfl, rfl, rfl, rfl, rfl, rfl, rfl, rfl, rfl, rfl, rfl, rfl, rfl, rfl, rfl, rfl, rfl, rfl, rfl, rfl, rfl⟩

@[simp] theorem updArc_parts (s : State) (f : Arcade → Arcade) :
    (updArc s f).phase = s.phase ∧ (updArc s f).clock = s.clock ∧ (updArc s f).bay = s.bay ∧ (updArc s f).power =
    s.power ∧ (updArc s f).isl = s.isl ∧ (updArc s f).cfg = s.cfg ∧ (updArc s f).boot = s.boot ∧ (updArc s f).con =
    s.con ∧ (updArc s f).ports = s.ports ∧ (updArc s f).net = s.net ∧ (updArc s f).proto = s.proto ∧ (updArc s f).kv =
    s.kv ∧ (updArc s f).stalls = s.stalls ∧ (updArc s f).media = s.media ∧ (updArc s f).upkeep = s.upkeep ∧ (updArc s
    f).arc = f s.arc ∧ (updArc s f).row = s.row ∧ (updArc s f).fw = s.fw ∧ (updArc s f).life = s.life ∧ (updArc s
    f).log = s.log ∧ (updArc s f).out = s.out ∧ (updArc s f).freeCtr = s.freeCtr ∧ (updArc s f).pending = s.pending :=
  ⟨rfl, rfl, rfl, rfl, rfl, rfl, rfl, rfl, rfl, rfl, rfl, rfl, rfl, rfl, rfl, rfl, rfl, rfl, rfl, rfl, rfl, rfl, rfl⟩

@[simp] theorem updRow_parts (s : State) (f : Row → Row) :
    (updRow s f).phase = s.phase ∧ (updRow s f).clock = s.clock ∧ (updRow s f).bay = s.bay ∧ (updRow s f).power =
    s.power ∧ (updRow s f).isl = s.isl ∧ (updRow s f).cfg = s.cfg ∧ (updRow s f).boot = s.boot ∧ (updRow s f).con =
    s.con ∧ (updRow s f).ports = s.ports ∧ (updRow s f).net = s.net ∧ (updRow s f).proto = s.proto ∧ (updRow s f).kv =
    s.kv ∧ (updRow s f).stalls = s.stalls ∧ (updRow s f).media = s.media ∧ (updRow s f).upkeep = s.upkeep ∧ (updRow s
    f).arc = s.arc ∧ (updRow s f).row = f s.row ∧ (updRow s f).fw = s.fw ∧ (updRow s f).life = s.life ∧ (updRow s
    f).log = s.log ∧ (updRow s f).out = s.out ∧ (updRow s f).freeCtr = s.freeCtr ∧ (updRow s f).pending = s.pending :=
  ⟨rfl, rfl, rfl, rfl, rfl, rfl, rfl, rfl, rfl, rfl, rfl, rfl, rfl, rfl, rfl, rfl, rfl, rfl, rfl, rfl, rfl, rfl, rfl⟩

@[simp] theorem updFw_parts (s : State) (f : Fw → Fw) :
    (updFw s f).phase = s.phase ∧ (updFw s f).clock = s.clock ∧ (updFw s f).bay = s.bay ∧ (updFw s f).power = s.power
    ∧ (updFw s f).isl = s.isl ∧ (updFw s f).cfg = s.cfg ∧ (updFw s f).boot = s.boot ∧ (updFw s f).con = s.con ∧ (updFw
    s f).ports = s.ports ∧ (updFw s f).net = s.net ∧ (updFw s f).proto = s.proto ∧ (updFw s f).kv = s.kv ∧ (updFw s
    f).stalls = s.stalls ∧ (updFw s f).media = s.media ∧ (updFw s f).upkeep = s.upkeep ∧ (updFw s f).arc = s.arc ∧
    (updFw s f).row = s.row ∧ (updFw s f).fw = f s.fw ∧ (updFw s f).life = s.life ∧ (updFw s f).log = s.log ∧ (updFw s
    f).out = s.out ∧ (updFw s f).freeCtr = s.freeCtr ∧ (updFw s f).pending = s.pending :=
  ⟨rfl, rfl, rfl, rfl, rfl, rfl, rfl, rfl, rfl, rfl, rfl, rfl, rfl, rfl, rfl, rfl, rfl, rfl, rfl, rfl, rfl, rfl, rfl⟩

@[simp] theorem updLife_parts (s : State) (f : Life → Life) :
    (updLife s f).phase = s.phase ∧ (updLife s f).clock = s.clock ∧ (updLife s f).bay = s.bay ∧ (updLife s f).power =
    s.power ∧ (updLife s f).isl = s.isl ∧ (updLife s f).cfg = s.cfg ∧ (updLife s f).boot = s.boot ∧ (updLife s f).con
    = s.con ∧ (updLife s f).ports = s.ports ∧ (updLife s f).net = s.net ∧ (updLife s f).proto = s.proto ∧ (updLife s
    f).kv = s.kv ∧ (updLife s f).stalls = s.stalls ∧ (updLife s f).media = s.media ∧ (updLife s f).upkeep = s.upkeep ∧
    (updLife s f).arc = s.arc ∧ (updLife s f).row = s.row ∧ (updLife s f).fw = s.fw ∧ (updLife s f).life = f s.life ∧
    (updLife s f).log = s.log ∧ (updLife s f).out = s.out ∧ (updLife s f).freeCtr = s.freeCtr ∧ (updLife s f).pending
    = s.pending :=
  ⟨rfl, rfl, rfl, rfl, rfl, rfl, rfl, rfl, rfl, rfl, rfl, rfl, rfl, rfl, rfl, rfl, rfl, rfl, rfl, rfl, rfl, rfl, rfl⟩

@[simp] theorem updLog_parts (s : State) (f : EventLog → EventLog) :
    (updLog s f).phase = s.phase ∧ (updLog s f).clock = s.clock ∧ (updLog s f).bay = s.bay ∧ (updLog s f).power =
    s.power ∧ (updLog s f).isl = s.isl ∧ (updLog s f).cfg = s.cfg ∧ (updLog s f).boot = s.boot ∧ (updLog s f).con =
    s.con ∧ (updLog s f).ports = s.ports ∧ (updLog s f).net = s.net ∧ (updLog s f).proto = s.proto ∧ (updLog s f).kv =
    s.kv ∧ (updLog s f).stalls = s.stalls ∧ (updLog s f).media = s.media ∧ (updLog s f).upkeep = s.upkeep ∧ (updLog s
    f).arc = s.arc ∧ (updLog s f).row = s.row ∧ (updLog s f).fw = s.fw ∧ (updLog s f).life = s.life ∧ (updLog s f).log
    = f s.log ∧ (updLog s f).out = s.out ∧ (updLog s f).freeCtr = s.freeCtr ∧ (updLog s f).pending = s.pending :=
  ⟨rfl, rfl, rfl, rfl, rfl, rfl, rfl, rfl, rfl, rfl, rfl, rfl, rfl, rfl, rfl, rfl, rfl, rfl, rfl, rfl, rfl, rfl, rfl⟩

@[simp] theorem setPhase_parts (s : State) (p : Phase) :
    (setPhase s p).phase = p ∧ (setPhase s p).clock = s.clock ∧ (setPhase s p).bay = s.bay ∧ (setPhase s p).power =
    s.power ∧ (setPhase s p).isl = s.isl ∧ (setPhase s p).cfg = s.cfg ∧ (setPhase s p).boot = s.boot ∧ (setPhase s
    p).con = s.con ∧ (setPhase s p).ports = s.ports ∧ (setPhase s p).net = s.net ∧ (setPhase s p).proto = s.proto ∧
    (setPhase s p).kv = s.kv ∧ (setPhase s p).stalls = s.stalls ∧ (setPhase s p).media = s.media ∧ (setPhase s
    p).upkeep = s.upkeep ∧ (setPhase s p).arc = s.arc ∧ (setPhase s p).row = s.row ∧ (setPhase s p).fw = s.fw ∧
    (setPhase s p).life = s.life ∧ (setPhase s p).log = s.log ∧ (setPhase s p).out = s.out ∧ (setPhase s p).freeCtr =
    s.freeCtr ∧ (setPhase s p).pending = s.pending :=
  ⟨rfl, rfl, rfl, rfl, rfl, rfl, rfl, rfl, rfl, rfl, rfl, rfl, rfl, rfl, rfl, rfl, rfl, rfl, rfl, rfl, rfl, rfl, rfl⟩

@[simp] theorem emit_parts (s : State) (x : Output) :
    (emit s x).phase = s.phase ∧ (emit s x).clock = s.clock ∧ (emit s x).bay = s.bay ∧ (emit s x).power = s.power ∧
    (emit s x).isl = s.isl ∧ (emit s x).cfg = s.cfg ∧ (emit s x).boot = s.boot ∧ (emit s x).con = s.con ∧ (emit s
    x).ports = s.ports ∧ (emit s x).net = s.net ∧ (emit s x).proto = s.proto ∧ (emit s x).kv = s.kv ∧ (emit s
    x).stalls = s.stalls ∧ (emit s x).media = s.media ∧ (emit s x).upkeep = s.upkeep ∧ (emit s x).arc = s.arc ∧ (emit
    s x).row = s.row ∧ (emit s x).fw = s.fw ∧ (emit s x).life = s.life ∧ (emit s x).log = s.log ∧ (emit s x).out = x
    :: s.out ∧ (emit s x).freeCtr = s.freeCtr ∧ (emit s x).pending = s.pending :=
  ⟨rfl, rfl, rfl, rfl, rfl, rfl, rfl, rfl, rfl, rfl, rfl, rfl, rfl, rfl, rfl, rfl, rfl, rfl, rfl, rfl, rfl, rfl, rfl⟩

/-- Ledger time moves the clock only. -/
@[simp] theorem advanceTo_parts (s : State) (t : Nat) :
    (advanceTo s t).phase = s.phase ∧ (advanceTo s t).bay = s.bay ∧
    (advanceTo s t).power = s.power ∧ (advanceTo s t).isl = s.isl ∧ (advanceTo s t).cfg = s.cfg ∧ (advanceTo s t).boot
    = s.boot ∧ (advanceTo s t).con = s.con ∧ (advanceTo s t).ports = s.ports ∧ (advanceTo s t).net = s.net ∧
    (advanceTo s t).proto = s.proto ∧ (advanceTo s t).kv = s.kv ∧ (advanceTo s t).stalls = s.stalls ∧ (advanceTo s
    t).media = s.media ∧ (advanceTo s t).upkeep = s.upkeep ∧ (advanceTo s t).arc = s.arc ∧ (advanceTo s t).row = s.row
    ∧ (advanceTo s t).fw = s.fw ∧ (advanceTo s t).life = s.life ∧ (advanceTo s t).log = s.log ∧ (advanceTo s t).out =
    s.out ∧ (advanceTo s t).freeCtr = s.freeCtr ∧ (advanceTo s t).pending = s.pending := by
  unfold advanceTo
  split <;> exact ⟨rfl, rfl, rfl, rfl, rfl, rfl, rfl, rfl, rfl, rfl, rfl, rfl, rfl, rfl, rfl, rfl, rfl, rfl, rfl, rfl, rfl, rfl⟩

/-! ### Tables -/

variable {κ α : Type} [DecidableEq κ]

theorem find_modify_same {m : AMap κ α} {k : κ} {v : α} {f : α → α} (h : AMap.find m k = some v) :
    AMap.find (AMap.modify m k f) k = some (f v) := by
  simp only [AMap.modify, h, AMap.find_set_same]

theorem modify_none {m : AMap κ α} {k : κ} {f : α → α} (h : AMap.find m k = none) : AMap.modify m k f = m := by
  simp only [AMap.modify, h]

theorem find_modify_other {m : AMap κ α} {j k : κ} {f : α → α} (h : j ≠ k) :
    AMap.find (AMap.modify m k f) j = AMap.find m j := by
  unfold AMap.modify
  split
  · rfl
  · exact AMap.find_set_other m _ h

/-- A change of one entry leaves the entry that another key has, and no key without an entry gets one. -/
theorem find_modify_isSome (m : AMap κ α) (j k : κ) (f : α → α) :
    (AMap.find (AMap.modify m k f) j).isSome = (AMap.find m j).isSome := by
  by_cases h : j = k
  · subst h
    cases e : AMap.find m j with
    | none => rw [modify_none e, e]
    | some v => rw [find_modify_same e]; rfl
  · rw [find_modify_other h]

/-! ### Islands, stalls and sessions -/

@[simp] theorem getIsl_updIslRec_same (s : State) (i : Island) (f : IslRec → IslRec) :
    getIsl (updIslRec s i f) i = f (getIsl s i) := by
  simp [getIsl, updIslRec, updIsl, AMap.getD]

theorem getIsl_updIslRec_other (s : State) {i j : Island} (f : IslRec → IslRec) (h : j ≠ i) :
    getIsl (updIslRec s i f) j = getIsl s j := by
  simp only [getIsl, updIslRec, updIsl]
  exact AMap.getD_set_other _ _ _ h

@[simp] theorem getStall_updStall_same (s : State) (n : StallNo) (f : Stall → Stall) :
    getStall (updStall s n f) n = f (getStall s n) := by
  simp [getStall, updStall, updStalls, AMap.getD]

theorem getStall_updStall_other (s : State) {m n : StallNo} (f : Stall → Stall) (h : m ≠ n) :
    getStall (updStall s n f) m = getStall s m := by
  simp only [getStall, updStall, updStalls]
  exact AMap.getD_set_other _ _ _ h

theorem getSess_updSess_same {s : State} {x : SessId} {f : Session → Session} {d : Session} (h : getSess s x = some d) :
    getSess (updSess s x f) x = some (f d) := find_modify_same h

theorem getSess_updSess_other {s : State} {x y : SessId} {f : Session → Session} (h : y ≠ x) :
    getSess (updSess s x f) y = getSess s y := find_modify_other h

theorem getSess_updSess_isSome (s : State) (x y : SessId) (f : Session → Session) :
    (getSess (updSess s x f) y).isSome = (getSess s y).isSome := find_modify_isSome _ _ _ _

end Sys2Proof.Laws
end

