-- ==== Sys2Proof/Laws/Console.lean ====
section
/-!
SUPPORT. What a console command whose line is accepted does, and what logging an event does.
-/

namespace Sys2Proof.Laws

open Sys2Proof Machine

/-- An accepted line runs the body of its command; the answer it gives is sent, or waits (R242). -/
theorem runCmd_accepts {s : State} {l : Line} {i : CmdInfo} {bad : Option ErrName} {d : Session}
    {body : State → Nat → Run} (h : Accepts s l i bad d) :
    runCmd s l i bad body = (match body (heard s l) d.nextSlot with
      | .say u r a => answer u l.sess l.tag r a
      | .wait u => waits u l) := by
  obtain ⟨h1, h2, h3, h4, ht, h5, h6⟩ := h
  have ht' : ¬ (d.machine = true ∧ l.tag = none) := fun c => ht c.1 c.2
  have hp : (!isMgmt l.sess && consolesPaused s) = false := by
    cases h4 with
    | inl h => simp [h]
    | inr h => simp [h]
  have hl : (decide (l.sess = .jcon) && s.bay.lineFault) = false := by
    by_cases h : l.sess = .jcon
    · simp [h3 h]
    · simp [h]
  have h6' : refusal (updSess s l.sess (fun d => { d with lastRx := s.clock.ledger, lineReady := none })) d l i bad = none := h6
  unfold runCmd
  simp only [h1, h2, hl, hp, Bool.or_self, Bool.false_eq_true, if_false, ht', Nat.not_le.mpr h5, h6', heard, waits]
    <;> (generalize body _ _ = r; cases r <;> rfl)

/-- The same, in one word. -/
theorem runCmd_ran {s : State} {l : Line} {i : CmdInfo} {bad : Option ErrName} {d : Session} {body : State → Nat → Run}
    (h : Accepts s l i bad d) : runCmd s l i bad body = ran l (body (heard s l) d.nextSlot) := by
  rw [runCmd_accepts h]
  cases body (heard s l) d.nextSlot <;> rfl

/-- A command that only reads answers what it reads. -/
theorem showCmd_accepts {s : State} {l : Line} {i : CmdInfo} {bad : Option ErrName} {d : Session} {r : State → Reply}
    (h : Accepts s l i bad d) : showCmd s l i bad r = answer (heard s l) l.sess l.tag (r (heard s l)) := by
  unfold showCmd
  rw [runCmd_accepts h]

/-! ### Events -/

theorem eventLines_log {s : State} {e : EventRec} {xs : List SessId} : (xs.foldl (eventLine e) s).log = s.log := by
  induction xs generalizing s with
  | nil => rfl
  | cons x xs ih => exact ih.trans (eventLine_changes.log (by decide))

theorem copyLog_ring {s : State} : (copyLog s).log.ring = s.log.ring ∧ (copyLog s).log.nextSeq = s.log.nextSeq := by
  unfold copyLog
  split <;> exact ⟨rfl, rfl⟩

/-- A record put in the ring stands first there, under the next SEQ. -/
theorem putRecord_logs {s : State} {e : EventRec} :
    (putRecord s e).log.ring = ({ e with seq := s.log.nextSeq } :: s.log.ring).take 2048 ∧
    (putRecord s e).log.nextSeq = s.log.nextSeq + 1 := by
  unfold putRecord
  dsimp only
  rw [eventLines_log]
  split
  · exact copyLog_ring
  · exact ⟨rfl, rfl⟩

/-- While SVC runs, an event's record goes to the ring under the next SEQ. -/
theorem logEv_logs {s : State} {ev : Ev} {a : EvArgs} (h : svcRuns s = true) (k : ev ≠ .counterHalf) :
    Logs s (logEv s ev a) ev a := by
  unfold logEv Logs
  rw [if_neg k]
  dsimp only
  cases evHealth ev with
  | none =>
    dsimp only
    rw [h]
    exact putRecord_logs
  | some c =>
    have h2 : svcRuns (addHealth s c 1) = true := h
    dsimp only
    rw [h2]
    exact putRecord_logs

/-- Logging changes neither the clock nor anything but the consoles, the health counters, the log and what has left the
drive. -/
theorem logEv_clock {s : State} {ev : Ev} {a : EvArgs} : (logEv s ev a).clock = s.clock := logEv_changes.clock (by decide)

theorem getSess_of_con {s u : State} (h : u.con = s.con) (x : SessId) : getSess u x = getSess s x := by
  simp only [getSess, h]

theorem getSess_closeEvWindow (s : State) (x y : SessId) :
    (getSess (closeEvWindow s x) y).isSome = (getSess s y).isSome := by
  unfold closeEvWindow
  split
  · rfl
  · dsimp only
    rw [getSess_updSess_isSome]
    split
    · exact congrArg Option.isSome (getSess_of_con ((putLine_changes.con (by decide)).trans rfl) y)
    · rfl

theorem getSess_putEvent (s : State) (x : SessId) (e : EventRec) (y : SessId) :
    (getSess (putEvent s x e) y).isSome = (getSess s y).isSome :=
  congrArg Option.isSome (getSess_of_con (putEvent_changes.con (by decide)) y)

theorem getSess_eventLine (e : EventRec) (s : State) (x y : SessId) :
    (getSess (eventLine e s x) y).isSome = (getSess s y).isSome := by
  unfold eventLine
  split
  · rfl
  · split
    · rfl
    · extract_lets +onlyGivenNames (merge := false) u
      have h : (getSess u y).isSome = (getSess s y).isSome := by
        simp only [u]
        split
        · split
          · exact getSess_closeEvWindow _ _ _
          · rfl
        · rfl
      clear_value u
      dsimp only
      split
      · exact (getSess_putEvent _ _ _ _).trans ((getSess_updSess_isSome _ _ _ _).trans h)
      · split
        · exact (getSess_putEvent _ _ _ _).trans ((getSess_updSess_isSome _ _ _ _).trans h)
        · exact (getSess_updSess_isSome _ _ _ _).trans h

/-- Logging opens and closes no session. -/
theorem getSess_logEv (s : State) (ev : Ev) (a : EvArgs) (y : SessId) :
    (getSess (logEv s ev a) y).isSome = (getSess s y).isSome := by
  have hf : ∀ (e : EventRec) (xs : List SessId) (u : State),
      (getSess (xs.foldl (eventLine e) u) y).isSome = (getSess u y).isSome := by
    intro e xs
    induction xs with
    | nil => intro u; rfl
    | cons x xs ih => intro u; exact (ih _).trans (getSess_eventLine _ _ _ _)
  have hp : ∀ (e : EventRec) (u : State), (getSess (putRecord u e) y).isSome = (getSess u y).isSome := by
    intro e u
    unfold putRecord
    dsimp only
    rw [hf]
    split
    · unfold copyLog
      split <;> rfl
    · rfl
  unfold logEv
  split
  · rfl
  · extract_lets +onlyGivenNames (merge := false) u
    have h : (getSess u y).isSome = (getSess s y).isSome := by
      simp only [u]
      split <;> rfl
    clear_value u
    dsimp only
    split
    · exact (hp _ _).trans h
    · exact h

/-! ### Answers -/

/-- The state in which an answer has just been sent from a session with no answer owed: what was typed meanwhile is taken and
echoed. -/
theorem answer_empty {s : State} {x : SessId} {tag : Option Nat} {r : Reply} {d : Session} (h : getSess s x = some d)
    (k : d.closing = false) (e : d.slots = []) :
    answer s x tag r none = if d.lineReady.isSome then putReply s x tag r
      else putEcho (updSess (putReply s x tag r) x (fun d => (takeAhead d.typeahead d).1)) x (takeAhead d.typeahead d).2 := by
  have hs : getSess (sendAnswer s x tag r none) x = some d := (getSess_of_con putReply_con x).trans h
  unfold answer
  rw [h]
  simp only [e, List.isEmpty_nil, if_true]
  unfold flushSlots flushN
  rw [hs]
  simp only [e, k, Bool.false_eq_true, if_false]
  rfl

/-- An answer from an open session changes the consoles, what has left the drive and the port it leaves by. -/
theorem answer_open {s : State} {x : SessId} {tag : Option Nat} {r : Reply} {d : Session} (h : getSess s x = some d)
    (k : d.closing = false) : Changes 1049472 s (answer s x tag r none) := by
  have hr : Changes 1049472 s (putReply s x tag r) := putReply_changes.mono (by decide)
  by_cases e : d.slots = []
  · rw [answer_empty h k e]
    exact .ite hr (.seq putEcho_changes (.seq updSess_changes hr (by decide)) (by decide))
  · unfold answer
    rw [h]
    have : d.slots.isEmpty = false := by simp [e]
    simp only [this, Bool.false_eq_true, if_false]
    exact .seq updSess_changes .refl (by decide)

/-- Characters leave as they are given. -/
theorem putText_out {s : State} {x : SessId} {q : Fin 8} {t : String} : (putText s x q t).out = .text x t :: s.out := by
  unfold putText
  dsimp only
  split
  · exact releaseWait_changes.out (by decide)
  · rfl

theorem putReply_out {s : State} {x : SessId} {tag : Option Nat} {r : Reply} {d : Session} (h : getSess s x = some d) :
    (putReply s x tag r).out =
      .text x (replyText d.machine d.crc tag r) :: .reply x (if d.machine then tag else none) r :: s.out := by
  unfold putReply
  rw [h]
  exact putText_out

/-- With no answer owed, the answer leaves at once, as data and as characters; the echo of what was typed meanwhile may follow. -/
theorem answer_out {s : State} {x : SessId} {tag : Option Nat} {r : Reply} {d : Session} (h : getSess s x = some d)
    (k : d.closing = false) (e : d.slots = []) :
    (.text x (replyText d.machine d.crc tag r) :: .reply x (if d.machine then tag else none) r :: s.out) <:+
      (answer s x tag r none).out := by
  rw [answer_empty h k e, ← putReply_out (tag := tag) (r := r) h]
  split
  · exact List.suffix_rfl
  · exact (Changes.seq (m := 1049472) putEcho_changes (.seq updSess_changes .refl (by decide)) (by decide)).out_suffix

/-- Behind answers owed, it waits. -/
theorem answer_waits {s : State} {x : SessId} {tag : Option Nat} {r : Reply} {a : Option After} {d : Session}
    (h : getSess s x = some d) (e : d.slots ≠ []) :
    answer s x tag r a = updSess s x (fun d => { d with
      slots := d.slots ++ [{ id := d.nextSlot, tag := tag, reply := some r, after := a }], nextSlot := d.nextSlot + 1 }) := by
  unfold answer
  rw [h]
  have : d.slots.isEmpty = false := by simp [e]
  simp only [this, Bool.false_eq_true, if_false]

/-- Hearing a line changes the sessions only. -/
theorem heard_changes {s : State} {l : Line} : Changes 128 s (heard s l) := .seq updSess_changes .refl (by decide)

end Sys2Proof.Laws
end

