-- ==== Sys2Proof/Laws/Exec.lean ====
section
/-!
SUPPORT. Every command answers a next state, within some mask: the case split over the commands, once; and which commands take
the next event number anew.
-/

namespace Sys2Proof.Laws

open Sys2Proof Machine

/-! ### The start steps but S02 -/

theorem plainStep_other {s : State} {n : Nat} (h : n ≠ 2) : Changes 2097151 s (plainStep s n) := by
  unfold plainStep
  split
  refine .ite ?_ ?_
  refine .seq endS01_changes ?_ (by decide)
  exact .refl
  exact .refl
  exact absurd rfl h
  refine .seq endStep_changes ?_ (by decide)
  refine .seq setIsl_changes ?_ (by decide)
  exact .refl
  refine .seq endStep_changes ?_ (by decide)
  refine .seq setIsl_changes ?_ (by decide)
  exact .refl
  refine .seq actS11_changes ?_ (by decide)
  exact .refl
  refine .seq actS14_changes ?_ (by decide)
  exact .refl
  refine .ite ?_ ?_
  refine .seq endS17_changes ?_ (by decide)
  exact .refl
  exact .refl
  refine .ite ?_ ?_
  refine .seq endStep_changes ?_ (by decide)
  exact .refl
  exact .refl
  refine .ite ?_ ?_
  refine .seq endStep_changes ?_ (by decide)
  exact .refl
  exact .refl
  refine .ite ?_ ?_
  refine .seq endStep_changes ?_ (by decide)
  exact .refl
  exact .refl
  refine .seq actS21_changes ?_ (by decide)
  exact .refl
  refine .seq actS22_changes ?_ (by decide)
  exact .refl
  refine .seq actS23_changes ?_ (by decide)
  exact .refl
  refine .seq actS24_changes ?_ (by decide)
  exact .refl
  exact .refl

theorem finishStep_other {s : State} {d : StepData} (h : stepOf d ≠ 2) : Changes 2097151 s (finishStep s d) := by
  unfold finishStep
  split
  refine .seq (plainStep_other h) ?_ (by decide)
  exact .refl
  exact absurd rfl h
  refine .seq endS03_changes ?_ (by decide)
  refine .seq actS03_changes ?_ (by decide)
  exact .refl
  refine .seq actS04_changes ?_ (by decide)
  exact .refl
  refine .seq actS07_changes ?_ (by decide)
  exact .refl
  refine .seq actS08_changes ?_ (by decide)
  exact .refl
  refine .seq actS09_changes ?_ (by decide)
  exact .refl
  refine .seq actS10_changes ?_ (by decide)
  exact .refl
  refine .seq actS12_changes ?_ (by decide)
  exact .refl
  refine .seq actS13_changes ?_ (by decide)
  exact .refl
  refine .seq actS15_changes ?_ (by decide)
  exact .refl
  refine .seq actS16_changes ?_ (by decide)
  exact .refl

theorem timeoutStep_other {s : State} {n : Nat} {d : StepData} (h : n ≠ 2) : Changes 2097151 s (timeoutStep s n d) := by
  unfold timeoutStep
  split
  exact absurd rfl h
  refine .seq actS09_changes ?_ (by decide)
  exact .refl
  refine .seq endStep_changes ?_ (by decide)
  exact .refl
  refine .seq endStep_changes ?_ (by decide)
  exact .refl
  refine .seq endStep_changes ?_ (by decide)
  exact .refl
  refine .ite ?_ ?_
  refine .seq endStep_changes ?_ (by decide)
  exact .refl
  refine .seq endStep_changes ?_ (by decide)
  split
  rename_i _ _ e0
  refine .seq leadAlone_changes ?_ (by decide)
  exact .refl
  exact .refl
  refine .seq stepFailed_changes ?_ (by decide)
  exact .refl

theorem execStartStepComplete_other {d : StepData} {s : State} (h : stepOf d ≠ 2) : NextChanges 2097151 s (execStartStepComplete d s) := by
  unfold execStartStepComplete
  refine .next ?_
  refine .ite ?_ ?_
  refine .seq (finishStep_other h) ?_ (by decide)
  exact .refl
  exact .refl

theorem execStartStepTimeout_other {n : Nat} {d : StepData} {s : State} (h : n ≠ 2) : NextChanges 2097151 s (execStartStepTimeout n d s) := by
  unfold execStartStepTimeout
  refine .next ?_
  refine .ite ?_ ?_
  refine .seq failStep_changes ?_ (by decide)
  refine .seq advanceTo_changes ?_ (by decide)
  exact .refl
  refine .ite ?_ ?_
  exact .refl
  split
  rename_i _ e0
  exact .refl
  rename_i _ _ e1
  refine .seq (timeoutStep_other h) ?_ (by decide)
  refine .seq advanceTo_changes ?_ (by decide)
  exact .refl

/-- Whatever the command, exec answers a next state that `Changes` speaks of; only what ends S02 takes the next SEQ anew. -/
theorem exec_changes (c : Instr) (s : State) :
    ∃ m, NextChanges m s (exec c s) ∧ (m.testBit 22 = true → endsS02 c = true) := by
  cases c
  · exact ⟨_, execDetectionVoltage_changes, fun h => absurd h (by decide)⟩
  · exact ⟨_, execPortPowerOn_changes, fun h => absurd h (by decide)⟩
  · exact ⟨_, execStartBegin_changes, fun h => absurd h (by decide)⟩
  · rename_i d
    by_cases h : stepOf d = 2
    · exact ⟨_, execStartStepComplete_changes, fun _ => by simp [endsS02, h]⟩
    · exact ⟨_, execStartStepComplete_other h, fun h => absurd h (by decide)⟩
  · exact ⟨_, execStartStepFail_changes, fun h => absurd h (by decide)⟩
  · rename_i n d
    by_cases h : n = 2
    · exact ⟨_, execStartStepTimeout_changes, fun _ => by simp [endsS02, h]⟩
    · exact ⟨_, execStartStepTimeout_other h, fun h => absurd h (by decide)⟩
  · exact ⟨_, execS17Complete_changes, fun h => absurd h (by decide)⟩
  · exact ⟨_, execOrderlyHalt_changes, fun h => absurd h (by decide)⟩
  · exact ⟨_, execHaltFlushDone_changes, fun h => absurd h (by decide)⟩
  · exact ⟨_, execSelftestIslandDone_changes, fun h => absurd h (by decide)⟩
  · exact ⟨_, execSelftestLimitLeft_changes, fun h => absurd h (by decide)⟩
  · exact ⟨_, execHalt_changes, fun h => absurd h (by decide)⟩
  · exact ⟨_, execReboot_changes, fun h => absurd h (by decide)⟩
  · exact ⟨_, execFlushComplete_changes, fun h => absurd h (by decide)⟩
  · exact ⟨_, execFeedLost_changes, fun h => absurd h (by decide)⟩
  · exact ⟨_, execFeedRestored_changes, fun h => absurd h (by decide)⟩
  · exact ⟨_, execPlannedChangeover_changes, fun h => absurd h (by decide)⟩
  · exact ⟨_, execLldpTransmit_changes, fun h => absurd h (by decide)⟩
  · exact ⟨_, execLldpAllocation_changes, fun h => absurd h (by decide)⟩
  · exact ⟨_, execHoldupMeasure_changes, fun h => absurd h (by decide)⟩
  · exact ⟨_, execHoldupMeasureDone_changes, fun h => absurd h (by decide)⟩
  · exact ⟨_, execHoldupChargeTimeout_changes, fun h => absurd h (by decide)⟩
  · exact ⟨_, execCellFault_changes, fun h => absurd h (by decide)⟩
  · exact ⟨_, execColdGate_changes, fun h => absurd h (by decide)⟩
  · exact ⟨_, execColdOpen_changes, fun h => absurd h (by decide)⟩
  · exact ⟨_, execHeaterSwitch_changes, fun h => absurd h (by decide)⟩
  · exact ⟨_, execThermalThrottle_changes, fun h => absurd h (by decide)⟩
  · exact ⟨_, execPowerShow_changes, fun h => absurd h (by decide)⟩
  · exact ⟨_, execIslandFault_changes, fun h => absurd h (by decide)⟩
  · exact ⟨_, execWatchdogExpiry_changes, fun h => absurd h (by decide)⟩
  · exact ⟨_, execIslandGate_changes, fun h => absurd h (by decide)⟩
  · exact ⟨_, execIslandWake_changes, fun h => absurd h (by decide)⟩
  · exact ⟨_, execDramCorrected_changes, fun h => absurd h (by decide)⟩
  · exact ⟨_, execDramUncorrectable_changes, fun h => absurd h (by decide)⟩
  · exact ⟨_, execIslandShow_changes, fun h => absurd h (by decide)⟩
  · exact ⟨_, execAttrGet_changes, fun h => absurd h (by decide)⟩
  · exact ⟨_, execAttrSet_changes, fun h => absurd h (by decide)⟩
  · exact ⟨_, execCommitGroup_changes, fun h => absurd h (by decide)⟩
  · exact ⟨_, execDiscardGroup_changes, fun h => absurd h (by decide)⟩
  · exact ⟨_, execBayCfgWrite_changes, fun h => absurd h (by decide)⟩
  · exact ⟨_, execTamperClear_changes, fun h => absurd h (by decide)⟩
  · exact ⟨_, execPolicyPreferWrite_changes, fun h => absurd h (by decide)⟩
  · exact ⟨_, execNetPhyCfgWrite_changes, fun h => absurd h (by decide)⟩
  · exact ⟨_, execMaxFrameWrite_changes, fun h => absurd h (by decide)⟩
  · exact ⟨_, execKvCfgWrite_changes, fun h => absurd h (by decide)⟩
  · exact ⟨_, execRouteCfgWrite_changes, fun h => absurd h (by decide)⟩
  · exact ⟨_, execMeterKindWrite_changes, fun h => absurd h (by decide)⟩
  · exact ⟨_, execUsbSendBreak_changes, fun h => absurd h (by decide)⟩
  · exact ⟨_, execJsvcChange_changes, fun h => absurd h (by decide)⟩
  · exact ⟨_, execButtonRelease_changes, fun h => absurd h (by decide)⟩
  · exact ⟨_, execButtonDiscrepancy_changes, fun h => absurd h (by decide)⟩
  · exact ⟨_, execLidDiscrepancy_changes, fun h => absurd h (by decide)⟩
  · exact ⟨_, execPresenceClose_changes, fun h => absurd h (by decide)⟩
  · exact ⟨_, execJconAttention_changes, fun h => absurd h (by decide)⟩
  · exact ⟨_, execLedLocate_changes, fun h => absurd h (by decide)⟩
  · exact ⟨_, execBayShow_changes, fun h => absurd h (by decide)⟩
  · exact ⟨_, execConsoleChar_changes, fun h => absurd h (by decide)⟩
  · exact ⟨_, execConsoleBadLine_changes, fun h => absurd h (by decide)⟩
  · exact ⟨_, execUnknownCommand_changes, fun h => absurd h (by decide)⟩
  · exact ⟨_, execHelp_changes, fun h => absurd h (by decide)⟩
  · exact ⟨_, execMode_changes, fun h => absurd h (by decide)⟩
  · exact ⟨_, execWho_changes, fun h => absurd h (by decide)⟩
  · exact ⟨_, execLog_changes, fun h => absurd h (by decide)⟩
  · exact ⟨_, execLogFollow_changes, fun h => absurd h (by decide)⟩
  · exact ⟨_, execMgmtConnect_changes, fun h => absurd h (by decide)⟩
  · exact ⟨_, execMgmtIdleTimeout_changes, fun h => absurd h (by decide)⟩
  · exact ⟨_, execMgmtSessionClose_changes, fun h => absurd h (by decide)⟩
  · exact ⟨_, execWardenEnrol_changes, fun h => absurd h (by decide)⟩
  · exact ⟨_, execWardenRemove_changes, fun h => absurd h (by decide)⟩
  · exact ⟨_, execWardenShow_changes, fun h => absurd h (by decide)⟩
  · exact ⟨_, execStartShow_changes, fun h => absurd h (by decide)⟩
  · exact ⟨_, execLedgerShow_changes, fun h => absurd h (by decide)⟩
  · exact ⟨_, execStartClear_changes, fun h => absurd h (by decide)⟩
  · exact ⟨_, execLinkUp_changes, fun h => absurd h (by decide)⟩
  · exact ⟨_, execLinkDown_changes, fun h => absurd h (by decide)⟩
  · exact ⟨_, execLacpduReceive_changes, fun h => absurd h (by decide)⟩
  · exact ⟨_, execLacpduTransmit_changes, fun h => absurd h (by decide)⟩
  · exact ⟨_, execFrameReceive_changes, fun h => absurd h (by decide)⟩
  · exact ⟨_, execFrameFcsResult_changes, fun h => absurd h (by decide)⟩
  · exact ⟨_, execPauseFrame_changes, fun h => absurd h (by decide)⟩
  · exact ⟨_, execPfcFrame_changes, fun h => absurd h (by decide)⟩
  · exact ⟨_, execPauseExpiry_changes, fun h => absurd h (by decide)⟩
  · exact ⟨_, execPauseStorm_changes, fun h => absurd h (by decide)⟩
  · exact ⟨_, execPauseStormEnd_changes, fun h => absurd h (by decide)⟩
  · exact ⟨_, execPortShow_changes, fun h => absurd h (by decide)⟩
  · exact ⟨_, execPortStats_changes, fun h => absurd h (by decide)⟩
  · exact ⟨_, execPortStatsClear_changes, fun h => absurd h (by decide)⟩
  · exact ⟨_, execPortCaptureRead_changes, fun h => absurd h (by decide)⟩
  · exact ⟨_, execDormantEnter_changes, fun h => absurd h (by decide)⟩
  · exact ⟨_, execWake_changes, fun h => absurd h (by decide)⟩
  · exact ⟨_, execDhcpv4Receive_changes, fun h => absurd h (by decide)⟩
  · exact ⟨_, execDhcpRetransmit_changes, fun h => absurd h (by decide)⟩
  · exact ⟨_, execDhcpv6Receive_changes, fun h => absurd h (by decide)⟩
  · exact ⟨_, execRouterAdvertisement_changes, fun h => absurd h (by decide)⟩
  · exact ⟨_, execRaTimeout_changes, fun h => absurd h (by decide)⟩
  · exact ⟨_, execAddrProbeDone_changes, fun h => absurd h (by decide)⟩
  · exact ⟨_, execAddrDuplicate_changes, fun h => absurd h (by decide)⟩
  · exact ⟨_, execAddrRetry_changes, fun h => absurd h (by decide)⟩
  · exact ⟨_, execAddrLost_changes, fun h => absurd h (by decide)⟩
  · exact ⟨_, execNeighbourSolicit_changes, fun h => absurd h (by decide)⟩
  · exact ⟨_, execIcmpEcho_changes, fun h => absurd h (by decide)⟩
  · exact ⟨_, execNetShow_changes, fun h => absurd h (by decide)⟩
  · exact ⟨_, execNetStats_changes, fun h => absurd h (by decide)⟩
  · exact ⟨_, execNetLldp_changes, fun h => absurd h (by decide)⟩
  · exact ⟨_, execNetRenew_changes, fun h => absurd h (by decide)⟩
  · exact ⟨_, execLldpReceive_changes, fun h => absurd h (by decide)⟩
  · exact ⟨_, execPtpAnnounce_changes, fun h => absurd h (by decide)⟩
  · exact ⟨_, execPtpMessage_changes, fun h => absurd h (by decide)⟩
  · exact ⟨_, execNtpPoll_changes, fun h => absurd h (by decide)⟩
  · exact ⟨_, execNtpResponse_changes, fun h => absurd h (by decide)⟩
  · exact ⟨_, execTimeSet_changes, fun h => absurd h (by decide)⟩
  · exact ⟨_, execTimeAccept_changes, fun h => absurd h (by decide)⟩
  · exact ⟨_, execTimeShow_changes, fun h => absurd h (by decide)⟩
  · exact ⟨_, execDataConnect_changes, fun h => absurd h (by decide)⟩
  · exact ⟨_, execKv1Connect_changes, fun h => absurd h (by decide)⟩
  · exact ⟨_, execTlsHandshake_changes, fun h => absurd h (by decide)⟩
  · exact ⟨_, execConnectionTimeout_changes, fun h => absurd h (by decide)⟩
  · exact ⟨_, execConnectionClose_changes, fun h => absurd h (by decide)⟩
  · exact ⟨_, execHello_changes, fun h => absurd h (by decide)⟩
  · exact ⟨_, execAuth_changes, fun h => absurd h (by decide)⟩
  · exact ⟨_, execAuthDenyDelay_changes, fun h => absurd h (by decide)⟩
  · exact ⟨_, execAuthLockoutExpiry_changes, fun h => absurd h (by decide)⟩
  · exact ⟨_, execChannelOpen_changes, fun h => absurd h (by decide)⟩
  · exact ⟨_, execChannelClose_changes, fun h => absurd h (by decide)⟩
  · exact ⟨_, execFrameLostAlignment_changes, fun h => absurd h (by decide)⟩
  · exact ⟨_, execResyncData_changes, fun h => absurd h (by decide)⟩
  · exact ⟨_, execResyncTimeout_changes, fun h => absurd h (by decide)⟩
  · exact ⟨_, execKv1Heartbeat_changes (y0 := PortId.p0), fun h => absurd h (by decide)⟩
  · exact ⟨_, execHeartbeat_changes, fun h => absurd h (by decide)⟩
  · exact ⟨_, execPut_changes, fun h => absurd h (by decide)⟩
  · exact ⟨_, execGet_changes, fun h => absurd h (by decide)⟩
  · exact ⟨_, execHead_changes, fun h => absurd h (by decide)⟩
  · exact ⟨_, execDelete_changes, fun h => absurd h (by decide)⟩
  · exact ⟨_, execList_changes, fun h => absurd h (by decide)⟩
  · exact ⟨_, execCas_changes, fun h => absurd h (by decide)⟩
  · exact ⟨_, execMputBegin_changes, fun h => absurd h (by decide)⟩
  · exact ⟨_, execMputPart_changes, fun h => absurd h (by decide)⟩
  · exact ⟨_, execMputCommit_changes, fun h => absurd h (by decide)⟩
  · exact ⟨_, execMputAbort_changes, fun h => absurd h (by decide)⟩
  · exact ⟨_, execUploadExpiry_changes, fun h => absurd h (by decide)⟩
  · exact ⟨_, execTxn_changes, fun h => absurd h (by decide)⟩
  · exact ⟨_, execTxnLocksTaken_changes, fun h => absurd h (by decide)⟩
  · exact ⟨_, execLockTimeout_changes, fun h => absurd h (by decide)⟩
  · exact ⟨_, execTag_changes, fun h => absurd h (by decide)⟩
  · exact ⟨_, execFind_changes, fun h => absurd h (by decide)⟩
  · exact ⟨_, execFindDone_changes, fun h => absurd h (by decide)⟩
  · exact ⟨_, execFetch_changes, fun h => absurd h (by decide)⟩
  · exact ⟨_, execTicketExpiry_changes, fun h => absurd h (by decide)⟩
  · exact ⟨_, execFlush_changes, fun h => absurd h (by decide)⟩
  · exact ⟨_, execDiscard_changes, fun h => absurd h (by decide)⟩
  · exact ⟨_, execShred_changes, fun h => absurd h (by decide)⟩
  · exact ⟨_, execStat_changes, fun h => absurd h (by decide)⟩
  · exact ⟨_, execMbxSend_changes, fun h => absurd h (by decide)⟩
  · exact ⟨_, execMbxRecv_changes, fun h => absurd h (by decide)⟩
  · exact ⟨_, execObjectExpiry_changes, fun h => absurd h (by decide)⟩
  · exact ⟨_, execBucketRefill_changes, fun h => absurd h (by decide)⟩
  · exact ⟨_, execOperationComplete_changes, fun h => absurd h (by decide)⟩
  · exact ⟨_, execKvShow_changes, fun h => absurd h (by decide)⟩
  · exact ⟨_, execKvStats_changes, fun h => absurd h (by decide)⟩
  · exact ⟨_, execKvConns_changes, fun h => absurd h (by decide)⟩
  · exact ⟨_, execKv1Enable_changes, fun h => absurd h (by decide)⟩
  · exact ⟨_, execKv1Disable_changes, fun h => absurd h (by decide)⟩
  · exact ⟨_, execKv1Allow_changes, fun h => absurd h (by decide)⟩
  · exact ⟨_, execKv1Deny_changes, fun h => absurd h (by decide)⟩
  · exact ⟨_, execKv1Show_changes, fun h => absurd h (by decide)⟩
  · exact ⟨_, execStallShow_changes, fun h => absurd h (by decide)⟩
  · exact ⟨_, execStallCreate_changes, fun h => absurd h (by decide)⟩
  · exact ⟨_, execStallReset_changes, fun h => absurd h (by decide)⟩
  · exact ⟨_, execStallRebind_changes, fun h => absurd h (by decide)⟩
  · exact ⟨_, execDrainEnd_changes, fun h => absurd h (by decide)⟩
  · exact ⟨_, execStallRemove_changes, fun h => absurd h (by decide)⟩
  · exact ⟨_, execStallRemovalDone_changes, fun h => absurd h (by decide)⟩
  · exact ⟨_, execStallFreeze_changes, fun h => absurd h (by decide)⟩
  · exact ⟨_, execFreezeDrainEnd_changes, fun h => absurd h (by decide)⟩
  · exact ⟨_, execStallBlobRead_changes, fun h => absurd h (by decide)⟩
  · exact ⟨_, execStallBlobLoad_changes, fun h => absurd h (by decide)⟩
  · exact ⟨_, execStallThaw_changes, fun h => absurd h (by decide)⟩
  · exact ⟨_, execStallRelocate_changes, fun h => absurd h (by decide)⟩
  · exact ⟨_, execRelocateCutover_changes, fun h => absurd h (by decide)⟩
  · exact ⟨_, execRelocateDone_changes, fun h => absurd h (by decide)⟩
  · exact ⟨_, execRelocateFailed_changes, fun h => absurd h (by decide)⟩
  · exact ⟨_, execStallRelocateCancel_changes, fun h => absurd h (by decide)⟩
  · exact ⟨_, execStallAdopt_changes, fun h => absurd h (by decide)⟩
  · exact ⟨_, execStallKeyExport_changes, fun h => absurd h (by decide)⟩
  · exact ⟨_, execStallCredShow_changes, fun h => absurd h (by decide)⟩
  · exact ⟨_, execStallCredNew_changes, fun h => absurd h (by decide)⟩
  · exact ⟨_, execStallCredSet_changes, fun h => absurd h (by decide)⟩
  · exact ⟨_, execStallCredClear_changes, fun h => absurd h (by decide)⟩
  · exact ⟨_, execMbxCompose_changes, fun h => absurd h (by decide)⟩
  · exact ⟨_, execMbxWardenSend_changes, fun h => absurd h (by decide)⟩
  · exact ⟨_, execMbxWardenRecv_changes, fun h => absurd h (by decide)⟩
  · exact ⟨_, execMbxShow_changes, fun h => absurd h (by decide)⟩
  · exact ⟨_, execMbxDoorbell_changes, fun h => absurd h (by decide)⟩
  · exact ⟨_, execMeterShow_changes, fun h => absurd h (by decide)⟩
  · exact ⟨_, execMeterRecords_changes, fun h => absurd h (by decide)⟩
  · exact ⟨_, execPackedPageTimeout_changes, fun h => absurd h (by decide)⟩
  · exact ⟨_, execFlashProgramDone_changes, fun h => absurd h (by decide)⟩
  · exact ⟨_, execFlashReadDone_changes, fun h => absurd h (by decide)⟩
  · exact ⟨_, execMediaShow_changes, fun h => absurd h (by decide)⟩
  · exact ⟨_, execBandShow_changes, fun h => absurd h (by decide)⟩
  · exact ⟨_, execProgramFail_changes, fun h => absurd h (by decide)⟩
  · exact ⟨_, execShredDone_changes, fun h => absurd h (by decide)⟩
  · exact ⟨_, execHealthShow_changes, fun h => absurd h (by decide)⟩
  · exact ⟨_, execHealthTemp_changes, fun h => absurd h (by decide)⟩
  · exact ⟨_, execHealthHoldup_changes, fun h => absurd h (by decide)⟩
  · exact ⟨_, execArcadeShow_changes, fun h => absurd h (by decide)⟩
  · exact ⟨_, execArcadeBankShow_changes, fun h => absurd h (by decide)⟩
  · exact ⟨_, execArcadeGrant_changes, fun h => absurd h (by decide)⟩
  · exact ⟨_, execBeaconReceive_changes, fun h => absurd h (by decide)⟩
  · exact ⟨_, execMemberTimeout_changes, fun h => absurd h (by decide)⟩
  · exact ⟨_, execRowLeave_changes, fun h => absurd h (by decide)⟩
  · exact ⟨_, execRowAck_changes, fun h => absurd h (by decide)⟩
  · exact ⟨_, execFindReq_changes, fun h => absurd h (by decide)⟩
  · exact ⟨_, execFindPage_changes, fun h => absurd h (by decide)⟩
  · exact ⟨_, execFindEnd_changes, fun h => absurd h (by decide)⟩
  · exact ⟨_, execRowFindDeadline_changes, fun h => absurd h (by decide)⟩
  · exact ⟨_, execMirrorPut_changes, fun h => absurd h (by decide)⟩
  · exact ⟨_, execMirrorUpdate_changes, fun h => absurd h (by decide)⟩
  · exact ⟨_, execMirrorRemove_changes (y3 := true), fun h => absurd h (by decide)⟩
  · exact ⟨_, execMirrorShow_changes, fun h => absurd h (by decide)⟩
  · exact ⟨_, execMirrorDrop_changes, fun h => absurd h (by decide)⟩
  · exact ⟨_, execMirrorRestore_changes, fun h => absurd h (by decide)⟩
  · exact ⟨_, execMirrorRestoreDone_changes, fun h => absurd h (by decide)⟩
  · exact ⟨_, execRowShow_changes, fun h => absurd h (by decide)⟩
  · exact ⟨_, execRowMembers_changes, fun h => absurd h (by decide)⟩
  · exact ⟨_, execRowKeyNew_changes, fun h => absurd h (by decide)⟩
  · exact ⟨_, execRowKeySet_changes, fun h => absurd h (by decide)⟩
  · exact ⟨_, execParcelPiece_changes, fun h => absurd h (by decide)⟩
  · exact ⟨_, execPieceTimeout_changes, fun h => absurd h (by decide)⟩
  · exact ⟨_, execParcelShow_changes, fun h => absurd h (by decide)⟩
  · exact ⟨_, execParcelInstall_changes, fun h => absurd h (by decide)⟩
  · exact ⟨_, execParcelAbandon_changes, fun h => absurd h (by decide)⟩
  · exact ⟨_, execFwShow_changes, fun h => absurd h (by decide)⟩
  · exact ⟨_, execConfigExport_changes, fun h => absurd h (by decide)⟩
  · exact ⟨_, execTrialConfirm_changes, fun h => absurd h (by decide)⟩
  · exact ⟨_, execGateUpdateDone_changes, fun h => absurd h (by decide)⟩
  · exact ⟨_, execLifecycleShow_changes, fun h => absurd h (by decide)⟩
  · exact ⟨_, execLifecycleSet_changes, fun h => absurd h (by decide)⟩
  · exact ⟨_, execTestShow_changes, fun h => absurd h (by decide)⟩
  · exact ⟨_, execTestResults_changes, fun h => absurd h (by decide)⟩
  · exact ⟨_, execTestRun_changes, fun h => absurd h (by decide)⟩
  · exact ⟨_, execIslandRevive_changes, fun h => absurd h (by decide)⟩
  · exact ⟨_, execResShow_changes, fun h => absurd h (by decide)⟩
  · exact ⟨_, execFrameSent_changes, fun h => absurd h (by decide)⟩
  · exact ⟨_, execHandshakeTimeout_changes, fun h => absurd h (by decide)⟩
  · exact ⟨_, execDramRebuildDone_changes, fun h => absurd h (by decide)⟩
  · exact ⟨_, execHwstatFold_changes, fun h => absurd h (by decide)⟩
  · exact ⟨_, execEventLineWindowEnd_changes, fun h => absurd h (by decide)⟩
  · exact ⟨_, execLinkDownshift_changes, fun h => absurd h (by decide)⟩
  · exact ⟨_, execLagNoPartner_changes, fun h => absurd h (by decide)⟩
  · exact ⟨_, execCounterHalf_changes, fun h => absurd h (by decide)⟩
  · exact ⟨_, execCounterFold_changes, fun h => absurd h (by decide)⟩
  · exact ⟨_, execCounterSaturated_changes, fun h => absurd h (by decide)⟩
  · exact ⟨_, execIcmpPacketTooBig_changes, fun h => absurd h (by decide)⟩
  · exact ⟨_, execClosedPortPacket_changes, fun h => absurd h (by decide)⟩
  · exact ⟨_, execLldpNeighbourExpiry_changes, fun h => absurd h (by decide)⟩
  · exact ⟨_, execTlsRecordFail_changes, fun h => absurd h (by decide)⟩
  · exact ⟨_, execDiscardTicketDone_changes, fun h => absurd h (by decide)⟩
  · exact ⟨_, execRelocateMessage_changes, fun h => absurd h (by decide)⟩
  · exact ⟨_, execCheckpointSegment_changes, fun h => absurd h (by decide)⟩
  · exact ⟨_, execBedBinEnd_changes, fun h => absurd h (by decide)⟩
  · exact ⟨_, execDieFailed_changes, fun h => absurd h (by decide)⟩
  · exact ⟨_, execShelterMoved_changes, fun h => absurd h (by decide)⟩
  · exact ⟨_, execGcLoadWindow_changes, fun h => absurd h (by decide)⟩
  · exact ⟨_, execGcBandFreed_changes, fun h => absurd h (by decide)⟩
  · exact ⟨_, execEraseDone_changes, fun h => absurd h (by decide)⟩
  · exact ⟨_, execPatrolRead_changes, fun h => absurd h (by decide)⟩
  · exact ⟨_, execShredScan_changes, fun h => absurd h (by decide)⟩
  · exact ⟨_, execArcSearch_changes, fun h => absurd h (by decide)⟩
  · exact ⟨_, execArcCursorFree_changes, fun h => absurd h (by decide)⟩
  · exact ⟨_, execArcScrubUnit_changes, fun h => absurd h (by decide)⟩
  · exact ⟨_, execArcRebuild_changes, fun h => absurd h (by decide)⟩
  · exact ⟨_, execRowRetransmit_changes, fun h => absurd h (by decide)⟩
  · exact ⟨_, execFindCancel_changes, fun h => absurd h (by decide)⟩
  · exact ⟨_, execMirrorCopyExpiry_changes, fun h => absurd h (by decide)⟩
  · exact ⟨_, execRelayOffer_changes, fun h => absurd h (by decide)⟩
  · exact ⟨_, execPieceReq_changes, fun h => absurd h (by decide)⟩
  · exact ⟨_, execRelayPiece_changes, fun h => absurd h (by decide)⟩
  · exact ⟨_, execRelayStatus_changes, fun h => absurd h (by decide)⟩
  · exact ⟨_, execZeroWindowTimeout_changes, fun h => absurd h (by decide)⟩
  · exact ⟨_, execCellReturn_changes, fun h => absurd h (by decide)⟩
  · exact ⟨_, execRelocateCopy_changes, fun h => absurd h (by decide)⟩
  · exact ⟨_, execLeadSelect_changes, fun h => absurd h (by decide)⟩
  · exact ⟨_, execS01BudgetMet_changes, fun h => absurd h (by decide)⟩
  · exact ⟨_, execStartHotHold_changes, fun h => absurd h (by decide)⟩
  · exact ⟨_, execS17LinkRetry_changes, fun h => absurd h (by decide)⟩
  · exact ⟨_, execHaltDrainEnd_changes, fun h => absurd h (by decide)⟩
  · exact ⟨_, execPowerFail_changes, fun h => absurd h (by decide)⟩
  · exact ⟨_, execLevelUp_changes, fun h => absurd h (by decide)⟩
  · exact ⟨_, execStarvedTimeout_changes, fun h => absurd h (by decide)⟩
  · exact ⟨_, execHoldupPeriodic_changes, fun h => absurd h (by decide)⟩
  · exact ⟨_, execHoldupDischargeStart_changes, fun h => absurd h (by decide)⟩
  · exact ⟨_, execBankRecharged_changes, fun h => absurd h (by decide)⟩
  · exact ⟨_, execCapAdmission_changes, fun h => absurd h (by decide)⟩
  · exact ⟨_, execReferenceClockLoss_changes, fun h => absurd h (by decide)⟩
  · exact ⟨_, execGatehouseWatchdog_changes, fun h => absurd h (by decide)⟩
  · exact ⟨_, execGatehouseReset_changes, fun h => absurd h (by decide)⟩
  · exact ⟨_, execGatehouseResetTimeout_changes, fun h => absurd h (by decide)⟩
  · exact ⟨_, execDramScrub_changes, fun h => absurd h (by decide)⟩
  · exact ⟨_, execUsbAttach_changes, fun h => absurd h (by decide)⟩
  · exact ⟨_, execUsbDetach_changes, fun h => absurd h (by decide)⟩
  · exact ⟨_, execUsbSetLineCoding_changes, fun h => absurd h (by decide)⟩
  · exact ⟨_, execButtonPress_changes, fun h => absurd h (by decide)⟩
  · exact ⟨_, execButtonStuck_changes, fun h => absurd h (by decide)⟩
  · exact ⟨_, execButtonLockoutClear_changes, fun h => absurd h (by decide)⟩
  · exact ⟨_, execLidOpen_changes, fun h => absurd h (by decide)⟩
  · exact ⟨_, execLidClosed_changes, fun h => absurd h (by decide)⟩
  · exact ⟨_, execPresenceExpiry_changes, fun h => absurd h (by decide)⟩
  · exact ⟨_, execJconFramingError_changes, fun h => absurd h (by decide)⟩
  · exact ⟨_, execJconShortBreak_changes, fun h => absurd h (by decide)⟩
  · exact ⟨_, execLineFault_changes, fun h => absurd h (by decide)⟩
  · exact ⟨_, execLineRecovered_changes, fun h => absurd h (by decide)⟩
  · exact ⟨_, execLocateExpiry_changes, fun h => absurd h (by decide)⟩
  · exact ⟨_, execBondRevert_changes, fun h => absurd h (by decide)⟩
  · exact ⟨_, execPtpAnnounceTimeout_changes, fun h => absurd h (by decide)⟩
  · exact ⟨_, execTimeStepRefused_changes, fun h => absurd h (by decide)⟩
  · exact ⟨_, execRtcWrite_changes, fun h => absurd h (by decide)⟩
  · exact ⟨_, execLedgerCheckpoint_changes, fun h => absurd h (by decide)⟩
  · exact ⟨_, execSchedDispatch_changes, fun h => absurd h (by decide)⟩
  · exact ⟨_, execMeterTick_changes, fun h => absurd h (by decide)⟩
  · exact ⟨_, execLogProgram_changes, fun h => absurd h (by decide)⟩
  · exact ⟨_, execRebuildBand_changes, fun h => absurd h (by decide)⟩
  · exact ⟨_, execGcReclaimTimer_changes, fun h => absurd h (by decide)⟩
  · exact ⟨_, execWearLevelMove_changes, fun h => absurd h (by decide)⟩
  · exact ⟨_, execBlockRefreshed_changes, fun h => absurd h (by decide)⟩
  · exact ⟨_, execHealthTempTick_changes, fun h => absurd h (by decide)⟩
  · exact ⟨_, execArcInsert_changes, fun h => absurd h (by decide)⟩
  · exact ⟨_, execArcInvalidate_changes, fun h => absurd h (by decide)⟩
  · exact ⟨_, execArcScrubPass_changes, fun h => absurd h (by decide)⟩
  · exact ⟨_, execBeaconSend_changes, fun h => absurd h (by decide)⟩
  · exact ⟨_, execLeaderTimeout_changes, fun h => absurd h (by decide)⟩
  · exact ⟨_, execMirrorRetry_changes, fun h => absurd h (by decide)⟩
  · exact ⟨_, execMirrorSend_changes, fun h => absurd h (by decide)⟩
  · exact ⟨_, execMirrorCatchup_changes, fun h => absurd h (by decide)⟩
  · exact ⟨_, execParcelExpiry_changes, fun h => absurd h (by decide)⟩
  · exact ⟨_, execTrialWindowEnd_changes, fun h => absurd h (by decide)⟩
  · exact ⟨_, execEventLogCopy_changes, fun h => absurd h (by decide)⟩

/-- The next SEQ goes back at most where S03 takes it anew (R851). -/
theorem exec_seq {c : Instr} {s t : State} (h : exec c s = .next t) (k : endsS02 c = false) :
    s.log.nextSeq ≤ t.log.nextSeq := by
  obtain ⟨m, ⟨u, hu, g⟩, e⟩ := exec_changes c s
  rw [h] at hu
  cases hu
  refine g.seq_le ?_
  cases q : m.testBit 22 with
  | false => rfl
  | true => rw [e q] at k; cases k

end Sys2Proof.Laws
end

