-- ==== Sys2Proof/Laws/Frames.lean ====
section
/-!
SUPPORT. What a frame that passes its checks does (ch. 09), and what the requests of the rows lead to.
-/

namespace Sys2Proof.Laws

open Sys2Proof Machine

theorem getConn_updConn_same {s : State} {i : Nat} {f : Conn → Conn} {c : Conn} (h : getConn s i = some c) :
    getConn (updConn s i f) i = some (f c) := find_modify_same h

theorem getConn_updConn_other {s : State} {i j : Nat} {f : Conn → Conn} (h : j ≠ i) :
    getConn (updConn s i f) j = getConn s j := find_modify_other h

theorem wakeIsl_proto {s : State} {i : Island} : (wakeIsl s i).proto = s.proto := by unfold wakeIsl; split <;> rfl

theorem wakeIsl_rest {s : State} {i : Island} : (wakeIsl s i).kv = s.kv ∧ (wakeIsl s i).stalls = s.stalls ∧
    (wakeIsl s i).cfg = s.cfg ∧ (wakeIsl s i).media = s.media ∧ (wakeIsl s i).clock = s.clock ∧ (wakeIsl s i).phase = s.phase := by
  unfold wakeIsl; split <;> exact ⟨rfl, rfl, rfl, rfl, rfl, rfl⟩

theorem getConn_wakeIsl {s : State} {i : Nat} {k : Island} : getConn (wakeIsl s k) i = getConn s i := by
  unfold getConn; rw [wakeIsl_proto]

theorem getStall_received {s : State} {i : Nat} : getStall (received s i) = getStall s := by
  funext x
  unfold received getStall updConn updProto
  simp only [wakeIsl_rest.2.1]

theorem getConn_received {s : State} {i : Nat} {c : Conn} (h : getConn s i = some c) :
    getConn (received s i) i = some { c with lastRx := s.clock.ledger } :=
  getConn_updConn_same (getConn_wakeIsl.trans h)

theorem getChan_received {s : State} {i ch : Nat} : getChan (received s i) i ch = getChan s i ch := by
  unfold getChan
  cases h : getConn s i with
  | none =>
    have : getConn (received s i) i = none := by
      unfold received getConn updConn updProto
      rw [← getConn_wakeIsl (k := .proto)] at h
      simp only [modify_none h]; exact h
    rw [this]
  | some c => rw [getConn_received h]; rfl

/-- HELLO in its stage. -/
theorem serveFrame_hello {s : State} {i : Nat} {f : Frame} {c : Conn} (h : Passes s i f c .hello) (k : f.kind = 3) :
    serveFrame s i f = serveHello (received s i) i c f := by
  unfold serveFrame
  simp only [h.conn, h.stage, h.gen, h.payload, h.fields, ne_eq, not_true, if_false, Bool.not_true, Bool.false_eq_true, k]
  rfl

/-- AUTH in its stage. -/
theorem serveFrame_auth {s : State} {i : Nat} {f : Frame} {c : Conn} (h : Passes s i f c .auth) (k : f.kind = 5) :
    serveFrame s i f = serveAuth (received s i) i c f := by
  unfold serveFrame
  simp only [h.conn, h.stage, h.gen, h.payload, h.fields, ne_eq, not_true, if_false, Bool.not_true, Bool.false_eq_true, k]
  rfl

/-- A request or a channel frame in an open session. -/
theorem serveFrame_open {s : State} {i : Nat} {f : Frame} {c : Conn} (h : Passes s i f c .open_)
    (k : f.kind = 1 ∨ f.kind = 7) (g : Staged s i f c) : serveFrame s i f = serveRequest (received s i) i c f := by
  have q : stageRequest (received s i) i c f = serveRequest (received s i) i c f := by
    unfold stageRequest
    rw [g.first, g.fits]
    rfl
  unfold serveFrame
  simp only [h.conn, h.stage, h.gen, h.payload, h.fields, ne_eq, not_true, if_false, Bool.not_true, Bool.false_eq_true]
  rcases k with k | k <;> (rw [k]; exact q)

/-- A request that passes every check is admitted, and the queues are served. -/
theorem serveFrame_passesAll {s : State} {i : Nat} {f : Frame} {c : Conn} {code : OpCode} {ch : Chan}
    (h : PassesAll s i f c code ch) (k : code ≠ .heartbeat) :
    serveFrame s i f = settle (schedRun (admitRequest (received s i) i f.channel c (c.stall.getD 0) code f)) := by
  rw [serveFrame_open h.toPasses (.inl h.kind) h.staged]
  unfold serveRequest
  have e : getStall (received s i) = getStall s := getStall_received
  have h9 : ¬ (c.gen ≠ .kv1 ∧ f.stall ≠ c.stall.getD 0) := fun ⟨a, b⟩ => b (h.stall a)
  have h10 : ¬ (c.gen ≠ .kv1 ∧ (f.generation ≠ (getStall s (c.stall.getD 0)).generation ∨
      c.generation ≠ (getStall s (c.stall.getD 0)).generation)) := fun ⟨a, b⟩ => by
    rcases b with b | b
    · exact b (h.generation a).1
    · exact b (h.generation a).2
  simp only [e, h9, h10, if_false, h.kind, h.code, getChan_received, h.chan]
  have h11 : ¬ ch.maxOut ≤ ch.out.length := Nat.not_le.mpr h.room
  simp only [show ¬ ((1 : Nat) = 7) by decide, if_false, h11]

/-- A frame of a row is served under that row. -/
theorem frameRow_served {s : State} {kind opcode i : Nat} {f : Frame} (h : rowOfFrame f = some (kind, opcode)) :
    frameRow s kind opcode i f = serveFrame s i f := by
  unfold frameRow
  rw [h]
  simp

/-- A frame of another row does nothing. -/
theorem frameRow_other {s : State} {kind opcode i : Nat} {f : Frame} {r : Nat × Nat} (h : rowOfFrame f = some r)
    (k : r ≠ (kind, opcode)) : frameRow s kind opcode i f = s := by
  unfold frameRow
  rw [h]
  simp [k]

/-- The row of a request frame is that of its opcode. -/
theorem rowOfFrame_request {f : Frame} {code : OpCode} (h : f.kind = 1) (k : opOfCode f.opcode = some code) :
    rowOfFrame f = some (1, f.opcode) := by
  unfold rowOfFrame
  simp [h, k]

/-- The code of an operation is the number its opcode field holds. -/
theorem opcode_of {n : Nat} {code : OpCode} (h : opOfCode n = some code) : n = codeOfOp code := by
  unfold opOfCode at h
  split at h
  · cases h
  · rename_i k
    obtain ⟨m, rfl⟩ : ∃ m, n = m + 1 := ⟨n - 1, by omega⟩
    have hm : m < opCodes.length := by
      by_contra hc
      simp only [Nat.add_sub_cancel] at h
      rw [List.getElem?_eq_none (by omega)] at h
      cases h
    have : m < 21 := hm
    simp only [Nat.add_sub_cancel] at h
    interval_cases m <;> (simp [opCodes] at h; subst h; rfl)

end Sys2Proof.Laws
end

