-- ==== Sys2Proof/Laws/Fw.lean ====
section
/-!
SUPPORT. Firmware slots and the held parcel: what writing a slot, a piece, or the outcome of a gatehouse update leaves.
-/

namespace Sys2Proof.Laws

open Sys2Proof Machine

theorem logEv_fw {s : State} {e : Ev} {a : EvArgs} : (logEv s e a).fw = s.fw := logEv_changes.fw (by decide)

theorem logEv_now {s : State} {e : Ev} {a : EvArgs} : now (logEv s e a) = now s :=
  congrArg Clock.ledger (logEv_changes.clock (by decide))

theorem fwSlot_of {s u : State} (h : u.fw = s.fw) (b : Bool) : fwSlot u b = fwSlot s b := by unfold fwSlot; rw [h]

@[simp] theorem fwSlot_updSlot_same (s : State) (b : Bool) (f : FwSlot → FwSlot) :
    fwSlot (updSlot s b f) b = f (fwSlot s b) := by cases b <;> rfl

@[simp] theorem fwSlot_updSlot_not (s : State) (b : Bool) (f : FwSlot → FwSlot) :
    fwSlot (updSlot s b f) (! b) = fwSlot s (! b) := by cases b <;> rfl

@[simp] theorem updSlot_parcel (s : State) (b : Bool) (f : FwSlot → FwSlot) : (updSlot s b f).fw.parcel = s.fw.parcel := by
  cases b <;> rfl

@[simp] theorem updSlot_install (s : State) (b : Bool) (f : FwSlot → FwSlot) : (updSlot s b f).fw.install = s.fw.install := by
  cases b <;> rfl

@[simp] theorem updSlot_running (s : State) (b : Bool) (f : FwSlot → FwSlot) : (updSlot s b f).fw.running = s.fw.running := by
  cases b <;> rfl

@[simp] theorem updSlot_clock (s : State) (b : Bool) (f : FwSlot → FwSlot) : (updSlot s b f).clock = s.clock := rfl

/-- A piece enters the store of a held parcel; the last one completes it (R745). -/
theorem keepPiece_parcel {s : State} {n : Nat} {p : Parcel} (h : s.fw.parcel = some p) : (keepPiece s n).fw.parcel =
    some { p with pieces := p.pieces ++ [n], lastAt := now s
                  state := if p.manifest.pieces ≤ p.pieces.length + 1 then .complete else .receiving } := by
  unfold keepPiece
  rw [h]
  dsimp only
  have k : ∀ u : State, (if piecesToSlot u = true then u else stageLog u (.parcel n)).fw = u.fw := by
    intro u; split
    · rfl
    · exact stageLog_changes.fw (by decide)
  have e : (p.pieces ++ [n]).length = p.pieces.length + 1 := by simp
  split
  · rename_i g
    rw [logEv_fw, k]
    simp only [updParcel, updFw, h, Option.map_some]
    rw [if_pos (by rw [← e]; exact of_decide_eq_true g)]
  · rename_i g
    rw [k]
    simp only [updParcel, updFw, h, Option.map_some]
    rw [if_neg (by rw [← e]; exact fun q => g (decide_eq_true q))]

/-- Piece 0 of a parcel that passes its checks begins it (R742, R745). -/
theorem takeManifest_new {s : State} {m : Manifest} {h : List Byte} (q : s.fw.parcel = none) (r : parcelRefusal s m = none) :
    ∃ v, takeManifest s m h = (keepPiece v 0, okReply) ∧
      v.fw.parcel = some { state := .receiving, manifest := m, hash0 := h, pieces := [], since := now s, lastAt := now s } ∧
      now v = now s := by
  unfold takeManifest
  rw [q]; dsimp only; rw [r]; dsimp only
  refine ⟨_, rfl, ?_, ?_⟩
  · rw [logEv_fw]
    split
    · rw [updSlot_parcel]; rfl
    · rfl
  · rw [logEv_now]
    split
    · unfold now; rw [updSlot_clock]; rfl
    · rfl

/-- A slot written and read back is STAGED with its manifest; the other slot stays, and the parcel is INSTALLED (R749). -/
theorem writeSlot_staged {s : State} {i : Install} {m : Manifest} (h : i.slot = none) (l : i.later = true) (k : i.slotOk = true)
    (ct : i.cut = false) :
    fwSlot (writeSlot s i m) (targetSlot s) = { state := .staged, version := m.version, svn := m.svn, manifest := some m
                                                relayOrigin := i.relay, relaySource := i.source } ∧
    fwSlot (writeSlot s i m) (! targetSlot s) = fwSlot s (! targetSlot s) ∧
    (writeSlot s i m).fw.parcel = s.fw.parcel.map (fun p => { p with state := .installed, installedAt := some (now s) }) ∧
    (writeSlot s i m).fw.install = none ∧ (writeSlot s i m).fw.running = s.fw.running := by
  unfold writeSlot
  simp only [h, l, k, ct, Bool.not_true, Bool.false_eq_true, if_false, true_or, if_true]
  generalize hv : updSlot (updSlot s (targetSlot s) (fun _ => ({} : FwSlot))) (targetSlot s) _ = v
  have v1 : fwSlot v (targetSlot s) = { state := .staged, version := m.version, svn := m.svn, manifest := some m
                                        relayOrigin := i.relay, relaySource := i.source } := by
    rw [← hv, fwSlot_updSlot_same]
  have v2 : fwSlot v (! targetSlot s) = fwSlot s (! targetSlot s) := by
    rw [← hv, fwSlot_updSlot_not, fwSlot_updSlot_not]
  have v3 : v.fw.parcel = s.fw.parcel := by rw [← hv, updSlot_parcel, updSlot_parcel]
  have v4 : now v = now s := by rw [← hv]; unfold now; rw [updSlot_clock, updSlot_clock]
  have v5 : v.fw.running = s.fw.running := by rw [← hv, updSlot_running, updSlot_running]
  have f1 : ∀ (u : State) (g : Parcel → Parcel) b, fwSlot (updParcel (updFw u (fun f => { f with install := none })) g) b = fwSlot u b :=
    fun _ _ _ => rfl
  refine ⟨?_, ?_, ?_, rfl, ?_⟩
  · rw [f1, fwSlot_of logEv_fw, v1]
  · rw [f1, fwSlot_of logEv_fw, v2]
  · show Option.map _ (logEv v _ _).fw.parcel = _
    rw [logEv_fw, v3]
    refine congrArg (fun n => Option.map (fun p : Parcel => { p with state := .installed, installedAt := some n }) s.fw.parcel) ?_
    exact (logEv_now (s := v)).trans v4
  · show (logEv v _ _).fw.running = _
    rw [logEv_fw, v5]

/-- A slot that does not read back stays EMPTY, and the parcel is STOPPED (R749). -/
theorem writeSlot_bad {s : State} {i : Install} {m : Manifest} (h : i.slot = none) (r : i.source = none) (k : i.slotOk = false)
    (ct : i.cut = false) :
    fwSlot (writeSlot s i m) (targetSlot s) = {} ∧
    (writeSlot s i m).fw.parcel = s.fw.parcel.map (fun p => { p with state := .stopped }) ∧
    (writeSlot s i m).fw.install = none := by
  unfold writeSlot endInstall
  simp only [h, r, k, ct, Bool.not_false, Bool.false_eq_true, if_false, if_true, answerSlot, reduceCtorEq]
  refine ⟨fwSlot_updSlot_same s _ _, ?_, rfl⟩
  show Option.map _ (updSlot s _ _).fw.parcel = _
  rw [updSlot_parcel]

/-- The outcome of a gatehouse update: which slot of the gatehouse runs (R762). -/
theorem gateOutcome_slot {s : State} {v : Nat} {a b : Bool} :
    (gateOutcome s v a b).fw.gateSlot = if a = true ∧ b = true then 1 - s.fw.gateSlot else s.fw.gateSlot := by
  unfold gateOutcome
  cases b
  · simp only [Bool.false_eq_true, if_false, and_false, logEv_fw]
    rfl
  · cases a
    · simp only [if_true, Bool.false_eq_true, if_false, false_and, logEv_fw]; rfl
    · simp only [if_true, and_self, logEv_fw]; rfl

/-- And the two versions. -/
theorem gateOutcome_versions {s : State} {v : Nat} {a b : Bool} : (gateOutcome s v a b).fw.gateVersions =
    if 1 - s.fw.gateSlot = 0 then (if b then v else 0, s.fw.gateVersions.2) else (s.fw.gateVersions.1, if b then v else 0) := by
  unfold gateOutcome
  cases b
  · simp only [Bool.false_eq_true, if_false, logEv_fw]
    rfl
  · cases a
    · simp only [if_true, Bool.false_eq_true, if_false, logEv_fw]; rfl
    · simp only [if_true, logEv_fw]; rfl

/-- The gatehouse version that runs afterwards: the new one only when it was reported (R762). -/
theorem gateOutcome_version {s : State} {v : Nat} {a b : Bool} (h : s.fw.gateSlot ≤ 1) :
    gateVersion (gateOutcome s v a b) = if a = true ∧ b = true then v else gateVersion s := by
  unfold gateVersion
  rw [gateOutcome_slot, gateOutcome_versions]
  have : s.fw.gateSlot = 0 ∨ s.fw.gateSlot = 1 := by omega
  rcases this with g | g <;> rw [g] <;> cases a <;> cases b <;> rfl

end Sys2Proof.Laws
end

