-- ==== Sys2Proof/Laws/Lines.lean ====
section
/-!
SUPPORT. Every command that a session sends runs through the checks of console lines, and what the checks refuse has no
effect but its answer.
-/

namespace Sys2Proof.Laws

open Sys2Proof Machine

/-- A write of an attribute is such a run. -/
theorem setAttr_line (s : State) (l : Line) (a : Attr) (asg : Assign) :
    ∃ i bad body, (Host.Outcome.next (setAttr s l a asg) : Host.Outcome State Fault Refusal) = .next (runCmd s l i bad body) := by
  unfold setAttr
  exact ⟨_, _, _, rfl⟩

/-- A session's command is a run of the console's checks and then of its body. -/
theorem exec_line {c : Instr} {l : Line} (h : consoleLine c = some l) (s : State) :
    ∃ k : Line, k.sess = l.sess ∧ k.tag = l.tag ∧ ∃ i bad body, exec c s = .next (runCmd s k i bad body) := by
  by_cases hu : ∃ k, c = .unknownCommand k
  · obtain ⟨k, rfl⟩ := hu
    cases h
    exact ⟨{ l with text := [] }, rfl, rfl, _, _, _, rfl⟩
  by_cases ha : ∃ k n a, c = .attrSet k n a
  · obtain ⟨k, n, a, rfl⟩ := ha
    cases h
    refine ⟨l, rfl, rfl, ?_⟩
    simp only [exec, execAttrSet]
    split
    · exact ⟨_, _, _, rfl⟩
    · exact setAttr_line _ _ _ _
  unfold consoleLine at h
  split at h <;> first
    | exact absurd ⟨_, rfl⟩ hu
    | exact absurd ⟨_, _, _, rfl⟩ ha
    | (cases h; done)
    | (cases h; exact ⟨_, rfl, rfl, _, _, _, rfl⟩)
    | (cases h; exact ⟨l, rfl, rfl, setAttr_line _ _ _ _⟩)

/-- And a privileged one says so to the checks. -/
theorem exec_privileged {c : Instr} {l : Line} (h : privilegedLine c = some l) (s : State) :
    ∃ i bad body, i.priv = true ∧ exec c s = .next (runCmd s l i bad body) := by
  unfold privilegedLine at h
  split at h <;> first
    | (cases h; done)
    | (cases h; exact ⟨_, _, _, rfl, rfl⟩)

/-- What the checks refuse is answered so, and nothing else happens. -/
theorem runCmd_refused {s : State} {l : Line} {i : CmdInfo} {bad : Option ErrName} {d : Session} {r : Reply}
    {body : State → Nat → Run} (h : getSess s l.sess = some d) (o : d.closing = false)
    (ln : l.sess = .jcon → s.bay.lineFault = false) (pa : isMgmt l.sess = true ∨ consolesPaused s = false)
    (tg : d.machine = true → l.tag ≠ none) (pl : d.slots.length < 4) (e : refusal (heard s l) d l i bad = some r) :
    runCmd s l i bad body = answer (heard s l) l.sess l.tag r none := by
  unfold runCmd
  rw [h]
  dsimp only
  rw [if_neg, if_neg (fun c => tg c.1 c.2), if_neg (Nat.not_le.mpr pl)]
  · unfold heard at e
    rw [e]; rfl
  · simp only [o, Bool.false_or, Bool.or_eq_true, Bool.and_eq_true, decide_eq_true_eq, Bool.not_eq_true', not_or, not_and, Bool.not_eq_true]
    refine ⟨ln, fun m => ?_⟩
    rcases pa with pa | pa
    · rw [m] at pa; cases pa
    · exact pa

/-- A fifth command is answered busy (R242). -/
theorem runCmd_fifth {s : State} {l : Line} {i : CmdInfo} {bad : Option ErrName} {d : Session}
    {body : State → Nat → Run} (h : getSess s l.sess = some d) (o : d.closing = false)
    (ln : l.sess = .jcon → s.bay.lineFault = false) (pa : isMgmt l.sess = true ∨ consolesPaused s = false)
    (tg : d.machine = true → l.tag ≠ none) (pl : 4 ≤ d.slots.length) :
    runCmd s l i bad body = putReply (heard s l) l.sess l.tag .busy := by
  unfold runCmd
  rw [h]
  dsimp only
  rw [if_neg, if_neg (fun c => tg c.1 c.2), if_pos pl]
  · rfl
  · simp only [o, Bool.false_or, Bool.or_eq_true, Bool.and_eq_true, decide_eq_true_eq, Bool.not_eq_true', not_or, not_and, Bool.not_eq_true]
    refine ⟨ln, fun m => ?_⟩
    rcases pa with pa | pa
    · rw [m] at pa; cases pa
    · exact pa

/-- In machine mode a line without a tag is answered so, and nothing else happens (R238). -/
theorem runCmd_noTag {s : State} {l : Line} {i : CmdInfo} {bad : Option ErrName} {d : Session}
    {body : State → Nat → Run} (h : getSess s l.sess = some d) (o : d.closing = false)
    (ln : l.sess = .jcon → s.bay.lineFault = false) (pa : isMgmt l.sess = true ∨ consolesPaused s = false)
    (m : d.machine = true) (tg : l.tag = none) :
    runCmd s l i bad body = putReply (heard s l) l.sess none (.err .noTag) := by
  unfold runCmd
  rw [h]
  dsimp only
  rw [if_neg, if_pos ⟨m, tg⟩]
  · rfl
  · simp only [o, Bool.false_or, Bool.or_eq_true, Bool.and_eq_true, decide_eq_true_eq, Bool.not_eq_true', not_or, not_and, Bool.not_eq_true]
    refine ⟨ln, fun m => ?_⟩
    rcases pa with pa | pa
    · rw [m] at pa; cases pa
    · exact pa

/-- A line on a session that is not open, or that does not hear it, does nothing (R80, R797). -/
theorem runCmd_deaf {s : State} {l : Line} {i : CmdInfo} {bad : Option ErrName} {body : State → Nat → Run}
    (h : ∀ d, getSess s l.sess = some d → d.closing = true ∨ (l.sess = .jcon ∧ s.bay.lineFault = true) ∨
      (isMgmt l.sess = false ∧ consolesPaused s = true)) : runCmd s l i bad body = s := by
  unfold runCmd
  split
  · rfl
  · rename_i d q
    rw [if_pos]
    rcases h d q with h | ⟨a, b⟩ | ⟨a, b⟩
    · rw [h]; rfl
    · rw [a, b]; simp
    · rw [a, b]; simp

/-- With the window closed the checks refuse a privileged command (R79, R249). -/
theorem refusal_privileged {s : State} {d : Session} {l : Line} {i : CmdInfo} {bad : Option ErrName}
    (p : i.priv = true) (w : windowOpen s = false) :
    ∃ r, refusal s d l i bad = some r ∧ ((∃ e, r = .err e) ∨ ∃ x, r = .denied x) := by
  have n : ∃ x, denial s l i = some x := by
    unfold denial
    rw [p, w]
    split
    · exact ⟨_, rfl⟩
    · split
      · exact ⟨_, rfl⟩
      · exact ⟨_, rfl⟩
  obtain ⟨x, n⟩ := n
  unfold refusal
  split
  · exact ⟨_, rfl, .inl ⟨_, rfl⟩⟩
  · split
    · exact ⟨_, rfl, .inl ⟨_, rfl⟩⟩
    · split
      · exact ⟨_, rfl, .inl ⟨_, rfl⟩⟩
      · rw [n]; exact ⟨_, rfl, .inr ⟨_, rfl⟩⟩

end Sys2Proof.Laws
end

