-- ==== Sys2Proof/Laws/Only.lean ====
section
/-!
SUPPORT. From the masks of Laws/Changes.lean to the parts of the state that a statement names.
-/

namespace Sys2Proof.Laws

open Sys2Proof Machine

/-- The bit of a part in a mask. -/
def partBit : Part → Nat
  | .phase => 0
  | .clock => 1
  | .bay => 2
  | .power => 3
  | .isl => 4
  | .cfg => 5
  | .boot => 6
  | .con => 7
  | .ports => 8
  | .net => 9
  | .proto => 10
  | .kv => 11
  | .stalls => 12
  | .media => 13
  | .upkeep => 14
  | .arc => 15
  | .row => 16
  | .fw => 17
  | .life => 18
  | .log => 19
  | .out => 20
  | .freeCtr => 21

/-- Outside a mask every part is the same. -/
theorem same_of_changes {m : Nat} {s t : State} (h : Changes m s t) (p : Part) (k : m.testBit (partBit p) = false) :
    Same s t p := by
  cases p
  · exact h.phase k
  · exact h.clock k
  · exact h.bay k
  · exact h.power k
  · exact h.isl k
  · exact h.cfg k
  · exact h.boot k
  · exact h.con k
  · exact h.ports k
  · exact h.net k
  · exact h.proto k
  · exact h.kv k
  · exact h.stalls k
  · exact h.media k
  · exact h.upkeep k
  · exact h.arc k
  · exact h.row k
  · exact h.fw k
  · exact h.life k
  · exact h.log k
  · exact h.out k
  · exact h.freeCtr k

/-- A change within a mask is one of the parts listed, when they cover it. -/
theorem only_of_changes {m : Nat} {s t : State} {ps : List Part} (h : Changes m s t)
    (k : ∀ p, p ∉ ps → m.testBit (partBit p) = false) : Only ps s t :=
  ⟨h.pending, fun p hp => same_of_changes h p (k p hp)⟩

/-- The same of a command's next state. -/
theorem only_of_next {m : Nat} {s t : State} {ps : List Part} {o : Host.Outcome State Fault Refusal} (h : NextChanges m s o)
    (e : o = .next t) (k : ∀ p, p ∉ ps → m.testBit (partBit p) = false) : Only ps s t := by
  obtain ⟨u, hu, hc⟩ := h
  rw [hu] at e
  cases e
  exact only_of_changes hc k

end Sys2Proof.Laws
end

