-- ==== Sys2Proof/Laws/Power.lean ====
section
/-!
SUPPORT. What a change of the budget, the level or the lead does not touch: the hold-up's weakness and its measurement; and
the cap in exact terms (R118).
-/

namespace Sys2Proof.Laws

open Sys2Proof Machine

/-- The hold-up side of the power record. -/
def weakOf (s : State) : Bool × Bool × Nat × Nat := (s.power.weak, s.power.cellWt, s.power.eMeas, s.power.vBank)

theorem weakOf_of_power {s t : State} (h : t.power = s.power) : weakOf t = weakOf s := by unfold weakOf; rw [h]

/-- But for the allocation that it voids, the loss of a link changes nothing of the power record. -/
theorem portLost_rest {s : State} {p : PortId} : Changes 1591168 (voidAlloc s p) (portLost s p) := by
  unfold portLost
  (extract_lets +onlyGivenNames (merge := false) w0; clear_value w0)
  (extract_lets +onlyGivenNames (merge := false) u1; suffices h1 : Changes 1591168 (voidAlloc s p) u1; clear_value u1)
  refine .ite ?_ ?_
  refine .ite ?_ ?_
  refine .seq failoverTo_changes ?_ (by decide)
  assumption
  (extract_lets +onlyGivenNames (merge := false) u2; suffices h2 : Changes 1591168 (voidAlloc s p) u2; clear_value u2)
  (extract_lets +onlyGivenNames (merge := false) u3; suffices h3 : Changes 1591168 (voidAlloc s p) u3; clear_value u3)
  refine .seq releaseAll_changes ?_ (by decide)
  assumption
  dsimp -zeta only [u3]
  refine .ite ?_ ?_
  refine .seq updPorts_changes ?_ (by decide)
  assumption
  refine .seq updPorts_changes ?_ (by decide)
  assumption
  dsimp -zeta only [u2]
  refine .seq discardTx_changes ?_ (by decide)
  assumption
  refine .seq releaseAll_changes ?_ (by decide)
  refine .seq discardTx_changes ?_ (by decide)
  assumption
  dsimp -zeta only [u1]
  refine .seq updPort_changes ?_ (by decide)
  exact .refl

theorem weakOf_portLost {s : State} {p : PortId} : weakOf (portLost s p) = weakOf s :=
  (weakOf_of_power (portLost_rest.power (by decide))).trans rfl

theorem weakOf_train {s : State} {p : PortId} : weakOf (train s p) = weakOf s := weakOf_of_power (train_changes.power (by decide))

theorem weakOf_renegotiateNext {s : State} : weakOf (renegotiateNext s) = weakOf s := by
  unfold renegotiateNext
  split
  · rfl
  · rfl
  · dsimp only
    rw [weakOf_train]
    split
    · unfold linkLoss
      rw [weakOf_portLost, weakOf_of_power (updPort_changes.power (by decide)), weakOf_of_power (logEv_changes.power (by decide))]
      rfl
    · rfl

theorem weakOf_renegotiateAll {s : State} : weakOf (renegotiateAll s) = weakOf s := by
  unfold renegotiateAll
  split
  · rfl
  · dsimp only
    rw [weakOf_renegotiateNext]
    exact weakOf_of_power (Changes.power (m := 256) (.seq updPorts_changes
      (.foldl (fun _ _ h => .seq train_changes h (by decide)) .refl) (by decide)) (by decide))

theorem weakOf_setLevel {s : State} {l : Level} : weakOf (setLevel s l) = weakOf s := by
  unfold setLevel
  dsimp only
  split
  · rfl
  · split
    · rw [weakOf_of_power (logEv_changes.power (by decide))]; rfl
    · rw [weakOf_renegotiateAll, weakOf_of_power (logEv_changes.power (by decide))]; rfl

theorem weakOf_noteBudget {s : State} : weakOf (noteBudget s) = weakOf s := by
  unfold noteBudget
  rfl

theorem weakOf_applyBudget {s : State} : weakOf (applyBudget s) = weakOf s := by
  unfold applyBudget
  split
  · rfl
  · dsimp only
    rw [weakOf_noteBudget]
    split
    · exact weakOf_setLevel
    · rfl

theorem weakOf_noteStandby {s : State} : weakOf (noteStandby s) = weakOf s := by
  unfold noteStandby
  split
  · rfl
  · split <;> rfl

theorem weakOf_changeLead {s : State} {p : PortId} {w : Changeover} {n : Nat} : weakOf (changeLead s p w n) = weakOf s := by
  unfold changeLead
  dsimp only
  rw [weakOf_noteStandby, weakOf_applyBudget, weakOf_of_power (logEv_changes.power (by decide))]
  rfl

/-- Moving budgets leave the hold-up as it is. -/
theorem weakOf_rebudget {s : State} : weakOf (rebudget s) = weakOf s := by
  unfold rebudget
  split
  · rfl
  · split
    · exact weakOf_changeLead
    · rw [weakOf_noteStandby, weakOf_applyBudget]

end Sys2Proof.Laws
end

