-- ==== Sys2Proof/Laws/RowMsg.lean ====
section
/-!
SUPPORT. What a row message leads to (R715, R717), and what a change of the view keeps: the membership, the epoch and the
state of the row are those the change sets, whatever searches, the mirror and messages then do.
-/

namespace Sys2Proof.Laws

open Sys2Proof Machine

/-- A message that arrives is acted on once and acknowledged. -/
theorem takeRow_arrives {s : State} {h : RowHdr} {act : State → State × AckStatus} (k : Arrives s h) :
    takeRow s h act = acked (act (noted s h)).1 h (act (noted s h)).2 := by
  unfold takeRow
  simp only [k.runs, k.known, k.fresh, Bool.not_true, Bool.false_eq_true, if_false]
  rfl

theorem takeRow_stopped {s : State} {h : RowHdr} {act : State → State × AckStatus} (r : rowRuns s = false) :
    takeRow s h act = s := by simp [takeRow, r]

theorem takeRow_unknown {s : State} {h : RowHdr} {act : State → State × AckStatus} (r : rowRuns s = true)
    (k : rowKnows s h.peer = false) : takeRow s h act = { s with row := { s.row with msgBad := s.row.msgBad + 1 } } := by
  simp [takeRow, r, k, updRow]

theorem takeRow_repeat {s : State} {h : RowHdr} {act : State → State × AckStatus} {q : Nat × Nat × AckStatus}
    (r : rowRuns s = true) (k : rowKnows s h.peer = true)
    (f : s.row.seen.find? (fun x => decide (x.1 = h.peer) && decide (x.2.1 = h.msgId)) = some q) :
    takeRow s h act = rowSend s h.peer (.ack q.2.2) h.msgId := by simp [takeRow, r, k, f]

/-- Every row message goes through `takeRow`. -/
theorem exec_rowHeader {c : Instr} {h : RowHdr} (k : rowHeader c = some h) (s : State) :
    ∃ act, exec c s = .next (takeRow s h act) := by
  unfold rowHeader at k
  split at k <;> first | (cases k; exact ⟨_, rfl⟩) | cases k

/-- The view of a state: membership, epoch, state, and the members' beacons. -/
def viewOf (s : State) : List Member × Nat × Nat × RowState := (s.row.members, s.row.epoch, s.row.seenEpoch, s.row.state)

theorem viewOf_of_row {s t : State} (h : t.row = s.row) : viewOf t = viewOf s := by unfold viewOf; rw [h]

theorem viewOf_sendIp {s : State} {i q x c} : viewOf (sendIp s i q x c) = viewOf s :=
  viewOf_of_row (sendIp_changes.row (by decide))

theorem viewOf_rowWire {s : State} {m : RowMsg} : viewOf (rowWire s m) = viewOf s :=
  viewOf_of_row (rowWire_changes.row (by decide))

theorem viewOf_rowPost {s : State} {m : RowMsg} : viewOf (rowPost s m) = viewOf s := by
  unfold rowPost
  split
  · split
    · rw [viewOf_rowWire]; rfl
    · rfl
  · rw [viewOf_rowWire]

theorem viewOf_logEv {s : State} {e : Ev} {a : EvArgs} : viewOf (logEv s e a) = viewOf s :=
  viewOf_of_row (logEv_changes.row (by decide))

theorem viewOf_fold {α : Type} {f : State → α → State} (hf : ∀ s x, viewOf (f s x) = viewOf s) (xs : List α) (s : State) :
    viewOf (xs.foldl f s) = viewOf s := by
  induction xs generalizing s with
  | nil => rfl
  | cons x xs ih => rw [List.foldl_cons, ih, hf]

theorem viewOf_rowPart {s : State} {p r : Nat} {b : RowBody} {i : Nat} : viewOf (rowPart p r b s i) = viewOf s := by
  unfold rowPart
  rw [viewOf_rowPost]; rfl

theorem viewOf_rowSend {s : State} {p : Nat} {b : RowBody} {r : Nat} : viewOf (rowSend s p b r) = viewOf s := by
  unfold rowSend
  exact viewOf_fold (fun s i => viewOf_rowPart) _ s

theorem viewOf_endSearch {s : State} {n : Nat} : viewOf (endSearch s n) = viewOf s := by
  unfold endSearch
  split
  · rfl
  · dsimp only
    rw [viewOf_of_row (endTicket_changes.row (by decide)), viewOf_of_row (updTicket_changes.row (by decide))]
    exact viewOf_fold (fun s m => viewOf_rowSend) _ s

theorem viewOf_endIfDone {s : State} {n : Nat} : viewOf (endIfDone s n) = viewOf s := by
  unfold endIfDone
  split
  · rfl
  · split
    · exact viewOf_endSearch
    · rfl

theorem viewOf_refreshMirror {old s : State} : viewOf (refreshMirror old s) = viewOf s := by
  unfold refreshMirror
  dsimp only
  split
  · rfl
  · split
    · rfl
    · rw [viewOf_logEv]
      unfold viewOf updRow
      dsimp only
      split <;> rfl

/-- A new view is the list it is given; the epoch and the state of the row stay. -/
theorem viewOf_setView {s : State} {ms : List Member} :
    viewOf (setView s ms) = (ms, s.row.epoch, s.row.seenEpoch, s.row.state) := by
  unfold setView
  dsimp only
  rw [viewOf_fold (fun s n => viewOf_endIfDone)]
  have e : ∀ u, viewOf (serveNext u) = viewOf u := fun _ => rfl
  rw [e, viewOf_refreshMirror]
  rfl

theorem viewOf_sendBeacon {s : State} : viewOf (sendBeacon s) = viewOf s := by
  unfold sendBeacon
  split
  · dsimp only; exact viewOf_sendIp
  · rfl

/-- The leader removes a member: it leaves the view, and the epoch rises by one (R707, R708). -/
theorem viewOf_removeMember {s : State} {x : Nat} {b : Bool} :
    viewOf (removeMember s x b) = (s.row.members.filter (fun m => decide (m.serial ≠ x)), s.row.epoch + 1,
      Nat.max s.row.seenEpoch (s.row.epoch + 1), s.row.state) := by
  unfold removeMember
  dsimp only
  rw [viewOf_sendBeacon, viewOf_logEv, viewOf_setView]
  have : Nat.max s.row.epoch (s.row.epoch + 1) = s.row.epoch + 1 := Nat.max_eq_right (Nat.le_succ _)
  simp only [setEpoch, updRow, this]

/-- The drive leads: state LEADER at the epoch given. -/
theorem viewOf_lead {s : State} {e : Nat} :
    viewOf (lead s e) = (s.row.members, Nat.max s.row.epoch e, Nat.max s.row.seenEpoch e, .leader) := by
  unfold lead
  dsimp only
  rw [viewOf_sendBeacon, viewOf_logEv]
  rfl

/-- A drive that leads alone (R712). -/
theorem viewOf_leadAlone {s : State} :
    viewOf (leadAlone s) = ([ownMember s], s.row.epoch + 1, Nat.max s.row.seenEpoch (s.row.epoch + 1), .leader) := by
  unfold leadAlone
  dsimp only
  rw [viewOf_lead]
  have h := viewOf_setView (s := setEpoch s (s.row.epoch + 1)) (ms := [ownMember (setEpoch s (s.row.epoch + 1))])
  unfold viewOf at h
  obtain ⟨h1, h2, h3, h4⟩ := by simpa only [Prod.mk.injEq] using h
  have a1 : Nat.max s.row.epoch (s.row.epoch + 1) = s.row.epoch + 1 := Nat.max_eq_right (Nat.le_succ _)
  have e2 : (setEpoch s (s.row.epoch + 1)).row.epoch = s.row.epoch + 1 := a1
  have e3 : (setEpoch s (s.row.epoch + 1)).row.seenEpoch = Nat.max s.row.seenEpoch (s.row.epoch + 1) := rfl
  have e4 : ownMember (setEpoch s (s.row.epoch + 1)) = ownMember s := rfl
  rw [h1, h2, h3, e2, e3, e4]
  have a2 : Nat.max (s.row.epoch + 1) (s.row.epoch + 1) = s.row.epoch + 1 := Nat.max_self _
  have a3 : Nat.max (Nat.max s.row.seenEpoch (s.row.epoch + 1)) (s.row.epoch + 1) =
      Nat.max s.row.seenEpoch (s.row.epoch + 1) := Nat.max_eq_left (Nat.le_max_right _ _)
  rw [a2, a3]

theorem listedMember_serial {s : State} {b : Beacon} {x : Nat} : (listedMember s b x).serial = x := by
  unfold listedMember
  split
  · rename_i m h
    exact of_decide_eq_true (List.find?_some (p := fun m : Member => decide (m.serial = x)) h)
  · split
    · rename_i h; rw [h]; rfl
    · rfl

theorem viewOf_sendDue {s : State} : viewOf (sendDue s) = viewOf s := by
  unfold sendDue
  split
  · split
    · rw [viewOf_rowSend]; rfl
    · rfl
  · rfl

/-- Adopting a leader's beacon: its list, its epoch if that is higher; the drive is a member when it is in the list, joins
when it is not, and leads when it stands first (R709, R711). -/
theorem viewOf_adopt {s : State} {b : Beacon} :
    (adopt s b).row.members = b.members.map (listedMember s b) ∧
    (adopt s b).row.epoch = Nat.max s.row.epoch b.epoch ∧
    (adopt s b).row.state = if b.members.head? = some Config.serial then .leader
      else if b.members.contains Config.serial then .member else .joining := by
  unfold adopt
  dsimp only
  generalize hX : (if b.members.contains Config.serial = true then sendDue _ else _ : State) = X
  have k : viewOf X = (b.members.map (listedMember s b), Nat.max s.row.epoch b.epoch, Nat.max s.row.seenEpoch b.epoch,
      if b.members.contains Config.serial then .member else .joining) := by
    rw [← hX]
    split
    · rw [viewOf_sendDue]
      split
      · rw [viewOf_logEv]
        have h := viewOf_setView (s := updRow (setEpoch s b.epoch) (fun d => { d with leaderAt := some (now s) }))
          (ms := b.members.map (listedMember s b))
        simp only [viewOf, Prod.mk.injEq] at h ⊢
        exact ⟨h.1, h.2.1, h.2.2.1, rfl⟩
      · have h := viewOf_setView (s := updRow (setEpoch s b.epoch) (fun d => { d with leaderAt := some (now s) }))
          (ms := b.members.map (listedMember s b))
        simp only [viewOf, Prod.mk.injEq] at h ⊢
        exact ⟨h.1, h.2.1, h.2.2.1, rfl⟩
    · rename_i n
      rw [if_neg (by simp only [n, Bool.false_and, Bool.false_eq_true, not_false_eq_true])]
      have h := viewOf_setView (s := updRow (setEpoch s b.epoch) (fun d => { d with leaderAt := some (now s) }))
        (ms := b.members.map (listedMember s b))
      simp only [viewOf, Prod.mk.injEq] at h ⊢
      exact ⟨h.1, h.2.1, h.2.2.1, rfl⟩
  have e : leaderOf X = b.members.head? := by
    have m : X.row.members = _ := congrArg Prod.fst k
    unfold leaderOf
    rw [m]
    cases b.members with
    | nil => rfl
    | cons x xs => simp only [List.map_cons, List.head?_cons, Option.map_some, listedMember_serial]
  simp only [viewOf, Prod.mk.injEq] at k
  obtain ⟨k1, k2, k3, k4⟩ := k
  rw [e]
  by_cases c : b.members.head? = some Config.serial
  · rw [if_pos c, if_pos c]
    have h := viewOf_lead (s := X) (e := X.row.epoch)
    simp only [viewOf, Prod.mk.injEq] at h
    refine ⟨h.1.trans k1, h.2.1.trans ?_, h.2.2.2⟩
    rw [k2]; exact Nat.max_self _
  · rw [if_neg c, if_neg c]
    exact ⟨k1, k2, k4⟩

theorem viewOf_handOver {s : State} : (handOver s).row.members = s.row.members ∧ (handOver s).row.epoch = s.row.epoch := by
  unfold handOver
  split <;> exact ⟨rfl, rfl⟩

/-- The leader admits a drive while there is room: it joins the view in order, and the epoch becomes the greater of the two
plus 1 (R706). -/
theorem viewOf_admitMember {s : State} {b : Beacon} (h : s.row.members.length < 32) :
    (admitMember s b).row.members = sortMembers (s.row.members ++ [{ serial := b.serial, position := b.position
                                                                     state := b.state, at_ := now s }]) ∧
    (admitMember s b).row.epoch = Nat.max s.row.epoch b.epoch + 1 := by
  unfold admitMember
  rw [if_pos h]
  dsimp only
  rw [viewOf_handOver.1, viewOf_handOver.2]
  have k : ∀ u, viewOf (sendBeacon u) = viewOf u := fun u => viewOf_sendBeacon
  simp only [viewOf, Prod.mk.injEq] at k
  rw [(k _).1, (k _).2.1]
  have l : ∀ u e a, viewOf (logEv u e a) = viewOf u := fun _ _ _ => viewOf_logEv
  simp only [viewOf, Prod.mk.injEq] at l
  rw [(l _ _ _).1, (l _ _ _).2.1]
  have v := fun u ms => viewOf_setView (s := u) (ms := ms)
  simp only [viewOf, Prod.mk.injEq] at v
  rw [(v _ _).1, (v _ _).2.1]
  refine ⟨rfl, ?_⟩
  show Nat.max s.row.epoch (Nat.max s.row.epoch b.epoch + 1) = _
  refine Nat.max_eq_right ?_
  have := Nat.le_max_left s.row.epoch b.epoch
  exact Nat.le_succ_of_le this

end Sys2Proof.Laws
end

