-- ==== Sys2Proof/Laws/Writes.lean ====
section
/-!
SUPPORT. What the commit of a write and of a removal does to the objects and the operations (ch. 10).
-/

namespace Sys2Proof.Laws

open Sys2Proof Machine

/-- The version a write gives its key: 1 with the next incarnation when the key is absent, else one more (R431, R432). -/
theorem nextVersion_spec {s : State} {k : ObjKey} {v : List Byte} {ts : List Word64} {e h : Nat} {b : Bool} :
    ∃ y u, nextVersion s k v ts e h b = (y, u) ∧ y.value = v ∧ y.tags = ts ∧ y.expiry = e ∧ y.held = false ∧
      (∀ x, objOf s k = some x → y.version = x.version + 1 ∧ y.incarnation = x.incarnation ∧ u = s) ∧
      (objOf s k = none → y.version = 1 ∧ y.incarnation = s.kv.nextInc ∧
        u = updKv s (fun d => { d with nextInc := d.nextInc + 1 })) := by
  unfold nextVersion
  cases h : objOf s k with
  | none => exact ⟨_, _, rfl, rfl, rfl, rfl, rfl, fun _ q => (by cases q), fun _ => ⟨rfl, rfl, rfl⟩⟩
  | some x => exact ⟨_, _, rfl, rfl, rfl, rfl, rfl, fun y q => by cases q; exact ⟨rfl, rfl, rfl⟩, fun q => (by cases q)⟩

/-- A stored version is the present object of its key. -/
theorem storeVersion_spec {s : State} {k : ObjKey} {o : Obj} {d : Nat} : ∃ u ls p, storeVersion s k o d = (s.kv.nextWseq, u) ∧
    u.kv.objs = AMap.set s.kv.objs k { o with lpns := ls, packed := p, wseq := s.kv.nextWseq } ∧
    u.kv.ops = s.kv.ops ∧ u.kv.locks = s.kv.locks ∧ u.clock = s.clock ∧ u.proto = s.proto ∧ u.cfg = s.cfg ∧ u.power = s.power ∧
    u.kv.nextWseq = s.kv.nextWseq + 1 := by
  have hc : Changes 8192 (updKv s fun d => { d with nextWseq := d.nextWseq + 1 })
      (placeRecord (bufferRecord (updKv s fun d => { d with nextWseq := d.nextWseq + 1 }) s.kv.nextWseq
        (recordImage k o s.kv.nextWseq)) k (objRecLen k o) o.bin o.binEnd s.kv.nextWseq).2 := by
    refine .seq placeRecord_changes ?_ (by decide)
    exact .seq bufferRecord_changes .refl (by decide)
  unfold storeVersion takeWseq
  dsimp only
  revert hc
  generalize placeRecord _ k (objRecLen k o) o.bin o.binEnd s.kv.nextWseq = r
  obtain ⟨⟨ls, p⟩, u⟩ := r
  intro hc
  have hk : u.kv = { s.kv with nextWseq := s.kv.nextWseq + 1 } := hc.kv (by decide)
  have h1 : u.clock = s.clock := hc.clock (by decide)
  have h2 : u.proto = s.proto := hc.proto (by decide)
  have h3 : u.cfg = s.cfg := hc.cfg (by decide)
  have h4 : u.power = s.power := hc.power (by decide)
  have key : ∀ t, Changes 8192 (updKv u fun d' => { d' with
      objs := AMap.set d'.objs k { o with lpns := ls, packed := p, wseq := s.kv.nextWseq }
      dirty := if d = 0 then d'.dirty else d'.dirty ++ [(s.kv.nextWseq, d)] }) t →
      t.kv.objs = AMap.set s.kv.objs k { o with lpns := ls, packed := p, wseq := s.kv.nextWseq } ∧
      t.kv.ops = s.kv.ops ∧ t.kv.locks = s.kv.locks ∧ t.clock = s.clock ∧ t.proto = s.proto ∧ t.cfg = s.cfg ∧ t.power = s.power ∧
      t.kv.nextWseq = s.kv.nextWseq + 1 := by
    intro t ht
    have tk : t.kv = { u.kv with
      objs := AMap.set u.kv.objs k { o with lpns := ls, packed := p, wseq := s.kv.nextWseq }
      dirty := if d = 0 then u.kv.dirty else u.kv.dirty ++ [(s.kv.nextWseq, d)] } := ht.kv (by decide)
    have t1 : t.clock = u.clock := ht.clock (by decide)
    have t2 : t.proto = u.proto := ht.proto (by decide)
    have t3 : t.cfg = u.cfg := ht.cfg (by decide)
    have t4 : t.power = u.power := ht.power (by decide)
    rw [tk, hk]
    exact ⟨rfl, rfl, rfl, t1.trans h1, t2.trans h2, t3.trans h3, t4.trans h4, rfl⟩
  dsimp only
  cases AMap.find s.kv.objs k with
  | none => exact ⟨_, ls, p, rfl, key _ stageLog_changes⟩
  | some x => exact ⟨_, ls, p, rfl, key _ (.seq unmap_changes stageLog_changes (by decide))⟩

/-- The commit of a value: it is the present version of its key, and no other key's object changes. -/
theorem commitPut_spec {s : State} {o : Op} {k : ObjKey} {v : List Byte} {ts : List Word64} {r d : Nat} :
    ∃ y w u ls p, commitPut s o k v ts r d = (y, s.kv.nextWseq, u) ∧ w = s.kv.nextWseq ∧
      u.kv.objs = AMap.set s.kv.objs k { y with lpns := ls, packed := p, wseq := w } ∧
      u.kv.ops = s.kv.ops ∧ u.kv.locks = s.kv.locks ∧ u.clock = s.clock ∧ u.proto = s.proto ∧ u.cfg = s.cfg ∧
      u.power = s.power ∧ u.kv.nextWseq = s.kv.nextWseq + 1 ∧
      y.value = v ∧ y.tags = ts ∧ y.expiry = now s + retentionOf o r ∧ y.held = false ∧
      (∀ x, objOf s k = some x → y.version = x.version + 1 ∧ y.incarnation = x.incarnation) ∧
      (objOf s k = none → y.version = 1 ∧ y.incarnation = s.kv.nextInc) := by
  unfold commitPut
  obtain ⟨y, a, ha, h1, h2, h3, h4, h5, h6⟩ := nextVersion_spec (s := s) (k := k) (v := v) (ts := ts)
    (e := now s + retentionOf o r) (h := o.snap.binHours) (b := o.frame.flags.testBit 1)
  have aw : a.kv.nextWseq = s.kv.nextWseq ∧ a.kv.objs = s.kv.objs ∧ a.kv.ops = s.kv.ops ∧ a.kv.locks = s.kv.locks ∧
      a.clock = s.clock ∧ a.proto = s.proto ∧ a.cfg = s.cfg ∧ a.power = s.power := by
    cases hx : objOf s k with
    | none => obtain ⟨-, -, rfl⟩ := h6 hx; exact ⟨rfl, rfl, rfl, rfl, rfl, rfl, rfl, rfl⟩
    | some x => obtain ⟨-, -, rfl⟩ := h5 x hx; exact ⟨rfl, rfl, rfl, rfl, rfl, rfl, rfl, rfl⟩
  obtain ⟨b, ls, p, hb, b1, b2, b3, b4, b5, b6, b8, b7⟩ := storeVersion_spec (s := a) (k := k) (o := y) (d := d)
  simp only [ha, hb]
  generalize hq : noteWrite _ _ k a.kv.nextWseq = t
  have ht : Changes 1692544 b t := by
    rw [← hq]
    refine .seq noteWrite_changes ?_ (by decide)
    refine .seq charge_changes ?_ (by decide)
    exact .seq dropEntries_changes .refl (by decide)
  have tk := ht.kv (by decide)
  refine ⟨y, s.kv.nextWseq, t, ls, p, by rw [aw.1], rfl, ?_, ?_, ?_, ?_, ?_, ?_, ?_, ?_, h1, h2, h3, h4,
    fun x hx => ⟨(h5 x hx).1, (h5 x hx).2.1⟩, fun hx => ⟨(h6 hx).1, (h6 hx).2.1⟩⟩
  · rw [tk, b1, aw.1, aw.2.1]
  · rw [tk, b2, aw.2.2.1]
  · rw [tk, b3, aw.2.2.2.1]
  · rw [ht.clock (by decide), b4, aw.2.2.2.2.1]
  · rw [ht.proto (by decide), b5, aw.2.2.2.2.2.1]
  · rw [ht.cfg (by decide), b6, aw.2.2.2.2.2.2.1]
  · rw [ht.power (by decide), b8, aw.2.2.2.2.2.2.2]
  · rw [tk, b7, aw.1]

/-- A removal: the key has no object, no other key's object changes. -/
theorem removeKey_spec {v s : State} {k : ObjKey} {o : Obj} {e : Bool} : ∃ u, removeKey v s k o e = (s.kv.nextWseq, u) ∧
    u.kv = { s.kv with objs := AMap.del s.kv.objs k, nextWseq := s.kv.nextWseq + 1 } ∧ u.clock = s.clock ∧
    u.proto = s.proto ∧ u.cfg = s.cfg ∧ u.power = s.power := by
  unfold removeKey takeWseq
  dsimp only
  generalize hq : noteRemove v _ k o e = t
  have ht : Changes 1700736 (updKv (updKv s fun d => { d with nextWseq := d.nextWseq + 1 })
      fun d => { d with objs := AMap.del d.objs k }) t := by
    rw [← hq]
    refine .seq noteRemove_changes ?_ (by decide)
    refine .seq dropEntries_changes ?_ (by decide)
    refine .seq unmap_changes ?_ (by decide)
    exact .seq stageLog_changes .refl (by decide)
  exact ⟨t, rfl, ht.kv (by decide), ht.clock (by decide), ht.proto (by decide), ht.cfg (by decide),
    ht.power (by decide)⟩

/-- Noting a write changes the operation that made it and its session's list only. -/
theorem noteOp_spec {s : State} {id w : Nat} {o : Op} (h : getOp s id = some o) :
    (noteOp s id w).kv.objs = s.kv.objs ∧ (noteOp s id w).kv.locks = s.kv.locks ∧
    getOp (noteOp s id w) id = some { o with ws := o.ws ++ [w], committed := true } ∧
    (noteOp s id w).clock = s.clock ∧ (noteOp s id w).power = s.power ∧
    (noteOp s id w).kv = { s.kv with ops := AMap.modify s.kv.ops id (fun o => { o with ws := o.ws ++ [w], committed := true }) } := by
  unfold noteOp
  rw [h]
  exact ⟨rfl, rfl, find_modify_same h, rfl, rfl, rfl⟩

/-- Acknowledging a committed write changes no object: the answer is given, or waits for the data to be on flash (R122,
R479). -/
theorem ackWrite_spec {s : State} {id : Nat} {r : Resp} {o : Op} (h : getOp s id = some o) :
    (ackWrite s id r).kv.objs = s.kv.objs ∧ (ackWrite s id r).clock = s.clock ∧
    ∃ x, getOp (ackWrite s id r) id = some x ∧ x.resp = some r ∧ x.committed = true ∧
      x.phase = (if direct s o then .waitPersist else .working) := by
  unfold ackWrite
  rw [h]
  dsimp only
  by_cases d : (o.frame.flags.testBit 0 || writeThroughFor s o.snap.policy) = true
  · have dd : direct s o = true := d
    rw [if_pos d, if_pos dd]
    generalize hq : o.ws.foldl issuePacksOf s = t
    have ht : Changes 8192 s t := by
      rw [← hq]; exact .foldl (fun _ _ h => .seq issuePacksOf_changes h (by decide)) .refl
    have tk := ht.kv (by decide)
    have hg : getOp t id = some o := by unfold getOp; rw [tk]; exact h
    refine ⟨?_, ht.clock (by decide), _, find_modify_same hg, rfl, rfl, rfl⟩
    show t.kv.objs = _
    rw [tk]
  · have dd : ¬ direct s o = true := d
    rw [if_neg d, if_neg dd]
    have h1 : getOp (updOp s id (fun o => { o with committed := true })) id = some { o with committed := true } := find_modify_same h
    exact ⟨rfl, rfl, _, find_modify_same h1, rfl, rfl, rfl⟩

theorem getOp_freeLocks {s : State} {i j : Nat} : getOp (freeLocks s i) j = getOp s j := rfl

theorem getOp_updOp_same {s : State} {i : Nat} {f : Op → Op} {o : Op} (h : getOp s i = some o) :
    getOp (updOp s i f) i = some (f o) := find_modify_same h

end Sys2Proof.Laws
end

