-- ==== Sys2Proof/Laws/Facts.lean ====
section
/-!
SUPPORT. Facts about single operations of the drive, chapter by chapter: what an operation leaves in the part it acts on, and
what it does on the inputs a rule names.
-/

namespace Sys2Proof.Laws

open Sys2Proof Machine

/-! ### The service bay -/

theorem logEv_bay {s : State} {ev : Ev} {a : EvArgs} : (logEv s ev a).bay = s.bay := logEv_changes.bay (by decide)

theorem closeWindow_bay (s : State) (w : CloseWhy) : (closeWindow s w).bay.window = none ∧
    (closeWindow s w).bay.button = s.bay.button ∧ (closeWindow s w).bay.faultSeen = s.bay.faultSeen ∧
    (closeWindow s w).bay.lid = s.bay.lid ∧ (closeWindow s w).bay.lidA = s.bay.lidA ∧
    (closeWindow s w).bay.lidB = s.bay.lidB ∧ (closeWindow s w).bay.tamper = s.bay.tamper := by
  unfold closeWindow
  split
  · rename_i h; exact ⟨h, rfl, rfl, rfl, rfl, rfl, rfl⟩
  · rw [logEv_bay]; exact ⟨rfl, rfl, rfl, rfl, rfl, rfl, rfl⟩

theorem presenceFault_bay0 (s : State) (w : FaultWhy) (b : Bool) : (presenceFault s w b).bay.window = none ∧
    (presenceFault s w b).bay.button = s.bay.button ∧ (presenceFault s w b).bay.faultSeen = true ∧
    (presenceFault s w b).bay.lid = s.bay.lid ∧ (presenceFault s w b).bay.lidA = s.bay.lidA ∧
    (presenceFault s w b).bay.lidB = s.bay.lidB ∧ (presenceFault s w b).bay.tamper = s.bay.tamper := by
  have h := closeWindow_bay (logEv (updBay s (fun b => { b with faultSeen := true })) .presenceFault
    { reason := faultCode w, atStart := b }) .fault
  rw [logEv_bay] at h
  exact h

theorem presenceFault_bay {s : State} {w : FaultWhy} {b : Bool} :
    (presenceFault s w b).bay.button = s.bay.button ∧ (presenceFault s w b).bay.faultSeen = true ∧
    (presenceFault s w b).bay.window = none :=
  have h := presenceFault_bay0 s w b
  ⟨h.2.1, h.2.2.1, h.1⟩

theorem advanceTo_bay {s : State} {t : Nat} : (advanceTo s t).bay = s.bay := by unfold advanceTo; split <;> rfl

theorem presenceFault_bay2 {s : State} {w : FaultWhy} {b : Bool} :
    (presenceFault s w b).bay.lid = s.bay.lid ∧ (presenceFault s w b).bay.lidA = s.bay.lidA ∧
    (presenceFault s w b).bay.lidB = s.bay.lidB ∧ (presenceFault s w b).bay.tamper = s.bay.tamper :=
  have h := presenceFault_bay0 s w b
  ⟨h.2.2.2.1, h.2.2.2.2.1, h.2.2.2.2.2.1, h.2.2.2.2.2.2⟩

/-! ### Power -/

theorem logEv_power {s : State} {ev : Ev} {a : EvArgs} : (logEv s ev a).power = s.power := logEv_changes.power (by decide)

theorem logEv_media {s : State} {ev : Ev} {a : EvArgs} : (logEv s ev a).media = s.media := logEv_changes.media (by decide)

/-! ### Islands -/

theorem logEv_isl {s : State} {ev : Ev} {a : EvArgs} : (logEv s ev a).isl = s.isl := logEv_changes.isl (by decide)

theorem advanceTo_isl {s : State} {t : Nat} : (advanceTo s t).isl = s.isl := by unfold advanceTo; split <;> rfl

theorem islUp_of_up {s : State} {i : Island} (h : (getIsl s i).state = .run ∨ (getIsl s i).state = .gated) : islUp s i = true := by
  unfold islUp islState; rcases h with h | h <;> rw [h]

theorem not_islUp_of {s : State} {i : Island} (h : (getIsl s i).state = .off ∨ (getIsl s i).state = .dead ∨ (getIsl s i).state = .isolated) : islUp s i = false := by
  unfold islUp islState; rcases h with h | h | h <;> rw [h]

/-! ### The start -/

theorem advanceTo_boot {s : State} {t : Nat} : (advanceTo s t).boot = s.boot := by unfold advanceTo; split <;> rfl

theorem advanceTo_power {s : State} {t : Nat} : (advanceTo s t).power = s.power := by unfold advanceTo; split <;> rfl

theorem stepOpen_of {s : State} {n : Nat} (h : s.phase = .starting) (k : s.boot.fg = n ∨ s.boot.scan = some n) (e : n ≠ 0) :
    stepOpen s n = true := by
  simp [stepOpen, starting, h, e, k]

theorem openConsoles_phase (s : State) : (openConsoles s).phase = s.phase := openConsoles_changes.phase (by decide)

theorem standSafe_phase (s : State) : (standSafe s).phase = .safe := by unfold standSafe; rw [openConsoles_phase]; rfl

theorem gateAlt_boot (s : State) : (gateAlt s).phase = s.phase ∧ (gateAlt s).boot.step = s.boot.step ∧ (gateAlt s).boot.fg = s.boot.fg := by
  have h : ∀ (u : State) e a, (logEv u e a).boot = u.boot := fun _ _ _ => logEv_changes.boot (by decide)
  have h2 : ∀ (u : State) e a, (logEv u e a).phase = u.phase := fun _ _ _ => logEv_changes.phase (by decide)
  unfold gateAlt
  dsimp only
  split
  · rw [h, h2]; split <;> exact ⟨rfl, rfl, rfl⟩
  · exact ⟨rfl, rfl, rfl⟩

theorem restartNow_phase (s : State) : (restartNow s).phase = .restarting := rfl

theorem enterSafe_phase (s : State) (c : SafeCause) : (enterSafe s c).phase = .safe := standSafe_phase _

theorem failEnd_phase (b : Bool) (o : Option SafeCause) (u : State) :
    (match b, o with | true, some c => enterSafe u c | _, _ => restartNow u).phase = if b = true ∧ o.isSome = true then .safe else .restarting := by
  cases b <;> cases o <;> simp [restartNow_phase, enterSafe_phase]

theorem failStep_phase (s : State) (n : Nat) (r : StepResult) (x : Nat) :
    (failStep s n r x).phase = if 2 ≤ stepFails s n ∧ (n = 3 ∨ n = 4) then .safe else .restarting := by
  unfold failStep
  refine (failEnd_phase _ _ _).trans ?_
  have : (safeOf n).isSome = true ↔ n = 3 ∨ n = 4 := by
    unfold safeOf; split <;> simp_all
  simp only [decide_eq_true_eq, this]

/-! ### Halts and flushes -/

theorem beginFlush_phase (s : State) (c : FlushCause) : (beginFlush s c).phase = .failFlush c := rfl

theorem dropFeeds_feeds (s : State) : (getFeed (dropFeeds s) .p0).powered = false ∧ (getFeed (dropFeeds s) .p1).powered = false := ⟨rfl, rfl⟩

theorem lastLldp_row (s : State) (p : PortId) : (lastLldp s p).row = s.row := lastLldp_changes.row (by decide)

theorem afterHaltFlush_other (s : State) (r : HaltReason) (ok : Bool) (h : s.life.intent = none)
    (a : (getFeed s .p0).powered = false) (b : (getFeed s .p1).powered = false) :
    afterHaltFlush s r ok = finishHalt (updBoot s (fun b => { b with orderly := true })) r := by
  have h' : (updBoot s (fun b => { b with orderly := true })).life.intent = none := h
  have a' : (getFeed (updBoot s (fun b => { b with orderly := true })) .p0).powered = false := a
  have b' : (getFeed (updBoot s (fun b => { b with orderly := true })) .p1).powered = false := b
  unfold afterHaltFlush
  simp only [h', a', b', Bool.or_self]

theorem heard_phase_life (s : State) (l : Line) : (heard s l).phase = s.phase ∧ (heard s l).life = s.life := ⟨rfl, rfl⟩

theorem advanceBy_boot {s : State} {n : Nat} : (advanceBy s n).boot = s.boot := by unfold advanceBy advanceTo; split <;> rfl

theorem advanceBy_power {s : State} {n : Nat} : (advanceBy s n).power = s.power := by unfold advanceBy advanceTo; split <;> rfl

theorem fc_tail (s : State) (c : FlushCause) :
    (if c = .powerFail then addHealth s .powerFails 1 else s).power = s.power ∧
    (if c = .powerFail then addHealth s .powerFails 1 else s).boot = s.boot := by split <;> exact ⟨rfl, rfl⟩

theorem wf_rec (s : State) (c : FlushCause) (n : Nat) : ∃ r, (writeFlushRec s c n).boot.flushRec = some r ∧ r.cause = c ∧
    r.duration = n ∧ r.startNo = s.boot.gateStartNo := ⟨_, rfl, rfl, rfl, rfl⟩

theorem rw_b (s : State) (b : Bool) : (if b = true then writeRtc (checkpoint s .flush) else s).power = s.power ∧
    (if b = true then writeRtc (checkpoint s .flush) else s).boot = s.boot := by split <;> exact ⟨rfl, rfl⟩

/-! ### Consoles -/

theorem getSess_heard {s : State} {l : Line} {d : Session} (h : getSess s l.sess = some d) :
    getSess (heard s l) l.sess = some { d with lastRx := s.clock.ledger, lineReady := none } := by
  exact getSess_updSess_same h

theorem endMgmt_none (s : State) (k : Fin 8) (r : Nat) : getSess (endMgmt s k r) (.mgmt k) = none := by
  unfold endMgmt
  cases h : getSess s (.mgmt k) with
  | none => exact h
  | some d =>
    have := getSess_logEv (updStalls (updCon s (fun c => { c with sessions := AMap.del c.sessions (.mgmt k) }))
      (fun c => { c with compose := AMap.del c.compose (.mgmt k) })) .mgmtSessionClosed
      { reason := r, details := [match d.warden with | some w => (w.val : Int) | none => 0, (k.val : Int)] } (.mgmt k)
    have e : getSess (updStalls (updCon s (fun c => { c with sessions := AMap.del c.sessions (.mgmt k) }))
      (fun c => { c with compose := AMap.del c.compose (.mgmt k) })) (.mgmt k) = none := AMap.find_del_same _ _
    rw [e] at this
    exact Option.isSome_eq_false_iff.mp this |> Option.isNone_iff_eq_none.mp

theorem closeMgmt_none (s : State) (k : Fin 8) (r : Nat) : getSess (closeMgmt s k r) (.mgmt k) = none := by
  unfold closeMgmt
  cases h : getSess s (.mgmt k) with
  | none => exact h
  | some d => exact (getSess_of_con (waitSeg_changes.con (by decide)) _).trans (endMgmt_none s k r)

theorem wardenArg_val (w : Fin 4) : (Fin.ofNat 4 ((w.val : Int)).toNat) = w ∧ rangeErr (w.val : Int) 0 3 = none := by
  revert w; decide

/-! ### Attributes -/

theorem setAttr_ran {s : State} {l : Line} {a : Attr} {asg : Assign} {ws : List (FieldDesc × Int)} {d : Session}
    (h : assignments a asg = .ok ws) (k : Accepts s l (setInfo s l a) (filterErr a (applyFields (attrWord s a) ws)) d) :
    setAttr s l a asg = ran l (setBody (heard s l) l.sess a ws) := by
  unfold setAttr
  simp only [h]
  exact runCmd_ran k

/-! ### Ports -/

theorem port_ne_other (p : PortId) : p ≠ p.other := by cases p <;> decide

theorem noteBlink_ports (s : State) : (noteBlink s).ports = s.ports := noteBlink_changes.ports (by decide)

theorem noteBlink_clock (s : State) : (noteBlink s).clock = s.clock := noteBlink_changes.clock (by decide)

theorem getPort_updPort (s : State) (p : PortId) (f : Port → Port) : getPort (updPort s p f) p = f (getPort s p) := by
  cases p <;> rfl

theorem fold_le {s : State} {p : PortId} {c : Ctr} {n : Nat} (h : n ≤ (hwCtr s p c).count) :
    (hwCtr (fold s p c n) p c).count = (hwCtr s p c).count - n ∧
    AMap.getD (getPort (fold s p c n) p).acc c 0 = AMap.getD (getPort s p).acc c 0 + n ∧
    (hwCtr (fold s p c n) p c).sat = (hwCtr s p c).sat ∧ (∀ c', c' ≠ c → hwCtr (fold s p c n) p c' = hwCtr s p c') ∧
    c ∉ (getPort (fold s p c n) p).half := by
  have k : ¬ (hwCtr s p c).count < n := by omega
  have e : fold s p c n = updPort s p (fun d => { d with
      hw := AMap.set d.hw c { hwCtr s p c with count := (hwCtr s p c).count - n }
      acc := AMap.set d.acc c (AMap.getD d.acc c 0 + n)
      half := d.half.filter (fun x => decide (x ≠ c)) }) := by
    unfold fold; exact if_neg k
  rw [e]
  generalize hh : hwCtr s p c = h0
  simp only [hwCtr, getPort_updPort]
  refine ⟨by simp [AMap.getD], by simp, by simp [AMap.getD], fun c' hc => ?_, by simp⟩
  exact AMap.getD_set_other _ _ _ hc

/-! ### Connections -/

theorem advanceTo_proto {s : State} {t : Nat} : (advanceTo s t).proto = s.proto := by unfold advanceTo; split <;> rfl

theorem getConn_addConn (s : State) (c : Conn) : getConn (addConn s c) s.proto.nextConn = some c := by
  simp [getConn, addConn, updProto, AMap.find_set_same]

theorem all_zero {l : List Byte} (h : l.all (fun b => b == 0) = true) : l.any (fun b => b ≠ 0) = false := by
  induction l with
  | nil => rfl
  | cons a l ih => simp only [List.all_cons, Bool.and_eq_true, beq_iff_eq] at h; simp [h.1]; simpa using ih h.2

/-! ### Requests -/

theorem served_row {s : State} {i : Nat} {f : Frame} {c : Conn} {code : OpCode} {ch : Chan} (h : PassesAll s i f c code ch)
    (k : code ≠ .heartbeat) : frameRow s 1 (codeOfOp code) i f =
      settle (schedRun (admitRequest (received s i) i f.channel c (c.stall.getD 0) code f)) := by
  rw [frameRow_served (by rw [rowOfFrame_request h.kind h.code, opcode_of h.code]), serveFrame_passesAll h k]

theorem seeNow_same (s : State) (id : Nat) (o : Op) (c : Conn) : (seeNow s id o c).frame = o.frame ∧
    (seeNow s id o c).code = o.code ∧ (seeNow s id o c).phase = o.phase := by
  unfold seeNow
  split
  · split <;> exact ⟨rfl, rfl, rfl⟩
  · split <;> exact ⟨rfl, rfl, rfl⟩
  · split <;> exact ⟨rfl, rfl, rfl⟩
  · exact ⟨rfl, rfl, rfl⟩
  · exact ⟨rfl, rfl, rfl⟩

theorem find_append_fresh {α : Type} {m : AMap Nat α} {k : Nat} {v : α} (h : AMap.find m k = none) :
    AMap.find (m ++ [(k, v)]) k = some v := by
  induction m with
  | nil => simp [AMap.find]
  | cons a m ih =>
    obtain ⟨x, y⟩ := a
    simp only [AMap.find, List.cons_append] at h ⊢
    split
    · rename_i e; simp [e] at h
    · rename_i e; simp only [e, if_false] at h; exact ih h

/-! ### Writes -/

theorem runOp_of {s : State} {id : Nat} {o : Op} (h : getOp s id = some o)
    (k : o.arcDone = true ∨ (o.lockAt = none ∧ staticErr s o (connOf s o).gen (connOf s o).maxData = none)) :
    (if o.arcDone = true ∨ o.lockAt.isSome = true then none else staticErr s o (connOf s o).gen (connOf s o).maxData) = none := by
  rcases k with k | ⟨k, l⟩
  · simp [k]
  · rw [l]; simp

theorem put_commit {s u : State} {id : Nat} {o o' : Op} (hg : getOp u id = some o') (hf : o'.frame = o.frame) (hsn : o'.snap = o.snap)
    (hkv : ∀ k, AMap.find u.kv.objs k = AMap.find s.kv.objs k) (hobj : objOf u (opKey o) = objOf s (opKey o)) (hnow : now u = now s)
    (hpow : u.power = s.power) (hw : u.kv.nextWseq = s.kv.nextWseq) (hi : u.kv.nextInc = s.kv.nextInc) :
    ∃ t y x, (let (v, w, s) := commitPut u o (opKey o) o.frame.data o.frame.tags o.frame.arg (dirtyOf u o o.frame.dataLen)
        committedOp (noteOp s id w) id { version := v.version, incarnation := v.incarnation }) = t ∧ AMap.find t.kv.objs (opKey o) = some y ∧ y.value = o.frame.data ∧ y.tags = o.frame.tags ∧
      y.expiry = now s + retentionOf o o.frame.arg ∧ y.held = false ∧ y.wseq = s.kv.nextWseq ∧
      (∀ z, objOf s (opKey o) = some z → y.version = z.version + 1 ∧ y.incarnation = z.incarnation) ∧
      (objOf s (opKey o) = none → y.version = 1 ∧ y.incarnation = s.kv.nextInc) ∧
      (∀ j, j ≠ opKey o → AMap.find t.kv.objs j = AMap.find s.kv.objs j) ∧
      getOp t id = some x ∧ x.resp.map (fun r => (r.status, r.version, r.incarnation)) = some (.ok, y.version, y.incarnation) ∧
      (o.frame.flags.testBit 0 = true ∨ s.power.weak = true ∨ s.power.cellWt = true → x.phase = .waitPersist) ∧
      (x.phase = .waitPersist ∨ x.phase = .working) := by
  obtain ⟨y, w, a, ls, p, h0, hw', h1, h2, h3, h4, h5, -, hc5, h6, h7, h8, h9, h10, h11, h12⟩ :=
    commitPut_spec (s := u) (o := o) (k := opKey o) (v := o.frame.data) (ts := o.frame.tags) (r := o.frame.arg) (d := dirtyOf u o o.frame.dataLen)
  simp only [h0]
  have ga : getOp a id = some o' := by unfold getOp; rw [h2]; exact hg
  obtain ⟨n1, n2, n3, n4, n5, n6⟩ := noteOp_spec (w := u.kv.nextWseq) ga
  obtain ⟨k1, k2, x, k3, k4, k5, k6⟩ := ackWrite_spec (r := { version := y.version, incarnation := y.incarnation }) n3
  have pw : (noteOp a id u.kv.nextWseq).power = s.power := n5.trans (hc5.trans hpow)
  refine ⟨_, { y with lpns := ls, packed := p, wseq := w }, x, rfl, ?_, h7, h8, ?_, h10, ?_, ?_, ?_, ?_, k3, ?_, ?_, ?_⟩
  · show AMap.find (ackWrite _ _ _).kv.objs _ = _
    rw [k1, n1, h1, AMap.find_set_same]
  · rw [← hnow]; exact h9
  · rw [← hw, hw']
  · rw [← hobj]; exact h11
  · rw [← hobj, ← hi]; exact h12
  · intro j hj
    show AMap.find (ackWrite _ _ _).kv.objs _ = _
    rw [k1, n1, h1, AMap.find_set_other _ _ hj, hkv]
  · rw [k4]; rfl
  · intro hp
    rw [k6, if_pos]
    unfold direct writeThroughFor
    rw [pw, hf]
    rcases hp with hp | hp | hp <;> simp [hp]
  · rw [k6]; split <;> simp

theorem gates_done {s : State} {id : Nat} {o : Op} {d : Bool} {a b : Nat} {e : List (ObjKey × List Word64)} {f : State → State}
    (h : o.arcDone = true) : gates s id o d a b e f = f s := by simp [gates, h]

theorem gates_free {s : State} {id : Nat} {o : Op} {d : Bool} {a b : Nat} {k : ObjKey} {ts : List Word64} {f : State → State} (h0 : ts = [])
    (h1 : o.arcDone = false) (h2 : a = 0 ∨ direct s o = true ∨ capFits s o.snap.policy a = true) (h3 : s.upkeep.gc ≠ .matched) :
    gates s id o d a b [(k, ts)] f = f (if d && gcThrottles s then updOp s id (fun o => { o with throttled := true }) else s) := by
  subst h0
  have n : ¬ (0 < a ∧ ¬ direct s o = true ∧ ¬ capFits s o.snap.policy a = true) := by rintro ⟨x, y, z⟩; rcases h2 with h | h | h <;> [omega; exact y h; exact z h]
  unfold gates
  simp only [h1, Bool.false_eq_true, if_false, n]
  have g : ∀ u : State, u.upkeep = s.upkeep → takeCredit u b = some u := fun u hu => by simp [takeCredit, hu, h3]
  cases hd : (d && gcThrottles s)
  · simp only [Bool.false_eq_true, if_false, g s rfl, ite_self]
    have : (if d = true then some s else some s) = some s := by cases d <;> rfl
    simp [entriesReady, h1]
  · have : (updOp s id (fun o => { o with throttled := true })).upkeep = s.upkeep := rfl
    simp only [if_true, g _ this]
    simp [entriesReady, h1]

theorem ackWrite_tickets {s : State} {id : Nat} {r : Resp} {o : Op} (h : getOp s id = some o) :
    (ackWrite s id r).kv.tickets = s.kv.tickets ∧ (ackWrite s id r).kv.nextTicket = s.kv.nextTicket := by
  unfold ackWrite
  rw [h]
  dsimp only
  split
  · generalize hq : o.ws.foldl issuePacksOf s = t
    have ht : Changes 8192 s t := by
      rw [← hq]; exact .foldl (fun _ _ h => .seq issuePacksOf_changes h (by decide)) .refl
    have tk := ht.kv (by decide)
    show t.kv.tickets = _ ∧ t.kv.nextTicket = _
    exact ⟨congrArg Kv.tickets tk, congrArg Kv.nextTicket tk⟩
  · exact ⟨rfl, rfl⟩

theorem remove_commit {v s : State} {id : Nat} {o : Op} {k : ObjKey} {y : Obj} (h : getOp s id = some o) :
    ∃ t x, (let (w, s) := removeKey v s k y false
        committedOp (noteOp s id w) id { version := y.version, incarnation := y.incarnation }) = t ∧
      AMap.find t.kv.objs k = none ∧ (∀ j, j ≠ k → AMap.find t.kv.objs j = AMap.find s.kv.objs j) ∧
      getOp t id = some x ∧ x.resp.map (fun r => (r.status, r.version, r.incarnation)) = some (.ok, y.version, y.incarnation) ∧
      (x.phase = .waitPersist ∨ x.phase = .working) := by
  obtain ⟨u, h0, h1, h2, h3, h4, h5⟩ := removeKey_spec (v := v) (s := s) (k := k) (o := y) (e := false)
  simp only [h0]
  have gu : getOp u id = some o := by unfold getOp; rw [h1]; exact h
  obtain ⟨n1, n2, n3, n4, n5, n6⟩ := noteOp_spec (w := s.kv.nextWseq) gu
  obtain ⟨k1, k2, x, k3, k4, k5, k6⟩ := ackWrite_spec (r := { version := y.version, incarnation := y.incarnation }) n3
  refine ⟨_, x, rfl, ?_, ?_, k3, by rw [k4]; rfl, by rw [k6]; split <;> simp⟩
  · show AMap.find (ackWrite _ _ _).kv.objs _ = _
    rw [k1, n1, h1, AMap.find_del_same]
  · intro j hj
    show AMap.find (ackWrite _ _ _).kv.objs _ = _
    rw [k1, n1, h1, AMap.find_del_other _ hj]

theorem gates_none {s : State} {id : Nat} {o : Op} {f : State → State} (h1 : o.arcDone = false) :
    gates s id o false 0 0 [] f = f s := by
  unfold gates
  simp [h1, entriesReady]

theorem tag_commit {v s : State} {id : Nat} {o : Op} {k : ObjKey} {y : Obj} {ts : List Word64} {held : Bool} {n : Nat}
    (h : getOp s id = some o) : ∃ t x, (
        let z := { y with tags := ts, held := held }
        let (w', s) := takeWseq s
        let s := updKv s (fun d => { d with objs := AMap.set d.objs k z })
        let s := stageLog s (.indexSet k w')
        let s := dropEntries s k n
        let s := if held = y.held then s else logHold s k y held
        committedOp (noteOp (mirrorTag v s k y z w') id w') id
          { version := y.version, incarnation := y.incarnation, tags := ts }) = t ∧
      AMap.find t.kv.objs k = some { y with tags := ts, held := held } ∧
      (∀ j, j ≠ k → AMap.find t.kv.objs j = AMap.find s.kv.objs j) ∧ getOp t id = some x ∧
      x.resp.map (fun r => (r.status, r.version, r.incarnation, r.tags)) = some (.ok, y.version, y.incarnation, ts) := by
  simp only [takeWseq]
  generalize hq : mirrorTag v _ k y { y with tags := ts, held := held } s.kv.nextWseq = u
  have hu : Changes 1700736 (updKv (updKv s fun d => { d with nextWseq := d.nextWseq + 1 })
      fun d => { d with objs := AMap.set d.objs k { y with tags := ts, held := held } }) u := by
    rw [← hq]
    refine .seq mirrorTag_changes ?_ (by decide)
    split
    · exact .seq dropEntries_changes (.seq stageLog_changes .refl (by decide)) (by decide)
    · exact .seq logHold_changes (.seq dropEntries_changes (.seq stageLog_changes .refl (by decide)) (by decide)) (by decide)
  have h1 := hu.kv (by decide)
  have gu : getOp u id = some o := by unfold getOp; rw [h1]; exact h
  obtain ⟨n1, n2, n3, n4, n5, n6⟩ := noteOp_spec (w := s.kv.nextWseq) gu
  obtain ⟨k1, k2, x, k3, k4, k5, k6⟩ := ackWrite_spec (r := { version := y.version, incarnation := y.incarnation, tags := ts }) n3
  refine ⟨_, x, rfl, ?_, ?_, k3, by rw [k4]; rfl⟩
  · show AMap.find (ackWrite _ _ _).kv.objs _ = _
    rw [k1, n1, h1]
    exact AMap.find_set_same _ _ _
  · intro j hj
    show AMap.find (ackWrite _ _ _).kv.objs _ = _
    rw [k1, n1, h1]
    exact AMap.find_set_other _ _ hj

theorem removed_fold {id : Nat} {v : State} {e : Bool} {l : List (ObjKey × Obj)} : ∀ {s : State} {ks : List (ObjKey × Nat)} {o : Op},
    getOp s id = some o → ∃ u zs o', l.foldl (removeNamed id v e) (s, ks) = (u, zs) ∧ getOp u id = some o' ∧
      (∀ j, (∃ y, (j, y) ∈ l) → AMap.find u.kv.objs j = none) ∧
      (∀ j, (∀ y, (j, y) ∉ l) → AMap.find u.kv.objs j = AMap.find s.kv.objs j) ∧
      u.kv.nextTicket = s.kv.nextTicket ∧ u.kv.tickets = s.kv.tickets ∧ u.clock = s.clock ∧ o'.frame = o.frame := by
  induction l with
  | nil => intro s ks o h; exact ⟨s, ks, o, rfl, h, fun j ⟨y, hy⟩ => by simp at hy, fun _ _ => rfl, rfl, rfl, rfl, rfl⟩
  | cons a l ih =>
    intro s ks o h
    obtain ⟨u, h0, h1, h2, h3, h4, h5⟩ := removeKey_spec (v := v) (s := s) (k := a.1) (o := a.2) (e := e)
    obtain ⟨q, hv, hv2⟩ : ∃ q, (if e = true then scrubBuffers u a.1 else u) = q ∧ Changes 8192 u q := by
      refine ⟨_, rfl, ?_⟩
      split
      · exact scrubBuffers_changes
      · exact .refl
    have hk := (hv2.kv (by decide)).trans h1
    have gv : getOp q id = some o := by unfold getOp; rw [hk]; exact h
    obtain ⟨n1, n2, n3, n4, n5, n6⟩ := noteOp_spec (w := s.kv.nextWseq) gv
    have hstep : removeNamed id v e (s, ks) a = (noteOp q id s.kv.nextWseq, ks ++ [(a.1, s.kv.nextWseq)]) := by
      unfold removeNamed
      simp only [h0, hv]
    rw [List.foldl_cons, hstep]
    obtain ⟨w, zs, o', g0, g1, g2, g3, g4, g5, g6, g7⟩ := ih (ks := ks ++ [(a.1, s.kv.nextWseq)]) n3
    have objs : (noteOp q id s.kv.nextWseq).kv.objs = AMap.del s.kv.objs a.1 := by rw [n1, hk]
    refine ⟨w, zs, o', g0, g1, ?_, ?_, ?_, ?_, ?_, g7⟩
    · rintro j ⟨y, hy⟩
      by_cases hl : ∃ y, (j, y) ∈ l
      · exact g2 j hl
      · rw [g3 j (fun y q => hl ⟨y, q⟩), objs]
        rcases List.mem_cons.mp hy with hy | hy
        · have : j = a.1 := by rw [← hy]
          rw [this, AMap.find_del_same]
        · exact absurd ⟨y, hy⟩ hl
    · intro j hj
      rw [g3 j (fun y q => hj y (List.mem_cons_of_mem _ q)), objs]
      exact AMap.find_del_other _ (fun q => hj a.2 (by rw [q]; exact List.mem_cons_self))
    · rw [g4, n6, hk]
    · rw [g5, n6, hk]
    · rw [g6, n4, hv2.clock (by decide), h2]

theorem runOp_put {s : State} {id : Nat} {o : Op} (h : getOp s id = some o) (hc : o.code = .put ∨ o.code = .cas)
    (hs : (if o.arcDone = true ∨ o.lockAt.isSome = true then none else staticErr s o (connOf s o).gen (connOf s o).maxData) = none) :
    runOp s id = runPut s id o := by
  unfold runOp
  rw [h]
  dsimp only
  rw [hs]
  rcases hc with hc | hc <;> rw [hc]

theorem runOp_delete {s : State} {id : Nat} {o : Op} (h : getOp s id = some o)
    (hc : o.code = .delete ∨ (o.code = .discard ∧ o.frame.flags.testBit 8 = false))
    (hs : (if o.arcDone = true ∨ o.lockAt.isSome = true then none else staticErr s o (connOf s o).gen (connOf s o).maxData) = none) :
    runOp s id = runDelete s id o := by
  unfold runOp
  rw [h]
  dsimp only
  rw [hs]
  rcases hc with hc | ⟨hc, hf⟩
  · rw [hc]
  · rw [hc]; simp only [hf, Bool.false_eq_true, if_false]

theorem runOp_removal {s : State} {id : Nat} {o : Op} (h : getOp s id = some o)
    (hc : o.code = .shred ∨ (o.code = .discard ∧ o.frame.flags.testBit 8 = true))
    (hs : (if o.arcDone = true ∨ o.lockAt.isSome = true then none else staticErr s o (connOf s o).gen (connOf s o).maxData) = none) :
    runOp s id = runRemoval s id o (connOf s o).gen := by
  unfold runOp
  rw [h]
  dsimp only
  rw [hs]
  rcases hc with hc | ⟨hc, hf⟩
  · rw [hc]
  · rw [hc]; simp only [hf, if_true]

theorem runOp_tag {s : State} {id : Nat} {o : Op} (h : getOp s id = some o) (hc : o.code = .tag)
    (hs : (if o.arcDone = true ∨ o.lockAt.isSome = true then none else staticErr s o (connOf s o).gen (connOf s o).maxData) = none) :
    runOp s id = runTag s id o := by
  unfold runOp
  rw [h]
  dsimp only
  rw [hs, hc]

/-! ### Reads -/

theorem runOp_free {s : State} {id : Nat} {o : Op} (h : getOp s id = some o) (ha : o.arcDone = false) (hl : o.lockAt = none)
    (hs : staticErr s o (connOf s o).gen (connOf s o).maxData = none) : runOp s id = (match o.code with
      | .put | .cas => runPut s id o
      | .get => runGet s id o (connOf s o)
      | .head => runHead s id o (connOf s o)
      | .delete => runDelete s id o
      | .list | .stat => runSeen s id o (connOf s o)
      | .mputBegin => runBegin s id o
      | .mputPart => runPart s id o
      | .mputCommit => runCommit s id o
      | .mputAbort => runAbort s id o
      | .txn => runTxn s id o
      | .tag => runTag s id o
      | .find => runFind s id o (connOf s o).gen
      | .fetch => runFetch s id o (connOf s o)
      | .flush => runFlush s id o
      | .discard => if o.frame.flags.testBit 8 then runRemoval s id o (connOf s o).gen else runDelete s id o
      | .shred => runRemoval s id o (connOf s o).gen
      | .heartbeat => s
      | .mbxSend => runMbxSend s id o
      | .mbxRecv => runMbxRecv s id o) := by
  unfold runOp
  rw [h]
  dsimp only
  rw [hl, ha]
  simp only [Bool.false_eq_true, Option.isSome_none, or_self, if_false, hs] <;>
    (cases o.code <;> rfl)

theorem getOp_answerOp {s : State} {id : Nat} {o : Op} {r : Resp} (h : getOp s id = some o) :
    getOp (answerOp s id r) id = some { o with phase := .working, resp := some r } := getOp_updOp_same h

theorem getStall_updStall {s : State} {x : StallNo} {f : Stall → Stall} :
    getStall (updStall s x f) x = f (getStall s x) := getStall_updStall_same s x f

/-! ### Locks -/

theorem find_filter_ne {m : AMap Nat Nat} {k id i : Nat} (h : AMap.find (m.filter (fun l => decide (l.2 ≠ i))) k = some id) :
    id ≠ i := by
  induction m with
  | nil => simp at h
  | cons a m ih =>
    obtain ⟨x, y⟩ := a
    rw [List.filter_cons] at h
    split at h
    · rename_i q
      simp only [AMap.find] at h
      split at h
      · cases h; simpa using q
      · exact ih h
    · exact ih h

theorem takeLocks_ops {id : Nat} {l : List Nat} : ∀ {s : State}, (takeLocks s id l).kv.ops = s.kv.ops := by
  induction l with
  | nil => intro s; rfl
  | cons a l ih => intro s; unfold takeLocks; split; rfl; exact ih.trans rfl

theorem moveClock_le (b : Bool) (c : Clock) (t : Nat) : t ≤ (moveClock b c t).ledger := by
  unfold moveClock
  dsimp only
  split
  · exact Nat.le_max_right _ _
  · show t ≤ Nat.max _ _
    exact Nat.le_max_right _ _

/-! ### Stalls -/

theorem logEv_stalls {s : State} {e : Ev} {a : EvArgs} : (logEv s e a).stalls = s.stalls := logEv_changes.stalls (by decide)

theorem getStall_of {s u : State} (h : u.stalls = s.stalls) (x : StallNo) : getStall u x = getStall s x := by unfold getStall; rw [h]

/-! ### The media -/

theorem bandOf_put {s : State} {n : Nat} {f : Band → Band} (h : (f (bandOf s n)).state ≠ .free) :
    bandOf (updBand s n f) n = f (bandOf s n) := by
  have e : rawBand (updBand s n f) n = f (bandOf s n) := by
    unfold rawBand updBand updMedia
    dsimp only
    rw [AMap.find_set_same]
  conv_lhs => unfold bandOf
  rw [e]
  dsimp only
  rw [if_neg h]

/-! ### The Arcade -/

theorem sat_min (a b : Nat) : sat a b = Nat.min a b := by show (if a > b then b else a) = min a b; rw [Nat.min_def]; split <;> split <;> omega

/-! ### The row -/

theorem mirrorFits_noted {s : State} {h : RowHdr} : mirrorFits (noted s h) = mirrorFits s := rfl

theorem dataWriteErr_noted {s : State} {h : RowHdr} : dataWriteErr (noted s h) = dataWriteErr s := rfl

theorem reorder_not {s : State} (h : s.row.state ≠ .leader) : reorder s = s := by
  unfold reorder; dsimp only; rw [if_neg (fun c => h c.1)]

theorem advanceTo_row {s : State} {t : Nat} : (advanceTo s t).row = s.row := advanceTo_changes.row (by decide)

/-! ### Mirroring -/

theorem find_none_of {ws : List RowMsg} {p : Nat} (h : ∀ m ∈ ws, m.peer ≠ p) : ws.find? (fun m => decide (m.peer = p)) = none := by
  rw [List.find?_eq_none]; intro m hm; simpa using h m hm

theorem dropUnacked_quiet {s : State} {m : RowMsg} (h : ∀ x ∈ s.row.waiting, x.peer ≠ m.peer) :
    dropUnacked s m = { s with row := { s.row with unacked := s.row.unacked.filter (fun v => decide (v.msg ≠ m)) } } := by
  unfold dropUnacked postWaiting
  have e : (updRow s (fun d => { d with unacked := d.unacked.filter (fun u => decide (u.msg ≠ m)) })).row.waiting.find?
      (fun x => decide (x.peer = m.peer)) = none := find_none_of h
  rw [e]; dsimp only; split <;> rfl

/-! ### Installs -/

theorem burn_fold (f : List Nat) (xs : List Nat) (s : State) : (xs.foldl (fun s i =>
    if f.contains i then logEv s .fuseBurnFail { details := [(i : Int)] }
    else updFw s (fun d => { d with fuses := d.fuses ++ [i] })) s).fw.fuses = s.fw.fuses ++ xs.filter (fun i => ! f.contains i) := by
  induction xs generalizing s with
  | nil => simp
  | cons x xs ih =>
    rw [List.foldl_cons, ih]
    by_cases c : f.contains x = true
    · rw [if_pos c, logEv_fw, List.filter_cons_of_neg (by rw [c]; decide)]
    · rw [if_neg c, List.filter_cons_of_pos (by simp only [Bool.not_eq_true] at c; rw [c]; rfl)]
      simp [updFw]

/-! ### Numbers and bytes -/

theorem inst_some {n b : Nat} {k : Fin b} (h : inst n b = some k) : k.val = n := by
  unfold inst at h; split at h <;> cases h; rfl

theorem map_some {A B : Type} {o : Option A} {f : A → B} {b : B} (h : o.map f = some b) : ∃ a, o = some a ∧ f a = b := by
  cases o with
  | none => cases h
  | some a => exact ⟨a, rfl, by cases h; rfl⟩

theorem one_some {i : Nat} {a b : Attr} (h : (if i = 0 then some a else none) = some b) : i = 0 ∧ a = b := by
  split at h <;> cases h; exact ⟨‹_›, rfl⟩

theorem nth_proto {i : Nat} {c : ProtoCtr} (h : nth? protoCtrs i = some c) : indexIn c protoCtrs = i := by
  unfold nth? at h
  have hi : i < 10 := by
    obtain ⟨k, _⟩ := List.getElem?_eq_some_iff.mp h
    simpa [protoCtrs] using k
  interval_cases i <;> (cases h; rfl)

theorem nth_arc {i : Nat} {c : ArcCtr} (h : nth? arcCtrs i = some c) : indexIn c arcCtrs = i := by
  unfold nth? at h
  have hi : i < 7 := by
    obtain ⟨k, _⟩ := List.getElem?_eq_some_iff.mp h
    simpa [arcCtrs] using k
  interval_cases i <;> (cases h; rfl)

theorem nth_health {i : Nat} {c : HealthCtr} (h : nth? healthCtrs i = some c) : indexIn c healthCtrs = i := by
  unfold nth? at h
  have hi : i < 13 := by
    obtain ⟨k, _⟩ := List.getElem?_eq_some_iff.mp h
    simpa [healthCtrs] using k
  interval_cases i <;> (cases h; rfl)

theorem ctr_of {i : Nat} {c : Ctr} (h : ctrOfCode i = some c) : ctrCode c = i := by
  unfold ctrOfCode at h
  simpa using List.find?_some h

theorem net_back {p : PortId} {g m i : Nat} {a : Attr} (h : netAttr p g m i = some a) :
    attrNum a = netBase p + 0x10000 * g + 0x100 * m + i := by
  unfold netAttr at h
  split at h
  all_goals try (obtain ⟨e, rfl⟩ := one_some h; subst e; rfl)
  · obtain ⟨k, e, rfl⟩ := map_some h; have := inst_some e; simp only [attrNum]; omega
  · split at h
    · rename_i e; subst e; cases h; rfl
    · obtain ⟨k, e, rfl⟩ := map_some h; have := ctr_of e; simp only [attrNum]; omega
  · obtain ⟨k, e, rfl⟩ := map_some h; have := ctr_of e; simp only [attrNum]; omega
  · obtain ⟨k, e, rfl⟩ := map_some h; have := inst_some e; simp only [attrNum]; omega
  · obtain ⟨k, e, rfl⟩ := map_some h; have := inst_some e; simp only [attrNum]; omega
  · split at h
    · cases h
    · rename_i q
      cases hj : inst (m - 0x10) 8 with
      | none => rw [hj] at h; cases h
      | some j =>
        rw [hj] at h
        obtain ⟨k, e, rfl⟩ := map_some h
        have := inst_some e; have := inst_some hj
        simp only [attrNum]; omega
  · cases h

theorem core_back {g m i : Nat} {a : Attr} (h : coreAttr g m i = some a) : attrNum a = 0x02000000 + 0x10000 * g + 0x100 * m + i := by
  unfold coreAttr at h
  dsimp only at h
  split at h
  all_goals try (split at h)
  all_goals try (obtain ⟨e, rfl⟩ := one_some h; subst_vars; rfl)
  all_goals try (split at h)
  all_goals try (obtain ⟨e, rfl⟩ := one_some h; subst_vars; rfl)
  all_goals try (cases h; done)
  all_goals try (obtain ⟨k, e, rfl⟩ := map_some h; have := inst_some e; simp only [attrNum]; omega)
  all_goals try (obtain ⟨k, e, rfl⟩ := map_some h; have := nth_health e; simp only [attrNum]; omega)
  all_goals try (obtain ⟨j, hj, e⟩ := Option.bind_eq_some_iff.mp h; cases e; have := inst_some hj; simp only [attrNum]; omega)
  all_goals (obtain ⟨j, hj, e⟩ := Option.bind_eq_some_iff.mp h; cases e)

theorem isl_of {i : Nat} {k : Island} (h : Island.ofId i = some k) : k.id = i := by
  unfold Island.ofId at h
  split at h
  all_goals try (cases h; rfl)
  split at h
  · cases h; simp only [Island.id]; omega
  · cases h

theorem svc_back {g m i : Nat} {a : Attr} (h : svcAttr g m i = some a) : attrNum a = 0x10000 * g + 0x100 * m + i := by
  unfold svcAttr at h
  dsimp only at h
  split at h
  all_goals try (split at h)
  all_goals try (obtain ⟨e, rfl⟩ := one_some h; subst_vars; rfl)
  all_goals try (cases h; done)
  · obtain ⟨k, e, rfl⟩ := map_some h
    subst_vars
    have : k.id = i := isl_of e
    simp only [attrNum]; omega

theorem small_back {x g m i : Nat} {a : Attr} (h : smallAttr x g m i = some a) : attrNum a = 0x1000000 * x + 0x10000 * g + 0x100 * m + i := by
  unfold smallAttr at h
  dsimp only at h
  split at h
  all_goals try (split at h)
  all_goals try (obtain ⟨e, rfl⟩ := one_some h; subst_vars; rfl)
  all_goals try (cases h; done)
  all_goals try (obtain ⟨k, e, rfl⟩ := map_some h; have := inst_some e; simp only [attrNum]; omega)
  all_goals try (obtain ⟨k, e, rfl⟩ := map_some h; have := nth_proto e; simp only [attrNum]; omega)
  all_goals try (obtain ⟨k, e, rfl⟩ := map_some h; have := nth_arc e; simp only [attrNum]; omega)

theorem leBytes_length (n v : Nat) : (leBytes n v).length = n := by
  induction n generalizing v with
  | zero => rfl
  | succ n ih => simp [leBytes, ih]

theorem leNat_leBytes (n v : Nat) (h : v < 256 ^ n) : leNat (leBytes n v) = v := by
  induction n generalizing v with
  | zero => simp at h; subst h; rfl
  | succ n ih =>
    simp only [leBytes, leNat]
    rw [ih (v / 256) (by rw [Nat.pow_succ] at h; omega)]
    simp only [BitVec.toNat_ofNat]
    omega

theorem slice_skip {k v i n : Nat} {b : List Byte} (hi : k ≤ i) : slice (leBytes k v ++ b) i n = slice b (i - k) n := by
  unfold slice
  rw [List.drop_append, leBytes_length, List.drop_of_length_le (by rw [leBytes_length]; exact hi), List.nil_append]

theorem slice_take {k v : Nat} {b : List Byte} : slice (leBytes k v ++ b) 0 k = leBytes k v := by
  unfold slice
  rw [List.drop_zero, List.take_left' (leBytes_length k v)]

theorem bit_lt {r : Nat} (h : r < 2 ^ 32) : crc32cBit r < 2 ^ 32 := by
  unfold crc32cBit
  split
  · exact Nat.xor_lt_two_pow (by omega) (by decide)
  · omega

theorem byte_lt {r : Nat} {b : Byte} (h : r < 2 ^ 32) : crc32cByte r b < 2 ^ 32 := by
  unfold crc32cByte
  have : r ^^^ b.toNat < 2 ^ 32 := Nat.xor_lt_two_pow h (Nat.lt_trans b.isLt (by decide))
  exact bit_lt (bit_lt (bit_lt (bit_lt (bit_lt (bit_lt (bit_lt (bit_lt this)))))))

theorem crc_lt (bs : List Byte) : crc32c bs < 2 ^ 32 := by
  unfold crc32c
  refine Nat.xor_lt_two_pow ?_ (by decide)
  have : ∀ (r : Nat), r < 2 ^ 32 → bs.foldl crc32cByte r < 2 ^ 32 := by
    induction bs with
    | nil => intro r h; exact h
    | cons b bs ih => intro r h; exact ih _ (byte_lt h)
  exact this _ (by decide)

theorem hdr60_length (h : Hdr) : (hdrBytes60 h).length = 60 := by
  simp only [hdrBytes60, List.length_append, leBytes_length]

/-! ### Console lines -/

/-- A line that passes with sound operands is refused for what its operands fail. -/
theorem lineRefusal_bad {t : List Byte} {e : ErrName} (h : lineRefusal t none = none) : lineRefusal t (some e) = some e := by
  unfold lineRefusal at h ⊢
  cases ht : t.isEmpty with
  | true => rfl
  | false =>
    simp only [ht, Bool.false_eq_true, if_false] at h ⊢
    cases hw : wordsErr t with
    | some x => rw [hw] at h; cases h
    | none =>
      rw [hw] at h
      dsimp only at h ⊢
      by_cases hv : valuesOk t = true
      · simp only [hv, if_true]; cases e <;> rfl
      · simp [hv] at h

theorem refusal_bad {s : State} {d : Session} {l : Line} {i : CmdInfo} {e : ErrName} (h : refusal s d l i none = none) :
    refusal s d l i (some e) = some (.err e) := by
  unfold refusal at h ⊢
  split at h
  · cases h
  · rename_i hs
    rw [if_neg hs]
    have : lineRefusal (lineText d l) none = none := by
      cases q : lineRefusal (lineText d l) none with
      | none => rfl
      | some x => rw [q] at h; cases h
    rw [lineRefusal_bad this]

theorem runCmd_bad {s : State} {l : Line} {i : CmdInfo} {e : ErrName} {d : Session} {body : State → Nat → Run}
    (h : Accepts s l i none d) : runCmd s l i (some e) body = answer (heard s l) l.sess l.tag (.err e) none := by
  unfold runCmd
  rw [h.sess]
  dsimp only
  rw [if_neg, if_neg (fun c => h.tag c.1 c.2), if_neg (Nat.not_le.mpr h.place)]
  · have := refusal_bad (e := e) h.passes
    unfold heard at this
    rw [this]; rfl
  · have o := h.open_
    have ln := h.line
    have pa := h.paused
    simp only [o, Bool.false_or, Bool.or_eq_true, Bool.and_eq_true, decide_eq_true_eq, Bool.not_eq_true', not_or, not_and, Bool.not_eq_true]
    refine ⟨ln, fun m => ?_⟩
    rcases pa with pa | pa
    · rw [m] at pa; cases pa
    · exact pa

/-! ### Commits -/

theorem storeWords_keeps {ws : List (Attr × Word64)} : ∀ {s : State} {a : Attr}, a ∉ ws.map (fun x => x.1) → cfgWord (storeWords s ws) a = cfgWord s a := by
  unfold storeWords
  induction ws with
  | nil => intros; rfl
  | cons x r ih =>
    intro s a h
    rw [List.map_cons, List.mem_cons, not_or] at h
    rw [List.foldl_cons, ih h.2]
    unfold cfgWord cfgStore
    simp only [AMap.getD]
    rw [AMap.find_set_other _ _ h.1]

theorem storeWords_holds {f : Attr → Word64} {as : List Attr} : ∀ {s : State} {a : Attr}, a ∈ as →
    cfgWord (storeWords s (as.map (fun a => (a, f a)))) a = f a := by
  induction as with
  | nil => intro s a h; cases h
  | cons x r ih =>
    intro s a h
    by_cases k : a ∈ r
    · exact ih (s := cfgStore s x (f x)) k
    · rcases List.mem_cons.mp h with rfl | h
      · have : cfgWord (storeWords (cfgStore s a (f a)) (r.map (fun a => (a, f a)))) a = cfgWord (cfgStore s a (f a)) a := by
          apply storeWords_keeps
          rw [List.map_map]; simpa using k
        refine this.trans ?_
        unfold cfgWord cfgStore
        simp only [AMap.getD, AMap.find_set_same, Option.getD_some]
      · exact absurd h k

theorem storeWords_rest {ws : List (Attr × Word64)} : ∀ {s : State}, (storeWords s ws).cfg.shadows = s.cfg.shadows ∧
    (storeWords s ws).cfg.sequence = s.cfg.sequence := by
  unfold storeWords
  induction ws with
  | nil => intro s; exact ⟨rfl, rfl⟩
  | cons x r ih => intro s; exact ih (s := cfgStore s x.1 x.2)

theorem cfgWord_of_cfg {s t : State} {a : Attr} (h : t.cfg = s.cfg) : cfgWord t a = cfgWord s a := by
  unfold cfgWord; rw [h]

theorem dropShadow_cfg {n : State} {g : Group} : (dropShadow n g).cfg = { n.cfg with shadows := AMap.del n.cfg.shadows g } := rfl

theorem activate_cfg {s : State} {g : Group} {ws : List (Attr × Word64)} :
    ∃ v, v.cfg = s.cfg ∧ (activate s g ws).cfg.store = (storeWords v ws).cfg.store ∧
      (activate s g ws).cfg.shadows = AMap.del s.cfg.shadows g ∧ (activate s g ws).cfg.sequence = s.cfg.sequence + 1 := by
  unfold activate
  dsimp only
  generalize hv : (if (decide (g = .row) && rowMoves s (storeWords s ws)) = true then (if rowLive s ∧ running s then leaveRow s else updRow s (fun d => { d with mark := 0 })) else s) = v
  have e : v.cfg = s.cfg := by
    rw [← hv]
    split
    · split
      · exact leaveRow_changes.cfg (by decide)
      · rfl
    · rfl
  refine ⟨v, e, ?_⟩
  rw [commitEffect_changes.cfg (by decide), dropShadow_cfg]
  have r := storeWords_rest (ws := ws) (s := v)
  split
  · rw [show ∀ z r, (stageLog z r).cfg = z.cfg from fun z r => stageLog_changes.cfg (by decide)]
    refine ⟨rfl, ?_, ?_⟩
    · show AMap.del (storeWords v ws).cfg.shadows g = _; rw [r.1, e]
    · show (storeWords v ws).cfg.sequence + 1 = _; rw [r.2, e]
  · refine ⟨rfl, ?_, ?_⟩
    · show AMap.del (storeWords v ws).cfg.shadows g = _; rw [r.1, e]
    · show (storeWords v ws).cfg.sequence + 1 = _; rw [r.2, e]

theorem pendingWord_of_cfg {s t : State} {w : List (Attr × String × Nat)} {a : Attr} (h : t.cfg = s.cfg) :
    pendingWord t w a = pendingWord s w a := by
  unfold pendingWord; rw [cfgWord_of_cfg h]

theorem commitGroup_some {s : State} {l : Line} {d : Session} {g : Group} {h : Shadow}
    (k : Accepts s l { role := commitRole s l.sess (some g) } none d) (q : shadowOf s g = some h) :
    exec (.commitGroup l (some g)) s = .next (if ! stepDone s (groupStep g) then answer (heard s l) l.sess l.tag .busy none
      else match tryCommit (heard s l) g l.sess h.written with
      | .ok t => answer t l.sess l.tag (okLine [("", .name (groupName g)), ("sequence", vn t.cfg.sequence)]) none
      | .error r => answer (heard s l) l.sess l.tag r none) := by
  have k' : shadowOf (heard s l) g = some h := q
  simp only [exec, execCommitGroup, groupErr, Option.isNone_some, Bool.false_eq_true, if_false]
  rw [runCmd_accepts k]
  have k2 : stepDone (heard s l) (groupStep g) = stepDone s (groupStep g) := rfl
  simp only [k', k2]
  cases stepDone s (groupStep g)
  · rfl
  · cases tryCommit (heard s l) g l.sess h.written <;> rfl

theorem tryCommit_error {s : State} {g : Group} {x : SessId} {w : List (Attr × String × Nat)} {r : Reply}
    (e : tryCommit s g x w = .error r) : r = .busy ∨ ∃ n, r = .err n := by
  unfold tryCommit at e
  split at e
  · cases e; exact .inr ⟨_, rfl⟩
  · split at e
    · cases e; exact .inl rfl
    · dsimp only at e
      split at e
      · cases e; exact .inr ⟨_, rfl⟩
      · split at e
        · cases e; exact .inl rfl
        · cases e

theorem tryCommit_ok {s t : State} {g : Group} {x : SessId} {w : List (Attr × String × Nat)}
    (e : tryCommit s g x w = .ok t) : ∃ u, u.cfg = s.cfg ∧ t = activate u g ((groupAttrs g).map (fun a => (a, pendingWord s w a))) := by
  unfold tryCommit at e
  split at e
  · cases e
  · rename_i v hv
    have c : v.cfg = s.cfg := Changes.cfg (m := 16) (reachGroup_changes _ hv) (by decide)
    split at e
    · cases e
    · dsimp only at e
      split at e
      · cases e
      · split at e
        · cases e
        · cases e
          refine ⟨v, c, ?_⟩
          simp only [pendingWord_of_cfg c]

/-! ### Row messages -/

/-- Posting a message leaves the membership as it is. -/
@[simp] theorem rowPost_members {s : State} {m : RowMsg} : (rowPost s m).row.members = s.row.members := by
  have h (u : State) : (rowWire u m).row = u.row := rowWire_changes.row (by decide)
  unfold rowPost
  split
  · split
    · rw [h]; rfl
    · rfl
  · rw [h]

/-- So does sending a payload, in however many messages. -/
@[simp] theorem rowSend_members {s : State} {peer r : Nat} {b : RowBody} : (rowSend s peer b r).row.members = s.row.members := by
  unfold rowSend
  induction List.range (msgParts b) generalizing s with
  | nil => rfl
  | cons i is ih => rw [List.foldl_cons, ih]; exact rowPost_members

end Sys2Proof.Laws
end

