-- ==== Sys2Proof/WellFormed.lean ====
section
/-!
DEFINITION. Which commands are well formed: the operands keep to the widths and ranges in which the spec states them.
The meanings are total and do not assume it.
-/

namespace Sys2Proof

/-- A byte string of `lo` to `hi` bytes. -/
def lenIn (b : List Byte) (lo hi : Nat) : Bool := decide (lo ≤ b.length) && decide (b.length ≤ hi)

/-- A frame's header fields fit their widths (ch. 09, Header fields), and its sections have the lengths the header
declares. -/
def Frame.wf (f : Frame) : Bool :=
  decide (f.gen < 256) && decide (f.kind < 256) && decide (f.opcode < 256) && decide (f.channel < 256)
    && decide (f.reqId < 2 ^ 64) && decide (f.keyLen < 256) && decide (f.tagCount < 8)
    && decide (f.dataLen < 2 ^ 32) && decide (f.generation < 2 ^ 32) && decide (f.status < 65536)
    && decide (f.flags < 65536) && decide (f.version < 2 ^ 64) && decide (f.incarnation < 2 ^ 64)
    && decide (f.arg < 2 ^ 64) && decide (f.detail < 2 ^ 32)
    && decide (f.key.length = f.keyLen) && decide (f.tags.length = f.tagCount) && decide (f.data.length = f.dataLen)

/-- A MAC-layer frame's outer tag carries a VID of 12 bits, and its bytes lie within its length. -/
def EthFrame.wf (f : EthFrame) : Bool := decide (f.vid < 4096) && decide (f.bytes.length ≤ f.len)

/-- A test outcome names a reason only where a part failed or was not run (ch. 18, Island record). -/
def TestOutcome.wf (r : TestOutcome) : Bool :=
  match r.result with
  | .pass => decide (r.part = .none_)
  | .aborted => decide (r.part = .none_)
  | .skipped => decide (r.part = .none_)
  | .fail => decide (r.part ≠ .none_) && decide (r.part ≠ .limits) && decide (r.part ≠ .budget)
  | .notRun => decide (r.part = .limits) || decide (r.part = .budget)

/-- A manifest's fields fit their widths (ch. 17, Manifest). -/
def Manifest.wf (m : Manifest) : Bool :=
  decide (m.variants < 256) && decide (m.comp < 256) && decide (m.pieces < 65536) && decide (m.svn < 256)
    && decide (m.order < 256) && decide (m.id < 2 ^ 64) && decide (m.version < 2 ^ 64)
    && decide (m.gateVersion < 2 ^ 64) && decide (m.length < 2 ^ 64) && decide (m.fromMin < 2 ^ 64)
    && decide (m.gateMin < 2 ^ 64) && decide (m.gateMax < 2 ^ 64) && decide (m.mainMin < 2 ^ 64)
    && decide (m.mainMax < 2 ^ 64) && decide (m.metaWrite < 2 ^ 32) && decide (m.metaReadMin < 2 ^ 32)

/-- A row message carries a MSG_ID other than 0 (ch. 16, Row message header). -/
def RowHdr.wf (h : RowHdr) : Bool := decide (h.msgId ≠ 0) && decide (h.msgId < 2 ^ 64) && decide (h.peer ≠ 0)

/-- A step with findings of its own is not given as a plain one. -/
def StepData.wf : StepData → Bool
  | .plain n => ! [2, 3, 4, 7, 8, 9, 10, 12, 13, 15, 16].contains n
  | _ => true

/-- A command's operands keep to their widths and ranges. -/
def Instr.wf : Instr → Bool
  | .portPowerOn _ n | .feedRestored _ n => decide (1 ≤ n) && decide (n ≤ 5)
  | .startStepComplete d => d.wf && decide (1 ≤ stepOf d) && decide (stepOf d ≤ 24)
  | .startStepFail n _ => decide (1 ≤ n) && decide (n ≤ 24)
  | .startStepTimeout n d => decide (1 ≤ n) && decide (n ≤ 24) && decide (stepOf d = n) && (decide (n ≠ 9) || d.wf)
  | .selftestIslandDone r | .selftestLimitLeft r => r.wf
  | .lldpAllocation _ a => decide (a < 65536)
  | .linkUp _ speed _ | .linkDownshift _ speed => decide (1 ≤ speed) && decide (speed ≤ 5)
  | .frameReceive _ f | .wake _ f => f.wf
  | .pauseFrame _ q => decide (q < 65536)
  | .mgmtConnect _ _ fp _ _ => decide (fp.length = 32)
  | .wardenEnrol _ _ fp _ => decide (fp.length = 32)
  | .hello _ f | .auth _ f | .channelOpen _ f | .channelClose _ f | .heartbeat _ f | .put _ f | .get _ f
  | .head _ f | .delete _ f | .list _ f | .cas _ f | .mputBegin _ f | .mputPart _ f | .mputCommit _ f
  | .mputAbort _ f | .txn _ f | .tag _ f | .find _ f | .fetch _ f | .flush _ f | .discard _ f | .shred _ f
  | .stat _ f | .mbxSend _ f | .mbxRecv _ f => f.wf
  | .objectExpiry k => lenIn k.key 1 255
  | .bucketRefill _ us => decide (1 ≤ us)
  | .rowKeySet _ k => decide (k.length = 32)
  | .stallKeyExport _ _ k => decide (k.length = 32)
  | .parcelPiece _ _ _ (.manifest m h) => m.wf && decide (h.length = 48)
  | .rowLeave h | .rowAck h _ | .findReq h _ | .findPage h _ | .findEnd h _ | .findCancel h | .mirrorPut h _
  | .mirrorUpdate h _ _ _ | .mirrorRemove h _ _ _ | .relayOffer h _ _ | .pieceReq h _ _ | .relayPiece h _ _ _
  | .relayStatus h _ _ _ | .relocateMessage h _ => h.wf
  | .gcLoadWindow p => decide (p ≤ 100)
  | .bandShow _ n => decide (-2147483648 ≤ n) && decide (n ≤ 2147483647)
  | _ => true

end Sys2Proof
end

