-- ==== Sys2Proof/Laws/PerInstr.lean ====
section
/-!
SUPPORT. What holds of every command as syntax, command by command: a privileged command is one a session sends, and a
well-formed frame has sections of the lengths its header declares (ch. 09).
-/

namespace Sys2Proof.Laws

open Sys2Proof

/-- The wire frame a command brings. -/
def frameOf : Instr → Option Frame
  | .hello _ f | .auth _ f | .channelOpen _ f | .channelClose _ f | .heartbeat _ f | .put _ f | .get _ f
  | .head _ f | .delete _ f | .list _ f | .cas _ f | .mputBegin _ f | .mputPart _ f | .mputCommit _ f
  | .mputAbort _ f | .txn _ f | .tag _ f | .find _ f | .fetch _ f | .flush _ f | .discard _ f | .shred _ f
  | .stat _ f | .mbxSend _ f | .mbxRecv _ f => some f
  | _ => none

/-- A well-formed frame's sections have their declared lengths. -/
theorem Frame_wf_lengths {f : Frame} (h : f.wf = true) :
    f.key.length = f.keyLen ∧ f.tags.length = f.tagCount ∧ f.data.length = f.dataLen := by
  simp only [Frame.wf, Bool.and_eq_true, decide_eq_true_eq] at h
  exact ⟨h.1.1.2, h.1.2, h.2⟩

/-- A privileged command is one that a session sends; a well-formed command's frame has the lengths it declares. -/
def Operands.Statement (i : Instr) : Prop :=
  (∀ l, privilegedLine i = some l → consoleLine i = some l) ∧
  (∀ f, frameOf i = some f → i.wf = true →
    f.key.length = f.keyLen ∧ f.tags.length = f.tagCount ∧ f.data.length = f.dataLen)

theorem Operands.detectionVoltage : ∀ a0 a1, Operands.Statement (.detectionVoltage a0 a1) :=
  fun _ _ => ⟨fun _ h => (nomatch h), fun _ h => (nomatch h)⟩
theorem Operands.portPowerOn : ∀ a0 a1, Operands.Statement (.portPowerOn a0 a1) :=
  fun _ _ => ⟨fun _ h => (nomatch h), fun _ h => (nomatch h)⟩
theorem Operands.startBegin : ∀ a0, Operands.Statement (.startBegin a0) :=
  fun _ => ⟨fun _ h => (nomatch h), fun _ h => (nomatch h)⟩
theorem Operands.startStepComplete : ∀ a0, Operands.Statement (.startStepComplete a0) :=
  fun _ => ⟨fun _ h => (nomatch h), fun _ h => (nomatch h)⟩
theorem Operands.startStepFail : ∀ a0 a1, Operands.Statement (.startStepFail a0 a1) :=
  fun _ _ => ⟨fun _ h => (nomatch h), fun _ h => (nomatch h)⟩
theorem Operands.startStepTimeout : ∀ a0 a1, Operands.Statement (.startStepTimeout a0 a1) :=
  fun _ _ => ⟨fun _ h => (nomatch h), fun _ h => (nomatch h)⟩
theorem Operands.s17Complete : ∀ a0 a1, Operands.Statement (.s17Complete a0 a1) :=
  fun _ _ => ⟨fun _ h => (nomatch h), fun _ h => (nomatch h)⟩
theorem Operands.orderlyHalt : ∀ a0, Operands.Statement (.orderlyHalt a0) :=
  fun _ => ⟨fun _ h => (nomatch h), fun _ h => (nomatch h)⟩
theorem Operands.haltFlushDone : ∀ a0, Operands.Statement (.haltFlushDone a0) :=
  fun _ => ⟨fun _ h => (nomatch h), fun _ h => (nomatch h)⟩
theorem Operands.selftestIslandDone : ∀ a0, Operands.Statement (.selftestIslandDone a0) :=
  fun _ => ⟨fun _ h => (nomatch h), fun _ h => (nomatch h)⟩
theorem Operands.selftestLimitLeft : ∀ a0, Operands.Statement (.selftestLimitLeft a0) :=
  fun _ => ⟨fun _ h => (nomatch h), fun _ h => (nomatch h)⟩
theorem Operands.halt : ∀ a0, Operands.Statement (.halt a0) :=
  fun _ => ⟨fun _ h => (nomatch h), fun _ h => (nomatch h)⟩
theorem Operands.reboot : ∀ a0, Operands.Statement (.reboot a0) :=
  fun _ => ⟨fun _ h => (nomatch h), fun _ h => (nomatch h)⟩
theorem Operands.flushComplete : ∀ a0, Operands.Statement (.flushComplete a0) :=
  fun _ => ⟨fun _ h => (nomatch h), fun _ h => (nomatch h)⟩
theorem Operands.feedLost : ∀ a0 a1 a2, Operands.Statement (.feedLost a0 a1 a2) :=
  fun _ _ _ => ⟨fun _ h => (nomatch h), fun _ h => (nomatch h)⟩
theorem Operands.feedRestored : ∀ a0 a1, Operands.Statement (.feedRestored a0 a1) :=
  fun _ _ => ⟨fun _ h => (nomatch h), fun _ h => (nomatch h)⟩
theorem Operands.plannedChangeover : ∀ a0, Operands.Statement (.plannedChangeover a0) :=
  fun _ => ⟨fun _ h => (nomatch h), fun _ h => (nomatch h)⟩
theorem Operands.lldpTransmit : ∀ a0, Operands.Statement (.lldpTransmit a0) :=
  fun _ => ⟨fun _ h => (nomatch h), fun _ h => (nomatch h)⟩
theorem Operands.lldpAllocation : ∀ a0 a1, Operands.Statement (.lldpAllocation a0 a1) :=
  fun _ _ => ⟨fun _ h => (nomatch h), fun _ h => (nomatch h)⟩
theorem Operands.holdupMeasure : ∀ a0, Operands.Statement (.holdupMeasure a0) :=
  fun _ => ⟨fun _ h => (nomatch h), fun _ h => (nomatch h)⟩
theorem Operands.holdupMeasureDone : ∀ a0 a1, Operands.Statement (.holdupMeasureDone a0 a1) :=
  fun _ _ => ⟨fun _ h => (nomatch h), fun _ h => (nomatch h)⟩
theorem Operands.holdupChargeTimeout : ∀ a0, Operands.Statement (.holdupChargeTimeout a0) :=
  fun _ => ⟨fun _ h => (nomatch h), fun _ h => (nomatch h)⟩
theorem Operands.cellFault : ∀ a0 a1, Operands.Statement (.cellFault a0 a1) :=
  fun _ _ => ⟨fun _ h => (nomatch h), fun _ h => (nomatch h)⟩
theorem Operands.coldGate : ∀ a0, Operands.Statement (.coldGate a0) :=
  fun _ => ⟨fun _ h => (nomatch h), fun _ h => (nomatch h)⟩
theorem Operands.coldOpen : ∀ a0, Operands.Statement (.coldOpen a0) :=
  fun _ => ⟨fun _ h => (nomatch h), fun _ h => (nomatch h)⟩
theorem Operands.heaterSwitch : ∀ a0, Operands.Statement (.heaterSwitch a0) :=
  fun _ => ⟨fun _ h => (nomatch h), fun _ h => (nomatch h)⟩
theorem Operands.thermalThrottle : ∀ a0, Operands.Statement (.thermalThrottle a0) :=
  fun _ => ⟨fun _ h => (nomatch h), fun _ h => (nomatch h)⟩
theorem Operands.powerShow : ∀ a0, Operands.Statement (.powerShow a0) :=
  fun _ => ⟨fun _ h => (nomatch h), fun _ h => (nomatch h)⟩
theorem Operands.islandFault : ∀ a0 a1 a2 a3, Operands.Statement (.islandFault a0 a1 a2 a3) :=
  fun _ _ _ _ => ⟨fun _ h => (nomatch h), fun _ h => (nomatch h)⟩
theorem Operands.watchdogExpiry : ∀ a0, Operands.Statement (.watchdogExpiry a0) :=
  fun _ => ⟨fun _ h => (nomatch h), fun _ h => (nomatch h)⟩
theorem Operands.islandGate : ∀ a0, Operands.Statement (.islandGate a0) :=
  fun _ => ⟨fun _ h => (nomatch h), fun _ h => (nomatch h)⟩
theorem Operands.islandWake : ∀ a0, Operands.Statement (.islandWake a0) :=
  fun _ => ⟨fun _ h => (nomatch h), fun _ h => (nomatch h)⟩
theorem Operands.dramCorrected : ∀ a0, Operands.Statement (.dramCorrected a0) :=
  fun _ => ⟨fun _ h => (nomatch h), fun _ h => (nomatch h)⟩
theorem Operands.dramUncorrectable : ∀ a0 a1, Operands.Statement (.dramUncorrectable a0 a1) :=
  fun _ _ => ⟨fun _ h => (nomatch h), fun _ h => (nomatch h)⟩
theorem Operands.islandShow : ∀ a0 a1, Operands.Statement (.islandShow a0 a1) :=
  fun _ _ => ⟨fun _ h => (nomatch h), fun _ h => (nomatch h)⟩
theorem Operands.attrGet : ∀ a0 a1 a2 a3, Operands.Statement (.attrGet a0 a1 a2 a3) :=
  fun _ _ _ _ => ⟨fun _ h => (nomatch h), fun _ h => (nomatch h)⟩
theorem Operands.attrSet : ∀ a0 a1 a2, Operands.Statement (.attrSet a0 a1 a2) :=
  fun _ _ _ => ⟨fun _ h => (nomatch h), fun _ h => (nomatch h)⟩
theorem Operands.commitGroup : ∀ a0 a1, Operands.Statement (.commitGroup a0 a1) :=
  fun _ _ => ⟨fun _ h => (nomatch h), fun _ h => (nomatch h)⟩
theorem Operands.discardGroup : ∀ a0 a1, Operands.Statement (.discardGroup a0 a1) :=
  fun _ _ => ⟨fun _ h => (nomatch h), fun _ h => (nomatch h)⟩
theorem Operands.bayCfgWrite : ∀ a0 a1, Operands.Statement (.bayCfgWrite a0 a1) :=
  fun _ _ => ⟨fun _ h => (nomatch h), fun _ h => (nomatch h)⟩
theorem Operands.tamperClear : ∀ a0 a1, Operands.Statement (.tamperClear a0 a1) :=
  fun _ _ => ⟨fun _ h => (nomatch h), fun _ h => (nomatch h)⟩
theorem Operands.policyPreferWrite : ∀ a0 a1, Operands.Statement (.policyPreferWrite a0 a1) :=
  fun _ _ => ⟨fun _ h => (nomatch h), fun _ h => (nomatch h)⟩
theorem Operands.netPhyCfgWrite : ∀ a0 a1 a2, Operands.Statement (.netPhyCfgWrite a0 a1 a2) :=
  fun _ _ _ => ⟨fun _ h => (nomatch h), fun _ h => (nomatch h)⟩
theorem Operands.maxFrameWrite : ∀ a0 a1 a2, Operands.Statement (.maxFrameWrite a0 a1 a2) :=
  fun _ _ _ => ⟨fun _ h => (nomatch h), fun _ h => (nomatch h)⟩
theorem Operands.kvCfgWrite : ∀ a0 a1, Operands.Statement (.kvCfgWrite a0 a1) :=
  fun _ _ => ⟨fun _ h => (nomatch h), fun _ h => (nomatch h)⟩
theorem Operands.routeCfgWrite : ∀ a0 a1, Operands.Statement (.routeCfgWrite a0 a1) :=
  fun _ _ => ⟨fun _ h => (nomatch h), fun _ h => (nomatch h)⟩
theorem Operands.meterKindWrite : ∀ a0 a1 a2, Operands.Statement (.meterKindWrite a0 a1 a2) :=
  fun _ _ _ => ⟨fun _ h => (nomatch h), fun _ h => (nomatch h)⟩
theorem Operands.usbSendBreak : ∀ a0, Operands.Statement (.usbSendBreak a0) :=
  fun _ => ⟨fun _ h => (nomatch h), fun _ h => (nomatch h)⟩
theorem Operands.jsvcChange : ∀ a0, Operands.Statement (.jsvcChange a0) :=
  fun _ => ⟨fun _ h => (nomatch h), fun _ h => (nomatch h)⟩
theorem Operands.buttonRelease : ∀ a0, Operands.Statement (.buttonRelease a0) :=
  fun _ => ⟨fun _ h => (nomatch h), fun _ h => (nomatch h)⟩
theorem Operands.buttonDiscrepancy : ∀ a0, Operands.Statement (.buttonDiscrepancy a0) :=
  fun _ => ⟨fun _ h => (nomatch h), fun _ h => (nomatch h)⟩
theorem Operands.lidDiscrepancy : ∀ a0, Operands.Statement (.lidDiscrepancy a0) :=
  fun _ => ⟨fun _ h => (nomatch h), fun _ h => (nomatch h)⟩
theorem Operands.presenceClose : ∀ a0, Operands.Statement (.presenceClose a0) :=
  fun _ => ⟨fun _ h => (nomatch h), fun _ h => (nomatch h)⟩
theorem Operands.jconAttention : ∀ a0, Operands.Statement (.jconAttention a0) :=
  fun _ => ⟨fun _ h => (nomatch h), fun _ h => (nomatch h)⟩
theorem Operands.ledLocate : ∀ a0 a1, Operands.Statement (.ledLocate a0 a1) :=
  fun _ _ => ⟨fun _ h => (nomatch h), fun _ h => (nomatch h)⟩
theorem Operands.bayShow : ∀ a0, Operands.Statement (.bayShow a0) :=
  fun _ => ⟨fun _ h => (nomatch h), fun _ h => (nomatch h)⟩
theorem Operands.consoleChar : ∀ a0 a1, Operands.Statement (.consoleChar a0 a1) :=
  fun _ _ => ⟨fun _ h => (nomatch h), fun _ h => (nomatch h)⟩
theorem Operands.consoleBadLine : ∀ a0 a1, Operands.Statement (.consoleBadLine a0 a1) :=
  fun _ _ => ⟨fun _ h => (nomatch h), fun _ h => (nomatch h)⟩
theorem Operands.unknownCommand : ∀ a0, Operands.Statement (.unknownCommand a0) :=
  fun _ => ⟨fun _ h => (nomatch h), fun _ h => (nomatch h)⟩
theorem Operands.help : ∀ a0 a1, Operands.Statement (.help a0 a1) :=
  fun _ _ => ⟨fun _ h => (nomatch h), fun _ h => (nomatch h)⟩
theorem Operands.mode : ∀ a0 a1, Operands.Statement (.mode a0 a1) :=
  fun _ _ => ⟨fun _ h => (nomatch h), fun _ h => (nomatch h)⟩
theorem Operands.who : ∀ a0, Operands.Statement (.who a0) :=
  fun _ => ⟨fun _ h => (nomatch h), fun _ h => (nomatch h)⟩
theorem Operands.log : ∀ a0 a1 a2 a3, Operands.Statement (.log a0 a1 a2 a3) :=
  fun _ _ _ _ => ⟨fun _ h => (nomatch h), fun _ h => (nomatch h)⟩
theorem Operands.logFollow : ∀ a0 a1, Operands.Statement (.logFollow a0 a1) :=
  fun _ _ => ⟨fun _ h => (nomatch h), fun _ h => (nomatch h)⟩
theorem Operands.mgmtConnect : ∀ a0 a1 a2 a3 a4, Operands.Statement (.mgmtConnect a0 a1 a2 a3 a4) :=
  fun _ _ _ _ _ => ⟨fun _ h => (nomatch h), fun _ h => (nomatch h)⟩
theorem Operands.mgmtIdleTimeout : ∀ a0, Operands.Statement (.mgmtIdleTimeout a0) :=
  fun _ => ⟨fun _ h => (nomatch h), fun _ h => (nomatch h)⟩
theorem Operands.mgmtSessionClose : ∀ a0, Operands.Statement (.mgmtSessionClose a0) :=
  fun _ => ⟨fun _ h => (nomatch h), fun _ h => (nomatch h)⟩
theorem Operands.wardenEnrol : ∀ a0 a1 a2 a3, Operands.Statement (.wardenEnrol a0 a1 a2 a3) :=
  fun _ _ _ _ => ⟨fun _ h => h, fun _ h => (nomatch h)⟩
theorem Operands.wardenRemove : ∀ a0 a1, Operands.Statement (.wardenRemove a0 a1) :=
  fun _ _ => ⟨fun _ h => h, fun _ h => (nomatch h)⟩
theorem Operands.wardenShow : ∀ a0, Operands.Statement (.wardenShow a0) :=
  fun _ => ⟨fun _ h => (nomatch h), fun _ h => (nomatch h)⟩
theorem Operands.startShow : ∀ a0, Operands.Statement (.startShow a0) :=
  fun _ => ⟨fun _ h => (nomatch h), fun _ h => (nomatch h)⟩
theorem Operands.ledgerShow : ∀ a0 a1, Operands.Statement (.ledgerShow a0 a1) :=
  fun _ _ => ⟨fun _ h => (nomatch h), fun _ h => (nomatch h)⟩
theorem Operands.startClear : ∀ a0, Operands.Statement (.startClear a0) :=
  fun _ => ⟨fun _ h => h, fun _ h => (nomatch h)⟩
theorem Operands.linkUp : ∀ a0 a1 a2, Operands.Statement (.linkUp a0 a1 a2) :=
  fun _ _ _ => ⟨fun _ h => (nomatch h), fun _ h => (nomatch h)⟩
theorem Operands.linkDown : ∀ a0, Operands.Statement (.linkDown a0) :=
  fun _ => ⟨fun _ h => (nomatch h), fun _ h => (nomatch h)⟩
theorem Operands.lacpduReceive : ∀ a0 a1, Operands.Statement (.lacpduReceive a0 a1) :=
  fun _ _ => ⟨fun _ h => (nomatch h), fun _ h => (nomatch h)⟩
theorem Operands.lacpduTransmit : ∀ a0, Operands.Statement (.lacpduTransmit a0) :=
  fun _ => ⟨fun _ h => (nomatch h), fun _ h => (nomatch h)⟩
theorem Operands.frameReceive : ∀ a0 a1, Operands.Statement (.frameReceive a0 a1) :=
  fun _ _ => ⟨fun _ h => (nomatch h), fun _ h => (nomatch h)⟩
theorem Operands.frameFcsResult : ∀ a0 a1, Operands.Statement (.frameFcsResult a0 a1) :=
  fun _ _ => ⟨fun _ h => (nomatch h), fun _ h => (nomatch h)⟩
theorem Operands.pauseFrame : ∀ a0 a1, Operands.Statement (.pauseFrame a0 a1) :=
  fun _ _ => ⟨fun _ h => (nomatch h), fun _ h => (nomatch h)⟩
theorem Operands.pfcFrame : ∀ a0 a1, Operands.Statement (.pfcFrame a0 a1) :=
  fun _ _ => ⟨fun _ h => (nomatch h), fun _ h => (nomatch h)⟩
theorem Operands.pauseExpiry : ∀ a0 a1, Operands.Statement (.pauseExpiry a0 a1) :=
  fun _ _ => ⟨fun _ h => (nomatch h), fun _ h => (nomatch h)⟩
theorem Operands.pauseStorm : ∀ a0, Operands.Statement (.pauseStorm a0) :=
  fun _ => ⟨fun _ h => (nomatch h), fun _ h => (nomatch h)⟩
theorem Operands.pauseStormEnd : ∀ a0, Operands.Statement (.pauseStormEnd a0) :=
  fun _ => ⟨fun _ h => (nomatch h), fun _ h => (nomatch h)⟩
theorem Operands.portShow : ∀ a0 a1, Operands.Statement (.portShow a0 a1) :=
  fun _ _ => ⟨fun _ h => (nomatch h), fun _ h => (nomatch h)⟩
theorem Operands.portStats : ∀ a0 a1 a2, Operands.Statement (.portStats a0 a1 a2) :=
  fun _ _ _ => ⟨fun _ h => (nomatch h), fun _ h => (nomatch h)⟩
theorem Operands.portStatsClear : ∀ a0 a1, Operands.Statement (.portStatsClear a0 a1) :=
  fun _ _ => ⟨fun _ h => (nomatch h), fun _ h => (nomatch h)⟩
theorem Operands.portCaptureRead : ∀ a0 a1 a2, Operands.Statement (.portCaptureRead a0 a1 a2) :=
  fun _ _ _ => ⟨fun _ h => (nomatch h), fun _ h => (nomatch h)⟩
theorem Operands.dormantEnter : ∀ a0, Operands.Statement (.dormantEnter a0) :=
  fun _ => ⟨fun _ h => (nomatch h), fun _ h => (nomatch h)⟩
theorem Operands.wake : ∀ a0 a1, Operands.Statement (.wake a0 a1) :=
  fun _ _ => ⟨fun _ h => (nomatch h), fun _ h => (nomatch h)⟩
theorem Operands.dhcpv4Receive : ∀ a0 a1, Operands.Statement (.dhcpv4Receive a0 a1) :=
  fun _ _ => ⟨fun _ h => (nomatch h), fun _ h => (nomatch h)⟩
theorem Operands.dhcpRetransmit : ∀ a0, Operands.Statement (.dhcpRetransmit a0) :=
  fun _ => ⟨fun _ h => (nomatch h), fun _ h => (nomatch h)⟩
theorem Operands.dhcpv6Receive : ∀ a0 a1, Operands.Statement (.dhcpv6Receive a0 a1) :=
  fun _ _ => ⟨fun _ h => (nomatch h), fun _ h => (nomatch h)⟩
theorem Operands.routerAdvertisement : ∀ a0 a1, Operands.Statement (.routerAdvertisement a0 a1) :=
  fun _ _ => ⟨fun _ h => (nomatch h), fun _ h => (nomatch h)⟩
theorem Operands.raTimeout : ∀ a0, Operands.Statement (.raTimeout a0) :=
  fun _ => ⟨fun _ h => (nomatch h), fun _ h => (nomatch h)⟩
theorem Operands.addrProbeDone : ∀ a0 a1, Operands.Statement (.addrProbeDone a0 a1) :=
  fun _ _ => ⟨fun _ h => (nomatch h), fun _ h => (nomatch h)⟩
theorem Operands.addrDuplicate : ∀ a0 a1, Operands.Statement (.addrDuplicate a0 a1) :=
  fun _ _ => ⟨fun _ h => (nomatch h), fun _ h => (nomatch h)⟩
theorem Operands.addrRetry : ∀ a0 a1, Operands.Statement (.addrRetry a0 a1) :=
  fun _ _ => ⟨fun _ h => (nomatch h), fun _ h => (nomatch h)⟩
theorem Operands.addrLost : ∀ a0 a1, Operands.Statement (.addrLost a0 a1) :=
  fun _ _ => ⟨fun _ h => (nomatch h), fun _ h => (nomatch h)⟩
theorem Operands.neighbourSolicit : ∀ a0 a1 a2 a3, Operands.Statement (.neighbourSolicit a0 a1 a2 a3) :=
  fun _ _ _ _ => ⟨fun _ h => (nomatch h), fun _ h => (nomatch h)⟩
theorem Operands.icmpEcho : ∀ a0 a1 a2 a3 a4, Operands.Statement (.icmpEcho a0 a1 a2 a3 a4) :=
  fun _ _ _ _ _ => ⟨fun _ h => (nomatch h), fun _ h => (nomatch h)⟩
theorem Operands.netShow : ∀ a0 a1, Operands.Statement (.netShow a0 a1) :=
  fun _ _ => ⟨fun _ h => (nomatch h), fun _ h => (nomatch h)⟩
theorem Operands.netStats : ∀ a0, Operands.Statement (.netStats a0) :=
  fun _ => ⟨fun _ h => (nomatch h), fun _ h => (nomatch h)⟩
theorem Operands.netLldp : ∀ a0 a1, Operands.Statement (.netLldp a0 a1) :=
  fun _ _ => ⟨fun _ h => (nomatch h), fun _ h => (nomatch h)⟩
theorem Operands.netRenew : ∀ a0 a1, Operands.Statement (.netRenew a0 a1) :=
  fun _ _ => ⟨fun _ h => (nomatch h), fun _ h => (nomatch h)⟩
theorem Operands.lldpReceive : ∀ a0 a1, Operands.Statement (.lldpReceive a0 a1) :=
  fun _ _ => ⟨fun _ h => (nomatch h), fun _ h => (nomatch h)⟩
theorem Operands.ptpAnnounce : ∀ a0, Operands.Statement (.ptpAnnounce a0) :=
  fun _ => ⟨fun _ h => (nomatch h), fun _ h => (nomatch h)⟩
theorem Operands.ptpMessage : ∀ a0, Operands.Statement (.ptpMessage a0) :=
  fun _ => ⟨fun _ h => (nomatch h), fun _ h => (nomatch h)⟩
theorem Operands.ntpPoll : ∀ a0, Operands.Statement (.ntpPoll a0) :=
  fun _ => ⟨fun _ h => (nomatch h), fun _ h => (nomatch h)⟩
theorem Operands.ntpResponse : ∀ a0 a1, Operands.Statement (.ntpResponse a0 a1) :=
  fun _ _ => ⟨fun _ h => (nomatch h), fun _ h => (nomatch h)⟩
theorem Operands.timeSet : ∀ a0 a1, Operands.Statement (.timeSet a0 a1) :=
  fun _ _ => ⟨fun _ h => h, fun _ h => (nomatch h)⟩
theorem Operands.timeAccept : ∀ a0, Operands.Statement (.timeAccept a0) :=
  fun _ => ⟨fun _ h => h, fun _ h => (nomatch h)⟩
theorem Operands.timeShow : ∀ a0, Operands.Statement (.timeShow a0) :=
  fun _ => ⟨fun _ h => (nomatch h), fun _ h => (nomatch h)⟩
theorem Operands.dataConnect : ∀ a0 a1 a2 a3 a4 a5, Operands.Statement (.dataConnect a0 a1 a2 a3 a4 a5) :=
  fun _ _ _ _ _ _ => ⟨fun _ h => (nomatch h), fun _ h => (nomatch h)⟩
theorem Operands.kv1Connect : ∀ a0 a1 a2 a3, Operands.Statement (.kv1Connect a0 a1 a2 a3) :=
  fun _ _ _ _ => ⟨fun _ h => (nomatch h), fun _ h => (nomatch h)⟩
theorem Operands.tlsHandshake : ∀ a0 a1, Operands.Statement (.tlsHandshake a0 a1) :=
  fun _ _ => ⟨fun _ h => (nomatch h), fun _ h => (nomatch h)⟩
theorem Operands.connectionTimeout : ∀ a0 a1, Operands.Statement (.connectionTimeout a0 a1) :=
  fun _ _ => ⟨fun _ h => (nomatch h), fun _ h => (nomatch h)⟩
theorem Operands.connectionClose : ∀ a0, Operands.Statement (.connectionClose a0) :=
  fun _ => ⟨fun _ h => (nomatch h), fun _ h => (nomatch h)⟩
theorem Operands.hello : ∀ a0 a1, Operands.Statement (.hello a0 a1) :=
  fun _ _ => ⟨fun _ h => (nomatch h), fun _ h w => by cases h; exact Frame_wf_lengths w⟩
theorem Operands.auth : ∀ a0 a1, Operands.Statement (.auth a0 a1) :=
  fun _ _ => ⟨fun _ h => (nomatch h), fun _ h w => by cases h; exact Frame_wf_lengths w⟩
theorem Operands.authDenyDelay : ∀ a0, Operands.Statement (.authDenyDelay a0) :=
  fun _ => ⟨fun _ h => (nomatch h), fun _ h => (nomatch h)⟩
theorem Operands.authLockoutExpiry : ∀ a0, Operands.Statement (.authLockoutExpiry a0) :=
  fun _ => ⟨fun _ h => (nomatch h), fun _ h => (nomatch h)⟩
theorem Operands.channelOpen : ∀ a0 a1, Operands.Statement (.channelOpen a0 a1) :=
  fun _ _ => ⟨fun _ h => (nomatch h), fun _ h w => by cases h; exact Frame_wf_lengths w⟩
theorem Operands.channelClose : ∀ a0 a1, Operands.Statement (.channelClose a0 a1) :=
  fun _ _ => ⟨fun _ h => (nomatch h), fun _ h w => by cases h; exact Frame_wf_lengths w⟩
theorem Operands.frameLostAlignment : ∀ a0 a1, Operands.Statement (.frameLostAlignment a0 a1) :=
  fun _ _ => ⟨fun _ h => (nomatch h), fun _ h => (nomatch h)⟩
theorem Operands.resyncData : ∀ a0 a1, Operands.Statement (.resyncData a0 a1) :=
  fun _ _ => ⟨fun _ h => (nomatch h), fun _ h => (nomatch h)⟩
theorem Operands.resyncTimeout : ∀ a0, Operands.Statement (.resyncTimeout a0) :=
  fun _ => ⟨fun _ h => (nomatch h), fun _ h => (nomatch h)⟩
theorem Operands.kv1Heartbeat : ∀ a0 a1 a2 a3, Operands.Statement (.kv1Heartbeat a0 a1 a2 a3) :=
  fun _ _ _ _ => ⟨fun _ h => (nomatch h), fun _ h => (nomatch h)⟩
theorem Operands.heartbeat : ∀ a0 a1, Operands.Statement (.heartbeat a0 a1) :=
  fun _ _ => ⟨fun _ h => (nomatch h), fun _ h w => by cases h; exact Frame_wf_lengths w⟩
theorem Operands.put : ∀ a0 a1, Operands.Statement (.put a0 a1) :=
  fun _ _ => ⟨fun _ h => (nomatch h), fun _ h w => by cases h; exact Frame_wf_lengths w⟩
theorem Operands.get : ∀ a0 a1, Operands.Statement (.get a0 a1) :=
  fun _ _ => ⟨fun _ h => (nomatch h), fun _ h w => by cases h; exact Frame_wf_lengths w⟩
theorem Operands.head : ∀ a0 a1, Operands.Statement (.head a0 a1) :=
  fun _ _ => ⟨fun _ h => (nomatch h), fun _ h w => by cases h; exact Frame_wf_lengths w⟩
theorem Operands.delete : ∀ a0 a1, Operands.Statement (.delete a0 a1) :=
  fun _ _ => ⟨fun _ h => (nomatch h), fun _ h w => by cases h; exact Frame_wf_lengths w⟩
theorem Operands.list : ∀ a0 a1, Operands.Statement (.list a0 a1) :=
  fun _ _ => ⟨fun _ h => (nomatch h), fun _ h w => by cases h; exact Frame_wf_lengths w⟩
theorem Operands.cas : ∀ a0 a1, Operands.Statement (.cas a0 a1) :=
  fun _ _ => ⟨fun _ h => (nomatch h), fun _ h w => by cases h; exact Frame_wf_lengths w⟩
theorem Operands.mputBegin : ∀ a0 a1, Operands.Statement (.mputBegin a0 a1) :=
  fun _ _ => ⟨fun _ h => (nomatch h), fun _ h w => by cases h; exact Frame_wf_lengths w⟩
theorem Operands.mputPart : ∀ a0 a1, Operands.Statement (.mputPart a0 a1) :=
  fun _ _ => ⟨fun _ h => (nomatch h), fun _ h w => by cases h; exact Frame_wf_lengths w⟩
theorem Operands.mputCommit : ∀ a0 a1, Operands.Statement (.mputCommit a0 a1) :=
  fun _ _ => ⟨fun _ h => (nomatch h), fun _ h w => by cases h; exact Frame_wf_lengths w⟩
theorem Operands.mputAbort : ∀ a0 a1, Operands.Statement (.mputAbort a0 a1) :=
  fun _ _ => ⟨fun _ h => (nomatch h), fun _ h w => by cases h; exact Frame_wf_lengths w⟩
theorem Operands.uploadExpiry : ∀ a0, Operands.Statement (.uploadExpiry a0) :=
  fun _ => ⟨fun _ h => (nomatch h), fun _ h => (nomatch h)⟩
theorem Operands.txn : ∀ a0 a1, Operands.Statement (.txn a0 a1) :=
  fun _ _ => ⟨fun _ h => (nomatch h), fun _ h w => by cases h; exact Frame_wf_lengths w⟩
theorem Operands.txnLocksTaken : ∀ a0, Operands.Statement (.txnLocksTaken a0) :=
  fun _ => ⟨fun _ h => (nomatch h), fun _ h => (nomatch h)⟩
theorem Operands.lockTimeout : ∀ a0, Operands.Statement (.lockTimeout a0) :=
  fun _ => ⟨fun _ h => (nomatch h), fun _ h => (nomatch h)⟩
theorem Operands.tag : ∀ a0 a1, Operands.Statement (.tag a0 a1) :=
  fun _ _ => ⟨fun _ h => (nomatch h), fun _ h w => by cases h; exact Frame_wf_lengths w⟩
theorem Operands.find : ∀ a0 a1, Operands.Statement (.find a0 a1) :=
  fun _ _ => ⟨fun _ h => (nomatch h), fun _ h w => by cases h; exact Frame_wf_lengths w⟩
theorem Operands.findDone : ∀ a0, Operands.Statement (.findDone a0) :=
  fun _ => ⟨fun _ h => (nomatch h), fun _ h => (nomatch h)⟩
theorem Operands.fetch : ∀ a0 a1, Operands.Statement (.fetch a0 a1) :=
  fun _ _ => ⟨fun _ h => (nomatch h), fun _ h w => by cases h; exact Frame_wf_lengths w⟩
theorem Operands.ticketExpiry : ∀ a0, Operands.Statement (.ticketExpiry a0) :=
  fun _ => ⟨fun _ h => (nomatch h), fun _ h => (nomatch h)⟩
theorem Operands.flush : ∀ a0 a1, Operands.Statement (.flush a0 a1) :=
  fun _ _ => ⟨fun _ h => (nomatch h), fun _ h w => by cases h; exact Frame_wf_lengths w⟩
theorem Operands.discard : ∀ a0 a1, Operands.Statement (.discard a0 a1) :=
  fun _ _ => ⟨fun _ h => (nomatch h), fun _ h w => by cases h; exact Frame_wf_lengths w⟩
theorem Operands.shred : ∀ a0 a1, Operands.Statement (.shred a0 a1) :=
  fun _ _ => ⟨fun _ h => (nomatch h), fun _ h w => by cases h; exact Frame_wf_lengths w⟩
theorem Operands.stat : ∀ a0 a1, Operands.Statement (.stat a0 a1) :=
  fun _ _ => ⟨fun _ h => (nomatch h), fun _ h w => by cases h; exact Frame_wf_lengths w⟩
theorem Operands.mbxSend : ∀ a0 a1, Operands.Statement (.mbxSend a0 a1) :=
  fun _ _ => ⟨fun _ h => (nomatch h), fun _ h w => by cases h; exact Frame_wf_lengths w⟩
theorem Operands.mbxRecv : ∀ a0 a1, Operands.Statement (.mbxRecv a0 a1) :=
  fun _ _ => ⟨fun _ h => (nomatch h), fun _ h w => by cases h; exact Frame_wf_lengths w⟩
theorem Operands.objectExpiry : ∀ a0, Operands.Statement (.objectExpiry a0) :=
  fun _ => ⟨fun _ h => (nomatch h), fun _ h => (nomatch h)⟩
theorem Operands.bucketRefill : ∀ a0 a1, Operands.Statement (.bucketRefill a0 a1) :=
  fun _ _ => ⟨fun _ h => (nomatch h), fun _ h => (nomatch h)⟩
theorem Operands.operationComplete : ∀ a0, Operands.Statement (.operationComplete a0) :=
  fun _ => ⟨fun _ h => (nomatch h), fun _ h => (nomatch h)⟩
theorem Operands.kvShow : ∀ a0, Operands.Statement (.kvShow a0) :=
  fun _ => ⟨fun _ h => (nomatch h), fun _ h => (nomatch h)⟩
theorem Operands.kvStats : ∀ a0, Operands.Statement (.kvStats a0) :=
  fun _ => ⟨fun _ h => (nomatch h), fun _ h => (nomatch h)⟩
theorem Operands.kvConns : ∀ a0 a1, Operands.Statement (.kvConns a0 a1) :=
  fun _ _ => ⟨fun _ h => (nomatch h), fun _ h => (nomatch h)⟩
theorem Operands.kv1Enable : ∀ a0, Operands.Statement (.kv1Enable a0) :=
  fun _ => ⟨fun _ h => h, fun _ h => (nomatch h)⟩
theorem Operands.kv1Disable : ∀ a0, Operands.Statement (.kv1Disable a0) :=
  fun _ => ⟨fun _ h => (nomatch h), fun _ h => (nomatch h)⟩
theorem Operands.kv1Allow : ∀ a0 a1 a2, Operands.Statement (.kv1Allow a0 a1 a2) :=
  fun _ _ _ => ⟨fun _ h => h, fun _ h => (nomatch h)⟩
theorem Operands.kv1Deny : ∀ a0 a1, Operands.Statement (.kv1Deny a0 a1) :=
  fun _ _ => ⟨fun _ h => h, fun _ h => (nomatch h)⟩
theorem Operands.kv1Show : ∀ a0, Operands.Statement (.kv1Show a0) :=
  fun _ => ⟨fun _ h => (nomatch h), fun _ h => (nomatch h)⟩
theorem Operands.stallShow : ∀ a0 a1, Operands.Statement (.stallShow a0 a1) :=
  fun _ _ => ⟨fun _ h => (nomatch h), fun _ h => (nomatch h)⟩
theorem Operands.stallCreate : ∀ a0 a1 a2, Operands.Statement (.stallCreate a0 a1 a2) :=
  fun _ _ _ => ⟨fun _ h => (nomatch h), fun _ h => (nomatch h)⟩
theorem Operands.stallReset : ∀ a0 a1, Operands.Statement (.stallReset a0 a1) :=
  fun _ _ => ⟨fun _ h => (nomatch h), fun _ h => (nomatch h)⟩
theorem Operands.stallRebind : ∀ a0 a1 a2, Operands.Statement (.stallRebind a0 a1 a2) :=
  fun _ _ _ => ⟨fun _ h => (nomatch h), fun _ h => (nomatch h)⟩
theorem Operands.drainEnd : ∀ a0, Operands.Statement (.drainEnd a0) :=
  fun _ => ⟨fun _ h => (nomatch h), fun _ h => (nomatch h)⟩
theorem Operands.stallRemove : ∀ a0 a1 a2, Operands.Statement (.stallRemove a0 a1 a2) :=
  fun _ _ _ => ⟨fun _ h => (nomatch h), fun _ h => (nomatch h)⟩
theorem Operands.stallRemovalDone : ∀ a0, Operands.Statement (.stallRemovalDone a0) :=
  fun _ => ⟨fun _ h => (nomatch h), fun _ h => (nomatch h)⟩
theorem Operands.stallFreeze : ∀ a0 a1, Operands.Statement (.stallFreeze a0 a1) :=
  fun _ _ => ⟨fun _ h => (nomatch h), fun _ h => (nomatch h)⟩
theorem Operands.freezeDrainEnd : ∀ a0, Operands.Statement (.freezeDrainEnd a0) :=
  fun _ => ⟨fun _ h => (nomatch h), fun _ h => (nomatch h)⟩
theorem Operands.stallBlobRead : ∀ a0 a1 a2 a3, Operands.Statement (.stallBlobRead a0 a1 a2 a3) :=
  fun _ _ _ _ => ⟨fun _ h => (nomatch h), fun _ h => (nomatch h)⟩
theorem Operands.stallBlobLoad : ∀ a0 a1 a2 a3, Operands.Statement (.stallBlobLoad a0 a1 a2 a3) :=
  fun _ _ _ _ => ⟨fun _ h => (nomatch h), fun _ h => (nomatch h)⟩
theorem Operands.stallThaw : ∀ a0 a1 a2, Operands.Statement (.stallThaw a0 a1 a2) :=
  fun _ _ _ => ⟨fun _ h => (nomatch h), fun _ h => (nomatch h)⟩
theorem Operands.stallRelocate : ∀ a0 a1 a2 a3 a4 a5, Operands.Statement (.stallRelocate a0 a1 a2 a3 a4 a5) :=
  fun _ _ _ _ _ _ => ⟨fun _ h => (nomatch h), fun _ h => (nomatch h)⟩
theorem Operands.relocateCutover : ∀ a0, Operands.Statement (.relocateCutover a0) :=
  fun _ => ⟨fun _ h => (nomatch h), fun _ h => (nomatch h)⟩
theorem Operands.relocateDone : ∀ a0, Operands.Statement (.relocateDone a0) :=
  fun _ => ⟨fun _ h => (nomatch h), fun _ h => (nomatch h)⟩
theorem Operands.relocateFailed : ∀ a0 a1, Operands.Statement (.relocateFailed a0 a1) :=
  fun _ _ => ⟨fun _ h => (nomatch h), fun _ h => (nomatch h)⟩
theorem Operands.stallRelocateCancel : ∀ a0 a1, Operands.Statement (.stallRelocateCancel a0 a1) :=
  fun _ _ => ⟨fun _ h => (nomatch h), fun _ h => (nomatch h)⟩
theorem Operands.stallAdopt : ∀ a0 a1 a2, Operands.Statement (.stallAdopt a0 a1 a2) :=
  fun _ _ _ => ⟨fun _ h => h, fun _ h => (nomatch h)⟩
theorem Operands.stallKeyExport : ∀ a0 a1 a2, Operands.Statement (.stallKeyExport a0 a1 a2) :=
  fun _ _ _ => ⟨fun _ h => h, fun _ h => (nomatch h)⟩
theorem Operands.stallCredShow : ∀ a0 a1, Operands.Statement (.stallCredShow a0 a1) :=
  fun _ _ => ⟨fun _ h => (nomatch h), fun _ h => (nomatch h)⟩
theorem Operands.stallCredNew : ∀ a0 a1 a2, Operands.Statement (.stallCredNew a0 a1 a2) :=
  fun _ _ _ => ⟨fun _ h => (nomatch h), fun _ h => (nomatch h)⟩
theorem Operands.stallCredSet : ∀ a0 a1 a2 a3, Operands.Statement (.stallCredSet a0 a1 a2 a3) :=
  fun _ _ _ _ => ⟨fun _ h => (nomatch h), fun _ h => (nomatch h)⟩
theorem Operands.stallCredClear : ∀ a0 a1 a2, Operands.Statement (.stallCredClear a0 a1 a2) :=
  fun _ _ _ => ⟨fun _ h => (nomatch h), fun _ h => (nomatch h)⟩
theorem Operands.mbxCompose : ∀ a0 a1 a2, Operands.Statement (.mbxCompose a0 a1 a2) :=
  fun _ _ _ => ⟨fun _ h => (nomatch h), fun _ h => (nomatch h)⟩
theorem Operands.mbxWardenSend : ∀ a0 a1 a2 a3, Operands.Statement (.mbxWardenSend a0 a1 a2 a3) :=
  fun _ _ _ _ => ⟨fun _ h => (nomatch h), fun _ h => (nomatch h)⟩
theorem Operands.mbxWardenRecv : ∀ a0 a1 a2, Operands.Statement (.mbxWardenRecv a0 a1 a2) :=
  fun _ _ _ => ⟨fun _ h => (nomatch h), fun _ h => (nomatch h)⟩
theorem Operands.mbxShow : ∀ a0 a1, Operands.Statement (.mbxShow a0 a1) :=
  fun _ _ => ⟨fun _ h => (nomatch h), fun _ h => (nomatch h)⟩
theorem Operands.mbxDoorbell : ∀ a0, Operands.Statement (.mbxDoorbell a0) :=
  fun _ => ⟨fun _ h => (nomatch h), fun _ h => (nomatch h)⟩
theorem Operands.meterShow : ∀ a0 a1, Operands.Statement (.meterShow a0 a1) :=
  fun _ _ => ⟨fun _ h => (nomatch h), fun _ h => (nomatch h)⟩
theorem Operands.meterRecords : ∀ a0 a1 a2 a3 a4, Operands.Statement (.meterRecords a0 a1 a2 a3 a4) :=
  fun _ _ _ _ _ => ⟨fun _ h => (nomatch h), fun _ h => (nomatch h)⟩
theorem Operands.packedPageTimeout : ∀ a0 a1, Operands.Statement (.packedPageTimeout a0 a1) :=
  fun _ _ => ⟨fun _ h => (nomatch h), fun _ h => (nomatch h)⟩
theorem Operands.flashProgramDone : ∀ a0, Operands.Statement (.flashProgramDone a0) :=
  fun _ => ⟨fun _ h => (nomatch h), fun _ h => (nomatch h)⟩
theorem Operands.flashReadDone : ∀ a0 a1, Operands.Statement (.flashReadDone a0 a1) :=
  fun _ _ => ⟨fun _ h => (nomatch h), fun _ h => (nomatch h)⟩
theorem Operands.mediaShow : ∀ a0, Operands.Statement (.mediaShow a0) :=
  fun _ => ⟨fun _ h => (nomatch h), fun _ h => (nomatch h)⟩
theorem Operands.bandShow : ∀ a0 a1, Operands.Statement (.bandShow a0 a1) :=
  fun _ _ => ⟨fun _ h => (nomatch h), fun _ h => (nomatch h)⟩
theorem Operands.programFail : ∀ a0 a1, Operands.Statement (.programFail a0 a1) :=
  fun _ _ => ⟨fun _ h => (nomatch h), fun _ h => (nomatch h)⟩
theorem Operands.shredDone : ∀ a0, Operands.Statement (.shredDone a0) :=
  fun _ => ⟨fun _ h => (nomatch h), fun _ h => (nomatch h)⟩
theorem Operands.healthShow : ∀ a0, Operands.Statement (.healthShow a0) :=
  fun _ => ⟨fun _ h => (nomatch h), fun _ h => (nomatch h)⟩
theorem Operands.healthTemp : ∀ a0, Operands.Statement (.healthTemp a0) :=
  fun _ => ⟨fun _ h => (nomatch h), fun _ h => (nomatch h)⟩
theorem Operands.healthHoldup : ∀ a0 a1, Operands.Statement (.healthHoldup a0 a1) :=
  fun _ _ => ⟨fun _ h => (nomatch h), fun _ h => (nomatch h)⟩
theorem Operands.arcadeShow : ∀ a0, Operands.Statement (.arcadeShow a0) :=
  fun _ => ⟨fun _ h => (nomatch h), fun _ h => (nomatch h)⟩
theorem Operands.arcadeBankShow : ∀ a0 a1, Operands.Statement (.arcadeBankShow a0 a1) :=
  fun _ _ => ⟨fun _ h => (nomatch h), fun _ h => (nomatch h)⟩
theorem Operands.arcadeGrant : ∀ a0 a1 a2 a3, Operands.Statement (.arcadeGrant a0 a1 a2 a3) :=
  fun _ _ _ _ => ⟨fun _ h => (nomatch h), fun _ h => (nomatch h)⟩
theorem Operands.beaconReceive : ∀ a0, Operands.Statement (.beaconReceive a0) :=
  fun _ => ⟨fun _ h => (nomatch h), fun _ h => (nomatch h)⟩
theorem Operands.memberTimeout : ∀ a0, Operands.Statement (.memberTimeout a0) :=
  fun _ => ⟨fun _ h => (nomatch h), fun _ h => (nomatch h)⟩
theorem Operands.rowLeave : ∀ a0, Operands.Statement (.rowLeave a0) :=
  fun _ => ⟨fun _ h => (nomatch h), fun _ h => (nomatch h)⟩
theorem Operands.rowAck : ∀ a0 a1, Operands.Statement (.rowAck a0 a1) :=
  fun _ _ => ⟨fun _ h => (nomatch h), fun _ h => (nomatch h)⟩
theorem Operands.findReq : ∀ a0 a1, Operands.Statement (.findReq a0 a1) :=
  fun _ _ => ⟨fun _ h => (nomatch h), fun _ h => (nomatch h)⟩
theorem Operands.findPage : ∀ a0 a1, Operands.Statement (.findPage a0 a1) :=
  fun _ _ => ⟨fun _ h => (nomatch h), fun _ h => (nomatch h)⟩
theorem Operands.findEnd : ∀ a0 a1, Operands.Statement (.findEnd a0 a1) :=
  fun _ _ => ⟨fun _ h => (nomatch h), fun _ h => (nomatch h)⟩
theorem Operands.rowFindDeadline : ∀ a0, Operands.Statement (.rowFindDeadline a0) :=
  fun _ => ⟨fun _ h => (nomatch h), fun _ h => (nomatch h)⟩
theorem Operands.mirrorPut : ∀ a0 a1, Operands.Statement (.mirrorPut a0 a1) :=
  fun _ _ => ⟨fun _ h => (nomatch h), fun _ h => (nomatch h)⟩
theorem Operands.mirrorUpdate : ∀ a0 a1 a2 a3, Operands.Statement (.mirrorUpdate a0 a1 a2 a3) :=
  fun _ _ _ _ => ⟨fun _ h => (nomatch h), fun _ h => (nomatch h)⟩
theorem Operands.mirrorRemove : ∀ a0 a1 a2 a3, Operands.Statement (.mirrorRemove a0 a1 a2 a3) :=
  fun _ _ _ _ => ⟨fun _ h => (nomatch h), fun _ h => (nomatch h)⟩
theorem Operands.mirrorShow : ∀ a0, Operands.Statement (.mirrorShow a0) :=
  fun _ => ⟨fun _ h => (nomatch h), fun _ h => (nomatch h)⟩
theorem Operands.mirrorDrop : ∀ a0 a1, Operands.Statement (.mirrorDrop a0 a1) :=
  fun _ _ => ⟨fun _ h => h, fun _ h => (nomatch h)⟩
theorem Operands.mirrorRestore : ∀ a0 a1 a2 a3, Operands.Statement (.mirrorRestore a0 a1 a2 a3) :=
  fun _ _ _ _ => ⟨fun _ h => (nomatch h), fun _ h => (nomatch h)⟩
theorem Operands.mirrorRestoreDone : ∀ a0, Operands.Statement (.mirrorRestoreDone a0) :=
  fun _ => ⟨fun _ h => (nomatch h), fun _ h => (nomatch h)⟩
theorem Operands.rowShow : ∀ a0, Operands.Statement (.rowShow a0) :=
  fun _ => ⟨fun _ h => (nomatch h), fun _ h => (nomatch h)⟩
theorem Operands.rowMembers : ∀ a0, Operands.Statement (.rowMembers a0) :=
  fun _ => ⟨fun _ h => (nomatch h), fun _ h => (nomatch h)⟩
theorem Operands.rowKeyNew : ∀ a0, Operands.Statement (.rowKeyNew a0) :=
  fun _ => ⟨fun _ h => h, fun _ h => (nomatch h)⟩
theorem Operands.rowKeySet : ∀ a0 a1, Operands.Statement (.rowKeySet a0 a1) :=
  fun _ _ => ⟨fun _ h => h, fun _ h => (nomatch h)⟩
theorem Operands.parcelPiece : ∀ a0 a1 a2 a3, Operands.Statement (.parcelPiece a0 a1 a2 a3) :=
  fun _ _ _ _ => ⟨fun _ h => (nomatch h), fun _ h => (nomatch h)⟩
theorem Operands.pieceTimeout : ∀ a0, Operands.Statement (.pieceTimeout a0) :=
  fun _ => ⟨fun _ h => (nomatch h), fun _ h => (nomatch h)⟩
theorem Operands.parcelShow : ∀ a0, Operands.Statement (.parcelShow a0) :=
  fun _ => ⟨fun _ h => (nomatch h), fun _ h => (nomatch h)⟩
theorem Operands.parcelInstall : ∀ a0 a1 a2 a3, Operands.Statement (.parcelInstall a0 a1 a2 a3) :=
  fun _ _ _ _ => ⟨fun _ h => (nomatch h), fun _ h => (nomatch h)⟩
theorem Operands.parcelAbandon : ∀ a0, Operands.Statement (.parcelAbandon a0) :=
  fun _ => ⟨fun _ h => (nomatch h), fun _ h => (nomatch h)⟩
theorem Operands.fwShow : ∀ a0, Operands.Statement (.fwShow a0) :=
  fun _ => ⟨fun _ h => (nomatch h), fun _ h => (nomatch h)⟩
theorem Operands.configExport : ∀ a0, Operands.Statement (.configExport a0) :=
  fun _ => ⟨fun _ h => (nomatch h), fun _ h => (nomatch h)⟩
theorem Operands.trialConfirm : ∀ a0, Operands.Statement (.trialConfirm a0) :=
  fun _ => ⟨fun _ h => (nomatch h), fun _ h => (nomatch h)⟩
theorem Operands.gateUpdateDone : ∀ a0 a1, Operands.Statement (.gateUpdateDone a0 a1) :=
  fun _ _ => ⟨fun _ h => (nomatch h), fun _ h => (nomatch h)⟩
theorem Operands.lifecycleShow : ∀ a0, Operands.Statement (.lifecycleShow a0) :=
  fun _ => ⟨fun _ h => (nomatch h), fun _ h => (nomatch h)⟩
theorem Operands.lifecycleSet : ∀ a0 a1 a2, Operands.Statement (.lifecycleSet a0 a1 a2) :=
  fun _ _ _ => ⟨fun _ h => h, fun _ h => (nomatch h)⟩
theorem Operands.testShow : ∀ a0, Operands.Statement (.testShow a0) :=
  fun _ => ⟨fun _ h => (nomatch h), fun _ h => (nomatch h)⟩
theorem Operands.testResults : ∀ a0 a1 a2 a3, Operands.Statement (.testResults a0 a1 a2 a3) :=
  fun _ _ _ _ => ⟨fun _ h => (nomatch h), fun _ h => (nomatch h)⟩
theorem Operands.testRun : ∀ a0 a1 a2 a3, Operands.Statement (.testRun a0 a1 a2 a3) :=
  fun _ _ _ _ => ⟨fun _ h => h, fun _ h => (nomatch h)⟩
theorem Operands.islandRevive : ∀ a0 a1, Operands.Statement (.islandRevive a0 a1) :=
  fun _ _ => ⟨fun _ h => h, fun _ h => (nomatch h)⟩
theorem Operands.resShow : ∀ a0, Operands.Statement (.resShow a0) :=
  fun _ => ⟨fun _ h => (nomatch h), fun _ h => (nomatch h)⟩
theorem Operands.frameSent : ∀ a0, Operands.Statement (.frameSent a0) :=
  fun _ => ⟨fun _ h => (nomatch h), fun _ h => (nomatch h)⟩
theorem Operands.handshakeTimeout : ∀ a0 a1, Operands.Statement (.handshakeTimeout a0 a1) :=
  fun _ _ => ⟨fun _ h => (nomatch h), fun _ h => (nomatch h)⟩
theorem Operands.dramRebuildDone : ∀ a0, Operands.Statement (.dramRebuildDone a0) :=
  fun _ => ⟨fun _ h => (nomatch h), fun _ h => (nomatch h)⟩
theorem Operands.hwstatFold : ∀ a0 a1 a2, Operands.Statement (.hwstatFold a0 a1 a2) :=
  fun _ _ _ => ⟨fun _ h => (nomatch h), fun _ h => (nomatch h)⟩
theorem Operands.eventLineWindowEnd : ∀ a0, Operands.Statement (.eventLineWindowEnd a0) :=
  fun _ => ⟨fun _ h => (nomatch h), fun _ h => (nomatch h)⟩
theorem Operands.linkDownshift : ∀ a0 a1, Operands.Statement (.linkDownshift a0 a1) :=
  fun _ _ => ⟨fun _ h => (nomatch h), fun _ h => (nomatch h)⟩
theorem Operands.lagNoPartner : ∀ a0, Operands.Statement (.lagNoPartner a0) :=
  fun _ => ⟨fun _ h => (nomatch h), fun _ h => (nomatch h)⟩
theorem Operands.counterHalf : ∀ a0 a1, Operands.Statement (.counterHalf a0 a1) :=
  fun _ _ => ⟨fun _ h => (nomatch h), fun _ h => (nomatch h)⟩
theorem Operands.counterFold : ∀ a0 a1, Operands.Statement (.counterFold a0 a1) :=
  fun _ _ => ⟨fun _ h => (nomatch h), fun _ h => (nomatch h)⟩
theorem Operands.counterSaturated : ∀ a0 a1, Operands.Statement (.counterSaturated a0 a1) :=
  fun _ _ => ⟨fun _ h => (nomatch h), fun _ h => (nomatch h)⟩
theorem Operands.icmpPacketTooBig : ∀ a0 a1, Operands.Statement (.icmpPacketTooBig a0 a1) :=
  fun _ _ => ⟨fun _ h => (nomatch h), fun _ h => (nomatch h)⟩
theorem Operands.closedPortPacket : ∀ a0 a1 a2 a3, Operands.Statement (.closedPortPacket a0 a1 a2 a3) :=
  fun _ _ _ _ => ⟨fun _ h => (nomatch h), fun _ h => (nomatch h)⟩
theorem Operands.lldpNeighbourExpiry : ∀ a0 a1 a2, Operands.Statement (.lldpNeighbourExpiry a0 a1 a2) :=
  fun _ _ _ => ⟨fun _ h => (nomatch h), fun _ h => (nomatch h)⟩
theorem Operands.tlsRecordFail : ∀ a0, Operands.Statement (.tlsRecordFail a0) :=
  fun _ => ⟨fun _ h => (nomatch h), fun _ h => (nomatch h)⟩
theorem Operands.discardTicketDone : ∀ a0, Operands.Statement (.discardTicketDone a0) :=
  fun _ => ⟨fun _ h => (nomatch h), fun _ h => (nomatch h)⟩
theorem Operands.relocateMessage : ∀ a0 a1, Operands.Statement (.relocateMessage a0 a1) :=
  fun _ _ => ⟨fun _ h => (nomatch h), fun _ h => (nomatch h)⟩
theorem Operands.checkpointSegment : ∀ a0 a1, Operands.Statement (.checkpointSegment a0 a1) :=
  fun _ _ => ⟨fun _ h => (nomatch h), fun _ h => (nomatch h)⟩
theorem Operands.bedBinEnd : ∀ a0, Operands.Statement (.bedBinEnd a0) :=
  fun _ => ⟨fun _ h => (nomatch h), fun _ h => (nomatch h)⟩
theorem Operands.dieFailed : ∀ a0 a1 a2, Operands.Statement (.dieFailed a0 a1 a2) :=
  fun _ _ _ => ⟨fun _ h => (nomatch h), fun _ h => (nomatch h)⟩
theorem Operands.shelterMoved : ∀ a0, Operands.Statement (.shelterMoved a0) :=
  fun _ => ⟨fun _ h => (nomatch h), fun _ h => (nomatch h)⟩
theorem Operands.gcLoadWindow : ∀ a0, Operands.Statement (.gcLoadWindow a0) :=
  fun _ => ⟨fun _ h => (nomatch h), fun _ h => (nomatch h)⟩
theorem Operands.gcBandFreed : ∀ a0, Operands.Statement (.gcBandFreed a0) :=
  fun _ => ⟨fun _ h => (nomatch h), fun _ h => (nomatch h)⟩
theorem Operands.eraseDone : ∀ a0 a1, Operands.Statement (.eraseDone a0 a1) :=
  fun _ _ => ⟨fun _ h => (nomatch h), fun _ h => (nomatch h)⟩
theorem Operands.patrolRead : ∀ a0 a1 a2 a3, Operands.Statement (.patrolRead a0 a1 a2 a3) :=
  fun _ _ _ _ => ⟨fun _ h => (nomatch h), fun _ h => (nomatch h)⟩
theorem Operands.shredScan : ∀ a0, Operands.Statement (.shredScan a0) :=
  fun _ => ⟨fun _ h => (nomatch h), fun _ h => (nomatch h)⟩
theorem Operands.arcSearch : ∀ a0 a1, Operands.Statement (.arcSearch a0 a1) :=
  fun _ _ => ⟨fun _ h => (nomatch h), fun _ h => (nomatch h)⟩
theorem Operands.arcCursorFree : ∀ a0, Operands.Statement (.arcCursorFree a0) :=
  fun _ => ⟨fun _ h => (nomatch h), fun _ h => (nomatch h)⟩
theorem Operands.arcScrubUnit : ∀ a0, Operands.Statement (.arcScrubUnit a0) :=
  fun _ => ⟨fun _ h => (nomatch h), fun _ h => (nomatch h)⟩
theorem Operands.arcRebuild : ∀ a0, Operands.Statement (.arcRebuild a0) :=
  fun _ => ⟨fun _ h => (nomatch h), fun _ h => (nomatch h)⟩
theorem Operands.rowRetransmit : ∀ a0 a1, Operands.Statement (.rowRetransmit a0 a1) :=
  fun _ _ => ⟨fun _ h => (nomatch h), fun _ h => (nomatch h)⟩
theorem Operands.findCancel : ∀ a0, Operands.Statement (.findCancel a0) :=
  fun _ => ⟨fun _ h => (nomatch h), fun _ h => (nomatch h)⟩
theorem Operands.mirrorCopyExpiry : ∀ a0 a1, Operands.Statement (.mirrorCopyExpiry a0 a1) :=
  fun _ _ => ⟨fun _ h => (nomatch h), fun _ h => (nomatch h)⟩
theorem Operands.relayOffer : ∀ a0 a1 a2, Operands.Statement (.relayOffer a0 a1 a2) :=
  fun _ _ _ => ⟨fun _ h => (nomatch h), fun _ h => (nomatch h)⟩
theorem Operands.pieceReq : ∀ a0 a1 a2, Operands.Statement (.pieceReq a0 a1 a2) :=
  fun _ _ _ => ⟨fun _ h => (nomatch h), fun _ h => (nomatch h)⟩
theorem Operands.relayPiece : ∀ a0 a1 a2 a3, Operands.Statement (.relayPiece a0 a1 a2 a3) :=
  fun _ _ _ _ => ⟨fun _ h => (nomatch h), fun _ h => (nomatch h)⟩
theorem Operands.relayStatus : ∀ a0 a1 a2 a3, Operands.Statement (.relayStatus a0 a1 a2 a3) :=
  fun _ _ _ _ => ⟨fun _ h => (nomatch h), fun _ h => (nomatch h)⟩
theorem Operands.zeroWindowTimeout : ∀ a0, Operands.Statement (.zeroWindowTimeout a0) :=
  fun _ => ⟨fun _ h => (nomatch h), fun _ h => (nomatch h)⟩
theorem Operands.cellReturn : ∀ a0, Operands.Statement (.cellReturn a0) :=
  fun _ => ⟨fun _ h => (nomatch h), fun _ h => (nomatch h)⟩
theorem Operands.relocateCopy : ∀ a0, Operands.Statement (.relocateCopy a0) :=
  fun _ => ⟨fun _ h => (nomatch h), fun _ h => (nomatch h)⟩
theorem Operands.leadSelect : Operands.Statement .leadSelect :=
  ⟨fun _ h => (nomatch h), fun _ h => (nomatch h)⟩
theorem Operands.s01BudgetMet : Operands.Statement .s01BudgetMet :=
  ⟨fun _ h => (nomatch h), fun _ h => (nomatch h)⟩
theorem Operands.startHotHold : Operands.Statement .startHotHold :=
  ⟨fun _ h => (nomatch h), fun _ h => (nomatch h)⟩
theorem Operands.s17LinkRetry : Operands.Statement .s17LinkRetry :=
  ⟨fun _ h => (nomatch h), fun _ h => (nomatch h)⟩
theorem Operands.haltDrainEnd : Operands.Statement .haltDrainEnd :=
  ⟨fun _ h => (nomatch h), fun _ h => (nomatch h)⟩
theorem Operands.powerFail : Operands.Statement .powerFail :=
  ⟨fun _ h => (nomatch h), fun _ h => (nomatch h)⟩
theorem Operands.levelUp : Operands.Statement .levelUp :=
  ⟨fun _ h => (nomatch h), fun _ h => (nomatch h)⟩
theorem Operands.starvedTimeout : Operands.Statement .starvedTimeout :=
  ⟨fun _ h => (nomatch h), fun _ h => (nomatch h)⟩
theorem Operands.holdupPeriodic : Operands.Statement .holdupPeriodic :=
  ⟨fun _ h => (nomatch h), fun _ h => (nomatch h)⟩
theorem Operands.holdupDischargeStart : Operands.Statement .holdupDischargeStart :=
  ⟨fun _ h => (nomatch h), fun _ h => (nomatch h)⟩
theorem Operands.bankRecharged : Operands.Statement .bankRecharged :=
  ⟨fun _ h => (nomatch h), fun _ h => (nomatch h)⟩
theorem Operands.capAdmission : Operands.Statement .capAdmission :=
  ⟨fun _ h => (nomatch h), fun _ h => (nomatch h)⟩
theorem Operands.referenceClockLoss : Operands.Statement .referenceClockLoss :=
  ⟨fun _ h => (nomatch h), fun _ h => (nomatch h)⟩
theorem Operands.gatehouseWatchdog : Operands.Statement .gatehouseWatchdog :=
  ⟨fun _ h => (nomatch h), fun _ h => (nomatch h)⟩
theorem Operands.gatehouseReset : Operands.Statement .gatehouseReset :=
  ⟨fun _ h => (nomatch h), fun _ h => (nomatch h)⟩
theorem Operands.gatehouseResetTimeout : Operands.Statement .gatehouseResetTimeout :=
  ⟨fun _ h => (nomatch h), fun _ h => (nomatch h)⟩
theorem Operands.dramScrub : Operands.Statement .dramScrub :=
  ⟨fun _ h => (nomatch h), fun _ h => (nomatch h)⟩
theorem Operands.usbAttach : Operands.Statement .usbAttach :=
  ⟨fun _ h => (nomatch h), fun _ h => (nomatch h)⟩
theorem Operands.usbDetach : Operands.Statement .usbDetach :=
  ⟨fun _ h => (nomatch h), fun _ h => (nomatch h)⟩
theorem Operands.usbSetLineCoding : Operands.Statement .usbSetLineCoding :=
  ⟨fun _ h => (nomatch h), fun _ h => (nomatch h)⟩
theorem Operands.buttonPress : Operands.Statement .buttonPress :=
  ⟨fun _ h => (nomatch h), fun _ h => (nomatch h)⟩
theorem Operands.buttonStuck : Operands.Statement .buttonStuck :=
  ⟨fun _ h => (nomatch h), fun _ h => (nomatch h)⟩
theorem Operands.buttonLockoutClear : Operands.Statement .buttonLockoutClear :=
  ⟨fun _ h => (nomatch h), fun _ h => (nomatch h)⟩
theorem Operands.lidOpen : Operands.Statement .lidOpen :=
  ⟨fun _ h => (nomatch h), fun _ h => (nomatch h)⟩
theorem Operands.lidClosed : Operands.Statement .lidClosed :=
  ⟨fun _ h => (nomatch h), fun _ h => (nomatch h)⟩
theorem Operands.presenceExpiry : Operands.Statement .presenceExpiry :=
  ⟨fun _ h => (nomatch h), fun _ h => (nomatch h)⟩
theorem Operands.jconFramingError : Operands.Statement .jconFramingError :=
  ⟨fun _ h => (nomatch h), fun _ h => (nomatch h)⟩
theorem Operands.jconShortBreak : Operands.Statement .jconShortBreak :=
  ⟨fun _ h => (nomatch h), fun _ h => (nomatch h)⟩
theorem Operands.lineFault : Operands.Statement .lineFault :=
  ⟨fun _ h => (nomatch h), fun _ h => (nomatch h)⟩
theorem Operands.lineRecovered : Operands.Statement .lineRecovered :=
  ⟨fun _ h => (nomatch h), fun _ h => (nomatch h)⟩
theorem Operands.locateExpiry : Operands.Statement .locateExpiry :=
  ⟨fun _ h => (nomatch h), fun _ h => (nomatch h)⟩
theorem Operands.bondRevert : Operands.Statement .bondRevert :=
  ⟨fun _ h => (nomatch h), fun _ h => (nomatch h)⟩
theorem Operands.ptpAnnounceTimeout : Operands.Statement .ptpAnnounceTimeout :=
  ⟨fun _ h => (nomatch h), fun _ h => (nomatch h)⟩
theorem Operands.timeStepRefused : Operands.Statement .timeStepRefused :=
  ⟨fun _ h => (nomatch h), fun _ h => (nomatch h)⟩
theorem Operands.rtcWrite : Operands.Statement .rtcWrite :=
  ⟨fun _ h => (nomatch h), fun _ h => (nomatch h)⟩
theorem Operands.ledgerCheckpoint : Operands.Statement .ledgerCheckpoint :=
  ⟨fun _ h => (nomatch h), fun _ h => (nomatch h)⟩
theorem Operands.schedDispatch : Operands.Statement .schedDispatch :=
  ⟨fun _ h => (nomatch h), fun _ h => (nomatch h)⟩
theorem Operands.meterTick : Operands.Statement .meterTick :=
  ⟨fun _ h => (nomatch h), fun _ h => (nomatch h)⟩
theorem Operands.logProgram : Operands.Statement .logProgram :=
  ⟨fun _ h => (nomatch h), fun _ h => (nomatch h)⟩
theorem Operands.rebuildBand : Operands.Statement .rebuildBand :=
  ⟨fun _ h => (nomatch h), fun _ h => (nomatch h)⟩
theorem Operands.gcReclaimTimer : Operands.Statement .gcReclaimTimer :=
  ⟨fun _ h => (nomatch h), fun _ h => (nomatch h)⟩
theorem Operands.wearLevelMove : Operands.Statement .wearLevelMove :=
  ⟨fun _ h => (nomatch h), fun _ h => (nomatch h)⟩
theorem Operands.blockRefreshed : Operands.Statement .blockRefreshed :=
  ⟨fun _ h => (nomatch h), fun _ h => (nomatch h)⟩
theorem Operands.healthTempTick : Operands.Statement .healthTempTick :=
  ⟨fun _ h => (nomatch h), fun _ h => (nomatch h)⟩
theorem Operands.arcInsert : Operands.Statement .arcInsert :=
  ⟨fun _ h => (nomatch h), fun _ h => (nomatch h)⟩
theorem Operands.arcInvalidate : Operands.Statement .arcInvalidate :=
  ⟨fun _ h => (nomatch h), fun _ h => (nomatch h)⟩
theorem Operands.arcScrubPass : Operands.Statement .arcScrubPass :=
  ⟨fun _ h => (nomatch h), fun _ h => (nomatch h)⟩
theorem Operands.beaconSend : Operands.Statement .beaconSend :=
  ⟨fun _ h => (nomatch h), fun _ h => (nomatch h)⟩
theorem Operands.leaderTimeout : Operands.Statement .leaderTimeout :=
  ⟨fun _ h => (nomatch h), fun _ h => (nomatch h)⟩
theorem Operands.mirrorRetry : Operands.Statement .mirrorRetry :=
  ⟨fun _ h => (nomatch h), fun _ h => (nomatch h)⟩
theorem Operands.mirrorSend : Operands.Statement .mirrorSend :=
  ⟨fun _ h => (nomatch h), fun _ h => (nomatch h)⟩
theorem Operands.mirrorCatchup : Operands.Statement .mirrorCatchup :=
  ⟨fun _ h => (nomatch h), fun _ h => (nomatch h)⟩
theorem Operands.parcelExpiry : Operands.Statement .parcelExpiry :=
  ⟨fun _ h => (nomatch h), fun _ h => (nomatch h)⟩
theorem Operands.trialWindowEnd : Operands.Statement .trialWindowEnd :=
  ⟨fun _ h => (nomatch h), fun _ h => (nomatch h)⟩
theorem Operands.eventLogCopy : Operands.Statement .eventLogCopy :=
  ⟨fun _ h => (nomatch h), fun _ h => (nomatch h)⟩

end Sys2Proof.Laws
end

