-- ==== Sys2Proof/Tests/Slice0.lean ====
section
/-!
SUPPORT. Tests: states and operands that meet the hypotheses of every statement, an ill-formed command for each check of
`Instr.wf`, and single steps against the spec's worked examples.
-/

namespace Sys2Proof.Tests

open Sys2Proof Sys2Proof.Machine Sys2Proof.Laws

set_option maxRecDepth 10000
set_option Elab.async false

/-! ### Small states -/

/-- A line of the USB console, with a tag. -/
def uLine : Line := { sess := .usb, tag := some 1 }

/-- An open session in machine mode. -/
def mSess : Session := { machine := true }

/-- Every island runs. -/
def allRun : AMap Island IslRec := Island.all.map (fun i => (i, { state := .run }))

/-- A drive in READY: powered at its first port, every island up, the USB console open, the presence window open. -/
def rdy : State :=
  { State.reset with
    phase := .ready
    bay := { usb := true, window := some 900000000 }
    isl := { recs := allRun }
    power := { feeds := ⟨{ powered := true, detect := true, pseType := 4, alloc := some 510 }, {}⟩, lead := some .p0,
               level := .l0, eMeas := 6000, vBank := 32000 }
    con := { sessions := [(.usb, mSess)] }
    ports := { port := ⟨{ link := true, speed := 4 }, {}⟩, active := some .p0 }
    proto := { listening := true } }

/-- The checks of a console line, as a test. -/
def passes (s : State) (l : Line) (i : CmdInfo) (bad : Option ErrName) (d : Session) : Bool :=
  decide (getSess s l.sess = some d) && ! d.closing && ! (decide (l.sess = .jcon) && s.bay.lineFault)
    && (isMgmt l.sess || ! consolesPaused s) && decide (d.machine = true → l.tag ≠ none) && decide (d.slots.length < 4)
    && decide (refusal (heard s l) d l i bad = none)

theorem accepts_of {s : State} {l : Line} {i : CmdInfo} {bad : Option ErrName} {d : Session}
    (h : passes s l i bad d = true) : Accepts s l i bad d := by
  simp only [passes, Bool.and_eq_true, Bool.not_eq_true', Bool.or_eq_true, decide_eq_true_eq] at h
  obtain ⟨⟨⟨⟨⟨⟨h1, h2⟩, h3⟩, h4⟩, ht⟩, h5⟩, h6⟩ := h
  refine ⟨h1, h2, fun e => ?_, h4, ht, h5, h6⟩
  rw [decide_eq_true e, Bool.true_and] at h3
  exact h3

/-- The checks of a frame, as a test. -/
def frameFits (s : State) (i : Nat) (f : Frame) (c : Conn) (st : ConnStage) : Bool :=
  decide (getConn s i = some c) && decide (c.stage = st) && decide (f.gen = genCode c.gen) && f.pcrcOk
    && decide (fieldFault c f = none)

theorem passes_of {s : State} {i : Nat} {f : Frame} {c : Conn} {st : ConnStage} (h : frameFits s i f c st = true) :
    Passes s i f c st := by
  simp only [frameFits, Bool.and_eq_true, decide_eq_true_eq] at h
  obtain ⟨⟨⟨⟨h1, h2⟩, h3⟩, h4⟩, h5⟩ := h
  exact ⟨h1, h2, h3, h4, h5⟩

/-- The checks of a request, as a test. -/
def requestFits (s : State) (i : Nat) (f : Frame) (c : Conn) (code : OpCode) (ch : Chan) : Bool :=
  frameFits s i f c .open_ && decide (f.kind = 1) && (decide (c.blocked = []) && stagingFits (received s i) i f.dataLen)
    && decide (opOfCode f.opcode = some code)
    && decide (c.gen ≠ .kv1 → f.stall = c.stall.getD 0)
    && decide (c.gen ≠ .kv1 → f.generation = (getStall s (c.stall.getD 0)).generation ∧
        c.generation = (getStall s (c.stall.getD 0)).generation)
    && decide (getChan s i f.channel = some ch) && decide (ch.out.length < ch.maxOut)

theorem passesAll_of {s : State} {i : Nat} {f : Frame} {c : Conn} {code : OpCode} {ch : Chan}
    (h : requestFits s i f c code ch = true) : PassesAll s i f c code ch := by
  simp only [requestFits, Bool.and_eq_true, decide_eq_true_eq] at h
  obtain ⟨⟨⟨⟨⟨⟨⟨h1, h2⟩, hs⟩, h3⟩, h4⟩, h5⟩, h6⟩, h7⟩ := h
  exact ⟨passes_of h1, h2, ⟨hs.1, hs.2⟩, h3, h4, h5, h6, h7⟩

/-- The checks of a new request, as a test. -/
def admitFits (s : State) (i : Nat) (f : Frame) (c : Conn) (code : OpCode) (ch : Chan) : Bool :=
  requestFits s i f c code ch && (ch.window.find? (fun e => decide (e.reqId = f.reqId))).isNone
    && (turnedAway s c (c.stall.getD 0)).isNone && decide ((getStall s (c.stall.getD 0)).state = .active)

theorem admits_of {s : State} {i : Nat} {f : Frame} {c : Conn} {code : OpCode} {ch : Chan}
    (h : admitFits s i f c code ch = true) : Admits s i f c code ch := by
  simp only [admitFits, Bool.and_eq_true, decide_eq_true_eq, Option.isNone_iff_eq_none] at h
  obtain ⟨⟨⟨h1, h2⟩, h3⟩, h4⟩ := h
  exact { passesAll_of h1 with fresh := h2, taken := h3, active := h4 }

/-- The checks of a row message, as a test. -/
def arrivesB (s : State) (h : RowHdr) : Bool :=
  rowRuns s && rowKnows s h.peer
    && (s.row.seen.find? (fun x => decide (x.1 = h.peer) && decide (x.2.1 = h.msgId))).isNone

theorem arrives_of {s : State} {h : RowHdr} (k : arrivesB s h = true) : Arrives s h := by
  simp only [arrivesB, Bool.and_eq_true, Option.isNone_iff_eq_none] at k
  exact ⟨k.1.1, k.1.2, k.2⟩

/-- A state with one stored field changed. -/
def setF (s : State) (a : Attr) (n : String) (v : Nat) : State :=
  match attrField? a n with
  | none => s
  | some f => cfgStore s a (fieldPut f (cfgWord s a) v)

/-- A KV2 connection in a stage, bound to stall 0. -/
def conn2 (st : ConnStage) : Conn :=
  { gen := .kv2, peer := 1, ifc := 8, port := .p0, local_ := 0, stage := st, stageAt := 0, lastRx := 0, stall := some 0,
    slot := some 0, chans := [{ no := 0, maxOut := 64 }] }

/-- A KV3 connection in a stage, bound to stall 0. -/
def conn3 (st : ConnStage) : Conn :=
  { gen := .kv3, peer := 1, ifc := 8, port := .p0, local_ := 0, tls := true, tlsAuth := .psk 0 0 true, stage := st,
    stageAt := 0, lastRx := 0, stall := some 0, chans := [{ no := 0, maxOut := 64 }] }

/-- Before HELLO a connection has no channel. -/
def early (c : Conn) : Conn := { c with stall := none, chans := [] }

/-- The ready drive with one connection and a stall 0. -/
def withConn (c : Conn) (x : Stall) : State :=
  { rdy with proto := { rdy.proto with conns := [(0, c)], nextConn := 1 }, stalls := { tab := [(0, x)], active := [0] } }

/-- A stall in use. -/
def act : Stall := { state := .active, owner := some 0, creds := [(0, .secret [])] }

/-- A HELLO that names stall 0. -/
def helloFrame (gen : Nat) : Frame :=
  { gen := gen, kind := 3, opcode := 0, reqId := 1, dataLen := 64, data := List.replicate 64 0 }

/-- A request of an operation on channel 0. -/
def request (op : Nat) : Frame := { gen := 3, opcode := op, reqId := 7, keyLen := 1, key := [1] }

/-- The AUTH of a KV2 client that knows the empty secret. -/
def authFrame : Frame :=
  { gen := 2, kind := 5, opcode := 1, reqId := 1, data := Config.hmacSha256 [] (challenge clientName (conn2 .auth)) }

/-- Logical page 0 lies on the first page of band 5; array reads are queued for operations. -/
def mappedPage (reads : List (ReadFor × Nat)) : State :=
  { rdy with media := { State.reset.media with
    map := [(0, (5, 0))], reads := reads
    bands := [(5, { state := .full, pages := [{ kind := .data, pseq := 1, ltime := 0 }] })] } }

/-- An operation of the connection on key 1 of stall 0. -/
def opOf (code : OpCode) : Op :=
  { conn := 0, chan := 0, stall := 0, generation := 0, frame := request 1, code := code,
    snap := { policy := 0x0000000000000100, retention := 0xFFFFFFFFFFFFFFFF,
              quota := [26000000000000, 26000000000000, 268435456, 98304] },
    at_ := 0, phase := .working, keys := [{ stall := 0, key := [1] }] }

/-- An object of three bytes. -/
def obj3 : Obj := { value := [1, 2, 3], tags := [], version := 1, incarnation := 5, expiry := 900000000000000 }

/-- The drive with that connection open, operation 1, and the object at its key if any. -/
def withOp (o : Op) (y : Option Obj) : State :=
  { withConn (conn3 .open_) act with
    kv := { ops := [(1, o)], nextOp := 2, nextTicket := 2, nextInc := 9,
            objs := match y with | some y => [({ stall := 0, key := [1] }, y)] | none => [] } }

/-- Four bytes, most significant first. -/
def be4 (n : Nat) : List Byte := [n / 16777216, n / 65536 % 256, n / 256 % 256, n % 256].map (BitVec.ofNat 8)

/-- The first 28 bytes of a KV1 heartbeat. -/
def beatHead : List Byte := be4 sync1 ++ [1, 0x13, 0, 0] ++ be4 1 ++ List.replicate 16 0

/-- A KV1 heartbeat datagram. -/
def beat : List Byte := beatHead ++ be4 (crc32c beatHead) ++ be4 (crc32c []) ++ be4 endMark

/-- The KV3 connection with request 7 already seen on channel 0. -/
def conn3w : Conn := { conn3 .open_ with chans := [{ no := 0, maxOut := 64, window := [{ reqId := 7, cached := none, sent := true }] }] }

/-- A connection whose client asked to close. -/
def conn2x : Conn := { conn2 .open_ with goingAway := true }

/-- An operation of a request without a key. -/
def bare (code : OpCode) : Op := { opOf code with frame := { gen := 3, opcode := 1, reqId := 7 }, keys := [] }

/-- The state of `withOp` with a ticket 0. -/
def withTicket (o : Op) (t : Ticket) : State :=
  { withOp o none with kv := { (withOp o none).kv with tickets := [(0, t)], nextTicket := 2 } }

/-- An upload of stall 0 on key 1. -/
def upload : Upload :=
  { key := { stall := 0, key := [1] }, generation := 0, tags := [], override := 0, createOnly := false, ifMatch := none, lastAt := 0 }

/-- The state of `withOp` with uploads. -/
def withUploads (o : Op) (n : Nat) : State :=
  { withOp o none with kv := { (withOp o none).kv with uploads := (List.range n).map (fun i => (i, upload)) } }

/-- The ready drive with a stall 0. -/
def withStall (x : Stall) : State := { rdy with stalls := { tab := [(0, x)], active := [0] } }

/-- A relocation at its source. -/
def relocSrc : Relocation := { peer := 7, peerStall := 3, source := true, rate := 100, toCopy := [] }

/-- A message. -/
def msg1 : Msg := { seq := 1, type := 0, ltime := 0, body := [1] }

/-- A readiness blob of stall 0. -/
def blob0 : Blob :=
  { generation := 1, freezeSeq := 1, ltime := 0, wall := 0, config := [], levels := [], toWarden := {}, toTenant := {},
    meter := none, resumption := ([], 0), bytes := List.replicate 184 0 }

/-- A metering period of kind 0 between two boundaries. -/
def period0 (b : Option (Nat × Nat)) : Period := { seq := 1, kind := 0, bounds := b, wallOpen := 0, ltimeOpen := 0 }

/-- The lock of key 1 of stall 0, held by an operation. -/
def locked (id : Nat) : AMap Nat Nat := [(fpOf { stall := 0, key := [1] }, id)]

/-- A FLUSH behind a write that waits, in the cold. -/
def coldFlush : State :=
  { withConn { conn3 .open_ with chans := [{ no := 0, maxOut := 64, writes := [(0, 4)] }] } act with
    kv := { ops := [(1, bare .flush)], nextOp := 2 }
    media := { State.reset.media with packs := [((0, 0), { lpn := 0, binEnd := 0, at_ := 0, used := 0, recs := [({ stall := 0, key := [1] }, 4)] })] }
    power := { rdy.power with coldGate := true } }

/-- An MBX_SEND to a full queue. -/
def mbxFull : State :=
  { withOp { bare .mbxSend with frame := { gen := 3, opcode := 1, reqId := 7, dataLen := 1, data := [1] } } none with
    stalls := { tab := [(0, { act with toWarden := { msgs := List.replicate 16 msg1, next := 17 } })], active := [0] } }

/-- A stall whose load buffer holds the byte of an issued blob. -/
def blobState (x : Stall) (b : Blob) : State := { withStall x with stalls := { tab := [(0, x)], active := [0], issued := [(0, b)] } }

/-- The drive in a row with drive 5. -/
def rowRdy : State :=
  { rdy with row := { key := some (List.replicate 32 0), state := .member, epoch := 1, members := [{ serial := 5, position := 0, at_ := 0 }] } }

/-- A stall 0 in use in a row whose other member is not this drive. -/
def memberRow : State :=
  { withStall act with row := { rowRdy.row with members := [{ serial := Config.serial + 1, position := 0, at_ := 0 }] } }

theorem memberRow_member : isMember memberRow (Config.serial + 1) = true := by
  simp [isMember, memberRow]


/-- A relocation in which the value of one key has changed. -/
def bigReloc (n : Nat) : State :=
  { withStall { act with reloc := some { relocSrc with changed := [{ stall := 0, key := [1] }] } } with
    kv := { objs := [({ stall := 0, key := [1] }, { obj3 with value := List.replicate n 0 })] } }

theorem bigReloc_bytes (n : Nat) : n < changedBytes (bigReloc n) { relocSrc with changed := [{ stall := 0, key := [1] }] } := by
  have h : objOf (bigReloc n) { stall := 0, key := [1] } = some { obj3 with value := List.replicate n 0 } := rfl
  simp only [changedBytes, copyBytes, List.map_cons, List.map_nil, h, listSum, List.length_replicate, List.length_cons, List.length_nil, List.foldl_cons, List.foldl_nil]
  omega

/-- Two dies lost in every lane group: no band is FREE. -/
def twoLost : List (Fin 16 × Fin 8) := (List.finRange 8).flatMap (fun t => [(0, t), (1, t)])

/-- The ready drive with a shred job and its ticket. -/
def shredState (j : ShredJob) : State :=
  { rdy with upkeep := { shreds := [j] }, kv := { tickets := [(0, { stall := 0, generation := 0, kind := .shred })], nextTicket := 2 } }

/-- An object mirrored from drive 5. -/
def mobj : MirrorObj :=
  { origin := 5, key := { stall := 0, key := [1] }, tags := [1], value := [1], version := 1, held := false, wseq := 1, remaining := 5 }

/-- A beacon of a drive other than this one, heard for the first time, passes its checks. -/
theorem beaconOk_of {s : State} {b : Beacon} (h : (b.wellFormed && decide (b.rowId = cfgField s .rowCfg "ROW_ID") && b.macOk) = true)
    (e : b.serial = Config.serial + 1) (n : s.row.seqs = []) : beaconOk s b = true := by
  simp only [beaconOk, h, n, e, AMap.find, Bool.true_and, Bool.and_true]
  exact decide_eq_true (Nat.succ_ne_self _)

theorem isMember_of {s : State} {x : Nat} {m : Member} (h : s.row.members = [m]) (e : m.serial = x) : isMember s x = true := by
  simp [isMember, h, e]

/-- A leader with one other member. -/
def memberLead : State :=
  { rdy with row := { rowRdy.row with state := .leader, beaconing := true,
                                      members := [{ serial := Config.serial + 1, position := 0, at_ := 0 }] } }

/-- The manifest of a parcel of two pieces. -/
def man : Manifest :=
  { magic := "CXPARCEL", format := 1, reservedZero := true, signed := true
    components := [(0, 60000), (60000, 10000), (0, 0)], variants := 3, comp := 3, pieces := 2, svn := 0, order := 0, id := 6, version := 2, gateVersion := 1
    length := 70000, fromMin := 0, gateMin := 0, gateMax := 9, mainMin := 0, mainMax := 9, metaWrite := 1, metaReadMin := 0 }

/-- A parcel that holds piece 0 and piece 5. -/
def parcel0 : Parcel := { state := .receiving, manifest := man, hash0 := [1], pieces := [0], since := 0, lastAt := 0 }

/-- The ready drive with a parcel. -/
def withParcel (p : Parcel) : State := { rdy with fw := { parcel := some p } }

/-- The same, long after its last piece. -/
def lateParcel (p : Parcel) : State := { withParcel p with clock := { rdy.clock with ledger := 1000000000000 } }

/-- The ready drive in row 1, with mirroring on. -/
def mirrorBase : State := setF (setF rdy .rowCfg "MIRROR" 1) .rowCfg "ROW_ID" 1

/-- It mirrors to drive 5 and has one entry queued. -/
def mirrorRow (e : MirrorEntry) : State :=
  { mirrorBase with
    row := { rowRdy.row with
             members := [{ serial := Config.serial, position := 0, at_ := 0 }, { serial := 5, position := 1, at_ := 0 }], queue := [e] } }

theorem mirrorBase_fields : cfgField mirrorBase .rowCfg "MIRROR" = 1 ∧ rowOn mirrorBase = true := by decide +kernel

theorem mirrorRow_peer (e : MirrorEntry) : mirrorPeer (mirrorRow e) = some 5 := by
  have h : cfgField (mirrorRow e) .rowCfg "MIRROR" = 1 ∧ rowOn (mirrorRow e) = true := mirrorBase_fields
  unfold mirrorPeer
  rw [if_pos h]
  simp [neighbourOf, successorOf, mirrorRow]

theorem rdy_stores : StoresOk rdy := by
  refine ⟨⟨?_, ?_, ?_, ?_, ?_, ?_, ?_, ?_⟩, ⟨?_, ?_, ?_⟩, ?_⟩ <;>
    first | exact Nat.zero_le _ | simp [rdy, State.reset]

/-- A frame to every station passes the filter of a port that takes broadcasts. -/
theorem broadcast_passes {s : State} {p : PortId} {d : MacAddr} (h : cfgField s (.macCfg p) "BCAST" = 1) (e : d = BitVec.allOnes 48) :
    passesFilter s p d = true := by
  simp [passesFilter, h, e]

/-- A TXN on key 1 that waits for its lock, which operation `id` holds. -/
def lockState (id : Option Nat) : State :=
  { withOp { opOf .txn with phase := .waitLock, lockAt := some 0 } none with
    kv := { ops := [(1, { opOf .txn with phase := .waitLock, lockAt := some 0 })], nextOp := 2
            locks := match id with | some i => locked i | none => [] } }

theorem txnFps_one {o : Op} {k : ObjKey} (h : o.keys = [k]) : txnFps o = [fpOf k] := by
  simp [txnFps, h, sortBy, insertBy]

theorem locks_other : holdsAll (lockTxn (lockState (some 0)) 1 { opOf .txn with phase := .waitLock, lockAt := some 0 }) 1
    (txnFps { opOf .txn with phase := .waitLock, lockAt := some 0 }) = false := by
  unfold lockTxn
  rw [txnFps_one (k := { stall := 0, key := [1] }) rfl]
  simp [takeLocks, lockedByOther, holdsAll, lockState, locked, updOp, updKv, AMap.find]

theorem locks_taken : holdsAll (lockTxn (lockState none) 1 { opOf .txn with phase := .waitLock, lockAt := some 0 }) 1
    (txnFps { opOf .txn with phase := .waitLock, lockAt := some 0 }) = true := by
  unfold lockTxn
  rw [txnFps_one (k := { stall := 0, key := [1] }) rfl]
  simp [takeLocks, lockedByOther, takeLock, holdsAll, lockState, updOp, updKv, AMap.find, AMap.set]

theorem locks_held : holdsAll (lockState (some 1)) 1 (txnFps { opOf .txn with phase := .waitLock, lockAt := some 0 }) = true := by
  rw [txnFps_one (k := { stall := 0, key := [1] }) rfl]
  simp [holdsAll, lockState, locked, AMap.find]

theorem locks_free : holdsAll (lockState none) 1 (txnFps { opOf .txn with phase := .waitLock, lockAt := some 0 }) = false := by
  rw [txnFps_one (k := { stall := 0, key := [1] }) rfl]
  simp [holdsAll, lockState]

/-- A leader of a row of `n` members, all written with this drive's serial. -/
def rowOfN (n : Nat) : State :=
  { rdy with row := { rowRdy.row with state := .leader, beaconing := true,
                                      members := List.replicate n { serial := Config.serial, position := 0, at_ := 0 } } }

theorem rowOfN_member (n : Nat) : isMember (rowOfN n) (Config.serial + 1) = false := by
  simp only [isMember, rowOfN, List.any_replicate]
  split
  · rfl
  · exact decide_eq_false (fun h => Nat.succ_ne_self _ h.symm)

/-- A first beacon of another drive. -/
def beaconOf : Beacon :=
  { rowId := 0, leader := false, joining := false, serial := Config.serial + 1, epoch := 0, seq := 1, position := 0, state := 0
    members := [] }

/-- A drive that takes relayed parcels, in a row with drive 5. -/
def relayRow : State :=
  { setF rdy .fwCfg "RELAY_ACCEPT" 1 with
    row := { rowRdy.row with
             members := [{ serial := Config.serial, position := 0, at_ := 0 }, { serial := 5, position := 1, at_ := 0 }] } }

theorem relayRow_next (o : RelayOffer) (st : RelayStat) :
    neighbourOf (rowSend (noted relayRow { peer := 5, msgId := 1 }) o.source (.relayStatus o.parcel Config.serial st)) = some 5 := by
  have h : (rowSend (noted relayRow { peer := 5, msgId := 1 }) o.source (.relayStatus o.parcel Config.serial st)).row.members =
      [{ serial := Config.serial, position := 0, at_ := 0 }, { serial := 5, position := 1, at_ := 0 }] := by
    exact rowSend_members
  unfold neighbourOf successorOf
  rw [h]
  simp

theorem relayRow_arrives : Arrives relayRow { peer := 5, msgId := 1 } :=
  ⟨rfl, by simp [rowKnows, isMember, relayRow], rfl⟩

/-! ### Ill-formed commands: one for each check of `Instr.wf` -/

/-- A well-formed frame. -/
def fr : Frame := { gen := 2, opcode := 1, reqId := 7, keyLen := 1, key := [1] }

/-- Frames with one header field too wide, or a section whose length the header does not declare. -/
def badFrames : List Frame :=
  [{ fr with gen := 256 }, { fr with kind := 256 }, { fr with opcode := 256 }, { fr with channel := 256 },
    { fr with reqId := 2 ^ 64 }, { fr with keyLen := 256, key := List.replicate 256 0 },
    { fr with tagCount := 8, tags := List.replicate 8 0 }, { fr with generation := 2 ^ 32 }, { fr with status := 65536 },
    { fr with flags := 65536 }, { fr with version := 2 ^ 64 }, { fr with incarnation := 2 ^ 64 }, { fr with arg := 2 ^ 64 },
    { fr with detail := 2 ^ 32 }, { fr with keyLen := 2 }, { fr with tagCount := 1 }, { fr with dataLen := 1 },
    { fr with dataLen := 2 ^ 32 }]

/-- A well-formed frame passes; every frame of `badFrames` is refused. -/
theorem test_wf_frames : (Instr.put 0 fr).wf = true ∧ badFrames.all (fun f => ! (Instr.put 0 f).wf) = true := by decide +kernel

/-- Manifests with one field too wide. -/
def badManifests : List Manifest :=
  [{ man with variants := 256 }, { man with comp := 256 }, { man with pieces := 65536 }, { man with svn := 256 },
    { man with order := 256 }, { man with id := 2 ^ 64 }, { man with version := 2 ^ 64 }, { man with gateVersion := 2 ^ 64 },
    { man with length := 2 ^ 64 }, { man with fromMin := 2 ^ 64 }, { man with gateMin := 2 ^ 64 }, { man with gateMax := 2 ^ 64 },
    { man with mainMin := 2 ^ 64 }, { man with mainMax := 2 ^ 64 }, { man with metaWrite := 2 ^ 32 },
    { man with metaReadMin := 2 ^ 32 }]

/-- A well-formed manifest with its hash of 48 bytes passes; every manifest of `badManifests`, and a hash of 47 bytes, is
refused. -/
theorem test_wf_manifests : (Instr.parcelPiece uLine 0 1 (.manifest man (List.replicate 48 0))).wf = true ∧
    (Instr.parcelPiece uLine 0 1 (.manifest man (List.replicate 47 0))).wf = false ∧
    badManifests.all (fun m => ! (Instr.parcelPiece uLine 0 1 (.manifest m (List.replicate 48 0))).wf) = true := by decide +kernel

/-- A power class of 0 or 6 events. -/
theorem test_wf_classEvents : (Instr.portPowerOn .p0 5).wf = true ∧ (Instr.portPowerOn .p0 0).wf = false ∧
    (Instr.portPowerOn .p0 6).wf = false ∧ (Instr.feedRestored .p0 6).wf = false := by decide +kernel

/-- Steps outside 1 to 24, a step with findings of its own given as a plain one, findings of another step. -/
theorem test_wf_steps : (Instr.startStepComplete (.plain 5)).wf = true ∧ (Instr.startStepComplete (.plain 3)).wf = false ∧
    (Instr.startStepComplete (.plain 0)).wf = false ∧ (Instr.startStepComplete (.plain 25)).wf = false ∧
    (Instr.startStepFail 0 0).wf = false ∧ (Instr.startStepFail 25 0).wf = false ∧
    (Instr.startStepTimeout 0 (.plain 0)).wf = false ∧ (Instr.startStepTimeout 25 (.plain 25)).wf = false ∧
    (Instr.startStepTimeout 5 (.plain 6)).wf = false ∧ (Instr.startStepTimeout 9 (.plain 9)).wf = false := by decide +kernel

/-- Test outcomes whose part does not fit their result. -/
theorem test_wf_outcomes : (Instr.selftestIslandDone { island := .arc, result := .pass, part := .none_ }).wf = true ∧
    (Instr.selftestIslandDone { island := .arc, result := .pass, part := .sram }).wf = false ∧
    (Instr.selftestIslandDone { island := .arc, result := .aborted, part := .sram }).wf = false ∧
    (Instr.selftestIslandDone { island := .arc, result := .skipped, part := .sram }).wf = false ∧
    (Instr.selftestIslandDone { island := .arc, result := .fail, part := .none_ }).wf = false ∧
    (Instr.selftestIslandDone { island := .arc, result := .fail, part := .limits }).wf = false ∧
    (Instr.selftestLimitLeft { island := .arc, result := .fail, part := .budget }).wf = false ∧
    (Instr.selftestLimitLeft { island := .arc, result := .notRun, part := .none_ }).wf = false := by decide +kernel

/-- Port operands out of range. -/
theorem test_wf_ports : (Instr.lldpAllocation .p0 65535).wf = true ∧ (Instr.lldpAllocation .p0 65536).wf = false ∧
    (Instr.linkUp .p0 0 0).wf = false ∧ (Instr.linkUp .p0 6 0).wf = false ∧ (Instr.linkDownshift .p0 0).wf = false ∧
    (Instr.pauseFrame .p0 65536).wf = false ∧
    (Instr.frameReceive .p0 { len := 64, dst := 0, vid := 4096 }).wf = false ∧
    (Instr.wake .p0 { len := 0, dst := 0, bytes := [0] }).wf = false := by decide +kernel

/-- Byte strings of the wrong length. -/
theorem test_wf_lengths : (Instr.wardenEnrol uLine 0 (List.replicate 32 0) none).wf = true ∧
    (Instr.wardenEnrol uLine 0 (List.replicate 31 0) none).wf = false ∧
    (Instr.mgmtConnect 8 0 (List.replicate 33 0) {} 0).wf = false ∧
    (Instr.rowKeySet uLine (List.replicate 31 0)).wf = false ∧ (Instr.stallKeyExport uLine 0 []).wf = false ∧
    (Instr.objectExpiry { stall := 0, key := [] }).wf = false ∧
    (Instr.objectExpiry { stall := 0, key := List.replicate 256 0 }).wf = false := by decide +kernel

/-- Row headers with MSG_ID 0, a MSG_ID too wide, or no sender; a load above 100 percent, a refill of no time, band numbers
beyond 32 bits. -/
theorem test_wf_rest : (Instr.rowLeave { peer := 5, msgId := 1 }).wf = true ∧ (Instr.rowLeave { peer := 5, msgId := 0 }).wf = false ∧
    (Instr.rowLeave { peer := 5, msgId := 2 ^ 64 }).wf = false ∧ (Instr.rowLeave { peer := 0, msgId := 1 }).wf = false ∧
    (Instr.gcLoadWindow 100).wf = true ∧ (Instr.gcLoadWindow 101).wf = false ∧ (Instr.bucketRefill 0 0).wf = false ∧
    (Instr.bandShow uLine 2147483648).wf = false ∧ (Instr.bandShow uLine (-2147483649)).wf = false := by decide +kernel

/-! ### One step against the spec's worked examples -/

/-- A field of the state after one command. -/
def after1 {α : Type} (c : Instr) (s : State) (d : α) (f : State → α) : α :=
  match step { s with pending := [c] } with
  | .next t => f t
  | .fault _ => d
  | .refused _ => d

/-- SCHED.STALL17.WEIGHT is 0x0701_0511 (ch. 20, Worked example: one attribute and one record). -/
theorem test_attr_number : attrNum (.schedWeight 17) = 0x07010511 := by decide

/-- LEVEL_CHANGE has code 0x0204 (the same example). -/
theorem test_event_code : evCode .levelChange = 0x0204 := by decide

/-- The Cap against measured energy table (ch. 03, Worked example: budgets at 60 J and at 30 J), in 0.01 J, and the cap of
214 MiB at 58.8 J. -/
theorem test_cap : capOf 11000 256 = 256 ∧ capOf 6000 256 = 220 ∧ capOf 5880 256 = 214 ∧ capOf 3000 256 = 70 ∧
    capOf 2240 256 = 32 := by decide

/-- A press of 3,418 ms opens the window for 600 s (ch. 02, Worked example: a press, then a broken channel, step 8). -/
theorem test_button_release :
    after1 (.buttonRelease 3418) { rdy with bay := { rdy.bay with button := .pressed, btn := true, window := none } } none
      (fun t => t.bay.window) = some 600000000 := by decide +kernel

/-- The lid opens: TAMPER is set (the same example, step 2). -/
theorem test_lid_open : after1 .lidOpen rdy (Lid.closed, false) (fun t => (t.bay.lid, t.bay.tamper)) = (Lid.open_, true) := by decide +kernel

/-- A broken channel locks the button out and closes the window (the same example, step 11). -/
theorem test_button_lockout :
    after1 (.buttonDiscrepancy false) { rdy with bay := { rdy.bay with button := .released } } none (fun t => t.bay.window) = none ∧
    after1 (.buttonDiscrepancy false) { rdy with bay := { rdy.bay with button := .released } } Button.released
      (fun t => t.bay.button) = .lockout := by decide +kernel

/-- A write of 300 to DIRTY_CAP is answered `err RANGE` (ch. 04, Worked example: lowering the level and the cap together). -/
theorem test_dirty_cap_range :
    after1 (.attrSet uLine (attrNum .policy) { fields := [("DIRTY_CAP", some 300)] }) rdy none
      (fun t => t.out.find? (fun o => match o with | .reply _ _ _ => true | _ => false)) =
      some (.reply .usb (some 1) (.err .range)) := by decide +kernel

/-- Folding RX_OCTETS: the accumulator takes the amount and the octets that arrived meanwhile stay in the counter (ch. 07,
Worked example: folding RX_OCTETS). -/
theorem test_fold :
    after1 (.hwstatFold .p0 0 0x80001A40)
      { rdy with ports := { port := ⟨{ link := true, hw := [(.rxOctets, { count := 0x80001A40 + 1500 })] }, {}⟩ } } (0, 0)
      (fun t => (AMap.getD (getPort t .p0).acc .rxOctets 0, (AMap.getD (getPort t .p0).hw .rxOctets {}).count)) =
      (2147490368, 1500) := by decide +kernel

/-- A step on an empty queue with power: one microsecond passes (log 4). -/
theorem test_idle : (match step rdy with | .next t => t.clock.ledger | .fault _ => 0 | .refused _ => 0) = 1 := by decide +kernel

/-! ### Witnesses of the statements -/

/-- States and operands that meet the hypotheses of `StewardButtonFollowsItsStateTable`. -/
theorem witness_StewardButtonFollowsItsStateTable :
    (∃ (s : State), svcRuns s = true ∧ s.bay.button = .waitRelease) ∧
    (∃ (s : State) (h : Nat), svcRuns s = true ∧ s.bay.button = .pressed ∧ h < 3000) ∧
    (∃ (s : State) (h : Nat), svcRuns s = true ∧ s.bay.button = .pressed ∧ 3000 ≤ h ∧ h < 60000 ∧
        halting s = false) ∧
    (∃ (s : State) (h : Nat), svcRuns s = true ∧ s.bay.button = .pressed ∧ 60000 ≤ h) ∧
    (∃ (s : State), svcRuns s = true ∧ (s.bay.button = .waitRelease ∨ s.bay.button = .pressed)) ∧
    (∃ (s : State), svcRuns s = true ∧ s.bay.button = .lockout) :=
  ⟨⟨rdy, by decide +kernel⟩,
    ⟨{ rdy with bay := { rdy.bay with button := .pressed, btn := true } }, 2999, by decide +kernel⟩,
    ⟨{ rdy with bay := { rdy.bay with button := .pressed, btn := true } }, 3000, by decide +kernel⟩,
    ⟨{ rdy with bay := { rdy.bay with button := .pressed, btn := true } }, 60000, by decide +kernel⟩,
    ⟨rdy, by decide +kernel⟩,
    ⟨{ rdy with bay := { rdy.bay with button := .lockout } }, by decide +kernel⟩⟩

/-- States and operands that meet the hypotheses of `LidSealAndPresenceWindowFollowTheirTables`. -/
theorem witness_LidSealAndPresenceWindowFollowTheirTables :
    (∃ (s : State), svcRuns s = true ∧ s.bay.lid ≠ .open_) ∧
    (∃ (s : State), svcRuns s = true ∧ s.bay.lid = .open_) ∧
    (∃ (s : State), svcRuns s = true ∧ s.bay.lid ≠ .closed) ∧
    (∃ (s : State), svcRuns s = true ∧ s.bay.lid = .closed) ∧
    (∃ (s : State), svcRuns s = true ∧ s.bay.lid ≠ .fault) ∧
    (∃ (s : State) (w : Nat), s.bay.window = some w) ∧
    (∃ (s : State) (l : Line) (d : Session), Accepts s l { safe := true, hold := true } none d) :=
  ⟨⟨rdy, by decide +kernel⟩,
    ⟨{ rdy with bay := { rdy.bay with lid := .open_ } }, by decide +kernel⟩,
    ⟨{ rdy with bay := { rdy.bay with lid := .open_ } }, by decide +kernel⟩,
    ⟨rdy, by decide +kernel⟩,
    ⟨rdy, by decide +kernel⟩,
    ⟨rdy, _, rfl⟩,
    ⟨rdy, uLine, mSess, accepts_of (by decide +kernel)⟩⟩

/-- States and operands that meet the hypotheses of `ConsoleLinesJumperAndLocateActAsTheBayChapterSays`. -/
theorem witness_ConsoleLinesJumperAndLocateActAsTheBayChapterSays :
    (∃ (s : State), s.bay.usb = false ∧ svcUp s = true) ∧
    (∃ (s : State), (s.bay.usb = true ∨ svcUp s = false)) ∧
    (∃ (s : State) (ms : Nat) (d : Session), 250 ≤ ms ∧ ms ≤ 2000 ∧ getSess s .usb = some d) ∧
    (∃ (ms : Nat), (ms < 250 ∨ 2000 < ms)) ∧
    (∃ (s : State), svcRuns s = true) ∧
    (∃ (s : State) (d : Session) (ms : Nat), getSess s .jcon = some d ∧ s.bay.lineFault = false ∧
        250 ≤ ms ∧ ms ≤ 2000) ∧
    (∃ (s : State), s.bay.lineFault = true) ∧
    (∃ (s : State) (l : Line) (d : Session) (t : Option Int), 0 ≤ t.getD 600 ∧ t.getD 600 ≤ 3600 ∧
        Accepts s l { safe := true, hold := true } none d) ∧
    (∃ (s : State) (t : Nat), s.bay.locate = some t) :=
  ⟨⟨{ rdy with bay := { rdy.bay with usb := false } }, by decide +kernel⟩,
    ⟨State.reset, by decide +kernel⟩,
    ⟨rdy, 250, _, by decide +kernel, by decide +kernel, rfl⟩,
    ⟨249, by decide +kernel⟩,
    ⟨rdy, by decide +kernel⟩,
    ⟨{ rdy with con := { sessions := [(.jcon, {})] } }, _, 2000, rfl, by decide +kernel⟩,
    ⟨{ rdy with bay := { rdy.bay with lineFault := true } }, by decide +kernel⟩,
    ⟨rdy, uLine, mSess, none, by decide +kernel, by decide +kernel, accepts_of (by decide +kernel)⟩,
    ⟨{ rdy with bay := { rdy.bay with locate := some 600000000 } }, _, rfl⟩⟩

/-- States and operands that meet the hypotheses of `FeedsAndLevelsMoveAsThePowerChapterSays`, part 1. -/
theorem witness_FeedsAndLevelsMoveAsThePowerChapterSays_1 :
    (∃ (s : State) (p : PortId), (getFeed s p).powered = false) ∧
    (∃ (s : State) (p : PortId), (getFeed s p).powered = true ∧ s.power.lead ≠ some p) ∧
    (∃ (s : State) (p : PortId), (getFeed s p).powered = true ∧ s.power.lead = some p) ∧
    (∃ (s : State) (p : PortId) (n : Nat) (u : State), powered s = true ∧ (getFeed s p).powered = false ∧
        u = updFeed s p (fun f => { f with powered := true, detect := true, pseType := pseTypeOf n, alloc := none, echo := 0, lldpSeen := false, starved := false }) ∧
        s.power.lead ≠ none) ∧
    (∃ (s : State) (p : PortId) (n : Nat) (u : State), powered s = true ∧ (getFeed s p).powered = false ∧
        u = updFeed s p (fun f => { f with powered := true, detect := true, pseType := pseTypeOf n, alloc := none, echo := 0, lldpSeen := false, starved := false }) ∧
        s.power.lead = none ∧ starting s = true) ∧
    (∃ (s : State) (p : PortId) (a : Nat) (u : State), (getFeed s p).powered = true ∧ (getPort s p).link = true ∧
        s.fw.gateUpdate = none ∧ u = updFeed (rebudget (updFeed s p (fun f => { f with alloc := some a, lldpSeen := true }))) p
        (fun f => { f with echo := a }) ∧ (stepOpen u 18 = false ∨ u.power.lead ≠ some p)) ∧
    (∃ (s : State) (p : PortId), ((getFeed s p).powered = false ∨ (getPort s p).link = false) ∧ stepOpen s 18 = false) ∧
    (∃ (s : State) (p : PortId), s.power.lead = some p ∧ budgetOf s p < 120 ∧ 120 ≤ budgetOf s p.other) ∧
    (∃ (s : State) (p : PortId) (t : Nat), s.power.lead = some p ∧ 120 ≤ budgetOf s p ∧ s.power.standbySince = some t) ∧
    (∃ (s : State) (t : Nat) (u : State), s.power.upSince = some t ∧ s.power.charged = true ∧ 30000 ≤ s.power.vBank ∧ u =
        advanceTo s (Nat.max (t + 30 * 1000000) (s.power.levelAt + 60 * 1000000))) ∧
    (∃ (s : State), (s.power.upSince = none ∨ s.power.charged = false ∨ s.power.vBank < 30000)) ∧
    (∃ (s : State) (t : Nat) (p : PortId), s.power.starvingSince = some t ∧ s.power.lead = some p) :=
  ⟨⟨State.reset, .p0, by decide +kernel⟩,
    ⟨{ rdy with power := { rdy.power with feeds := ⟨{ powered := true, pseType := 4 }, { powered := true, pseType := 4 }⟩ } },
        .p1, by decide +kernel⟩,
    ⟨rdy, .p0, by decide +kernel⟩,
    ⟨rdy, .p1, 0, _, by decide +kernel, by decide +kernel, rfl, by decide +kernel⟩,
    ⟨{ rdy with phase := .starting, boot := { step := 1, fg := 1 }, power := { rdy.power with lead := none } },
        .p1, 0, _, by decide +kernel, by decide +kernel, rfl, by decide +kernel⟩,
    ⟨rdy, .p0, 510, _, by decide +kernel, by decide +kernel, by decide +kernel, rfl, by decide +kernel⟩,
    ⟨State.reset, .p0, by decide +kernel⟩,
    ⟨{ rdy with power := { rdy.power with feeds := ⟨{ powered := true, pseType := 1 , alloc := some 100 }, { powered := true, pseType := 4 }⟩ } },
        _, rfl, by decide +kernel⟩,
    ⟨{ rdy with power := { rdy.power with standbySince := some 0 } }, _, _, rfl, by decide +kernel, rfl⟩,
    ⟨{ rdy with power := { rdy.power with upSince := some 0, charged := true, vBank := 30000 } }, _, _, rfl, by decide +kernel,
        by decide +kernel, rfl⟩,
    ⟨State.reset, by decide +kernel⟩,
    ⟨{ rdy with power := { rdy.power with starvingSince := some 0 } }, _, _, rfl, rfl⟩⟩

/-- States and operands that meet the hypotheses of `FeedsAndLevelsMoveAsThePowerChapterSays`, part 2. -/
theorem witness_FeedsAndLevelsMoveAsThePowerChapterSays_2 :
    (∃ (s : State) (t : Nat), starting s = true ∧ s.boot.fg = 1 ∧ s.power.lead = none ∧ s.boot.firstPower = some t) ∧
    (∃ (s : State) (p : PortId), starting s = true ∧ s.boot.fg = 1 ∧ s.power.lead = some p ∧ 120 ≤ budgetOf s p) ∧
    (∃ (s : State) (p : PortId) (a : Nat) (u : State), (getFeed s p).powered = true ∧ (getPort s p).link = true ∧
        s.fw.gateUpdate = none ∧ u = updFeed (rebudget (updFeed s p (fun f => { f with alloc := some a, lldpSeen := true }))) p
        (fun f => { f with echo := a }) ∧ stepOpen u 18 = true ∧ u.power.lead = some p ∧ (getFeed u p).alloc.isSome = true) ∧
    (∃ (s : State) (p : PortId), (getFeed s p).powered = true ∧ (getPort s p).link = true ∧ s.fw.gateUpdate ≠ none ∧ stepOpen s
        18 = false) :=
  ⟨⟨{ rdy with phase := .starting, boot := { step := 1, fg := 1, firstPower := some 0 }, power := { rdy.power with lead := none } },
        _, by decide +kernel, by decide +kernel, by decide +kernel, rfl⟩,
    ⟨{ rdy with phase := .starting, boot := { step := 1, fg := 1 } }, _, by decide +kernel,
        by decide +kernel, rfl, by decide +kernel⟩,
    ⟨{ rdy with phase := .starting, boot := { step := 18, fg := 18 } }, .p0, 510, _, by decide +kernel, by decide +kernel, by decide +kernel, rfl, by decide +kernel⟩,
    ⟨{ rdy with fw := { gateUpdate := some { version := 0, install := false } } }, .p0, by decide +kernel⟩⟩

/-- States and operands that meet the hypotheses of `HoldupColdAndHeatActAsThePowerChapterSays`, part 1. -/
theorem witness_HoldupColdAndHeatActAsThePowerChapterSays_1 :
    (∃ (s : State) (l : Line) (d : Session), Accepts s l {} none d) ∧
    (∃ (s : State), powered s = true ∧ s.power.measuring = .idle) ∧
    (∃ (s : State), s.power.measuring = .draining ∧ (dirtyBytes s ≤ cap s * 1048576 ∨ s.upkeep.measCause = some .cellFault) ∧
        s.power.charged = true ∧ 30000 ≤ s.power.vBank) ∧
    (∃ (s : State), s.power.measuring = .discharging) ∧
    (∃ (s : State), s.power.eMeas < 2240) ∧
    (∃ (s : State), 2240 ≤ s.power.eMeas ∧ s.power.eMeas < 2400) ∧
    (∃ (s : State), 2400 ≤ s.power.eMeas) ∧
    (∃ (s : State), s.power.measuring ≠ .idle) ∧
    (∃ (s : State) (c : Fin 12) (d : Power), c ∉ s.power.cells ∧ d = { s.power with cells := c :: s.power.cells, cellWt := true }
        ∧ (s.power.measuring = .idle ∨ s.power.measuring = .draining)) ∧
    (∃ (s : State) (c : Fin 12), c ∈ s.power.cells) ∧
    (∃ (s : State) (f : Int), f < -200 ∧ s.power.coldGate = false) ∧
    (∃ (s : State) (f : Int), (-200 ≤ f ∨ s.power.coldGate = true)) :=
  ⟨⟨rdy, uLine, mSess, accepts_of (by decide +kernel)⟩,
    ⟨rdy, by decide +kernel⟩,
    ⟨{ rdy with power := { rdy.power with charged := true, measuring := .draining } }, by decide +kernel⟩,
    ⟨{ rdy with power := { rdy.power with measuring := .discharging } }, by decide +kernel⟩,
    ⟨State.reset, by decide +kernel⟩,
    ⟨{ rdy with power := { rdy.power with eMeas := 2240 } }, by decide +kernel⟩,
    ⟨rdy, by decide +kernel⟩,
    ⟨{ rdy with power := { rdy.power with measuring := .draining } }, by decide +kernel⟩,
    ⟨rdy, 0, _, by decide +kernel, rfl, by decide +kernel⟩,
    ⟨{ rdy with power := { rdy.power with cells := [0] } }, 0, by decide +kernel⟩,
    ⟨State.reset, -201, by decide +kernel⟩,
    ⟨State.reset, -200, by decide +kernel⟩⟩

/-- States and operands that meet the hypotheses of `HoldupColdAndHeatActAsThePowerChapterSays`, part 2. -/
theorem witness_HoldupColdAndHeatActAsThePowerChapterSays_2 :
    (∃ (s : State) (f : Int), -150 ≤ f ∧ s.power.coldGate = true) ∧
    (∃ (s : State) (f : Int), (f < -150 ∨ s.power.coldGate = false)) ∧
    (∃ (s : State) (f : Int), thermalNext s.power.thermal f = s.power.thermal) ∧
    (∃ (s : State) (f : Int) (x : Thermal), x = thermalNext s.power.thermal f ∧ x ≠ s.power.thermal) ∧
    (∃ (s : State) (u : State), u = { s with power := { s.power with vBank := 30000, charged := true, measuring := if s.power.measuring = .recharging then .idle else s.power.measuring } }
        ∧ s.power.measAgain = false ∧ (s.power.measuring ≠ .draining ∨ s.upkeep.measCause ≠ some .cellFault)) ∧
    (∃ (s : State) (u : State), u = { s with power := { s.power with vBank := 30000, charged := true, measuring := if s.power.measuring = .recharging then .idle else s.power.measuring } }
        ∧ s.power.measAgain = true ∧ (s.power.measuring = .idle ∨ s.power.measuring = .recharging)) ∧
    (∃ (s : State) (u : State), u = { s with power := { s.power with vBank := 30000, charged := true, measuring := if s.power.measuring = .recharging then .idle else s.power.measuring } }
        ∧ s.power.measuring = .draining ∧ s.upkeep.measCause = some .cellFault) ∧
    (∃ (s : State) (c : Fin 12) (d : Power), c ∉ s.power.cells ∧ d = { s.power with cells := c :: s.power.cells, cellWt := true }
        ∧ (s.power.measuring = .discharging ∨ s.power.measuring = .recharging)) ∧
    (∃ (s : State), (s.power.level = .l2 ∨ s.power.level = .l3 ∨ (starting s = true ∧ s.boot.fg ≤ 2))) ∧
    (∃ (s : State), (s.power.level = .l0 ∨ s.power.level = .l1) ∧ (starting s = false ∨ 2 < s.boot.fg)) :=
  ⟨⟨{ rdy with power := { rdy.power with coldGate := true } }, -150, by decide +kernel⟩,
    ⟨State.reset, -151, by decide +kernel⟩,
    ⟨State.reset, 0, by decide +kernel⟩,
    ⟨State.reset, 850, _, rfl, by decide +kernel⟩,
    ⟨rdy, _, rfl, by decide +kernel⟩,
    ⟨{ rdy with power := { rdy.power with charged := true, measuring := .recharging, measAgain := true } }, _, rfl, by decide +kernel⟩,
    ⟨{ rdy with power := { rdy.power with charged := true, measuring := .draining }, upkeep := { measCause := some .cellFault } },
        _, rfl, by decide +kernel⟩,
    ⟨{ rdy with power := { rdy.power with charged := true, measuring := .recharging } }, 0, _, by decide +kernel, rfl, by decide +kernel⟩,
    ⟨{ rdy with power := { rdy.power with level := .l2 } }, by decide +kernel⟩,
    ⟨rdy, by decide +kernel⟩⟩

/-- States and operands that meet the hypotheses of `IslandsFaultGateAndWakeAsTheirChapterSays`. -/
theorem witness_IslandsFaultGateAndWakeAsTheirChapterSays :
    (∃ (s : State) (i : Island) (c : FaultCause) (f : Int) (v : Int), ((getIsl s i).state = .run ∨ (getIsl s i).state = .gated) ∧
        (c = .clock ∧ 500 < f.natAbs ∨ c = .voltage ∧ 80 < v.natAbs)) ∧
    (∃ (s : State) (i : Island) (c : FaultCause) (f : Int) (v : Int), ((getIsl s i).state = .run ∨ (getIsl s i).state = .gated) ∧
        (¬ (c = .clock ∧ 500 < f.natAbs ∨ c = .voltage ∧ 80 < v.natAbs))) ∧
    (∃ (s : State) (i : Island), ((getIsl s i).state = .off ∨ (getIsl s i).state = .dead ∨ (getIsl s i).state = .isolated) ∧
        s.life.under ≠ some i) ∧
    (∃ (s : State), (getIsl s .pwr).state = .run) ∧
    (∃ (s : State), (getIsl s .svc).state = .run) ∧
    (∃ (s : State) (t : Nat) (c : FaultCause), s.isl.gateReset = some (t, c)) ∧
    (∃ (s : State), s.isl.gateReset = none) ∧
    (∃ (s : State), (getIsl s .dram).state = .run) ∧
    (∃ (s : State) (r : DramRegion) (ks : List ObjKey) (rest : List (DramRegion × List ObjKey)),
        s.isl.rebuilding = (r, ks) :: rest) :=
  ⟨⟨rdy, .net0, .clock, 501, 0, by decide +kernel⟩,
    ⟨rdy, .net0, .clock, 0, 0, by decide +kernel⟩,
    ⟨State.reset, .net0, by decide +kernel⟩,
    ⟨rdy, by decide +kernel⟩,
    ⟨rdy, by decide +kernel⟩,
    ⟨{ rdy with isl := { rdy.isl with gateReset := some (0, .watchdog) } }, _, _, rfl⟩,
    ⟨State.reset, by decide +kernel⟩,
    ⟨rdy, by decide +kernel⟩,
    ⟨{ rdy with isl := { rdy.isl with rebuilding := [(.map, [])] } }, _, _, _, rfl⟩⟩

/-- States and operands that meet the hypotheses of `StartStepsBeginEndAndFailAsTheStartChapterSays`, part 1. -/
theorem witness_StartStepsBeginEndAndFailAsTheStartChapterSays_1 :
    (∃ (s : State), s.phase = .off) ∧
    (∃ (s : State), s.phase ≠ .off) ∧
    (∃ (s : State), s.phase = .restarting) ∧
    (∃ (s : State) (d : StepData), s.phase = .starting ∧ (s.boot.fg = stepOf d ∨ s.boot.scan = some (stepOf d)) ∧
        stepOf d ≠ 0) ∧
    (∃ (s : State) (d : StepData), (s.phase ≠ .starting ∨ (s.boot.fg ≠ stepOf d ∧ s.boot.scan ≠ some (stepOf d)))) ∧
    (∃ (s : State) (n : Nat), s.phase = .starting ∧ s.boot.fg = n ∧ 5 ≤ n ∧ n ≤ 8) ∧
    (∃ (n : Nat), (n = 2 ∨ n = 9 ∨ 17 ≤ n ∧ n ≤ 21)) ∧
    (∃ (s : State) (n : Nat), stepFails s n < 2) ∧
    (∃ (n : Nat), n ≠ 3 ∧ n ≠ 4) ∧
    (∃ (s : State) (n : Nat), (n = 3 ∨ n = 4) ∧ 2 ≤ stepFails s n) ∧
    (∃ (s : State) (n : Nat) (t : Nat), s.phase = .starting ∧ s.boot.fg = n ∧ n ≠ 0 ∧ (n ≠ 11 ∨ s.boot.scan = none) ∧
        (n ≠ 16 ∨ s.boot.hotHold = none) ∧ stepSeconds n = some t) ∧
    (∃ (s : State) (t : Nat), s.boot.hotHold = some t) :=
  ⟨⟨State.reset, by decide +kernel⟩,
    ⟨rdy, by decide +kernel⟩,
    ⟨{ rdy with phase := .restarting }, by decide +kernel⟩,
    ⟨{ rdy with phase := .starting, boot := { step := 1, fg := 1 }, power := { rdy.power with lead := none } },
        .plain 1, by decide +kernel⟩,
    ⟨State.reset, .plain 5, by decide +kernel⟩,
    ⟨{ rdy with phase := .starting, boot := { step := 5, fg := 5 } }, _, by decide +kernel,
        rfl, by decide +kernel⟩,
    ⟨2, by decide +kernel⟩,
    ⟨State.reset, 0, by decide +kernel⟩,
    ⟨0, by decide +kernel⟩,
    ⟨{ rdy with boot := { rdy.boot with blk := { stepFails := [(3, 2)] } } }, 3, by decide +kernel⟩,
    ⟨{ rdy with phase := .starting, boot := { step := 5, fg := 5 } }, _, _, by decide +kernel,
        rfl, by decide +kernel, by decide +kernel, by decide +kernel, rfl⟩,
    ⟨{ rdy with boot := { hotHold := some 0 } }, _, rfl⟩⟩

/-- States and operands that meet the hypotheses of `StartStepsBeginEndAndFailAsTheStartChapterSays`, part 2. -/
theorem witness_StartStepsBeginEndAndFailAsTheStartChapterSays_2 :
    (∃ (s : State), s.phase = .starting ∧ s.boot.fg = 17 ∧ (getPort s .p0).link = false ∧
        (getPort s .p1).link = false) ∧
    (∃ (s : State) (t : Nat), s.phase = .starting ∧ s.boot.fg = 17 ∧ s.boot.s17Link = some t) ∧
    (∃ (s : State) (l : Line) (d : Session), Accepts s l { safe := true, priv := true } none d) :=
  ⟨⟨{ rdy with phase := .starting, boot := { step := 17, fg := 17, s17Link := some 0 }, ports := {} },
        by decide +kernel⟩,
    ⟨{ rdy with phase := .starting, boot := { step := 17, fg := 17, s17Link := some 0 }, ports := {} },
        _, by decide +kernel, by decide +kernel, rfl⟩,
    ⟨rdy, uLine, mSess, accepts_of (by decide +kernel)⟩⟩

/-- States and operands that meet the hypotheses of `HaltsFlushesAndDormantRunAsTheirRulesSay`, part 1. -/
theorem witness_HaltsFlushesAndDormantRunAsTheirRulesSay_1 :
    (∃ (s : State), (s.phase = .starting ∨ s.phase = .ready ∨ s.phase = .hold)) ∧
    (∃ (s : State), s.phase ≠ .starting ∧ s.phase ≠ .ready ∧ s.phase ≠ .hold) ∧
    (∃ (s : State) (r : HaltReason), s.phase = .draining r) ∧
    (∃ (s : State), (∀ r, s.phase ≠ .draining r)) ∧
    (∃ (s : State) (r : HaltReason), s.phase = .flushing r) ∧
    (∃ (s : State) (t : LifeState), s.life.intent = some t) ∧
    (∃ (s : State), s.life.intent = none ∧ (getFeed s .p0).powered = false ∧ (getFeed s .p1).powered = false) ∧
    (∃ (s : State) (l : Line) (d : Session), Accepts s l { safe := true, hold := true } none d) ∧
    (∃ (s : State), s.phase ≠ .off ∧ s.phase ≠ .dormant ∧ (∀ c, s.phase ≠ .failFlush c)) ∧
    (∃ (s : State) (c : FlushCause), s.phase = .failFlush c) ∧
    (∃ (s : State) (l : Line) (d : Session), Accepts s l {} none d) ∧
    (∃ (s : State) (p : PortId) (f : EthFrame) (c : Nat), s.phase = .dormant ∧ (getPort s p).armed = true ∧ passesKept s p f.dst
        = true ∧ wakeCause s p f = some c) :=
  ⟨⟨rdy, by decide +kernel⟩,
    ⟨State.reset, by decide +kernel⟩,
    ⟨{ rdy with phase := .draining .halt }, .halt, by decide +kernel⟩,
    ⟨State.reset, fun r => by cases r <;> decide⟩,
    ⟨{ rdy with phase := .flushing .halt }, .halt, by decide +kernel⟩,
    ⟨{ rdy with life := { rdy.life with intent := some .retired } }, _, rfl⟩,
    ⟨State.reset, by decide +kernel⟩,
    ⟨rdy, uLine, mSess, accepts_of (by decide +kernel)⟩,
    ⟨rdy, by decide +kernel, by decide +kernel, fun c => by cases c <;> decide⟩,
    ⟨{ rdy with phase := .failFlush .powerFail }, .powerFail, by decide +kernel⟩,
    ⟨rdy, uLine, mSess, accepts_of (by decide +kernel)⟩,
    ⟨{ setF rdy (.wakeCfg .p0) "PATTERNS" 1 with phase := .dormant, ports := { port := ⟨{ armed := true, wakeFilter := ([], true) }, {}⟩ } },
        .p0, { len := 64, dst := 0xFFFFFFFFFFFF, bytes := [0] }, _, by decide +kernel, by decide +kernel, by decide +kernel,
        rfl⟩⟩

/-- States and operands that meet the hypotheses of `HaltsFlushesAndDormantRunAsTheirRulesSay`, part 2. -/
theorem witness_HaltsFlushesAndDormantRunAsTheirRulesSay_2 :
    (∃ (s : State) (p : PortId) (f : EthFrame), (s.phase ≠ .dormant ∨ (getPort s p).armed = false ∨ passesKept s p f.dst = false
        ∨ wakeCause s p f = none)) ∧
    (∃ (s : State), bedWritable s = true) :=
  ⟨⟨State.reset, .p0, { len := 64, dst := 0xFFFFFFFFFFFF }, by decide +kernel⟩,
    ⟨rdy, by decide +kernel⟩⟩

/-- States and operands that meet the hypotheses of `TestsAndTheLifeCycleActAsChapter18Says`. -/
theorem witness_TestsAndTheLifeCycleActAsChapter18Says :
    (∃ (s : State) (r : TestOutcome), s.life.under = some r.island ∧ r.result = .pass) ∧
    (∃ (s : State) (r : TestOutcome) (ps : List TestPart), s.life.under = some r.island ∧ r.result = .fail ∧ ps = (match
        s.life.cmd with | some c => c.parts | none => partsOf r.island) ∧ r.part ∈ ps) ∧
    (∃ (s : State) (r : TestOutcome), (s.life.under ≠ some r.island ∨ (r.result ≠ .pass ∧ r.result ≠ .fail))) ∧
    (∃ (s : State) (r : TestOutcome), s.life.under = some r.island ∧ inLimits { freqDev := r.freqDev, voltDev := r.voltDev, junction := r.junction } = false) ∧
    (∃ (s : State) (r : TestOutcome), (s.life.under ≠ some r.island ∨ inLimits { freqDev := r.freqDev, voltDev := r.voltDev, junction := r.junction } = true)) ∧
    (∃ (s : State) (l : Line) (d : Session) (i : Island) (id : Nat) (ps : List TestPart) (n : Int),
        Island.ofId id = some i ∧ Accepts s l { priv := true, consoles := true, blank := true } (testArgErr id ps n) d) ∧
    (∃ (s : State) (l : Line) (d : Session) (id : Nat) (i : Island), Island.ofId id = some i ∧
        Accepts s l { priv := true } none d ∧ i.essential = true) ∧
    (∃ (s : State) (l : Line) (d : Session) (id : Nat) (i : Island), Island.ofId id = some i ∧
        Accepts s l { priv := true } none d ∧ i.essential = false) ∧
    (∃ (s : State) (l : Line) (d : Session), Accepts s l { priv := true, consoles := true, blank := true } none d) ∧
    (∃ (s : State), s.life.retired = true) ∧
    (∃ (s : State), s.life.retired = false) ∧
    (∃ (s : State) (r : TestOutcome) (ps : List TestPart), s.life.under = some r.island ∧ r.result = .fail ∧ ps = (match
        s.life.cmd with | some c => c.parts | none => partsOf r.island) ∧ r.part ∉ ps) :=
  ⟨⟨{ rdy with life := { rdy.life with under := some .arc } }, { island := .arc, result := .pass, part := .none_ },
        by decide +kernel⟩,
    ⟨{ rdy with life := { rdy.life with under := some .arc } }, { island := .arc, result := .fail, part := .sram }, _, by decide +kernel, by decide +kernel, rfl, by decide +kernel⟩,
    ⟨State.reset, { island := .arc, result := .pass, part := .none_ }, by decide +kernel⟩,
    ⟨{ rdy with life := { rdy.life with under := some .arc } }, { island := .arc, result := .fail, part := .none_, junction := 200 },
        by decide +kernel⟩,
    ⟨State.reset, { island := .arc, result := .pass, part := .none_ }, by decide +kernel⟩,
    ⟨rdy, uLine, mSess, _, 0, [], 5, rfl, accepts_of (by decide +kernel)⟩,
    ⟨rdy, uLine, mSess, 0, _, rfl, accepts_of (by decide +kernel), by decide +kernel⟩,
    ⟨rdy, uLine, mSess, 5, _, rfl, accepts_of (by decide +kernel), by decide +kernel⟩,
    ⟨rdy, uLine, mSess, accepts_of (by decide +kernel)⟩,
    ⟨{ rdy with life := { rdy.life with retired := true } }, by decide +kernel⟩,
    ⟨State.reset, by decide +kernel⟩,
    ⟨{ rdy with life := { rdy.life with under := some .arc } }, { island := .arc, result := .fail, part := .loopback }, _, by decide +kernel, by decide +kernel, rfl, by decide +kernel⟩⟩

/-- States and operands that meet the hypotheses of `UnknownCommandsAreAnsweredSo`. -/
theorem witness_UnknownCommandsAreAnsweredSo :
    ∃ (s : State) (l : Line) (d : Session), getSess s l.sess = some d ∧ d.closing = false ∧ (l.sess = .jcon → s.bay.lineFault =
        false) ∧ (isMgmt l.sess = true ∨ consolesPaused s = false) ∧ (d.machine = true → l.tag ≠ none) ∧ d.slots.length < 4 ∧
        (d.lineReady = none ∨ lineForm (lineWords (lineBody d.machine (d.lineReady.getD []))) = none) :=
  ⟨rdy, uLine, _, rfl, by decide +kernel, by decide +kernel, by decide +kernel, by decide +kernel, by decide +kernel, by decide +kernel⟩

/-- States and operands that meet the hypotheses of `ConsoleInputModesAndLinesActAsTheConsoleChapterSays`. -/
theorem witness_ConsoleInputModesAndLinesActAsTheConsoleChapterSays :
    (∃ (s : State) (x : SessId), getSess s x = none) ∧
    (∃ (s : State) (x : SessId), ((x = .jcon ∧ s.bay.lineFault = true) ∨ (isMgmt x = false ∧ consolesPaused s = true))) ∧
    (∃ (s : State) (x : SessId) (d : Session), getSess s x = some d ∧ (x = .jcon → s.bay.lineFault = false) ∧
        (isMgmt x = true ∨ consolesPaused s = false)) ∧
    (∃ (t : List Byte), 255 < t.length) ∧
    (∃ (t : List Byte), t.length ≤ 255 ∧ (∃ b ∈ t, lineCharOk b = false)) ∧
    (∃ (t : List Byte) (v : Nat), t.length ≤ 255 ∧ (∀ b ∈ t, lineCharOk b = true) ∧ lineTag t ≠ none ∧
        lineSuffix t = some v) ∧
    (∃ (s : State) (l : Line) (d : Session), Accepts s l {} none d) ∧
    (∃ (s : State) (l : Line) (d : Session), Accepts s l { safe := true, hold := true } none d) ∧
    (∃ (s : State) (x : SessId) (d : Session) (t : Nat), getSess s x = some d ∧ d.evWindow = some t) ∧
    (∃ (s : State) (x : SessId) (d : Session), getSess s x = some d ∧ d.evWindow = none) ∧
    (∃ (d : Session), (d.machine = true ∨ d.slots ≠ [])) :=
  ⟨⟨State.reset, .usb, by decide +kernel⟩,
    ⟨{ rdy with bay := { rdy.bay with lineFault := true } }, .jcon, by decide +kernel⟩,
    ⟨rdy, .usb, _, rfl, by decide +kernel⟩,
    ⟨List.replicate 256 65, by decide +kernel⟩,
    ⟨[7], by decide +kernel⟩,
    ⟨[0x23, 0x30, 0x30, 0x30, 0x31, 0x20, 0x61, 0x2A, 0x30, 0x30, 0x30, 0x30], 0, by decide +kernel⟩,
    ⟨rdy, uLine, mSess, accepts_of (by decide +kernel)⟩,
    ⟨rdy, uLine, mSess, accepts_of (by decide +kernel)⟩,
    ⟨{ rdy with con := { sessions := [(.usb, { machine := true, evWindow := some 0 })] } }, .usb, _, _, rfl, rfl⟩,
    ⟨rdy, .usb, _, rfl, by decide +kernel⟩,
    ⟨mSess, .inl rfl⟩⟩

/-- States and operands that meet the hypotheses of `ManagementSessionsAndWardensFollowTheirRules`. -/
theorem witness_ManagementSessionsAndWardensFollowTheirRules :
    (∃ (s : State) (i : IfNo), (s.proto.listening = false ∨ running s = false ∨ serviceOn s i 3 = false)) ∧
    (∃ (s : State) (i : IfNo) (fp : List Byte) (c : TlsClient), s.proto.listening = true ∧ running s = true ∧ serviceOn s i 3 =
        true ∧ (tlsAgreed c = none ∨ wardenOf s fp = none ∨ (c.validDates = false ∧ s.clock.everSet = true))) ∧
    (∃ (s : State) (i : IfNo) (fp : List Byte) (c : TlsClient) (w : Fin 4) (x : TlsSuite × TlsGroup), s.proto.listening = true ∧
        running s = true ∧ serviceOn s i 3 = true ∧ tlsAgreed c = some x ∧ wardenOf s fp = some w ∧ (c.validDates = true ∨
        s.clock.everSet = false) ∧ (freeMgmt s = none ∨ 2 ≤ sessionsOf s w)) ∧
    (∃ (s : State) (i : IfNo) (fp : List Byte) (c : TlsClient) (w : Fin 4) (k : Fin 8) (x : TlsSuite × TlsGroup),
        s.proto.listening = true ∧ running s = true ∧ serviceOn s i 3 = true ∧ tlsAgreed c = some x ∧ wardenOf s fp = some w ∧
        (c.validDates = true ∨ s.clock.everSet = false) ∧ freeMgmt s = some k ∧ sessionsOf s w < 2) ∧
    (∃ (s : State) (k : Fin 8) (d : Session), getSess s (.mgmt k) = some d) ∧
    (∃ (s : State) (k : Fin 8), getSess s (.mgmt k) = none) ∧
    (∃ (s : State) (l : Line) (d : Session) (w : Fin 4) (n : Int) (fp : List Byte), n = (w.val : Int) ∧
        Accepts s l { priv := true } none d ∧ AMap.find s.con.wardens w = none ∧ wardenOf s fp = none) ∧
    (∃ (s : State) (l : Line) (d : Session) (w : Fin 4) (n : Int), n = (w.val : Int) ∧ Accepts s l { priv := true } none d ∧
        (AMap.find s.con.wardens w).isSome = true) ∧
    (∃ (s : State) (l : Line) (d : Session) (w : Fin 4) (n : Int) (fp : List Byte), n = (w.val : Int) ∧
        Accepts s l { priv := true } none d ∧ AMap.find s.con.wardens w = none ∧ (wardenOf s fp).isSome = true) ∧
    (∃ (c : TlsClient) (x : TlsSuite × TlsGroup), tlsAgreed c = some x) :=
  ⟨⟨State.reset, 8, by decide +kernel⟩,
    ⟨rdy, 8, [], {}, by decide +kernel⟩,
    ⟨{ rdy with con := { sessions := [(.usb, mSess), (.mgmt 0, { machine := true, warden := some 0 }), (.mgmt 1, { machine := true, warden := some 0 })], wardens := [(0, { fp := [], name := none })] } },
        8, [], {}, 0, (.aes256GcmSha384, .x25519), by decide +kernel⟩,
    ⟨{ rdy with con := { sessions := [(.usb, mSess)], wardens := [(0, { fp := [], name := none })] } }, 8, [], {}, 0, 0,
        (.aes256GcmSha384, .x25519), by decide +kernel⟩,
    ⟨{ rdy with con := { sessions := [(.usb, mSess), (.mgmt 0, { machine := true, warden := some 0 }), (.mgmt 1, { machine := true, warden := some 0 })], wardens := [(0, { fp := [], name := none })] } },
        0, _, rfl⟩,
    ⟨State.reset, 0, by decide +kernel⟩,
    ⟨rdy, uLine, mSess, 0, _, [], rfl, accepts_of (by decide +kernel), by decide +kernel⟩,
    ⟨{ rdy with con := { sessions := [(.usb, mSess), (.mgmt 0, { machine := true, warden := some 0 }), (.mgmt 1, { machine := true, warden := some 0 })], wardens := [(0, { fp := [], name := none })] } },
        uLine, mSess, 0, _, rfl, accepts_of (by decide +kernel), by decide +kernel⟩,
    ⟨{ rdy with con := { sessions := [(.usb, mSess)], wardens := [(1, { fp := [], name := none })] } },
        uLine, mSess, 0, _, [], rfl, accepts_of (by decide +kernel), by decide +kernel⟩,
    ⟨{}, (.aes256GcmSha384, .x25519), by decide +kernel⟩⟩

/-- States and operands that meet the hypotheses of `AttributeCommandsReadWriteCommitAndDiscard`, part 1. -/
theorem witness_AttributeCommandsReadWriteCommitAndDiscard_1 :
    (∃ (s : State) (l : Line) (d : Session) (n : Nat) (a : Attr) (f : Option String), attrOfNum n = some a ∧
        fieldsOf a f ≠ [] ∧ Accepts s l {} none d) ∧
    (∃ (s : State) (l : Line) (d : Session) (a : Attr) (asg : Assign) (ws : List (FieldDesc × Int)), assignments a asg = .ok ws
        ∧ filterErr a (applyFields (attrWord s a) ws) = none ∧ Accepts s l (setInfo s l a) none d) ∧
    (∃ (s : State) (x : SessId) (a : Attr) (ws : List (FieldDesc × Int)) (u : State) (g : Group),
        filterErr a (applyFields (attrWord s a) ws) = none ∧ reach s a = some u ∧ attrGroup a = some g ∧
        ws.any (fun w => isRwc w.1) = true ∧ groupBusy u g x = false) ∧
    (∃ (s : State) (a : Attr) (ws : List (FieldDesc × Int)) (u : State), filterErr a (applyFields (attrWord s a) ws) = none ∧
        reach s a = some u ∧ ws.any (fun w => isRwc w.1) = false ∧ attrDrains u a = false) ∧
    (∃ (s : State) (x : SessId) (a : Attr) (ws : List (FieldDesc × Int)) (u : State) (g : Group),
        filterErr a (applyFields (attrWord s a) ws) = none ∧ reach s a = some u ∧ attrGroup a = some g ∧
        ws.any (fun w => isRwc w.1) = true ∧ groupBusy u g x = true) ∧
    (∃ (s : State) (l : Line) (d : Session) (g : Group), Accepts s l { role := commitRole s l.sess (some g) } none d ∧ stepDone
        s (groupStep g) = true ∧ shadowOf s g = none) ∧
    (∃ (s : State) (l : Line) (d : Session) (g : Group) (h : Shadow) (t : State), Accepts s l { role := commitRole s l.sess (some g) }
        none d ∧ stepDone s (groupStep g) = true ∧ shadowOf s g = some h ∧ tryCommit (heard s l) g l.sess h.written = .ok t) ∧
    (∃ (s : State) (l : Line) (d : Session) (g : Group) (h : Shadow) (r : Reply), Accepts s l { role := commitRole s l.sess (some g) }
        none d ∧ stepDone s (groupStep g) = true ∧ shadowOf s g = some h ∧ tryCommit (heard s l) g l.sess h.written = .error r) ∧
    (∃ (s : State) (l : Line) (d : Session) (g : Group), Accepts s l { priv := groupPrivileged g } none d ∧
        shadowOf s g = none) ∧
    (∃ (s : State) (l : Line) (d : Session) (g : Group), Accepts s l { priv := groupPrivileged g } none d ∧
        (shadowOf s g).isSome = true) ∧
    (∃ (s : State) (l : Line) (d : Session), Accepts s l { priv := true } none d) ∧
    (∃ (s : State) (l : Line) (d : Session), Accepts s l {} none d) ∧
    (∃ (s : State) (l : Line) (d : Session) (g : Group), Accepts s l { role := commitRole s l.sess (some g) } none d ∧ stepDone
        s (groupStep g) = false) :=
  ⟨⟨rdy, uLine, mSess, attrNum .policy, _, none, rfl, by decide +kernel, accepts_of (by decide +kernel)⟩,
    ⟨rdy, uLine, mSess, .policy, { fields := [("PREFER", some 1)] }, _, rfl, by decide +kernel, accepts_of (by decide +kernel)⟩,
    ⟨rdy, .usb, .policy, (((attrFields .policy).drop 1).take 1).map (fun f => (f, 1)), _,
        _, by decide +kernel, rfl, rfl, by decide +kernel⟩,
    ⟨State.reset, .policy, (attrFields .policy).take 1 |>.map (fun f => (f, 1)), _, by decide +kernel,
        rfl, by decide +kernel⟩,
    ⟨State.reset, .usb, .policy, (((attrFields .policy).drop 1).take 1).map (fun f => (f, 1)),
        _, _, by decide +kernel, rfl, rfl, by decide +kernel⟩,
    ⟨rdy, uLine, mSess, .pwrPolicy, accepts_of (by decide +kernel), by decide +kernel⟩,
    ⟨{ rdy with cfg := { rdy.cfg with shadows := [(.pwrPolicy, { holder := .usb, inst := 0, written := [] })] } }, uLine, mSess,
        .pwrPolicy, _, _, accepts_of (by decide +kernel), by decide +kernel, rfl, rfl⟩,
    ⟨{ rdy with cfg := { rdy.cfg with shadows := [(.pwrPolicy, { holder := .jcon, inst := 0, written := [] })] } }, uLine,
        mSess, .pwrPolicy, _, _, accepts_of (by decide +kernel), by decide +kernel, rfl, rfl⟩,
    ⟨rdy, uLine, mSess, .pwrPolicy, accepts_of (by decide +kernel), by decide +kernel⟩,
    ⟨{ rdy with cfg := { rdy.cfg with shadows := [(.pwrPolicy, { holder := .usb, inst := 0, written := [] })] } },
        uLine, mSess, .pwrPolicy, accepts_of (by decide +kernel), by decide +kernel⟩,
    ⟨rdy, uLine, mSess, accepts_of (by decide +kernel)⟩,
    ⟨rdy, uLine, mSess, accepts_of (by decide +kernel)⟩,
    ⟨{ rdy with phase := .starting }, uLine, mSess, .pwrPolicy, accepts_of (by decide +kernel), by decide +kernel⟩⟩

/-- States and operands that meet the hypotheses of `AttributeCommandsReadWriteCommitAndDiscard`, part 2. -/
theorem witness_AttributeCommandsReadWriteCommitAndDiscard_2 :
    (∃ (s : State) (l : Line) (d : Session) (n : Int), Accepts s l { priv := true } (stallErr n) d) ∧
    (∃ (s : State) (l : Line) (d : Session) (b : Int) (q : Int) (x : Option Int), Accepts s l { role := arcRole s l.sess (grantFields b q x).1 (grantFields b q x).2 } (firstErr [rangeErr b 4 15, rangeErr q 0 3, x.bind stallErr]) d) :=
  ⟨⟨rdy, uLine, mSess, 0, accepts_of (by decide +kernel)⟩,
    ⟨rdy, uLine, mSess, 5, 0, none, accepts_of (by decide +kernel)⟩⟩

/-- States and operands that meet the hypotheses of `LinksThePairAndLacpFollowTheirRules`. -/
theorem witness_LinksThePairAndLacpFollowTheirRules :
    (∃ (s : State) (p : PortId), (getPort s p).link = false ∧ s.phase = .dormant) ∧
    (∃ (s : State) (p : PortId), (getPort s p).link = false ∧ s.phase = .ready ∧ islUp s p.island = true ∧ (getPort s
        p).heldDown = false) ∧
    (∃ (s : State) (p : PortId), (getPort s p).link = false ∧ s.phase ≠ .dormant ∧ (linksLive s = false ∨ islUp s p.island = false)) ∧
    (∃ (s : State) (p : PortId), (getPort s p).link = true ∧ s.phase = .dormant) ∧
    (∃ (s : State) (p : PortId), (getPort s p).link = true ∧ s.phase ≠ .dormant) ∧
    (∃ (s : State) (p : PortId), (getPort s p).training = true) ∧
    (∃ (s : State) (p : PortId), (getPort s p).training = false) ∧
    (∃ (s : State) (t : Nat), cfgField s .bondCfg "REVERT" = 1 ∧ aggNow s = false ∧ s.ports.active = some (primaryPort s).other ∧
        portUp s (primaryPort s) = true ∧ (getPort s (primaryPort s)).linkSince = some t) ∧
    (∃ (s : State), (cfgField s .bondCfg "REVERT" ≠ 1 ∨ aggNow s = true ∨ s.ports.active = some (primaryPort s))) ∧
    (∃ (s : State) (p : PortId), (aggMode s = false ∨ portUp s p = false)) ∧
    (∃ (s : State) (p : PortId) (t : Nat), aggMode s = true ∧ portUp s p = true ∧ (getPort s p).lacp ≠ .defaulted ∧
        (getPort s p).lacpAt = some t) ∧
    (∃ (s : State) (p : PortId), (getPort s p).link = false ∧ s.phase ≠ .dormant ∧ (linksLive s = false ∨ islUp s p.island =
        false ∨ (getPort s p).heldDown = true)) :=
  ⟨⟨{ rdy with phase := .dormant }, .p1, by decide +kernel⟩,
    ⟨rdy, .p1, by decide +kernel⟩,
    ⟨State.reset, .p0, by decide +kernel⟩,
    ⟨{ rdy with phase := .dormant }, .p0, by decide +kernel⟩,
    ⟨rdy, .p0, by decide +kernel⟩,
    ⟨{ rdy with ports := { rdy.ports with port := ⟨{ link := true, training := true }, {}⟩ } },
        .p0, by decide +kernel⟩,
    ⟨State.reset, .p0, by decide +kernel⟩,
    ⟨{ setF rdy .bondCfg "REVERT" 1 with ports := { port := ⟨{ link := true, linkSince := some 0 }, { link := true }⟩, active := some .p1 } },
        _, by decide +kernel, by decide +kernel, by decide +kernel, by decide +kernel,
        rfl⟩,
    ⟨State.reset, by decide +kernel⟩,
    ⟨State.reset, .p0, by decide +kernel⟩,
    ⟨{ setF rdy .bondCfg "MODE" 1 with ports := { port := ⟨{ link := true, lacp := .waiting, lacpAt := some 0 }, {}⟩ } },
        .p0, _, by decide +kernel, by decide +kernel, by decide +kernel, rfl⟩,
    ⟨{ rdy with ports := { rdy.ports with port := ⟨{ heldDown := true }, {}⟩ } }, .p0, by decide +kernel⟩⟩

/-- States and operands that meet the hypotheses of `FramesArePassedCountedAndSentAsChapter7Says`. -/
theorem witness_FramesArePassedCountedAndSentAsChapter7Says :
    (∃ (s : State) (p : PortId), portUp s p = false) ∧
    (∃ (s : State) (p : PortId), (getPort s p).rx = none) ∧
    (∃ (s : State) (p : PortId) (r : RxPending), (getPort s p).rx = some r) ∧
    (∃ (s : State) (p : PortId), (portUp (wakeIsl s p.island) p = false ∨ nextFrame (wakeIsl s p.island) p = none)) ∧
    (∃ (s : State) (p : PortId) (f : TxFrame) (u : State), u = wakeIsl s p.island ∧ portUp u p = true ∧ nextFrame u p = some f) ∧
    (∃ (s : State) (p : PortId), (getPort s p).tx = []) ∧
    (∃ (s : State) (p : PortId), portUp s p = true) :=
  ⟨⟨State.reset, .p0, by decide +kernel⟩,
    ⟨State.reset, .p0, by decide +kernel⟩,
    ⟨{ rdy with ports := { rdy.ports with port := ⟨{ link := true, rx := some { frame := { len := 64, dst := 0 }, captured := false, filterMiss := false, trunc := false, passed := true } }, {}⟩ } },
        .p0, _, rfl⟩,
    ⟨State.reset, .p0, by decide +kernel⟩,
    ⟨{ rdy with ports := { rdy.ports with port := ⟨{ link := true, tx := [{ queue := 7, item := .reset 1, bytes := 128, src := 0 }] }, {}⟩ } },
        .p0, _, _, rfl, by decide +kernel, rfl⟩,
    ⟨State.reset, .p0, by decide +kernel⟩,
    ⟨rdy, .p0, by decide +kernel⟩⟩

/-- States and operands that meet the hypotheses of `CountersFoldAndPausesHoldQueuesAsChapter7Says`, part 1. -/
theorem witness_CountersFoldAndPausesHoldQueuesAsChapter7Says_1 :
    (∃ (s : State) (p : PortId) (i : Nat) (n : Nat) (c : Ctr), ctrOfCode i = some c ∧ n ≤ (hwCtr s p c).count) ∧
    (∃ (s : State) (p : PortId) (i : Nat) (n : Nat) (c : Ctr), ctrOfCode i = some c ∧ (hwCtr s p c).count < n) ∧
    (∃ (i : Nat), ctrOfCode i = none) ∧
    (∃ (s : State) (p : PortId) (c : Ctr), c ∈ (getPort s p).half) ∧
    (∃ (s : State) (p : PortId) (c : Ctr), c ∉ (getPort s p).half) ∧
    (∃ (s : State) (l : Line) (d : Session), Accepts s l {} none d) ∧
    (∃ (s : State) (p : PortId), portUp s p = false) ∧
    (∃ (s : State) (p : PortId), portUp s p = true) ∧
    (∃ (s : State) (p : PortId) (q : Fin 8) (t : Nat), AMap.find (getPort s p).paused q = some t) ∧
    (∃ (s : State) (p : PortId) (q : Fin 8), AMap.find (getPort s p).paused q = none) ∧
    (∃ (s : State) (p : PortId) (t : Nat) (e : Nat), (getPort s p).q7Since = some t ∧ AMap.find (getPort s p).paused 7 = some e
        ∧ t + 100000 ≤ e) ∧
    (∃ (s : State) (p : PortId) (t : Nat) (e : Nat), ((getPort s p).q7Since = none ∨ AMap.find (getPort s p).paused 7 = none ∨
        ((getPort s p).q7Since = some t ∧ AMap.find (getPort s p).paused 7 = some e ∧ e < t + 100000))) :=
  ⟨⟨State.reset, .p0, 0, 0, _, rfl, by decide +kernel⟩,
    ⟨State.reset, .p0, 0, 1, _, rfl, by decide +kernel⟩,
    ⟨249, by decide +kernel⟩,
    ⟨{ rdy with ports := { rdy.ports with port := ⟨{ link := true, half := [.rxFrames] }, {}⟩ } },
        .p0, .rxFrames, by decide +kernel⟩,
    ⟨State.reset, .p0, .rxFrames, by decide +kernel⟩,
    ⟨rdy, uLine, mSess, accepts_of (by decide +kernel)⟩,
    ⟨State.reset, .p0, by decide +kernel⟩,
    ⟨rdy, .p0, by decide +kernel⟩,
    ⟨{ rdy with ports := { rdy.ports with port := ⟨{ link := true, paused := [(0, 5)] }, {}⟩ } }, .p0, 0, _, rfl⟩,
    ⟨State.reset, .p0, 0, by decide +kernel⟩,
    ⟨{ rdy with ports := { rdy.ports with port := ⟨{ link := true, q7Since := some 0, paused := [(7, 100000)] }, {}⟩ } }, .p0,
        0, 100000, by decide +kernel⟩,
    ⟨{ rdy with ports := { rdy.ports with port := ⟨{ link := true, q7Since := some 0, paused := [(7, 99999)] }, {}⟩ } }, .p0, 0,
        99999, by decide +kernel⟩⟩

/-- States and operands that meet the hypotheses of `CountersFoldAndPausesHoldQueuesAsChapter7Says`, part 2. -/
theorem witness_CountersFoldAndPausesHoldQueuesAsChapter7Says_2 :
    (∃ (s : State) (p : PortId) (t : Nat), (getPort s p).stormUntil = some t) ∧
    (∃ (s : State) (p : PortId), (getPort s p).stormUntil = none) :=
  ⟨⟨{ rdy with ports := { rdy.ports with port := ⟨{ link := true, stormUntil := some 5 }, {}⟩ } }, .p0, _, rfl⟩,
    ⟨State.reset, .p0, by decide +kernel⟩⟩

/-- States and operands that meet the hypotheses of `DhcpAndRouterAdvertisementsGiveAddressesAsTheirRulesSay`, part 1. -/
theorem witness_DhcpAndRouterAdvertisementsGiveAddressesAsTheirRulesSay_1 :
    (∃ (s : State) (k : IfNo), (netRuns s = false ∨ ifExists s k = false ∨ v4Mode s k ≠ 1)) ∧
    (∃ (s : State) (k : IfNo), netRuns s = true ∧ ifExists s k = true ∧ v4Mode s k = 1 ∧ (getIfc s k).d4 = .selecting) ∧
    (∃ (s : State) (k : IfNo), ifExists s k = true ∧ v4Mode s k = 1 ∧ (getIfc s k).d4 ≠ .selecting) ∧
    (∃ (s : State) (k : IfNo), netRuns s = true ∧ ifExists s k = true ∧ v4Mode s k = 1 ∧ ((getIfc s k).d4 = .requesting ∨
        (getIfc s k).d4 = .initReboot ∨ (getIfc s k).d4 = .renewing)) ∧
    (∃ (s : State) (k : IfNo), netRuns s = true ∧ ifExists s k = true ∧ v4Mode s k = 1 ∧ ((getIfc s k).d4 = .idle ∨ (getIfc s
        k).d4 = .selecting ∨ (getIfc s k).d4 = .bound)) ∧
    (∃ (s : State) (k : IfNo), netRuns s = true ∧ ifExists s k = true ∧ v4Mode s k = 1 ∧ ((getIfc s k).d4 = .requesting ∨
        (getIfc s k).d4 = .initReboot)) ∧
    (∃ (s : State) (k : IfNo), (netRuns s = false ∨ ifExists s k = false ∨ (v6Mode s k ≠ 1 ∧ v6Mode s k ≠ 2))) ∧
    (∃ (s : State) (k : IfNo), netRuns s = true ∧ ifExists s k = true ∧ (v6Mode s k = 1 ∨ v6Mode s k = 2) ∧ ((getIfc s k).d6 =
        .requesting ∨ (getIfc s k).d6 = .bound)) ∧
    (∃ (s : State) (k : IfNo), netRuns s = true ∧ ifExists s k = true ∧ (getIfc s k).d4 = .selecting ∧ (getIfc s k).d6 = .idle) ∧
    (∃ (s : State) (k : IfNo), netRuns s = true ∧ ifExists s k = true ∧ (getIfc s k).d4 = .idle) ∧
    (∃ (s : State) (k : IfNo), (netRuns s = false ∨ ifExists s k = false)) ∧
    (∃ (s : State) (k : IfNo), (ifExists s k = false ∨ acquiring s = false)) :=
  ⟨⟨State.reset, 0, by decide +kernel⟩,
    ⟨{ rdy with net := { ifs := [(8, { d4 := .selecting })] } }, 8, by decide +kernel⟩,
    ⟨State.reset, 8, by decide +kernel⟩,
    ⟨{ rdy with net := { ifs := [(8, { d4 := .requesting })] } }, 8, by decide +kernel⟩,
    ⟨{ rdy with net := { ifs := [(8, { d4 := .bound })] } }, 8, by decide +kernel⟩,
    ⟨{ rdy with net := { ifs := [(8, { d4 := .requesting })] } }, 8, by decide +kernel⟩,
    ⟨State.reset, 0, by decide +kernel⟩,
    ⟨{ rdy with net := { ifs := [(8, { d4 := .bound, d6 := .bound })] } }, 8, by decide +kernel⟩,
    ⟨{ rdy with net := { ifs := [(8, { d4 := .selecting })] } }, 8, by decide +kernel⟩,
    ⟨rdy, 8, by decide +kernel⟩,
    ⟨State.reset, 0, by decide +kernel⟩,
    ⟨State.reset, 8, by decide +kernel⟩⟩

/-- States and operands that meet the hypotheses of `DhcpAndRouterAdvertisementsGiveAddressesAsTheirRulesSay`, part 2. -/
theorem witness_DhcpAndRouterAdvertisementsGiveAddressesAsTheirRulesSay_2 :
    (∃ (s : State) (k : IfNo), ifExists s k = true ∧ acquiring s = true) ∧
    (∃ (s : State) (k : IfNo), netRuns s = true ∧ ifExists s k = true ∧ v6Mode s k = 1 ∧ (getIfc s k).raSeen = false) ∧
    (∃ (s : State) (k : IfNo), (netRuns s = false ∨ ifExists s k = false ∨ v6Mode s k ≠ 1 ∨ (getIfc s k).raSeen = true)) ∧
    (∃ (s : State) (l : Line) (d : Session) (i : Option Int), Accepts s l {} (ifErr i) d) ∧
    (∃ (s : State) (k : IfNo), netRuns s = true ∧ ifExists s k = true ∧ (v6Mode s k = 1 ∨ v6Mode s k = 2)) :=
  ⟨⟨rdy, 8, by decide +kernel⟩,
    ⟨rdy, 8, by decide +kernel⟩,
    ⟨State.reset, 0, by decide +kernel⟩,
    ⟨rdy, uLine, mSess, none, accepts_of (by decide +kernel)⟩,
    ⟨rdy, 8, by decide +kernel⟩⟩

/-- States and operands that meet the hypotheses of `AddressesNeighboursAndIcmpActAsTheirRulesSay`, part 1. -/
theorem witness_AddressesNeighboursAndIcmpActAsTheirRulesSay_1 :
    (∃ (s : State) (k : IfNo) (a : IpAddr), heldRec s k a = none) ∧
    (∃ (s : State) (k : IfNo) (a : IpAddr) (r : AddrRec) (u : State), heldRec s k a = some r ∧ (r.state = .probing ∨ r.state =
        .optimistic) ∧ r.origin ≠ .dhcp4 ∧ r.origin ≠ .dhcp6 ∧ u = updIfc (setAddr (advanceTo s (r.probeAt + probeWait a)) k a
        .usable none) k (fun d => { d with renewing := false })) ∧
    (∃ (s : State) (k : IfNo) (a : IpAddr) (r : AddrRec), heldRec s k a = some r ∧ r.state ≠ .conflict ∧ r.origin ≠ .dhcp4) ∧
    (∃ (s : State) (k : IfNo) (a : IpAddr) (r : AddrRec), heldRec s k a = some r ∧ r.state = .conflict) ∧
    (∃ (s : State) (k : IfNo) (a : IpAddr) (r : AddrRec) (t : Nat), heldRec s k a = some r ∧ r.retryAt = some t) ∧
    (∃ (s : State) (k : IfNo) (a : IpAddr) (r : AddrRec) (t : Nat), heldRec s k a = some r ∧ r.until_ = some t) ∧
    (∃ (t : Nat) (r : Nat × Nat) (n : Nat), t < r.1 + 1000000 ∧ n ≤ r.2 ∧ r.2 ≠ 0) ∧
    (∃ (t : Nat) (r : Nat × Nat) (n : Nat), t < r.1 + 1000000 ∧ r.2 < n ∧ r.2 ≠ 0) ∧
    (∃ (t : Nat) (r : Nat × Nat), r.1 + 1000000 ≤ t) ∧
    (∃ (s : State) (p : PortId), (getPort s p).link = false) ∧
    (∃ (s : State) (p : PortId) (u : LldpPdu), (getPort s p).link = true ∧ u.wellFormed = false) ∧
    (∃ (s : State) (p : PortId) (u : LldpPdu) (v : State) (n : LldpNeigh), (getPort s p).link = true ∧
        u.wellFormed = true ∧ n.chassis = u.chassis ∧ n.portId = u.portId ∧ n.sysName = u.sysName ∧
        n.pvid = u.pvid ∧ n.until_ = s.clock.ledger + u.ttl * 1000000 ∧ v = updFeed { s with net := { s.net with lldp := s.net.lldp.upd p (fun l => if u.ttl = 0 then l.filter (fun x => ! (decide (x.chassis = u.chassis) && decide (x.portId = u.portId))) else putNeigh n l) } } p (fun f => { f with lldpSeen := true })) :=
  ⟨⟨State.reset, 8, 1, by decide +kernel⟩,
    ⟨{ rdy with net := { ifs := [(8, { addrs := [{ addr := 1, plen := 24, origin := .static, state := .probing, until_ := none }] })] } },
        8, 1, _, _, rfl, by decide +kernel, by decide +kernel, by decide +kernel, rfl⟩,
    ⟨{ rdy with net := { ifs := [(8, { addrs := [{ addr := 1, plen := 24, origin := .static, state := .probing, until_ := none }] })] } },
        8, 1, _, rfl, by decide +kernel⟩,
    ⟨{ rdy with net := { ifs := [(8, { addrs := [{ addr := 1, plen := 24, origin := .static, state := .conflict, until_ := none, retryAt := some 5 }] })] } },
        8, 1, _, rfl, by decide +kernel⟩,
    ⟨{ rdy with net := { ifs := [(8, { addrs := [{ addr := 1, plen := 24, origin := .static, state := .conflict, until_ := none, retryAt := some 5 }] })] } },
        8, 1, _, _, rfl, rfl⟩,
    ⟨{ rdy with net := { ifs := [(8, { addrs := [{ addr := 1, plen := 24, origin := .dhcp4, state := .usable, until_ := some 5 }] })] } },
        8, 1, _, _, rfl, rfl⟩,
    ⟨0, (0, 5), 0, by decide +kernel⟩,
    ⟨0, (0, 5), 17, by decide +kernel⟩,
    ⟨attrNum .policy, (0, 5), by decide +kernel⟩,
    ⟨State.reset, .p0, by decide +kernel⟩,
    ⟨rdy, .p0, { wellFormed := false, chassis := [], portId := [], sysName := [], pvid := 0, ttl := 1, alloc := none },
        by decide +kernel⟩,
    ⟨rdy, .p0, { wellFormed := true, chassis := [], portId := [], sysName := [], pvid := 0, ttl := 1, alloc := some 510 },
        _, { chassis := [], portId := [], sysName := [], pvid := 0, until_ := 1000000 },
        by decide +kernel, by decide +kernel, by decide +kernel, by decide +kernel, by decide +kernel,
        by decide +kernel, by decide +kernel, rfl⟩⟩

/-- States and operands that meet the hypotheses of `AddressesNeighboursAndIcmpActAsTheirRulesSay`, part 2. -/
theorem witness_AddressesNeighboursAndIcmpActAsTheirRulesSay_2 :
    (∃ (s : State) (p : PortId) (c : List Byte) (i : List Byte) (n : LldpNeigh), (s.net.lldp.get p).find? (fun n => decide (n.chassis = c) && decide (n.portId = i)) = some n) ∧
    (∃ (s : State) (p : PortId) (c : List Byte) (i : List Byte), (s.net.lldp.get p).find? (fun n => decide (n.chassis = c) && decide (n.portId = i)) = none) ∧
    (∃ (s : State), netRuns s = false) ∧
    (∃ (s : State), netRuns s = true) ∧
    (∃ (s : State) (k : IfNo) (e : Ends), (ownAddr s k e.dst = false ∨ netRuns s = false)) ∧
    (∃ (s : State) (k : IfNo) (e : Ends), ownAddr s k e.dst = true ∧ netRuns s = true) :=
  ⟨⟨{ rdy with net := { lldp := ⟨[{ chassis := [], portId := [], sysName := [], pvid := 0, until_ := 5 }], []⟩ } },
        .p0, [], [], _, rfl⟩,
    ⟨State.reset, .p0, [], [], by decide +kernel⟩,
    ⟨State.reset, by decide +kernel⟩,
    ⟨rdy, by decide +kernel⟩,
    ⟨State.reset, 8, { src := 2, dst := 1 }, by decide +kernel⟩,
    ⟨{ rdy with net := { ifs := [(8, { addrs := [{ addr := 1, plen := 24, origin := .static, state := .usable, until_ := none }] })] } },
        8, { src := 2, dst := 1 }, by decide +kernel⟩⟩

/-- States and operands that meet the hypotheses of `TimeSourcesAndStepsActAsChapter8Says`. -/
theorem witness_TimeSourcesAndStepsActAsChapter8Says :
    (∃ (s : State) (a : PtpAnnounce), (ptpOn s = false ∨ ptpOwn s a = false)) ∧
    (∃ (s : State) (a : PtpAnnounce), ptpOn s = true ∧ ptpOwn s a = true ∧ a.best = false) ∧
    (∃ (s : State) (a : PtpAnnounce), ptpOn s = true ∧ ptpOwn s a = true ∧ a.best = true ∧ s.clock.ptp.master ≠ some a.master) ∧
    (∃ (s : State) (a : PtpAnnounce), ptpOn s = true ∧ ptpOwn s a = true ∧ a.best = true ∧ s.clock.ptp.master = some a.master) ∧
    (∃ (s : State) (a : IpAddr), (∀ n ∈ s.clock.ntp, n.addr ≠ a)) ∧
    (∃ (s : State) (a : IpAddr) (n : NtpServer), n ∈ s.clock.ntp ∧ n.addr = a) ∧
    (∃ (s : State) (src : StepSource) (o : Int) (t : Nat), s.clock.refused = some (src, o) ∧
        s.clock.refusedAt = some t ∧ s.clock.disagree = true) ∧
    (∃ (s : State), (s.clock.refused = none ∨ s.clock.refusedAt = none ∨ s.clock.disagree = false)) ∧
    (∃ (s : State) (l : Line) (d : Session) (u : UtcArg), Accepts s l { priv := true } (utcErr u) d) ∧
    (∃ (s : State) (l : Line) (d : Session), Accepts s l { priv := true } none d) ∧
    (∃ (s : State) (k : Ckpt) (r : List Ckpt), svcRuns s = true ∧ s.clock.ckpts = k :: r) ∧
    (∃ (s : State), svcRuns s = false) :=
  ⟨⟨State.reset, { master := 1, best := false, stratum := 1 }, by decide +kernel⟩,
    ⟨setF rdy .timeCfg "PTP_EN" 1, { master := 1, best := false, stratum := 1 }, by decide +kernel⟩,
    ⟨setF rdy .timeCfg "PTP_EN" 1, { master := 1, best := true, stratum := 1 }, by decide +kernel⟩,
    ⟨{ setF rdy .timeCfg "PTP_EN" 1 with clock := { ptp := { master := some 1 } } }, { master := 1, best := true, stratum := 1 },
        by decide +kernel⟩,
    ⟨State.reset, 1, by decide +kernel⟩,
    ⟨{ rdy with clock := { ntp := [{ addr := 1 }] } }, _, { addr := 1 }, by decide +kernel, rfl⟩,
    ⟨{ rdy with clock := { refused := some (.ntp, 5), refusedAt := some 0, disagree := true } },
        _, _, _, rfl, rfl, by decide +kernel⟩,
    ⟨State.reset, by decide +kernel⟩,
    ⟨rdy, uLine, mSess, { wellFormed := true, micros := 1700000000000000, fraction := [] },
        accepts_of (by decide +kernel)⟩,
    ⟨rdy, uLine, mSess, accepts_of (by decide +kernel)⟩,
    ⟨rdy, _, _, by decide +kernel, rfl⟩,
    ⟨State.reset, by decide +kernel⟩⟩

/-- States and operands that meet the hypotheses of `ConnectionsOpenAndEndAsChapter9Says`, part 1. -/
theorem witness_ConnectionsOpenAndEndAsChapter9Says_1 :
    (∃ (s : State) (g : Gen) (k : IfNo), listens s g k = false) ∧
    (∃ (s : State) (g : Gen) (k : IfNo) (a : IpAddr), g ≠ .kv1 ∧ listens s g k = true ∧ lockedOut s a = true) ∧
    (∃ (s : State) (g : Gen) (k : IfNo) (a : IpAddr) (f : Byte), g ≠ .kv1 ∧ listens s g k = true ∧
        lockedOut s a = false ∧ (g = .kv3 ∨ f = 0x16)) ∧
    (∃ (s : State) (g : Gen) (k : IfNo) (a : IpAddr) (f : Byte), g ≠ .kv1 ∧ listens s g k = true ∧
        lockedOut s a = false ∧ g = .kv2 ∧ f = 0xC5) ∧
    (∃ (s : State) (g : Gen) (k : IfNo) (a : IpAddr) (f : Byte), g ≠ .kv1 ∧ listens s g k = true ∧
        lockedOut s a = false ∧ g = .kv2 ∧ f ≠ 0x16 ∧ f ≠ 0xC5) ∧
    (∃ (s : State) (k : IfNo) (a : IpAddr) (e : Fin 64), listens s .kv1 k = true ∧ lockedOut s a = false ∧
        kv1Entry s a = some e ∧ (getStall s (entryStall s e)).state = .active ∧ vlanPermits s k (entryStall s e) = true ∧
        (liveConns s).length < 1024 ∧ boundTo s (entryStall s e) < 32) ∧
    (∃ (s : State) (i : Nat) (c : Conn), getConn s i = some c ∧ c.stage ≠ .tls) ∧
    (∃ (s : State) (i : Nat) (c : Conn) (r : TlsResult), getConn s i = some c ∧ c.stage = .tls ∧ (r.ok = false ∨ r.alpnOk =
        false ∨ tlsAgreed r.client = none)) ∧
    (∃ (s : State) (i : Nat) (c : Conn) (r : TlsResult) (x : TlsSuite × TlsGroup), getConn s i = some c ∧ c.stage = .tls ∧ r.ok
        = true ∧ r.alpnOk = true ∧ tlsAgreed r.client = some x ∧ (c.gen ≠ .kv3 ∨ (ticketAuth s c.gen r.auth).isSome = true ∨
        tlsAccepted s r.auth = true)) ∧
    (∃ (s : State) (i : Nat) (c : Conn) (r : TlsResult) (x : TlsSuite × TlsGroup), getConn s i = some c ∧ c.stage = .tls ∧ r.ok
        = true ∧ r.alpnOk = true ∧ tlsAgreed r.client = some x ∧ c.gen = .kv3 ∧ r.auth = .none_) ∧
    (∃ (s : State) (i : Nat) (c : Conn), getConn s i = some c ∧ c.stage = .hello) ∧
    (∃ (s : State) (i : Nat) (c : Conn), getConn s i = some c ∧ c.stage = .auth) :=
  ⟨⟨State.reset, .kv2, 8, by decide +kernel⟩,
    ⟨{ rdy with proto := { rdy.proto with fails := [(1, { times := [0], until_ := some 900000000 })] } },
        .kv2, 8, 1, by decide +kernel⟩,
    ⟨rdy, .kv3, 8, 1, 0, by decide +kernel⟩,
    ⟨rdy, .kv2, 8, 1, _, by decide +kernel, by decide +kernel, by decide +kernel, by decide +kernel, rfl⟩,
    ⟨rdy, .kv2, 8, 1, 0, by decide +kernel⟩,
    ⟨{ setF (setF (setF rdy .kvCfg "KV1_EN" 1) (.ifCfg 8) "SERVICES" 15) (.kv1SrcCtrl 0) "ENABLE" 1 with stalls := { tab := [(0, { state := .active })] } },
        8, 0, _, by decide +kernel, by decide +kernel, rfl, by decide +kernel⟩,
    ⟨{ rdy with proto := { rdy.proto with conns := [(0, { gen := .kv2, peer := 1, ifc := 8, port := .p0, local_ := 0, stage := .hello, stageAt := 0, lastRx := 0 })], nextConn := 1 } },
        0, _, rfl, by decide +kernel⟩,
    ⟨{ rdy with proto := { rdy.proto with conns := [(0, { gen := .kv2, peer := 1, ifc := 8, port := .p0, local_ := 0, stage := .tls, stageAt := 0, lastRx := 0 })], nextConn := 1 } },
        0, _, { ok := false, alpnOk := true, auth := .none_ }, rfl, by decide +kernel⟩,
    ⟨{ rdy with proto := { rdy.proto with conns := [(0, { gen := .kv2, peer := 1, ifc := 8, port := .p0, local_ := 0, stage := .tls, stageAt := 0, lastRx := 0 })], nextConn := 1 } },
        0, _, { ok := true, alpnOk := true, auth := .none_ }, (.aes256GcmSha384, .x25519), rfl, by decide +kernel⟩,
    ⟨{ rdy with proto := { rdy.proto with conns := [(0, { gen := .kv3, peer := 1, ifc := 8, port := .p0, local_ := 0, stage := .tls, stageAt := 0, lastRx := 0 })], nextConn := 1 } },
        0, _, { ok := true, alpnOk := true, auth := .none_ }, (.aes256GcmSha384, .x25519), rfl, by decide +kernel⟩,
    ⟨{ rdy with proto := { rdy.proto with conns := [(0, { gen := .kv2, peer := 1, ifc := 8, port := .p0, local_ := 0, stage := .hello, stageAt := 0, lastRx := 0 })], nextConn := 1 } },
        0, _, rfl, by decide +kernel⟩,
    ⟨{ rdy with proto := { rdy.proto with conns := [(0, { gen := .kv2, peer := 1, ifc := 8, port := .p0, local_ := 0, stage := .auth, stageAt := 0, lastRx := 0 })], nextConn := 1 } },
        0, _, rfl, by decide +kernel⟩⟩

/-- States and operands that meet the hypotheses of `ConnectionsOpenAndEndAsChapter9Says`, part 2. -/
theorem witness_ConnectionsOpenAndEndAsChapter9Says_2 :
    (∃ (s : State) (i : Nat) (c : Conn), getConn s i = some c ∧ c.stage = .open_) ∧
    (∃ (s : State) (i : Nat) (c : Conn), getConn s i = some c ∧ c.stage = .closed) ∧
    (∃ (s : State) (i : Nat) (c : Conn), s.proto.conns.NoDup ∧ getConn s i = some c) ∧
    (∃ (s : State) (i : Nat) (c : Conn) (bs : List Byte), getConn s i = some c ∧ misaligned c.gen bs = false) ∧
    (∃ (s : State) (i : Nat) (c : Conn) (bs : List Byte), getConn s i = some c ∧ (c.stage = .hello ∨ c.stage = .auth ∨ c.stage = .open_) ∧
        misaligned c.gen bs = true) ∧
    (∃ (s : State) (i : Nat) (c : Conn), getConn s i = some c ∧ c.stage = .resync) ∧
    (∃ (s : State) (i : Nat) (c : Conn), getConn s i = some c ∧ c.stage ≠ .resync) ∧
    (∃ (s : State) (k : IfNo) (e : Ends) (d : List Byte), listens s .kv1 k = true ∧ halting s = false ∧ kv1Beat s e.src d =
        none) ∧
    (∃ (s : State) (k : IfNo) (e : Ends) (d : List Byte) (n : Nat), listens s .kv1 k = true ∧ halting s = false ∧ kv1Beat s
        e.src d = some n) ∧
    (∃ (s : State) (i : Nat), getConn s i = none) ∧
    (∃ (s : State) (n : Nat) (h : Gen) (b : TlsAuth) (t : Nat), AMap.find s.proto.tickets n = some (h, b, t)) ∧
    (∃ (s : State) (k : IfNo), (listens s .kv1 k = false ∨ halting s = true)) :=
  ⟨⟨{ rdy with proto := { rdy.proto with conns := [(0, { gen := .kv2, peer := 1, ifc := 8, port := .p0, local_ := 0, stage := .open_, stageAt := 0, lastRx := 0 })], nextConn := 1 } },
        0, _, rfl, by decide +kernel⟩,
    ⟨{ rdy with proto := { rdy.proto with conns := [(0, { gen := .kv2, peer := 1, ifc := 8, port := .p0, local_ := 0, stage := .closed, stageAt := 0, lastRx := 0 })], nextConn := 1 } },
        0, _, rfl, by decide +kernel⟩,
    ⟨{ rdy with proto := { rdy.proto with conns := [(0, { gen := .kv2, peer := 1, ifc := 8, port := .p0, local_ := 0, stage := .tls, stageAt := 0, lastRx := 0 })], nextConn := 1 } },
        0, _, show (AMap.keys _).Nodup by decide +kernel, rfl⟩,
    ⟨{ rdy with proto := { rdy.proto with conns := [(0, { gen := .kv2, peer := 1, ifc := 8, port := .p0, local_ := 0, stage := .tls, stageAt := 0, lastRx := 0 })], nextConn := 1 } },
        0, _, [], rfl, by decide +kernel⟩,
    ⟨{ rdy with proto := { rdy.proto with conns := [(0, { gen := .kv2, peer := 1, ifc := 8, port := .p0, local_ := 0, stage := .hello, stageAt := 0, lastRx := 0 })], nextConn := 1 } },
        0, _, List.replicate 256 65, rfl, by decide +kernel⟩,
    ⟨{ rdy with proto := { rdy.proto with conns := [(0, { gen := .kv2, peer := 1, ifc := 8, port := .p0, local_ := 0, stage := .resync, stageAt := 0, lastRx := 0 })], nextConn := 1 } },
        0, _, rfl, by decide +kernel⟩,
    ⟨{ rdy with proto := { rdy.proto with conns := [(0, { gen := .kv2, peer := 1, ifc := 8, port := .p0, local_ := 0, stage := .tls, stageAt := 0, lastRx := 0 })], nextConn := 1 } },
        0, _, rfl, by decide +kernel⟩,
    ⟨setF (setF rdy .kvCfg "KV1_EN" 1) (.ifCfg 8) "SERVICES" 15, 8, { src := 1, dst := 1 }, [], by decide +kernel⟩,
    ⟨{ setF (setF (setF rdy .kvCfg "KV1_EN" 1) (.ifCfg 8) "SERVICES" 15) (.kv1SrcCtrl 0) "ENABLE" 1 with stalls := { tab := [(0, { state := .active })] } },
        8, { src := 0, dst := 1 }, beat, _, by decide +kernel, by decide +kernel, rfl⟩,
    ⟨State.reset, 0, by decide +kernel⟩,
    ⟨{ rdy with proto := { rdy.proto with tickets := [(0, (.kv3, .cert [] true, 5))] } }, 0, .kv3, .cert [] true, 5, by decide +kernel⟩,
    ⟨State.reset, 8, by decide +kernel⟩⟩

/-- States and operands that meet the hypotheses of `HelloAuthAndChannelsAnswerAsTheirRulesSay`, part 1. -/
theorem witness_HelloAuthAndChannelsAnswerAsTheirRulesSay_1 :
    (∃ (s : State) (i : Nat) (f : Frame) (c : Conn), Passes s i f c .hello ∧ f.kind = 3 ∧
        (f.keyLen ≠ 0 ∨ f.tagCount ≠ 0 ∨ f.dataLen ≠ 64)) ∧
    (∃ (s : State) (i : Nat) (f : Frame) (c : Conn), Passes s i f c .hello ∧ f.kind = 3 ∧
        f.keyLen = 0 ∧ f.tagCount = 0 ∧ f.dataLen = 64 ∧ (slice f.data 17 1 ++ slice f.data 32 32).all (fun b => b == 0) ∧
        inUse s f.stall = false) ∧
    (∃ (s : State) (i : Nat) (f : Frame) (c : Conn), Passes s i f c .hello ∧ f.kind = 3 ∧
        f.keyLen = 0 ∧ f.tagCount = 0 ∧ f.dataLen = 64 ∧ (slice f.data 17 1 ++ slice f.data 32 32).all (fun b => b == 0) ∧
        inUse s f.stall = true ∧ vlanPermits s c.ifc f.stall = false) ∧
    (∃ (s : State) (i : Nat) (f : Frame) (c : Conn), Passes s i f c .hello ∧ f.kind = 3 ∧
        f.keyLen = 0 ∧ f.tagCount = 0 ∧ f.dataLen = 64 ∧ (slice f.data 17 1 ++ slice f.data 32 32).all (fun b => b == 0) ∧
        inUse s f.stall = true ∧ vlanPermits s c.ifc f.stall = true ∧ c.gen = .kv3 ∧
        identityFits s c f.stall = false) ∧
    (∃ (s : State) (i : Nat) (f : Frame) (c : Conn), Passes s i f c .hello ∧ f.kind = 3 ∧
        f.keyLen = 0 ∧ f.tagCount = 0 ∧ f.dataLen = 64 ∧ (slice f.data 17 1 ++ slice f.data 32 32).all (fun b => b == 0) ∧
        inUse s f.stall = true ∧ vlanPermits s c.ifc f.stall = true ∧ (c.gen = .kv2 ∨ identityFits s c f.stall = true) ∧
        c.gen ≠ .kv1 ∧ tooMany (received s i) f.stall = true) ∧
    (∃ (s : State) (i : Nat) (f : Frame) (c : Conn), Passes s i f c .hello ∧ f.kind = 3 ∧
        f.keyLen = 0 ∧ f.tagCount = 0 ∧ f.dataLen = 64 ∧ (slice f.data 17 1 ++ slice f.data 32 32).all (fun b => b == 0) ∧
        inUse s f.stall = true ∧ vlanPermits s c.ifc f.stall = true ∧ c.gen = .kv3 ∧
        identityFits s c f.stall = true ∧ tooMany (received s i) f.stall = false ∧ frozenFor s f.stall = true) ∧
    (∃ (s : State) (i : Nat) (f : Frame) (c : Conn), Passes s i f c .hello ∧ f.kind = 3 ∧
        f.keyLen = 0 ∧ f.tagCount = 0 ∧ f.dataLen = 64 ∧ (slice f.data 17 1 ++ slice f.data 32 32).all (fun b => b == 0) ∧
        inUse s f.stall = true ∧ vlanPermits s c.ifc f.stall = true ∧ c.gen = .kv3 ∧
        identityFits s c f.stall = true ∧ tooMany (received s i) f.stall = false ∧ frozenFor s f.stall = false ∧
        f.generation ≠ (getStall s f.stall).generation) ∧
    (∃ (s : State) (i : Nat) (f : Frame) (c : Conn), Passes s i f c .hello ∧ f.kind = 3 ∧
        f.keyLen = 0 ∧ f.tagCount = 0 ∧ f.dataLen = 64 ∧ (slice f.data 17 1 ++ slice f.data 32 32).all (fun b => b == 0) ∧
        inUse s f.stall = true ∧ vlanPermits s c.ifc f.stall = true ∧ tooMany (received s i) f.stall = false ∧
        (c.gen = .kv2 ∨ (c.gen = .kv3 ∧ identityFits s c f.stall = true ∧ frozenFor s f.stall = false ∧ f.generation = (getStall s f.stall).generation))) ∧
    (∃ (s : State) (i : Nat) (f : Frame) (c : Conn), Passes s i f c .auth ∧ f.kind = 5 ∧ f.opcode = 1 ∧
        (some f.stall ≠ c.stall ∨ f.generation ≠ c.generation)) ∧
    (∃ (s : State) (i : Nat) (f : Frame) (c : Conn), Passes s i f c .auth ∧ f.kind = 5 ∧ f.opcode = 1 ∧
        some f.stall = c.stall ∧ f.generation = c.generation ∧ (sessionSecret s c = none ∨ (∃ k, sessionSecret s c = some k ∧ f.data ≠ Config.hmacSha256 k (challenge clientName c)))) ∧
    (∃ (s : State) (i : Nat) (f : Frame) (c : Conn) (k : List Byte), Passes s i f c .auth ∧
        f.kind = 5 ∧ f.opcode = 1 ∧ some f.stall = c.stall ∧ f.generation = c.generation ∧
        sessionSecret s c = some k ∧ f.data = Config.hmacSha256 k (challenge clientName c) ∧
        frozenFor s f.stall = true) ∧
    (∃ (s : State) (i : Nat) (f : Frame) (c : Conn) (k : List Byte), Passes s i f c .auth ∧
        f.kind = 5 ∧ f.opcode = 1 ∧ some f.stall = c.stall ∧ f.generation = c.generation ∧
        sessionSecret s c = some k ∧ f.data = Config.hmacSha256 k (challenge clientName c) ∧
        frozenFor s f.stall = false ∧ c.generation ≠ (getStall s f.stall).generation) :=
  ⟨⟨withConn (early (conn2 .hello)) ({}), 0, { helloFrame 2 with dataLen := 63 }, early (conn2 .hello),
        passes_of (by decide +kernel), by decide +kernel⟩,
    ⟨withConn (early (conn2 .hello)) ({}), 0, helloFrame 2, early (conn2 .hello), passes_of (by decide +kernel),
        by decide +kernel⟩,
    ⟨setF (setF (withConn (early (conn2 .hello)) act) (.vlanKCfg 0) "ENABLE" 1) (.vlanStallsLo 0) "VALUE" 1,
        0, helloFrame 2, early (conn2 .hello), passes_of (by decide +kernel), by decide +kernel⟩,
    ⟨withConn { early (conn3 .hello) with tlsAuth := .none_ } act, 0, helloFrame 3, { early (conn3 .hello) with tlsAuth := .none_ },
        passes_of (by decide +kernel), by decide +kernel⟩,
    ⟨{ withConn (early (conn2 .hello)) act with proto := { rdy.proto with conns := (0, early (conn2 .hello)) :: (List.range 32).map (fun n => (n + 1, conn2 .open_)), nextConn := 33 } },
        0, helloFrame 2, early (conn2 .hello), passes_of (by decide +kernel), by decide +kernel⟩,
    ⟨withConn (early (conn3 .hello)) ({ act with state := .frozen }), 0, helloFrame 3, early (conn3 .hello),
        passes_of (by decide +kernel), by decide +kernel⟩,
    ⟨withConn (early (conn3 .hello)) ({ act with generation := 4 }), 0, helloFrame 3, early (conn3 .hello),
        passes_of (by decide +kernel), by decide +kernel⟩,
    ⟨withConn (early (conn2 .hello)) (act), 0, helloFrame 2, early (conn2 .hello), passes_of (by decide +kernel),
        by decide +kernel⟩,
    ⟨withConn (conn2 .auth) {}, 0, { authFrame with generation := 1 }, conn2 .auth, passes_of (by decide +kernel),
        by decide +kernel⟩,
    ⟨withConn (conn2 .auth) {}, 0, authFrame, conn2 .auth, passes_of (by decide +kernel),
        by decide +kernel, by decide +kernel, by decide +kernel, by decide +kernel, .inl (by decide +kernel)⟩,
    ⟨withConn (conn2 .auth) { act with state := .frozen }, 0, authFrame, conn2 .auth, _,
        passes_of (by decide +kernel), by decide +kernel, by decide +kernel, by decide +kernel,
        by decide +kernel, rfl, rfl, by decide +kernel⟩,
    ⟨withConn (conn2 .auth) { act with generation := 4 }, 0, authFrame, conn2 .auth, _, passes_of (by decide +kernel),
        by decide +kernel, by decide +kernel, by decide +kernel, by decide +kernel, rfl,
        rfl, by decide +kernel⟩⟩

/-- States and operands that meet the hypotheses of `HelloAuthAndChannelsAnswerAsTheirRulesSay`, part 2. -/
theorem witness_HelloAuthAndChannelsAnswerAsTheirRulesSay_2 :
    (∃ (s : State) (i : Nat) (f : Frame) (c : Conn) (k : List Byte), Passes s i f c .auth ∧
        f.kind = 5 ∧ f.opcode = 1 ∧ some f.stall = c.stall ∧ f.generation = c.generation ∧
        sessionSecret s c = some k ∧ f.data = Config.hmacSha256 k (challenge clientName c) ∧
        frozenFor s f.stall = false ∧ c.generation = (getStall s f.stall).generation) ∧
    (∃ (s : State) (i : Nat) (f : Frame) (c : Conn), Passes s i f c .open_ ∧ c.gen = .kv3 ∧ f.kind = 7 ∧ f.stall = c.stall.getD
        0 ∧ f.generation = (getStall s (c.stall.getD 0)).generation ∧ c.generation = (getStall s (c.stall.getD 0)).generation ∧
        Staged s i f c ∧ f.opcode = 1) ∧
    (∃ (s : State) (i : Nat) (f : Frame) (c : Conn), Passes s i f c .open_ ∧ c.gen = .kv3 ∧ f.kind = 7 ∧ f.stall = c.stall.getD
        0 ∧ f.generation = (getStall s (c.stall.getD 0)).generation ∧ c.generation = (getStall s (c.stall.getD 0)).generation ∧
        Staged s i f c ∧ f.opcode = 2) ∧
    (∃ (s : State) (i : Nat) (f : Frame) (c : Conn) (ch : Chan), PassesAll s i f c .heartbeat ch) ∧
    (∃ (s : State) (f : Frame) (c : Conn), c.goingAway = false ∧ halting s = false ∧ optOf f = 0 ∧
        f.keyLen = 0 ∧ f.tagCount = 0 ∧ f.dataLen = 0) ∧
    (∃ (f : Frame) (r : Nat × Nat), rowOfFrame f = some r ∧ r ≠ (3, 0)) ∧
    (∃ (f : Frame) (r : Nat × Nat), rowOfFrame f = some r ∧ r ≠ (5, 1)) ∧
    (∃ (f : Frame) (r : Nat × Nat), rowOfFrame f = some r ∧ r ≠ (7, 1)) ∧
    (∃ (f : Frame) (r : Nat × Nat), rowOfFrame f = some r ∧ r ≠ (7, 2)) ∧
    (∃ (f : Frame) (r : Nat × Nat), rowOfFrame f = some r ∧ r ≠ (1, 0x13)) :=
  ⟨⟨withConn (conn2 .auth) act, 0, authFrame, conn2 .auth, _, passes_of (by decide +kernel),
        by decide +kernel, by decide +kernel, by decide +kernel, by decide +kernel, rfl,
        rfl, by decide +kernel⟩,
    ⟨withConn (conn3 .open_) act, 0, { gen := 3, kind := 7, opcode := 1, reqId := 1, channel := 1 }, conn3 .open_, passes_of (by decide +kernel), by decide +kernel, by decide +kernel, by decide +kernel, by decide +kernel, by decide +kernel, ⟨by decide +kernel, by decide +kernel⟩, by decide +kernel⟩,
    ⟨withConn { conn3 .open_ with chans := [{ no := 0, maxOut := 64 }, { no := 1, maxOut := 64 }] } act, 0, { gen := 3, kind := 7, opcode := 2, reqId := 1, channel := 1 },
        { conn3 .open_ with chans := [{ no := 0, maxOut := 64 }, { no := 1, maxOut := 64 }] }, passes_of (by decide +kernel), by decide +kernel, by decide +kernel, by decide +kernel, by decide +kernel, by decide +kernel, ⟨by decide +kernel, by decide +kernel⟩, by decide +kernel⟩,
    ⟨withConn (conn3 .open_) act, 0, { gen := 3, opcode := 0x13, reqId := 1 }, conn3 .open_,
        { no := 0, maxOut := 64 }, passesAll_of (by decide +kernel)⟩,
    ⟨State.reset, authFrame, conn3 .open_, by decide +kernel⟩,
    ⟨authFrame, _, rfl, by decide +kernel⟩,
    ⟨helloFrame 2, _, rfl, by decide +kernel⟩,
    ⟨helloFrame 2, _, rfl, by decide +kernel⟩,
    ⟨helloFrame 2, _, rfl, by decide +kernel⟩,
    ⟨helloFrame 2, _, rfl, by decide +kernel⟩⟩

/-- States and operands that meet the hypotheses of `RequestsAreAdmittedAndDispatchedAsTheirRulesSay`, part 1. -/
theorem witness_RequestsAreAdmittedAndDispatchedAsTheirRulesSay_1 :
    (∃ (s : State) (i : Nat) (f : Frame) (c : Conn) (ch : Chan) (t : OpCode → State), (∀ code, t code = settle (schedRun (admitRequest (received s i) i f.channel c (c.stall.getD 0) code f))) ∧
        PassesAll s i f c .put ch) ∧
    (∃ (s : State) (i : Nat) (f : Frame) (c : Conn) (ch : Chan) (t : OpCode → State), (∀ code, t code = settle (schedRun (admitRequest (received s i) i f.channel c (c.stall.getD 0) code f))) ∧
        PassesAll s i f c .get ch) ∧
    (∃ (s : State) (i : Nat) (f : Frame) (c : Conn) (ch : Chan) (t : OpCode → State), (∀ code, t code = settle (schedRun (admitRequest (received s i) i f.channel c (c.stall.getD 0) code f))) ∧
        PassesAll s i f c .head ch) ∧
    (∃ (s : State) (i : Nat) (f : Frame) (c : Conn) (ch : Chan) (t : OpCode → State), (∀ code, t code = settle (schedRun (admitRequest (received s i) i f.channel c (c.stall.getD 0) code f))) ∧
        PassesAll s i f c .delete ch) ∧
    (∃ (s : State) (i : Nat) (f : Frame) (c : Conn) (ch : Chan) (t : OpCode → State), (∀ code, t code = settle (schedRun (admitRequest (received s i) i f.channel c (c.stall.getD 0) code f))) ∧
        PassesAll s i f c .list ch) ∧
    (∃ (s : State) (i : Nat) (f : Frame) (c : Conn) (ch : Chan) (t : OpCode → State), (∀ code, t code = settle (schedRun (admitRequest (received s i) i f.channel c (c.stall.getD 0) code f))) ∧
        PassesAll s i f c .cas ch) ∧
    (∃ (s : State) (i : Nat) (f : Frame) (c : Conn) (ch : Chan) (t : OpCode → State), (∀ code, t code = settle (schedRun (admitRequest (received s i) i f.channel c (c.stall.getD 0) code f))) ∧
        PassesAll s i f c .mputBegin ch) ∧
    (∃ (s : State) (i : Nat) (f : Frame) (c : Conn) (ch : Chan) (t : OpCode → State), (∀ code, t code = settle (schedRun (admitRequest (received s i) i f.channel c (c.stall.getD 0) code f))) ∧
        PassesAll s i f c .mputPart ch) ∧
    (∃ (s : State) (i : Nat) (f : Frame) (c : Conn) (ch : Chan) (t : OpCode → State), (∀ code, t code = settle (schedRun (admitRequest (received s i) i f.channel c (c.stall.getD 0) code f))) ∧
        PassesAll s i f c .mputCommit ch) ∧
    (∃ (s : State) (i : Nat) (f : Frame) (c : Conn) (ch : Chan) (t : OpCode → State), (∀ code, t code = settle (schedRun (admitRequest (received s i) i f.channel c (c.stall.getD 0) code f))) ∧
        PassesAll s i f c .mputAbort ch) ∧
    (∃ (s : State) (i : Nat) (f : Frame) (c : Conn) (ch : Chan) (t : OpCode → State), (∀ code, t code = settle (schedRun (admitRequest (received s i) i f.channel c (c.stall.getD 0) code f))) ∧
        PassesAll s i f c .txn ch) ∧
    (∃ (s : State) (i : Nat) (f : Frame) (c : Conn) (ch : Chan) (t : OpCode → State), (∀ code, t code = settle (schedRun (admitRequest (received s i) i f.channel c (c.stall.getD 0) code f))) ∧
        PassesAll s i f c .tag ch) :=
  ⟨⟨withConn (conn3 .open_) act, 0, { gen := 3, opcode := 1, reqId := 1 }, conn3 .open_,
        { no := 0, maxOut := 64 }, _, fun _ => rfl, passesAll_of (by decide +kernel)⟩,
    ⟨withConn (conn3 .open_) act, 0, request 2, conn3 .open_, { no := 0, maxOut := 64 },
        _, fun _ => rfl, passesAll_of (by decide +kernel)⟩,
    ⟨withConn (conn3 .open_) act, 0, request 3, conn3 .open_, { no := 0, maxOut := 64 },
        _, fun _ => rfl, passesAll_of (by decide +kernel)⟩,
    ⟨withConn (conn3 .open_) act, 0, request 4, conn3 .open_, { no := 0, maxOut := 64 },
        _, fun _ => rfl, passesAll_of (by decide +kernel)⟩,
    ⟨withConn (conn3 .open_) act, 0, request 5, conn3 .open_, { no := 0, maxOut := 64 },
        _, fun _ => rfl, passesAll_of (by decide +kernel)⟩,
    ⟨withConn (conn3 .open_) act, 0, request 6, conn3 .open_, { no := 0, maxOut := 64 },
        _, fun _ => rfl, passesAll_of (by decide +kernel)⟩,
    ⟨withConn (conn3 .open_) act, 0, request 7, conn3 .open_, { no := 0, maxOut := 64 },
        _, fun _ => rfl, passesAll_of (by decide +kernel)⟩,
    ⟨withConn (conn3 .open_) act, 0, request 8, conn3 .open_, { no := 0, maxOut := 64 },
        _, fun _ => rfl, passesAll_of (by decide +kernel)⟩,
    ⟨withConn (conn3 .open_) act, 0, request 9, conn3 .open_, { no := 0, maxOut := 64 },
        _, fun _ => rfl, passesAll_of (by decide +kernel)⟩,
    ⟨withConn (conn3 .open_) act, 0, request 10, conn3 .open_, { no := 0, maxOut := 64 },
        _, fun _ => rfl, passesAll_of (by decide +kernel)⟩,
    ⟨withConn (conn3 .open_) act, 0, request 11, conn3 .open_, { no := 0, maxOut := 64 },
        _, fun _ => rfl, passesAll_of (by decide +kernel)⟩,
    ⟨withConn (conn3 .open_) act, 0, request 12, conn3 .open_, { no := 0, maxOut := 64 },
        _, fun _ => rfl, passesAll_of (by decide +kernel)⟩⟩

/-- States and operands that meet the hypotheses of `RequestsAreAdmittedAndDispatchedAsTheirRulesSay`, part 2. -/
theorem witness_RequestsAreAdmittedAndDispatchedAsTheirRulesSay_2 :
    (∃ (s : State) (i : Nat) (f : Frame) (c : Conn) (ch : Chan) (t : OpCode → State), (∀ code, t code = settle (schedRun (admitRequest (received s i) i f.channel c (c.stall.getD 0) code f))) ∧
        PassesAll s i f c .find ch) ∧
    (∃ (s : State) (i : Nat) (f : Frame) (c : Conn) (ch : Chan) (t : OpCode → State), (∀ code, t code = settle (schedRun (admitRequest (received s i) i f.channel c (c.stall.getD 0) code f))) ∧
        PassesAll s i f c .fetch ch) ∧
    (∃ (s : State) (i : Nat) (f : Frame) (c : Conn) (ch : Chan) (t : OpCode → State), (∀ code, t code = settle (schedRun (admitRequest (received s i) i f.channel c (c.stall.getD 0) code f))) ∧
        PassesAll s i f c .flush ch) ∧
    (∃ (s : State) (i : Nat) (f : Frame) (c : Conn) (ch : Chan) (t : OpCode → State), (∀ code, t code = settle (schedRun (admitRequest (received s i) i f.channel c (c.stall.getD 0) code f))) ∧
        PassesAll s i f c .discard ch) ∧
    (∃ (s : State) (i : Nat) (f : Frame) (c : Conn) (ch : Chan) (t : OpCode → State), (∀ code, t code = settle (schedRun (admitRequest (received s i) i f.channel c (c.stall.getD 0) code f))) ∧
        PassesAll s i f c .shred ch) ∧
    (∃ (s : State) (i : Nat) (f : Frame) (c : Conn) (ch : Chan) (t : OpCode → State), (∀ code, t code = settle (schedRun (admitRequest (received s i) i f.channel c (c.stall.getD 0) code f))) ∧
        PassesAll s i f c .stat ch) ∧
    (∃ (s : State) (i : Nat) (f : Frame) (c : Conn) (ch : Chan) (t : OpCode → State), (∀ code, t code = settle (schedRun (admitRequest (received s i) i f.channel c (c.stall.getD 0) code f))) ∧
        PassesAll s i f c .mbxSend ch) ∧
    (∃ (s : State) (i : Nat) (f : Frame) (c : Conn) (ch : Chan) (t : OpCode → State), (∀ code, t code = settle (schedRun (admitRequest (received s i) i f.channel c (c.stall.getD 0) code f))) ∧
        PassesAll s i f c .mbxRecv ch) ∧
    (∃ (s : State) (i : Nat) (f : Frame) (c : Conn) (code : OpCode) (ch : Chan), Admits s i f c code ch ∧
        getOp s s.kv.nextOp = none) ∧
    (∃ (s : State) (i : Nat) (f : Frame) (c : Conn) (code : OpCode) (ch : Chan) (e : WinEntry),
        PassesAll s i f c code ch ∧ ch.window.find? (fun e => decide (e.reqId = f.reqId)) = some e ∧
        e.sent = true) ∧
    (∃ (s : State) (c : Conn), (c.goingAway = true ∨ halting s = true)) ∧
    (∃ (s : State) (c : Conn), c.goingAway = false ∧ halting s = false ∧ ready s = false) ∧
    (∃ (s : State) (i : Nat) (f : Frame) (c : Conn) (code : OpCode), Passes s i f c .open_ ∧ f.kind = 1 ∧ opOfCode f.opcode =
        some code ∧ (c.blocked ≠ [] ∨ stagingFits (received s i) i f.dataLen = false)) :=
  ⟨⟨withConn (conn3 .open_) act, 0, request 13, conn3 .open_, { no := 0, maxOut := 64 },
        _, fun _ => rfl, passesAll_of (by decide +kernel)⟩,
    ⟨withConn (conn3 .open_) act, 0, request 14, conn3 .open_, { no := 0, maxOut := 64 },
        _, fun _ => rfl, passesAll_of (by decide +kernel)⟩,
    ⟨withConn (conn3 .open_) act, 0, request 15, conn3 .open_, { no := 0, maxOut := 64 },
        _, fun _ => rfl, passesAll_of (by decide +kernel)⟩,
    ⟨withConn (conn3 .open_) act, 0, request 16, conn3 .open_, { no := 0, maxOut := 64 },
        _, fun _ => rfl, passesAll_of (by decide +kernel)⟩,
    ⟨withConn (conn3 .open_) act, 0, request 17, conn3 .open_, { no := 0, maxOut := 64 },
        _, fun _ => rfl, passesAll_of (by decide +kernel)⟩,
    ⟨withConn (conn3 .open_) act, 0, request 18, conn3 .open_, { no := 0, maxOut := 64 },
        _, fun _ => rfl, passesAll_of (by decide +kernel)⟩,
    ⟨withConn (conn3 .open_) act, 0, request 20, conn3 .open_, { no := 0, maxOut := 64 },
        _, fun _ => rfl, passesAll_of (by decide +kernel)⟩,
    ⟨withConn (conn3 .open_) act, 0, request 21, conn3 .open_, { no := 0, maxOut := 64 },
        _, fun _ => rfl, passesAll_of (by decide +kernel)⟩,
    ⟨withConn (conn3 .open_) act, 0, { gen := 3, opcode := 1, reqId := 1 }, conn3 .open_,
        .put, { no := 0, maxOut := 64 }, admits_of (by decide +kernel), by decide +kernel⟩,
    ⟨withConn { conn3 .open_ with chans := [{ no := 0, maxOut := 64, window := [{ reqId := 7, cached := none, sent := true }] }] } act,
        0, request 1, conn3w, .put, { no := 0, maxOut := 64, window := [{ reqId := 7, cached := none, sent := true }] },
        { reqId := 7, cached := none, sent := true }, passesAll_of (by decide +kernel),
        by decide +kernel⟩,
    ⟨State.reset, { conn2 .open_ with goingAway := true }, by decide +kernel⟩,
    ⟨State.reset, conn3 .open_, by decide +kernel⟩,
    ⟨withConn { conn3 .open_ with blocked := [request 2] } act, 0, request 2, { conn3 .open_ with blocked := [request 2] },
        .get, passes_of (by decide +kernel), by decide +kernel⟩⟩

/-- States and operands that meet the hypotheses of `RequestsAreAdmittedAndDispatchedAsTheirRulesSay`, part 3. -/
theorem witness_RequestsAreAdmittedAndDispatchedAsTheirRulesSay_3 :
    (∃ (s : State) (c : Conn) (x : StallNo), c.goingAway = false ∧ halting s = false ∧ ready s = true ∧
        ((getStall s x).state = .freezing ∨ (getStall s x).state = .frozen)) ∧
    (∃ (s : State) (c : Conn) (x : StallNo), c.goingAway = false ∧ halting s = false ∧ ready s = true ∧
        ((getStall s x).state = .free ∨ (getStall s x).state = .removing)) ∧
    (∃ (s : State) (c : Conn) (x : StallNo), c.goingAway = false ∧ halting s = false ∧ ready s = true ∧
        ((getStall s x).state = .active ∨ (getStall s x).state = .draining)) ∧
    (∃ (s : State) (id : Nat), islUp s .sched = false ∧ canDispatch s = true ∧ firstQueued s = some id) ∧
    (∃ (s : State) (id : Nat) (o : Op) (x : StallNo), canDispatch s = true ∧ headOf s x = some id ∧
        getOp s id = some o ∧ (opCost s o : Int) ≤ (getStall s x).deficit) ∧
    (∃ (s : State) (id : Nat) (o : Op), getOp s id = some o) :=
  ⟨⟨withConn (early (conn2 .hello)) ({ act with state := .frozen }), conn3 .open_, 0, by decide +kernel⟩,
    ⟨rdy, conn3 .open_, 0, by decide +kernel⟩,
    ⟨{ setF (setF (setF rdy .kvCfg "KV1_EN" 1) (.ifCfg 8) "SERVICES" 15) (.kv1SrcCtrl 0) "ENABLE" 1 with stalls := { tab := [(0, { state := .active })] } },
        conn3 .open_, 0, by decide +kernel⟩,
    ⟨{ withOp { opOf .put with phase := .queued } none with isl := {}, stalls := { tab := [(0, { act with live := [1] })], active := [0] } },
        _, by decide +kernel, by decide +kernel, rfl⟩,
    ⟨{ withOp { opOf .get with phase := .queued } none with stalls := { tab := [(0, { act with live := [1], deficit := 100000000 })], active := [0] } },
        _, _, 0, by decide +kernel, rfl, rfl, by decide +kernel⟩,
    ⟨{ withOp { opOf .put with phase := .queued } none with isl := {}, stalls := { tab := [(0, { act with live := [1] })], active := [0] } },
        1, _, rfl⟩⟩

/-- States and operands that meet the hypotheses of `WritesAndRemovalsCommitAsTheirRulesSay`. -/
theorem witness_WritesAndRemovalsCommitAsTheirRulesSay :
    (∃ (s : State) (id : Nat) (o : Op), getOp s id = some o ∧ (o.code = .put ∨ o.code = .cas) ∧ mustWait s id o [opKey o] =
        false ∧ firstResp [heldErr (objOf s (opKey o)), putCond (decide (o.code = .cas)) (o.frame.flags.testBit 8) (objOf s
        (opKey o)) o.frame.version o.frame.incarnation, endErr (objOf s (opKey o)), quotaErr s o (putChange (opView s o) (opKey
        o) (objOf s (opKey o)) o.frame.tags.length o.frame.dataLen o.frame.dataLen), laterErr s true [opKey o]] = none ∧
        (o.arcDone = true ∨ (o.lockAt = none ∧ staticErr s o (connOf s o).gen (connOf s o).maxData = none ∧ o.frame.tags = [] ∧
        (o.frame.dataLen = 0 ∨ direct s o = true ∨ capFits s o.snap.policy o.frame.dataLen = true) ∧ s.upkeep.gc ≠ .matched))) ∧
    (∃ (s : State) (id : Nat) (o : Op) (y : Obj), getOp s id = some o ∧ (o.code = .delete ∨ (o.code = .discard ∧ o.frame.flags.testBit 8 = false)) ∧
        (o.arcDone = true ∨ (o.lockAt = none ∧ staticErr s o (connOf s o).gen (connOf s o).maxData = none)) ∧
        mustWait s id o [opKey o] = false ∧ objOf s (opKey o) = some y ∧ y.held = false ∧
        laterErr s false [opKey o] = none ∧ (o.code = .discard ∨ (o.frame.version = 0 ∧ o.frame.incarnation = 0) ∨ (o.frame.version = y.version ∧ o.frame.incarnation = y.incarnation))) ∧
    (∃ (s : State) (id : Nat) (o : Op), getOp s id = some o ∧ (o.code = .put ∨ o.code = .cas ∨ o.code = .delete ∨ o.code = .tag) ∧
        o.arcDone = false ∧ o.lockAt = none ∧ staticErr s o (connOf s o).gen (connOf s o).maxData = none ∧
        mustWait s id o [opKey o] = true) ∧
    (∃ (s : State) (id : Nat) (o : Op), getOp s id = some o ∧ (o.code = .put ∨ o.code = .cas ∨ o.code = .delete ∨ o.code = .tag) ∧
        o.arcDone = false ∧ o.lockAt = none ∧ staticErr s o (connOf s o).gen (connOf s o).maxData = none ∧
        mustWait s id o [opKey o] = false ∧ objOf s (opKey o) = none ∧ (o.code = .delete ∨ o.code = .tag)) ∧
    (∃ (s : State) (id : Nat) (o : Op) (y : Obj), getOp s id = some o ∧ (o.code = .put ∨ o.code = .cas ∨ o.code = .delete ∨ o.code = .tag) ∧
        o.arcDone = false ∧ o.lockAt = none ∧ staticErr s o (connOf s o).gen (connOf s o).maxData = none ∧
        mustWait s id o [opKey o] = false ∧ objOf s (opKey o) = some y ∧ y.held = true ∧
        o.code ≠ .tag) ∧
    (∃ (s : State) (id : Nat) (o : Op) (r : Resp), getOp s id = some o ∧ o.arcDone = false ∧
        o.lockAt = none ∧ staticErr s o (connOf s o).gen (connOf s o).maxData = some r) ∧
    (∃ (s : State) (id : Nat) (o : Op) (y : Obj) (ts : List Word64) (h : Bool), getOp s id = some o ∧ o.code = .tag ∧ mustWait s id
        o [opKey o] = false ∧ objOf s (opKey o) = some y ∧ (o.arcDone = true ∨ (o.lockAt = none ∧ staticErr s o (connOf s o).gen
        (connOf s o).maxData = none ∧ newTags (optOf o.frame % 4) y.tags o.frame.tags = y.tags)) ∧ ts = newTags (optOf o.frame %
        4) y.tags o.frame.tags ∧ h = (if (optOf o.frame).testBit 2 then true else if (optOf o.frame).testBit 3 then false else
        y.held) ∧ ts.length ≤ 4 ∧ (y.held = false ∨ ts.any isEvidence = true) ∧ ((optOf o.frame).testBit 2 = false ∨ (ts.any
        isEvidence = true ∧ useHold s o.stall + y.value.length ≤ limitOf o 1)) ∧ ((o.frame.version = 0 ∧ o.frame.incarnation =
        0) ∨ (o.frame.version = y.version ∧ o.frame.incarnation = y.incarnation)) ∧ quotaErr s o { noChange with entries := (entryCount y.tags.length (stallWidth (opView s o) o.stall), entryCount ts.length (stallWidth (opView s o) o.stall)) }
        = none ∧ laterErr s false [opKey o] = none) ∧
    (∃ (s : State) (id : Nat) (o : Op) (g : Gen) (named : List (ObjKey × Obj)) (n : Nat),
        getOp s id = some o ∧ (o.code = .shred ∨ (o.code = .discard ∧ o.frame.flags.testBit 8 = true)) ∧
        (o.arcDone = true ∨ (o.lockAt = none ∧ staticErr s o (connOf s o).gen (connOf s o).maxData = none)) ∧
        g = (connOf s o).gen ∧ named = (namedObjs s o g).filter (fun x => ! x.2.held) ∧
        n = s.kv.nextTicket ∧ mustWait s id o (named.map (fun x => x.1)) = false ∧ ticketsOf s o.stall < 64 ∧
        laterErr s false (named.map (fun x => x.1)) = none) :=
  ⟨⟨{ withOp { opOf .put with phase := .queued } none with isl := {}, stalls := { tab := [(0, { act with live := [1] })], active := [0] } },
        1, _, rfl, by decide +kernel⟩,
    ⟨withOp (opOf .delete) (some obj3), 1, _, _, rfl, by decide +kernel, by decide +kernel,
        by decide +kernel, rfl, by decide +kernel⟩,
    ⟨{ withOp (opOf .put) none with kv := { ops := [(0, { opOf .put with phase := .waitCap }), (1, opOf .put)], nextOp := 2 } },
        1, _, rfl, by decide +kernel⟩,
    ⟨withOp (opOf .delete) none, 1, _, rfl, by decide +kernel⟩,
    ⟨withOp (opOf .put) (some { obj3 with held := true }), 1, _, _, rfl, by decide +kernel,
        by decide +kernel, by decide +kernel, by decide +kernel, by decide +kernel, rfl,
        by decide +kernel⟩,
    ⟨withOp { opOf .put with frame := { request 1 with keyLen := 0 } } none, 1, _, _, rfl,
        by decide +kernel, by decide +kernel, rfl⟩,
    ⟨withOp (opOf .tag) (some obj3), 1, _, _, _, _, rfl, by decide +kernel, by decide +kernel,
        rfl, by decide +kernel, rfl, rfl, by decide +kernel⟩,
    ⟨withOp (opOf .shred) (some obj3), 1, _, _, _, _, rfl, by decide +kernel, by decide +kernel,
        rfl, rfl, rfl, by decide +kernel⟩⟩

/-- States and operands that meet the hypotheses of `ReadsTicketsAndMailboxesAnswerAsTheirRulesSay`, part 1. -/
theorem witness_ReadsTicketsAndMailboxesAnswerAsTheirRulesSay_1 :
    (∃ (s : State) (id : Nat) (o : Op) (c : Conn), getOp s id = some o ∧ c = connOf s o ∧
        o.arcDone = false ∧ o.lockAt = none ∧ staticErr s o c.gen c.maxData = none ∧
        (o.seen.isSome ∨ sessionBlocks s id o = false) ∧ (o.code = .get ∨ o.code = .head) ∧
        seenObj s o (opKey o) = none) ∧
    (∃ (s : State) (id : Nat) (o : Op) (c : Conn) (v : Obj), getOp s id = some o ∧ c = connOf s o ∧
        o.arcDone = false ∧ o.lockAt = none ∧ staticErr s o c.gen c.maxData = none ∧
        (o.seen.isSome ∨ sessionBlocks s id o = false) ∧ o.code = .get ∧ c.gen ≠ .kv1 ∧
        seenObj s o (opKey o) = some v ∧ v.value.length < o.frame.arg) ∧
    (∃ (s : State) (id : Nat) (o : Op) (c : Conn) (v : Obj), getOp s id = some o ∧ c = connOf s o ∧
        o.arcDone = false ∧ o.lockAt = none ∧ staticErr s o c.gen c.maxData = none ∧
        (o.seen.isSome ∨ sessionBlocks s id o = false) ∧ o.code = .get ∧ c.gen ≠ .kv1 ∧
        seenObj s o (opKey o) = some v ∧ o.frame.arg ≤ v.value.length ∧ (o.frame.version ≠ 0 ∨ o.frame.incarnation ≠ 0) ∧
        (o.frame.version ≠ v.version ∨ o.frame.incarnation ≠ v.incarnation)) ∧
    (∃ (s : State) (id : Nat) (o : Op) (c : Conn) (v : Obj), getOp s id = some o ∧ c = connOf s o ∧
        o.arcDone = false ∧ o.lockAt = none ∧ staticErr s o c.gen c.maxData = none ∧
        (o.seen.isSome ∨ sessionBlocks s id o = false) ∧ o.code = .get ∧ c.gen ≠ .kv1 ∧
        seenObj s o (opKey o) = some v ∧ o.frame.arg ≤ v.value.length ∧ ((o.frame.version = 0 ∧ o.frame.incarnation = 0) ∨ (o.frame.version = v.version ∧ o.frame.incarnation = v.incarnation)) ∧
        v.avail = .lost) ∧
    (∃ (s : State) (id : Nat) (o : Op) (c : Conn) (v : Obj), getOp s id = some o ∧ c = connOf s o ∧
        o.arcDone = false ∧ o.lockAt = none ∧ staticErr s o c.gen c.maxData = none ∧
        (o.seen.isSome ∨ sessionBlocks s id o = false) ∧ o.code = .get ∧ c.gen ≠ .kv1 ∧
        seenObj s o (opKey o) = some v ∧ o.frame.arg ≤ v.value.length ∧ ((o.frame.version = 0 ∧ o.frame.incarnation = 0) ∨ (o.frame.version = v.version ∧ o.frame.incarnation = v.incarnation)) ∧
        v.avail = .ok ∧ laterErr s false [opKey o] = none) ∧
    (∃ (s : State) (id : Nat) (o : Op) (c : Conn) (v : Obj), getOp s id = some o ∧ c = connOf s o ∧
        o.arcDone = false ∧ o.lockAt = none ∧ staticErr s o c.gen c.maxData = none ∧
        (o.seen.isSome ∨ sessionBlocks s id o = false) ∧ o.code = .get ∧ c.gen = .kv1 ∧
        seenObj s o (opKey o) = some v ∧ v.value.length ≤ 4194304 ∧ v.avail = .ok ∧ laterErr s false [opKey o] = none) ∧
    (∃ (s : State) (id : Nat) (o : Op) (c : Conn) (v : Obj), getOp s id = some o ∧ c = connOf s o ∧
        o.arcDone = false ∧ o.lockAt = none ∧ staticErr s o c.gen c.maxData = none ∧
        (o.seen.isSome ∨ sessionBlocks s id o = false) ∧ o.code = .head ∧ c.gen ≠ .kv1 ∧
        seenObj s o (opKey o) = some v ∧ v.avail = .ok ∧ laterErr s false [opKey o] = none ∧
        (o.frame.version = 0 ∧ o.frame.incarnation = 0)) ∧
    (∃ (s : State) (id : Nat) (o : Op) (c : Conn) (r : Resp), getOp s id = some o ∧ c = connOf s o ∧
        o.arcDone = false ∧ o.lockAt = none ∧ staticErr s o c.gen c.maxData = none ∧
        (o.seen.isSome ∨ sessionBlocks s id o = false) ∧ (o.code = .list ∨ o.code = .stat) ∧
        o.early = some r) ∧
    (∃ (s : State) (id : Nat) (o : Op) (c : Conn), getOp s id = some o ∧ c = connOf s o ∧
        o.arcDone = false ∧ o.lockAt = none ∧ staticErr s o c.gen c.maxData = none ∧
        (o.seen.isSome ∨ sessionBlocks s id o = false) ∧ o.code = .list ∧ o.early = none ∧
        sessionBlocks s id o = false) ∧
    (∃ (s : State) (id : Nat) (o : Op) (c : Conn), getOp s id = some o ∧ c = connOf s o ∧
        o.arcDone = false ∧ o.lockAt = none ∧ staticErr s o c.gen c.maxData = none ∧
        (o.seen.isSome ∨ sessionBlocks s id o = false) ∧ o.code = .fetch ∧ (fetchAnswer s o c).status ≠ .noSuchTicket) ∧
    (∃ (s : State) (id : Nat) (o : Op) (c : Conn), getOp s id = some o ∧ c = connOf s o ∧
        o.arcDone = false ∧ o.lockAt = none ∧ staticErr s o c.gen c.maxData = none ∧
        (o.seen.isSome ∨ sessionBlocks s id o = false) ∧ o.code = .fetch ∧ AMap.find s.kv.tickets o.frame.arg = none) ∧
    (∃ (s : State) (id : Nat) (o : Op) (c : Conn) (t : Ticket), getOp s id = some o ∧ c = connOf s o ∧
        o.arcDone = false ∧ o.lockAt = none ∧ staticErr s o c.gen c.maxData = none ∧
        (o.seen.isSome ∨ sessionBlocks s id o = false) ∧ o.code = .fetch ∧ AMap.find s.kv.tickets o.frame.arg = some t ∧
        t.stall = o.stall ∧ t.generation = o.generation ∧ t.state = .running) ∧
    (∃ (s : State) (id : Nat) (o : Op) (c : Conn), getOp s id = some o ∧ c = connOf s o ∧ o.arcDone = false ∧ o.lockAt = none ∧
        staticErr s o c.gen c.maxData = none ∧ (o.seen.isSome ∨ sessionBlocks s id o = false) ∧ (o.code ≠ .list ∨
        s.isl.rebuilding = [])) :=
  ⟨⟨{ withOp { opOf .get with phase := .queued } none with stalls := { tab := [(0, { act with live := [1], deficit := 100000000 })], active := [0] } },
        1, _, _, rfl, rfl, by decide +kernel⟩,
    ⟨withOp { opOf .get with frame := { request 2 with arg := 4 } } (some obj3), 1, _, _,
        _, rfl, rfl, by decide +kernel, by decide +kernel, by decide +kernel, by decide +kernel,
        by decide +kernel, by decide +kernel, rfl, by decide +kernel⟩,
    ⟨withOp { opOf .get with frame := { request 2 with version := 7, incarnation := 7 } } (some obj3),
        1, _, _, _, rfl, rfl, by decide +kernel, by decide +kernel, by decide +kernel,
        by decide +kernel, by decide +kernel, by decide +kernel, rfl, by decide +kernel⟩,
    ⟨withOp (opOf .get) (some { obj3 with avail := .lost }), 1, _, _, _, rfl, rfl, by decide +kernel,
        by decide +kernel, by decide +kernel, by decide +kernel, by decide +kernel, by decide +kernel,
        rfl, by decide +kernel⟩,
    ⟨withOp (opOf .get) (some obj3), 1, _, _, _, rfl, rfl, by decide +kernel, by decide +kernel,
        by decide +kernel, by decide +kernel, by decide +kernel, by decide +kernel, rfl,
        by decide +kernel⟩,
    ⟨{ withOp (opOf .get) (some obj3) with proto := { rdy.proto with conns := [(0, { conn2 .open_ with gen := .kv1 })] } },
        1, _, _, _, rfl, rfl, by decide +kernel, by decide +kernel, by decide +kernel,
        by decide +kernel, by decide +kernel, by decide +kernel, rfl, by decide +kernel⟩,
    ⟨withOp (opOf .head) (some obj3), 1, _, _, _, rfl, rfl, by decide +kernel, by decide +kernel,
        by decide +kernel, by decide +kernel, by decide +kernel, by decide +kernel, rfl,
        by decide +kernel⟩,
    ⟨withOp { opOf .list with early := some {} } none, 1, _, _, _, rfl, rfl, by decide +kernel,
        by decide +kernel, by decide +kernel, by decide +kernel, by decide +kernel, rfl⟩,
    ⟨withOp (opOf .list) none, 1, _, _, rfl, rfl, by decide +kernel⟩,
    ⟨withTicket (bare .fetch) { stall := 0, generation := 0, kind := .discard, state := .done },
        1, _, _, rfl, rfl, by decide +kernel⟩,
    ⟨withOp (bare .fetch) none, 1, _, _, rfl, rfl, by decide +kernel⟩,
    ⟨withTicket (bare .fetch) { stall := 0, generation := 0, kind := .find }, 1, _, _, _,
        rfl, rfl, by decide +kernel, by decide +kernel, by decide +kernel, by decide +kernel,
        by decide +kernel, rfl, by decide +kernel⟩,
    ⟨withUploads (opOf .list) 0, 1, _, _, rfl, rfl, by decide +kernel⟩⟩

/-- States and operands that meet the hypotheses of `ReadsTicketsAndMailboxesAnswerAsTheirRulesSay`, part 2. -/
theorem witness_ReadsTicketsAndMailboxesAnswerAsTheirRulesSay_2 :
    (∃ (s : State) (id : Nat) (o : Op) (c : Conn), getOp s id = some o ∧ c = connOf s o ∧
        o.arcDone = false ∧ o.lockAt = none ∧ staticErr s o c.gen c.maxData = none ∧
        (o.seen.isSome ∨ sessionBlocks s id o = false) ∧ o.code = .mputBegin ∧ 16 ≤ (s.kv.uploads.filter (fun u => decide (u.2.key.stall = o.stall))).length) ∧
    (∃ (s : State) (id : Nat) (o : Op) (c : Conn), getOp s id = some o ∧ c = connOf s o ∧ o.arcDone = false ∧ o.lockAt = none ∧
        staticErr s o c.gen c.maxData = none ∧ (o.seen.isSome ∨ sessionBlocks s id o = false) ∧ o.code = .mputBegin ∧
        (s.kv.uploads.filter (fun u => decide (u.2.key.stall = o.stall))).length < 16 ∧ laterErr s false [opKey o] = none) ∧
    (∃ (s : State) (id : Nat) (o : Op) (c : Conn), getOp s id = some o ∧ c = connOf s o ∧
        o.arcDone = false ∧ o.lockAt = none ∧ staticErr s o c.gen c.maxData = none ∧
        (o.seen.isSome ∨ sessionBlocks s id o = false) ∧ o.code = .mputAbort ∧ uploadOf s o = none) ∧
    (∃ (s : State) (id : Nat) (o : Op) (c : Conn), getOp s id = some o ∧ c = connOf s o ∧
        o.arcDone = false ∧ o.lockAt = none ∧ staticErr s o c.gen c.maxData = none ∧
        (o.seen.isSome ∨ sessionBlocks s id o = false) ∧ o.code = .mputAbort ∧ uploadOf s o ≠ none) ∧
    (∃ (s : State) (id : Nat) (o : Op) (c : Conn), getOp s id = some o ∧ c = connOf s o ∧
        o.arcDone = false ∧ o.lockAt = none ∧ staticErr s o c.gen c.maxData = none ∧
        (o.seen.isSome ∨ sessionBlocks s id o = false) ∧ o.code = .find ∧ 64 ≤ ticketsOf s o.stall) ∧
    (∃ (s : State) (id : Nat) (o : Op) (c : Conn), getOp s id = some o ∧ c = connOf s o ∧
        o.arcDone = false ∧ o.lockAt = none ∧ staticErr s o c.gen c.maxData = none ∧
        (o.seen.isSome ∨ sessionBlocks s id o = false) ∧ o.code = .find ∧ ticketsOf s o.stall < 64 ∧
        rowScope s o = false) ∧
    (∃ (s : State) (id : Nat) (o : Op) (c : Conn), getOp s id = some o ∧ c = connOf s o ∧
        o.arcDone = false ∧ o.lockAt = none ∧ staticErr s o c.gen c.maxData = none ∧
        (o.seen.isSome ∨ sessionBlocks s id o = false) ∧ o.code = .flush ∧ flushCovers s id o = ([], false)) ∧
    (∃ (s : State) (id : Nat) (o : Op) (c : Conn), getOp s id = some o ∧ c = connOf s o ∧
        o.arcDone = false ∧ o.lockAt = none ∧ staticErr s o c.gen c.maxData = none ∧
        (o.seen.isSome ∨ sessionBlocks s id o = false) ∧ o.code = .flush ∧ flushCovers s id o ≠ ([], false) ∧
        coldNow s = true ∧ (flushCovers s id o).1 ≠ []) ∧
    (∃ (s : State) (id : Nat) (o : Op) (c : Conn), getOp s id = some o ∧ c = connOf s o ∧
        o.arcDone = false ∧ o.lockAt = none ∧ staticErr s o c.gen c.maxData = none ∧
        (o.seen.isSome ∨ sessionBlocks s id o = false) ∧ o.code = .mbxSend ∧ 16 ≤ (getStall s o.stall).toWarden.msgs.length) ∧
    (∃ (s : State) (id : Nat) (o : Op) (c : Conn) (q : MsgQueue), getOp s id = some o ∧ c = connOf s o ∧
        o.arcDone = false ∧ o.lockAt = none ∧ staticErr s o c.gen c.maxData = none ∧
        (o.seen.isSome ∨ sessionBlocks s id o = false) ∧ o.code = .mbxSend ∧ q = (getStall s o.stall).toWarden ∧
        q.msgs.length < 16) ∧
    (∃ (s : State) (id : Nat) (o : Op) (c : Conn) (q : MsgQueue) (ms : List Msg), getOp s id = some o ∧
        c = connOf s o ∧ o.arcDone = false ∧ o.lockAt = none ∧ staticErr s o c.gen c.maxData = none ∧
        (o.seen.isSome ∨ sessionBlocks s id o = false) ∧ o.code = .mbxRecv ∧ q = (getStall s o.stall).toTenant ∧
        ms = q.msgs.filter (fun m => decide (o.frame.version ≤ m.seq))) :=
  ⟨⟨withUploads (opOf .mputBegin) 16, 1, _, _, rfl, rfl, by decide +kernel⟩,
    ⟨withUploads (opOf .mputBegin) 15, 1, _, _, rfl, rfl, by decide +kernel⟩,
    ⟨withOp (bare .mputAbort) none, 1, _, _, rfl, rfl, by decide +kernel⟩,
    ⟨withUploads (bare .mputAbort) 1, 1, _, _, rfl, rfl, by decide +kernel⟩,
    ⟨{ withOp { bare .find with frame := { gen := 3, opcode := 1, reqId := 7, tagCount := 1, tags := [1] } } none with kv := { (withOp { bare .find with frame := { gen := 3, opcode := 1, reqId := 7, tagCount := 1, tags := [1] } } none).kv with tickets := (List.range 64).map (fun i => (i, { stall := 0, generation := 0, kind := .find })) } },
        1, _, _, rfl, rfl, by decide +kernel⟩,
    ⟨withOp { bare .find with frame := { gen := 3, opcode := 1, reqId := 7, tagCount := 1, tags := [1] } } none,
        1, _, _, rfl, rfl, by decide +kernel⟩,
    ⟨withOp (bare .flush) none, 1, _, _, rfl, rfl, by decide +kernel⟩,
    ⟨coldFlush, 1, _, _, rfl, rfl, by decide +kernel⟩,
    ⟨mbxFull, 1, _, _, rfl, rfl, by decide +kernel⟩,
    ⟨withOp { bare .mbxSend with frame := { gen := 3, opcode := 1, reqId := 7, dataLen := 1, data := [1] } } none,
        1, _, _, _, rfl, rfl, by decide +kernel, by decide +kernel, by decide +kernel,
        by decide +kernel, by decide +kernel, rfl, by decide +kernel⟩,
    ⟨withOp (bare .mbxRecv) none, 1, _, _, _, _, rfl, rfl, by decide +kernel, by decide +kernel,
        by decide +kernel, by decide +kernel, by decide +kernel, rfl, rfl⟩⟩

/-- States and operands that meet the hypotheses of `UploadsLocksTicketsAndBucketsEndAsTheirRulesSay`, part 1. -/
theorem witness_UploadsLocksTicketsAndBucketsEndAsTheirRulesSay_1 :
    (∃ (s : State) (n : Nat) (u : Upload), AMap.find s.kv.uploads n = some u) ∧
    (∃ (s : State) (n : Nat), AMap.find s.kv.uploads n = none) ∧
    (∃ (s : State) (id : Nat) (o : Op), getOp s id = some o ∧ o.code = .txn ∧ o.phase = .waitLock ∧
        o.lockAt = none) ∧
    (∃ (s : State) (id : Nat) (o : Op) (t : Nat), getOp s id = some o ∧ o.code = .txn ∧ o.phase = .waitLock ∧
        o.lockAt = some t ∧ holdsAll (lockTxn s id o) id (txnFps o) = false) ∧
    (∃ (s : State) (id : Nat) (o : Op) (t : Nat), getOp s id = some o ∧ o.code = .txn ∧ o.phase = .waitLock ∧
        o.lockAt = some t ∧ holdsAll (lockTxn s id o) id (txnFps o) = true) ∧
    (∃ (s : State) (id : Nat) (o : Op) (t : Nat), getOp s id = some o ∧ o.code = .txn ∧ o.phase = .waitLock ∧
        o.lockAt = some t ∧ holdsAll s id (txnFps o) = true) ∧
    (∃ (s : State) (id : Nat) (o : Op) (t : Nat), getOp s id = some o ∧ o.code = .txn ∧ o.phase = .waitLock ∧
        o.lockAt = some t ∧ holdsAll s id (txnFps o) = false) ∧
    (∃ (s : State) (id : Nat) (o : Op), getOp s id = some o ∧ (o.phase ≠ .waitLock ∨ o.code ≠ .txn)) ∧
    (∃ (s : State) (id : Nat) (k : Nat) (i : Nat), AMap.find (freeLocks s i).kv.locks k = some id) ∧
    (∃ (s : State) (n : Nat) (t : Ticket), AMap.find s.kv.tickets n = some t ∧ t.state = .running) ∧
    (∃ (s : State) (n : Nat) (t : Ticket), AMap.find s.kv.tickets n = some t ∧ t.state ≠ .running) ∧
    (∃ (s : State) (n : Nat), AMap.find s.kv.tickets n = none) :=
  ⟨⟨withUploads (opOf .mputBegin) 16, 0, _, rfl⟩,
    ⟨State.reset, 0, by decide +kernel⟩,
    ⟨withOp { opOf .txn with phase := .waitLock } none, 1, _, rfl, by decide +kernel⟩,
    ⟨lockState (some 0), 1, _, _, rfl, rfl, rfl, rfl, locks_other⟩,
    ⟨lockState none, 1, _, _, rfl, rfl, rfl, rfl, locks_taken⟩,
    ⟨lockState (some 1), 1, _, _, rfl, rfl, rfl, rfl, locks_held⟩,
    ⟨lockState none, 1, _, _, rfl, rfl, rfl, rfl, locks_free⟩,
    ⟨{ withOp { opOf .put with phase := .queued } none with isl := {}, stalls := { tab := [(0, { act with live := [1] })], active := [0] } },
        1, _, rfl, by decide +kernel⟩,
    ⟨{ rdy with kv := { locks := [(7, 1)] } }, _, 7, 0, rfl⟩,
    ⟨withTicket (bare .fetch) { stall := 0, generation := 0, kind := .find }, 0, _, rfl, by decide +kernel⟩,
    ⟨withTicket (bare .fetch) { stall := 0, generation := 0, kind := .discard, state := .done },
        0, _, rfl, by decide +kernel⟩,
    ⟨State.reset, 0, by decide +kernel⟩⟩

/-- States and operands that meet the hypotheses of `UploadsLocksTicketsAndBucketsEndAsTheirRulesSay`, part 2. -/
theorem witness_UploadsLocksTicketsAndBucketsEndAsTheirRulesSay_2 :
    (∃ (s : State) (k : ObjKey) (o : Obj), objOf s k = some o ∧ o.held = true) ∧
    (∃ (s : State) (k : ObjKey) (o : Obj), objOf s k = some o ∧ o.held = false ∧ s.phase ≠ .off) ∧
    (∃ (s : State) (k : ObjKey), objOf s k = none) ∧
    (∃ (s : State) (id : Nat) (o : Op) (r : Resp), getOp s id = some o ∧ o.phase = .working ∧ o.resp = some r) ∧
    (∃ (s : State) (id : Nat) (o : Op) (r : Option Resp), getOp s id = some o ∧ (o.phase ≠ .working ∨ (o.resp = none ∧ r = o.resp))) ∧
    (∃ (s : State) (id : Nat) (o : Op) (c : Conn), getOp s id = some o ∧ getConn s o.conn = some c) ∧
    (∃ (w : Word64), rateOf w = 0) ∧
    (∃ (w : Word64) (l : Int), l ≤ 1000000 * burstOf w) ∧
    (∃ (s : State) (i : Nat) (c : Conn) (t : Nat), getConn s i = some c ∧ c.doorbell = (some t, true)) ∧
    (∃ (s : State) (i : Nat) (c : Conn) (t : Nat), getConn s i = some c ∧ (c.doorbell = (some t, false) ∨ c.doorbell = (none, true) ∨ c.doorbell = (none, false))) ∧
    (∃ (w : Word64), rateOf w ≠ 0) :=
  ⟨⟨withOp (opOf .put) (some { obj3 with held := true }), { stall := 0, key := [1] }, _, rfl, by decide +kernel⟩,
    ⟨withOp (opOf .put) (some obj3), { stall := 0, key := [1] }, _, rfl, by decide +kernel⟩,
    ⟨State.reset, { stall := 0, key := [1] }, by decide +kernel⟩,
    ⟨withOp { opOf .get with resp := some {} } none, 1, _, _, rfl, by decide +kernel, rfl⟩,
    ⟨{ withOp { opOf .put with phase := .queued } none with isl := {}, stalls := { tab := [(0, { act with live := [1] })], active := [0] } },
        1, _, none, rfl, by decide +kernel⟩,
    ⟨{ withOp { opOf .put with phase := .queued } none with isl := {}, stalls := { tab := [(0, { act with live := [1] })], active := [0] } },
        1, _, _, rfl, rfl⟩,
    ⟨0, by decide +kernel⟩,
    ⟨0, 0, by decide +kernel⟩,
    ⟨withConn { conn2 .open_ with doorbell := (some 0, true) } act, 0, _, _, rfl, rfl⟩,
    ⟨{ rdy with proto := { rdy.proto with conns := [(0, { gen := .kv2, peer := 1, ifc := 8, port := .p0, local_ := 0, stage := .tls, stageAt := 0, lastRx := 0 })], nextConn := 1 } },
        0, _, 0, rfl, by decide +kernel⟩,
    ⟨0x0000000100000001#64, by decide⟩⟩

/-- States and operands that meet the hypotheses of `StallsLiveAsChapter11Says`, part 1. -/
theorem witness_StallsLiveAsChapter11Says_1 :
    (∃ (s : State) (l : Line) (d : Session) (n : Int) (x : StallNo), Accepts s l {} (stallErr n) d ∧
        x = stallArg n ∧ ((getStall s x).state = .removing ∨ (getStall s x).state = .draining)) ∧
    (∃ (s : State) (l : Line) (d : Session) (n : Int) (x : StallNo), Accepts s l {} (stallErr n) d ∧
        x = stallArg n ∧ ((getStall s x).state = .active ∨ (getStall s x).state = .freezing ∨ (getStall s x).state = .frozen)) ∧
    (∃ (s : State) (l : Line) (d : Session) (n : Int) (x : StallNo), Accepts s l {} (stallErr n) d ∧
        x = stallArg n ∧ (getStall s x).state = .free ∧ (getStall s x).reloc = none) ∧
    (∃ (s : State) (l : Line) (d : Session) (n : Int) (x : StallNo) (t : State), Accepts s l (changesStall s l n) (stallErr n) d ∧
        x = stallArg n ∧ (getStall s x).state = .draining ∧ t = answer (heard s l) l.sess l.tag .busy none) ∧
    (∃ (s : State) (l : Line) (d : Session) (n : Int) (x : StallNo) (t : State), Accepts s l (changesStall s l n) (stallErr n) d ∧
        x = stallArg n ∧ (getStall s x).state ≠ .draining ∧ relocates s x = true ∧ t = answer (heard s l) l.sess l.tag (.err .relocating) none) ∧
    (∃ (s : State) (l : Line) (d : Session) (n : Int) (x : StallNo) (t : State), Accepts s l (changesStall s l n) (stallErr n) d ∧
        x = stallArg n ∧ (getStall s x).state ≠ .draining ∧ relocates s x = false ∧ (getStall s x).state ≠ .active ∧
        t = answer (heard s l) l.sess l.tag (.err .stallState) none) ∧
    (∃ (s : State) (l : Line) (d : Session) (n : Int) (x : StallNo), Accepts s l (changesStall s l n) (stallErr n) d ∧
        x = stallArg n ∧ (getStall s x).state ≠ .draining ∧ relocates s x = false ∧ (getStall s x).state = .active) ∧
    (∃ (s : State) (l : Line) (d : Session) (n : Int) (x : StallNo), Accepts s l (changesStall s l n) (stallErr n) d ∧
        x = stallArg n ∧ (getStall s x).state ≠ .draining ∧ relocates s x = false ∧ ((getStall s x).state = .active ∨ (getStall s x).state = .frozen) ∧
        (stallObjs s x).any (fun o => o.2.held) = true) ∧
    (∃ (s : State) (l : Line) (d : Session) (n : Int) (x : StallNo), Accepts s l (changesStall s l n) (stallErr n) d ∧
        x = stallArg n ∧ (getStall s x).state ≠ .draining ∧ relocates s x = false ∧ ((getStall s x).state = .active ∨ (getStall s x).state = .frozen) ∧
        (stallObjs s x).any (fun o => o.2.held) = false) ∧
    (∃ (s : State) (x : StallNo), (connsOf s x) = []) ∧
    (∃ (s : State) (x : StallNo), (getStall s x).drain = none) ∧
    (∃ (s : State) (x : StallNo), (getStall s x).freeze = none) :=
  ⟨⟨withConn (conn3 .open_) { act with state := .draining }, uLine, mSess, 0, _, accepts_of (by decide +kernel),
        rfl, by decide +kernel⟩,
    ⟨{ setF (setF (setF rdy .kvCfg "KV1_EN" 1) (.ifCfg 8) "SERVICES" 15) (.kv1SrcCtrl 0) "ENABLE" 1 with stalls := { tab := [(0, { state := .active })] } },
        uLine, mSess, 0, _, accepts_of (by decide +kernel), rfl, by decide +kernel⟩,
    ⟨rdy, uLine, mSess, 0, _, accepts_of (by decide +kernel), rfl, by decide +kernel⟩,
    ⟨withConn (conn3 .open_) { act with state := .draining }, uLine, mSess, 0, _, _, accepts_of (by decide +kernel),
        rfl, by decide +kernel, rfl⟩,
    ⟨withStall { act with reloc := some relocSrc }, uLine, mSess, 0, _, _, accepts_of (by decide +kernel),
        rfl, by decide +kernel, by decide +kernel, rfl⟩,
    ⟨rdy, uLine, mSess, 0, _, _, accepts_of (by decide +kernel), rfl, by decide +kernel,
        by decide +kernel, by decide +kernel, rfl⟩,
    ⟨{ setF (setF (setF rdy .kvCfg "KV1_EN" 1) (.ifCfg 8) "SERVICES" 15) (.kv1SrcCtrl 0) "ENABLE" 1 with stalls := { tab := [(0, { state := .active })] } },
        uLine, mSess, 0, _, accepts_of (by decide +kernel), rfl, by decide +kernel⟩,
    ⟨withOp (opOf .put) (some { obj3 with held := true }), uLine, mSess, 0, _, accepts_of (by decide +kernel),
        rfl, by decide +kernel⟩,
    ⟨{ setF (setF (setF rdy .kvCfg "KV1_EN" 1) (.ifCfg 8) "SERVICES" 15) (.kv1SrcCtrl 0) "ENABLE" 1 with stalls := { tab := [(0, { state := .active })] } },
        uLine, mSess, 0, _, accepts_of (by decide +kernel), rfl, by decide +kernel⟩,
    ⟨State.reset, 0, by decide +kernel⟩,
    ⟨State.reset, 0, by decide +kernel⟩,
    ⟨State.reset, 0, by decide +kernel⟩⟩

/-- States and operands that meet the hypotheses of `StallsLiveAsChapter11Says`, part 2. -/
theorem witness_StallsLiveAsChapter11Says_2 :
    (∃ (s : State) (x : StallNo), (getStall s x).state = .removing ∧ s.media.bands.all (fun b => ! (b.2.pslc && b.2.shredPending)) = true) ∧
    (∃ (s : State) (x : StallNo), (getStall s x).state ≠ .removing) ∧
    (∃ (s : State) (l : Line) (d : Session) (n : Int) (x : StallNo), Accepts s l (changesStall s l n) (stallErr n) d ∧
        x = stallArg n ∧ (getStall s x).state ≠ .draining ∧ loadedBlob s x = none) ∧
    (∃ (s : State) (l : Line) (d : Session) (n : Int) (x : StallNo) (y : StallNo) (b : Blob),
        Accepts s l (changesStall s l n) (stallErr n) d ∧ x = stallArg n ∧ (getStall s x).state ≠ .draining ∧
        loadedBlob s x = some (y, b) ∧ (y ≠ x ∨ (getStall s x).lastFreeze ≠ some (b.generation, b.freezeSeq) ∨ b.config ≠ stallConfig s x)) ∧
    (∃ (s : State) (l : Line) (d : Session) (n : Int) (x : StallNo) (y : StallNo) (b : Blob),
        Accepts s l (changesStall s l n) (stallErr n) d ∧ x = stallArg n ∧ (getStall s x).state ≠ .draining ∧
        loadedBlob s x = some (y, b) ∧ y = x ∧ (getStall s x).lastFreeze = some (b.generation, b.freezeSeq) ∧
        b.config = stallConfig s x ∧ (getStall s x).state ≠ .frozen) ∧
    (∃ (s : State) (l : Line) (d : Session) (n : Int) (x : StallNo) (y : StallNo) (b : Blob),
        Accepts s l (changesStall s l n) (stallErr n) d ∧ x = stallArg n ∧ (getStall s x).state ≠ .draining ∧
        loadedBlob s x = some (y, b) ∧ y = x ∧ (getStall s x).lastFreeze = some (b.generation, b.freezeSeq) ∧
        b.config = stallConfig s x ∧ (getStall s x).state = .frozen) ∧
    (∃ (s : State) (l : Line) (d : Session) (n : Int) (off : Int) (hex : List Byte) (x : StallNo),
        Accepts s l (changesStall s l n) (firstErr [stallErr n, rangeErr off 0 65535, if hex.length = 0 ∨ 64 < hex.length then some .badValue else none]) d ∧
        x = stallArg n ∧ (getStall s x).state ≠ .draining) ∧
    (∃ (s : State) (l : Line) (d : Session) (n : Int) (w : Option Int) (x : StallNo), Accepts s l (changesStallP s l n) (firstErr [stallErr n, w.bind (fun w => rangeErr w 0 3)]) d ∧
        x = stallArg n ∧ (getStall s x).state ≠ .draining) ∧
    (∃ (s : State) (l : Line) (d : Session) (n : Int) (x : StallNo), Accepts s l (changesStallP s l n) (stallErr n) d ∧
        x = stallArg n ∧ (getStall s x).dataKey = none) ∧
    (∃ (s : State) (l : Line) (d : Session) (n : Int) (x : StallNo) (e : Word64), Accepts s l (changesStallP s l n) (stallErr n) d ∧
        x = stallArg n ∧ (getStall s x).dataKey = some e) ∧
    (∃ (s : State) (l : Line) (d : Session) (n : Int) (k : Int) (x : StallNo), Accepts s l (changesStall s l n) (firstErr [stallErr n, rangeErr k 0 7]) d ∧
        x = stallArg n ∧ (getStall s x).state ≠ .draining) ∧
    (∃ (s : State) (l : Line) (d : Session) (n : Int) (k : Int) (v : CredArg) (x : StallNo),
        Accepts s l (changesStall s l n) (firstErr [if (credOf v).isNone then some .badValue else none, stallErr n, rangeErr k 0 7]) d ∧
        x = stallArg n ∧ (getStall s x).state ≠ .draining) :=
  ⟨⟨withStall { act with state := .removing }, 0, by decide +kernel⟩,
    ⟨State.reset, 0, by decide +kernel⟩,
    ⟨rdy, uLine, mSess, 0, _, accepts_of (by decide +kernel), rfl, by decide +kernel⟩,
    ⟨blobState act blob0, uLine, mSess, 0, _, 0, blob0, accepts_of (by decide +kernel), rfl, by decide +kernel⟩,
    ⟨blobState { act with lastFreeze := some (1, 1) } { blob0 with config := stallConfig rdy 0 },
        uLine, mSess, 0, _, 0, { blob0 with config := stallConfig rdy 0 }, accepts_of (by decide +kernel), rfl, by decide +kernel⟩,
    ⟨blobState { act with state := .frozen, lastFreeze := some (1, 1) } { blob0 with config := stallConfig rdy 0 },
        uLine, mSess, 0, _, 0, { blob0 with config := stallConfig rdy 0 }, accepts_of (by decide +kernel), rfl, by decide +kernel⟩,
    ⟨rdy, uLine, mSess, 0, 0, [7], _, accepts_of (by decide +kernel), rfl, by decide +kernel⟩,
    ⟨rdy, uLine, mSess, 0, none, _, accepts_of (by decide +kernel), rfl, by decide +kernel⟩,
    ⟨rdy, uLine, mSess, 0, _, accepts_of (by decide +kernel), rfl, by decide +kernel⟩,
    ⟨withStall { act with dataKey := some 5 }, uLine, mSess, 0, _, _, accepts_of (by decide +kernel), rfl, rfl⟩,
    ⟨rdy, uLine, mSess, 0, 0, _, accepts_of (by decide +kernel), rfl, by decide +kernel⟩,
    ⟨rdy, uLine, mSess, 0, 0, .secret (List.replicate 32 0), _, accepts_of (by decide +kernel),
        rfl, by decide +kernel⟩⟩

/-- States and operands that meet the hypotheses of `StallsLiveAsChapter11Says`, part 3. -/
theorem witness_StallsLiveAsChapter11Says_3 :
    (∃ (v : Option Cred) (c : Cred), v = some c) ∧
    (∃ (v : Option Cred), v = none) :=
  ⟨⟨some (.secret []), _, rfl⟩,
    ⟨none, rfl⟩⟩

/-- States and operands that meet the hypotheses of `RelocationMailboxAndMeteringActAsTheirChaptersSay`, part 1. -/
theorem witness_RelocationMailboxAndMeteringActAsTheirChaptersSay_1 :
    (∃ (s : State) (l : Line) (d : Session) (n : Int) (dest : Int) (rate : Option Int) (x : StallNo),
        Accepts s l (changesStall s l n) (firstErr [stallErr n, stallErr dest, rangeErr (rate.getD 100) 1 1000]) d ∧
        x = stallArg n ∧ (getStall s x).state ≠ .draining ∧ relocates s x = true) ∧
    (∃ (s : State) (l : Line) (d : Session) (n : Int) (dst : Nat) (dest : Int) (rate : Option Int) (acc : Bool) (x : StallNo),
        Accepts s l (changesStall s l n) (firstErr [stallErr n, stallErr dest, rangeErr (rate.getD 100) 1 1000]) d ∧
        x = stallArg n ∧ (getStall s x).state ≠ .draining ∧ relocates s x = false ∧ ((getStall s x).state ≠ .active ∨ isMember s dst = false ∨ dst = Config.serial ∨ acc = false)) ∧
    (∃ (s : State) (l : Line) (d : Session) (n : Int) (dst : Nat) (dest : Int) (rate : Option Int) (acc : Bool) (x : StallNo),
        Accepts s l (changesStall s l n) (firstErr [stallErr n, stallErr dest, rangeErr (rate.getD 100) 1 1000]) d ∧
        x = stallArg n ∧ (getStall s x).state ≠ .draining ∧ relocates s x = false ∧ (getStall s x).state = .active ∧
        isMember s dst = true ∧ dst ≠ Config.serial ∧ acc = true) ∧
    (∃ (s : State) (x : StallNo) (r : Relocation), (getStall s x).reloc = some r ∧ (r.source = false ∨ r.cutover = true ∨ (r.toCopy = [] ∧ r.changed = []))) ∧
    (∃ (s : State) (x : StallNo) (r : Relocation) (k : ObjKey) (ks : List ObjKey) (u : State), (getStall s x).reloc = some r ∧
        r.source = true ∧ r.cutover = false ∧ r.toCopy ++ r.changed = k :: ks ∧ u = advanceTo s r.nextAt) ∧
    (∃ (s : State) (x : StallNo) (r : Relocation), (getStall s x).reloc = some r ∧ r.source = true ∧
        r.cutover = false ∧ (getStall s x).state = .active ∧ r.toCopy = [] ∧ r.sent = [] ∧
        changedBytes s r ≤ 268435456) ∧
    (∃ (s : State) (x : StallNo) (r : Relocation), (getStall s x).reloc = some r ∧ r.source = true ∧
        r.cutover = false ∧ (getStall s x).state = .active ∧ r.toCopy = [] ∧ r.sent = [] ∧
        268435456 < changedBytes s r) ∧
    (∃ (s : State) (x : StallNo) (r : Relocation), (getStall s x).reloc = some r ∧ (r.toCopy ≠ [] ∨ r.sent ≠ [] ∨ r.source = false)) ∧
    (∃ (s : State) (x : StallNo) (r : Relocation) (c : RelocFail), (getStall s x).reloc = some r ∧ c ≠ .noConfirm) ∧
    (∃ (s : State) (x : StallNo) (r : Relocation), (getStall s x).reloc = some r ∧ r.step2At = none) ∧
    (∃ (s : State) (x : StallNo) (r : Relocation) (t : Nat), (getStall s x).reloc = some r ∧ r.step2At = some t) ∧
    (∃ (s : State) (x : StallNo), (getStall s x).reloc = none) :=
  ⟨⟨withStall { act with reloc := some relocSrc }, uLine, mSess, 0, 0, none, _, accepts_of (by decide +kernel),
        rfl, by decide +kernel⟩,
    ⟨rdy, uLine, mSess, 0, 0, 0, none, true, _, accepts_of (by decide +kernel), rfl, by decide +kernel⟩,
    ⟨memberRow, uLine, mSess, 0, Config.serial + 1, 3, none, true, 0, accepts_of (by decide +kernel),
        rfl, by decide +kernel, rfl, by decide +kernel, memberRow_member, Nat.succ_ne_self _,
        rfl⟩,
    ⟨withStall { act with reloc := some relocSrc }, 0, _, rfl, by decide +kernel⟩,
    ⟨withStall { act with reloc := some { relocSrc with toCopy := [{ stall := 0, key := [1] }] } }, 0, _, _, _, _, rfl, by decide +kernel, by decide +kernel, rfl, rfl⟩,
    ⟨withStall { act with reloc := some relocSrc }, 0, _, rfl, by decide +kernel⟩,
    ⟨bigReloc 268435456, 0, _, rfl, rfl, rfl, rfl, rfl, rfl, bigReloc_bytes _⟩,
    ⟨withStall { act with reloc := some { relocSrc with toCopy := [{ stall := 0, key := [1] }] } },
        0, _, rfl, by decide +kernel⟩,
    ⟨withStall { act with reloc := some relocSrc }, 0, _, .quota, rfl, by decide +kernel⟩,
    ⟨withStall { act with reloc := some relocSrc }, 0, _, rfl, by decide +kernel⟩,
    ⟨withStall { act with reloc := some { relocSrc with cutover := true, step2At := some 0 } },
        0, _, _, rfl, rfl⟩,
    ⟨State.reset, 0, by decide +kernel⟩⟩

/-- States and operands that meet the hypotheses of `RelocationMailboxAndMeteringActAsTheirChaptersSay`, part 2. -/
theorem witness_RelocationMailboxAndMeteringActAsTheirChaptersSay_2 :
    (∃ (s : State) (l : Line) (d : Session) (n : Int) (x : StallNo) (r : Relocation), Accepts s l (changesStall s l n) (stallErr n) d ∧
        x = stallArg n ∧ (getStall s x).state ≠ .draining ∧ (getStall s x).reloc = some r ∧
        r.source = true ∧ r.cutover = false) ∧
    (∃ (s : State) (l : Line) (d : Session) (n : Int) (x : StallNo), Accepts s l (changesStall s l n) (stallErr n) d ∧
        x = stallArg n ∧ (getStall s x).state ≠ .draining ∧ ((getStall s x).reloc = none ∨ (∃ r, (getStall s x).reloc = some r ∧ (r.source = false ∨ r.cutover = true)))) ∧
    (∃ (s : State), rowRuns s = false) ∧
    (∃ (s : State) (h : RowHdr), rowRuns s = true ∧ rowKnows s h.peer = false) ∧
    (∃ (s : State) (h : RowHdr) (q : Nat × Nat × AckStatus), rowRuns s = true ∧ rowKnows s h.peer = true ∧
        s.row.seen.find? (fun x => decide (x.1 = h.peer) && decide (x.2.1 = h.msgId)) = some q) ∧
    (∃ (s : State) (h : RowHdr) (p : Nat) (x : StallNo) (u : State), rowRuns s = true ∧ rowKnows s h.peer = true ∧
        s.row.seen.find? (fun x => decide (x.1 = h.peer) && decide (x.2.1 = h.msgId)) = none ∧
        relocWith s x p false = none ∧ u = { s with row := { s.row with seenEpoch := Nat.max s.row.seenEpoch h.epoch } }) ∧
    (∃ (s : State) (l : Line) (d : Session) (off : Int), Accepts s l {} (rangeErr off 0 255) d) ∧
    (∃ (s : State) (l : Line) (d : Session) (n : Int) (ty : Int) (len : Int) (x : StallNo),
        Accepts s l (changesStall s l n) (firstErr [stallErr n, rangeErr ty 0 255, rangeErr len 1 256]) d ∧
        x = stallArg n ∧ (getStall s x).state ≠ .draining ∧ ((getStall s x).state = .frozen ∨ (getStall s x).state = .freezing)) ∧
    (∃ (s : State) (l : Line) (d : Session) (n : Int) (ty : Int) (len : Int) (x : StallNo),
        Accepts s l (changesStall s l n) (firstErr [stallErr n, rangeErr ty 0 255, rangeErr len 1 256]) d ∧
        x = stallArg n ∧ (getStall s x).state ≠ .draining ∧ mailboxShut s x = false ∧
        16 ≤ (getStall s x).toTenant.msgs.length) ∧
    (∃ (s : State) (l : Line) (d : Session) (n : Int) (ty : Int) (len : Int) (x : StallNo),
        Accepts s l (changesStall s l n) (firstErr [stallErr n, rangeErr ty 0 255, rangeErr len 1 256]) d ∧
        x = stallArg n ∧ (getStall s x).state ≠ .draining ∧ mailboxShut s x = false ∧
        (getStall s x).toTenant.msgs.length < 16) ∧
    (∃ (s : State) (l : Line) (d : Session) (n : Int) (x : StallNo) (q : MsgQueue), Accepts s l (changesStall s l n) (stallErr n) d ∧
        x = stallArg n ∧ (getStall s x).state ≠ .draining ∧ mailboxShut s x = false ∧
        q = (getStall s x).toWarden) ∧
    (∃ (s : State) (n : StallNo) (p : Period), (getStall s n).period = some p) :=
  ⟨⟨withStall { act with reloc := some relocSrc }, uLine, mSess, 0, _, _, accepts_of (by decide +kernel),
        rfl, by decide +kernel, rfl, by decide +kernel⟩,
    ⟨rdy, uLine, mSess, 0, _, accepts_of (by decide +kernel), rfl, by decide +kernel⟩,
    ⟨State.reset, by decide +kernel⟩,
    ⟨rdy, { peer := 5, msgId := 1 }, by decide +kernel⟩,
    ⟨{ rowRdy with row := { rowRdy.row with seen := [(5, 1, .ok)] } }, { peer := 5, msgId := 1 },
        _, by decide +kernel, by decide +kernel, rfl⟩,
    ⟨rowRdy, { peer := 5, msgId := 1 }, 0, 0, _, by decide +kernel, by decide +kernel, by decide +kernel,
        by decide +kernel, rfl⟩,
    ⟨rdy, uLine, mSess, 0, accepts_of (by decide +kernel)⟩,
    ⟨withConn (early (conn2 .hello)) ({ act with state := .frozen }), uLine, mSess, 0, 0,
        5, _, accepts_of (by decide +kernel), rfl, by decide +kernel⟩,
    ⟨withStall { act with toTenant := { msgs := List.replicate 16 msg1, next := 17 } }, uLine,
        mSess, 0, 0, 5, _, accepts_of (by decide +kernel), rfl, by decide +kernel⟩,
    ⟨rdy, uLine, mSess, 0, 0, 5, _, accepts_of (by decide +kernel), rfl, by decide +kernel⟩,
    ⟨rdy, uLine, mSess, 0, _, _, accepts_of (by decide +kernel), rfl, by decide +kernel, by decide +kernel, rfl⟩,
    ⟨withStall { act with period := some (period0 none) }, 0, _, rfl⟩⟩

/-- States and operands that meet the hypotheses of `RelocationMailboxAndMeteringActAsTheirChaptersSay`, part 3. -/
theorem witness_RelocationMailboxAndMeteringActAsTheirChaptersSay_3 :
    (∃ (s : State) (n : StallNo), (getStall s n).period = none) ∧
    (∃ (s : State) (n : StallNo) (p : Period), kindOf s n ≠ p.kind) ∧
    (∃ (s : State) (n : StallNo) (p : Period) (st : Step), kindOf s n = p.kind ∧ p.bounds = none ∧ st ≠ .first) ∧
    (∃ (s : State) (n : StallNo) (p : Period) (st : Step) (a : Nat) (b : Nat), kindOf s n = p.kind ∧
        p.bounds = some (a, b) ∧ wallNow s < b ∧ st ≠ .forward) ∧
    (∃ (s : State) (n : StallNo) (p : Period) (st : Step) (a : Nat) (b : Nat), kindOf s n = p.kind ∧
        p.bounds = some (a, b) ∧ b ≤ wallNow s ∧ st ≠ .forward ∧ s.clock.wstate ≠ .unset ∧
        9 * (b - p.wallOpen) ≤ 10 * (now s - p.ltimeOpen)) :=
  ⟨⟨State.reset, 0, by decide +kernel⟩,
    ⟨State.reset, 0, period0 none, by decide +kernel⟩,
    ⟨State.reset, 0, { period0 none with kind := 2 }, .backward, by decide +kernel⟩,
    ⟨State.reset, 0, { period0 (some (0, 5)) with kind := 2 }, .first, _, _, by decide +kernel,
        rfl, by decide +kernel⟩,
    ⟨{ withStall { act with period := some (period0 (some (0, 5))) } with clock := { rdy.clock with wstate := .ntp } },
        0, { period0 (some (0, 0)) with kind := 2 }, .first, _, _, by decide +kernel,
        rfl, by decide +kernel⟩⟩

/-- States and operands that meet the hypotheses of `FlashProgramsErasesAndUpkeepActAsTheirRulesSay`, part 1. -/
theorem witness_FlashProgramsErasesAndUpkeepActAsTheirRulesSay_1 :
    (∃ (s : State) (x : StallNo) (b : Nat) (p : Pack), arrayRuns s = true ∧ coldNow s = false ∧ AMap.find s.media.packs (x, b) =
        some p) ∧
    (∃ (s : State) (x : StallNo) (b : Nat), arrayRuns s = true ∧ coldNow s = false ∧ AMap.find s.media.packs (x, b) = none) ∧
    (∃ (s : State) (i : Nat), s.media.progs[i]? = none) ∧
    (∃ (s : State) (n : Nat), arrayRuns s = true ∧ AMap.find s.media.map n = none) ∧
    (∃ (s : State) (n : Nat) (b : Nat) (i : Nat) (p : PageRec), arrayRuns s = true ∧ AMap.find s.media.map n = some (b, i) ∧
        startedRead s n = none ∧ (bandOf (readPage s b i) b).pages.reverse[i]? = some p) ∧
    (∃ (s : State) (n : Nat) (b : Nat) (i : Nat) (j : Nat) (u : State) (p : PageRec), arrayRuns s = true ∧
        AMap.find s.media.map n = some (b, i) ∧ startedRead s n = some j ∧
        u = { s with media := { s.media with reads := dropNth s.media.reads j } } ∧
        (bandOf (readPage s b i) b).pages.reverse[i]? = some p) ∧
    (∃ (s : State) (n : Nat) (x : Bool), arrayRuns s = true ∧ n < (if x then 128 else 96) ∧
        (bedOf s .meta_ false).isSome = true) ∧
    (∃ (s : State) (n : Nat) (x : Bool), (arrayRuns s = false ∨ (if x then 128 else 96) ≤ n)) ∧
    (∃ (s : State) (x : Bool) (old : Int) (keep : Nat) (u : State), svcRuns s = true ∧ old = (if x then s.media.shelterB else s.media.shelterA) ∧
        keep = (if x then s.media.shelterA else s.media.shelterB) ∧ u = { s with media := { s.media with shelterWt := true } } ∧
        shelterPick u keep = none) ∧
    (∃ (s : State) (x : Bool) (old : Int) (keep : Nat) (u : State) (n : Nat), svcRuns s = true ∧
        old = (if x then s.media.shelterB else s.media.shelterA) ∧ keep = (if x then s.media.shelterA else s.media.shelterB) ∧
        u = { s with media := { s.media with shelterWt := true } } ∧ shelterPick u keep = some n) ∧
    (∃ (s : State), svcRuns s = false) ∧
    (∃ (s : State), upkeepRuns s = true) ∧
    (∃ (s : State) (n : Nat), s.upkeep.victims.find? (fun v => decide (v.band = n)) = none) :=
  ⟨⟨{ coldFlush with power := rdy.power }, 0, 0, _, by decide +kernel, by decide +kernel, rfl⟩,
    ⟨rdy, 0, 0, by decide +kernel⟩,
    ⟨State.reset, 0, by decide +kernel⟩,
    ⟨rdy, 0, by decide +kernel⟩,
    ⟨mappedPage [], 0, _, _, _, by decide +kernel, rfl, by decide +kernel, rfl⟩,
    ⟨mappedPage [(.op 1, 0)], 0, _, _, 0, _, _, by decide +kernel, rfl, by decide +kernel, rfl, rfl⟩,
    ⟨rdy, 0, true, by decide +kernel⟩,
    ⟨State.reset, 0, true, by decide +kernel⟩,
    ⟨{ rdy with media := { State.reset.media with lost := twoLost } }, true, _, _, _, by decide +kernel,
        rfl, rfl, rfl, by decide +kernel⟩,
    ⟨rdy, true, _, _, _, _, by decide +kernel, rfl, rfl, rfl, rfl⟩,
    ⟨State.reset, by decide +kernel⟩,
    ⟨rdy, by decide +kernel⟩,
    ⟨State.reset, 0, by decide +kernel⟩⟩

/-- States and operands that meet the hypotheses of `FlashProgramsErasesAndUpkeepActAsTheirRulesSay`, part 2. -/
theorem witness_FlashProgramsErasesAndUpkeepActAsTheirRulesSay_2 :
    (∃ (s : State) (n : Nat) (v : Victim), s.upkeep.victims.find? (fun v => decide (v.band = n)) = some v ∧
        arrayRuns s = true ∧ eraseOver s v = false) ∧
    (∃ (s : State) (n : Nat) (v : Victim) (u : State), s.upkeep.victims.find? (fun v => decide (v.band = n)) = some v ∧
        arrayRuns s = true ∧ eraseOver s v = true ∧ u = { s with upkeep := { s.upkeep with victims := s.upkeep.victims.filter (fun x => decide (x.band ≠ n)) } } ∧
        v.purpose = .shelter ∧ (bandOf s n).state = .shelter) ∧
    (∃ (s : State) (n : Nat) (v : Victim) (u : State), s.upkeep.victims.find? (fun v => decide (v.band = n)) = some v ∧
        arrayRuns s = true ∧ eraseOver s v = true ∧ u = { s with upkeep := { s.upkeep with victims := s.upkeep.victims.filter (fun x => decide (x.band ≠ n)) } } ∧
        v.purpose ≠ .shelter) ∧
    (∃ (s : State) (b : BlockId), s.upkeep.victims.find? (fun v => v.left.contains b) = none) ∧
    (∃ (s : State) (b : BlockId) (v : Victim), s.upkeep.victims.find? (fun v => v.left.contains b) = some v ∧ svcRuns s = true ∧
        dieRuns s (.erase b) = true) ∧
    (∃ (s : State) (i : Nat), ((s.media.progs[i]?) = none ∨ arrayRuns s = false)) ∧
    (∃ (s : State) (i : Nat) (b : BlockId) (n : Nat) (d : Band), n = bandOfBlock s b ∧ d = bandOf s n ∧ arrayRuns s = true ∧
        dieRuns s (.prog i) = true ∧ d.state = .open_ ∧ (memberBlocks n d).contains b = true ∧ d.narrow = [] ∧ d.absent = []) ∧
    (∃ (s : State), arrayRuns s = true ∧ coldNow s = false) ∧
    (∃ (s : State), (arrayRuns s = false ∨ coldNow s = true)) ∧
    (∃ (s : State) (b : BlockId), (svcRuns s = false ∨ dieRuns s (.erase b) = false)) :=
  ⟨⟨{ rdy with upkeep := { victims := [{ band := 5, purpose := .gc, copied := 0, left := [{ channel := 0, target := 0, block := 5 }] }] } },
        5, { band := 5, purpose := .gc, copied := 0, left := [{ channel := 0, target := 0, block := 5 }] },
        by decide +kernel⟩,
    ⟨{ rdy with upkeep := { victims := [{ band := 0, purpose := .shelter, copied := 0, left := [] }] } },
        0, { band := 0, purpose := .shelter, copied := 0, left := [] }, _, by decide +kernel,
        by decide +kernel, by decide +kernel, rfl, by decide +kernel⟩,
    ⟨{ rdy with upkeep := { victims := [{ band := 5, purpose := .gc, copied := 0, left := [] }] } },
        5, { band := 5, purpose := .gc, copied := 0, left := [] }, _, by decide +kernel,
        by decide +kernel, by decide +kernel, rfl, by decide +kernel⟩,
    ⟨State.reset, { channel := 0, target := 0, block := 5 }, by decide +kernel⟩,
    ⟨{ rdy with upkeep := { victims := [{ band := 5, purpose := .gc, copied := 0, left := [{ channel := 0, target := 0, block := 5 }] }] } },
        { channel := 0, target := 0, block := 5 }, { band := 5, purpose := .gc, copied := 0, left := [{ channel := 0, target := 0, block := 5 }] },
        by decide +kernel⟩,
    ⟨State.reset, 0, by decide +kernel⟩,
    ⟨{ rdy with media := { State.reset.media with progs := [.log []] } }, 0, { channel := 0, target := 3, block := 0 },
        _, _, rfl, rfl, by decide +kernel⟩,
    ⟨rdy, by decide +kernel⟩,
    ⟨State.reset, by decide +kernel⟩,
    ⟨State.reset, { channel := 0, target := 0, block := 5 }, by decide +kernel⟩⟩

/-- States and operands that meet the hypotheses of `WearPatrolShredAndTemperaturesActAsTheirRulesSay`, part 1. -/
theorem witness_WearPatrolShredAndTemperaturesActAsTheirRulesSay_1 :
    (∃ (s : State), (restRuns s = false ∨ s.upkeep.gc ≠ .normal ∨ (∃ t, s.upkeep.wearAt = some t ∧ now s < t + 3600000000))) ∧
    (∃ (s : State) (c : List Nat), restRuns s = true ∧ s.upkeep.gc = .normal ∧ (s.upkeep.wearAt = none ∨ ∃ t, s.upkeep.wearAt = some t ∧ t + 3600000000 ≤ now s) ∧
        c = ((s.media.bands.filter (fun x => decide (x.2.state = .full) && ! erasing s x.1)).map (fun x => x.1)).filter (fun n => decide (meanWear s n + 400 * 240 < 240 * ecountMax s)) ∧
        pickBand s false c = none) ∧
    (∃ (s : State) (c : List Nat) (n : Nat) (u : State), restRuns s = true ∧ s.upkeep.gc = .normal ∧
        (s.upkeep.wearAt = none ∨ ∃ t, s.upkeep.wearAt = some t ∧ t + 3600000000 ≤ now s) ∧
        c = ((s.media.bands.filter (fun x => decide (x.2.state = .full) && ! erasing s x.1)).map (fun x => x.1)).filter (fun n => decide (meanWear s n + 400 * 240 < 240 * ecountMax s)) ∧
        pickBand s false c = some n ∧ emptyBand s n .wear true false = some u) ∧
    (∃ (s : State), (s.upkeep.refresh = [] ∨ restRuns s = false)) ∧
    (∃ (s : State) (k : BlockId) (ks : List BlockId) (n : Nat) (u : State), s.upkeep.refresh = k :: ks ∧
        restRuns s = true ∧ n = bandOfBlock s k ∧ copyPages false false n (pagesOnChan n (bandOf s n) k.channel) s = some u) ∧
    (∃ (s : State) (b : BlockId) (d : Band), d = bandOf s (bandOfBlock s b) ∧ (restRuns s = false ∨ islUp s (.media b.channel) =
        false ∨ patrolled d = false ∨ (memberBlocks (bandOfBlock s b) d).contains b = false ∨ patrolTurn s d b = false)) ∧
    (∃ (s : State) (b : BlockId) (n : Nat) (d : Band) (u : State) (v : State), d = bandOf s (bandOfBlock s b) ∧ restRuns s =
        true ∧ islUp s (.media b.channel) = true ∧ patrolled d = true ∧ (memberBlocks (bandOfBlock s b) d).contains b = true ∧
        patrolTurn s d b = true ∧ u = patrolLateCheck (wakeIsl s (.media b.channel)) ∧ v = addReads (updBlock u b (fun k => { k with patrolLast := u.clock.ledger }))
        b (patrolPages (bandOfBlock s b) d b.channel) ∧ n ≤ 48) ∧
    (∃ (s : State) (b : BlockId) (n : Nat) (d : Band) (u : State) (v : State), d = bandOf s (bandOfBlock s b) ∧ restRuns s =
        true ∧ islUp s (.media b.channel) = true ∧ patrolled d = true ∧ (memberBlocks (bandOfBlock s b) d).contains b = true ∧
        patrolTurn s d b = true ∧ u = patrolLateCheck (wakeIsl s (.media b.channel)) ∧ v = addReads (updBlock u b (fun k => { k with patrolLast := u.clock.ledger }))
        b (patrolPages (bandOfBlock s b) d b.channel) ∧ 48 < n) ∧
    (∃ (s : State) (b : BlockId) (st : Nat) (d : Band) (u : State) (v : State) (i : Nat), d = bandOf s (bandOfBlock s b) ∧
        restRuns s = true ∧ islUp s (.media b.channel) = true ∧ patrolled d = true ∧ (memberBlocks (bandOfBlock s b) d).contains
        b = true ∧ patrolTurn s d b = true ∧ u = patrolLateCheck (wakeIsl s (.media b.channel)) ∧ v = addReads (updBlock u b
        (fun k => { k with patrolLast := u.clock.ledger })) b (patrolPages (bandOfBlock s b) d b.channel) ∧ pageAt (bandOfBlock
        s b) d b.channel st = some i) ∧
    (∃ (s : State) (b : BlockId), b ∈ s.upkeep.refresh) ∧
    (∃ (s : State) (n : Nat), s.upkeep.shreds.find? (fun j => decide (j.ticket = some n)) = none) ∧
    (∃ (s : State) (n : Nat) (j : ShredJob), s.upkeep.shreds.find? (fun j => decide (j.ticket = some n)) = some j ∧
        (j.scanned = true ∨ restRuns s = false)) :=
  ⟨⟨State.reset, by decide +kernel⟩,
    ⟨rdy, _, by decide +kernel, by decide +kernel, by decide +kernel, rfl, by decide +kernel⟩,
    ⟨{ rdy with media := { State.reset.media with bands := [(5, { state := .full, pages := [] })], blocks := [({ channel := 0, target := 1, block := 7 }, { ecount := 401 })] } },
        _, 5, _, by decide +kernel, by decide +kernel, by decide +kernel, rfl, by decide +kernel,
        rfl⟩,
    ⟨State.reset, by decide +kernel⟩,
    ⟨{ rdy with upkeep := { refresh := [{ channel := 0, target := 0, block := 5 }] } }, _,
        _, _, _, rfl, by decide +kernel, rfl, rfl⟩,
    ⟨State.reset, { channel := 0, target := 0, block := 5 }, _, rfl, by decide +kernel⟩,
    ⟨mappedPage [],
        { channel := 0, target := 0, block := 5 }, 0, _, _, _, rfl, by decide +kernel, by decide +kernel, by decide +kernel, by
        decide +kernel, by decide +kernel, rfl, rfl, by decide +kernel⟩,
    ⟨mappedPage [],
        { channel := 0, target := 0, block := 5 }, 249, _, _, _, rfl, by decide +kernel, by decide +kernel, by decide +kernel,
        by decide +kernel, by decide +kernel, rfl, rfl, by decide +kernel⟩,
    ⟨mappedPage [],
        { channel := 0, target := 0, block := 5 }, 0, _, _, _, _, rfl, by decide +kernel, by decide +kernel, by decide +kernel,
        by decide +kernel, by decide +kernel, rfl, rfl, rfl⟩,
    ⟨{ rdy with upkeep := { refresh := [{ channel := 0, target := 0, block := 5 }] } }, { channel := 0, target := 0, block := 5 },
        by decide +kernel⟩,
    ⟨State.reset, 0, by decide +kernel⟩,
    ⟨shredState { ticket := some 0, stall := 0, keys := [], scanned := true, lostCopy := true },
        0, { ticket := some 0, stall := 0, keys := [], scanned := true, lostCopy := true },
        by decide +kernel⟩⟩

/-- States and operands that meet the hypotheses of `WearPatrolShredAndTemperaturesActAsTheirRulesSay`, part 2. -/
theorem witness_WearPatrolShredAndTemperaturesActAsTheirRulesSay_2 :
    (∃ (s : State) (n : Nat) (j : ShredJob), s.upkeep.shreds.find? (fun j => decide (j.ticket = some n)) = some j ∧
        j.scanned = false ∧ restRuns s = true) ∧
    (∃ (s : State) (n : Nat) (j : ShredJob), s.upkeep.shreds.find? (fun j => decide (j.ticket = some n)) = some j ∧
        (j.scanned = false ∨ s.media.image.isSome = true ∨ (∃ b ∈ j.bands, (bandOf s b).shredPending = true))) ∧
    (∃ (s : State) (n : Nat) (j : ShredJob) (t : Ticket) (u : State), s.upkeep.shreds.find? (fun j => decide (j.ticket = some n)) = some j ∧
        j.scanned = true ∧ (∀ b ∈ j.bands, (bandOf s b).shredPending = false) ∧ s.media.image = none ∧
        u = { s with upkeep := { s.upkeep with shreds := s.upkeep.shreds.filter (fun x => decide (x.ticket ≠ some n)) } } ∧
        AMap.find s.kv.tickets n = some t ∧ j.lostCopy = true) ∧
    (∃ (s : State) (n : Nat) (j : ShredJob) (t : Ticket) (u : State), s.upkeep.shreds.find? (fun j => decide (j.ticket = some n)) = some j ∧
        j.scanned = true ∧ (∀ b ∈ j.bands, (bandOf s b).shredPending = false) ∧ s.media.image = none ∧
        u = { s with upkeep := { s.upkeep with shreds := s.upkeep.shreds.filter (fun x => decide (x.ticket ≠ some n)) } } ∧
        AMap.find s.kv.tickets n = some t ∧ j.lostCopy = false) ∧
    (∃ (s : State), powered s = false) ∧
    (∃ (s : State), powered s = true ∧ arrayRuns s = false) ∧
    (∃ (t : Int), t < -300) ∧
    (∃ (t : Int), 900 ≤ t) ∧
    (∃ (t : Int), -300 ≤ t ∧ t < 900) :=
  ⟨⟨shredState { ticket := some 0, stall := 0, keys := [], scanned := false }, 0, { ticket := some 0, stall := 0, keys := [], scanned := false },
        by decide +kernel⟩,
    ⟨shredState { ticket := some 0, stall := 0, keys := [], scanned := false }, 0, { ticket := some 0, stall := 0, keys := [], scanned := false },
        by decide +kernel⟩,
    ⟨shredState { ticket := some 0, stall := 0, keys := [], scanned := true, lostCopy := true },
        0, { ticket := some 0, stall := 0, keys := [], scanned := true, lostCopy := true },
        _, _, by decide +kernel, by decide +kernel, by decide +kernel, by decide +kernel,
        rfl, rfl, by decide +kernel⟩,
    ⟨shredState { ticket := some 0, stall := 0, keys := [], scanned := true }, 0, { ticket := some 0, stall := 0, keys := [], scanned := true },
        _, _, by decide +kernel, by decide +kernel, by decide +kernel, by decide +kernel,
        rfl, rfl, by decide +kernel⟩,
    ⟨State.reset, by decide +kernel⟩,
    ⟨{ rdy with phase := .starting, boot := { step := 1, fg := 1 }, power := { rdy.power with lead := none } },
        by decide +kernel⟩,
    ⟨-301, by decide +kernel⟩,
    ⟨900, by decide +kernel⟩,
    ⟨0, by decide +kernel⟩⟩

/-- States and operands that meet the hypotheses of `ArcadeSearchesQueueAndScrubActAsChapter15Says`, part 1. -/
theorem witness_ArcadeSearchesQueueAndScrubActAsChapter15Says_1 :
    (∃ (s : State), arcUp s = false) ∧
    (∃ (s : State) (f : List (Nat × ArcCheck)) (u : State), arcUp s = true ∧ u = verifyHits s f) ∧
    (∃ (s : State) (f : List (Nat × ArcCheck)) (u : State), arcUp s = true ∧ u = countArc (verifyHits s f) .searches 1) ∧
    (∃ (s : State) (c : Fin 16), freeCursor s = some c) ∧
    (∃ (s : State) (c : Fin 16) (d : ArcCursor) (x : Nat × ArcEntry) (xs : List (Nat × ArcEntry)),
        AMap.find s.arc.cursors c = some d ∧ afterCursor (countArc s .steps 1) d = x :: xs) ∧
    (∃ (s : State) (c : Fin 16) (d : ArcCursor), AMap.find s.arc.cursors c = some d ∧ afterCursor (countArc s .steps 1) d = []) ∧
    (∃ (s : State) (c : Fin 16), AMap.find s.arc.cursors c = none) ∧
    (∃ (s : State) (c : Fin 16) (d : ArcCursor), arcUp s = true ∧ AMap.find s.arc.cursors c = some d ∧ s.arc.waiting = []) ∧
    (∃ (s : State) (c : Fin 16) (d : ArcCursor) (sp : ArcSpec) (ws : List ArcSpec), arcUp s = true ∧ AMap.find s.arc.cursors c =
        some d ∧ s.arc.waiting = sp :: ws) ∧
    (∃ (s : State), s.arc.queue = []) ∧
    (∃ (s : State) (w : ArcCmd → Bool) (c : ArcCmd) (cs : List ArcCmd), s.arc.queue = c :: cs ∧ w c = false) ∧
    (∃ (s : State) (w : ArcCmd → Bool) (c : ArcCmd) (cs : List ArcCmd) (u : State), s.arc.queue = c :: cs ∧ w c = true ∧ headOp
        (wakeIsl s .arc) c = (u, none)) :=
  ⟨⟨State.reset, by decide +kernel⟩,
    ⟨rdy, [], _, by decide +kernel, rfl⟩,
    ⟨rdy, [], _, by decide +kernel, rfl⟩,
    ⟨State.reset, _, rfl⟩,
    ⟨{ rdy with arc := { cursors := [(0, { spec := { words := [1], g := 0, banks := [0], mode := .position, owner := .any }, pos := none })], entries := [(0, { result := 5, units := [(1, 0xFFFFFFFFFFFFFFFF)] })] } },
        0, _, _, _, rfl, rfl⟩,
    ⟨{ rdy with arc := { cursors := [(0, { spec := { words := [1], g := 0, banks := [0], mode := .position, owner := .any }, pos := none })], entries := [(0, { result := 5, units := [(1, 0)] })] } },
        0, _, rfl, by decide +kernel⟩,
    ⟨State.reset, 4, by decide +kernel⟩,
    ⟨{ rdy with arc := { cursors := [(0, { spec := { words := [1], g := 0, banks := [0], mode := .position, owner := .any }, pos := none })], entries := [(0, { result := 5, units := [(1, 0)] })] } },
        0, _, rfl, rfl, rfl⟩,
    ⟨{ rdy with arc := { cursors := [(0, { spec := { words := [1], g := 0, banks := [0], mode := .position, owner := .any }, pos := none })], waiting := [{ words := [1], g := 0, banks := [0], mode := .position, owner := .any }] } },
        0, _, _, _, rfl, rfl, rfl⟩,
    ⟨State.reset, by decide +kernel⟩,
    ⟨{ rdy with arc := { queue := [.invalidate 0 0 0] } }, fun _ => false, _, _, rfl, by decide +kernel⟩,
    ⟨{ rdy with arc := { queue := [.insert none { stall := 0, key := [1] } 0 { result := 5, units := [(1, 0)] }], plan := some ([(0, 1)], 0) } },
        fun _ => true, _, _, _, rfl, rfl, rfl⟩⟩

/-- States and operands that meet the hypotheses of `ArcadeSearchesQueueAndScrubActAsChapter15Says`, part 2. -/
theorem witness_ArcadeSearchesQueueAndScrubActAsChapter15Says_2 :
    (∃ (s : State), s.arc.scrub = none) ∧
    (∃ (s : State) (u : Nat), arcUp s = true ∧ s.arc.scrub = some u ∧ u < 131071) ∧
    (∃ (s : State) (u : Nat), arcUp s = true ∧ s.arc.scrub = some u ∧ 131071 ≤ u) ∧
    (∃ (s : State) (b : Fin 16), arcUp s = true ∧ s.arc.rebuilding.contains b = true ∧ ready s = true) ∧
    (∃ (s : State) (b : Fin 16), (s.arc.rebuilding.contains b = false ∨ ready s = false)) ∧
    (∃ (s : State) (w : ArcCmd → Bool) (c : ArcCmd) (cs : List ArcCmd) (u : State) (b : Bool), s.arc.queue = c :: cs ∧ w c =
        true ∧ headOp (wakeIsl s .arc) c = (u, some b)) ∧
    (∃ (s : State), s.arc.overflow = []) ∧
    (∃ (s : State) (x : ArcCmd) (xs : List ArcCmd), s.arc.overflow = x :: xs) :=
  ⟨⟨State.reset, by decide +kernel⟩,
    ⟨{ rdy with arc := { scrub := some 131070 } }, _, by decide +kernel, rfl, by decide +kernel⟩,
    ⟨{ rdy with arc := { scrub := some 131071 } }, _, by decide +kernel, rfl, by decide +kernel⟩,
    ⟨{ rdy with arc := { rebuilding := [0] } }, 0, by decide +kernel⟩,
    ⟨State.reset, 4, by decide +kernel⟩,
    ⟨{ rdy with arc := { queue := [.invalidate 0 0 0] } }, fun _ => true, _, _, _, _, rfl, rfl, rfl⟩,
    ⟨State.reset, by decide +kernel⟩,
    ⟨{ rdy with arc := { overflow := [.invalidate 0 0 0] } }, _, _, rfl⟩⟩

/-- States and operands that meet the hypotheses of `RowMessagesAreTakenOnceAndAcknowledged`. -/
theorem witness_RowMessagesAreTakenOnceAndAcknowledged :
    (∃ (c : Instr) (h : RowHdr) (s : State), rowHeader c = some h ∧ rowRuns s = false) ∧
    (∃ (c : Instr) (h : RowHdr) (s : State), rowHeader c = some h ∧ rowRuns s = true ∧ rowKnows s h.peer = false) ∧
    (∃ (c : Instr) (h : RowHdr) (s : State) (q : Nat × Nat × AckStatus), rowHeader c = some h ∧
        rowRuns s = true ∧ rowKnows s h.peer = true ∧ s.row.seen.find? (fun x => decide (x.1 = h.peer) && decide (x.2.1 = h.msgId)) = some q) ∧
    (∃ (s : State) (h : RowHdr), Arrives s h ∧ ((s.row.state = .leader ∧ isMember s h.peer = true) ∨ (s.row.state = .member ∧ leaderOf s = some h.peer ∧ successorOf s h.peer = some Config.serial))) ∧
    (∃ (s : State) (h : RowHdr), Arrives s h ∧ s.row.state ≠ .leader ∧ (leaderOf s ≠ some h.peer ∨ s.row.state ≠ .member)) ∧
    (∃ (s : State) (h : RowHdr), Arrives s h ∧ searchOf s h = none) ∧
    (∃ (s : State) (h : RowHdr) (x : RowSearch), Arrives s h ∧ searchOf s h = some x) ∧
    (∃ (s : State) (h : RowHdr) (o : MirrorObj), Arrives s h ∧ mirrorFits s o = false) ∧
    (∃ (s : State) (h : RowHdr) (o : MirrorObj), Arrives s h ∧ mirrorFits s o = true ∧ (dataWriteErr s).isSome = true) ∧
    (∃ (s : State) (h : RowHdr) (o : MirrorObj) (u : State) (c : MirrorCopy), Arrives s h ∧ mirrorFits s o = true ∧ dataWriteErr
        s = none ∧ takeCredit (noted s h) o.value.length = some u ∧ AMap.find s.row.copies (o.origin, o.key) = some c ∧ o.wseq ≤
        c.obj.wseq) ∧
    (∃ (s : State) (h : RowHdr) (o : MirrorObj), Arrives s h ∧ mirrorFits s o = true ∧ dataWriteErr s = none ∧ (takeCredit
        (noted s h) o.value.length).isSome = true ∧ (∀ c, AMap.find s.row.copies (o.origin, o.key) = some c → c.obj.wseq <
        o.wseq)) ∧
    (∃ (s : State) (h : RowHdr) (o : MirrorObj), Arrives s h ∧ mirrorFits s o = true ∧ dataWriteErr s = none ∧ takeCredit (noted
        s h) o.value.length = none) :=
  ⟨⟨.rowLeave { peer := 5, msgId := 1 }, _, State.reset, rfl, by decide +kernel⟩,
    ⟨.rowLeave { peer := 5, msgId := 1 }, _, rdy, rfl, by decide +kernel⟩,
    ⟨.rowLeave { peer := 5, msgId := 1 }, _, { rowRdy with row := { rowRdy.row with seen := [(5, 1, .ok)] } },
        _, rfl, by decide +kernel, by decide +kernel, rfl⟩,
    ⟨{ rowRdy with row := { rowRdy.row with state := .leader } }, { peer := 5, msgId := 1 },
        arrives_of (by decide +kernel), by decide +kernel⟩,
    ⟨{ rowRdy with row := { rowRdy.row with state := .joining } }, { peer := 5, msgId := 1 },
        arrives_of (by decide +kernel), by decide +kernel⟩,
    ⟨rowRdy, { peer := 5, msgId := 1 }, arrives_of (by decide +kernel), by decide +kernel⟩,
    ⟨{ rowRdy with row := { rowRdy.row with searches := [{ ticket := 0, e0 := 0, deadline := 5, members := [], reqs := [(5, 9)] }] } },
        { peer := 5, msgId := 1, refId := 9 }, _, arrives_of (by decide +kernel), rfl⟩,
    ⟨setF rowRdy .rowCfg "MIRROR_CAP" 0, { peer := 5, msgId := 1 }, mobj, arrives_of (by decide +kernel),
        by decide +kernel⟩,
    ⟨{ rowRdy with power := { rdy.power with coldGate := true } }, { peer := 5, msgId := 1 },
        mobj, arrives_of (by decide +kernel), by decide +kernel⟩,
    ⟨{ setF rowRdy .rowCfg "MIRROR_CAP" 1 with row := { rowRdy.row with copies := [((5, { stall := 0, key := [1] }), { obj := mobj, expiry := 5 })] } },
        { peer := 5, msgId := 1 }, mobj, _, _, arrives_of (by decide +kernel), by decide +kernel, by decide +kernel, rfl, rfl,
        by decide +kernel⟩,
    ⟨rowRdy, { peer := 5, msgId := 1 }, mobj, arrives_of (by decide +kernel), by decide +kernel⟩,
    ⟨{ rowRdy with upkeep := { gc := .matched, credit := 0 } }, { peer := 5, msgId := 1 }, mobj, arrives_of (by decide +kernel),
        by decide +kernel⟩⟩

/-- States and operands that meet the hypotheses of `BeaconsKeepTheRowsMembershipAndEpoch`, part 1. -/
theorem witness_BeaconsKeepTheRowsMembershipAndEpoch_1 :
    (∃ (s : State), (s.row.beaconing = false ∨ running s = false)) ∧
    (∃ (s : State) (u : State) (t : State), s.row.beaconing = true ∧ running s = true ∧ (s.row.beaconAt = none → t = s) ∧
        (∀ a, s.row.beaconAt = some a → t = advanceTo s (a + 1000000)) ∧ u = { t with row := { t.row with beaconAt := some (now t) } } ∧
        s.row.state ≠ .leader) ∧
    (∃ (s : State) (b : Beacon) (q : Nat), AMap.find s.row.seqs b.serial = some q) ∧
    (∃ (s : State) (b : Beacon), s.row.beaconing = true ∧ running s = true ∧ beaconOk s b = false) ∧
    (∃ (s : State) (b : Beacon), s.row.beaconing = true ∧ running s = true ∧ beaconOk s b = true ∧
        s.row.state ≠ .leader ∧ (b.leader = false ∨ b.epoch < s.row.epoch)) ∧
    (∃ (s : State) (b : Beacon), s.row.beaconing = true ∧ running s = true ∧ beaconOk s b = true ∧
        s.row.state ≠ .leader ∧ b.leader = true ∧ s.row.epoch ≤ b.epoch) ∧
    (∃ (s : State) (b : Beacon), s.row.beaconing = true ∧ running s = true ∧ beaconOk s b = true ∧
        s.row.state = .leader ∧ b.leader = true ∧ orderLt (b.position, b.serial) (ownPos s, Config.serial) = true) ∧
    (∃ (s : State) (b : Beacon), s.row.beaconing = true ∧ running s = true ∧ beaconOk s b = true ∧
        s.row.state = .leader ∧ (b.leader = false ∨ orderLt (b.position, b.serial) (ownPos s, Config.serial) = false) ∧
        isMember s b.serial = true) ∧
    (∃ (s : State) (b : Beacon), s.row.beaconing = true ∧ running s = true ∧ beaconOk s b = true ∧
        s.row.state = .leader ∧ (b.leader = false ∨ orderLt (b.position, b.serial) (ownPos s, Config.serial) = false) ∧
        isMember s b.serial = false ∧ s.row.members.length < 32) ∧
    (∃ (s : State) (b : Beacon), s.row.beaconing = true ∧ running s = true ∧ beaconOk s b = true ∧
        s.row.state = .leader ∧ (b.leader = false ∨ orderLt (b.position, b.serial) (ownPos s, Config.serial) = false) ∧
        isMember s b.serial = false ∧ 32 ≤ s.row.members.length) ∧
    (∃ (s : State) (x : Nat) (m : Member), s.row.beaconing = true ∧ running s = true ∧ s.row.state = .leader ∧
        x ≠ Config.serial ∧ s.row.members.find? (fun m => decide (m.serial = x)) = some m) ∧
    (∃ (s : State) (t : Nat), s.row.beaconing = true ∧ running s = true ∧ s.row.leaderAt = some t ∧
        s.row.state = .member) :=
  ⟨⟨State.reset, by decide +kernel⟩,
    ⟨{ setF rowRdy .rowCfg "POSITION" 1 with row := { rowRdy.row with beaconing := true, members := [] } },
        _, { setF rowRdy .rowCfg "POSITION" 1 with row := { rowRdy.row with beaconing := true, members := [] } },
        by decide +kernel, by decide +kernel, by decide +kernel, (fun a h => nomatch h),
        rfl, by decide +kernel⟩,
    ⟨{ setF rowRdy .rowCfg "POSITION" 1 with row := { rowRdy.row with beaconing := true, seqs := [(5, 0)] } },
        { ({ rowId := 0, leader := false, joining := false, serial := 5, epoch := 0, seq := 1, position := 0, state := 0, members := [] } : Beacon) with macOk := false },
        _, rfl⟩,
    ⟨{ setF rowRdy .rowCfg "POSITION" 1 with row := { rowRdy.row with beaconing := true, members := [] } },
        { ({ rowId := 0, leader := false, joining := false, serial := 5, epoch := 0, seq := 1, position := 0, state := 0, members := [] } : Beacon) with macOk := false },
        by decide +kernel⟩,
    ⟨{ setF rowRdy .rowCfg "POSITION" 1 with row := { rowRdy.row with beaconing := true, members := [] } },
        { rowId := 0, leader := false, joining := false, serial := Config.serial + 1, epoch := 0, seq := 1, position := 0, state := 0, members := [] },
        by decide +kernel, by decide +kernel, beaconOk_of (by decide +kernel) rfl rfl,
        by decide +kernel⟩,
    ⟨{ setF rowRdy .rowCfg "POSITION" 1 with row := { rowRdy.row with beaconing := true, members := [] } },
        { rowId := 0, leader := true, joining := false, serial := Config.serial + 1, epoch := 1, seq := 1, position := 0, state := 0, members := [] },
        by decide +kernel, by decide +kernel, beaconOk_of (by decide +kernel) rfl rfl,
        by decide +kernel⟩,
    ⟨{ setF rowRdy .rowCfg "POSITION" 1 with row := { rowRdy.row with beaconing := true, state := .leader, members := [] } },
        { rowId := 0, leader := true, joining := false, serial := Config.serial + 1, epoch := 0, seq := 1, position := 0, state := 0, members := [] },
        by decide +kernel, by decide +kernel, beaconOk_of (by decide +kernel) rfl rfl,
        by decide +kernel⟩,
    ⟨{ setF rowRdy .rowCfg "POSITION" 1 with row := { rowRdy.row with beaconing := true, state := .leader, members := [{ serial := Config.serial + 1, position := 0, at_ := 0 }] } },
        { rowId := 0, leader := false, joining := false, serial := Config.serial + 1, epoch := 0, seq := 1, position := 0, state := 0, members := [] },
        by decide +kernel, by decide +kernel, beaconOk_of (by decide +kernel) rfl rfl,
        by decide +kernel, by decide +kernel, isMember_of rfl rfl⟩,
    ⟨rowOfN 31, beaconOf, rfl, rfl, beaconOk_of (by decide +kernel) rfl rfl, rfl, .inl rfl,
        rowOfN_member _, by decide⟩,
    ⟨rowOfN 32, beaconOf, rfl, rfl, beaconOk_of (by decide +kernel) rfl rfl, rfl, .inl rfl,
        rowOfN_member _, by decide⟩,
    ⟨memberLead, Config.serial + 1, { serial := Config.serial + 1, position := 0, at_ := 0 },
        rfl, rfl, rfl, Nat.succ_ne_self _, by simp [memberLead]⟩,
    ⟨{ setF rowRdy .rowCfg "POSITION" 1 with row := { rowRdy.row with beaconing := true, leaderAt := some 0 } },
        _, by decide +kernel, by decide +kernel, rfl, by decide +kernel⟩⟩

/-- States and operands that meet the hypotheses of `BeaconsKeepTheRowsMembershipAndEpoch`, part 2. -/
theorem witness_BeaconsKeepTheRowsMembershipAndEpoch_2 :
    (∃ (s : State) (t : Nat), s.row.beaconing = true ∧ running s = true ∧ s.row.leaderAt = some t ∧
        s.row.state = .joining ∧ ready s = true) ∧
    (∃ (s : State) (l : Line) (d : Session) (k : List Byte), Accepts s l { priv := true } none d ∧ k.length = 32) ∧
    (∃ (s : State) (k : List Byte) (u : State), u = { s with row := { s.row with key := some k } } ∧
        (rowLive s = false ∨ running s = false)) ∧
    (∃ (s : State) (k : List Byte) (u : State), u = { s with row := { s.row with key := some k } } ∧
        rowLive s = true ∧ running s = true) :=
  ⟨⟨{ setF rowRdy .rowCfg "POSITION" 1 with row := { rowRdy.row with beaconing := true, state := .joining, leaderAt := some 0 } },
        _, by decide +kernel, by decide +kernel, rfl, by decide +kernel⟩,
    ⟨rdy, uLine, mSess, List.replicate 32 0, accepts_of (by decide +kernel), by decide +kernel⟩,
    ⟨State.reset, [], _, rfl, by decide +kernel⟩,
    ⟨rdy, [], _, rfl, by decide +kernel⟩⟩

/-- States and operands that meet the hypotheses of `MirroringAndItsAnswersActAsChapter16Says`, part 1. -/
theorem witness_MirroringAndItsAnswersActAsChapter16Says_1 :
    (∃ (s : State), rowRuns s = false) ∧
    (∃ (s : State) (h : RowHdr), rowRuns s = true ∧ rowKnows s h.peer = false) ∧
    (∃ (s : State) (h : RowHdr), rowRuns s = true ∧ rowKnows s h.peer = true ∧ s.row.unacked.find? (fun u => decide (u.msg.peer = h.peer) && decide (u.msg.msgId = h.refId)) = none) ∧
    (∃ (s : State) (h : RowHdr) (u : Unacked) (t : State), rowRuns s = true ∧ rowKnows s h.peer = true ∧ s.row.unacked.find?
        (fun u => decide (u.msg.peer = h.peer) && decide (u.msg.msgId = h.refId)) = some u ∧ (∀ m ∈ s.row.waiting, m.peer ≠
        u.msg.peer) ∧ t = { s with row := { s.row with unacked := s.row.unacked.filter (fun v => decide (v.msg ≠ u.msg)) } } ∧
        (u.msg.part + 1 ≠ u.msg.parts ∨ AMap.find s.row.sending (groupId u.msg) = none)) ∧
    (∃ (s : State) (h : RowHdr) (u : Unacked) (t : State) (e : MirrorEntry) (v : State), rowRuns s = true ∧ rowKnows s h.peer =
        true ∧ s.row.unacked.find? (fun u => decide (u.msg.peer = h.peer) && decide (u.msg.msgId = h.refId)) = some u ∧ (∀ m ∈
        s.row.waiting, m.peer ≠ u.msg.peer) ∧ t = { s with row := { s.row with unacked := s.row.unacked.filter (fun v => decide (v.msg ≠ u.msg)) } }
        ∧ u.msg.part + 1 = u.msg.parts ∧ AMap.find s.row.sending (groupId u.msg) = some e ∧ v = { t with row := { t.row with sending := AMap.del s.row.sending (groupId u.msg) } }) ∧
    (∃ (s : State) (p : Nat) (i : Nat), (rowRuns s = false ∨ s.row.unacked.find? (fun u => decide (u.msg.peer = p) && decide (u.msg.msgId = i)) = none)) ∧
    (∃ (s : State) (p : Nat) (i : Nat) (u : Unacked) (t : State), rowRuns s = true ∧ s.row.unacked.find? (fun u => decide (u.msg.peer = p) && decide (u.msg.msgId = i)) = some u ∧
        t = advanceTo s (u.at_ + 200000) ∧ u.sent < 5) ∧
    (∃ (s : State) (p : Nat) (i : Nat) (u : Unacked) (t : State), rowRuns s = true ∧ s.row.unacked.find? (fun u => decide (u.msg.peer = p) && decide (u.msg.msgId = i)) = some u ∧
        t = advanceTo s (u.at_ + 200000) ∧ 5 ≤ u.sent) ∧
    (∃ (s : State) (m : RowMsg) (o : MirrorObj), m.body = .mirrorPut o ∧ AMap.find s.row.sending (groupId m) = none) ∧
    (∃ (s : State) (m : RowMsg) (e : MirrorEntry) (o : MirrorObj), m.body = .mirrorPut o ∧ AMap.find s.row.sending (groupId m) =
        some e) ∧
    (∃ (s : State) (n : Nat), getSearch s n = none) ∧
    (∃ (s : State) (n : Nat) (x : RowSearch), getSearch s n = some x) :=
  ⟨⟨State.reset, by decide +kernel⟩,
    ⟨rdy, { peer := 5, msgId := 1 }, by decide +kernel⟩,
    ⟨rowRdy, { peer := 5, msgId := 1 }, by decide +kernel⟩,
    ⟨{ rowRdy with row := { rowRdy.row with unacked := [{ msg := { peer := 5, msgId := 9, epoch := 0, body := .leave }, at_ := 0 }] } },
        { peer := 5, msgId := 1, refId := 9 }, { msg := { peer := 5, msgId := 9, epoch := 0, body := .leave }, at_ := 0 },
        _, by decide +kernel, by decide +kernel, by decide +kernel, by decide +kernel,
        rfl, by decide +kernel⟩,
    ⟨{ rowRdy with row := { rowRdy.row with unacked := [{ msg := { peer := 5, msgId := 9, epoch := 0, body := .leave }, at_ := 0 }], sending := [(9, { item := .update { stall := 0, key := [1] } true })] } },
        { peer := 5, msgId := 1, refId := 9 }, { msg := { peer := 5, msgId := 9, epoch := 0, body := .leave }, at_ := 0 }, _, _,
        _, by decide +kernel, by decide +kernel, by decide +kernel, by decide +kernel, rfl, by decide +kernel, rfl, rfl⟩,
    ⟨State.reset, 0, 0, by decide +kernel⟩,
    ⟨{ rowRdy with row := { rowRdy.row with unacked := [{ msg := { peer := 5, msgId := 9, epoch := 0, body := .leave }, at_ := 0 }] } },
        5, 9, { msg := { peer := 5, msgId := 9, epoch := 0, body := .leave }, at_ := 0 },
        _, by decide +kernel, by decide +kernel, rfl, by decide +kernel⟩,
    ⟨{ rowRdy with row := { rowRdy.row with unacked := [{ msg := { peer := 5, msgId := 9, epoch := 0, body := .leave }, sent := 5, at_ := 0 }] } },
        5, 9, { msg := { peer := 5, msgId := 9, epoch := 0, body := .leave }, sent := 5, at_ := 0 },
        _, by decide +kernel, by decide +kernel, rfl, by decide +kernel⟩,
    ⟨State.reset, { peer := 5, msgId := 9, epoch := 0, body := .mirrorPut mobj }, mobj, by decide +kernel⟩,
    ⟨{ rowRdy with row := { rowRdy.row with unacked := [{ msg := { peer := 5, msgId := 9, epoch := 0, body := .leave }, at_ := 0 }], sending := [(9, { item := .update { stall := 0, key := [1] } true })] } },
        { peer := 5, msgId := 9, epoch := 0, body := .mirrorPut mobj }, _, mobj, by decide +kernel,
        rfl⟩,
    ⟨State.reset, 0, by decide +kernel⟩,
    ⟨{ rowRdy with row := { rowRdy.row with searches := [{ ticket := 0, e0 := 0, deadline := 5, members := [], reqs := [(5, 9)] }] } },
        0, _, rfl⟩⟩

/-- States and operands that meet the hypotheses of `MirroringAndItsAnswersActAsChapter16Says`, part 2. -/
theorem witness_MirroringAndItsAnswersActAsChapter16Says_2 :
    (∃ (s : State), (s.row.mirror = .idle ∨ (s.row.mirror = .lagging ∧ s.row.catchup < 128))) ∧
    (∃ (s : State), s.row.mirror = .lagging ∧ s.row.catchup = 128 ∧ mirrorEntries s = []) ∧
    (∃ (s : State) (w : Nat) (ws : List Nat), s.row.mirror = .current ∧ (mirrorEntries s).filterMap owedWseq = w :: ws) ∧
    (∃ (s : State), (rowRuns s = false ∨ mirrorPeer s = none ∨ s.row.queue = [])) ∧
    (∃ (s : State) (n : Nat) (e : MirrorEntry) (r : List MirrorEntry) (t : State), rowRuns s = true ∧
        mirrorPeer s = some n ∧ s.row.queue = e :: r ∧ t = { s with row := { s.row with queue := r } } ∧
        mirrorBody s e = none) ∧
    (∃ (s : State) (n : Nat) (e : MirrorEntry) (r : List MirrorEntry) (t : State) (b : RowBody),
        rowRuns s = true ∧ mirrorPeer s = some n ∧ s.row.queue = e :: r ∧ t = { s with row := { s.row with queue := r } } ∧
        mirrorBody s e = some b) ∧
    (∃ (s : State), (rowRuns s = false ∨ s.row.retry = [])) ∧
    (∃ (s : State) (t : Nat) (e : MirrorEntry) (r : List (Nat × MirrorEntry)) (u : State),
        rowRuns s = true ∧ s.row.retry = (t, e) :: r ∧ u = advanceTo s t) ∧
    (∃ (s : State), s.row.mirror = .lagging ∧ rowRuns s = true ∧ s.row.catchup < 128 ∧ arcUp s = true) ∧
    (∃ (s : State), (s.row.mirror ≠ .lagging ∨ rowRuns s = false ∨ 128 ≤ s.row.catchup ∨ arcUp s = false)) ∧
    (∃ (s : State) (i : Nat) (k : ObjKey), AMap.find s.row.copies (i, k) = none) ∧
    (∃ (s : State) (i : Nat) (k : ObjKey) (c : MirrorCopy), AMap.find s.row.copies (i, k) = some c ∧
        (c.obj.held = true ∨ svcRuns s = false)) ∧
    (∃ (s : State) (x : StallNo) (r : Restore), AMap.find s.row.restores x = some r ∧ (dataWriteErr s).isSome = true) ∧
    (∃ (s : State) (x : StallNo) (r : Restore), AMap.find s.row.restores x = some r ∧ dataWriteErr s = none) :=
  ⟨⟨State.reset, by decide +kernel⟩,
    ⟨{ rowRdy with row := { rowRdy.row with mirror := .lagging, catchup := 128 } }, by decide +kernel⟩,
    ⟨{ rowRdy with row := { rowRdy.row with mirror := .current, queue := [{ item := .put { stall := 0, key := [1] } 7 }] } },
        _, _, by decide +kernel, rfl⟩,
    ⟨State.reset, by decide +kernel⟩,
    ⟨mirrorRow { item := .put { stall := 0, key := [1] } 7 }, 5, _, _, _, rfl, mirrorRow_peer _, rfl, rfl, rfl⟩,
    ⟨mirrorRow { item := .update { stall := 0, key := [1] } true }, 5, _, _, _, _, rfl, mirrorRow_peer _,
        rfl, rfl, rfl⟩,
    ⟨State.reset, by decide +kernel⟩,
    ⟨{ rowRdy with row := { rowRdy.row with retry := [(5, { item := .update { stall := 0, key := [1] } true })] } },
        _, _, _, _, by decide +kernel, rfl, rfl⟩,
    ⟨{ rowRdy with row := { rowRdy.row with mirror := .lagging, catchup := 5 } }, by decide +kernel⟩,
    ⟨State.reset, by decide +kernel⟩,
    ⟨State.reset, 0, { stall := 0, key := [1] }, by decide +kernel⟩,
    ⟨{ rowRdy with row := { rowRdy.row with copies := [((5, { stall := 0, key := [1] }), { obj := { mobj with held := true }, expiry := 5 })] } },
        5, { stall := 0, key := [1] }, _, rfl, by decide +kernel⟩,
    ⟨{ rowRdy with row := { rowRdy.row with restores := [(0, { origin := 5, ostall := 0 })] }, power := { rdy.power with coldGate := true } },
        0, _, rfl, by decide +kernel⟩,
    ⟨{ rowRdy with row := { rowRdy.row with restores := [(0, { origin := 5, ostall := 0 })] } }, 0, _, rfl, by decide +kernel⟩⟩

/-- States and operands that meet the hypotheses of `MirroringAndItsAnswersActAsChapter16Says`, part 3. -/
theorem witness_MirroringAndItsAnswersActAsChapter16Says_3 :
    (∃ (s : State) (i : Nat) (k : ObjKey) (c : MirrorCopy), AMap.find s.row.copies (i, k) = some c ∧
        c.obj.held = false ∧ svcRuns s = true) ∧
    (∃ (s : State) (l : Line) (d : Session), Accepts s l { priv := true } none d) ∧
    (∃ (s : State) (l : Line) (d : Session) (a : Int) (b : Int) (x : StallNo), Accepts s l { role := stallRole s l.sess (stallArg b) } (firstErr [stallErr a, stallErr b]) d ∧
        x = stallArg b ∧ (getStall s x).state ≠ .draining ∧ (getStall s x).state ≠ .active) ∧
    (∃ (s : State) (l : Line) (d : Session) (a : Int) (b : Int) (x : StallNo), Accepts s l { role := stallRole s l.sess (stallArg b) } (firstErr [stallErr a, stallErr b]) d ∧
        x = stallArg b ∧ (getStall s x).state ≠ .draining ∧ (getStall s x).state = .active ∧
        (AMap.find s.row.restores x).isSome = true) ∧
    (∃ (s : State) (l : Line) (d : Session) (a : Int) (b : Int) (x : StallNo), Accepts s l { role := stallRole s l.sess (stallArg b) } (firstErr [stallErr a, stallErr b]) d ∧
        x = stallArg b ∧ (getStall s x).state ≠ .draining ∧ (getStall s x).state = .active ∧
        AMap.find s.row.restores x = none) ∧
    (∃ (s : State) (x : StallNo), AMap.find s.row.restores x = none) ∧
    (∃ (s : State) (x : StallNo) (r : Restore), AMap.find s.row.restores x = some r) :=
  ⟨⟨{ setF rowRdy .rowCfg "MIRROR_CAP" 1 with row := { rowRdy.row with copies := [((5, { stall := 0, key := [1] }), { obj := mobj, expiry := 5 })] } },
        5, { stall := 0, key := [1] }, _, rfl, by decide +kernel⟩,
    ⟨rdy, uLine, mSess, accepts_of (by decide +kernel)⟩,
    ⟨rdy, uLine, mSess, 0, 0, _, accepts_of (by decide +kernel), rfl, by decide +kernel⟩,
    ⟨{ withStall act with row := { restores := [(0, { origin := 5, ostall := 0 })] } }, uLine,
        mSess, 0, 0, _, accepts_of (by decide +kernel), rfl, by decide +kernel⟩,
    ⟨{ setF (setF (setF rdy .kvCfg "KV1_EN" 1) (.ifCfg 8) "SERVICES" 15) (.kv1SrcCtrl 0) "ENABLE" 1 with stalls := { tab := [(0, { state := .active })] } },
        uLine, mSess, 0, 0, _, accepts_of (by decide +kernel), rfl, by decide +kernel⟩,
    ⟨State.reset, 0, by decide +kernel⟩,
    ⟨{ withStall act with row := { restores := [(0, { origin := 5, ostall := 0 })] } }, 0, _, rfl⟩⟩

/-- States and operands that meet the hypotheses of `ParcelsAreTakenAndKeptAsTheirRulesSay`, part 1. -/
theorem witness_ParcelsAreTakenAndKeptAsTheirRulesSay_1 :
    (∃ (s : State) (l : Line) (d : Session) (n : Int) (k : Int), Accepts s l { parcelCmd with machineOnly := true } (firstErr [rangeErr n 0 1023, rangeErr k 1 65536]) d ∧
        coldNow s = true ∧ s.phase ≠ .safe) ∧
    (∃ (s : State) (l : Line) (d : Session) (n : Int) (k : Int) (p : Parcel), Accepts s l { parcelCmd with machineOnly := true } (firstErr [rangeErr n 0 1023, rangeErr k 1 65536]) d ∧
        s.fw.parcel = some p ∧ n.toNat ≠ 0 ∧ (now s - p.lastAt) * cfgField s .fwCfg "TRICKLE_RATE" < 65536000) ∧
    (∃ (s : State) (l : Line) (d : Session) (n : Int) (k : Int) (x : PieceData) (m : Manifest) (h : List Byte) (e : ErrName),
        Accepts s l { parcelCmd with machineOnly := true } (firstErr [rangeErr n 0 1023, rangeErr k 1 65536]) d ∧
        (coldNow s = false ∨ s.phase = .safe) ∧ tooSoon s n.toNat = false ∧ n.toNat = 0 ∧
        x = .manifest m h ∧ s.fw.parcel = none ∧ parcelRefusal s m = some e ∧ e ≠ .svnEnd) ∧
    (∃ (s : State) (l : Line) (d : Session) (n : Int) (k : Int) (x : PieceData) (m : Manifest) (h : List Byte),
        Accepts s l { parcelCmd with machineOnly := true } (firstErr [rangeErr n 0 1023, rangeErr k 1 65536]) d ∧
        (coldNow s = false ∨ s.phase = .safe) ∧ tooSoon s n.toNat = false ∧ n.toNat = 0 ∧
        x = .manifest m h ∧ s.fw.parcel = none ∧ parcelRefusal s m = some .svnEnd) ∧
    (∃ (s : State) (l : Line) (d : Session) (n : Int) (k : Int) (x : PieceData) (m : Manifest) (h : List Byte),
        Accepts s l { parcelCmd with machineOnly := true } (firstErr [rangeErr n 0 1023, rangeErr k 1 65536]) d ∧
        (coldNow s = false ∨ s.phase = .safe) ∧ tooSoon s n.toNat = false ∧ n.toNat = 0 ∧
        x = .manifest m h ∧ s.fw.parcel = none ∧ parcelRefusal s m = none) ∧
    (∃ (s : State) (l : Line) (d : Session) (n : Int) (k : Int) (x : PieceData) (m : Manifest) (h : List Byte) (p : Parcel),
        Accepts s l { parcelCmd with machineOnly := true } (firstErr [rangeErr n 0 1023, rangeErr k 1 65536]) d ∧
        (coldNow s = false ∨ s.phase = .safe) ∧ tooSoon s n.toNat = false ∧ n.toNat = 0 ∧
        x = .manifest m h ∧ s.fw.parcel = some p) ∧
    (∃ (s : State) (l : Line) (d : Session) (n : Int) (k : Int) (x : PieceData) (i : Bool),
        Accepts s l { parcelCmd with machineOnly := true } (firstErr [rangeErr n 0 1023, rangeErr k 1 65536]) d ∧
        (coldNow s = false ∨ s.phase = .safe) ∧ tooSoon s n.toNat = false ∧ n.toNat = 0 ∧
        x = .piece i) ∧
    (∃ (s : State) (l : Line) (d : Session) (n : Int) (k : Int) (x : PieceData) (i : Bool),
        Accepts s l { parcelCmd with machineOnly := true } (firstErr [rangeErr n 0 1023, rangeErr k 1 65536]) d ∧
        (coldNow s = false ∨ s.phase = .safe) ∧ tooSoon s n.toNat = false ∧ n.toNat ≠ 0 ∧
        (x = .piece i ∨ (i = false ∧ ∃ m h, x = .manifest m h)) ∧ s.fw.parcel = none) ∧
    (∃ (s : State) (l : Line) (d : Session) (n : Int) (k : Int) (x : PieceData) (i : Bool) (p : Parcel),
        Accepts s l { parcelCmd with machineOnly := true } (firstErr [rangeErr n 0 1023, rangeErr k 1 65536]) d ∧
        (coldNow s = false ∨ s.phase = .safe) ∧ tooSoon s n.toNat = false ∧ n.toNat ≠ 0 ∧
        (x = .piece i ∨ (i = false ∧ ∃ m h, x = .manifest m h)) ∧ s.fw.parcel = some p ∧
        n.toNat ∈ p.pieces) ∧
    (∃ (s : State) (l : Line) (d : Session) (n : Int) (k : Int) (x : PieceData) (i : Bool) (p : Parcel),
        Accepts s l { parcelCmd with machineOnly := true } (firstErr [rangeErr n 0 1023, rangeErr k 1 65536]) d ∧
        (coldNow s = false ∨ s.phase = .safe) ∧ tooSoon s n.toNat = false ∧ n.toNat ≠ 0 ∧
        (x = .piece i ∨ (i = false ∧ ∃ m h, x = .manifest m h)) ∧ s.fw.parcel = some p ∧
        n.toNat ∉ p.pieces ∧ (p.manifest.pieces ≤ n.toNat ∨ i = false)) ∧
    (∃ (s : State) (l : Line) (d : Session) (n : Int) (k : Int) (x : PieceData) (i : Bool) (p : Parcel),
        Accepts s l { parcelCmd with machineOnly := true } (firstErr [rangeErr n 0 1023, rangeErr k 1 65536]) d ∧
        (coldNow s = false ∨ s.phase = .safe) ∧ tooSoon s n.toNat = false ∧ n.toNat ≠ 0 ∧
        (x = .piece i ∨ (i = false ∧ ∃ m h, x = .manifest m h)) ∧ s.fw.parcel = some p ∧
        n.toNat ∉ p.pieces ∧ n.toNat < p.manifest.pieces ∧ i = true) ∧
    (∃ (s : State) (l : Line), getSess s l.sess = none) :=
  ⟨⟨{ rdy with power := { rdy.power with coldGate := true } }, uLine, mSess, 0, 5, accepts_of (by decide +kernel),
        by decide +kernel⟩,
    ⟨withParcel parcel0, uLine, mSess, 5, 5, _, accepts_of (by decide +kernel), rfl, by decide +kernel⟩,
    ⟨rdy, uLine, mSess, 0, 5, _, { man with signed := false }, [], _, accepts_of (by decide +kernel),
        by decide +kernel, by decide +kernel, by decide +kernel, rfl, by decide +kernel,
        rfl, by decide +kernel⟩,
    ⟨rdy, uLine, mSess, 0, 5, _, { man with svn := 65 }, [], accepts_of (by decide +kernel),
        by decide +kernel, by decide +kernel, by decide +kernel, rfl, by decide +kernel⟩,
    ⟨rdy, uLine, mSess, 0, 5, _, man, [], accepts_of (by decide +kernel), by decide +kernel,
        by decide +kernel, by decide +kernel, rfl, by decide +kernel, by unfold parcelRefusal; generalize Config.variantC = v; cases v <;> decide +kernel⟩,
    ⟨withParcel parcel0, uLine, mSess, 0, 5, _, man, [], _, accepts_of (by decide +kernel),
        by decide +kernel, by decide +kernel, by decide +kernel, rfl, rfl⟩,
    ⟨rdy, uLine, mSess, 0, 5, _, true, accepts_of (by decide +kernel), by decide +kernel,
        by decide +kernel, by decide +kernel, rfl⟩,
    ⟨rdy, uLine, mSess, 5, 5, .piece true, true, accepts_of (by decide +kernel), by decide +kernel,
        by decide +kernel, by decide +kernel, .inl rfl, by decide +kernel⟩,
    ⟨lateParcel { parcel0 with pieces := [0, 1] }, uLine, mSess, 1, 5, .piece true, true,
        _, accepts_of (by decide +kernel), by decide +kernel, by decide +kernel, by decide +kernel,
        .inl rfl, rfl, by decide +kernel⟩,
    ⟨lateParcel parcel0, uLine, mSess, 5, 5, .piece true, true, _, accepts_of (by decide +kernel),
        by decide +kernel, by decide +kernel, by decide +kernel, .inl rfl, rfl, by decide +kernel⟩,
    ⟨lateParcel parcel0, uLine, mSess, 1, 5, .piece true, true, _, accepts_of (by decide +kernel),
        by decide +kernel, by decide +kernel, by decide +kernel, .inl rfl, rfl, by decide +kernel⟩,
    ⟨State.reset, uLine, by decide +kernel⟩⟩

/-- States and operands that meet the hypotheses of `ParcelsAreTakenAndKeptAsTheirRulesSay`, part 2. -/
theorem witness_ParcelsAreTakenAndKeptAsTheirRulesSay_2 :
    (∃ (s : State) (l : Line) (d : Session) (u : State) (k : Fin 8), getSess s l.sess = some d ∧
        u = answer (advanceTo s (d.lastRx + 60000000)) l.sess l.tag (.err .pieceTimeout) none ∧
        l.sess = .mgmt k) ∧
    (∃ (s : State) (l : Line) (d : Session) (u : State), getSess s l.sess = some d ∧ u = answer (advanceTo s (d.lastRx + 60000000)) l.sess l.tag (.err .pieceTimeout) none ∧
        (l.sess = .jcon ∨ l.sess = .usb)) ∧
    (∃ (s : State), s.fw.parcel = none) ∧
    (∃ (s : State) (p : Parcel) (u : State), s.fw.parcel = some p ∧ p.state = .receiving ∧
        u = advanceTo s (p.since + 2592000000000)) ∧
    (∃ (s : State) (p : Parcel), s.fw.parcel = some p ∧ p.state ≠ .receiving ∧ (p.installedAt = none ∨ s.fw.install.isSome = true)) ∧
    (∃ (s : State) (p : Parcel) (t : Nat) (u : State), s.fw.parcel = some p ∧ p.state ≠ .receiving ∧
        p.installedAt = some t ∧ s.fw.install = none ∧ u = advanceTo s (t + 2592000000000)) ∧
    (∃ (s : State) (l : Line) (d : Session), Accepts s l parcelCmd none d ∧ s.fw.parcel = none) ∧
    (∃ (s : State) (l : Line) (d : Session) (p : Parcel), Accepts s l parcelCmd none d ∧ s.fw.parcel = some p ∧
        (s.fw.install.isSome = true ∨ s.fw.a.state = .trial ∨ s.fw.b.state = .trial)) ∧
    (∃ (s : State) (l : Line) (d : Session) (p : Parcel), Accepts s l parcelCmd none d ∧ s.fw.parcel = some p ∧
        s.fw.install = none ∧ s.fw.a.state ≠ .trial ∧ s.fw.b.state ≠ .trial) :=
  ⟨⟨{ rdy with con := { sessions := [(.usb, mSess), (.mgmt 0, { machine := true, warden := some 0 }), (.mgmt 1, { machine := true, warden := some 0 })], wardens := [(0, { fp := [], name := none })] } },
        { sess := .mgmt 0 }, _, _, 0, rfl, rfl, by decide +kernel⟩,
    ⟨rdy, uLine, _, _, rfl, rfl, by decide +kernel⟩,
    ⟨State.reset, by decide +kernel⟩,
    ⟨withParcel parcel0, _, _, rfl, by decide +kernel, rfl⟩,
    ⟨lateParcel { parcel0 with state := .complete }, _, rfl, by decide +kernel⟩,
    ⟨lateParcel { parcel0 with state := .installed, installedAt := some 0 }, _, _, _, rfl,
        by decide +kernel, rfl, by decide +kernel, rfl⟩,
    ⟨rdy, uLine, mSess, accepts_of (by decide +kernel), by decide +kernel⟩,
    ⟨{ lateParcel parcel0 with fw := { parcel := some parcel0, a := { state := .trial } } },
        uLine, mSess, _, accepts_of (by decide +kernel), rfl, by decide +kernel⟩,
    ⟨withParcel parcel0, uLine, mSess, _, accepts_of (by decide +kernel), rfl, by decide +kernel⟩⟩

/-- States and operands that meet the hypotheses of `InstallsTrialsAndRelaysActAsChapter17Says`, part 1. -/
theorem witness_InstallsTrialsAndRelaysActAsChapter17Says_1 :
    (∃ (s : State) (l : Line) (d : Session) (r : InstallResult) (e : Reply), Accepts s l parcelCmd none d ∧
        installErr s r = some e) ∧
    (∃ (s : State) (l : Line) (d : Session) (r : InstallResult) (p : Parcel), Accepts s l parcelCmd none d ∧
        installErr s r = none ∧ s.fw.parcel = some p ∧ (p.manifest.order = 1 ∨ p.manifest.comp = 4)) ∧
    (∃ (s : State) (l : Line) (d : Session) (r : InstallResult) (p : Parcel) (t : Bool), Accepts s l parcelCmd none d ∧
        installErr s r = none ∧ s.fw.parcel = some p ∧ p.manifest.order ≠ 1 ∧ p.manifest.comp ≠ 4 ∧ r.cut = false ∧ r.slotOk =
        true ∧ t = targetSlot s) ∧
    (∃ (s : State) (l : Line) (d : Session) (r : InstallResult) (p : Parcel), Accepts s l parcelCmd none d ∧ installErr s r =
        none ∧ s.fw.parcel = some p ∧ p.manifest.order ≠ 1 ∧ p.manifest.comp ≠ 4 ∧ r.cut = false ∧ r.slotOk = false) ∧
    (∃ (s : State) (p : Parcel), s.fw.parcel = some p ∧ p.state = .receiving) ∧
    (∃ (s : State) (p : Parcel), s.fw.parcel = some p ∧ p.state ≠ .receiving ∧ (slotPending s = true ∨ s.fw.install.isSome = true ∨ s.fw.gateUpdate.isSome = true)) ∧
    (∃ (s : State), s.fw.gateSlot ≤ 1) ∧
    (∃ (s : State), s.fw.gateUpdate = none) ∧
    (∃ (s : State) (a : Bool) (b : Bool) (u : GateUpdate) (t : State), s.fw.gateUpdate = some u ∧
        t = gateOutcome { s with fw := { s.fw with gateUpdate := none } } u.version a b ∧
        (u.install = false ∨ s.fw.install = none)) ∧
    (∃ (s : State) (a : Bool) (b : Bool) (u : GateUpdate) (t : State) (i : Install) (p : Parcel),
        s.fw.gateUpdate = some u ∧ t = gateOutcome { s with fw := { s.fw with gateUpdate := none } } u.version a b ∧
        u.install = true ∧ s.fw.install = some i ∧ s.fw.parcel = some p ∧ (a = false ∨ b = false)) ∧
    (∃ (s : State) (a : Bool) (b : Bool) (u : GateUpdate) (t : State) (i : Install) (p : Parcel),
        s.fw.gateUpdate = some u ∧ t = gateOutcome { s with fw := { s.fw with gateUpdate := none } } u.version a b ∧
        u.install = true ∧ s.fw.install = some i ∧ s.fw.parcel = some p ∧ a = true ∧
        b = true ∧ p.manifest.comp ≠ 4) ∧
    (∃ (s : State) (a : Bool) (b : Bool) (u : GateUpdate) (t : State) (i : Install) (p : Parcel),
        s.fw.gateUpdate = some u ∧ t = gateOutcome { s with fw := { s.fw with gateUpdate := none } } u.version a b ∧
        u.install = true ∧ s.fw.install = some i ∧ s.fw.parcel = some p ∧ a = true ∧
        b = true ∧ p.manifest.comp = 4) ∧
    (∃ (s : State) (l : Line) (d : Session) (r : InstallResult) (p : Parcel), Accepts s l parcelCmd none d ∧ installErr s r =
        none ∧ s.fw.parcel = some p ∧ p.manifest.order ≠ 1 ∧ p.manifest.comp ≠ 4 ∧ r.cut = true) :=
  ⟨⟨rdy, uLine, mSess, {}, _, accepts_of (by decide +kernel), rfl⟩,
    ⟨lateParcel { parcel0 with state := .complete, manifest := { man with comp := 4, components := [(0, 0), (0, 0), (0, 70000)] } },
        uLine, mSess, {}, _, accepts_of (by decide +kernel), by unfold installErr parcelRefusal; generalize Config.variantC = v; cases v <;> decide +kernel,
        rfl, by decide +kernel⟩,
    ⟨lateParcel { parcel0 with state := .complete }, uLine, mSess, {}, _, _, accepts_of (by decide +kernel), by unfold installErr parcelRefusal; generalize Config.variantC = v; cases v <;> decide +kernel, rfl, by decide +kernel, by decide +kernel, by decide +kernel, by decide +kernel, rfl⟩,
    ⟨lateParcel { parcel0 with state := .complete }, uLine, mSess, { slotOk := false }, _, accepts_of (by decide +kernel), by unfold installErr parcelRefusal; generalize Config.variantC = v; cases v <;> decide +kernel, rfl, by decide +kernel⟩,
    ⟨withParcel parcel0, _, rfl, by decide +kernel⟩,
    ⟨{ rdy with fw := { parcel := some { parcel0 with state := .installing, manifest := man }, install := some { slot := none, relay := none, source := none, later := false, slotOk := true }, gateUpdate := some { version := 2, install := true } } },
        _, rfl, by decide +kernel⟩,
    ⟨State.reset, by decide +kernel⟩,
    ⟨State.reset, by decide +kernel⟩,
    ⟨{ rdy with fw := { gateUpdate := some { version := 2, install := false } } }, true,
        true, _, _, rfl, rfl, by decide +kernel⟩,
    ⟨{ rdy with fw := { parcel := some { parcel0 with state := .installing, manifest := man }, install := some { slot := none, relay := none, source := none, later := false, slotOk := true }, gateUpdate := some { version := 2, install := true } } },
        true, false, _, _, _, _, rfl, rfl, by decide +kernel, rfl, rfl, by decide +kernel⟩,
    ⟨{ rdy with fw := { parcel := some { parcel0 with state := .installing, manifest := man }, install := some { slot := none, relay := none, source := none, later := false, slotOk := true }, gateUpdate := some { version := 2, install := true } } },
        true, true, _, _, _, _, rfl, rfl, by decide +kernel, rfl, rfl, by decide +kernel⟩,
    ⟨{ rdy with fw := { parcel := some { parcel0 with state := .installing, manifest := { man with comp := 4 } }, install := some { slot := none, relay := none, source := none, later := false, slotOk := true }, gateUpdate := some { version := 2, install := true } } },
        true, true, _, _, _, _, rfl, rfl, by decide +kernel, rfl, rfl, by decide +kernel⟩,
    ⟨lateParcel { parcel0 with state := .complete }, uLine, mSess, { cut := true }, _, accepts_of (by decide +kernel), by unfold installErr parcelRefusal; generalize Config.variantC = v; cases v <;> decide +kernel, rfl, by decide +kernel⟩⟩

/-- States and operands that meet the hypotheses of `InstallsTrialsAndRelaysActAsChapter17Says`, part 2. -/
theorem witness_InstallsTrialsAndRelaysActAsChapter17Says_2 :
    (∃ (s : State), (s.fw.trialAt = none ∨ runSlot s = none)) ∧
    (∃ (s : State) (t : Nat) (b : Bool), s.fw.trialAt = some t ∧ runSlot s = some b ∧ ((fwSlot s b).state ≠ .trial ∨ running s = false)) ∧
    (∃ (s : State) (t : Nat) (b : Bool), s.fw.trialAt = some t ∧ runSlot s = some b ∧ (mayConfirm s = false ∨ t + 1800000000 < confirmAt s t ∨ t + 1800000000 < now s)) ∧
    (∃ (s : State) (t : Nat) (b : Bool), s.fw.trialAt = some t ∧ runSlot s = some b ∧ mayConfirm s = true ∧
        (fwSlot s b).state = .trial ∧ running s = true ∧ confirmAt s t ≤ t + 1800000000 ∧
        now s ≤ t + 1800000000) ∧
    (∃ (s : State) (t : Nat) (b : Bool) (u : State), s.fw.trialAt = some t ∧ runSlot s = some b ∧
        (fwSlot s b).state = .trial ∧ running s = true ∧ u = advanceTo s (t + 1800000000)) ∧
    (∃ (s : State) (w : Nat), s.fw.watchdogAt = some w) ∧
    (∃ (s : State) (h : RowHdr), Arrives s h ∧ cfgField s .fwCfg "RELAY_ACCEPT" = 0) ∧
    (∃ (s : State) (h : RowHdr) (o : RelayOffer) (u : State), Arrives s h ∧ cfgField s .fwCfg "RELAY_ACCEPT" ≠ 0 ∧
        o.version ≤ mainVersion s ∧ u = rowSend (noted s h) o.source (.relayStatus o.parcel Config.serial .skipped) ∧
        (neighbourOf u = none ∨ neighbourOf u = some o.origin)) ∧
    (∃ (s : State) (h : RowHdr) (o : RelayOffer) (u : State) (n : Nat), Arrives s h ∧ cfgField s .fwCfg "RELAY_ACCEPT" ≠ 0 ∧
        o.version ≤ mainVersion s ∧ u = rowSend (noted s h) o.source (.relayStatus o.parcel Config.serial .skipped) ∧
        neighbourOf u = some n ∧ n ≠ o.origin) ∧
    (∃ (s : State) (h : RowHdr) (o : RelayOffer), Arrives s h ∧ cfgField s .fwCfg "RELAY_ACCEPT" ≠ 0 ∧
        mainVersion s < o.version ∧ parcelId s ≠ 0 ∧ parcelId s ≠ o.parcel) ∧
    (∃ (s : State) (h : RowHdr) (o : RelayOffer) (u : State), Arrives s h ∧ cfgField s .fwCfg "RELAY_ACCEPT" ≠ 0 ∧
        mainVersion s < o.version ∧ (parcelId s = 0 ∨ parcelId s = o.parcel) ∧ u = { noted s h with fw := { s.fw with pull := some o } } ∧
        (s.fw.parcel = none ∨ parcelState s = .receiving)) ∧
    (∃ (s : State) (h : RowHdr) (o : RelayOffer) (u : State) (p : Parcel), Arrives s h ∧ cfgField s .fwCfg "RELAY_ACCEPT" ≠ 0 ∧
        mainVersion s < o.version ∧ (parcelId s = 0 ∨ parcelId s = o.parcel) ∧ u = { noted s h with fw := { s.fw with pull := some o } } ∧
        s.fw.parcel = some p ∧ p.state ≠ .receiving) ∧
    (∃ (b : RowBody), msgParts b = 1) :=
  ⟨⟨State.reset, by decide +kernel⟩,
    ⟨{ rdy with fw := { trialAt := some 0 } }, _, _, rfl, rfl, by decide +kernel⟩,
    ⟨{ rdy with fw := { trialAt := some 0 } }, _, _, rfl, rfl, by decide +kernel⟩,
    ⟨{ rdy with fw := { a := { state := .trial }, trialAt := some 0, s11Ok := true, sessionSeen := true } },
        _, _, rfl, rfl, by decide +kernel⟩,
    ⟨{ rdy with fw := { a := { state := .trial }, trialAt := some 0, s11Ok := true, sessionSeen := true } },
        _, _, _, rfl, rfl, by decide +kernel, by decide +kernel, rfl⟩,
    ⟨{ rdy with fw := { a := { state := .trial }, trialAt := some 0, s11Ok := true, sessionSeen := true, watchdogAt := some 0 } },
        _, rfl⟩,
    ⟨setF rowRdy .fwCfg "RELAY_ACCEPT" 0, { peer := 5, msgId := 1 }, arrives_of (by decide +kernel),
        by decide +kernel⟩,
    ⟨relayRow, { peer := 5, msgId := 1 }, { parcel := 6, version := 0, svn := 0, pieces := 2, origin := 5, source := 5, hash0 := [1] },
        _, relayRow_arrives, by decide +kernel, by decide +kernel, rfl, .inr (relayRow_next _ _)⟩,
    ⟨relayRow, { peer := 5, msgId := 1 }, { parcel := 6, version := 0, svn := 0, pieces := 2, origin := 7, source := 5, hash0 := [1] },
        _, 5, relayRow_arrives, by decide +kernel, by decide +kernel, rfl, relayRow_next _ _,
        by decide⟩,
    ⟨setF { rowRdy with fw := { parcel := some (parcel0) } } .fwCfg "RELAY_ACCEPT" 1, { peer := 5, msgId := 1 },
        { parcel := 7, version := 3, svn := 0, pieces := 2, origin := 5, source := 5, hash0 := [1] },
        arrives_of (by decide +kernel), by decide +kernel⟩,
    ⟨rowRdy, { peer := 5, msgId := 1 }, { parcel := 6, version := 3, svn := 0, pieces := 2, origin := 5, source := 5, hash0 := [1] },
        _, arrives_of (by decide +kernel), by decide +kernel, by decide +kernel, by decide +kernel,
        rfl, by decide +kernel⟩,
    ⟨setF { rowRdy with fw := { parcel := some ({ parcel0 with state := .complete }) } } .fwCfg "RELAY_ACCEPT" 1,
        { peer := 5, msgId := 1 }, { parcel := 6, version := 3, svn := 0, pieces := 2, origin := 5, source := 5, hash0 := [1] },
        _, _, arrives_of (by decide +kernel), by decide +kernel, by decide +kernel, by decide +kernel,
        rfl, rfl, by decide +kernel⟩,
    ⟨.leave, by decide +kernel⟩⟩

/-- States and operands that meet the hypotheses of `InstallsTrialsAndRelaysActAsChapter17Says`, part 3. -/
theorem witness_InstallsTrialsAndRelaysActAsChapter17Says_3 :
    (∃ (s : State) (h : RowHdr), Arrives s h ∧ s.fw.parcel = none) ∧
    (∃ (s : State) (h : RowHdr) (id : Nat) (n : Nat) (p : Parcel), Arrives s h ∧ s.fw.parcel = some p ∧
        (p.manifest.id ≠ id ∨ n ∉ p.pieces)) ∧
    (∃ (s : State) (h : RowHdr) (id : Nat) (n : Nat) (p : Parcel), Arrives s h ∧ s.fw.parcel = some p ∧
        p.manifest.id = id ∧ n ∈ p.pieces) ∧
    (∃ (s : State) (h : RowHdr), Arrives s h ∧ s.fw.pull = none) ∧
    (∃ (s : State) (h : RowHdr) (o : RelayOffer), Arrives s h ∧ s.fw.pull = some o ∧ o.source ≠ h.peer) ∧
    (∃ (s : State) (h : RowHdr) (o : RelayOffer), Arrives s h ∧ s.fw.pull = some o ∧ o.source = h.peer ∧
        coldNow s = true) ∧
    (∃ (s : State) (h : RowHdr) (x : PieceData) (o : RelayOffer), Arrives s h ∧ s.fw.pull = some o ∧
        o.source = h.peer ∧ coldNow s = false ∧ offeredPiece o x = false) ∧
    (∃ (s : State) (h : RowHdr) (n : Nat) (x : PieceData) (o : RelayOffer) (u : State) (a : Reply),
        Arrives s h ∧ s.fw.pull = some o ∧ o.source = h.peer ∧ coldNow s = false ∧ offeredPiece o x = true ∧
        takePiece (noted s h) n x = (u, a) ∧ a = .err .pieceHash) ∧
    (∃ (s : State) (h : RowHdr) (n : Nat) (x : PieceData) (o : RelayOffer) (u : State) (a : Reply) (e : ErrName),
        Arrives s h ∧ s.fw.pull = some o ∧ o.source = h.peer ∧ coldNow s = false ∧ offeredPiece o x = true ∧
        takePiece (noted s h) n x = (u, a) ∧ a = .err e ∧ e ≠ .pieceHash) ∧
    (∃ (s : State) (h : RowHdr) (n : Nat) (x : PieceData) (o : RelayOffer) (u : State) (a : Reply) (p : Parcel),
        Arrives s h ∧ s.fw.pull = some o ∧ o.source = h.peer ∧ coldNow s = false ∧ offeredPiece o x = true ∧
        takePiece (noted s h) n x = (u, a) ∧ a = .ok [] ∧ u.fw.parcel = some p ∧ p.state = .receiving) ∧
    (∃ (s : State) (h : RowHdr) (n : Nat) (x : PieceData) (o : RelayOffer) (u : State) (a : Reply) (p : Parcel),
        Arrives s h ∧ s.fw.pull = some o ∧ o.source = h.peer ∧ coldNow s = false ∧ offeredPiece o x = true ∧
        takePiece (noted s h) n x = (u, a) ∧ a = .ok [] ∧ u.fw.parcel = some p ∧ p.state ≠ .receiving) :=
  ⟨⟨rowRdy, { peer := 5, msgId := 1 }, arrives_of (by decide +kernel), by decide +kernel⟩,
    ⟨setF { rowRdy with fw := { parcel := some (parcel0) } } .fwCfg "RELAY_ACCEPT" 1, { peer := 5, msgId := 1 },
        0, 0, _, arrives_of (by decide +kernel), rfl, by decide +kernel⟩,
    ⟨setF { rowRdy with fw := { parcel := some (parcel0) } } .fwCfg "RELAY_ACCEPT" 1, { peer := 5, msgId := 1 },
        _, 0, _, arrives_of (by decide +kernel), rfl, rfl, by decide +kernel⟩,
    ⟨rowRdy, { peer := 5, msgId := 1 }, arrives_of (by decide +kernel), by decide +kernel⟩,
    ⟨{ rowRdy with fw := { parcel := some parcel0, pull := some { parcel := 6, version := 3, svn := 0, pieces := 2, origin := 5, source := 7, hash0 := [1] } } },
        { peer := 5, msgId := 1 }, _, arrives_of (by decide +kernel), rfl, by decide +kernel⟩,
    ⟨{ rowRdy with fw := { parcel := some parcel0, pull := some { parcel := 6, version := 3, svn := 0, pieces := 2, origin := 5, source := 5, hash0 := [1] } }, power := { rdy.power with coldGate := true } },
        { peer := 5, msgId := 1 }, _, arrives_of (by decide +kernel), rfl, by decide +kernel⟩,
    ⟨{ rowRdy with fw := { parcel := some (parcel0), pull := some { parcel := 6, version := 3, svn := 0, pieces := 2, origin := 5, source := 5, hash0 := [1] } } },
        { peer := 5, msgId := 1 }, .manifest man [2], _, arrives_of (by decide +kernel),
        rfl, by decide +kernel⟩,
    ⟨{ rowRdy with fw := { parcel := some (parcel0), pull := some { parcel := 6, version := 3, svn := 0, pieces := 2, origin := 5, source := 5, hash0 := [1] } } },
        { peer := 5, msgId := 1 }, 2, .piece true, _, _, _, arrives_of (by decide +kernel),
        rfl, by decide +kernel, by decide +kernel, by decide +kernel, rfl, by decide +kernel⟩,
    ⟨{ rowRdy with fw := { parcel := some (parcel0), pull := some { parcel := 6, version := 3, svn := 0, pieces := 2, origin := 5, source := 5, hash0 := [1] } } },
        { peer := 5, msgId := 1 }, 0, .piece true, _, _, _, .badParcel, arrives_of (by decide +kernel),
        rfl, by decide +kernel, by decide +kernel, by decide +kernel, rfl, by decide +kernel⟩,
    ⟨{ rowRdy with fw := { parcel := some (parcel0), pull := some { parcel := 6, version := 3, svn := 0, pieces := 2, origin := 5, source := 5, hash0 := [1] } } },
        { peer := 5, msgId := 1 }, 0, .manifest man [1], _, _, _, _, arrives_of (by decide +kernel),
        rfl, by decide +kernel, by decide +kernel, by decide +kernel, rfl, by decide +kernel,
        rfl, by decide +kernel⟩,
    ⟨{ rowRdy with fw := { parcel := some (parcel0), pull := some { parcel := 6, version := 3, svn := 0, pieces := 2, origin := 5, source := 5, hash0 := [1] } } },
        { peer := 5, msgId := 1 }, 1, .piece true, _, _, _, _, arrives_of (by decide +kernel),
        rfl, by decide +kernel, by decide +kernel, by decide +kernel, rfl, by decide +kernel,
        rfl, by decide +kernel⟩⟩

/-- States and operands that meet the hypotheses of `AttributeNumbersAndFrameHeadersSpellWhatTheyName`. -/
theorem witness_AttributeNumbersAndFrameHeadersSpellWhatTheyName :
    (∃ (h : Hdr), h.fits) :=
  ⟨{ gen := 255, kind := 255, opcode := 255, channel := 255, reqId := 2 ^ 64 - 1, dataLen := 2 ^ 32 - 1, stall := 127, keyLen := 255, tagCount := 7, reserved := 2 ^ 14 - 1, generation := 2 ^ 32 - 1, status := 65535, flags := 65535, version := 2 ^ 64 - 1, incarnation := 2 ^ 64 - 1, arg := 2 ^ 64 - 1, detail := 2 ^ 32 - 1 },
        by unfold Hdr.fits; decide⟩

/-- States and operands that meet the hypotheses of `EveryStepKeepsTheStoresOfTheDrive`. -/
theorem witness_EveryStepKeepsTheStoresOfTheDrive :
    (∃ (s : State) (t : State), StoresOk s ∧ step s = .next t) :=
  ⟨rdy, _, rdy_stores, rfl⟩

/-- States and operands that meet the hypotheses of `EveryCommandRunsAndNothingGoesBack`. -/
theorem witness_EveryCommandRunsAndNothingGoesBack :
    (∃ (s : State) (t : State), step s = .next t ∧ s.clock.everSet = true) ∧
    (∃ (s : State) (t : State), step s = .next t ∧ s.life.retired = true) ∧
    (∃ (s : State) (t : State), step s = .next t ∧ (∀ c, s.pending.head? = some c → endsS02 c = false)) :=
  ⟨⟨{ State.reset with clock := { everSet := true } }, _, rfl, rfl⟩,
    ⟨{ State.reset with life := { retired := true } }, _, rfl, rfl⟩,
    ⟨State.reset, State.reset, rfl, fun _ h => nomatch h⟩⟩

/-- States and operands that meet the hypotheses of `AStepRunsTheCommandAtTheFrontOfTheQueue`. -/
theorem witness_AStepRunsTheCommandAtTheFrontOfTheQueue :
    (∃ (c : Instr) (s : State) (r : List Instr), s.pending = c :: r) ∧
    (∃ (s : State), s.pending = [] ∧ s.phase = .off) ∧
    (∃ (s : State), s.pending = [] ∧ s.phase ≠ .off) :=
  ⟨⟨.buttonPress, { rdy with pending := [.buttonPress] }, [], rfl⟩,
    ⟨State.reset, rfl, rfl⟩,
    ⟨rdy, rfl, by decide⟩⟩

/-- States and operands that meet the hypotheses of `ACommitOrDiscardOfAnUnknownGroupIsBadValue`. -/
theorem witness_ACommitOrDiscardOfAnUnknownGroupIsBadValue :
    (∃ (s : State) (l : Line) (d : Session), Accepts s l {} none d) :=
  ⟨rdy, uLine, mSess, accepts_of (by decide +kernel)⟩

/-- States and operands that meet the hypotheses of `ARowCommitWithoutARowKeyIsRefused`. -/
theorem witness_ARowCommitWithoutARowKeyIsRefused :
    ∃ (s : State) (l : Line) (d : Session) (h : Shadow), Accepts s l {} none d ∧ shadowOf s .row = some h ∧ h.holder = l.sess ∧
        h.inst = d.serial ∧ stepDone s (groupStep .row) = true ∧ islState s .core = .run ∧ s.row.key = none ∧ attrFieldOf
        .rowCfg (pendingWord s h.written .rowCfg) "ROW_ID" ≠ 0 :=
  ⟨{ rdy with cfg := { rdy.cfg with shadows := [(.row, { holder := .usb, inst := 0, written := [(.rowCfg, "ROW_ID", 1)] })] } },
        uLine, mSess, _, accepts_of (by decide +kernel), rfl, by decide +kernel⟩

/-- States and operands that meet the hypotheses of `TimeCommandsCompleteAndSetTheClockSo`. -/
theorem witness_TimeCommandsCompleteAndSetTheClockSo :
    (∃ (s : State) (a : PtpAnnounce), ptpOn s = true ∧ ptpOwn s a = true ∧ a.best = true ∧ s.clock.ptp.master = some a.master ∧
        2 ≤ s.clock.ptp.count) ∧
    (∃ (s : State) (a : PtpAnnounce), ptpOn s = true ∧ ptpOwn s a = true ∧ a.best = true ∧ s.clock.ptp.master ≠ some a.master) ∧
    (∃ (s : State) (m : Nat), s.clock.ptp.master = some m) ∧
    (∃ (s : State), ptpOn s = true ∧ s.clock.ptp.accepted = true ∧ s.clock.wstate = .unset) ∧
    (∃ (s : State) (a : IpAddr) (n : NtpServer), n ∈ s.clock.ntp ∧ n.addr = a ∧ s.clock.ntpPeer ≠ some a) ∧
    (∃ (s : State) (a : IpAddr) (n : NtpServer), s.clock.ntp = [n] ∧ n.addr = a ∧ s.clock.ntpPeer = some a ∧ 4 ≤ n.missed) ∧
    (∃ (s : State) (a : IpAddr) (n : NtpServer) (r : NtpReply), s.clock.ntp = [n] ∧ n.addr = a ∧ 1 ≤ r.stratum ∧ r.stratum ≤ 15
        ∧ s.clock.ptp.accepted = false ∧ s.clock.wstate = .unset) ∧
    (∃ (s : State) (x : StepSource × Int) (t : Nat), s.clock.refused = some x ∧ s.clock.refusedAt = some t ∧ s.clock.disagree =
        true) ∧
    (∃ (s : State) (l : Line) (d : Session) (u : UtcArg), Accepts s l { priv := true } (utcErr u) d ∧ s.clock.wstate ≠ .ntp ∧
        s.clock.wstate ≠ .ptp) ∧
    (∃ (s : State) (l : Line) (d : Session) (src : StepSource) (o : Int), Accepts s l { priv := true } none d ∧ s.clock.refused
        = some (src, o)) ∧
    (∃ (s : State), (s.clock.wstate = .ntp ∨ s.clock.wstate = .ptp)) ∧
    (∃ (s : State), svcRuns s = true) :=
  ⟨⟨{ setF rdy .timeCfg "PTP_EN" 1 with clock := { ptp := { master := some 1, count := 2 } } }, { master := 1, best := true, stratum := 1 },
        by decide +kernel⟩,
    ⟨setF rdy .timeCfg "PTP_EN" 1, { master := 1, best := true, stratum := 1 }, by decide +kernel⟩,
    ⟨{ rdy with clock := { ptp := { master := some 1 } } }, 1, rfl⟩,
    ⟨{ setF rdy .timeCfg "PTP_EN" 1 with clock := { ptp := { master := some 1, accepted := true } } }, by decide +kernel⟩,
    ⟨{ rdy with clock := { ntp := [{ addr := 1 }] } }, 1, { addr := 1 }, by decide +kernel⟩,
    ⟨{ rdy with clock := { ntp := [{ addr := 1, missed := 4 }], ntpPeer := some 1 } }, 1, { addr := 1, missed := 4 }, by decide +kernel⟩,
    ⟨{ rdy with clock := { ntp := [{ addr := 1 }] } }, 1, { addr := 1 }, { offset := 5, dist := 0, stratum := 15 }, by decide +kernel⟩,
    ⟨{ rdy with clock := { refused := some (.ntp, 5), refusedAt := some 0, disagree := true } }, (.ntp, 5), 0, by decide +kernel⟩,
    ⟨rdy, uLine, mSess, { wellFormed := true, micros := 1700000000000000, fraction := [] }, accepts_of (by decide +kernel), by decide +kernel⟩,
    ⟨{ rdy with clock := { refused := some (.ntp, 5), refusedAt := some 0, disagree := true } }, uLine, mSess, .ntp, 5,
        accepts_of (by decide +kernel), rfl⟩,
    ⟨{ rdy with clock := { wstate := .ptp } }, .inr rfl⟩,
    ⟨rdy, by decide +kernel⟩⟩

/-- States and operands that meet the hypotheses of `TheCapIsThePseudocodesValue`. -/
theorem witness_TheCapIsThePseudocodesValue :
    (∃ (s : State), s.power.measuring = .idle) :=
  ⟨State.reset, by decide +kernel⟩

/-- States and operands that meet the hypotheses of `ALowDirtyCapRunsWriteThrough`. -/
theorem witness_ALowDirtyCapRunsWriteThrough :
    (∃ (s : State), dirtyCap s < 32) :=
  ⟨setF rdy .policy "DIRTY_CAP" 31, by decide +kernel⟩

/-- States and operands that meet the hypotheses of `TheRowEpochIsStoredAndNeverDecreases`. -/
theorem witness_TheRowEpochIsStoredAndNeverDecreases :
    (∃ (s : State) (t : State), step s = .next t) :=
  ⟨State.reset, _, rfl⟩

/-- States and operands that meet the hypotheses of `ACommitReplacesItsWholeGroupAtOnceOrNothing`. -/
theorem witness_ACommitReplacesItsWholeGroupAtOnceOrNothing :
    (∃ (s : State) (l : Line) (d : Session) (g : Group) (h : Shadow), Accepts s l { role := commitRole s l.sess (some g) } none d ∧
        shadowOf s g = some h) ∧
    (∃ (w : List (Attr × String × Nat)) (a : Attr), (∀ x ∈ w, x.1 ≠ a)) :=
  ⟨⟨{ rdy with cfg := { rdy.cfg with shadows := [(.pwrPolicy, { holder := .usb, inst := 0, written := [] })] } },
        uLine, mSess, .pwrPolicy, _, accepts_of (by decide +kernel), rfl⟩,
    ⟨[], .policy, fun _ h => nomatch h⟩⟩

/-- States and operands that meet the hypotheses of `NoPrivilegedCommandActsWhileTheWindowIsClosed`. -/
theorem witness_NoPrivilegedCommandActsWhileTheWindowIsClosed :
    ∃ (s : State) (c : Instr) (l : Line) (d : Session), (privilegedLine c = some l ∨ ∃ g, groupPrivileged g = true ∧ c =
        .discardGroup l (some g)) ∧ windowOpen s = false ∧ getSess s l.sess = some d ∧ d.closing = false ∧ (l.sess = .jcon →
        s.bay.lineFault = false) ∧ (isMgmt l.sess = true ∨ consolesPaused s = false) ∧ (d.machine = true → l.tag ≠ none) ∧
        d.slots.length < 4 :=
  ⟨{ rdy with bay := { usb := true } }, .timeAccept uLine, uLine, mSess, .inl rfl, rfl, rfl, rfl, (fun h => nomatch h), .inr
        rfl, (fun _ h => nomatch h), by decide⟩

/-- States and operands that meet the hypotheses of `AFifthWaitingCommandIsBusyAndADeafSessionExecutesNothing`. -/
theorem witness_AFifthWaitingCommandIsBusyAndADeafSessionExecutesNothing :
    (∃ (s : State) (c : Instr) (l : Line) (d : Session), consoleLine c = some l ∧ getSess s l.sess = some d ∧ d.closing = false
        ∧ (l.sess = .jcon → s.bay.lineFault = false) ∧ (isMgmt l.sess = true ∨ consolesPaused s = false) ∧ (d.machine = true →
        l.tag ≠ none) ∧ 4 ≤ d.slots.length) ∧
    (∃ (s : State) (c : Instr) (l : Line), consoleLine c = some l ∧ (∀ d, getSess s l.sess = some d → d.closing = true ∨ (l.sess = .jcon ∧ s.bay.lineFault = true) ∨ (isMgmt l.sess = false ∧ consolesPaused s = true))) ∧
    (∃ (s : State) (c : Instr) (l : Line) (d : Session), consoleLine c = some l ∧ getSess s l.sess = some d ∧ d.closing = false
        ∧ (l.sess = .jcon → s.bay.lineFault = false) ∧ (isMgmt l.sess = true ∨ consolesPaused s = false) ∧ d.machine = true ∧
        l.tag = none) :=
  ⟨⟨{ rdy with con := { sessions := [(.usb, { slots := List.replicate 4 { id := 0, tag := none, reply := none } })] } },
        .powerShow uLine, uLine, { slots := List.replicate 4 { id := 0, tag := none, reply := none } }, rfl, rfl, rfl, (fun h =>
        nomatch h), .inr rfl, (fun _ h => nomatch h), by decide⟩,
    ⟨{ rdy with con := { sessions := [(.usb, { closing := true })] } }, .powerShow uLine,
        uLine, rfl, fun d h => .inl (by cases h; rfl)⟩,
    ⟨rdy, .powerShow { uLine with tag := none }, { uLine with tag := none }, mSess, rfl, rfl, rfl, (fun h => nomatch h), .inr
        rfl, rfl, rfl⟩⟩

/-- States and operands that meet the hypotheses of `ConsoleReadsOfTheMachineAnswerAndChangeNothingElse`. -/
theorem witness_ConsoleReadsOfTheMachineAnswerAndChangeNothingElse :
    (∃ (s : State) (l : Line) (d : Session), Accepts s l { safe := true, hold := true } none d) ∧
    (∃ (s : State) (l : Line) (d : Session) (count : Option Int) (since : Option Int), Accepts s l { safe := true, hold := true }
        (firstErr [rangeErr (count.getD 20) 1 200, since.bind (fun q => rangeErr q 0 (2 ^ 64 - 1))]) d) ∧
    (∃ (s : State) (l : Line) (d : Session), Accepts s l {} none d) ∧
    (∃ (s : State) (l : Line) (d : Session), Accepts s l parcelCmd none d) ∧
    (∃ (s : State) (l : Line) (d : Session), Accepts s l { recovery := true } none d) ∧
    (∃ (s : State) (l : Line) (d : Session) (id : Option Nat), Accepts s l { safe := true, hold := true } (if (namedIslands id).isNone then some .noSuchIsland else none) d) ∧
    (∃ (s : State) (l : Line) (d : Session), Accepts s l { hold := true } none d) ∧
    (∃ (s : State) (l : Line) (d : Session) (island : Option Nat), Accepts s l { hold := true } (match island with | some i => if (Island.ofId i).isNone then some .noSuchIsland else none | none => none) d) ∧
    (∃ (s : State) (l : Line) (d : Session) (ifc : Option Int), Accepts s l {} (ifErr ifc) d) ∧
    (∃ (s : State) (l : Line) (d : Session) (count : Option Nat), Accepts s l {} (rangeErr (count.getD 100 : Nat) 1 100) d) ∧
    (∃ (s : State) (l : Line) (d : Session), Accepts s l { safe := true } none d) :=
  ⟨⟨rdy, uLine, mSess, accepts_of (by decide +kernel)⟩,
    ⟨rdy, uLine, mSess, none, none, accepts_of (by decide +kernel)⟩,
    ⟨rdy, uLine, mSess, accepts_of (by decide +kernel)⟩,
    ⟨rdy, uLine, mSess, accepts_of (by decide +kernel)⟩,
    ⟨rdy, uLine, mSess, accepts_of (by decide +kernel)⟩,
    ⟨rdy, uLine, mSess, none, accepts_of (by decide +kernel)⟩,
    ⟨rdy, uLine, mSess, accepts_of (by decide +kernel)⟩,
    ⟨rdy, uLine, mSess, none, accepts_of (by decide +kernel)⟩,
    ⟨rdy, uLine, mSess, none, accepts_of (by decide +kernel)⟩,
    ⟨rdy, uLine, mSess, none, accepts_of (by decide +kernel)⟩,
    ⟨rdy, uLine, mSess, accepts_of (by decide +kernel)⟩⟩

/-- States and operands that meet the hypotheses of `ConsoleReadsOfTheDataPartsAnswerAndChangeNothingElse`. -/
theorem witness_ConsoleReadsOfTheDataPartsAnswerAndChangeNothingElse :
    (∃ (s : State) (l : Line) (d : Session), Accepts s l {} none d) ∧
    (∃ (s : State) (l : Line) (d : Session) (bank : Int), Accepts s l {} (rangeErr bank 0 15) d) ∧
    (∃ (s : State) (l : Line) (d : Session) (stall : Option Int), Accepts s l {} (stall.bind stallErr) d) ∧
    (∃ (s : State) (l : Line) (d : Session) (band : Int), Accepts s l {} (rangeErr band 0 65535) d) ∧
    (∃ (s : State) (l : Line) (d : Session) (count : Option Int), Accepts s l {} (rangeErr (count.getD 16) 1 64) d) ∧
    (∃ (s : State) (l : Line) (d : Session) (stall : Int), Accepts s l {} (stallErr stall) d) ∧
    (∃ (s : State) (l : Line) (d : Session) (stall : Int) (count : Option Int), Accepts s l {} (firstErr [stallErr stall, rangeErr (count.getD 36) 1 36]) d) ∧
    (∃ (s : State) (l : Line) (d : Session) (stall : Int) (off : Int) (len : Int), Accepts s l {} (firstErr [stallErr stall, rangeErr off 0 65535, rangeErr len 1 1024]) d) :=
  ⟨⟨rdy, uLine, mSess, accepts_of (by decide +kernel)⟩,
    ⟨rdy, uLine, mSess, 0, accepts_of (by decide +kernel)⟩,
    ⟨rdy, uLine, mSess, none, accepts_of (by decide +kernel)⟩,
    ⟨rdy, uLine, mSess, 0, accepts_of (by decide +kernel)⟩,
    ⟨rdy, uLine, mSess, none, accepts_of (by decide +kernel)⟩,
    ⟨rdy, uLine, mSess, 0, accepts_of (by decide +kernel)⟩,
    ⟨rdy, uLine, mSess, 0, none, accepts_of (by decide +kernel)⟩,
    ⟨rdy, uLine, mSess, 0, 0, 5, accepts_of (by decide +kernel)⟩⟩

/-- From the ready drive every command gives a next state. -/
theorem rdy_answers (c : Instr) : ∃ t, exec c rdy = .next t := by
  obtain ⟨_, ⟨t, h, _⟩, _⟩ := exec_changes c rdy
  exact ⟨t, h⟩

/-- From the ready drive every command gives a next state, those that `BayPowerAndIslandCommandsChangeOnlyTheirParts` names among them. -/
theorem witness_BayPowerAndIslandCommandsChangeOnlyTheirParts : ∀ c, ∃ t, exec c rdy = .next t := rdy_answers

/-- From the ready drive every command gives a next state, those that `StartHaltAndLifeCommandsChangeOnlyTheirParts` names among them. -/
theorem witness_StartHaltAndLifeCommandsChangeOnlyTheirParts : ∀ c, ∃ t, exec c rdy = .next t := rdy_answers

/-- From the ready drive every command gives a next state, those that `ConsoleAndAttributeCommandsChangeOnlyTheirParts` names among them. -/
theorem witness_ConsoleAndAttributeCommandsChangeOnlyTheirParts : ∀ c, ∃ t, exec c rdy = .next t := rdy_answers

/-- From the ready drive every command gives a next state, those that `PortAddressAndTimeCommandsChangeOnlyTheirParts` names among them. -/
theorem witness_PortAddressAndTimeCommandsChangeOnlyTheirParts : ∀ c, ∃ t, exec c rdy = .next t := rdy_answers

/-- From the ready drive every command gives a next state, those that `ProtocolAndOperationCommandsChangeOnlyTheirParts` names among them. -/
theorem witness_ProtocolAndOperationCommandsChangeOnlyTheirParts : ∀ c, ∃ t, exec c rdy = .next t := rdy_answers

/-- From the ready drive every command gives a next state, those that `StallCommandsChangeOnlyTheirParts` names among them. -/
theorem witness_StallCommandsChangeOnlyTheirParts : ∀ c, ∃ t, exec c rdy = .next t := rdy_answers

/-- From the ready drive every command gives a next state, those that `MediaAndArcadeCommandsChangeOnlyTheirParts` names among them. -/
theorem witness_MediaAndArcadeCommandsChangeOnlyTheirParts : ∀ c, ∃ t, exec c rdy = .next t := rdy_answers

/-- From the ready drive every command gives a next state, those that `RowAndFirmwareCommandsChangeOnlyTheirParts` names among them. -/
theorem witness_RowAndFirmwareCommandsChangeOnlyTheirParts : ∀ c, ∃ t, exec c rdy = .next t := rdy_answers

end Sys2Proof.Tests
end

section
/-!
From the masks of `Changes` to the frames of the commands of the start, the halt, the self-test and the life cycle.
-/

namespace Sys2Proof.Proofs

open Sys2Proof Machine Laws

/-- Every part of the state, in the order of `partBit`. -/
def allParts : List Part :=
  [.phase, .clock, .bay, .power, .isl, .cfg, .boot, .con, .ports, .net, .proto, .kv, .stalls, .media, .upkeep, .arc,
    .row, .fw, .life, .log, .out, .freeCtr]

theorem mem_allParts (p : Part) : p ∈ allParts := by cases p <;> decide

/-- A frame from a mask, as a finite check that the parts listed cover the mask. -/
theorem only_of_mask {m : Nat} {s t : State} {ps : List Part} {o : Host.Outcome State Fault Refusal} (e : o = .next t)
    (h : NextChanges m s o) (k : ∀ p ∈ allParts, p ∉ ps → m.testBit (partBit p) = false) : Only ps s t :=
  only_of_next h e fun p => k p (mem_allParts p)

/-- Settles O37: each command's mask (its `_changes` law) is covered by the parts that its clause lists. -/
theorem startHaltAndLifeCommandsChangeOnlyTheirParts :
    Obligations.StartHaltAndLifeCommandsChangeOnlyTheirParts := by
  refine ⟨?s17LinkRetry, ?eventLogCopy, ?shows, ?s01BudgetMet, ?startHotHold, ?coldOpen, ?leadSelect, ?wake, ?portPowerOn,
    ?islandRevive, ?startClear, ?s17Complete, ?orderlyHalt, ?flushComplete, ?capAdmission, ?dormantEnter, ?lifecycleSet,
    ?reboot, ?testRun, ?powerFailAndDrain, ?selftest, ?haltFlushDone, ?stepFails, ?starts⟩
  case s17LinkRetry =>
    exact fun s t e => only_of_mask e execS17LinkRetry_changes (by decide)
  case eventLogCopy =>
    exact fun s t e => only_of_mask e execEventLogCopy_changes (by decide)
  case shows =>
    rintro s t (⟨_, e⟩ | ⟨_, _, e⟩ | ⟨_, e⟩ | ⟨_, e⟩ | ⟨_, _, _, _, e⟩)
    · exact only_of_mask e execStartShow_changes (by decide)
    · exact only_of_mask e execLedgerShow_changes (by decide)
    · exact only_of_mask e execLifecycleShow_changes (by decide)
    · exact only_of_mask e execTestShow_changes (by decide)
    · exact only_of_mask e execTestResults_changes (by decide)
  case s01BudgetMet =>
    exact fun s t e => only_of_mask e execS01BudgetMet_changes (by decide)
  case startHotHold =>
    exact fun s t e => only_of_mask e execStartHotHold_changes (by decide)
  case coldOpen =>
    exact fun s t ⟨_, e⟩ => only_of_mask e execColdOpen_changes (by decide)
  case leadSelect =>
    exact fun s t e => only_of_mask e execLeadSelect_changes (by decide)
  case wake =>
    exact fun s t ⟨_, _, e⟩ => only_of_mask e execWake_changes (by decide)
  case portPowerOn =>
    exact fun s t ⟨_, _, e⟩ => only_of_mask e execPortPowerOn_changes (by decide)
  case islandRevive =>
    exact fun s t ⟨_, _, e⟩ => only_of_mask e execIslandRevive_changes (by decide)
  case startClear =>
    exact fun s t ⟨_, e⟩ => only_of_mask e execStartClear_changes (by decide)
  case s17Complete =>
    exact fun s t ⟨_, _, e⟩ => only_of_mask e execS17Complete_changes (by decide)
  case orderlyHalt =>
    exact fun s t ⟨_, e⟩ => only_of_mask e execOrderlyHalt_changes (by decide)
  case flushComplete =>
    exact fun s t ⟨_, e⟩ => only_of_mask e execFlushComplete_changes (by decide)
  case capAdmission =>
    exact fun s t e => only_of_mask e execCapAdmission_changes (by decide)
  case dormantEnter =>
    exact fun s t ⟨_, e⟩ => only_of_mask e execDormantEnter_changes (by decide)
  case lifecycleSet =>
    exact fun s t ⟨_, _, _, e⟩ => only_of_mask e execLifecycleSet_changes (by decide)
  case reboot =>
    exact fun s t ⟨_, e⟩ => only_of_mask e execReboot_changes (by decide)
  case testRun =>
    exact fun s t ⟨_, _, _, _, e⟩ => only_of_mask e execTestRun_changes (by decide)
  case powerFailAndDrain =>
    rintro s t (e | e)
    · exact only_of_mask e execPowerFail_changes (by decide)
    · exact only_of_mask e execHaltDrainEnd_changes (by decide)
  case selftest =>
    rintro s t (⟨_, e⟩ | ⟨_, e⟩)
    · exact only_of_mask e execSelftestIslandDone_changes (by decide)
    · exact only_of_mask e execSelftestLimitLeft_changes (by decide)
  case haltFlushDone =>
    exact fun s t ⟨_, e⟩ => only_of_mask e execHaltFlushDone_changes (by decide)
  case stepFails =>
    rintro s t (⟨_, _, e⟩ | ⟨_, _, e⟩)
    · exact only_of_mask e execStartStepFail_changes (by decide)
    · exact only_of_mask e execStartStepTimeout_changes (by decide)
  case starts =>
    rintro s t (⟨_, _, e⟩ | ⟨_, e⟩ | ⟨_, e⟩)
    · exact only_of_mask e execDetectionVoltage_changes (by decide)
    · exact only_of_mask e execStartBegin_changes (by decide)
    · exact only_of_mask e execStartStepComplete_changes (by decide)

end Sys2Proof.Proofs
end

section
/-!
What the commands of the addresses, the neighbours, ICMP and LLDP do, command by command, branch by branch (ch. 08).
-/

namespace Sys2Proof.Proofs

open Sys2Proof Machine Laws

section
variable {s : State} {p : PortId} {k : IfNo} {a : IpAddr} {r : AddrRec}

/-! ### Duplicate detection and loss (R339 to R341) -/

/-- The four commands about an address leave the state as it is when the interface does not hold it. -/
theorem exec_addr_unheld (h : heldRec s k a = none) :
    exec (.addrProbeDone k a) s = .next s ∧ exec (.addrDuplicate k a) s = .next s ∧
    exec (.addrRetry k a) s = .next s ∧ exec (.addrLost k a) s = .next s := by
  refine ⟨?_, ?_, ?_, ?_⟩
  · show execAddrProbeDone k a s = _
    rw [execAddrProbeDone, h]
  · show execAddrDuplicate k a s = _
    rw [execAddrDuplicate, h]
  · show execAddrRetry k a s = _
    rw [execAddrRetry, h]
  · show execAddrLost k a s = _
    rw [execAddrLost, h]

/-- The state in which a probed address has become usable. -/
def probed (s : State) (k : IfNo) (a : IpAddr) (r : AddrRec) : State :=
  updIfc (setAddr (advanceTo s (r.probeAt + probeWait a)) k a .usable none) k (fun d => { d with renewing := false })

/-- An address of no DHCP lease replaces none, so that the end of its probe only makes it usable. -/
theorem exec_addrProbeDone (h : heldRec s k a = some r) (w : r.state = .probing ∨ r.state = .optimistic)
    (h4 : r.origin ≠ .dhcp4) (h6 : r.origin ≠ .dhcp6) :
    exec (.addrProbeDone k a) s = .next
      (if r.origin = .linkLocal ∧ (getIfc (probed s k a r) k).d6 = .soliciting then solicit (probed s k a r) k
       else probed s k a r) := by
  have lease : ¬ (r.origin = .dhcp4 ∨ r.origin = .dhcp6) := not_or.mpr ⟨h4, h6⟩
  show execAddrProbeDone k a s = _
  rw [execAddrProbeDone, h]
  simp only [if_pos w, if_neg lease]
  rfl

/-- Only a static and a DHCPv6 address is tried again after a conflict. -/
theorem exec_addrDuplicate (h : heldRec s k a = some r) (c : r.state ≠ .conflict) (h4 : r.origin ≠ .dhcp4) :
    exec (.addrDuplicate k a) s = .next
      (resetMgmt (resetWhere (setAddr (logEv s .addrDuplicate { details := addrWords a ++ [ifWord k] }) k a .conflict
          (if r.origin = .static ∨ r.origin = .dhcp6 then some (now s + 60 * sec) else none))
        (fun c => decide (c.ifc = k) && decide (c.local_ = a))) (fun d => decide (d.ifc = k) && decide (d.local_ = a))) := by
  show execAddrDuplicate k a s = _
  rw [execAddrDuplicate, h]
  simp only [if_neg c, if_neg h4]
  cases r.origin <;> rfl

theorem exec_addrDuplicate_conflict (h : heldRec s k a = some r) (c : r.state = .conflict) :
    exec (.addrDuplicate k a) s = .next s := by
  show execAddrDuplicate k a s = _
  rw [execAddrDuplicate, h]
  simp only [if_pos c]

theorem exec_addrRetry {t : Nat} (h : heldRec s k a = some r) (e : r.retryAt = some t) :
    exec (.addrRetry k a) s = .next (if isV4 a
      then sendPlain (setAddr (advanceTo s t) k a .probing none) k 6 (.probe k a) 8 .broadcast
      else sendIp (setAddr (advanceTo s t) k a .probing none) k 6 (.probe k a) 9) := by
  show execAddrRetry k a s = _
  rw [execAddrRetry, h]
  simp only [e]

/-- How an interface begins anew to acquire an address of an origin (R341). -/
def reacquire (s : State) (k : IfNo) : Origin → State
  | .dhcp4 => discover s k 4
  | .dhcp6 => solicit s k
  | .slaac => solicitRouter s k
  | _ => s

theorem exec_addrLost {t : Nat} (h : heldRec s k a = some r) (e : r.until_ = some t) :
    exec (.addrLost k a) s = .next (reacquire
      (logEv (removeAddr (advanceTo s t) k a) .addrLost { details := addrWords a ++ [ifWord k] }) k r.origin) := by
  show execAddrLost k a s = _
  rw [execAddrLost, h]
  simp only [e]
  cases r.origin <;> rfl

/-! ### Neighbours and echoes (R343 to R345) -/

theorem exec_neighbourSolicit (t x : IpAddr) (m : MacAddr) :
    exec (.neighbourSolicit k t x m) s = .next (if netRuns s = true ∧ ownAddr s k t = true then
      (if isV4 t then sendPlain (learn s k x m) k 6 (.neighbour k t (Config.macAddr .p0) (some x)) 1 .unicast
       else sendIp (learn s k x m) k 6 (.neighbour k t (Config.macAddr .p0) (some x)) 2) else s) := by
  show execNeighbourSolicit k t x m s = _
  rw [execNeighbourSolicit]

section
variable {e : Ends} {n : Nat}

theorem exec_icmpEcho_stopped (b : Bool) (h : netRuns s = false) : exec (.icmpEcho p k e n b) s = .next s := by
  show execIcmpEcho p k e n b s = _
  simp only [execIcmpEcho, h, Bool.not_false, if_true]

theorem exec_icmpEcho_fragment (h : netRuns s = true) :
    exec (.icmpEcho p k e n true) s = .next { s with net := { s.net with fragDrop := s.net.fragDrop + 1 } } := by
  show execIcmpEcho p k e n true s = _
  simp only [execIcmpEcho, h, Bool.not_true, Bool.false_eq_true, if_false, if_true, updNet]

theorem exec_icmpEcho (h : netRuns s = true) :
    exec (.icmpEcho p k e n false) s = .next (if ownAddr s k e.dst = true ∧ n ≤ ifMtu s p k then
      (match rateStep (now s) (getPort s p).echoRate 100 with
        | none => s
        | some r => sendIp (updPort s p (fun d => { d with echoRate := r })) k 6 (.echoReply k e n) 18) else s) := by
  show execIcmpEcho p k e n false s = _
  rw [execIcmpEcho, if_neg (by simp [h]), if_neg Bool.false_ne_true]
  refine congrArg Host.Outcome.next (if_congr (by simp) ?_ rfl)
  cases rateStep (now s) (getPort s p).echoRate 100 <;> rfl

end

/-! ### Limits by the second (R344) -/

section
variable {t n : Nat} {c : Nat × Nat}

theorem rateStep_full (w : t < c.1 + sec) (f : n ≤ c.2) (z : c.2 ≠ 0) : rateStep t c n = none := by
  rw [rateStep, if_neg (by omega), if_neg (by omega)]

theorem rateStep_counts (w : t < c.1 + sec) (f : c.2 < n) (z : c.2 ≠ 0) : rateStep t c n = some (c.1, c.2 + 1) := by
  rw [rateStep, if_neg (by omega), if_pos f]

theorem rateStep_anew (w : c.1 + sec ≤ t) : rateStep t c n = some (t, 1) := by
  rw [rateStep, if_pos (.inl w)]

end

/-! ### Path MTU and closed ports (R39, R344, R346) -/

/-- The path MTU that a packet-too-big leaves. -/
def pathMtu (s : State) (a : IpAddr) (n : Nat) : Nat :=
  Nat.min (Nat.max n (if isV4 a then 68 else 1280)) (AMap.getD s.net.pmtu a 9198)

theorem exec_icmpPacketTooBig (a : IpAddr) (n : Nat) : exec (.icmpPacketTooBig a n) s =
    .next (updNet s (fun d => { d with pmtu := AMap.set d.pmtu a (pathMtu s a n) })) := rfl

section
variable {e : Ends}

theorem exec_closedPortPacket_foreign (q : ClosedProto) (h : ownAddr s k e.dst = false ∨ netRuns s = false) :
    exec (.closedPortPacket p k e q) s = .next s := by
  have g : (! ownAddr s k e.dst || ! netRuns s) = true := by simpa using h
  show execClosedPortPacket p k e q s = _
  unfold execClosedPortPacket
  rw [if_pos g]

theorem exec_closedPortPacket_own {q : ClosedProto} (o : ownAddr s k e.dst = true) (h : netRuns s = true) :
    exec (.closedPortPacket p k e q) s = .next (match q with
      | .tcp n => if tcpOpen s k n then s else sendIp s k 4 (.closedReset e n) 19
      | .udp n => if udpOpen s k n ∨ (n = 7131 ∧ starting s ∧ s.proto.listening = false) then s
        else match rateStep (now s) (getPort s p).unreachRate 10 with
          | none => s
          | some r => sendIp (updPort s p (fun d => { d with unreachRate := r })) k 6 (.unreachable k e n) 20) := by
  have g : ¬ (! ownAddr s k e.dst || ! netRuns s) = true := by simp [o, h]
  show execClosedPortPacket p k e q s = _
  unfold execClosedPortPacket
  rw [if_neg g]
  cases q with
  | tcp n => rfl
  | udp n =>
    refine congrArg Host.Outcome.next (if_congr (by simp [and_assoc]) rfl ?_)
    cases rateStep (now s) (getPort s p).unreachRate 10 <;> rfl

end

/-! ### LLDP neighbours (R104, R347) -/

section
variable {u : LldpPdu}

theorem exec_lldpReceive_linkDown (h : (getPort s p).link = false) : exec (.lldpReceive p u) s = .next s := by
  show execLldpReceive p u s = _
  rw [execLldpReceive, if_pos (by simp [h])]

theorem exec_lldpReceive_malformed (h : (getPort s p).link = true) (w : u.wellFormed = false) :
    exec (.lldpReceive p u) s = .next { s with net := { s.net with lldpBad := s.net.lldpBad + 1 } } := by
  show execLldpReceive p u s = _
  rw [execLldpReceive, if_neg (by simp [h]), if_pos (by simp [w])]
  rfl

/-- The neighbour that an LLDPDU names, kept until its TTL ends. -/
def neighOf (s : State) (u : LldpPdu) : LldpNeigh :=
  { chassis := u.chassis, portId := u.portId, sysName := u.sysName, pvid := u.pvid, until_ := now s + u.ttl * sec }

theorem eq_neighOf {n : LldpNeigh} (c : n.chassis = u.chassis) (i : n.portId = u.portId) (y : n.sysName = u.sysName)
    (v : n.pvid = u.pvid) (t : n.until_ = now s + u.ttl * sec) : n = neighOf s u := by
  cases n
  simp only [neighOf, LldpNeigh.mk.injEq]
  exact ⟨c, i, y, v, t⟩

/-- The state in which a well-formed LLDPDU has entered the neighbours of its port. -/
def neighbourTaken (s : State) (p : PortId) (u : LldpPdu) : State :=
  updFeed { s with net := { s.net with lldp := s.net.lldp.upd p (fun l => if u.ttl = 0 then
      l.filter (fun x => ! (decide (x.chassis = u.chassis) && decide (x.portId = u.portId)))
      else putNeigh (neighOf s u) l) } } p (fun f => { f with lldpSeen := true })

theorem exec_lldpReceive (h : (getPort s p).link = true) (w : u.wellFormed = true) :
    exec (.lldpReceive p u) s = .next (match u.alloc with
      | none => neighbourTaken s p u
      | some a => if (getFeed (neighbourTaken s p u) p).powered then takeAllocation (neighbourTaken s p u) p a
        else neighbourTaken s p u) := by
  show execLldpReceive p u s = _
  rw [execLldpReceive, if_neg (by simp [h]), if_neg (by simp [w])]
  rfl

end

section
variable {c i : List Byte}

theorem exec_lldpNeighbourExpiry {n : LldpNeigh}
    (h : (s.net.lldp.get p).find? (fun n => decide (n.chassis = c) && decide (n.portId = i)) = some n) :
    exec (.lldpNeighbourExpiry p c i) s =
      .next { advanceTo s n.until_ with net := { s.net with lldp := s.net.lldp.upd p (fun l => l.erase n) } } := by
  have net : (advanceTo s n.until_).net = s.net := by simp
  show execLldpNeighbourExpiry p c i s = _
  rw [execLldpNeighbourExpiry, h]
  simp only [updNet, net]

theorem exec_lldpNeighbourExpiry_unknown
    (h : (s.net.lldp.get p).find? (fun n => decide (n.chassis = c) && decide (n.portId = i)) = none) :
    exec (.lldpNeighbourExpiry p c i) s = .next s := by
  show execLldpNeighbourExpiry p c i s = _
  rw [execLldpNeighbourExpiry, h]

end

end

/-! ### The statement -/

/-- Settles O18, clause by clause, from what each command does. -/
theorem addressesNeighboursAndIcmpActAsTheirRulesSay : Obligations.AddressesNeighboursAndIcmpActAsTheirRulesSay := by
  refine ⟨?unheld, ?probeDone, ?duplicate, ?conflict, ?retry, ?lost, ?solicit, ?echoStopped, ?echoFragment, ?echo, ?rate,
    ?tooBig, ?closedForeign, ?closedTcp, ?closedUdp, ?lldpLinkDown, ?lldpMalformed, ?lldpTaken, ?lldpExpiry, ?lldpUnknown⟩
  case unheld => exact fun s k a => exec_addr_unheld
  case probeDone =>
    rintro s k a r u h w h4 h6 rfl
    exact exec_addrProbeDone h w h4 h6
  case duplicate => exact fun s k a r => exec_addrDuplicate
  case conflict => exact fun s k a r => exec_addrDuplicate_conflict
  case retry => exact fun s k a r t h e => ⟨_, rfl, exec_addrRetry h e⟩
  case lost =>
    intro s k a r t h e
    refine ⟨_, rfl, (exec_addrLost h e).trans ?_⟩
    cases r.origin <;> rfl
  case solicit => exact fun s k t x m => exec_neighbourSolicit t x m
  case echoStopped => exact fun s p k e n b => exec_icmpEcho_stopped b
  case echoFragment => exact fun s p k e n => exec_icmpEcho_fragment
  case echo => exact fun s p k e n => exec_icmpEcho
  case rate => exact fun t c n => ⟨rateStep_full, rateStep_counts, rateStep_anew⟩
  case tooBig =>
    intro s a n
    refine ⟨_, exec_icmpPacketTooBig a n, pathMtu s a n, AMap.find_set_same _ _ _, ?_, ?_, ?_⟩
    · exact Nat.min_le_right _ _
    · exact Nat.min_le_left _ _
    · exact fun b h => AMap.find_set_other _ _ h
  case closedForeign => exact fun s p k e q => exec_closedPortPacket_foreign q
  case closedTcp => exact fun s p k e n => exec_closedPortPacket_own
  case closedUdp => exact fun s p k e n => exec_closedPortPacket_own
  case lldpLinkDown => exact fun s p u => exec_lldpReceive_linkDown
  case lldpMalformed => exact fun s p u => exec_lldpReceive_malformed
  case lldpTaken =>
    rintro s p u h w v n c i y d t rfl
    obtain rfl := eq_neighOf c i y d t
    exact exec_lldpReceive h w
  case lldpExpiry => exact fun s p c i n => exec_lldpNeighbourExpiry
  case lldpUnknown => exact fun s p c i => exec_lldpNeighbourExpiry_unknown

end Sys2Proof.Proofs
end

section
/-!
From the masks of `Changes` to the frames of the commands of the service bay, power, temperature and the islands.
-/

namespace Sys2Proof.Proofs

open Sys2Proof Machine Laws

/-- Settles O36: each command's mask (its `_changes` law) is covered by the parts that its clause lists. -/
theorem bayPowerAndIslandCommandsChangeOnlyTheirParts : Obligations.BayPowerAndIslandCommandsChangeOnlyTheirParts := by
  refine ⟨?setLineCoding, ?bayInputs, ?powerInputs, ?islandInputs, ?lldpTransmit, ?bankRecharged, ?locateExpiry, ?usbAttach,
    ?usbDetach, ?holdupPeriodic, ?attention, ?bayEvents, ?holdupEvents, ?shows, ?presenceExpiry, ?gatehouseReset, ?feedLost,
    ?bayCommands, ?holdupMeasure, ?levelMoves, ?feedRestored, ?lldpAllocation, ?thermalThrottle, ?starvedTimeout, ?gateFaults,
    ?gatehouseResetTimeout, ?islandFaults⟩
  case setLineCoding => exact fun s t e => only_of_mask e execUsbSetLineCoding_changes (by decide)
  case bayInputs =>
    rintro s t (⟨_, e⟩ | e | e | e | e)
    · exact only_of_mask e execJsvcChange_changes (by decide)
    · exact only_of_mask e execButtonPress_changes (by decide)
    · exact only_of_mask e execButtonLockoutClear_changes (by decide)
    · exact only_of_mask e execJconFramingError_changes (by decide)
    · exact only_of_mask e execJconShortBreak_changes (by decide)
  case powerInputs =>
    rintro s t (⟨_, e⟩ | ⟨_, e⟩ | e)
    · exact only_of_mask e execHeaterSwitch_changes (by decide)
    · exact only_of_mask e execCellReturn_changes (by decide)
    · exact only_of_mask e execHoldupDischargeStart_changes (by decide)
  case islandInputs =>
    rintro s t (⟨_, e⟩ | ⟨_, e⟩ | ⟨_, e⟩ | ⟨_, e⟩ | e)
    · exact only_of_mask e execIslandGate_changes (by decide)
    · exact only_of_mask e execIslandWake_changes (by decide)
    · exact only_of_mask e execDramCorrected_changes (by decide)
    · exact only_of_mask e execDramRebuildDone_changes (by decide)
    · exact only_of_mask e execDramScrub_changes (by decide)
  case lldpTransmit => exact fun s t ⟨_, e⟩ => only_of_mask e execLldpTransmit_changes (by decide)
  case bankRecharged => exact fun s t e => only_of_mask e execBankRecharged_changes (by decide)
  case locateExpiry => exact fun s t e => only_of_mask e execLocateExpiry_changes (by decide)
  case usbAttach => exact fun s t e => only_of_mask e execUsbAttach_changes (by decide)
  case usbDetach => exact fun s t e => only_of_mask e execUsbDetach_changes (by decide)
  case holdupPeriodic => exact fun s t e => only_of_mask e execHoldupPeriodic_changes (by decide)
  case attention =>
    rintro s t (⟨_, e⟩ | ⟨_, e⟩)
    · exact only_of_mask e execUsbSendBreak_changes (by decide)
    · exact only_of_mask e execJconAttention_changes (by decide)
  case bayEvents =>
    rintro s t (⟨_, e⟩ | ⟨_, e⟩ | ⟨_, e⟩ | e | e | e | e | e)
    · exact only_of_mask e execButtonRelease_changes (by decide)
    · exact only_of_mask e execButtonDiscrepancy_changes (by decide)
    · exact only_of_mask e execLidDiscrepancy_changes (by decide)
    · exact only_of_mask e execButtonStuck_changes (by decide)
    · exact only_of_mask e execLidOpen_changes (by decide)
    · exact only_of_mask e execLidClosed_changes (by decide)
    · exact only_of_mask e execLineFault_changes (by decide)
    · exact only_of_mask e execLineRecovered_changes (by decide)
  case holdupEvents =>
    rintro s t (⟨_, _, e⟩ | ⟨_, e⟩ | ⟨_, _, e⟩ | ⟨_, e⟩)
    · exact only_of_mask e execHoldupMeasureDone_changes (by decide)
    · exact only_of_mask e execHoldupChargeTimeout_changes (by decide)
    · exact only_of_mask e execCellFault_changes (by decide)
    · exact only_of_mask e execColdGate_changes (by decide)
  case shows =>
    rintro s t (⟨_, e⟩ | ⟨_, _, e⟩ | ⟨_, e⟩)
    · exact only_of_mask e execPowerShow_changes (by decide)
    · exact only_of_mask e execIslandShow_changes (by decide)
    · exact only_of_mask e execBayShow_changes (by decide)
  case presenceExpiry => exact fun s t e => only_of_mask e execPresenceExpiry_changes (by decide)
  case gatehouseReset => exact fun s t e => only_of_mask e execGatehouseReset_changes (by decide)
  case feedLost => exact fun s t ⟨_, _, _, e⟩ => only_of_mask e execFeedLost_changes (by decide)
  case bayCommands =>
    rintro s t (⟨_, e⟩ | ⟨_, _, e⟩)
    · exact only_of_mask e execPresenceClose_changes (by decide)
    · exact only_of_mask e execLedLocate_changes (by decide)
  case holdupMeasure => exact fun s t ⟨_, e⟩ => only_of_mask e execHoldupMeasure_changes (by decide)
  case levelMoves =>
    rintro s t (⟨_, e⟩ | e)
    · exact only_of_mask e execPlannedChangeover_changes (by decide)
    · exact only_of_mask e execLevelUp_changes (by decide)
  case feedRestored => exact fun s t ⟨_, _, e⟩ => only_of_mask e execFeedRestored_changes (by decide)
  case lldpAllocation => exact fun s t ⟨_, _, e⟩ => only_of_mask e execLldpAllocation_changes (by decide)
  case thermalThrottle => exact fun s t ⟨_, e⟩ => only_of_mask e execThermalThrottle_changes (by decide)
  case starvedTimeout => exact fun s t e => only_of_mask e execStarvedTimeout_changes (by decide)
  case gateFaults =>
    rintro s t (⟨_, _, e⟩ | e | e)
    · exact only_of_mask e execDramUncorrectable_changes (by decide)
    · exact only_of_mask e execReferenceClockLoss_changes (by decide)
    · exact only_of_mask e execGatehouseWatchdog_changes (by decide)
  case gatehouseResetTimeout => exact fun s t e => only_of_mask e execGatehouseResetTimeout_changes (by decide)
  case islandFaults =>
    rintro s t (⟨_, _, _, _, e⟩ | ⟨_, e⟩ | ⟨_, _, e⟩)
    · exact only_of_mask e execIslandFault_changes (by decide)
    · exact only_of_mask e execWatchdogExpiry_changes (by decide)
    · exact only_of_mask e execHandshakeTimeout_changes (by decide)

end Sys2Proof.Proofs
end

section
/-!
What the checks of console lines (R242, R247, R249) give for the statements about sessions and privileged commands, and the
console reads of the machine parts.
-/

namespace Sys2Proof.Proofs

open Sys2Proof Machine Laws

/-! ### Deaf and full sessions (R80, R242, R797) -/

/-- Hearing a line looks at its session only. -/
theorem heard_congr {k l : Line} (s : State) (h : k.sess = l.sess) : heard s k = heard s l := by
  unfold heard
  rw [h]

/-- Settles O57: every command of a session is a run of the console's checks (`exec_line`), and these end before the body. -/
theorem aFifthWaitingCommandIsBusyAndADeafSessionExecutesNothing :
    Obligations.AFifthWaitingCommandIsBusyAndADeafSessionExecutesNothing := by
  refine ⟨?full, ?deaf⟩
  case full =>
    intro s c l d hc hd ho hline hpaused
    obtain ⟨k, hs, ht, i, bad, body, e⟩ := exec_line hc s
    rw [e, ← heard_congr s hs, ← hs, ← ht]
    rw [← hs] at hd hline hpaused
    exact ⟨fun m tg => congrArg _ (runCmd_noTag hd ho hline hpaused m tg),
      fun tg full => congrArg _ (runCmd_fifth hd ho hline hpaused tg full)⟩
  case deaf =>
    intro s c l hc hdeaf
    obtain ⟨k, hs, -, i, bad, body, e⟩ := exec_line hc s
    rw [← hs] at hdeaf
    rw [e, runCmd_deaf hdeaf]

/-! ### Privileged commands (R79, R249, R250) -/

/-- A privileged run on a session that hears it is refused while the window is closed. -/
theorem runCmd_privileged {s : State} {l : Line} {i : CmdInfo} {bad : Option ErrName} {d : Session}
    {body : State → Nat → Run} (priv : i.priv = true) (w : windowOpen s = false) (hd : getSess s l.sess = some d)
    (ho : d.closing = false) (hline : l.sess = .jcon → s.bay.lineFault = false)
    (hpaused : isMgmt l.sess = true ∨ consolesPaused s = false) (tg : d.machine = true → l.tag ≠ none)
    (place : d.slots.length < 4) :
    ∃ r, ((∃ e, r = .err e) ∨ ∃ x, r = .denied x) ∧ runCmd s l i bad body = answer (heard s l) l.sess l.tag r none := by
  have w' : windowOpen (heard s l) = false := w
  obtain ⟨r, hr, kind⟩ := refusal_privileged (d := d) (l := l) (bad := bad) priv w'
  exact ⟨r, kind, runCmd_refused hd ho hline hpaused tg place hr⟩

/-- A discard of a privileged group is a privileged run (R170). -/
theorem exec_discardGroup_privileged {g : Group} (h : groupPrivileged g = true) (s : State) (l : Line) :
    ∃ i bad body, i.priv = true ∧ exec (.discardGroup l (some g)) s = .next (runCmd s l i bad body) :=
  ⟨_, _, _, h, rfl⟩

/-- Settles O56: such a command is a privileged run (`exec_privileged`), which the checks refuse. -/
theorem noPrivilegedCommandActsWhileTheWindowIsClosed : Obligations.NoPrivilegedCommandActsWhileTheWindowIsClosed := by
  intro s c l d hc w hd ho hline hpaused tg place
  have run : ∃ i bad body, i.priv = true ∧ exec c s = .next (runCmd s l i bad body) := by
    rcases hc with hc | ⟨g, hg, rfl⟩
    · exact exec_privileged hc s
    · exact exec_discardGroup_privileged hg s l
  obtain ⟨i, bad, body, priv, e⟩ := run
  obtain ⟨r, kind, hr⟩ := runCmd_privileged (bad := bad) (body := body) priv w hd ho hline hpaused tg place
  exact ⟨r, kind, by rw [e, hr]⟩

/-! ### Reads -/

/-- A command that is a read of the console answers what it reads, once its line is accepted. -/
theorem exec_read {c : Instr} {s : State} {l : Line} {i : CmdInfo} {bad : Option ErrName} {d : Session} {r : State → Reply}
    (h : Accepts s l i bad d) (e : exec c s = .next (showCmd s l i bad r)) :
    exec c s = .next (answer (heard s l) l.sess l.tag (r (heard s l)) none) := by
  rw [e, showCmd_accepts h]

/-- Settles O58: each command is a read (`showCmd`) with the checks that its clause names. -/
theorem consoleReadsOfTheMachineAnswerAndChangeNothingElse :
    Obligations.ConsoleReadsOfTheMachineAnswerAndChangeNothingElse := by
  refine ⟨?bayShow, ?help, ?who, ?log, ?wardenShow, ?parcelShow, ?fwShow, ?islandShow, ?lifecycleShow, ?testShow,
    ?testResults, ?netShow, ?netStats, ?netLldp, ?portShow, ?portStats, ?portCaptureRead, ?powerShow, ?mirrorShow, ?rowShow,
    ?rowMembers, ?startShow, ?ledgerShow, ?timeShow⟩
  case bayShow => exact fun s l d h => exec_read h rfl
  case help => exact fun s l d word h => exec_read h rfl
  case who => exact fun s l d h => exec_read h rfl
  case log => exact fun s l d count since name h => exec_read h rfl
  case wardenShow => exact fun s l d h => exec_read h rfl
  case parcelShow => exact fun s l d h => exec_read h rfl
  case fwShow => exact fun s l d h => exec_read h rfl
  case islandShow => exact fun s l d id h => exec_read h rfl
  case lifecycleShow => exact fun s l d h => exec_read h rfl
  case testShow => exact fun s l d h => exec_read h rfl
  case testResults => exact fun s l d run island raw h => exec_read h rfl
  case netShow => exact fun s l d ifc h => exec_read h rfl
  case netStats => exact fun s l d h => exec_read h rfl
  case netLldp => exact fun s l d port h => exec_read h rfl
  case portShow => exact fun s l d port h => exec_read h rfl
  case portStats => exact fun s l d port raw h => exec_read h rfl
  case portCaptureRead => exact fun s l d port count h => exec_read h rfl
  case powerShow => exact fun s l d h => exec_read h rfl
  case mirrorShow => exact fun s l d h => exec_read h rfl
  case rowShow => exact fun s l d h => exec_read h rfl
  case rowMembers => exact fun s l d h => exec_read h rfl
  case startShow => exact fun s l d h => exec_read h rfl
  case ledgerShow => exact fun s l d start h => exec_read h rfl
  case timeShow => exact fun s l d h => exec_read h rfl

end Sys2Proof.Proofs
end

section
/-!
What the commands of the service bay do, command by command, branch by branch (ch. 02).
-/

namespace Sys2Proof.Proofs

open Sys2Proof Machine Laws

section
variable {s : State}

/-! ### The steward button (R66 to R68) -/

section
variable (h : svcRuns s = true)
include h

theorem exec_buttonPress : exec .buttonPress s = .next { s with bay := { s.bay with
    btn := true, btnA := true, btnB := true, button := if s.bay.button = .released then .pressed else s.bay.button } } := by
  show execButtonPress s = _
  rw [execButtonPress, sampling, if_pos h]
  rfl

/-- A release ends WAIT_RELEASE whatever was held. -/
theorem exec_buttonRelease_waiting (hold : Nat) (b : s.bay.button = .waitRelease) :
    exec (.buttonRelease hold) s = .next { s with bay := { s.bay with
      btn := false, btnA := false, btnB := false, button := .released } } := by
  show execButtonRelease hold s = _
  rw [execButtonRelease, sampling, if_pos h, b]
  rfl

/-- A release after less than 60,000 ms: the window opens after 3,000 ms outside a halt. -/
theorem exec_buttonRelease_pressed {hold : Nat} (b : s.bay.button = .pressed) (k : hold < 60000) :
    exec (.buttonRelease hold) s = .next (
      let t := { s with bay := { s.bay with btn := false, btnA := false, btnB := false, button := .released } }
      if 3000 ≤ hold ∧ halting s = false then openWindow t else t) := by
  show execButtonRelease hold s = _
  rw [execButtonRelease, sampling, if_pos h, b]
  simp only [Nat.not_le.mpr k, if_false, Bool.not_eq_true]
  rfl

theorem exec_buttonRelease_stuck {hold : Nat} (b : s.bay.button = .pressed) (k : 60000 ≤ hold) :
    exec (.buttonRelease hold) s = .next (presenceFault { s with bay := { s.bay with
      btn := false, btnA := false, btnB := false, button := .lockout } } .stuck false) := by
  show execButtonRelease hold s = _
  rw [execButtonRelease, sampling, if_pos h, b]
  simp only [k, if_true]
  rfl

theorem exec_buttonStuck (b : s.bay.button = .waitRelease ∨ s.bay.button = .pressed) :
    exec .buttonStuck s = .next (presenceFault { s with bay := { s.bay with button := .lockout } } .stuck false) := by
  show execButtonStuck s = _
  rw [execButtonStuck, sampling, if_pos h]
  rcases b with b | b <;> rw [b] <;> rfl

theorem exec_buttonDiscrepancy (c : Bool) : exec (.buttonDiscrepancy c) s = .next (
    let t := { s with bay := { s.bay with btnA := c, btnB := !c, button := .lockout } }
    if s.bay.button = .lockout then t else presenceFault t .buttonDiscrepancy false) := by
  show execButtonDiscrepancy c s = _
  rw [execButtonDiscrepancy, sampling, if_pos h]
  rfl

theorem exec_buttonLockoutClear (b : s.bay.button = .lockout) : exec .buttonLockoutClear s = .next { s with bay := { s.bay with
    button := .released, btn := false, btnA := false, btnB := false } } := by
  show execButtonLockoutClear s = _
  rw [execButtonLockoutClear, sampling, if_pos ⟨h, b⟩]
  rfl

/-! ### The lid seal (R70 to R74) -/

theorem exec_lidOpen (k : s.bay.lid ≠ .open_) : exec .lidOpen s = .next (logEv { s with bay := { s.bay with
    lid := .open_, lidDecided := true, lidA := true, lidB := true, tamper := true } }
    .lidOpen { atStart := !s.bay.lidDecided }) := by
  show execLidOpen s = _
  rw [execLidOpen, sampling, if_pos h]
  simp only [k, if_false]
  rfl

theorem exec_lidOpen_again (k : s.bay.lid = .open_) :
    exec .lidOpen s = .next { s with bay := { s.bay with lidDecided := true, lidA := true, lidB := true } } := by
  show execLidOpen s = _
  rw [execLidOpen, sampling, if_pos h]
  simp only [updBay, k, if_true]

theorem exec_lidClosed (k : s.bay.lid ≠ .closed) : exec .lidClosed s = .next (logEv { s with bay := { s.bay with
    lid := .closed, lidDecided := true, lidA := false, lidB := false } } .lidClosed {}) := by
  show execLidClosed s = _
  rw [execLidClosed, sampling, if_pos h]
  simp only [k, if_false]
  rfl

theorem exec_lidClosed_again (k : s.bay.lid = .closed) :
    exec .lidClosed s = .next { s with bay := { s.bay with lidDecided := true, lidA := false, lidB := false } } := by
  show execLidClosed s = _
  rw [execLidClosed, sampling, if_pos h]
  simp only [updBay, k, if_true]

theorem exec_lidDiscrepancy (c : Bool) (f : s.bay.lid ≠ .fault) : exec (.lidDiscrepancy c) s = .next
    (presenceFault { s with bay := { s.bay with
      lidA := !c, lidB := c, lid := .fault, lidDecided := true, tamper := true } } .lidDiscrepancy !s.bay.lidDecided) := by
  show execLidDiscrepancy c s = _
  rw [execLidDiscrepancy, sampling, if_pos h]
  simp only [f, if_false]
  rfl

/-! ### J-SVC (R60) -/

theorem exec_jsvcChange (b : Bool) : exec (.jsvcChange b) s = .next { s with bay := { s.bay with jsvc := b } } := by
  show execJsvcChange b s = _
  rw [execJsvcChange, sampling, if_pos h]
  rfl

end

/-! ### The presence window (R77, R78, R90) -/

/-- Closing an open window is logged with its reason; a closed one stays as it is. -/
theorem closeWindow_eq (s : State) (w : CloseWhy) : closeWindow s w = if s.bay.window = none then s
    else logEv { s with bay := { s.bay with window := none, windowMark := false } } .presenceClosed
      { reason := closeCode w } := by
  unfold closeWindow
  cases h : s.bay.window <;> rfl

theorem exec_presenceExpiry {w : Nat} (h : s.bay.window = some w) : exec .presenceExpiry s =
    .next (logEv { advanceTo s w with bay := { s.bay with window := none, windowMark := false } }
      .presenceClosed { reason := 1 }) := by
  have bay : (advanceTo s w).bay = s.bay := advanceTo_bay
  show execPresenceExpiry s = _
  rw [execPresenceExpiry, h]
  simp only [closeWindow_eq, bay, h, reduceCtorEq, if_false]
  rfl

theorem exec_presenceClose {l : Line} {d : Session} (h : Accepts s l { safe := true, hold := true } none d) :
    exec (.presenceClose l) s = .next (answer (closeWindow (heard s l) .command) l.sess l.tag (.ok []) none) := by
  show execPresenceClose l s = _
  rw [execPresenceClose, runCmd_accepts h]
  rfl

/-! ### USB (R59, R84, R222) -/

theorem exec_usbAttach_new (h : s.bay.usb = false) (k : svcUp s = true) : exec .usbAttach s = .next { s with
    bay := { s.bay with usb := true }
    con := { s.con with
      sessions := AMap.set s.con.sessions .usb { lastRx := s.clock.ledger, startWall := wallNow s, serial := s.con.nextSerial }
      nextSerial := s.con.nextSerial + 1 } } := by
  show execUsbAttach s = _
  rw [execUsbAttach, if_neg (by simp [h]), if_pos k]
  rfl

theorem exec_usbAttach_idle (h : s.bay.usb = true ∨ svcUp s = false) :
    exec .usbAttach s = .next { s with bay := { s.bay with usb := true } } := by
  show execUsbAttach s = _
  rw [execUsbAttach]
  rcases h with h | h <;> simp only [h, if_true, Bool.false_eq_true, if_false, ite_self] <;> rfl

theorem attentionLength_iff {ms : Nat} : attentionLength ms = true ↔ 250 ≤ ms ∧ ms ≤ 2000 := by
  simp only [attentionLength, Bool.and_eq_true, decide_eq_true_eq]

/-- The attention signal on an open session (R80, R81). -/
theorem attention_open {x : SessId} {d : Session} (h : getSess s x = some d) : attention s x =
    putText (emit (updSess s x (fun d => { d with
      partialLine := [], overlong := false, lineReady := none, machine := false, crc := false })) (.notice x .attention))
      x 5 "w128> " := by
  rw [attention, h]
  rfl

theorem exec_usbSendBreak {ms : Nat} (lo : 250 ≤ ms) (hi : ms ≤ 2000) :
    exec (.usbSendBreak ms) s = .next (attention s .usb) := by
  show execUsbSendBreak ms s = _
  rw [execUsbSendBreak, if_pos (attentionLength_iff.mpr ⟨lo, hi⟩)]

/-- A low or a break of another length is no attention signal on either console. -/
theorem exec_attention_other {ms : Nat} (h : ms < 250 ∨ 2000 < ms) :
    exec (.usbSendBreak ms) s = .next s ∧ exec (.jconAttention ms) s = .next s := by
  have no : attentionLength ms = false := Bool.eq_false_iff.mpr fun c => by
    have := attentionLength_iff.mp c
    omega
  refine ⟨?_, ?_⟩
  · show execUsbSendBreak ms s = _
    rw [execUsbSendBreak, if_neg (by simp [no])]
  · show execJconAttention ms s = _
    rw [execJconAttention, if_neg (by simp [no])]

/-! ### The lines of J-CON (R80 to R83) -/

theorem jconLive_of {d : Session} (h : getSess s .jcon = some d) (f : s.bay.lineFault = false) : jconLive s = true := by
  simp only [jconLive, h, f, Option.isSome_some, Bool.not_false, Bool.and_self]

theorem not_jconLive_of (f : s.bay.lineFault = true) : ¬ jconLive s = true := by
  simp only [jconLive, f, Bool.not_true, Bool.and_false, Bool.false_eq_true, not_false_eq_true]

section
variable (h : jconLive s = true)
include h

theorem exec_jconFramingError :
    exec .jconFramingError s = .next { s with bay := { s.bay with framingErrors := s.bay.framingErrors + 1 } } := by
  show execJconFramingError s = _
  rw [execJconFramingError, if_pos h]
  rfl

theorem exec_jconShortBreak :
    exec .jconShortBreak s = .next { s with bay := { s.bay with shortBreaks := s.bay.shortBreaks + 1 } } := by
  show execJconShortBreak s = _
  rw [execJconShortBreak, if_pos h]
  rfl

theorem exec_jconAttention {ms : Nat} (lo : 250 ≤ ms) (hi : ms ≤ 2000) :
    exec (.jconAttention ms) s = .next (attention s .jcon) := by
  show execJconAttention ms s = _
  rw [execJconAttention, if_pos (by rw [h, attentionLength_iff.mpr ⟨lo, hi⟩]; rfl)]

end

/-- The line of J-CON enters LINE_FAULT: the session forgets its partial line. -/
theorem exec_lineFault {d : Session} (h : getSess s .jcon = some d) (f : s.bay.lineFault = false) :
    exec .lineFault s = .next (logEv (updSess { s with bay := { s.bay with lineFault := true } } .jcon
      (fun d => { d with partialLine := [], overlong := false, lineReady := none })) .lineFault {}) := by
  show execLineFault s = _
  rw [execLineFault, if_pos (by rw [h]; rfl), lineFaultNow, if_neg (by simp [f])]
  rfl

section
variable (f : s.bay.lineFault = true)
include f

/-- In LINE_FAULT nothing on the line counts, and the fault is not entered again. -/
theorem exec_jcon_faulted : exec .lineFault s = .next s ∧ exec .jconFramingError s = .next s ∧
    exec .jconShortBreak s = .next s ∧ ∀ ms, exec (.jconAttention ms) s = .next s := by
  have dead : ¬ jconLive s = true := not_jconLive_of f
  refine ⟨?_, ?_, ?_, fun ms => ?_⟩
  · show execLineFault s = _
    rw [execLineFault, lineFaultNow, if_pos f, ite_self]
  · show execJconFramingError s = _
    rw [execJconFramingError, if_neg dead]
  · show execJconShortBreak s = _
    rw [execJconShortBreak, if_neg dead]
  · show execJconAttention ms s = _
    rw [execJconAttention, if_neg fun c => dead (Bool.and_eq_true_iff.mp c).1]

theorem exec_lineRecovered :
    exec .lineRecovered s = .next (logEv { s with bay := { s.bay with lineFault := false } } .lineRecovered {}) := by
  show execLineRecovered s = _
  rw [execLineRecovered, if_pos f]
  rfl

end

/-! ### Locate (R65) -/

theorem exec_ledLocate {l : Line} {d : Session} {t : Option Int} (lo : 0 ≤ t.getD 600) (hi : t.getD 600 ≤ 3600)
    (h : Accepts s l { safe := true, hold := true } none d) :
    exec (.ledLocate l t) s = .next (answer { heard s l with bay := { s.bay with
      locate := if t.getD 600 = 0 then none else some (s.clock.ledger + (t.getD 600).toNat * 1000000) } }
      l.sess l.tag (.ok []) none) := by
  have inRange : rangeErr (t.getD 600) 0 3600 = none := if_pos ⟨lo, hi⟩
  have stops : (t.getD 600 ≤ 0) = (t.getD 600 = 0) := propext ⟨fun c => by omega, fun c => by omega⟩
  show execLedLocate l t s = _
  simp only [execLedLocate, inRange, stops]
  rw [runCmd_accepts h]
  rfl

theorem exec_locateExpiry {t : Nat} (h : s.bay.locate = some t) : exec .locateExpiry s =
    .next { advanceTo s t with bay := { s.bay with locate := none } } := by
  have bay : (advanceTo s t).bay = s.bay := advanceTo_bay
  show execLocateExpiry s = _
  rw [execLocateExpiry, h]
  simp only [updBay, bay]

end

/-! ### The statements -/

/-- Settles O1, clause by clause, from what each command does. -/
theorem stewardButtonFollowsItsStateTable : Obligations.StewardButtonFollowsItsStateTable := by
  intro s h
  refine ⟨?press, ?waiting, ?short, ?long, ?held, ?stuck, ?discrepancy, ?clear⟩
  case press => exact exec_buttonPress h
  case waiting => exact fun hold b => exec_buttonRelease_waiting h hold b
  case short =>
    intro hold b k
    rw [exec_buttonRelease_pressed h b (by omega)]
    exact congrArg _ (if_neg fun c => by omega)
  case long =>
    intro hold b lo hi run
    rw [exec_buttonRelease_pressed h b hi]
    exact congrArg _ (if_pos ⟨lo, run⟩)
  case held => exact fun hold b k => ⟨_, exec_buttonRelease_stuck h b k, presenceFault_bay⟩
  case stuck => exact fun b => ⟨_, exec_buttonStuck h b, presenceFault_bay⟩
  case discrepancy =>
    intro c
    refine ⟨_, exec_buttonDiscrepancy h c, ?_⟩
    by_cases b : s.bay.button = .lockout
    · simp only [b, if_true, ne_eq, not_true_eq_false, false_implies, and_self]
    · simp only [b, if_false]
      obtain ⟨button, fault, window⟩ := presenceFault_bay (s := { s with bay := { s.bay with
        btnA := c, btnB := !c, button := .lockout } }) (w := .buttonDiscrepancy) (b := false)
      exact ⟨button, fun _ => ⟨fault, window⟩⟩
  case clear => exact exec_buttonLockoutClear h

/-- Settles O2, clause by clause, from what each command does. -/
theorem lidSealAndPresenceWindowFollowTheirTables : Obligations.LidSealAndPresenceWindowFollowTheirTables := by
  refine ⟨?opens, ?staysOpen, ?closes, ?staysClosed, ?discrepancy, ?expiry, ?command⟩
  case opens => exact fun s => exec_lidOpen
  case staysOpen => exact fun s => exec_lidOpen_again
  case closes => exact fun s => exec_lidClosed
  case staysClosed => exact fun s => exec_lidClosed_again
  case discrepancy =>
    intro s c h k
    refine ⟨_, exec_lidDiscrepancy h c k, ?_⟩
    obtain ⟨lid, a, b, tamper⟩ := presenceFault_bay2 (s := { s with bay := { s.bay with
      lidA := !c, lidB := c, lid := .fault, lidDecided := true, tamper := true } }) (w := .lidDiscrepancy)
      (b := !s.bay.lidDecided)
    exact ⟨lid, a, b, tamper, presenceFault_bay.2⟩
  case expiry => exact fun s w h => exec_presenceExpiry h
  case command =>
    intro s l d h
    rw [exec_presenceClose h, closeWindow_eq]
    rfl

/-- Settles O3, clause by clause, from what each command does. -/
theorem consoleLinesJumperAndLocateActAsTheBayChapterSays :
    Obligations.ConsoleLinesJumperAndLocateActAsTheBayChapterSays := by
  refine ⟨?attach, ?attachIdle, ?detach, ?usbBreak, ?otherLength, ?lineCoding, ?jsvc, ?jcon, ?faulted, ?locate, ?expiry⟩
  case attach => exact fun s => exec_usbAttach_new
  case attachIdle => exact fun s => exec_usbAttach_idle
  case detach => exact fun s => rfl
  case usbBreak =>
    intro s ms d lo hi h
    rw [exec_usbSendBreak lo hi, attention_open h]
  case otherLength => exact fun s ms => exec_attention_other
  case lineCoding => exact fun s => rfl
  case jsvc => exact fun s b h => exec_jsvcChange h b
  case jcon =>
    intro s d h f
    have live : jconLive s = true := jconLive_of h f
    refine ⟨exec_jconFramingError live, exec_jconShortBreak live, exec_lineFault h f, fun ms lo hi => ?_⟩
    rw [exec_jconAttention live lo hi, attention_open h]
  case faulted =>
    intro s f
    obtain ⟨fault, framing, short, attention⟩ := exec_jcon_faulted f
    exact ⟨fault, framing, short, attention, exec_lineRecovered f⟩
  case locate => exact fun s l d t lo hi => exec_ledLocate lo hi
  case expiry => exact fun s t => exec_locateExpiry

end Sys2Proof.Proofs
end

section
/-!
What `get`, `set`, `commit`, `discard`, `kv1` and `arcade grant` do once their line is accepted (ch. 04, 06, 09, 15).
-/

namespace Sys2Proof.Proofs

open Sys2Proof Machine Laws

section
variable {s : State} {l : Line} {d : Session}

/-! ### get (R167, R253) -/

theorem targetErr_none {n : Nat} {a : Attr} {f : Option String} (h : attrOfNum n = some a) (k : fieldsOf a f ≠ []) :
    targetErr? n f = none := by
  rw [targetErr?, h]
  exact if_neg fun c => k (List.isEmpty_iff.mp c)

theorem exec_attrGet {n : Nat} {a : Attr} {f : Option String} {g : GetForm} (h : attrOfNum n = some a)
    (k : fieldsOf a f ≠ []) (ok : Accepts s l {} none d) : exec (.attrGet l n f g) s = .next
    (match reach (heard s l) a with
      | none => answer (heard s l) l.sess l.tag (.err .islandAbsent) none
      | some u => answer u l.sess l.tag (getReply u a f g) none) := by
  show execAttrGet l n f g s = _
  rw [execAttrGet, targetErr_none h k, runCmd_accepts ok]
  simp only [h]
  cases reach (heard s l) a <;> rfl

/-! ### set (R168, R170, R254) -/

/-- A `set` and each set with a row of its own are one run on the word they name. -/
theorem exec_sets {t : State} {a : Attr} {asg : Assign} (h : setAttr s l a asg = t) :
    (∀ n, attrOfNum n = some a → exec (.attrSet l n asg) s = .next t) ∧
    (a = .bayCfg → exec (.bayCfgWrite l asg) s = .next t) ∧ (a = .bayStatus → exec (.tamperClear l asg) s = .next t) ∧
    (∀ p, a = .phyCfg p → exec (.netPhyCfgWrite l p asg) s = .next t) ∧
    (a = .kvCfg → exec (.kvCfgWrite l asg) s = .next t) ∧ (a = .routeCfg → exec (.routeCfgWrite l asg) s = .next t) ∧
    (∀ v, a = .policy → asg = oneField "PREFER" v → exec (.policyPreferWrite l v) s = .next t) ∧
    (∀ p v, a = .macCfg p → asg = oneField "MAX_FRAME" v → exec (.maxFrameWrite l p v) s = .next t) ∧
    (∀ x v, a = .meterCfg x → asg = oneField "KIND" v → exec (.meterKindWrite l x v) s = .next t) := by
  subst h
  refine ⟨fun n hn => ?_, ?_, ?_, ?_, ?_, ?_, ?_, ?_, ?_⟩
  · show execAttrSet l n asg s = _
    rw [execAttrSet, hn]
  all_goals
    intros
    subst_vars
    rfl

section
variable {u : State} {x : SessId} {a : Attr} {ws : List (FieldDesc × Int)}

theorem setBody_rwc {g : Group} (h : reach s a = some u) (hg : attrGroup a = some g)
    (rwc : ws.any (fun w => isRwc w.1) = true) : setBody s x a ws = if groupBusy u g x then .say u .busy none
      else .say (writeShadow u g x (ws.map (fun w => (a, w.1.name, fieldBits w.1 w.2))))
        (okLine [("", .name "shadow"), ("", .name (groupName g))]) none := by
  rw [setBody, h]
  simp only [hg, rwc]

theorem setBody_now (h : reach s a = some u) (rwc : ws.any (fun w => isRwc w.1) = false) (k : attrDrains u a = false) :
    setBody s x a ws = .say (applyWrite u a ws).1 (.ok []) (applyWrite u a ws).2 := by
  rw [setBody, h]
  simp only [rwc, k, Bool.false_eq_true, if_false]
  cases attrGroup a <;> rfl

end

theorem shadowOf_writeShadow_same (s : State) (g : Group) (x : SessId) (more : List (Attr × String × Nat)) :
    ∃ h, shadowOf (writeShadow s g x more) g = some h ∧ h.holder = x :=
  ⟨_, AMap.find_set_same _ _ _, rfl⟩

theorem shadowOf_writeShadow_other {g g' : Group} (s : State) (x : SessId) (more : List (Attr × String × Nat)) (h : g' ≠ g) :
    shadowOf (writeShadow s g x more) g' = shadowOf s g' :=
  AMap.find_set_other _ _ h

/-! ### commit and discard (R172, R173, R847) -/

section
variable {g : Group}

/-- Before the step that restores the group a commit is busy, with or without a shadow (R178). -/
theorem exec_commitGroup_early (ok : Accepts s l { role := commitRole s l.sess (some g) } none d)
    (early : stepDone s (groupStep g) = false) :
    exec (.commitGroup l (some g)) s = .next (answer (heard s l) l.sess l.tag .busy none) := by
  have st : stepDone (heard s l) (groupStep g) = false := early
  show execCommitGroup l (some g) s = _
  rw [execCommitGroup, groupErr, if_neg (by simp), runCmd_accepts ok]
  simp only [st, Bool.not_false, if_true]

/-- What a commit of a group without a shadow is answered: banks 0 to 3 are fixed whether or not a shadow could exist (R682). -/
def unshadowedErr : Group → ErrName
  | .arcBank b => if b.val < 4 then .fixedBank else .noShadow
  | _ => .noShadow

theorem exec_commitGroup_unshadowed (ok : Accepts s l { role := commitRole s l.sess (some g) } none d)
    (done : stepDone s (groupStep g) = true) (sh : shadowOf s g = none) :
    exec (.commitGroup l (some g)) s = .next (answer (heard s l) l.sess l.tag (.err (unshadowedErr g)) none) := by
  have st : stepDone (heard s l) (groupStep g) = true := done
  have sh' : shadowOf (heard s l) g = none := sh
  show execCommitGroup l (some g) s = _
  rw [execCommitGroup, groupErr, if_neg (by simp), runCmd_accepts ok]
  simp only [st, sh', Bool.not_true, Bool.false_eq_true, if_false]
  rfl

theorem exec_discardGroup (ok : Accepts s l { priv := groupPrivileged g } none d) :
    exec (.discardGroup l (some g)) s = .next (if (shadowOf s g).isNone
      then answer (heard s l) l.sess l.tag (.err .noShadow) none
      else answer (dropShadow (heard s l) g) l.sess l.tag (.ok []) none) := by
  have sh : shadowOf (heard s l) g = shadowOf s g := rfl
  show execDiscardGroup l (some g) s = _
  rw [execDiscardGroup, groupErr, if_neg (by simp), runCmd_accepts ok]
  simp only [sh]
  cases shadowOf s g <;> rfl

theorem shadowOf_dropShadow_same (s : State) (g : Group) : shadowOf (dropShadow s g) g = none := AMap.find_del_same _ _

end

/-! ### kv1 and arcade grant (R372, R373, R419, R423, R682, R683) -/

theorem exec_kv1Allow {a : IpAddr} {n : Int} (ok : Accepts s l { priv := true } (stallErr n) d) :
    exec (.kv1Allow l a n) s = .next
    (match (List.finRange 64).find? (fun k => decide (cfgField s (.kv1SrcCtrl k) "ENABLE" = 0)) with
      | none => answer (heard s l) l.sess l.tag (.err .listFull) none
      | some k => ran l (writeAndCommit (heard s l) l.sess (.kv1Src k) (srcFields k a.toNat 1 (stallArg n).val)
          [("entry", vn k.val)])) := by
  have free : ∀ k, cfgField (heard s l) (.kv1SrcCtrl k) "ENABLE" = cfgField s (.kv1SrcCtrl k) "ENABLE" := fun _ => rfl
  show execKv1Allow l a n s = _
  rw [execKv1Allow, runCmd_ran ok]
  simp only [free]
  cases (List.finRange 64).find? (fun k => decide (cfgField s (.kv1SrcCtrl k) "ENABLE" = 0)) <;> rfl

/-- An address that no entry holds fails the check of the operands. -/
theorem exec_kv1Deny {a : IpAddr} (ok : Accepts s l { priv := true } none d) : exec (.kv1Deny l a) s = .next
    (match kv1Entry s a with
      | none => answer (heard s l) l.sess l.tag (.err .badValue) none
      | some k => ran l (writeAndCommit (heard s l) l.sess (.kv1Src k) (srcFields k 0 0 0) [("entry", vn k.val)])) := by
  have entry : kv1Entry (heard s l) a = kv1Entry s a := rfl
  show execKv1Deny l a s = _
  rw [execKv1Deny]
  cases h : kv1Entry s a with
  | none =>
    rw [Option.isNone_none, if_pos rfl, runCmd_bad ok]
  | some k =>
    rw [if_neg (by simp), runCmd_ran ok]
    simp only [entry, h]

theorem exec_arcadeGrant {b q : Int} {x : Option Int}
    (ok : Accepts s l { role := arcRole s l.sess (grantFields b q x).1 (grantFields b q x).2 }
      (firstErr [rangeErr b 4 15, rangeErr q 0 3, x.bind stallErr]) d) :
    exec (.arcadeGrant l b q x) s = .next (ran l (writeAndCommit (heard s l) l.sess (.arcBank (grantFields b q x).1)
      (grantFields b q x).2 [])) :=
  congrArg Host.Outcome.next (runCmd_ran ok)

end

/-! ### The statement -/

/-- Settles O13, clause by clause, from what each command does. -/
theorem attributeCommandsReadWriteCommitAndDiscard : Obligations.AttributeCommandsReadWriteCommitAndDiscard := by
  refine ⟨?get, ?set, ?shadow, ?now, ?shadowBusy, ?commitEarly, ?commitNoShadow, ?commitOk, ?commitRefused, ?discard,
    ?kv1Enable, ?kv1Disable, ?kv1Allow, ?kv1Deny, ?arcadeGrant⟩
  case get => exact fun s l d n a f g => exec_attrGet
  case set =>
    intro s l d a asg ws h bad ok
    exact ⟨_, rfl, exec_sets (setAttr_ran h (bad ▸ ok))⟩
  case shadow =>
    intro s x a ws u g hr hg rwc free
    obtain ⟨h, sh, holder⟩ := shadowOf_writeShadow_same u g x (ws.map (fun w => (a, w.1.name, fieldBits w.1 w.2)))
    refine ⟨_, ?_, h, sh, holder, fun g' => shadowOf_writeShadow_other u x _⟩
    rw [setBody_rwc hr hg rwc, free, if_neg Bool.false_ne_true]
  case now => exact fun s x a ws u => setBody_now
  case shadowBusy =>
    intro s x a ws u g hr hg rwc busy
    rw [setBody_rwc hr hg rwc, if_pos busy]
  case commitEarly => exact fun s l d g => exec_commitGroup_early
  case commitNoShadow => exact fun s l d g => exec_commitGroup_unshadowed
  case commitOk =>
    intro s l d g h t ok done sh committed
    rw [commitGroup_some ok sh, if_neg (by simp [done]), committed]
  case commitRefused =>
    intro s l d g h r ok done sh refused
    rw [commitGroup_some ok sh, if_neg (by simp [done]), refused]
  case discard =>
    intro s l d g ok
    rw [exec_discardGroup ok]
    refine ⟨fun absent => by rw [absent]; rfl, fun present => ⟨?_, shadowOf_dropShadow_same _ g⟩⟩
    rw [if_neg (by simp [Option.isSome_iff_ne_none.mp present])]
  case kv1Enable => exact fun s l d ok => congrArg Host.Outcome.next (runCmd_ran ok)
  case kv1Disable => exact fun s l d ok => congrArg Host.Outcome.next (runCmd_ran ok)
  case kv1Allow => exact fun s l d a n => exec_kv1Allow
  case kv1Deny => exact fun s l d a => exec_kv1Deny
  case arcadeGrant => exact fun s l d b q x => exec_arcadeGrant

end Sys2Proof.Proofs
end

section
/-!
The state at reset: a FIELD drive as manufacture leaves it, without power.
-/

namespace Sys2Proof.Proofs

open Sys2Proof Machine Laws

/-- Nothing is stored apart from the factory values. -/
theorem cfgWord_reset (a : Attr) : cfgWord State.reset a = attrFactory a := rfl

/-- The checkpoint ring holds one HALT checkpoint, whose BOUND is 1 ms after its LTIME. -/
theorem ckpts_reset : ∃ c, State.reset.clock.ckpts = [c] ∧ c.kind = .halt ∧ c.bound = c.ltime + 1000 := ⟨_, rfl, rfl, rfl⟩

/-- No session is open. -/
theorem getSess_reset (x : SessId) : getSess State.reset x = none := rfl

/-- Settles O55: the state at reset is a value, whose parts are read off. -/
theorem theDriveLeavesTheFactoryAsManufactureEnds : Obligations.TheDriveLeavesTheFactoryAsManufactureEnds :=
  ⟨rfl, rfl, rfl, ckpts_reset, rfl, rfl, rfl, cfgWord_reset, rfl, rfl, rfl, rfl, rfl, rfl, rfl, getSess_reset, rfl, rfl,
    rfl, rfl, rfl, rfl, rfl⟩

end Sys2Proof.Proofs
end

section
/-!
The cap of dirty data and write-through (R118, R121).
-/

namespace Sys2Proof.Proofs

open Sys2Proof Machine Laws

/-! ### The cap (R118) -/

/-- The bank's energy at a voltage above 10.8 V, in 10 mJ rounded down, is a division of natural numbers. -/
theorem eAvail_of_lt {s : State} (h : 10800 < s.power.vBank) : eAvail s =
    min 0xFFFF (s.power.eMeas * (s.power.vBank * s.power.vBank - 10800 * 10800) / (30000 * 30000 - 10800 * 10800)) := by
  rw [eAvail, if_neg (by omega)]

theorem eAvail_of_le {s : State} (h : s.power.vBank ≤ 10800) : eAvail s = 0 := by
  rw [eAvail, if_pos h]

/-- The pseudocode's energy (R118): E times the bank's share of the energy between 10.8 V and 30.0 V, in joules. -/
def energyAvail (e v : Nat) : Rat :=
  ((e : Rat) / 100) * (((v : Rat) / 1000) ^ 2 - (108 / 10) ^ 2) / (30 ^ 2 - (108 / 10) ^ 2)

/-- Below 10.8 V the bank gives no energy. -/
theorem energyAvail_nonpos {e v : Nat} (h : v ≤ 10800) : energyAvail e v ≤ 0 := by
  have volts : ((v : Rat) / 1000) ^ 2 ≤ (108 / 10) ^ 2 := by
    have : (v : Rat) ≤ 10800 := by exact_mod_cast h
    exact pow_le_pow_left₀ (by positivity) (by linarith) 2
  unfold energyAvail
  exact div_nonpos_of_nonpos_of_nonneg (mul_nonpos_of_nonneg_of_nonpos (by positivity) (by linarith)) (by norm_num)

/-- Above 10.8 V the registers' units cancel: what is left is a quotient of natural numbers in 10 mJ. -/
theorem energyAvail_scaled {e v : Nat} (h : 10800 < v) : (energyAvail e v - 16) * 5 =
    ((e * (v * v - 10800 * 10800) : Nat) : Rat) / ((20 * (30000 * 30000 - 10800 * 10800) : Nat) : Rat) - 80 := by
  have squares : 10800 * 10800 ≤ v * v := Nat.mul_le_mul h.le h.le
  rw [energyAvail, Nat.cast_mul, Nat.cast_sub squares]
  push_cast
  ring

/-- The pseudocode's number of MiB is the number of 20-unit steps of 10 mJ above 16 J. -/
theorem floor_energyAvail {e v : Nat} (h : 10800 < v) : ⌊(energyAvail e v - 16) * 5⌋ =
    ((e * (v * v - 10800 * 10800) / (30000 * 30000 - 10800 * 10800) / 20 : Nat) : Int) - 80 := by
  rw [energyAvail_scaled h, Int.floor_sub_ofNat, Rat.floor_natCast_div_natCast, Nat.div_div_eq_div_mul, Nat.mul_comm 20]
  rfl

/-- Settles O51: at most 10.8 V both sides are 0, above it the divisions agree. -/
theorem theCapIsThePseudocodesValue : Obligations.TheCapIsThePseudocodesValue := by
  intro s idle
  have cap_eq : cap s = min 256 (min ((eAvail s - 1600) / 20) (dirtyCap s)) := by
    rw [cap, capWith, capEnergy, if_pos idle]
    rfl
  change (cap s : Int) = max 0 (min 256 (min ⌊(energyAvail s.power.eMeas s.power.vBank - 16) * 5⌋ (dirtyCap s : Int)))
  rw [cap_eq]
  rcases Nat.lt_or_ge 10800 s.power.vBank with high | low
  · rw [floor_energyAvail high, eAvail_of_lt high]
    generalize s.power.eMeas * (s.power.vBank * s.power.vBank - 10800 * 10800) / (30000 * 30000 - 10800 * 10800) = q
    omega
  · have negative : ⌊(energyAvail s.power.eMeas s.power.vBank - 16) * 5⌋ < 0 := by
      rw [Int.floor_lt]
      have := energyAvail_nonpos (e := s.power.eMeas) low
      push_cast
      linarith
    rw [eAvail_of_le low]
    omega

/-! ### Write-through by DIRTY_CAP (R121) -/

theorem writeThrough_of_dirtyCap {s : State} (h : dirtyCap s < 32) : writeThrough s = true := by
  have low : policyField (policyNow s) "DIRTY_CAP" < 32 := h
  simp only [writeThrough, writeThroughFor, low, decide_true, Bool.or_true, Bool.true_or]

/-- The commit of PWR.POLICY copies the word and moves the budgets, and neither is the hold-up's. -/
theorem commitEffect_pwrPolicy_weak (s n : State) : (commitEffect s n .pwrPolicy).power.weak = n.power.weak :=
  congrArg Prod.fst (weakOf_rebudget (s := updPower n (fun d => { d with policyCopy := some (cfgWord n .policy) })))

/-- Settles O52, from write-through's causes and what moving budgets leave as it is. -/
theorem aLowDirtyCapRunsWriteThrough : Obligations.ALowDirtyCapRunsWriteThrough :=
  ⟨fun _ => writeThrough_of_dirtyCap, commitEffect_pwrPolicy_weak⟩

end Sys2Proof.Proofs
end

section
/-!
What the commands of the feeds, the lead and the level do, command by command, branch by branch (ch. 03).
-/

namespace Sys2Proof.Proofs

open Sys2Proof Machine Laws

section
variable {s : State} {p : PortId}

/-! ### One port's feed -/

theorem getFeed_of_power {t : State} (h : t.power = s.power) (p : PortId) : getFeed t p = getFeed s p := by
  rw [getFeed, h, getFeed]

@[simp] theorem getFeed_updFeed_other (s : State) (p : PortId) (f : Feed → Feed) :
    getFeed (updFeed s p f) p.other = getFeed s p.other := Duo.get_put_other _ _ _

/-! ### The loss of a feed (R101 to R103) -/

/-- A port's feed is lost and logged. -/
def unfed (s : State) (p : PortId) : State :=
  logEv (updFeed s p (fun f => { f with
    powered := false, detect := false, pseType := 0, alloc := none, late := none, lldpSeen := false, echo := 0 }))
    .feedLost { port := some p }

theorem unfed_lead : (unfed s p).power.lead = s.power.lead := by
  rw [unfed, logEv_power]
  rfl

theorem getFeed_unfed_other : getFeed (unfed s p) p.other = getFeed s p.other :=
  (getFeed_of_power logEv_power _).trans (getFeed_updFeed_other _ _ _)

section
variable {e v : Nat}

theorem exec_feedLost_unpowered (h : (getFeed s p).powered = false) : exec (.feedLost p e v) s = .next s := by
  show execFeedLost p e v s = _
  rw [execFeedLost, if_pos (by simp [h])]

theorem exec_feedLost_standby (h : (getFeed s p).powered = true) (k : s.power.lead ≠ some p) :
    exec (.feedLost p e v) s = .next (noteStandby (unfed s p)) := by
  have standby : ¬ (unfed s p).power.lead = some p := fun c => k (unfed_lead.symm.trans c)
  show execFeedLost p e v s = _
  rw [execFeedLost, if_neg (by simp [h])]
  exact congrArg Host.Outcome.next (if_neg standby)

theorem exec_feedLost_lead (h : (getFeed s p).powered = true) (k : s.power.lead = some p) :
    exec (.feedLost p e v) s = .next (
      let u := updPower (unfed s p) (fun d => { d with vBank := Nat.min d.vBank v })
      if (getFeed s p.other).powered then changeLead u p.other .loss (Nat.min e 200) else u) := by
  have lead : (unfed s p).power.lead = some p := unfed_lead.trans k
  show execFeedLost p e v s = _
  rw [execFeedLost, if_neg (by simp [h]), ← getFeed_unfed_other (s := s) (p := p)]
  exact congrArg Host.Outcome.next (if_pos lead)

end

/-! ### Power on a port (R94, R97, R100, R103) -/

/-- A port that has just been powered, with its class. -/
def energised (s : State) (p : PortId) (n : Nat) : State := updFeed s p (fun f => { f with
  powered := true, detect := true, pseType := pseTypeOf n, alloc := none, late := none, echo := 0, lldpSeen := false
  starved := false })

section
variable {n : Nat}

theorem powerPort_powered (h : (getFeed s p).powered = true) : powerPort s p n = s := by
  rw [powerPort, if_pos (by simp [h])]

section
variable (on : powered s = true) (h : (getFeed s p).powered = false)
include on h

/-- With a lead, the port becomes the standby. -/
theorem powerPort_standby (k : s.power.lead ≠ none) :
    powerPort s p n = rebudget (logEv (energised s p n) .feedRestored { port := some p }) := by
  obtain ⟨q, lead⟩ := Option.ne_none_iff_exists'.mp k
  have same : (energised s p n).power.lead = some q := lead
  rw [powerPort, if_neg (by simp [on, h])]
  change (match (energised s p n).power.lead with | none => _ | some _ => _) = _
  rw [same]
  rfl

/-- Before the lead is chosen, a start notes when the first port was powered. -/
theorem powerPort_first (k : s.power.lead = none) (st : starting s = true) :
    powerPort s p n = { energised s p n with boot := { s.boot with
      firstPower := some (s.boot.firstPower.getD s.clock.ledger) } } := by
  have same : (energised s p n).power.lead = none := k
  have st' : starting (energised s p n) = true := st
  rw [powerPort, if_neg (by simp [on, h])]
  change (match (energised s p n).power.lead with
    | none => if starting (energised s p n) then _ else _
    | some _ => _) = _
  rw [same]
  exact if_pos st'

end

end

/-! ### Allocations (R95, R104, R105, R763) -/

section
variable {a : Nat}

theorem exec_lldpAllocation_deaf (h : (getFeed s p).powered = false ∨ (getPort s p).link = false) (k : stepOpen s 18 = false) :
    exec (.lldpAllocation p a) s = .next s := by
  have deaf : ¬ ((getFeed s p).powered = true ∧ (getPort s p).link = true) := by
    rintro ⟨on, link⟩
    exact h.elim (fun h => Bool.false_ne_true (h.symm.trans on)) (fun h => Bool.false_ne_true (h.symm.trans link))
  show execLldpAllocation p a s = _
  simp only [execLldpAllocation, if_neg deaf, k, Bool.false_and, Bool.false_eq_true, if_false]

/-- A powered port with link takes the allocation, and S18 may end with it. -/
theorem exec_lldpAllocation (on : (getFeed s p).powered = true) (link : (getPort s p).link = true) :
    exec (.lldpAllocation p a) s = .next (
      let u := takeAllocation s p a
      if stepOpen u 18 && (getFeed u p).alloc.isSome && decide (u.power.lead = some p) then endStep u 18 .ok 0 else u) := by
  show execLldpAllocation p a s = _
  simp only [execLldpAllocation, if_pos (And.intro on link)]

theorem takeAllocation_now (h : s.fw.gateUpdate = none) : takeAllocation s p a = allocation s p a := by
  rw [takeAllocation, h, Option.isSome_none, if_neg Bool.false_ne_true]

theorem takeAllocation_late (h : s.fw.gateUpdate ≠ none) :
    takeAllocation s p a = updFeed s p (fun f => { f with late := some a, lldpSeen := true }) := by
  rw [takeAllocation, if_pos (Option.isSome_iff_ne_none.mpr h)]

end

/-! ### The lead (R97, R99, R102, R103) -/

section
variable {e : Nat}

theorem exec_plannedChangeover_starved (h : s.power.lead = some p) (low : budgetOf s p < 120) (b : 120 ≤ budgetOf s p.other) :
    exec (.plannedChangeover e) s = .next (changeLead s p.other .planned e) := by
  show execPlannedChangeover e s = _
  rw [execPlannedChangeover, h]
  exact congrArg Host.Outcome.next (if_pos ⟨low, b⟩)

theorem exec_plannedChangeover_better {t : Nat} (h : s.power.lead = some p) (b : 120 ≤ budgetOf s p)
    (k : s.power.standbySince = some t) :
    exec (.plannedChangeover e) s = .next (changeLead (advanceTo s (t + 30 * sec)) p.other .planned e) := by
  have fed : ¬ (budgetOf s p < 120 ∧ 120 ≤ budgetOf s p.other) := fun c => by omega
  show execPlannedChangeover e s = _
  rw [execPlannedChangeover, h]
  simp only [if_neg fed, k]

/-- A changeover puts the lead on the port, logs it and applies the budget. -/
theorem changeLead_spec (s : State) (p : PortId) (w : Changeover) (e : Nat) :
    ∃ u, changeLead s p w e = noteStandby (applyBudget u) ∧ u.power = { s.power with lead := some p, standbySince := none } :=
  ⟨_, rfl, logEv_power⟩

end

/-- What the choice of R97 leaves: the drive waits while there is no port to choose. -/
def leadChosen (s : State) : State :=
  match leadChoice s with
  | none => s
  | some p => takeLead s p

theorem exec_leadSelect {t : Nat} (st : starting s = true) (fg : s.boot.fg = 1) (lead : s.power.lead = none)
    (h : s.boot.firstPower = some t) : exec .leadSelect s = .next (leadChosen (advanceTo s (t + 100000))) := by
  show execLeadSelect s = _
  rw [execLeadSelect, if_pos ⟨st, fg, Option.isNone_iff_eq_none.mpr lead⟩, h]
  rfl

theorem exec_s01BudgetMet (st : starting s = true) (fg : s.boot.fg = 1) (lead : s.power.lead = some p) (b : 120 ≤ budgetOf s p) :
    exec .s01BudgetMet s = .next (endS01 s) := by
  have met : budget s = budgetOf s p := by rw [budget, lead]
  show execS01BudgetMet s = _
  rw [execS01BudgetMet, if_pos]
  simp [s01Done, st, fg, lead, met, b]

/-! ### Levels (R108, R111) -/

theorem fullyCharged_iff : fullyCharged s = true ↔ s.power.charged = true ∧ 30000 ≤ s.power.vBank := by
  rw [fullyCharged, Bool.and_eq_true, decide_eq_true_eq]

theorem exec_levelUp {t : Nat} (h : s.power.upSince = some t) (full : fullyCharged s = true) : exec .levelUp s = .next (
    let u := advanceTo s (Nat.max (t + 30 * sec) (s.power.levelAt + 60 * sec))
    noteBudget (setLevel u (levelFor (budget u)))) := by
  show execLevelUp s = _
  rw [execLevelUp, h]
  simp only [if_pos full]

theorem exec_levelUp_not (h : s.power.upSince = none ∨ ¬ fullyCharged s = true) : exec .levelUp s = .next s := by
  show execLevelUp s = _
  rw [execLevelUp]
  rcases h with h | h
  · rw [h]
  · cases s.power.upSince with
    | none => rfl
    | some t => simp only [if_neg h]

theorem exec_starvedTimeout {t : Nat} (h : s.power.starvingSince = some t) (k : s.power.lead = some p) :
    exec .starvedTimeout s = .next (beginHalt (updPower
      (updFeed (advanceTo s (t + 10 * sec)) p (fun f => { f with starved := true }))
      (fun d => { d with starvingSince := none })) .starvation) := by
  show execStarvedTimeout s = _
  rw [execStarvedTimeout, h, k]

end

/-! ### The statement -/

/-- Settles O4, clause by clause, from what each command does. -/
theorem feedsAndLevelsMoveAsThePowerChapterSays : Obligations.FeedsAndLevelsMoveAsThePowerChapterSays := by
  refine ⟨?unpowered, ?standbyLost, ?leadLost, ?already, ?powered, ?allocated, ?late, ?deaf, ?transmit, ?starvedLead,
    ?betterStandby, ?changeover, ?levelUp, ?levelStays, ?starved, ?leadSelect, ?budgetMet⟩
  case unpowered => exact fun s p e v => exec_feedLost_unpowered
  case standbyLost => exact fun s p e v => exec_feedLost_standby
  case leadLost => exact fun s p e v h k => ⟨_, rfl, exec_feedLost_lead h k⟩
  case already =>
    exact fun s p n h => ⟨congrArg Host.Outcome.next (powerPort_powered h), congrArg Host.Outcome.next (powerPort_powered h)⟩
  case powered =>
    rintro s p n u on h rfl
    exact ⟨fun k => congrArg Host.Outcome.next (powerPort_standby on h k),
      fun k st => congrArg Host.Outcome.next (powerPort_first on h k st)⟩
  case allocated =>
    rintro s p a u on link g rfl
    change (stepOpen (allocation s p a) 18 = false ∨ (allocation s p a).power.lead ≠ some p → _) ∧
      (stepOpen (allocation s p a) 18 = true → (allocation s p a).power.lead = some p →
        (getFeed (allocation s p a) p).alloc.isSome = true → _)
    rw [exec_lldpAllocation on link, takeAllocation_now g]
    refine ⟨fun k => congrArg Host.Outcome.next (if_neg ?_), fun o lead al => congrArg Host.Outcome.next (if_pos ?_)⟩
    · rcases k with k | k <;> simp [k]
    · simp [o, lead, al]
  case late =>
    intro s p a on link g k
    rw [exec_lldpAllocation on link, takeAllocation_late g]
    have shut : stepOpen (updFeed s p (fun f => { f with late := some a, lldpSeen := true })) 18 = false := k
    simp only [shut, Bool.false_and, Bool.false_eq_true, if_false]
  case deaf => exact fun s p a => exec_lldpAllocation_deaf
  case transmit => exact fun s p => rfl
  case starvedLead => exact fun s p e => exec_plannedChangeover_starved
  case betterStandby => exact fun s p t e => exec_plannedChangeover_better
  case changeover => exact changeLead_spec
  case levelUp =>
    rintro s t u h charged full rfl
    exact exec_levelUp h (fullyCharged_iff.mpr ⟨charged, full⟩)
  case levelStays =>
    intro s h
    refine exec_levelUp_not (h.imp_right fun k c => ?_)
    obtain ⟨charged, full⟩ := fullyCharged_iff.mp c
    rcases k with k | k
    · exact Bool.false_ne_true (k.symm.trans charged)
    · omega
  case starved => exact fun s t p => exec_starvedTimeout
  case leadSelect => exact fun s t => exec_leadSelect
  case budgetMet => exact fun s p => exec_s01BudgetMet

end Sys2Proof.Proofs
end

section
/-!
What the commands of the hold-up bank, of cold and of heat do, command by command, branch by branch (ch. 03).
-/

namespace Sys2Proof.Proofs

open Sys2Proof Machine Laws

section
variable {s : State}

/-! ### Measurements (R115, R116, R139) -/

theorem exec_holdupMeasure {l : Line} {d : Session} (ok : Accepts s l {} none d) : exec (.holdupMeasure l) s = .next
    (if s.power.measuring = .idle ∧ s.power.charged = true
     then answer (askMeasure (heard s l) .command) l.sess l.tag (okLine [("", .name "measuring")]) none
     else answer (heard s l) l.sess l.tag .busy none) := by
  have same : (heard s l).power = s.power := rfl
  show execHoldupMeasure l s = _
  rw [execHoldupMeasure, runCmd_accepts ok]
  simp only [same]
  by_cases free : s.power.measuring = .idle ∧ s.power.charged = true
  · rw [if_neg (by simp [free]), if_pos free]
  · rw [if_pos (by simpa only [not_and_or] using free), if_neg free]

theorem exec_holdupPeriodic (on : powered s = true) (h : s.power.measuring = .idle) : exec .holdupPeriodic s =
    .next (askMeasure (advanceTo s (s.power.lastMeas + day)) .periodic) := by
  show execHoldupPeriodic s = _
  rw [execHoldupPeriodic, if_pos ⟨on, h⟩]

theorem exec_holdupDischargeStart (h : s.power.measuring = .draining)
    (low : dirtyBytes s ≤ cap s * mib ∨ s.upkeep.measCause = some .cellFault) (full : fullyCharged s = true) :
    exec .holdupDischargeStart s = .next { s with power := { s.power with measuring := .discharging } } := by
  show execHoldupDischargeStart s = _
  rw [execHoldupDischargeStart, if_pos ⟨h, low, full⟩]
  rfl

theorem exec_holdupMeasureDone {e v : Nat} (h : s.power.measuring = .discharging) : exec (.holdupMeasureDone e v) s = .next
    (judgeE (updPower (recordE s e) (fun d => { d with vBank := v, measuring := .recharging, charged := false }))) := by
  show execHoldupMeasureDone e v s = _
  rw [execHoldupMeasureDone, if_pos h]

/-! ### The judgement of E (R120) -/

/-- A hold-up that is judged as it was stays as it is. -/
theorem power_of_weak {b : Bool} (h : s.power.weak = b) : s.power = { s.power with weak := b } := by rw [← h]

theorem judgeE_low (h : s.power.eMeas < 2240) : (judgeE s).power = { s.power with weak := true } := by
  rw [judgeE, if_pos h]
  split
  · next weak => exact power_of_weak weak
  · exact logEv_power

theorem judgeE_between (lo : 2240 ≤ s.power.eMeas) (hi : s.power.eMeas < 2400) : judgeE s = s := by
  rw [judgeE, if_neg (by omega), if_neg (fun c => by omega)]

theorem judgeE_high (h : 2400 ≤ s.power.eMeas) : (judgeE s).power = { s.power with weak := false } := by
  rw [judgeE, if_neg (by omega)]
  split
  · exact logEv_power
  · next strong => exact power_of_weak (by simpa [h] using strong)

/-! ### A measurement for a cell (R115, R117) -/

theorem measureCell_measuring (h : s.power.measuring = .discharging ∨ s.power.measuring = .recharging) :
    measureCell s = updPower s (fun d => { d with measAgain := true }) := by
  rw [measureCell]
  rcases h with h | h <;> rw [h]

theorem measureCell_free (h : s.power.measuring = .idle ∨ s.power.measuring = .draining) :
    (measureCell s).power = { s.power with measuring := if fullyCharged s then .discharging else .draining } ∧
    (measureCell s).upkeep.measCause = some .cellFault := by
  rw [measureCell]
  rcases h with h | h <;> rw [h] <;> exact ⟨rfl, rfl⟩

/-! ### The bank's charge (R115 to R117, R123) -/

/-- The bank is back at 30.0 V. -/
def recharged (s : State) : State := { s with power := { s.power with
  vBank := 30000, charged := true, measuring := if s.power.measuring = .recharging then .idle else s.power.measuring } }

theorem fullyCharged_recharged : fullyCharged (recharged s) = true := fullyCharged_iff.mpr ⟨rfl, Nat.le_refl _⟩

theorem exec_bankRecharged : exec .bankRecharged s = .next (
    if (recharged s).power.measAgain ∧ (recharged s).power.measuring = .idle then
      measureCell (updPower (recharged s) (fun d => { d with measAgain := false }))
    else if (recharged s).power.measuring = .draining ∧ (recharged s).upkeep.measCause = some .cellFault then
      measureCell (recharged s)
    else recharged s) := rfl

theorem recharged_draining : (recharged s).power.measuring = .draining ↔ s.power.measuring = .draining := by
  change (if s.power.measuring = .recharging then Measuring.idle else s.power.measuring) = .draining ↔ _
  split
  · next h => simp [h]
  · rfl

theorem recharged_idle (h : s.power.measuring = .idle ∨ s.power.measuring = .recharging) :
    (recharged s).power.measuring = .idle := by
  change (if s.power.measuring = .recharging then Measuring.idle else s.power.measuring) = .idle
  rcases h with h | h <;> rw [h] <;> rfl

/-- Nothing more is owed to a cell. -/
theorem exec_bankRecharged_plain (again : s.power.measAgain = false)
    (k : s.power.measuring ≠ .draining ∨ s.upkeep.measCause ≠ some .cellFault) :
    exec .bankRecharged s = .next (recharged s) := by
  have owed : ¬ ((recharged s).power.measAgain = true ∧ (recharged s).power.measuring = .idle) := fun c =>
    Bool.false_ne_true (again.symm.trans c.1)
  have asked : ¬ ((recharged s).power.measuring = .draining ∧ (recharged s).upkeep.measCause = some .cellFault) := fun c =>
    k.elim (fun n => n (recharged_draining.mp c.1)) (fun n => n c.2)
  rw [exec_bankRecharged, if_neg owed, if_neg asked]

/-- A further cell's measurement begins at once. -/
theorem exec_bankRecharged_again (again : s.power.measAgain = true)
    (k : s.power.measuring = .idle ∨ s.power.measuring = .recharging) : ∃ t, exec .bankRecharged s = .next t ∧
      t.power = { (recharged s).power with measAgain := false, measuring := .discharging } ∧
      t.upkeep.measCause = some .cellFault := by
  obtain ⟨power, cause⟩ := measureCell_free
    (s := updPower (recharged s) (fun d => { d with measAgain := false })) (.inl (recharged_idle k))
  refine ⟨_, exec_bankRecharged, ?_⟩
  rw [if_pos ⟨again, recharged_idle k⟩]
  exact ⟨power, cause⟩

/-- The measurement that waited for the bank begins. -/
theorem exec_bankRecharged_cell (h : s.power.measuring = .draining) (k : s.upkeep.measCause = some .cellFault) :
    ∃ t, exec .bankRecharged s = .next t ∧ t.power = { (recharged s).power with measuring := .discharging } ∧
      t.upkeep.measCause = some .cellFault := by
  have drains : (recharged s).power.measuring = .draining := recharged_draining.mpr h
  obtain ⟨power, cause⟩ := measureCell_free (s := recharged s) (.inr drains)
  rw [fullyCharged_recharged] at power
  refine ⟨_, exec_bankRecharged, ?_⟩
  rw [if_neg (fun c => by simp [drains] at c), if_pos ⟨drains, k⟩]
  exact ⟨power, cause⟩

theorem exec_holdupChargeTimeout {v : Nat} (h : s.power.measuring ≠ .idle) :
    ∃ t, exec (.holdupChargeTimeout v) s = .next t ∧ t.power = { s.power with
      eMeas := 0, lastMeas := s.clock.ledger, cellWt := false, vBank := v, measuring := .idle, charged := false, weak := true
      measAgain := false } := by
  show ∃ t, execHoldupChargeTimeout v s = _ ∧ _
  rw [execHoldupChargeTimeout, if_neg h]
  refine ⟨_, rfl, ?_⟩
  dsimp only
  split
  · simp [recordE]
  · rw [logEv_power]
    simp [recordE]

/-! ### Cells (R117) -/

section
variable {c : Fin 12} {v : Int}

theorem exec_cellFault_known (h : c ∈ s.power.cells) : exec (.cellFault c v) s = .next s := by
  show execCellFault c v s = _
  rw [execCellFault, if_pos (List.contains_iff_mem.mpr h)]

/-- A cell has begun to differ: write-through, and the event. -/
def faultNoted (s : State) (c : Fin 12) (v : Int) : State :=
  logEv (updPower s (fun d => { d with cells := c :: d.cells, cellWt := true })) .cellFault { details := [(c.val : Int), v] }

theorem faultNoted_power : (faultNoted s c v).power = { s.power with cells := c :: s.power.cells, cellWt := true } := logEv_power

theorem fullyCharged_faultNoted : fullyCharged (faultNoted s c v) = fullyCharged s := by
  rw [fullyCharged, faultNoted_power, fullyCharged]

theorem exec_cellFault (h : c ∉ s.power.cells) : exec (.cellFault c v) s = .next (measureCell (faultNoted s c v)) := by
  show execCellFault c v s = _
  rw [execCellFault, if_neg (fun k => h (List.contains_iff_mem.mp k))]
  rfl

theorem exec_cellFault_measuring (h : c ∉ s.power.cells)
    (k : s.power.measuring = .discharging ∨ s.power.measuring = .recharging) : ∃ t, exec (.cellFault c v) s = .next t ∧
      t.power = { s.power with cells := c :: s.power.cells, cellWt := true, measAgain := true } := by
  have under : (faultNoted s c v).power.measuring = .discharging ∨ (faultNoted s c v).power.measuring = .recharging := by
    rw [faultNoted_power]
    exact k
  refine ⟨_, exec_cellFault h, ?_⟩
  rw [measureCell_measuring under]
  change { (faultNoted s c v).power with measAgain := true } = _
  rw [faultNoted_power]

theorem exec_cellFault_free (h : c ∉ s.power.cells) (k : s.power.measuring = .idle ∨ s.power.measuring = .draining) :
    ∃ t, exec (.cellFault c v) s = .next t ∧ t.power = { s.power with
        cells := c :: s.power.cells, cellWt := true, measuring := if fullyCharged s then .discharging else .draining } ∧
      t.upkeep.measCause = some .cellFault := by
  have free : (faultNoted s c v).power.measuring = .idle ∨ (faultNoted s c v).power.measuring = .draining := by
    rw [faultNoted_power]
    exact k
  obtain ⟨power, cause⟩ := measureCell_free free
  refine ⟨_, exec_cellFault h, ?_, cause⟩
  rw [power, faultNoted_power, fullyCharged_faultNoted]

end

/-! ### Cold and the heater (R96, R128 to R132) -/

section
variable {f : Int}

theorem exec_coldGate (h : f < -200) (open_ : s.power.coldGate = false) : exec (.coldGate f) s = .next
    (logEv { s with power := { s.power with
      flashMin := f, coldGate := true, dummy := decide (s.power.level = .l0) || decide (s.power.level = .l1) } }
      .coldGate { details := [f] }) := by
  show execColdGate f s = _
  rw [execColdGate]
  exact congrArg Host.Outcome.next (if_pos ⟨h, fun c => Bool.false_ne_true (open_.symm.trans c)⟩)

theorem exec_coldGate_not (h : -200 ≤ f ∨ s.power.coldGate = true) :
    exec (.coldGate f) s = .next { s with power := { s.power with flashMin := f } } := by
  show execColdGate f s = _
  rw [execColdGate]
  exact congrArg Host.Outcome.next (if_neg fun ⟨cold, open_⟩ => h.elim (fun k => by omega) open_)

/-- The gate opens, with its event. -/
def coldOpened (s : State) (f : Int) : State :=
  logEv { s with power := { s.power with flashMin := f, coldGate := false, dummy := false } } .coldOpen { details := [f] }

theorem exec_coldOpen (h : -150 ≤ f) (gated : s.power.coldGate = true) : exec (.coldOpen f) s = .next
    (match s.media.replayHeld, s.media.image with
      | true, some img => replayData (replayLog (coldOpened s f) img) img
      | _, _ => coldOpened s f) := by
  have media : (coldOpened s f).media = s.media := logEv_media
  show execColdOpen f s = _
  rw [execColdOpen, ← media]
  exact congrArg Host.Outcome.next (if_pos ⟨h, gated⟩)

theorem exec_coldOpen_not (h : f < -150 ∨ s.power.coldGate = false) :
    exec (.coldOpen f) s = .next { s with power := { s.power with flashMin := f } } := by
  show execColdOpen f s = _
  rw [execColdOpen]
  exact congrArg Host.Outcome.next (if_neg fun ⟨warm, gated⟩ =>
    h.elim (fun k => by omega) (fun k => Bool.false_ne_true (k.symm.trans gated)))

/-- The heater needs L0 or L1 and the draw ceiling of a step after S02. -/
theorem heaterAllowed_iff : heaterAllowed s = true ↔
    (s.power.level = .l0 ∨ s.power.level = .l1) ∧ ¬ (starting s = true ∧ s.boot.fg ≤ 2) := by
  unfold heaterAllowed drawCeiling
  by_cases early : starting s = true ∧ s.boot.fg ≤ 2
  · simp [early]
  · rw [if_neg early]
    cases s.power.level <;> simp [levelEntry, early]

theorem heaterFor_not (h : ¬ heaterAllowed s = true) : heaterFor s f = false := by
  rw [heaterFor, Bool.eq_false_iff.mpr h, Bool.false_and]

/-- On below -15.0 °C, off from -10.0 °C, and as it was between. -/
theorem heaterFor_allowed (h : heaterAllowed s = true) :
    heaterFor s f = if f < -150 then true else if -100 ≤ f then false else s.power.heater := by
  rw [heaterFor, h, Bool.true_and]
  by_cases cold : f < -150
  · simp [cold]
  · by_cases warm : -100 ≤ f
    · simp [cold, warm]
    · simp [cold, warm, not_le.mp warm]

end

/-! ### Heat (R133, R134) -/

section
variable {f : Int}

theorem exec_thermalThrottle_same (h : thermalNext s.power.thermal f = s.power.thermal) :
    exec (.thermalThrottle f) s = .next { s with power := { s.power with flashMax := f } } := by
  show execThermalThrottle f s = _
  rw [execThermalThrottle]
  simp only [h, if_true]
  rfl

theorem exec_thermalThrottle_new (h : thermalNext s.power.thermal f ≠ s.power.thermal) :
    exec (.thermalThrottle f) s = .next (
      let x := thermalNext s.power.thermal f
      let u := logEv { s with power := { s.power with flashMax := f, thermal := x } } .thermalThrottle
        { details := [(thermalCode s.power.thermal : Int), (thermalCode x : Int)] }
      if x = .halt then beginHalt (logEv u .thermalHalt { details := [f] }) .thermal else u) := by
  show execThermalThrottle f s = _
  rw [execThermalThrottle]
  exact congrArg Host.Outcome.next (if_neg h)

end

end

/-! ### The statement -/

/-- Settles O5, clause by clause, from what each command does. -/
theorem holdupColdAndHeatActAsThePowerChapterSays : Obligations.HoldupColdAndHeatActAsThePowerChapterSays := by
  refine ⟨?measure, ?periodic, ?asked, ?discharge, ?done, ?recorded, ?weak, ?between, ?strong, ?recharged, ?timeout,
    ?cellFault, ?cellKnown, ?cellReturn, ?admission, ?gate, ?gateNot, ?opens, ?opensNot, ?heater, ?heaterRule, ?thermalSame,
    ?thermalNew⟩
  case measure => exact fun s l d => exec_holdupMeasure
  case periodic => exact fun s => exec_holdupPeriodic
  case asked => exact fun s c => ⟨rfl, rfl⟩
  case discharge => exact fun s h low charged full => exec_holdupDischargeStart h low (fullyCharged_iff.mpr ⟨charged, full⟩)
  case done => exact fun s e v => exec_holdupMeasureDone
  case recorded => exact fun s e => rfl
  case weak => exact fun s => judgeE_low
  case between => exact fun s => judgeE_between
  case strong => exact fun s => judgeE_high
  case recharged =>
    rintro s u rfl
    exact ⟨exec_bankRecharged_plain, exec_bankRecharged_again, exec_bankRecharged_cell⟩
  case timeout => exact fun s v => exec_holdupChargeTimeout
  case cellFault =>
    rintro s c v d h rfl
    exact ⟨exec_cellFault_measuring h, exec_cellFault_free h⟩
  case cellKnown => exact fun s c v => exec_cellFault_known
  case cellReturn => exact fun s c => rfl
  case admission => exact fun s => rfl
  case gate => exact fun s f => exec_coldGate
  case gateNot => exact fun s f => exec_coldGate_not
  case opens => exact fun s f h gated => ⟨_, rfl, exec_coldOpen h gated⟩
  case opensNot => exact fun s f => exec_coldOpen_not
  case heater => exact fun s f => rfl
  case heaterRule =>
    refine fun s f => ⟨fun h => heaterFor_not fun c => ?_, fun lv st => heaterFor_allowed (heaterAllowed_iff.mpr ⟨lv, ?_⟩)⟩
    · obtain ⟨lv, late⟩ := heaterAllowed_iff.mp c
      rcases h with h | h | h
      · rcases lv with lv | lv <;> exact absurd (h.symm.trans lv) (by decide)
      · rcases lv with lv | lv <;> exact absurd (h.symm.trans lv) (by decide)
      · exact late h
    · rintro ⟨started, early⟩
      rcases st with st | st
      · exact Bool.false_ne_true (st.symm.trans started)
      · omega
  case thermalSame => exact fun s f => exec_thermalThrottle_same
  case thermalNew =>
    rintro s f x rfl h
    exact ⟨_, rfl, exec_thermalThrottle_new h⟩

end Sys2Proof.Proofs
end

section
/-!
What the commands of the links, the active-backup pair and LACP do, command by command, branch by branch (ch. 07).
-/

namespace Sys2Proof.Proofs

open Sys2Proof Machine Laws

theorem aggMode_of_cfg {s t : State} (h : t.cfg = s.cfg) : aggMode t = aggMode s := by
  unfold aggMode cfgField cfgWord
  rw [h]

section
variable {s : State} {p : PortId}

/-! ### A link that comes up (R271, R275, R317) -/

/-- A port has link at a speed; a speed above 1 Gbit/s comes with a signal-to-noise ratio. -/
def linkedUp (s : State) (p : PortId) (v : Nat) (n : Int) : State := updPort s p (fun d => { d with
  link := true, speed := v, energy := true, training := false, linkSince := some s.clock.ledger, lldpFast := 4
  snr := if 3 ≤ v then n else 0 })

section
variable {v : Nat} {n : Int}

theorem exec_linkUp_linked (h : (getPort s p).link = true) : exec (.linkUp p v n) s = .next s := by
  show execLinkUp p v n s = _
  rw [execLinkUp]
  exact congrArg Host.Outcome.next (if_pos h)

/-- The link is up and logged. -/
def linkNoted (s : State) (p : PortId) (v : Nat) (n : Int) : State :=
  logEv (linkedUp s p v n) .linkUp { port := some p, details := [(v : Int)] }

theorem linkNoted_parts : (linkNoted s p v n).cfg = s.cfg ∧ (linkNoted s p v n).phase = s.phase :=
  ⟨logEv_changes.cfg (by decide), logEv_changes.phase (by decide)⟩

/-- A member of the aggregate waits for its partner. -/
def lacpWaits (s : State) (p : PortId) : State :=
  if aggMode s then updPort s p (fun d => { d with lacp := .waiting, lacpAt := none }) else s

theorem lacpWaits_phase : (lacpWaits s p).phase = s.phase := by
  rw [lacpWaits]
  split <;> rfl

section
variable (h : (getPort s p).link = false)
include h

theorem exec_linkUp_dormant (k : s.phase = .dormant) : exec (.linkUp p v n) s = .next
    (if (getPort s p).armed ∧ v = 1 then linkedUp s p v n else s) := by
  show execLinkUp p v n s = _
  rw [execLinkUp]
  exact congrArg Host.Outcome.next ((if_neg (by simp [h])).trans (if_pos k))

theorem exec_linkUp_held (k : s.phase ≠ .dormant)
    (d : linksLive s = false ∨ islUp s p.island = false ∨ (getPort s p).heldDown = true) :
    exec (.linkUp p v n) s = .next s := by
  have held : ¬ (linksLive s && islUp s p.island && ! (getPort s p).heldDown) = true := by
    rcases d with d | d | d <;> simp [d]
  show execLinkUp p v n s = _
  rw [execLinkUp]
  exact congrArg Host.Outcome.next ((if_neg (by simp [h])).trans ((if_neg k).trans (if_neg held)))

theorem exec_linkUp_ready (k : s.phase = .ready) (i : islUp s p.island = true) (d : (getPort s p).heldDown = false) :
    exec (.linkUp p v n) s = .next (beginAll (rebudget (renegotiated
      (portGained (speedMismatch (lacpWaits (linkNoted s p v n) p)) p) p))) := by
  have live : (linksLive s && islUp s p.island && ! (getPort s p).heldDown) = true := by simp [linksLive, k, i, d]
  have started : starting (lacpWaits (linkNoted s p v n) p) = false := by
    rw [starting, lacpWaits_phase, linkNoted_parts.2, k]
    rfl
  have noS17 : ¬ (starting (lacpWaits (linkNoted s p v n) p) = true ∧
      (lacpWaits (linkNoted s p v n) p).boot.s17Link = none) := fun c => Bool.false_ne_true (started.symm.trans c.1)
  show execLinkUp p v n s = _
  rw [execLinkUp]
  refine congrArg Host.Outcome.next ((if_neg (by simp [h])).trans ((if_neg (by simp [k])).trans ((if_pos live).trans ?_)))
  exact congrArg (fun t => beginAll (rebudget (renegotiated (portGained (speedMismatch t) p) p))) (if_neg noS17)

end

end

/-! ### A link that is lost (R95, R271, R272, R276) -/

section
variable (h : (getPort s p).link = true)
include h

theorem exec_linkDown_dormant (k : s.phase = .dormant) :
    exec (.linkDown p) s = .next (updPort s p (fun d => { d with link := false, speed := 0 })) := by
  show execLinkDown p s = _
  rw [execLinkDown, if_neg (by simp [h]), if_pos k]

theorem exec_linkDown (k : s.phase ≠ .dormant) : exec (.linkDown p) s = .next (rebudget (train (linkLoss s p) p)) := by
  show execLinkDown p s = _
  rw [execLinkDown, if_neg (by simp [h]), if_neg k]

end

theorem exec_linkDown_unlinked (h : (getPort s p).link = false) : exec (.linkDown p) s = .next s := by
  show execLinkDown p s = _
  rw [execLinkDown, if_pos (by simp [h])]

/-! ### Downshifts (R270) -/

section
variable {v : Nat}

theorem exec_linkDownshift (h : (getPort s p).training = true) : exec (.linkDownshift p v) s = .next (logEv (updPort s p (fun d =>
    { d with
      dropped := v :: d.dropped
      advertised := d.advertised.filter (fun c => decide (c ≠ v))
      downshifts := sat (d.downshifts + 1) 255 })) .linkDownshift { port := some p, details := [(v : Int)] }) := by
  show execLinkDownshift p v s = _
  rw [execLinkDownshift, if_pos h]

theorem exec_linkDownshift_not (h : (getPort s p).training = false) : exec (.linkDownshift p v) s = .next s := by
  show execLinkDownshift p v s = _
  rw [execLinkDownshift, if_neg (by simp [h])]

end

/-! ### The pair returns to the primary port (R277) -/

theorem exec_bondRevert {t : Nat} (h : cfgField s .bondCfg "REVERT" = 1) (g : aggNow s = false)
    (a : s.ports.active = some (primaryPort s).other) (u : portUp s (primaryPort s) = true)
    (k : (getPort s (primaryPort s)).linkSince = some t) :
    exec .bondRevert s = .next (failoverTo (advanceTo s (t + 30 * sec)) (primaryPort s)) := by
  show execBondRevert s = _
  rw [execBondRevert]
  simp only [if_pos (And.intro h (And.intro (Bool.eq_false_iff.mp g) (And.intro a u))), k]

theorem exec_bondRevert_not (h : cfgField s .bondCfg "REVERT" ≠ 1 ∨ aggNow s = true ∨ s.ports.active = some (primaryPort s)) :
    exec .bondRevert s = .next s := by
  show execBondRevert s = _
  rw [execBondRevert]
  refine congrArg Host.Outcome.next (if_neg ?_)
  rintro ⟨revert, backup, other, -⟩
  rcases h with h | h | h
  · exact h revert
  · exact backup h
  · exact port_ne_other _ (Option.some.inj (h.symm.trans other))

/-! ### LACP (R278 to R281) -/

/-- The member can be aggregated with a partner system: no other member has one, or the same. -/
def partnerFits (s : State) (p : PortId) (m : MacAddr) : Bool :=
  match otherPartner s p with
  | none => true
  | some x => decide (x = m)

theorem partnerFits_iff {m : MacAddr} : partnerFits s p m = true ↔ otherPartner s p = none ∨ otherPartner s p = some m := by
  rw [partnerFits]
  cases otherPartner s p with
  | none => simp
  | some x => simp

section
variable {u : Lacpdu} (h : aggMode s = true) (k : portUp s p = true)
include h k

theorem exec_lacpduReceive : exec (.lacpduReceive p u) s = .next (settlePair (updPort s p (fun d => { d with
    lacp := if u.inSync ∧ (otherPartner s p = none ∨ otherPartner s p = some u.system) then .distributing else .waiting
    lacpPartner := some u.system, lacpAt := some s.clock.ledger }))) := by
  have joins : (if u.inSync && partnerFits s p u.system then Lacp.distributing else .waiting) =
      if u.inSync ∧ (otherPartner s p = none ∨ otherPartner s p = some u.system) then .distributing else .waiting :=
    if_congr (by rw [Bool.and_eq_true, partnerFits_iff]) rfl rfl
  show execLacpduReceive p u s = _
  rw [execLacpduReceive, if_pos (by rw [h, k]; rfl), ← joins]
  rfl

theorem exec_lacpduTransmit : exec (.lacpduTransmit p) s = .next (
    let u := match (getPort s p).lacpTx with | some t => advanceTo s (t + lacpInterval s) | none => s
    sendLink (updPort u p (fun d => { d with lacpTx := some u.clock.ledger })) p (lacpPdu u p) 14) := by
  show execLacpduTransmit p s = _
  rw [execLacpduTransmit]
  exact congrArg Host.Outcome.next (if_pos (by rw [h, k]; rfl))

theorem exec_lagNoPartner {t : Nat} (d : (getPort s p).lacp ≠ .defaulted) (since : (getPort s p).lacpAt = some t) :
    exec (.lagNoPartner p) s = .next (portGained (logEv (updPort (advanceTo s (t + 3 * sec)) p (fun d => { d with
      lacp := .defaulted, lacpPartner := none })) .lagNoPartner { port := some p }) p) := by
  show execLagNoPartner p s = _
  rw [execLagNoPartner, if_pos (by simp [h, k, d])]
  simp only [since]

end

/-- Without the aggregate, or without link, LACP is silent. -/
theorem exec_lacpdu_idle (h : aggMode s = false ∨ portUp s p = false) :
    (∀ u, exec (.lacpduReceive p u) s = .next s) ∧ exec (.lacpduTransmit p) s = .next s := by
  have idle : ¬ (aggMode s && portUp s p) = true := by rcases h with h | h <;> simp [h]
  refine ⟨fun u => ?_, ?_⟩
  · show execLacpduReceive p u s = _
    rw [execLacpduReceive, if_neg idle]
  · show execLacpduTransmit p s = _
    rw [execLacpduTransmit, if_neg idle]

end

/-! ### The statement -/

/-- Settles O14, clause by clause, from what each command does. -/
theorem linksThePairAndLacpFollowTheirRules : Obligations.LinksThePairAndLacpFollowTheirRules := by
  refine ⟨?linked, ?dormantUp, ?readyUp, ?held, ?unlinked, ?dormantDown, ?down, ?downshift, ?downshiftNot, ?revert, ?revertNot,
    ?receive, ?receiveIdle, ?transmit, ?transmitIdle, ?noPartner⟩
  case linked => exact fun s p v n => exec_linkUp_linked
  case dormantUp => exact fun s p v n => exec_linkUp_dormant
  case readyUp =>
    intro s p v n h k i d
    refine ⟨_, _, rfl, rfl, ?_⟩
    rw [exec_linkUp_ready h k i d, lacpWaits, aggMode_of_cfg linkNoted_parts.1]
    rfl
  case held => exact fun s p v n => exec_linkUp_held
  case unlinked => exact fun s p => exec_linkDown_unlinked
  case dormantDown => exact fun s p => exec_linkDown_dormant
  case down => exact fun s p h k => ⟨_, rfl, exec_linkDown h k⟩
  case downshift => exact fun s p v => exec_linkDownshift
  case downshiftNot => exact fun s p v => exec_linkDownshift_not
  case revert => exact fun s t => exec_bondRevert
  case revertNot => exact fun s => exec_bondRevert_not
  case receive => exact fun s p u => exec_lacpduReceive
  case receiveIdle => exact fun s p u h => (exec_lacpdu_idle h).1 u
  case transmit =>
    rintro s p u h k rfl
    exact exec_lacpduTransmit h k
  case transmitIdle => exact fun s p h => (exec_lacpdu_idle h).2
  case noPartner => exact fun s p t h k => exec_lagNoPartner h k

end Sys2Proof.Proofs
end

section
/-!
The die operations that run (R112, R133, R142, R823): within the limit, one on a die, and each of them work that the drive has.
-/

namespace Sys2Proof.Proofs

open Sys2Proof Machine Laws

/-! ### The limit (R142) -/

theorem dieLimit_le_level (s : State) : dieLimit s ≤ levelDies s.power.level := Nat.min_le_left _ _

theorem dieLimit_le_levelMax (s : State) : dieLimit s ≤ levelDies (levelMax s) :=
  (Nat.min_le_right _ _).trans (Nat.min_le_left _ _)

theorem dieLimit_le_thermal (s : State) : dieLimit s ≤ thermalDies s.power.thermal s.power.level :=
  (Nat.min_le_right _ _).trans (Nat.min_le_right _ _)

/-! ### Which operations start -/

theorem startDies_length {k : Nat} (os : List DieOp) :
    ∀ {run : List DieOp}, run.length ≤ k → (startDies k run os).length ≤ k := by
  induction os with
  | nil => exact fun h => h
  | cons o os ih =>
    intro run h
    rw [startDies]
    split
    · next fits => exact ih (Nat.succ_le_of_lt fits.1)
    · exact ih h

theorem startDies_pairwise {k : Nat} (os : List DieOp) : ∀ {run : List DieOp}, run.Pairwise (fun a b => a.die ≠ b.die) →
    (startDies k run os).Pairwise (fun a b => a.die ≠ b.die) := by
  induction os with
  | nil => exact fun h => h
  | cons o os ih =>
    intro run h
    rw [startDies]
    split
    · next fits =>
      have free : ∀ x ∈ run, o.die ≠ x.die := fun x hx e =>
        fits.2 (List.any_eq_true.mpr ⟨x, hx, decide_eq_true e.symm⟩)
      exact ih (List.pairwise_cons.mpr ⟨free, h⟩)
    · exact ih h

theorem mem_startDies {k : Nat} {o : DieOp} (os : List DieOp) :
    ∀ {run : List DieOp}, o ∈ startDies k run os → o ∈ run ∨ o ∈ os := by
  induction os with
  | nil => exact fun h => .inl h
  | cons a os ih =>
    intro run h
    rw [startDies] at h
    split at h
    · rcases ih h with h | h
      · rcases List.mem_cons.mp h with h | h
        · exact .inr (h ▸ List.mem_cons_self)
        · exact .inl h
      · exact .inr (List.mem_cons_of_mem _ h)
    · exact (ih h).imp_right (List.mem_cons_of_mem _)

theorem placedOps_subset (os : List DieOp) : ∀ held : List DieOp, placedOps held os ⊆ os := by
  induction os with
  | nil => exact fun _ => List.Subset.refl _
  | cons a os ih =>
    intro held
    rw [placedOps]
    split
    · exact List.cons_subset_cons _ (ih _)
    · exact List.subset_cons_of_subset _ (ih _)

theorem activeOps_subset (s : State) : activeOps s ⊆ dieOrder s := fun o h => by
  rcases mem_startDies _ h with h | h
  · exact absurd h List.not_mem_nil
  · exact placedOps_subset _ _ (List.mem_of_mem_filter h)

/-! ### A program that runs is in flight -/

theorem progOps_index {s : State} {o : DieOp} {i : Nat} (w : o.work = .prog i) (ps : List Prog) :
    ∀ {k : Nat} {seen : List Nat}, o ∈ progOps s ps k seen → k ≤ i ∧ i < k + ps.length := by
  induction ps with
  | nil => exact fun h => absurd h List.not_mem_nil
  | cons p ps ih =>
    intro k seen h
    have later : ∀ {seen}, o ∈ progOps s ps (k + 1) seen → k ≤ i ∧ i < k + (p :: ps).length := fun m => by
      have := ih m
      rw [List.length_cons]
      omega
    rw [progOps] at h
    split at h
    · exact later h
    · rcases List.mem_append.mp h with h | h
      · split at h
        · rw [List.mem_singleton.mp h] at w
          cases w
          rw [List.length_cons]
          omega
        · exact absurd h List.not_mem_nil
      · exact later h

/-- Among the die operations in order, the programs are those of the programs in flight. -/
theorem mem_progOps_of_dieOrder {s : State} {o : DieOp} {i : Nat} (w : o.work = .prog i) (h : o ∈ dieOrder s) :
    o ∈ progOps s s.media.progs 0 [] := by
  have noRead : o ∉ readOps s := fun m => by
    obtain ⟨x, -, e⟩ := List.mem_filterMap.mp m
    obtain ⟨d, -, rfl⟩ := Option.map_eq_some_iff.mp e
    cases w
  have noErase : o ∉ eraseOps s := fun m => by
    obtain ⟨b, -, rfl⟩ := List.mem_map.mp m
    cases w
  rw [dieOrder] at h
  rcases List.mem_append.mp h with h | h
  · rcases List.mem_append.mp h with h | h
    · exact List.mem_of_mem_filter h
    · split at h
      · exact (List.mem_append.mp h).elim List.mem_of_mem_filter (fun m => absurd m noRead)
      · exact (List.mem_append.mp h).elim (fun m => absurd m noRead) List.mem_of_mem_filter
  · exact absurd h noErase

theorem progs_of_dieRuns {s : State} {i : Nat} (h : dieRuns s (.prog i) = true) : i < s.media.progs.length := by
  obtain ⟨o, run, w⟩ := List.any_eq_true.mp h
  have work : o.work = .prog i := of_decide_eq_true w
  have := (progOps_index work _ (mem_progOps_of_dieOrder work (activeOps_subset s run))).2
  omega

theorem not_dieRuns_of_progs {s : State} {i : Nat} (h : s.media.progs[i]? = none) : dieRuns s (.prog i) = false :=
  Bool.eq_false_iff.mpr fun c => absurd (progs_of_dieRuns c) (Nat.not_lt.mpr (List.getElem?_eq_none_iff.mp h))

end Sys2Proof.Proofs
end

section
/-!
What the commands of the flash array and of its upkeep do, command by command, branch by branch (ch. 13, 14).
-/

namespace Sys2Proof.Proofs

open Sys2Proof Machine Laws

/-! ### What staging a log record leaves (R600, R602) -/

/-- Staging a record changes the log, its marks and the programs of the media part. -/
theorem stageLog_media (s : State) (r : LogRec) : ∃ staged lsn lastLsn marks progs, (stageLog s r).media =
    { s.media with staged := staged, lsn := lsn, lastLsn := lastLsn, marks := marks, progs := progs } := by
  have issued (t : State) : ∃ staged progs, (issueLog t).media = { t.media with staged := staged, progs := progs } := by
    rw [issueLog]
    split
    · exact ⟨_, _, rfl⟩
    · exact ⟨_, _, rfl⟩
  have renewed (t : State) : ∃ staged lsn lastLsn marks, (renewMarks t).media =
      { t.media with staged := staged, lsn := lsn, lastLsn := lastLsn, marks := marks } := by
    rw [renewMarks]
    split
    · exact ⟨_, _, _, _, rfl⟩
    · exact ⟨_, _, _, _, rfl⟩
  obtain ⟨staged, lsn, lastLsn, marks, media⟩ := renewed (putLog s r)
  rw [stageLog]
  split
  · obtain ⟨staged', progs, media'⟩ := issued (renewMarks (putLog s r))
    exact ⟨staged', lsn, lastLsn, marks, progs, by rw [media', media]; rfl⟩
  · exact ⟨staged, lsn, lastLsn, marks, s.media.progs, by rw [media]; rfl⟩

section
variable (s : State) (r : LogRec)

theorem stageLog_segs : (stageLog s r).media.segs = s.media.segs := by
  obtain ⟨_, _, _, _, _, media⟩ := stageLog_media s r
  rw [media]

theorem bandOf_stageLog (n : Nat) : bandOf (stageLog s r) n = bandOf s n := by
  obtain ⟨_, _, _, _, _, media⟩ := stageLog_media s r
  unfold bandOf rawBand lostIn
  rw [media]

end

section
variable {s : State}

/-! ### Programs (R129, R142, R587, R602) -/

theorem programsRun_iff : programsRun s = true ↔ arrayRuns s = true ∧ coldNow s = false := by
  rw [programsRun, Bool.and_eq_true, Bool.not_eq_true']

section
variable (h : programsRun s = true)
include h

theorem exec_packedPageTimeout {x : StallNo} {b : Nat} {p : Pack} (k : AMap.find s.media.packs (x, b) = some p) :
    exec (.packedPageTimeout x b) s = .next (wakeWork (issuePack (advanceTo s (p.at_ + 10 * sec)) (x, b))) := by
  show execPackedPageTimeout x b s = _
  rw [execPackedPageTimeout, if_pos h, k]

theorem exec_packedPageTimeout_none {x : StallNo} {b : Nat} (k : AMap.find s.media.packs (x, b) = none) :
    exec (.packedPageTimeout x b) s = .next s := by
  show execPackedPageTimeout x b s = _
  rw [execPackedPageTimeout, if_pos h, k]

theorem exec_logProgram : exec .logProgram s = .next (wakeWork (issueLog s)) := by
  show execLogProgram s = _
  rw [execLogProgram, if_pos h]

end

theorem exec_programs_stopped (h : ¬ programsRun s = true) :
    exec .logProgram s = .next s ∧ ∀ x b, exec (.packedPageTimeout x b) s = .next s := by
  refine ⟨?_, fun x b => ?_⟩
  · show execLogProgram s = _
    rw [execLogProgram, if_neg h]
  · show execPackedPageTimeout x b s = _
    rw [execPackedPageTimeout, if_neg h]

theorem exec_flashProgramDone (i : Nat) : exec (.flashProgramDone i) s =
    .next (if arrayRuns s = true ∧ dieRuns s (.prog i) = true then schedRun (settle (programDone s i)) else s) := by
  show execFlashProgramDone i s = _
  rw [execFlashProgramDone]
  exact congrArg Host.Outcome.next (if_congr (by rw [Bool.and_eq_true]) rfl rfl)

theorem programDone_none {i : Nat} (h : s.media.progs[i]? = none) : programDone s i = s := by
  rw [programDone, h]

/-! ### Reads (R588, R612, R613, R629) -/

section
variable {l n i : Nat} {r : ReadOutcome} (h : arrayRuns s = true)
include h

theorem exec_flashReadDone_unmapped (k : AMap.find s.media.map l = none) : exec (.flashReadDone l r) s = .next s := by
  show execFlashReadDone l r s = _
  rw [execFlashReadDone, if_pos h, k]

theorem exec_flashReadDone_unqueued (k : AMap.find s.media.map l = some (n, i)) (q : startedRead s l = none) :
    exec (.flashReadDone l r) s = .next
      (if s.media.reads.any (fun x => decide (x.2 = l)) then s else pageRead (readPage s n i) n i r) := by
  show execFlashReadDone l r s = _
  rw [execFlashReadDone, if_pos h, k]
  simp only [q]

theorem exec_flashReadDone_started {j : Nat} (k : AMap.find s.media.map l = some (n, i)) (q : startedRead s l = some j) :
    exec (.flashReadDone l r) s = .next (schedRun (pageRead
      (readPage { s with media := { s.media with reads := dropNth s.media.reads j } } n i) n i r)) := by
  show execFlashReadDone l r s = _
  rw [execFlashReadDone, if_pos h, k]
  simp only [q]
  rfl

end

/-- A page whose stripe is lost too is lost; one that alone fails is rebuilt. -/
theorem pageRead_failed {n i : Nat} {p : PageRec} (h : (bandOf s n).pages.reverse[i]? = some p) :
    pageRead s n i .stripeLost = pageLost s n (bandOf s n) i p.recs ∧ pageRead s n i .uncorrectable = pageRebuilt s n i p := by
  refine ⟨?_, ?_⟩ <;> simp only [pageRead, h]

/-! ### Checkpoints (R599) -/

/-- A segment of the map or of the index, rewritten in the metadata bed, with its page staged in the log. -/
def segWritten (s : State) (n : Nat) (x : Bool) : State :=
  let t := putMeta s { kind := .checkpoint, pseq := 0, ltime := 0, lsn := s.media.lsn } 4096
  let t := updMedia t (fun m => { m with
    segs := { no := n, index := x, capture := s.media.lsn, at_ := t.clock.ledger }
      :: m.segs.filter (fun y => ! (decide (y.no = n) && decide (y.index = x))) })
  stageLog (if x then saveArcImage t else t) (.ckptSeg n x s.media.lsn)

theorem mem_segs_segWritten (s : State) (n : Nat) (x : Bool) :
    { no := n, index := x, capture := s.media.lsn, at_ := s.clock.ledger } ∈ (segWritten s n x).media.segs := by
  have clock : (putMeta s { kind := .checkpoint, pseq := 0, ltime := 0, lsn := s.media.lsn } 4096).clock = s.clock :=
    putMeta_changes.clock (by decide)
  rw [segWritten, stageLog_segs, ← clock]
  cases x
  · exact List.mem_cons_self
  · exact List.mem_cons_self

/-- The log without what every current segment has captured. -/
def logTrimmed (s : State) : State :=
  updMedia s (fun m => { m with log := m.log.filter (fun e => decide (lowCapture s ≤ e.lsn)) })

theorem logTrimmed_captured : ∀ e ∈ (logTrimmed s).media.log, lowCapture (logTrimmed s) ≤ e.lsn := fun _ h =>
  of_decide_eq_true (List.mem_filter.mp h).2

section
variable {n : Nat} {x : Bool}

theorem exec_checkpointSegment (h : arrayRuns s = true) (k : n < ckptSegments x) (b : (bedOf s .meta_ false).isSome = true) :
    exec (.checkpointSegment n x) s = .next (logTrimmed (segWritten s n x)) := by
  show execCheckpointSegment n x s = _
  rw [execCheckpointSegment, if_pos (by simp [h, k, b])]
  rfl

theorem exec_checkpointSegment_not (h : arrayRuns s = false ∨ ckptSegments x ≤ n) :
    exec (.checkpointSegment n x) s = .next s := by
  have stays : ¬ (arrayRuns s && decide (n < ckptSegments x) && (bedOf s .meta_ false).isSome) = true := by
    rcases h with h | h <;> simp [h]
  show execCheckpointSegment n x s = _
  rw [execCheckpointSegment, if_neg stays]

end

/-! ### Dies and shelters (R611, R613, R637) -/

section
variable (h : svcRuns s = true) (c : Fin 16) (t : Fin 8)
include h

theorem exec_dieFailed_shown {k : DieCause} (own : k ≠ .blocksRetired) : exec (.dieFailed c t k) s = .next (loseDie s c t) := by
  show execDieFailed c t k s = _
  rw [execDieFailed, if_pos ⟨h, .inl own⟩]

theorem exec_dieFailed_retired : exec (.dieFailed c t .blocksRetired) s =
    .next (if 64 ≤ retiredToday s c t then loseDie s c t else s) := by
  show execDieFailed c t .blocksRetired s = _
  rw [execDieFailed]
  exact congrArg Host.Outcome.next (if_congr (by simp [h]) rfl rfl)

end

/-- Before S03 neither a die nor a shelter is judged. -/
theorem exec_shelter_die_stopped (h : svcRuns s = false) (x : Bool) :
    exec (.shelterMoved x) s = .next s ∧ ∀ c t k, exec (.dieFailed c t k) s = .next s := by
  refine ⟨?_, fun c t k => ?_⟩
  · show execShelterMoved x s = _
    rw [execShelterMoved, if_neg (by simp [h])]
  · show execDieFailed c t k s = _
    rw [execDieFailed, if_neg (by simp [h])]

/-- Write-through while a shelter is replaced. -/
def sheltering (s : State) : State := { s with media := { s.media with shelterWt := true } }

/-- The band that the other shelter keeps. -/
def keptShelter (s : State) (x : Bool) : Nat := if x then s.media.shelterA else s.media.shelterB

/-- The band that has failed as a shelter. -/
def failedShelter (s : State) (x : Bool) : Nat := if x then s.media.shelterB else s.media.shelterA

/-- A band is changed, and its record staged in the log. -/
def recordBand (s : State) (n : Nat) (f : Band → Band) : State := stageLog (updBand s n f) (.band n)

theorem failedShelter_recordBand (s : State) (n : Nat) (f : Band → Band) (x : Bool) :
    failedShelter (recordBand s n f) x = failedShelter s x := by
  obtain ⟨_, _, _, _, _, media⟩ := stageLog_media (updBand s n f) (.band n)
  unfold failedShelter recordBand
  rw [media]
  rfl

theorem shelterWt_recordBand (s : State) (n : Nat) (f : Band → Band) :
    (recordBand s n f).media.shelterWt = s.media.shelterWt := by
  obtain ⟨_, _, _, _, _, media⟩ := stageLog_media (updBand s n f) (.band n)
  unfold recordBand
  rw [media]
  rfl

theorem bandOf_recordBand {n : Nat} {f : Band → Band} (h : (f (bandOf s n)).state ≠ .free) :
    bandOf (recordBand s n f) n = f (bandOf s n) :=
  (bandOf_stageLog _ _ n).trans (bandOf_put h)

/-- A band stands as the new shelter, still to be erased, and the failed one is closed. -/
def shelterNamed (s : State) (x : Bool) (n : Nat) : State :=
  recordBand (recordBand (updMedia (sheltering s) (fun m => if x then { m with shelterB := n } else { m with shelterA := n }))
    (failedShelter s x) (fun b => { b with state := .closed }))
    n (fun b => { b with state := .shelter, pslc := true, pages := [], presence := [] })

section
variable {x : Bool} {n : Nat}

theorem shelterNamed_shelter : failedShelter (shelterNamed s x n) x = n ∧ (shelterNamed s x n).media.shelterWt = true := by
  rw [shelterNamed, failedShelter_recordBand, failedShelter_recordBand, shelterWt_recordBand, shelterWt_recordBand]
  cases x
  · exact ⟨rfl, rfl⟩
  · exact ⟨rfl, rfl⟩

theorem bandOf_shelterNamed : (bandOf (shelterNamed s x n) n).state = .shelter ∧ (bandOf (shelterNamed s x n) n).pslc = true ∧
    (bandOf (shelterNamed s x n) n).pages = [] := by
  rw [shelterNamed, bandOf_recordBand (fun c => BandState.noConfusion c)]
  exact ⟨rfl, rfl, rfl⟩

variable (h : svcRuns s = true)
include h

theorem exec_shelterMoved_none (k : shelterPick (sheltering s) (keptShelter s x) = none) :
    exec (.shelterMoved x) s = .next (sheltering s) := by
  show execShelterMoved x s = _
  rw [execShelterMoved, if_pos h]
  change Host.Outcome.next (match shelterPick (sheltering s) (keptShelter s x) with | none => sheltering s | some n => _) = _
  rw [k]

theorem exec_shelterMoved (k : shelterPick (sheltering s) (keptShelter s x) = some n) :
    exec (.shelterMoved x) s = .next (gcRefresh (logEv (startErase (shelterNamed s x n) n .shelter 0) .shelterMoved
      { details := [(failedShelter s x : Int), (n : Int)] })) := by
  show execShelterMoved x s = _
  rw [execShelterMoved, if_pos h]
  change Host.Outcome.next (match shelterPick (sheltering s) (keptShelter s x) with | none => sheltering s | some n => _) = _
  rw [k]
  rfl

end

/-! ### Garbage collection (R622 to R625) -/

theorem exec_gcLoadWindow {n : Nat} (h : upkeepRuns s = true) : exec (.gcLoadWindow n) s =
    .next (background { s with upkeep := { s.upkeep with
      lowWindows := Nat.min (if n < 20 then s.upkeep.lowWindows + 1 else 0) 5
      bg := decide (n < 20) && decide (freeBands s < 256) &&
        (s.upkeep.bg || decide (5 ≤ (if n < 20 then s.upkeep.lowWindows + 1 else 0))) } }) := by
  show execGcLoadWindow n s = _
  rw [execGcLoadWindow, if_pos h]
  rfl

section
variable {n : Nat}

theorem exec_gcBandFreed_none (h : s.upkeep.victims.find? (fun v => decide (v.band = n)) = none) :
    exec (.gcBandFreed n) s = .next s := by
  show execGcBandFreed n s = _
  rw [execGcBandFreed, h]

section
variable {v : Victim} (h : s.upkeep.victims.find? (fun v => decide (v.band = n)) = some v)
include h

theorem exec_gcBandFreed_early (k : eraseOver s v = false) : exec (.gcBandFreed n) s = .next s := by
  show execGcBandFreed n s = _
  rw [execGcBandFreed, h]
  exact congrArg Host.Outcome.next (if_neg (by simp [k]))

/-- The band is no victim any more. -/
def victimDone (s : State) (n : Nat) : State :=
  { s with upkeep := { s.upkeep with victims := s.upkeep.victims.filter (fun x => decide (x.band ≠ n)) } }

theorem exec_gcBandFreed (run : arrayRuns s = true) (k : eraseOver s v = true) : exec (.gcBandFreed n) s = .next
    (if v.purpose = .shelter ∧ (bandOf s n).state = .shelter then
       { victimDone s n with media := { (victimDone s n).media with shelterWt := false } }
     else rerun (background (lifeCheck (gcRefresh (creditBand (freeBand (victimDone s n) n) v
       (bandCapacity (bandOf (victimDone s n) n)))))) .waitCredit) := by
  show execGcBandFreed n s = _
  rw [execGcBandFreed, h]
  exact congrArg Host.Outcome.next (if_pos (by simp [run, k]))

end

end

/-! ### Erases (R142, R635, R638) -/

section
variable {b : BlockId} {ok : Bool}

theorem exec_eraseDone_none (h : s.upkeep.victims.find? (fun v => v.left.contains b) = none) :
    exec (.eraseDone b ok) s = .next s := by
  show execEraseDone b ok s = _
  rw [execEraseDone, h]

theorem exec_eraseDone_idle (h : svcRuns s = false ∨ dieRuns s (.erase b) = false) : exec (.eraseDone b ok) s = .next s := by
  have idle : ¬ (svcRuns s && dieRuns s (.erase b)) = true := by rcases h with h | h <;> simp [h]
  show execEraseDone b ok s = _
  rw [execEraseDone]
  cases s.upkeep.victims.find? (fun v => v.left.contains b) with
  | none => rfl
  | some v => exact congrArg Host.Outcome.next (if_neg idle)

/-- A member's erase has reported: its victim waits for the others. -/
def memberReported (s : State) (v : Victim) (b : BlockId) : State :=
  { s with upkeep := { s.upkeep with victims := s.upkeep.victims.map (fun x =>
    if x.band = v.band then { x with left := x.left.filter (fun k => decide (k ≠ b)) } else x) } }

theorem exec_eraseDone {v : Victim} (h : s.upkeep.victims.find? (fun v => v.left.contains b) = some v)
    (svc : svcRuns s = true) (run : dieRuns s (.erase b) = true) : exec (.eraseDone b ok) s = .next
      (if ok then lifeCheck (eraseRec (blockErased (memberReported s v b) b) b .done v.purpose)
       else lifeCheck (retireBlock (eraseRec (blockErased (memberReported s v b) b) b .failed v.purpose) b .eraseFail)) := by
  show execEraseDone b ok s = _
  rw [execEraseDone, h]
  refine congrArg Host.Outcome.next ((if_pos (by simp [svc, run])).trans ?_)
  cases ok <;> rfl

end

/-! ### A program that fails (R635) -/

section
variable {i : Nat} {b : BlockId}

theorem exec_programFail_not (h : s.media.progs[i]? = none ∨ arrayRuns s = false) : exec (.programFail i b) s = .next s := by
  show execProgramFail i b s = _
  rw [execProgramFail]
  refine congrArg Host.Outcome.next (if_neg ?_)
  rintro ⟨run, started, -⟩
  rcases h with h | h
  · exact Bool.false_ne_true ((not_dieRuns_of_progs h).symm.trans started)
  · exact Bool.false_ne_true (h.symm.trans run)

/-- The block is marked as failing, and a PSEQ is spent. -/
def failMarked (s : State) (b : BlockId) : State :=
  updBlock (updMedia s (fun m => { m with pseq := m.pseq + 1 })) b (fun k => { k with failing := some .programFail })

theorem getBlock_failMarked : (getBlock (failMarked s b) b).failing = some .programFail := by
  unfold failMarked getBlock updBlock updMedia
  rw [AMap.getD, AMap.find_set_same]
  rfl

theorem exec_programFail (run : arrayRuns s = true) (started : dieRuns s (.prog i) = true)
    (opened : (bandOf s (bandOfBlock s b)).state = .open_)
    (member : (memberBlocks (bandOfBlock s b) (bandOf s (bandOfBlock s b))).contains b = true)
    (narrow : (bandOf s (bandOfBlock s b)).narrow = []) (absent : (bandOf s (bandOfBlock s b)).absent = []) :
    exec (.programFail i b) s = .next (stageLog (updBand (failMarked s b) (bandOfBlock s b) (fun d => { d with
      narrow := [(b.channel, nextStripe d)] })) (.band (bandOfBlock s b))) := by
  show execProgramFail i b s = _
  rw [execProgramFail]
  refine congrArg Host.Outcome.next ((if_pos ⟨run, started, opened, member, by simp [narrow]⟩).trans (if_pos ?_))
  simp [narrow, absent]

end

end

/-! ### The statement -/

/-- Settles O28, clause by clause, from what each command does. -/
theorem flashProgramsErasesAndUpkeepActAsTheirRulesSay : Obligations.FlashProgramsErasesAndUpkeepActAsTheirRulesSay := by
  refine ⟨?active, ?packed, ?log, ?stopped, ?programDone, ?noProgram, ?readDone, ?binEnd, ?checkpoint, ?checkpointNot, ?die,
    ?rebuild, ?shelter, ?shelterDieNot, ?loadWindow, ?reclaim, ?freedNone, ?freed, ?eraseNone, ?eraseIdle, ?erase,
    ?failNot, ?fail⟩
  case active =>
    exact fun s => ⟨startDies_length _ (Nat.zero_le _), startDies_pairwise _ List.Pairwise.nil, dieLimit_le_level s,
      dieLimit_le_levelMax s, dieLimit_le_thermal s⟩
  case packed =>
    intro s x b run warm
    have programs : programsRun s = true := programsRun_iff.mpr ⟨run, warm⟩
    exact ⟨fun p => exec_packedPageTimeout programs, exec_packedPageTimeout_none programs⟩
  case log => exact fun s run warm => exec_logProgram (programsRun_iff.mpr ⟨run, warm⟩)
  case stopped =>
    intro s x b h
    obtain ⟨log, packed⟩ := exec_programs_stopped (s := s) fun c => by
      obtain ⟨run, warm⟩ := programsRun_iff.mp c
      rcases h with h | h
      · exact Bool.false_ne_true (h.symm.trans run)
      · exact Bool.false_ne_true (warm.symm.trans h)
    exact ⟨log, packed x b⟩
  case programDone => exact fun s i => exec_flashProgramDone i
  case noProgram => exact fun s i => programDone_none
  case readDone =>
    refine fun s n r run => ⟨exec_flashReadDone_unmapped run, fun b i k => ⟨exec_flashReadDone_unqueued run k, ?_, ?_⟩⟩
    · rintro j u q rfl
      exact exec_flashReadDone_started run k q
    · exact fun p => pageRead_failed
  case binEnd => exact fun s n => rfl
  case checkpoint =>
    exact fun s n x run k b => ⟨_, exec_checkpointSegment run k b,
      ⟨_, mem_segs_segWritten s n x, rfl, rfl, rfl, rfl⟩, logTrimmed_captured⟩
  case checkpointNot => exact fun s n x => exec_checkpointSegment_not
  case die =>
    exact fun s c t h => ⟨exec_dieFailed_shown h c t (by decide), exec_dieFailed_shown h c t (by decide),
      exec_dieFailed_retired h c t⟩
  case rebuild => exact fun s => rfl
  case shelter =>
    rintro s x old keep u h failed rfl rfl
    have old_eq : old = (failedShelter s x : Int) := failed.trans (apply_ite Nat.cast _ _ _).symm
    subst old_eq
    exact ⟨exec_shelterMoved_none h, fun n k =>
      ⟨shelterNamed s x n, exec_shelterMoved h k, shelterNamed_shelter.1, shelterNamed_shelter.2, bandOf_shelterNamed⟩⟩
  case shelterDieNot => exact fun s x h => exec_shelter_die_stopped h x
  case loadWindow => exact fun s n => exec_gcLoadWindow
  case reclaim => exact fun s => rfl
  case freedNone => exact fun s n => exec_gcBandFreed_none
  case freed =>
    refine fun s n v h run => ⟨exec_gcBandFreed_early h, fun k => ?_⟩
    rintro u rfl
    rw [exec_gcBandFreed h run k]
    exact ⟨fun p st => congrArg Host.Outcome.next (if_pos ⟨p, st⟩),
      fun p => congrArg Host.Outcome.next (if_neg fun c => p c.1)⟩
  case eraseNone => exact fun s b ok => exec_eraseDone_none
  case eraseIdle => exact fun s b ok => exec_eraseDone_idle
  case erase => exact fun s b ok v h svc run => ⟨_, rfl, exec_eraseDone h svc run⟩
  case failNot => exact fun s i b => exec_programFail_not
  case fail =>
    rintro s i b n d rfl rfl run started opened member narrow absent
    exact ⟨failMarked s b, exec_programFail run started opened member narrow absent, rfl, getBlock_failMarked⟩

end Sys2Proof.Proofs
end

section
/-!
What every step does in every state: it gives a next state, and what only goes forward has not gone back.
-/

namespace Sys2Proof.Proofs

open Sys2Proof Machine Laws

/-! ### A step -/

/-- The state whose queue has lost the command at its front, if it had one. -/
def dequeued (s : State) : State := { s with pending := s.pending.drop 1 }

theorem dequeued_of_nil {s : State} (h : s.pending = []) : dequeued s = s := by rw [dequeued, h, List.drop_nil, ← h]

theorem step_of_nil {s : State} (h : s.pending = []) : step s = .next (tick s) := by rw [step, h]

theorem step_of_cons {s : State} {c : Instr} {r : List Instr} (h : s.pending = c :: r) :
    step s = exec c (dequeued s) := by rw [step, dequeued, h, List.drop_one, List.tail_cons]

/-- A step gives a next state that `Changes` speaks of, and takes the next SEQ anew only where its command ends S02. -/
theorem step_changes (s : State) : ∃ m, NextChanges m (dequeued s) (step s) ∧
    ((∀ c, s.pending.head? = some c → endsS02 c = false) → m.testBit 22 = false) := by
  cases h : s.pending with
  | nil =>
    rw [step_of_nil h, dequeued_of_nil h]
    exact ⟨2, .next tick_changes, fun _ => by decide⟩
  | cons c r =>
    obtain ⟨m, next, anew⟩ := exec_changes c (dequeued s)
    refine ⟨m, step_of_cons h ▸ next, fun k => ?_⟩
    have notS02 : endsS02 c = false := k c rfl
    exact Bool.eq_false_iff.mpr fun b => Bool.false_ne_true (notS02.symm.trans (anew b))

/-! ### The statement -/

/-- Settles O47: a step is within some mask (`step_changes`), and `Changes` holds what only goes forward. -/
theorem everyCommandRunsAndNothingGoesBack : Obligations.EveryCommandRunsAndNothingGoesBack := by
  refine ⟨fun s => ?runs, fun s t e => ?forward⟩
  case runs =>
    obtain ⟨_, ⟨t, e, _⟩, _⟩ := step_changes s
    exact ⟨t, e⟩
  case forward =>
    obtain ⟨m, ⟨u, e', g⟩, seq⟩ := step_changes s
    obtain rfl : u = t := by rw [e] at e'; cases e'; rfl
    exact ⟨g.pending, g.ledger_le, g.out_suffix, fun k => g.seq_le (seq k), g.sequence_le, g.epoch_le, g.inc_le, g.ticket_le,
      g.handle_le, g.wseq_le, g.freeze_le, g.everSet_keeps, g.fuses_sub, g.count_le, g.retired_keeps⟩

end Sys2Proof.Proofs
end

section
/-!
From the masks of `Changes` to the frames of the commands of the consoles, the management sessions and the configuration.
-/

namespace Sys2Proof.Proofs

open Sys2Proof Machine Laws

/-- Settles O38: each command's mask (its `_changes` law) is covered by the parts that its clause lists. -/
theorem consoleAndAttributeCommandsChangeOnlyTheirParts : Obligations.ConsoleAndAttributeCommandsChangeOnlyTheirParts := by
  refine ⟨?input, ?eventLineWindowEnd, ?sessions, ?mgmtConnect, ?mgmtIdleTimeout, ?attrGet, ?discardGroup, ?halt, ?writes,
    ?commits⟩
  case input =>
    rintro s t (⟨_, _, e⟩ | ⟨_, _, e⟩)
    · exact only_of_mask e execConsoleChar_changes (by decide)
    · exact only_of_mask e execConsoleBadLine_changes (by decide)
  case eventLineWindowEnd => exact fun s t ⟨_, e⟩ => only_of_mask e execEventLineWindowEnd_changes (by decide)
  case sessions =>
    rintro s t (⟨_, e⟩ | ⟨_, e⟩ | ⟨_, _, e⟩ | ⟨_, _, e⟩ | ⟨_, e⟩ | ⟨_, _, _, _, e⟩ | ⟨_, _, e⟩ | ⟨_, _, _, _, e⟩ | ⟨_, _, e⟩ |
      ⟨_, e⟩ | ⟨_, e⟩ | ⟨_, e⟩ | ⟨_, _, e⟩ | ⟨_, e⟩ | ⟨_, e⟩ | ⟨_, e⟩)
    · exact only_of_mask e execMgmtSessionClose_changes (by decide)
    · exact only_of_mask e execUnknownCommand_changes (by decide)
    · exact only_of_mask e execHelp_changes (by decide)
    · exact only_of_mask e execMode_changes (by decide)
    · exact only_of_mask e execWho_changes (by decide)
    · exact only_of_mask e execLog_changes (by decide)
    · exact only_of_mask e execLogFollow_changes (by decide)
    · exact only_of_mask e execWardenEnrol_changes (by decide)
    · exact only_of_mask e execWardenRemove_changes (by decide)
    · exact only_of_mask e execWardenShow_changes (by decide)
    · exact only_of_mask e execKvShow_changes (by decide)
    · exact only_of_mask e execKvStats_changes (by decide)
    · exact only_of_mask e execKvConns_changes (by decide)
    · exact only_of_mask e execKv1Show_changes (by decide)
    · exact only_of_mask e execConfigExport_changes (by decide)
    · exact only_of_mask e execResShow_changes (by decide)
  case mgmtConnect => exact fun s t ⟨_, _, _, _, _, e⟩ => only_of_mask e execMgmtConnect_changes (by decide)
  case mgmtIdleTimeout => exact fun s t ⟨_, e⟩ => only_of_mask e execMgmtIdleTimeout_changes (by decide)
  case attrGet => exact fun s t ⟨_, _, _, _, e⟩ => only_of_mask e execAttrGet_changes (by decide)
  case discardGroup => exact fun s t ⟨_, _, e⟩ => only_of_mask e execDiscardGroup_changes (by decide)
  case halt => exact fun s t ⟨_, e⟩ => only_of_mask e execHalt_changes (by decide)
  case writes =>
    rintro s t (⟨_, _, _, e⟩ | ⟨_, _, e⟩ | ⟨_, _, e⟩ | ⟨_, _, e⟩ | ⟨_, _, _, e⟩ | ⟨_, _, _, e⟩ | ⟨_, _, e⟩ | ⟨_, _, e⟩ |
      ⟨_, _, _, e⟩ | ⟨_, e⟩ | ⟨_, e⟩)
    · exact only_of_mask e execAttrSet_changes (by decide)
    · exact only_of_mask e execBayCfgWrite_changes (by decide)
    · exact only_of_mask e execTamperClear_changes (by decide)
    · exact only_of_mask e execPolicyPreferWrite_changes (by decide)
    · exact only_of_mask e execNetPhyCfgWrite_changes (by decide)
    · exact only_of_mask e execMaxFrameWrite_changes (by decide)
    · exact only_of_mask e execKvCfgWrite_changes (by decide)
    · exact only_of_mask e execRouteCfgWrite_changes (by decide)
    · exact only_of_mask e execMeterKindWrite_changes (by decide)
    · exact only_of_mask e execKv1Enable_changes (by decide)
    · exact only_of_mask e execKv1Disable_changes (by decide)
  case commits =>
    rintro s t (⟨_, _, e⟩ | ⟨_, _, _, e⟩ | ⟨_, _, e⟩ | ⟨_, _, _, _, e⟩)
    · exact only_of_mask e execCommitGroup_changes (by decide)
    · exact only_of_mask e execKv1Allow_changes (by decide)
    · exact only_of_mask e execKv1Deny_changes (by decide)
    · exact only_of_mask e execArcadeGrant_changes (by decide)

end Sys2Proof.Proofs
end

section
/-!
What a commit leaves of the configuration: all of its group at once, or nothing (R172, R173, R177).
-/

namespace Sys2Proof.Proofs

open Sys2Proof Machine Laws

/-- An answer leaves the configuration as it is. -/
theorem answer_cfg {s : State} {x : SessId} {tag : Option Nat} {r : Reply} : (answer s x tag r none).cfg = s.cfg :=
  (answer_changes (m := 1594240) (by decide) (by decide)).cfg (by decide)

theorem heard_cfg {s : State} {l : Line} : (heard s l).cfg = s.cfg := heard_changes.cfg (by decide)

theorem shadowOf_of_shadows {s t : State} {g : Group} (h : t.cfg.shadows = s.cfg.shadows) : shadowOf t g = shadowOf s g := by
  rw [shadowOf, h, shadowOf]

theorem cfgWord_of_store {s t : State} {a : Attr} (h : t.cfg.store = s.cfg.store) : cfgWord t a = cfgWord s a := by
  rw [cfgWord, h, cfgWord]

/-- A word with no field written is the active word. -/
theorem pendingWord_unwritten {s : State} {w : List (Attr × String × Nat)} {a : Attr} (h : ∀ x ∈ w, x.1 ≠ a) :
    pendingWord s w a = cfgWord s a := by
  have none_of_a : w.filter (fun x => decide (x.1 = a)) = [] := List.filter_eq_nil_iff.mpr fun x hx => by simpa using h x hx
  rw [pendingWord, none_of_a, List.foldl_nil]

/-- From the configuration of `s` to that of `t` a commit of a group with some written fields has been made (R173). -/
structure Committed (s t : State) (g : Group) (written : List (Attr × String × Nat)) : Prop where
  inside : ∀ a ∈ groupAttrs g, cfgWord t a = pendingWord s written a
  outside : ∀ a, a ∉ groupAttrs g → cfgWord t a = cfgWord s a
  shadow : shadowOf t g = none
  shadows : ∀ g', g' ≠ g → shadowOf t g' = shadowOf s g'
  sequence : t.cfg.sequence = s.cfg.sequence + 1

/-- It speaks of the configurations alone. -/
theorem Committed.congr {s s' t t' : State} {g : Group} {w : List (Attr × String × Nat)} (h : Committed s t g w)
    (hs : s'.cfg = s.cfg) (ht : t'.cfg = t.cfg) : Committed s' t' g w where
  inside a ha := by rw [cfgWord_of_cfg ht, pendingWord_of_cfg hs, h.inside a ha]
  outside a ha := by rw [cfgWord_of_cfg ht, cfgWord_of_cfg hs, h.outside a ha]
  shadow := (shadowOf_of_shadows (congrArg Cfg.shadows ht)).trans h.shadow
  shadows g' hg := by
    rw [shadowOf_of_shadows (congrArg Cfg.shadows ht), shadowOf_of_shadows (congrArg Cfg.shadows hs), h.shadows g' hg]
  sequence := by rw [ht, hs, h.sequence]

/-- Making the pending words of a group active commits it. -/
theorem committed_activate {s : State} {g : Group} {w : List (Attr × String × Nat)} :
    Committed s (activate s g ((groupAttrs g).map (fun a => (a, pendingWord s w a)))) g w := by
  obtain ⟨v, cfg, store, shadows, sequence⟩ := activate_cfg (s := s) (g := g)
    (ws := (groupAttrs g).map (fun a => (a, pendingWord s w a)))
  refine { inside := fun a ha => ?_, outside := fun a ha => ?_, shadow := ?_, shadows := fun g' hg => ?_, sequence }
  · rw [cfgWord_of_store store, storeWords_holds ha]
  · have unnamed : a ∉ ((groupAttrs g).map (fun a => (a, pendingWord s w a))).map (fun x => x.1) := by simpa using ha
    rw [cfgWord_of_store store, storeWords_keeps unnamed, cfgWord_of_cfg cfg]
  · rw [shadowOf, shadows, AMap.find_del_same]
  · rw [shadowOf, shadows, AMap.find_del_other _ hg, shadowOf]

theorem committed_tryCommit {s t : State} {g : Group} {x : SessId} {w : List (Attr × String × Nat)}
    (h : tryCommit s g x w = .ok t) : Committed s t g w := by
  obtain ⟨u, cfg, rfl⟩ := tryCommit_ok h
  simp only [← pendingWord_of_cfg cfg]
  exact committed_activate.congr cfg.symm rfl

/-- Settles O54: a commit that nothing refuses activates the pending words (`committed_activate`), any other only answers. -/
theorem aCommitReplacesItsWholeGroupAtOnceOrNothing : Obligations.ACommitReplacesItsWholeGroupAtOnceOrNothing := by
  refine ⟨fun s l d g h ok sh => ⟨_, commitGroup_some ok sh, ?_⟩, fun s w a => pendingWord_unwritten⟩
  have refused {r : Reply} : (answer (heard s l) l.sess l.tag r none).cfg = s.cfg := answer_cfg.trans heard_cfg
  cases stepDone s (groupStep g) with
  | false => exact .inr ⟨.inl rfl, refused⟩
  | true =>
    cases q : tryCommit (heard s l) g l.sess h.written with
    | error r =>
      refine .inr ⟨?_, refused⟩
      obtain rfl | ⟨n, rfl⟩ := tryCommit_error q
      · exact .inl rfl
      · exact .inr ⟨n, rfl⟩
    | ok t =>
      have c : Committed s (answer t l.sess l.tag
          (okLine [("", .name (groupName g)), ("sequence", vn t.cfg.sequence)]) none) g h.written :=
        (committed_tryCommit q).congr heard_cfg.symm answer_cfg
      have next : t.cfg.sequence = s.cfg.sequence + 1 := answer_cfg (s := t) ▸ c.sequence
      exact .inl ⟨⟨t, next ▸ rfl⟩, c.inside, c.outside, c.shadow, c.shadows, c.sequence⟩

end Sys2Proof.Proofs
end

section
/-!
Every number of the map reads back as what it names, and no other number does (R164, R165, R844); every KV2 and KV3 header
reads back as its fields (R372, R375 to R377).
-/

namespace Sys2Proof.Proofs

open Sys2Proof Machine Laws

/-! ### Codes and positions read back -/

@[simp] theorem inst_val {b : Nat} (k : Fin b) : inst k.val b = some k := dif_pos k.isLt

@[simp] theorem ofId_id (i : Island) : Island.ofId i.id = some i := by
  cases i with
  | media c =>
    have range : 0x10 ≤ 0x10 + c.val ∧ 0x10 + c.val < 0x20 := by omega
    rw [Island.id, Island.ofId, dif_pos range]
    · simp
    all_goals omega
  | _ => rfl

theorem id_lt (i : Island) : i.id < 0x100 := by
  cases i with
  | media c => rw [Island.id]; omega
  | _ => decide

@[simp] theorem ctrOfCode_ctrCode (c : Ctr) : ctrOfCode (ctrCode c) = some c := by cases c <;> rfl

/-- No counter has the code of HWFOLD. -/
theorem ctrCode_lt (c : Ctr) : ctrCode c < 0xFF := by cases c <;> decide

@[simp] theorem nth_indexIn_proto (c : ProtoCtr) : nth? protoCtrs (indexIn c protoCtrs) = some c := by cases c <;> rfl

@[simp] theorem nth_indexIn_arc (c : ArcCtr) : nth? arcCtrs (indexIn c arcCtrs) = some c := by cases c <;> rfl

@[simp] theorem nth_indexIn_health (c : HealthCtr) : nth? healthCtrs (indexIn c healthCtrs) = some c := by cases c <;> rfl

theorem indexIn_proto_lt (c : ProtoCtr) : indexIn c protoCtrs < 0x100 := by cases c <;> decide

theorem indexIn_arc_lt (c : ArcCtr) : indexIn c arcCtrs < 0x100 := by cases c <;> decide

theorem indexIn_health_lt (c : HealthCtr) : indexIn c healthCtrs < 0x100 := by cases c <;> decide

/-! ### A number is read by its island, group, member and position

`b` is the number at position 0 of a member. -/

section
variable {b i : Nat}

/-- The position stands in the last byte, and only there. -/
theorem bytes_of_position (first : b % 0x100 = 0) (hi : i < 0x100) : (b + i) / 0x1000000 = b / 0x1000000 ∧
    (b + i) / 0x10000 = b / 0x10000 ∧ (b + i) / 0x100 = b / 0x100 ∧ (b + i) % 0x100 = i := by omega

theorem attrOfNum_svc (isl : b / 0x1000000 = 0x00) (first : b % 0x100 = 0) (hi : i < 0x100) :
    attrOfNum (b + i) = svcAttr (b / 0x10000 % 0x100) (b / 0x100 % 0x100) i := by
  obtain ⟨h3, h2, h1, h0⟩ := bytes_of_position first hi
  simp only [attrOfNum, h3, h2, h1, h0, isl]

theorem attrOfNum_core (isl : b / 0x1000000 = 0x02) (first : b % 0x100 = 0) (hi : i < 0x100) :
    attrOfNum (b + i) = coreAttr (b / 0x10000 % 0x100) (b / 0x100 % 0x100) i := by
  obtain ⟨h3, h2, h1, h0⟩ := bytes_of_position first hi
  simp only [attrOfNum, h3, h2, h1, h0, isl]

theorem attrOfNum_small {x : Nat} (isl : b / 0x1000000 = x) (hx : x = 0x06 ∨ x = 0x07 ∨ x = 0x09)
    (first : b % 0x100 = 0) (hi : i < 0x100) :
    attrOfNum (b + i) = smallAttr x (b / 0x10000 % 0x100) (b / 0x100 % 0x100) i := by
  obtain ⟨h3, h2, h1, h0⟩ := bytes_of_position first hi
  rcases hx with rfl | rfl | rfl <;> simp only [attrOfNum, h3, h2, h1, h0, isl]

theorem attrOfNum_net {p : PortId} (inside : b < 0x1000000) (first : b % 0x100 = 0) (hi : i < 0x100) :
    attrOfNum (netBase p + b + i) = netAttr p (b / 0x10000 % 0x100) (b / 0x100 % 0x100) i := by
  obtain ⟨h3, h2, h1, h0⟩ := bytes_of_position (b := netBase p + b) (i := i) (by cases p <;> simp only [netBase] <;> omega) hi
  have g : (netBase p + b) / 0x10000 % 0x100 = b / 0x10000 % 0x100 := by cases p <;> simp only [netBase] <;> omega
  have m : (netBase p + b) / 0x100 % 0x100 = b / 0x100 % 0x100 := by cases p <;> simp only [netBase] <;> omega
  have isl : (netBase p + b) / 0x1000000 = netBase p / 0x1000000 := by cases p <;> simp only [netBase] <;> omega
  simp only [attrOfNum, h3, h2, h1, h0, g, m, isl]
  cases p <;> rfl

/-- WAKE_DATA's members run from 0x10, one for each word. -/
theorem netAttr_wakeData (p : PortId) (j : Fin 8) (k : Fin 4) : netAttr p 0x05 (0x10 + j.val) k.val = some (.wakeData p j k) := by
  have le : ¬ 0x10 + j.val < 0x10 := by omega
  rw [netAttr, if_neg le, Nat.add_sub_cancel_left]
  · simp only [inst_val, Option.bind_some, Option.map_some]
  all_goals omega

end

/-! ### Each way of the map -/

theorem attrOfNum_attrNum (a : Attr) : attrOfNum (attrNum a) = some a := by
  cases a with
  | isl i => exact (attrOfNum_svc rfl rfl (id_lt i)).trans (by simp [svcAttr])
  | kv1SrcHi k | kv1SrcLo k | kv1SrcCtrl k =>
    exact (attrOfNum_small rfl (by decide) rfl (by omega)).trans (by simp [smallAttr])
  | protoStat c => exact (attrOfNum_small rfl (by decide) rfl (indexIn_proto_lt c)).trans (by simp [smallAttr])
  | schedOps s | schedRd s | schedWr s | schedBf s | schedWeight s =>
    exact (attrOfNum_small rfl (by decide) rfl (by omega)).trans (by simp [smallAttr])
  | arcBankCfg b | arcBankStatus b => exact (attrOfNum_small rfl (by decide) rfl (by omega)).trans (by simp [smallAttr])
  | arcStat c => exact (attrOfNum_small rfl (by decide) rfl (indexIn_arc_lt c)).trans (by simp [smallAttr])
  | vlanKCfg k | vlanStallsLo k | vlanStallsHi k | ifCfg k | ifV4 k | ifV4gw k | ifV6Hi k | ifV6Lo k | ifV6gwHi k
    | ifV6gwLo k | lldpName k | ntpHi k | ntpLo k | healthTemp k | healthHoldup k =>
    exact (attrOfNum_core rfl rfl (by omega)).trans (by simp [coreAttr])
  | healthCtr c => exact (attrOfNum_core rfl rfl (indexIn_health_lt c)).trans (by simp [coreAttr])
  | stallState s | stallHost s | stallLateDiscard s | stallAborted s | quotaBytes s | quotaHold s | quotaObjects s
    | quotaTags s | retention s | meterCfg s | meterStored s | meterWritten s | meterRead s | meterOps s
    | meterShredded s | rowten s => exact (attrOfNum_core rfl rfl (by omega)).trans (by simp [coreAttr])
  | phyCfg p | phyStatus p | macAddr p | macCfg p | macDiag p | hwFold p | wakeCfg p => cases p <;> rfl
  | macFilter p k | wakeCtrl p k | wakeMask p k =>
    exact (attrOfNum_net (by decide) rfl (by omega)).trans (by simp [netAttr])
  | hwstat p c =>
    have lt := ctrCode_lt c
    exact (attrOfNum_net (by decide) rfl (by omega)).trans (by simp [netAttr, lt.ne])
  | stat p c =>
    have lt := ctrCode_lt c
    exact (attrOfNum_net (by decide) rfl (by omega)).trans (by simp [netAttr])
  | wakeData p j k =>
    have num : attrNum (.wakeData p j k) = netBase p + (0x051000 + 0x100 * j.val) + k.val := by rw [attrNum, Nat.add_assoc (netBase p)]
    have g : (0x051000 + 0x100 * j.val) / 0x10000 % 0x100 = 0x05 := by omega
    have m : (0x051000 + 0x100 * j.val) / 0x100 % 0x100 = 0x10 + j.val := by omega
    rw [num, attrOfNum_net (by omega) (by omega) (by omega), g, m, netAttr_wakeData]
  | _ => rfl

theorem attrNum_of_attrOfNum {n : Nat} {a : Attr} (h : attrOfNum n = some a) : attrNum a = n := by
  unfold attrOfNum at h
  dsimp only at h
  split at h
  next isl => rw [svc_back h]; omega
  next isl => rw [core_back h]; omega
  next isl => rw [net_back h, netBase]; omega
  next isl => rw [net_back h, netBase]; omega
  next => rw [small_back h]; omega

/-! ### Headers -/

/-- A number that fits its bytes is read back from the front. -/
theorem leNat_slice_front {k v : Nat} {b : List Byte} (h : v < 256 ^ k) : leNat (slice (leBytes k v ++ b) 0 k) = v := by
  rw [slice_take, leNat_leBytes k v h]

section
variable {h : Hdr}

/-- The first 60 bytes, whatever follows them, hold SYNC and the fields. -/
theorem fields_of_hdrBytes60 {bs : List Byte} (r : List Byte) (e : bs = hdrBytes60 h ++ r) (fits : h.fits) :
    leNat (slice bs 0 4) = sync23 ∧ leNat (slice bs 4 1) = h.gen ∧ leNat (slice bs 5 1) = h.kind ∧
    leNat (slice bs 6 1) = h.opcode ∧ leNat (slice bs 7 1) = h.channel ∧ leNat (slice bs 8 8) = h.reqId ∧
    leNat (slice bs 16 4) = h.dataLen ∧ leNat (slice bs 20 1) = h.stall + 128 * (h.reserved % 2) ∧
    leNat (slice bs 21 1) = h.keyLen ∧ leNat (slice bs 22 2) = h.tagCount + 8 * (h.reserved / 2) ∧
    leNat (slice bs 24 4) = h.generation ∧ leNat (slice bs 28 2) = h.status ∧ leNat (slice bs 30 2) = h.flags ∧
    leNat (slice bs 32 8) = h.version ∧ leNat (slice bs 40 8) = h.incarnation ∧ leNat (slice bs 48 8) = h.arg ∧
    leNat (slice bs 56 4) = h.detail := by
  obtain ⟨gen, kind, opcode, channel, reqId, dataLen, stall, keyLen, tagCount, reserved, generation, status, flags, version,
    incarnation, arg, detail⟩ := fits
  have sync : sync23 < 256 ^ 4 := by decide
  rw [e]
  simp only [hdrBytes60, List.append_assoc]
  refine ⟨leNat_slice_front sync, ?_, ?_, ?_, ?_, ?_, ?_, ?_, ?_, ?_, ?_, ?_, ?_, ?_, ?_, ?_, ?_⟩ <;>
    (simp (disch := omega) only [slice_skip, Nat.reduceSub]; exact leNat_slice_front (by omega))

/-- The reserved bits share bytes with STALL and with TAG_COUNT, and each is found again. -/
theorem reserved_apart {x t r : Nat} (hx : x < 2 ^ 7) (ht : t < 2 ^ 3) : (x + 128 * (r % 2)) % 128 = x ∧
    (t + 8 * (r / 2)) % 8 = t ∧ (x + 128 * (r % 2)) / 128 + 2 * ((t + 8 * (r / 2)) / 8) = r := by omega

theorem hdrOf_hdrBytes (bs : List Byte) (fits : h.fits) : hdrOf (hdrBytes h ++ bs) = some h := by
  have parts : hdrBytes h ++ bs = hdrBytes60 h ++ (leBytes 4 (crc32c (hdrBytes60 h)) ++ bs) := List.append_assoc _ _ _
  have long : ¬ (hdrBytes h ++ bs).length < 64 := by
    simp only [parts, List.length_append, hdr60_length, leBytes_length]; omega
  have crc : leNat (slice (hdrBytes h ++ bs) 60 4) = crc32c ((hdrBytes h ++ bs).take 60) := by
    have bound : crc32c (hdrBytes60 h) < 256 ^ 4 := lt_of_lt_of_eq (crc_lt _) (by norm_num)
    have back := leNat_slice_front (b := bs) bound
    rw [slice, List.drop_zero] at back
    rw [slice, parts, List.drop_left' (hdr60_length h), List.take_left' (hdr60_length h), back]
  have fields := fields_of_hdrBytes60 _ parts fits
  generalize hdrBytes h ++ bs = b at long crc fields ⊢
  obtain ⟨sync, gen, kind, opcode, channel, reqId, dataLen, byte20, keyLen, word22, generation, status, flags, version,
    incarnation, arg, detail⟩ := fields
  obtain ⟨_, _, _, _, _, _, stall, _, tagCount, _⟩ := fits
  obtain ⟨stall_back, tags_back, reserved_back⟩ := reserved_apart (r := h.reserved) stall tagCount
  rw [hdrOf, if_neg long, if_neg (not_not.mpr sync), if_neg (not_not.mpr crc)]
  simp only [gen, kind, opcode, channel, reqId, dataLen, byte20, keyLen, word22, generation, status, flags, version,
    incarnation, arg, detail, stall_back, tags_back, reserved_back]

end

/-! ### The statement -/

/-- Settles O44: the map of numbers read and written agree, each way, and so do the bytes of a header. -/
theorem attributeNumbersAndFrameHeadersSpellWhatTheyName : Obligations.AttributeNumbersAndFrameHeadersSpellWhatTheyName :=
  ⟨fun _ a => ⟨attrNum_of_attrOfNum, fun e => e ▸ attrOfNum_attrNum a⟩, fun _ bs fits => hdrOf_hdrBytes bs fits⟩

end Sys2Proof.Proofs
end

section
/-!
What the commands of the islands, the gatehouse and the DRAM do, command by command, branch by branch (ch. 04).
-/

namespace Sys2Proof.Proofs

open Sys2Proof Machine Laws

section
variable {s : State} {i : Island}

/-! ### Faults, handshakes and watchdogs of an island (R144, R145, R149, R151, R816) -/

/-- What ISLAND_FAULT reports lies outside the island's limits: ±5 % of its clock, or ±8 % of its supply. -/
def OutOfLimits (c : FaultCause) (f v : Int) : Prop := c = .clock ∧ 500 < f.natAbs ∨ c = .voltage ∧ 80 < v.natAbs

theorem faultable_of_up (h : (getIsl s i).state = .run ∨ (getIsl s i).state = .gated) : faultable s i = true := by
  rw [faultable, islUp_of_up h, Bool.true_or]

theorem faultable_of_down (h : (getIsl s i).state = .off ∨ (getIsl s i).state = .dead ∨ (getIsl s i).state = .isolated)
    (u : s.life.under ≠ some i) : faultable s i = false := by
  rw [faultable, not_islUp_of h, decide_eq_false u, Bool.false_and, Bool.false_or]

section
variable {c : FaultCause} {f v : Int}

theorem exec_islandFault_outside (h : faultable s i = true) (out : OutOfLimits c f v) : exec (.islandFault i c f v) s =
    .next (islandFaulted (updIslRec s i (fun d => { d with freqDev := f, voltDev := v })) i c) := by
  show execIslandFault i c f v s = _
  obtain ⟨rfl, off⟩ | ⟨rfl, off⟩ := out <;> simp only [execIslandFault, h, off, decide_true, Bool.and_self, if_true]

theorem exec_islandFault_inside (inside : ¬ OutOfLimits c f v) : exec (.islandFault i c f v) s = .next s := by
  obtain ⟨clock, voltage⟩ := not_or.mp inside
  show execIslandFault i c f v s = _
  cases c with
  | clock =>
    have small : ¬ 500 < f.natAbs := fun b => clock ⟨rfl, b⟩
    simp [execIslandFault, small]
  | voltage =>
    have small : ¬ 80 < v.natAbs := fun b => voltage ⟨rfl, b⟩
    simp [execIslandFault, small]
  | _ => simp [execIslandFault]

theorem exec_islandFault_unfaultable (h : faultable s i = false) : exec (.islandFault i c f v) s = .next s := by
  show execIslandFault i c f v s = _
  simp only [execIslandFault, h, Bool.false_and, Bool.false_eq_true, if_false]

end

theorem exec_watchdogExpiry (h : faultable s i = true) : exec (.watchdogExpiry i) s = .next
    (if i = .pwr then gateFault (noteWatchdog s) .watchdog
     else if i.essential then essentialFault (countFault (noteWatchdog s) i .watchdog) i .watchdog
     else deadIsland (noteWatchdog s) i .watchdog) := congrArg Host.Outcome.next (if_pos h)

theorem exec_watchdogExpiry_unfaultable (h : faultable s i = false) : exec (.watchdogExpiry i) s = .next s :=
  congrArg Host.Outcome.next (if_neg (by rw [h]; exact Bool.false_ne_true))

section
variable {q : Requester}

/-- The state in which a handshake's timeout has been logged, its work item completed as island absent. -/
def handshakeLogged (s : State) (i : Island) (q : Requester) : State :=
  logEv (itemAbsent s i q.item) .handshakeTimeout { island := some i, details := [(q.island.id : Int)] }

/-- The times at which handshakes of the island timed out within the last second, this one among them. -/
def recentTimeouts (u : State) (i : Island) : List Nat :=
  u.clock.ledger :: (getIsl u i).timeouts.filter (fun t => decide (u.clock.ledger < t + 1000000))

theorem exec_handshakeTimeout (h : islUp s i = true) : exec (.handshakeTimeout i q) s = .next
    (if 3 ≤ (recentTimeouts (handshakeLogged s i q) i).length
     then islandFaulted (updIslRec (handshakeLogged s i q) i (fun d => { d with timeouts := [] })) i .handshakeTimeout
     else updIslRec (handshakeLogged s i q) i (fun d => { d with timeouts := recentTimeouts (handshakeLogged s i q) i })) :=
  congrArg Host.Outcome.next (if_pos h)

theorem exec_handshakeTimeout_down (h : islUp s i = false) : exec (.handshakeTimeout i q) s = .next s :=
  congrArg Host.Outcome.next (if_neg (by rw [h]; exact Bool.false_ne_true))

end

/-! ### The gatehouse (R145, R153 to R155) -/

theorem exec_gatehouseWatchdog (h : islUp s .pwr = true) :
    exec .gatehouseWatchdog s = .next (gateFault (noteWatchdog s) .watchdog) := congrArg Host.Outcome.next (if_pos h)

theorem exec_referenceClockLoss (h : islUp s .svc = true) :
    exec .referenceClockLoss s = .next (essentialFault (countFault s .svc .clock) .svc .clock) :=
  congrArg Host.Outcome.next (if_pos h)

section
variable {t : Nat} {c : FaultCause}

theorem exec_gatehouseReset (h : s.isl.gateReset = some (t, c)) : exec .gatehouseReset s =
    .next (logEv (noteWatchdog { s with isl := { s.isl with gateReset := none } }) .gatehouseReset {}) := by
  show execGatehouseReset s = _
  simp only [execGatehouseReset, h, updIsl]

theorem exec_gatehouseResetTimeout (h : s.isl.gateReset = some (t, c)) : exec .gatehouseResetTimeout s =
    .next (essentialFault { advanceTo s (t + 50000) with isl := { s.isl with gateReset := none } } .pwr c) := by
  show execGatehouseResetTimeout s = _
  simp only [execGatehouseResetTimeout, h, updIsl, advanceTo_isl]

theorem exec_gatehouseReset_none (h : s.isl.gateReset = none) : exec .gatehouseReset s = .next s := by
  show execGatehouseReset s = _
  rw [execGatehouseReset, h]

theorem exec_gatehouseResetTimeout_none (h : s.isl.gateReset = none) : exec .gatehouseResetTimeout s = .next s := by
  show execGatehouseResetTimeout s = _
  rw [execGatehouseResetTimeout, h]

end

/-! ### Gating (R148, R151) -/

theorem exec_islandGate : exec (.islandGate i) s = .next
    (if (getIsl s i).state = .run ∧ i.essential = false ∧ hasWork s i = false then setIsl s i .gated else s) :=
  congrArg Host.Outcome.next (if_congr (by rw [islState, Bool.not_eq_true]) rfl rfl)

theorem exec_islandWake : exec (.islandWake i) s = .next (if (getIsl s i).state = .gated then setIsl s i .run else s) := rfl

theorem getIsl_setIsl_same (x : IslState) : (getIsl (setIsl s i x) i).state = x := by rw [setIsl, getIsl_updIslRec_same]

/-! ### DRAM (R160, R161) -/

section
variable (h : islUp s .dram = true)
include h

theorem exec_dramCorrected (n : Nat) : exec (.dramCorrected n) s =
    .next { s with isl := { s.isl with eccCorrected := sat (s.isl.eccCorrected + n) (2 ^ 64 - 1) } } :=
  congrArg Host.Outcome.next (if_pos h)

theorem exec_dramScrub : exec .dramScrub s = .next { s with isl := { s.isl with scrubAt := s.clock.ledger } } :=
  congrArg Host.Outcome.next (if_pos h)

theorem exec_dramUncorrectable (r : DramRegion) (ks : List ObjKey) : exec (.dramUncorrectable r ks) s = .next (match r with
    | .writeBuffer => if ks.any (inBuffer s) then ks.foldl loseBuffered s
        else logEv s .dramUncorrectable { reason := 5, details := [0] }
    | .firmware => essentialFault (countFault (logEv s .dramUncorrectable { reason := 6, details := [0] }) .dram .none_) .dram .none_
    | .cache => logEv s .dramUncorrectable { reason := 1, details := [0] }
    | r => { logEv s .dramUncorrectable { reason := regionCode r, details := [0] } with
        isl := { s.isl with rebuilding := s.isl.rebuilding ++ [(r, ks)] } }) := by
  show execDramUncorrectable r ks s = _
  unfold execDramUncorrectable
  rw [if_pos h]
  cases r with
  | writeBuffer | firmware | cache => rfl
  | map | blockTable | index => simp only [updIsl, logEv_isl]

end

/-- The oldest rebuild of its region ends; here it is the oldest of all. -/
theorem exec_dramRebuildDone {r : DramRegion} {ks : List ObjKey} {rest : List (DramRegion × List ObjKey)}
    (h : s.isl.rebuilding = (r, ks) :: rest) :
    exec (.dramRebuildDone r) s = .next { s with isl := { s.isl with rebuilding := rest } } := by
  have first : dropFirst (fun x => decide (x.1 = r)) s.isl.rebuilding = rest := by rw [h, dropFirst, if_pos (by simp)]
  show execDramRebuildDone r s = _
  rw [execDramRebuildDone, updIsl, first]

end

/-! ### The statement -/

/-- Settles O6, clause by clause, from what each command does. -/
theorem islandsFaultGateAndWakeAsTheirChapterSays : Obligations.IslandsFaultGateAndWakeAsTheirChapterSays := by
  refine ⟨?fault, ?down, ?handshake, ?watchdog, ?gateWatchdog, ?clockLoss, ?gateReset, ?gateIdle, ?gate, ?wake, ?set, ?dram,
    ?rebuilt⟩
  case fault => exact fun s i c f v up => ⟨exec_islandFault_outside (faultable_of_up up), exec_islandFault_inside⟩
  case down =>
    intro s i c f v down u
    have unfaultable := faultable_of_down down u
    exact ⟨exec_islandFault_unfaultable unfaultable, exec_watchdogExpiry_unfaultable unfaultable,
      fun q => exec_handshakeTimeout_down (not_islUp_of down)⟩
  case handshake => exact fun s i q up => ⟨_, _, rfl, rfl, exec_handshakeTimeout (islUp_of_up up)⟩
  case watchdog => exact fun s i up => exec_watchdogExpiry (faultable_of_up up)
  case gateWatchdog => exact fun s run => exec_gatehouseWatchdog (islUp_of_up (.inl run))
  case clockLoss => exact fun s run => exec_referenceClockLoss (islUp_of_up (.inl run))
  case gateReset => exact fun s t c waits => ⟨exec_gatehouseReset waits, exec_gatehouseResetTimeout waits⟩
  case gateIdle => exact fun s idle => ⟨exec_gatehouseReset_none idle, exec_gatehouseResetTimeout_none idle⟩
  case gate => exact fun s i => exec_islandGate
  case wake => exact fun s i => exec_islandWake
  case set => exact fun s i => getIsl_setIsl_same
  case dram =>
    intro s n run
    have up := islUp_of_up (.inl run)
    exact ⟨exec_dramCorrected up n, exec_dramScrub up, exec_dramUncorrectable up⟩
  case rebuilt => exact fun s r ks rest => exec_dramRebuildDone

end Sys2Proof.Proofs
end

section
/-!
The event log, the checkpoint ring and the boot ledger (R211, R363, R368, R850, R851): in order at reset, and kept in order by
every step.
-/

namespace Sys2Proof.Proofs

open Sys2Proof Machine Laws

/-- A change that `Changes` speaks of keeps each of the three stores, so it keeps them all. -/
theorem storesOk_of_changes {m : Nat} {s t : State} (g : Changes m s t) (h : StoresOk s) : StoresOk t :=
  ⟨g.logOk h.log, g.clockOk h.clock, g.bootOk h.boot⟩

/-- The queue is none of the stores. -/
theorem storesOk_dequeued {s : State} (h : StoresOk s) : StoresOk (dequeued s) := ⟨h.log, h.clock, h.boot⟩

/-- Settles O45: a step loses the command at the queue's front and is within some mask (`step_changes`). -/
theorem everyStepKeepsTheStoresOfTheDrive : Obligations.EveryStepKeepsTheStoresOfTheDrive := by
  intro s t ok e
  obtain ⟨m, ⟨u, e', g⟩, -⟩ := step_changes s
  obtain rfl : u = t := by rw [e] at e'; cases e'; rfl
  exact storesOk_of_changes g (storesOk_dequeued ok)

/-! ### At reset -/

/-- A log without a record is in order, whatever its next SEQ. -/
theorem logOk_empty (n : Nat) : LogOk { nextSeq := n } where
  ring_le := Nat.zero_le _
  bed_le := Nat.zero_le _
  carried_le := Nat.zero_le _
  waiting_le := Nat.zero_le _
  falling := .nil
  copied := .nil
  below := fun _ h => absurd h List.not_mem_nil
  bedBelow := fun _ h => absurd h List.not_mem_nil

/-- A ring of one checkpoint is in order once ledger time has reached it. -/
theorem clockOk_single {c : Clock} {k : Ckpt} (e : c.ckpts = [k]) (reached : k.ltime ≤ c.ledger) : ClockOk c where
  ring_le := by rw [e, List.length_singleton]; decide
  reached := by
    intro x hx
    obtain rfl : x = k := List.mem_singleton.mp (e ▸ hx)
    exact reached
  ordered := by
    rw [e, List.map_singleton]
    exact List.pairwise_singleton _ _

/-- Settles O46: no event and no step record at reset, and the factory's HALT checkpoint is of ledger time 0. -/
theorem theStoresAreInOrderAtReset : Obligations.TheStoresAreInOrderAtReset where
  log := logOk_empty _
  clock := clockOk_single rfl (Nat.le_refl 0)
  boot := Nat.zero_le 2016

end Sys2Proof.Proofs
end

section
/-!
What the commands of a start do, command by command, branch by branch: S01 begins, a step ends, fails or runs out of time, and
the ledger is cleared (ch. 05).
-/

namespace Sys2Proof.Proofs

open Sys2Proof Machine Laws

section
variable {s : State}

/-! ### S01 begins (R184, R193) -/

theorem powered_iff : powered s = true ↔ s.phase ≠ .off := by
  unfold powered
  cases s.phase <;> simp

section
variable {p : PortId} {r : RtcReading}

theorem exec_detectionVoltage_off (h : s.phase = .off) :
    exec (.detectionVoltage p r) s = .next (beginStart (updFeed s p (fun f => { f with detect := true })) r) :=
  congrArg Host.Outcome.next (if_neg fun on : powered s = true => powered_iff.mp on h)

theorem exec_detectionVoltage_powered (h : s.phase ≠ .off) :
    exec (.detectionVoltage p r) s = .next (updFeed s p (fun f => { f with detect := true })) :=
  congrArg Host.Outcome.next (if_pos (show powered s = true from powered_iff.mpr h))

theorem exec_startBegin (h : s.phase = .restarting) : exec (.startBegin r) s = .next (
    let u := beginStart s r
    { u with boot := { u.boot with
      firstPower := if (getFeed u .p0).powered || (getFeed u .p1).powered then some u.boot.s01At else none } }) :=
  congrArg Host.Outcome.next (if_pos h)

end

/-- The gatehouse's alternative leaves a start in S01. -/
theorem beginStart_opens (s : State) (r : RtcReading) :
    (beginStart s r).phase = .starting ∧ (beginStart s r).boot.step = 1 ∧ (beginStart s r).boot.fg = 1 := gateAlt_boot _

/-! ### A step completes (R182) -/

theorem stepOpen_iff {n : Nat} :
    stepOpen s n = true ↔ s.phase = .starting ∧ (s.boot.fg = n ∨ s.boot.scan = some n) ∧ n ≠ 0 := by
  simp [stepOpen, starting, and_assoc]

section
variable {d : StepData}

theorem exec_startStepComplete (h : stepOpen s (stepOf d) = true) : exec (.startStepComplete d) s = .next (finishStep s d) :=
  congrArg Host.Outcome.next (if_pos h)

theorem exec_startStepComplete_shut (h : ¬ stepOpen s (stepOf d) = true) : exec (.startStepComplete d) s = .next s :=
  congrArg Host.Outcome.next (if_neg h)

end

/-! ### A step fails (R185) -/

section
variable {n x : Nat}

/-- A check of S05 to S08 that fails ends the start, whatever alternative the step runs. -/
theorem exec_startStepFail (h : stepOpen s n = true) (lo : 5 ≤ n) (hi : n ≤ 8) :
    exec (.startStepFail n x) s = .next (failStep s n .fail x) := by
  have opened : ¬ (! stepOpen s n) = true := by simp [h]
  refine congrArg Host.Outcome.next ((if_neg opened).trans ?_)
  obtain rfl | rfl | rfl | rfl : n = 5 ∨ n = 6 ∨ n = 7 ∨ n = 8 := by omega
  all_goals rfl

/-- Open or not, S02, S09 and S17 to S21 have no check that fails them. -/
theorem exec_startStepFail_never (h : n = 2 ∨ n = 9 ∨ 17 ≤ n ∧ n ≤ 21) : exec (.startStepFail n x) s = .next s := by
  obtain rfl | rfl | rfl | rfl | rfl | rfl | rfl : n = 2 ∨ n = 9 ∨ n = 17 ∨ n = 18 ∨ n = 19 ∨ n = 20 ∨ n = 21 := by omega
  all_goals exact congrArg Host.Outcome.next (ite_self s)

end

/-! ### A step's time is over (R185, R201) -/

theorem exec_startStepTimeout {n t : Nat} {d : StepData} (h : stepOpen s n = true) (noScan : n ≠ 11 ∨ s.boot.scan = none)
    (noHold : n ≠ 16 ∨ s.boot.hotHold = none) (limit : stepSeconds n = some t) :
    exec (.startStepTimeout n d) s = .next (timeoutStep (advanceTo s (begunAt s n + t * 1000000)) n d) := by
  have notScan : ¬ (starting s = true ∧ n = 11 ∧ s.boot.scan.isSome = true) := by
    rintro ⟨-, rfl, scan⟩
    simp [noScan.resolve_left (fun k => k rfl)] at scan
  have notHeld : (decide (n = 16) && s.boot.hotHold.isSome) = false := by
    rcases noHold with k | k <;> simp [k]
  show execStartStepTimeout n d s = _
  simp only [execStartStepTimeout, if_neg notScan, h, notHeld, Bool.not_true, Bool.or_self, Bool.false_eq_true, if_false,
    limit, sec]

/-! ### S16 and S17 (R203, R204) -/

section
variable {t : Nat}

theorem exec_startHotHold (h : s.boot.hotHold = some t) : exec .startHotHold s = .next (logEv
    { advanceTo s (t + 60 * 1000000) with boot := { s.boot with
      hotHold := some (advanceTo s (t + 60 * 1000000)).clock.ledger } }
    .startHotHold { details := [s.power.flashMax] }) := by
  show execStartHotHold s = _
  simp only [execStartHotHold, h, updBoot, advanceTo_boot, advanceTo_power, sec]

theorem exec_s17LinkRetry (h : stepOpen s 17 = true) (a : (getPort s .p0).link = false) (b : (getPort s .p1).link = false) :
    exec .s17LinkRetry s = .next ((trainedPorts s).foldl train s) :=
  congrArg Host.Outcome.next (if_pos (by simp [h, a, b]))

theorem exec_s17Complete {a b : Bool} (h : stepOpen s 17 = true) (k : s.boot.s17Link = some t) :
    exec (.s17Complete a b) s = .next (endS17 (updPort
      (updPort (advanceTo s (t + 10 * 1000000)) .p0 (fun d => { d with energy := a || d.link }))
      .p1 (fun d => { d with energy := b || d.link }))) := by
  show execS17Complete a b s = _
  rw [execS17Complete, if_neg (by simp [h]), k]
  rfl

end

/-! ### The ledger is cleared (R215) -/

/-- The counts, marks and cause are cleared, and the CLEAR record is written. -/
def ledgerCleared (s : State) : State :=
  updLife (putStep (writeBlock s clearedBlock) s.boot.gateStartNo 0 .clear .ok 0 0) (fun d => { d with cleared := true })

theorem ledgerCleared_block : (ledgerCleared s).boot.blk = { clearedBlock s.boot.blk with updateSeq := s.boot.blk.updateSeq + 1 } :=
  rfl

theorem ledgerCleared_record : ∃ x, (ledgerCleared s).boot.ring.head? = some x ∧ x.kind = .clear := ⟨_, rfl, rfl⟩

theorem exec_startClear {l : Line} {d : Session} (ok : Accepts s l { safe := true, priv := true } none d) :
    exec (.startClear l) s = .next (answer (logEv (ledgerCleared (heard s l)) .startCleared {}) l.sess l.tag (.ok []) none) := by
  show execStartClear l s = _
  rw [execStartClear, runCmd_accepts ok]
  rfl

end

/-! ### The statement -/

/-- Settles O7, clause by clause, from what each command does. -/
theorem startStepsBeginEndAndFailAsTheStartChapterSays : Obligations.StartStepsBeginEndAndFailAsTheStartChapterSays := by
  refine ⟨?unpowered, ?powered, ?restart, ?s01, ?complete, ?completeShut, ?lastAction, ?fail, ?never, ?first, ?restarts, ?safe,
    ?timeout, ?hotHold, ?retry, ?s17, ?clear⟩
  case unpowered => exact fun s p r => exec_detectionVoltage_off
  case powered => exact fun s p r => exec_detectionVoltage_powered
  case restart => exact fun s r h => ⟨_, rfl, exec_startBegin h⟩
  case s01 => exact beginStart_opens
  case complete => exact fun s d start step nz => exec_startStepComplete (stepOpen_of start step nz)
  case completeShut =>
    refine fun s d h => exec_startStepComplete_shut fun o => ?_
    obtain ⟨start, step, -⟩ := stepOpen_iff.mp o
    exact h.elim (fun k => k start) (fun ⟨fg, scan⟩ => step.elim fg scan)
  case lastAction => exact fun s => ⟨rfl, rfl, rfl, rfl, rfl⟩
  case fail => exact fun s n x start fg lo hi => exec_startStepFail (stepOpen_of start (.inl fg) (by omega)) lo hi
  case never => exact fun s n x => exec_startStepFail_never
  case first => exact fun s n r x few => by rw [failStep_phase, if_neg fun k => by omega]
  case restarts => exact fun s n r x n3 n4 => by rw [failStep_phase, if_neg fun k => by omega]
  case safe => exact fun s n r x step many => by rw [failStep_phase, if_pos ⟨many, step⟩]
  case timeout =>
    exact fun s n d t start fg nz noScan noHold => exec_startStepTimeout (stepOpen_of start (.inl fg) nz) noScan noHold
  case hotHold => exact fun s t => exec_startHotHold
  case retry => exact fun s start fg => exec_s17LinkRetry (stepOpen_of start (.inl fg) (by decide))
  case s17 => exact fun s a b t start fg => exec_s17Complete (stepOpen_of start (.inl fg) (by decide))
  case clear =>
    intro s l d ok
    refine ⟨ledgerCleared (heard s l), exec_startClear ok, ?_⟩
    rw [ledgerCleared_block]
    exact ⟨rfl, rfl, rfl, rfl, rfl, ledgerCleared_record⟩

end Sys2Proof.Proofs
end

section
/-!
From the masks of `Changes` to the frames of the commands of the ports, the addresses and time.
-/

namespace Sys2Proof.Proofs

open Sys2Proof Machine Laws

/-- Settles O39: each command's mask (its `_changes` law) is covered by the parts that its clause lists. -/
theorem portAddressAndTimeCommandsChangeOnlyTheirParts : Obligations.PortAddressAndTimeCommandsChangeOnlyTheirParts := by
  refine ⟨?clockWrites, ?icmpPacketTooBig, ?pauses, ?packets, ?lldpNeighbourExpiry, ?lacpduReceive, ?retries, ?counters,
    ?timeEvents, ?shows, ?bonds, ?linkDown, ?frameReceive, ?frameFcsResult, ?frameSent, ?wallTime, ?linkUp, ?addrDuplicate,
    ?addresses⟩
  case clockWrites =>
    rintro s t (e | e)
    · exact only_of_mask e execRtcWrite_changes (by decide)
    · exact only_of_mask e execLedgerCheckpoint_changes (by decide)
  case icmpPacketTooBig => exact fun s t ⟨_, _, e⟩ => only_of_mask e execIcmpPacketTooBig_changes (by decide)
  case pauses =>
    rintro s t (⟨_, e⟩ | ⟨_, _, e⟩ | ⟨_, e⟩)
    · exact only_of_mask e execLacpduTransmit_changes (by decide)
    · exact only_of_mask e execPauseExpiry_changes (by decide)
    · exact only_of_mask e execPauseStormEnd_changes (by decide)
  case packets =>
    rintro s t (⟨_, _, _, _, e⟩ | ⟨_, e⟩ | ⟨_, _, _, _, e⟩ | ⟨_, _, _, _, _, e⟩)
    · exact only_of_mask e execClosedPortPacket_changes (by decide)
    · exact only_of_mask e execRaTimeout_changes (by decide)
    · exact only_of_mask e execNeighbourSolicit_changes (by decide)
    · exact only_of_mask e execIcmpEcho_changes (by decide)
  case lldpNeighbourExpiry => exact fun s t ⟨_, _, _, e⟩ => only_of_mask e execLldpNeighbourExpiry_changes (by decide)
  case lacpduReceive => exact fun s t ⟨_, _, e⟩ => only_of_mask e execLacpduReceive_changes (by decide)
  case retries =>
    rintro s t (⟨_, e⟩ | ⟨_, _, e⟩)
    · exact only_of_mask e execDhcpRetransmit_changes (by decide)
    · exact only_of_mask e execAddrRetry_changes (by decide)
  case counters =>
    rintro s t (⟨_, _, e⟩ | ⟨_, _, e⟩ | ⟨_, _, _, e⟩ | ⟨_, _, e⟩ | ⟨_, _, e⟩ | ⟨_, _, e⟩ | ⟨_, _, e⟩ | ⟨_, _, e⟩)
    · exact only_of_mask e execPauseFrame_changes (by decide)
    · exact only_of_mask e execPfcFrame_changes (by decide)
    · exact only_of_mask e execHwstatFold_changes (by decide)
    · exact only_of_mask e execLinkDownshift_changes (by decide)
    · exact only_of_mask e execCounterHalf_changes (by decide)
    · exact only_of_mask e execCounterFold_changes (by decide)
    · exact only_of_mask e execCounterSaturated_changes (by decide)
    · exact only_of_mask e execRouterAdvertisement_changes (by decide)
  case timeEvents =>
    rintro s t (⟨_, e⟩ | e | e | ⟨_, e⟩ | ⟨_, _, e⟩ | ⟨_, e⟩)
    · exact only_of_mask e execPtpAnnounce_changes (by decide)
    · exact only_of_mask e execPtpAnnounceTimeout_changes (by decide)
    · exact only_of_mask e execTimeStepRefused_changes (by decide)
    · exact only_of_mask e execPauseStorm_changes (by decide)
    · exact only_of_mask e execDhcpv6Receive_changes (by decide)
    · exact only_of_mask e execNtpPoll_changes (by decide)
  case shows =>
    rintro s t (⟨_, _, e⟩ | ⟨_, _, _, e⟩ | ⟨_, _, e⟩ | ⟨_, _, _, e⟩ | ⟨_, _, e⟩ | ⟨_, e⟩ | ⟨_, _, e⟩ | ⟨_, e⟩ | ⟨_, _, e⟩)
    · exact only_of_mask e execPortShow_changes (by decide)
    · exact only_of_mask e execPortStats_changes (by decide)
    · exact only_of_mask e execPortStatsClear_changes (by decide)
    · exact only_of_mask e execPortCaptureRead_changes (by decide)
    · exact only_of_mask e execNetShow_changes (by decide)
    · exact only_of_mask e execNetStats_changes (by decide)
    · exact only_of_mask e execNetLldp_changes (by decide)
    · exact only_of_mask e execTimeShow_changes (by decide)
    · exact only_of_mask e execNetRenew_changes (by decide)
  case bonds =>
    rintro s t (⟨_, e⟩ | e)
    · exact only_of_mask e execLagNoPartner_changes (by decide)
    · exact only_of_mask e execBondRevert_changes (by decide)
  case linkDown =>
    rintro s t (⟨_, e⟩ | ⟨_, _, e⟩)
    · exact only_of_mask e execLinkDown_changes (by decide)
    · exact only_of_mask e execLldpReceive_changes (by decide)
  case frameReceive => exact fun s t ⟨_, _, e⟩ => only_of_mask e execFrameReceive_changes (by decide)
  case frameFcsResult => exact fun s t ⟨_, _, e⟩ => only_of_mask e execFrameFcsResult_changes (by decide)
  case frameSent => exact fun s t ⟨_, e⟩ => only_of_mask e execFrameSent_changes (by decide)
  case wallTime =>
    rintro s t (⟨_, e⟩ | ⟨_, _, e⟩ | ⟨_, _, e⟩ | ⟨_, e⟩)
    · exact only_of_mask e execPtpMessage_changes (by decide)
    · exact only_of_mask e execNtpResponse_changes (by decide)
    · exact only_of_mask e execTimeSet_changes (by decide)
    · exact only_of_mask e execTimeAccept_changes (by decide)
  case linkUp => exact fun s t ⟨_, _, _, e⟩ => only_of_mask e execLinkUp_changes (by decide)
  case addrDuplicate => exact fun s t ⟨_, _, e⟩ => only_of_mask e execAddrDuplicate_changes (by decide)
  case addresses =>
    rintro s t (⟨_, _, e⟩ | ⟨_, _, e⟩ | ⟨_, _, e⟩)
    · exact only_of_mask e execDhcpv4Receive_changes (by decide)
    · exact only_of_mask e execAddrProbeDone_changes (by decide)
    · exact only_of_mask e execAddrLost_changes (by decide)

end Sys2Proof.Proofs
end

section
/-!
What a step is: a command at the front of the queue, a word, an empty queue (log 4).
-/

namespace Sys2Proof.Proofs

open Sys2Proof Machine Laws

section
variable {s : State}

/-- Without power ledger time stands still. -/
theorem advanceTo_off {t : Nat} (h : s.phase = .off) : advanceTo s t = s := by rw [advanceTo, h]

/-- With power the clock moves on, and nothing else. -/
theorem advanceTo_powered {t : Nat} (h : s.phase ≠ .off) :
    advanceTo s t = { s with clock := moveClock (svcRuns s) s.clock t } := by
  unfold advanceTo
  split
  · exact absurd ‹_› h
  · rfl

theorem tick_off (h : s.phase = .off) : tick s = s := advanceTo_off h

theorem tick_ledger (h : s.phase ≠ .off) : (tick s).clock.ledger = s.clock.ledger + 1 := by
  have moved : tick s = { s with clock := moveClock (svcRuns s) s.clock (s.clock.ledger + 1) } := advanceTo_powered h
  rw [moved]
  exact moveClock_ledger.trans (Nat.max_eq_right (Nat.le_succ _))

end

/-- Settles O48: a queue that holds a command gives it to `exec`, an empty one is a `tick`. -/
theorem aStepRunsTheCommandAtTheFrontOfTheQueue : Obligations.AStepRunsTheCommandAtTheFrontOfTheQueue := by
  refine ⟨?front, ?queue, ?word, ?off, ?powered⟩
  case front => exact fun c s => rfl
  case queue =>
    intro c s r h
    rw [step, h]
  case word => exact fun n w s => ⟨rfl, rfl⟩
  case off =>
    intro s empty off
    rw [step_of_nil empty, tick_off off]
  case powered =>
    exact fun s empty on => ⟨tick s, step_of_nil empty, tick_ledger on,
      only_of_mask rfl (.next (tick_changes (s := s))) (by decide)⟩

end Sys2Proof.Proofs
end

section
/-!
What the commands of the Fimor console do, command by command, branch by branch: characters, bad lines, modes, management
sessions and wardens, and the console reads of the data parts (ch. 06).
-/

namespace Sys2Proof.Proofs

open Sys2Proof Machine Laws

section
variable {s : State}

/-! ### Characters (R228 to R237) -/

/-- A session is deaf: J-CON in LINE_FAULT (R80), or a console while SVC is under test (R797). -/
def DeafSess (s : State) (x : SessId) : Prop :=
  (x = .jcon ∧ s.bay.lineFault = true) ∨ (¬ isMgmt x = true ∧ consolesPaused s = true)

/-- A session that hears is not deaf. -/
theorem not_deafSess {x : SessId} (line : x = .jcon → s.bay.lineFault = false)
    (paused : isMgmt x = true ∨ consolesPaused s = false) : ¬ DeafSess s x := by
  rintro (⟨jcon, fault⟩ | ⟨console, test⟩)
  · exact Bool.false_ne_true ((line jcon).symm.trans fault)
  · exact paused.elim console fun running => Bool.false_ne_true (running.symm.trans test)

section
variable {x : SessId} {c : Byte}

theorem exec_consoleChar_none (h : getSess s x = none) : exec (.consoleChar x c) s = .next s := by
  show execConsoleChar x c s = _
  rw [execConsoleChar, h]

theorem exec_consoleChar_deaf (h : DeafSess s x) : exec (.consoleChar x c) s = .next s := by
  cases hd : getSess s x with
  | none => exact exec_consoleChar_none hd
  | some d =>
    show execConsoleChar x c s = _
    rw [execConsoleChar, hd]
    exact congrArg Host.Outcome.next (if_pos h)

theorem exec_consoleChar {d : Session} (hd : getSess s x = some d) (h : ¬ DeafSess s x) : exec (.consoleChar x c) s =
    .next (putEcho (updSess s x (fun d => (feedChar d c).1)) x (feedChar d c).2) := by
  show execConsoleChar x c s = _
  rw [execConsoleChar, hd]
  exact congrArg Host.Outcome.next (if_neg h)

end

/-- Only typed mode echoes (R235, R238). -/
theorem takeChar_machine {d : Session} (h : d.machine = true) (c : Byte) : (takeChar d c).2 = "" := by
  unfold takeChar
  simp only [h, if_true]
  split_ifs <;> rfl

/-- There is no echo in machine mode, nor of what is typed while a command runs (R237). -/
theorem feedChar_silent {d : Session} (h : d.machine = true ∨ d.slots ≠ []) (c : Byte) : (feedChar d c).2 = "" := by
  unfold feedChar
  split
  · rfl
  · rename_i ahead
    refine takeChar_machine ?_ c
    rcases h with machine | busy
    · exact machine
    · by_contra typed
      exact ahead ⟨typed, by simpa [List.isEmpty_iff] using busy⟩

/-! ### Bad lines (R229, R230, R238, R240, R241) -/

theorem exec_consoleBadLine {x : SessId} {t : List Byte} {d : Session} (hd : getSess s x = some d) (h : ¬ DeafSess s x) :
    exec (.consoleBadLine x t) s = .next (match lineFaultOf d.machine d.crc t with
      | none => s
      | some e => putReply (updSess s x (fun d => { d with lineReady := none, lastRx := s.clock.ledger })) x
          (if d.machine then lineTag t else none) (.err e)) := by
  show execConsoleBadLine x t s = _
  rw [execConsoleBadLine, hd]
  refine congrArg Host.Outcome.next ((if_neg h).trans ?_)
  cases lineFaultOf d.machine d.crc t <;> rfl

section
variable {m c : Bool} {t : List Byte}

theorem lineFaultOf_long (h : 255 < t.length) : lineFaultOf m c t = some .lineTooLong := if_pos h

theorem lineFaultOf_badChar (short : t.length ≤ 255) (h : ∃ b ∈ t, lineCharOk b = false) :
    lineFaultOf m c t = some .badChar := by
  have bad : t.any (fun b => ! lineCharOk b) = true := by simpa using h
  rw [lineFaultOf, if_neg (Nat.not_lt.mpr short), if_pos bad]

/-- What is wrong with a line of at most 255 accepted characters is its tag or its CRC. -/
theorem lineFaultOf_wellFormed (short : t.length ≤ 255) (h : ∀ b ∈ t, lineCharOk b = true) : lineFaultOf m c t =
    if ! m then none
    else if (lineTag t).isNone then some .noTag
    else match lineSuffix t with
      | some v => if crc16 (t.take (t.length - 5)) = v then none else some .crc
      | none => if c then some .crcMissing else none := by
  have good : ¬ t.any (fun b => ! lineCharOk b) = true := by simpa using h
  exact (if_neg (Nat.not_lt.mpr short)).trans (if_neg good)

end

/-! ### mode, log follow, halt (R227, R244, R251, R256) -/

section
variable {l : Line} {d : Session}

theorem exec_mode_report (h : Accepts s l {} none d) : exec (.mode l .report) s = .next (answer (heard s l) l.sess l.tag
    (okLine [("mode", .name (modeName d.machine)), ("crc", .name (onOff d.crc)), ("follow", .name (onOff d.follow))]) none) := by
  show execMode l .report s = _
  rw [execMode, runCmd_accepts h]
  simp only [getSess_heard h.sess]

theorem exec_mode_typed (h : Accepts s l {} none d) : exec (.mode l .typed) s = .next
    (if isMgmt l.sess then answer (heard s l) l.sess l.tag (.err .mode) none
      else answer (heard s l) l.sess l.tag (.ok []) (some (.mode false false))) := by
  show execMode l .typed s = _
  rw [execMode, runCmd_accepts h]
  cases isMgmt l.sess <;> rfl

theorem exec_mode_machine (h : Accepts s l {} none d) (c : Bool) : exec (.mode l (.machine c)) s =
    .next (answer (heard s l) l.sess l.tag (.ok []) (some (.mode true c))) := by
  show execMode l (.machine c) s = _
  rw [execMode, runCmd_accepts h]
  rfl

theorem exec_halt (h : Accepts s l {} none d) : exec (.halt l) s =
    .next (answer (heard s l) l.sess l.tag (okLine [("", .name "halting")]) (some (.halt .halt))) := by
  show execHalt l s = _
  rw [execHalt, runCmd_accepts h]

theorem exec_logFollow {b : Bool} (h : Accepts s l { safe := true, hold := true } none d) : exec (.logFollow l b) s =
    .next (answer (updSess (heard s l) l.sess (fun d => { d with follow := b })) l.sess l.tag
      (okLine [("follow", .name (onOff b))]) none) := by
  show execLogFollow l b s = _
  rw [execLogFollow, runCmd_accepts h]

end

/-- A mode takes effect after its answer; a session that turns to typed mode is prompted. -/
theorem runAfter_mode {x : SessId} {m c : Bool} {d : Session} (h : getSess s x = some d) : runAfter s x (some (.mode m c)) =
    (if d.machine = true ∧ m = false then putText (updSess s x (fun d => { d with machine := m, crc := c })) x 5 prompt
     else updSess s x (fun d => { d with machine := m, crc := c })) := by
  simp only [runAfter, h, Option.map_some, Option.getD_some, Bool.not_eq_true]

/-! ### Event windows (R245) -/

section
variable {x : SessId} {d : Session} (hd : getSess s x = some d)
include hd

theorem exec_eventLineWindowEnd {t : Nat} (h : d.evWindow = some t) :
    exec (.eventLineWindowEnd x) s = .next (closeEvWindow (advanceTo s (t + 1000000)) x) := by
  show execEventLineWindowEnd x s = _
  rw [execEventLineWindowEnd, hd]
  simp only [h, sec]

theorem exec_eventLineWindowEnd_none (h : d.evWindow = none) : exec (.eventLineWindowEnd x) s = .next s := by
  show execEventLineWindowEnd x s = _
  rw [execEventLineWindowEnd, hd]
  simp only [h]

end

/-! ### The handshake of a management session (R223 to R225) -/

/-- What the drive agrees is TLS 1.3, and a suite and a group that the client offers. -/
theorem tlsAgreed_offered {c : TlsClient} {x : TlsSuite × TlsGroup} (h : tlsAgreed c = some x) :
    c.tls13 = true ∧ x.1 ∈ c.suites ∧ x.2 ∈ c.groups := by
  unfold tlsAgreed at h
  split at h
  case isFalse => cases h
  case isTrue tls13 =>
    split at h
    case h_2 => cases h
    case h_1 suite group hs hg =>
      cases h
      exact ⟨tls13, by simpa using List.find?_some hs, by simpa using List.find?_some hg⟩

/-- The session that a completed handshake opens. -/
def mgmtSession (s : State) (i : IfNo) (la a : IpAddr) (w : Fin 4) (x : TlsSuite × TlsGroup) : Session :=
  { machine := true, warden := some w, lastRx := s.clock.ledger, startWall := wallNow s, peer := a, local_ := la, ifc := i
    mss := cfgField s (.macCfg ((ipPort s 0).getD .p0)) "MAX_FRAME", tls := some (x.1, x.2, ownCertificate s) }

section
variable {i : IfNo} {la a : IpAddr} {fp : List Byte} {c : TlsClient}

theorem exec_mgmtConnect_shut (h : s.proto.listening = false ∨ running s = false ∨ serviceOn s i 3 = false) :
    exec (.mgmtConnect i la fp c a) s = .next s := by
  have shut : ¬ (listening s = true ∧ serviceOn s i 3 = true) := by
    rcases h with h | h | h <;> simp [listening, h]
  exact congrArg Host.Outcome.next (if_pos shut)

section
variable (h : s.proto.listening = true) (hr : running s = true) (hs : serviceOn s i 3 = true)
include h hr hs

/-- While the listeners are open, a handshake is judged by what is agreed, the fingerprint, the dates and the free places. -/
theorem exec_mgmtConnect_open : exec (.mgmtConnect i la fp c a) s = .next (
    match tlsAgreed c, wardenOf s fp with
    | some x, some w =>
      if ! (c.validDates || ! s.clock.everSet) then denyMgmt s fp a
      else match freeMgmt s with
        | none => turnAway s a
        | some k =>
          if 2 ≤ sessionsOf s w then turnAway s a
          else openSess (updFw s (fun f => { f with sessionSeen := true })) (.mgmt k) (mgmtSession s i la a w x)
    | _, _ => denyMgmt s fp a) := by
  have listens : ¬ ¬ (listening s = true ∧ serviceOn s i 3 = true) := not_not_intro ⟨by simp [listening, h, hr], hs⟩
  refine congrArg Host.Outcome.next ((if_neg listens).trans ?_)
  cases tlsAgreed c with
  | none => rfl
  | some x => cases wardenOf s fp <;> rfl

theorem exec_mgmtConnect_denied
    (k : tlsAgreed c = none ∨ wardenOf s fp = none ∨ (c.validDates = false ∧ s.clock.everSet = true)) :
    exec (.mgmtConnect i la fp c a) s = .next (denyMgmt s fp a) := by
  rw [exec_mgmtConnect_open h hr hs]
  cases ht : tlsAgreed c with
  | none => rfl
  | some x =>
    cases hw : wardenOf s fp with
    | none => rfl
    | some w =>
      obtain ⟨invalid, set⟩ : c.validDates = false ∧ s.clock.everSet = true := by simpa [ht, hw] using k
      simp only [invalid, set, Bool.not_true, Bool.or_self, Bool.not_false, if_true]

section
variable {w : Fin 4} {x : TlsSuite × TlsGroup} (ht : tlsAgreed c = some x) (hw : wardenOf s fp = some w)
  (dates : c.validDates = true ∨ s.clock.everSet = false)
include ht hw dates

/-- An enrolled certificate within its dates needs a free place and fewer than two sessions of its warden. -/
theorem exec_mgmtConnect_enrolled : exec (.mgmtConnect i la fp c a) s = .next (
    match freeMgmt s with
    | none => turnAway s a
    | some k =>
      if 2 ≤ sessionsOf s w then turnAway s a
      else openSess (updFw s (fun f => { f with sessionSeen := true })) (.mgmt k) (mgmtSession s i la a w x)) := by
  have valid : ¬ (! (c.validDates || ! s.clock.everSet)) = true := by rcases dates with d | d <;> simp [d]
  rw [exec_mgmtConnect_open h hr hs]
  simp only [ht, hw, if_neg valid]

theorem exec_mgmtConnect_away (full : freeMgmt s = none ∨ 2 ≤ sessionsOf s w) :
    exec (.mgmtConnect i la fp c a) s = .next (turnAway s a) := by
  rw [exec_mgmtConnect_enrolled h hr hs ht hw dates]
  cases hk : freeMgmt s with
  | none => rfl
  | some k => exact congrArg Host.Outcome.next (if_pos (full.resolve_left (by simp [hk])))

theorem exec_mgmtConnect_opens {k : Fin 8} (free : freeMgmt s = some k) (few : sessionsOf s w < 2) :
    exec (.mgmtConnect i la fp c a) s = .next
      (openSess (updFw s (fun f => { f with sessionSeen := true })) (.mgmt k) (mgmtSession s i la a w x)) := by
  rw [exec_mgmtConnect_enrolled h hr hs ht hw dates, free]
  exact congrArg Host.Outcome.next (if_neg (Nat.not_le.mpr few))

end

end

end

section
variable {x : SessId} {d : Session}

/-- A session opens under the next serial number. -/
theorem getSess_openSess_same : getSess (openSess s x d) x = some { d with serial := s.con.nextSerial } :=
  AMap.find_set_same _ _ _

theorem getSess_openSess_other {y : SessId} (h : y ≠ x) : getSess (openSess s x d) y = getSess s y :=
  AMap.find_set_other _ _ h

end

/-! ### The end of a management session (R226) -/

theorem exec_mgmtIdleTimeout {k : Fin 8} {d : Session} (h : getSess s (.mgmt k) = some d) :
    exec (.mgmtIdleTimeout k) s = .next (closeMgmt (advanceTo s (d.lastRx + 600 * 1000000)) k 1) := by
  show execMgmtIdleTimeout k s = _
  rw [execMgmtIdleTimeout, h]
  rfl

theorem exec_mgmtIdleTimeout_none {k : Fin 8} (h : getSess s (.mgmt k) = none) : exec (.mgmtIdleTimeout k) s = .next s := by
  show execMgmtIdleTimeout k s = _
  rw [execMgmtIdleTimeout, h]

theorem closeMgmt_unopened {k : Fin 8} {r : Nat} (h : getSess s (.mgmt k) = none) : closeMgmt s k r = s := by
  rw [closeMgmt, h]

/-! ### Wardens (R257, R258, R501) -/

/-- A fingerprint enrolled in a warden's slot (R257). -/
def wardenIn (s : State) (w : Fin 4) (fp : List Byte) (nm : Option String) : State :=
  updCon s (fun c => { c with wardens := AMap.set c.wardens w { fp := fp, name := nm } })

theorem wardenIn_slot (s : State) (w : Fin 4) (fp : List Byte) (nm : Option String) :
    AMap.find (wardenIn s w fp nm).con.wardens w = some { fp := fp, name := nm } := AMap.find_set_same _ _ _

/-- A warden's slot emptied and its stalls without an owner (R258, R501). -/
def wardenGone (s : State) (w : Fin 4) : State :=
  updStalls (updCon s (fun c => { c with wardens := AMap.del c.wardens w })) (fun c => { c with
    tab := c.tab.map (fun x => (x.1, if x.2.owner = some w then { x.2 with owner := none } else x.2)) })

theorem wardenGone_slot (s : State) (w : Fin 4) : AMap.find (wardenGone s w).con.wardens w = none := AMap.find_del_same _ _

theorem wardenGone_owner (s : State) (w : Fin 4) : ∀ x ∈ (wardenGone s w).stalls.tab, x.2.owner ≠ some w := by
  intro x hx
  obtain ⟨y, -, rfl⟩ := List.mem_map.mp hx
  dsimp only
  split
  · exact (Option.some_ne_none w).symm
  · assumption

section
variable {l : Line} {d : Session} {w : Fin 4} {fp : List Byte} {nm : Option String}

theorem accepts_wardenArg (h : Accepts s l { priv := true } none d) :
    Accepts s l { priv := true } (rangeErr (w.val : Int) 0 3) d := by rwa [(wardenArg_val w).2]

variable (h : Accepts s l { priv := true } none d)
include h

/-- What `warden enrol` finds decides: a used slot, a fingerprint enrolled elsewhere, or neither (R257). -/
theorem exec_wardenEnrol : exec (.wardenEnrol l w.val fp nm) s = .next (
    if (AMap.find s.con.wardens w).isSome then answer (heard s l) l.sess l.tag (.err .slotUsed) none
    else if (wardenOf s fp).isSome then answer (heard s l) l.sess l.tag (.err .fpEnrolled) none
    else answer (logEv (wardenIn (heard s l) w fp nm) .wardenEnrolled { details := [(w.val : Int), fpWord fp] }) l.sess l.tag
      (okLine [("", .name "warden"), ("", vn w.val), ("", .name "enrolled")]) none) := by
  have wardens : (heard s l).con.wardens = s.con.wardens := rfl
  have enrolled : wardenOf (heard s l) fp = wardenOf s fp := rfl
  show execWardenEnrol l w.val fp nm s = _
  rw [execWardenEnrol, runCmd_accepts (accepts_wardenArg h)]
  simp only [(wardenArg_val w).1, wardens, enrolled]
  split_ifs <;> rfl

theorem exec_wardenRemove_empty (k : AMap.find s.con.wardens w = none) : exec (.wardenRemove l w.val) s =
    .next (answer (heard s l) l.sess l.tag (.err .noSuchWarden) none) := by
  have wardens : (heard s l).con.wardens = s.con.wardens := rfl
  show execWardenRemove l w.val s = _
  rw [execWardenRemove, runCmd_accepts (accepts_wardenArg h)]
  simp only [(wardenArg_val w).1, wardens, k, Option.isNone_none, if_true]

theorem exec_wardenRemove (k : (AMap.find s.con.wardens w).isSome = true) : exec (.wardenRemove l w.val) s = .next (
    let v := logEv (wardenGone (heard s l) w) .wardenRemoved { details := [(w.val : Int)] }
    answer ((AMap.keys v.con.sessions).foldl (retireSession w l.sess) v) l.sess l.tag (.ok []) none) := by
  have wardens : (heard s l).con.wardens = s.con.wardens := rfl
  have used : ¬ (AMap.find s.con.wardens w).isNone = true := by simp [Option.isSome_iff_ne_none.mp k]
  show execWardenRemove l w.val s = _
  rw [execWardenRemove, runCmd_accepts (accepts_wardenArg h)]
  simp only [(wardenArg_val w).1, wardens, if_neg used]
  rfl

end

end

/-! ### The statements -/

/-- Settles O11, clause by clause, from what each command does. -/
theorem consoleInputModesAndLinesActAsTheConsoleChapterSays :
    Obligations.ConsoleInputModesAndLinesActAsTheConsoleChapterSays := by
  refine ⟨?unopened, ?deaf, ?char, ?silent, ?badLine, ?lineFault, ?commands, ?afterMode, ?afterHalt, ?logFollow, ?windowEnd,
    ?noWindow⟩
  case unopened => exact fun s x c => exec_consoleChar_none
  case deaf =>
    intro s x c h
    exact exec_consoleChar_deaf (h.imp_right fun ⟨console, test⟩ => ⟨Bool.eq_false_iff.mp console, test⟩)
  case char => exact fun s x c d hd line paused => exec_consoleChar hd (not_deafSess line paused)
  case silent => exact fun d c h => feedChar_silent h c
  case badLine => exact fun s x t d hd line paused => exec_consoleBadLine hd (not_deafSess line paused)
  case lineFault =>
    refine fun m c t => ⟨lineFaultOf_long, lineFaultOf_badChar, fun short ok => ?_⟩
    have machine := fun c => lineFaultOf_wellFormed (m := true) (c := c) short ok
    refine ⟨lineFaultOf_wellFormed short ok, fun noTag => ?_, fun tag noSuffix => ?_, fun v tag suffix => ?_⟩
    · simp [machine, noTag]
    · simp [machine, tag, noSuffix]
    · simp [machine, tag, suffix]
  case commands => exact fun s l d h => ⟨exec_mode_report h, exec_mode_typed h, exec_mode_machine h, exec_halt h⟩
  case afterMode => exact fun s x m c d => runAfter_mode
  case afterHalt => exact fun s x r => rfl
  case logFollow => exact fun s l d b => exec_logFollow
  case windowEnd => exact fun s x d t hd => exec_eventLineWindowEnd hd
  case noWindow => exact fun s x d hd => exec_eventLineWindowEnd_none hd

/-- Settles O12, clause by clause, from what each command does. -/
theorem managementSessionsAndWardensFollowTheirRules : Obligations.ManagementSessionsAndWardensFollowTheirRules := by
  refine ⟨?shut, ?denied, ?away, ?opens, ?agreed, ?idle, ?unopened, ?close, ?wardens⟩
  case shut => exact fun s i la fp c a => exec_mgmtConnect_shut
  case denied => exact fun s i la fp c a => exec_mgmtConnect_denied
  case away => exact fun s i la fp c a w x h hr hs ht hw dates => exec_mgmtConnect_away h hr hs ht hw dates
  case opens =>
    intro s i la fp c a w k x h hr hs ht hw dates free few
    exact ⟨_, _, exec_mgmtConnect_opens h hr hs ht hw dates free few, rfl, getSess_openSess_same, rfl, rfl, rfl, rfl, rfl, rfl,
      rfl, rfl, rfl, fun y other => getSess_openSess_other other⟩
  case agreed => exact fun c x => tlsAgreed_offered
  case idle => exact fun s k d => exec_mgmtIdleTimeout
  case unopened =>
    exact fun s k h => ⟨exec_mgmtIdleTimeout_none h, congrArg Host.Outcome.next (closeMgmt_unopened h)⟩
  case close => exact fun s k => ⟨rfl, closeMgmt_none s k⟩
  case wardens =>
    intro s l d w n fp nm hn h
    subst hn
    refine ⟨fun empty new => ?_, fun used => ?_, fun empty known => ?_, exec_wardenRemove_empty h,
      fun used => ⟨wardenGone (heard s l) w, _, rfl, exec_wardenRemove h used, wardenGone_slot _ w, wardenGone_owner _ w⟩⟩
    · refine ⟨_, ?_, wardenIn_slot (heard s l) w fp nm⟩
      rw [exec_wardenEnrol h, empty, new]
      rfl
    · rw [exec_wardenEnrol h, if_pos used]
    · rw [exec_wardenEnrol h, empty, if_neg (by simp), if_pos known]

/-- Settles O59: each command is a read (`showCmd`) with the checks that its clause names. -/
theorem consoleReadsOfTheDataPartsAnswerAndChangeNothingElse :
    Obligations.ConsoleReadsOfTheDataPartsAnswerAndChangeNothingElse := by
  refine ⟨?arcadeShow, ?arcadeBankShow, ?kvShow, ?kvStats, ?kvConns, ?kv1Show, ?configExport, ?resShow, ?mediaShow, ?bandShow,
    ?healthShow, ?healthTemp, ?healthHoldup, ?meterShow, ?meterRecords, ?stallShow, ?stallBlobRead, ?stallCredShow, ?mbxShow⟩
  case arcadeShow => exact fun s l d h => exec_read h rfl
  case arcadeBankShow => exact fun s l d bank h => exec_read h rfl
  case kvShow => exact fun s l d h => exec_read h rfl
  case kvStats => exact fun s l d h => exec_read h rfl
  case kvConns => exact fun s l d stall h => exec_read h rfl
  case kv1Show => exact fun s l d h => exec_read h rfl
  case configExport => exact fun s l d h => exec_read h rfl
  case resShow => exact fun s l d h => exec_read h rfl
  case mediaShow => exact fun s l d h => exec_read h rfl
  case bandShow => exact fun s l d band h => exec_read h rfl
  case healthShow => exact fun s l d h => exec_read h rfl
  case healthTemp => exact fun s l d h => exec_read h rfl
  case healthHoldup => exact fun s l d count h => exec_read h rfl
  case meterShow => exact fun s l d stall h => exec_read h rfl
  case meterRecords => exact fun s l d stall start count raw h => exec_read h rfl
  case stallShow => exact fun s l d stall h => exec_read h rfl
  case stallBlobRead => exact fun s l d stall off len h => exec_read h rfl
  case stallCredShow => exact fun s l d stall h => exec_read h rfl
  case mbxShow => exact fun s l d stall h => exec_read h rfl

end Sys2Proof.Proofs
end

section
/-!
What a port does with the frames it receives and sends, with its counters and with pauses, command by command, branch by
branch (ch. 07).
-/

namespace Sys2Proof.Proofs

open Sys2Proof Machine Laws

section
variable {s : State} {p : PortId}

/-! ### What logging and counting leave of a port (R245, R301, R307) -/

theorem updPort_congr {f g : Port → Port} (h : f (getPort s p) = g (getPort s p)) : updPort s p f = updPort s p g := by
  cases p
  · exact congrArg (fun d => updPort s .p0 (fun _ => d)) h
  · exact congrArg (fun d => updPort s .p1 (fun _ => d)) h

theorem getPort_of_ports {t : State} (h : t.ports = s.ports) : getPort t p = getPort s p := by
  rw [getPort, getPort, h]

/-- The ports without what counting events and queueing frames change. -/
def portRest (s : State) (p : PortId) : Port := { getPort s p with tx := [], hw := [], half := [] }

theorem capturing_of_portRest {t : State} (h : portRest t = portRest s) : (getPort t p).capturing = (getPort s p).capturing := by
  show (portRest t p).capturing = (portRest s p).capturing
  rw [h]

theorem portRest_of_ports {t : State} (h : t.ports = s.ports) : portRest t = portRest s := by
  funext q
  rw [portRest, portRest, getPort_of_ports h]

theorem portRest_updPort {f : Port → Port}
    (h : ∀ d, { f d with tx := [], hw := [], half := [] } = { d with tx := [], hw := [], half := [] }) :
    portRest (updPort s p f) = portRest s := by
  funext q
  cases p <;> cases q
  case p0.p0 => exact h (getPort s .p0)
  case p1.p1 => exact h (getPort s .p1)
  all_goals rfl

/-- A view that every round of a loop keeps is kept by the loop. -/
theorem foldl_keeps {α β γ : Type} (view : α → γ) {g : α → β → α} (h : ∀ a b, view (g a b) = view a) (l : List β)
    (a : α) : view (l.foldl g a) = view a :=
  List.foldlRecOn l g (motive := fun b => view b = view a) rfl (fun b same x _ => (h b x).trans same)

theorem portRest_enqueue {f : TxFrame} : portRest (enqueue s p f) = portRest s := by
  rw [enqueue]
  split
  · exact portRest_updPort (fun _ => rfl)
  · rfl

theorem portRest_releaseSeg {a : State × List TxFrame} {f : TxFrame} : portRest (releaseSeg a f).1 = portRest a.1 := by
  rw [releaseSeg]
  split
  · split
    · rfl
    · split
      · rfl
      · exact portRest_enqueue.trans (portRest_of_ports (useNeigh_changes.ports (by decide)))
  · rfl

theorem portRest_releaseWait : portRest (releaseWait s) = portRest s :=
  foldl_keeps (fun a : State × List TxFrame => portRest a.1) (fun _ _ => portRest_releaseSeg) s.ports.wait
    (updPorts s (fun d => { d with wait := [] }), [])

section
variable {x : SessId}

theorem portRest_putText {q : Fin 8} {t : String} : portRest (putText s x q t) = portRest s := by
  unfold putText
  extract_lets u
  split
  · exact portRest_releaseWait
  · rfl

theorem portRest_putLine {q : Fin 8} {t : String} : portRest (putLine s x q t) = portRest s := by
  rw [putLine]
  split
  · rfl
  · exact portRest_putText

theorem portRest_putEvent {e : EventRec} : portRest (putEvent s x e) = portRest s := portRest_putLine

theorem portRest_closeEvWindow : portRest (closeEvWindow s x) = portRest s := by
  rw [closeEvWindow]
  split
  · rfl
  · show portRest (if _ then _ else _) = _
    split
    · exact portRest_putLine
    · rfl

theorem portRest_eventLine {e : EventRec} : portRest (eventLine e s x) = portRest s := by
  rw [eventLine]
  split
  · rfl
  · split
    · rfl
    · extract_lets u d
      have closed : portRest u = portRest s := by
        dsimp only [u]
        split
        · split
          · exact portRest_closeEvWindow
          · rfl
        · rfl
      split
      · exact portRest_putEvent.trans closed
      · split
        · exact portRest_putEvent.trans closed
        · exact closed

end

theorem portRest_putRecord {e : EventRec} : portRest (putRecord s e) = portRest s := by
  rw [putRecord]
  refine (foldl_keeps portRest (fun _ _ => portRest_eventLine) _ _).trans ?_
  split
  · exact portRest_of_ports (copyLog_changes.ports (by decide))
  · rfl

theorem portRest_logEv {e : Ev} {a : EvArgs} : portRest (logEv s e a) = portRest s := by
  rw [logEv]
  split
  · rfl
  · extract_lets u r
    have counted : portRest u = portRest s := by
      dsimp only [u]
      split <;> rfl
    split
    · exact portRest_putRecord.trans counted
    · exact counted

theorem portRest_setCount {c : Ctr} {n : Nat} : portRest (setCount s p c n) = portRest s := by
  rw [setCount]
  split
  · exact portRest_logEv.trans (portRest_updPort (fun _ => rfl))
  · exact portRest_updPort (fun _ => rfl)

theorem portRest_countHw {c : Ctr} {n : Nat} : portRest (countHw s p c n) = portRest s := by
  rw [countHw]
  split
  · rfl
  · exact portRest_setCount

/-! ### What PROTO's work before the FCS leaves of a port (R298, R838) -/

theorem portRest_falseHit {n : Nat} : portRest (falseHit s n) = portRest s := by
  rw [falseHit]
  split
  · exact portRest_logEv
  · rfl

theorem portRest_speculate {r : SpecReq} : portRest (speculate p s r) = portRest s := by
  rw [speculate]
  split
  · rfl
  · extract_lets k u
    have searched : portRest u = portRest s := by
      dsimp only [u]
      split
      · split
        · exact portRest_falseHit
        · rfl
      · rfl
    split
    · exact searched
    · split
      · exact searched
      · exact searched

/-! ### Headers (R288 to R298) -/

section
variable {f : EthFrame}

theorem exec_frameReceive_down (h : portUp s p = false) : exec (.frameReceive p f) s = .next s := by
  show execFrameReceive p f s = _
  rw [execFrameReceive, if_pos (by simp [h])]

/-- The port's island is awake, and the drop of a frame that is no runt is counted. -/
def dropCounted (s : State) (p : PortId) (f : EthFrame) : State :=
  if 64 ≤ f.len then
    match rxVerdict s p f with
    | .drop c => countHw (wakeIsl s p.island) p c 1
    | _ => wakeIsl s p.island
  else wakeIsl s p.island

theorem portRest_dropCounted : portRest (dropCounted s p f) = portRest s := by
  have woken : portRest (wakeIsl s p.island) = portRest s := portRest_of_ports (wakeIsl_changes.ports (by decide))
  rw [dropCounted]
  split
  · split
    · exact portRest_countHw.trans woken
    · exact woken
  · exact woken

/-- A frame with this verdict is one that the capture sees (R297). -/
def captureSees (f : EthFrame) : RxVerdict → Bool
  | .drop .rxSymbolErr => false
  | .drop .rxTypeDrop => ! controlDst f.dst
  | .drop .rxFilterMiss => true
  | .consumed => false
  | _ => true

/-- What waits for the FCS of a frame. -/
def rxRecord (s : State) (p : PortId) (f : EthFrame) : RxPending where
  frame := f
  captured := decide (64 ≤ f.len) && (getPort s p).capturing && captureSees f (rxVerdict s p f)
  filterMiss := decide (rxVerdict s p f = .drop .rxFilterMiss)
  trunc := decide (frameLimit s p (isTagged f) < f.len)
  passed := decide (64 ≤ f.len) && decide (rxVerdict s p f = .pass)

theorem capturing_of_captured (h : (rxRecord s p f).captured = true) : (getPort s p).capturing = true :=
  (Bool.and_eq_true_iff.mp (Bool.and_eq_true_iff.mp h).1).2

/-- PROTO has begun what the frame asks for, if it passed and is not too long. -/
def lookupsBegun (s : State) (p : PortId) (f : EthFrame) : State :=
  if (rxRecord s p f).passed = true ∧ (rxRecord s p f).trunc = false ∧ islUp (dropCounted s p f) .proto = true then
    f.gets.foldl (speculate p) (dropCounted s p f)
  else dropCounted s p f

theorem portRest_lookupsBegun : portRest (lookupsBegun s p f) = portRest s := by
  rw [lookupsBegun]
  split
  · exact (foldl_keeps portRest (fun _ _ => portRest_speculate) _ _).trans portRest_dropCounted
  · exact portRest_dropCounted

theorem capturing_lookupsBegun : (getPort (lookupsBegun s p f) p).capturing = (getPort s p).capturing :=
  capturing_of_portRest portRest_lookupsBegun

theorem exec_frameReceive (h : portUp s p = true) : exec (.frameReceive p f) s = .next
    (updPort (lookupsBegun s p f) p (fun d => { d with rxFill := d.rxFill - f.taken, rx := some (rxRecord s p f) })) := by
  have whole : (! decide (f.len < 64)) = decide (64 ≤ f.len) := by rw [Bool.eq_iff_iff]; simp
  have begins : (if decide (f.len < 64) = true then wakeIsl s p.island else match rxVerdict s p f with
      | .drop c => countHw (wakeIsl s p.island) p c 1
      | _ => wakeIsl s p.island) = dropCounted s p f := by
    rw [dropCounted]
    by_cases runt : f.len < 64
    · rw [if_pos (by simpa using runt), if_neg (Nat.not_le.mpr runt)]
    · rw [if_neg (by simpa using runt), if_pos (Nat.not_lt.mp runt)]
  have asks : (decide (64 ≤ f.len) && decide (rxVerdict s p f = .pass) && ! decide (frameLimit s p (isTagged f) < f.len) &&
      islUp (dropCounted s p f) .proto) = true ↔
      (rxRecord s p f).passed = true ∧ (rxRecord s p f).trunc = false ∧ islUp (dropCounted s p f) .proto = true := by
    rw [Bool.and_eq_true, Bool.and_eq_true, Bool.not_eq_true', and_assoc]
    rfl
  show execFrameReceive p f s = _
  rw [execFrameReceive]
  refine congrArg Host.Outcome.next ((if_neg (by simp [h])).trans ?_)
  refine (congrArg (fun u => updPort u p _) ?started).trans (updPort_congr ?record)
  case started =>
    rw [lookupsBegun, ← if_congr asks rfl rfl, ← begins]
    simp only [whole] <;> rfl
  case record =>
    simp only [whole, capturing_lookupsBegun]
    rfl

end

/-! ### The FCS (R288, R297 to R299) -/

theorem exec_frameFcsResult_none {g : Bool} (h : (getPort s p).rx = none) : exec (.frameFcsResult p g) s = .next s := by
  show execFrameFcsResult p g s = _
  rw [execFrameFcsResult, h]

/-- The frame has ended, and what was begun for it stays or goes. -/
def frameEnded (s : State) (p : PortId) (good : Bool) : State :=
  if good then keepSpec (noteBlink (updPort s p (fun d => { d with rx := none }))) p
  else cancelSpec (updPort s p (fun d => { d with rx := none })) p

theorem frameEnded_changes {good : Bool} :
    Changes 8196 (updPort s p (fun d => { d with rx := none })) (frameEnded s p good) := by
  rw [frameEnded]
  split
  · exact .seq keepSpec_changes (.seq noteBlink_changes .refl (by decide)) (by decide)
  · exact .seq cancelSpec_changes .refl (by decide)

theorem frameEnded_clock {good : Bool} : (frameEnded s p good).clock = s.clock := frameEnded_changes.clock (by decide)

theorem getPort_frameEnded {good : Bool} : getPort (frameEnded s p good) p = { getPort s p with rx := none } :=
  (getPort_of_ports (frameEnded_changes.ports (by decide))).trans (getPort_updPort s p _)

/-- The capture record that a frame leaves. -/
def captureOf (s : State) (r : RxPending) (good : Bool) : Capture where
  ltime := s.clock.ledger
  len := r.frame.len
  trunc := r.trunc
  fcsBad := ! good
  filterMiss := r.filterMiss
  bytes := r.frame.bytes.take 128

/-- A frame is captured, if its record says so and the capture still runs. -/
def captured (u : State) (p : PortId) (r : RxPending) (good : Bool) : State :=
  if r.captured && (getPort u p).capturing then
    updPort u p (fun d => { d with capture := (captureOf u r good :: d.capture).take Config.captureRecords })
  else u

theorem getPort_captured {r : RxPending} {good : Bool} : getPort (captured s p r good) p = { getPort s p with
    capture := if r.captured = true ∧ (getPort s p).capturing = true then
      (captureOf s r good :: (getPort s p).capture).take Config.captureRecords else (getPort s p).capture } := by
  rw [captured]
  by_cases h : r.captured = true ∧ (getPort s p).capturing = true
  · rw [if_pos (by simpa using h), if_pos h, getPort_updPort]
  · rw [if_neg (by simpa using h), if_neg h]

/-- What the port holds when a frame has ended and is captured. -/
theorem getPort_captured_frameEnded {r : RxPending} {good : Bool} :
    getPort (captured (frameEnded s p good) p r good) p = { getPort s p with
      rx := none
      capture := if r.captured = true ∧ (getPort s p).capturing = true then
        (captureOf s r good :: (getPort s p).capture).take Config.captureRecords else (getPort s p).capture } := by
  have same : captureOf (frameEnded s p good) r good = captureOf s r good := by rw [captureOf, frameEnded_clock]; rfl
  rw [getPort_captured, getPort_frameEnded, same]

/-- The size of a frame with a good FCS is counted, unless the PHY reported an error. -/
def sizeCounted (u : State) (p : PortId) (f : EthFrame) : State := if f.symbolErr then u else countHw u p (rxBin f.len) 1

/-- A frame stands in the port's receive buffer. -/
def frameBuffered (u : State) (p : PortId) (f : EthFrame) : State :=
  updPort u p (fun d => { d with rxFill := d.rxFill + Nat.min f.len (frameLimit u p (isTagged f)) })

/-- What the FCS of a frame makes of it. -/
def frameJudged (u : State) (p : PortId) (r : RxPending) (good : Bool) : State :=
  if r.frame.len < 64 then countHw u p (if good then .rxRunt else .rxFragment) 1
  else if good = false then (if r.passed then countHw u p .rxFcsErr 1 else u)
  else if r.passed = false then sizeCounted u p r.frame
  else if r.trunc then countProto (frameBuffered (sizeCounted u p r.frame) p r.frame) (oversizeCtr p) 1
  else if r.frame.fragment then
    updNet (countDelivered (frameBuffered (sizeCounted u p r.frame) p r.frame) p r.frame)
      (fun d => { d with fragDrop := d.fragDrop + 1 })
  else countDelivered (frameBuffered (sizeCounted u p r.frame) p r.frame) p r.frame

theorem exec_frameFcsResult {r : RxPending} {good : Bool} (h : (getPort s p).rx = some r) :
    exec (.frameFcsResult p good) s = .next (frameJudged (captured (frameEnded s p good) p r good) p r good) := by
  show execFrameFcsResult p good s = _
  rw [execFrameFcsResult, h]
  exact congrArg Host.Outcome.next (if_congr Iff.rfl rfl
    (if_congr (Bool.not_eq_true' _).to_iff rfl (if_congr (Bool.not_eq_true' _).to_iff rfl rfl)))

/-! ### Sending (R305) -/

theorem nextFrame_empty (h : (getPort s p).tx = []) : nextFrame s p = none := by
  rw [nextFrame]
  simp [h, queuesDown]

theorem getPort_wakeIsl {i : Island} : getPort (wakeIsl s i) p = getPort s p :=
  getPort_of_ports (wakeIsl_changes.ports (by decide))

theorem sendNext_idle (h : portUp s p = false ∨ nextFrame s p = none) : sendNext s p = s := by
  rw [sendNext]
  split
  · rfl
  · rename_i up
    rw [h.resolve_left (by simpa using up)]

theorem sendNext_sends {f : TxFrame} (up : portUp s p = true) (h : nextFrame s p = some f) : sendNext s p =
    noteBlink (segmentSent (countSent (emit (updPort s p (fun d => { d with tx := d.tx.erase f })) (.sent p f)) p f) f) := by
  rw [sendNext, if_neg (by simp [up]), h]

theorem exec_frameSent : exec (.frameSent p) s = .next (sendNext (if (getPort s p).tx = [] then s else wakeIsl s p.island) p) := by
  show execFrameSent p s = _
  rw [execFrameSent]
  simp only [List.isEmpty_iff]

theorem exec_frameSent_empty (h : (getPort s p).tx = []) : exec (.frameSent p) s = .next s := by
  rw [exec_frameSent, if_pos h, sendNext_idle (.inr (nextFrame_empty h))]

theorem exec_frameSent_idle (h : portUp (wakeIsl s p.island) p = false ∨ nextFrame (wakeIsl s p.island) p = none) :
    exec (.frameSent p) s = .next (if (getPort s p).tx = [] then s else wakeIsl s p.island) := by
  by_cases empty : (getPort s p).tx = []
  · rw [exec_frameSent_empty empty, if_pos empty]
  · rw [exec_frameSent, if_neg empty, sendNext_idle h]

theorem exec_frameSent_sends {f : TxFrame} (up : portUp (wakeIsl s p.island) p = true)
    (h : nextFrame (wakeIsl s p.island) p = some f) : exec (.frameSent p) s = .next (noteBlink (segmentSent (countSent
      (emit (updPort (wakeIsl s p.island) p (fun d => { d with tx := d.tx.erase f })) (.sent p f)) p f) f)) := by
  have queued : (getPort s p).tx ≠ [] := fun empty =>
    Option.some_ne_none f (h.symm.trans (nextFrame_empty ((congrArg Port.tx getPort_wakeIsl).trans empty)))
  rw [exec_frameSent, if_neg queued, sendNext_sends up h]

/-! ### Counters (R301 to R304) -/

section
variable {i n : Nat} {c : Ctr}

theorem exec_hwstatFold (h : ctrOfCode i = some c) : exec (.hwstatFold p i n) s = .next (fold s p c n) := by
  show execHwstatFold p i n s = _
  rw [execHwstatFold, h]

theorem exec_hwstatFold_noCtr (h : ctrOfCode i = none) : exec (.hwstatFold p i n) s =
    .next (logEv s .foldError { port := some p, details := [(i : Int), (n : Int)] }) := by
  show execHwstatFold p i n s = _
  rw [execHwstatFold, h]

/-- More than COUNT is ignored and logged (R302). -/
theorem fold_excess (h : (hwCtr s p c).count < n) :
    fold s p c n = logEv s .foldError { port := some p, details := [(ctrCode c : Int), (n : Int)] } := if_pos h

theorem exec_counterFold (h : c ∈ (getPort s p).half) :
    exec (.counterFold p c) s = .next (fold s p c (hwCtr s p c).count) := by
  show execCounterFold p c s = _
  rw [execCounterFold, if_pos (List.contains_iff_mem.mpr h)]

theorem exec_counterFold_not (h : c ∉ (getPort s p).half) : exec (.counterFold p c) s = .next s := by
  show execCounterFold p c s = _
  rw [execCounterFold, if_neg (fun held => h (List.contains_iff_mem.mp held))]

end

/-! ### Pauses (R310 to R313) -/

section
variable {q : Fin 8} {n t e : Nat}

theorem exec_pause_down (h : portUp s p = false) :
    (∀ q, exec (.pauseFrame p q) s = .next s) ∧ ∀ c, exec (.pfcFrame p c) s = .next s := by
  have down : ¬ portUp s p = true := by simp [h]
  refine ⟨fun q => ?_, fun c => ?_⟩
  · show execPauseFrame p q s = _
    rw [execPauseFrame, if_pos down]
  · show execPfcFrame p c s = _
    rw [execPfcFrame, if_pos down]

theorem exec_pauseFrame (h : portUp s p = true) : exec (.pauseFrame p n) s = .next
    (let u := countHw s p .rxPause 1
     if cfgField u (.macCfg p) "PAUSE_IGNORE" = 1 ∨ pausable u p = false then u
     else (List.finRange 8).foldl (fun s k => pauseQueue p k n s) (countHw u p .txPausedQuanta n)) := by
  show execPauseFrame p n s = _
  rw [execPauseFrame, if_neg (by simp [h])]
  simp only [Bool.not_eq_true]

theorem exec_pfcFrame {c : List (Fin 8 × Nat)} (h : portUp s p = true) : exec (.pfcFrame p c) s = .next
    (let u := countHw s p .rxPfc 1
     if cfgField u (.macCfg p) "PFC_IGNORE" = 1 ∨ pausable u p = false then u
     else c.foldl (fun s x => pauseQueue p x.1 x.2 (countHw s p .txPausedQuanta x.2)) u) := by
  show execPfcFrame p c s = _
  rw [execPfcFrame, if_neg (by simp [h])]
  simp only [Bool.not_eq_true]

theorem pauseQueue_paused : (getPort (pauseQueue p q n s) p).paused = if n = 0 then AMap.del (getPort s p).paused q
    else AMap.set (getPort s p).paused q (s.clock.ledger + quantaTime s p n) := by
  rw [pauseQueue, getPort_updPort]
  by_cases top : q = 7
  · rw [if_pos top]
  · rw [if_neg top]

theorem find_pauseQueue : AMap.find (getPort (pauseQueue p q n s) p).paused q =
    if n = 0 then none else some (s.clock.ledger + quantaTime s p n) := by
  rw [pauseQueue_paused]
  split
  · exact AMap.find_del_same _ q
  · exact AMap.find_set_same _ q _

theorem exec_pauseExpiry (h : AMap.find (getPort s p).paused q = some t) :
    exec (.pauseExpiry p q) s = .next (pauseQueue p q 0 (advanceTo s t)) := by
  show execPauseExpiry p q s = _
  rw [execPauseExpiry, h]

theorem exec_pauseExpiry_none (h : AMap.find (getPort s p).paused q = none) : exec (.pauseExpiry p q) s = .next s := by
  show execPauseExpiry p q s = _
  rw [execPauseExpiry, h]

theorem exec_pauseStorm (since : (getPort s p).q7Since = some t) (held : AMap.find (getPort s p).paused 7 = some e)
    (long : t + 100000 ≤ e) : exec (.pauseStorm p) s = .next (
      let u := advanceTo s (t + 100000)
      logEv (updPort u p (fun d => { d with
        paused := [], q7Since := none, stormUntil := some (u.clock.ledger + 10 * sec) })) .pauseStorm { port := some p }) := by
  show execPauseStorm p s = _
  rw [execPauseStorm, since, held]
  exact congrArg Host.Outcome.next (if_neg (Nat.not_lt.mpr long))

theorem exec_pauseStorm_not (h : (getPort s p).q7Since = none ∨ AMap.find (getPort s p).paused 7 = none ∨
    ((getPort s p).q7Since = some t ∧ AMap.find (getPort s p).paused 7 = some e ∧ e < t + 100000)) :
    exec (.pauseStorm p) s = .next s := by
  show execPauseStorm p s = _
  rw [execPauseStorm]
  rcases h with free | free | ⟨since, held, short⟩
  · rw [free]
  · rw [free]
    cases (getPort s p).q7Since <;> rfl
  · rw [since, held]
    exact congrArg Host.Outcome.next (if_pos short)

theorem exec_pauseStormEnd (h : (getPort s p).stormUntil = some t) :
    exec (.pauseStormEnd p) s = .next (updPort (advanceTo s t) p (fun d => { d with stormUntil := none })) := by
  show execPauseStormEnd p s = _
  rw [execPauseStormEnd, h]

theorem exec_pauseStormEnd_none (h : (getPort s p).stormUntil = none) : exec (.pauseStormEnd p) s = .next s := by
  show execPauseStormEnd p s = _
  rw [execPauseStormEnd, h]

end

end

/-! ### The statements -/

/-- Settles O15, clause by clause, from what each command does. -/
theorem framesArePassedCountedAndSentAsChapter7Says : Obligations.FramesArePassedCountedAndSentAsChapter7Says := by
  refine ⟨?down, ?receive, ?noFrame, ?fcs, ?empty, ?idle, ?sends⟩
  case down => exact fun s p f => exec_frameReceive_down
  case receive =>
    intro s p f up
    exact ⟨dropCounted s p f, lookupsBegun s p f, rxRecord s p f, exec_frameReceive up, rfl, rfl, rfl, rfl,
      capturing_of_captured, rfl, rfl⟩
  case noFrame => exact fun s p g => exec_frameFcsResult_none
  case fcs =>
    intro s p g r h
    refine ⟨captured (frameEnded s p g) p r g, _, _, captureOf s r g, rfl, rfl, rfl, exec_frameFcsResult h, ?_⟩
    rw [getPort_captured_frameEnded]
    exact ⟨rfl, rfl, rfl, rfl⟩
  case empty => exact fun s p => exec_frameSent_empty
  case idle => exact fun s p => exec_frameSent_idle
  case sends =>
    rintro s p f u rfl up h
    exact exec_frameSent_sends up h

/-- Settles O16, clause by clause, from what each command does. -/
theorem countersFoldAndPausesHoldQueuesAsChapter7Says : Obligations.CountersFoldAndPausesHoldQueuesAsChapter7Says := by
  refine ⟨?folds, ?excess, ?noCtr, ?half, ?notHalf, ?toHalf, ?toTop, ?clear, ?down, ?pause, ?pfc, ?queue, ?expiry, ?noExpiry,
    ?storm, ?noStorm, ?stormEnd, ?noStormEnd⟩
  case folds =>
    intro s p i n c code enough
    obtain ⟨count, acc, sat, others, -⟩ := fold_le enough
    exact ⟨fold s p c n, exec_hwstatFold code, count, acc, sat, others⟩
  case excess => exact fun s p i n c code more => (exec_hwstatFold code).trans (congrArg Host.Outcome.next (fold_excess more))
  case noCtr => exact fun s p i n => exec_hwstatFold_noCtr
  case half =>
    intro s p c h
    obtain ⟨count, acc, -, -, gone⟩ := fold_le (Nat.le_refl (hwCtr s p c).count)
    exact ⟨_, exec_counterFold h, count.trans (Nat.sub_self _), acc, gone⟩
  case notHalf => exact fun s p c => exec_counterFold_not
  case toHalf => exact fun s p c => rfl
  case toTop => exact fun s p c => rfl
  case clear => exact fun s l d p ok => congrArg Host.Outcome.next (runCmd_ran ok)
  case down => exact fun s p q c h => ⟨(exec_pause_down h).1 q, (exec_pause_down h).2 c⟩
  case pause => exact fun s p q => exec_pauseFrame
  case pfc => exact fun s p c => exec_pfcFrame
  case queue => exact fun s p q n => find_pauseQueue
  case expiry => exact fun s p q t => exec_pauseExpiry
  case noExpiry => exact fun s p q => exec_pauseExpiry_none
  case storm => exact fun s p t e => exec_pauseStorm
  case noStorm => exact fun s p t e => exec_pauseStorm_not
  case stormEnd => exact fun s p t => exec_pauseStormEnd
  case noStormEnd => exact fun s p => exec_pauseStormEnd_none

end Sys2Proof.Proofs
end

section
/-!
What the operations of wall time leave of the clock: each is given as the clock it was with the fields it writes (ch. 08).
-/

namespace Sys2Proof.Proofs

open Sys2Proof Machine Laws

section
variable {s : State} {w : WState} {o : Int}

/-! ### Ledger time, sources and the RTC (R348, R353, R360, R362) -/

/-- A clock that moves on changes ledger time, what it slews, and its ring. -/
theorem moveClock_eq (v : Bool) (c : Clock) (t : Nat) : ∃ l m x r k, moveClock v c t =
    { c with ledger := l, wallOff := m, slew := x, slewRest := r, ckpts := k } := by
  unfold moveClock
  dsimp only
  split
  · exact ⟨_, _, _, _, _, rfl⟩
  · exact ⟨_, _, _, _, _, rfl⟩

theorem advanceTo_clock (s : State) (t : Nat) : ∃ l m x r k, (advanceTo s t).clock =
    { s.clock with ledger := l, wallOff := m, slew := x, slewRest := r, ckpts := k } := by
  unfold advanceTo
  split
  · exact ⟨_, _, _, _, _, rfl⟩
  · exact moveClock_eq _ _ _

theorem setSource_clock : (setSource s w).clock = { s.clock with wstate := w } := by
  unfold setSource
  dsimp only
  split
  · exact logEv_clock
  · rfl

theorem stepLimit_setSource : stepLimit (setSource s w) = stepLimit s := by
  have cfg : (setSource s w).cfg = s.cfg := setSource_changes.cfg (by decide)
  unfold stepLimit cfgField
  rw [cfgWord_of_store (congrArg Cfg.store cfg)]

theorem writeRtc_clock : (writeRtc s).clock = { s.clock with
    rtcOff := if s.clock.wstate = .unset then s.clock.rtcOff else some s.clock.wallOff
    rtcAt := if s.clock.wstate = .unset then s.clock.rtcAt else some s.clock.ledger } := by
  show (if s.clock.wstate = .unset then _ else _ : Clock) = _
  split <;> rfl

/-- A checkpoint stands first in the ring, with the ledger time and the state at which it is written (R363, R364). -/
theorem writeCkpt_head (c : Clock) (k : CkptKind) : ∃ x, (writeCkpt c k).ckpts.head? = some x ∧ x.kind = k ∧
    x.ltime = c.ledger ∧ x.wstate = c.wstate ∧ x.bound = ckptBound k c.ledger :=
  ⟨_, rfl, rfl, rfl, rfl, rfl⟩

theorem ckptBound_eq (k : CkptKind) (t : Nat) :
    ckptBound k t = if k = .halt ∨ k = .flush then t + 1000 else t + 31000000 := by
  cases k <;> rfl

/-! ### The loss of a source (R348, R349, R351) -/

/-- The loss of a source that does not discipline changes nothing. -/
theorem sourceLost_other (h : s.clock.wstate ≠ w) : sourceLost s w = s := if_neg h

/-- The loss of the disciplining source leaves NTP in PTP's place, or HOLDOVER. -/
theorem sourceLost_clock (h : s.clock.wstate = w) : (sourceLost s w).clock = { s.clock with
    stratum := 0, wstate := if w = .ptp ∧ s.clock.ntpPeer.isSome = true then .ntp else .holdover } := by
  unfold sourceLost
  rw [if_pos h]
  split
  · rw [if_pos ‹_›]; exact setSource_clock
  · rw [if_neg ‹_›]; exact setSource_clock

theorem ptpLost_clock : ∃ n, (ptpLost s).clock = { s.clock with ptp := {}, stratum := n, wstate :=
    if s.clock.wstate = .ptp then if s.clock.ntpPeer.isSome then .ntp else .holdover else s.clock.wstate } := by
  by_cases h : s.clock.wstate = .ptp
  · refine ⟨0, (sourceLost_clock (s := updClock s (fun c => { c with ptp := {} })) h).trans ?_⟩
    simp only [updClock, if_pos h, true_and]
  · have kept := sourceLost_other (s := updClock s (fun c => { c with ptp := {} })) h
    refine ⟨s.clock.stratum, (congrArg State.clock kept).trans ?_⟩
    simp only [updClock, if_neg h]

theorem ntpLost_clock : ∃ n, (ntpLost s).clock = { s.clock with ntpPeer := none, stratum := n, wstate :=
    if s.clock.wstate = .ntp then .holdover else s.clock.wstate } := by
  by_cases h : s.clock.wstate = .ntp
  · refine ⟨0, (sourceLost_clock (s := updClock s (fun c => { c with ntpPeer := none })) h).trans ?_⟩
    simp only [updClock, if_pos h, reduceCtorEq, false_and, if_false]
  · have kept := sourceLost_other (s := updClock s (fun c => { c with ntpPeer := none })) h
    refine ⟨s.clock.stratum, (congrArg State.clock kept).trans ?_⟩
    simp only [updClock, if_neg h]

/-! ### A step (R354) -/

/-- The clock after a step: wall time has moved, the servers' offsets with it, and the RTC and a STEP checkpoint are
written. -/
def steppedClock (c : Clock) (w : WState) (o : Int) : Clock :=
  writeCkpt { c with
    wallOff := c.wallOff + o, slew := 0, everSet := true, wstate := w
    ntp := c.ntp.map (fun n => { n with last := n.last.map (fun r => { r with offset := r.offset - o }) })
    rtcOff := if w = .unset then c.rtcOff else some (c.wallOff + o)
    rtcAt := if w = .unset then c.rtcAt else some c.ledger } .step

/-- A step before it is logged: wall time has its new source, and the RTC and the checkpoint are written. -/
def stepped (s : State) (w : WState) (o : Int) : State :=
  checkpoint (writeRtc (setSource (updClock s (fun c => { c with
    wallOff := c.wallOff + o, slew := 0, everSet := true
    ntp := c.ntp.map (fun n => { n with last := n.last.map (fun r => { r with offset := r.offset - o }) }) })) w)) .step

theorem stepped_clock : (stepped s w o).clock = steppedClock s.clock w o := by
  show writeCkpt (writeRtc (setSource _ w)).clock .step = _
  rw [writeRtc_clock, setSource_clock]
  rfl

/-- A step is logged and told to the meters once the clock is set (R566, R567). -/
theorem stepWall_eq (s : State) (src : StepSource) (w : WState) (o : Int) : ∃ a, a.reason = sourceCode src ∧
    stepWall s src w o = meterStep (logEv (stepped s w o) .clockStep a)
      (if s.clock.wstate = .unset then .first else if o < 0 then .backward else .forward) := by
  unfold stepWall
  simp only [decide_eq_true_eq]
  exact ⟨{ reason := sourceCode src, details := _ }, rfl, rfl⟩

theorem meterStep_clock {x : Step} : (meterStep s x).clock = s.clock := meterStep_changes.clock (by decide)

theorem stepWall_clock {src : StepSource} : (stepWall s src w o).clock = steppedClock s.clock w o := by
  obtain ⟨a, -, eq⟩ := stepWall_eq s src w o
  rw [eq, meterStep_clock, logEv_clock, stepped_clock]

/-! ### An offset (R353, R355, R356) -/

section
variable {src : StepSource} {n : Nat}

/-- The disciplining source has measured an offset, at a stratum. -/
def measured (s : State) (o : Int) (n : Nat) : State := updClock s (fun c => { c with offset := o, stratum := n })

/-- An offset beyond the step limit is refused (R355). -/
def refusing (s : State) (src : StepSource) (w : WState) (o : Int) (n : Nat) : State :=
  updClock (setSource (measured s o n) w) (fun c => { c with disagree := true, refused := some (src, o) })

/-- An offset within the step limit ends a refusal. -/
def agreeing (s : State) (w : WState) (o : Int) (n : Nat) : State :=
  updClock (setSource (measured s o n) w) (fun c => { c with disagree := false, refused := none })

theorem discipline_unset (h : s.clock.wstate = .unset) :
    discipline s src w o n = stepWall (measured s o n) src w o := if_pos h

theorem discipline_beyond (h : s.clock.wstate ≠ .unset) (limited : 0 < stepLimit s) (far : stepLimit s < o.natAbs) :
    discipline s src w o n = if s.clock.disagree = true then refusing s src w o n
      else logEv (updClock (refusing s src w o n) (fun c => { c with refusedAt := some c.ledger })) .timeStepRefused
        { reason := sourceCode src, details := [o] } := by
  have limit : stepLimit (setSource (measured s o n) w) = stepLimit s := stepLimit_setSource
  have was : (setSource (measured s o n) w).clock.disagree = s.clock.disagree := by
    rw [setSource_clock]
    rfl
  have beyond : 0 < stepLimit (setSource (measured s o n) w) ∧ stepLimit (setSource (measured s o n) w) < o.natAbs := by
    rw [limit]
    exact ⟨limited, far⟩
  refine (if_neg h).trans ((if_pos beyond).trans ?_)
  rw [← was]
  rfl

theorem discipline_within (h : s.clock.wstate ≠ .unset) (near : stepLimit s = 0 ∨ o.natAbs ≤ stepLimit s) :
    discipline s src w o n = if o.natAbs ≤ 128000 then updClock (agreeing s w o n) (fun c => { c with slew := o })
      else stepWall (agreeing s w o n) src w o := by
  have limit : stepLimit (setSource (measured s o n) w) = stepLimit s := stepLimit_setSource
  refine (if_neg h).trans (if_neg ?_)
  show ¬ (0 < stepLimit (setSource (measured s o n) w) ∧ stepLimit (setSource (measured s o n) w) < o.natAbs)
  rw [limit]
  omega

theorem refusing_clock : (refusing s src w o n).clock = { s.clock with
    offset := o, stratum := n, wstate := w, disagree := true, refused := some (src, o) } := by
  show ({ (setSource (measured s o n) w).clock with disagree := true, refused := some (src, o) } : Clock) = _
  rw [setSource_clock]
  rfl

/-- A step beyond the limit leaves wall time alone; it is logged where the clocks agreed before (R355). -/
theorem discipline_refuses (h : s.clock.wstate ≠ .unset) (limited : 0 < stepLimit s) (far : stepLimit s < o.natAbs) :
    ∃ v, discipline s src w o n =
      (if s.clock.disagree = true then v else logEv v .timeStepRefused { reason := sourceCode src, details := [o] }) ∧
    v.clock.disagree = true ∧ v.clock.refused = some (src, o) ∧ v.clock.wallOff = s.clock.wallOff ∧
    v.clock.slew = s.clock.slew ∧ (s.clock.disagree = false → v.clock.refusedAt = some s.clock.ledger) := by
  have eq := discipline_beyond (src := src) (w := w) (n := n) h limited far
  cases d : s.clock.disagree with
  | true =>
    refine ⟨refusing s src w o n, eq.trans (if_pos d), ?_⟩
    rw [refusing_clock]
    exact ⟨rfl, rfl, rfl, rfl, fun f => Bool.noConfusion f⟩
  | false =>
    refine ⟨updClock (refusing s src w o n) (fun c => { c with refusedAt := some c.ledger }),
      eq.trans (if_neg (by simp [d])), ?_⟩
    simp only [updClock, refusing_clock]
    exact ⟨trivial, trivial, trivial, trivial, fun _ => trivial⟩

end

end

end Sys2Proof.Proofs
end

section
/-!
What the commands of PTP, NTP, the console's clock and the ledger do, command by command, branch by branch (ch. 08).
-/

namespace Sys2Proof.Proofs

open Sys2Proof Machine Laws

section
variable {s : State}

/-! ### PTP (R348, R349) -/

section
variable {a : PtpAnnounce}

theorem exec_ptpAnnounce_foreign (h : ptpOn s = false ∨ ptpOwn s a = false) : exec (.ptpAnnounce a) s = .next s := by
  show execPtpAnnounce a s = _
  rw [execPtpAnnounce, if_pos (by simpa using h)]

section
variable (on : ptpOn s = true) (own : ptpOwn s a = true)
include on own

theorem exec_ptpAnnounce_worse (b : a.best = false) : exec (.ptpAnnounce a) s =
    .next (if s.clock.ptp.master = some a.master then ptpLost s else s) := by
  show execPtpAnnounce a s = _
  rw [execPtpAnnounce, if_neg (by simp [on, own]), if_pos (by simp [b])]

/-- Another clock is best: its count begins. -/
theorem exec_ptpAnnounce_other (b : a.best = true) (m : s.clock.ptp.master ≠ some a.master) : exec (.ptpAnnounce a) s =
    .next (updClock (ptpLost s) (fun c => { c with ptp :=
      { master := some a.master, count := 1, stratum := a.stratum, lastAt := c.ledger, interval := a.interval } })) := by
  show execPtpAnnounce a s = _
  rw [execPtpAnnounce, if_neg (by simp [on, own]), if_neg (by simp [b]), if_neg m]

end

/-- The grandmaster has stayed best for another announce interval. -/
def stayedBest (s : State) (a : PtpAnnounce) : State :=
  updClock s (fun c => { c with ptp :=
    { c.ptp with count := c.ptp.count + 1, stratum := a.stratum, lastAt := c.ledger, interval := a.interval
                 accepted := c.ptp.accepted || decide (3 ≤ c.ptp.count + 1) } })

theorem exec_ptpAnnounce_again (on : ptpOn s = true) (own : ptpOwn s a = true) (b : a.best = true)
    (m : s.clock.ptp.master = some a.master) : exec (.ptpAnnounce a) s =
    .next (if (stayedBest s a).clock.ptp.accepted = true ∧ s.clock.wstate ≠ .unset then setSource (stayedBest s a) .ptp
      else stayedBest s a) := by
  show execPtpAnnounce a s = _
  rw [execPtpAnnounce, if_neg (by simp [on, own]), if_neg (by simp [b]), if_pos m]
  rfl

theorem accepted_stayedBest (h : 2 ≤ s.clock.ptp.count) : (stayedBest s a).clock.ptp.accepted = true := by
  have third : 3 ≤ s.clock.ptp.count + 1 := by omega
  show (s.clock.ptp.accepted || decide (3 ≤ s.clock.ptp.count + 1)) = true
  rw [decide_eq_true third, Bool.or_true]

end

theorem exec_ptpAnnounceTimeout : exec .ptpAnnounceTimeout s = .next (if s.clock.ptp.master.isSome
    then ptpLost (advanceTo s (s.clock.ptp.lastAt + 3 * s.clock.ptp.interval)) else s) := rfl

theorem exec_ptpMessage {o : Int} : exec (.ptpMessage o) s = .next (if ptpOn s = true ∧ s.clock.ptp.accepted = true
    then sendDelayReq (discipline s .ptp .ptp o s.clock.ptp.stratum) else s) := by
  show execPtpMessage o s = _
  rw [execPtpMessage]
  exact congrArg Host.Outcome.next (if_congr Bool.and_eq_true_iff rfl rfl)

theorem sendDelayReq_clock : (sendDelayReq s).clock = s.clock := sendDelayReq_changes.clock (by decide)

/-! ### NTP (R348, R350, R351) -/

section
variable {a : IpAddr}

/-- An address is one of the servers in use. -/
theorem any_server {l : List NtpServer} {n : NtpServer} (h : n ∈ l) (e : n.addr = a) :
    l.any (fun n => decide (n.addr = a)) = true := List.any_eq_true.mpr ⟨n, h, decide_eq_true e⟩

theorem not_any_server {l : List NtpServer} (h : ∀ n ∈ l, n.addr ≠ a) :
    l.any (fun n => decide (n.addr = a)) = false := by simpa using h

theorem exec_ntp_noServer (h : ∀ n ∈ s.clock.ntp, n.addr ≠ a) (r : NtpReply) :
    exec (.ntpPoll a) s = .next s ∧ exec (.ntpResponse a r) s = .next s := by
  have absent := not_any_server h
  constructor
  · show execNtpPoll a s = _
    rw [execNtpPoll, if_pos (by rw [absent]; rfl)]
  · show execNtpResponse a r s = _
    rw [execNtpResponse, if_pos (by rw [absent]; rfl)]

/-- A server has become the system peer. -/
def peered (s : State) (b : IpAddr) : State := updClock s (fun c => { c with ntpPeer := some b })

/-- A server after a poll of an address at a ledger time. -/
def polledServer (a : IpAddr) (t : Nat) (n : NtpServer) : NtpServer :=
  if n.addr = a then { n with missed := n.missed + 1, burst := n.burst - 1, nextAt := some (nextPoll t n) } else n

/-- A request has gone to a server. -/
def polled (s : State) (a : IpAddr) : State :=
  originate (updClock (advanceTo s (pollDue s a)) (fun c => { c with ntp := c.ntp.map (polledServer a c.ledger) }))
    a 6 (.ntpRequest a) 21

theorem polled_clock : ∃ l m x r k, (polled s a).clock = { s.clock with
    ledger := l, wallOff := m, slew := x, slewRest := r, ckpts := k, ntp := s.clock.ntp.map (polledServer a l) } := by
  obtain ⟨l, m, x, r, k, moved⟩ := advanceTo_clock s (pollDue s a)
  refine ⟨l, m, x, r, k, (originate_changes.clock (by decide)).trans ?_⟩
  simp only [updClock, moved]

section
variable {n : NtpServer} (mem : n ∈ s.clock.ntp) (e : n.addr = a)
include mem e

/-- A poll ends with the request sent, but the peer that went four polls without an answer is replaced or lost. -/
theorem exec_ntpPoll : exec (.ntpPoll a) s = .next (
    if (polled s a).clock.ntpPeer = some a ∧
        (polled s a).clock.ntp.any (fun n => decide (n.addr = a) && decide (4 < n.missed)) = true then
      match selectNtp (polled s a) with
      | some n => peered (polled s a) n.addr
      | none => ntpLost (polled s a)
    else polled s a) := by
  show execNtpPoll a s = _
  rw [execNtpPoll, if_neg (by rw [any_server mem e]; exact Bool.false_ne_true)]
  rfl

theorem exec_ntpPoll_notPeer (p : (polled s a).clock.ntpPeer ≠ some a) : exec (.ntpPoll a) s = .next (polled s a) := by
  rw [exec_ntpPoll mem e, if_neg fun h => p h.1]

end

/-- A server has answered. -/
def answered (s : State) (a : IpAddr) (r : NtpReply) : State :=
  updClock s (fun c => { c with ntp := c.ntp.map (fun n => if n.addr = a then { n with last := some r, missed := 0 } else n) })

section
variable {n : NtpServer} {r : NtpReply} (mem : n ∈ s.clock.ntp) (e : n.addr = a)
include mem e

theorem exec_ntpResponse_noPeer (h : selectNtp (answered s a r) = none) : exec (.ntpResponse a r) s =
    .next (if s.clock.ntpPeer.isSome then ntpLost (answered s a r) else answered s a r) := by
  show execNtpResponse a r s = _
  rw [execNtpResponse, if_neg (by rw [any_server mem e]; exact Bool.false_ne_true)]
  show Host.Outcome.next (match selectNtp (answered s a r) with | none => _ | some n => _) = _
  rw [h]
  rfl

/-- The peer selected disciplines when it is new or has just answered, while PTP is not accepted. -/
theorem exec_ntpResponse_peer {m : NtpServer} {x : NtpReply} (h : selectNtp (answered s a r) = some m) (last : m.last = some x)
    (fresh : s.clock.ntpPeer ≠ some m.addr ∨ m.addr = a) (alone : s.clock.ptp.accepted = false) :
    exec (.ntpResponse a r) s =
      .next (discipline (peered (answered s a r) m.addr) .ntp .ntp x.offset x.stratum) := by
  show execNtpResponse a r s = _
  rw [execNtpResponse, if_neg (by rw [any_server mem e]; exact Bool.false_ne_true)]
  show Host.Outcome.next (match selectNtp (answered s a r) with | none => _ | some n => _) = _
  rw [h]
  dsimp only
  rw [last]
  refine congrArg Host.Outcome.next (if_pos ?_)
  show ((decide (s.clock.ntpPeer ≠ some m.addr) || decide (m.addr = a)) && ! s.clock.ptp.accepted) = true
  simpa [alone] using fresh

end

/-! ### A lone server -/

/-- The only server is selected while it is a candidate. -/
theorem selectNtp_single {n : NtpServer} (h : s.clock.ntp = [n]) :
    selectNtp s = if ntpCandidate n then some n else none := by
  unfold selectNtp
  rw [h]
  cases c : ntpCandidate n <;> simp [c]

/-- A poll counts against the server polled, and takes one of its burst. -/
theorem polledServer_counts {t : Nat} (m : NtpServer) :
    ((polledServer a t m).addr, (polledServer a t m).missed, (polledServer a t m).burst, (polledServer a t m).last) =
      if m.addr = a then (m.addr, m.missed + 1, m.burst - 1, m.last) else (m.addr, m.missed, m.burst, m.last) := by
  unfold polledServer
  split <;> rfl

/-- After five polls without an answer a server is no candidate. -/
theorem not_ntpCandidate {n : NtpServer} (h : 4 < n.missed) : ntpCandidate n = false := by
  have many : ¬ n.missed < 4 := by omega
  unfold ntpCandidate
  split
  · rfl
  · rw [decide_eq_false many, Bool.and_false]

section
variable {n : NtpServer} (single : s.clock.ntp = [n]) (e : n.addr = a)
include single e

/-- The fifth poll without an answer loses a lone peer. -/
theorem exec_ntpPoll_fifth (p : s.clock.ntpPeer = some a) (four : 4 ≤ n.missed) :
    exec (.ntpPoll a) s = .next (ntpLost (polled s a)) := by
  obtain ⟨l, m, x, r, k, clock⟩ := polled_clock (s := s) (a := a)
  have peer : (polled s a).clock.ntpPeer = some a := by rw [clock, ← p]
  have server : polledServer a l n = { n with missed := n.missed + 1, burst := n.burst - 1, nextAt := some (nextPoll l n) } :=
    if_pos e
  have servers : (polled s a).clock.ntp = [polledServer a l n] := by
    rw [clock]
    show s.clock.ntp.map _ = _
    rw [single, List.map_singleton]
  have fifth : 4 < (polledServer a l n).missed := by rw [server]; exact Nat.lt_succ_of_le four
  have unanswered : (polled s a).clock.ntp.any (fun n => decide (n.addr = a) && decide (4 < n.missed)) = true := by
    have addr : (polledServer a l n).addr = a := by rw [server]; exact e
    rw [servers, List.any_cons, decide_eq_true addr, decide_eq_true fifth]
    rfl
  have unselected : selectNtp (polled s a) = none := by
    rw [selectNtp_single servers, not_ntpCandidate fifth]
    rfl
  rw [exec_ntpPoll (single ▸ List.mem_singleton_self n) e, if_pos ⟨peer, unanswered⟩, unselected]

/-- A lone server of a usable stratum is the system peer from its first answer on. -/
theorem exec_ntpResponse_single {r : NtpReply} (low : 1 ≤ r.stratum) (high : r.stratum ≤ 15)
    (alone : s.clock.ptp.accepted = false) : exec (.ntpResponse a r) s =
      .next (discipline (peered (answered s a r) a) .ntp .ntp r.offset r.stratum) := by
  have servers : (answered s a r).clock.ntp = [{ n with last := some r, missed := 0 }] := by
    show s.clock.ntp.map _ = _
    rw [single, List.map_singleton, if_pos e]
  have candidate : ntpCandidate { n with last := some r, missed := 0 } = true := by simp [ntpCandidate, low, high]
  have selected : selectNtp (answered s a r) = some { n with last := some r, missed := 0 } := by
    rw [selectNtp_single servers, candidate]
    rfl
  have next := exec_ntpResponse_peer (single ▸ List.mem_singleton_self n) e selected rfl (.inr e) alone
  rw [next, e]

end

end

/-! ### Refused steps (R355) -/

theorem exec_timeStepRefused {src : StepSource} {o : Int} {t : Nat} (h : s.clock.refused = some (src, o))
    (h' : s.clock.refusedAt = some t) (d : s.clock.disagree = true) : exec .timeStepRefused s =
    .next (logEv (updClock (advanceTo s (t + 3600 * 1000000)) (fun c => { c with refusedAt := some c.ledger }))
      .timeStepRefused { reason := sourceCode src, details := [o] }) := by
  show execTimeStepRefused s = _
  rw [execTimeStepRefused, h, h']
  exact congrArg Host.Outcome.next (if_pos d)

theorem exec_timeStepRefused_over (h : s.clock.refused = none ∨ s.clock.refusedAt = none ∨ s.clock.disagree = false) :
    exec .timeStepRefused s = .next s := by
  show execTimeStepRefused s = _
  rw [execTimeStepRefused]
  split
  · rename_i refused refusedAt
    have agrees : s.clock.disagree = false := by simpa [refused, refusedAt] using h
    rw [if_neg (by simp [agrees])]
  · rfl

/-! ### The console (R357) -/

section
variable {l : Line} {d : Session}

/-- An answer with nothing after it leaves the clock as it is. -/
theorem answer_clock {x : SessId} {tag : Option Nat} {r : Reply} : (answer s x tag r none).clock = s.clock :=
  (answer_changes (m := 1594240) (by decide) (by decide)).clock (by decide)

/-- What a value given on the console is away from wall time. -/
def awayBy (s : State) (u : UtcArg) : Int :=
  ((u.micros + fractionMicros u.fraction : Nat) : Int) - ((s.clock.ledger : Int) + s.clock.wallOff)

theorem exec_timeSet {u : UtcArg} (h : Accepts s l { priv := true } (utcErr u) d) : exec (.timeSet l u) s =
    .next (if s.clock.wstate = .ntp ∨ s.clock.wstate = .ptp then answer (heard s l) l.sess l.tag (.err .sourceActive) none
      else answer (stepWall (heard s l) .manual .manual (awayBy s u)) l.sess l.tag (.ok []) none) := by
  have wstate : (heard s l).clock.wstate = s.clock.wstate := rfl
  show execTimeSet l u s = _
  rw [execTimeSet, runCmd_accepts h]
  simp only [disciplines, decide_eq_true_eq, wstate]
  split_ifs <;> rfl

theorem exec_timeAccept (h : Accepts s l { priv := true } none d) : exec (.timeAccept l) s =
    .next (match s.clock.refused with
      | none => answer (heard s l) l.sess l.tag (.err .noShadow) none
      | some (src, o) => answer (updClock (stepWall (heard s l) src s.clock.wstate o)
          (fun c => { c with refused := none, disagree := false })) l.sess l.tag (.ok []) none) := by
  have refused : (heard s l).clock.refused = s.clock.refused := rfl
  show execTimeAccept l s = _
  rw [execTimeAccept, runCmd_accepts h]
  simp only [refused]
  cases s.clock.refused <;> rfl

end

/-! ### The RTC and the ledger (R360, R363) -/

/-- When the RTC is due: an hour after it was last written. -/
def rtcDue (s : State) : State :=
  match s.clock.rtcAt with
  | none => s
  | some t => advanceTo s (t + 3600 * 1000000)

theorem exec_rtcWrite : exec .rtcWrite s =
    .next (if s.clock.wstate = .ntp ∨ s.clock.wstate = .ptp then writeRtc (rtcDue s) else s) := by
  show execRtcWrite s = _
  rw [execRtcWrite]
  simp only [disciplines, decide_eq_true_eq]
  rfl

theorem rtcDue_wstate : (rtcDue s).clock.wstate = s.clock.wstate := by
  unfold rtcDue
  split
  · rfl
  · rename_i t _
    obtain ⟨l, m, x, r, k, moved⟩ := advanceTo_clock s (t + 3600 * 1000000)
    rw [moved]

/-- When a PERIODIC checkpoint is due: 30 s after the newest. -/
def ckptDue (s : State) : State :=
  match s.clock.ckpts with
  | [] => s
  | c :: _ => advanceTo s (c.ltime + 30 * 1000000)

theorem exec_ledgerCheckpoint (h : svcRuns s = true) :
    exec .ledgerCheckpoint s = .next (checkpoint (ckptDue s) .periodic) := by
  show execLedgerCheckpoint s = _
  rw [execLedgerCheckpoint, if_pos h]
  rfl

theorem exec_ledgerCheckpoint_stopped (h : svcRuns s = false) : exec .ledgerCheckpoint s = .next s := by
  show execLedgerCheckpoint s = _
  rw [execLedgerCheckpoint, if_neg (by simp [h])]

end

end Sys2Proof.Proofs
end

section
/-!
The statements about time: what chapter 8 says of its sources, steps and checkpoints, and the state in which each of its
commands runs.
-/

namespace Sys2Proof.Proofs

open Sys2Proof Machine Laws

/-- Settles O19, clause by clause, from what each operation and each command does. -/
theorem timeSourcesAndStepsActAsChapter8Says : Obligations.TimeSourcesAndStepsActAsChapter8Says := by
  refine ⟨?foreign, ?worse, ?other, ?again, ?timeout, ?message, ?offset, ?step, ?noServer, ?poll, ?response, ?refused,
    ?agreed, ?set, ?accept, ?rtc, ?periodic, ?checkpoint, ?stopped⟩
  case foreign => exact fun s a => exec_ptpAnnounce_foreign
  case worse => exact fun s a => exec_ptpAnnounce_worse
  case other => exact fun s a => exec_ptpAnnounce_other
  case again => exact fun s a on own best m => ⟨stayedBest s a, rfl, exec_ptpAnnounce_again on own best m⟩
  case timeout => exact fun s => exec_ptpAnnounceTimeout
  case message => exact fun s o => exec_ptpMessage
  case offset =>
    exact fun s src w o n => ⟨measured s o n, rfl, discipline_unset, discipline_refuses,
      fun h near => ⟨agreeing s w o n, rfl, discipline_within h near⟩⟩
  case step =>
    intro s src w o
    obtain ⟨a, reason, eq⟩ := stepWall_eq s src w o
    refine ⟨stepped s w o, a, _, rfl, stepWall_clock.trans stepped_clock.symm, eq, reason, ?_⟩
    rw [stepped_clock]
    exact ⟨rfl, rfl, rfl, rfl, rfl, fun h => ⟨if_neg h, if_neg h⟩, _, rfl, rfl, rfl, rfl⟩
  case noServer => exact fun s a r h => exec_ntp_noServer h r
  case poll => exact fun s a n mem e => ⟨_, polled s a, exec_ntpPoll mem e, rfl, fun p => if_neg fun h => p h.1⟩
  case response =>
    exact fun s a r n mem e => ⟨answered s a r, rfl, exec_ntpResponse_noPeer mem e, fun m x => exec_ntpResponse_peer mem e⟩
  case refused => exact fun s src o t => exec_timeStepRefused
  case agreed => exact fun s => exec_timeStepRefused_over
  case set => exact fun s l d u => exec_timeSet
  case accept => exact fun s l d => exec_timeAccept
  case rtc => exact fun s => exec_rtcWrite
  case periodic =>
    intro s k r svc ring
    rw [exec_ledgerCheckpoint svc, ckptDue, ring]
  case checkpoint =>
    intro s k
    rw [← ckptBound_eq]
    exact writeCkpt_head s.clock k
  case stopped => exact fun s => exec_ledgerCheckpoint_stopped

/-- Settles O60, command by command, from the clock in which each of them ends. -/
theorem timeCommandsCompleteAndSetTheClockSo : Obligations.TimeCommandsCompleteAndSetTheClockSo := by
  refine ⟨?third, ?other, ?timeout, ?firstPtp, ?poll, ?fifth, ?firstNtp, ?refused, ?set, ?accept, ?rtc, ?periodic⟩
  case third =>
    intro s a on own best m count
    have accepted := accepted_stayedBest (a := a) count
    refine ⟨_, exec_ptpAnnounce_again on own best m, ?_⟩
    by_cases unset : s.clock.wstate = .unset
    · rw [if_neg fun h => h.2 unset]
      exact ⟨accepted, rfl, fun h => absurd unset h, rfl⟩
    · rw [if_pos ⟨accepted, unset⟩, setSource_clock]
      exact ⟨accepted, rfl, fun _ => rfl, rfl⟩
  case other =>
    intro s a on own best m
    obtain ⟨n, lost⟩ := ptpLost_clock (s := s)
    refine ⟨_, exec_ptpAnnounce_other on own best m, rfl, rfl, rfl, ?_⟩
    show (ptpLost s).clock.wallOff = _
    rw [lost]
  case timeout =>
    intro s m master
    obtain ⟨l, o, x, r, k, moved⟩ := advanceTo_clock s (s.clock.ptp.lastAt + 3 * s.clock.ptp.interval)
    obtain ⟨n, lost⟩ := ptpLost_clock (s := advanceTo s (s.clock.ptp.lastAt + 3 * s.clock.ptp.interval))
    refine ⟨_, exec_ptpAnnounceTimeout.trans (congrArg _ (if_pos (by rw [master]; rfl))), ?_⟩
    rw [lost, moved]
    exact ⟨rfl, rfl, fun h => if_pos h⟩
  case firstPtp =>
    intro s o on accepted unset
    refine ⟨_, exec_ptpMessage.trans (congrArg _ (if_pos ⟨on, accepted⟩)), ?_⟩
    rw [sendDelayReq_clock, discipline_unset unset, stepWall_clock]
    exact ⟨rfl, rfl, rfl, rfl⟩
  case poll =>
    intro s a n mem e p
    obtain ⟨l, o, x, r, k, clock⟩ := polled_clock (s := s) (a := a)
    have peer : (polled s a).clock.ntpPeer = s.clock.ntpPeer := by rw [clock]
    refine ⟨_, exec_ntpPoll_notPeer mem e (peer ▸ p), ?_⟩
    rw [clock]
    refine ⟨?_, rfl⟩
    show (s.clock.ntp.map (polledServer a l)).map _ = _
    rw [List.map_map]
    exact List.map_congr_left fun n _ => polledServer_counts n
  case fifth =>
    intro s a n single e p four
    obtain ⟨l, o, x, r, k, clock⟩ := polled_clock (s := s) (a := a)
    obtain ⟨t, lost⟩ := ntpLost_clock (s := polled s a)
    refine ⟨_, exec_ntpPoll_fifth single e p four, ?_⟩
    rw [lost, clock]
    exact ⟨rfl, fun h => if_pos h⟩
  case firstNtp =>
    intro s a n r single e low high alone unset
    have still : (peered (answered s a r) a).clock.wstate = .unset := unset
    refine ⟨_, exec_ntpResponse_single single e low high alone, ?_⟩
    rw [discipline_unset still, stepWall_clock]
    exact ⟨rfl, rfl, rfl, rfl⟩
  case refused =>
    rintro s ⟨src, o⟩ t refused refusedAt disagree
    obtain ⟨l, m, x, r, k, moved⟩ := advanceTo_clock s (t + 3600 * 1000000)
    refine ⟨_, exec_timeStepRefused refused refusedAt disagree, ?_⟩
    rw [logEv_clock]
    simp only [updClock, moved]
    exact ⟨refused, disagree, trivial, trivial⟩
  case set =>
    intro s l d u ok ntp ptp
    refine ⟨_, (exec_timeSet ok).trans (congrArg _ (if_neg (not_or.mpr ⟨ntp, ptp⟩))), ?_⟩
    rw [wallNow, answer_clock, stepWall_clock]
    refine ⟨rfl, ?_, rfl, rfl⟩
    show ((s.clock.ledger : Int) + (s.clock.wallOff + awayBy s u)).toNat = _
    unfold awayBy
    omega
  case accept =>
    intro s l d src o ok refused
    refine ⟨_, exec_timeAccept ok, ?_⟩
    rw [refused]
    dsimp only
    rw [answer_clock]
    simp only [updClock, stepWall_clock]
    exact ⟨rfl, trivial, trivial, rfl⟩
  case rtc =>
    intro s disciplined
    have set : (rtcDue s).clock.wstate ≠ .unset := by
      rw [rtcDue_wstate]
      rcases disciplined with h | h <;> simp [h]
    refine ⟨_, exec_rtcWrite.trans (congrArg _ (if_pos disciplined)), ?_⟩
    rw [writeRtc_clock]
    exact ⟨if_neg set, if_neg set⟩
  case periodic =>
    intro s svc
    obtain ⟨c, head, kind, ltime, -, bound⟩ := writeCkpt_head (ckptDue s).clock .periodic
    exact ⟨_, c, exec_ledgerCheckpoint svc, head, kind, ltime, bound⟩

end Sys2Proof.Proofs
end

section
/-!
From the masks of `Changes` to the frames of the commands of the wire protocol and of the operations.
-/

namespace Sys2Proof.Proofs

open Sys2Proof Machine Laws

/-- What a frame served under its row may change: a HELLO, an AUTH, a channel frame, a HEARTBEAT or a request of any
operation (R385). -/
theorem only_of_frameRow {s t : State} {kind opcode i : Nat} {f : Frame}
    (e : (.next (frameRow s kind opcode i f) : Host.Outcome State Fault Refusal) = .next t) :
    Only [.isl, .con, .ports, .net, .proto, .kv, .stalls, .media, .upkeep, .arc, .row, .fw, .log, .out, .freeCtr] s t :=
  only_of_mask e (.next frameRow_changes) (by decide)

/-- Settles O40: each command's mask (its `_changes` law) is covered by the parts that its clause lists. -/
theorem protocolAndOperationCommandsChangeOnlyTheirParts :
    Obligations.ProtocolAndOperationCommandsChangeOnlyTheirParts := by
  refine ⟨?objectExpiry, ?discardTicketDone, ?bucketRefill, ?authLockoutExpiry, ?ticketExpiry, ?dataConnects, ?mbxDoorbell,
    ?connectionClose, ?resets, ?findDone, ?connectionTimeout, ?kv1Connect, ?tlsHandshake, ?authAndScanEnds, ?txnLocksTaken,
    ?scheduler, ?operationTimeouts, ?frames⟩
  case objectExpiry => exact fun s t ⟨_, e⟩ => only_of_mask e execObjectExpiry_changes (by decide)
  case discardTicketDone => exact fun s t ⟨_, e⟩ => only_of_mask e execDiscardTicketDone_changes (by decide)
  case bucketRefill => exact fun s t ⟨_, _, e⟩ => only_of_mask e execBucketRefill_changes (by decide)
  case authLockoutExpiry => exact fun s t ⟨_, e⟩ => only_of_mask e execAuthLockoutExpiry_changes (by decide)
  case ticketExpiry => exact fun s t ⟨_, e⟩ => only_of_mask e execTicketExpiry_changes (by decide)
  case dataConnects =>
    rintro s t (⟨_, _, _, _, _, _, e⟩ | ⟨p, _, _, _, e⟩)
    · exact only_of_mask e execDataConnect_changes (by decide)
    · exact only_of_mask e (execKv1Heartbeat_changes (y0 := p)) (by decide)
  case mbxDoorbell => exact fun s t ⟨_, e⟩ => only_of_mask e execMbxDoorbell_changes (by decide)
  case connectionClose => exact fun s t ⟨_, e⟩ => only_of_mask e execConnectionClose_changes (by decide)
  case resets =>
    rintro s t (⟨_, e⟩ | ⟨_, e⟩)
    · exact only_of_mask e execTlsRecordFail_changes (by decide)
    · exact only_of_mask e execZeroWindowTimeout_changes (by decide)
  case findDone => exact fun s t ⟨_, e⟩ => only_of_mask e execFindDone_changes (by decide)
  case connectionTimeout => exact fun s t ⟨_, _, e⟩ => only_of_mask e execConnectionTimeout_changes (by decide)
  case kv1Connect => exact fun s t ⟨_, _, _, _, e⟩ => only_of_mask e execKv1Connect_changes (by decide)
  case tlsHandshake => exact fun s t ⟨_, _, e⟩ => only_of_mask e execTlsHandshake_changes (by decide)
  case authAndScanEnds =>
    rintro s t (⟨_, e⟩ | ⟨_, e⟩)
    · exact only_of_mask e execAuthDenyDelay_changes (by decide)
    · exact only_of_mask e execResyncTimeout_changes (by decide)
  case txnLocksTaken => exact fun s t ⟨_, e⟩ => only_of_mask e execTxnLocksTaken_changes (by decide)
  case scheduler =>
    rintro s t (⟨_, e⟩ | e)
    · exact only_of_mask e execOperationComplete_changes (by decide)
    · exact only_of_mask e execSchedDispatch_changes (by decide)
  case operationTimeouts =>
    rintro s t (⟨_, e⟩ | ⟨_, e⟩)
    · exact only_of_mask e execUploadExpiry_changes (by decide)
    · exact only_of_mask e execLockTimeout_changes (by decide)
  case frames =>
    rintro s t (⟨_, _, hello⟩ | ⟨_, _, auth⟩ | ⟨_, _, channelOpen⟩ | ⟨_, _, channelClose⟩ | ⟨_, _, lost⟩ | ⟨_, _, resync⟩ |
      ⟨_, _, heartbeat⟩ | ⟨_, _, put⟩ | ⟨_, _, get⟩ | ⟨_, _, head⟩ | ⟨_, _, delete⟩ | ⟨_, _, list⟩ | ⟨_, _, cas⟩ |
      ⟨_, _, mputBegin⟩ | ⟨_, _, mputPart⟩ | ⟨_, _, mputCommit⟩ | ⟨_, _, mputAbort⟩ | ⟨_, _, txn⟩ | ⟨_, _, tag⟩ | ⟨_, _, find⟩ |
      ⟨_, _, fetch⟩ | ⟨_, _, flush⟩ | ⟨_, _, discard⟩ | ⟨_, _, shred⟩ | ⟨_, _, stat⟩ | ⟨_, _, mbxSend⟩ | ⟨_, _, mbxRecv⟩)
    · exact only_of_frameRow hello
    · exact only_of_frameRow auth
    · exact only_of_frameRow channelOpen
    · exact only_of_frameRow channelClose
    · exact only_of_mask lost execFrameLostAlignment_changes (by decide)
    · exact only_of_mask resync execResyncData_changes (by decide)
    · exact only_of_frameRow heartbeat
    · exact only_of_frameRow put
    · exact only_of_frameRow get
    · exact only_of_frameRow head
    · exact only_of_frameRow delete
    · exact only_of_frameRow list
    · exact only_of_frameRow cas
    · exact only_of_frameRow mputBegin
    · exact only_of_frameRow mputPart
    · exact only_of_frameRow mputCommit
    · exact only_of_frameRow mputAbort
    · exact only_of_frameRow txn
    · exact only_of_frameRow tag
    · exact only_of_frameRow find
    · exact only_of_frameRow fetch
    · exact only_of_frameRow flush
    · exact only_of_frameRow discard
    · exact only_of_frameRow shred
    · exact only_of_frameRow stat
    · exact only_of_frameRow mbxSend
    · exact only_of_frameRow mbxRecv

end Sys2Proof.Proofs
end

section
/-!
What the commands of the connections do, command by command, branch by branch (ch. 09): how a connection opens, times out,
loses alignment and ends.
-/

namespace Sys2Proof.Proofs

open Sys2Proof Machine Laws

section
variable {s : State}

/-! ### Connections that open (R372, R390, R391, R400, R405, R420) -/

section
variable {g : Gen} {p : PortId} {k : IfNo} {a b : IpAddr} {f : Byte}

theorem exec_dataConnect_shut (h : listens s g k = false) : exec (.dataConnect g p k a b f) s = .next s :=
  congrArg Host.Outcome.next (if_pos (.inr (by rw [h]; rfl)))

theorem exec_dataConnect (n : g ≠ .kv1) (h : listens s g k = true) : exec (.dataConnect g p k a b f) s = .next (
    if lockedOut s a = true then resetNew s (newConn s g p k a b .hello)
    else if g = .kv3 ∨ f = 0x16 then addConn s { newConn s g p k a b .tls with tls := true }
    else if f = 0xC5 then addConn s (newConn s g p k a b .hello)
    else sendClose (updProto s (fun d => { d with nextConn := d.nextConn + 1 })) s.proto.nextConn
      (newConn s g p k a b .hello)) :=
  congrArg Host.Outcome.next (if_neg (not_or.mpr ⟨n, by rw [h]; decide⟩))

theorem exec_kv1Connect_shut (h : listens s .kv1 k = false) : exec (.kv1Connect p k a b) s = .next s :=
  congrArg Host.Outcome.next (if_pos (by rw [h]; rfl))

theorem exec_kv1Connect_lockedOut (h : listens s .kv1 k = true) (l : lockedOut s a = true) :
    exec (.kv1Connect p k a b) s = .next (resetNew s (newConn s .kv1 p k a b .open_)) := by
  show execKv1Connect p k a b s = _
  rw [execKv1Connect, h, l]
  rfl

theorem exec_kv1Connect_noEntry (h : listens s .kv1 k = true) (l : lockedOut s a = false) (e : kv1Entry s a = none) :
    exec (.kv1Connect p k a b) s = .next (refuseKv1 s (newConn s .kv1 p k a b .open_)) := by
  show execKv1Connect p k a b s = _
  rw [execKv1Connect, h, l, e]
  rfl

/-- The connection that a KV1 client of a stall opens: its source entry has bound the stall (R405). -/
def kv1Bound (s : State) (p : PortId) (k : IfNo) (a b : IpAddr) (x : StallNo) : Conn :=
  { newConn s .kv1 p k a b .open_ with
    stall := some x, generation := (getStall s x).generation, chans := [{ no := 0, maxOut := 16 }] }

section
variable {e : Fin 64}

/-- A KV1 connection whose source entry names a stall in use. -/
theorem exec_kv1Connect_bound (h : listens s .kv1 k = true) (l : lockedOut s a = false) (m : kv1Entry s a = some e)
    (u : (getStall s (entryStall s e)).state = .active ∨ (getStall s (entryStall s e)).state = .draining) :
    exec (.kv1Connect p k a b) s = .next (
      if vlanPermits s k (entryStall s e) = false then refuseKv1 s (newConn s .kv1 p k a b .open_)
      else if 1024 ≤ (liveConns s).length ∨ 32 ≤ boundTo s (entryStall s e) then resetNew s (newConn s .kv1 p k a b .open_)
      else noteSession (addConn s (kv1Bound s p k a b (entryStall s e)))) := by
  show execKv1Connect p k a b s = _
  rw [execKv1Connect, h, l, m]
  rcases u with u | u
  all_goals
    simp only [u, Bool.not_eq_true', kv1Bound]
    rfl

theorem exec_kv1Connect_unused (h : listens s .kv1 k = true) (l : lockedOut s a = false) (m : kv1Entry s a = some e)
    (u : ¬ ((getStall s (entryStall s e)).state = .active ∨ (getStall s (entryStall s e)).state = .draining)) :
    exec (.kv1Connect p k a b) s = .next (refuseKv1 s (newConn s .kv1 p k a b .open_)) := by
  show execKv1Connect p k a b s = _
  rw [execKv1Connect, h, l, m]
  obtain ⟨notActive, notDraining⟩ := not_or.mp u
  cases st : (getStall s (entryStall s e)).state
  case active => exact absurd st notActive
  case draining => exact absurd st notDraining
  all_goals
    simp only [st]
    rfl

end

end

/-! ### TLS (R401 to R404) -/

section
variable {i : Nat} {c : Conn} {r : TlsResult}

theorem exec_tlsHandshake_other (h : getConn s i = some c) (st : c.stage ≠ .tls) : exec (.tlsHandshake i r) s = .next s := by
  show execTlsHandshake i r s = _
  simp only [execTlsHandshake, h, if_pos st]

theorem exec_tlsHandshake_fails (h : getConn s i = some c) (st : c.stage = .tls)
    (bad : r.ok = false ∨ r.alpnOk = false ∨ tlsAgreed r.client = none) :
    exec (.tlsHandshake i r) s = .next (closeConn (sendAlert s i) i) := by
  have fails : (! r.ok || ! r.alpnOk || (tlsAgreed r.client).isNone) = true := by
    rcases bad with bad | bad | bad <;> simp [bad]
  show execTlsHandshake i r s = _
  simp only [execTlsHandshake, h, st, fails, ne_eq, not_true, if_false, if_true]

section
variable {x : TlsSuite × TlsGroup} (h : getConn s i = some c) (st : c.stage = .tls) (ok : r.ok = true)
  (alpn : r.alpnOk = true) (agreed : tlsAgreed r.client = some x)
include h st ok alpn agreed

theorem exec_tlsHandshake_denied (g : c.gen = .kv3) (noCred : r.auth = .none_) :
    exec (.tlsHandshake i r) s = .next (closeConn (authFail (sendAlert s i) c.peer none .kv3) i) := by
  show execTlsHandshake i r s = _
  simp only [execTlsHandshake, h, st, ok, alpn, agreed, g, noCred]
  rfl

theorem exec_tlsHandshake_agrees
    (known : c.gen ≠ .kv3 ∨ (ticketAuth s c.gen r.auth).isSome = true ∨ tlsAccepted s r.auth = true) :
    exec (.tlsHandshake i r) s = .next (
      let a := if c.gen = .kv3 then (ticketAuth s c.gen r.auth).getD r.auth else .none_
      issueTicket (updConn s i (fun c => { c with stage := .hello, stageAt := s.clock.ledger, tlsAuth := a })) i c.gen a) := by
  have accepted : ¬ (c.gen = .kv3 ∧ (! ((ticketAuth s c.gen r.auth).isSome || tlsAccepted s r.auth)) = true) := by
    rintro ⟨kv3, refused⟩
    rcases known with known | known | known
    · exact known kv3
    · simp [known] at refused
    · simp [known] at refused
  show execTlsHandshake i r s = _
  simp only [execTlsHandshake, h, st, ok, alpn, agreed, if_neg accepted]
  rfl

end

theorem ticketAuth_ticket {g h : Gen} {n t : Nat} {b : TlsAuth} (k : AMap.find s.proto.tickets n = some (h, b, t)) :
    ticketAuth s g (.ticket n) = if h = g ∧ now s < t then some b else none := by
  rw [ticketAuth, k]

theorem exec_tlsRecordFail (h : getConn s i = some c) : exec (.tlsRecordFail i) s = .next
    (if c.tls ∧ c.stage ≠ .closed then closeConn (sendAlert s i) i else s) := by
  show execTlsRecordFail i s = _
  rw [execTlsRecordFail, h]

/-! ### Limits and ends (R389, R399, R400, R407, R821) -/

theorem exec_connectionTimeout_due {l : ConnLimit} {t : Nat} (h : getConn s i = some c) (k : limitEnd c l = some t) :
    exec (.connectionTimeout i l) s = .next (closeConn (countP (advanceTo s t) .timeoutClose 1) i) := by
  show execConnectionTimeout i l s = _
  simp only [execConnectionTimeout, h, Option.bind_some, k]

theorem exec_connectionTimeout_not {l : ConnLimit} (h : getConn s i = some c) (k : limitEnd c l = none) :
    exec (.connectionTimeout i l) s = .next s := by
  show execConnectionTimeout i l s = _
  simp only [execConnectionTimeout, h, Option.bind_some, k]

theorem limitEnd_closed {l : ConnLimit} (st : c.stage = .closed) : limitEnd c l = none := by
  cases l <;> simp only [limitEnd, st]

/-- What goes with a connection beside the connection itself leaves PROTO's own record as it is. -/
theorem dropSegs_dropHeld_proto {x : Bool × Nat} : (dropSegs (dropHeld s i) x).proto = s.proto :=
  (dropSegs_changes.proto (by decide)).trans (dropHeld_changes.proto (by decide))

theorem getConn_peerGone : getConn (peerGone s i) i = none := by
  rw [getConn, peerGone, dropSegs_dropHeld_proto]
  exact AMap.find_del_same _ _

theorem exec_authDenyDelay (h : getConn s i = some c) : exec (.authDenyDelay i) s = .next (if c.stage ≠ .authDenied then s else
    closeConn (authFail (sendFrame (advanceTo s (c.stageAt + 1000000)) i
      { kind := 5, opcode := 2, reqId := c.denied, stall := c.stall.getD 0, generation := c.generation, status := .denied,
        reason := 0x0201 }) c.peer (c.stall.map (fun x => x.val)) .kv2) i) := by
  show execAuthDenyDelay i s = _
  simp only [execAuthDenyDelay, h]
  rfl

theorem exec_authLockoutExpiry {a : IpAddr} : exec (.authLockoutExpiry a) s = .next (
    match (AMap.getD s.proto.fails a {}).until_ with
    | none => s
    | some t => { advanceTo s t with proto := { s.proto with fails := AMap.del s.proto.fails a } }) := by
  show execAuthLockoutExpiry a s = _
  rw [execAuthLockoutExpiry]
  cases (AMap.getD s.proto.fails a {}).until_ with
  | none => rfl
  | some t => simp only [updProto, advanceTo_proto]

theorem exec_zeroWindowTimeout (h : getConn s i = some c) :
    exec (.zeroWindowTimeout i) s = .next (countP (resetConn s i) .timeoutClose 1) := by
  show execZeroWindowTimeout i s = _
  rw [execZeroWindowTimeout, h]

/-! ### Alignment (R416 to R418) -/

section
variable {bs : List Byte} (h : getConn s i = some c)
include h

theorem exec_frameLostAlignment_verifies (k : misaligned c.gen bs = false) :
    exec (.frameLostAlignment i bs) s = .next s := by
  show execFrameLostAlignment i bs s = _
  simp only [execFrameLostAlignment, h, k]
  cases c.stage <;> rfl

theorem exec_frameLostAlignment (st : c.stage = .hello ∨ c.stage = .auth ∨ c.stage = .open_)
    (k : misaligned c.gen bs = true) : exec (.frameLostAlignment i bs) s = .next (settle (scanN (bs.length + 1)
      (loseAlignment (updConn s i (fun c => { c with lastRx := s.clock.ledger })) i bs) i)) := by
  show execFrameLostAlignment i bs s = _
  simp only [execFrameLostAlignment, h, k]
  rcases st with st | st | st <;> rw [st] <;> rfl

theorem exec_resyncData (st : c.stage = .resync) : exec (.resyncData i bs) s = .next (settle (scanN
    (c.scan.length + bs.length + 1) (updConn s i (fun c => { c with scan := c.scan ++ bs })) i)) := by
  show execResyncData i bs s = _
  simp only [execResyncData, h, st, ne_eq, not_true, if_false]

theorem exec_resyncData_not (st : c.stage ≠ .resync) : exec (.resyncData i bs) s = .next s := by
  show execResyncData i bs s = _
  simp only [execResyncData, h, if_pos st]

theorem exec_resyncTimeout (st : c.stage = .resync) :
    exec (.resyncTimeout i) s = .next (scanFails (advanceTo s (c.resyncAt + 10000000)) i) := by
  show execResyncTimeout i s = _
  simp only [execResyncTimeout, h, st]
  rfl

theorem exec_resyncTimeout_not (st : c.stage ≠ .resync) : exec (.resyncTimeout i) s = .next s := by
  show execResyncTimeout i s = _
  simp only [execResyncTimeout, h, if_pos st]

end

/-! ### A number of no connection -/

section
variable (h : getConn s i = none)
include h

theorem exec_zeroWindowTimeout_none : exec (.zeroWindowTimeout i) s = .next s := by
  show execZeroWindowTimeout i s = _
  rw [execZeroWindowTimeout, h]

theorem exec_authDenyDelay_none : exec (.authDenyDelay i) s = .next s := by
  show execAuthDenyDelay i s = _
  rw [execAuthDenyDelay, h]

theorem exec_connectionTimeout_none {l : ConnLimit} : exec (.connectionTimeout i l) s = .next s := by
  show execConnectionTimeout i l s = _
  rw [execConnectionTimeout, h]
  rfl

theorem exec_tlsHandshake_none : exec (.tlsHandshake i r) s = .next s := by
  show execTlsHandshake i r s = _
  rw [execTlsHandshake, h]

theorem exec_tlsRecordFail_none : exec (.tlsRecordFail i) s = .next s := by
  show execTlsRecordFail i s = _
  rw [execTlsRecordFail, h]

end

end

/-! ### Heartbeat datagrams of KV1 (R412, R413) -/

section
variable {p : PortId} {k : IfNo} {e : Ends} {d : List Byte}

theorem exec_kv1Heartbeat_shut (h : listens s .kv1 k = false ∨ halting s = true) :
    exec (.kv1Heartbeat p k e d) s = .next s :=
  congrArg Host.Outcome.next (if_pos (h.imp_left fun h => by rw [h]; rfl))

section
variable (h : listens s .kv1 k = true) (run : halting s = false)
include h run

theorem exec_kv1Heartbeat_dropped (n : kv1Beat s e.src d = none) :
    exec (.kv1Heartbeat p k e d) s = .next (countP s .hbDropped 1) := by
  show execKv1Heartbeat p k e d s = _
  rw [execKv1Heartbeat, h, run, n]
  rfl

theorem exec_kv1Heartbeat_answered {n : Nat} (m : kv1Beat s e.src d = some n) :
    exec (.kv1Heartbeat p k e d) s = .next (sendIp s k 7 (.kv1Heartbeat e n) 22) := by
  show execKv1Heartbeat p k e d s = _
  rw [execKv1Heartbeat, h, run, m]
  rfl

end

end

end

/-! ### The statement -/

/-- Settles O20, command by command, from what each of them does in each of its branches. -/
theorem connectionsOpenAndEndAsChapter9Says : Obligations.ConnectionsOpenAndEndAsChapter9Says := by
  refine ⟨?shut, ?kv1, ?opens, ?kv1Opens, ?tls, ?ticket, ?tlsRecord, ?limits, ?close, ?gone, ?denied, ?lockout, ?alignment,
    ?beats, ?beatShut, ?zeroWindow, ?noConn⟩
  case shut => exact fun s g p k a b f => exec_dataConnect_shut
  case kv1 =>
    rintro s p k a b c rfl
    cases h : listens s .kv1 k with
    | false => exact exec_kv1Connect_shut h
    | true =>
      cases l : lockedOut s a with
      | true => exact exec_kv1Connect_lockedOut h l
      | false =>
        cases m : kv1Entry s a with
        | none => exact exec_kv1Connect_noEntry h l m
        | some e =>
          by_cases u : (getStall s (entryStall s e)).state = .active ∨ (getStall s (entryStall s e)).state = .draining
          · rw [exec_kv1Connect_bound h l m u]
            rcases u with u | u <;> simp only [u, Bool.true_eq_false, Bool.false_eq_true, if_false, kv1Bound]
          · rw [exec_kv1Connect_unused h l m u]
            obtain ⟨notActive, notDraining⟩ := not_or.mp u
            cases st : (getStall s (entryStall s e)).state
            case active => exact absurd st notActive
            case draining => exact absurd st notDraining
            all_goals simp only [st, Bool.true_eq_false, Bool.false_eq_true, if_false]
  case opens =>
    intro s g p k a b f n h
    rw [exec_dataConnect n h]
    refine ⟨fun l => ?_, fun l t => ?_, fun l v y => ?_, fun l v z y => ?_⟩
    · rw [if_pos l]
    · rw [if_neg (by rw [l]; decide), if_pos t]
    · subst v y
      rw [if_neg (by rw [l]; decide)]
      rfl
    · subst v
      rw [if_neg (by rw [l]; decide), if_neg (not_or.mpr ⟨by decide, z⟩), if_neg y]
  case kv1Opens =>
    intro s p k a b e h l m u v free few
    have room : ¬ (1024 ≤ (liveConns s).length ∨ 32 ≤ boundTo s (entryStall s e)) :=
      not_or.mpr ⟨Nat.not_le.mpr free, Nat.not_le.mpr few⟩
    refine ⟨noteSession (addConn s (kv1Bound s p k a b (entryStall s e))), kv1Bound s p k a b (entryStall s e), ?_,
      getConn_addConn s _, rfl, rfl, rfl, rfl, rfl, rfl⟩
    rw [exec_kv1Connect_bound h l m (.inl u), if_neg (by rw [v]; decide), if_neg room]
  case tls =>
    exact fun s i c r h => ⟨exec_tlsHandshake_other h, exec_tlsHandshake_fails h,
      fun x st ok alpn agreed known => ⟨_, _, _, rfl, rfl, rfl, exec_tlsHandshake_agrees h st ok alpn agreed known⟩,
      fun x st ok alpn agreed => exec_tlsHandshake_denied h st ok alpn agreed⟩
  case ticket => exact fun s g n h b t => ticketAuth_ticket
  case tlsRecord => exact fun s i c => exec_tlsRecordFail
  case limits =>
    intro s i c h
    refine ⟨fun st => ?_, fun st => ?_, fun st => ?_, fun st => ?_,
      fun st l => exec_connectionTimeout_not h (limitEnd_closed st)⟩
    all_goals exact exec_connectionTimeout_due h (by simp only [limitEnd, st]; rfl)
  case close => exact fun s i => rfl
  case gone => exact fun s i c _ _ => getConn_peerGone
  case denied => exact fun s i c => exec_authDenyDelay
  case lockout => exact fun s a => exec_authLockoutExpiry.trans rfl
  case alignment =>
    exact fun s i c bs h => ⟨exec_frameLostAlignment_verifies h, exec_frameLostAlignment h, exec_resyncData h,
      exec_resyncTimeout h, fun st => ⟨exec_resyncData_not h st, exec_resyncTimeout_not h st⟩⟩
  case beats =>
    exact fun s p k e d h run => ⟨exec_kv1Heartbeat_dropped h run, fun n => exec_kv1Heartbeat_answered h run⟩
  case beatShut => exact fun s p k e d => exec_kv1Heartbeat_shut
  case zeroWindow => exact fun s i c => exec_zeroWindowTimeout
  case noConn =>
    exact fun s i h => ⟨exec_zeroWindowTimeout_none h, exec_authDenyDelay_none h, fun x => exec_connectionTimeout_none h,
      fun r => exec_tlsHandshake_none h, exec_tlsRecordFail_none h⟩

end Sys2Proof.Proofs
end

section
/-!
What HELLO, AUTH, the channel frames and HEARTBEAT do on a connection that stands in their stage, branch by branch (ch. 09).
-/

namespace Sys2Proof.Proofs

open Sys2Proof Machine Laws

section
variable {s : State} {i : Nat} {c : Conn} {f : Frame}

/-! ### A received frame leaves what the checks of HELLO and AUTH read -/

@[simp] theorem received_cfg : (received s i).cfg = s.cfg := wakeIsl_rest.2.2.1

@[simp] theorem received_clock : (received s i).clock = s.clock := wakeIsl_rest.2.2.2.2.1

@[simp] theorem received_nextSession : (received s i).proto.nextSession = s.proto.nextSession := by
  show (wakeIsl s .proto).proto.nextSession = _
  rw [wakeIsl_proto]

@[simp] theorem received_freeCtr : (received s i).freeCtr = s.freeCtr := wakeIsl_changes.freeCtr (by decide)

section
variable {x : StallNo}

@[simp] theorem inUse_received : inUse (received s i) x = inUse s x := by rw [inUse, inUse, getStall_received]

@[simp] theorem frozenFor_received : frozenFor (received s i) x = frozenFor s x := by
  rw [frozenFor, frozenFor, getStall_received]

@[simp] theorem identityFits_received : identityFits (received s i) c x = identityFits s c x := by
  rw [identityFits, identityFits, getStall_received]

theorem stallVlans_of_cfg {t : State} (h : t.cfg = s.cfg) : stallVlans t x = stallVlans s x := by
  unfold stallVlans cfgField
  simp only [cfgWord_of_cfg h]

@[simp] theorem vlanPermits_received {k : IfNo} : vlanPermits (received s i) k x = vlanPermits s k x := by
  rw [vlanPermits, vlanPermits, stallVlans_of_cfg received_cfg]

end

@[simp] theorem sessionSecret_received : sessionSecret (received s i) c = sessionSecret s c := by
  unfold sessionSecret
  rw [getStall_received]

/-! ### HELLO (R392 to R396) -/

/-- The limit on outstanding requests that an accepted HELLO grants (R393). -/
def helloMaxOut (f : Frame) : Nat :=
  if leNat (slice f.data 18 2) = 0 then 64 else Nat.min (leNat (slice f.data 18 2)) 256

/-- The connection that an accepted HELLO leaves: bound to its stall, a KV2 one awaiting AUTH, a KV3 one open. -/
def helloConn (s : State) (c : Conn) (f : Frame) : Conn :=
  { c with
    stage := if c.gen = .kv2 then .auth else .open_
    stageAt := s.clock.ledger, lastRx := s.clock.ledger, stall := some f.stall, generation := f.generation
    slot := if c.gen = .kv2 then some (leNat (slice f.data 16 1)) else identitySlot s c f.stall
    clientNonce := f.data.take 16, driveNonce := if c.gen = .kv2 then Config.randBytes s.freeCtr 16 else []
    sessionId := s.proto.nextSession, clientTag := leNat (slice f.data 24 8)
    maxData := Nat.max 65536 (Nat.min (leNat (slice f.data 20 4)) 4194304), chans := [{ no := 0, maxOut := helloMaxOut f }] }

/-- The state in which an accepted HELLO is answered. -/
def helloBound (s : State) (i : Nat) (c : Conn) (f : Frame) : State :=
  let t := updProto (if c.gen = .kv2 then (freshBytes s 16).2 else s) (fun p => { p with nextSession := p.nextSession + 1 })
  let t := updConn t i (fun _ => helloConn s c f)
  if c.gen = .kv3 then noteSession t else t

theorem getConn_helloBound {d : Conn} (h : getConn s i = some d) :
    getConn (helloBound s i c f) i = some (helloConn s c f) := by
  unfold helloBound
  cases c.gen <;> exact getConn_updConn_same (f := fun _ => helloConn s c f) h

@[simp] theorem nextSession_helloBound : (helloBound s i c f).proto.nextSession = s.proto.nextSession + 1 := by
  unfold helloBound
  cases c.gen <;> rfl

/-- A KV2 session awaits AUTH, with the slot it named and a fresh nonce (R392, R398). -/
theorem helloBound_kv2 (k : c.gen = .kv2) : (helloConn s c f).stage = .auth ∧
    (helloConn s c f).slot = some (leNat (slice f.data 16 1)) ∧
    (helloConn s c f).driveNonce = Config.randBytes s.freeCtr 16 ∧ (helloBound s i c f).freeCtr = s.freeCtr + 1 := by
  simp only [helloConn, helloBound, k, if_true]
  exact ⟨trivial, trivial, trivial, rfl⟩

/-- A KV3 session is open (R403, R754). -/
theorem helloBound_kv3 (k : c.gen = .kv3) :
    (helloConn s c f).stage = .open_ ∧ (helloBound s i c f).fw.sessionSeen = true := by
  simp only [helloConn, helloBound, k]
  exact ⟨rfl, rfl⟩

/-- HELLO's sections are those it has, and its reserved bytes 0 (R392, R394). -/
structure HelloFormed (f : Frame) : Prop where
  /-- It has no key section. -/
  key : f.keyLen = 0
  /-- It has no tags. -/
  tags : f.tagCount = 0
  /-- Its record has 64 bytes. -/
  data : f.dataLen = 64
  /-- The record's reserved bytes are 0. -/
  reserved : (slice f.data 17 1 ++ slice f.data 32 32).all (fun b => b == 0) = true

theorem serveHello_malformed (bad : f.keyLen ≠ 0 ∨ f.tagCount ≠ 0 ∨ f.dataLen ≠ 64) :
    serveHello s i c f = helloFails s i f .badFrame 0x0103 f.generation := by
  rw [serveHello]
  exact if_pos (by tauto)

/-- A well-formed HELLO: its checks in their order (R394, R395), then the binding. -/
theorem serveHello_formed (w : HelloFormed f) (g : c.gen ≠ .kv1) : serveHello s i c f =
    if inUse s f.stall = false then helloFails s i f .denied 0x0203 f.generation
    else if vlanPermits s c.ifc f.stall = false then helloFails s i f .denied 0x0202 f.generation
    else if c.gen = .kv3 ∧ identityFits s c f.stall = false then helloFails s i f .denied 0x0204 f.generation
    else if tooMany s f.stall = true then helloFails s i f .tryLater 0x0303 f.generation
    else if c.gen = .kv3 ∧ frozenFor s f.stall = true then helloFails s i f .frozen 0 f.generation
    else if c.gen = .kv3 ∧ f.generation ≠ (getStall s f.stall).generation then
      helloFails s i f .staleGeneration 0 (getStall s f.stall).generation
    else sendFrame (helloBound s i c f) i { kind := 4, reqId := f.reqId, stall := f.stall, generation := f.generation
                                            data := helloAck (helloBound s i c f) (helloConn s c f) (helloMaxOut f) } := by
  have wellFormed : ¬ (f.keyLen ≠ 0 ∨ f.tagCount ≠ 0 ∨ f.dataLen ≠ 64 ∨
      (slice f.data 17 1 ++ slice f.data 32 32).any (fun b => b ≠ 0) = true) := by
    simp only [w.key, w.tags, w.data, all_zero w.reserved]
    decide
  rw [serveHello, if_neg wellFormed]
  simp only [Bool.not_eq_true']
  unfold helloBound helloConn
  cases k : c.gen with
  | kv1 => exact absurd k g
  | kv2 => rfl
  | kv3 => rfl

/-- A HELLO that no check refuses. -/
theorem serveHello_accepts (w : HelloFormed f) (u : inUse s f.stall = true) (v : vlanPermits s c.ifc f.stall = true)
    (few : tooMany s f.stall = false) (accepted : c.gen = .kv2 ∨ (c.gen = .kv3 ∧ identityFits s c f.stall = true ∧
      frozenFor s f.stall = false ∧ f.generation = (getStall s f.stall).generation)) :
    serveHello s i c f = sendFrame (helloBound s i c f) i
      { kind := 4, reqId := f.reqId, stall := f.stall, generation := f.generation
        data := helloAck (helloBound s i c f) (helloConn s c f) (helloMaxOut f) } := by
  rcases accepted with kv2 | ⟨kv3, fits, thawed, present⟩
  · rw [serveHello_formed w (by rw [kv2]; decide)]
    simp only [u, v, few, kv2, Bool.true_eq_false, Bool.false_eq_true, reduceCtorEq, false_and, if_false]
  · rw [serveHello_formed w (by rw [kv3]; decide)]
    simp only [u, v, few, fits, thawed, present, Bool.true_eq_false, Bool.false_eq_true, and_false, if_false, ne_eq, not_true]

theorem exec_hello (h : Passes s i f c .hello) (k : f.kind = 3) :
    exec (.hello i f) s = .next (serveHello (received s i) i c f) :=
  congrArg Host.Outcome.next ((frameRow_served (by rw [rowOfFrame, k]; rfl)).trans (serveFrame_hello h k))

/-- HELLO is a frame of KV2 and KV3 (R392). -/
theorem gen_of_hello (h : Passes s i f c .hello) (k : f.kind = 3) : c.gen ≠ .kv1 := by
  intro g
  have fields := h.fields
  rw [fieldFault, g, k] at fields
  cases fields

/-! ### AUTH (R398, R399) -/

theorem exec_auth (h : Passes s i f c .auth) (k : f.kind = 5) :
    exec (.auth i f) s = .next (serveAuth (received s i) i c f) :=
  congrArg Host.Outcome.next ((frameRow_served (by rw [rowOfFrame, k]; rfl)).trans (serveFrame_auth h k))

theorem serveAuth_elsewhere (h : some f.stall ≠ c.stall ∨ f.generation ≠ c.generation) :
    serveAuth s i c f = sendFrame s i (authResp c f .denied 0x0204 c.generation []) := by
  rw [serveAuth, if_pos h]

section
variable (x : some f.stall = c.stall) (g : f.generation = c.generation)
include x g

theorem serveAuth_delays (h : sessionSecret s c = none ∨
    (∃ k, sessionSecret s c = some k ∧ f.data ≠ Config.hmacSha256 k (challenge clientName c))) :
    serveAuth s i c f = updConn s i (fun c => { c with
      stage := .authDenied, stageAt := s.clock.ledger, denied := f.reqId }) := by
  rw [serveAuth, if_neg (by simp [x, g])]
  rcases h with h | ⟨k, h, wrong⟩
  · rw [h]
  · rw [h]
    exact if_pos wrong

/-- AUTH whose proof is right. -/
theorem serveAuth_proved {k : List Byte} (h : sessionSecret s c = some k)
    (right : f.data = Config.hmacSha256 k (challenge clientName c)) : serveAuth s i c f =
      if frozenFor s f.stall = true then closeConn (sendFrame s i (authResp c f .frozen 0 c.generation [])) i
      else if c.generation ≠ (getStall s f.stall).generation then
        closeConn (sendFrame s i (authResp c f .staleGeneration 0 (getStall s f.stall).generation [])) i
      else sendFrame (noteSession (updConn s i (fun c => { c with stage := .open_, stageAt := s.clock.ledger }))) i
        (authResp c f .ok 0 c.generation (Config.hmacSha256 k (challenge driveName c))) := by
  rw [serveAuth, if_neg (by simp [x, g]), h]
  simp only [right, ← x, Option.getD_some, ne_eq, not_true, if_false]

end

/-! ### Channels and heartbeats (R408, R409, R412) -/

/-- A frame of an open session that names the session's stall and generation. -/
theorem serveRequest_channel (st : f.stall = c.stall.getD 0) (g : f.generation = (getStall s (c.stall.getD 0)).generation)
    (own : c.generation = (getStall s (c.stall.getD 0)).generation) (k : f.kind = 7) :
    serveRequest s i c f = serveChannel s i c f := by
  rw [serveRequest, if_neg (fun x => x.2 st), if_neg (fun x => x.2.elim (· g) (· own)), if_pos k]

theorem serveFrame_channel (h : Passes s i f c .open_) (k : f.kind = 7) (st : f.stall = c.stall.getD 0)
    (g : f.generation = (getStall s (c.stall.getD 0)).generation)
    (own : c.generation = (getStall s (c.stall.getD 0)).generation) (staged : Staged s i f c) :
    serveFrame s i f = serveChannel (received s i) i c f := by
  rw [serveFrame_open h (.inr k) staged]
  rw [← getStall_received (i := i)] at g own
  exact serveRequest_channel st g own k

theorem rowOfFrame_channel (k : f.kind = 7) (o : f.opcode = 1 ∨ f.opcode = 2) : rowOfFrame f = some (7, f.opcode) := by
  rw [rowOfFrame, k]
  exact if_pos o

/-- The limit on outstanding requests that a channel takes over from channel 0 (R408). -/
def channelLimit (c : Conn) : Nat :=
  match c.chans.find? (fun x => decide (x.no = 0)) with | some x => x.maxOut | none => 64

/-- The state in which an OPEN is answered. -/
def channelAdded (s : State) (i : Nat) (c : Conn) (f : Frame) : State :=
  updConn s i (fun d => { d with chans := d.chans ++ [{ no := f.channel, maxOut := channelLimit c }] })

theorem serveChannel_open (o : f.opcode = 1) : serveChannel s i c f =
    sendFrame (channelAdded s i c f) i (stampResp c f.channel f.reqId 1 { kind := 7 }) := by
  rw [serveChannel, if_pos o]
  rfl

theorem serveChannel_close (o : f.opcode = 2) : serveChannel s i c f =
    pump (updChan s i f.channel (fun x => { x with closing := some f.reqId })) i f.channel := by
  rw [serveChannel, if_neg (by rw [o]; decide)]

theorem exec_heartbeat {ch : Chan} (h : PassesAll s i f c .heartbeat ch) :
    exec (.heartbeat i f) s = .next (answerHeartbeat (received s i) i c f) := by
  have row : rowOfFrame f = some (1, 0x13) := by rw [rowOfFrame_request h.kind h.code, opcode_of h.code]; rfl
  have stall : ¬ (c.gen ≠ .kv1 ∧ f.stall ≠ c.stall.getD 0) := fun x => x.2 (h.stall x.1)
  have generation : ¬ (c.gen ≠ .kv1 ∧ (f.generation ≠ (getStall (received s i) (c.stall.getD 0)).generation ∨
      c.generation ≠ (getStall (received s i) (c.stall.getD 0)).generation)) := by
    rw [getStall_received]
    exact fun x => x.2.elim (· (h.generation x.1).1) (· (h.generation x.1).2)
  have served := serveFrame_open h.toPasses (.inl h.kind) h.staged
  refine congrArg Host.Outcome.next ((frameRow_served row).trans (served.trans ?_))
  rw [serveRequest, if_neg stall, if_neg generation, if_neg (by rw [h.kind]; decide), h.code]

theorem answerHeartbeat_runs (away : c.goingAway = false) (run : halting s = false) (opt : optOf f = 0) (key : f.keyLen = 0)
    (tags : f.tagCount = 0) (data : f.dataLen = 0) : answerHeartbeat s i c f = sendFrame s i
      (stampResp c f.channel f.reqId f.opcode { reason := hbCode s + 256 * levelCode s.power.level }) := by
  unfold answerHeartbeat
  rw [away, run, opt, key, tags, data]
  rfl

end

/-! ### The statement -/

/-- Settles O21, frame by frame, from what each of them does in each of its branches. -/
theorem helloAuthAndChannelsAnswerAsTheirRulesSay : Obligations.HelloAuthAndChannelsAnswerAsTheirRulesSay := by
  refine ⟨?hello, ?auth, ?channel, ?heartbeat, ?beat, ?otherRow⟩
  case hello =>
    intro s i f c h k
    have gen := gen_of_hello h k
    rw [exec_hello h k]
    refine ⟨fun bad => by rw [serveHello_malformed bad], fun key tags data reserved => ?_⟩
    have formed : HelloFormed f := ⟨key, tags, data, reserved⟩
    refine ⟨fun u => ?unused, fun u v => ?vlan, fun u v g fits => ?identity, fun u v fits _ many => ?connections,
      fun u v g fits few => ⟨fun frozen => ?frozen, fun thawed stale => ?stale⟩, fun u v few accepted => ?accepted⟩
    case accepted =>
      refine ⟨helloBound (received s i) i c f, helloConn (received s i) c f, helloMaxOut f, ?_,
        getConn_helloBound (getConn_received h.conn), by simp, received_nextSession (i := i), rfl, rfl, rfl, rfl, rfl, rfl,
        fun kv2 => ?_, helloBound_kv3⟩
      · rw [serveHello_accepts formed (by simpa using u) (by simpa using v) few (by simpa [getStall_received] using accepted)]
      · have bound := helloBound_kv2 (s := received s i) (i := i) (f := f) kv2
        rwa [received_freeCtr] at bound
    all_goals
      rw [serveHello_formed formed gen]
      simp only [inUse_received, vlanPermits_received, identityFits_received, frozenFor_received, getStall_received]
    case unused => rw [if_pos u]
    case vlan => simp only [u, v, Bool.true_eq_false, if_false, if_true]
    case identity => simp only [u, v, g, fits, Bool.true_eq_false, if_false, if_true, and_self]
    case connections =>
      have known : ¬ (c.gen = .kv3 ∧ identityFits s c f.stall = false) := by
        rintro ⟨kv3, unfit⟩
        rcases fits with kv2 | fit
        · exact absurd (kv2.symm.trans kv3) (by decide)
        · exact Bool.false_ne_true (unfit.symm.trans fit)
      simp only [u, v, many, known, Bool.true_eq_false, if_false, if_true]
    case frozen =>
      simp only [u, v, g, fits, few, frozen, Bool.true_eq_false, Bool.false_eq_true, and_false, and_self, if_false, if_true]
    case stale =>
      simp only [u, v, g, fits, few, thawed, stale, Bool.true_eq_false, Bool.false_eq_true, and_false, and_self, if_false,
        if_true, ne_eq, not_false_eq_true]
  case auth =>
    intro s i f c h k _
    rw [exec_auth h k]
    refine ⟨fun elsewhere => by rw [serveAuth_elsewhere elsewhere], fun x g => ⟨fun wrong => ?_, fun key secret right => ?_⟩⟩
    · rw [← sessionSecret_received (i := i)] at wrong
      rw [serveAuth_delays x g wrong, received_clock]
    · rw [← sessionSecret_received (i := i)] at secret
      rw [serveAuth_proved x g secret right]
      simp only [frozenFor_received, getStall_received]
      refine ⟨fun frozen => by rw [if_pos frozen], fun thawed stale => ?_, fun thawed present => ?_⟩
      · rw [if_neg (by rw [thawed]; decide), if_pos stale]
      · rw [if_neg (by rw [thawed]; decide), if_neg (not_not.mpr present)]
        exact ⟨_, _, rfl, getConn_updConn_same (getConn_received h.conn), rfl, rfl⟩
  case channel =>
    intro s i f c h _ k st g own staged
    have served := serveFrame_channel h k st g own staged
    refine ⟨fun o => ⟨channelLimit c, channelAdded (received s i) i c f, ?_,
      getConn_updConn_same (getConn_received h.conn), fun x first => ?_⟩, fun o => ?_⟩
    · have row : rowOfFrame f = some (7, 1) := by rw [rowOfFrame_channel k (.inl o), o]
      exact congrArg Host.Outcome.next ((frameRow_served row).trans (served.trans (serveChannel_open o)))
    · rw [channelLimit, first]
    · have row : rowOfFrame f = some (7, 2) := by rw [rowOfFrame_channel k (.inr o), o]
      exact congrArg Host.Outcome.next ((frameRow_served row).trans (served.trans (serveChannel_close o)))
  case heartbeat => exact fun s i f c ch => exec_heartbeat
  case beat => exact fun s i f c => answerHeartbeat_runs
  case otherRow =>
    intro s i f r row
    refine ⟨fun n => ?_, fun n => ?_, fun n => ?_, fun n => ?_, fun n => ?_⟩
    all_goals exact congrArg Host.Outcome.next (frameRow_other row n)

end Sys2Proof.Proofs
end

section
/-!
What a repeat of a request is charged: nothing (R486, R562), where the statement charges it as an operation.
-/

namespace Sys2Proof.Proofs

open Sys2Proof Machine Laws

/-- The operations that a stall's open period has counted (R560). -/
def opsCounted (s : State) (x : StallNo) : Option Nat := (getStall s x).period.map (fun p => p.acc.ops)

/-! ### A repeat on a drive that meters its stall -/

/-- A session whose one request, 7, was answered with more than the window keeps. -/
def answeredChan : Chan where
  no := 0
  maxOut := 64
  window := [{ reqId := 7, cached := none, sent := true }]

/-- Its KV3 connection, bound to stall 0. -/
def answeredConn : Conn where
  gen := .kv3
  peer := 1
  ifc := 8
  port := .p0
  local_ := 0
  stage := .open_
  stageAt := 0
  lastRx := 0
  stall := some 0
  chans := [answeredChan]

/-- Stall 0, with a metering period open that has counted that request. -/
def meteredStall : Stall where
  state := .active
  owner := some 0
  period := some { seq := 0, kind := 0, bounds := none, wallOpen := 0, ltimeOpen := 0, acc := { ops := 1 } }

/-- A drive in READY with that connection and that stall. -/
def meteredDrive : State :=
  { State.reset with
    phase := .ready
    proto := { conns := [(0, answeredConn)], nextConn := 1, listening := true }
    stalls := { tab := [(0, meteredStall)], active := [0] } }

/-- Request 7 again: a GET. -/
def repeatedGet : Frame := { gen := 3, opcode := 2, reqId := 7, keyLen := 1, key := [1] }

theorem repeatedGet_passes : PassesAll meteredDrive 0 repeatedGet answeredConn .get answeredChan where
  conn := rfl
  stage := rfl
  gen := rfl
  payload := rfl
  fields := by decide
  kind := rfl
  staged := ⟨rfl, by decide⟩
  code := rfl
  stall := fun _ => rfl
  generation := fun _ => ⟨rfl, rfl⟩
  chan := rfl
  room := by decide

/-- The repeat is answered, and the period's count stays. -/
theorem opsCounted_repeat :
    opsCounted (admitRequest (received meteredDrive 0) 0 0 answeredConn 0 .get repeatedGet) 0 = some 1 :=
  rfl

/-- What the statement says of the repeat counts one operation more. -/
theorem opsCounted_charged : opsCounted (replyInOrder (charge (received meteredDrive 0) 0 .ops 1) 0 0 7
    (stampResp answeredConn 0 7 2 { status := .duplicateUnknown, reason := 0 })) 0 = some 2 :=
  rfl

/-- Refutes O22: its clause of a repeat whose response has been sent charges the stall's OPS by 1, and the model, as R562
says, counts a repeat nowhere. -/
theorem not_requestsAreAdmittedAndDispatchedAsTheirRulesSay :
    ¬ Obligations.RequestsAreAdmittedAndDispatchedAsTheirRulesSay := by
  rintro ⟨-, -, -, -, -, repeats, -⟩
  have charged := repeats meteredDrive 0 repeatedGet answeredConn .get answeredChan
    { reqId := 7, cached := none, sent := true } repeatedGet_passes rfl rfl
  have counted := congrArg (opsCounted · 0) charged
  exact absurd ((opsCounted_repeat.symm.trans counted).trans opsCounted_charged) (by decide)

end Sys2Proof.Proofs
end

section
/-!
From the masks of `Changes` to the frames of the commands of stalls, mailboxes, relocation and metering.
-/

namespace Sys2Proof.Proofs

open Sys2Proof Machine Laws

/-- Settles O41: each command's mask (its `_changes` law) is covered by the parts that its clause lists. -/
theorem stallCommandsChangeOnlyTheirParts : Obligations.StallCommandsChangeOnlyTheirParts := by
  refine ⟨?relocateCopy, ?consoleAndStalls, ?consoleStallsAndMedia, ?stallRelocate, ?meterTick, ?mbxWardenSend, ?bindings,
    ?stallCreate, ?stallCredNew, ?relocateDone, ?removals, ?relocateFailed, ?relocateMessage, ?drainEnd, ?freezeDrainEnd⟩
  case relocateCopy => exact fun s t ⟨_, e⟩ => only_of_mask e execRelocateCopy_changes (by decide)
  case consoleAndStalls =>
    rintro s t (⟨_, cutover⟩ | ⟨_, _, show_⟩ | ⟨_, _, freeze⟩ | ⟨_, _, _, _, blobRead⟩ | ⟨_, _, _, _, blobLoad⟩ |
      ⟨_, _, _, keyExport⟩ | ⟨_, _, credShow⟩ | ⟨_, _, _, compose⟩ | ⟨_, _, mbxShow⟩ | ⟨_, _, meterShow⟩ |
      ⟨_, _, _, _, _, meterRecords⟩)
    · exact only_of_mask cutover execRelocateCutover_changes (by decide)
    · exact only_of_mask show_ execStallShow_changes (by decide)
    · exact only_of_mask freeze execStallFreeze_changes (by decide)
    · exact only_of_mask blobRead execStallBlobRead_changes (by decide)
    · exact only_of_mask blobLoad execStallBlobLoad_changes (by decide)
    · exact only_of_mask keyExport execStallKeyExport_changes (by decide)
    · exact only_of_mask credShow execStallCredShow_changes (by decide)
    · exact only_of_mask compose execMbxCompose_changes (by decide)
    · exact only_of_mask mbxShow execMbxShow_changes (by decide)
    · exact only_of_mask meterShow execMeterShow_changes (by decide)
    · exact only_of_mask meterRecords execMeterRecords_changes (by decide)
  case consoleStallsAndMedia =>
    rintro s t (⟨_, removalDone⟩ | ⟨_, _, _, adopt⟩ | ⟨_, _, _, wardenRecv⟩)
    · exact only_of_mask removalDone execStallRemovalDone_changes (by decide)
    · exact only_of_mask adopt execStallAdopt_changes (by decide)
    · exact only_of_mask wardenRecv execMbxWardenRecv_changes (by decide)
  case stallRelocate => exact fun s t ⟨_, _, _, _, _, _, e⟩ => only_of_mask e execStallRelocate_changes (by decide)
  case meterTick => exact fun s t e => only_of_mask e execMeterTick_changes (by decide)
  case mbxWardenSend => exact fun s t ⟨_, _, _, _, e⟩ => only_of_mask e execMbxWardenSend_changes (by decide)
  case bindings =>
    rintro s t (⟨_, _, reset⟩ | ⟨_, _, _, rebind⟩ | ⟨_, _, _, thaw⟩ | ⟨_, _, _, _, credSet⟩ | ⟨_, _, _, credClear⟩)
    · exact only_of_mask reset execStallReset_changes (by decide)
    · exact only_of_mask rebind execStallRebind_changes (by decide)
    · exact only_of_mask thaw execStallThaw_changes (by decide)
    · exact only_of_mask credSet execStallCredSet_changes (by decide)
    · exact only_of_mask credClear execStallCredClear_changes (by decide)
  case stallCreate => exact fun s t ⟨_, _, _, e⟩ => only_of_mask e execStallCreate_changes (by decide)
  case stallCredNew => exact fun s t ⟨_, _, _, e⟩ => only_of_mask e execStallCredNew_changes (by decide)
  case relocateDone => exact fun s t ⟨_, e⟩ => only_of_mask e execRelocateDone_changes (by decide)
  case removals =>
    rintro s t (⟨_, _, _, remove⟩ | ⟨_, _, cancel⟩)
    · exact only_of_mask remove execStallRemove_changes (by decide)
    · exact only_of_mask cancel execStallRelocateCancel_changes (by decide)
  case relocateFailed => exact fun s t ⟨_, _, e⟩ => only_of_mask e execRelocateFailed_changes (by decide)
  case relocateMessage => exact fun s t ⟨_, _, e⟩ => only_of_mask e execRelocateMessage_changes (by decide)
  case drainEnd => exact fun s t ⟨_, e⟩ => only_of_mask e execDrainEnd_changes (by decide)
  case freezeDrainEnd => exact fun s t ⟨_, e⟩ => only_of_mask e execFreezeDrainEnd_changes (by decide)

end Sys2Proof.Proofs
end

section
/-!
What a write, a TAG and a removal do once the operation runs (ch. 10): the checks that they share, in the order of R490, and
then each of them: when it waits, what a failed check answers, and the commit that the passed checks lead to.
-/

namespace Sys2Proof.Proofs

open Sys2Proof Machine Laws

/-! ### The checks -/

@[simp] theorem firstResp_pass (rs : List (Option Resp)) : firstResp (none :: rs) = firstResp rs := rfl

@[simp] theorem firstResp_fails (r : Resp) (rs : List (Option Resp)) : firstResp (some r :: rs) = some r := rfl

@[simp] theorem firstResp_nil : firstResp [] = none := rfl

theorem heldErr_held {x : Obj} (h : x.held = true) : heldErr (some x) = some (fail .denied 0x1501) := if_pos h

theorem heldErr_unheld {x : Obj} (h : x.held = false) : heldErr (some x) = none := if_neg (by simp [h])

/-- A pair meets an object: it is 0 and 0, which places no condition, or the object's own (R436). -/
def PairMeets (x : Obj) (v i : Nat) : Prop := (v = 0 ∧ i = 0) ∨ (v = x.version ∧ i = x.incarnation)

theorem condErr_meets {x : Obj} {v i : Nat} (h : PairMeets x v i) : condErr (some x) v i = none := by
  unfold condErr
  rcases h with unnamed | ⟨rfl, rfl⟩
  · exact if_pos unnamed
  · simp [pairErr]

theorem condErr_other {x : Obj} {v i : Nat} (named : v ≠ 0 ∨ i ≠ 0) (other : v ≠ x.version ∨ i ≠ x.incarnation) :
    condErr (some x) v i =
      some { status := .versionMismatch, reason := 0, version := x.version, incarnation := x.incarnation } := by
  have unmet : ¬ (x.version, x.incarnation) = (v, i) := by
    rintro ⟨⟩
    simp at other
  unfold condErr
  rw [if_neg (by omega)]
  exact if_neg unmet

/-- Either an operation's entries are written, or it has yet to pass its gates as what follows says. -/
theorem arcDone_or {o : Op} {p : Prop} (h : o.arcDone = true ∨ p) : o.arcDone = true ∨ (o.arcDone = false ∧ p) := by
  cases written : o.arcDone with
  | true => exact .inl rfl
  | false => exact .inr ⟨rfl, h.resolve_left (by simp [written])⟩

/-- An operation that has not waited for the Arcade has no entries to undo: it fails with its locks gone. -/
theorem failOp_unwritten {s : State} {id : Nat} {o : Op} {r : Resp} (h : o.arcDone = false) :
    failOp s id o r = answerOp (freeLocks s id) id r := by simp [failOp, h]

theorem runOp_fails {s : State} {id : Nat} {o : Op} {r : Resp} (h : getOp s id = some o) (unwritten : o.arcDone = false)
    (unlocked : o.lockAt = none) (bad : staticErr s o (connOf s o).gen (connOf s o).maxData = some r) :
    runOp s id = answerOp (freeLocks s id) id r := by
  simp [runOp, h, unwritten, unlocked, bad, failOp_unwritten unwritten]

/-! ### PUT and CAS (R441, R442) -/

section put

variable {s : State} {id : Nat} {o : Op}

/-- The checks of a PUT or a CAS, in their order. -/
def putChecks (s : State) (o : Op) : List (Option Resp) :=
  [heldErr (objOf s (opKey o)), putCond (decide (o.code = .cas)) (o.frame.flags.testBit 8) (objOf s (opKey o))
      o.frame.version o.frame.incarnation, endErr (objOf s (opKey o)),
    quotaErr s o (putChange (opView s o) (opKey o) (objOf s (opKey o)) o.frame.tags.length o.frame.dataLen o.frame.dataLen),
    laterErr s true [opKey o]]

/-- The commit of a PUT or a CAS, with its acknowledgement. -/
def putCommit (id : Nat) (o : Op) (u : State) : State :=
  let (v, w, s) := commitPut u o (opKey o) o.frame.data o.frame.tags o.frame.arg (dirtyOf u o o.frame.dataLen)
  committedOp (noteOp s id w) id { version := v.version, incarnation := v.incarnation }

theorem runPut_waits (wait : mustWait s id o [opKey o] = true) : runPut s id o = waitIn s id .waitLock false := if_pos wait

theorem runPut_fails {r : Resp} (clear : mustWait s id o [opKey o] = false) (bad : firstResp (putChecks s o) = some r) :
    runPut s id o = failOp s id o r := by
  unfold putChecks at bad
  simp [runPut, clear, bad]

theorem runPut_passes (clear : mustWait s id o [opKey o] = false) (good : firstResp (putChecks s o) = none) :
    runPut s id o = gates s id o true o.frame.dataLen o.frame.dataLen [(opKey o, o.frame.tags)] (putCommit id o) := by
  unfold putChecks at good
  simp [runPut, clear, good]
  rfl

/-- Nothing holds the gates of a PUT or a CAS closed: the entries of its tags are written, or it has no tags, the hold-up cap
has room for its data and GC asks no credit (R119, R624, R687). -/
def PutGatesOpen (s : State) (o : Op) : Prop :=
  o.arcDone = true ∨ (o.arcDone = false ∧ o.frame.tags = [] ∧
    (o.frame.dataLen = 0 ∨ direct s o = true ∨ capFits s o.snap.policy o.frame.dataLen = true) ∧ s.upkeep.gc ≠ .matched)

/-- Then it commits, in the present state but for its mark of having been slowed. -/
theorem runPut_commits (clear : mustWait s id o [opKey o] = false) (good : firstResp (putChecks s o) = none)
    (free : PutGatesOpen s o) : runPut s id o = putCommit id o s ∨
      runPut s id o = putCommit id o (updOp s id (fun o => { o with throttled := true })) := by
  rw [runPut_passes clear good]
  rcases free with written | ⟨unwritten, untagged, room, unmatched⟩
  · exact .inl (gates_done written)
  · rw [gates_free untagged unwritten room unmatched]
    cases true && gcThrottles s
    · exact .inl rfl
    · exact .inr rfl

end put

/-! ### DELETE, and DISCARD of one key (R444, R476) -/

section delete

variable {s : State} {id : Nat} {o : Op}

/-- The commit of the removal of an object, with its acknowledgement. -/
def deleteCommit (id : Nat) (o : Op) (y : Obj) (s : State) : State :=
  let (w, u) := removeKey (opView s o) s (opKey o) y false
  committedOp (noteOp u id w) id { version := y.version, incarnation := y.incarnation }

theorem runDelete_waits (wait : mustWait s id o [opKey o] = true) : runDelete s id o = waitIn s id .waitLock false :=
  if_pos wait

theorem runDelete_absent (clear : mustWait s id o [opKey o] = false) (absent : objOf s (opKey o) = none) :
    runDelete s id o = failOp s id o (fail .notFound 0) := by simp [runDelete, clear, absent]

theorem runDelete_held {y : Obj} (clear : mustWait s id o [opKey o] = false) (present : objOf s (opKey o) = some y)
    (held : y.held = true) : runDelete s id o = failOp s id o (fail .denied 0x1501) := by
  simp [runDelete, clear, present, heldErr_held held]

theorem runDelete_removes {y : Obj} (clear : mustWait s id o [opKey o] = false) (present : objOf s (opKey o) = some y)
    (unheld : y.held = false) (meets : o.code = .delete → PairMeets y o.frame.version o.frame.incarnation)
    (notLater : laterErr s false [opKey o] = none) : runDelete s id o = deleteCommit id o y s := by
  have cond : (if o.code = .delete ∧ o.frame.gen ≠ 1 then condErr (some y) o.frame.version o.frame.incarnation else none) =
      none := by
    split
    next h => exact condErr_meets (meets h.1)
    next => rfl
  unfold runDelete
  simp only [clear, Bool.false_eq_true, if_false, present, heldErr_unheld unheld, cond, notLater, firstResp_pass, firstResp_nil]
  rfl

end delete

/-! ### TAG (R464, R465) -/

section tag

variable {s : State} {id : Nat} {o : Op}

theorem runTag_waits (wait : mustWait s id o [opKey o] = true) : runTag s id o = waitIn s id .waitLock false := if_pos wait

theorem runTag_absent (clear : mustWait s id o [opKey o] = false) (absent : objOf s (opKey o) = none) :
    runTag s id o = failOp s id o (fail .notFound 0) := by simp [runTag, clear, absent]

/-- The tags that a TAG leaves an object. -/
def tagsLeft (o : Op) (y : Obj) : List Word64 := newTags (optOf o.frame % 4) y.tags o.frame.tags

/-- The entries that those tags fill. -/
def entriesLeft (s : State) (o : Op) (y : Obj) : Nat := entryCount (tagsLeft o y).length (stallWidth (opView s o) o.stall)

/-- The hold that it leaves. -/
def holdLeft (o : Op) (y : Obj) : Bool :=
  if (optOf o.frame).testBit 2 then true else if (optOf o.frame).testBit 3 then false else y.held

/-- The change of the entries of an object whose tags a TAG changes. -/
def tagChange (s : State) (o : Op) (y : Obj) : Change :=
  { noChange with entries := (entryCount y.tags.length (stallWidth (opView s o) o.stall), entriesLeft s o y) }

/-- A TAG passes its checks: at most 4 tags, evidence under a hold, the expected pair, the quotas, no rebuild (R465, R556). -/
structure TagPasses (s : State) (o : Op) (y : Obj) : Prop where
  few : (tagsLeft o y).length ≤ 4
  evidence : y.held = false ∨ (tagsLeft o y).any isEvidence = true
  hold : (optOf o.frame).testBit 2 = false ∨
    ((tagsLeft o y).any isEvidence = true ∧ useHold s o.stall + y.value.length ≤ limitOf o 1)
  meets : PairMeets y o.frame.version o.frame.incarnation
  quota : quotaErr s o (tagChange s o y) = none
  notLater : laterErr s false [opKey o] = none

/-- The object that a TAG leaves. -/
def tagged (o : Op) (y : Obj) : Obj := { y with tags := tagsLeft o y, held := holdLeft o y }

/-- A TAG has given the object its tags and hold: INDEX_SET, entries no longer needed, HOLD_PLACED or HOLD_RELEASED. -/
def storeTagged (o : Op) (y : Obj) (n : Nat) (s : State) : State :=
  let u := updKv (takeWseq s).2 (fun d => { d with objs := AMap.set d.objs (opKey o) (tagged o y) })
  let u := dropEntries (stageLog u (.indexSet (opKey o) s.kv.nextWseq)) (opKey o) n
  if holdLeft o y = y.held then u else logHold u (opKey o) y (holdLeft o y)

/-- The commit of a TAG, with its mirroring and its acknowledgement. -/
def tagCommit (id : Nat) (o : Op) (y : Obj) (n : Nat) (s : State) : State :=
  let u := storeTagged o y n s
  committedOp (noteOp (mirrorTag (opView u o) u (opKey o) y (tagged o y) s.kv.nextWseq) id s.kv.nextWseq) id
    { version := y.version, incarnation := y.incarnation, tags := tagsLeft o y }

theorem gates_tag {y : Obj} {f : State → State} (free : o.arcDone = true ∨ (o.arcDone = false ∧ tagsLeft o y = y.tags)) :
    gates s id o false 0 0 (if tagsLeft o y = y.tags then [] else [(opKey o, tagsLeft o y)]) f = f s := by
  rcases free with written | ⟨unwritten, same⟩
  · exact gates_done written
  · rw [if_pos same]
    exact gates_none unwritten

/-- The checks of a TAG of an object, in their order. -/
def tagChecks (s : State) (o : Op) (y : Obj) : List (Option Resp) :=
  [if 4 < (tagsLeft o y).length ∨ ((optOf o.frame).testBit 2 ∧ ¬ (tagsLeft o y).any isEvidence) then some (invalid .tags)
      else none,
    if y.held ∧ y.tags.any isEvidence ∧ ¬ (tagsLeft o y).any isEvidence then some (fail .denied 0x1501) else none,
    condErr (some y) o.frame.version o.frame.incarnation, quotaErr s o (tagChange s o y),
    if (optOf o.frame).testBit 2 ∧ ¬ y.held ∧ limitOf o 1 < useHold s o.stall + y.value.length then some (fail .quota 0x1004)
      else none,
    laterErr s false [opKey o]]

theorem tagChecks_pass {y : Obj} (h : TagPasses s o y) : firstResp (tagChecks s o y) = none := by
  obtain ⟨few, evidence, hold, meets, quota, notLater⟩ := h
  have shape : ¬ (4 < (tagsLeft o y).length ∨ ((optOf o.frame).testBit 2 ∧ ¬ (tagsLeft o y).any isEvidence)) := by
    rcases hold with free | ⟨carries, -⟩
    · simp [free, few]
    · simp [carries, few]
  have keeps : ¬ (y.held ∧ y.tags.any isEvidence ∧ ¬ (tagsLeft o y).any isEvidence) := by
    rcases evidence with unheld | carries
    · simp [unheld]
    · simp [carries]
  have fits : ¬ ((optOf o.frame).testBit 2 ∧ ¬ y.held ∧ limitOf o 1 < useHold s o.stall + y.value.length) := by
    rcases hold with free | ⟨-, room⟩
    · simp [free]
    · omega
  unfold tagChecks
  rw [if_neg shape, if_neg keeps, if_neg fits, condErr_meets meets, quota, notLater]
  rfl

theorem runTag_passes {y : Obj} (clear : mustWait s id o [opKey o] = false) (present : objOf s (opKey o) = some y)
    (good : firstResp (tagChecks s o y) = none) : runTag s id o =
      gates s id o false 0 0 (if tagsLeft o y = y.tags then [] else [(opKey o, tagsLeft o y)])
        (tagCommit id o y (entriesLeft s o y)) := by
  unfold runTag
  dsimp only
  rw [if_neg (by simp [clear]), present]
  dsimp only
  split
  next bad => exact absurd (bad.symm.trans good) (by simp)
  next => rfl

theorem runTag_commits {y : Obj} (clear : mustWait s id o [opKey o] = false) (present : objOf s (opKey o) = some y)
    (free : o.arcDone = true ∨ (o.arcDone = false ∧ tagsLeft o y = y.tags)) (passes : TagPasses s o y) :
    runTag s id o = tagCommit id o y (entriesLeft s o y) s := by
  rw [runTag_passes clear present (tagChecks_pass passes), gates_tag free]

end tag

/-! ### Tickets -/

section ticket

variable {s : State} {id : Nat} {o : Op}

theorem newTicket_kv (t : Ticket) : (newTicket s t).2.kv =
    { s.kv with tickets := AMap.set s.kv.tickets s.kv.nextTicket t, nextTicket := s.kv.nextTicket + 1 } :=
  renewMarks_changes.kv (by decide)

theorem getOp_newTicket (t : Ticket) (i : Nat) : getOp (newTicket s t).2 i = getOp s i := by
  unfold getOp
  rw [newTicket_kv]

/-- Acknowledging a commit answers it, and leaves the objects and the tickets. -/
theorem committedOp_keeps {r : Resp} (h : getOp s id = some o) : (committedOp s id r).kv.objs = s.kv.objs ∧
    (committedOp s id r).kv.tickets = s.kv.tickets ∧ (committedOp s id r).kv.nextTicket = s.kv.nextTicket ∧
    ∃ x, getOp (committedOp s id r) id = some x ∧ x.resp = some r := by
  obtain ⟨objs, -, x, op, resp, -, -⟩ := ackWrite_spec (r := r) h
  obtain ⟨tickets, next⟩ := ackWrite_tickets (r := r) h
  exact ⟨objs, tickets, next, x, op, resp⟩

end ticket

/-! ### DISCARD with PREFIX, and SHRED (R476, R477) -/

section removal

variable {s : State} {id : Nat} {o : Op} {g : Gen}

/-- The objects that a DISCARD with PREFIX or a SHRED removes: those it names that no hold keeps. -/
def removable (s : State) (o : Op) (g : Gen) : List (ObjKey × Obj) := (namedObjs s o g).filter (fun x => ! x.2.held)

/-- The removals of a DISCARD with PREFIX or a SHRED, each at its commit point, with the numbers of their writes. -/
def removeAll (s : State) (id : Nat) (o : Op) (g : Gen) : State × List (ObjKey × Nat) :=
  (removable s o g).foldl (removeNamed id (opView s o) (decide (o.code = .shred))) (s, [])

/-- The ticket of a removal. -/
def removalTicket (s : State) (id : Nat) (o : Op) (g : Gen) : Ticket where
  stall := o.stall
  generation := o.generation
  kind := if o.code = .shred then .shred else .discard
  summary := ((removable s o g).length, listSum ((removable s o g).map objBytes),
    (namedObjs s o g).length - (removable s o g).length)
  todo := (removeAll s id o g).2.map (fun x => x.1)
  idleSince := now (removeAll s id o g).1

/-- The erasure that a SHRED begins: of the keys removed, in the bands marked for it that hold data of
their stall (R646). -/
def beginShred (s : State) (o : Op) (n : Nat) (ks : List (ObjKey × Nat)) : State :=
  updUpkeep s (fun u => { u with shreds := u.shreds ++ [{
    ticket := some n, stall := o.stall, keys := ks,
    bands := (s.media.bands.filter (fun b => b.2.shredPending && b.2.presence.contains o.stall)).map (fun b => b.1) }] })

/-- What follows them: the ticket, the erasure, the acknowledgement. -/
def ticketRemoval (id : Nat) (o : Op) (t : Ticket) (a : State × List (ObjKey × Nat)) : State :=
  let u := (newTicket a.1 t).2
  let u := if o.code = .shred then beginShred u o a.1.kv.nextTicket a.2 else u
  committedOp (updOp u id (fun o => { o with committed := true })) id { arg := a.1.kv.nextTicket }

theorem runRemoval_commits (clear : mustWait s id o ((removable s o g).map (fun x => x.1)) = false)
    (few : ticketsOf s o.stall < 64) (notLater : laterErr s false ((removable s o g).map (fun x => x.1)) = none) :
    runRemoval s id o g = ticketRemoval id o (removalTicket s id o g) (removeAll s id o g) := by
  unfold removable at clear notLater
  unfold runRemoval
  dsimp only
  rw [if_neg (by simp [clear]), if_neg (by omega), notLater]
  simp only [decide_eq_true_eq]
  rfl

/-- It keeps the objects that the removals left and the tickets of before, beside its own, and answers its number. -/
theorem ticketRemoval_spec {x : Op} {t : Ticket} {a : State × List (ObjKey × Nat)} (h : getOp a.1 id = some x) :
    (ticketRemoval id o t a).kv.objs = a.1.kv.objs ∧
    (ticketRemoval id o t a).kv.tickets = AMap.set a.1.kv.tickets a.1.kv.nextTicket t ∧
    (ticketRemoval id o t a).kv.nextTicket = a.1.kv.nextTicket + 1 ∧
    ∃ y, getOp (ticketRemoval id o t a) id = some y ∧ y.resp = some { arg := a.1.kv.nextTicket } := by
  have kv : (if o.code = .shred then beginShred (newTicket a.1 t).2 o a.1.kv.nextTicket a.2 else (newTicket a.1 t).2).kv =
      (newTicket a.1 t).2.kv := by split <;> rfl
  rw [newTicket_kv] at kv
  unfold ticketRemoval
  dsimp only
  generalize (if o.code = .shred then beginShred (newTicket a.1 t).2 o a.1.kv.nextTicket a.2 else (newTicket a.1 t).2) = u at kv
  have op : getOp u id = some x := by unfold getOp; rw [kv]; exact h
  have keeps := committedOp_keeps (r := { arg := a.1.kv.nextTicket })
    (getOp_updOp_same (f := fun o => { o with committed := true }) op)
  have same : ∀ f, (updOp u id f).kv = { u.kv with ops := AMap.modify u.kv.ops id f } := fun _ => rfl
  rw [same, kv] at keeps
  exact keeps

end removal

/-! ### The statement -/

/-- Settles O23, clause by clause, from what each operation does once its checks have passed, or when one fails. -/
theorem writesAndRemovalsCommitAsTheirRulesSay : Obligations.WritesAndRemovalsCommitAsTheirRulesSay := by
  refine ⟨?put, ?delete, ?refused, ?malformed, ?tag, ?removal⟩
  case put =>
    intro s id o h code clear good free
    have static : o.arcDone = true ∨ (o.lockAt = none ∧ staticErr s o (connOf s o).gen (connOf s o).maxData = none) :=
      free.imp_right fun ⟨unlocked, formed, _⟩ => ⟨unlocked, formed⟩
    have gatesOpen : PutGatesOpen s o := (arcDone_or free).imp_right fun ⟨unwritten, _, _, open_⟩ => ⟨unwritten, open_⟩
    rw [runOp_put h code (runOp_of h static)]
    rcases runPut_commits clear good gatesOpen with e | e
    · rw [e]
      exact put_commit h rfl rfl (fun _ => rfl) rfl rfl rfl rfl rfl
    · rw [e]
      exact put_commit (getOp_updOp_same h) rfl rfl (fun _ => rfl) rfl rfl rfl rfl rfl
  case delete =>
    intro s id o y h code static clear present unheld notLater meets
    have pair : o.code = .delete → PairMeets y o.frame.version o.frame.incarnation :=
      fun delete => meets.resolve_left (by simp [delete])
    rw [runOp_delete h code (runOp_of h static), runDelete_removes clear present unheld pair notLater]
    exact remove_commit h
  case refused =>
    intro s id o h code unwritten unlocked formed
    have static := runOp_of h (.inr ⟨unlocked, formed⟩)
    refine ⟨fun wait => ?wait, fun clear absent gone => ?absent, fun y clear present held other => ?held⟩
    case wait =>
      rcases code with put | cas | delete | tag
      · rw [runOp_put h (.inl put) static, runPut_waits wait]
      · rw [runOp_put h (.inr cas) static, runPut_waits wait]
      · rw [runOp_delete h (.inl delete) static, runDelete_waits wait]
      · rw [runOp_tag h tag static, runTag_waits wait]
    case absent =>
      rcases gone with delete | tag
      · rw [runOp_delete h (.inl delete) static, runDelete_absent clear absent, failOp_unwritten unwritten]
        rfl
      · rw [runOp_tag h tag static, runTag_absent clear absent, failOp_unwritten unwritten]
        rfl
    case held =>
      have bad : firstResp (putChecks s o) = some (fail .denied 0x1501) := by
        simp [putChecks, present, heldErr_held held]
      rcases code with put | cas | delete | tag
      · rw [runOp_put h (.inl put) static, runPut_fails clear bad, failOp_unwritten unwritten]
        rfl
      · rw [runOp_put h (.inr cas) static, runPut_fails clear bad, failOp_unwritten unwritten]
        rfl
      · rw [runOp_delete h (.inl delete) static, runDelete_held clear present held, failOp_unwritten unwritten]
        rfl
      · exact absurd tag other
  case malformed => exact fun s id o r => runOp_fails
  case tag =>
    rintro s id o y h code clear present free _ _ rfl rfl few evidence hold meets quota notLater
    have static : o.arcDone = true ∨ (o.lockAt = none ∧ staticErr s o (connOf s o).gen (connOf s o).maxData = none) :=
      free.imp_right fun ⟨unlocked, formed, _⟩ => ⟨unlocked, formed⟩
    have gatesOpen : o.arcDone = true ∨ (o.arcDone = false ∧ tagsLeft o y = y.tags) :=
      (arcDone_or free).imp_right fun ⟨unwritten, _, _, same⟩ => ⟨unwritten, same⟩
    rw [runOp_tag h code (runOp_of h static),
      runTag_commits clear present gatesOpen ⟨few, evidence, hold, meets, quota, notLater⟩]
    exact tag_commit h
  case removal =>
    rintro s id o _ _ _ h code static rfl rfl rfl clear few notLater
    obtain ⟨u, ks, x, done, op, gone, kept, next, tickets, -, -⟩ :=
      removed_fold (v := opView s o) (e := decide (o.code = .shred)) (l := removable s o (connOf s o).gen) (ks := []) h
    have all : removeAll s id o (connOf s o).gen = (u, ks) := done
    rw [runOp_removal h code (runOp_of h static), runRemoval_commits clear few notLater, all]
    obtain ⟨objs, tab, after, y, answered, resp⟩ :=
      ticketRemoval_spec (o := o) (t := removalTicket s id o (connOf s o).gen) (a := (u, ks)) op
    refine ⟨_, removalTicket s id o (connOf s o).gen, y, rfl, fun j named => ?_, fun j unnamed => ?_, ?_, ?_, rfl, rfl, rfl, rfl,
      rfl, answered, ?_⟩
    · rw [objs]
      exact gone j named
    · rw [objs]
      exact kept j unnamed
    · rw [after, next]
    · rw [tab, next, AMap.find_set_same]
    · rw [resp, next]
      rfl

end Sys2Proof.Proofs
end

section
/-!
What the reads, the uploads, the tickets, FLUSH and the mailbox answer once the operation runs (ch. 10): for each of them,
what it answers in each of its branches and what it leaves.
-/

namespace Sys2Proof.Proofs

open Sys2Proof Machine Laws

/-- What changes the flash part alone leaves the rest of the state. -/
theorem eq_withMedia {s u : State} (h : Changes 8192 s u) : u = { s with media := u.media } := by
  cases s
  cases u
  simp only [State.mk.injEq]
  exact ⟨h.phase (by decide), h.clock (by decide), h.bay (by decide), h.power (by decide), h.isl (by decide), h.cfg (by decide),
    h.boot (by decide), h.con (by decide), h.ports (by decide), h.net (by decide), h.proto (by decide), h.kv (by decide),
    h.stalls (by decide), trivial, h.upkeep (by decide), h.arc (by decide), h.row (by decide), h.fw (by decide), h.life (by decide),
    h.log (by decide), h.out (by decide), h.freeCtr (by decide), h.pending⟩

/-! ### GET and HEAD (R440, R449, R450) -/

section read

variable {s : State} {id : Nat} {o : Op} {c : Conn} {v : Obj}

/-- What a read sees is settled: as of its admission, or with no earlier operation of its session in the way (R448). -/
theorem readWaits_false (h : o.seen.isSome ∨ sessionBlocks s id o = false) :
    (o.seen.isNone && sessionBlocks s id o) = false := by
  rcases h with seen | free
  · simp [Option.isSome_iff_ne_none.mp seen]
  · simp [free]

theorem availErr_ok (h : v.avail = .ok) : availErr v = none := by rw [availErr, h]

theorem availErr_lost (h : v.avail = .lost) : availErr v = some (fail .unavailable 0x1301) := by rw [availErr, h]

theorem runGet_absent (clear : o.seen.isSome ∨ sessionBlocks s id o = false) (absent : seenObj s o (opKey o) = none) :
    runGet s id o c = answerOp s id (fail .notFound 0) := by simp [runGet, readWaits_false clear, absent]

theorem runHead_absent (clear : o.seen.isSome ∨ sessionBlocks s id o = false) (absent : seenObj s o (opKey o) = none) :
    runHead s id o c = answerOp s id (fail .notFound 0) := by simp [runHead, readWaits_false clear, absent]

/-- The checks of a GET of an object, in their order. -/
def getChecks (s : State) (o : Op) (c : Conn) (v : Obj) : List (Option Resp) :=
  [if c.gen ≠ .kv1 ∧ v.value.length < o.frame.arg then some (invalid .offset) else none,
    if c.gen = .kv1 ∧ 4194304 < v.value.length then some (fail .tooLarge 0x1402) else none,
    if c.gen = .kv1 then none else condErr (some v) o.frame.version o.frame.incarnation, availErr v, laterErr s false [opKey o]]

theorem getChecks_beyond (gen : c.gen ≠ .kv1) (beyond : v.value.length < o.frame.arg) :
    firstResp (getChecks s o c v) = some (invalid .offset) := by simp [getChecks, gen, beyond]

theorem getChecks_mismatch (gen : c.gen ≠ .kv1) (within : o.frame.arg ≤ v.value.length)
    (named : o.frame.version ≠ 0 ∨ o.frame.incarnation ≠ 0)
    (other : o.frame.version ≠ v.version ∨ o.frame.incarnation ≠ v.incarnation) : firstResp (getChecks s o c v) =
      some { status := .versionMismatch, reason := 0, version := v.version, incarnation := v.incarnation } := by
  simp [getChecks, gen, Nat.not_lt.mpr within, condErr_other named other]

theorem getChecks_lost (gen : c.gen ≠ .kv1) (within : o.frame.arg ≤ v.value.length)
    (meets : PairMeets v o.frame.version o.frame.incarnation) (lost : v.avail = .lost) :
    firstResp (getChecks s o c v) = some (fail .unavailable 0x1301) := by
  simp [getChecks, gen, Nat.not_lt.mpr within, condErr_meets meets, availErr_lost lost]

theorem getChecks_pass (gen : c.gen ≠ .kv1) (within : o.frame.arg ≤ v.value.length)
    (meets : PairMeets v o.frame.version o.frame.incarnation) (ok : v.avail = .ok)
    (notLater : laterErr s false [opKey o] = none) : firstResp (getChecks s o c v) = none := by
  simp [getChecks, gen, Nat.not_lt.mpr within, condErr_meets meets, availErr_ok ok, notLater]

/-- KV1 has no offset and no pair, and reads at most 4 MiB. -/
theorem getChecks_passKv1 (gen : c.gen = .kv1) (short : v.value.length ≤ 4194304) (ok : v.avail = .ok)
    (notLater : laterErr s false [opKey o] = none) : firstResp (getChecks s o c v) = none := by
  simp [getChecks, gen, Nat.not_lt.mpr short, availErr_ok ok, notLater]

/-- The answer of a GET. -/
def getResp (o : Op) (c : Conn) (v : Obj) : Resp where
  version := v.version
  incarnation := if c.gen = .kv1 then 0 else v.incarnation
  arg := if c.gen = .kv1 then 0 else v.value.length
  tags := if c.gen = .kv1 then [] else v.tags
  data := slice v.value (if c.gen = .kv1 then 0 else o.frame.arg) (getLen o c v)

theorem runGet_fails {r : Resp} (clear : o.seen.isSome ∨ sessionBlocks s id o = false) (present : seenObj s o (opKey o) = some v)
    (bad : firstResp (getChecks s o c v) = some r) : runGet s id o c = answerOp s id r := by
  unfold getChecks at bad
  unfold runGet
  dsimp only
  rw [readWaits_false clear, present]
  dsimp only
  rw [if_neg Bool.false_ne_true, bad]

theorem runGet_passes (clear : o.seen.isSome ∨ sessionBlocks s id o = false) (present : seenObj s o (opKey o) = some v)
    (good : firstResp (getChecks s o c v) = none) :
    ∃ u, u = { s with media := u.media } ∧ runGet s id o c = answerOp u id (getResp o c v) := by
  unfold getChecks at good
  unfold runGet
  dsimp only
  rw [readWaits_false clear, present]
  dsimp only
  rw [if_neg Bool.false_ne_true, good]
  exact ⟨_, eq_withMedia (.seq runAhead_changes serveAhead_changes (by decide)), rfl⟩

/-- The checks of a HEAD of an object, in their order. -/
def headChecks (s : State) (o : Op) (c : Conn) (v : Obj) : List (Option Resp) :=
  [if c.gen = .kv1 then none else condErr (some v) o.frame.version o.frame.incarnation, availErr v, laterErr s false [opKey o]]

theorem headChecks_pass (meets : PairMeets v o.frame.version o.frame.incarnation) (ok : v.avail = .ok)
    (notLater : laterErr s false [opKey o] = none) : firstResp (headChecks s o c v) = none := by
  simp [headChecks, condErr_meets meets, availErr_ok ok, notLater]

theorem runHead_passes (gen : c.gen ≠ .kv1) (clear : o.seen.isSome ∨ sessionBlocks s id o = false)
    (present : seenObj s o (opKey o) = some v) (good : firstResp (headChecks s o c v) = none) :
    ∃ u, u = { s with media := u.media } ∧ runHead s id o c = answerOp u id {
      version := v.version, incarnation := v.incarnation, arg := v.value.length, detailHi := b2n v.held, tags := v.tags } := by
  unfold headChecks at good
  unfold runHead
  dsimp only
  rw [readWaits_false clear, present]
  dsimp only
  rw [if_neg Bool.false_ne_true, good]
  simp only [gen, if_false]
  exact ⟨_, eq_withMedia serveAhead_changes, rfl⟩

end read

/-! ### LIST and STAT (R446, R451, R482) -/

section list

variable {s : State} {id : Nat} {o : Op} {c : Conn}

theorem runSeen_admitted {r : Resp} (early : o.early = some r) : runSeen s id o c = answerOp s id ((listLater s o).getD r) := by
  simp [runSeen, early]

theorem runSeen_present (late : o.early = none) (clear : sessionBlocks s id o = false) :
    runSeen s id o c = answerOp s id ((listLater s o).getD (listAnswer s o c)) := by simp [runSeen, late, clear]

theorem listLater_none (h : o.code ≠ .list ∨ s.isl.rebuilding = []) : listLater s o = none := by
  rcases h with other | quiet
  · exact if_neg other
  · simp [listLater, laterErr, rebuildHits, quiet]

end list

/-! ### FETCH (R470, R473) -/

section fetch

variable {s : State} {id : Nat} {o : Op} {c : Conn}

theorem fetchAnswer_unknown (h : AMap.find s.kv.tickets o.frame.arg = none) : fetchAnswer s o c =
    { status := .noSuchTicket, reason := if s.kv.expired.contains (o.stall, o.frame.arg) then 0x1601 else 0x1602 } := by
  simp [fetchAnswer, h, fail]

theorem fetchAnswer_running {t : Ticket} (h : AMap.find s.kv.tickets o.frame.arg = some t) (stall : t.stall = o.stall)
    (generation : t.generation = o.generation) (running : t.state = .running) :
    (fetchAnswer s o c).status = .notReady ∧ (fetchAnswer s o c).arg = o.frame.arg := by
  simp [fetchAnswer, h, stall, generation, running]

theorem runFetch_known (h : (fetchAnswer s o c).status ≠ .noSuchTicket) : runFetch s id o c =
    answerOp (updTicket s o.frame.arg (fun t => { t with idleSince := now s })) id (fetchAnswer s o c) := by
  simp [runFetch, h]

theorem runFetch_unknown (h : (fetchAnswer s o c).status = .noSuchTicket) :
    runFetch s id o c = answerOp s id (fetchAnswer s o c) := by simp [runFetch, h]

end fetch

/-! ### Uploads (R454, R456, R458) -/

section upload

variable {s : State} {id : Nat} {o : Op}

/-- Open uploads of a stall. -/
def uploadsOf (s : State) (x : StallNo) : Nat := (s.kv.uploads.filter (fun u => decide (u.2.key.stall = x))).length

/-- The upload that an MPUT_BEGIN opens. -/
def newUpload (s : State) (o : Op) : Upload where
  key := opKey o
  generation := o.generation
  tags := o.frame.tags
  override := o.frame.arg
  createOnly := o.frame.flags.testBit 8
  ifMatch := if o.frame.flags.testBit 9 then some (o.frame.version, o.frame.incarnation) else none
  lastAt := now s

/-- An MPUT_BEGIN opens it under the next handle. -/
def openUpload (s : State) (o : Op) : State :=
  renewMarks (updKv s (fun d => { d with
    uploads := AMap.set d.uploads s.kv.nextHandle (newUpload s o), nextHandle := s.kv.nextHandle + 1 }))

theorem openUpload_kv : (openUpload s o).kv =
    { s.kv with uploads := AMap.set s.kv.uploads s.kv.nextHandle (newUpload s o), nextHandle := s.kv.nextHandle + 1 } :=
  renewMarks_changes.kv (by decide)

theorem getOp_openUpload (i : Nat) : getOp (openUpload s o) i = getOp s i := by
  unfold getOp
  rw [openUpload_kv]

theorem runBegin_full (h : 16 ≤ uploadsOf s o.stall) : runBegin s id o = answerOp s id (fail .tryLater 0x1104) := if_pos h

theorem runBegin_opens (few : uploadsOf s o.stall < 16) (notLater : laterErr s false [opKey o] = none) :
    runBegin s id o = answerOp (openUpload s o) id { arg := s.kv.nextHandle } := by
  unfold uploadsOf at few
  unfold runBegin
  dsimp only
  rw [if_neg (by omega), notLater]
  rfl

theorem runAbort_unknown (h : uploadOf s o = none) : runAbort s id o = answerOp s id (noUpload s o) := by simp [runAbort, h]

theorem runAbort_ends (h : uploadOf s o ≠ none) : runAbort s id o = answerOp (endUpload s o.frame.arg) id {} := by
  obtain ⟨u, known⟩ := Option.ne_none_iff_exists'.mp h
  simp [runAbort, known]

theorem find_of_uploadOf (h : uploadOf s o ≠ none) : ∃ u, AMap.find s.kv.uploads o.frame.arg = some u := by
  cases e : AMap.find s.kv.uploads o.frame.arg with
  | none => simp [uploadOf, e] at h
  | some u => exact ⟨u, rfl⟩

theorem endUpload_kv {n : Nat} {u : Upload} (h : AMap.find s.kv.uploads n = some u) :
    (endUpload s n).kv = { s.kv with uploads := AMap.del s.kv.uploads n } := by
  unfold endUpload
  rw [h]
  exact unmap_changes.kv (by decide)

end upload

/-! ### FIND (R466 to R468) -/

section search

variable {s : State} {id : Nat} {o : Op} {g : Gen}

/-- The view of an earlier configuration depends on the configuration alone. -/
theorem asOf_cfg {u : State} (h : u.cfg = s.cfg) (n : Nat) : (asOf u n).cfg = (asOf s n).cfg := by
  have stored (ws : List (Attr × Word64)) : ∀ {a b : State}, a.cfg = b.cfg →
      (ws.foldl (fun t x => cfgStore t x.1 x.2) a).cfg = (ws.foldl (fun t x => cfgStore t x.1 x.2) b).cfg := by
    induction ws with
    | nil => exact fun e => e
    | cons w ws ih => exact fun e => ih (by simp [cfgStore, e])
  unfold asOf
  rw [h]
  generalize s.cfg.earlier.filter _ = es
  induction es generalizing u s with
  | nil => exact h
  | cons e es ih => exact ih (stored e.2.2 h)

theorem cfgField_of_cfg {u : State} (h : u.cfg = s.cfg) (a : Attr) (f : String) : cfgField u a f = cfgField s a f := by
  unfold cfgField
  rw [cfgWord_of_cfg h]

theorem rowScope_of_cfg {u : State} (h : u.cfg = s.cfg) : rowScope u o = rowScope s o := by
  have view : (opView u o).cfg = (opView s o).cfg := asOf_cfg h o.snap.seq
  unfold rowScope
  rw [cfgField_of_cfg view, cfgField_of_cfg view]

/-- The ticket of a FIND. -/
def findTicket (s : State) (o : Op) (g : Gen) : Ticket where
  stall := o.stall
  generation := o.generation
  kind := .find
  words := o.frame.tags
  care := BitVec.ofNat 64 o.frame.arg
  keyLimit := keyLimit g
  row := decide (o.frame.detail % 4 = 1)
  idleSince := now s
  seq := o.snap.seq

theorem runFind_full (h : 64 ≤ ticketsOf s o.stall) : runFind s id o g = answerOp s id (fail .tryLater 0x1102) := if_pos h

theorem runFind_begins (few : ticketsOf s o.stall < 64) (alone : rowScope s o = false) :
    runFind s id o g = answerOp (newTicket s (findTicket s o g)).2 id { arg := s.kv.nextTicket } := by
  have cfg : (newTicket s (findTicket s o g)).2.cfg = s.cfg := newTicket_changes.cfg (by decide)
  have scope := (rowScope_of_cfg (o := o) cfg).trans alone
  unfold findTicket at scope
  unfold runFind
  rw [if_neg (by omega)]
  dsimp only
  rw [if_neg (by simp [scope])]
  rfl

end search

/-! ### FLUSH (R482, R483) -/

section flush

variable {s : State} {id : Nat} {o : Op}

theorem runFlush_persisted (h : flushCovers s id o = ([], false)) : runFlush s id o = answerOp s id { persisted := true } := by
  simp [runFlush, h]

theorem runFlush_cold (cold : coldNow s = true) (unpersisted : (flushCovers s id o).1 ≠ []) :
    runFlush s id o = answerOp s id (fail .tryLater 0x0301) := by
  simp [runFlush, cold, unpersisted]

end flush

/-! ### The mailbox (R520 to R522) -/

section mailbox

variable {s : State} {id : Nat} {o : Op}

/-- The message of an MBX_SEND. -/
def sentMsg (s : State) (o : Op) : Msg where
  seq := (getStall s o.stall).toWarden.next
  type := o.frame.arg % 256
  ltime := now s
  body := o.frame.data

/-- The wardens' mailbox with that message at its end. -/
def wardenQueue (s : State) (o : Op) : MsgQueue where
  msgs := (getStall s o.stall).toWarden.msgs ++ [sentMsg s o]
  next := (getStall s o.stall).toWarden.next + 1

/-- An MBX_SEND has put it there. -/
def mailSent (s : State) (o : Op) : State :=
  stageLog (updStall s o.stall (fun d => { d with toWarden := wardenQueue s o })) (.stall o.stall)

theorem mailSent_kv : (mailSent s o).kv = s.kv := stageLog_changes.kv (by decide)

theorem mailSent_queue : (getStall (mailSent s o) o.stall).toWarden = wardenQueue s o := by
  unfold mailSent
  rw [getStall_of (stageLog_changes.stalls (by decide)), getStall_updStall]

theorem runMbxSend_full (h : 16 ≤ (getStall s o.stall).toWarden.msgs.length) :
    runMbxSend s id o = answerOp s id (fail .tryLater 0) := if_pos h

theorem runMbxSend_appends (h : (getStall s o.stall).toWarden.msgs.length < 16) :
    runMbxSend s id o = answerOp (wardenBell (mailSent s o) o.stall) id {
      version := (getStall s o.stall).toWarden.next
      detailHi := 16 - ((getStall s o.stall).toWarden.msgs.length + 1) } := if_neg (by omega)

/-- The messages of the tenant's mailbox from the number on that an MBX_RECV names. -/
def unreceived (s : State) (o : Op) : List Msg :=
  (getStall s o.stall).toTenant.msgs.filter (fun m => decide (o.frame.version ≤ m.seq))

/-- An MBX_RECV has dropped the others. -/
def mailDropped (s : State) (o : Op) : State :=
  let u := updStall s o.stall (fun d => { d with toTenant := { (getStall s o.stall).toTenant with msgs := unreceived s o } })
  if (unreceived s o).length = (getStall s o.stall).toTenant.msgs.length then u else stageLog u (.stall o.stall)

theorem mailDropped_kv : (mailDropped s o).kv = s.kv := by
  unfold mailDropped
  dsimp only
  split
  · rfl
  · exact stageLog_changes.kv (by decide)

theorem mailDropped_queue : (getStall (mailDropped s o) o.stall).toTenant =
    { (getStall s o.stall).toTenant with msgs := unreceived s o } := by
  unfold mailDropped
  dsimp only
  split
  · rw [getStall_updStall]
  · rw [getStall_of (stageLog_changes.stalls (by decide)), getStall_updStall]

theorem runMbxRecv_empty (h : unreceived s o = []) : runMbxRecv s id o = answerOp (mailDropped s o) id {} := by
  unfold runMbxRecv mailDropped
  unfold unreceived at h ⊢
  simp only [h]

theorem runMbxRecv_oldest {m : Msg} {r : List Msg} (h : unreceived s o = m :: r) :
    runMbxRecv s id o = answerOp (mailDropped s o) id {
      version := m.seq, incarnation := m.ltime, arg := m.type, detailHi := (unreceived s o).length, data := m.body } := by
  unfold runMbxRecv mailDropped
  unfold unreceived at h ⊢
  simp only [h]

end mailbox

/-! ### The statement -/

/-- Settles O24, clause by clause, from what each operation does in each of its branches. -/
theorem readsTicketsAndMailboxesAnswerAsTheirRulesSay : Obligations.ReadsTicketsAndMailboxesAnswerAsTheirRulesSay := by
  rintro s id o _ h rfl unwritten unlocked formed clear
  have runs := runOp_free h unwritten unlocked formed
  refine ⟨fun code absent => ?absent, fun v code gen seen => ⟨fun beyond => ?offset, fun within named other => ?mismatch,
      fun within meets => ⟨fun lost => ?lost, fun ok notLater => ?get⟩⟩,
    fun v code gen seen short ok notLater => ?getKv1, fun v code gen seen ok notLater unnamed => ?head,
    fun r code early => ?admitted, fun code late free => ?list, listLater_none, fun code known => ?fetch,
    fun code unknown => ?unknown, fun t _ known stall generation running => fetchAnswer_running known stall generation running,
    fun code many => ?uploads, fun code few notLater => ?begin, fun code unknown => ?noUpload, fun code known => ?abort,
    fun code many => ?tickets, fun code few alone => ?find, fun code covered => ?persisted,
    fun code _ cold unpersisted => ?cold, fun code many => ?mailFull, fun q code mail few => ?send,
    fun q ms code mail left => ?recv⟩
  case absent =>
    rcases code with get | head
    · rw [get] at runs
      exact runs.trans (runGet_absent clear absent)
    · rw [head] at runs
      exact runs.trans (runHead_absent clear absent)
  case offset =>
    rw [code] at runs
    exact runs.trans (runGet_fails clear seen (getChecks_beyond gen beyond))
  case mismatch =>
    rw [code] at runs
    exact runs.trans (runGet_fails clear seen (getChecks_mismatch gen within named other))
  case lost =>
    rw [code] at runs
    exact runs.trans (runGet_fails clear seen (getChecks_lost gen within meets lost))
  case get =>
    rw [code] at runs
    obtain ⟨u, only, answered⟩ := runGet_passes clear seen (getChecks_pass gen within meets ok notLater)
    refine ⟨u, only, runs.trans (answered.trans ?_)⟩
    simp only [getResp, getLen, gen, if_false, slice]
  case getKv1 =>
    rw [code] at runs
    obtain ⟨u, only, answered⟩ := runGet_passes clear seen (getChecks_passKv1 gen short ok notLater)
    refine ⟨u, only, runs.trans (answered.trans ?_)⟩
    simp only [getResp, getLen, gen, if_true, slice, List.drop_zero, List.take_length]
  case head =>
    rw [code] at runs
    obtain ⟨u, only, answered⟩ := runHead_passes gen clear seen (headChecks_pass (.inl unnamed) ok notLater)
    exact ⟨u, only, runs.trans answered⟩
  case admitted =>
    rcases code with list | stat
    · rw [list] at runs
      exact runs.trans (runSeen_admitted early)
    · rw [stat] at runs
      exact runs.trans (runSeen_admitted early)
  case list =>
    rw [code] at runs
    exact runs.trans (runSeen_present late free)
  case fetch =>
    rw [code] at runs
    exact runs.trans (runFetch_known known)
  case unknown =>
    rw [code] at runs
    have answer := fetchAnswer_unknown (c := connOf s o) unknown
    rw [← answer]
    exact runs.trans (runFetch_unknown (by rw [answer]))
  case uploads =>
    rw [code] at runs
    exact runs.trans (runBegin_full many)
  case begin =>
    rw [code] at runs
    have op : getOp (openUpload s o) id = some o := (getOp_openUpload id).trans h
    refine ⟨_, newUpload s o, _, runs.trans (runBegin_opens few notLater), ?_, ?_, rfl, rfl, rfl, ?_, getOp_answerOp op, rfl⟩
    · exact (congrArg (fun d => AMap.find d.uploads s.kv.nextHandle) openUpload_kv).trans (AMap.find_set_same _ _ _)
    · exact congrArg Kv.nextHandle openUpload_kv
    · exact (congrArg Kv.objs openUpload_kv).trans rfl
  case noUpload =>
    rw [code] at runs
    exact runs.trans (runAbort_unknown unknown)
  case abort =>
    rw [code] at runs
    obtain ⟨u, open_⟩ := find_of_uploadOf known
    refine ⟨runs.trans (runAbort_ends known), ?_, ?_⟩
    · rw [endUpload_kv open_]
      exact AMap.find_del_same _ _
    · rw [endUpload_kv open_]
  case tickets =>
    rw [code] at runs
    exact runs.trans (runFind_full many)
  case find =>
    rw [code] at runs
    have kv := newTicket_kv (s := s) (findTicket s o (connOf s o).gen)
    have op : getOp (newTicket s (findTicket s o (connOf s o).gen)).2 id = some o := (getOp_newTicket _ id).trans h
    refine ⟨_, findTicket s o (connOf s o).gen, _, runs.trans (runFind_begins few alone), ?_, rfl, rfl, rfl, rfl, ?_, ?_,
      getOp_answerOp op, rfl⟩
    · exact (congrArg (fun d => AMap.find d.tickets s.kv.nextTicket) kv).trans (AMap.find_set_same _ _ _)
    · exact congrArg Kv.nextTicket kv
    · exact (congrArg Kv.objs kv).trans rfl
  case persisted =>
    rw [code] at runs
    exact runs.trans (runFlush_persisted covered)
  case cold =>
    rw [code] at runs
    exact runs.trans (runFlush_cold cold unpersisted)
  case mailFull =>
    rw [code] at runs
    exact runs.trans (runMbxSend_full many)
  case send =>
    subst mail
    rw [code] at runs
    exact ⟨mailSent s o, _, runs.trans (runMbxSend_appends few), rfl, mailSent_kv, mailSent_queue⟩
  case recv =>
    subst mail left
    rw [code] at runs
    refine ⟨mailDropped s o, mailDropped_queue, mailDropped_kv, fun empty => ?_, fun m r more => ?_⟩
    · exact runs.trans (runMbxRecv_empty empty)
    · exact runs.trans (runMbxRecv_oldest more)

end Sys2Proof.Proofs
end

section
/-!
What a relocation does on its two sides, what the warden's mailbox commands do, and what the meter's second charges and closes
(ch. 11, 12).
-/

namespace Sys2Proof.Proofs

open Sys2Proof Machine Laws

/-- A change of a stall is what it makes of that stall as it stands. -/
theorem updStall_congr {s : State} {x : StallNo} {f g : Stall → Stall} (h : f (getStall s x) = g (getStall s x)) :
    updStall s x f = updStall s x g := by
  have entry : f (AMap.getD s.stalls.tab x {}) = g (AMap.getD s.stalls.tab x {}) := h
  simp only [updStall, updStalls, entry]

/-- A stall that does not drain lets a command that changes it run (R516). -/
theorem runCmd_undrained {s : State} {l : Line} {i : CmdInfo} {bad : Option ErrName} {d : Session} {x : StallNo}
    {f : State → Run} (ok : Accepts s l i bad d) (idle : (getStall s x).state ≠ .draining) :
    runCmd s l i bad (fun s _ => whileDrained s x f) = ran l (f (heard s l)) :=
  (runCmd_ran ok).trans (congrArg (ran l) (if_neg idle))

@[simp] theorem getStall_rowSend {s : State} {x : StallNo} {p r : Nat} {b : RowBody} :
    getStall (rowSend s p b r) x = getStall s x := getStall_of (rowSend_changes.stalls (by decide)) x

@[simp] theorem getStall_storeStall {s : State} {x y : StallNo} : getStall (storeStall s y) x = getStall s x :=
  getStall_of (storeStall_changes.stalls (by decide)) x

@[simp] theorem stallObjs_rowSend {s : State} {x : StallNo} {p r : Nat} {b : RowBody} :
    stallObjs (rowSend s p b r) x = stallObjs s x := by
  have kv : (rowSend s p b r).kv = s.kv := rowSend_changes.kv (by decide)
  have clock : (rowSend s p b r).clock = s.clock := rowSend_changes.clock (by decide)
  simp only [stallObjs, stallObjsAt, now, kv, clock]

@[simp] theorem getStall_updReloc {s : State} {x : StallNo} {f : Relocation → Relocation} :
    getStall (updReloc s x f) x = { getStall s x with reloc := (getStall s x).reloc.map f } := getStall_updStall

/-! ### A relocation is asked for, and given up (R532, R536) -/

section command
variable {s : State} {l : Line} {d : Session} {n dest : Int} {dst : Nat} {rate : Option Int} {acc : Bool}

/-- The relocation with which a source begins: every present object is still to be copied. -/
def relocBegun (s : State) (x y : StallNo) (dst rate : Nat) : Relocation where
  peer := dst
  peerStall := y
  source := true
  rate := rate
  toCopy := (stallObjs s x).map (fun o => o.1)

/-- It has been offered to the other drive. -/
def relocOffered (s : State) (x y : StallNo) (dst rate : Nat) : State :=
  let u := rowSend s dst (.reloc (.offer Config.serial x y))
  updStall u x (fun d => { d with reloc := some (relocBegun u x y dst rate) })

theorem getStall_relocOffered (x y : StallNo) (r : Nat) :
    getStall (relocOffered s x y dst r) x = { getStall s x with reloc := some (relocBegun s x y dst r) } := by
  simp only [relocOffered, relocBegun, getStall_updStall, getStall_rowSend, stallObjs_rowSend]

theorem exec_stallRelocate
    (ok : Accepts s l (changesStall s l n) (firstErr [stallErr n, stallErr dest, rangeErr (rate.getD 100) 1 1000]) d)
    (idle : (getStall s (stallArg n)).state ≠ .draining) : exec (.stallRelocate l n dst dest rate acc) s = .next
      (if relocates s (stallArg n) = true then answer (heard s l) l.sess l.tag (.err .relocating) none
      else if (getStall s (stallArg n)).state = .active ∧ isMember s dst = true ∧ dst ≠ Config.serial ∧ acc = true then
        answer (relocOffered (heard s l) (stallArg n) (stallArg dest) dst (rate.getD 100).toNat) l.sess l.tag (.ok []) none
      else answer (heard s l) l.sess l.tag (.err .relocateRefused) none) := by
  refine congrArg Host.Outcome.next ((runCmd_undrained ok idle).trans ?_)
  rw [apply_ite (ran l), apply_ite (ran l)]
  rfl

theorem exec_stallRelocateCancel_runs {r : Relocation} (ok : Accepts s l (changesStall s l n) (stallErr n) d)
    (idle : (getStall s (stallArg n)).state ≠ .draining) (h : (getStall s (stallArg n)).reloc = some r)
    (source : r.source = true) (before : r.cutover = false) : exec (.stallRelocateCancel l n) s = .next
      (answer (relocFails (sendFail (heard s l) (stallArg n) .cancelled) (stallArg n) .cancelled) l.sess l.tag (.ok []) none) := by
  have h' : (getStall (heard s l) (stallArg n)).reloc = some r := h
  refine congrArg Host.Outcome.next ((runCmd_undrained ok idle).trans ?_)
  simp only [h', source, before, Bool.not_false, and_self, if_true]
  rfl

theorem exec_stallRelocateCancel_refused (ok : Accepts s l (changesStall s l n) (stallErr n) d)
    (idle : (getStall s (stallArg n)).state ≠ .draining) (h : (getStall s (stallArg n)).reloc = none ∨
      ∃ r, (getStall s (stallArg n)).reloc = some r ∧ (r.source = false ∨ r.cutover = true)) :
    exec (.stallRelocateCancel l n) s = .next (answer (heard s l) l.sess l.tag (.err .stallState) none) := by
  refine congrArg Host.Outcome.next ((runCmd_undrained ok idle).trans ?_)
  rcases h with h | ⟨r, h, late⟩
  · have h' : (getStall (heard s l) (stallArg n)).reloc = none := h
    simp only [h']
    rfl
  · have h' : (getStall (heard s l) (stallArg n)).reloc = some r := h
    have no : ¬ (r.source = true ∧ (!r.cutover) = true) := by rcases late with e | e <;> simp [e]
    simp only [h', if_neg no]
    rfl

end command

/-! ### Copies, cutover and failures at the source (R533, R534, R536, R546) -/

section source
variable {s : State} {x : StallNo} {r : Relocation}

/-- The relocation once a key has been sent: it waits for the target's answer. -/
def keySent (r : Relocation) (k : ObjKey) : Relocation := { r with
  toCopy := r.toCopy.filter (fun y => decide (y ≠ k))
  changed := r.changed.filter (fun y => decide (y ≠ k))
  sent := if r.sent.contains k then r.sent else r.sent ++ [k] }

theorem mem_keySent (r : Relocation) (k : ObjKey) :
    k ∉ (keySent r k).toCopy ∧ k ∉ (keySent r k).changed ∧ k ∈ (keySent r k).sent := by
  refine ⟨by simp [keySent], by simp [keySent], ?_⟩
  simp only [keySent]
  split
  · rename_i waiting
    exact List.contains_iff_mem.mp waiting
  · exact List.mem_append_right _ (List.mem_singleton_self k)

theorem sendKey_reloc (h : (getStall s x).reloc = some r) (k : ObjKey) :
    (getStall (sendKey x s k) x).reloc = some (keySent r k) := by
  simp only [sendKey, h, getStall_rowSend, getStall_updReloc, Option.map_some, keySent]

/-- A change of a stall's relocation is what it makes of that relocation as it stands. -/
theorem updReloc_congr {f g : Relocation → Relocation} (h : (getStall s x).reloc = some r) (e : f r = g r) :
    updReloc s x f = updReloc s x g := updStall_congr (by simp only [h, Option.map_some, e])

theorem exec_relocateCopy_idle (h : (getStall s x).reloc = some r)
    (idle : r.source = false ∨ r.cutover = true ∨ (r.toCopy = [] ∧ r.changed = [])) :
    exec (.relocateCopy x) s = .next s := by
  show execRelocateCopy x s = _
  rw [execRelocateCopy, h]
  rcases idle with target | late | ⟨copied, unchanged⟩
  · simp [target]
  · simp [late]
  · simp [copied, unchanged]

theorem exec_relocateCopy_sends {k : ObjKey} {ks : List ObjKey} {u : State} (h : (getStall s x).reloc = some r)
    (source : r.source = true) (before : r.cutover = false) (next : r.toCopy ++ r.changed = k :: ks)
    (later : u = advanceTo s r.nextAt) : exec (.relocateCopy x) s = .next (sendKey x (updReloc u x (fun r => { r with
      nextAt := u.clock.ledger + ceilDiv (copyBytes u k) (Nat.max 1 r.rate) })) k) := by
  have still : (getStall u x).reloc = some r := by
    rw [later, getStall_of (advanceTo_changes.stalls (by decide)), h]
  show execRelocateCopy x s = _
  simp only [execRelocateCopy, h, source, before, Bool.not_false, and_self, if_true, next, ← later]
  exact congrArg (fun u => Host.Outcome.next (sendKey x u k)) (updReloc_congr still rfl)

theorem exec_relocateCutover (h : (getStall s x).reloc = some r) : exec (.relocateCutover x) s = .next
    (if r.source = true ∧ (!r.cutover) = true ∧ (getStall s x).state = .active ∧ r.toCopy = [] ∧ r.sent = [] ∧
        changedBytes s r ≤ 268435456 then startFreeze (updReloc s x (fun r => { r with cutover := true })) x none else s) := by
  show execRelocateCutover x s = _
  rw [execRelocateCutover, h]

theorem exec_relocateFailed_cause {c : RelocFail} (h : (getStall s x).reloc = some r) (cause : c ≠ .noConfirm) :
    exec (.relocateFailed x c) s = .next (relocFails (sendFail s x c) x c) := by
  show execRelocateFailed x c s = _
  rw [execRelocateFailed, h]
  cases c with
  | noConfirm => exact absurd rfl cause
  | _ => rfl

theorem exec_relocateFailed_noConfirm (h : (getStall s x).reloc = some r) : exec (.relocateFailed x .noConfirm) s = .next
    (match r.step2At with
      | none => s
      | some t => relocFails (sendFail (advanceTo s (t + 10000000)) x .noConfirm) x .noConfirm) := by
  show execRelocateFailed x .noConfirm s = _
  rw [execRelocateFailed, h]
  cases e : r.step2At <;> simp only [e, sec]

/-- A stall that does not relocate has nothing to copy, to cut over, to finish or to give up. -/
theorem exec_relocate_none (h : (getStall s x).reloc = none) : exec (.relocateCopy x) s = .next s ∧
    exec (.relocateCutover x) s = .next s ∧ exec (.relocateDone x) s = .next s ∧
    ∀ c, exec (.relocateFailed x c) s = .next s := by
  refine ⟨?_, ?_, ?_, fun c => ?_⟩
  · show execRelocateCopy x s = _
    rw [execRelocateCopy, h]
  · show execRelocateCutover x s = _
    rw [execRelocateCutover, h]
  · show execRelocateDone x s = _
    rw [execRelocateDone, sourceDone, h]
  · show execRelocateFailed x c s = _
    rw [execRelocateFailed, h]

end source

/-! ### Messages of a relocation (R533, R715, R717) -/

section message
variable {s : State} {h : RowHdr} {p : Nat} {x : StallNo}

/-- A removal from a drive that is not the stall's partner removes nothing. -/
theorem takeRemoved_other {k : List Byte} (other : relocWith s x p false = none) : takeRemoved s p x k = s := by
  rw [takeRemoved, other]

theorem exec_relocateMessage_removed {k : List Byte} (arrives : Arrives s h) (other : relocWith s x p false = none) :
    exec (.relocateMessage h (.removed p x k)) s = .next (acked (noted s h) h .ok) := by
  have taken : takeRemoved (noted s h) p x k = noted s h := takeRemoved_other other
  refine congrArg Host.Outcome.next ((takeRow_arrives arrives).trans ?_)
  exact congrArg (fun u => acked u h .ok) taken

theorem exec_relocateMessage_offer {y : StallNo} (arrives : Arrives s h) :
    exec (.relocateMessage h (.offer p y x)) s = .next (acked (takeOffer (noted s h) p y x) h .ok) :=
  congrArg Host.Outcome.next (takeRow_arrives arrives)

end message

/-! ### The mailbox on the warden's side (R521, R525, R526) -/

section mailbox
variable {s : State} {l : Line} {d : Session} {n : Int} {x : StallNo}

theorem mailboxShut_frozen (h : (getStall s x).state = .frozen ∨ (getStall s x).state = .freezing) : mailboxShut s x = true := by
  rcases h with h | h <;> simp only [mailboxShut, h]

/-- Bytes have been written into a session's buffer. -/
def composed (s : State) (i : SessId) (off : Nat) (bs : List Byte) : State :=
  updStalls s (fun d => { d with compose := AMap.set d.compose i (writeBuf (AMap.getD d.compose i []) off bs) })

theorem exec_mbxCompose {off : Int} {bs : List Byte} (ok : Accepts s l {} (rangeErr off 0 255) d) :
    exec (.mbxCompose l off bs) s = .next (answer (composed (heard s l) l.sess off.toNat bs) l.sess l.tag (.ok []) none) :=
  congrArg Host.Outcome.next (runCmd_ran ok)

/-- The message that a warden sends: the first bytes of its session's buffer, under the queue's next sequence. -/
def wardenMsg (s : State) (i : SessId) (x : StallNo) (ty len : Nat) : Msg where
  seq := (getStall s x).toTenant.next
  type := ty
  ltime := now s
  body := (writeBuf (AMap.getD s.stalls.compose i []) 0 []).take len

/-- The tenant's mailbox with that message at its end. -/
def tenantQueue (s : State) (i : SessId) (x : StallNo) (ty len : Nat) : MsgQueue where
  msgs := (getStall s x).toTenant.msgs ++ [wardenMsg s i x ty len]
  next := (getStall s x).toTenant.next + 1

/-- The message stands there, and the buffer is empty. -/
def wardenSent (s : State) (i : SessId) (x : StallNo) (ty len : Nat) : State :=
  updStalls (updStall s x (fun d => { d with toTenant := tenantQueue s i x ty len }))
    (fun d => { d with compose := AMap.del d.compose i })

theorem wardenSent_queue (i : SessId) (ty len : Nat) :
    (getStall (wardenSent s i x ty len) x).toTenant = tenantQueue s i x ty len :=
  congrArg Stall.toTenant (getStall_updStall_same s x (fun d => { d with toTenant := tenantQueue s i x ty len }))

theorem exec_mbxWardenSend {ty len : Int}
    (ok : Accepts s l (changesStall s l n) (firstErr [stallErr n, rangeErr ty 0 255, rangeErr len 1 256]) d)
    (idle : (getStall s (stallArg n)).state ≠ .draining) : exec (.mbxWardenSend l n ty len) s = .next
      (if mailboxShut s (stallArg n) = true then answer (heard s l) l.sess l.tag (.err .stallFrozen) none
      else if 16 ≤ (getStall s (stallArg n)).toTenant.msgs.length then answer (heard s l) l.sess l.tag .busy none
      else answer (ringTenants (storeStall (wardenSent (heard s l) l.sess (stallArg n) ty.toNat len.toNat) (stallArg n))
        (stallArg n)) l.sess l.tag (okLine [("seq", vn (getStall s (stallArg n)).toTenant.next)]) none) := by
  refine congrArg Host.Outcome.next ((runCmd_undrained ok idle).trans ?_)
  dsimp only
  rw [apply_ite (ran l), apply_ite (ran l)]
  rfl

/-- The messages of the wardens' mailbox from a number on. -/
def wardenLeft (s : State) (x : StallNo) (f : Nat) : List Msg :=
  (getStall s x).toWarden.msgs.filter (fun m => decide (f ≤ m.seq))

/-- The others have been dropped. -/
def wardenDropped (s : State) (x : StallNo) (f : Nat) : State :=
  if (wardenLeft s x f).length = (getStall s x).toWarden.msgs.length then s
  else storeStall (updStall s x (fun d => { d with toWarden := { (getStall s x).toWarden with msgs := wardenLeft s x f } })) x

theorem wardenDropped_queue (f : Nat) : (getStall (wardenDropped s x f) x).toWarden =
    { (getStall s x).toWarden with msgs := wardenLeft s x f } := by
  unfold wardenDropped
  split
  · rename_i all
    have same : wardenLeft s x f = (getStall s x).toWarden.msgs := List.filter_sublist.eq_of_length all
    rw [same]
  · rw [getStall_storeStall, getStall_updStall]

theorem exec_mbxWardenRecv {f : Nat} (ok : Accepts s l (changesStall s l n) (stallErr n) d)
    (idle : (getStall s (stallArg n)).state ≠ .draining) (opened : mailboxShut s (stallArg n) = false) :
    exec (.mbxWardenRecv l n f) s = .next (answer (wardenDropped (heard s l) (stallArg n) f) l.sess l.tag
      (match wardenLeft s (stallArg n) f with
        | [] => okLine [("seq", vn 0)]
        | m :: _ => .ok ([("seq", vn m.seq), ("type", vn m.type), ("ltime", vn m.ltime)] :: hexLines 9 m.body)) none) := by
  have shut : ¬ mailboxShut (heard s l) (stallArg n) = true := Bool.eq_false_iff.mp opened
  refine congrArg Host.Outcome.next ((runCmd_undrained ok idle).trans ?_)
  rw [if_neg shut]
  have left : wardenLeft (heard s l) (stallArg n) f = wardenLeft s (stallArg n) f := rfl
  show ran l (match wardenLeft (heard s l) (stallArg n) f with
    | [] => .say (wardenDropped (heard s l) (stallArg n) f) _ none
    | m :: _ => .say (wardenDropped (heard s l) (stallArg n) f) _ none) = _
  rw [left]
  cases wardenLeft s (stallArg n) f <;> rfl

end mailbox

/-! ### The meter (R560, R561, R563) -/

section meter
variable {s : State} {n : StallNo} {p : Period}

theorem exec_meterTick {u : State} (h : u = advanceBy s 1000000) : exec .meterTick s = .next
    (if metering u = true then (stallNos u).foldl (fun s n => closingRules .none_ (chargeStored s n (useBytes s n) 1000000) n) u
    else if u.phase = .starting ∧ stepDone u 10 = true then
      (stallNos u).foldl (fun s n => chargeStored s n (useBytes s n) 1000000) u
    else u) := by
  subst h
  show execMeterTick s = _
  simp only [execMeterTick, starting, Bool.and_eq_true, decide_eq_true_eq]
  rfl

theorem putPeriod_period (old new : Period) (w : Machine.Acc) : (getStall (putPeriod s n old new w) n).period = some new := by
  unfold putPeriod
  dsimp only
  split
  · rw [getStall_of logEv_stalls, getStall_updStall]
  · rw [getStall_updStall]

/-- What a period's STORED and the remainder come to, in bytes (R561). -/
def storedDue (p : Period) (use us : Nat) : Nat := use * us / 1000000 + p.rest

/-- A period with that charged. -/
def storedCharged (p : Period) (use us : Nat) : Period :=
  { addAcc p .stored (storedDue p use us / 1024) with rest := storedDue p use us % 1024 }

theorem chargeStored_period (use us : Nat) (h : (getStall s n).period = some p) :
    (getStall (chargeStored s n use us) n).period = some (storedCharged p use us) := by
  simp only [chargeStored, h, putPeriod_period, storedCharged, storedDue, sec]

/-- A stall without an open period is not charged (R560). -/
theorem charge_none (w : Machine.Acc) (k : Nat) (h : (getStall s n).period = none) : charge s n w k = s ∧ chargeStored s n k k = s := by
  simp only [charge, chargeStored, h, and_self]

/-! ### The closing rules (R566) -/

variable {st : Step}

theorem closeCause_kind (h : kindOf s n ≠ p.kind) : closeCause? s n p st = some .kindChange := if_pos h

theorem closeCause_undated (kind : kindOf s n = p.kind) (undated : p.bounds = none) : closeCause? s n p st =
    if st = .first then some .timeSet
    else if 3 * nominal p.kind ≤ 2 * (now s - p.ltimeOpen) then some .forced else none := by
  simp only [closeCause?, kind, undated, periodLen, ne_eq, not_true_eq_false, if_false]

theorem closeCause_dated {a b : Nat} (kind : kindOf s n = p.kind) (dated : p.bounds = some (a, b)) (st' : st ≠ .forward) :
    closeCause? s n p st =
      if b ≤ wallNow s ∧ s.clock.wstate ≠ .unset ∧ 9 * (b - p.wallOpen) ≤ 10 * (now s - p.ltimeOpen) then some .wallEnd
      else if 3 * (b - p.wallOpen) ≤ 2 * (now s - p.ltimeOpen) then some .forced else none := by
  simp only [closeCause?, kind, dated, periodLen, st', ne_eq, not_true_eq_false, if_false, false_and]

end meter

/-! ### The statement -/

/-- Settles O27, clause by clause, from what each command and the meter do. -/
theorem relocationMailboxAndMeteringActAsTheirChaptersSay : Obligations.RelocationMailboxAndMeteringActAsTheirChaptersSay := by
  refine ⟨?relocate, ?source, fun s x => exec_relocate_none, fun s x => rfl, ?cancel, ?stopped, ?unknown, ?again, ?taken,
    ?compose, ?send, ?recv, fun s u => exec_meterTick, ?stored, fun s n w k => charge_none w k, ?closing⟩
  case relocate =>
    rintro s l d n dst dest rate acc _ ok rfl idle
    have runs := exec_stallRelocate (dst := dst) (acc := acc) ok idle
    refine ⟨fun busy => ?_, fun free no => ?_, fun free active member other taken => ⟨relocOffered (heard s l) (stallArg n)
      (stallArg dest) dst (rate.getD 100).toNat, relocBegun (heard s l) (stallArg n) (stallArg dest) dst (rate.getD 100).toNat,
      ?_, ?_, rfl, rfl, rfl, rfl, List.length_map _, rfl, ?_⟩⟩
    · rw [runs, if_pos busy]
    · rw [runs, if_neg (by simp [free]), if_neg]
      rintro ⟨active, member, other, taken⟩
      rcases no with e | e | e | e
      · exact e active
      · simp [e] at member
      · exact other e
      · simp [e] at taken
    · rw [runs, if_neg (by simp [free]), if_pos ⟨active, member, other, taken⟩]
    · rw [getStall_relocOffered]
    · rw [getStall_relocOffered]
      exact active
  case source =>
    intro s x r h
    have cutover := exec_relocateCutover h
    have late := exec_relocateFailed_noConfirm h
    refine ⟨exec_relocateCopy_idle h, fun k ks u source before next later =>
        ⟨exec_relocateCopy_sends h source before next later, _, sendKey_reloc h k, mem_keySent r k⟩,
      fun source before active copied answered => ⟨fun few => ?_, fun many => ?_⟩, fun unready => ?_,
      fun c => exec_relocateFailed_cause h, fun unbegun => ?_, fun t begun => ?_⟩
    · rw [cutover, if_pos ⟨source, by simp [before], active, copied, answered, few⟩]
    · rw [cutover, if_neg (by omega)]
    · rw [cutover, if_neg]
      rintro ⟨source, -, -, copied, answered, -⟩
      rcases unready with e | e | e
      · exact e copied
      · exact e answered
      · simp [e] at source
    · rw [late, unbegun]
    · rw [late, begun]
  case cancel =>
    rintro s l d n _ ok rfl idle
    exact ⟨fun r => exec_stallRelocateCancel_runs ok idle, exec_stallRelocateCancel_refused ok idle⟩
  case stopped =>
    exact fun s h m stopped => congrArg Host.Outcome.next (takeRow_stopped stopped)
  case unknown =>
    exact fun s h m runs unknown => congrArg Host.Outcome.next (takeRow_unknown runs unknown)
  case again =>
    exact fun s h m q runs known seen => congrArg Host.Outcome.next (takeRow_repeat runs known seen)
  case taken =>
    rintro s h p x y k runs known fresh other _ rfl
    exact ⟨exec_relocateMessage_removed ⟨runs, known, fresh⟩ other, exec_relocateMessage_offer ⟨runs, known, fresh⟩⟩
  case compose =>
    exact fun s l d off bs ok => ⟨_, exec_mbxCompose ok, rfl, AMap.find_set_same _ _ _⟩
  case send =>
    rintro s l d n ty len _ ok rfl idle
    have runs := exec_mbxWardenSend ok idle
    refine ⟨fun frozen => ?_, fun opened full => ?_, fun opened room =>
      ⟨wardenSent (heard s l) l.sess (stallArg n) ty.toNat len.toNat, ?_, wardenSent_queue l.sess ty.toNat len.toNat⟩⟩
    · rw [runs, if_pos (mailboxShut_frozen frozen)]
    · rw [runs, if_neg (by simp [opened]), if_pos full]
    · rw [runs, if_neg (by simp [opened]), if_neg (by omega)]
  case recv =>
    rintro s l d n f _ _ ok rfl idle opened rfl
    have runs := exec_mbxWardenRecv (f := f) ok idle opened
    refine ⟨wardenDropped (heard s l) (stallArg n) f, wardenDropped_queue f, fun empty => ?_, fun m r more => ?_⟩
    · rw [runs, show wardenLeft s (stallArg n) f = [] from empty]
    · rw [runs, show wardenLeft s (stallArg n) f = m :: r from more]
  case stored =>
    exact fun s n use us p h => ⟨_, chargeStored_period use us h, rfl, rfl, rfl, rfl, rfl, rfl, rfl, rfl⟩
  case closing =>
    intro s n p st
    refine ⟨closeCause_kind, fun kind undated => ?_, fun kind undated later => ?_, fun a b kind dated before st' => ?_,
      fun a b kind dated ended st' set long => ?_⟩
    · rw [closeCause_undated kind undated, if_pos rfl]
    · rw [closeCause_undated kind undated, if_neg later]
    · rw [closeCause_dated kind dated st', if_neg (by omega)]
    · rw [closeCause_dated kind dated st', if_pos ⟨ended, set, long⟩]

end Sys2Proof.Proofs
end

section
/-!
The row epoch over every step (R705), and the answers to lines, groups and commits that name nothing (R699, R847, R856).
-/

namespace Sys2Proof.Proofs

open Sys2Proof Machine Laws

/-! ### The row epoch (R705) -/

/-- Cutting the sessions and links off ends the beacons and keeps the rest of the row. -/
theorem cutOff_epoch (s : State) : (cutOff s).row.epoch = s.row.epoch := rfl

theorem loseWork_epoch (s : State) : (loseWork s).row.epoch = s.row.epoch := cutOff_epoch s

theorem loseRest_epoch (s : State) : (loseRest s).row.epoch = s.row.epoch := rfl

theorem step_epoch_le {s t : State} (h : step s = .next t) : s.row.epoch ≤ t.row.epoch :=
  (everyCommandRunsAndNothingGoesBack.2 s t h).2.2.2.2.2.1

/-- Settles O53: what a start loses leaves the epoch out, and no step lowers it. -/
theorem theRowEpochIsStoredAndNeverDecreases : Obligations.TheRowEpochIsStoredAndNeverDecreases := by
  refine ⟨?reads, ?stored, ?rises⟩
  case reads => exact fun s => rfl
  case stored => exact fun s => (loseRest_epoch (loseWork s)).trans (loseWork_epoch s)
  case rises => exact fun s t => step_epoch_le

/-! ### Groups that are none (R847) -/

/-- Settles O49: without a group the command's one operand fails its check (`runCmd_bad`). -/
theorem aCommitOrDiscardOfAnUnknownGroupIsBadValue : Obligations.ACommitOrDiscardOfAnUnknownGroupIsBadValue :=
  fun _ _ _ ok => ⟨congrArg Host.Outcome.next (runCmd_bad ok), congrArg Host.Outcome.next (runCmd_bad ok)⟩

/-! ### Lines that are no command (R856) -/

theorem lineBody_nil (m : Bool) : lineBody m [] = [] := by cases m <;> rfl

/-- A line that forms no command fails, whether or not its characters are known. -/
theorem lineRefusal_unknown {t : List Byte} (h : t = [] ∨ lineForm (lineWords t) = none) :
    lineRefusal t (some .unknownCommand) = some .unknownCommand := by
  unfold lineRefusal
  rcases h with rfl | h
  · rfl
  · split
    · rfl
    · rw [wordsErr, h]

/-- The checks of such a line end with its words, after those of safe mode. -/
theorem refusal_unknown {s : State} {d : Session} {l : Line} (text : l.text = [])
    (h : d.lineReady = none ∨ lineForm (lineWords (lineBody d.machine (d.lineReady.getD []))) = none) :
    refusal s d l {} (some .unknownCommand) =
      some (.err (if s.phase = .safe then .safeMode else .unknownCommand)) := by
  have line : lineRefusal (lineText d l) (some .unknownCommand) = some .unknownCommand := by
    rw [lineText, text, List.isEmpty_nil, if_pos rfl]
    refine lineRefusal_unknown (h.imp_left fun e => ?_)
    rw [e, Option.getD_none, lineBody_nil]
  unfold refusal
  rw [line]
  by_cases safe : s.phase = .safe
  · rw [if_pos (by simp [safe, inSafeList]), if_pos safe]
  · rw [if_neg (by simp [safe]), if_neg safe]

/-- Settles O10: the line's words fail the first check of R233, before which stands that of safe mode. -/
theorem unknownCommandsAreAnsweredSo : Obligations.UnknownCommandsAreAnsweredSo := by
  intro s l d sess opn line heard tag place words
  have refused := refusal_unknown (s := Sys2Proof.heard s l) (l := { l with text := [] }) rfl words
  exact congrArg _ (runCmd_refused (l := { l with text := [] }) sess opn line heard tag place refused)

/-! ### A row without a key (R699) -/

theorem groupBusy_holder {s : State} {g : Group} {x : SessId} {h : Shadow} {d : Session} (done : stepDone s (groupStep g) = true)
    (sh : shadowOf s g = some h) (sess : getSess s x = some d) (holder : h.holder = x) (inst : h.inst = d.serial) :
    groupBusy s g x = false := by
  unfold groupBusy heldByOther sessSerial
  rw [done, sh, sess]
  simp [holder, inst]

/-- While CORE runs the group ROW is reached as the state stands. -/
theorem reachGroup_row {s : State} (run : islState s .core = .run) : reachGroup s .row = some s := by
  show reachIsl s .core true = some s
  rw [reachIsl, run]

/-- The rule of the group ROW refuses a ROW_ID while no row key is set. -/
theorem commitRule_row {s : State} {w : Word64} (key : s.row.key = none) (id : attrFieldOf .rowCfg w "ROW_ID" ≠ 0) :
    commitRule s (storeWords s [(.rowCfg, w)]) .row = some .noRowKey := by
  have stored : cfgField (storeWords s [(.rowCfg, w)]) .rowCfg "ROW_ID" = attrFieldOf .rowCfg w "ROW_ID" := by
    have word : cfgWord (storeWords s [(.rowCfg, w)]) .rowCfg = w := AMap.getD_set_same _ _ _ _
    rw [cfgField, word, attrFieldOf]
  show (if _ then _ else _) = _
  rw [stored, if_pos ⟨id, by rw [key]; rfl⟩]

theorem tryCommit_rowWithoutKey {s : State} {x : SessId} {w : List (Attr × String × Nat)} (run : islState s .core = .run)
    (free : groupBusy s .row x = false) (key : s.row.key = none)
    (id : attrFieldOf .rowCfg (pendingWord s w .rowCfg) "ROW_ID" ≠ 0) :
    tryCommit s .row x w = .error (.err .noRowKey) := by
  have rule : commitRule s (storeWords s ((groupAttrs .row).map (fun a => (a, pendingWord s w a)))) .row = some .noRowKey :=
    commitRule_row key id
  unfold tryCommit
  simp only [reachGroup_row run, free, rule, groupDrains, groupStall?, Bool.or_self, Bool.false_eq_true, if_false]

/-- Settles O50: the holder's commit reaches the rule of the group ROW, which refuses it. -/
theorem aRowCommitWithoutARowKeyIsRefused : Obligations.ARowCommitWithoutARowKeyIsRefused := by
  intro s l d h ok sh holder inst done run key id
  have free : groupBusy (heard s l) .row l.sess = false :=
    groupBusy_holder (s := heard s l) done sh (getSess_heard ok.sess) holder inst
  have refused : tryCommit (heard s l) .row l.sess h.written = .error (.err .noRowKey) :=
    tryCommit_rowWithoutKey (s := heard s l) run free key id
  rw [commitGroup_some ok sh, done, refused]
  rfl

end Sys2Proof.Proofs
end

section
/-!
From the masks of `Changes` to the frames of the commands of the media, its upkeep and the Arcade.
-/

namespace Sys2Proof.Proofs

open Sys2Proof Machine Laws

/-- Settles O42: each command's mask (its `_changes` law) is covered by the parts that its clause lists. -/
theorem mediaAndArcadeCommandsChangeOnlyTheirParts : Obligations.MediaAndArcadeCommandsChangeOnlyTheirParts := by
  refine ⟨?programFail, ?arcCursorFree, ?logProgram, ?arcScrubPass, ?bedBinEnd, ?packedPageTimeout, ?healthTempTick,
    ?bandsMove, ?arcScrubUnit, ?shows, ?searches, ?shredDone, ?upkeep, ?checkpointSegment, ?patrolRead, ?gcBandFreed,
    ?completions⟩
  case programFail => exact fun s t ⟨_, _, e⟩ => only_of_mask e execProgramFail_changes (by decide)
  case arcCursorFree => exact fun s t ⟨_, e⟩ => only_of_mask e execArcCursorFree_changes (by decide)
  case logProgram => exact fun s t e => only_of_mask e execLogProgram_changes (by decide)
  case arcScrubPass => exact fun s t e => only_of_mask e execArcScrubPass_changes (by decide)
  case bedBinEnd => exact fun s t ⟨_, e⟩ => only_of_mask e execBedBinEnd_changes (by decide)
  case packedPageTimeout => exact fun s t ⟨_, _, e⟩ => only_of_mask e execPackedPageTimeout_changes (by decide)
  case healthTempTick => exact fun s t e => only_of_mask e execHealthTempTick_changes (by decide)
  case bandsMove =>
    rintro s t (⟨_, e⟩ | ⟨_, _, e⟩)
    · exact only_of_mask e execShelterMoved_changes (by decide)
    · exact only_of_mask e execEraseDone_changes (by decide)
  case arcScrubUnit => exact fun s t ⟨_, e⟩ => only_of_mask e execArcScrubUnit_changes (by decide)
  case shows =>
    rintro s t (⟨_, e⟩ | ⟨_, _, e⟩ | ⟨_, e⟩ | ⟨_, e⟩ | ⟨_, _, e⟩ | ⟨_, e⟩ | ⟨_, _, e⟩)
    · exact only_of_mask e execMediaShow_changes (by decide)
    · exact only_of_mask e execBandShow_changes (by decide)
    · exact only_of_mask e execHealthShow_changes (by decide)
    · exact only_of_mask e execHealthTemp_changes (by decide)
    · exact only_of_mask e execHealthHoldup_changes (by decide)
    · exact only_of_mask e execArcadeShow_changes (by decide)
    · exact only_of_mask e execArcadeBankShow_changes (by decide)
  case searches =>
    rintro s t (⟨_, _, e⟩ | ⟨_, e⟩)
    · exact only_of_mask e execArcSearch_changes (by decide)
    · exact only_of_mask e execArcRebuild_changes (by decide)
  case shredDone => exact fun s t ⟨_, e⟩ => only_of_mask e execShredDone_changes (by decide)
  case upkeep =>
    rintro s t (⟨_, _, _, e⟩ | ⟨_, e⟩ | ⟨_, e⟩ | e | e | e | e)
    · exact only_of_mask e execDieFailed_changes (by decide)
    · exact only_of_mask e execGcLoadWindow_changes (by decide)
    · exact only_of_mask e execShredScan_changes (by decide)
    · exact only_of_mask e execRebuildBand_changes (by decide)
    · exact only_of_mask e execGcReclaimTimer_changes (by decide)
    · exact only_of_mask e execWearLevelMove_changes (by decide)
    · exact only_of_mask e execBlockRefreshed_changes (by decide)
  case checkpointSegment => exact fun s t ⟨_, _, e⟩ => only_of_mask e execCheckpointSegment_changes (by decide)
  case patrolRead => exact fun s t ⟨_, _, _, _, e⟩ => only_of_mask e execPatrolRead_changes (by decide)
  case gcBandFreed => exact fun s t ⟨_, e⟩ => only_of_mask e execGcBandFreed_changes (by decide)
  case completions =>
    rintro s t (⟨_, _, e⟩ | ⟨_, e⟩ | e | e)
    · exact only_of_mask e execFlashReadDone_changes (by decide)
    · exact only_of_mask e execFlashProgramDone_changes (by decide)
    · exact only_of_mask e execArcInsert_changes (by decide)
    · exact only_of_mask e execArcInvalidate_changes (by decide)

end Sys2Proof.Proofs
end

section
/-!
From the masks of `Changes` to the frames of the commands of the row and of firmware.
-/

namespace Sys2Proof.Proofs

open Sys2Proof Machine Laws

/-- Settles O43: each command's mask (its `_changes` law) is covered by the parts that its clause lists. -/
theorem rowAndFirmwareCommandsChangeOnlyTheirParts : Obligations.RowAndFirmwareCommandsChangeOnlyTheirParts := by
  refine ⟨?mirrorCopyExpiry, ?requests, ?searchReplies, ?rowFindDeadline, ?rowRetransmit, ?shows, ?acks,
    ?mirrorSends, ?parcelExpiry, ?pieceTimeout, ?rowLeave, ?mirrorCommands, ?parcelAbandon, ?relayStatus,
    ?mirrorCatchup, ?beacons, ?rowKeySet, ?parcelPiece, ?beaconReceive, ?rowKeyNew, ?mirrorRestoreDone, ?trialConfirm,
    ?trialWindowEnd, ?installs, ?relayOffer, ?relayPiece⟩
  case mirrorCopyExpiry => exact fun s t ⟨_, _, e⟩ => only_of_mask e execMirrorCopyExpiry_changes (by decide)
  case requests =>
    rintro s t (⟨_, _, e⟩ | ⟨_, _, _, _, e⟩ | ⟨_, _, _, _, e⟩ | ⟨_, e⟩ | ⟨_, _, _, e⟩)
    · exact only_of_mask e execFindReq_changes (by decide)
    · exact only_of_mask e execMirrorUpdate_changes (by decide)
    · exact only_of_mask e (execMirrorRemove_changes (y3 := true)) (by decide)
    · exact only_of_mask e execFindCancel_changes (by decide)
    · exact only_of_mask e execPieceReq_changes (by decide)
  case searchReplies =>
    rintro s t (⟨_, _, e⟩ | ⟨_, _, e⟩)
    · exact only_of_mask e execFindPage_changes (by decide)
    · exact only_of_mask e execFindEnd_changes (by decide)
  case rowFindDeadline => exact fun s t ⟨_, e⟩ => only_of_mask e execRowFindDeadline_changes (by decide)
  case rowRetransmit => exact fun s t ⟨_, _, e⟩ => only_of_mask e execRowRetransmit_changes (by decide)
  case shows =>
    rintro s t (⟨_, e⟩ | ⟨_, e⟩ | ⟨_, e⟩ | ⟨_, e⟩ | ⟨_, e⟩)
    · exact only_of_mask e execMirrorShow_changes (by decide)
    · exact only_of_mask e execRowShow_changes (by decide)
    · exact only_of_mask e execRowMembers_changes (by decide)
    · exact only_of_mask e execParcelShow_changes (by decide)
    · exact only_of_mask e execFwShow_changes (by decide)
  case acks =>
    rintro s t (⟨_, _, e⟩ | ⟨_, _, e⟩)
    · exact only_of_mask e execRowAck_changes (by decide)
    · exact only_of_mask e execMirrorPut_changes (by decide)
  case mirrorSends =>
    rintro s t (e | e)
    · exact only_of_mask e execMirrorSend_changes (by decide)
    · exact only_of_mask e execMirrorRetry_changes (by decide)
  case parcelExpiry => exact fun s t e => only_of_mask e execParcelExpiry_changes (by decide)
  case pieceTimeout => exact fun s t ⟨_, e⟩ => only_of_mask e execPieceTimeout_changes (by decide)
  case rowLeave => exact fun s t ⟨_, e⟩ => only_of_mask e execRowLeave_changes (by decide)
  case mirrorCommands =>
    rintro s t (⟨_, _, e⟩ | ⟨_, _, _, _, e⟩)
    · exact only_of_mask e execMirrorDrop_changes (by decide)
    · exact only_of_mask e execMirrorRestore_changes (by decide)
  case parcelAbandon => exact fun s t ⟨_, e⟩ => only_of_mask e execParcelAbandon_changes (by decide)
  case relayStatus => exact fun s t ⟨_, _, _, _, e⟩ => only_of_mask e execRelayStatus_changes (by decide)
  case mirrorCatchup => exact fun s t e => only_of_mask e execMirrorCatchup_changes (by decide)
  case beacons =>
    rintro s t (⟨_, e⟩ | e | e)
    · exact only_of_mask e execMemberTimeout_changes (by decide)
    · exact only_of_mask e execBeaconSend_changes (by decide)
    · exact only_of_mask e execLeaderTimeout_changes (by decide)
  case rowKeySet => exact fun s t ⟨_, _, e⟩ => only_of_mask e execRowKeySet_changes (by decide)
  case parcelPiece => exact fun s t ⟨_, _, _, _, e⟩ => only_of_mask e execParcelPiece_changes (by decide)
  case beaconReceive => exact fun s t ⟨_, e⟩ => only_of_mask e execBeaconReceive_changes (by decide)
  case rowKeyNew => exact fun s t ⟨_, e⟩ => only_of_mask e execRowKeyNew_changes (by decide)
  case mirrorRestoreDone => exact fun s t ⟨_, e⟩ => only_of_mask e execMirrorRestoreDone_changes (by decide)
  case trialConfirm => exact fun s t ⟨_, e⟩ => only_of_mask e execTrialConfirm_changes (by decide)
  case trialWindowEnd => exact fun s t e => only_of_mask e execTrialWindowEnd_changes (by decide)
  case installs =>
    rintro s t (⟨_, _, _, _, e⟩ | ⟨_, _, e⟩)
    · exact only_of_mask e execParcelInstall_changes (by decide)
    · exact only_of_mask e execGateUpdateDone_changes (by decide)
  case relayOffer => exact fun s t ⟨_, _, _, e⟩ => only_of_mask e execRelayOffer_changes (by decide)
  case relayPiece => exact fun s t ⟨_, _, _, _, e⟩ => only_of_mask e execRelayPiece_changes (by decide)

end Sys2Proof.Proofs
end

section
/-!
What the searches, the command queue, the scrub and the rebuild of the Arcade do, command by command, branch by branch (ch. 15).
-/

namespace Sys2Proof.Proofs

open Sys2Proof Machine Laws

section
variable {s : State}

/-! ### An Arcade that is not up -/

section
variable (down : arcUp s = false)
include down

theorem exec_arcSearch_down (r : ArcReq) (f : List (Nat × ArcCheck)) : exec (.arcSearch r f) s = .next s := by
  show execArcSearch r f s = _
  rw [execArcSearch, if_neg (by simp [down])]

theorem exec_arcQueue_down : exec .arcInsert s = .next s ∧ exec .arcInvalidate s = .next s := by
  refine ⟨?_, ?_⟩
  · show execArcInsert s = _
    rw [execArcInsert, if_neg (by simp [down])]
  · show execArcInvalidate s = _
    rw [execArcInvalidate, if_neg (by simp [down])]

theorem exec_arcScrubPass_down : exec .arcScrubPass s = .next s := by
  show execArcScrubPass s = _
  rw [execArcScrubPass, if_neg (by simp [down])]

theorem exec_arcScrubUnit_down (c : ArcCheck) : exec (.arcScrubUnit c) s = .next s := by
  show execArcScrubUnit c s = _
  rw [execArcScrubUnit]
  cases s.arc.scrub with
  | none => rfl
  | some u => simp only [down, Bool.false_eq_true, if_false]

theorem exec_arcRebuild_down (b : Fin 16) : exec (.arcRebuild b) s = .next s := by
  show execArcRebuild b s = _
  rw [execArcRebuild, if_neg (by simp [down])]

theorem exec_arcCursorFree_down (x : Fin 16) : exec (.arcCursorFree x) s = .next s := by
  show execArcCursorFree x s = _
  rw [execArcCursorFree, if_neg (by simp [down])]

end

/-! ### Searches and cursors (R667 to R669) -/

section
variable (up : arcUp s = true) {f : List (Nat × ArcCheck)} {sp : ArcSpec}

/-- What an immediate search reports of its hits. -/
def searchResult (s : State) (sp : ArcSpec) : ArcResult :=
  resultOf (arcFound s sp) ((arcFound s sp).head?.map (fun x => x.1)) none

/-- A stepped search takes the lowest free cursor, or waits for one. -/
def searchStepped (s : State) (sp : ArcSpec) : State :=
  match freeCursor s with
  | some c => beginStepped s sp c
  | none => updArc s (fun a => { a with waiting := a.waiting ++ [sp] })

include up

theorem exec_arcSearch_immediate : exec (.arcSearch (.immediate sp) f) s =
    .next (updArc (countArc (verifyHits (wakeIsl s .arc) f) .searches 1) (fun a => { a with
      result := some (searchResult (countArc (verifyHits (wakeIsl s .arc) f) .searches 1) sp) })) := by
  show execArcSearch (.immediate sp) f s = _
  rw [execArcSearch, if_pos up]
  rfl

theorem exec_arcSearch_stepped : exec (.arcSearch (.stepped sp) f) s =
    .next (searchStepped (countArc (verifyHits (wakeIsl s .arc) f) .searches 1) sp) := by
  show execArcSearch (.stepped sp) f s = _
  rw [execArcSearch, if_pos up]
  rfl

theorem exec_arcSearch_step (c : Fin 16) : exec (.arcSearch (.step c) f) s =
    .next (stepCursor (verifyHits (wakeIsl s .arc) f) c) := by
  show execArcSearch (.step c) f s = _
  rw [execArcSearch, if_pos up]

end

theorem freeCursor_free {c : Fin 16} (h : freeCursor s = some c) : AMap.find s.arc.cursors c = none := by
  have free := List.find?_some h
  exact Option.isNone_iff_eq_none.mp free

section
variable {c : Fin 16}

theorem stepCursor_unheld (h : AMap.find s.arc.cursors c = none) : stepCursor s c = s := by rw [stepCursor, h]

theorem exec_arcCursorFree_unheld (h : AMap.find s.arc.cursors c = none) : exec (.arcCursorFree c) s = .next s := by
  show execArcCursorFree c s = _
  rw [execArcCursorFree, if_neg (by simp [h])]

variable {d : ArcCursor} (held : AMap.find s.arc.cursors c = some d)
include held

/-- A step that finds no further entry reports so and leaves the cursor where it stands. -/
theorem stepCursor_end (h : afterCursor (countArc s .steps 1) d = []) : stepCursor s c =
    updArc (countArc s .steps 1) (fun a => { a with
      result := some (resultOf (arcFound (countArc s .steps 1) d.spec) none (some c)) }) := by
  rw [stepCursor, held]
  simp only [h]

/-- A step reports the next entry, on which the cursor then stands. -/
theorem stepCursor_next {x : Nat × ArcEntry} {xs : List (Nat × ArcEntry)} (h : afterCursor (countArc s .steps 1) d = x :: xs) :
    stepCursor s c = updArc (countArc s .steps 1) (fun a => { a with
      cursors := AMap.set a.cursors c { d with pos := some x.1, seen := identOf x.2 :: d.seen }
      result := some (resultOf (arcFound (countArc s .steps 1) d.spec) (some x.1) (some c)) }) := by
  rw [stepCursor, held]
  simp only [h]

variable (up : arcUp s = true)
include up

theorem exec_arcCursorFree_idle (w : s.arc.waiting = []) : exec (.arcCursorFree c) s =
    .next (updArc s (fun a => { a with cursors := AMap.del a.cursors c })) := by
  show execArcCursorFree c s = _
  rw [execArcCursorFree, if_pos ⟨up, by rw [held]; rfl⟩]
  simp only [updArc_parts, w]

theorem exec_arcCursorFree_passesOn {sp : ArcSpec} {ws : List ArcSpec} (w : s.arc.waiting = sp :: ws) :
    exec (.arcCursorFree c) s = .next (beginStepped { s with arc := { s.arc with
      cursors := AMap.del s.arc.cursors c, waiting := ws } } sp c) := by
  show execArcCursorFree c s = _
  rw [execArcCursorFree, if_pos ⟨up, by rw [held]; rfl⟩]
  simp only [updArc_parts, w]
  rfl

end

/-- An entry after a cursor has not been reported yet. -/
theorem afterCursor_unseen {d : ArcCursor} {x : Nat × ArcEntry} (h : x ∈ afterCursor s d) : d.seen.contains (identOf x.2) = false := by
  have ok := (List.mem_filter.mp h).2
  rw [Bool.and_eq_true] at ok
  simpa using ok.1

/-! ### Verify after match (R677) -/

/-- A false hit is counted in its bank, to 65,535, and leaves the entries as they are. -/
theorem falseHit_arc (p : Nat) :
    AMap.getD (falseHit s p).arc.falseHits (bankOfPos p) 0 = sat (AMap.getD s.arc.falseHits (bankOfPos p) 0 + 1) 65535 ∧
    (falseHit s p).arc.entries = s.arc.entries := by
  have log (u : State) (e : Ev) (a : EvArgs) : (logEv u e a).arc = u.arc := logEv_changes.arc (by decide)
  unfold falseHit
  dsimp only
  split
  · rw [log]
    exact ⟨AMap.getD_set_same _ _ _ _, rfl⟩
  · exact ⟨AMap.getD_set_same _ _ _ _, rfl⟩

/-! ### The command queue (R670 to R674) -/

theorem exec_arcQueue (up : arcUp s = true) : exec .arcInsert s = .next (runQueueHead s (fun c => ! isInvalidate c)) ∧
    exec .arcInvalidate s = .next (runQueueHead s isInvalidate) := by
  refine ⟨?_, ?_⟩
  · show execArcInsert s = _
    rw [execArcInsert, if_pos up]
  · show execArcInvalidate s = _
    rw [execArcInvalidate, if_pos up]

section
variable {w : ArcCmd → Bool} {c : ArcCmd} {cs : List ArcCmd}

theorem runQueueHead_empty (q : s.arc.queue = []) : runQueueHead s w = s := by rw [runQueueHead, q]

theorem runQueueHead_otherKind (q : s.arc.queue = c :: cs) (k : w c = false) : runQueueHead s w = s := by
  rw [runQueueHead, q]
  simp only [k, Bool.false_eq_true, if_false]

variable {u : State}

theorem runQueueHead_goesOn (q : s.arc.queue = c :: cs) (k : w c = true) (h : headOp (wakeIsl s .arc) c = (u, none)) :
    runQueueHead s w = u := by
  rw [runQueueHead, q]
  simp only [k, if_true, h]

theorem runQueueHead_ends {b : Bool} (q : s.arc.queue = c :: cs) (k : w c = true)
    (h : headOp (wakeIsl s .arc) c = (u, some b)) : runQueueHead s w = afterCmd (popArc u) c b := by
  rw [runQueueHead, q]
  simp only [k, if_true, h]

end

theorem popArc_queue (h : s.arc.overflow = []) : (popArc s).arc.queue = s.arc.queue.drop 1 := by
  simp only [popArc, updArc_parts, h]

theorem popArc_overflow {x : ArcCmd} {xs : List ArcCmd} (h : s.arc.overflow = x :: xs) :
    (popArc s).arc.queue = s.arc.queue.drop 1 ++ [x] ∧ (popArc s).arc.overflow = xs := by
  simp only [popArc, updArc_parts, h, and_self]

/-! ### Scrub and rebuild (R680, R681, R694) -/

theorem exec_arcScrubPass (up : arcUp s = true) : exec .arcScrubPass s =
    .next (if s.arc.scrub = none then updArc (wakeIsl s .arc) (fun a => { a with scrub := some 0 }) else s) := by
  show execArcScrubPass s = _
  rw [execArcScrubPass]
  exact congrArg _ (if_congr (by simp [up]) rfl rfl)

theorem exec_arcScrubUnit_none (c : ArcCheck) (h : s.arc.scrub = none) : exec (.arcScrubUnit c) s = .next s := by
  show execArcScrubUnit c s = _
  rw [execArcScrubUnit, h]

/-- What the comparison of a unit leads to, before the pass moves on. -/
def scrubbed (s : State) (u : Nat) : ArcCheck → State
  | .agree => s
  | .disagree => scrubFix s u
  | .uncorrectable => match entryAtUnit s u with | some p => entryLost s p | none => s

theorem exec_arcScrubUnit {c : ArcCheck} {u : Nat} (up : arcUp s = true) (h : s.arc.scrub = some u) :
    exec (.arcScrubUnit c) s = .next (
      if u + 1 < 131072 then updArc (scrubbed s u c) (fun a => { a with scrub := some (u + 1) })
      else updArc (scrubbed s u c) (fun a => { a with scrub := none, scrubAt := (scrubbed s u c).clock.ledger })) := by
  show execArcScrubUnit c s = _
  rw [execArcScrubUnit, h]
  simp only [up, if_true]
  cases c <;> rfl

section
variable {b : Fin 16}

theorem exec_arcRebuild_idle (h : s.arc.rebuilding.contains b = false ∨ ready s = false) : exec (.arcRebuild b) s = .next s := by
  have idle : (arcUp s && s.arc.rebuilding.contains b && ready s) = false := by
    rcases h with h | h <;> simp only [h, Bool.and_false, Bool.false_and]
  show execArcRebuild b s = _
  rw [execArcRebuild, idle, if_neg Bool.false_ne_true]

/-- The entries of a bank are written from the objects of the stalls with quarters in it. -/
def bankRewritten (s : State) (b : Fin 16) : State :=
  ((List.finRange 128).filter (fun x => (stallBanks s x).contains b)).foldl
    (fun s x => (stallObjs s x).foldl (fun s o => rewriteKey s o.1 o.2) s) (wakeIsl s .arc)

/-- A rebuilt bank is no longer among those being rebuilt. -/
def bankRebuilt (s : State) (b : Fin 16) : State :=
  { bankRewritten s b with arc := { (bankRewritten s b).arc with
      rebuilding := (bankRewritten s b).arc.rebuilding.filter (fun x => decide (x ≠ b)) } }

theorem not_mem_bankRebuilt : b ∉ (bankRebuilt s b).arc.rebuilding := fun h => by
  simpa using (List.mem_filter.mp h).2

theorem exec_arcRebuild (up : arcUp s = true) (h : s.arc.rebuilding.contains b = true) (r : ready s = true) :
    exec (.arcRebuild b) s = .next (logEv (bankRebuilt s b) .arcRebuildDone { details := [(b.val : Int)] }) := by
  show execArcRebuild b s = _
  rw [execArcRebuild, up, h, r]
  rfl

end

end

/-! ### The statement -/

/-- Settles O30, clause by clause, from what each command does. -/
theorem arcadeSearchesQueueAndScrubActAsChapter15Says : Obligations.ArcadeSearchesQueueAndScrubActAsChapter15Says := by
  refine ⟨?down, ?immediate, ?stepped, ?freeCursor, ?step, ?steps, ?unheld, ?cursorFreed, ?verified, ?falseHits, ?queue,
    ?queueHead, ?pops, ?scrubPass, ?noScrub, ?scrubUnit, ?rebuild, ?noRebuild⟩
  case down =>
    intro s r f h
    obtain ⟨insert, invalidate⟩ := exec_arcQueue_down h
    exact ⟨exec_arcSearch_down h r f, insert, invalidate, exec_arcScrubPass_down h, fun c b x =>
      ⟨exec_arcScrubUnit_down h c, exec_arcRebuild_down h b, exec_arcCursorFree_down h x⟩⟩
  case immediate =>
    rintro s f sp u up rfl
    refine ⟨_, _, exec_arcSearch_immediate up, rfl, rfl, rfl, ?_, ?_, rfl, rfl⟩
    · exact decide_eq_true_iff
    · exact sat_min _ _
  case stepped =>
    rintro s f sp u up rfl
    refine (exec_arcSearch_stepped up).trans (congrArg _ ?_)
    unfold searchStepped
    cases freeCursor (countArc (verifyHits (wakeIsl s .arc) f) .searches 1) <;> rfl
  case freeCursor => exact fun s c => freeCursor_free
  case step => exact fun s f c up => exec_arcSearch_step up c
  case steps =>
    refine fun s c d held => ⟨fun x xs h => ?_, fun h => ?_⟩
    · rw [stepCursor_next held h]
      exact ⟨_, _, AMap.find_set_same _ _ _, rfl, rfl, rfl, rfl, rfl, rfl, afterCursor_unseen (h ▸ List.mem_cons_self)⟩
    · rw [stepCursor_end held h]
      exact ⟨_, rfl, rfl, rfl⟩
  case unheld => exact fun s c h => ⟨exec_arcCursorFree_unheld h, stepCursor_unheld h⟩
  case cursorFreed =>
    refine fun s c d up held => ⟨fun w => ⟨_, exec_arcCursorFree_idle held up w, AMap.find_del_same _ _⟩, fun sp ws w => ?_⟩
    exact exec_arcCursorFree_passesOn held up w
  case verified => exact fun s f p => ⟨rfl, rfl, rfl, rfl⟩
  case falseHits => exact fun s p => ⟨(falseHit_arc p).1.trans (sat_min _ _), (falseHit_arc p).2⟩
  case queue => exact fun s => exec_arcQueue
  case queueHead =>
    exact fun s w => ⟨runQueueHead_empty, fun c cs => runQueueHead_otherKind, fun c cs u => runQueueHead_goesOn,
      fun c cs u b => runQueueHead_ends⟩
  case pops => exact fun s => ⟨popArc_queue, fun x xs => popArc_overflow⟩
  case scrubPass => exact fun s => exec_arcScrubPass
  case noScrub => exact fun s c => exec_arcScrubUnit_none c
  case scrubUnit =>
    refine fun s u up h => ⟨fun lt => ?_, fun ge => ?_⟩
    · rw [exec_arcScrubUnit up h, exec_arcScrubUnit up h, if_pos (by omega), if_pos (by omega)]
      exact ⟨rfl, rfl⟩
    · rw [exec_arcScrubUnit up h, if_neg (by omega)]
      rfl
  case rebuild => exact fun s b up h r => ⟨_, _, rfl, rfl, not_mem_bankRebuilt, exec_arcRebuild up h r⟩
  case noRebuild => exact fun s b => exec_arcRebuild_idle

end Sys2Proof.Proofs
end

section
/-!
What the messages of the row do, message by message: the sender's leave, searches, and mirror copies (ch. 16).
-/

namespace Sys2Proof.Proofs

open Sys2Proof Machine Laws

section
variable {s : State} {h : RowHdr}

/-! ### Any message (R715, R717) -/

section
variable {c : Instr} (msg : rowHeader c = some h)
include msg

theorem exec_row_stopped (stopped : rowRuns s = false) : exec c s = .next s := by
  obtain ⟨act, e⟩ := exec_rowHeader msg s
  rw [e, takeRow_stopped stopped]

theorem exec_row_unknown (runs : rowRuns s = true) (stranger : rowKnows s h.peer = false) :
    exec c s = .next { s with row := { s.row with msgBad := s.row.msgBad + 1 } } := by
  obtain ⟨act, e⟩ := exec_rowHeader msg s
  rw [e, takeRow_unknown runs stranger]

theorem exec_row_repeat {q : Nat × Nat × AckStatus} (runs : rowRuns s = true) (known : rowKnows s h.peer = true)
    (seen : s.row.seen.find? (fun x => decide (x.1 = h.peer) && decide (x.2.1 = h.msgId)) = some q) :
    exec c s = .next (rowSend s h.peer (.ack q.2.2) h.msgId) := by
  obtain ⟨act, e⟩ := exec_rowHeader msg s
  rw [e, takeRow_repeat runs known seen]

end

/-! ### What a message leads to -/

/-- The drive leads in the place of a leader that leaves. -/
def leaderFollowed (s : State) (x : Nat) : State :=
  let s := removeMember (updRow s (fun d => { d with state := .leader, leaderAt := none })) x true
  logEv s .rowLeader { details := [(s.row.epoch : Int)] }

/-- A search request of a message. -/
def requested (h : RowHdr) (m : FindReqMsg) : ServedSearch := { peer := h.peer, msgId := h.msgId, req := m }

/-- The searches that a cancel does not name. -/
def uncancelled (h : RowHdr) (vs : List ServedSearch) : List ServedSearch :=
  vs.filter (fun v => ! (decide (v.peer = h.peer) && decide (v.msgId = h.refId)))

/-- A copy that is kept under the same or a higher WSEQ. -/
def copyKept (s : State) (o : MirrorObj) : Bool :=
  match AMap.find s.row.copies (o.origin, o.key) with
  | some c => decide (o.wseq ≤ c.obj.wseq)
  | none => false

/-- A copy stored under its origin and key, until it expires. -/
def copyStored (s : State) (o : MirrorObj) : State :=
  updRow s (fun d => { d with copies := AMap.set d.copies (o.origin, o.key) { obj := o, expiry := now s + o.remaining } })

section
variable (arrives : Arrives s h)
include arrives

/-- A message that arrives, from what it leads to. -/
theorem next_takeRow {act : State → State × AckStatus} {t : State} {st : AckStatus} (done : act (noted s h) = (t, st)) :
    Host.Outcome.next (takeRow s h act) = (.next (acked t h st) : Host.Outcome State Fault Refusal) := by
  rw [takeRow_arrives arrives, done]

/-! ### LEAVE (R707, R714) -/

theorem exec_rowLeave_leader (leads : s.row.state = .leader) (member : isMember s h.peer = true) :
    exec (.rowLeave h) s = .next (acked (removeMember (noted s h) h.peer true) h .ok) :=
  next_takeRow arrives (if_pos ⟨leads, member⟩)

theorem exec_rowLeave_successor (member : s.row.state = .member) (leader : leaderOf s = some h.peer)
    (next : successorOf s h.peer = some Config.serial) :
    exec (.rowLeave h) s = .next (acked (leaderFollowed (noted s h) h.peer) h .ok) := by
  have notLeader : s.row.state ≠ .leader := by rw [member]; exact RowState.noConfusion
  refine next_takeRow arrives ?_
  rw [if_neg (fun c => notLeader c.1), if_pos ⟨member, leader, next⟩]
  rfl

theorem exec_rowLeave_other (notLeader : s.row.state ≠ .leader) (other : leaderOf s ≠ some h.peer ∨ s.row.state ≠ .member) :
    exec (.rowLeave h) s = .next (acked (noted s h) h .ok) := by
  refine next_takeRow arrives ?_
  rw [if_neg (fun c => notLeader c.1), if_neg (fun c => other.elim (fun n => n c.2.1) (fun n => n c.1))]

/-! ### Searches (R720, R722, R725) -/

theorem exec_findReq (m : FindReqMsg) : exec (.findReq h m) s =
    .next (acked (serveNext (updRow (noted s h) (fun d => { d with servedWait := d.servedWait ++ [requested h m] }))) h .ok) :=
  next_takeRow arrives rfl

/-- A reply to no search is acknowledged and changes nothing. -/
theorem exec_find_none (rs : List ObjRecord) (st : FindEnd) (none_ : searchOf s h = none) :
    exec (.findPage h rs) s = .next (acked (noted s h) h .ok) ∧ exec (.findEnd h st) s = .next (acked (noted s h) h .ok) := by
  have none' : searchOf (noted s h) h = none := none_
  exact ⟨next_takeRow arrives (by rw [none']), next_takeRow arrives (by rw [none'])⟩

theorem exec_findPage {x : RowSearch} (search : searchOf s h = some x) (rs : List ObjRecord) : exec (.findPage h rs) s =
    .next (acked (if searchesStill x h.peer = true then takeRecords (noted s h) x.ticket h.peer rs else noted s h) h .ok) := by
  have search' : searchOf (noted s h) h = some x := search
  exact next_takeRow arrives (by rw [search'])

theorem exec_findEnd {x : RowSearch} (search : searchOf s h = some x) (st : FindEnd) : exec (.findEnd h st) s =
    .next (acked (endIfDone (memberEnds (noted s h) x.ticket h.peer (endStatus st)) x.ticket) h .ok) := by
  have search' : searchOf (noted s h) h = some x := search
  exact next_takeRow arrives (by rw [search'])

theorem exec_findCancel : exec (.findCancel h) s = .next (acked (serveNext (updRow (noted s h) (fun d => { d with
    served := uncancelled h d.served, servedWait := uncancelled h d.servedWait }))) h .ok) :=
  next_takeRow arrives rfl

/-! ### Mirror copies (R727 to R729) -/

section
variable {o : MirrorObj}

theorem exec_mirrorPut_refused (full : mirrorFits s o = false) :
    exec (.mirrorPut h o) s = .next (acked (noteRefused (noted s h) o.origin) h .refused) := by
  have full' : mirrorFits (noted s h) o = false := full
  exact next_takeRow arrives (by rw [takeCopy, full']; rfl)

section
variable (fits : mirrorFits s o = true)
include fits

theorem exec_mirrorPut_gated (gated : (dataWriteErr s).isSome = true) :
    exec (.mirrorPut h o) s = .next (acked (noted s h) h .tryLater) := by
  have fits' : mirrorFits (noted s h) o = true := fits
  have gated' : (dataWriteErr (noted s h)).isSome = true := gated
  exact next_takeRow arrives (by rw [takeCopy, fits', gated']; rfl)

variable (open_ : dataWriteErr s = none)
include open_

theorem exec_mirrorPut_noCredit (credit : takeCredit (noted s h) o.value.length = none) :
    exec (.mirrorPut h o) s = .next (acked (noted s h) h .tryLater) := by
  have fits' : mirrorFits (noted s h) o = true := fits
  have open' : dataWriteErr (noted s h) = none := open_
  exact next_takeRow arrives (by rw [takeCopy, fits', open', credit]; rfl)

theorem exec_mirrorPut {u : State} (credit : takeCredit (noted s h) o.value.length = some u) :
    exec (.mirrorPut h o) s = .next (acked (if copyKept u o then u else copyStored u o) h .ok) := by
  have fits' : mirrorFits (noted s h) o = true := fits
  have open' : dataWriteErr (noted s h) = none := open_
  refine next_takeRow arrives ?_
  rw [takeCopy, fits', open', credit]
  show (if _ then copyStored u o else u, AckStatus.ok) = _
  unfold copyKept
  cases AMap.find u.row.copies (o.origin, o.key) with
  | none => rfl
  | some c =>
    by_cases older : c.obj.wseq < o.wseq
    · simp [older]
    · simp [older, Nat.not_lt.mp older]

end

end

theorem exec_mirrorUpdate (x : Nat) (k : ObjKey) (b : Bool) : exec (.mirrorUpdate h x k b) s =
    .next (acked (updRow (noted s h) (fun d => { d with
      copies := AMap.modify d.copies (x, k) (fun c => { c with obj := { c.obj with held := b } }) })) h .ok) :=
  next_takeRow arrives rfl

theorem exec_mirrorRemove (x : Nat) (k : ObjKey) (b : Bool) : exec (.mirrorRemove h x k b) s =
    .next (acked (updRow (noted s h) (fun d => { d with copies := AMap.del d.copies (x, k) })) h .ok) :=
  next_takeRow arrives rfl

end

/-! ### What a leave and a credit leave of the row -/

/-- A leader that removes the sender of a LEAVE stays the leader, at the next epoch. -/
theorem removeMember_row (s : State) (x : Nat) (b : Bool) : (removeMember s x b).row.state = s.row.state ∧
    (removeMember s x b).row.epoch = s.row.epoch + 1 ∧
    (removeMember s x b).row.members = s.row.members.filter (fun m => decide (m.serial ≠ x)) := by
  have view := viewOf_removeMember (s := s) (x := x) (b := b)
  simp only [viewOf, Prod.mk.injEq] at view
  obtain ⟨members, epoch, -, state⟩ := view
  exact ⟨state, epoch, members⟩

theorem leaderFollowed_row (s : State) (x : Nat) : (leaderFollowed s x).row.state = .leader ∧
    (leaderFollowed s x).row.epoch = s.row.epoch + 1 ∧
    (leaderFollowed s x).row.members = s.row.members.filter (fun m => decide (m.serial ≠ x)) := by
  have log (u : State) (e : Ev) (a : EvArgs) : (logEv u e a).row = u.row := logEv_changes.row (by decide)
  rw [leaderFollowed, log]
  exact removeMember_row _ _ _

/-- A credit for a copy leaves the copies and the clock as they are. -/
theorem takeCredit_rest {u : State} {n : Nat} (e : takeCredit s n = some u) : u.row = s.row ∧ u.clock = s.clock :=
  have changes := takeCredit_changes u e
  ⟨changes.row (by decide), changes.clock (by decide)⟩

end

/-! ### The statement -/

/-- Settles O31, clause by clause, from what each message leads to. -/
theorem rowMessagesAreTakenOnceAndAcknowledged : Obligations.RowMessagesAreTakenOnceAndAcknowledged := by
  refine ⟨?stopped, ?unknown, ?repeats, ?leave, ?findReq, ?replies, ?cancel, ?mirrorPut, ?mirrorCopies⟩
  case stopped => exact fun c h s => exec_row_stopped
  case unknown => exact fun c h s => exec_row_unknown
  case repeats => exact fun c h s q named => exec_row_repeat named
  case leave =>
    refine fun s h arrives => ⟨fun leaves => ?_, exec_rowLeave_other arrives⟩
    rcases leaves with ⟨leads, member⟩ | ⟨member, leader, next⟩
    · obtain ⟨state, epoch, members⟩ := removeMember_row (noted s h) h.peer true
      exact ⟨_, exec_rowLeave_leader arrives leads member, state.trans leads, epoch, members⟩
    · exact ⟨_, exec_rowLeave_successor arrives member leader next, leaderFollowed_row (noted s h) h.peer⟩
  case findReq =>
    refine fun s h m arrives => ⟨_, exec_findReq arrives m, fun few none_ => ?_, fun full => ?_⟩
    · simp only [serveNext, updRow_parts, noted, none_, List.nil_append]
      have room : 4 - s.row.served.length = (3 - s.row.served.length) + 1 := by omega
      simp [room, requested]
    · simp [serveNext, updRow, noted, Nat.sub_eq_zero_of_le full, requested]
  case replies =>
    exact fun s h rs st arrives => ⟨exec_find_none arrives rs st,
      fun x search => ⟨exec_findPage arrives search rs, exec_findEnd arrives search st⟩⟩
  case cancel => exact fun s h arrives => ⟨_, exec_findCancel arrives, rfl⟩
  case mirrorPut =>
    refine fun s h o arrives => ⟨exec_mirrorPut_refused arrives, exec_mirrorPut_gated arrives,
      exec_mirrorPut_noCredit arrives, fun u c fits open_ credit copy kept => ?kept, fun fits open_ credit older => ?stored⟩
    case kept =>
      have copy' : AMap.find u.row.copies (o.origin, o.key) = some c := by rw [(takeCredit_rest credit).1]; exact copy
      rw [exec_mirrorPut arrives fits open_ credit, copyKept, copy', if_pos (decide_eq_true kept)]
    case stored =>
      obtain ⟨u, credit⟩ := Option.isSome_iff_exists.mp credit
      obtain ⟨row, clock⟩ := takeCredit_rest credit
      have new : copyKept u o = false := by
        have copies : u.row.copies = s.row.copies := (congrArg Row.copies row).trans rfl
        unfold copyKept
        rw [copies]
        cases copy : AMap.find s.row.copies (o.origin, o.key) with
        | none => rfl
        | some c => exact decide_eq_false (Nat.not_le.mpr (older c copy))
      refine ⟨_, by rw [exec_mirrorPut arrives fits open_ credit, new, if_neg Bool.false_ne_true], ?_⟩
      rw [copyStored, now, clock]
      exact AMap.find_set_same _ _ _
  case mirrorCopies =>
    refine fun s h x k b arrives => ⟨_, _, exec_mirrorUpdate arrives x k b, exec_mirrorRemove arrives x k b,
      AMap.find_del_same _ _, fun c copy => find_modify_same copy, fun j other => ⟨?_, ?_⟩⟩
    · exact find_modify_other other
    · exact AMap.find_del_other _ other

end Sys2Proof.Proofs
end

section
/-!
What the test engine and the life-cycle commands do, command by command, branch by branch (ch. 18).
-/

namespace Sys2Proof.Proofs

open Sys2Proof Machine Laws

/-! ### The end of an island's test (R795, R796, R804) -/

section
variable {s : State} {r : TestOutcome}

/-- The readings the engine sends with an island's end. -/
def readingsOf (r : TestOutcome) : IslRec := { freqDev := r.freqDev, voltDev := r.voltDev, junction := r.junction }

/-- The parts the test under way covers: those the command named, else all of the island. -/
def testedParts (s : State) (i : Island) : List TestPart :=
  match s.life.cmd with | some c => c.parts | none => partsOf i

theorem exec_selftestIslandDone_other (other : s.life.under ≠ some r.island) :
    exec (.selftestIslandDone r) s = .next s := by
  show execSelftestIslandDone r s = _
  rw [execSelftestIslandDone, if_neg other]

section
variable (under : s.life.under = some r.island)
include under

theorem exec_selftestIslandDone_pass (pass : r.result = .pass) :
    exec (.selftestIslandDone r) s = .next (testEnds s { r with part := .none_, detail := 0 }) := by
  show execSelftestIslandDone r s = _
  rw [execSelftestIslandDone, if_pos under, pass]

theorem exec_selftestIslandDone_fail (fail : r.result = .fail) :
    exec (.selftestIslandDone r) s = .next (if r.part ∈ testedParts s r.island then testEnds s r else s) := by
  show execSelftestIslandDone r s = _
  rw [execSelftestIslandDone, if_pos under, fail]
  exact congrArg _ (if_congr List.contains_iff_mem rfl rfl)

theorem exec_selftestIslandDone_unended (pass : r.result ≠ .pass) (fail : r.result ≠ .fail) :
    exec (.selftestIslandDone r) s = .next s := by
  show execSelftestIslandDone r s = _
  rw [execSelftestIslandDone, if_pos under]
  cases result : r.result with
  | pass => exact absurd result pass
  | fail => exact absurd result fail
  | notRun | aborted | skipped => rfl

end

theorem exec_selftestLimitLeft : exec (.selftestLimitLeft r) s =
    .next (if s.life.under = some r.island ∧ inLimits (readingsOf r) = false then
      testEnds s { r with result := .notRun, part := .limits, detail := 0 } else s) := by
  show execSelftestLimitLeft r s = _
  exact congrArg _ (if_congr (by simp [readingsOf]) rfl rfl)

/-- The end of a test takes its time and its readings, then ends the command's pass or the set's island. -/
theorem testEnds_eq : testEnds s r = (match s.life.cmd with
    | some c => cmdPassDone (noteReadings (advanceTo s (s.life.underAt + 1000 * r.duration)) r) c r
    | none => setIslandDone (noteReadings (advanceTo s (s.life.underAt + 1000 * r.duration)) r) r) := by
  have life : (noteReadings (advanceTo s (s.life.underAt + 1000 * r.duration)) r).life = s.life :=
    (advanceTo_changes (s := s)).life (by decide)
  cases cmd : s.life.cmd <;> simp only [testEnds, life, cmd]

end

/-! ### Commands (R789, R807, R810, R784 to R787) -/

section
variable {s : State} {l : Line} {d : Session} {i : Island} {id : Nat}

/-- A `test run` that no check refuses is busy, begins, or records an island outside its limits. -/
theorem exec_testRun {ps : List TestPart} {n : Int} (named : Island.ofId id = some i)
    (ok : Accepts s l { priv := true, consoles := true, blank := true } (testArgErr id ps n) d)
    (free : testRefusal (heard s l) i = none) :
    exec (.testRun l id ps n) s = .next
      (if runOpen s then answer (heard s l) l.sess l.tag .busy none
      else if inLimits (getIsl s i) then
        waits (beginCmd (openRun (heard s l) .command) i (if ps.isEmpty then partsOf i else ps) n.toNat (l.sess, d.nextSlot)) l
      else answer (closeRun (addTestRec (openRun (heard s l) .command) (bareRec (openRun (heard s l) .command) i .notRun .limits))
          .complete) l.sess l.tag (okLine [("result", .name (testResultName .notRun)), ("part", .name (testPartName .limits)),
            ("ms", .num 0)]) none) := by
  refine congrArg _ ((runCmd_ran ok).trans ?_)
  rw [named, Option.getD_some]
  dsimp only
  rw [free]
  have limits : inLimits (getIsl (openRun (heard s l) .command) i) = inLimits (getIsl s i) := rfl
  have opened : runOpen (heard s l) = runOpen s := rfl
  dsimp only
  rw [limits, opened]
  split
  · rfl
  · split <;> rfl

theorem exec_testRun_refused {ps : List TestPart} {n : Int} {e : ErrName} (named : Island.ofId id = some i)
    (ok : Accepts s l { priv := true, consoles := true, blank := true } (testArgErr id ps n) d)
    (refused : testRefusal (heard s l) i = some e) :
    exec (.testRun l id ps n) s = .next (answer (heard s l) l.sess l.tag (.err e) none) := by
  refine congrArg _ ((runCmd_ran ok).trans ?_)
  rw [named, Option.getD_some]
  dsimp only
  rw [refused]
  rfl

/-- An island's record without the marks of its deaths. -/
def marksCleared (d : IslRec) : IslRec := { d with unusable := false, deadMark := none, revived := true }

/-- The island with the marks of its deaths, and their history, cleared. -/
def revived (s : State) (i : Island) : State :=
  updLife (updIslRec s i marksCleared) (fun d => { d with deadTimes := AMap.del d.deadTimes i })

theorem getIsl_revived : getIsl (revived s i) i = marksCleared (getIsl s i) := getIsl_updIslRec_same s i marksCleared

theorem exec_islandRevive (named : Island.ofId id = some i) (ok : Accepts s l { priv := true } none d) :
    exec (.islandRevive l id) s = .next
      (if i.essential then answer (heard s l) l.sess l.tag (.err .essential) none
      else answer (logEv (revived (heard s l) i) .islandRevived { island := some i }) l.sess l.tag (.ok []) none) := by
  have bad : (if (Island.ofId id).isNone then some ErrName.noSuchIsland else none) = none := by rw [named]; rfl
  refine congrArg _ ((runCmd_ran (bad.symm ▸ ok)).trans ?_)
  rw [named, Option.getD_some]
  dsimp only
  cases i.essential <;> rfl

section
variable {t : LifeState} {n : Nat}
  (ok : Accepts s l { priv := true, consoles := true, blank := true } none d)
include ok

theorem exec_lifecycleSet_wrongSerial (wrong : n ≠ Config.serial) :
    exec (.lifecycleSet l (some t) n) s = .next (answer (heard s l) l.sess l.tag (.err .serial) none) := by
  refine congrArg _ ((runCmd_ran ok).trans ?_)
  rw [if_pos wrong]
  rfl

theorem exec_lifecycleSet_refused {e : ErrName} (refused : transitionErr s t = some e) :
    exec (.lifecycleSet l (some t) Config.serial) s = .next (answer (heard s l) l.sess l.tag (.err e) none) := by
  refine congrArg _ ((runCmd_ran ok).trans ?_)
  have refused' : transitionErr (heard s l) t = some e := refused
  rw [if_neg (by simp), Option.getD_some]
  dsimp only
  rw [refused']
  rfl

theorem exec_lifecycleSet (allowed : transitionErr s t = none) :
    exec (.lifecycleSet l (some t) Config.serial) s = .next
      (if slotPending s || s.fw.install.isSome then answer (heard s l) l.sess l.tag .busy none
      else answer (logEv { heard s l with life := { s.life with intent := some t, burned := false } } .lcTransitionBegin
          { details := [(lcCode (lcState s) : Int), (lcCode t : Int)] }) l.sess l.tag
        (okLine [("lifecycle", .name (lcName t)), ("", .name "restarting")]) (some (.halt .restart))) := by
  refine congrArg _ ((runCmd_ran ok).trans ?_)
  have allowed' : transitionErr (heard s l) t = none := allowed
  have pending : (slotPending (heard s l) || (heard s l).fw.install.isSome) = (slotPending s || s.fw.install.isSome) := rfl
  rw [if_neg (by simp), Option.getD_some]
  dsimp only
  rw [allowed']
  dsimp only
  rw [pending]
  split <;> rfl

end

end

/-! ### The statement -/

/-- Settles O9, clause by clause, from what each command of the test engine and the life cycle does. -/
theorem testsAndTheLifeCycleActAsChapter18Says : Obligations.TestsAndTheLifeCycleActAsChapter18Says := by
  refine ⟨fun s r => exec_selftestIslandDone_pass, ?fail, ?unended, ?limits, ?within, ?ends, ?testRun, ?revive, ?lifecycleSet,
    ?retired, ?counted⟩
  case fail =>
    rintro s r _ under fail rfl
    have ended := exec_selftestIslandDone_fail under fail
    exact ⟨fun part => ended.trans (congrArg _ (if_pos part)), fun none_ => ended.trans (congrArg _ (if_neg none_))⟩
  case unended =>
    rintro s r (other | ⟨pass, fail⟩)
    · exact exec_selftestIslandDone_other other
    · by_cases under : s.life.under = some r.island
      · exact exec_selftestIslandDone_unended under pass fail
      · exact exec_selftestIslandDone_other under
  case limits => exact fun s r under out => exec_selftestLimitLeft.trans (congrArg _ (if_pos ⟨under, out⟩))
  case within =>
    refine fun s r h => exec_selftestLimitLeft.trans (congrArg _ (if_neg ?_))
    rintro ⟨under, out⟩
    rcases h with other | within
    · exact other under
    · exact Bool.false_ne_true (out.symm.trans within)
  case ends => exact fun s r => ⟨_, rfl, testEnds_eq⟩
  case testRun =>
    intro s l d i id ps n named ok
    cases refusal : testRefusal (heard s l) i with
    | some e => exact exec_testRun_refused named ok refusal
    | none => exact exec_testRun named ok refusal
  case revive =>
    intro s l d id i named ok
    have runs := exec_islandRevive named ok
    refine ⟨fun essential => ?_, fun other => ⟨revived (heard s l) i, ?_, ?_, ?_, AMap.find_del_same _ _⟩⟩
    · rw [runs, if_pos essential]
    · rw [runs, if_neg (by simp [other])]
    · rw [getIsl_revived, marksCleared]
    · rw [getIsl_revived, marksCleared]
  case lifecycleSet =>
    intro s l d t n ok
    by_cases wrong : n ≠ Config.serial
    · rw [if_pos wrong]
      exact exec_lifecycleSet_wrongSerial ok wrong
    · rw [if_neg wrong, not_not.mp wrong]
      cases err : transitionErr s t with
      | some e => exact exec_lifecycleSet_refused ok err
      | none => exact exec_lifecycleSet ok err
  case retired => exact fun s retired => if_pos retired
  case counted => exact fun s active => if_neg (by simp [active])

end Sys2Proof.Proofs
end

section
/-!
What ACKs and their absence, the mirror queue, the catch-up and the mirror copies lead to, command by command, branch by branch (ch. 16).
-/

namespace Sys2Proof.Proofs

open Sys2Proof Machine Laws

/-! ### ACKs (R715, R717, R730) -/

/-- The message without an ACK that a peer's ACK or time limit names. -/
def unackedNamed (s : State) (peer msgId : Nat) : Option Unacked :=
  s.row.unacked.find? (fun u => decide (u.msg.peer = peer) && decide (u.msg.msgId = msgId))

/-- The message is no longer without an ACK. -/
def ackTaken (s : State) (m : RowMsg) : State :=
  { s with row := { s.row with unacked := s.row.unacked.filter (fun v => decide (v.msg ≠ m)) } }

/-- The entry a mirror message carried is no longer on its way. -/
def arrived (s : State) (id : Nat) : State := { s with row := { s.row with sending := AMap.del s.row.sending id } }

/-- An entry is tried again 10 s later. -/
def triedAgain (s : State) (e : MirrorEntry) : State :=
  { s with row := { s.row with retry := s.row.retry ++ [(now s + 10000000, e)] } }

theorem mirrorAcked_none {s : State} {id : Nat} (unsent : AMap.find s.row.sending id = none) (st : AckStatus) :
    mirrorAcked s id st = s := by rw [mirrorAcked, unsent]

/-- What an entry leads to once its message has an ACK. -/
theorem mirrorAcked_some {s : State} {id : Nat} {e : MirrorEntry} (sent : AMap.find s.row.sending id = some e) :
    mirrorAcked s id .ok = mirrorSettle (arrived s id) ∧
    mirrorAcked s id .tryLater = mirrorSettle (triedAgain (arrived s id) e) ∧
    mirrorAcked s id .refused = mirrorSettle (triedAgain (arrived s id) { e with refused := true }) := by
  refine ⟨?ok, ?tryLater, ?refused⟩ <;> rw [mirrorAcked, sent] <;> rfl

section
variable {s : State} {h : RowHdr} {st : AckStatus}

theorem exec_rowAck_stopped (stopped : rowRuns s = false) : exec (.rowAck h st) s = .next s := by
  show execRowAck h st s = _
  rw [execRowAck, if_pos (by simp [stopped])]

variable (runs : rowRuns s = true)
include runs

theorem exec_rowAck_unknown (unknown : rowKnows s h.peer = false) :
    exec (.rowAck h st) s = .next { s with row := { s.row with msgBad := s.row.msgBad + 1 } } := by
  show execRowAck h st s = _
  rw [execRowAck, if_neg (by simp [runs]), if_pos (by simp [unknown])]
  rfl

variable (knows : rowKnows s h.peer = true)
include knows

theorem exec_rowAck_unnamed (unnamed : unackedNamed s h.peer h.refId = none) : exec (.rowAck h st) s = .next s := by
  show execRowAck h st s = _
  rw [execRowAck, if_neg (by simp [runs]), if_neg (by simp [knows]), ← unackedNamed, unnamed]

theorem exec_rowAck_named {u : Unacked} (named : unackedNamed s h.peer h.refId = some u)
    (quiet : ∀ m ∈ s.row.waiting, m.peer ≠ u.msg.peer) : exec (.rowAck h st) s = .next
      (if u.msg.part + 1 = u.msg.parts then mirrorAcked (ackTaken s u.msg) (groupId u.msg) st else ackTaken s u.msg) := by
  show execRowAck h st s = _
  rw [execRowAck, if_neg (by simp [runs]), if_neg (by simp [knows]), ← unackedNamed, named]
  dsimp only
  rw [dropUnacked_quiet quiet]
  rfl

end

/-! ### No ACK in time (R715, R722, R729) -/

section
variable {s : State} {p i : Nat}

theorem exec_rowRetransmit_none (none_ : rowRuns s = false ∨ unackedNamed s p i = none) :
    exec (.rowRetransmit p i) s = .next s := by
  show execRowRetransmit p i s = _
  unfold execRowRetransmit
  by_cases runs : rowRuns s
  · rw [if_neg (by simp [runs]), ← unackedNamed, none_.resolve_left (by simp [runs])]
  · rw [if_pos (by simp [runs])]

/-- The message as it stands once it has been sent again. -/
def sentAgain (s : State) (m : RowMsg) : State :=
  updRow s (fun d => { d with unacked := d.unacked.map (fun v => if v.msg = m then { v with sent := v.sent + 1, at_ := now s } else v) })

theorem exec_rowRetransmit {u : Unacked} (runs : rowRuns s = true) (named : unackedNamed s p i = some u) :
    exec (.rowRetransmit p i) s = .next
      (if u.sent < 5 then rowWire (sentAgain (advanceTo s (u.at_ + 200000)) u.msg) u.msg
      else msgFailed (dropGroup (advanceTo s (u.at_ + 200000)) u.msg) u.msg) := by
  show execRowRetransmit p i s = _
  rw [execRowRetransmit, if_neg (by simp [runs]), ← unackedNamed, named]
  rfl

/-- Giving up a mirror message puts its entry back in front of the queue. -/
theorem msgFailed_mirrorPut {m : RowMsg} {o : MirrorObj} (body : m.body = .mirrorPut o) :
    msgFailed s m = (match AMap.find s.row.sending (groupId m) with
      | some e => { s with row := { s.row with sending := AMap.del s.row.sending (groupId m), queue := e :: s.row.queue } }
      | none => s) := by
  rw [msgFailed, body]
  cases AMap.find s.row.sending (groupId m) <;> rfl

end

section
variable {s : State} {n : Nat}

theorem exec_rowFindDeadline_none (none_ : getSearch s n = none) : exec (.rowFindDeadline n) s = .next s := by
  show execRowFindDeadline n s = _
  rw [execRowFindDeadline, none_]

theorem exec_rowFindDeadline {x : RowSearch} (search : getSearch s n = some x) :
    exec (.rowFindDeadline n) s = .next (endSearch (advanceTo s x.deadline) n) := by
  show execRowFindDeadline n s = _
  rw [execRowFindDeadline, search]

end

/-! ### The mark and the state of the mirror (R730, R732) -/

section
variable {s : State}

theorem mirrorSettle_unsettled (unsettled : s.row.mirror = .idle ∨ (s.row.mirror = .lagging ∧ s.row.catchup < 128)) :
    mirrorSettle s = s := by rw [mirrorSettle, if_pos unsettled]

theorem mirrorSettle_caughtUp (lagging : s.row.mirror = .lagging) (covered : s.row.catchup = 128) (left : mirrorEntries s = []) :
    mirrorSettle s = logEv { s with row := { s.row with mark := Nat.max s.row.mark s.row.highest, mirror := .current } }
      .mirrorCurrent { details := [((Nat.max s.row.mark s.row.highest : Nat) : Int)] } := by
  rw [mirrorSettle, if_neg (by simp [lagging, covered]), left]
  have settles : s.row.mirror = .lagging ∧ (mirrorEntries s).isEmpty := ⟨lagging, by rw [left]; rfl⟩
  exact if_pos settles

theorem mirrorSettle_owed {w : Nat} {ws : List Nat} (current : s.row.mirror = .current)
    (owed : (mirrorEntries s).filterMap owedWseq = w :: ws) :
    mirrorSettle s = { s with row := { s.row with mark := Nat.max s.row.mark (ws.foldl Nat.min w - 1) } } := by
  rw [mirrorSettle, if_neg (by simp [current]), owed]
  have stays : ¬ (s.row.mirror = .lagging ∧ (mirrorEntries s).isEmpty) := by simp [current]
  exact if_neg stays

end

/-! ### What the mirror sends (R726, R729, R732) -/

section
variable {s : State}

theorem advanceTo_cfg {t : Nat} : (advanceTo s t).cfg = s.cfg := advanceTo_changes.cfg (by decide)

theorem sendMirror_gone {e : MirrorEntry} (gone : mirrorBody s e = none) : sendMirror s e = s := by
  rw [sendMirror, gone]
  cases mirrorPeer s <;> rfl

/-- An entry's message goes out at the time MIRROR_RATE allows, and moves that time on. -/
theorem sendMirror_sends {e : MirrorEntry} {n : Nat} {b : RowBody} (peer : mirrorPeer s = some n) (body : mirrorBody s e = some b) :
    sendMirror s e = rowSend (updRow (advanceTo s s.row.mirrorAt) (fun d => { d with
      sending := AMap.set s.row.sending s.row.nextMsg e
      mirrorAt := (advanceTo s s.row.mirrorAt).clock.ledger +
        ceilDiv (bodyLen b) (Nat.max 1 (cfgField s .rowCfg "MIRROR_RATE")) })) n b := by
  have rate : cfgField (advanceTo s s.row.mirrorAt) .rowCfg "MIRROR_RATE" = cfgField s .rowCfg "MIRROR_RATE" := by
    rw [cfgField, cfgWord, advanceTo_cfg, ← cfgWord, ← cfgField]
  rw [sendMirror, peer, body]
  simp only [updRow, advanceTo_row, rate]

theorem exec_mirrorSend_none (none_ : rowRuns s = false ∨ mirrorPeer s = none ∨ s.row.queue = []) :
    exec .mirrorSend s = .next s := by
  show execMirrorSend s = _
  unfold execMirrorSend
  by_cases idle : (!rowRuns s) = true ∨ (mirrorPeer s).isNone = true
  · rw [if_pos idle]
  · have queue : s.row.queue = [] := by
      rcases none_ with e | e | e
      · exact absurd (Or.inl (by simp [e])) idle
      · exact absurd (Or.inr (by simp [e])) idle
      · exact e
    rw [if_neg idle, queue]

/-- The queue without the entry that goes out. -/
def withQueue (s : State) (r : List MirrorEntry) : State := { s with row := { s.row with queue := r } }

theorem exec_mirrorSend {n : Nat} {e : MirrorEntry} {r : List MirrorEntry} (runs : rowRuns s = true) (peer : mirrorPeer s = some n)
    (queue : s.row.queue = e :: r) :
    exec .mirrorSend s = .next (mirrorSettle (sendMirror (withQueue s r) e)) := by
  show execMirrorSend s = _
  rw [execMirrorSend, if_neg (by simp [runs, peer]), queue]
  rfl

theorem exec_mirrorRetry_none (none_ : rowRuns s = false ∨ s.row.retry = []) : exec .mirrorRetry s = .next s := by
  show execMirrorRetry s = _
  unfold execMirrorRetry
  by_cases runs : rowRuns s
  · rw [if_neg (by simp [runs]), none_.resolve_left (by simp [runs])]
  · rw [if_pos (by simp [runs])]

theorem exec_mirrorRetry {t : Nat} {e : MirrorEntry} {r : List (Nat × MirrorEntry)} (runs : rowRuns s = true)
    (retry : s.row.retry = (t, e) :: r) : exec .mirrorRetry s = .next (mirrorSettle
      ((s.row.retry.filter (fun x => decide (x.1 ≤ now (advanceTo s t)))).foldl (fun s x => sendMirror s x.2)
        (updRow (advanceTo s t) (fun d => { d with retry := s.row.retry.filter (fun x => decide (now (advanceTo s t) < x.1)) })))) := by
  show execMirrorRetry s = _
  unfold execMirrorRetry
  rw [if_neg (by simp [runs]), retry]
  dsimp only
  rw [updRow, updRow, advanceTo_row, retry]

theorem exec_mirrorCatchup_idle (idle : s.row.mirror ≠ .lagging ∨ rowRuns s = false ∨ 128 ≤ s.row.catchup ∨ arcUp s = false) :
    exec .mirrorCatchup s = .next (mirrorSettle s) := by
  show execMirrorCatchup s = _
  rw [execMirrorCatchup, if_neg]
  rintro ⟨lagging, runs, more, up⟩
  rcases idle with e | e | e | e
  · exact e lagging
  · simp [runs] at e
  · exact Nat.not_lt.mpr e more
  · simp [up] at e

theorem exec_mirrorCatchup (lagging : s.row.mirror = .lagging) (runs : rowRuns s = true) (more : s.row.catchup < 128)
    (up : arcUp s = true) : exec .mirrorCatchup s = .next (mirrorSettle (updRow
      ((catchupObjs s (stallOf s.row.catchup)).foldl (fun s o => sendMirror
        (updRow s (fun d => { d with highest := Nat.max d.highest o.2.wseq })) { item := .put o.1 o.2.wseq, caught := true })
        (countFind s s (stallOf s.row.catchup) [0x0001000000000000] 0xFFFF000000000000))
      (fun d => { d with catchup := d.catchup + 1 }))) := by
  show execMirrorCatchup s = _
  rw [execMirrorCatchup, if_pos ⟨lagging, runs, more, up⟩]

end

/-! ### Mirror copies (R727, R733, R734) -/

section
variable {s : State} {i : Nat} {k : ObjKey}

theorem exec_mirrorCopyExpiry_none (none_ : AMap.find s.row.copies (i, k) = none) : exec (.mirrorCopyExpiry i k) s = .next s := by
  show execMirrorCopyExpiry i k s = _
  rw [execMirrorCopyExpiry, none_]

variable {c : MirrorCopy} (copy : AMap.find s.row.copies (i, k) = some c)
include copy

theorem exec_mirrorCopyExpiry_kept (kept : c.obj.held = true ∨ svcRuns s = false) : exec (.mirrorCopyExpiry i k) s = .next s := by
  show execMirrorCopyExpiry i k s = _
  rw [execMirrorCopyExpiry, copy]
  exact congrArg _ (if_pos (kept.imp id fun e => by simp [e]))

theorem exec_mirrorCopyExpiry (unheld : c.obj.held = false) (runs : svcRuns s = true) : exec (.mirrorCopyExpiry i k) s =
    .next (updRow (advanceTo s c.expiry) (fun d => { d with copies := AMap.del d.copies (i, k) })) := by
  show execMirrorCopyExpiry i k s = _
  rw [execMirrorCopyExpiry, copy]
  exact congrArg _ (if_neg (by simp [unheld, runs]))

end

theorem exec_mirrorDrop {s : State} {l : Line} {d : Session} {i : Nat} (ok : Accepts s l { priv := true } none d) :
    exec (.mirrorDrop l i) s = .next (answer { heard s l with row := { s.row with
      copies := s.row.copies.filter (fun c => decide (c.1.1 ≠ i)) } } l.sess l.tag (.ok []) none) :=
  congrArg _ (runCmd_ran ok)

section
variable {s : State} {l : Line} {d : Session} {i : Nat} {a b : Int}
  (ok : Accepts s l { role := stallRole s l.sess (stallArg b) } (firstErr [stallErr a, stallErr b]) d)
  (idle : (getStall s (stallArg b)).state ≠ .draining)
include ok idle

theorem exec_mirrorRestore_inactive (inactive : (getStall s (stallArg b)).state ≠ .active) :
    exec (.mirrorRestore l i a b) s = .next (answer (heard s l) l.sess l.tag (.err .stallState) none) := by
  have inactive' : (getStall (heard s l) (stallArg b)).state ≠ .active := inactive
  refine congrArg _ ((runCmd_undrained ok idle).trans ?_)
  rw [if_pos inactive']
  rfl

theorem exec_mirrorRestore (active : (getStall s (stallArg b)).state = .active) :
    exec (.mirrorRestore l i a b) s = .next
      (if (AMap.find s.row.restores (stallArg b)).isSome then answer (heard s l) l.sess l.tag .busy none
      else answer { heard s l with row := { s.row with
        restores := AMap.set s.row.restores (stallArg b) { origin := i, ostall := stallArg a } } } l.sess l.tag (.ok []) none) := by
  have active' : ¬ (getStall (heard s l) (stallArg b)).state ≠ .active := not_not.mpr active
  have restores : (heard s l).row.restores = s.row.restores := rfl
  refine congrArg _ ((runCmd_undrained ok idle).trans ?_)
  rw [if_neg active', restores]
  cases (AMap.find s.row.restores (stallArg b)).isSome <;> rfl

end

/-- Every copy of the origin's stall, written or skipped. -/
def copiesRestored (s : State) (x : StallNo) (r : Restore) : State :=
  (s.row.copies.filter (fun c => decide (c.1.1 = r.origin) && decide (c.1.2.stall = r.ostall))).foldl
    (fun s c => restoreOne x s c.2) s

/-- The end of a restore: it is gone, and its counts are logged. -/
def restoreEnded (u : State) (x : StallNo) (q : Restore) : State :=
  logEv { u with row := { u.row with restores := AMap.del u.row.restores x } } .mirrorRestoreDone
    { stall := some x.val, details := [(q.origin : Int), (q.restored : Int), (q.skipped : Int)] }

theorem find_restoreEnded {x : StallNo} (u : State) (q : Restore) : AMap.find (restoreEnded u x q).row.restores x = none := by
  rw [restoreEnded, logEv_changes.row (by decide)]
  exact AMap.find_del_same _ _

section
variable {s : State} {x : StallNo}

theorem exec_mirrorRestoreDone_none (none_ : AMap.find s.row.restores x = none) : exec (.mirrorRestoreDone x) s = .next s := by
  show execMirrorRestoreDone x s = _
  rw [execMirrorRestoreDone, none_]

variable {r : Restore} (restore : AMap.find s.row.restores x = some r)
include restore

theorem exec_mirrorRestoreDone_gated (gated : (dataWriteErr s).isSome = true) : exec (.mirrorRestoreDone x) s = .next s := by
  show execMirrorRestoreDone x s = _
  rw [execMirrorRestoreDone, restore]
  exact congrArg _ (if_pos gated)

theorem exec_mirrorRestoreDone (open_ : dataWriteErr s = none) : exec (.mirrorRestoreDone x) s = .next
    (restoreEnded (copiesRestored s x r) x (AMap.getD (copiesRestored s x r).row.restores x r)) := by
  show execMirrorRestoreDone x s = _
  rw [execMirrorRestoreDone, restore]
  exact congrArg _ (if_neg (by simp [open_]))

end

/-! ### The statement -/

/-- Settles O33, clause by clause, from what each command and the mirror's own steps do. -/
theorem mirroringAndItsAnswersActAsChapter16Says : Obligations.MirroringAndItsAnswersActAsChapter16Says := by
  refine ⟨fun s h st => exec_rowAck_stopped, fun s h st => exec_rowAck_unknown, ?ack, fun s p i => exec_rowRetransmit_none,
    ?retransmit, ?failed, fun s n => exec_rowFindDeadline_none, fun s n x => exec_rowFindDeadline, fun s => mirrorSettle_unsettled,
    fun s => mirrorSettle_caughtUp, fun s w ws => mirrorSettle_owed, fun s => exec_mirrorSend_none, ?send,
    fun s => exec_mirrorRetry_none, ?retry, ?catchup, fun s => exec_mirrorCatchup_idle, ?expiry, fun s l d i => exec_mirrorDrop,
    ?restore, fun s x => exec_mirrorRestoreDone_none, fun s x r => exec_mirrorRestoreDone_gated, ?restoreDone⟩
  case ack =>
    refine fun s h st runs knows => ⟨exec_rowAck_unnamed runs knows, fun u named quiet t ht => ⟨fun part => ?_, ?_⟩⟩
    · rw [exec_rowAck_named runs knows named quiet, ht]
      rcases part with more | unsent
      · rw [if_neg more]; rfl
      · rw [mirrorAcked_none (s := ackTaken s u.msg) unsent, ite_self]; rfl
    · rintro e v last sent rfl
      obtain ⟨done, later, refused⟩ := mirrorAcked_some (s := ackTaken s u.msg) sent
      have acks (st : AckStatus) := (exec_rowAck_named (st := st) runs knows named quiet).trans (congrArg _ (if_pos last))
      subst ht
      exact ⟨(acks _).trans (congrArg _ done), (acks _).trans (congrArg _ later), (acks _).trans (congrArg _ refused)⟩
  case retransmit =>
    rintro s p i u _ runs named rfl
    have sends := exec_rowRetransmit runs named
    exact ⟨fun few => sends.trans (congrArg _ (if_pos few)), fun five => sends.trans (congrArg _ (if_neg (Nat.not_lt.mpr five)))⟩
  case failed =>
    exact fun s m e o body => ⟨fun unsent => by rw [msgFailed_mirrorPut body, unsent],
      fun sent => by rw [msgFailed_mirrorPut body, sent]⟩
  case send =>
    rintro s n e r _ runs peer queue rfl
    have sends := exec_mirrorSend runs peer queue
    refine ⟨fun gone => ?_, ?_⟩
    · exact sends.trans (congrArg (Host.Outcome.next ∘ mirrorSettle) (sendMirror_gone (s := withQueue s r) gone))
    · rintro b _ body rfl
      exact sends.trans (congrArg (Host.Outcome.next ∘ mirrorSettle)
        (sendMirror_sends (s := withQueue s r) peer body))
  case retry =>
    rintro s t e r _ runs retry rfl
    exact exec_mirrorRetry runs retry
  case catchup => exact fun s lagging runs more up => ⟨_, exec_mirrorCatchup lagging runs more up, rfl⟩
  case expiry =>
    refine fun s i k => ⟨exec_mirrorCopyExpiry_none, fun c => exec_mirrorCopyExpiry_kept, fun c copy unheld runs =>
      ⟨_, exec_mirrorCopyExpiry copy unheld runs, AMap.find_del_same _ _, fun j other => ?_⟩⟩
    rw [updRow, advanceTo_row]
    exact AMap.find_del_other _ other
  case restore =>
    rintro s l d i a b _ ok rfl idle
    refine ⟨exec_mirrorRestore_inactive ok idle, fun active held => ?_, fun active free => ?_⟩
    · rw [exec_mirrorRestore ok idle active, if_pos held]
    · rw [exec_mirrorRestore ok idle active, free]
      rfl
  case restoreDone =>
    exact fun s x r restore open_ => ⟨copiesRestored s x r, _, _, exec_mirrorRestoreDone restore open_, rfl, rfl,
      find_restoreEnded _ _, rfl⟩

end Sys2Proof.Proofs
end

section
/-!
What beacons, their absence and a new row key lead to, command by command, branch by branch (ch. 16).
-/

namespace Sys2Proof.Proofs

open Sys2Proof Machine Laws

/-- The parts of a view, one by one. -/
theorem viewOf_split {s : State} {ms : List Member} {e m : Nat} {st : RowState} (h : viewOf s = (ms, e, m, st)) :
    s.row.members = ms ∧ s.row.epoch = e ∧ s.row.state = st := by
  simp only [viewOf, Prod.mk.injEq] at h
  obtain ⟨members, epoch, -, state⟩ := h
  exact ⟨members, epoch, state⟩

/-! ### Sending (R702) -/

section
variable {s : State}

theorem exec_beacons_idle (idle : s.row.beaconing = false ∨ running s = false) (b : Beacon) (x : Nat) :
    exec .beaconSend s = .next s ∧ exec (.beaconReceive b) s = .next s ∧ exec (.memberTimeout x) s = .next s ∧
    exec .leaderTimeout s = .next s := by
  have stops : ¬ (s.row.beaconing = true ∧ running s = true) := by
    rintro ⟨on, runs⟩
    rcases idle with e | e
    · simp [on] at e
    · simp [runs] at e
  refine ⟨congrArg _ (if_neg stops), congrArg _ (if_neg stops), congrArg _ (if_neg ?_), congrArg _ (if_neg stops)⟩
  exact fun ⟨_, on, runs, _⟩ => stops ⟨on, runs⟩

/-- The time of the beacon that is due. -/
def beaconDue (s : State) : State := match s.row.beaconAt with | some a => advanceTo s (a + 1000000) | none => s

/-- The time at which a beacon goes out, noted. -/
def beaconTimed (t : State) : State := { t with row := { t.row with beaconAt := some (now t) } }

theorem beaconDue_row : (beaconDue s).row = s.row := by
  unfold beaconDue
  split
  · exact advanceTo_row
  · rfl

theorem exec_beaconSend (on : s.row.beaconing = true) (runs : running s = true) : exec .beaconSend s =
    .next (if (reorder (beaconTimed (beaconDue s))).row = (beaconTimed (beaconDue s)).row then
      sendBeacon (beaconTimed (beaconDue s)) else reorder (beaconTimed (beaconDue s))) := by
  show execBeaconSend s = _
  rw [execBeaconSend, if_pos ⟨on, runs⟩, beaconDue]
  cases s.row.beaconAt <;> rfl

/-- Only a leader puts its list in order, so another drive's beacon goes out as it stands. -/
theorem exec_beaconSend_notLeader (on : s.row.beaconing = true) (runs : running s = true) (other : s.row.state ≠ .leader) :
    exec .beaconSend s = .next (sendBeacon (beaconTimed (beaconDue s))) := by
  have other' : (beaconTimed (beaconDue s)).row.state ≠ .leader := by
    show (beaconDue s).row.state ≠ _
    rwa [beaconDue_row]
  rw [exec_beaconSend on runs, reorder_not other', if_pos rfl]

/-- The first eight bytes of a beacon. -/
def beaconHead (s : State) : List Byte :=
  leBytes 4 0xC1ED0B0E ++ leBytes 2 (cfgField s .rowCfg "ROW_ID") ++
    [1, (if s.row.state = .leader then 1 else if s.row.state = .joining then 2 else 0)]

/-- The members a beacon lists: a leader's. -/
def beaconMembers (s : State) : List Nat := if s.row.state = .leader then s.row.members.map (fun m => m.serial) else []

/-- A beacon after its first eight bytes. -/
def beaconRest (s : State) : List Byte :=
  leBytes 8 Config.serial ++ leBytes 8 s.row.epoch ++ leBytes 8 (now s) ++ leBytes 1 (ownPos s) ++ leBytes 1 (hbCode s) ++
    leBytes 1 (beaconMembers s).length ++ leBytes 5 0 ++ ((beaconMembers s).map (leBytes 8)).flatten

theorem beaconHead_length : (beaconHead s).length = 8 := by simp [beaconHead, leBytes_length]

theorem beaconBytes_eq : beaconBytes s = beaconHead s ++ beaconRest s := by
  have flags : leBytes 1 ((if s.row.state = .leader then 1 else 0) + (if s.row.state = .joining then 2 else 0)) =
      [if s.row.state = .leader then 1 else if s.row.state = .joining then 2 else 0] := by
    cases s.row.state <;> rfl
  have format : leBytes 1 1 = [1] := rfl
  simp only [beaconBytes, flags, format, beaconHead, beaconRest, beaconMembers, List.append_assoc, List.cons_append, List.nil_append]

end

/-! ### Which beacons are accepted (R703, R704) -/

section
variable {s : State} {b : Beacon}

theorem beaconOk_iff : beaconOk s b = true ↔ b.wellFormed = true ∧ b.rowId = cfgField s .rowCfg "ROW_ID" ∧ b.macOk = true ∧
    b.serial ≠ Config.serial ∧ ∀ q, AMap.find s.row.seqs b.serial = some q → q < b.seq := by
  unfold beaconOk
  cases AMap.find s.row.seqs b.serial <;> simp [and_assoc]

theorem serialConflict_other (other : b.macOk = false ∨ b.serial ≠ Config.serial) : serialConflict s b = s := by
  unfold serialConflict
  refine if_neg ?_
  rcases other with e | e <;> simp [e]

theorem serialConflict_recent {a : Nat} (told : s.row.conflictAt = some a) (recent : now s < a + 60000000) :
    serialConflict s b = s := by
  unfold serialConflict
  rw [told]
  refine if_neg ?_
  have stale : ¬ a + 60 * sec ≤ now s := Nat.not_le.mpr recent
  simp [stale]

theorem serialConflict_told (mac : b.macOk = true) (own : b.serial = Config.serial)
    (stale : ∀ a, s.row.conflictAt = some a → a + 60000000 ≤ now s) :
    serialConflict s b = logEv { s with row := { s.row with conflictAt := some (now s) } } .rowSerialConflict
      { details := addrWords b.src } := by
  unfold serialConflict
  refine if_pos ?_
  cases told : s.row.conflictAt with
  | none => simp [mac, own]
  | some a =>
    have stale' : a + 60 * sec ≤ now s := stale a told
    simp [mac, own, stale']

variable (on : s.row.beaconing = true) (runs : running s = true)
include on runs

theorem exec_beaconReceive_bad (bad : beaconOk s b = false) : exec (.beaconReceive b) s =
    .next { serialConflict s b with row := { (serialConflict s b).row with beaconBad := (serialConflict s b).row.beaconBad + 1 } } := by
  show execBeaconReceive b s = _
  rw [execBeaconReceive, if_pos ⟨on, runs⟩, if_neg (by simp [bad])]
  rfl

theorem exec_beaconReceive (ok : beaconOk s b = true) : exec (.beaconReceive b) s = .next (takeBeacon s b) := by
  show execBeaconReceive b s = _
  rw [execBeaconReceive, if_pos ⟨on, runs⟩, if_pos ok]

end

/-! ### Membership and leadership (R705 to R711) -/

section
variable {s : State} {b : Beacon}

/-- An adopted list names the members of the beacon, in its order. -/
theorem adopt_serials : (adopt s b).row.members.map (fun m => m.serial) = b.members := by
  rw [viewOf_adopt.1, List.map_map]
  exact (List.map_congr_left fun x _ => listedMember_serial).trans (List.map_id _)

theorem adopt_epoch (newer : s.row.epoch ≤ b.epoch) : (adopt s b).row.epoch = b.epoch :=
  viewOf_adopt.2.1.trans (Nat.max_eq_right newer)

/-- A drive that does not lead follows the leader beacons of its epoch or a later one. -/
theorem takeBeacon_follower (follower : s.row.state ≠ .leader) : takeBeacon s b =
    if b.leader = true ∧ s.row.epoch ≤ b.epoch then adopt (noteBeacon s b) b else noteBeacon s b := by
  have follower' : (noteBeacon s b).row.state ≠ .leader := follower
  rw [takeBeacon, if_neg follower']
  rfl

/-- A leader that gives way joins. -/
def gaveWay (s : State) : State := updRow s (fun d => { d with state := .joining, leaderAt := some (now s) })

theorem isMember_noteBeacon (x : Nat) : isMember (noteBeacon s b) x = isMember s x := by
  unfold isMember noteBeacon
  simp only [updRow, List.any_map]
  congr 1
  funext m
  simp only [Function.comp]
  split <;> rfl

theorem length_noteBeacon : (noteBeacon s b).row.members.length = s.row.members.length := List.length_map _

section
variable (leads : s.row.state = .leader)
include leads

theorem takeBeacon_givesWay (other : b.leader = true) (before : orderLt (b.position, b.serial) (ownPos s, Config.serial) = true) :
    takeBeacon s b = if s.row.epoch ≤ b.epoch then adopt (gaveWay (noteBeacon s b)) b else gaveWay (noteBeacon s b) := by
  have leads' : (noteBeacon s b).row.state = .leader := leads
  rw [takeBeacon, if_pos leads']
  exact if_pos ⟨other, before⟩

theorem takeBeacon_leads (stays : b.leader = false ∨ orderLt (b.position, b.serial) (ownPos s, Config.serial) = false) :
    takeBeacon s b =
      if isMember s b.serial then reorder (noteBeacon s b) else admitMember (noteBeacon s b) b := by
  have leads' : (noteBeacon s b).row.state = .leader := leads
  have position : ownPos (noteBeacon s b) = ownPos s := rfl
  have stays' : ¬ (b.leader = true ∧ orderLt (b.position, b.serial) (ownPos (noteBeacon s b), Config.serial) = true) := by
    rw [position]
    rintro ⟨other, before⟩
    rcases stays with e | e
    · simp [other] at e
    · simp [before] at e
  rw [takeBeacon, if_pos leads', if_neg stays', isMember_noteBeacon]

end

/-- A full row admits no one; what it may log leaves the view. -/
theorem viewOf_admitMember_full (full : 32 ≤ s.row.members.length) : viewOf (admitMember s b) = viewOf s := by
  rw [admitMember, if_neg (Nat.not_lt.mpr full)]
  split
  · split
    · rfl
    · rw [viewOf_logEv]
      rfl
  · rw [viewOf_logEv]
    rfl

end

/-- The view without its first member, the leader; the next has its 5 s from now. -/
def firstGone (s : State) : State :=
  updRow (setView s (s.row.members.drop 1)) (fun d => { d with leaderAt := some (now s) })

/-- The view once 5 s have passed since the leader's last beacon. -/
def leaderGone (s : State) (t : Nat) : State := firstGone (advanceTo s (t + 5 * sec))

theorem viewOf_firstGone {s : State} : viewOf (firstGone s) = (s.row.members.drop 1, s.row.epoch, s.row.seenEpoch, s.row.state) :=
  viewOf_setView (s := s) (ms := s.row.members.drop 1)

theorem viewOf_leaderGone {s : State} (t : Nat) :
    viewOf (leaderGone s t) = (s.row.members.drop 1, s.row.epoch, s.row.seenEpoch, s.row.state) := by
  rw [leaderGone, viewOf_firstGone, advanceTo_row]

section
variable {s : State} (on : s.row.beaconing = true) (runs : running s = true)
include on runs

theorem exec_memberTimeout {x : Nat} {m : Member} (leads : s.row.state = .leader) (other : x ≠ Config.serial)
    (member : s.row.members.find? (fun m => decide (m.serial = x)) = some m) :
    exec (.memberTimeout x) s = .next (removeMember (advanceTo s (m.at_ + 5 * sec)) x false) := by
  show execMemberTimeout x s = _
  rw [execMemberTimeout, if_pos ⟨leads, on, runs, other⟩, member]

theorem exec_leaderTimeout_member {t : Nat} (member : s.row.state = .member) (at_ : s.row.leaderAt = some t) :
    exec .leaderTimeout s = .next (if leaderOf (leaderGone s t) = some Config.serial then
      lead (leaderGone s t) (Nat.max (leaderGone s t).row.epoch (leaderGone s t).row.seenEpoch + 1) else leaderGone s t) := by
  show execLeaderTimeout s = _
  rw [execLeaderTimeout, if_pos ⟨on, runs⟩, member, at_]
  rfl

theorem exec_leaderTimeout_joining {t : Nat} (joining : s.row.state = .joining) (at_ : s.row.leaderAt = some t)
    (served : ready s = true) : exec .leaderTimeout s = .next (leadAlone (advanceTo s (t + 5 * sec))) := by
  show execLeaderTimeout s = _
  rw [execLeaderTimeout, if_pos ⟨on, runs⟩, joining, at_]
  exact congrArg _ (if_pos served)

end

/-! ### The row key (R701) -/

section
variable {s : State} {l : Line} {d : Session}

theorem exec_rowKeyNew (ok : Accepts s l { priv := true } none d) : exec (.rowKeyNew l) s = .next
    (answer (setRowKey (freshBytes (heard s l) 32).2 (freshBytes (heard s l) 32).1) l.sess l.tag
      (okLine [("secret", .bytes (freshBytes (heard s l) 32).1)]) none) :=
  congrArg _ (runCmd_ran ok)

theorem exec_rowKeySet {k : List Byte} (ok : Accepts s l { priv := true } none d) (length : k.length = 32) :
    exec (.rowKeySet l k) s = .next (answer (setRowKey (heard s l) k) l.sess l.tag (.ok []) none) := by
  show Host.Outcome.next (runCmd s l { priv := true } (if k.length = 32 then none else some .badValue) _) = _
  rw [if_pos length, runCmd_ran ok]
  rfl

theorem setRowKey_eq (k : List Byte) : setRowKey s k =
    if rowLive s = true ∧ running s = true then rejoin { s with row := { s.row with key := some k } }
    else { s with row := { s.row with key := some k } } := rfl

end

/-! ### The statement -/

/-- Settles O32, clause by clause, from what each beacon, each time limit and each key command does. -/
theorem beaconsKeepTheRowsMembershipAndEpoch : Obligations.BeaconsKeepTheRowsMembershipAndEpoch := by
  refine ⟨fun s b x idle => exec_beacons_idle idle b x, ?send, fun s on => if_pos on, ?bytes, fun s b => beaconOk_iff, ?bad,
    ?follower, ?leader, ?memberTimeout, ?leaderTimeout, fun s l d => exec_rowKeyNew, fun s l d k => exec_rowKeySet, ?rowKey⟩
  case send =>
    rintro s _ t on runs never last rfl
    obtain rfl : t = beaconDue s := by
      unfold beaconDue
      cases at_ : s.row.beaconAt with
      | none => exact never at_
      | some a => exact last a at_
    exact ⟨exec_beaconSend on runs, exec_beaconSend_notLeader on runs⟩
  case bytes =>
    rintro s _ rfl
    rw [beaconBytes_eq]
    exact ⟨List.take_left' beaconHead_length, List.drop_left' beaconHead_length⟩
  case bad =>
    exact fun s b on runs bad => ⟨serialConflict s b, exec_beaconReceive_bad on runs bad, serialConflict_other,
      fun a => serialConflict_recent, serialConflict_told⟩
  case follower =>
    intro s b on runs ok follower
    have takes := (exec_beaconReceive on runs ok).trans (congrArg _ (takeBeacon_follower follower))
    refine ⟨fun older => takes.trans (congrArg _ (if_neg ?_)), fun leader newer =>
      ⟨_, takes.trans (congrArg _ (if_pos ⟨leader, newer⟩)), adopt_epoch newer, adopt_serials, viewOf_adopt.2.2⟩⟩
    rintro ⟨leader, newer⟩
    rcases older with e | e
    · simp [leader] at e
    · exact Nat.not_lt.mpr newer e
  case leader =>
    intro s b on runs ok leads
    have takes := exec_beaconReceive on runs ok
    refine ⟨fun other before => ⟨_, takes.trans (congrArg _ (takeBeacon_givesWay leads other before)), fun older => ?_,
      fun newer => ?_⟩, fun stays => ?_⟩
    · rw [if_neg (Nat.not_le.mpr older)]
      exact ⟨rfl, rfl⟩
    · rw [if_pos newer]
      exact ⟨adopt_epoch newer, adopt_serials⟩
    · have stands := takes.trans (congrArg _ (takeBeacon_leads leads stays))
      refine ⟨fun member => stands.trans (congrArg _ (if_pos member)), fun new few => ⟨_, stands, ?_⟩,
        fun new full => ⟨_, stands, ?_⟩⟩
      · obtain ⟨members, epoch⟩ := viewOf_admitMember (s := noteBeacon s b) (b := b) (length_noteBeacon.trans_lt few)
        rw [if_neg (by simp [new])]
        exact ⟨epoch, members⟩
      · obtain ⟨members, epoch, -⟩ := viewOf_split
          (viewOf_admitMember_full (s := noteBeacon s b) (b := b) (full.trans_eq length_noteBeacon.symm))
        rw [if_neg (by simp [new])]
        exact ⟨members, epoch⟩
  case memberTimeout =>
    intro s x m on runs leads other member
    obtain ⟨members, epoch, state⟩ := viewOf_split (viewOf_removeMember (s := advanceTo s (m.at_ + 5 * sec)) (x := x) (b := false))
    rw [advanceTo_row] at members epoch state
    exact ⟨_, exec_memberTimeout on runs leads other member, epoch, members, state.trans leads⟩
  case leaderTimeout =>
    intro s t on runs at_
    refine ⟨fun member => ⟨_, exec_leaderTimeout_member on runs member at_, ?_⟩,
      fun joining served => ⟨_, exec_leaderTimeout_joining on runs joining at_ served, ?_⟩⟩
    · have view := viewOf_leaderGone (s := s) t
      have seen : (leaderGone s t).row.seenEpoch = s.row.seenEpoch := congrArg (fun v => v.2.2.1) view
      obtain ⟨members, epoch, state⟩ := viewOf_split view
      have first : leaderOf (leaderGone s t) = (s.row.members.drop 1).head?.map (fun m => m.serial) := by rw [leaderOf, members]
      rw [first]
      by_cases own : (s.row.members.drop 1).head?.map (fun m => m.serial) = some Config.serial
      · obtain ⟨members', epoch', state'⟩ := viewOf_split (viewOf_lead (s := leaderGone s t)
          (e := Nat.max (leaderGone s t).row.epoch (leaderGone s t).row.seenEpoch + 1))
        rw [if_pos own]
        refine ⟨members'.trans members, fun _ => ⟨state', ?_⟩, fun other => absurd own other⟩
        rw [epoch', epoch, seen]
        exact Nat.max_eq_right ((Nat.le_max_left _ _).trans (Nat.le_succ _))
      · rw [if_neg own]
        exact ⟨members, fun own' => absurd own' own, fun _ => ⟨state.trans member, epoch⟩⟩
    · obtain ⟨members, epoch, state⟩ := viewOf_split (viewOf_leadAlone (s := advanceTo s (t + 5 * sec)))
      rw [advanceTo_row] at epoch
      exact ⟨state, epoch, by rw [members]; rfl⟩
  case rowKey =>
    rintro s k _ rfl
    refine ⟨fun idle => (setRowKey_eq k).trans (if_neg ?_), fun live runs => (setRowKey_eq k).trans (if_pos ⟨live, runs⟩)⟩
    rintro ⟨live, runs⟩
    rcases idle with e | e
    · simp [live] at e
    · simp [runs] at e

end Sys2Proof.Proofs
end

section
/-!
What the pieces of a parcel, their time limit, the parcel's expiry and its abandonment lead to, branch by branch (ch. 17).
-/

namespace Sys2Proof.Proofs

open Sys2Proof Machine Laws

/-! ### What taking a piece answers (R741, R742, R745) -/

section
variable {s : State} {m : Manifest} {h : List Byte} {n : Nat} {i : Bool}

theorem takeManifest_held {p : Parcel} (held : s.fw.parcel = some p) :
    takeManifest s m h = (s, if p.manifest.id = m.id then .ok [] else .err .parcelBusy) := by rw [takeManifest, held]; rfl

theorem takeManifest_refused {e : ErrName} (none_ : s.fw.parcel = none) (refused : parcelRefusal s m = some e) :
    takeManifest s m h = (noteRefusal s m e, .err e) := by rw [takeManifest, none_, refused]

/-- Every piece but piece 0 is a later piece, and a manifest in its place has no hash that fits. -/
theorem takePiece_later {x : PieceData} (later : n ≠ 0) (piece : x = .piece i ∨ (i = false ∧ ∃ m h, x = .manifest m h)) :
    takePiece s n x = takeLater s n i := by
  obtain ⟨j, rfl⟩ := Nat.exists_eq_succ_of_ne_zero later
  rcases piece with rfl | ⟨rfl, m, h, rfl⟩ <;> rfl

theorem takeLater_none (none_ : s.fw.parcel = none) : takeLater s n i = (s, .err .noParcel) := by rw [takeLater, none_]

section
variable {p : Parcel} (held : s.fw.parcel = some p)
include held

theorem takeLater_again (again : n ∈ p.pieces) : takeLater s n i = (s, .ok []) := by
  rw [takeLater, held]
  exact if_pos (List.contains_iff_mem.mpr again)

variable (new : n ∉ p.pieces)
include new

theorem takeLater_bad (bad : p.manifest.pieces ≤ n ∨ i = false) : takeLater s n i = (s, .err .pieceHash) := by
  rw [takeLater, held]
  have new' : ¬ p.pieces.contains n = true := fun c => new (List.contains_iff_mem.mp c)
  exact (if_neg new').trans (if_pos (by simpa using bad))

theorem takeLater_kept (within : n < p.manifest.pieces) : takeLater s n true = (keepPiece s n, .ok []) := by
  rw [takeLater, held]
  have new' : ¬ p.pieces.contains n = true := fun c => new (List.contains_iff_mem.mp c)
  exact (if_neg new').trans (if_neg (by simpa using within))

end

end

/-! ### Pieces over a session (R743, R746) -/

section
variable {s : State} {l : Line} {d : Session} {n k : Int} {x : PieceData}
  (ok : Accepts s l { parcelCmd with machineOnly := true } (firstErr [rangeErr n 0 1023, rangeErr k 1 65536]) d)
include ok

theorem exec_parcelPiece_busy (busy : ((coldNow s && ! piecesToSlot s) || tooSoon s n.toNat) = true) :
    exec (.parcelPiece l n k x) s = .next (answer (heard s l) l.sess l.tag .busy none) := by
  refine congrArg _ ((runCmd_ran ok).trans ?_)
  exact congrArg (ran l) (if_pos busy)

theorem exec_parcelPiece {r : State × Reply} (free : ((coldNow s && ! piecesToSlot s) || tooSoon s n.toNat) = false)
    (takes : takePiece (heard s l) n.toNat x = r) : exec (.parcelPiece l n k x) s = .next (answer r.1 l.sess l.tag r.2 none) := by
  have free' : ¬ ((coldNow (heard s l) && ! piecesToSlot (heard s l)) || tooSoon (heard s l) n.toNat) = true :=
    fun busy => Bool.false_ne_true (free.symm.trans busy)
  rw [← takes]
  refine congrArg _ ((runCmd_ran ok).trans ?_)
  exact congrArg (ran l) (if_neg free')

end

/-! ### Time limits and the end of a parcel (R744, R748) -/

section
variable {s : State} {l : Line} {d : Session}

theorem exec_pieceTimeout_none (none_ : getSess s l.sess = none) : exec (.pieceTimeout l) s = .next s := by
  show execPieceTimeout l s = _
  rw [execPieceTimeout, none_]

/-- The line whose block is 60 s late is answered. -/
def blockLate (s : State) (l : Line) (d : Session) : State :=
  answer (advanceTo s (d.lastRx + 60000000)) l.sess l.tag (.err .pieceTimeout) none

theorem exec_pieceTimeout_mgmt (sess : getSess s l.sess = some d) {k : Fin 8} (mgmt : l.sess = .mgmt k) :
    exec (.pieceTimeout l) s = .next (closeMgmt (blockLate s l d) k 5) := by
  show execPieceTimeout l s = _
  rw [execPieceTimeout, sess, blockLate]
  dsimp only
  rw [mgmt]
  rfl

theorem exec_pieceTimeout_console (sess : getSess s l.sess = some d) (console : l.sess = .jcon ∨ l.sess = .usb) :
    exec (.pieceTimeout l) s = .next (updSess (blockLate s l d) l.sess (fun d =>
      { d with machine := false, crc := false, partialLine := [], lineReady := none })) := by
  show execPieceTimeout l s = _
  rw [execPieceTimeout, sess, blockLate]
  dsimp only
  rcases console with e | e <;> rw [e] <;> rfl

theorem exec_parcelExpiry_none (none_ : s.fw.parcel = none) : exec .parcelExpiry s = .next s := by
  show execParcelExpiry s = _
  rw [execParcelExpiry, none_]

section
variable {p : Parcel} (held : s.fw.parcel = some p)
include held

theorem exec_parcelExpiry_receiving (receiving : p.state = .receiving) : exec .parcelExpiry s =
    .next (logEv (updFw (advanceTo s (p.since + 2592000000000)) (fun f => { f with parcel := none })) .parcelExpired
      { details := [(p.manifest.id : Int), (p.pieces.length : Int)] }) := by
  show execParcelExpiry s = _
  rw [execParcelExpiry, held]
  exact congrArg _ (if_pos receiving)

variable (whole : p.state ≠ .receiving)
include whole

theorem exec_parcelExpiry_kept (kept : p.installedAt = none ∨ s.fw.install.isSome = true) : exec .parcelExpiry s = .next s := by
  show execParcelExpiry s = _
  rw [execParcelExpiry, held]
  refine congrArg _ ((if_neg whole).trans ?_)
  cases at_ : p.installedAt with
  | none => rfl
  | some t => exact if_pos (kept.resolve_left (by simp [at_]))

theorem exec_parcelExpiry_installed {t : Nat} (at_ : p.installedAt = some t) (idle : s.fw.install = none) : exec .parcelExpiry s =
    .next (updFw (advanceTo s (t + 2592000000000)) (fun f => { f with parcel := none })) := by
  show execParcelExpiry s = _
  rw [execParcelExpiry, held]
  refine congrArg _ ((if_neg whole).trans ?_)
  rw [at_]
  exact if_neg (by simp [idle])

end

section
variable (ok : Accepts s l parcelCmd none d)
include ok

theorem exec_parcelAbandon_none (none_ : s.fw.parcel = none) :
    exec (.parcelAbandon l) s = .next (answer (heard s l) l.sess l.tag (.err .noParcel) none) := by
  have none' : (heard s l).fw.parcel = none := none_
  refine congrArg _ ((runCmd_ran ok).trans ?_)
  rw [none']
  rfl

theorem exec_parcelAbandon {p : Parcel} (held : s.fw.parcel = some p) : exec (.parcelAbandon l) s = .next
    (if s.fw.install.isSome = true ∨ s.fw.a.state = .trial ∨ s.fw.b.state = .trial then answer (heard s l) l.sess l.tag .busy none
    else answer { heard s l with fw := { s.fw with parcel := none, pull := none } } l.sess l.tag (.ok []) none) := by
  have held' : (heard s l).fw.parcel = some p := held
  have fw : (heard s l).fw = s.fw := rfl
  refine congrArg _ ((runCmd_ran ok).trans ?_)
  rw [held']
  dsimp only
  rw [fw]
  by_cases used : s.fw.install.isSome = true ∨ s.fw.a.state = .trial ∨ s.fw.b.state = .trial
  · rw [if_pos used, if_pos (by simpa [or_assoc] using used)]
    rfl
  · rw [if_neg used, if_neg (by simpa [or_assoc] using used)]
    rfl

end

end

/-! ### The statement -/

/-- Settles O34, clause by clause, from what taking a piece answers and from what each command does. -/
theorem parcelsAreTakenAndKeptAsTheirRulesSay : Obligations.ParcelsAreTakenAndKeptAsTheirRulesSay := by
  refine ⟨?pieces, fun s l => exec_pieceTimeout_none, ?timeout, fun s => exec_parcelExpiry_none, ?expiry, ?abandon⟩
  case pieces =>
    refine fun s l d n k x i ok => ⟨fun cold unsafe_ => exec_parcelPiece_busy ok (by simp [cold, piecesToSlot, unsafe_]),
      fun p held later soon => exec_parcelPiece_busy ok (by simp [tooSoon, held, later, soon]), fun warm slow => ?_⟩
    have free : ((coldNow s && ! piecesToSlot s) || tooSoon s n.toNat) = false := by
      rcases warm with e | e <;> simp [e, slow, piecesToSlot]
    refine ⟨?manifest, ?other, ?noManifest, ?later⟩
    case manifest =>
      rintro m h zero rfl none_
      have takes : takePiece (heard s l) n.toNat (.manifest m h) = takeManifest (heard s l) m h := by rw [zero]; rfl
      refine ⟨fun e refused other => ?_, fun refused => ?_, fun passes => ?_⟩
      · have refusal := takeManifest_refused (s := heard s l) (h := h) none_ refused
        rw [noteRefusal, if_neg other] at refusal
        exact exec_parcelPiece ok free (takes.trans refusal)
      · have refusal := takeManifest_refused (s := heard s l) (h := h) none_ refused
        rw [noteRefusal, if_pos rfl] at refusal
        exact exec_parcelPiece ok free (takes.trans refusal)
      · obtain ⟨v, begins, held, time⟩ := takeManifest_new (s := heard s l) (h := h) none_ passes
        have now_ : now v = now s := time
        refine ⟨keepPiece v 0, exec_parcelPiece ok free (takes.trans begins), ?_⟩
        rw [keepPiece_parcel held, now_]
        rfl
    case other =>
      rintro m h p zero rfl held
      have takes : takePiece (heard s l) n.toNat (.manifest m h) = takeManifest (heard s l) m h := by rw [zero]; rfl
      exact exec_parcelPiece ok free (takes.trans (takeManifest_held held))
    case noManifest =>
      rintro zero rfl
      exact exec_parcelPiece (r := (heard s l, .err .badParcel)) ok free (by rw [zero]; rfl)
    case later =>
      intro later piece
      have takes := takePiece_later (s := heard s l) later piece
      refine ⟨fun none_ => exec_parcelPiece ok free (takes.trans (takeLater_none none_)),
        fun p held again => exec_parcelPiece ok free (takes.trans (takeLater_again held again)),
        fun p held new bad => exec_parcelPiece ok free (takes.trans (takeLater_bad held new bad)), ?_⟩
      rintro p held new within rfl
      exact ⟨keepPiece (heard s l) n.toNat, exec_parcelPiece ok free (takes.trans (takeLater_kept held new within)),
        keepPiece_parcel held⟩
  case timeout =>
    rintro s l d _ sess rfl
    exact ⟨fun k => exec_pieceTimeout_mgmt sess, exec_pieceTimeout_console sess⟩
  case expiry =>
    refine fun s p held => ⟨?_, exec_parcelExpiry_kept held, ?_⟩
    · rintro _ receiving rfl
      exact exec_parcelExpiry_receiving held receiving
    · rintro t _ whole at_ idle rfl
      exact exec_parcelExpiry_installed held whole at_ idle
  case abandon =>
    refine fun s l d ok => ⟨exec_parcelAbandon_none ok, fun p held used => (exec_parcelAbandon ok held).trans
      (congrArg _ (if_pos used)), fun p held idle a b => (exec_parcelAbandon ok held).trans (congrArg _ (if_neg ?_))⟩
    rintro (e | e | e)
    · simp [idle] at e
    · exact a e
    · exact b e

end Sys2Proof.Proofs
end

section
/-!
What an install, a gatehouse update, the trial of a slot and the relay along the row lead to, branch by branch (ch. 17).
-/

namespace Sys2Proof.Proofs

open Sys2Proof Machine Laws

/-! ### The install (R742, R749) -/

section
variable {s : State} {l : Line} {d : Session} {y z : Bool} {r : InstallResult} {p : Parcel}

/-- The install that a session's command begins. -/
def installOf (l : Line) (n : Nat) (relay later : Bool) (r : InstallResult) : Install where
  slot := some (l.sess, n)
  relay := if relay then some Config.serial else none
  source := none
  later := later
  slotOk := r.slotOk
  cut := r.cut

/-- The install begins: the held parcel is INSTALLING. -/
def installBegun (s : State) (i : Install) : State :=
  updParcel (updFw s (fun f => { f with install := some i })) (fun p => { p with state := .installing })

theorem installBegun_parcel {i : Install} (held : s.fw.parcel = some p) :
    (installBegun s i).fw.parcel = some { p with state := .installing } := congrArg (Option.map _) held

/-- The target slot after the write that a session's install asks for; the command itself answers and restarts. -/
def slotWritten (s : State) (i : Install) (m : Manifest) : State :=
  writeSlot (installBegun s i) { i with slot := none, later := true } m

/-- An install that asks for the gatehouse first leaves the slots and waits for the gatehouse. -/
theorem runInstall_gate {i : Install} {m : Manifest} (gate : m.order = 1 ∨ m.comp = 4) :
    runInstall s i m = startGate (installBegun s i) m.gateVersion true := if_pos gate

section
variable {i : Install} {m : Manifest} (held : s.fw.parcel = some p)
include held

/-- A write that is cut leaves the target slot EMPTY (R751). -/
theorem slotWritten_cut (cut : i.cut = true) :
    fwSlot (slotWritten s i m) (targetSlot s) = {} ∧
    fwSlot (slotWritten s i m) (! targetSlot s) = fwSlot s (! targetSlot s) ∧
    (slotWritten s i m).fw.parcel = some { p with state := .installing } ∧ (slotWritten s i m).fw.install.isSome = true := by
  have written : slotWritten s i m = updSlot (installBegun s i) (targetSlot s) (fun _ => {}) := if_pos cut
  rw [written]
  exact ⟨fwSlot_updSlot_same _ _ _, fwSlot_updSlot_not _ _ _, (updSlot_parcel _ _ _).trans (installBegun_parcel held),
    congrArg Option.isSome (updSlot_install _ _ _)⟩

variable (whole : i.cut = false)
include whole

theorem slotWritten_staged (good : i.slotOk = true) :
    fwSlot (slotWritten s i m) (targetSlot s) = { state := .staged, version := m.version, svn := m.svn, manifest := some m
                                                  relayOrigin := i.relay, relaySource := i.source } ∧
    fwSlot (slotWritten s i m) (! targetSlot s) = fwSlot s (! targetSlot s) ∧
    (slotWritten s i m).fw.parcel = some { p with state := .installed, installedAt := some (now s) } ∧
    (slotWritten s i m).fw.install = none ∧ runSlot (slotWritten s i m) = runSlot s := by
  obtain ⟨slot, other, parcel, install, running⟩ :=
    writeSlot_staged (s := installBegun s i) (i := { i with slot := none, later := true }) (m := m) rfl rfl good whole
  refine ⟨slot, other, ?_, install, ?_⟩
  · rw [installBegun_parcel held] at parcel
    exact parcel
  · have running' : (slotWritten s i m).fw.running = s.fw.running := running
    rw [runSlot, running', ← runSlot]

theorem slotWritten_bad (source : i.source = none) (bad : i.slotOk = false) :
    fwSlot (slotWritten s i m) (targetSlot s) = {} ∧ (slotWritten s i m).fw.parcel = some { p with state := .stopped } ∧
    (slotWritten s i m).fw.install = none := by
  obtain ⟨slot, parcel, install⟩ :=
    writeSlot_bad (s := installBegun s i) (i := { i with slot := none, later := true }) (m := m) rfl source bad whole
  rw [installBegun_parcel held] at parcel
  exact ⟨slot, parcel, install⟩

end

/-- What an install that asks for the gatehouse first leaves while it waits. -/
theorem startGate_begun {i : Install} {v : Nat} (held : s.fw.parcel = some p) :
    (startGate (installBegun (installBegun s i) i) v true).fw.gateUpdate = some { version := v, install := true } ∧
    (startGate (installBegun (installBegun s i) i) v true).fw.parcel = some { p with state := .installing } ∧
    (startGate (installBegun (installBegun s i) i) v true).fw.install = some i ∧
    (startGate (installBegun (installBegun s i) i) v true).fw.a = s.fw.a ∧
    (startGate (installBegun (installBegun s i) i) v true).fw.b = s.fw.b := by
  simp only [startGate, installBegun, updParcel, updFw, held, Option.map_some, and_self]

section
variable (ok : Accepts s l parcelCmd none d)
include ok

theorem exec_parcelInstall_refused {e : Reply} (refused : installErr s r = some e) :
    exec (.parcelInstall l y z r) s = .next (answer (refuseInstall (heard s l) e) l.sess l.tag e none) := by
  have refused' : installErr (heard s l) r = some e := refused
  refine congrArg _ ((runCmd_ran ok).trans ?_)
  rw [refused']
  rfl

variable (passes : installErr s r = none) (held : s.fw.parcel = some p)
include passes held

theorem exec_parcelInstall_gate (gate : p.manifest.order = 1 ∨ p.manifest.comp = 4) :
    exec (.parcelInstall l y z r) s = .next (waits (startGate
      (installBegun (installBegun (heard s l) (installOf l d.nextSlot y z r)) (installOf l d.nextSlot y z r))
      p.manifest.gateVersion true) l) := by
  have passes' : installErr (heard s l) r = none := passes
  have held' : (heard s l).fw.parcel = some p := held
  refine congrArg _ ((runCmd_ran ok).trans ?_)
  rw [passes', held']
  refine (congrArg (ran l) (if_pos gate)).trans ?_
  rw [runInstall_gate gate]
  rfl

theorem exec_parcelInstall_slot (order : p.manifest.order ≠ 1) (comp : p.manifest.comp ≠ 4) {u : State}
    (written : u = slotWritten (heard s l) (installOf l d.nextSlot y z r) p.manifest) :
    exec (.parcelInstall l y z r) s = .next
      (if r.cut then waits u l
      else if r.slotOk = false then answer u l.sess l.tag (.err .badParcel) none
      else answer u l.sess l.tag (okLine [("", .name "staged"), ("slot", slotName (targetSlot s))])
        (if z = true ∨ runSlot u = none then none else some (.halt .restart))) := by
  have passes' : installErr (heard s l) r = none := passes
  have held' : (heard s l).fw.parcel = some p := held
  subst written
  refine congrArg _ ((runCmd_ran ok).trans ?_)
  rw [passes', held']
  refine (congrArg (ran l) (if_neg (by simp [order, comp]))).trans ?_
  cases cut : r.cut
  · cases slotOk : r.slotOk <;> simp only [slotWritten, installOf, installBegun, ran, cut, slotOk, Bool.not_false, Bool.not_true,
      Bool.true_eq_false, Bool.false_eq_true, if_true, if_false]
    rfl
  · simp only [slotWritten, installOf, installBegun, ran, cut, if_true]

end

theorem installErr_receiving (held : s.fw.parcel = some p) (receiving : p.state = .receiving) :
    installErr s r = some (.err .notComplete) := by
  rw [installErr, held]
  exact if_pos receiving

theorem installErr_busy (held : s.fw.parcel = some p) (whole : p.state ≠ .receiving)
    (busy : slotPending s = true ∨ s.fw.install.isSome = true ∨ s.fw.gateUpdate.isSome = true) : installErr s r = some .busy := by
  rw [installErr, held]
  exact (if_neg whole).trans (if_pos (by simpa [or_assoc] using busy))

end

/-! ### The gatehouse (R749 step 3, R762) -/

section
variable {s : State} {a b : Bool}

/-- The outcome of a gatehouse update leaves the install and the held parcel. -/
theorem gateOutcome_held {v : Nat} :
    (gateOutcome s v a b).fw.install = s.fw.install ∧ (gateOutcome s v a b).fw.parcel = s.fw.parcel := by
  unfold gateOutcome
  cases b
  · simp only [Bool.false_eq_true, if_false, logEv_fw]
    exact ⟨rfl, rfl⟩
  · cases a <;> simp only [if_true, Bool.false_eq_true, if_false, logEv_fw] <;> exact ⟨rfl, rfl⟩

theorem exec_gateUpdateDone_none (none_ : s.fw.gateUpdate = none) : exec (.gateUpdateDone a b) s = .next s := by
  show execGateUpdateDone a b s = _
  rw [execGateUpdateDone, none_]

/-- The gatehouse after its update, with the allocations that waited for it. -/
def gateEnded (s : State) (v : Nat) (a b : Bool) : State :=
  lateAllocations (gateOutcome { s with fw := { s.fw with gateUpdate := none } } v a b)

theorem gateEnded_install {v : Nat} : (gateEnded s v a b).fw.install = s.fw.install :=
  (congrArg Fw.install (lateAllocations_changes.fw (by decide))).trans gateOutcome_held.1

theorem gateEnded_parcel {v : Nat} : (gateEnded s v a b).fw.parcel = s.fw.parcel :=
  (congrArg Fw.parcel (lateAllocations_changes.fw (by decide))).trans gateOutcome_held.2

theorem gateEnded_now {v : Nat} : now (gateEnded s v a b) = now s :=
  congrArg Clock.ledger ((lateAllocations_changes.clock (by decide)).trans (gateOutcome_changes.clock (by decide)))

/-- The end of an install that updates the gatehouse alone: the parcel is INSTALLED. -/
def gateInstalled (s : State) : State :=
  updParcel (updFw s (fun f => { f with install := none }))
    (fun p => { p with state := .installed, installedAt := some s.clock.ledger })

section
variable {u : GateUpdate} (update : s.fw.gateUpdate = some u)
include update

theorem exec_gateUpdateDone_alone (alone : u.install = false ∨ s.fw.install = none) :
    exec (.gateUpdateDone a b) s = .next (gateEnded s u.version a b) := by
  show execGateUpdateDone a b s = _
  rw [execGateUpdateDone, update]
  show Host.Outcome.next (match (gateEnded s u.version a b).fw.install, (gateEnded s u.version a b).fw.parcel with
    | some i, some p => _ | _, _ => gateEnded s u.version a b) = _
  rw [gateEnded_install]
  rcases alone with e | e
  · cases s.fw.install with
    | none => rfl
    | some i =>
      cases (gateEnded s u.version a b).fw.parcel with
      | none => rfl
      | some p => exact congrArg _ (if_pos (by simp [e]))
  · rw [e]

theorem exec_gateUpdateDone {i : Install} {p : Parcel} (asked : u.install = true) (install : s.fw.install = some i)
    (held : s.fw.parcel = some p) : exec (.gateUpdateDone a b) s = .next
      (if (! (a && b)) = true then endInstall (gateEnded s u.version a b) i .gateFailed
      else if p.manifest.comp = 4 then
        answerSlot (gateInstalled (gateEnded s u.version a b)) i.slot (okLine [("gate", vn u.version)])
      else writeSlot (gateEnded s u.version a b) i p.manifest) := by
  show execGateUpdateDone a b s = _
  rw [execGateUpdateDone, update]
  show Host.Outcome.next (match (gateEnded s u.version a b).fw.install, (gateEnded s u.version a b).fw.parcel with
    | some i, some p => _ | _, _ => gateEnded s u.version a b) = _
  rw [gateEnded_install, gateEnded_parcel, install, held]
  exact congrArg _ (if_neg (by simp [asked]))

end

end

/-! ### The trial (R753 to R760) -/

section
variable {s : State} {f : List Nat} {t : Nat} {b : Bool}

theorem exec_trial_none (none_ : s.fw.trialAt = none ∨ runSlot s = none) :
    exec (.trialConfirm f) s = .next s ∧ exec .trialWindowEnd s = .next s := by
  show execTrialConfirm f s = _ ∧ execTrialWindowEnd s = _
  unfold execTrialConfirm execTrialWindowEnd
  rcases none_ with e | e
  · rw [e]
    exact ⟨rfl, rfl⟩
  · rw [e]
    cases s.fw.trialAt <;> exact ⟨rfl, rfl⟩

variable (at_ : s.fw.trialAt = some t) (slot : runSlot s = some b)
include at_ slot

theorem exec_trialConfirm : exec (.trialConfirm f) s = .next
    (if mayConfirm s ∧ (fwSlot s b).state = .trial ∧ confirmAt s t ≤ t + 1800000000 ∧ now s ≤ t + 1800000000 ∧ running s then
      confirmSlot (advanceTo s (confirmAt s t)) b f else s) := by
  show execTrialConfirm f s = _
  rw [execTrialConfirm, at_, slot]
  rfl

theorem exec_trialWindowEnd : exec .trialWindowEnd s = .next
    (if (fwSlot s b).state = .trial ∧ running s then
      beginHalt (updFw (advanceTo s (t + 1800000000)) (fun f => { f with trialAt := none, attemptFailed := true })) .restart
    else s) := by
  show execTrialWindowEnd s = _
  rw [execTrialWindowEnd, at_, slot]
  rfl

end

/-- The fuses that read back burned are added; what becomes STALE leaves them. -/
theorem burnFuses_fuses (s : State) (f : List Nat) : (burnFuses s f).fw.fuses = s.fw.fuses ++
    (((List.range (s.fw.burnTarget - svnCounter s)).map (fun i => svnCounter s + i)).filter (fun i => ! f.contains i)) := by
  unfold burnFuses
  show (logEv _ _ _).fw.fuses = _
  rw [logEv_fw]
  exact burn_fold f _ s

/-! ### Messages of the relay (R715, R716) -/

section
variable {s : State} {p r : Nat} {b : RowBody}

theorem nextMsg_rowWire {m : RowMsg} : (rowWire s m).row.nextMsg = s.row.nextMsg :=
  congrArg Row.nextMsg (rowWire_changes.row (by decide))

theorem nextMsg_rowPost {m : RowMsg} : (rowPost s m).row.nextMsg = s.row.nextMsg := by
  unfold rowPost
  split
  · split
    · rw [nextMsg_rowWire]
      rfl
    · rfl
  · exact nextMsg_rowWire

theorem nextMsg_rowPart {i : Nat} : (rowPart p r b s i).row.nextMsg = s.row.nextMsg + 1 := nextMsg_rowPost

/-- Each message that carries a payload takes the next MSG_ID. -/
theorem nextMsg_rowParts (xs : List Nat) : (xs.foldl (rowPart p r b) s).row.nextMsg = s.row.nextMsg + xs.length := by
  induction xs generalizing s with
  | nil => rfl
  | cons i is ih => rw [List.foldl_cons, ih, nextMsg_rowPart, List.length_cons, Nat.add_assoc, Nat.add_comm 1]

theorem nextMsg_rowSend : (rowSend s p b r).row.nextMsg = s.row.nextMsg + msgParts b := by
  rw [rowSend, nextMsg_rowParts, List.length_range]

theorem rowSend_one (one : msgParts b = 1) : rowSend s p b r = rowPost
    { s with row := { s.row with nextMsg := s.row.nextMsg + 1 } }
    { peer := p, msgId := s.row.nextMsg, refId := r, epoch := s.row.epoch, body := b, part := 0, parts := 1 } := by
  rw [rowSend, one]
  show rowPart p r b s 0 = _
  rw [rowPart, one]
  rfl

end

/-! ### The relay along the row (R768 to R772) -/

/-- What a piece from the source of the pull leads to, by the answer to it. -/
def pieceTaken (u : State) (o : RelayOffer) (r : InstallResult) (a : Reply) : State × AckStatus :=
  match a with
  | .err .pieceHash => (askPiece u o, .ok)
  | .err _ => (reportTo { u with fw := { u.fw with pull := none } } o.source o.parcel .failed, .ok)
  | _ => match u.fw.parcel with
    | some p => if p.state = .receiving then (askPiece u o, .ok) else (relayInstall u o r, .ok)
    | none => (u, .ok)

theorem pieceTaken_failed {u : State} {o : RelayOffer} {r : InstallResult} {e : ErrName} (other : e ≠ .pieceHash) :
    pieceTaken u o r (.err e) = (reportTo { u with fw := { u.fw with pull := none } } o.source o.parcel .failed, .ok) := by
  unfold pieceTaken
  split
  case h_1 same => exact absurd (Reply.err.inj same) other
  case h_2 => rfl
  case h_3 no => exact absurd rfl (no e)

theorem pieceTaken_held {u : State} {o : RelayOffer} {r : InstallResult} {p : Parcel} (held : u.fw.parcel = some p) :
    pieceTaken u o r (.ok []) = if p.state = .receiving then (askPiece u o, .ok) else (relayInstall u o r, .ok) := by
  rw [pieceTaken]
  · rw [held]
  · exact fun e => Reply.noConfusion e
  · exact fun _ e => Reply.noConfusion e

section
variable {s : State} {h : RowHdr} (arrives : Arrives s h)
include arrives

section
variable {o : RelayOffer} {r : InstallResult}

theorem exec_relayOffer_refused (off : cfgField s .fwCfg "RELAY_ACCEPT" = 0) : exec (.relayOffer h o r) s =
    .next (acked (rowSend (noted s h) o.source (.relayStatus o.parcel Config.serial .refused)) h .ok) :=
  next_takeRow arrives (if_pos off)

variable (accepts : cfgField s .fwCfg "RELAY_ACCEPT" ≠ 0)
include accepts

theorem exec_relayOffer_skipped {u : State} (old : o.version ≤ mainVersion s)
    (told : u = rowSend (noted s h) o.source (.relayStatus o.parcel Config.serial .skipped)) : exec (.relayOffer h o r) s =
      .next (acked (match neighbourOf u with
        | some n => if n = o.origin then u else rowSend u n (.relayOffer o)
        | none => u) h .ok) := by
  subst told
  refine next_takeRow arrives ((if_neg accepts).trans ((if_pos old).trans ?_))
  cases next : neighbourOf (rowSend (noted s h) o.source (.relayStatus o.parcel Config.serial .skipped)) <;> simp only [next]

variable (newer : mainVersion s < o.version)
include newer

theorem exec_relayOffer_failed (held : parcelId s ≠ 0) (other : parcelId s ≠ o.parcel) : exec (.relayOffer h o r) s =
    .next (acked (rowSend (noted s h) o.source (.relayStatus o.parcel Config.serial .failed)) h .ok) :=
  next_takeRow arrives ((if_neg accepts).trans ((if_neg (Nat.not_le.mpr newer)).trans (if_pos ⟨held, other⟩)))

omit arrives accepts newer in
/-- The drive pulls what the offer names. -/
def pulling (s : State) (h : RowHdr) (o : RelayOffer) : State := { noted s h with fw := { s.fw with pull := some o } }

variable (same : parcelId s = 0 ∨ parcelId s = o.parcel)
include same

theorem exec_relayOffer_pulled : exec (.relayOffer h o r) s = .next (acked (match s.fw.parcel with
    | some p => if p.state = .receiving then askPiece (pulling s h o) o else relayInstall (pulling s h o) o r
    | none => askPiece (pulling s h o) o) h .ok) := by
  have same' : ¬ (parcelId (noted s h) ≠ 0 ∧ parcelId (noted s h) ≠ o.parcel) := fun c => same.elim c.1 c.2
  refine next_takeRow arrives ((if_neg accepts).trans ((if_neg (Nat.not_le.mpr newer)).trans ((if_neg same').trans ?_)))
  show (match s.fw.parcel with | some p => _ | none => _) = _
  cases s.fw.parcel with
  | none => rfl
  | some p =>
    by_cases receiving : p.state = .receiving
    · exact (if_pos receiving).trans (congrArg (·, AckStatus.ok) (if_pos receiving).symm)
    · exact (if_neg receiving).trans (congrArg (·, AckStatus.ok) (if_neg receiving).symm)

end

/-! #### Pieces for another drive, and from one -/

section
variable {id n : Nat}

theorem exec_pieceReq_none (none_ : s.fw.parcel = none) :
    exec (.pieceReq h id n) s = .next (acked (noted s h) h .refused) := by
  have none' : (noted s h).fw.parcel = none := none_
  exact next_takeRow arrives (by rw [none'])

theorem exec_pieceReq_unheld {p : Parcel} (held : s.fw.parcel = some p) (unheld : p.manifest.id ≠ id ∨ n ∉ p.pieces) :
    exec (.pieceReq h id n) s = .next (acked (noted s h) h .refused) := by
  have held' : (noted s h).fw.parcel = some p := held
  refine next_takeRow arrives ?_
  rw [held']
  refine if_neg ?_
  rintro ⟨same, piece⟩
  exact unheld.elim (fun e => e same) (fun e => e (List.contains_iff_mem.mp piece))

theorem exec_pieceReq {p : Parcel} (held : s.fw.parcel = some p) (same : p.manifest.id = id) (piece : n ∈ p.pieces) :
    exec (.pieceReq h id n) s = .next (acked (rowSend (noted s h) h.peer
      (.relayPiece id n (Nat.min 65536 (p.manifest.length - 65536 * n))) h.msgId) h .ok) := by
  have held' : (noted s h).fw.parcel = some p := held
  refine next_takeRow arrives ?_
  rw [held']
  exact if_pos ⟨same, List.contains_iff_mem.mpr piece⟩

end

section
variable {n : Nat} {x : PieceData} {r : InstallResult}

theorem exec_relayPiece_none (none_ : s.fw.pull = none) :
    exec (.relayPiece h n x r) s = .next (acked (noted s h) h .refused) := by
  have none' : (noted s h).fw.pull = none := none_
  exact next_takeRow arrives (by rw [none'])

variable {o : RelayOffer} (pull : s.fw.pull = some o)
include pull

theorem exec_relayPiece_other (other : o.source ≠ h.peer) :
    exec (.relayPiece h n x r) s = .next (acked (noted s h) h .refused) := by
  have pull' : (noted s h).fw.pull = some o := pull
  refine next_takeRow arrives ?_
  rw [pull']
  exact if_pos other

variable (source : o.source = h.peer)
include source

theorem exec_relayPiece_cold (cold : coldNow s = true) :
    exec (.relayPiece h n x r) s = .next (acked (askPiece (noted s h) o) h .tryLater) := by
  have pull' : (noted s h).fw.pull = some o := pull
  refine next_takeRow arrives ?_
  rw [pull']
  exact (if_neg (not_not.mpr source)).trans (if_pos cold)

variable (warm : coldNow s = false)
include warm

theorem exec_relayPiece_unoffered (unoffered : offeredPiece o x = false) :
    exec (.relayPiece h n x r) s = .next (acked (askPiece (noted s h) o) h .ok) := by
  have pull' : (noted s h).fw.pull = some o := pull
  have warm' : ¬ coldNow (noted s h) = true := fun c => Bool.false_ne_true (warm.symm.trans c)
  refine next_takeRow arrives ?_
  rw [pull']
  exact (if_neg (not_not.mpr source)).trans ((if_neg warm').trans (if_pos (by simp [unoffered])))

theorem exec_relayPiece {u t : State} {a : Reply} {st : AckStatus} (offered : offeredPiece o x = true)
    (takes : takePiece (noted s h) n x = (u, a)) (leads : pieceTaken u o r a = (t, st)) :
    exec (.relayPiece h n x r) s = .next (acked t h st) := by
  have pull' : (noted s h).fw.pull = some o := pull
  have warm' : ¬ coldNow (noted s h) = true := fun c => Bool.false_ne_true (warm.symm.trans c)
  refine next_takeRow arrives ?_
  rw [pull', ← leads]
  refine (if_neg (not_not.mpr source)).trans ((if_neg warm').trans ((if_neg (by simp [offered])).trans ?_))
  rw [takes]
  rfl

end

theorem exec_relayStatus (id x : Nat) :
    exec (.relayStatus h id x .skipped) s = .next (acked (noted s h) h .ok) ∧
    exec (.relayStatus h id x .confirmed) s = .next (acked (endRelay (noted s h) id) h .ok) ∧
    exec (.relayStatus h id x .failed) s = .next (acked (endRelay (logEv (noted s h) .fwRelayStopped
      { reason := 2, details := [(x : Int), (id : Int)] }) id) h .ok) ∧
    exec (.relayStatus h id x .refused) s = .next (acked (endRelay (logEv (noted s h) .fwRelayStopped
      { reason := 4, details := [(x : Int), (id : Int)] }) id) h .ok) :=
  ⟨next_takeRow arrives rfl, next_takeRow arrives rfl, next_takeRow arrives rfl, next_takeRow arrives rfl⟩

end

/-! ### The statement -/

/-- Settles O35, clause by clause, from what each command and each message does. -/
theorem installsTrialsAndRelaysActAsChapter17Says : Obligations.InstallsTrialsAndRelaysActAsChapter17Says := by
  refine ⟨?install, fun s r p held => ⟨installErr_receiving held, installErr_busy held⟩, ?gateOutcome,
    fun s a b => exec_gateUpdateDone_none, ?gateUpdate, ?trial, ?confirmAt, fun s f => burnFuses_fuses s f, ?offer, ?pieceReq,
    fun s p b r => rowSend_one, fun s p b r => nextMsg_rowSend, ?relayPiece, fun s h id x arrives => exec_relayStatus arrives id x⟩
  case install =>
    intro s l d y z r ok
    refine ⟨fun e => exec_parcelInstall_refused ok, fun p passes held gate => ?gate, fun p passes held order comp cut => ?cut, ?staged,
      fun p passes held order comp whole bad => ?bad⟩
    case gate =>
      obtain ⟨update, parcel, install, slotA, slotB⟩ :=
        startGate_begun (s := heard s l) (i := installOf l d.nextSlot y z r) (v := p.manifest.gateVersion) held
      exact ⟨_, exec_parcelInstall_gate ok passes held gate, update, parcel, ⟨_, install, rfl⟩, slotA, slotB⟩
    case cut =>
      have left := slotWritten_cut (s := heard s l) (i := installOf l d.nextSlot y z r) (m := p.manifest) held cut
      exact ⟨_, (exec_parcelInstall_slot ok passes held order comp rfl).trans (congrArg _ (if_pos cut)), left⟩
    case staged =>
      rintro p _ passes held order comp whole good rfl
      obtain ⟨slot, other, parcel, install, runs⟩ :=
        slotWritten_staged (s := heard s l) (i := installOf l d.nextSlot y z r) (m := p.manifest) held whole good
      have runs' : runSlot (slotWritten (heard s l) (installOf l d.nextSlot y z r) p.manifest) = runSlot s := runs
      refine ⟨_, (exec_parcelInstall_slot ok passes held order comp rfl).trans ?_, slot, other, parcel, install⟩
      rw [if_neg (by simp [whole]), if_neg (by simp [good]), runs']
    case bad =>
      have left := slotWritten_bad (s := heard s l) (i := installOf l d.nextSlot y z r) (m := p.manifest) held whole rfl bad
      refine ⟨_, (exec_parcelInstall_slot ok passes held order comp rfl).trans ?_, left⟩
      rw [if_neg (by simp [whole]), if_pos bad]
  case gateOutcome =>
    refine fun s v b => ⟨by simp [gateOutcome_slot], by simp [gateOutcome_slot], by simp [gateOutcome_slot], fun one => ?_⟩
    exact ⟨by simp [gateOutcome_version one], by simp [gateOutcome_version one], by simp [gateOutcome_version one]⟩
  case gateUpdate =>
    rintro s a b u _ update rfl
    refine ⟨exec_gateUpdateDone_alone update, fun i p asked install held => ?_⟩
    have ends := exec_gateUpdateDone (a := a) (b := b) update asked install held
    refine ⟨fun failed => ?_, ?_, ?_⟩
    · exact ends.trans (congrArg _ (if_pos (by rcases failed with e | e <;> simp [e])))
    · rintro rfl rfl main
      exact ends.trans (congrArg _ ((if_neg (by decide)).trans (if_neg main)))
    · rintro rfl rfl gate
      refine ⟨gateInstalled (gateEnded s u.version true true),
        ends.trans (congrArg _ ((if_neg (by decide)).trans (if_pos gate))), rfl, ?_⟩
      have time : (gateEnded s u.version true true).clock.ledger = now s := gateEnded_now
      show Option.map _ (gateEnded s u.version true true).fw.parcel = _
      rw [gateEnded_parcel, held, Option.map_some, time]
  case trial =>
    refine fun s f => ⟨exec_trial_none, fun t b at_ slot => ?_⟩
    have confirms := exec_trialConfirm (f := f) at_ slot
    have ends := exec_trialWindowEnd at_ slot
    refine ⟨fun idle => ⟨confirms.trans (congrArg _ (if_neg ?_)), ends.trans (congrArg _ (if_neg ?_))⟩,
      fun unmet => confirms.trans (congrArg _ (if_neg ?_)),
      fun may trial runs early within => confirms.trans (congrArg _ (if_pos ⟨may, trial, early, within, runs⟩)), ?_⟩
    · rintro ⟨-, trial, -, -, runs⟩
      exact idle.elim (fun e => e trial) (fun e => by simp [runs] at e)
    · rintro ⟨trial, runs⟩
      exact idle.elim (fun e => e trial) (fun e => by simp [runs] at e)
    · rintro ⟨may, -, early, within, -⟩
      rcases unmet with e | e | e
      · simp [may] at e
      · exact Nat.not_le.mpr e early
      · exact Nat.not_le.mpr e within
    · rintro _ trial runs rfl
      exact ends.trans (congrArg _ (if_pos ⟨trial, runs⟩))
  case confirmAt =>
    exact fun s t => ⟨fun none_ => by rw [confirmAt, none_]; rfl, fun w at_ => by rw [confirmAt, at_]; rfl⟩
  case offer =>
    refine fun s h o r arrives => ⟨exec_relayOffer_refused arrives, fun u accepts old told => ?_,
      fun accepts newer => exec_relayOffer_failed arrives accepts newer, ?_⟩
    · have skips := exec_relayOffer_skipped (r := r) arrives accepts old told
      refine ⟨fun last => ?_, fun n next other => ?_⟩
      · rcases last with e | e
        · rw [skips, e]
        · rw [skips, e]
          exact congrArg (fun v => Host.Outcome.next (acked v h .ok)) (if_pos rfl)
      · rw [skips, next]
        exact congrArg (fun v => Host.Outcome.next (acked v h .ok)) (if_neg other)
    · rintro _ accepts newer same rfl
      have pulls := exec_relayOffer_pulled (r := r) arrives accepts newer same
      refine ⟨fun receiving => ?_, fun p held whole => ?_⟩
      · cases held : s.fw.parcel with
        | none => rw [pulls, held]; rfl
        | some p =>
          have state : p.state = .receiving := by
            rcases receiving with e | e
            · simp [held] at e
            · rwa [parcelState, held] at e
          rw [pulls, held]
          exact congrArg (fun v => Host.Outcome.next (acked v h .ok)) (if_pos state)
      · rw [pulls, held]
        exact congrArg (fun v => Host.Outcome.next (acked v h .ok)) (if_neg whole)
  case pieceReq =>
    exact fun s h id n arrives => ⟨exec_pieceReq_none arrives, fun p => exec_pieceReq_unheld arrives,
      fun p => exec_pieceReq arrives⟩
  case relayPiece =>
    refine fun s h n x r arrives => ⟨exec_relayPiece_none arrives, fun o pull => ⟨exec_relayPiece_other arrives pull,
      exec_relayPiece_cold arrives pull, fun source warm => ⟨exec_relayPiece_unoffered arrives pull source warm,
      fun u a offered takes => ?_⟩⟩⟩
    refine ⟨?_, ?_, ?_⟩
    · rintro rfl
      exact exec_relayPiece arrives pull source warm offered takes rfl
    · rintro e rfl other
      exact exec_relayPiece arrives pull source warm offered takes (pieceTaken_failed other)
    · rintro p rfl held
      have leads := pieceTaken_held (o := o) (r := r) held
      exact ⟨fun receiving => exec_relayPiece arrives pull source warm offered takes (leads.trans (if_pos receiving)),
        fun whole => exec_relayPiece arrives pull source warm offered takes (leads.trans (if_neg whole))⟩

end Sys2Proof.Proofs
end
